-- ==== Sys2Proof/Word.lean ====
section
/-! DEFINITION. The word types of the SC48 and their plainest arithmetic (R8, R10). -/

namespace Sys2Proof

/-- R418: a register-window word is 32 bits. -/
abbrev Word := BitVec 32

/-- A byte of a frame, a buffer or a memory. -/
abbrev Byte := BitVec 8

/-- A memory of bytes: (address, byte) pairs, addresses strictly rising, no zero byte listed. -/
abbrev Mem := List (Nat × Byte)

end Sys2Proof
end

