-- ==== Sys2Proof/Machine/Types.lean ====
section
/-! DEFINITION. The plain data of every block of the SC48. A field's docstring names the rule of the
spec that gives it; its default is its value right after a power-on reset (R15). A default that the
spec does not give is marked and has a row in the assumption log. -/

namespace Sys2Proof.Machine

/-- R383: the two plant ports. -/
inductive PortId
  | a | b
  deriving DecidableEq, Repr

/-- R433: where a mailbox request came from. -/
inductive Src
  | portA | portB | spyhole
  deriving DecidableEq, Repr

/-- R46: the operating states. -/
inductive OpState
  | off | boot | selftest | standby | precharge | connected | dispatch | degraded | isolated
  | maintenance | pilot
  deriving DecidableEq, Repr

/-- R54: the events the state machine takes at a housekeeping tick; host commands (class 6) are
taken through the mailbox. -/
inductive Ev
  /-- class 1 -/
  | brownOut
  /-- class 2 -/
  | isolation
  /-- class 3: ownership passed to the partner -/
  | ownLost
  /-- class 3: this pilot took over; the mirrored state and its origin -/
  | ownGained (st : OpState) (originDispatch : Bool)
  /-- class 5: CO0 reads closed after the precharge -/
  | prechargeDone
  /-- class 5 -/
  | prechargeTimeout
  /-- class 5: CO3 reads closed at the end of a tracking start -/
  | trackingEnded
  /-- class 5: CO3 reads open at the end of a stop for CMD_DISPATCH_OFF -/
  | stopEnded
  /-- class 5: CO3 reads open at the end of a stop for CMD_OPEN -/
  | openEnded
  /-- class 5: the self-test ended; the isolation cause of the first failed critical item, if any -/
  | selftestEnded (critical : Option Nat) (partnerOwns : Bool)
  /-- class 5: a spyhole session ended -/
  | sessionEnded
  /-- class 5: an update ended -/
  | updateEnded
  /-- class 6: the first write of a spyhole session, kept for the tick -/
  | spyFirstWrite
  /-- class 6: the spyhole's reset command, kept for the tick -/
  | spyReset
  deriving DecidableEq, Repr

/-- R66: how far the shutdown sequence has run. -/
inductive BoPhase
  | none | warned | coilsOff | domainsOff | committed
  deriving DecidableEq, Repr

/-- R425: a triple-voted field, three stored copies. -/
structure Tv where
  /-- R425: copy 0 -/
  c0 : Nat := 0
  /-- R425: copy 1 -/
  c1 : Nat := 0
  /-- R425: copy 2 -/
  c2 : Nat := 0
  deriving DecidableEq, Repr

/-- The inputs the module's pins and front ends present (R325, R268, R314). -/
structure Pins where
  /-- R268: string voltage, mV, the last measured mean. -/
  vStr : Int := 0
  /-- R268: bus voltage beyond CO3, mV. -/
  vBus : Int := 0
  /-- R268: pre-charge rail, the converter's string-side link, mV. -/
  vPre : Int := 0
  /-- R268: the converter's bus-side link, mV. -/
  vLink : Int := 0
  /-- R325: string shunt current, mA, positive = discharge. -/
  shunt : Int := 0
  /-- R503: the auxiliary contact of COk reads closed. -/
  aux : List Bool := [false, false, false, false]
  /-- R503: the interlock input reads closed. -/
  ilkClosed : Bool := false
  /-- R159: snuffer loop current, µA. -/
  loopUa : Nat := 0
  /-- R507: the ISOLATE line reads asserted by the partner. -/
  isolateIn : Bool := false
  /-- R362: the position strap of X8. -/
  posStrap : Bool := false
  /-- R242: the identity straps of harnesses X4 to X7 as read. -/
  hid : List Nat := [0, 1, 2, 3]
  /-- R243: OWN reads high although this module does not drive it. -/
  ownHigh : Bool := false
  /-- R508: feed A is above 16.8 V. -/
  feedA : Bool := true
  /-- R508: feed B is above 16.8 V. -/
  feedB : Bool := true
  deriving DecidableEq, Repr

/-- R446: fe80::1 and fe80::2, 16 bytes as a number, byte 0 lowest. -/
def linkLocal0 (k : Nat) : Nat := 0x80FE + (k + 1) * 2 ^ 120

/-- The global identity, status and mode block (SYS), with the MGP's own state. -/
structure Sys where
  /-- R57: SYS_STATE.STATE. -/
  st : OpState := .boot
  /-- R57: SYS_STATE.BASE. -/
  base : OpState := .boot
  /-- R57: SYS_STATE.PREV. -/
  prev : OpState := .off
  /-- R47: the origin of DEGRADED is DISPATCH. -/
  originDisp : Bool := false
  /-- R57: SYS_STATE.MGP_AWAY. -/
  mgpAway : Bool := false
  /-- R57: SYS_STATE.HOLDUP_OK. -/
  holdupOk : Bool := false
  /-- R57: SYS_STATE.BO_WARN. -/
  boWarn : Bool := false
  /-- R68: a feed has returned since the shutdown started. -/
  feedBack : Bool := false
  /-- R64: domains powered and not yet ready. -/
  powering : List Nat := []
  /-- R66: progress of the shutdown sequence. -/
  boPhase : BoPhase := .none
  /-- R58: SYS_RESET_CAUSE; power-on with no completed shutdown before it. -/
  resetCause : Nat := 1
  /-- R430: SYS_OPSEC, kept in PD0 (log entry 3). -/
  opsec : Nat := 0
  /-- R430: SYS_PCC, kept in PD0; the power-on reset has counted one (log entry 3). -/
  pcc : Nat := 1
  /-- R419: SYS_TICK, ticks counted. -/
  tick : Nat := 0
  /-- R481: ticks elapsed while powered, never reset, for the 60 s condition (the model's own clock, log entry 10). -/
  clock : Nat := 0
  /-- R340: tick within the 8,192-tick second of the coil test pulses -/
  slot : Nat := 0
  /-- R54: events waiting for the state machine, oldest first. -/
  events : List Ev := []
  /-- R519: a host command has caused a transition in the present tick. -/
  cmdUsed : Bool := false
  /-- R55: STATE and BASE last reported in a state-change message. -/
  lastReported : OpState × OpState := (.boot, .boot)
  /-- R50: only the bisque loader serves (an image failed verification). -/
  loaderOnly : Bool := false
  /-- R50: the precharge is done, so CO0 may be closed in PRECHARGE. -/
  prechgDone : Bool := false
  /-- R75: SYS_PRECHG_DV as the present PRECHARGE took it, mV. -/
  prechgDv : Int := 10000
  /-- R73: the precharge cool-down is running. -/
  coolDown : Bool := false
  /-- R50: CMD_OPEN has been accepted and its stop ramp runs. -/
  openPending : Bool := false
  /-- R70: the tick count of the model's clock at the last MGP reset. -/
  wdAt : Option Nat := none
  /-- R70: the MGP stays away after a second watchdog expiry or two failed images. -/
  mgpStaysAway : Bool := false
  /-- R69, R439: a module reset has been answered and follows at the next tick: 3 by CMD_RESET, 4 by the spyhole; 0 none -/
  resetDue : Nat := 0
  /-- R331, R401: cause of an isolation decided while the MGP was away, whose message waits for it -/
  isoDue : Option Nat := none
  /-- R343: MGP_AWAY has stood for 10 s without interruption -/
  mgpLost : Bool := false
  /-- R439: FAIL bits of the last on-demand or start-up self-test. -/
  selftestFail : Nat := 0
  /-- R16, R59: domains PD0 to PD11 powered and ready. -/
  pd : List Bool := [true, true, true, false, false, false, false, false, false, false, false, false]
  /-- R22: the fence of the block in domain d is closed. -/
  fenced : List Bool := [false, false, false, true, true, true, true, true, true, true, true, true]
  /-- R419: the shadow latches, (byte address, word) as loaded at the last tick edge. -/
  shadow : List (Nat × Nat) := []
  /-- R421: SYS_SH_HOLD. -/
  shHold : List Bool := List.replicate 12 false
  /-- R430: SYS_ACC_STAT.ABSENT. -/
  accAbsent : Bool := false
  /-- R430: SYS_ACC_STAT.PILOT_WR. -/
  accPilotWr : Bool := false
  /-- R430: SYS_TV_FIX. -/
  tvFix : Nat := 0
  /-- R430: SYS_TV_LAST. -/
  tvLast : Nat := 0
  /-- R430: SYS_CO_PERMIT. -/
  coPermit : Tv := {}
  /-- R430: serial number, 64 bits, factory value (log entry 4). -/
  serial : Nat := 0
  /-- R383: MAC addresses of ports A and B, factory values (log entry 4). -/
  mac : List Nat := [0, 0]
  /-- R383: link-local addresses of ports A and B, factory values (log entry 4). -/
  lla : List Nat := [linkLocal0 0, linkLocal0 1]
  /-- R430: SYS_PART.HW_REV, factory value (log entry 4). -/
  hwRev : Nat := 0
  /-- R430: SYS_FW_MGP, SYS_FW_CE, SYS_FW_SAG, SYS_FW_RADIO, SYS_FW_LDR of the images in force (log entry 4). -/
  fw : List Nat := [0, 0, 0, 0, 0]
  /-- R430: SYS_VER.DN8_HW_MIN, image in force (log entry 4). -/
  dn8HwMin : Nat := 0
  /-- R430: SYS_VER.DN8_HW_MAX, image in force (log entry 4). -/
  dn8HwMax : Nat := 15
  /-- R430: SYS_FMT.SET, image in force (log entry 4). -/
  fmtSet : Nat := 1
  /-- R430: SYS_FMT.SAG, image in force (log entry 4). -/
  fmtSag : Nat := 1
  deriving DecidableEq, Repr

/-- R61: what the self-test measured; the other items are read from the state. -/
structure SelfTest where
  /-- item 0: the coil switches that failed their output test, bit 2k the high and bit 2k + 1 the low side of COk -/
  coilFail : Nat := 0
  /-- item 2: the three modulators read the reference within 0.2 % -/
  refs : Bool := true
  /-- item 4: ring-oscillator speeds in the band -/
  ro : Bool := true
  /-- item 5: no uncorrectable ECC error -/
  ecc : Bool := true
  /-- item 6: phases whose PWM readback failed, bit p -/
  pwmFail : Nat := 0
  /-- item 7: loopback of U0 and U1 passed -/
  u0 : Bool := true
  /-- item 7 -/
  u1 : Bool := true
  /-- DETAIL of a record 0x0104 -/
  detail : Nat := 0
  deriving DecidableEq, Repr

/-- R290, R293: what one inner evaluation is given. -/
structure EvalIn where
  /-- time-base value of the update point -/
  now : BitVec 32 := 0
  /-- R250: the update point is the carrier valley, else the peak -/
  valley : Bool := true
  /-- R250, R251: ones of the bitstream over the update interval -/
  ones : Nat := 250
  /-- R251: bits of the bitstream over the update interval -/
  bits : Nat := 500
  /-- R290: V_str, mV -/
  vStr : Int := 0
  /-- R290: V_bus, mV -/
  vBus : Int := 0
  /-- R290: time since the phase's previous evaluation, ns -/
  dtNs : Nat := 25000
  /-- R293: on-time of HA issued between the two sample windows' centres, ns -/
  onA : Nat := 0
  /-- R293: on-time of HB, ns -/
  onB : Nat := 0
  /-- R293: integral of the phase current over the interval, mA·ns -/
  qI : Int := 0
  /-- R251: the last fast-path sample of each phase before this point, as the sinc² filter's count, 0 to 64 -/
  fast : List Nat := []
  /-- R260: the phase's own fast-path samples since its last valley, oldest first, 400 ns apart, 0 to 64 -/
  samples : List Nat := []
  /-- R260: ns from the last of them to this point -/
  fastAgo : Nat := 0
  /-- R300: the result missed its deadline -/
  late : Bool := false
  deriving DecidableEq, Repr

/-- R275: what one outer tick is given; the means close 1.5 µs before it. -/
structure OuterIn where
  /-- time-base value of the tick -/
  now : BitVec 32 := 0
  /-- R276: length of the outer interval that ends at the tick, ns -/
  dtNs : Nat := 200000
  /-- R278: shunt mean, mA -/
  ish : Int := 0
  /-- V_str mean, mV -/
  vStr : Int := 0
  /-- V_bus mean, mV -/
  vBus : Int := 0
  /-- R268: V_link, mV -/
  vLink : Int := 0
  /-- R268: V_pre, mV -/
  vPre : Int := 0
  /-- R300: the result missed its deadline -/
  late : Bool := false
  deriving DecidableEq, Repr

/-- R92: what the FSQ finds as it starts an entry. -/
structure EntryIn where
  /-- time-base value at which the entry starts -/
  now : BitVec 32 := 0
  /-- R94: the entry read with an uncorrectable ECC error -/
  ecc : Bool := false
  /-- R94: entries of classes 7 to 9 that read so as the FSQ passed them -/
  bad : List Nat := []
  deriving DecidableEq, Repr

/-- R111, R137: what a unit or a node found in one receive window. -/
structure RxFrame where
  /-- R111: the octets received, FCS included; none where only energy was detected -/
  bytes : List Byte := []
  /-- R147: link time of the RMARKER, 40 bits -/
  rxLt : Nat := 0
  deriving DecidableEq, Repr

/-- R149: what the 14 conversions of a sweep read. -/
structure SweepIn where
  /-- V0 to V7, 100 µV -/
  v : List Nat := List.replicate 8 0
  /-- T0 to T3, 1/64 °C -/
  t : List Int := List.replicate 4 0
  /-- VSUP, mV -/
  vsup : Nat := 0
  /-- VREF, 100 µV -/
  vref : Nat := 0
  deriving DecidableEq, Repr

/-- R306: what the sources of the thermal manager read. -/
structure ThmIn where
  /-- R307: T_nominal of the sixteen ring-oscillator sensors, 1/64 °C -/
  ro : List Int := List.replicate 16 0
  /-- R314: coolant inputs, 1/64 °C -/
  cool : List Int := [0, 0, 0, 0]
  /-- R321: frequency of the flow inputs, mHz -/
  flow : List Nat := [0, 0]
  /-- R321: frequency of the tachometers, mHz -/
  tach : List Nat := [0, 0, 0, 0]
  deriving DecidableEq, Repr

/-- R18, R268, R325: what a housekeeping tick is given by the pins and the front ends. -/
structure TickIn where
  /-- R268: string voltage, mV -/
  vStr : Int := 0
  /-- R268: bus voltage beyond CO3, mV -/
  vBus : Int := 0
  /-- R268: pre-charge rail, mV -/
  vPre : Int := 0
  /-- R268: the converter's bus-side link, mV -/
  vLink : Int := 0
  /-- R337: mean of the shunt over the tick, mA -/
  shunt : Int := 0
  /-- R159: snuffer loop current, µA -/
  loopUa : Nat := 0
  /-- R325, R328: snuffer loop current in the second sense resistor, µA -/
  loop2Ua : Nat := 0
  /-- R242: identity straps of X4 to X7 -/
  hid : List Nat := [0, 1, 2, 3]
  /-- R302: speed of the slowest ring-oscillator sensor, percent -/
  speed : Nat := 100
  /-- R327: the protection cycle completed within the tick -/
  cycleOk : Bool := true
  /-- R325, R328: what the two comparators of the interlock input read: closed -/
  ilk : Bool × Bool := (true, true)
  deriving DecidableEq, Repr

/-- R383 to R386: how a UDP datagram reached a plant port. Addresses are 16 bytes as a number, byte 0 lowest, IPv4 in its mapped form
(R446). -/
structure Net where
  /-- source address -/
  addr : Nat := 0
  /-- source UDP port -/
  udp : Nat := 0
  /-- destination address -/
  dst : Nat := linkLocal0 0
  /-- destination UDP port -/
  dudp : Nat := 48048
  /-- VLAN ID of the frame; 0 untagged -/
  vlan : Nat := 0
  /-- an IP fragment -/
  frag : Bool := false
  /-- its UDP checksum is there and right -/
  sumOk : Bool := true
  deriving DecidableEq, Repr

/-- R386, R388: a transaction request and how it came. -/
structure Tx extends Net where
  /-- time-base value of its arrival -/
  now : BitVec 32 := 0
  /-- plant port -/
  port : PortId := .a
  /-- R388: the datagram, header and payload -/
  dg : List Byte := []
  deriving DecidableEq, Repr

/-- R407: the header of a PTP message. -/
structure PtpMsg where
  /-- plant port -/
  port : PortId := .a
  /-- PTP domain -/
  domain : Nat := 0
  /-- sequenceId -/
  seq : Nat := 0
  /-- correctionField, ns -/
  corr : Int := 0
  /-- carried over IEEE 802.3 rather than UDP over IPv4 -/
  l2 : Bool := false
  /-- identity of the sending port -/
  sender : Nat := 0
  deriving DecidableEq, Repr

/-- R383: the network services of a plant port. -/
inductive SvcKind
  | arp | nd | echo4 | echo6 | igmp | mld
  deriving DecidableEq, Repr

/-- R383: a frame of a network service: a request that comes, or the answer that goes. -/
structure SvcFrame where
  /-- what it asks or answers -/
  kind : SvcKind := .arp
  /-- VLAN ID; 0 untagged -/
  vlan : Nat := 0
  /-- priority of the frame -/
  prio : Nat := 0
  /-- MAC address of the sender -/
  mac : Nat := 0
  /-- MAC address that it goes to -/
  toMac : Nat := 0
  /-- source address, 16 bytes as a number, byte 0 lowest -/
  src : Nat := 0
  /-- destination address; the address asked for in ARP and neighbour discovery; the group of a query, 0 for all groups -/
  dst : Nat := 0
  /-- identifier, sequence number and data of an echo -/
  data : List Byte := []
  /-- the groups reported -/
  groups : List Nat := []
  /-- it is a fragment -/
  frag : Bool := false
  deriving DecidableEq, Repr

/-- R113: the content of one beacon, offsets in ns from the start of the announced frame. -/
structure Beacon where
  /-- R113: FRAME_NO -/
  frameNo : Nat := 0
  /-- R113: LEN of frame k+1 -/
  len : Nat := 0
  /-- R113: JOIN_OPEN -/
  joinOpen : Bool := false
  /-- R113: EPOCH_NEXT -/
  epochNext : Bool := false
  /-- R113: NEWKEY -/
  newKey : Bool := false
  /-- R113: MOVE -/
  move : Bool := false
  /-- R113: BPRF in frame k+1 -/
  bprf : Bool := false
  /-- R113: SCHED_TAG -/
  schedTag : Nat := 0
  /-- R113: TX_LT, link time of the RMARKER, 40 bits -/
  txLt : Nat := 0
  /-- R113: START_DT, ns -/
  startDt : Nat := 0
  /-- R113: SNAP -/
  snap : Nat := 0
  /-- R113: RFIRST, 0xFF none -/
  rFirst : Nat := 0xFF
  /-- R113: RCOUNT -/
  rCount : Nat := 0
  /-- R113: ROFF -/
  rOff : Nat := 0
  /-- R113: RPITCH -/
  rPitch : Nat := 0
  /-- R113: BOFF -/
  bOff : Nat := 0
  /-- R113: BDUR -/
  bDur : Nat := 0
  /-- R113: OWNODE, 0xFF none -/
  owNode : Nat := 0xFF
  /-- R113: OWWIRE -/
  owWire : Nat := 0
  /-- R113: OWOFF -/
  owOff : Nat := 0
  /-- R113: STNODE, 0xFF none -/
  stNode : Nat := 0xFF
  /-- R113: STPOS -/
  stPos : Nat := 0
  /-- R113: STOFF -/
  stOff : Nat := 0
  /-- R113: STDUR, 10 µs -/
  stDur : Nat := 0
  /-- R113: CNODE, 0xFE join reply, 0xFF none -/
  cNode : Nat := 0xFF
  /-- R113: CKIND -/
  cKind : Nat := 0
  /-- R113: COFF -/
  cOff : Nat := 0
  /-- R113: KCOUNT -/
  kCount : Nat := 0
  /-- R113: KOFF -/
  kOff : Nat := 0
  /-- R113: KPITCH -/
  kPitch : Nat := 0
  /-- R113: KACK_ADDR, 0xFF none -/
  kackAddr : Nat := 0xFF
  /-- R113: KACK_FC -/
  kackFc : Nat := 0
  /-- R113: bleed masks of nodes RFIRST upward -/
  bleed : List Nat := []
  deriving DecidableEq, Repr

/-- R102: one tone's progress, FSQ_TONE_STATk. -/
structure ToneStat where
  /-- R102: STEP -/
  step : Nat := 0
  /-- R102: SUB -/
  sub : Nat := 0
  /-- R102: POINTS -/
  points : Nat := 0
  deriving DecidableEq, Repr

/-- R495: one line of an FSQ trace. -/
structure TraceLine where
  /-- entry index -/
  entry : Nat
  /-- CLASS -/
  cls : Nat
  /-- OFFSET -/
  offset : Nat
  /-- lateness, ns -/
  lag : Nat := 0
  /-- 0 none, 1 LATE, 2 SKIP, 3 ECC -/
  mark : Nat := 0
  deriving DecidableEq, Repr

/-- The firing sequencer (FSQ). -/
structure Fsq where
  /-- R80: the FSQ has started. -/
  running : Bool := false
  /-- R96: bank 0, byte offsets 0 to 65,535, reads 0 where nothing is listed. -/
  bank0 : Mem := []
  /-- R96: bank 1. -/
  bank1 : Mem := []
  /-- R102: FSQ_BANK_SEL.NEXT (TV). -/
  next : Tv := {}
  /-- R102: FSQ_BANK_SEL.ACTIVE. -/
  active : Nat := 0
  /-- R102: FSQ_SWAP_STAT.CODE. -/
  swapCode : Nat := 0
  /-- R102: FSQ_FRAME_CNT, 32 bits. -/
  frameCnt : Nat := 0
  /-- R102: FSQ_FRAME_START, 32 bits. -/
  frameStart : Nat := 0
  /-- R102: FSQ_STAT.LATE. -/
  late : Bool := false
  /-- R102: FSQ_STAT.SKIP. -/
  skip : Bool := false
  /-- R102: FSQ_STAT.ECC_SKIP. -/
  eccSkip : Bool := false
  /-- R102: FSQ_STAT.WR_ACTIVE. -/
  wrActive : Bool := false
  /-- R102: FSQ_STAT.WR_PENDING. -/
  wrPending : Bool := false
  /-- R102: FSQ_STAT.TRANSITION. -/
  transition : Bool := false
  /-- R102: FSQ_STAT.UNALIGNED. -/
  unaligned : Bool := true
  /-- R102: FSQ_LATE_CNT. -/
  lateCnt : Nat := 0
  /-- R102: FSQ_LATE_MAX. -/
  lateMax : Nat := 0
  /-- R102: FSQ_SKIP_CNT. -/
  skipCnt : Nat := 0
  /-- R102: FSQ_TONE_STAT0 to 3. -/
  tones : List ToneStat := List.replicate 4 {}
  /-- R89: frames since the first frame of the present bank. -/
  n : Nat := 0
  /-- R92: index of the next entry of the active bank. -/
  entry : Nat := 0
  /-- R84: the entry with LAST (or index 4,095) has been taken in this frame. -/
  tableDone : Bool := false
  /-- R91: this frame's FRAME_END work has been done. -/
  frameEnded : Bool := false
  /-- R99: a swap has ended at this frame's FRAME_END; the new bank governs from the next frame. -/
  swapped : Bool := false
  /-- R99: that swap was not committed at the freeze, so the next frame is a transition frame (R100). -/
  swapDirty : Bool := false
  /-- R76: the latched frame length code, 0 = 1 ms to 3 = 8 ms. -/
  lenCode : Nat := 1
  /-- R77, R103: FSQ_ALIGN as the last realignment, or the start of the FSQ, took it, ns. -/
  align : Int := 0
  /-- R94: time-base value at which the last entry of this frame was started or passed; the frame start before the first. -/
  lastAt : Nat := 0
  /-- R77: extra length of the present frame, ns. -/
  stretch : Nat := 0
  /-- R88: cursor of each test entry (entry index, item). -/
  cursors : List (Nat × Nat) := []
  /-- R98: the beacon freeze of this frame has passed. -/
  frozen : Bool := false
  /-- R98: the frozen content of each unit's beacon. -/
  beacons : List Beacon := [{}, {}]
  /-- R98, R100: the swap was COMMITTED at the freeze. -/
  clean : Bool := false
  /-- R100: the present frame is a transition frame. -/
  transFrame : Bool := false
  /-- R94: the frame's SNAPSHOT or a CURRENT_LATCH ran late. -/
  lateSnap : Bool := false
  /-- R87: the frame's snapshot instant S, time-base value. -/
  snapAt : Option Nat := none
  /-- R152: string current latched at t_0 to t_7, mA. -/
  latches : List Int := List.replicate 8 0
  /-- R152: string voltage latched on VSTR, mV. -/
  vStrLatch : Int := 0
  /-- R171: the string voltage latched at t_0, mV. -/
  vStr0 : Int := 0
  /-- R152: bus voltage latched on VBUS, mV. -/
  vBusLatch : Int := 0
  /-- R368: this module passed ownership in the present frame and keeps running every class, as owner, to its FRAME_END. -/
  asOwner : Bool := false
  /-- R376: this module took ownership in the present frame; its radio sends from the next one on. -/
  radioHeld : Bool := false
  /-- R246: an accepted PHM_PERIOD waiting to take effect. -/
  perPending : Option Nat := none
  /-- R495: an FSQ trace has been requested for the next whole frame. -/
  traceArmed : Bool := false
  /-- R495: the present frame is being traced. -/
  tracing : Bool := false
  /-- R495: lines of the FSQ trace. -/
  trace : List TraceLine := []
  deriving DecidableEq, Repr

/-- R123, R130: one row of the pairing table. -/
structure PairRow where
  /-- R130: SERIAL, 64 bits; 0 = empty row -/
  serial : Nat := 0
  /-- R123: K_N, 128 bits -/
  kN : Nat := 0
  /-- R125: the JOIN counter accepted last -/
  joinCtr : Nat := 0
  deriving DecidableEq, Repr

/-- R119: a command waiting for a dynamic slot or for its ACK. -/
structure NodeCmd where
  /-- node addressed -/
  node : Nat
  /-- R118: CMD -/
  cmd : Nat
  /-- R118: parameters -/
  params : List Nat := []
  /-- R119: sends made so far -/
  tries : Nat := 0
  /-- R118: CSEQ -/
  cseq : Nat := 0
  /-- the mailbox channel that waits for the ACK, if a host sent it -/
  chan : Option Nat := none
  /-- sent in the present dynamic slot and waiting for its ACK -/
  inFlight : Bool := false
  /-- R145: FNL_CMD_RETRY as it stood when the command was queued -/
  limit : Nat := 3
  deriving DecidableEq, Repr

/-- R131: a join reply waiting for the dynamic slot. -/
structure JoinReply where
  /-- node index of the pairing row -/
  node : Nat
  /-- R121: REASON of a refuse, or none for an accept -/
  refuse : Option Nat
  /-- R131: unit that heard the request and sends the reply -/
  unit : Nat := 0
  /-- R134: link version chosen -/
  ver : Nat
  /-- HWREV, FW_A, FW_B, BANK of the request -/
  hw : Nat := 0
  /-- FW_A -/
  fwA : Nat := 0
  /-- FW_B -/
  fwB : Nat := 0
  /-- BANK -/
  bank : Nat := 0
  /-- R121: SERIAL -/
  serial : Nat := 0
  /-- R121: BAL_TO of the accept sent, ms -/
  balTo : Nat := 0
  /-- R121: TOF of the accept sent, ns -/
  tof : Nat := 0
  deriving DecidableEq, Repr

/-- R144, R431: what the module keeps about the link of one node. -/
structure NLink where
  /-- R144: FNL_N_LINK.STATE -/
  st : Nat := 0
  /-- R144: FNL_N_LINK.UNIT -/
  unit : Nat := 0
  /-- R144: FNL_N_LINK.VER -/
  ver : Nat := 0
  /-- R144: FNL_N_LINK.TOF, ns -/
  tof : Nat := 0
  /-- R144: FNL_N_MISS -/
  miss : Nat := 0
  /-- R144: FNL_N_MICFAIL -/
  micfail : Nat := 0
  /-- R431: FNL_N_FW_A -/
  fwA : Nat := 0
  /-- R431: FNL_N_FW_B -/
  fwB : Nat := 0
  /-- R431: FNL_N_HW.HWREV -/
  hw : Nat := 0
  /-- R135: the revision has been learned, at a join or by GET_INFO -/
  hwKnown : Bool := false
  /-- R431: FNL_N_HW.BANK -/
  bank : Nat := 0
  /-- R431: FNL_N_HW.STAGED -/
  staged : Bool := false
  /-- R450: FNL_N_JOINS -/
  joins : Nat := 0
  /-- R125: FC of the last frame accepted from the node in the epoch -/
  lastFc : Option Nat := none
  /-- R125, R126: FC of the last frame accepted from the node in the epoch before -/
  lastFcOld : Option Nat := none
  /-- R127: the node has acknowledged SET_LINK_KEY -/
  keyAck : Bool := false
  /-- R158: SET_LIMITS has been queued since BOOT or takeover -/
  limitsSent : Bool := false
  /-- R118: CSEQ of the last command sent -/
  cseq : Nat := 0
  /-- R450: MEA_N_BLEED, the mask sent in the last beacon -/
  bleed : Nat := 0
  /-- R142, R162: balancing timeout that the node has acknowledged, ms; none where it has not since BOOT -/
  balTo : Option Nat := none
  deriving DecidableEq, Repr

/-- R144: one radio unit of the module. -/
structure RUnit where
  /-- R144: FNL_Ux_STAT.MODE -/
  mode : Nat := 0
  /-- R144: LOOP_OK -/
  loopOk : Bool := false
  /-- R105, R139: a loopback test has run since BOOT -/
  tested : Bool := false
  /-- R144: IMPAIRED -/
  impaired : Bool := false
  /-- R144: SERVED -/
  served : Nat := 0
  /-- R144: FNL_Ux_ENERGY -/
  energy : Nat := 0
  /-- R144: FNL_Ux_FOREIGN -/
  foreignCnt : Nat := 0
  /-- R144: FNL_Ux_FORMAT -/
  format : Nat := 0
  /-- R144: FNL_Ux_MICFAIL -/
  micfail : Nat := 0
  /-- R144: FNL_Ux_REPLAY -/
  replay : Nat := 0
  /-- R144: FNL_Ux_MISS -/
  miss : Nat := 0
  /-- R144: FNL_Ux_JOIN_UNK -/
  joinUnk : Nat := 0
  /-- R125: the unit's own frame counter in the epoch -/
  fc : Nat := 0
  /-- R147: TX_LT of the last 16 beacons, newest first -/
  txLt : List Nat := []
  /-- R128: the last 16 beacons sent, newest first -/
  sent : List Beacon := []
  /-- R115: the contention frame to acknowledge in this frame's beacon -/
  kack : Option (Nat × Nat) := none
  /-- R137: nodes whose REPORT window is open and not yet closed -/
  expect : List Nat := []
  /-- R137: contention windows are open in this frame -/
  contOpen : Bool := false
  /-- R131: what the dynamic slot of the next frame carries: 0 join reply, 1 command, 2 firmware; and its node -/
  dyn : Option (Nat × Nat) := none
  /-- R131: what the dynamic slot of the present frame carries -/
  dynNow : Option (Nat × Nat) := none
  /-- R131: the frame sent in the present dynamic window, waiting for its ACK: kind, node, FC -/
  waitAck : Option (Nat × Nat × Nat) := none
  /-- R131: the join reply sent in the present dynamic window -/
  replied : Option JoinReply := none
  /-- R138: missed and total REPORT windows of the last frames, newest first -/
  hist : List (Nat × Nat) := []
  /-- R138: missed REPORT windows of the present frame -/
  missNow : Nat := 0
  /-- R138: REPORT windows of the present frame -/
  winNow : Nat := 0
  /-- R139: energy detections of the present frame -/
  energyNow : Nat := 0
  /-- R138: ns for which the unit has been unimpaired -/
  okNs : Nat := 0
  /-- R111: octets of the frame sent last -/
  tx : List Byte := []
  deriving DecidableEq, Repr

/-- The Finam link, module side (FNL). -/
structure Fnl where
  /-- R144: units U0 and U1 -/
  units : List RUnit := [{}, {}]
  /-- R144: FNL_EPOCH, from MRAM (log entry 5) -/
  epoch : Nat := 0
  /-- R126: frames left in which node frames of the epoch before are accepted -/
  oldLeft : Nat := 0
  /-- R127: the SET_LINK_KEY commands have been sent; the 10 s run -/
  keySent : Bool := false
  /-- R126: an epoch advance is due at the next beacon freeze -/
  epochDue : Bool := false
  /-- R126: an advance was decided at this frame's freeze -/
  epochNext : Bool := false
  /-- R127: the next advance carries NEWKEY -/
  newKeyDue : Bool := false
  /-- R144: FNL_KEY_STAT.CHANGING -/
  changing : Bool := false
  /-- R111: string network identity, from MRAM (log entry 5) -/
  snid : Nat := 0
  /-- R123: string link key K_L, 128 bits, from MRAM; none before the first pairing -/
  kL : Option Nat := none
  /-- R127: the new link key during a change -/
  kLNew : Option Nat := none
  /-- R126: epoch key of the epoch before -/
  keOld : Nat := 0
  /-- R127: the advance decided at this frame's freeze carries NEWKEY -/
  newKeyNext : Bool := false
  /-- R126: clock tick of the last advance -/
  epochAt : Nat := 0
  /-- R145: preamble codes in use since BOOT: HPRF U0, HPRF U1, BPRF U0, BPRF U1 -/
  codes : List Nat := [25, 27, 9, 11]
  /-- R130: the pairing table -/
  pair : List PairRow := List.replicate 48 {}
  /-- R144: the 48 node links -/
  links : List NLink := List.replicate 48 {}
  /-- R131: join replies queued -/
  joinQ : List JoinReply := []
  /-- R119: node commands queued -/
  cmdQ : List NodeCmd := []
  /-- R132: serials logged within the last 10 min, each with the tick of its record -/
  unkLogged : List (Nat × Nat) := []
  /-- R120, R471: the node of each unit that waits for its next firmware block -/
  fwTo : List (Option Nat) := [none, none]
  /-- R471: offset of the next firmware block of each unit -/
  fwOff : List Nat := [0, 0]
  /-- R138: stored-schedule load the MGP has under way: slot -/
  loading : Option Nat := none
  /-- R138: the slot the active bank was loaded from, if any -/
  activeSlot : Option Nat := none
  /-- R138: the slot the shadow bank was loaded from, if any -/
  shadowSlot : Option Nat := none
  deriving DecidableEq, Repr

/-- R141: the link states of a DN8. -/
inductive NodeSt
  | powerOff | unpaired | joining | search | synced | coasting
  deriving DecidableEq, Repr

/-- One DN8 pack node. -/
structure Dn8 where
  /-- R121: SERIAL with which the node is built (log entry 6) -/
  serial : Nat := 0
  /-- R123: K_N with which the node is built (log entry 6) -/
  kN : Nat := 0
  /-- R141: link state; the nodes' power is the string's own (log entry 6) -/
  st : NodeSt := .powerOff
  /-- R133: node index held -/
  index : Option Nat := none
  /-- R121: CODES of its join -/
  codes : List Nat := []
  /-- R140: the mode of the last beacon is BPRF -/
  bprf : Bool := false
  /-- R133: SNID and link key held -/
  keyed : Bool := false
  /-- R111: string network identity held (log entry 6) -/
  snid : Nat := 0
  /-- R123: string link key held -/
  kL : Nat := 0
  /-- R118, R127: pending new link key and the epoch FROM which it holds -/
  kLNew : Option (Nat × Nat) := none
  /-- R126: key epoch held -/
  epoch : Nat := 0
  /-- R125: own frame counter in the epoch -/
  fc : Nat := 0
  /-- R125: FC of the last frame accepted from each unit in the epoch -/
  rxFc : List (Option Nat) := [none, none]
  /-- R125: JOIN counter, never reset -/
  joinCtr : Nat := 0
  /-- R134: link version negotiated -/
  ver : Nat := 2
  /-- R140: unit the node is tuned to -/
  unit : Nat := 0
  /-- R155: OV threshold, 10 mV -/
  ov : Nat := 370
  /-- R155: UV threshold, 10 mV -/
  uv : Nat := 230
  /-- R118: thresholds waiting for the next snapshot -/
  limPending : Option (Nat × Nat) := none
  /-- R142: balancing timeout, ms -/
  balTo : Nat := 200
  /-- R118: flight-time correction, ns -/
  tof : Nat := 0
  /-- R128: the beacon that announced the present frame, whose timing is used -/
  timing : Option Beacon := none
  /-- R128: the beacon received in the present frame, which announces the next -/
  next : Option Beacon := none
  /-- R160: bleed mask of that beacon -/
  nextMask : Nat := 0
  /-- R128: start of the present frame, counts of the node's counter -/
  frameAt : Rat := 0
  /-- R128: start of the next frame -/
  nextAt : Rat := 0
  /-- R128: rate correction -/
  rate : Rat := 1
  /-- R128: counter value and TX_LT of the last valid beacon -/
  lastRx : Option (Nat × Nat) := none
  /-- R140: LEN of the last frame announced -/
  lastLen : Nat := 1
  /-- R121: LV_MIN of the node (log entry 6) -/
  lvMin : Nat := 2
  /-- R121: LV_MAX of the node (log entry 6) -/
  lvMax : Nat := 3
  /-- R140: time in SEARCH, 1/8192 s -/
  searchT : Nat := 0
  /-- R140: time on the present channel and code, 1/8192 s -/
  dwellT : Nat := 0
  /-- R140: place in the list of channels and codes scanned -/
  scanPos : Nat := 0
  /-- R141: consecutive beacons missed -/
  missed : Nat := 0
  /-- R117: BMISS since the last REPORT, saturating at 15 -/
  bmiss : Nat := 0
  /-- R160: bleed mask to apply in the next balancing window -/
  mask : Nat := 0
  /-- R160: balancing switches closed now -/
  closed : Nat := 0
  /-- R117: BAL_ACTIVE -/
  balActive : Bool := false
  /-- R142: switches stay open until a valid beacon supplies a mask -/
  balBarred : Bool := true
  /-- R156: the loop switch is closed -/
  loopClosed : Bool := false
  /-- R117: an OV trip since the last REPORT -/
  ovTrip : Bool := false
  /-- R117: a UV trip since the last REPORT -/
  uvTrip : Bool := false
  /-- R116: TRIPMAP since the last REPORT -/
  tripMap : Nat := 0
  /-- R156: a comparator self-check fault remains -/
  selfFault : Bool := false
  /-- R156: the node supply is at or above 6 V -/
  supplyOk : Bool := false
  /-- R118: CSEQ of the last command executed -/
  lastCseq : Option Nat := none
  /-- R119: RESULT and INFO of the last ACK -/
  lastAck : Nat × Nat := (0, 0)
  /-- R117: firmware bank running -/
  bank : Nat := 0
  /-- R117: the other bank holds a verified image -/
  staged : Bool := false
  /-- R118: FW_BEGIN under way: bank, length, version, DIGEST -/
  fw : Option (Nat × Nat × Nat × Nat) := none
  /-- R120: image bytes written since FW_BEGIN -/
  fwData : List Byte := []
  /-- R120: next expected offset -/
  fwNext : Nat := 0
  /-- firmware versions of the two banks (R121) -/
  fwVer : List Nat := [0, 0]
  /-- R121: HWREV -/
  hw : Nat := 0
  /-- R142: silent while it restarts -/
  silent : Bool := false
  /-- R472: restarting after FW_ACTIVATE, before a beacon from the new bank -/
  trial : Bool := false
  /-- R136: backoff exponent BE -/
  be : Nat := 2
  /-- R136: contention slots still to let pass -/
  backoff : Nat := 0
  /-- R136: draws made from the random-number generator -/
  draws : Nat := 0
  /-- R132: requests sent to this SNID without an acknowledgement -/
  reqs : Nat := 0
  /-- R136: a JOIN request waits -/
  joinWait : Bool := false
  /-- R136: a contention frame sent and not yet acknowledged: it is a JOIN request; its FC -/
  kackWait : Option (Bool × Nat) := none
  /-- R132, R141: string networks heard while it searches or joins, in order -/
  heard : List Nat := []
  /-- R132: the network to which it sends its requests -/
  target : Nat := 0
  /-- R116: payload of the REPORT last sent -/
  report : List Byte := []
  /-- R111: octets of the frame sent last -/
  tx : List Byte := []
  /-- R136: CONTENTION frames waiting: EVENT and DATA -/
  contQ : List (Nat × List Nat) := []
  /-- R141: waiting 10 s after a refuse -/
  refuseWait : Bool := false
  /-- R131: a request was acknowledged and its reply is awaited -/
  replyWait : Bool := false
  /-- R149: V0 to V7 of the last sweep, 100 µV -/
  v : List Nat := List.replicate 8 0
  /-- R149: T0 to T3 of the last sweep, 1/64 °C -/
  t : List Int := List.replicate 4 0
  /-- R149: VSUP, mV -/
  vsup : Nat := 0
  /-- R149: VREF, 100 µV -/
  vref : Nat := 0
  /-- R148: the sweep used projected timing -/
  coast : Bool := false
  /-- R117: NTC_FAULT -/
  ntcFault : Bool := false
  /-- R116: TCODE of the last test -/
  tcode : Nat := 0
  /-- R116: TVAL of the last test -/
  tval : Int := 0
  /-- R116: BRX, counter at the last beacon's RMARKER, low 32 bits -/
  brx : Nat := 0
  /-- R116: FRAME_NO to send, low 8 bits -/
  frameNo : Nat := 0
  deriving DecidableEq, Repr

/-- R154, R182, R228: one group record of the CSM. -/
structure GroupRec where
  /-- R37: GEN, 16 bits; the restore of R210 has written it once -/
  gen : Nat := 2
  /-- R154: STALE -/
  stale : Bool := true
  /-- R154: LOST -/
  lost : Bool := false
  /-- R154: COAST -/
  coast : Bool := false
  /-- R154: SUSPECT_WIRE -/
  suspect : Bool := false
  /-- R154: OPEN_WIRE -/
  openWire : Bool := false
  /-- R154: BAL_STUCK -/
  balStuck : Bool := false
  /-- R154: TRIP -/
  trip : Bool := false
  /-- R154: SUM_FAIL -/
  sumFail : Bool := false
  /-- R154: AGE -/
  age : Nat := 255
  /-- R154, R176: REASON -/
  reason : Nat := 1
  /-- R154: FRAME -/
  frame : Nat := 0
  /-- R154: V_RAW, 100 µV -/
  vRaw : Nat := 0
  /-- R154: V_S, 100 µV -/
  vS : Nat := 0
  /-- R154: I_LAT, mA -/
  iLat : Int := 0
  /-- R154: T, 1/64 °C -/
  t : Int := 0
  /-- R154: BAL_ON, µs -/
  balOn : Nat := 0
  /-- R154: DI, 10 mA -/
  di : Int := 0
  /-- R182: Q_REP -/
  qRep : Nat := 0
  /-- R182: QC, µC (log entry 7) -/
  qc : Int := 0
  /-- R182: HYST, Q1.15 (log entry 7) -/
  hyst : Int := 0
  /-- R182, R210: CAP, 10 mC; EST_G_CAP_NOM where no capacity slot is valid -/
  cap : Nat := 360000000
  /-- R182: QLC, 10 C -/
  qlc : Nat := 0
  /-- R182: ANCHORED, cleared by R210 at a power-on with cause 0x01 -/
  anchored : Bool := false
  /-- R182: LEARN_ARMED -/
  learnArmed : Bool := false
  /-- R182, R210: LEARN_BAR -/
  learnBar : Bool := true
  /-- R182: DISAGREE -/
  disagree : Bool := false
  /-- R182: CUTOFF_DRIVE -/
  cutoff : Bool := false
  /-- R182: CAP_PENDING -/
  capPending : Bool := false
  /-- R182: CAP_FLAGGED -/
  capFlagged : Bool := false
  /-- R182: UP_HELD -/
  upHeld : Bool := false
  /-- R182: CONE_E -/
  coneE : Nat := 0
  /-- R182: CONE_F -/
  coneF : Nat := 0
  /-- R228: ZMAG0 to ZMAG3, nΩ -/
  zmag : List Nat := [0, 0, 0, 0]
  /-- R228: ZARG0 to ZARG3, 1/100 degree -/
  zarg : List Int := [0, 0, 0, 0]
  deriving DecidableEq, Repr

/-- What the EA keeps for a group outside the record. -/
structure GroupAux where
  /-- R193: fraction below the least code of Q_REP, 16 bits -/
  qFrac : Nat := 0
  /-- R187: part of HYST below its least code -/
  hystFrac : Rat := 0
  /-- R205: pending capacity, 10 mC -/
  capPend : Nat := 0
  /-- R208: ADOPTIONS -/
  adoptions : Nat := 0
  /-- R208: FLAGS bit 1, nominal and never learned -/
  nominal : Bool := true
  /-- R195: Q_REP at the entry of the drive -/
  qEntry : Nat := 0
  /-- R195: drive_target -/
  driveTarget : Nat := 0
  /-- R194: the disagreement of this discharge has been logged -/
  disLogged : Bool := false
  /-- R189: an OCV anchor has been tried in the present rest period -/
  ocvTried : Bool := false
  /-- R191: operating seconds at the full anchor -/
  fullAt : Int := 0
  /-- R204: charge taken in since the full anchor, µC, behind QLC -/
  qlcU : Int := 0
  /-- R200: the voltage criterion of C1 to C3 on the last valid sweep: 0 neither met nor moved back, 1 met, 2 moved back -/
  voltE : List Nat := [0, 0, 0]
  /-- R200: that of F1 to F3 -/
  voltF : List Nat := [0, 0, 0]
  /-- R201: levels at the previous FRAME_END, empty and full -/
  lastCone : Nat × Nat := (0, 0)
  /-- R201: criteria met then for levels 1 to 3 (bits 2j − 2 charge, 2j − 1 voltage), empty and full -/
  lastCrit : Nat × Nat := (0, 0)
  /-- R229: TINT -/
  tint : Int := 0
  /-- R229: VALID bits -/
  prbValid : List Bool := [false, false, false, false]
  /-- R229: ND bits -/
  prbNd : List Bool := [false, false, false, false]
  /-- R229: TINT_VALID -/
  tintValid : Bool := false
  /-- R229: TINT_CLAMP -/
  tintClamp : Bool := false
  /-- R226: tone k has published since it last started from rest -/
  sinceRest : List Bool := [false, false, false, false]
  deriving DecidableEq, Repr

/-- The arbiter of the CSM (R28 to R36); after a reset the lower number of each class has the first turn. (Log entry 87, DESIGN CHOICE.) -/
structure Arb where
  /-- R30: round within the window, 0 to 63 -/
  round : Nat := 0
  /-- R33: grants given in this window to requesters 0 and 1 -/
  hq : List Nat := [0, 0]
  /-- R32: requester granted last in each class (high, normal, low); at reset the higher, so that the lower goes first (log entry 87) -/
  last : List Nat := [1, 3, 5]
  /-- R35: rounds of back-off left for each requester -/
  wait : List Nat := [0, 0, 0, 0, 0, 0]
  /-- R35: next back-off count of each requester -/
  count : List Nat := [1, 1, 1, 1, 1, 1]
  /-- R32: the requester granted in the last round -/
  granted : Option Nat := none
  /-- R34: words moved by the last grant -/
  words : Nat := 0
  /-- R40: CSM_QUOTA_HIT bits 0 and 1 -/
  hit : List Bool := [false, false]
  /-- R38: settings in force in this window: quota 0, quota 1, low floor, burst limits 0 to 5 -/
  cfg : List Nat := [24, 24, 4, 16, 16, 16, 16, 16, 16]
  deriving DecidableEq, Repr

/-- The cell state memory. -/
structure Csm where
  /-- R154: the 384 group records -/
  recs : List GroupRec := List.replicate 384 {}
  /-- R28: the arbiter -/
  arb : Arb := {}
  deriving DecidableEq, Repr

/-- R180, R431: what the module measures about one node. -/
structure MNode where
  /-- R180: STALE -/
  stale : Bool := true
  /-- R180: LOST -/
  lost : Bool := false
  /-- R180: COAST -/
  coast : Bool := false
  /-- R180: SUM_FAIL -/
  sumFail : Bool := false
  /-- R180: TRIP -/
  trip : Bool := false
  /-- R180: NTC_FAULT -/
  ntcFault : Bool := false
  /-- R180: AGE -/
  age : Nat := 255
  /-- R180: MISS_RUN -/
  missRun : Nat := 0
  /-- R180: REASON -/
  reason : Nat := 1
  /-- R175: consecutive valid sweeps toward recovery -/
  okRun : Nat := 0
  /-- R172: this frame's sweep is valid -/
  validNow : Bool := false
  /-- R172: this frame's outcome has been decided -/
  decided : Bool := false
  /-- R180: MEA_N_WIRE.SUSPECT, bit k for wire k -/
  wSuspect : Nat := 0
  /-- R180: MEA_N_WIRE.OPEN -/
  wOpen : Nat := 0
  /-- R167: passes in a row of each open wire -/
  wPass : List Nat := List.replicate 9 0
  /-- R180: MEA_N_BST.FAIL -/
  bstFail : Nat := 0
  /-- R180: MEA_N_BST.STUCK -/
  bstStuck : Nat := 0
  /-- R163: results of the running pass by position: 0 below 10 %, 1 below MEA_BST_LO, 2 pass, 3 above MEA_BST_HI,
  4 above 160 % of I_exp -/
  bstPass : List (Option Nat) := List.replicate 8 none
  /-- R164: frame of the result taken last into the pass -/
  bstFrame : Nat := 0
  /-- R164: position masks of the decisions of the pass before, by row of R164 -/
  bstPrev : List Nat := [0, 0, 0, 0]
  /-- R164: position masks of the decisions declared, by row of R164 -/
  bstDecl : List Nat := [0, 0, 0, 0]
  /-- R180: MEA_N_TOFREJ -/
  tofRej : Nat := 0
  /-- R147: flight-time estimate, ps -/
  tofEst : Rat := 0
  /-- R128: TOF last sent, ns -/
  tofSent : Nat := 0
  /-- R147: counter and TX_LT of the beacon last reported as received -/
  tofPrev : Option (Nat × Nat) := none
  /-- R147: ρ from the two latest beacons reported -/
  rho : Option Rat := none
  /-- R146: valid reports since it joined or resumed -/
  reports : Nat := 0
  /-- R431: VSUP -/
  vsup : Nat := 0
  /-- R431: VREF -/
  vref : Nat := 0
  /-- R431: STATUS -/
  status : Nat := 0
  /-- R431: TCODE -/
  tcode : Nat := 0
  /-- R431: TVAL -/
  tval : Int := 0
  /-- R431: FRAME -/
  frame : Nat := 0
  /-- R450: T0 to T3 of the last valid report -/
  t : List Int := List.replicate 4 0
  /-- R450: V0 to V7 of the last valid report -/
  v : List Nat := List.replicate 8 0
  /-- R450: BRX -/
  brx : Nat := 0
  /-- R450: RTX -/
  rtx : Nat := 0
  /-- R450: TRIPMAP -/
  tripMap : Nat := 0
  /-- R170: consecutive sweeps beyond the tolerance -/
  sumBad : Nat := 0
  /-- R170: consecutive sweeps within it -/
  sumOk : Nat := 0
  /-- R169: patterns logged for the node, bit r for row r -/
  classified : Nat := 0
  /-- R169: V0 to V7 from which moves are judged; empty before the first -/
  patV : List Nat := []
  /-- R169: E at that frame, mV -/
  patE : Int := 0
  /-- R169: frames since then -/
  patAge : Nat := 0
  /-- R169: frames for which each of rows 0 to 2 has held -/
  patRun : List Nat := [0, 0, 0]
  /-- R162: time since the last valid report, ns -/
  quietNs : Nat := 0
  /-- R176: a record write fell due while the CSM was absent -/
  csmMissed : Bool := false
  deriving DecidableEq, Repr

/-- The measurement block (MEA). -/
structure Mea where
  /-- R180: MEA_STAT.LOOP, 0 closed 1 marginal 2 open 3 bypass -/
  loop : Nat := 2
  /-- R180: MEA_STAT.SWEEP_INC -/
  sweepInc : Bool := true
  /-- R180: MEA_STAT.SUM_WARN -/
  sumWarn : Bool := false
  /-- R180: MEA_INC_CNT -/
  incCnt : Nat := 0
  /-- R180: MEA_SUM_DIFF, mV -/
  sumDiff : Int := 0
  /-- R171: run of frames beyond (or within, while the warning stands) the tolerance -/
  sumRun : Nat := 0
  /-- R169: E from which the drift of row 3 is judged, mV; none before the first complete frame -/
  drift : Option Int := none
  /-- R169: complete frames since then -/
  driftAge : Nat := 0
  /-- R169: complete frames for which row 3 has held -/
  driftRun : Nat := 0
  /-- R169: row 3 has been logged -/
  drifted : Bool := false
  /-- R180: per-node state -/
  nodes : List MNode := List.replicate 48 {}
  deriving DecidableEq, Repr

/-- R209, R454, R358: one slot of a two-slot store. -/
structure TwoSlot where
  /-- R209: the VALID word carries the magic and SEQ, and the CRC checks -/
  valid : Bool := false
  /-- R208: SEQ -/
  seq : Nat := 0
  /-- R454: FORMAT -/
  format : Nat := 1
  /-- R208: OPSEC, operating seconds at the commit -/
  opsec : Nat := 0
  /-- contents, as (index, value) pairs -/
  data : List (Nat × Int) := []
  deriving DecidableEq, Repr

/-- The estimator array (EST). -/
structure Est where
  /-- per-group state outside the record -/
  aux : List GroupAux := List.replicate 384 {}
  /-- R214: DIS_MODE -/
  disMode : Bool := false
  /-- R214: CHG_MODE -/
  chgMode : Bool := false
  /-- R214: REST -/
  rest : Bool := true
  /-- R214: EST_REST_S, in ns of rest -/
  restNs : Nat := 0
  /-- R184: ns for which I_AVG has been above EST_REST_I -/
  disNs : Nat := 0
  /-- R184: ns for which I_AVG has been below −EST_REST_I -/
  chgNs : Nat := 0
  /-- R191: ns since CHG_MODE was last set; none = never -/
  chgAgo : Option Nat := none
  /-- R214: EST_I_AVG, mA -/
  iAvg : Int := 0
  /-- R184: QINT at recent FRAME_ENDs, (ns ago, µC), newest first -/
  hist : List (Nat × Int) := []
  /-- R211: qint_done of every node takes the QINT of the first snapshot after a takeover -/
  takeQint : Bool := false
  /-- R183: the running integral as last read, µC, which only a power-on resets -/
  qintRun : Int := 0
  /-- R183: QINT at the last snapshot, µC -/
  qint : Int := 0
  /-- R214: EST_QINT_HI as latched by a read of LO -/
  qintHi : Nat := 0
  /-- R185: qint_done of each node -/
  qintDone : List Int := List.replicate 48 0
  /-- R186: nodes whose charge-count task ran in this frame -/
  ran : List Bool := List.replicate 48 false
  /-- R214: EST_STR_REM, C -/
  strRem : Nat := 0
  /-- R214: EST_STR_HEAD, C -/
  strHead : Nat := 0
  /-- R214: EST_STR_SOC -/
  strSoc : Nat := 0
  /-- R214: REM_G -/
  remG : Nat := 0
  /-- R214: HEAD_G -/
  headG : Nat := 0
  /-- R214: EST_LIM_DIS, mA -/
  limDis : Nat := 0
  /-- R214: EST_LIM_CHG, mA -/
  limChg : Nat := 0
  /-- R214: CONE_E of the string -/
  coneE : Nat := 0
  /-- R214: CONE_F of the string -/
  coneF : Nat := 0
  /-- R212: string levels last sent -/
  coneSent : Nat × Nat := (0, 0)
  /-- R214: TAB_BAD -/
  tabBad : Bool := false
  /-- R214: EST_CAP_SEQ, from MRAM (log entry 7) -/
  capSeq : Nat := 0
  /-- R214: EST_CAP_STAT.SLOT -/
  capSlot : Nat := 0
  /-- R214: EST_CAP_STAT.BUSY -/
  capBusy : Bool := false
  /-- R214: EST_CAP_STAT.FAIL -/
  capFail : Bool := false
  /-- R214: EST_CAP_STAT.NOMINAL -/
  capNominal : Bool := false
  /-- R214: EST_DISAGREE_CNT -/
  disCnt : Nat := 0
  /-- R214: EST_BAL_LOSS -/
  balLoss : Nat := 0
  /-- R206: a commit is due for an adoption not yet committed -/
  commitDue : Bool := false
  /-- R209: a commit waits for its one retry -/
  commitRetry : Bool := false
  /-- R209: a commit waits for the boot after a brown-out warning -/
  commitHeld : Bool := false
  /-- R440: balancing mode: 0 plan, 1 paused, 2 host masks -/
  balMode : Nat := 0
  /-- R81: the MGP has been away and has supplied no plan since -/
  planDue : Bool := false
  /-- R202: bleed plan by node -/
  plan : List Nat := List.replicate 48 0
  /-- R440: host masks by node -/
  hostMask : List Nat := List.replicate 48 0
  /-- R207: a calibration discharge is running -/
  cal : Bool := false
  /-- R207: the stop ramp that ends it is running -/
  calRamp : Bool := false
  /-- R195: the first cutoff drive of the present discharge has been logged -/
  driveLogged : Bool := false
  /-- R207: groups armed at its start -/
  calArmed : List Nat := []
  /-- R208: the two capacity slots -/
  slots : List TwoSlot := [{}, {}]
  deriving DecidableEq, Repr

/-- R224: the samples of one tone's point. -/
structure PointAcc where
  /-- R216, R219: the tone accumulates in this point -/
  on : Bool := false
  /-- R219: settle point -/
  settle : Bool := false
  /-- (group, step, V_RAW) of the present steps; step 64 is the closing sample -/
  v : List (Nat × Nat × Nat) := []
  /-- (position, step, mA) -/
  c : List (Nat × Nat × Int) := []
  /-- R227: (step, s_applied) -/
  set : List (Nat × Int) := []
  /-- R226: slower tones live at a conversion: (step, position, tone, amplitude, phase at t_i) -/
  slow : List (Nat × Nat × Nat × Nat × Rat) := []
  /-- R226: the slower tones that have been live during the point -/
  slowLive : List Nat := []
  /-- R227, R236: PRB_DIST_LIM in force for the point, mA -/
  lim : Nat := 2000
  /-- R232: groups with a bordering wire SUSPECT or OPEN at some step -/
  wires : List Nat := []
  /-- R227: a braking event since step 0 -/
  disturbed : Bool := false
  /-- R225: groups whose result has been computed or refused -/
  seen : List Nat := []
  /-- R232: some group has published -/
  some_ : Bool := false
  /-- R232: last code of a group that has not -/
  why : Nat := 0
  deriving DecidableEq, Repr

/-- One probe tone. -/
structure Tone where
  /-- R235: LIVE -/
  live : Bool := false
  /-- R235: SETTLE -/
  settle : Bool := false
  /-- R235: REASON -/
  reason : Nat := 0
  /-- R235: PUBLISHED -/
  published : Nat := 0
  /-- R219: the next point is the first since the tone started from rest -/
  fromRest : Bool := true
  /-- R216: enabled in force -/
  en : Bool := false
  /-- R219, R220: the tone is to be live; it starts and stops at its own phase zero -/
  want : Bool := false
  /-- R220: whole cycles of the tone's phase at the last look -/
  cyc : Int := 0
  /-- R216: amplitude in force, mA -/
  amp : Nat := 16000
  /-- R220: the snapshot instant before which the tone neither starts nor stops -/
  after : Option Nat := none
  /-- R234: a write that touches the tone's set waits for its point boundary to be a settle point -/
  chg : Bool := false
  /-- R218, R236: PRB_CONN_FMIN in force for the tone's set, Hz -/
  fmin : Nat := 200
  /-- R89: M, D and PHASE0 of the entry in the active bank; none = no entry -/
  entry : Option (Nat × Nat × Nat) := none
  /-- R89: the present frame tags step j of this tone -/
  tagged : Option Nat := none
  /-- R224: the point in progress -/
  acc : PointAcc := {}
  /-- R225: the point completed and waiting for its batches -/
  ready : Option PointAcc := none
  deriving DecidableEq, Repr

/-- The probe (PRB). -/
structure Prb where
  /-- tones 0 to 3 -/
  tones : List Tone := List.replicate 4 {}
  /-- R235: SUSPENDED -/
  suspended : Bool := false
  /-- R222: ns for which both conditions have held -/
  okNs : Nat := 0
  /-- R235: CLAMP -/
  clamp : Bool := false
  /-- R235: TCAL_BAD -/
  tcalBad : Bool := true
  /-- R235: PRB_DISC_CNT -/
  discCnt : Nat := 0
  deriving DecidableEq, Repr

/-- R248, R249: what a leg's gate lines do in one period: both low; one side held on, from `at_`; or the edges, in 250 ps from the valley:
the low side is on from `lo` to `loOff` (never where lo is not below it), the high side from `hiOn` to `hiOff`, and the low side again from
`loOn`. A turn-on that lies beyond the period's end falls in the next one. -/
inductive Leg
  | low | held (high : Bool) (at_ : Int) | pulse (lo loOff hiOn hiOff loOn : Int)
  deriving DecidableEq, Repr

/-- R273: one phase of the phase modulators. -/
structure Phase where
  /-- R273: ACTIVE -/
  active : Bool := false
  /-- R273: DE -/
  de : Bool := false
  /-- R273: RAMP, 0 none 1 shedding 2 adding -/
  ramp : Nat := 0
  /-- R264: place between the zero-current duties (0) and the common duties (1) -/
  pos : Rat := 0
  /-- R273: FAULT -/
  fault : Nat := 0
  /-- R256: leaves the active set at the next reference boundary -/
  leaving : Bool := false
  /-- R273: TFAIL -/
  tfail : Bool := false
  /-- R273: SHARE -/
  share : Bool := false
  /-- R273: PK_CNT -/
  pkCnt : Nat := 0
  /-- R253: consecutive periods with a peak event -/
  pkRun : Nat := 0
  /-- R253: a peak event has occurred in the present period -/
  pkSeen : Bool := false
  /-- R273: DA in force -/
  da : Nat := 0
  /-- R273: DB in force -/
  db : Nat := 0
  /-- R273: OFS, present carrier offset -/
  ofs : Nat := 0
  /-- R247: offset the carrier moves toward -/
  target : Nat := 0
  /-- R247: length of the phase's present period, 250 ps, stretched or shortened by a move of its carrier -/
  perLen : Nat := 100000
  /-- R273: PHM_PH_I, last control sample, mA -/
  iMa : Int := 0
  /-- R273: PHM_PH_TEMP, 1/64 °C -/
  temp : Int := 0
  /-- R260: periods in a row below PHM_DE_ENTER -/
  deRun : Nat := 0
  /-- R266: periods braked since the declaration -/
  braking : Option Nat := none
  /-- the four gate lines are held low (R255, R252) -/
  gatesLow : Bool := true
  /-- R264, R265: steps of the running ramp, from PHM_SHED_RAMP or PHM_ADD_RAMP as it stood at its start -/
  steps : Nat := 1
  /-- R253, R266: HA, LA, HB and LB: the time-base value from which the switch is off for the rest of the period -/
  cut : List (Option Nat) := [none, none, none, none]
  /-- R259: the synchronous rectifiers of diode emulation: LA and HB (true) or HA and LB; none outside it -/
  sync : Option Bool := none
  /-- R260: when the synchronous switches go off, or went off in the period just ended, ns from the phase's last valley -/
  zcdAt : Option Rat := none
  /-- R248, R249: the edges of the string-side leg -/
  legA : Leg := .low
  /-- R248, R249: the edges of the bus-side leg -/
  legB : Leg := .low
  deriving DecidableEq, Repr

/-- R261: what a tracking sequence is doing, PHM_STAT.TRK. -/
inductive Trk
  | idle | recovery | slewing | dwell | co3Req | zeroHold | stopping
  deriving DecidableEq, Repr

/-- The phase modulators (PHM). -/
structure Phm where
  /-- R273: PHM_EN_MASK (TV) -/
  enMask : Tv := {}
  /-- phases PH0 to PH15 -/
  ph : List Phase := List.replicate 16 {}
  /-- R273: OWNED, by harness -/
  owned : List Bool := [false, false, false, false]
  /-- R241: EN driven high on the owned harnesses -/
  enHigh : Bool := false
  /-- R273: HID_ERR, by harness -/
  hidErr : List Bool := [false, false, false, false]
  /-- R273: BURST -/
  burst : Bool := false
  /-- R262: periods left in the running burst -/
  burstLeft : Nat := 0
  /-- R273: BRAKE -/
  brake : Bool := false
  /-- R273: PER_REF -/
  perRef : Bool := false
  /-- R273: TRK -/
  trk : Trk := .idle
  /-- R269: CO3 has been requested by the tracking start -/
  co3Asked : Bool := false
  /-- R271: the stop has requested CO3 open -/
  co3Drop : Bool := false
  /-- R273: MODE -/
  trkMode : Nat := 0
  /-- R246: period in force, 250 ps -/
  period : Nat := 100000
  /-- R266: periods of normal switching since the last braking phase resumed -/
  sinceBrake : Nat := 2
  /-- R273: PHM_BRAKE_CNT -/
  brakeCnt : Nat := 0
  /-- R273: PHM_SHED_CNT -/
  shedCnt : Nat := 0
  /-- R263: sums of the control samples of the last periods, newest first, mA -/
  iHist : List Int := []
  /-- R263: periods since the last change -/
  sinceChange : Nat := 0
  /-- R271: rate of the running stop, A/s -/
  stopRamp : Nat := 0
  /-- R270: the link for a tone in CONNECTED: 0 left as it is, 1 recovery, 2 brought to the rail, 3 held at the rail -/
  hold : Nat := 0
  /-- R265: active phases that a declared load step needs at the next reference boundary; 0 for none -/
  stepReq : Nat := 0
  /-- R261: periods left of the burst that runs into the loopback in SELFTEST and PRECHARGE -/
  loopLeft : Nat := 0
  deriving DecidableEq, Repr

/-- R281: the state of one taper. -/
structure Taper where
  /-- set point s -/
  s : Rat := 0
  /-- velocity v, per second -/
  v : Rat := 0
  /-- acceleration a, per second squared -/
  a : Rat := 0
  /-- target -/
  target : Rat := 0
  deriving DecidableEq, Repr

/-- R285: a command waiting for its apply time. -/
structure SetCmd where
  /-- apply time, 32 bits -/
  apply : Nat
  /-- R278: mode code -/
  mode : Nat
  /-- set point in the mode's unit -/
  value : Int
  /-- it was late when it arrived -/
  late : Bool := false
  /-- number of its arrival -/
  arr : Nat := 0
  deriving DecidableEq, Repr

/-- R304: one phase of the control engine. -/
structure CtlPhase where
  /-- R304: SAT_P, SAT_I, SAT_FF, SAT_OUT -/
  satf : List Bool := [false, false, false, false]
  /-- R304: integrator, 1/256 mV -/
  x : Int := 0
  /-- R304: CTL_PH_OBS, mA -/
  obs : Int := 0
  /-- R293: consecutive failed samples -/
  obsBad : Nat := 0
  /-- R290: iref_ph of the evaluation before, mA -/
  irefPrev : Rat := 0
  deriving DecidableEq, Repr

/-- The control engine (CTL). -/
structure Ctl where
  /-- R304: CTL_MODE (TV) -/
  mode : Tv := {}
  /-- R304: MODE_ACT -/
  modeAct : Nat := 0
  /-- R304: CTL_CMD_I -/
  cmdI : Nat := 0
  /-- R304: CTL_CMD_P -/
  cmdP : Nat := 0
  /-- R304: CTL_CMD_V -/
  cmdV : Nat := 0
  /-- R304: HOLD -/
  hold : Bool := false
  /-- R297: LOAD requested, waiting for the reference boundary -/
  load : Bool := false
  /-- R281: taper of the active mode -/
  taper : Taper := {}
  /-- R287: taper of the discharge limit, when a fall is followed -/
  limTapD : Option Taper := none
  /-- R287: taper of the charge limit -/
  limTapC : Option Taper := none
  /-- R304: CTL_VREF, mV -/
  vref : Int := 0
  /-- R304: CTL_IREF, mA -/
  iref : Int := 0
  /-- R304: CTL_IFF, mA -/
  iff : Int := 0
  /-- R304: CTL_LIM_DIS, mA -/
  limDis : Nat := 0
  /-- R304: CTL_LIM_CHG, mA -/
  limChg : Nat := 0
  /-- R286: estimator term latched at the frame start, discharge and charge -/
  estTerm : Nat × Nat := (0, 0)
  /-- R286: phases term taken at the reference boundary -/
  phTerm : Nat := 0
  /-- R286: the degraded term is in force -/
  degTerm : Bool := false
  /-- R287: LIM_SRC_D -/
  srcD : Nat := 0
  /-- R287: LIM_SRC_C -/
  srcC : Nat := 0
  /-- R304: CTL_VOCV, mV -/
  vocv : Int := 0
  /-- R304: CTL_RSTR, µΩ -/
  rstr : Nat := 0
  /-- R304: APPLIED -/
  applied : Bool := false
  /-- R304: LATE -/
  late : Bool := false
  /-- R285: PDU queue, ordered by apply time, at most 4 -/
  queue : List SetCmd := []
  /-- R284: register commands waiting for the next outer tick, in arrival order -/
  regQ : List SetCmd := []
  /-- R304: CTL_PDU_IGNORED -/
  ignored : Nat := 0
  /-- R304: CTL_PDU_LATE -/
  lateCnt : Nat := 0
  /-- R304: CTL_PDU_DROP -/
  dropCnt : Nat := 0
  /-- R304: CTL_OVR.PH, by phase -/
  ovrPh : List Bool := List.replicate 16 false
  /-- R304: CTL_OVR.OUT -/
  ovrOut : Bool := false
  /-- R304: CTL_OVR_CNT -/
  ovrCnt : Nat := 0
  /-- R301: the deadlines missed within the last second, newest first: time-base value and tick -/
  ovrTimes : List (Nat × Nat) := []
  /-- R302: ticks since the last record of a low CTL_SPEED; none = not low -/
  slowTicks : Option Nat := none
  /-- R304: OVR_PERSIST -/
  ovrPersist : Bool := false
  /-- R304: CTL_OUT_SATF -/
  outSatf : List Bool := [false, false, false, false]
  /-- R291: outer integrator, 1/256 mA -/
  outX : Int := 0
  /-- R264: DA and DB last computed for a common-duty phase -/
  common : Nat × Nat := (0, 0)
  /-- R222: sum of the tones handed to the inner loops with I_ref, mA -/
  tones : Rat := 0
  /-- R304: CTL_ISUM_DIFF, mA -/
  isumDiff : Int := 0
  /-- R304: ISUM_WARN -/
  isumWarn : Bool := false
  /-- R304: CTL_SPEED, percent -/
  speed : Nat := 0
  /-- R280: droop coefficient in force, mΩ -/
  kd : Nat := 0
  /-- R276: outer divider in force -/
  outerDiv : Nat := 8
  /-- R300: ns of outer intervals whose result was missed, which the next dt covers -/
  missedDt : Nat := 0
  /-- R285: number of the next arrival -/
  arrivals : Nat := 0
  /-- R305: CTL_HOST_LIM_DIS and CTL_HOST_LIM_CHG, stored as TV -/
  hostLim : List Tv := [⟨1600000, 1600000, 1600000⟩, ⟨1600000, 1600000, 1600000⟩]
  /-- R283: stop-ramp or hold reference, mA -/
  ramp : Rat := 0
  /-- R269: link-voltage set point, mV, and its velocity -/
  link : Taper := {}
  /-- phases of the CE -/
  ph : List CtlPhase := List.replicate 16 {}
  deriving DecidableEq, Repr

/-- R318: one direction's derate sequence. -/
structure Derate where
  /-- R323: state, 0 NONE 1 GRACE 2 ENFORCED -/
  st : Nat := 0
  /-- R323: source, 0 none 1 phase 2 hot side 3 cold side -/
  src : Nat := 0
  /-- R323: computed limit, mA -/
  req : Nat := 1600000
  /-- R323: enforced limit, mA -/
  enf : Nat := 1600000
  /-- R323: grace left, in 1/16 ns -/
  grace : Nat := 0
  /-- R318: last limit sent -/
  sent : Nat := 1600000
  /-- R319: last state sent in a message -/
  stSent : Nat := 0
  /-- R323: governing group -/
  grp : Nat := 0
  deriving DecidableEq, Repr

/-- The thermal manager (THM). -/
structure Thm where
  /-- R323: discharge sequence -/
  dis : Derate := {}
  /-- R323: charge sequence -/
  chg : Derate := {}
  /-- R323: HOT_PH -/
  hotPh : Nat := 0
  /-- R323: THM_RO_TEMPk, 1/64 °C -/
  ro : List Int := List.replicate 16 0
  /-- R323: THM_PH_TJ, 1/64 °C -/
  tj : List Int := List.replicate 16 0
  /-- R323: THM_FB_PH, by phase -/
  fbPh : List Bool := List.replicate 16 false
  /-- R309: poles of each phase, °C -/
  poles : List (List Rat) := List.replicate 16 [0, 0, 0, 0]
  /-- R310: δ_p, 1/64 °C -/
  delta : List Int := List.replicate 16 0
  /-- R315: phase factors -/
  fPh : List Rat := List.replicate 16 1
  /-- R315: group factors, discharge -/
  fDis : List Rat := List.replicate 384 1
  /-- R315: group factors, charge -/
  fChg : List Rat := List.replicate 384 1
  /-- R323: T_USED, 1/64 °C -/
  tUsed : List Int := List.replicate 384 0
  /-- R323: SRC -/
  src : List Nat := List.replicate 384 0
  /-- R311: the second value of a group with SRC 2, 1/64 °C -/
  tOther : List Int := List.replicate 384 0
  /-- R313: cell model of each group, 1/64 °C; none = not started -/
  cell : List (Option Rat) := List.replicate 384 none
  /-- R311: ticks for which each group has been STALE -/
  staleTicks : List Nat := List.replicate 384 0
  /-- R311: ticks since the TINT tone last published for the group -/
  tintTicks : List Nat := List.replicate 384 0
  /-- R310: PHM_PH_TEMP − t_model of each phase over the last second, newest first, 1/64 °C -/
  dHist : List (List Rat) := List.replicate 16 []
  /-- R307: ticks since the last record of a hot module, one minute at most -/
  hotAgo : Nat := 491520
  /-- R312: groups logged within the last hour, each with the tick of its record -/
  xLogged : List (Nat × Nat) := []
  /-- R312: THM_XCHK_CNT -/
  xchk : Nat := 0
  /-- R323: coolant inputs, 1/64 °C -/
  cool : List Int := [0, 0, 0, 0]
  /-- R323: flow, mL/s -/
  flow : List Nat := [0, 0]
  /-- R323: fan speed, rpm -/
  rpm : List Nat := [0, 0, 0, 0]
  /-- R323: output duties, valves 0 to 3 then fans 4 to 7, Q0.16 -/
  duty : List Nat := List.replicate 8 0
  /-- R322: the output is driven -/
  driven : List Bool := List.replicate 8 false
  /-- R323: COOL_FAIL -/
  coolFail : List Bool := [false, false, false, false]
  /-- R323: FAN_FAIL -/
  fanFail : List Bool := [false, false, false, false]
  /-- R323: FLOW_LOW -/
  flowLow : List Bool := [false, false]
  /-- R323: COOL_NONE -/
  coolNone : Bool := false
  /-- R307: the hottest sensor is above THM_MOD_TWARN -/
  hot : Bool := false
  /-- R306: ticks since an entry last handed over each source (RO, phases, coolant, flow and tach) -/
  covered : List Nat := [0, 0, 0, 0]
  /-- R86, R306: ticks since an entry last handed over the input of each phase -/
  phCovered : List Nat := List.replicate 16 0
  /-- R90, R308: PHM_PH_TEMP of each phase as last handed over, 1/64 °C -/
  phT : List Int := List.replicate 16 0
  /-- R90, R307: T_nominal of the ring oscillators as last handed over, 1/64 °C; empty before the first sample -/
  roRaw : List Int := []
  /-- R90, R321: frequency of the flow inputs as last handed over, mHz; empty before the first sample -/
  flowRaw : List Nat := []
  /-- R90, R321: frequency of the tachometers as last handed over, mHz; empty before the first sample -/
  tachRaw : List Nat := []
  /-- R16: housekeeping ticks within the 64-tick pacing -/
  pace : Nat := 0
  deriving DecidableEq, Repr

/-- R356: one entry of the safety change log. -/
structure ClogEntry where
  /-- SEQ -/
  seq : Nat
  /-- OPSEC -/
  opsec : Nat
  /-- PCC -/
  pcc : Nat
  /-- KIND -/
  kind : Nat
  /-- SOURCE -/
  source : Nat
  /-- INDEX -/
  index : Nat
  /-- OLD -/
  old : Int
  /-- NEW -/
  new : Int
  /-- CFG_CRC -/
  cfgCrc : Nat
  deriving DecidableEq, Repr

/-- R346: the last status PDU sent on a port. -/
structure StatusPdu where
  /-- SEQ -/
  seq : Nat := 0
  /-- the 20 bytes -/
  bytes : List Byte := []
  /-- R346: address and UDP port that it is sent to -/
  dest : Nat × Nat := (0, 0)
  /-- R383: VLAN ID, priority and next hop of its frame -/
  frame : Nat × Nat × Nat := (0, 6, 0)
  deriving DecidableEq, Repr

/-- R360: the error counters of one port. -/
structure PduErr where
  /-- FMT -/
  fmt : Nat := 0
  /-- CRC -/
  crc : Nat := 0
  /-- CONN -/
  conn : Nat := 0
  /-- WD -/
  wd : Nat := 0
  /-- SEQ -/
  seq : Nat := 0
  deriving DecidableEq, Repr

/-- The saggar safety channel (SAG). -/
structure Sag where
  /-- R71: the isolation latch, in MRAM (log entry 8) -/
  latch : Bool := false
  /-- R360: SAG_ISO_CAUSE, from MRAM -/
  cause : Nat := 0
  /-- R332: causes recorded while the latch is set -/
  causes : List Nat := []
  /-- R332: an 0x11 of a memory or image error, which only a module reset clears -/
  hardDiag : Bool := false
  /-- R328: diagnostics failing now: 0 lockstep, 3 shunt, 4 loop sense, 5 interlock comparators, 6 supplies, 7 X8 streams -/
  diagBad : List Nat := []
  /-- R332: recorded causes whose own clearing condition has been observed since they arose (0x0A 0x0B 0x0C 0x0D 0x0F 0x10 0x11 0x16 0x18)
  -/
  cleared : List Nat := []
  /-- R360: SAG_DEG_FAULTS, bits 0 to 9 -/
  deg : List Bool := List.replicate 10 false
  /-- R344: the degraded timer is running -/
  degRun : Bool := false
  /-- R344: time run, 1/16 ns -/
  degRunT : Nat := 0
  /-- R338: coil path of COk energised -/
  coil : List Bool := [false, false, false, false]
  /-- R338: COk is in pull-in -/
  pullin : List Bool := [false, false, false, false]
  /-- R339: COk requested by the state machine -/
  want : List Bool := [false, false, false, false]
  /-- R341, R360: contactor k fails its auxiliary check (entry k) or its voltage check (entry 4 + k) -/
  weld : List Bool := List.replicate 8 false
  /-- R332: the check of this place has failed and not passed since, as the latch record keeps it for a cause 0x0D -/
  weldWait : List Bool := List.replicate 8 false
  /-- R360: SAG_TP_STAT -/
  tpFail : List Bool := List.replicate 8 false
  /-- R332: the switch has failed and not passed a test since, as the latch record keeps it for a cause 0x0F -/
  tpWait : List Bool := List.replicate 8 false
  /-- R341: COk's contact has read closed since its path was energised -/
  seen : List Bool := [false, false, false, false]
  /-- R340: slots skipped in a row -/
  tpSkip : List Nat := List.replicate 8 0
  /-- R360: LAST_SEQ -/
  lastSeq : Nat := 0
  /-- R360: RUN -/
  run : Bool := false
  /-- R360: SESSION -/
  session : Bool := false
  /-- R360: NET_A -/
  netA : Bool := false
  /-- R360: NET_B -/
  netB : Bool := false
  /-- R350: the first copy of the last PDU, its port, and whether a second copy is still awaited -/
  first : List Byte := []
  /-- R350: port of the first copy -/
  firstPort : PortId := .a
  /-- R350: a second copy is awaited -/
  pairOpen : Bool := false
  /-- R360: SAG_PDU_ERR_A and _B -/
  err : List PduErr := [{}, {}]
  /-- R360: SAG_PDU_MISS_A and _B -/
  missCnt : List Nat := [0, 0]
  /-- R360: SAG_PDU_MISMATCH -/
  mismatch : Nat := 0
  /-- R350: consecutive PDUs lacking their copy from A and from B -/
  missRun : List Nat := [0, 0]
  /-- R350: consecutive PDUs with both copies matching -/
  okRun : Nat := 0
  /-- R346: ports on which a valid command PDU has come since BOOT -/
  heard : List Bool := [false, false]
  /-- R346: source address and UDP port of the last valid command PDU on each port -/
  dest : List (Nat × Nat) := [(0, 0), (0, 0)]
  /-- R346: the module's own status SEQ -/
  statSeq : Nat := 0
  /-- R346: last status PDU sent on each port -/
  stat : List (Option StatusPdu) := [none, none]
  /-- R360: CHG_FORBID -/
  chgForbid : Bool := false
  /-- R360: DIS_FORBID -/
  disForbid : Bool := false
  /-- R337: ticks for which every group has been back inside, charge and discharge -/
  backTicks : Nat × Nat := (0, 0)
  /-- R24, R325: T_used of each group as the thermal manager last wrote it, 1/64 °C -/
  tUsed : List Int := List.replicate 384 0
  /-- R337: ticks since the last T_used update -/
  tUsedAge : Nat := 0
  /-- R337: recent shunt means, newest first, mA -/
  shuntHist : List Int := []
  /-- R360: LOST -/
  lost : Nat := 0
  /-- R57, R342: ILK_TEST_DONE -/
  ilkDone : Bool := false
  /-- R342: the interlock has been opened in this test -/
  ilkOpened : Bool := false
  /-- R355: login, channel and source -/
  login : Option (Nat × Src) := none
  /-- R355: staged values -/
  staged : List (Nat × Int) := []
  /-- R360: SAG_LOGIN.FAIL -/
  loginFail : Nat := 0
  /-- R360: SAG_LOGIN.LOCKED -/
  locked : Bool := false
  /-- R354: the model's clock at the start of the lock -/
  lockAt : Nat := 0
  /-- R353: salt and digest of the password; none = no password set -/
  pw : Option (Nat × Nat) := none
  /-- R358: the 30 safety parameters in force, ascending index -/
  cfg : List Int := [370, 230, 0, 2880, -1280, 3840, 36500, 25000, 2, 1760000, 1760000, 1000, 4160,
    9600, 20000, 1000, 2, 600, 800000, 800000, 1, 100, 20, 10, 0, 100, 50000, 100, 200, 22938]
  /-- R358: a valid configuration slot was found at BOOT -/
  cfgValid : Bool := true
  /-- R426: the voted mirror, three copies of each word -/
  pmir : List Tv := List.replicate 30 {}
  /-- R358: the two configuration slots (log entry 8): slot 0 holds the defaults -/
  slots : List TwoSlot := [{ valid := true, seq := 1 }, {}]
  /-- R356: the change log, oldest first (log entry 8) -/
  clog : List ClogEntry := []
  /-- R357: SEQ last acknowledged as exported -/
  clogAck : Nat := 0
  /-- R330: consecutive valid sweeps of each group at or above SAG_OV_HARD -/
  ovRun : List Nat := List.replicate 384 0
  /-- R330: likewise at or below SAG_UV_HARD -/
  uvRun : List Nat := List.replicate 384 0
  /-- R330: consecutive valid sweeps of each node with an NTC reading at or above SAG_OT_CELL -/
  otRun : List Nat := List.replicate 48 0
  /-- R330: consecutive 1 ms windows of each phase at or above SAG_OT_PH -/
  otPhRun : List Nat := List.replicate 16 0
  /-- R327: protection cycles in time since the last overrun, up to 8,192 -/
  goodCycles : Nat := 0
  /-- R372: the ISOLATE line is asserted by this module -/
  isolateOut : Bool := false
  /-- R365: the isolation demand is being repeated to the partner -/
  demandOut : Bool := false
  /-- R372: a demand from the partner stands -/
  demandIn : Bool := false
  /-- R328: ticks in a row with the two loop readings apart, and with the two interlock comparators apart -/
  apart : Nat × Nat := (0, 0)
  /-- R328: comparisons in a row of the two shunt means that were apart -/
  shuntRun : Nat := 0
  /-- R355, R438: the commit being written: the staged values and their SOURCE -/
  job : Option (List (Nat × Int) × Nat) := none
  deriving DecidableEq, Repr

/-- R366: what the last partner heartbeat said. -/
structure Partner where
  /-- SEQ -/
  seq : Nat := 0
  /-- VER -/
  ver : Nat := 0
  /-- effective position -/
  pos : Nat := 0
  /-- owner -/
  owner : Bool := false
  /-- strapped position -/
  strap : Nat := 0
  /-- isolation latch -/
  latch : Bool := false
  /-- STATE code -/
  st : Nat := 0
  /-- BASE code -/
  base : Nat := 0
  /-- CO_CMD -/
  coCmd : List Bool := [false, false, false, false]
  /-- FRAME -/
  frame : Nat := 0
  /-- MIRROR_SEQ -/
  mirrorSeq : Nat := 0
  /-- HEALTH -/
  health : Nat := 0
  /-- DEG_LEFT, ms -/
  degLeft : Nat := 0xFFFFFFFF
  deriving DecidableEq, Repr

/-- R424: the events that a "Takes effect" entry of a parameter table names. -/
inductive When
  /-- R103: the realignment of R77 -/
  | realign
  /-- R103: a LOG_CHECKPOINT -/
  | checkpoint
  /-- R145: a join -/
  | join
  /-- R145: a beacon freeze -/
  | freeze
  /-- R145: a key epoch advance -/
  | advance
  /-- R145: BOOT; a write acts once it is committed and loaded again -/
  | boot
  /-- R145: a node command sent -/
  | command
  /-- R215: the start of a rest period -/
  | rest
  /-- R215: both OCV tables written -/
  | tables
  /-- R236: a point boundary of the probe -/
  | point
  /-- R236: a publication of the probe -/
  | publish
  /-- R274: a reference boundary, at which a period begins -/
  | refBound
  /-- R274: a second of the operating clock -/
  | second
  /-- R274: CMD_DISPATCH_ON -/
  | track
  /-- R274: a burst -/
  | burst
  /-- R274: a shed -/
  | shed
  /-- R274: an add -/
  | add
  /-- R274: a stop -/
  | stop
  /-- R274: the declaration of a load release -/
  | release
  /-- R305: a set point command -/
  | setPoint
  /-- R324: a housekeeping tick -/
  | tick
  /-- R324: a frame start -/
  | frame
  /-- R416: a link-up of port A -/
  | linkUpA
  /-- R416: a link-up of port B -/
  | linkUpB
  /-- R416: a link-up of either port -/
  | linkUp
  /-- R416: an offset of the time servo -/
  | offset
  /-- R215: a calibration discharge -/
  | cal
  deriving DecidableEq, Repr

/-- R424: where a pending BW write takes effect; `later` waits for FRAME_END and then for its event. -/
inductive Bound
  | frameEnd | inner (p : Nat) | outer | frameStart | valley (p : Nat) | sample (p : Nat) | on (w : When) | later (w : When)
  deriving DecidableEq, Repr

/-- R423: a pending BW write. -/
structure BwWrite where
  /-- parameter index -/
  idx : Nat
  /-- value -/
  val : Int
  /-- boundary -/
  at_ : Bound
  /-- R297: a LOAD has released it to its boundary -/
  loaded : Bool := false
  deriving DecidableEq, Repr

/-- R367: the owner's state as one push carries it. -/
structure Mirror where
  /-- FRAME of the push -/
  frame : Nat := 0
  /-- R179, R211, R234: group records -/
  recs : List GroupRec := []
  /-- R211: estimator state -/
  est : Est := {}
  /-- R179: flags and run counts -/
  mea : Option Mea := none
  /-- R319: thermal state -/
  thm : Thm := {}
  /-- R303: CE state -/
  ctl : Ctl := {}
  /-- R303: coefficients that differ from their defaults -/
  coef : List (Nat × Int) := []
  /-- R303: coefficient writes pending -/
  pend : List BwWrite := []
  /-- R367: duties and masks -/
  ph : List Phase := []
  /-- R367: enabled mask -/
  enMask : Nat := 0
  /-- R143: SNID -/
  snid : Nat := 0
  /-- R143: link key -/
  kL : Option Nat := none
  /-- R143: pairing table -/
  pair : List PairRow := []
  /-- R143: epoch -/
  epoch : Nat := 0
  /-- R143, R367: frame counters of the two units -/
  fc : List Nat := [0, 0]
  /-- R143, R367: frame counters last accepted from the nodes -/
  nodeFc : List (Option Nat) := []
  /-- R234, R429: the probe, whose registers the pilot shows -/
  prb : Prb := {}
  /-- R367: FSQ active bank -/
  active : Nat := 0
  /-- R367: cursors -/
  cursors : List (Nat × Nat) := []
  /-- R367: frame count of R89 -/
  n : Nat := 0
  /-- R204, R211: operating seconds of the owner, by which the full anchors are timed -/
  opsec : Nat := 0
  /-- R367: degraded timer running -/
  degRun : Bool := false
  /-- R367: degraded time run, 1/16 ns -/
  degRunT : Nat := 0
  /-- R367: SYS_STATE.STATE -/
  st : OpState := .connected
  /-- R367: SYS_STATE.BASE -/
  base : OpState := .connected
  /-- R47: origin -/
  originDisp : Bool := false
  /-- R272: a stop or a zero hold that runs -/
  trk : Trk := .idle
  /-- R272: rate of the running stop, A/s -/
  stopRamp : Nat := 0
  /-- R272: the stop has requested CO3 open -/
  co3Drop : Bool := false
  deriving DecidableEq, Repr

/-- R381: SWAP, how far a switchover has got. -/
inductive SwapSt
  | idle | requested | ready | frozen | takeSent | done | abandoned | refused
  deriving DecidableEq, Repr

/-- The pair link (PRL). -/
structure Prl where
  /-- R362, R381: PRL_MODE taken at BOOT, 1 = pair -/
  mode : Nat := 0
  /-- R381: POS, effective position -/
  pos : Nat := 0
  /-- R381: POS_CLASH -/
  clash : Bool := false
  /-- R381: OWNER -/
  owner : Bool := false
  /-- R381: PARTNER_OK -/
  partnerOk : Bool := false
  /-- R381: PATHS_REL -/
  pathsRel : Bool := false
  /-- R381: VER -/
  ver : Nat := 0
  /-- R381: SWAP -/
  swap : SwapSt := .idle
  /-- R374: the pilot's side of a switchover: READY sent -/
  pilotReady : Bool := false
  /-- R374: boundary B named in TAKE -/
  boundary : Nat := 0
  /-- R374: time of the first frozen update point -/
  frozenAt : Nat := 0
  /-- R267: the gap of a handover that waits for braking to end -/
  heldB : Option Nat := none
  /-- R376: time of a takeover decision that waits for its reference boundary -/
  takeDue : Option Nat := none
  /-- R439: mailbox channel that waits for the end of the switchover -/
  swapChan : Option Nat := none
  /-- R378: REF, the last reference check -/
  refOk : Bool := false
  /-- R378: PWM readback passes -/
  pwmOk : Bool := false
  /-- R378: an uncorrectable error since BOOT -/
  eccBad : Bool := false
  /-- R378: LOOP_RES, result of the last reserve test -/
  loopRes : Bool := false
  /-- R378: a saggar diagnostic has failed -/
  sagBad : Bool := false
  /-- R368: a latch of the present frame differs from the owner's -/
  latchDiff : Bool := false
  /-- R368: consecutive frames with such a difference -/
  latchRun : Nat := 0
  /-- R368: the latch check is passing -/
  latchOk : Bool := true
  /-- R381: PRL_HEALTH_PART -/
  healthPart : Nat := 0
  /-- R381: PRL_MIRROR_SEQ -/
  mirrorSeq : Nat := 0
  /-- R381: PRL_MIRROR_AGE -/
  mirrorAge : Nat := 0xFFFF
  /-- R381: PRL_LAST_GAP, ns -/
  lastGap : Nat := 0
  /-- R381: PRL_SWAP_CNT -/
  swapCnt : Nat := 0
  /-- R381: PRL_HB_MISS -/
  hbMiss : Nat := 0
  /-- R381: PRL_RX_ERR -/
  rxErr : Nat := 0
  /-- R366: SEQ of the own heartbeat -/
  hbSeq : Nat := 0
  /-- R366: the last heartbeat of the partner -/
  partner : Option Partner := none
  /-- R371: consecutive valid heartbeats -/
  hbRun : Nat := 0
  /-- R364: housekeeping ticks since the last valid heartbeat, up to the 41 that 5 ms take -/
  hbQuiet : Nat := 0
  /-- R367: parts received of the push under way: MIRROR_SEQ, and each part by number with its data -/
  parts : Nat × List (Nat × List Byte) := (0, [])
  /-- R365: the payload last sent on the pair link -/
  out : List Byte := []
  /-- R365: the parts of the push last sent, in order -/
  sentParts : List (List Byte) := []
  /-- R375: the dispatch PDUs forwarded to the new owner, oldest first -/
  fwd : List (List Byte) := []
  /-- R369: housekeeping ticks left of the 10 ms of a reserve test -/
  resLeft : Nat := 0
  /-- R90, R367: the push last sent: its scope, and the owner's state that it carries -/
  pushed : Option (Nat × Mirror) := none
  /-- R367: the copy last adopted whole -/
  copy : Option Mirror := none
  /-- R374: outputs and CE evaluation are frozen -/
  frozen : Bool := false
  /-- R211: this module's own QINT when the copy was adopted last, µC -/
  qintAt : Int := 0
  /-- R486: KIND of the record 0x0B04 that the first snapshot of a new owner posts: 1 switchover, 2 takeover, 0 none -/
  takeKind : Nat := 0
  /-- R375: dispatch PDUs are forwarded to the new owner since this tick of the model's clock, the one of boundary B -/
  forwardAt : Option Nat := none
  /-- R369: the loop regulator set point, µA -/
  regUa : Nat := 10000
  deriving DecidableEq, Repr

/-- R398: an attention message. -/
structure Attn where
  /-- ASEQ -/
  aseq : Nat
  /-- CODE -/
  code : Nat
  /-- SEV -/
  sev : Nat
  /-- OPSEC -/
  opsec : Nat
  /-- TIME -/
  time : Nat
  /-- DATA, used bytes -/
  data : List Nat
  /-- R400: sends made -/
  sends : Nat := 1
  /-- R400: port of the last send -/
  port : PortId := .a
  deriving DecidableEq, Repr

/-- R388: a transaction reply. -/
structure Reply where
  /-- TYPE -/
  type : Nat
  /-- R390: STATUS -/
  status : Nat
  /-- payload bytes -/
  payload : List Byte := []
  /-- FLAGS bit 1 -/
  resent : Bool := false
  deriving DecidableEq, Repr

/-- R396: a transaction that waits for a mailbox reply. -/
structure Waiting where
  /-- TID -/
  tid : Nat
  /-- channel -/
  chan : Nat
  /-- R386: port of the request -/
  port : PortId := .a
  /-- R386: how the request came -/
  net : Net := {}
  deriving DecidableEq, Repr

/-- R386, R388: a datagram that the module has sent. -/
structure Sent where
  /-- destination address -/
  addr : Nat
  /-- destination UDP port -/
  udp : Nat
  /-- R386: source address -/
  src : Nat := 0
  /-- R386: source UDP port -/
  sudp : Nat := 48048
  /-- R383: VLAN ID of the frame; 0 untagged -/
  vlan : Nat := 0
  /-- R383: priority of the frame -/
  prio : Nat := 0
  /-- R383: the address that the frame goes to on the link: the destination, or the gateway -/
  hop : Nat := 0
  /-- header and payload -/
  bytes : List Byte
  deriving DecidableEq, Repr

/-- R394: one session. -/
structure Session where
  /-- SESSION number -/
  num : Nat
  /-- protocol version -/
  ver : Nat
  /-- HOST_ID; none in version 1 -/
  host : Option Nat
  /-- ATTN_MASK -/
  mask : Nat
  /-- port last used -/
  port : PortId
  /-- source address -/
  addr : Nat
  /-- source UDP port -/
  udp : Nat
  /-- R391: TID of the kept reply -/
  tid : Nat := 0
  /-- R391: the kept reply -/
  kept : Option Reply := none
  /-- R400: unacknowledged messages, oldest first -/
  queue : List Attn := []
  /-- R400: messages dropped that no acknowledged 0x00FF has reported -/
  lost : Nat := 0
  /-- R396: transactions that wait for a mailbox reply -/
  waiting : List Waiting := []
  deriving DecidableEq, Repr

/-- R415: error counters of dispatch PDUs of one port. -/
structure DispErr where
  /-- FMT -/
  fmt : Nat := 0
  /-- CRC -/
  crc : Nat := 0
  /-- CONN -/
  conn : Nat := 0
  /-- OLD -/
  old : Nat := 0
  /-- NOENT -/
  noent : Nat := 0
  deriving DecidableEq, Repr

/-- The plant link (PLK). -/
structure Plk where
  /-- R415: LINK_A, LINK_B -/
  link : List Bool := [false, false]
  /-- R394: the sessions -/
  sessions : List Session := []
  /-- R392: number to give to the next session (log entry 9) -/
  nextNum : Nat := 1
  /-- R415: PLK_RX_DROP_A, _B -/
  rxDrop : List Nat := [0, 0]
  /-- R415: PLK_DISP_STAT.LAST_SEQ -/
  dispSeq : Nat := 0
  /-- R415: SERIES -/
  series : Bool := false
  /-- R415: PLK_DISP_ERR_A, _B -/
  dispErr : List DispErr := [{}, {}]
  /-- R415: PLK_DISP_DUP -/
  dispDup : Nat := 0
  /-- R415: PLK_ATTN_LOST -/
  attnLost : Nat := 0
  /-- R430: SYS_ATTN_ASEQ -/
  aseq : Nat := 0
  /-- R430: SYS_ATTN_STAT.CODES and LOST (bit 15) -/
  attnStat : List Bool := List.replicate 16 false
  /-- R430: SYS_ATTN_LAST code and severity -/
  attnLast : Nat × Nat := (0, 0)
  /-- R390: the reply to a request outside any session, last sent -/
  lastLoose : Option Reply := none
  /-- R386, R398: the datagram last sent from each port -/
  sent : List (Option Sent) := [none, none]
  /-- R383: the answer of a network service last sent on each port -/
  service : List (Option SvcFrame) := [none, none]
  deriving DecidableEq, Repr

/-- R407: the states a PTP port uses. -/
inductive PtpSt
  | initializing | listening | uncalibrated | timeReceiver | passive | faulty | disabled
  deriving DecidableEq, Repr

/-- R407: what a time transmitter announces. -/
structure Announced where
  /-- identity of the sending port -/
  sender : Nat
  /-- its place in the comparison of data sets, lower is better -/
  rank : Nat
  /-- grandmaster identity -/
  gm : Nat
  deriving DecidableEq, Repr

/-- R407: one PTP port. -/
structure PtpPort where
  /-- port state -/
  st : PtpSt := .initializing
  /-- the data sets announced on the port, one for each sender -/
  heard : List Announced := []
  /-- a Sync of a two-step sender waits for its Follow_Up: sequence and ingress time at the connector, ps -/
  syncWait : Option (Nat × Int) := none
  /-- a Delay_Req or Pdelay_Req waits for its response: sequence and egress time at the connector, ps -/
  reqWait : Option (Nat × Int) := none
  /-- Pdelay_Req answered last: sequence -/
  answered : Nat := 0
  /-- sequence number of the next request -/
  reqSeq : Nat := 0
  /-- path delay of the port with its asymmetry, ps -/
  delay : Int := 0
  /-- origin, ns, and ingress time at the connector, ps, of the Sync last used -/
  lastSync : Option (Int × Int) := none
  deriving DecidableEq, Repr

/-- R408: the lamplighter's time states. -/
inductive LmpSt
  | freerun | acquiring | locked | holdover
  deriving DecidableEq, Repr

/-- The lamplighter (LMP). -/
structure Lmp where
  /-- R415: LMP_TIME, 32 bits -/
  time : Nat := 0
  /-- R18: time of the last housekeeping tick, 1/16 ns -/
  tick16 : Nat := 0
  /-- R415: STATE -/
  st : LmpSt := .freerun
  /-- R415: PORT -/
  port : Nat := 0
  /-- R415: STEPPED -/
  stepped : Bool := false
  /-- R415: SEC_VALID -/
  secValid : Bool := false
  /-- R415: SLEWING -/
  slewing : Bool := false
  /-- R415: LMP_OFFSET, ns -/
  offset : Int := 0
  /-- R415: LMP_MPD, ns -/
  mpd : Int := 0
  /-- R415: LMP_RATE, 0.001 ppb -/
  rate : Int := 0
  /-- R415: LMP_GM_ID, 64 bits -/
  gmId : Nat := 0
  /-- R407, R408: the time transmitter that is the source -/
  src : Nat := 0
  /-- R415: LMP_SEC_MARK -/
  secMark : Nat := 0
  /-- R415: LMP_EXT_TB -/
  extTb : Nat := 0
  /-- R415: LMP_EXT_SEC_LO and HI, 48 bits -/
  extSec : Nat := 0
  /-- R415: updates counted -/
  extCnt : Nat := 0
  /-- R415: LMP_CORR_IN_A, EG_A, IN_B, EG_B, ps, factory values (log entry 4) -/
  corr : List Int := [0, 0, 0, 0]
  /-- R415: LMP_TRIG0 to 3 -/
  trig : List Nat := [0, 0, 0, 0]
  /-- R415: FIRED -/
  fired : List Bool := [false, false, false, false]
  /-- R415: ARMED -/
  armed : List Bool := [false, false, false, false]
  /-- R415: STEPPED by trigger -/
  trigStep : List Bool := [false, false, false, false]
  /-- R408: consecutive offsets within ±1 µs while ACQUIRING -/
  good : Nat := 0
  /-- R408: the time source has moved and its first offset is awaited -/
  moved : Bool := false
  /-- R411: step waiting for the frame boundary, ns -/
  step : Option Int := none
  /-- R412: time-base value at which the next PTP second begins, as the last Sync showed it -/
  secAt : Option Nat := none
  /-- R407: ports A and B -/
  ports : List PtpPort := [{}, {}]
  deriving DecidableEq, Repr

/-- R436: a frozen request. -/
structure Request where
  /-- CODE -/
  code : Nat
  /-- TAG -/
  tag : Nat
  /-- LEN as the header states it -/
  len : Nat
  /-- R436: the reserved half-word of the header -/
  resv : Nat := 0
  /-- parameter bytes present after the header -/
  params : List Byte
  deriving DecidableEq, Repr

/-- R434: channel states. -/
inductive ChSt
  | idle | queued | running | done | held
  deriving DecidableEq, Repr

/-- R433: one mailbox channel. -/
structure Chan where
  /-- R433: STATE -/
  st : ChSt := .idle
  /-- R433: SRC -/
  src : Src := .portA
  /-- R433: WR_LOST -/
  wrLost : Bool := false
  /-- R433: DONE_CNT -/
  doneCnt : Nat := 0
  /-- R433: request buffer, 1 KiB -/
  reqBuf : Mem := []
  /-- R433: reply buffer, 1 KiB -/
  repBuf : Mem := []
  /-- R434: the frozen request -/
  req : Option Request := none
  /-- R467: it was RUNNING when the MGP went away -/
  wasRunning : Bool := false
  /-- R438: outcome of a long operation whose reply has not been posted: RC, DETAIL, data -/
  outcome : Option (Nat × Nat × List Byte) := none
  deriving DecidableEq, Repr

/-- The mailboxes (MBX). -/
structure Mbx where
  /-- R433: channels 0 to 3 -/
  ch : List Chan := List.replicate 4 {}
  /-- R433: LONG -/
  long : Bool := false
  /-- R435: channels QUEUED, in acceptance order -/
  order : List Nat := []
  /-- R438: long operation the MGP started itself: 1 schedule load, 2 capacity commit -/
  own : Nat := 0
  deriving DecidableEq, Repr

/-- The parameter store. -/
structure Par where
  /-- R453: settings in force that differ from their defaults, ascending index -/
  work : List (Nat × Int) := []
  /-- R423: pending BW writes, in order of arrival -/
  pend : List BwWrite := []
  /-- R454: the two settings slots (log entry 7) -/
  slots : List TwoSlot := [{}, {}]
  /-- R438, R453: the settings record being written -/
  job : Option (List (Nat × Int)) := none
  deriving DecidableEq, Repr

/-- R459: one part of a manifest, with its bytes once it stands in a bank. -/
structure Part where
  /-- KIND -/
  kind : Nat
  /-- SLOT -/
  slot : Nat := 0
  /-- VERSION -/
  version : Nat := 0
  /-- LENGTH -/
  length : Nat := 0
  /-- FORMAT -/
  format : Nat := 0
  /-- DIGEST, 32 bytes as a number, byte 0 lowest -/
  digest : Nat := 0
  /-- R460: the part's bytes -/
  data : List Byte := []
  deriving DecidableEq, Repr

/-- R458: a manifest that has passed R461. -/
structure Manifest where
  /-- MAN_ID -/
  id : Nat
  /-- part entries -/
  parts : List Part
  deriving DecidableEq, Repr

/-- R104: what a stored-schedule slot holds. -/
structure SchedImage where
  /-- MAGIC, FORMAT and DIGEST check -/
  checks : Bool := false
  /-- SCHED_ID -/
  id : Nat := 0
  /-- LEN -/
  len : Nat := 1
  /-- FLAGS -/
  flags : Nat := 0
  /-- NAME -/
  name : List Byte := []
  /-- the entries, 128 bits each -/
  entries : List Nat := []
  deriving DecidableEq, Repr

/-- R471, R472: the roll-out of DN8 firmware. -/
inductive Rollout
  | none | staging | activating (node : Nat)
  deriving DecidableEq, Repr

/-- Update staging and the bisque loader (UPD). -/
structure Upd where
  /-- R442: PHASE: 0 none 1 receiving 2 staged 3 activating -/
  phase : Nat := 0
  /-- R442: MAN_LEN of the update -/
  manLen : Nat := 0
  /-- R462: FAMILY of the downstream neighbour; 0 none -/
  nextFam : Nat := 0
  /-- R462: address of the neighbour, 16 bytes as a number -/
  nextAddr : Nat := 0
  /-- R462: UDP port of the neighbour -/
  nextPort : Nat := 0
  /-- R461: bytes of the manifest received; their number is its NEXT -/
  manBuf : List Byte := []
  /-- R458: the manifest, once complete and checked -/
  man : Option Manifest := none
  /-- R402: bytes of each part received; their number is its NEXT -/
  cur : List (List Byte) := []
  /-- R462: parts whose DIGEST and signature have checked -/
  checked : List Nat := []
  /-- R462: NEXT at the neighbour by part, 0xFFFF the manifest -/
  fwdNext : List (Nat × Nat) := []
  /-- R462: the block sent to the neighbour last: part and offset -/
  fwdSent : Option (Nat × Nat) := none
  /-- R462: blocks sent, one every 100 ms, since the neighbour's NEXT last moved -/
  fwdStall : Nat := 0
  /-- R462: SESSION at the neighbour, once its HELLO is answered -/
  fwdSess : Option Nat := none
  /-- R388, R462: TID of the request to the neighbour that awaits its answer -/
  fwdTid : Nat := 0
  /-- R388, R462: the datagram sent to the neighbour last -/
  fwdOut : List Byte := []
  /-- R460: parts complete in the bank that is not in force, by kind and slot (log entry 7) -/
  bank : List Part := []
  /-- R460: parts in force (log entry 7) -/
  force : List Part := []
  /-- R460: kinds and slots whose part in force stands in bank 1 -/
  bank1 : List (Nat × Nat) := []
  /-- R460: kinds and slots that the unconfirmed activation record has changed -/
  act : List (Nat × Nat) := []
  /-- R460: CONFIRMED -/
  confirmed : Bool := true
  /-- R465: the loader is replacing the MGP -/
  handoff : Bool := false
  /-- R465: the image is copied and checked, and the MGP started -/
  copied : Bool := false
  /-- R466: the previous image is being restored -/
  rolledBack : Bool := false
  /-- R466: a new image starts from BOOT, in the loader-only service -/
  loaderStart : Bool := false
  /-- R469: the defaults of a new settings format wait for the end of the stop -/
  defaultsDue : Bool := false
  /-- R470: a saggar reset is due after confirmation -/
  sagReset : Bool := false
  /-- R471: DN8 roll-out -/
  roll : Rollout := .none
  /-- R471: the DN8 part rolled out -/
  rollPart : Part := { kind := 5 }
  /-- R472: bank that the node under activation is to run -/
  rollBank : Nat := 0
  /-- R472: that node has acknowledged FW_ACTIVATE -/
  rollAcked : Bool := false
  /-- R472: valid sweeps of that node with the new bank active -/
  rollSeen : Nat := 0
  /-- R471: nodes left on their present firmware -/
  left : List Nat := []
  /-- R471: nodes that answered RESULT 0x04 once -/
  again : List Nat := []
  /-- R471: nodes staged in this roll-out, with the bank that holds the image -/
  rolled : List (Nat × Nat) := []
  /-- R472: nodes done -/
  done : Nat := 0
  /-- R104: the stored schedules of slots 0 to 3 in force (log entry 7) -/
  sched : List SchedImage := List.replicate 4 {}
  deriving DecidableEq, Repr

/-- R478: one record of the event log. -/
structure LogRec where
  /-- SEQ_A = SEQ_B; 0 = not yet written -/
  seq : Nat := 0
  /-- PCC -/
  pcc : Nat
  /-- OPSEC -/
  opsec : Nat
  /-- TIME -/
  time : Nat
  /-- CODE -/
  code : Nat
  /-- SEV -/
  sev : Nat
  /-- SRC -/
  src : Nat
  /-- DATA, six bytes -/
  data : List Nat
  deriving DecidableEq, Repr

/-- R485: one isolation snapshot. -/
structure Snapshot where
  /-- ISO_SEQ -/
  seq : Nat := 0
  /-- PCC -/
  pcc : Nat := 0
  /-- OPSEC -/
  opsec : Nat := 0
  /-- TIME -/
  time : Nat := 0
  /-- CAUSE -/
  cause : Nat := 0
  /-- VALID -/
  valid : Bool := false
  /-- the group records -/
  recs : List GroupRec := []
  deriving DecidableEq, Repr

/-- The event recorder (LOG) and the MRAM controller. -/
structure Log where
  /-- R478: written slots: slot, record, tick of the write (log entry 7) -/
  slots : List (Nat × LogRec × Nat) := []
  /-- R487: LOG_SEQ -/
  seq : Nat := 0
  /-- R487: LOG_FLOOR -/
  floor : Nat := 0
  /-- R487: LOG_CURSOR -/
  cursor : Nat := 0
  /-- R480: slots freed by the hourly pass -/
  freed : List Nat := []
  /-- R487: LOG_DROP -/
  drop : Nat := 0
  /-- R487: DROPPED -/
  dropped : Bool := false
  /-- R487: WEAR_HOLD -/
  wearHold : Bool := false
  /-- R481: drops not yet reported by an 0x0F02 -/
  unreported : Nat := 0
  /-- R478: records waiting, at most 64 -/
  queue : List LogRec := []
  /-- R479: the BOOT scan has ended -/
  scanned : Bool := false
  /-- R487: LOG_WIN_SLOT.SLOT -/
  winSlot : Nat := 0
  /-- R487: LOG_WIN_SLOT.AREA -/
  winArea : Bool := false
  /-- R485: snapshot slots -/
  snaps : List Snapshot := [{}, {}]
  /-- R485: a snapshot is due for the isolation with this cause -/
  snapDue : Option Nat := none
  /-- R487: NVM_ECC_CORR -/
  eccCorr : Nat := 0
  /-- R487: NVM_ECC_UNC -/
  eccUnc : Nat := 0
  /-- R487: NVM_ECC_ADDR -/
  eccAddr : Nat := 0
  /-- R487: NVM_WR_DENY -/
  wrDeny : Nat := 0
  /-- R475: PD0 backup slots: sequence, OPSEC, PCC -/
  pd0 : List (Nat × Nat × Nat) := [(0, 0, 0), (0, 0, 0)]
  /-- R66, R475: a banked state was committed by a completed brown-out shutdown -/
  bankedBo : Bool := false
  /-- R210: banked count state: records -/
  banked : Option (List GroupRec × Est) := none
  /-- R210: the count-state checkpoint: records and qint_done -/
  ckpt : Option (List GroupRec × List Int) := none
  deriving DecidableEq, Repr

/-- R494: when a capture of the control engine starts. -/
inductive CeTrig
  | now | ovr | brake
  deriving DecidableEq, Repr

/-- R494: one captured evaluation. -/
structure CeRec where
  /-- time-base value of the update point -/
  time : Nat
  /-- control sample, mA -/
  sample : Int
  /-- iref_ph, mA -/
  iref : Rat
  /-- DA -/
  da : Nat
  /-- DB -/
  db : Nat
  /-- integrator, 1/256 mV -/
  x : Int
  /-- SATF -/
  satf : List Bool
  /-- OVR bit of the phase -/
  ovr : Bool
  deriving DecidableEq, Repr

/-- The spyhole monitor (SPY). -/
structure Spy where
  /-- R491: a session is open -/
  openS : Bool := false
  /-- R491: it has carried out a write -/
  wrote : Bool := false
  /-- R490, R493: the data lines that the last command printed -/
  out : List String := []
  /-- R490: the status line of the last command -/
  status : String := "OK"
  /-- R494: capture under way: phase and trigger -/
  ce : Option (Nat × CeTrig) := none
  /-- R494: the trigger has fired -/
  ceFired : Bool := false
  /-- R494: records still to be captured once it has -/
  ceLeft : Nat := 0
  /-- R494: records captured, newest first -/
  ceRecs : List CeRec := []
  /-- R496: mailbox channel the monitor waits on -/
  wait : Option Nat := none
  deriving DecidableEq, Repr

end Sys2Proof.Machine
end

