-- ==== Sys2Proof/Syntax.lean ====
section
/-! DEFINITION. The commands of the block: one constructor for each row of spec/opcode_table.json, with the row's operands. A command
carries what its sender or the block's surroundings give it: a mailbox channel, an address, a frame received, a measured value, the
outcome of a check that the model does not open. -/

namespace Sys2Proof

open Sys2Proof.Machine

/-- R1 to R519: the commands and events of spec/opcode_table.json. -/
inductive Instr
  /-- R50: Either feed stays above 16.8 V for 10 ms from OFF, causing a power-on reset, powering PD0 to PD2 and incrementing the
  power-cycle count. -/
  | feedGood (a : Bool) (b : Bool)
  /-- R508: One feed falls below 16.8 V while the other stays up; draw passes to the other feed and FEEDS clears in the health word. -/
  | feedLossSingle (b : Bool)
  /-- R65: The hold-up store reaches the energy needed for 300 ms of PD0 and PD2, so HOLDUP_OK is set; it clears when the store falls
  below that energy. -/
  | holdupCharged (charged : Bool)
  /-- R66: The internal bus falls to 15.5 V, which starts the shutdown sequence or, in an owned pair, a switchover request. -/
  | brownOutWarning
  /-- R66: String current falls below 5 A, or 60 ms pass after the warning, and the saggar de-energises every coil. -/
  | boCoilsOff
  /-- R66: 5 ms after the coils are de-energised, PD1 and PD3 to PD11 are switched off with their fences closed. -/
  | boDomainsOff
  /-- R66: The banked state and the brown-out record are committed to MRAM, and PD2 is switched off. -/
  | boCommitDone
  /-- R66: The hold-up store is exhausted and PD0 goes off. -/
  | holdupExhausted
  /-- R68: A feed returns after the shutdown has started, causing a power-on reset 10 ms after the sequence ends or after PD2 goes off. -/
  | feedReturn
  /-- R50: The loader and the saggar finish verifying their images, and BOOT moves to SELFTEST, ISOLATED or loader-only MAINTENANCE. -/
  | bootVerifyDone (mgpOk : Bool) (sagOk : Bool)
  /-- R64: A power domain reports ready, and the next domain in the start-up order is powered. -/
  | domainReady (d : Fin 12)
  /-- R61: The self-test items finish, and SELFTEST ends in STANDBY, PILOT or ISOLATED according to the results, the latch and the
  partner. -/
  | selftestDone (r : SelfTest)
  /-- R243: After SELFTEST the module has read OWN low for 100 µs, so it drives OWN; if it reads OWN high it enters PILOT instead. -/
  | ownClaim (high : Bool)
  /-- R70: The MGP watchdog expires, causing an MGP reset or, on a second expiry within 10 s, a module reset or a prolonged MGP absence. -/
  | mgpWatchdog
  /-- R55: The MGP returns, takes up pending events and held requests, and sends a catch-up state change and catch-up messages. -/
  | mgpResume
  /-- R343: MGP_AWAY has stayed 1 for 10 s, which raises degraded-class fault bit 8. -/
  | mgpLost
  /-- R25: A block signals ready and its fences open, so new requests are served. -/
  | fenceOpen (d : Fin 12)
  /-- R32: The CSM is free with a request pending, so an arbitration round grants the eligible request of highest class, applying quotas,
  floor rounds and back-off. -/
  | csmArbitrationRound (want : List Nat)
  /-- R18: The 8,192 Hz housekeeping tick elapses. -/
  | housekeepingTick (m : TickIn)
  /-- R50: The link voltage has stayed within SYS_PRECHG_DV of the string voltage for 20 ms, so CO0 is closed. -/
  | prechargeDone
  /-- R50: SYS_PRECHG_TIMEOUT expires, so CO2 and CO1 open, a fault is logged and the cool-down starts. -/
  | prechargeTimeout
  /-- R73: The precharge cool-down ends and no longer inhibits CMD_CONNECT. -/
  | prechargeCoolExpiry
  /-- R344: The degraded timer reaches SAG_DEG_TIME, and the saggar isolates with cause 0x12. -/
  | degradedTimerExpiry
  /-- R52: A spyhole session ends after SYS_MAINT_IDLE seconds without a command. -/
  | maintIdleTimeout
  /-- R339: A contactor auxiliary contact changes its reading, which drives the precharge, tracking and stop sequences and the
  plausibility checks. -/
  | auxContactChange (k : Fin 4) (closed : Bool)
  /-- R76: A new firing frame begins T after the previous one. -/
  | frameStart
  /-- R98: 20 µs before the first BEACON the FSQ assembles the beacon contents and commits a pending swap. -/
  | beaconFreeze
  /-- R113: A BEACON entry fires and the unit sends the beacon announcing the next frame's timing and bleed masks. -/
  | beacon (m : EntryIn) (txLt : Nat) (rm : BitVec 32)
  /-- R86: A NODE_SLOT entry fires and opens its report, command or firmware windows. -/
  | nodeSlot (m : EntryIn)
  /-- R86: A CONTENTION_SLOT entry fires and opens its contention windows. -/
  | contentionSlot (m : EntryIn)
  /-- R87: The SNAPSHOT entry marks the sweep instant and sets the gate-edge deferral spans. -/
  | snapshot (m : EntryIn)
  /-- R152: A CURRENT_LATCH entry latches the string current, and optionally the string and bus voltages and QINT, at t_i. -/
  | currentLatch (m : EntryIn) (ma : Int) (vStr : Int) (vBus : Int) (dq : Int)
  /-- R185: An ESTIMATE_BATCH entry runs the named estimator tasks for its nodes. -/
  | estimateBatch (m : EntryIn)
  /-- R89: A PROBE_PHASE_STEP entry sets the tone phase and tags the snapshot's step. -/
  | probePhaseStep (m : EntryIn)
  /-- R90: A THERMAL_SAMPLE entry hands samples of the named sources to the THM. -/
  | thermalSample (m : EntryIn) (x : ThmIn)
  /-- R90: A LOG_CHECKPOINT entry records lateness and may log a warning. -/
  | logCheckpoint (m : EntryIn)
  /-- R90: A MIRROR_PUSH entry sends the CSM and banked state to the pilot. -/
  | mirrorPush (m : EntryIn)
  /-- R90: A NOP entry does nothing but counts as an entry. -/
  | nop (m : EntryIn)
  /-- R91: The FRAME_END entry performs a pending swap, closes the sweep record and updates the frame-level quantities. -/
  | frameEnd (m : EntryIn)
  /-- R97: A write of the shadow bank's number to FSQ_BANK_SEL.NEXT starts the swap check. -/
  | swapRequest
  /-- R97: A write of the active bank's number to NEXT while CHECKING or PENDING withdraws the swap. -/
  | swapWithdraw
  /-- R97: The shadow-bank check ends, leaving the swap PENDING or refused with 0x6 or 0x7. -/
  | swapCheckDone
  /-- R96: A write to a schedule bank is stored, or ignored with WR_ACTIVE or WR_PENDING. -/
  | scheduleBankWrite (bank : Fin 2) (i : Fin 16384) (w : Word)
  /-- R137: A frame is received in a REPORT window and checked, and an accepted REPORT is written to the group records. -/
  | reportRx (u : Fin 2) (n : Fin 48) (f : RxFrame)
  /-- R137: A REPORT window ends without an accepted REPORT, so the miss is counted and the node is marked STALE. -/
  | reportWindowMiss (u : Fin 2) (n : Fin 48)
  /-- R131: A JOIN request is received in a contention slot and checked, and a reply is queued or it is ignored. -/
  | joinRequestRx (u : Fin 2) (f : RxFrame)
  /-- R122: A CONTENTION frame is received, logged and acknowledged in KACK. -/
  | contentionRx (u : Fin 2) (f : RxFrame)
  /-- R119: A node ACK to a command, firmware block or join reply is received. -/
  | ackRx (u : Fin 2) (f : RxFrame)
  /-- R119: A node command with no ACK is retried, or a fault is logged after the last retry. -/
  | commandRetry (n : Fin 48)
  /-- R139: A radio unit's once-per-second loopback test runs. -/
  | unitLoopbackTest (u : Fin 2) (ok : Bool)
  /-- R126: FNL_EPOCH_PERIOD elapses since the last advance, so an epoch advance falls due. -/
  | epochPeriodExpiry
  /-- R127: 10 s pass after the first SET_LINK_KEY, so the next advance carries NEWKEY. -/
  | linkKeyChangeTimeout
  /-- R159: The snuffer loop current stays in a new class for 1 ms, or stays closed for 100 ms, and the loop is reclassified, with SF1
  isolation for open or bypass. -/
  | loopClassChange (ua : Nat)
  /-- R141: Power is applied to a DN8, which enters UNPAIRED or SEARCH with its switches open. -/
  | nodePowerOn (n : Fin 48)
  /-- R141: A node receives a valid beacon and adopts the next frame's timing and masks, or retunes, searches or joins. -/
  | nodeBeaconRx (n : Fin 48) (u : Fin 2) (f : RxFrame) (brx : Nat)
  /-- R141: A synced node misses its expected beacon and coasts. -/
  | nodeBeaconMissed (n : Fin 48)
  /-- R141: A node misses 8 consecutive beacons, opens its switches and searches. -/
  | nodeCoastLimit (n : Fin 48)
  /-- R142: No valid beacon arrives for the balancing timeout, so the node opens all its switches. -/
  | nodeBalTimeout (n : Fin 48)
  /-- R149: At the snapshot the node makes its 14 conversions. -/
  | nodeSweep (n : Fin 48) (m : SweepIn)
  /-- R116: The node sends its REPORT in its window. -/
  | nodeReportTx (n : Fin 48) (rtx : Nat)
  /-- R160: The node closes the masked switches at BOFF and opens them at BOFF + BDUR. -/
  | nodeBalanceWindow (n : Fin 48) (start : Bool)
  /-- R166: The node pulls the announced wire and converts before and after. -/
  | nodeOpenWireTest (n : Fin 48) (shift : Int)
  /-- R163: The node closes the announced switch and measures the balance-return current. -/
  | nodeSwitchTest (n : Fin 48) (current : Int)
  /-- R118: A node receives a COMMAND, executes it unless CSEQ repeats, and sends an ACK. -/
  | nodeCommandRx (n : Fin 48) (f : RxFrame)
  /-- R120: A node receives a FIRMWARE block and writes it in order, checking the digest at the end. -/
  | nodeFirmwareRx (n : Fin 48) (f : RxFrame)
  /-- R141: A joining node receives an accept or refuse. -/
  | nodeJoinReplyRx (n : Fin 48) (f : RxFrame)
  /-- R131: An acknowledged node gets no reply within 64 frames and restarts its join. -/
  | nodeJoinReplyTimeout (n : Fin 48)
  /-- R141: The 10 s wait after a refuse ends and the node resumes listening. -/
  | nodeRefuseWaitEnd (n : Fin 48)
  /-- R141: A full scan cycle ends without a matching beacon, so the node sends a join request. -/
  | nodeScanCycleEnd (n : Fin 48)
  /-- R136: After backoff the node sends a JOIN request or CONTENTION frame. -/
  | nodeContentionTx (n : Fin 48)
  /-- R155: A group stays beyond OV or UV for 1 ms, so the comparator trips and the loop switch opens. -/
  | nodeComparatorTrip (n : Fin 48) (pos : Fin 8) (above : Bool) (held : Nat) (counter : Nat)
  /-- R156: All groups stay inside their windows for 1 s, so the loop switch closes. -/
  | nodeLoopSwitchClose (n : Fin 48) (lo : Nat) (hi : Nat)
  /-- R156: The node supply falls below 6 V and the loop switch opens. -/
  | nodeSupplyLow (n : Fin 48)
  /-- R142: A restarting node ends its silence and resumes. -/
  | nodeRestartDone (n : Fin 48)
  /-- R472: A node with no beacon for 5 s after activation falls back to its other bank. -/
  | nodeBankFallback (n : Fin 48)
  /-- R202: Every EST_BAL_PERIOD the MGP computes the bleed plan. -/
  | balancingPlan
  /-- R206: EST_COMMIT_HOLD after an uncommitted adoption, the MGP starts a capacity commit. -/
  | capCommitDue
  /-- R209: 1 s after a failed read-back, the capacity commit is retried. -/
  | capCommitRetry
  /-- R210: Every EST_CKPT_S the MGP writes the count-state checkpoint. -/
  | countCheckpoint
  /-- R275: The CE runs command intake, taper, droop, outer loop, limit clamp and tone sum. -/
  | outerTick (m : OuterIn)
  /-- R290: At a phase's update point the inner loop computes DA and DB. -/
  | innerEvaluation (p : Fin 16) (m : EvalIn)
  /-- R301: 10 s pass without a missed deadline, which clears the control-overrun fault. -/
  | overrunClear
  /-- R294: The current-sum difference stays beyond CTL_ISUM_TOL, or within it, for 1 s, raising or clearing the warning. -/
  | isumWarning (beyond : Bool)
  /-- R263: At a reference period boundary the modulators decide phase shedding and adding, and faulted phases leave. -/
  | refPeriodBoundary (now : BitVec 32)
  /-- R253: A fast-path sample exceeds PHM_IPK, so the driving switch is turned off for the period. -/
  | peakLimitEvent (p : Fin 16) (d : Nat) (now : BitVec 32)
  /-- R266: A load release is declared and every active phase brakes. -/
  | loadRelease (fast : List Nat) (now : BitVec 32)
  /-- R265: A load step is declared, which cancels shedding and starts the needed phases. -/
  | loadStep (fast : List Nat)
  /-- R251: An enabled phase reads saturated for 4 fast-path samples, giving phase fault 0x3. -/
  | currentInputSaturated (p : Fin 16) (d : List Nat)
  /-- R252: The phase current stream loses coding, so the gate lines go low and phase fault 0x2 is set. -/
  | currentInputLost (p : Fin 16)
  /-- R255: A driver fault line reads low, so the gate lines go low and phase fault 0x1 is set. -/
  | driverFault (p : Fin 16)
  /-- R244: A driven harness line differs from its read-back, giving phase fault 0x5. -/
  | readbackMismatch (h : Fin 4) (ph : Option (Fin 4)) (atTakeover : Bool)
  /-- R254: A 1 ms count window of the temperature frequency ends, and PHM_PH_TEMP is published. -/
  | tempCountWindow (p : Fin 16) (count : Nat)
  /-- R254: The temperature line shows no edge or an out-of-range frequency, which sets TFAIL. -/
  | tempLineFail (p : Fin 16)
  /-- R258: A phase's current stays out of share for 1 s, which sets SHARE, or back within share for 1 s, which clears it. -/
  | phaseShareWarning (p : Fin 16) (out : Bool)
  /-- R269: V_link stays within PHM_TRK_WIN of the rail for PHM_TRK_DWELL, so CO3 is requested. -/
  | trkDwellDone
  /-- R269: The zero-current hold after entry to DISPATCH ends, and set points apply. -/
  | trkHoldEnd
  /-- R272: PHM_TRK_TIMEOUT expires and the tracking start is abandoned. -/
  | trkTimeout
  /-- R271: The string current stays below PHM_STOP_I for 10 ms, so CO3 is requested open. -/
  | stopCurrentLow
  /-- R271: PHM_STOP_TIMEOUT expires, so the gate lines go low and CO3 is requested open. -/
  | stopTimeout
  /-- R245: At boundary B the incoming owner drives and the outgoing owner releases the harness. -/
  | handoverBoundary (now : BitVec 32) (gap : BitVec 32)
  /-- R257: A write to PHM_FLT_CLR clears the phase faults whose cause has gone. -/
  | phmFltClr (w : Word) (still : Word)
  /-- R279: A CTL_MODE write selects the control mode, with a bumpless transfer. -/
  | ctlMode (w : Word)
  /-- R284: A write to CTL_CMD_I is a current command with apply time at arrival. -/
  | ctlCmdI (w : Word)
  /-- R284: A write to CTL_CMD_P is a power command with apply time at arrival. -/
  | ctlCmdP (w : Word)
  /-- R284: A write to CTL_CMD_V is a bus-voltage command with apply time at arrival. -/
  | ctlCmdV (w : Word)
  /-- R297: A write of CTL_COEF_CTL.HOLD holds coefficient writes pending, or releases them. -/
  | coefHold (on : Bool)
  /-- R297: A write of 1 to CTL_COEF_CTL.LOAD applies every pending write at the next reference boundary. -/
  | coefLoad
  /-- R404: A dispatch PDU is received, checked and queued to the CE. -/
  | dispatchPdu (p : PortId) (b : List Byte) (now : BitVec 32) (idle : Bool) (h : Net)
  /-- R306: Every 64 ticks the THM samples a source that no entry has covered for 100 ms. -/
  | thmSelfSample (src : Fin 4) (x : ThmIn)
  /-- R320: Every 64 ticks each valve and fan output sets its duty from its source. -/
  | thmOutputUpdate
  /-- R318: A derate grace timer expires, and the computed limit is enforced. -/
  | graceExpiry (chg : Bool)
  /-- R321: A fan, flow or coolant input fault persists for 5 s, or its absence persists for 5 s, and the fault is reported or cleared. -/
  | coolantIoFault (kind : Fin 3) (i : Fin 4) (on : Bool)
  /-- R312: An NTC against TINT disagreement lasts THM_XCHK_S, so it is counted and logged. -/
  | xchkDisagreement (g : Fin 384)
  /-- R327: Two consecutive protection cycles miss their tick, so EN and the high-side feed enables drop with cause 0x10. -/
  | sagWindowOverrun
  /-- R330: The interlock stays open for 2 ms with ILK_TEST_DONE set, which is an SF2 demand. -/
  | interlockOpen
  /-- R342: The interlock reads closed for 2 ms after an opening of at least 100 ms, so ILK_TEST_DONE is set. -/
  | ilkTestPass
  /-- R330: The saggar's shunt samples exceed an overcurrent limit for SAG_OC_T, so the saggar isolates. -/
  | overcurrent (ma : Int)
  /-- R372: The ISOLATE line from the partner is asserted for 100 µs, which isolates with cause 0x15, or released. -/
  | isolateLine (asserted : Bool)
  /-- R372: An isolation demand arrives over the pair link, which isolates with cause 0x16. -/
  | isolationDemandRx (b : Option (List Byte))
  /-- R365: Every 250 µs while the latch is set, the isolation demand is sent again. -/
  | isolationDemandRepeat
  /-- R348: A safety command PDU copy is received, checked, acted on or compared, and the watchdog restarts. -/
  | safetyPdu (p : PortId) (b : List Byte) (h : Net)
  /-- R350: SAG_PDU_PAIR passes without the second copy, so SAG_PDU_MISS increments and network loss may be raised. -/
  | pduPairExpiry
  /-- R351: SAG_PDU_WD expires, so the saggar isolates with 0x0B and the session ends. -/
  | pduWatchdogExpiry
  /-- R340: A switch's test-pulse slot runs its held-path or open-path sequence with readback. -/
  | coilTestSlot (sw : Fin 8) (reads : List (Bool × Bool)) (moving : Bool)
  /-- R339: A contactor's auxiliary contact does not read closed within SAG_CLOSE_T, so its path is switched off. -/
  | closeTimeout (k : Fin 4)
  /-- R341: After a path is switched off, the auxiliary and voltage weld checks end with pass or cause 0x0D. -/
  | weldCheck (k : Fin 4) (volt : Bool)
  /-- R341: An auxiliary contact reads open for 20 ms while its path is energised, giving cause 0x0E. -/
  | contactorDropout (k : Fin 4)
  /-- R338: SAG_PULLIN ends and the coil path starts chopping at SAG_HOLD_DUTY. -/
  | pullinEnd (k : Fin 4)
  /-- R328: The saggar's lockstep cores disagree, giving isolation with 0x11. -/
  | lockstepMismatch
  /-- R328: The saggar's once-per-second memory scrub runs. -/
  | sagEccScrub (corrected : Nat) (uncorrectable : Bool)
  /-- R328: The 10-minute CRC check of the saggar image and configuration runs. -/
  | sagCrcCheck (ok : Bool)
  /-- R328: Every 10 ms the saggar's shunt filter is compared with the CE shunt mean. -/
  | sagShuntCompare (own : Int)
  /-- R328: The coil feed or an internal rail is out of range for 5 ms, giving isolation with 0x11. -/
  | sagSupplyFault (bad : Bool)
  /-- R506: An X8 measurement stream loses coding for 1 ms, giving isolation with 0x11. -/
  | x8StreamLost (lost : Bool)
  /-- R354: The 10-minute login lock ends and the failure count resets. -/
  | loginLockEnd
  /-- R355: A safety login ends after 10 min without a safety command. -/
  | loginIdleEnd
  /-- R366: Every 250 µs the module sends its heartbeat. -/
  | heartbeatSend
  /-- R366: A partner heartbeat is received, which updates the partner state, the pilot's coil paths and the position clash check. -/
  | heartbeatRx (b : List Byte) (higher : Bool)
  /-- R366: No valid heartbeat arrives within 1 ms, so the miss is counted. -/
  | heartbeatMissed
  /-- R367: A mirror part arrives, and a complete checked push is adopted whole. -/
  | mirrorPartRx (b : List Byte) (now : BitVec 32) (m : Mirror)
  /-- R374: The pilot receives SUB 0x01 REQ and answers READY or REFUSE. -/
  | switchoverReq (b : List Byte)
  /-- R374: The owner receives READY and freezes its phases, then pushes the banked state. -/
  | switchoverReady (b : List Byte) (now : BitVec 32)
  /-- R374: The owner receives REFUSE and the switchover is refused. -/
  | switchoverRefuse (b : List Byte)
  /-- R374: The owner receives TAKE naming boundary B. -/
  | switchoverTake (b : List Byte)
  /-- R375: The pilot receives SUB 0x04 ABANDON. -/
  | switchoverAbandon (b : List Byte)
  /-- R375: No TAKE arrives within 1 ms of the first frozen update point, so the owner resumes and abandons. -/
  | switchoverTimeout
  /-- R44: No acknowledgement arrives within 5 ms, so the handover request is abandoned and logged. -/
  | handoverAckTimeout
  /-- R371: The pilot misses heartbeats for 5 ms with OWN high and releases its contactor paths. -/
  | pathsRelease
  /-- R376: The pilot misses a heartbeat and sees OWN low, so it takes over the harness and the state. -/
  | takeoverDecision
  /-- R369: Every 60 s the position 0 module lowers its loop setpoint for 10 ms to test the partner regulator. -/
  | reserveTest (own : Nat) (partner : Nat)
  /-- R392: A HELLO transaction opens or replaces a session and negotiates the version. -/
  | hello (x : Tx)
  /-- R395: A REG_READ transaction reads words of the register window. -/
  | regRead (x : Tx)
  /-- R395: A REG_WRITE transaction writes words of the register window in ascending order. -/
  | regWrite (x : Tx) (still : Word)
  /-- R396: An MBX_REQ transaction places a request in a channel and rings it, or is answered BUSY or CHAN_BUSY. -/
  | mbxReq (x : Tx)
  /-- R396: An MBX_POLL transaction returns the channel's state or reply. -/
  | mbxPoll (x : Tx)
  /-- R395: A BULK_READ transaction returns consistent CSM group records. -/
  | bulkRead (x : Tx) (diff : List Nat)
  /-- R400: An ATTN_ACK removes the acknowledged attention message from the session queue. -/
  | attnAck (x : Tx)
  /-- R394: A BYE transaction ends the session. -/
  | bye (x : Tx)
  /-- R402: An UPD_BLOCK transaction writes an update block at the expected offset. -/
  | updBlock (x : Tx)
  /-- R389: A KEEPALIVE transaction keeps the session alive. -/
  | keepalive (x : Tx)
  /-- R384: A datagram to an unused UDP port, a fragment, or one failing its checksum is discarded and counted. -/
  | datagramDiscard (p : PortId) (h : Net) (n : Nat)
  /-- R400: An unacknowledged attention message is resent after PLK_ATTN_RETRY, or dropped after its eighth send. -/
  | attnRetry (num : Nat) (aseq : BitVec 32)
  /-- R394: A session ends after PLK_SESSION_TO without a transaction. -/
  | sessionTimeout (num : Nat)
  /-- R396: The MGP has not posted within 100 ms, so the transaction is answered PENDING. -/
  | mbxPendingReply (c : Fin 4)
  /-- R383: A plant port's link goes up or down. -/
  | portLinkChange (p : PortId) (linkUp : Bool)
  /-- R408: A PTP Sync is received and drives the servo and the time-state machine. -/
  | ptpSyncRx (m : PtpMsg) (logInterval : Int) (ingress : Int) (origin : Option Int) (ms : Nat)
  /-- R407: A PTP Announce is received and the time source is reselected. -/
  | ptpAnnounceRx (m : PtpMsg) (rank : Nat) (gm : BitVec 64)
  /-- R407: In peer-to-peer mode a Pdelay_Req is received and answered. -/
  | ptpPdelayReqRx (m : PtpMsg)
  /-- R407: A delay response is received and the path delay is computed. -/
  | ptpDelayRespRx (m : PtpMsg) (rx : Int) (tx : Int) (ingress : Int)
  /-- R407: The announce receipt timeout expires on a port. -/
  | announceTimeout (p : PortId)
  /-- R408: No Sync arrives for LMP_LOSS_N intervals, so the time state moves to FREERUN or HOLDOVER. -/
  | syncLoss
  /-- R408: LMP_HOLD_MAX expires in HOLDOVER and the time state moves to FREERUN. -/
  | holdoverExpiry
  /-- R412: The time base reaches LMP_SEC_MARK, which advances by one second. -/
  | secMarkReached
  /-- R413: Once per PTP second the MGP writes the time-extension registers. -/
  | extTimeUpdate (tb : BitVec 32) (sec : BitVec 48)
  /-- R414: A write to LMP_TRIGk arms the host trigger. -/
  | lmpTrig (k : Fin 4) (w : Word)
  /-- R414: A host trigger's target is reached, so FIRED is set and attention 0x000B is sent. -/
  | triggerReached (k : Fin 4)
  /-- R409: A write to a timestamp correction register is stored in MRAM. -/
  | lmpCorr (i : Fin 4) (w : Word)
  /-- R418: A write to a register with no row of its own changes only its RW, WO, BW and TV fields. -/
  | registerWrite (i : Fin 65536) (w : Word) (still : Word) (src : Src)
  /-- R434: A write of 1 to MBX_CTLc.RING submits the request buffer, or receives a BUSY reply. -/
  | mbxRing (c : Fin 4) (src : Src)
  /-- R434: A write to a request buffer is stored, or discarded with WR_LOST while the channel is busy. -/
  | mbxBufferWrite (c : Fin 4) (i : Fin 256) (w : Word)
  /-- R435: The MGP takes the next QUEUED request and checks its state condition. -/
  | mgpTakeRequest
  /-- R434: A running command or long operation finishes, and its reply is posted. -/
  | mbxReplyPosted (c : Option (Fin 4)) (rb : Bool)
  /-- R439: CMD_CONNECT starts precharge, or is refused or inhibited. -/
  | cmdConnect (c : Fin 4)
  /-- R439: CMD_DISPATCH_ON starts a tracking start. -/
  | cmdDispatchOn (c : Fin 4)
  /-- R439: CMD_DISPATCH_OFF starts the stop ramp. -/
  | cmdDispatchOff (c : Fin 4)
  /-- R439: CMD_OPEN opens the contactors and returns the module to STANDBY. -/
  | cmdOpen (c : Fin 4)
  /-- R439: CMD_ISOLATION_RESET clears the isolation latch when every cause has cleared. -/
  | cmdIsolationReset (c : Fin 4)
  /-- R439: CMD_RESET posts its reply and then performs a module reset. -/
  | cmdReset (c : Fin 4)
  /-- R439: CMD_DOMAIN_POWER switches a power domain off or on. -/
  | cmdDomainPower (c : Fin 4)
  /-- R439: CMD_SWAP requests a switchover with outputs held. -/
  | cmdSwap (c : Fin 4)
  /-- R439: CMD_SELFTEST runs the on-demand self-test items as a long operation. -/
  | cmdSelftest (c : Fin 4) (r : SelfTest)
  /-- R439: CMD_HEALTH returns the health words and fault summary. -/
  | cmdHealth (c : Fin 4)
  /-- R440: CMD_SCHED_LOAD loads a stored schedule into the shadow bank and may request a swap. -/
  | cmdSchedLoad (c : Fin 4)
  /-- R440: CMD_SCHED_INFO returns the stored-schedule slot information. -/
  | cmdSchedInfo (c : Fin 4)
  /-- R440: CMD_BAL_CTL sets the balancing mode and host masks. -/
  | cmdBalCtl (c : Fin 4)
  /-- R440: CMD_BAL_STATUS returns the balancing mode and the masks last sent. -/
  | cmdBalStatus (c : Fin 4)
  /-- R440: CMD_CAL_DISCHARGE starts or ends a calibration discharge. -/
  | cmdCalDischarge (c : Fin 4)
  /-- R440: CMD_CAP_REPORT returns capacities, pending values and flags. -/
  | cmdCapReport (c : Fin 4)
  /-- R440: CMD_CAP_WRITE sets a group's capacity and scales QC. -/
  | cmdCapWrite (c : Fin 4)
  /-- R440: CMD_CAP_COMMIT commits capacities to MRAM. -/
  | cmdCapCommit (c : Fin 4)
  /-- R441: CMD_PARAM_READ returns dictionary values. -/
  | cmdParamRead (c : Fin 4)
  /-- R441: CMD_PARAM_WRITE writes settings into the working settings in ascending index order. -/
  | cmdParamWrite (c : Fin 4)
  /-- R441: CMD_SETTINGS_COMMIT writes the working settings to MRAM. -/
  | cmdSettingsCommit (c : Fin 4)
  /-- R441: CMD_SETTINGS_DEFAULT loads the firmware defaults into the working settings. -/
  | cmdSettingsDefault (c : Fin 4)
  /-- R441: CMD_PAIR_WRITE writes a pairing row. -/
  | cmdPairWrite (c : Fin 4)
  /-- R441: CMD_PAIR_CLEAR sends LEAVE to a joined node and clears its row. -/
  | cmdPairClear (c : Fin 4)
  /-- R441: CMD_PAIR_READ returns the pairing table with key tags. -/
  | cmdPairRead (c : Fin 4)
  /-- R441: CMD_LINK_KEY_CHANGE starts a link-key change. -/
  | cmdLinkKeyChange (c : Fin 4)
  /-- R441: CMD_NODE_CMD sends GET_INFO or NODE_RESET to a node and returns its ACK. -/
  | cmdNodeCmd (c : Fin 4)
  /-- R441: CMD_LOG_READ returns raw log slots. -/
  | cmdLogRead (c : Fin 4)
  /-- R484: CMD_LOG_CLEAR writes the log-cleared record and raises FLOOR. -/
  | cmdLogClear (c : Fin 4)
  /-- R442: CMD_UPDATE_BEGIN enters MAINTENANCE and opens the update-block window. -/
  | cmdUpdateBegin (c : Fin 4)
  /-- R463: CMD_UPDATE_STAGE verifies every received part. -/
  | cmdUpdateStage (c : Fin 4)
  /-- R465: CMD_UPDATE_ACTIVATE rechecks the parts, writes the activation record and hands over to the loader. -/
  | cmdUpdateActivate (c : Fin 4)
  /-- R442: CMD_UPDATE_ABORT discards the staged parts and ends the update. -/
  | cmdUpdateAbort (c : Fin 4)
  /-- R442: CMD_UPDATE_STATUS returns the update phase and progress. -/
  | cmdUpdateStatus (c : Fin 4)
  /-- R443: CMD_SAG_LOGIN opens a safety login, or counts a failure. -/
  | cmdSagLogin (c : Fin 4)
  /-- R443: CMD_SAG_STAGE stages safety values or a configuration record. -/
  | cmdSagStage (c : Fin 4)
  /-- R355: CMD_SAG_COMMIT checks and writes the staged safety configuration and its change-log entries. -/
  | cmdSagCommit (c : Fin 4)
  /-- R443: CMD_SAG_ABORT discards the staged safety values. -/
  | cmdSagAbort (c : Fin 4)
  /-- R443: CMD_SAG_PASSWORD sets or changes the safety password. -/
  | cmdSagPassword (c : Fin 4)
  /-- R443: CMD_SAG_LOG_READ returns change-log entries. -/
  | cmdSagLogRead (c : Fin 4)
  /-- R357: CMD_SAG_LOG_ACK frees exported change-log entries and writes an acknowledgement entry. -/
  | cmdSagLogAck (c : Fin 4)
  /-- R465: The loader finishes copying and checking the new MGP image and starts it. -/
  | loaderCopyDone (ok : Bool)
  /-- R465: The new MGP restores the banked state and reports ready, so CONFIRMED is written 1. -/
  | newMgpReady
  /-- R466: The new MGP is not ready within 1,500 ms, so the loader rolls back to the previous image. -/
  | newMgpTimeout
  /-- R470: After a confirmed saggar image activation the saggar resets into ISOLATED with cause 0x17. -/
  | saggarReset
  /-- R462: Every 100 ms a module repeats the update block its downstream neighbour has not yet taken. -/
  | blockForwardRepeat (reply : Option (List Byte))
  /-- R471: The owner stages DN8 firmware to the next node in a firmware slot. -/
  | dn8NodeStage (u : Fin 2)
  /-- R472: With the conditions met, the owner sends FW_ACTIVATE to the next staged node. -/
  | dn8NodeActivate
  /-- R479: A queued record is written to its chosen slot in three steps, or dropped. -/
  | logRecordWrite
  /-- R479: At BOOT the recorder scans every slot for the newest sequence number and the cursor. -/
  | logBootScan
  /-- R480: Once per hour the recorder frees records more than 2^30 behind the newest. -/
  | logHourlyFree
  /-- R485: After the latch is set, the recorder copies all CSM records to a snapshot slot. -/
  | isolationSnapshot
  /-- R477: Every 24 h the MRAM controller reads every word and rewrites the corrected ones. -/
  | mramScrub (corrected : Nat) (bad : List Nat)
  /-- R475: Every 60 s the MGP backs up OPSEC and PCC to MRAM. -/
  | pd0Backup
  /-- R493: The spyhole r command reads register words without clearing RC fields. -/
  | spyR (addr : Nat) (n : Nat)
  /-- R493: The spyhole w command writes one register word. -/
  | spyW (addr : Nat) (value : Word) (still : Word)
  /-- R493: The spyhole p command reads parameters. -/
  | spyP (index : Nat) (n : Nat)
  /-- R493: The spyhole pw command writes one non-safety parameter. -/
  | spyPw (index : Nat) (value : Word)
  /-- R493: The spyhole csm command prints group records. -/
  | spyCsm (g : Nat) (n : Nat)
  /-- R493: The spyhole log command prints log slots. -/
  | spyLog (slot : Nat) (n : Nat)
  /-- R493: The spyhole health command prints the health summary. -/
  | spyHealth
  /-- R493: The spyhole keys command prints the key tags and the epoch. -/
  | spyKeys
  /-- R494: The spyhole trace ce command captures 1,024 inner evaluations, optionally triggered. -/
  | spyTraceCe (p : Fin 16) (trig : CeTrig)
  /-- R495: The spyhole trace fsq command captures the next whole frame's entries. -/
  | spyTraceFsq
  /-- R496: The spyhole m command submits a mailbox request on the lowest free channel. -/
  | spyM (code : BitVec 16) (bytes : List Byte)
  /-- R493: The spyhole sag login command prompts for the password and logs in. -/
  | spySagLogin (password : List Byte)
  /-- R493: The spyhole sag stage command stages one safety value. -/
  | spySagStage (index : Nat) (value : Word)
  /-- R493: The spyhole sag commit command commits the staged safety configuration. -/
  | spySagCommit
  /-- R493: The spyhole sag abort command discards the staged values. -/
  | spySagAbort
  /-- R493: The spyhole reset command performs a module reset with cause 0x04. -/
  | spyReset
  /-- R493: The spyhole bye command ends the session. -/
  | spyBye
  /-- R490: Ctrl-C stops a printout at the end of its line. -/
  | spyCtrlC
  /-- R508: A feed that had fallen below 16.8 V while the other stayed up rises above it again, and FEEDS in the health word is set again.
  -/
  | feedRestored (b : Bool)
  /-- R156: A DN8 comparator self-check fails, so its loop switch opens within 200 µs and it reports NODE_FAULT and a CONTENTION frame
  with EVENT 0x02. -/
  | nodeSelfCheckFail (n : Fin 48) (code : Nat)
  /-- R142: A DN8 restarts of its own accord with its supply present, goes silent and later resumes under R133 and sends CONTENTION EVENT
  0x01. -/
  | nodeOwnRestart (n : Fin 48) (cause : Nat)
  /-- R374: Both plant ports have been down for 1 s, so with PRL_AUTO_SWAP set the owner requests a switchover. -/
  | bothPlantPortsDown
  /-- R378: Every 10 s the references and the three modulators are checked to 0.2 % and the REF bit of the health word is updated. -/
  | referenceCheck (ok : Bool)
  /-- R502: A coil path's current exceeds 4 A, is limited in hardware and is switched off after 1 ms. -/
  | coilPathOvercurrent (k : Fin 4)
  /-- R407: A PTP Follow_Up from a two-step time transmitter is received and supplies the precise Sync origin time to the servo. -/
  | ptpFollowUpRx (m : PtpMsg) (origin : Int) (ms : Nat)
  /-- R407: The lamplighter sends a Delay_Req, or a Pdelay_Req in peer-to-peer mode, and timestamps its egress. -/
  | ptpDelayReqSend (p : PortId) (egress : Int)
  /-- R383: An ARP, neighbour-discovery, ICMP or ICMPv6 echo, or IGMP or MLD query frame is received and answered by the plant-link
  engine. -/
  | networkServiceFrame (p : PortId) (f : SvcFrame)
  /-- R489: A spyhole line that is overlong or names no known command is discarded and answered E SYNTAX. -/
  | spyUnknownLine
  deriving DecidableEq, Repr

end Sys2Proof
end

