-- ==== Sys2Proof/Machine/Num.lean ====
section
/-! DEFINITION. The real functions of the spec's formulas (R216, R225, R281, R289), computed in fixed point with 64 fraction bits.
(Log entry 13, DEDUCED.) -/

namespace Sys2Proof.Machine

/-- 2⁶⁴: one, in the fixed point of this file. -/
def fixOne : Nat := 2 ^ 64

/-- 2π in fixed point. -/
def fixTwoPi : Int := 115904311329233965478

/-- The binary digits of a root found below r, from weight 2^k down: the largest r' with p r'. -/
def rootBits (p : Nat → Bool) : Nat → Nat → Nat
  | 0, r => if p (r + 1) then r + 1 else r
  | k + 1, r => rootBits p k (if p (r + 2 ^ (k + 1)) then r + 2 ^ (k + 1) else r)

/-- The whole square root of n. -/
def isqrt (n : Nat) : Nat := rootBits (fun r => decide (r * r ≤ n)) (Nat.log2 n / 2 + 1) 0

/-- The whole cube root of n. -/
def icbrt (n : Nat) : Nat := rootBits (fun r => decide (r * r * r ≤ n)) (Nat.log2 n / 3 + 1) 0

/-- R225, R281, R289: the square root of x, 0 for a negative x. -/
def sqrtR (x : Rat) : Rat := (isqrt (x.num.toNat * 2 ^ 128 / x.den) : Rat) / fixOne

/-- R281: the cube root of x, 0 for a negative x. -/
def cbrtR (x : Rat) : Rat := (icbrt (x.num.toNat * 2 ^ 192 / x.den) : Rat) / fixOne

/-- The product of two fixed-point numbers. -/
def fixMul (a b : Int) : Int := a * b / (fixOne : Int)

/-- The sine of x radians, |x| ≤ π/2, by its series from the term of index k down; x2 is x². -/
def sinSeries (x2 : Int) : Nat → Int → Int
  | 0, acc => acc
  | k + 1, acc => sinSeries x2 k ((fixOne : Int) - fixMul x2 acc / ((2 * k + 2) * (2 * k + 3) : Nat))

/-- The sine of r turns of 2⁻⁶⁴. -/
def fixSin (r : Int) : Int :=
  let t := r % (fixOne : Int)
  let q : Int := if t ≤ 2 ^ 62 then t else if t ≤ 3 * 2 ^ 62 then 2 ^ 63 - t else t - 2 ^ 64
  let x := fixMul q fixTwoPi
  fixMul x (sinSeries (fixMul x x) 15 fixOne)

/-- R216, R225: sin(2π·x). -/
def sinTurn (x : Rat) : Rat := (fixSin (x.num * (fixOne : Int) / x.den) : Rat) / fixOne

/-- The arc tangent of t, |t| below 1/8, by its series from the term of index k down; t2 is t². -/
def atanSeries (t2 : Int) : Nat → Int → Int
  | 0, acc => acc
  | k + 1, acc => atanSeries t2 k ((fixOne : Int) / ((2 * k + 1) : Nat) - fixMul t2 acc)

/-- The tangent of half the angle whose tangent is t, t ≥ 0. -/
def halfTan (t : Int) : Int := t * (fixOne : Int) / ((fixOne : Int) + (isqrt ((fixOne : Nat) * fixOne + (t * t).toNat) : Nat))

/-- The arc tangent of t, 0 ≤ t ≤ 1, in radians. -/
def fixAtan (t : Int) : Int :=
  let u := halfTan (halfTan (halfTan t))
  8 * fixMul u (atanSeries (fixMul u u) 24 0)

/-- The angle of (x, y), both at least 0 and not both 0, in turns. -/
def quadTurn (x y : Rat) : Rat :=
  let lo := if x ≤ y then x else y
  let hi := if x ≤ y then y else x
  let a : Rat := (fixAtan ((lo / hi).num * (fixOne : Int) / (lo / hi).den) : Rat) / (fixTwoPi : Rat)
  if x ≤ y then 1 / 4 - a else a

/-- R225: arg(re + i·im) in 1/100 degree, from −18000 to +18000, of a number other than 0. -/
def argCd (re im : Rat) : Rat :=
  let q := quadTurn (if re < 0 then -re else re) (if im < 0 then -im else im)
  let h := if re < 0 then 1 / 2 - q else q
  36000 * (if im < 0 then -h else h)

end Sys2Proof.Machine
end

