-- ==== Sys2Proof/Machine/Bits.lean ====
section
/-! DEFINITION. Bit fields, byte order, wrapping and saturating counts, comparisons of times and the
two cyclic redundancy checks: the plain helpers every block uses (R3, R8, R9, R10, R347). -/

namespace Sys2Proof.Machine

/-- The weight of bit i when b holds (R8). -/
def bitAt (i : Nat) (b : Bool) : Nat := if b then 2 ^ i else 0

/-- A flag as a field value. -/
def b2n (b : Bool) : Nat := if b then 1 else 0

/-- The sum of fields, each a value at its lowest bit (R8). -/
def packF : List (Nat × Nat) → Nat
  | [] => 0
  | x :: l => x.2 * 2 ^ x.1 + packF l

/-- A list of flags as a number, element 0 in bit 0 (R8). -/
def maskOf : List Bool → Nat
  | [] => 0
  | b :: l => (if b then 1 else 0) + 2 * maskOf l

/-- The lowest n bits of w as flags, bit 0 first (R8). -/
def bitsOf : Nat → Nat → List Bool
  | 0, _ => []
  | n + 1, w => (w % 2 == 1) :: bitsOf n (w / 2)

/-- Field hi:lo of w (R8). -/
def field (w hi lo : Nat) : Nat := (w / 2 ^ lo) % 2 ^ (hi + 1 - lo)

/-- Bit i of w (R8). -/
def bitOf (w i : Nat) : Bool := w / 2 ^ i % 2 == 1

/-- The number w with bit i set to b. -/
def putBit (w i : Nat) (b : Bool) : Nat := w - bitAt i (bitOf w i) + bitAt i b

/-- R8: i as an n-bit two's complement code. -/
def enc (n : Nat) (i : Int) : Nat := (i % (2 ^ n : Int)).toNat

/-- R8: the signed value of the n-bit code w. -/
def dec (n w : Nat) : Int :=
  let v := w % 2 ^ n
  if v < 2 ^ (n - 1) then (v : Int) else (v : Int) - (2 ^ n : Int)

/-- i held from lo to hi. -/
def clampI (lo hi i : Int) : Int := if i < lo then lo else if hi < i then hi else i

/-- i as an n-bit signed code, saturating. -/
def encSat (n : Nat) (i : Int) : Nat := enc n (clampI (-(2 ^ (n - 1) : Int)) ((2 ^ (n - 1) : Int) - 1) i)

/-- A counter that saturates at its n-bit maximum, one event later. -/
def incSat (n c : Nat) : Nat := if c + 1 < 2 ^ n then c + 1 else 2 ^ n - 1

/-- A counter that saturates at its n-bit maximum, k events later. -/
def addSat (n c k : Nat) : Nat := if c + k < 2 ^ n then c + k else 2 ^ n - 1

/-- A 32-bit count one later, wrapping. -/
def inc32 (c : Nat) : Nat := (c + 1) % 2 ^ 32

/-- R10: a time-base value moved by d ns, wrapping. -/
def addT (t : Nat) (d : Int) : Nat := (((t : Int) + d) % (2 ^ 32 : Int)).toNat

/-- R3: the signed distance now − t of two time-base values. -/
def diffT (now t : Nat) : Int := dec 32 ((now + 2 ^ 32 - t % 2 ^ 32) % 2 ^ 32)

/-- R3: the target time t is reached at now. -/
def reached (now t : Nat) : Bool := decide (0 ≤ diffT now t)

/-- R9: a little-endian byte list as a number. -/
def leNat : List Byte → Nat
  | [] => 0
  | b :: l => b.toNat + 256 * leNat l

/-- R9: the n little-endian bytes of w. -/
def leBytes : Nat → Nat → List Byte
  | 0, _ => []
  | n + 1, w => BitVec.ofNat 8 w :: leBytes n (w / 256)

/-- The n bytes of bs from offset o, as a little-endian number; absent bytes read 0. -/
def leAt (bs : List Byte) (o n : Nat) : Nat := leNat ((bs.drop o).take n)

/-- One bit of a reflected CRC over polynomial p. -/
def crcBit (p r : Nat) : Nat := if r % 2 = 1 then (r / 2) ^^^ p else r / 2

/-- One byte of a reflected CRC over polynomial p. -/
def crcByte (p r : Nat) (b : Byte) : Nat :=
  crcBit p (crcBit p (crcBit p (crcBit p (crcBit p (crcBit p (crcBit p (crcBit p (r ^^^ b.toNat))))))))

/-- A reflected 32-bit CRC with initial value and final XOR of all ones. -/
def crc32With (p : Nat) (bs : List Byte) : Nat := (bs.foldl (crcByte p) 0xFFFFFFFF) ^^^ 0xFFFFFFFF

/-- R347: CRC-32C, polynomial 0x1EDC_6F41, reflected. -/
def crc32c (bs : List Byte) : Nat := crc32With 0x82F63B78 bs

/-- R208, R454: CRC-32 of IEEE 802.3, reflected. -/
def crc32 (bs : List Byte) : Nat := crc32With 0xEDB88320 bs

/-- The bytes of a list of numbers, low 8 bits each. -/
def toBytes (l : List Nat) : List Byte := l.map (BitVec.ofNat 8)

/-- The absolute value of i as a Nat. -/
def absN (i : Int) : Nat := i.natAbs

/-- The least of a list of integers, or d where it is empty. -/
def minOr (d : Int) : List Int → Int
  | [] => d
  | x :: l => l.foldl min x

/-- The greatest of a list of naturals, or 0. -/
def maxNat (l : List Nat) : Nat := l.foldl max 0

/-- The number of flags set. -/
def countB (l : List Bool) : Nat := (l.filter id).length

/-- The positions of a list, each with its element. -/
def indexed {α : Type} (l : List α) : List (Nat × α) := (List.range l.length).zip l

/-- The first position at which p holds. -/
def firstAt {α : Type} (p : α → Bool) (l : List α) : Option Nat :=
  ((indexed l).find? (fun x => p x.2)).map (·.1)

/-- The element at position i, or d. -/
def nth {α : Type} (l : List α) (i : Nat) (d : α) : α := l.getD i d

/-- The value of the pair with key k. -/
def lookupI (l : List (Nat × Int)) (k : Nat) : Option Int := (l.find? (fun p => p.1 == k)).map (·.2)

/-- The list with k bound to v, keys rising. -/
def bindI : List (Nat × Int) → Nat → Int → List (Nat × Int)
  | [], k, v => [(k, v)]
  | p :: l, k, v => if k < p.1 then (k, v) :: p :: l else if k = p.1 then (k, v) :: l else p :: bindI l k v

/-- The list without k. -/
def unbindI (l : List (Nat × Int)) (k : Nat) : List (Nat × Int) := l.filter (fun p => !(p.1 == k))

end Sys2Proof.Machine
end

