-- ==== Sys2Proof/Machine/Datagram.lean ====
section
/-! DEFINITION. Byte layouts of the plant link and the pair link (R9): the header of a transaction (R388), replies, attention messages
(R398) and the frame of a pair-link payload (R365). -/

namespace Sys2Proof.Machine

/-- R388: VER. -/
def Tx.ver (x : Tx) : Nat := leAt x.dg 2 1

/-- R388: TYPE. -/
def Tx.type (x : Tx) : Nat := leAt x.dg 3 1

/-- R388: TID. -/
def Tx.tid (x : Tx) : Nat := leAt x.dg 4 2

/-- R388: SESSION. -/
def Tx.session (x : Tx) : Nat := leAt x.dg 6 2

/-- R388: the payload. -/
def Tx.payload (x : Tx) : List Byte := x.dg.drop 12

/-- R388: MAGIC, VER and LEN check. -/
def Tx.headOk (x : Tx) : Bool :=
  decide (12 ≤ x.dg.length) && leAt x.dg 0 2 == 0x4C50 && decide (1 ≤ x.ver) && decide (x.ver ≤ 3) &&
  decide (leAt x.dg 8 2 ≤ 1440) && leAt x.dg 8 2 == x.payload.length

/-- R446: bit k of a 16-byte address in transmission order, byte 0 first and its highest bit first. -/
def addrBit (a k : Nat) : Bool := bitOf a (8 * (k / 8) + (7 - k % 8))

/-- The number of a port. -/
def PortId.idx : PortId → Nat
  | .a => 0 | .b => 1

/-- R388: a datagram of the transaction protocol. -/
def dgram (ver type tid session status flags : Nat) (payload : List Byte) : List Byte :=
  leBytes 2 0x4C50 ++ leBytes 1 ver ++ leBytes 1 type ++ leBytes 2 tid ++ leBytes 2 session ++ leBytes 2 payload.length ++
  leBytes 1 status ++ leBytes 1 flags ++ payload

/-- R388, R391: a reply as a datagram. -/
def Reply.bytes (r : Reply) (ver tid session : Nat) : List Byte :=
  dgram ver r.type tid session r.status (if r.resent then 3 else 1) r.payload

/-- R398: the 32 bytes of an attention message. -/
def Attn.payload (m : Attn) : List Byte :=
  leBytes 4 m.aseq ++ leBytes 2 m.code ++ leBytes 1 m.sev ++ leBytes 1 0 ++ leBytes 4 m.opsec ++ leBytes 4 m.time ++
  (toBytes m.data ++ List.replicate 16 0).take 16

/-- R365: a payload: KIND, VER, the fields, and the CRC-32C over all of them. -/
def pairBytes (kind ver : Nat) (body : List Byte) : List Byte :=
  let b := leBytes 1 kind ++ leBytes 1 ver ++ body
  b ++ leBytes 4 (crc32c b)

/-- R365: the CRC of a payload checks. -/
def pairCrcOk (b : List Byte) : Bool :=
  decide (6 ≤ b.length) && leAt b (b.length - 4) 4 == crc32c (b.take (b.length - 4))

/-- R365, R367: the bytes of a push of a scope. The spec names what they hold and not where: a free value. (Log entry 98, DESIGN CHOICE.) -/
opaque mirrorBytes : Nat → Mirror → List Byte

/-- R365: the data of a push with the CRC-32C over all of them, which its last part carries, cut into parts of at most 1,408 data bytes:
parts in all, and the k-th. -/
def pushCount (d : List Byte) : Nat := max 1 ((d.length + 1407) / 1408)

/-- R365: part k. -/
def pushPart (d : List Byte) (k : Nat) : List Byte :=
  (d.drop (1408 * k)).take 1408 ++ (if k + 1 = pushCount d then leBytes 4 (crc32c d) else [])

/-- R365: the payloads of kind 0x02 of push number seq. -/
def pushParts (ver seq : Nat) (d : List Byte) : List (List Byte) :=
  (List.range (pushCount d)).map (fun k => pairBytes 2 ver (leBytes 4 seq ++ leBytes 2 k ++ leBytes 2 (pushCount d) ++ pushPart d k))

end Sys2Proof.Machine
end

