-- ==== Sys2Proof/Config.lean ====
section
/-! DEFINITION. What the spec leaves open. Every constant here is opaque: it has no body, so nothing can
be proved of its value and every theorem holds whatever it is. -/

namespace Sys2Proof.Config

/-- Log entry 11: whether a quotient num / den that the spec does not round is taken one above its floor. -/
opaque roundUp (site : Nat) (num den : Int) : Bool

/-- Log entry 12: the default points of the OCV table ("Calvelund LFP set", R215). -/
opaque ocvDefault (i : Nat) : BitVec 16

/-- Log entry 12: the default points of the hysteresis table (R215). -/
opaque hysDefault (i : Nat) : BitVec 16

/-- Log entry 50: whether a change of x (100 µV, or mV for row 3) is a move in the sense of R169, which gives no size. -/
opaque moved (row : Nat) (x : Int) : Bool

/-- Log entry 11: a quotient by zero, to which the spec gives no value. -/
opaque divZero (site : Nat) (num : Rat) : Rat

/-- Log entry 16: the order in which the spec leaves equal candidates. -/
opaque tieKey (site i : Nat) : Nat

/-- Log entry 17: what a GET_INFO item carries, as the spec gives no item codes: 1 the hardware revision, 2 and 3 the low and high half of
FW_A, 4 and 5 those of FW_B, any other value none of these. -/
opaque itemKind (item : Nat) : BitVec 8

/-- Log entry 17: the value that a DN8 answers for a GET_INFO item. -/
opaque nodeInfo (node item : Nat) : BitVec 16

/-- Log entry 70: the string link key before the first node is paired, which the spec does not give (R123). -/
opaque noKey : Nat

/-- Log entry 2: the k-th draw of the random-number generator of node n (R136). -/
opaque nodeDraw (n k : Nat) : Nat

/-- Log entry 19: KIND of a record 0x0903, which the spec does not code: 0 module hot, 1 fan, 2 flow, 3 coolant. -/
opaque hotKind (what : Nat) : BitVec 8

/-- Log entry 19: T of a record 0x0903 of a fan or flow input, to which the spec gives no temperature. -/
opaque faultT (what index : Nat) : BitVec 16

/-- Log entry 19: KIND of a record 0x0B03, which the spec does not code: 0 no TAKE, 1 no acknowledgement. -/
opaque swapKind (what : Nat) : BitVec 8

/-- Log entry 18: the ECDSA P-256 signature in the last 64 bytes of a part checks against the loader's key (R459). -/
opaque sigOk (bytes : List Byte) : Bool

/-- Log entry 18: the saggar reads a staged image and finds it good (R463). -/
opaque sagVerify (bytes : List Byte) : Bool

/-- Log entry 19: STEP of a record 0x1001, which the spec does not code: 0 manifest, 1 staging, 2 activation, 3 node,
4 forwarding. -/
opaque updStep (what : Nat) : BitVec 8

/-- Log entry 19: which of the eleven codes that R399 gives to events an attention message of a failed activation carries (R466); R399
lists none for it. -/
opaque updAttn : BitVec 8

/-- R392, R462: ATTN_MASK of the session that a module opens at its downstream neighbour (log entry 86). -/
opaque fwdMask : BitVec 32

/-- Log entry 4: SYS_VER.DN8_HW_MIN and DN8_HW_MAX of the MGP firmware of a version (R135). -/
opaque dn8Range (version : Nat) : BitVec 4 × BitVec 4

/-- Log entry 20: the rate that the lamplighter's servo asks for, 0.001 ppb; the spec gives its bounds and not its law. -/
opaque servoRate (offset : Int) (k : Nat) : Int

/-- Log entry 2: the k-th draw of the random-number generator (R123, R353). -/
opaque random (k : Nat) : Nat

end Sys2Proof.Config
end

