-- ==== Sys2Proof/Machine/Params.lean ====
section
/-! DEFINITION. The parameter dictionary: every index of R445 to R452 with its range, its default and the
boundary at which a write takes effect (R423, R424, R448). -/

namespace Sys2Proof.Machine

/-- R424: the boundary at which a written setting takes effect; `on` names an event of its parameter table, which for the settings of the
first row of R424 counts from the FRAME_END after the write (`later`). -/
inductive PBnd
  | atOnce | frameEnd | inner | outer | frameStart | valley | sample | on (w : When) | later (w : When)
  deriving DecidableEq, Repr

/-- One setting: its range, its default, its boundary, and whether its code is signed (R446). -/
structure PInfo where
  /-- least value -/
  lo : Int
  /-- greatest value -/
  hi : Int
  /-- default value -/
  dflt : Int
  /-- boundary of R424 -/
  bnd : PBnd := .atOnce
  /-- a signed type -/
  signed : Bool := false
  deriving DecidableEq, Repr

/-- R75: the SYS settings, SYS_PRECHG_TIMEOUT to SYS_CO_PERMIT. -/
def Params.sys : List PInfo :=
  [⟨500, 10000, 3000, .atOnce, false⟩,
   ⟨1000, 50000, 10000, .atOnce, false⟩,
   ⟨10, 600, 60, .atOnce, false⟩,
   ⟨8000, 64000, 32000, .atOnce, false⟩,
   ⟨60, 3600, 600, .atOnce, false⟩,
   ⟨0, 15, 0, .atOnce, false⟩]

/-- R38: the CSM settings, CSM_HQ_QUOTA_0 to CSM_BURST_LIM_5. -/
def Params.csm : List PInfo :=
  [⟨1, 32, 24, .atOnce, false⟩,
   ⟨1, 32, 24, .atOnce, false⟩,
   ⟨0, 8, 4, .atOnce, false⟩,
   ⟨1, 64, 16, .atOnce, false⟩,
   ⟨1, 64, 16, .atOnce, false⟩,
   ⟨1, 64, 16, .atOnce, false⟩,
   ⟨1, 64, 16, .atOnce, false⟩,
   ⟨1, 64, 16, .atOnce, false⟩,
   ⟨1, 64, 16, .atOnce, false⟩]

/-- R103: the FSQ settings, FSQ_ALIGN to FSQ_LATE_LIM. -/
def Params.fsq : List PInfo :=
  [⟨0, 7999999, 0, .later .realign, false⟩,
   ⟨100, 10000, 2000, .later .checkpoint, false⟩]

/-- R145: the FNL settings, FNL_LINK_VER_MAX to FNL_CMD_RETRY. -/
def Params.fnl : List PInfo :=
  [⟨2, 3, 3, .later .join, false⟩,
   ⟨0, 1, 1, .later .freeze, false⟩,
   ⟨50, 1000, 200, .later .join, false⟩,
   ⟨1, 168, 24, .later .advance, false⟩,
   ⟨25, 32, 25, .later .boot, false⟩,
   ⟨25, 32, 27, .later .boot, false⟩,
   ⟨9, 12, 9, .later .boot, false⟩,
   ⟨9, 12, 11, .later .boot, false⟩,
   ⟨0, 1, 1, .frameEnd, false⟩,
   ⟨5, 80, 20, .frameEnd, false⟩,
   ⟨50, 5000, 500, .frameEnd, false⟩,
   ⟨10, 3600, 60, .frameEnd, false⟩,
   ⟨1, 8, 3, .later .command, false⟩]

/-- R181: the MEA settings, MEA_CMP_OV to MEA_LINK_R. -/
def Params.mea : List PInfo :=
  [⟨250, 500, 370, .frameEnd, false⟩,
   ⟨100, 350, 230, .frameEnd, false⟩,
   ⟨5, 250, 25, .frameEnd, false⟩,
   ⟨1, 50, 4, .frameEnd, false⟩,
   ⟨8, 255, 64, .frameEnd, false⟩,
   ⟨-20000, 20000, 0, .frameEnd, true⟩,
   ⟨-20000, 20000, 0, .frameEnd, true⟩,
   ⟨10000, 10000000, 150000, .frameEnd, false⟩,
   ⟨50, 95, 75, .frameEnd, false⟩,
   ⟨105, 150, 125, .frameEnd, false⟩,
   ⟨300, 5000, 500, .frameEnd, false⟩,
   ⟨20, 1000, 150, .frameEnd, false⟩,
   ⟨500, 20000, 3000, .frameEnd, false⟩,
   ⟨10, 1000, 50, .frameEnd, false⟩,
   ⟨0, 1000000, 0, .frameEnd, false⟩]

/-- R215: the estimator settings after the two tables, from index 0x0180. -/
def Params.est : List PInfo :=
  [⟨0, 4294967295, 1, .frameEnd, false⟩,
   ⟨30000, 45000, 36000, .frameEnd, false⟩,
   ⟨20000, 32000, 29000, .frameEnd, false⟩,
   ⟨20000, 32000, 29000, .frameEnd, false⟩,
   ⟨20000, 34000, 30000, .frameEnd, false⟩,
   ⟨0, 6553, 0, .frameEnd, false⟩,
   ⟨1, 720, 72, .frameEnd, false⟩,
   ⟨500, 50000, 5000, .frameEnd, false⟩,
   ⟨300, 7200, 1800, .later .rest, false⟩,
   ⟨200, 20000, 2000, .frameEnd, false⟩,
   ⟨-1280, 3840, 640, .frameEnd, true⟩,
   ⟨-1280, 3840, 2560, .frameEnd, true⟩,
   ⟨655, 13107, 3277, .frameEnd, false⟩,
   ⟨20, 6553, 100, .frameEnd, false⟩,
   ⟨100, 6553, 1000, .frameEnd, false⟩,
   ⟨0, 1600000, 1600000, .frameEnd, false⟩,
   ⟨0, 1600000, 1600000, .frameEnd, false⟩,
   ⟨0, 65535, 9830, .frameEnd, false⟩,
   ⟨0, 65535, 5243, .frameEnd, false⟩,
   ⟨0, 65535, 1966, .frameEnd, false⟩,
   ⟨0, 65535, 58982, .frameEnd, false⟩,
   ⟨0, 65535, 62259, .frameEnd, false⟩,
   ⟨0, 65535, 64225, .frameEnd, false⟩,
   ⟨20000, 45000, 31000, .frameEnd, false⟩,
   ⟨20000, 45000, 30500, .frameEnd, false⟩,
   ⟨20000, 45000, 30000, .frameEnd, false⟩,
   ⟨20000, 45000, 34500, .frameEnd, false⟩,
   ⟨20000, 45000, 35000, .frameEnd, false⟩,
   ⟨20000, 45000, 35500, .frameEnd, false⟩,
   ⟨0, 6553, 655, .frameEnd, false⟩,
   ⟨0, 1000, 200, .frameEnd, false⟩,
   ⟨0, 100, 100, .frameEnd, false⟩,
   ⟨0, 100, 60, .frameEnd, false⟩,
   ⟨0, 100, 20, .frameEnd, false⟩,
   ⟨0, 1, 0, .frameEnd, false⟩,
   ⟨100, 100000, 2000, .frameEnd, false⟩,
   ⟨0, 100000, 500, .frameEnd, false⟩,
   ⟨0, 4480, 3200, .frameEnd, true⟩,
   ⟨20000, 40000, 31000, .frameEnd, false⟩,
   ⟨1, 8, 4, .frameEnd, false⟩,
   ⟨100, 60000, 1000, .frameEnd, false⟩,
   ⟨1, 3600, 60, .frameEnd, false⟩,
   ⟨10, 3600, 60, .frameEnd, false⟩,
   ⟨10000, 1600000, 100000, .later .cal, false⟩]

/-- R236: the PRB settings, PRB_EN to PRB_TCAL[15]. -/
def Params.prb : List PInfo :=
  [⟨0, 15, 0, .later .point, false⟩,
   ⟨8000, 80000, 16000, .later .point, false⟩,
   ⟨8000, 80000, 16000, .later .point, false⟩,
   ⟨8000, 80000, 16000, .later .point, false⟩,
   ⟨8000, 80000, 16000, .later .point, false⟩,
   ⟨2, 16, 2, .later .point, false⟩,
   ⟨50, 2000, 200, .later .point, false⟩,
   ⟨0, 16, 4, .later .publish, false⟩,
   ⟨500, 50000, 2000, .later .point, false⟩,
   ⟨0, 3, 2, .later .publish, false⟩,
   ⟨0, 3, 2, .later .publish, false⟩,
   ⟨0, 16, 0, .later .publish, false⟩,
   ⟨0, 4294967295, 0, .later .publish, false⟩,
   ⟨0, 4294967295, 0, .later .publish, false⟩,
   ⟨0, 4294967295, 0, .later .publish, false⟩,
   ⟨0, 4294967295, 0, .later .publish, false⟩,
   ⟨0, 4294967295, 0, .later .publish, false⟩,
   ⟨0, 4294967295, 0, .later .publish, false⟩,
   ⟨0, 4294967295, 0, .later .publish, false⟩,
   ⟨0, 4294967295, 0, .later .publish, false⟩,
   ⟨0, 4294967295, 0, .later .publish, false⟩,
   ⟨0, 4294967295, 0, .later .publish, false⟩,
   ⟨0, 4294967295, 0, .later .publish, false⟩,
   ⟨0, 4294967295, 0, .later .publish, false⟩,
   ⟨0, 4294967295, 0, .later .publish, false⟩,
   ⟨0, 4294967295, 0, .later .publish, false⟩,
   ⟨0, 4294967295, 0, .later .publish, false⟩,
   ⟨0, 4294967295, 0, .later .publish, false⟩]

/-- R448: the PHM settings, PHM_EN_MASK to PHM_STOP_TIMEOUT. -/
def Params.phm : List PInfo :=
  [⟨0, 65535, 0, .atOnce, false⟩,
   ⟨40000, 200000, 100000, .atOnce, false⟩,
   ⟨0, 1, 0, .on .refBound, false⟩,
   ⟨40, 4000, 400, .on .refBound, false⟩,
   ⟨20000, 150000, 125000, .atOnce, false⟩,
   ⟨1, 64, 8, .on .refBound, false⟩,
   ⟨5, 50, 15, .on .second, false⟩,
   ⟨1000, 30000, 6000, .on .refBound, false⟩,
   ⟨2000, 40000, 10000, .on .refBound, false⟩,
   ⟨0, 1000, 100, .on .refBound, false⟩,
   ⟨1, 32, 4, .on .burst, false⟩,
   ⟨1000, 30000, 10000, .on .burst, false⟩,
   ⟨200, 20000, 1000, .on .burst, false⟩,
   ⟨32768, 65535, 58982, .on .track, false⟩,
   ⟨1, 16, 2, .on .refBound, false⟩,
   ⟨10000, 100000, 85000, .on .refBound, false⟩,
   ⟨5000, 95000, 65000, .on .refBound, false⟩,
   ⟨1, 64, 8, .on .refBound, false⟩,
   ⟨1, 4000, 40, .on .refBound, false⟩,
   ⟨1, 32, 4, .on .shed, false⟩,
   ⟨1, 8, 2, .on .add, false⟩,
   ⟨5000, 100000, 20000, .atOnce, false⟩,
   ⟨5000, 100000, 25000, .atOnce, false⟩,
   ⟨1, 4, 4, .on .release, false⟩,
   ⟨0, 1, 0, .on .track, false⟩,
   ⟨0, 65535, 16384, .on .track, false⟩,
   ⟨10000, 200000, 50000, .on .track, false⟩,
   ⟨100, 20000, 2000, .on .track, false⟩,
   ⟨1000, 50000, 5000, .on .track, false⟩,
   ⟨5, 500, 20, .on .track, false⟩,
   ⟨0, 1000, 50, .on .track, false⟩,
   ⟨500, 30000, 3000, .on .track, false⟩,
   ⟨1000, 64000, 16000, .on .stop, false⟩,
   ⟨1000, 20000, 5000, .on .stop, false⟩,
   ⟨100, 10000, 1000, .on .stop, false⟩]

/-- R305: the CTL settings, CTL_OUTER_DIV to CTL_OVR_LIM. -/
def Params.ctl : List PInfo :=
  [⟨1, 32, 8, .frameStart, false⟩,
   ⟨8192, 16384, 15073, .inner, false⟩,
   ⟨16384, 32767, 17695, .inner, false⟩,
   ⟨32768, 65535, 55706, .inner, false⟩,
   ⟨0, 4294967295, 0, .outer, false⟩,
   ⟨0, 4294967295, 655, .outer, false⟩,
   ⟨0, 4294967295, 0, .outer, false⟩,
   ⟨0, 4294967295, 3277, .outer, false⟩,
   ⟨0, 4294967295, 655360, .outer, false⟩,
   ⟨0, 4294967295, 32768, .outer, false⟩,
   ⟨0, 3200000, 1600000, .outer, false⟩,
   ⟨0, 1000, 0, .outer, false⟩,
   ⟨1, 4294967295, 8000, .outer, false⟩,
   ⟨1, 4294967295, 80000, .outer, false⟩,
   ⟨1, 4294967295, 4000000, .outer, false⟩,
   ⟨1, 4294967295, 10000, .outer, false⟩,
   ⟨1, 4294967295, 100000, .outer, false⟩,
   ⟨1, 4294967295, 4294967295, .outer, false⟩,
   ⟨1, 4294967295, 50, .outer, false⟩,
   ⟨1, 4294967295, 500, .outer, false⟩,
   ⟨1, 4294967295, 4294967295, .outer, false⟩,
   ⟨100000, 1500000, 800000, .on .setPoint, false⟩,
   ⟨100000, 1500000, 1200000, .on .setPoint, false⟩,
   ⟨10000, 100000, 100000, .on .refBound, false⟩,
   ⟨0, 1600000, 1600000, .outer, false⟩,
   ⟨0, 1600000, 1600000, .outer, false⟩,
   ⟨500, 50000, 2000, .sample, false⟩,
   ⟨5, 100, 25, .sample, false⟩,
   ⟨5000, 200000, 20000, .outer, false⟩,
   ⟨1, 1000, 10, .on .second, false⟩]

/-- R324: the THM settings, part 0, THM_RO_OFS[0] to THM_XCHK_TOL. (Log entry 4, DESIGN CHOICE.) -/
def Params.thm0 : List PInfo :=
  [⟨-1280, 1280, 0, .on .tick, true⟩,
   ⟨-1280, 1280, 0, .on .tick, true⟩,
   ⟨-1280, 1280, 0, .on .tick, true⟩,
   ⟨-1280, 1280, 0, .on .tick, true⟩,
   ⟨-1280, 1280, 0, .on .tick, true⟩,
   ⟨-1280, 1280, 0, .on .tick, true⟩,
   ⟨-1280, 1280, 0, .on .tick, true⟩,
   ⟨-1280, 1280, 0, .on .tick, true⟩,
   ⟨-1280, 1280, 0, .on .tick, true⟩,
   ⟨-1280, 1280, 0, .on .tick, true⟩,
   ⟨-1280, 1280, 0, .on .tick, true⟩,
   ⟨-1280, 1280, 0, .on .tick, true⟩,
   ⟨-1280, 1280, 0, .on .tick, true⟩,
   ⟨-1280, 1280, 0, .on .tick, true⟩,
   ⟨-1280, 1280, 0, .on .tick, true⟩,
   ⟨-1280, 1280, 0, .on .tick, true⟩,
   ⟨5120, 7040, 6400, .on .tick, true⟩,
   ⟨0, 1000000, 10000, .on .tick, false⟩,
   ⟨0, 10000, 20, .on .tick, false⟩,
   ⟨0, 10000, 20, .on .tick, false⟩,
   ⟨0, 10000, 60, .on .tick, false⟩,
   ⟨0, 10000, 120, .on .tick, false⟩,
   ⟨0, 10000, 200, .on .tick, false⟩,
   ⟨1, 100000, 1, .on .tick, false⟩,
   ⟨1, 100000, 20, .on .tick, false⟩,
   ⟨1, 100000, 300, .on .tick, false⟩,
   ⟨1, 100000, 5000, .on .tick, false⟩,
   ⟨0, 1920, 960, .atOnce, true⟩,
   ⟨0, 1920, 640, .on .tick, true⟩,
   ⟨3200, 11520, 7040, .on .tick, true⟩,
   ⟨3200, 11520, 8960, .on .tick, true⟩,
   ⟨-1280, 1280, 0, .atOnce, true⟩,
   ⟨1280, 3840, 2880, .atOnce, true⟩,
   ⟨-1920, 0, -1280, .atOnce, true⟩,
   ⟨2560, 4480, 3840, .atOnce, true⟩,
   ⟨64, 1280, 320, .on .tick, true⟩,
   ⟨0, 960, 320, .on .tick, true⟩,
   ⟨1, 600, 10, .on .frame, false⟩,
   ⟨2, 3600, 60, .on .frame, false⟩,
   ⟨64, 1280, 320, .on .frame, true⟩]

/-- R324: the THM settings, part 1, THM_XCHK_S to THM_FAN_DMIN_3. -/
def Params.thm1 : List PInfo :=
  [⟨1, 3600, 60, .on .frame, false⟩,
   ⟨1, 10000, 50, .on .frame, false⟩,
   ⟨60, 36000, 1800, .on .frame, false⟩,
   ⟨0, 3, 0, .on .tick, false⟩,
   ⟨0, 4480, 2880, .on .tick, true⟩,
   ⟨500, 60000, 5000, .atOnce, false⟩,
   ⟨10000, 400000, 80000, .on .tick, false⟩,
   ⟨50, 1000, 200, .on .tick, false⟩,
   ⟨0, 4, 0, .atOnce, false⟩,
   ⟨0, 4, 0, .atOnce, false⟩,
   ⟨0, 4, 0, .atOnce, false⟩,
   ⟨0, 4, 0, .atOnce, false⟩,
   ⟨0, 4, 0, .atOnce, false⟩,
   ⟨0, 4, 0, .atOnce, false⟩,
   ⟨0, 4, 0, .atOnce, false⟩,
   ⟨0, 4, 0, .atOnce, false⟩,
   ⟨-2560, 11520, 1920, .atOnce, true⟩,
   ⟨-2560, 11520, 1920, .atOnce, true⟩,
   ⟨-2560, 11520, 1920, .atOnce, true⟩,
   ⟨-2560, 11520, 1920, .atOnce, true⟩,
   ⟨-2560, 11520, 2880, .atOnce, true⟩,
   ⟨-2560, 11520, 2880, .atOnce, true⟩,
   ⟨-2560, 11520, 2880, .atOnce, true⟩,
   ⟨-2560, 11520, 2880, .atOnce, true⟩,
   ⟨-2560, 11520, 1920, .atOnce, true⟩,
   ⟨-2560, 11520, 1920, .atOnce, true⟩,
   ⟨-2560, 11520, 1920, .atOnce, true⟩,
   ⟨-2560, 11520, 1920, .atOnce, true⟩,
   ⟨-2560, 11520, 2880, .atOnce, true⟩,
   ⟨-2560, 11520, 2880, .atOnce, true⟩,
   ⟨-2560, 11520, 2880, .atOnce, true⟩,
   ⟨-2560, 11520, 2880, .atOnce, true⟩,
   ⟨0, 65535, 6554, .atOnce, false⟩,
   ⟨0, 65535, 6554, .atOnce, false⟩,
   ⟨0, 65535, 6554, .atOnce, false⟩,
   ⟨0, 65535, 6554, .atOnce, false⟩,
   ⟨0, 65535, 6554, .atOnce, false⟩,
   ⟨0, 65535, 6554, .atOnce, false⟩,
   ⟨0, 65535, 6554, .atOnce, false⟩,
   ⟨0, 65535, 6554, .atOnce, false⟩]

/-- R324: the THM settings, part 2, THM_VLV_HOST_0 to THM_FLOW_MIN. -/
def Params.thm2 : List PInfo :=
  [⟨0, 65535, 0, .atOnce, false⟩,
   ⟨0, 65535, 0, .atOnce, false⟩,
   ⟨0, 65535, 0, .atOnce, false⟩,
   ⟨0, 65535, 0, .atOnce, false⟩,
   ⟨0, 65535, 0, .atOnce, false⟩,
   ⟨0, 65535, 0, .atOnce, false⟩,
   ⟨0, 65535, 0, .atOnce, false⟩,
   ⟨0, 65535, 0, .atOnce, false⟩,
   ⟨1, 8, 2, .on .tick, false⟩,
   ⟨100, 20000, 600, .on .tick, false⟩,
   ⟨1, 60000, 450, .on .tick, false⟩,
   ⟨0, 10000, 100, .on .tick, false⟩]

/-- R448: the THM settings in index order. -/
def Params.thm : List PInfo := Params.thm0 ++ Params.thm1 ++ Params.thm2

/-- R361: the SAG settings, SAG_OV_HARD to SAG_HOLD_DUTY. -/
def Params.sag : List PInfo :=
  [⟨30000, 45000, 36500, .atOnce, false⟩,
   ⟨15000, 32000, 25000, .atOnce, false⟩,
   ⟨1, 4, 2, .atOnce, false⟩,
   ⟨100000, 1760000, 1760000, .atOnce, false⟩,
   ⟨100000, 1760000, 1760000, .atOnce, false⟩,
   ⟨100, 3000, 1000, .atOnce, false⟩,
   ⟨2560, 5120, 4160, .atOnce, true⟩,
   ⟨6400, 11520, 9600, .atOnce, true⟩,
   ⟨1000, 100000, 20000, .atOnce, false⟩,
   ⟨100, 10000, 1000, .atOnce, false⟩,
   ⟨0, 8, 2, .atOnce, false⟩,
   ⟨60, 1800, 600, .atOnce, false⟩,
   ⟨0, 1600000, 800000, .atOnce, false⟩,
   ⟨0, 1600000, 800000, .atOnce, false⟩,
   ⟨0, 1, 1, .atOnce, false⟩,
   ⟨20, 1000, 100, .atOnce, false⟩,
   ⟨1, 500, 20, .atOnce, false⟩,
   ⟨2, 100, 10, .atOnce, false⟩,
   ⟨0, 4294967295, 0, .atOnce, false⟩,
   ⟨20, 500, 100, .atOnce, false⟩,
   ⟨10000, 200000, 50000, .atOnce, false⟩,
   ⟨20, 500, 100, .atOnce, false⟩,
   ⟨50, 1000, 200, .atOnce, false⟩,
   ⟨13107, 65535, 22938, .atOnce, false⟩]

/-- R382: the PRL settings, PRL_MODE to PRL_VER_MAX. -/
def Params.prl : List PInfo :=
  [⟨0, 1, 1, .on .boot, false⟩,
   ⟨0, 1, 1, .on .tick, false⟩,
   ⟨1, 2, 2, .on .boot, false⟩]

/-- R416: the PLK settings, part 0, PLK_STRING_ID to PLK_ALLOW[20]. -/
def Params.plk0 : List PInfo :=
  [⟨1, 65535, 1, .atOnce, false⟩,
   ⟨0, 4294967295, 0, .on .linkUpA, false⟩,
   ⟨0, 4294967295, 0, .on .linkUpB, false⟩,
   ⟨8, 30, 24, .on .linkUpA, false⟩,
   ⟨8, 30, 24, .on .linkUpB, false⟩,
   ⟨0, 4294967295, 0, .on .linkUpA, false⟩,
   ⟨0, 4294967295, 0, .on .linkUpB, false⟩,
   ⟨0, 4294967295, 0, .on .linkUpA, false⟩,
   ⟨0, 4294967295, 0, .on .linkUpA, false⟩,
   ⟨0, 4294967295, 0, .on .linkUpA, false⟩,
   ⟨0, 4294967295, 0, .on .linkUpA, false⟩,
   ⟨0, 4294967295, 0, .on .linkUpB, false⟩,
   ⟨0, 4294967295, 0, .on .linkUpB, false⟩,
   ⟨0, 4294967295, 0, .on .linkUpB, false⟩,
   ⟨0, 4294967295, 0, .on .linkUpB, false⟩,
   ⟨8, 128, 64, .on .linkUpA, false⟩,
   ⟨8, 128, 64, .on .linkUpB, false⟩,
   ⟨0, 4094, 0, .on .linkUpA, false⟩,
   ⟨0, 4094, 0, .on .linkUpB, false⟩,
   ⟨0, 4294967295, 0, .atOnce, false⟩,
   ⟨0, 4294967295, 0, .atOnce, false⟩,
   ⟨0, 4294967295, 0, .atOnce, false⟩,
   ⟨0, 4294967295, 0, .atOnce, false⟩,
   ⟨0, 4294967295, 0, .atOnce, false⟩,
   ⟨0, 4294967295, 0, .atOnce, false⟩,
   ⟨0, 4294967295, 0, .atOnce, false⟩,
   ⟨0, 4294967295, 0, .atOnce, false⟩,
   ⟨0, 4294967295, 0, .atOnce, false⟩,
   ⟨0, 4294967295, 0, .atOnce, false⟩,
   ⟨0, 4294967295, 0, .atOnce, false⟩,
   ⟨0, 4294967295, 0, .atOnce, false⟩,
   ⟨0, 4294967295, 0, .atOnce, false⟩,
   ⟨0, 4294967295, 0, .atOnce, false⟩,
   ⟨0, 4294967295, 0, .atOnce, false⟩,
   ⟨0, 4294967295, 0, .atOnce, false⟩,
   ⟨0, 4294967295, 0, .atOnce, false⟩,
   ⟨0, 4294967295, 0, .atOnce, false⟩,
   ⟨0, 4294967295, 0, .atOnce, false⟩,
   ⟨0, 4294967295, 0, .atOnce, false⟩,
   ⟨0, 4294967295, 0, .atOnce, false⟩]

/-- R416: the PLK settings, part 1, PLK_ALLOW[21] to LMP_ALIGN_TOL. -/
def Params.plk1 : List PInfo :=
  [⟨0, 4294967295, 0, .atOnce, false⟩,
   ⟨0, 4294967295, 0, .atOnce, false⟩,
   ⟨0, 4294967295, 0, .atOnce, false⟩,
   ⟨0, 4294967295, 0, .atOnce, false⟩,
   ⟨0, 4294967295, 0, .atOnce, false⟩,
   ⟨0, 4294967295, 0, .atOnce, false⟩,
   ⟨0, 4294967295, 0, .atOnce, false⟩,
   ⟨0, 4294967295, 0, .atOnce, false⟩,
   ⟨0, 4294967295, 0, .atOnce, false⟩,
   ⟨0, 4294967295, 0, .atOnce, false⟩,
   ⟨0, 4294967295, 0, .atOnce, false⟩,
   ⟨0, 4294967295, 0, .atOnce, false⟩,
   ⟨0, 4294967295, 0, .atOnce, false⟩,
   ⟨0, 4294967295, 0, .atOnce, false⟩,
   ⟨0, 4294967295, 0, .atOnce, false⟩,
   ⟨0, 4294967295, 0, .atOnce, false⟩,
   ⟨0, 4294967295, 0, .atOnce, false⟩,
   ⟨0, 4294967295, 0, .atOnce, false⟩,
   ⟨0, 4294967295, 0, .atOnce, false⟩,
   ⟨2, 600, 10, .atOnce, false⟩,
   ⟨50, 5000, 200, .atOnce, false⟩,
   ⟨0, 4294967295, 0, .atOnce, false⟩,
   ⟨0, 4294967295, 0, .on .linkUp, false⟩,
   ⟨0, 4294967295, 0, .on .linkUp, false⟩,
   ⟨0, 4294967295, 0, .on .linkUp, false⟩,
   ⟨0, 4294967295, 0, .on .linkUp, false⟩,
   ⟨0, 4294967295, 0, .on .linkUp, false⟩,
   ⟨100, 60000, 10000, .atOnce, false⟩,
   ⟨0, 127, 0, .on .boot, false⟩,
   ⟨0, 1, 0, .on .boot, false⟩,
   ⟨0, 1, 0, .on .boot, false⟩,
   ⟨0, 1, 0, .on .boot, false⟩,
   ⟨0, 1, 0, .on .boot, false⟩,
   ⟨-7, 0, -3, .atOnce, true⟩,
   ⟨2, 10, 3, .atOnce, false⟩,
   ⟨-1000000, 1000000, 0, .atOnce, true⟩,
   ⟨-1000000, 1000000, 0, .atOnce, true⟩,
   ⟨1000, 1000000, 10000, .atOnce, false⟩,
   ⟨1, 100, 20, .atOnce, false⟩,
   ⟨100, 10000, 1000, .on .offset, false⟩]

/-- R416: the PLK settings, part 2, LMP_LOSS_N to LMP_HOLD_MAX. -/
def Params.plk2 : List PInfo :=
  [⟨2, 64, 8, .atOnce, false⟩,
   ⟨10, 86400, 3600, .atOnce, false⟩]

/-- R448: the PLK settings in index order. -/
def Params.plk : List PInfo := Params.plk0 ++ Params.plk1 ++ Params.plk2

/-- R448: the global indices, block by block. -/
def Params.globalAt (i : Nat) : Option PInfo :=
  if i < 0x20 then Params.sys[i]?
  else if i < 0x30 then Params.csm[i - 0x20]?
  else if i < 0x40 then Params.fsq[i - 0x30]?
  else if i < 0x60 then Params.fnl[i - 0x40]?
  else if i < 0x80 then Params.mea[i - 0x60]?
  else if i < 0x100 then some ⟨0, 50000, (Config.ocvDefault (i - 0x80)).toNat, .later .tables, false⟩
  else if i < 0x180 then some ⟨0, 50000, (Config.hysDefault (i - 0x100)).toNat, .later .tables, false⟩
  else if i < 0x200 then Params.est[i - 0x180]?
  else if i < 0x220 then Params.prb[i - 0x200]?
  else if i < 0x260 then Params.phm[i - 0x220]?
  else if i < 0x280 then Params.ctl[i - 0x260]?
  else if i < 0x300 then Params.thm[i - 0x280]?
  else if i < 0x340 then Params.sag[i - 0x300]?
  else if i < 0x350 then Params.prl[i - 0x340]?
  else if i < 0x3C0 then Params.plk[i - 0x350]?
  else none

/-- R451: the per-phase settings, entries 0 to 8. -/
def Params.phase : List PInfo :=
  [⟨80, 8000, 800, .valley, false⟩,
   ⟨80, 8000, 800, .valley, false⟩,
   ⟨50000, 400000, 200000, .sample, false⟩,
   ⟨0, 16777215, 655360, .inner, false⟩,
   ⟨0, 16777215, 65536, .inner, false⟩,
   ⟨0, 1500000, 200000, .inner, false⟩,
   ⟨1000, 10000000, 400000, .inner, false⟩,
   ⟨0, 1000000, 20000, .inner, false⟩,
   ⟨64, 65535, 2048, .inner, false⟩]

/-- R452: the per-group settings, entries 0 to 2. -/
def Params.group : List PInfo :=
  [⟨500, 20000, 2133, .frameEnd, false⟩,
   ⟨3600000, 4294967295, 360000000, .frameEnd, false⟩,
   ⟨0, 4294967295, 0, .atOnce, false⟩]

/-- R445 to R452: the setting or safety parameter at an index; none for a view or a reserved index. -/
def Params.at (i : Nat) : Option PInfo :=
  if i < 0x600 then Params.globalAt i
  else if i < 0xC00 then none
  else if i < 0xE00 then Params.phase[(i - 0xC00) % 32]?
  else if i < 0x1000 then none
  else if i < 0x1C00 then Params.group[(i - 0x1000) % 8]?
  else none

/-- R449: the dictionary indices of the safety parameters, in mirror order. -/
def Params.safety : List Nat :=
  [0x60, 0x61, 0x29F, 0x2A0, 0x2A1, 0x2A2] ++ (List.range 24).map (0x300 + ·)

/-- R449: the place of a safety index in the mirror. -/
def Params.safetyPos (i : Nat) : Option Nat :=
  if i = 0x60 then some 0 else if i = 0x61 then some 1
  else if 0x29F ≤ i ∧ i ≤ 0x2A2 then some (i - 0x29F + 2)
  else if 0x300 ≤ i ∧ i ≤ 0x317 then some (i - 0x300 + 6)
  else none

/-- R450, R451, R452: the index is a view. -/
def Params.isView (i : Nat) : Bool :=
  if i < 0x600 then false
  else if i < 0xC00 then (i - 0x600) % 32 ≠ 31
  else if i < 0xE00 then 16 ≤ (i - 0xC00) % 32 ∧ (i - 0xC00) % 32 ≤ 26
  else if i < 0x1000 then false
  else if i < 0x1C00 then 3 ≤ (i - 0x1000) % 8
  else false

/-- R445, R447: the index is reserved (no setting, safety parameter or view). -/
def Params.reserved (i : Nat) : Bool := (Params.at i).isNone && !Params.isView i

namespace P

/-- R75: index of SYS_PRECHG_TIMEOUT. -/
def sysPrechgTimeout : Nat := 0x0
/-- R75: index of SYS_PRECHG_DV. -/
def sysPrechgDv : Nat := 0x1
/-- R75: index of SYS_PRECHG_COOL. -/
def sysPrechgCool : Nat := 0x2
/-- R75: index of SYS_BO_RAMP. -/
def sysBoRamp : Nat := 0x3
/-- R75: index of SYS_MAINT_IDLE. -/
def sysMaintIdle : Nat := 0x4
/-- R448: index of SYS_CO_PERMIT. -/
def sysCoPermit : Nat := 0x5
/-- R38: index of CSM_HQ_QUOTA_0. -/
def csmHqQuota0 : Nat := 0x20
/-- R38: index of CSM_HQ_QUOTA_1. -/
def csmHqQuota1 : Nat := 0x21
/-- R38: index of CSM_LOW_FLOOR. -/
def csmLowFloor : Nat := 0x22
/-- R38: index of CSM_BURST_LIM_0. -/
def csmBurstLim0 : Nat := 0x23
/-- R38: index of CSM_BURST_LIM_1. -/
def csmBurstLim1 : Nat := 0x24
/-- R38: index of CSM_BURST_LIM_2. -/
def csmBurstLim2 : Nat := 0x25
/-- R38: index of CSM_BURST_LIM_3. -/
def csmBurstLim3 : Nat := 0x26
/-- R38: index of CSM_BURST_LIM_4. -/
def csmBurstLim4 : Nat := 0x27
/-- R38: index of CSM_BURST_LIM_5. -/
def csmBurstLim5 : Nat := 0x28
/-- R103: index of FSQ_ALIGN. -/
def fsqAlign : Nat := 0x30
/-- R103: index of FSQ_LATE_LIM. -/
def fsqLateLim : Nat := 0x31
/-- R145: index of FNL_LINK_VER_MAX. -/
def fnlLinkVerMax : Nat := 0x40
/-- R145: index of FNL_JOIN_OPEN. -/
def fnlJoinOpen : Nat := 0x41
/-- R145: index of FNL_BAL_TIMEOUT. -/
def fnlBalTimeout : Nat := 0x42
/-- R145: index of FNL_EPOCH_PERIOD. -/
def fnlEpochPeriod : Nat := 0x43
/-- R145: index of FNL_HPRF_CODE_U0. -/
def fnlHprfCodeU0 : Nat := 0x44
/-- R145: index of FNL_HPRF_CODE_U1. -/
def fnlHprfCodeU1 : Nat := 0x45
/-- R145: index of FNL_BPRF_CODE_U0. -/
def fnlBprfCodeU0 : Nat := 0x46
/-- R145: index of FNL_BPRF_CODE_U1. -/
def fnlBprfCodeU1 : Nat := 0x47
/-- R145: index of FNL_AUTO_FALLBACK. -/
def fnlAutoFallback : Nat := 0x48
/-- R145: index of FNL_IMPAIR_PCT. -/
def fnlImpairPct : Nat := 0x49
/-- R145: index of FNL_IMPAIR_WIN. -/
def fnlImpairWin : Nat := 0x4a
/-- R145: index of FNL_RESTORE_HOLD. -/
def fnlRestoreHold : Nat := 0x4b
/-- R145: index of FNL_CMD_RETRY. -/
def fnlCmdRetry : Nat := 0x4c
/-- R181: index of MEA_CMP_OV. -/
def meaCmpOv : Nat := 0x60
/-- R181: index of MEA_CMP_UV. -/
def meaCmpUv : Nat := 0x61
/-- R181: index of MEA_LOST_FRAMES. -/
def meaLostFrames : Nat := 0x62
/-- R181: index of MEA_RECOVER_FRAMES. -/
def meaRecoverFrames : Nat := 0x63
/-- R181: index of MEA_TOF_AVG. -/
def meaTofAvg : Nat := 0x64
/-- R181: index of MEA_ANT_DLY_U0. -/
def meaAntDlyU0 : Nat := 0x65
/-- R181: index of MEA_ANT_DLY_U1. -/
def meaAntDlyU1 : Nat := 0x66
/-- R181: index of MEA_RS_DEFAULT. -/
def meaRsDefault : Nat := 0x67
/-- R181: index of MEA_BST_LO. -/
def meaBstLo : Nat := 0x68
/-- R181: index of MEA_BST_HI. -/
def meaBstHi : Nat := 0x69
/-- R181: index of MEA_OW_LIM. -/
def meaOwLim : Nat := 0x6a
/-- R181: index of MEA_NODE_SUM_TOL. -/
def meaNodeSumTol : Nat := 0x6b
/-- R181: index of MEA_STR_SUM_TOL. -/
def meaStrSumTol : Nat := 0x6c
/-- R181: index of MEA_STR_SUM_FRAMES. -/
def meaStrSumFrames : Nat := 0x6d
/-- R181: index of MEA_LINK_R. -/
def meaLinkR : Nat := 0x6e
/-- R215: index of EST_OCV_TAB. -/
def estOcvTab : Nat := 0x80
/-- R215: index of EST_HYS_TAB. -/
def estHysTab : Nat := 0x100
/-- R215: index of EST_CHEM_ID. -/
def estChemId : Nat := 0x180
/-- R215: index of EST_V_FULL. -/
def estVFull : Nat := 0x181
/-- R215: index of EST_V_EMPTY. -/
def estVEmpty : Nat := 0x182
/-- R215: index of EST_V_EMPTY_LEARN. -/
def estVEmptyLearn : Nat := 0x183
/-- R215: index of EST_V_CUT_WARN. -/
def estVCutWarn : Nat := 0x184
/-- R215: index of EST_LEARN_EMPTY_FR. -/
def estLearnEmptyFr : Nat := 0x185
/-- R215: index of EST_LEARN_MAX_H. -/
def estLearnMaxH : Nat := 0x186
/-- R215: index of EST_REST_I. -/
def estRestI : Nat := 0x187
/-- R215: index of EST_ANCHOR_REST. -/
def estAnchorRest : Nat := 0x188
/-- R215: index of EST_ANCHOR_SLOPE. -/
def estAnchorSlope : Nat := 0x189
/-- R215: index of EST_ANCHOR_TMIN. -/
def estAnchorTmin : Nat := 0x18a
/-- R215: index of EST_ANCHOR_TMAX. -/
def estAnchorTmax : Nat := 0x18b
/-- R215: index of EST_HYST_FR. -/
def estHystFr : Nat := 0x18c
/-- R215: index of EST_UP_RATE. -/
def estUpRate : Nat := 0x18d
/-- R215: index of EST_CUT_RATE. -/
def estCutRate : Nat := 0x18e
/-- R215: index of EST_I_DIS_MAX. -/
def estIDisMax : Nat := 0x18f
/-- R215: index of EST_I_CHG_MAX. -/
def estIChgMax : Nat := 0x190
/-- R215: index of EST_CONE_Q_C1. -/
def estConeQC1 : Nat := 0x191
/-- R215: index of EST_CONE_Q_C2. -/
def estConeQC2 : Nat := 0x192
/-- R215: index of EST_CONE_Q_C3. -/
def estConeQC3 : Nat := 0x193
/-- R215: index of EST_CONE_Q_F1. -/
def estConeQF1 : Nat := 0x194
/-- R215: index of EST_CONE_Q_F2. -/
def estConeQF2 : Nat := 0x195
/-- R215: index of EST_CONE_Q_F3. -/
def estConeQF3 : Nat := 0x196
/-- R215: index of EST_CONE_V_C1. -/
def estConeVC1 : Nat := 0x197
/-- R215: index of EST_CONE_V_C2. -/
def estConeVC2 : Nat := 0x198
/-- R215: index of EST_CONE_V_C3. -/
def estConeVC3 : Nat := 0x199
/-- R215: index of EST_CONE_V_F1. -/
def estConeVF1 : Nat := 0x19a
/-- R215: index of EST_CONE_V_F2. -/
def estConeVF2 : Nat := 0x19b
/-- R215: index of EST_CONE_V_F3. -/
def estConeVF3 : Nat := 0x19c
/-- R215: index of EST_CONE_QHYS. -/
def estConeQhys : Nat := 0x19d
/-- R215: index of EST_CONE_VHYS. -/
def estConeVhys : Nat := 0x19e
/-- R215: index of EST_CONE_FAC_1. -/
def estConeFac1 : Nat := 0x19f
/-- R215: index of EST_CONE_FAC_2. -/
def estConeFac2 : Nat := 0x1a0
/-- R215: index of EST_CONE_FAC_3. -/
def estConeFac3 : Nat := 0x1a1
/-- R215: index of EST_BAL_MODE. -/
def estBalMode : Nat := 0x1a2
/-- R215: index of EST_BAL_ON. -/
def estBalOn : Nat := 0x1a3
/-- R215: index of EST_BAL_OFF. -/
def estBalOff : Nat := 0x1a4
/-- R215: index of EST_BAL_TMAX. -/
def estBalTmax : Nat := 0x1a5
/-- R215: index of EST_BAL_VMIN. -/
def estBalVmin : Nat := 0x1a6
/-- R215: index of EST_BAL_MAX_NODE. -/
def estBalMaxNode : Nat := 0x1a7
/-- R215: index of EST_BAL_PERIOD. -/
def estBalPeriod : Nat := 0x1a8
/-- R215: index of EST_COMMIT_HOLD. -/
def estCommitHold : Nat := 0x1a9
/-- R215: index of EST_CKPT_S. -/
def estCkptS : Nat := 0x1aa
/-- R215: index of EST_CAL_I. -/
def estCalI : Nat := 0x1ab
/-- R236: index of PRB_EN. -/
def prbEn : Nat := 0x200
/-- R236: index of PRB_AMP_0. -/
def prbAmp0 : Nat := 0x201
/-- R236: index of PRB_AMP_1. -/
def prbAmp1 : Nat := 0x202
/-- R236: index of PRB_AMP_2. -/
def prbAmp2 : Nat := 0x203
/-- R236: index of PRB_AMP_3. -/
def prbAmp3 : Nat := 0x204
/-- R236: index of PRB_DWELL. -/
def prbDwell : Nat := 0x205
/-- R236: index of PRB_CONN_FMIN. -/
def prbConnFmin : Nat := 0x206
/-- R236: index of PRB_MISS_MAX. -/
def prbMissMax : Nat := 0x207
/-- R236: index of PRB_DIST_LIM. -/
def prbDistLim : Nat := 0x208
/-- R236: index of PRB_RS_TONE. -/
def prbRsTone : Nat := 0x209
/-- R236: index of PRB_TINT_TONE. -/
def prbTintTone : Nat := 0x20a
/-- R236: index of PRB_TCAL_N. -/
def prbTcalN : Nat := 0x20b
/-- R236: index of PRB_TCAL. -/
def prbTcal : Nat := 0x20c
/-- R448: index of PHM_EN_MASK. -/
def phmEnMask : Nat := 0x220
/-- R274: index of PHM_PERIOD. -/
def phmPeriod : Nat := 0x221
/-- R274: index of PHM_UPD_TWICE. -/
def phmUpdTwice : Nat := 0x222
/-- R274: index of PHM_MIN_PULSE. -/
def phmMinPulse : Nat := 0x223
/-- R274: index of PHM_IPK. -/
def phmIpk : Nat := 0x224
/-- R274: index of PHM_PK_COUNT. -/
def phmPkCount : Nat := 0x225
/-- R274: index of PHM_SHARE_LIM. -/
def phmShareLim : Nat := 0x226
/-- R274: index of PHM_DE_ENTER. -/
def phmDeEnter : Nat := 0x227
/-- R274: index of PHM_DE_EXIT. -/
def phmDeExit : Nat := 0x228
/-- R274: index of PHM_ZCD_ADV. -/
def phmZcdAdv : Nat := 0x229
/-- R274: index of PHM_BURST_N. -/
def phmBurstN : Nat := 0x22a
/-- R274: index of PHM_BURST_I. -/
def phmBurstI : Nat := 0x22b
/-- R274: index of PHM_BURST_BAND. -/
def phmBurstBand : Nat := 0x22c
/-- R274: index of PHM_RCV_FRAC. -/
def phmRcvFrac : Nat := 0x22d
/-- R274: index of PHM_MIN_ACT. -/
def phmMinAct : Nat := 0x22e
/-- R274: index of PHM_ADD_I. -/
def phmAddI : Nat := 0x22f
/-- R274: index of PHM_SHED_I. -/
def phmShedI : Nat := 0x230
/-- R274: index of PHM_SHED_FILT. -/
def phmShedFilt : Nat := 0x231
/-- R274: index of PHM_SHED_HOLD. -/
def phmShedHold : Nat := 0x232
/-- R274: index of PHM_SHED_RAMP. -/
def phmShedRamp : Nat := 0x233
/-- R274: index of PHM_ADD_RAMP. -/
def phmAddRamp : Nat := 0x234
/-- R274: index of PHM_STEP_TH. -/
def phmStepTh : Nat := 0x235
/-- R274: index of PHM_REL_TH. -/
def phmRelTh : Nat := 0x236
/-- R274: index of PHM_REL_MAX. -/
def phmRelMax : Nat := 0x237
/-- R274: index of PHM_TRK_MODE. -/
def phmTrkMode : Nat := 0x238
/-- R274: index of PHM_TRK_RATIO. -/
def phmTrkRatio : Nat := 0x239
/-- R274: index of PHM_TRK_DEAD. -/
def phmTrkDead : Nat := 0x23a
/-- R274: index of PHM_TRK_SLEW. -/
def phmTrkSlew : Nat := 0x23b
/-- R274: index of PHM_TRK_WIN. -/
def phmTrkWin : Nat := 0x23c
/-- R274: index of PHM_TRK_DWELL. -/
def phmTrkDwell : Nat := 0x23d
/-- R274: index of PHM_TRK_HOLD. -/
def phmTrkHold : Nat := 0x23e
/-- R274: index of PHM_TRK_TIMEOUT. -/
def phmTrkTimeout : Nat := 0x23f
/-- R274: index of PHM_STOP_RAMP. -/
def phmStopRamp : Nat := 0x240
/-- R274: index of PHM_STOP_I. -/
def phmStopI : Nat := 0x241
/-- R274: index of PHM_STOP_TIMEOUT. -/
def phmStopTimeout : Nat := 0x242
/-- R305: index of CTL_OUTER_DIV. -/
def ctlOuterDiv : Nat := 0x260
/-- R305: index of CTL_BB_LO. -/
def ctlBbLo : Nat := 0x261
/-- R305: index of CTL_BB_HI. -/
def ctlBbHi : Nat := 0x262
/-- R305: index of CTL_BB_DFIX. -/
def ctlBbDfix : Nat := 0x263
/-- R305: index of CTL_O_KP_I. -/
def ctlOKpI : Nat := 0x264
/-- R305: index of CTL_O_KI_I. -/
def ctlOKiI : Nat := 0x265
/-- R305: index of CTL_O_KP_P. -/
def ctlOKpP : Nat := 0x266
/-- R305: index of CTL_O_KI_P. -/
def ctlOKiP : Nat := 0x267
/-- R305: index of CTL_O_KP_V. -/
def ctlOKpV : Nat := 0x268
/-- R305: index of CTL_O_KI_V. -/
def ctlOKiV : Nat := 0x269
/-- R305: index of CTL_O_XMAX. -/
def ctlOXmax : Nat := 0x26a
/-- R305: index of CTL_DROOP_KD. -/
def ctlDroopKd : Nat := 0x26b
/-- R305: index of CTL_TPR_VEL_I. -/
def ctlTprVelI : Nat := 0x26c
/-- R305: index of CTL_TPR_ACC_I. -/
def ctlTprAccI : Nat := 0x26d
/-- R305: index of CTL_TPR_JRK_I. -/
def ctlTprJrkI : Nat := 0x26e
/-- R305: index of CTL_TPR_VEL_P. -/
def ctlTprVelP : Nat := 0x26f
/-- R305: index of CTL_TPR_ACC_P. -/
def ctlTprAccP : Nat := 0x270
/-- R305: index of CTL_TPR_JRK_P. -/
def ctlTprJrkP : Nat := 0x271
/-- R305: index of CTL_TPR_VEL_V. -/
def ctlTprVelV : Nat := 0x272
/-- R305: index of CTL_TPR_ACC_V. -/
def ctlTprAccV : Nat := 0x273
/-- R305: index of CTL_TPR_JRK_V. -/
def ctlTprJrkV : Nat := 0x274
/-- R305: index of CTL_VSET_MIN. -/
def ctlVsetMin : Nat := 0x275
/-- R305: index of CTL_VSET_MAX. -/
def ctlVsetMax : Nat := 0x276
/-- R305: index of CTL_IMAX_PER_PH. -/
def ctlImaxPerPh : Nat := 0x277
/-- R305: index of CTL_HOST_LIM_DIS. -/
def ctlHostLimDis : Nat := 0x278
/-- R305: index of CTL_HOST_LIM_CHG. -/
def ctlHostLimChg : Nat := 0x279
/-- R305: index of CTL_OBS_ABS. -/
def ctlObsAbs : Nat := 0x27a
/-- R305: index of CTL_OBS_REL. -/
def ctlObsRel : Nat := 0x27b
/-- R305: index of CTL_ISUM_TOL. -/
def ctlIsumTol : Nat := 0x27c
/-- R305: index of CTL_OVR_LIM. -/
def ctlOvrLim : Nat := 0x27d
/-- R324: index of THM_RO_OFS. -/
def thmRoOfs : Nat := 0x280
/-- R324: index of THM_MOD_TWARN. -/
def thmModTwarn : Nat := 0x290
/-- R324: index of THM_LOSS_RC. -/
def thmLossRc : Nat := 0x291
/-- R324: index of THM_LOSS_KSW. -/
def thmLossKsw : Nat := 0x292
/-- R324: index of THM_FST_R1. -/
def thmFstR1 : Nat := 0x293
/-- R324: index of THM_FST_R2. -/
def thmFstR2 : Nat := 0x294
/-- R324: index of THM_FST_R3. -/
def thmFstR3 : Nat := 0x295
/-- R324: index of THM_FST_R4. -/
def thmFstR4 : Nat := 0x296
/-- R324: index of THM_FST_TAU1. -/
def thmFstTau1 : Nat := 0x297
/-- R324: index of THM_FST_TAU2. -/
def thmFstTau2 : Nat := 0x298
/-- R324: index of THM_FST_TAU3. -/
def thmFstTau3 : Nat := 0x299
/-- R324: index of THM_FST_TAU4. -/
def thmFstTau4 : Nat := 0x29a
/-- R324: index of THM_FST_OFSMAX. -/
def thmFstOfsmax : Nat := 0x29b
/-- R324: index of THM_FB_MARGIN. -/
def thmFbMargin : Nat := 0x29c
/-- R324: index of THM_PH_T1. -/
def thmPhT1 : Nat := 0x29d
/-- R324: index of THM_PH_T2. -/
def thmPhT2 : Nat := 0x29e
/-- R324: index of THM_CHG_TMIN. -/
def thmChgTmin : Nat := 0x29f
/-- R324: index of THM_CHG_TMAX. -/
def thmChgTmax : Nat := 0x2a0
/-- R324: index of THM_DIS_TMIN. -/
def thmDisTmin : Nat := 0x2a1
/-- R324: index of THM_DIS_TMAX. -/
def thmDisTmax : Nat := 0x2a2
/-- R324: index of THM_CELL_BAND. -/
def thmCellBand : Nat := 0x2a3
/-- R324: index of THM_HYST. -/
def thmHyst : Nat := 0x2a4
/-- R324: index of THM_NTC_HOLD. -/
def thmNtcHold : Nat := 0x2a5
/-- R324: index of THM_TINT_AGE. -/
def thmTintAge : Nat := 0x2a6
/-- R324: index of THM_XCHK_TOL. -/
def thmXchkTol : Nat := 0x2a7
/-- R324: index of THM_XCHK_S. -/
def thmXchkS : Nat := 0x2a8
/-- R324: index of THM_CELL_RTH. -/
def thmCellRth : Nat := 0x2a9
/-- R324: index of THM_CELL_TAU. -/
def thmCellTau : Nat := 0x2aa
/-- R324: index of THM_REF_CNTC. -/
def thmRefCntc : Nat := 0x2ab
/-- R324: index of THM_COOL_DEFAULT. -/
def thmCoolDefault : Nat := 0x2ac
/-- R324: index of THM_GRACE. -/
def thmGrace : Nat := 0x2ad
/-- R324: index of THM_REQ_STEP. -/
def thmReqStep : Nat := 0x2ae
/-- R324: index of THM_VLV_FREQ. -/
def thmVlvFreq : Nat := 0x2af
/-- R324: index of THM_VLV_SRC_0. -/
def thmVlvSrc0 : Nat := 0x2b0
/-- R324: index of THM_VLV_SRC_1. -/
def thmVlvSrc1 : Nat := 0x2b1
/-- R324: index of THM_VLV_SRC_2. -/
def thmVlvSrc2 : Nat := 0x2b2
/-- R324: index of THM_VLV_SRC_3. -/
def thmVlvSrc3 : Nat := 0x2b3
/-- R324: index of THM_FAN_SRC_0. -/
def thmFanSrc0 : Nat := 0x2b4
/-- R324: index of THM_FAN_SRC_1. -/
def thmFanSrc1 : Nat := 0x2b5
/-- R324: index of THM_FAN_SRC_2. -/
def thmFanSrc2 : Nat := 0x2b6
/-- R324: index of THM_FAN_SRC_3. -/
def thmFanSrc3 : Nat := 0x2b7
/-- R324: index of THM_VLV_TLO_0. -/
def thmVlvTlo0 : Nat := 0x2b8
/-- R324: index of THM_VLV_TLO_1. -/
def thmVlvTlo1 : Nat := 0x2b9
/-- R324: index of THM_VLV_TLO_2. -/
def thmVlvTlo2 : Nat := 0x2ba
/-- R324: index of THM_VLV_TLO_3. -/
def thmVlvTlo3 : Nat := 0x2bb
/-- R324: index of THM_VLV_THI_0. -/
def thmVlvThi0 : Nat := 0x2bc
/-- R324: index of THM_VLV_THI_1. -/
def thmVlvThi1 : Nat := 0x2bd
/-- R324: index of THM_VLV_THI_2. -/
def thmVlvThi2 : Nat := 0x2be
/-- R324: index of THM_VLV_THI_3. -/
def thmVlvThi3 : Nat := 0x2bf
/-- R324: index of THM_FAN_TLO_0. -/
def thmFanTlo0 : Nat := 0x2c0
/-- R324: index of THM_FAN_TLO_1. -/
def thmFanTlo1 : Nat := 0x2c1
/-- R324: index of THM_FAN_TLO_2. -/
def thmFanTlo2 : Nat := 0x2c2
/-- R324: index of THM_FAN_TLO_3. -/
def thmFanTlo3 : Nat := 0x2c3
/-- R324: index of THM_FAN_THI_0. -/
def thmFanThi0 : Nat := 0x2c4
/-- R324: index of THM_FAN_THI_1. -/
def thmFanThi1 : Nat := 0x2c5
/-- R324: index of THM_FAN_THI_2. -/
def thmFanThi2 : Nat := 0x2c6
/-- R324: index of THM_FAN_THI_3. -/
def thmFanThi3 : Nat := 0x2c7
/-- R324: index of THM_VLV_DMIN_0. -/
def thmVlvDmin0 : Nat := 0x2c8
/-- R324: index of THM_VLV_DMIN_1. -/
def thmVlvDmin1 : Nat := 0x2c9
/-- R324: index of THM_VLV_DMIN_2. -/
def thmVlvDmin2 : Nat := 0x2ca
/-- R324: index of THM_VLV_DMIN_3. -/
def thmVlvDmin3 : Nat := 0x2cb
/-- R324: index of THM_FAN_DMIN_0. -/
def thmFanDmin0 : Nat := 0x2cc
/-- R324: index of THM_FAN_DMIN_1. -/
def thmFanDmin1 : Nat := 0x2cd
/-- R324: index of THM_FAN_DMIN_2. -/
def thmFanDmin2 : Nat := 0x2ce
/-- R324: index of THM_FAN_DMIN_3. -/
def thmFanDmin3 : Nat := 0x2cf
/-- R324: index of THM_VLV_HOST_0. -/
def thmVlvHost0 : Nat := 0x2d0
/-- R324: index of THM_VLV_HOST_1. -/
def thmVlvHost1 : Nat := 0x2d1
/-- R324: index of THM_VLV_HOST_2. -/
def thmVlvHost2 : Nat := 0x2d2
/-- R324: index of THM_VLV_HOST_3. -/
def thmVlvHost3 : Nat := 0x2d3
/-- R324: index of THM_FAN_HOST_0. -/
def thmFanHost0 : Nat := 0x2d4
/-- R324: index of THM_FAN_HOST_1. -/
def thmFanHost1 : Nat := 0x2d5
/-- R324: index of THM_FAN_HOST_2. -/
def thmFanHost2 : Nat := 0x2d6
/-- R324: index of THM_FAN_HOST_3. -/
def thmFanHost3 : Nat := 0x2d7
/-- R324: index of THM_FAN_PPR. -/
def thmFanPpr : Nat := 0x2d8
/-- R324: index of THM_FAN_MIN_RPM. -/
def thmFanMinRpm : Nat := 0x2d9
/-- R324: index of THM_FLOW_K. -/
def thmFlowK : Nat := 0x2da
/-- R324: index of THM_FLOW_MIN. -/
def thmFlowMin : Nat := 0x2db
/-- R361: index of SAG_OV_HARD. -/
def sagOvHard : Nat := 0x300
/-- R361: index of SAG_UV_HARD. -/
def sagUvHard : Nat := 0x301
/-- R361: index of SAG_HARD_N. -/
def sagHardN : Nat := 0x302
/-- R361: index of SAG_OC_DIS. -/
def sagOcDis : Nat := 0x303
/-- R361: index of SAG_OC_CHG. -/
def sagOcChg : Nat := 0x304
/-- R361: index of SAG_OC_T. -/
def sagOcT : Nat := 0x305
/-- R361: index of SAG_OT_CELL. -/
def sagOtCell : Nat := 0x306
/-- R361: index of SAG_OT_PH. -/
def sagOtPh : Nat := 0x307
/-- R361: index of SAG_SF4_I. -/
def sagSf4I : Nat := 0x308
/-- R361: index of SAG_SF4_T. -/
def sagSf4T : Nat := 0x309
/-- R361: index of SAG_LOST_MAX. -/
def sagLostMax : Nat := 0x30a
/-- R361: index of SAG_DEG_TIME. -/
def sagDegTime : Nat := 0x30b
/-- R361: index of SAG_DEG_LIM_DIS. -/
def sagDegLimDis : Nat := 0x30c
/-- R361: index of SAG_DEG_LIM_CHG. -/
def sagDegLimChg : Nat := 0x30d
/-- R361: index of SAG_PDU_REQ. -/
def sagPduReq : Nat := 0x30e
/-- R361: index of SAG_PDU_WD. -/
def sagPduWd : Nat := 0x30f
/-- R361: index of SAG_PDU_PAIR. -/
def sagPduPair : Nat := 0x310
/-- R361: index of SAG_NET_MISS. -/
def sagNetMiss : Nat := 0x311
/-- R361: index of SAG_CONN_ID. -/
def sagConnId : Nat := 0x312
/-- R361: index of SAG_WELD_T. -/
def sagWeldT : Nat := 0x313
/-- R361: index of SAG_WELD_DV. -/
def sagWeldDv : Nat := 0x314
/-- R361: index of SAG_CLOSE_T. -/
def sagCloseT : Nat := 0x315
/-- R361: index of SAG_PULLIN. -/
def sagPullin : Nat := 0x316
/-- R361: index of SAG_HOLD_DUTY. -/
def sagHoldDuty : Nat := 0x317
/-- R382: index of PRL_MODE. -/
def prlMode : Nat := 0x340
/-- R382: index of PRL_AUTO_SWAP. -/
def prlAutoSwap : Nat := 0x341
/-- R382: index of PRL_VER_MAX. -/
def prlVerMax : Nat := 0x342
/-- R416: index of PLK_STRING_ID. -/
def plkStringId : Nat := 0x350
/-- R416: index of PLK_IP4_A. -/
def plkIp4A : Nat := 0x351
/-- R416: index of PLK_IP4_B. -/
def plkIp4B : Nat := 0x352
/-- R416: index of PLK_IP4_PFX_A. -/
def plkIp4PfxA : Nat := 0x353
/-- R416: index of PLK_IP4_PFX_B. -/
def plkIp4PfxB : Nat := 0x354
/-- R416: index of PLK_GW4_A. -/
def plkGw4A : Nat := 0x355
/-- R416: index of PLK_GW4_B. -/
def plkGw4B : Nat := 0x356
/-- R416: index of PLK_IP6_A. -/
def plkIp6A : Nat := 0x357
/-- R416: index of PLK_IP6_B. -/
def plkIp6B : Nat := 0x35b
/-- R416: index of PLK_IP6_PFX_A. -/
def plkIp6PfxA : Nat := 0x35f
/-- R416: index of PLK_IP6_PFX_B. -/
def plkIp6PfxB : Nat := 0x360
/-- R416: index of PLK_VLAN_A. -/
def plkVlanA : Nat := 0x361
/-- R416: index of PLK_VLAN_B. -/
def plkVlanB : Nat := 0x362
/-- R416: index of PLK_ALLOW. -/
def plkAllow : Nat := 0x363
/-- R416: index of PLK_SESSION_TO. -/
def plkSessionTo : Nat := 0x38b
/-- R416: index of PLK_ATTN_RETRY. -/
def plkAttnRetry : Nat := 0x38c
/-- R416: index of PLK_DISP_ID. -/
def plkDispId : Nat := 0x38d
/-- R416: index of PLK_DISP_MC4. -/
def plkDispMc4 : Nat := 0x38e
/-- R416: index of PLK_DISP_MC6. -/
def plkDispMc6 : Nat := 0x38f
/-- R416: index of PLK_DISP_IDLE. -/
def plkDispIdle : Nat := 0x393
/-- R416: index of LMP_PTP_DOMAIN. -/
def lmpPtpDomain : Nat := 0x394
/-- R416: index of LMP_PTP_TRANSPORT_A. -/
def lmpPtpTransportA : Nat := 0x395
/-- R416: index of LMP_PTP_TRANSPORT_B. -/
def lmpPtpTransportB : Nat := 0x396
/-- R416: index of LMP_PTP_DELAY_A. -/
def lmpPtpDelayA : Nat := 0x397
/-- R416: index of LMP_PTP_DELAY_B. -/
def lmpPtpDelayB : Nat := 0x398
/-- R416: index of LMP_PTP_SYNC_LOG. -/
def lmpPtpSyncLog : Nat := 0x399
/-- R416: index of LMP_PTP_ANN_TO. -/
def lmpPtpAnnTo : Nat := 0x39a
/-- R416: index of LMP_ASYM_A. -/
def lmpAsymA : Nat := 0x39b
/-- R416: index of LMP_ASYM_B. -/
def lmpAsymB : Nat := 0x39c
/-- R416: index of LMP_STEP_TH. -/
def lmpStepTh : Nat := 0x39d
/-- R416: index of LMP_SLEW_MAX. -/
def lmpSlewMax : Nat := 0x39e
/-- R416: index of LMP_ALIGN_TOL. -/
def lmpAlignTol : Nat := 0x39f
/-- R416: index of LMP_LOSS_N. -/
def lmpLossN : Nat := 0x3a0
/-- R416: index of LMP_HOLD_MAX. -/
def lmpHoldMax : Nat := 0x3a1

/-- R451: index of entry k of phase p. -/
def phase (p k : Nat) : Nat := 0xC00 + 32 * p + k
/-- R452: index of entry k of group g. -/
def group (g k : Nat) : Nat := 0x1000 + 8 * g + k

end P

end Sys2Proof.Machine
end

