-- ==== Sys2Proof/Machine/State.lean ====
section
/-! DEFINITION. The whole state of the SC48 as plain data, the two ways a step can stop, and the state right
after a power-on reset (R15). -/

namespace Sys2Proof.Machine

/-- R6: the host errors whose result the spec calls unpredictable. -/
inductive HostErr
  /-- a write of 1 to a reserved bit -/
  | reservedBit
  /-- a reserved action class, command code or type -/
  | reservedCode
  /-- a reserved dictionary index -/
  | reservedIndex
  /-- an out-of-range value of a non-safety parameter -/
  | outOfRange
  /-- a malformed mailbox message -/
  | malformed
  /-- incorrect schedule contents -/
  | schedule
  /-- R213, R324: thresholds that are not in their order -/
  | order
  deriving DecidableEq, Repr

/-- Why a step stops. Safe: the part goes on with a result that the spec does not specify. -/
inductive Fault
  /-- Raised by a command that carries a host error of R6, whose result the spec calls unpredictable. Safe. -/
  | hostError (k : HostErr)
  deriving DecidableEq, Repr

/-- Why a command has no meaning. -/
inductive Refusal
  /-- Raised by exec's arm of a command that the model does not cover. Safe. -/
  | notModelled (mnemonic : String)
  deriving DecidableEq, Repr

structure State where
  /-- R325: what the pins and front ends present -/
  pins : Pins := {}
  /-- R16: SYS and the MGP's own state -/
  sys : Sys := {}
  /-- R16: firing sequencer -/
  fsq : Fsq := {}
  /-- R16: Finam link -/
  fnl : Fnl := {}
  /-- R141: the 48 DN8 nodes -/
  nodes : List Dn8 := List.replicate 48 {}
  /-- R16: cell state memory and arbiter -/
  csm : Csm := {}
  /-- R16: measurement -/
  mea : Mea := {}
  /-- R16: estimator array -/
  est : Est := {}
  /-- R16: probe -/
  prb : Prb := {}
  /-- R16: phase modulators -/
  phm : Phm := {}
  /-- R16: control engine -/
  ctl : Ctl := {}
  /-- R16: thermal manager -/
  thm : Thm := {}
  /-- R16: saggar safety channel -/
  sag : Sag := {}
  /-- R16: pair link -/
  prl : Prl := {}
  /-- R16: plant link -/
  plk : Plk := {}
  /-- R16: lamplighter -/
  lmp : Lmp := {}
  /-- R16: mailboxes -/
  mbx : Mbx := {}
  /-- R445: parameter store -/
  dict : Par := {}
  /-- R16: update staging and bisque loader -/
  upd : Upd := {}
  /-- R16: event recorder and MRAM -/
  log : Log := {}
  /-- R16: spyhole monitor -/
  spy : Spy := {}
  /-- the model's own counter behind the free values, not the spec's (log entry 2) -/
  fresh : Nat := 0
  /-- commands waiting, first in, first out (log entry 1) -/
  pending : List Instr := []
  deriving DecidableEq, Repr

/-- R15: right after a power-on reset with no completed shutdown before it: STATE is BOOT (R50, R57, R58). -/
def State.reset : State := {}

end Sys2Proof.Machine
end

