-- ==== Sys2Proof/Machine/Ops.lean ====
section
/-! DEFINITION. The operations every block shares: parameters in force, event records, attention messages,
operating states, contactor paths, degraded-class faults and isolation. -/

namespace Sys2Proof.Machine

/-- What a command answers. -/
abbrev Out := Host.Outcome State Fault Refusal

/-! Host writes (R429). -/

/-- R429: a host write to a register of a block in domain d is discarded, with SYS_ACC_STAT.ABSENT, where the block does not answer. (Log
entry 41, DEDUCED.) -/
def State.hostWrite (s : State) (d : Nat) (o : Out) : Out :=
  if nth s.sys.pd d false && !nth s.sys.fenced d true then o else .next { s with sys := { s.sys with accAbsent := true } }

/-- R429: in PILOT a host write to an RW, BW or TV field of the CE, the phase modulators, the estimator, the probe or the FSQ is
discarded, with SYS_ACC_STAT.PILOT_WR. (Log entry 43, DEDUCED.) -/
def State.ownerWrite (s : State) (d : Nat) (o : Out) : Out :=
  s.hostWrite d (if s.sys.st = .pilot then .next { s with sys := { s.sys with accPilotWr := true } } else o)

/-! Triple-voted fields (R425). -/

/-- R425: the bitwise majority of the three copies. -/
def Tv.vote (t : Tv) : Nat := (t.c0 &&& t.c1) ||| (t.c0 &&& t.c2) ||| (t.c1 &&& t.c2)

/-- R425: a write sets all three copies. -/
def Tv.put (v : Nat) : Tv := ⟨v, v, v⟩

/-- R425: the copies agree. -/
def Tv.agree (t : Tv) : Bool := t.c0 == t.c1 && t.c1 == t.c2

/-! Free quotients (log entry 11). -/

/-- A quotient whose rounding the spec does not state: the floor, or one more where the division leaves a rest; by zero it is a free
value. (Log entry 11, DESIGN CHOICE.) -/
def divFree (site : Nat) (num den : Int) : Int :=
  if den = 0 then (Config.divZero site num).floor
  else num / den + (if num % den ≠ 0 ∧ Config.roundUp site num den then 1 else 0)

/-- A quotient rounded to the nearest integer; a tie goes either way, and by zero it is a free value (log entry 11). -/
def divRound (site : Nat) (num den : Int) : Int :=
  if den = 0 then (Config.divZero site num).floor
  else if 2 * (num % den) < den then num / den
  else if 2 * (num % den) = den then num / den + (if Config.roundUp site num den then 1 else 0)
  else num / den + 1

/-- An exact rational as an integer, rounding left open (log entry 11). -/
def ratFree (site : Nat) (q : Rat) : Int := divFree site q.num q.den

/-- A quotient of rationals; by zero it is a free value (log entry 11). -/
def ratDiv (site : Nat) (a b : Rat) : Rat := if b = 0 then Config.divZero site a else a / b


/-! Parameters. -/

/-- R453: the setting in force at index i: the working setting, else the default. -/
def State.par (s : State) (i : Nat) : Int :=
  match lookupI s.dict.work i with
  | some v => v
  | none => match Params.at i with
    | some p => p.dflt
    | none => 0

/-- The setting at index i as a natural number. -/
def State.parN (s : State) (i : Nat) : Nat := (s.par i).toNat

/-- R352: the saggar's own value of the safety parameter at index i. -/
def State.saf (s : State) (i : Nat) : Int :=
  match Params.safetyPos i with
  | some j => nth s.sag.cfg j 0
  | none => 0

/-- A safety parameter as a natural number. -/
def State.safN (s : State) (i : Nat) : Nat := (s.saf i).toNat

/-- R426: the value of a safety parameter as the voted mirror shows it to the other blocks. -/
def State.mir (s : State) (i : Nat) : Int :=
  match Params.safetyPos i with
  | some j =>
    let v := (nth s.sag.pmir j {}).vote
    match Params.at i with
    | some p => if p.signed then dec 32 v else v
    | none => v
  | none => 0

/-! Operating states. -/

/-- R46: the code of a state. -/
def OpState.code : OpState → Nat
  | .off => 0 | .boot => 1 | .selftest => 2 | .standby => 3 | .precharge => 4 | .connected => 5
  | .dispatch => 6 | .degraded => 7 | .isolated => 8 | .maintenance => 9 | .pilot => 10

/-- R48: the state the string sees: the base state in MAINTENANCE. -/
def State.eff (s : State) : OpState := if s.sys.st = .maintenance then s.sys.base else s.sys.st

/-- R49: the CE applies set points. -/
def State.dispatching (s : State) : Bool :=
  s.eff == .dispatch || (s.eff == .degraded && s.sys.originDisp)

/-- R368: the FSQ runs the classes of PILOT: not before the FRAME_END of a frame in which this module passed ownership. -/
def State.inPilot (s : State) : Bool := s.sys.st == .pilot && !s.fsq.asOwner

/-- R143, R376: the units do not transmit: in PILOT, and in the frame in which a new owner has taken ownership. -/
def State.radioSilent (s : State) : Bool := s.inPilot || s.fsq.radioHeld

/-- R57: DEG_DISP. -/
def State.degDisp (s : State) : Bool := s.eff == .degraded && s.sys.originDisp

/-- R76: the frame length in ns. -/
def State.frameNs (s : State) : Nat := 1000000 * 2 ^ s.fsq.lenCode

/-- R273: the enabled phases. -/
def State.enMask (s : State) : Nat := s.phm.enMask.vote

/-- R273: the phases of domain d are powered (PD4 for PH0 to PH7, PD5 for PH8 to PH15). -/
def State.phPowered (s : State) (p : Nat) : Bool := nth s.sys.pd (if p < 8 then 4 else 5) false

/-- R22: the block in domain d answers. -/
def State.up (s : State) (d : Nat) : Bool := nth s.sys.pd d false && !nth s.sys.fenced d true

/-- R345 to R361: the SAG_DEG_FAULTS word. -/
def State.degWord (s : State) : Nat := maskOf s.sag.deg

/-- R343: some degraded-class fault is active. -/
def State.degAny (s : State) : Bool := s.sag.deg.any id

/-! Event records (R478, R481, R484). -/

/-- R478: six DATA bytes. -/
def data6 (d : List Nat) : List Nat := (d ++ [0, 0, 0, 0, 0, 0]).take 6

/-- The low two bytes of n, little-endian. -/
def le2 (n : Nat) : List Nat := [n % 256, n / 256 % 256]

/-- The low four bytes of n, little-endian. -/
def le4 (n : Nat) : List Nat := [n % 256, n / 256 % 256, n / 65536 % 256, n / 16777216 % 256]

/-- R481: one record dropped. -/
def Log.dropOne (l : Log) : Log :=
  { l with drop := incSat 16 l.drop, dropped := true, unreported := l.unreported + 1 }

/-- R478, R484: post a record; the queue holds 64, and no record of the MGP is posted while it is away. (Log entry 26, DEDUCED.) -/
def State.logPost (s : State) (src code sev : Nat) (data : List Nat) : State :=
  if src = 0 ∧ s.sys.mgpAway then s
  else if 64 ≤ s.log.queue.length then { s with log := s.log.dropOne }
  else { s with log := { s.log with queue := s.log.queue ++
    [{ pcc := s.sys.pcc, opsec := s.sys.opsec, time := s.lmp.time, code := code, sev := sev, src := src,
       data := data6 data }] } }

/-! Datagrams (R386, R388, R398). -/

/-- R446: the mapped form of an IPv4 address; its first byte is the highest of the parameter (log entry 91, DEDUCED). -/
def mapped4 (v : Nat) : Nat :=
  0xFFFF * 2 ^ 80 + (v / 2 ^ 24 % 256) * 2 ^ 96 + (v / 2 ^ 16 % 256) * 2 ^ 104 + (v / 2 ^ 8 % 256) * 2 ^ 112 + (v % 256) * 2 ^ 120

/-- R446: the address is an IPv4 address. -/
def isMapped4 (a : Nat) : Bool := a % 2 ^ 96 == 0xFFFF * 2 ^ 80

/-- R446: the 16-byte address that starts at index i. -/
def State.addr16 (s : State) (i : Nat) : Nat := packF [(0, s.parN i), (32, s.parN (i + 1)), (64, s.parN (i + 2)), (96, s.parN (i + 3))]

/-- R383: the static IPv4 address of port p, mapped; none where it is 0. -/
def State.ip4 (s : State) (p : PortId) : Option Nat :=
  if s.parN (P.plkIp4A + p.idx) = 0 then none else some (mapped4 (s.parN (P.plkIp4A + p.idx)))

/-- R383: the static IPv6 address of port p; none where it is all 0. -/
def State.ip6 (s : State) (p : PortId) : Option Nat :=
  if s.addr16 (P.plkIp6A + 4 * p.idx) = 0 then none else some (s.addr16 (P.plkIp6A + 4 * p.idx))

/-- R383: the addresses of port p. -/
def State.ownAddrs (s : State) (p : PortId) : List Nat := (s.ip4 p).toList ++ (s.ip6 p).toList ++ [nth s.sys.lla p.idx 0]

/-- R384: the dispatch groups of which a port is a member. -/
def State.groups (s : State) : List Nat :=
  (if s.parN P.plkDispMc4 = 0 then [] else [mapped4 (s.parN P.plkDispMc4)]) ++
    (if s.addr16 P.plkDispMc6 = 0 then [] else [s.addr16 P.plkDispMc6])

/-- R383: the VLAN ID of port p. -/
def State.vlan (s : State) (p : PortId) : Nat := s.parN (P.plkVlanA + p.idx)

/-- R383, R384: a datagram reaches port p: it is on the port's VLAN, and at an address of the port or of a dispatch group. -/
def State.reaches (s : State) (p : PortId) (h : Net) : Bool :=
  h.vlan == s.vlan p && ((s.ownAddrs p).contains h.dst || (h.dudp == 48050 && s.groups.contains h.dst))

/-- R384: a UDP port that the module uses, on the IP version of the datagram. -/
def Net.portUsed (h : Net) : Bool :=
  h.dudp == 48048 || h.dudp == 48049 || h.dudp == 48050 || ((h.dudp == 319 || h.dudp == 320) && isMapped4 h.dst)

/-- R383 to R385: a datagram of n payload bytes is discarded and counted: a fragment, one whose checksum is missing or fails, one longer
than 1,452 bytes, and one to a UDP port that the module does not use. -/
def Net.discarded (h : Net) (n : Nat) : Bool := h.frag || !h.sumOk || decide (1452 < n) || !h.portUsed

/-- R383: the next hop to an address: the address itself, or the gateway for an IPv4 address outside the prefix. -/
def State.nextHop (s : State) (p : PortId) (a : Nat) : Nat :=
  let n := s.parN (P.plkIp4PfxA + p.idx)
  let gw := s.parN (P.plkGw4A + p.idx)
  let own := (s.ip4 p).getD 0
  if isMapped4 a && gw != 0 && !(List.range (96 + n)).all (fun k => addrBit a k == addrBit own k) then mapped4 gw else a

/-- R383, R386: the datagram that leaves port p for an address and UDP port, with the source named and a priority. -/
def State.frameTo (s : State) (p : PortId) (addr udp src sudp prio : Nat) (b : List Byte) : Sent :=
  { addr := addr, udp := udp, src := src, sudp := sudp, vlan := s.vlan p, prio := prio, hop := s.nextHop p addr, bytes := b }

/-- R383: the own address from which a datagram of no request goes to an address: one of its IP version. -/
def State.ownFor (s : State) (p : PortId) (a : Nat) : Nat :=
  if isMapped4 a then (s.ip4 p).getD 0 else (s.ip6 p).getD (nth s.sys.lla p.idx 0)

/-- R386: a transaction reply leaves port p from the address and the UDP port at which the request arrived. -/
def State.replyFrom (s : State) (p : PortId) (h : Net) (b : List Byte) : State :=
  { s with plk := { s.plk with sent := s.plk.sent.set p.idx (some (s.frameTo p h.addr h.udp h.dst h.dudp 0 b)) } }

/-- R383: a datagram of the transaction protocol leaves port p. -/
def State.sendFrom (s : State) (p : PortId) (addr udp : Nat) (b : List Byte) : State :=
  { s with plk := { s.plk with sent := s.plk.sent.set p.idx (some (s.frameTo p addr udp (s.ownFor p addr) 48048 0 b)) } }

/-- R398: message m goes to session x from port p; FLAGS bit 1 marks a resend. -/
def State.sendAttn (s : State) (x : Session) (m : Attn) (p : PortId) (again : Bool) : State :=
  s.sendFrom p x.addr x.udp (dgram x.ver 7 (m.aseq % 65536) x.num 0 (if again then 2 else 0) m.payload)

/-- R383 to R388: one more datagram of port p is discarded. -/
def State.rxDropOne (s : State) (p : PortId) : State :=
  { s with plk := { s.plk with rxDrop := s.plk.rxDrop.modify p.idx (incSat 16) } }

/-- R383 to R385: a datagram of n bytes for UDP port k comes to port p: what the plant link does not receive is not for it, and what it
discards it counts. -/
def State.datagram (s : State) (p : PortId) (h : Net) (n k : Nat) (f : Out) : Out :=
  if !s.up 9 || !s.reaches p h then .next s
  else if h.discarded n then .next (s.rxDropOne p)
  else if h.dudp ≠ k then .next s
  else f

/-! Attention messages (R397 to R401). -/

/-- R397: the session receives messages of this code. -/
def Session.wants (x : Session) (code : Nat) : Bool :=
  x.ver == 1 || code == 0xFF || bitOf x.mask (code - 1)

/-- R400: the port of the first copy: the port last used, or the other if that port's link is down. -/
def attnPort (link : List Bool) (x : Session) : PortId :=
  match x.port with
  | .a => if nth link 0 false then .a else .b
  | .b => if nth link 1 false then .b else .a

/-- R400: put message m at the end of the session's queue; a full queue drops its oldest message, which is
counted unless it is a 0x00FF. The second result is the number of counted drops. -/
def Session.enqueue (x : Session) (m : Attn) : Session × Nat :=
  match x.queue with
  | [] => ({ x with queue := [m] }, 0)
  | o :: rest =>
    if x.queue.length < 64 then ({ x with queue := x.queue ++ [m] }, 0)
    else if o.code = 0xFF then ({ x with queue := rest ++ [m] }, 0)
    else ({ x with queue := rest ++ [m], lost := x.lost + 1 }, 1)

/-- R400: a 0x00FF of the session is queued and unacknowledged. -/
def Session.hasLost (x : Session) : Bool := x.queue.any (fun m => m.code == 0xFF)

/-- R430: SYS_ATTN_STAT and SYS_ATTN_LAST after a message of this code and severity. -/
def Plk.noteAttn (p : Plk) (code sev : Nat) : Plk :=
  { p with attnStat := p.attnStat.set (if code = 0xFF then 15 else code - 1) true, attnLast := (code, sev) }

/-- R400, R401: generate a 0x00FF for session i where drops stand unreported and none is queued; the MGP builds it. -/
def State.lostNote (s : State) (i : Nat) : State :=
  match s.plk.sessions[i]? with
  | none => s
  | some x =>
    if x.ver < 2 ∨ x.lost = 0 ∨ x.hasLost ∨ s.sys.mgpAway then s
    else
      let a := inc32 s.plk.aseq
      let m : Attn := { aseq := a, code := 0xFF, sev := 2, opsec := s.sys.opsec, time := s.lmp.time,
                        data := le4 x.lost, port := attnPort s.plk.link x }
      let r := x.enqueue m
      let p := { s.plk with sessions := s.plk.sessions.set i r.1, aseq := a,
                            attnLost := addSat 16 s.plk.attnLost r.2 }
      ({ s with plk := p.noteAttn 0xFF 2 }).sendAttn x m m.port false

/-- R398, R400: hand message m to session i. -/
def State.attnTo (s : State) (m : Attn) (i : Nat) : State :=
  match s.plk.sessions[i]? with
  | none => s
  | some x =>
    if !x.wants m.code then s
    else if x.ver = 1 then s.sendAttn x m x.port false
    else
      let q := attnPort s.plk.link x
      let r := x.enqueue { m with port := q }
      let s1 := { s with plk := { s.plk with sessions := s.plk.sessions.set i r.1,
                                             attnLost := addSat 16 s.plk.attnLost r.2 } }
      (s1.sendAttn x m q false).lostNote i

/-- R401: in PILOT no message of codes 0x0004 to 0x0009 and 0x000B is sent. -/
def attnPilotMute (code : Nat) : Bool := (4 ≤ code && code ≤ 9) || code == 11

/-- R397 to R401: generate an attention message; the MGP builds every message but 0x0003. (Log entry 25, DEDUCED.) -/
def State.attn (s : State) (code sev : Nat) (data : List Nat) : State :=
  if s.sys.mgpAway ∧ code ≠ 3 then s
  else if s.sys.st = .pilot ∧ attnPilotMute code then s
  else
    let a := inc32 s.plk.aseq
    let m : Attn := { aseq := a, code := code, sev := sev, opsec := s.sys.opsec, time := s.lmp.time, data := data }
    let s1 := { s with plk := ({ s.plk with aseq := a }).noteAttn code sev }
    if code = 3 then s1.plk.sessions.foldl (fun t x => (t.sendAttn x m .a false).sendAttn x m .b false) s1
    else (List.range s.plk.sessions.length).foldl (fun t i => t.attnTo m i) s1

/-! Changing the operating state (R50, R55, R57). -/

/-- R486, R399: the DATA of a state change. -/
def State.stateData (s : State) : List Nat :=
  [s.sys.st.code, s.sys.base.code, s.sys.prev.code, 0] ++ le2 s.degWord

/-- R55, R399, R486: record and send the state change; while the MGP is away it waits until it resumes. -/
def State.announce (s : State) : State :=
  if s.sys.mgpAway then s
  else
    let s1 := (s.logPost 0 0x0101 1 s.stateData).attn 1 1 s.stateData
    { s1 with sys := { s1.sys with lastReported := (s1.sys.st, s1.sys.base) } }

/-- R241: EN is driven high in CONNECTED, DISPATCH and DEGRADED. -/
def OpState.enHigh (st : OpState) : Bool := st == .connected || st == .dispatch || st == .degraded

/-- R285: the queue of set points is cleared, each discarded one counted in CTL_PDU_IGNORED. -/
def State.clearSetpoints (s : State) : State :=
  { s with ctl := { s.ctl with
      ignored := addSat 16 s.ctl.ignored (s.ctl.queue.length + s.ctl.regQ.length), queue := [], regQ := [] } }

/-- R279, R284: outside the states of R49 the written mode is in force at once. -/
def State.syncMode (s : State) : State := { s with ctl := { s.ctl with modeAct := s.ctl.mode.vote } }

/-- R279, R285: the CE stops applying set points. -/
def State.leaveSetpoints (s : State) : State := s.clearSetpoints.syncMode

/-- A phase whose gate lines are held low and which is not switching. -/
def Phase.idle (p : Phase) : Phase :=
  { p with active := false, de := false, ramp := 0, pos := 0, braking := none, gatesLow := true,
           leaving := false, deRun := 0, cut := [none, none, none, none], sync := none, zcdAt := none, legA := .low, legB := .low }

/-- R256, R270, R271: every gate line low; no phase switches, no burst, brake or ramp runs, and the link is not held. -/
def State.gatesLow (s : State) : State :=
  { s with phm := { s.phm with ph := s.phm.ph.map Phase.idle, burst := false, burstLeft := 0, brake := false, hold := 0,
                               stepReq := 0 } }

/-- R307: a hot module drives the fan at 100 %. -/
def State.fanForced (s : State) (k : Nat) : Bool :=
  s.thm.hot && decide (4 ≤ k) && s.parN (P.thmFanSrc0 + k % 4) != 4

/-- R322: the valve and fan outputs of a state that does not follow R320: at 0 % and undriven, but for the forced fans of ISOLATED. -/
def State.outputsRest (s : State) : State :=
  let on := (List.range 8).map (fun k => s.sys.st == .isolated && s.fanForced k && s.up 11)
  match s.sys.st with
  | .off | .boot | .selftest | .pilot | .isolated =>
    { s with thm := { s.thm with duty := on.map (fun b => if b then 0xFFFF else 0), driven := on } }
  | _ => s

/-- R50, R48: enter state st with base b, and announce it; EN follows R241, the set points are cleared where
the CE stops applying them (R285), and the outputs rest where R322 says so. -/
def State.enter (s : State) (st b : OpState) : State :=
  let was := s.dispatching
  let s1 := ({ s with sys := { s.sys with st := st, base := b, prev := s.sys.st } }).outputsRest
  let s2 := { s1 with phm := { s1.phm with enHigh := s1.prl.owner && s1.eff.enHigh && !s1.sag.latch } }
  let s3 := if was && !s2.dispatching then s2.leaveSetpoints else s2
  s3.announce

/-- R51: change the state the string sees: the base in MAINTENANCE, else the state itself. -/
def State.enterEff (s : State) (st : OpState) : State :=
  if s.sys.st = .maintenance then
    let was := s.dispatching
    let s1 := { s with sys := { s.sys with base := st } }
    let s2 := { s1 with phm := { s1.phm with enHigh := s1.prl.owner && s1.eff.enHigh && !s1.sag.latch } }
    let s3 := if was && !s2.dispatching then s2.leaveSetpoints else s2
    s3.announce
  else s.enter st st

/-- R54: post an event for the state machine. -/
def State.post (s : State) (e : Ev) : State := { s with sys := { s.sys with events := s.sys.events ++ [e] } }

/-! Contactor paths (R338, R339). -/

/-- R325: COk's auxiliary contact reads closed. -/
def State.aux (s : State) (k : Nat) : Bool := nth s.pins.aux k false

/-- R339: the state shows COk closed (R46), or allows it to be closed. -/
def State.coState (s : State) (k : Nat) : Bool :=
  if s.sys.st = .pilot then
    match s.prl.partner with
    | some p => nth p.coCmd k false && !s.prl.pathsRel
    | none => false
  else
    let conn := s.eff == .connected || s.eff == .dispatch || s.eff == .degraded
    match k with
    | 0 => conn || (s.eff == .precharge && s.sys.prechgDone)
    | 1 => conn || s.eff == .precharge
    | 2 => s.eff == .precharge
    | _ => s.dispatching || ((s.eff == .connected) && s.phm.co3Asked)

/-- R66: the shutdown sequence has de-energised the coils, and they stay so to its end. -/
def State.boOpen (s : State) : Bool := s.sys.boPhase != .none && s.sys.boPhase != .warned

/-- R339, R66: every condition on energising the path of COk; `held` says that it is energised already. -/
def State.coAllowed (s : State) (k : Nat) (held : Bool) : Bool :=
  !s.boOpen && !s.sag.latch && s.sag.ilkDone && s.pins.ilkClosed && bitOf s.sys.coPermit.vote k && s.coState k &&
  match k with
  | 0 => s.aux 1
  | 1 => true
  | 2 => s.aux 1 && (held || !s.aux 0)
  | _ => s.aux 0 && s.aux 1 && !s.aux 2

/-- R338: switch the path of COk off. -/
def Sag.coilOff (g : Sag) (k : Nat) : Sag :=
  { g with coil := g.coil.set k false, pullin := g.pullin.set k false }

/-- R338: energise the path of COk; it starts in pull-in. `closed` says that its contact reads closed already. -/
def Sag.coilOn (g : Sag) (k : Nat) (closed : Bool) : Sag :=
  { g with coil := g.coil.set k true, pullin := g.pullin.set k true, seen := g.seen.set k closed }

/-- R339, R370: the path of COk follows the request where every condition holds. -/
def State.coilService1 (s : State) (k : Nat) : State :=
  let on := nth s.sag.coil k false
  let req := if s.sys.st = .pilot then s.coState k else nth s.sag.want k false
  if req && s.coAllowed k on then (if on then s else { s with sag := s.sag.coilOn k (s.aux k) })
  else if on then { s with sag := s.sag.coilOff k }
  else s

/-- R339: all four paths, CO1 first, so that those that need it see it last. (Log entry 28, DEDUCED.) -/
def State.coilService (s : State) : State := [1, 0, 2, 3].foldl State.coilService1 s

/-- R50: the state machine requests COk closed or open. -/
def State.wantCo (s : State) (k : Nat) (on : Bool) : State :=
  { s with sag := { s.sag with want := s.sag.want.set k on } }

/-- R50: request all four contactors open. -/
def State.wantNone (s : State) : State := { s with sag := { s.sag with want := [false, false, false, false] } }

/-! Degraded-class faults (R343, R344). -/

/-- R343: raise or clear degraded-class fault k. -/
def State.setDeg (s : State) (k : Nat) (b : Bool) : State := { s with sag := { s.sag with deg := s.sag.deg.set k b } }

/-- R344: the degraded timer stops, and the degraded term goes (R286). -/
def State.degStop (s : State) : State :=
  { s with sag := { s.sag with degRun := false, degRunT := 0 }, ctl := { s.ctl with degTerm := false } }

/-- R344: the degraded timer starts afresh, and the degraded term is in force (R286). -/
def State.degStart (s : State) : State :=
  { s with sag := { s.sag with degRun := true, degRunT := 0 }, ctl := { s.ctl with degTerm := true } }

/-- R360: seconds left on the degraded timer (rounding left open); 0 when it is not running. -/
def State.degLeft (s : State) : Nat :=
  if s.sag.degRun then (divFree 1 (s.saf P.sagDegTime * 16000000000 - s.sag.degRunT) 16000000000).toNat else 0

/-! Payloads of the pair link (R365). -/

/-- R362: the pair link runs: pair mode and PD10 up. -/
def State.linkUp (s : State) : Bool := s.prl.mode == 1 && s.up 10

/-- R365, R366: a payload goes out, with the highest version that the module implements. -/
def State.pairSend (s : State) (kind : Nat) (body : List Byte) : State :=
  if s.linkUp then { s with prl := { s.prl with out := pairBytes kind (s.parN P.prlVerMax) body } } else s

/-- R365, R374: a switchover message. -/
def State.swapSend (s : State) (sub b : Nat) : State :=
  s.pairSend 3 (leBytes 1 sub ++ leBytes 4 s.prl.mirrorSeq ++ leBytes 4 b)

/-- R365: a payload of a kind arrives; one whose CRC fails is discarded and counted. -/
def State.pairRx (s : State) (b : List Byte) (kind : Nat) (f : State → Out) : Out :=
  if !s.linkUp then .next s
  else if !pairCrcOk b then .next { s with prl := { s.prl with rxErr := incSat 16 s.prl.rxErr } }
  else if leAt b 0 1 ≠ kind then .next s
  else f s

/-! Safety status PDUs (R346). -/

/-- R346: the FLAGS byte. -/
def State.statusFlags (s : State) : Nat :=
  maskOf [s.sag.latch, s.sag.degRun, s.sag.chgForbid, s.sag.disForbid, s.sag.ilkDone, s.pins.ilkClosed,
          s.mea.loop == 0, s.sag.session]

/-- R346: the 20 bytes of a status PDU with sequence number seq. -/
def State.statusBytes (s : State) (seq : Nat) : List Byte :=
  let b := toBytes [0xC2, 1] ++ leBytes 2 seq ++ leBytes 4 (s.safN P.sagConnId) ++ leBytes 2 s.sag.lastSeq ++
    toBytes [s.sys.st.code, s.statusFlags] ++ leBytes 2 (if s.sag.degRun then s.degLeft else 0xFFFF) ++
    toBytes [s.sag.cause, 0]
  b ++ leBytes 4 (crc32c b)

/-- R346: send a status PDU on every port that has received a valid command PDU since BOOT, to where the last of them came from. -/
def State.sendStatus (s : State) : State :=
  if !(s.sag.heard.any id) then s
  else
    let q := (s.sag.statSeq + 1) % 65536
    let one := fun (p : PortId) =>
      let d := nth s.sag.dest p.idx (0, 0)
      if nth s.sag.heard p.idx false then
        some { seq := q, bytes := s.statusBytes q, dest := d, frame := (s.vlan p, 6, s.nextHop p d.1) }
      else nth s.sag.stat p.idx none
    { s with sag := { s.sag with statSeq := q, stat := [one .a, one .b] } }

/-! Isolation (R331 to R333). -/

/-- R331, R399: the severity of an isolation cause: CRITICAL for 0x01 to 0x11, 0x13 and 0x18, FAULT otherwise. -/
def causeSev (c : Nat) : Nat := if (1 ≤ c ∧ c ≤ 0x11) ∨ c = 0x13 ∨ c = 0x18 then 4 else 3

/-- R332: a cause arises: it joins the recorded set and is not cleared. -/
def Sag.addCause (g : Sag) (c : Nat) : Sag :=
  { g with causes := if g.causes.contains c then g.causes else g.causes ++ [c], cleared := g.cleared.filter (· != c) }

/-- R271, R272: no tracking start or stop is running. -/
def State.trkIdle (s : State) : State :=
  { s with phm := { s.phm with trk := .idle, co3Asked := false, co3Drop := false } }

/-- R331: EN and the gate lines fall, every coil path is switched off, the ISOLATE line and the demand to the partner
are asserted. -/
def State.dropOutputs (s : State) : State :=
  let s1 := s.gatesLow.trkIdle
  { s1 with
    phm := { s1.phm with enHigh := false }
    sag := { s1.sag with coil := [false, false, false, false], pullin := [false, false, false, false],
                         want := [false, false, false, false], isolateOut := true, demandOut := true } }

/-- R292: at isolation every integrator and the taper state are reset. -/
def Ctl.resetLoops (c : Ctl) : Ctl :=
  { c with taper := {}, outX := 0, ph := c.ph.map (fun p => { p with x := 0 }) }

/-- R374, R375: an isolation abandons a switchover. -/
def State.swapAbandon (s : State) : State :=
  match s.prl.swap with
  | .requested | .ready | .frozen | .takeSent =>
    { s with prl := { s.prl with swap := .abandoned, frozen := false, pilotReady := false, heldB := none } }
  | _ => s

/-- R331 to R333: the saggar isolates with cause c. While the latch is set a further cause is recorded and logged and
changes no output. -/
def State.isolate (s : State) (c : Nat) : State :=
  if s.sag.latch then
    (({ s with sag := s.sag.addCause c }).logPost 1 0x0A01 (causeSev c) [c, s.sys.st.code, 0]).post .isolation
  else
    let s1 := (s.dropOutputs.degStop.clearSetpoints).swapAbandon
    let s2 := { s1 with
      sys := { s1.sys with isoDue := if s1.sys.mgpAway then some c else none }
      sag := { s1.sag with latch := true, cause := c, causes := [c], cleared := [], hardDiag := false }
      ctl := s1.ctl.resetLoops
      log := { s1.log with snapDue := some c } }
    let s3 := (s2.logPost 1 0x0A01 (causeSev c) [c, s.sys.st.code, 1]).attn 2 (causeSev c) [c]
    ((s3.post .isolation).sendStatus).pairSend 4 (leBytes 1 c)

/-- R331, R401: the MGP, back again, sends the message of an isolation decided while it was away. -/
def State.isoCatchUp (s : State) : State :=
  match s.sys.isoDue with
  | none => s
  | some c => ({ s with sys := { s.sys with isoDue := none } }).attn 2 (causeSev c) [c]

/-- R400, R401: and the 0x00FF of each session with drops unreported. -/
def State.lostCatchUp (s : State) : State := (List.range s.plk.sessions.length).foldl State.lostNote s

/-! Phase faults (R256). -/

/-- R63, R273: harness h is owned and driven: its domain, PD4 for X4 and X5, PD5 for X6 and X7, is powered. -/
def State.drives (s : State) (h : Nat) : Bool := nth s.phm.owned h false && nth s.sys.pd (if h < 2 then 4 else 5) false

/-- R242, R286: phase p is enabled, free of faults and on a harness that the module owns and whose straps match. -/
def State.healthy (s : State) (p : Nat) : Bool :=
  bitOf s.enMask p && (nth s.phm.ph p {}).fault == 0 && nth s.phm.owned (p / 4) false && s.phPowered p && !nth s.phm.hidErr (p / 4) false

/-- R286: N_h. -/
def State.nHealthy (s : State) : Nat := ((List.range 16).filter s.healthy).length

/-- R343 bit 4: a phase enabled in PHM_EN_MASK holds a fault code. -/
def State.phaseFaultAny (s : State) : Bool :=
  (List.range 16).any (fun p => bitOf s.enMask p && (nth s.phm.ph p {}).fault != 0)

/-- R343: the level of bit 4 follows the phase faults. -/
def State.degPhase (s : State) : State := s.setDeg 4 s.phaseFaultAny

/-- Change phase p. -/
def State.modPh (s : State) (p : Nat) (f : Phase → Phase) : State :=
  { s with phm := { s.phm with ph := s.phm.ph.modify p f } }

/-- R242, R256: phase p takes the phase fault c: gate lines low, out of the active set at the next reference boundary, recorded and sent; a
code already held stays, but for the identity mismatch, which takes its place. -/
def State.phaseFault (s : State) (p c : Nat) : State :=
  if (nth s.phm.ph p {}).fault ≠ 0 ∧ (c ≠ 6 ∨ (nth s.phm.ph p {}).fault = 6) then s
  else
    let s1 := s.modPh p (fun x => { x with fault := c, gatesLow := true, leaving := x.active,
                                            braking := none, legA := .low, legB := .low })
    (((s1.logPost 0 0x0701 3 [p, c]).attn 6 3 [p, c])).degPhase

/-! Buffered writes (R295, R297, R423, R424). -/

/-- R453: the value in force of setting i becomes v; a value equal to the default is not listed. -/
def Par.setWork (d : Par) (i : Nat) (v : Int) : Par :=
  match Params.at i with
  | some p => if v = p.dflt then { d with work := unbindI d.work i } else { d with work := bindI d.work i v }
  | none => d

/-- R423: a write completes into the pending buffer of its setting, replacing what waits there for the same boundary. -/
def Par.buffer (d : Par) (w : BwWrite) : Par :=
  { d with pend := d.pend.filter (fun x => x.idx != w.idx || decide (x.at_ ≠ w.at_)) ++ [w] }

/-- R423: the pending writes that `go` names take effect, in order of arrival. -/
def Par.apply (d : Par) (go : BwWrite → Bool) : Par :=
  let d1 := (d.pend.filter go).foldl (fun t w => t.setWork w.idx w.val) d
  { d1 with pend := d.pend.filter (fun w => !go w) }

/-- R424: FRAME_END takes the writes that wait for it, and those that take effect at a later event wait for that event now. -/
def Par.promote (d : Par) : Par :=
  d.pend.foldl (fun t w => match w.at_ with
    | .later e => t.buffer { w with at_ := .on e }
    | _ => t.buffer w) { d with pend := [] }

/-- R305: index i holds a parameter of the CE. -/
def isCoef (i : Nat) : Bool :=
  (decide (P.ctlOuterDiv ≤ i) && decide (i ≤ P.ctlOvrLim)) || (decide (0xC00 ≤ i) && decide (i < 0xE00) && decide (3 ≤ i % 32))

/-- R297, R424: a CE write. -/
def BwWrite.isCe (w : BwWrite) : Bool := isCoef w.idx

/-- R297: HOLD does not bar the write. -/
def Ctl.lets (c : Ctl) (w : BwWrite) : Bool := !c.hold || w.loaded

/-- R305: the TV store of host limit k, 0 discharge and 1 charge, takes its setting. -/
def State.syncHostLim (s : State) (k : Nat) : State :=
  { s with ctl := { s.ctl with hostLim := s.ctl.hostLim.set k (Tv.put (s.parN (P.ctlHostLimDis + k))) } }

/-- R295: the pending writes of one boundary take effect together. -/
def State.applyAt (s : State) (b : Bound) : State :=
  { s with dict := s.dict.apply (fun w => decide (w.at_ = b) && (!w.isCe || s.ctl.lets w)) }

end Sys2Proof.Machine
end

