-- ==== Sys2Proof/Machine/PairOps.lean ====
section
/-! DEFINITION. The health word of a module, its fitness to take over, and the request for a switchover
(R374, R378, R379). -/

namespace Sys2Proof.Machine

/-- R367: the pilot's copy is current. -/
def State.copyCurrent (s : State) : Bool :=
  match s.prl.copy with
  | some c => c.frame == s.fsq.frameCnt || inc32 c.frame == s.fsq.frameCnt
  | none => false

/-- R367, R429: the phases as a copy shows them, its duties and its active mask; the own faults, warnings, temperatures and counters stay.
-/
def mergePh (own copy : List Phase) : List Phase :=
  if copy.isEmpty then own
  else (indexed copy).map (fun kx =>
    let o := nth own kx.1 {}
    { kx.2 with fault := o.fault, tfail := o.tfail, share := o.share, pkCnt := o.pkCnt, pkRun := o.pkRun, temp := o.temp })

/-- R378 bit 13: MIRROR. -/
def State.mirrorOk (s : State) : Bool :=
  if s.prl.mode = 0 then true
  else if s.sys.st = .pilot then s.copyCurrent && s.prl.latchOk
  else match s.prl.partner with
    | some p => s.prl.partnerOk && p.mirrorSeq == s.prl.mirrorSeq
    | none => false

/-- R378 bit 11: LOOP_RES. -/
def State.loopResBit (s : State) : Bool :=
  if s.prl.mode = 0 then s.mea.loop == 0 else s.prl.loopRes && s.prl.partnerOk

/-- R378: the module's own health word. -/
def State.health (s : State) : Nat :=
  maskOf [s.prl.refOk, s.prl.pwmOk, (nth s.fnl.units 0 {}).loopOk, (nth s.fnl.units 1 {}).loopOk,
    !s.sag.tpFail.any id, !s.prl.eccBad, nth s.plk.link 0 false, nth s.plk.link 1 false,
    s.sys.holdupOk, s.pins.feedA && s.pins.feedB, !s.sys.mgpAway, s.loopResBit, !s.prl.sagBad, s.mirrorOk]

/-- R379: a module with this health word is fit to take over. -/
def fit (w : Nat) : Bool :=
  [0, 1, 4, 5, 8, 9, 11, 12, 13].all (bitOf w) && (bitOf w 2 || bitOf w 3) && (bitOf w 6 || bitOf w 7)

/-- R374: a switchover is under way. -/
def State.swapping (s : State) : Bool :=
  s.prl.swap == .requested || s.prl.swap == .ready || s.prl.swap == .frozen || s.prl.swap == .takeSent

/-- R374: the states in which the owner may request a switchover. -/
def State.swapState (s : State) : Bool :=
  s.sys.st == .connected || s.sys.st == .dispatch || s.sys.st == .degraded

/-- R374: the owner may request a switchover. -/
def State.mayRequestSwap (s : State) : Bool :=
  s.prl.mode == 1 && s.prl.owner && s.swapState && !s.swapping &&
  match s.prl.partner with
  | some p => s.prl.partnerOk && fit p.health
  | none => false

/-- R374 step 1: request a switchover (SUB 0x01 REQ) where the conditions hold. -/
def State.requestSwap (s : State) : State :=
  if s.mayRequestSwap then ({ s with prl := { s.prl with swap := .requested } }).swapSend 1 0 else s

/-- R374: request a switchover on a cause that needs PRL_AUTO_SWAP. -/
def State.autoSwap (s : State) : State := if s.par P.prlAutoSwap = 1 then s.requestSwap else s

end Sys2Proof.Machine
end

