-- ==== Sys2Proof/Machine/Phase.lean ====
section
/-! DEFINITION. Phase harnesses and the power stage (R237 to R274): phase faults, shedding and adding, bursts,
braking, tracking start and stop. -/

namespace Sys2Proof.Machine

/-! Which phases switch. -/

/-- The phases active now, in ascending number. -/
def State.activePh (s : State) : List Nat := (List.range 16).filter (fun p => (nth s.phm.ph p {}).active)

/-- R286: the phases that may switch, in ascending number. -/
def State.healthyPh (s : State) : List Nat := (List.range 16).filter s.healthy

/-- R290: a common-duty phase: active (a faulted phase up to the boundary at which it leaves, R256), in no ramp, not braking. -/
def Phase.common (p : Phase) : Bool := p.active && p.ramp == 0 && p.braking.isNone

/-- R290: the common-duty phases. -/
def State.commonPh (s : State) : List Nat := (List.range 16).filter (fun p => (nth s.phm.ph p {}).common)

/-- R268: the tracking rail, mV. -/
def State.rail (s : State) : Rat :=
  if s.phm.trkMode = 1 then (s.par P.phmTrkRatio : Rat) * s.pins.vPre / 16384 else s.pins.vBus

/-- R261: a tracking start is running. -/
def Trk.isStart (t : Trk) : Bool := t == .recovery || t == .slewing || t == .dwell || t == .co3Req

/-- R218, R270: a tone is to be live, so in CONNECTED the link is held at the rail. -/
def State.toneDue (s : State) : Bool := s.prb.tones.any (fun t => t.want || t.live)

/-- R218, R270: CONNECTED, or DEGRADED entered from it: CO3 is open. -/
def State.inConnected (s : State) : Bool := s.eff == .connected || (s.eff == .degraded && !s.sys.originDisp)

/-- R245, R374: the harness has been taken over, and the tick that enters the mirrored state is still to come: the levels are held. -/
def State.gained (s : State) : Bool := s.prl.owner && s.sys.st == .pilot

/-- R374: the duties are held: by the freeze of a switchover, or from the boundary of a takeover to the mirrored state. -/
def State.held (s : State) : Bool := s.prl.frozen || s.gained

/-- R261: recovery in burst mode runs: in a tracking start, as the link is prepared for a tone, or at the end of a stop. -/
def State.recovering (s : State) : Bool :=
  s.phm.trk == .recovery || s.phm.hold == 1 || (s.phm.trk == .stopping && s.phm.co3Drop && s.phm.burst)

/-- R241, R261: the converter is to switch without whole-period gaps. -/
def State.switching (s : State) : Bool :=
  s.phm.enHigh && !s.sag.latch &&
  match s.phm.trk with
  | .recovery => false
  | .slewing | .dwell | .co3Req | .zeroHold => true
  | .stopping => !s.phm.co3Drop
  | .idle => s.dispatching || (s.inConnected && s.toneDue && decide (2 ≤ s.phm.hold))

/-- R235: some tone is being injected. -/
def State.toneLive (s : State) : Bool := s.prb.tones.any (·.live)

/-! The current inputs (R251). -/

/-- R251: the phase current of a density of ones. -/
def State.densMa (s : State) (p ones bits : Nat) : Int :=
  divFree 101 ((2 * (ones : Int) - bits) * s.par (P.phase p 2)) bits

/-- R251: a fast-path sample of phase p, from the count of its sinc² filter, 0 to 64. -/
def State.fastMa (s : State) (p d : Nat) : Int := s.densMa p d 64

/-- R265, R266: the fast-path sum of the active phases' current; a phase without a count reads as zero current. -/
def State.fastSum (s : State) (fast : List Nat) : Int := s.activePh.foldl (fun a p => a + s.fastMa p (nth fast p 32)) 0

/-- R251: a density outside 10 to 90 % reads as saturated. -/
def saturated (d : Nat) : Bool := decide (10 * d < 64) || decide (576 < 10 * d)

/-! Shedding and adding (R263, R264). -/

/-- R263: the mean of the sums of control samples over the last PHM_SHED_FILT periods, as a sum and a count. -/
def State.iFilt (s : State) : Int × Nat :=
  let l := s.phm.iHist.take (s.parN P.phmShedFilt)
  (l.foldl (· + ·) 0, l.length)

/-- R264: start phase p: it is armed for its first valley, at its zero-current duties. -/
def Phase.startAdd (n : Nat) (p : Phase) : Phase :=
  { p with active := true, ramp := 2, pos := 0, steps := n, gatesLow := true, leaving := false, braking := none, de := false }

/-- R263: start the lowest-numbered healthy inactive phases until `req` phases are active; each start counts. -/
def State.addPhases (s : State) (req : Nat) : State :=
  let act := s.activePh
  let cand := (s.healthyPh.filter (fun p => !act.contains p)).take (req - act.length)
  let s0 := if cand.isEmpty then s else s.applyAt (.on .add)
  let s1 := cand.foldl (fun t p => t.modPh p (Phase.startAdd (s0.parN P.phmAddRamp))) s0
  { s1 with phm := { s1.phm with shedCnt := addSat 16 s1.phm.shedCnt cand.length,
                                 sinceChange := if cand.isEmpty then s1.phm.sinceChange else 0 } }

/-- R265: a phase ramping down turns back toward the common duties, in steps of 1/n; a shed not yet begun is cancelled. -/
def Phase.reverse (n : Nat) (p : Phase) : Phase :=
  if p.ramp = 1 then (if p.pos = 1 then { p with ramp := 0 } else { p with ramp := 2, steps := n }) else p

/-- R263: ceil(i / a). -/
def ceilDiv (i : Nat) (a : Nat) : Nat := if a = 0 then 0 else (i + a - 1) / a

/-- R265: some active phase is being shed. -/
def State.shedding (s : State) : Bool := s.phm.ph.any (fun p => p.active && p.ramp == 1)

/-- R265: a load step is declared: during shedding the sheds are undone, and the start of the phases that the reference needs is ordered;
otherwise nothing is stated to follow. (Log entry 63, DEDUCED.) -/
def State.loadStep (s : State) : State :=
  if s.shedding then
    let t := s.applyAt (.on .add)
    { t with phm := { t.phm with ph := t.phm.ph.map (Phase.reverse (t.parN P.phmAddRamp))
                                 stepReq := ceilDiv t.ctl.iref.natAbs (t.parN P.phmAddI) } }
  else s

/-- R250, R265: the phases that a load step ordered start at a reference boundary. (Log entry 63, DEDUCED.) -/
def State.startOrdered (s : State) : State :=
  ({ s with phm := { s.phm with stepReq := 0 } }).addPhases s.phm.stepReq

/-- R263: some shed or add ramp is running. -/
def State.ramping (s : State) : Bool := s.phm.ph.any (fun p => p.active && p.ramp != 0)

/-- R256, R264: phases that leave at a reference boundary: those faulted, and those whose shed has ended. -/
def Phase.atBoundary (p : Phase) : Phase :=
  if p.leaving then p.idle
  else if p.active && p.ramp == 1 && (decide (p.pos ≤ 0) || decide (p.iMa.natAbs < 2000)) then p.idle
  else p

/-- The number of sheds completed by R264 at this boundary. -/
def State.shedsEnded (s : State) : Nat :=
  (s.phm.ph.filter (fun p => !p.leaving && p.active && p.ramp == 1 &&
    (decide (p.pos ≤ 0) || decide (p.iMa.natAbs < 2000)))).length

/-- R263, R264: the shed of phase p starts. -/
def State.startShed (s : State) (p : Nat) : State :=
  let t := s.applyAt (.on .shed)
  t.modPh p (fun x => { x with ramp := 1, pos := if x.ramp = 2 then x.pos else 1, steps := t.parN P.phmShedRamp })

/-- R263: phases cleared in PHM_EN_MASK are shed whatever the current. -/
def State.shedDisabled (s : State) : State :=
  (s.activePh.filter (fun p => !bitOf s.enMask p && (nth s.phm.ph p {}).ramp != 1)).foldl State.startShed s

/-- R263, R265: the decision to add or shed; the add rule declares a load step, and during shedding the reference says how many start. -/
def State.decidePhases (s : State) : State :=
  let act := s.activePh
  let n := act.length
  let f := s.iFilt
  let mag := f.1.natAbs
  if n < s.parN P.phmMinAct then s.addPhases (s.parN P.phmMinAct)
  else if n * s.parN P.phmAddI * f.2 < mag then
    (if s.shedding then s.loadStep.startOrdered else s.addPhases (ceilDiv mag (s.parN P.phmAddI * f.2)))
  else if mag < (n - 1) * s.parN P.phmShedI * f.2 ∧ s.parN P.phmMinAct < n ∧ !s.ramping ∧
      s.parN P.phmShedHold ≤ s.phm.sinceChange then
    match act.getLast? with
    | some p => { s.startShed p with phm := { (s.startShed p).phm with sinceChange := 0 } }
    | none => s
  else s

/-- R247: the carrier offset of ordinal k among n phases. -/
def carrierOfs (period n k : Nat) : Nat := if n = 0 then 0 else k * period / n

/-- R247: new targets for the active phases; a phase that starts takes its offset at once. -/
def State.retarget (s : State) : State :=
  let act := s.activePh
  (indexed act).foldl (fun t kp =>
    let o := carrierOfs s.phm.period act.length kp.1
    t.modPh kp.2 (fun x => { x with target := o, ofs := if x.gatesLow then o else x.ofs })) s

/-- R247: a carrier moves toward its target by at most P/32 per period, at the phase's valley. -/
def Phase.moveCarrier (period : Nat) (p : Phase) : Phase :=
  let step := period / 32
  if p.ofs < p.target then { p with ofs := min p.target (p.ofs + step) }
  else { p with ofs := max p.target (p.ofs - step) }

/-! Snapshots and the switches turned off for the rest of a period (R87, R253, R266). -/

/-- R87: the conversions t_i of the frame's snapshot, in ns from now. -/
def State.conversions (s : State) (now : Nat) : List Int :=
  match s.fsq.snapAt with
  | some a => (List.range 8).map (fun i => diffT (addT a (1000 * i : Nat)) now)
  | none => []

/-- R87: an instant in ns, put off to the end of the span [t_i − 150 ns, t_i + 300 ns) that it falls in. -/
def deferNs (conv : List Int) (t : Rat) : Rat :=
  match conv.find? (fun c => decide (((c - 150 : Int) : Rat) ≤ t) && decide (t < ((c + 300 : Int) : Rat))) with
  | some c => ((c + 300 : Int) : Rat)
  | none => t

/-- R87: the time-base value at which a gate edge due now falls. -/
def State.edgeTime (s : State) (now : Nat) : Nat := addT now (deferNs (s.conversions now) 0).floor

/-- R253, R266: the switches of `sel` are off from `at_` for the rest of the period; one already off stays so. -/
def Phase.turnOff (sel : List Bool) (at_ : Nat) (p : Phase) : Phase :=
  { p with cut := (p.cut.zip sel).map (fun x => if x.2 then some (x.1.getD at_) else x.1) }

/-! Bursts (R261, R262). -/

/-- R262: a burst starts: PHM_MIN_ACT phases in diode emulation, each armed for its first valley at its new offset. -/
def State.burstStart (s : State) : State :=
  let cand := s.healthyPh.take (s.parN P.phmMinAct)
  let s1 := cand.foldl (fun t p => t.modPh p (fun x =>
    { x with active := true, de := true, ramp := 0, pos := 1, gatesLow := true })) s
  { s1 with phm := { s1.phm with burstLeft := s.parN P.phmBurstN } }

/-- R262, R271: what V_link follows in a burst: the rail, or V_bus at the end of a stop. -/
def State.burstRail (s : State) : Rat := if s.phm.trk = .stopping then s.pins.vBus else s.rail

/-- R262, R267: the recovery at a reference boundary; braking overrides it. -/
def State.burstStep (s : State) : State :=
  if s.phm.brake then s
  else if s.phm.burstLeft = 0 then
    let s0 := s.applyAt (.on .burst)
    let s1 := { s0 with phm := { s0.phm with ph := s0.phm.ph.map Phase.idle } }
    if (s1.par P.phmBurstBand : Rat) ≤ s1.burstRail - s1.pins.vLink then s1.burstStart else s1
  else if s.phm.burstLeft = 1 then
    { s with phm := { s.phm with burstLeft := 0, ph := s.phm.ph.map Phase.idle } }
  else { s with phm := { s.phm with burstLeft := s.phm.burstLeft - 1 } }

/-- R261, R262: in SELFTEST and PRECHARGE the same bursts run into the internal loopback, PHM_BURST_N periods on and one off; no phase is
active and no gate line moves. (Log entry 80, DEDUCED.) -/
def State.loopBurst (s : State) : State :=
  { s with phm := { s.phm with loopLeft :=
      if s.sys.st == .selftest || s.eff == .precharge then
        (if s.phm.loopLeft = 0 then s.parN P.phmBurstN else s.phm.loopLeft - 1) else 0 } }

/-! Events of the table. -/

/-- R263, R266: the counts that a reference boundary advances. -/
def State.boundaryCounts (s : State) : State :=
  let sum := (s.phm.ph.filter (·.active)).foldl (fun a p => a + p.iMa) 0
  let brake := s.phm.ph.any (fun p => p.braking.isSome)
  { s with phm := { s.phm with
      iHist := (sum :: s.phm.iHist).take 64
      sinceChange := s.phm.sinceChange + 1
      brake := brake
      sinceBrake := if brake then 0 else s.phm.sinceBrake + 1 } }

/-- R256, R263, R264: phases that leave, and the decision to shed or add while the converter switches. -/
def State.boundaryPhases (s : State) : State :=
  let ended := s.shedsEnded
  let s1 := { s with phm := { s.phm with ph := s.phm.ph.map Phase.atBoundary,
                                         shedCnt := addSat 16 s.phm.shedCnt ended,
                                         sinceChange := if ended = 0 then s.phm.sinceChange else 0 } }
  if s1.recovering then s1.burstStep
  else if !s1.switching then s1.gatesLow
  else
    let s2 := s1.startOrdered
    if s2.phm.brake then s2 else (s2.shedDisabled).decidePhases

/-- R263, R274: REF_PERIOD_BOUNDARY, without the coefficient load of R297; while the duties are held nothing is decided (R374). -/
def State.refBoundary (s : State) : State :=
  let s0 := s.applyAt (.on .refBound)
  let s1 := if s0.held then s0 else (((s0.boundaryCounts).boundaryPhases).retarget).loopBurst
  { s1 with ctl := { s1.ctl with phTerm := s1.nHealthy * s1.parN P.ctlImaxPerPh } }

/-- R248: the leg has its high side held on. -/
def Leg.heldHigh (l : Leg) : Bool := match l with | .held b _ => b | _ => false

/-- R253: the switches that drive a current of the phase up, HA and LB for a positive one and HB and LA for a negative one, as far as they
switch at all: a high side that is held on only conducts. (Log entry 80, DEDUCED.) -/
def Phase.driving (p : Phase) (pos : Bool) : List Bool :=
  let a := !p.legA.heldHigh
  let b := !p.legB.heldHigh
  if pos then [a || !b, false, false, b] else [false, a, b || !a, false]

/-- R87, R253: PEAK_LIMIT_EVENT with the count of the fast-path sample: beyond PHM_IPK, the driving switch is off for the rest of the
period. -/
def execPeakLimitEvent (p : Fin 16) (d : Nat) (now : BitVec 32) (s : State) : Out :=
  let x := nth s.phm.ph p {}
  let i := s.fastMa p d
  if !x.active || x.pkSeen || decide ((i.natAbs : Int) ≤ s.par P.phmIpk) then .next s
  else
    let run := x.pkRun + 1
    let s1 := s.modPh p (fun y =>
      ({ y with pkSeen := true, pkRun := run, pkCnt := incSat 16 y.pkCnt }).turnOff (y.driving (decide (0 ≤ i))) (s.edgeTime now.toNat))
    .next (if s.parN P.phmPkCount ≤ run then s1.phaseFault p 3 else s1)

/-- R266: the sum of the active phases' current lies beyond the reference, in the reference's sense, by more than lim. -/
def excess (sum iref : Int) : Int := if iref < 0 then iref - sum else sum - iref

/-- R266: the step-down leg of a current i, whose two switches are off for the rest of the period: the string-side leg for a positive
current, the bus-side leg for a negative one. (Log entry 80, DEDUCED.) -/
def brakeCut (i : Int) : List Bool := if 0 ≤ i then [true, true, false, false] else [false, false, true, true]

/-- R266, R267: the braking of one active phase that carries i starts; it overrides diode emulation, and ramps stop where they are. -/
def Phase.startBrake (i : Int) (at_ : Nat) (p : Phase) : Phase :=
  if p.active then ({ p with braking := some 0, de := false, deRun := 0, sync := none, zcdAt := none }).turnOff (brakeCut i) at_ else p

/-- R227: a braking event marks the points whose step 0 has been latched and whose closing sample is not yet taken. -/
def Tone.disturb (t : Tone) : Tone :=
  { t with acc := { t.acc with disturbed := t.acc.disturbed || t.acc.set.any (fun x => x.1 == 0) }
           ready := t.ready.map (fun r => { r with disturbed := r.disturbed || !r.set.any (fun x => x.1 == 64) }) }

/-- R494: the trigger of a capture of the control engine fires. -/
def Spy.trigger (y : Spy) (k : CeTrig) : Spy :=
  match y.ce with
  | some (_, t) => if t = k && !y.ceFired then { y with ceFired := true, ceLeft := 512 } else y
  | none => y

/-- R87, R266, R267: LOAD_RELEASE with the phases' fast-path samples and the time at which the phases brake: declared when their sum exceeds
the reference by more than N × PHM_REL_TH. -/
def execLoadRelease (fast : List Nat) (now : BitVec 32) (s : State) : Out :=
  let n := s.activePh.length
  if s.held || s.phm.brake || s.phm.sinceBrake < 2 || n = 0 ||
      decide (excess (s.fastSum fast) s.ctl.iref ≤ n * s.par P.phmRelTh) then .next s
  else
    let t := s.applyAt (.on .release)
    .next { t with
      phm := { t.phm with brake := true, sinceBrake := 0, brakeCnt := incSat 16 t.phm.brakeCnt,
                          ph := (indexed t.phm.ph).map (fun ip => ip.2.startBrake (t.fastMa ip.1 (nth fast ip.1 32)) (t.edgeTime now.toNat)) }
      spy := t.spy.trigger .brake
      prb := { t.prb with tones := t.prb.tones.map Tone.disturb } }

/-- R265: LOAD_STEP: declared when the fast-path sum falls short of the reference by more than N × PHM_STEP_TH. -/
def execLoadStep (fast : List Nat) (s : State) : Out :=
  let n := s.activePh.length
  if s.held || s.phm.brake || n = 0 || decide (-(excess (s.fastSum fast) s.ctl.iref) ≤ n * s.par P.phmStepTh) then .next s
  else .next s.loadStep

/-- R251: CURRENT_INPUT_SATURATED with the last four fast-path samples of the phase. -/
def execCurrentInputSaturated (p : Fin 16) (d : List Nat) (s : State) : Out :=
  .next (if bitOf s.enMask p && d.length == 4 && d.all saturated then s.phaseFault p 3 else s)

/-- R252: CURRENT_INPUT_LOST: the gate lines go low at once. -/
def execCurrentInputLost (p : Fin 16) (s : State) : Out :=
  .next ((s.modPh p (fun x => { x with gatesLow := true })).phaseFault p 2)

/-- R255: DRIVER_FAULT, of a phase enabled in PHM_EN_MASK where R241 drives EN high. -/
def execDriverFault (p : Fin 16) (s : State) : Out :=
  .next (if bitOf s.enMask p && s.phm.enHigh then
    (s.modPh p (fun x => { x with gatesLow := true })).phaseFault p 1 else s)

/-- R244: the four phases of harness h take phase fault 0x5. -/
def State.harnessFault (s : State) (h c : Nat) : State :=
  (List.range 4).foldl (fun t i => t.phaseFault (4 * h + i) c) s

/-- R244, R374, R377: READBACK_MISMATCH: a gate line of one phase, or OWN or EN of the harness; at a takeover a
mismatch of OWN or EN isolates with cause 0x11. -/
def execReadbackMismatch (h : Fin 4) (ph : Option (Fin 4)) (atTakeover : Bool) (s : State) : Out :=
  if !s.prl.owner then .next s
  else match ph with
  | some i => .next ((s.phaseFault (4 * h.val + i.val) 5).autoSwap)
  | none =>
    let s1 := s.harnessFault h 5
    .next (if atTakeover then s1.isolate 0x11 else s1.autoSwap)

/-- R330: the run of windows of a phase at or above SAG_OT_PH, which the protection cycle judges. -/
def Sag.otWindow (g : Sag) (p : Nat) (above : Bool) : Sag :=
  { g with otPhRun := g.otPhRun.set p (if above then nth g.otPhRun p 0 + 1 else 0) }

/-- R254: TEMP_COUNT_WINDOW with the number of cycles counted in 1 ms, which is the frequency in kHz. (Log entry 54, DEDUCED.) -/
def execTempCountWindow (p : Fin 16) (count : Nat) (s : State) : Out :=
  let x := nth s.phm.ph p {}
  if count < 95 ∨ 1005 < count then
    .next { s.modPh p (fun y => { y with tfail := true }) with sag := s.sag.otWindow p false }
  else if x.tfail then
    .next { s.modPh p (fun y => { y with tfail := false }) with sag := s.sag.otWindow p false }
  else
    let t : Int := ((count : Int) - 260) * 16
    .next { s.modPh p (fun y => { y with temp := t }) with
      sag := s.sag.otWindow p (decide (s.saf P.sagOtPh ≤ t)) }

/-- R254: TEMP_LINE_FAIL. -/
def execTempLineFail (p : Fin 16) (s : State) : Out :=
  .next { s.modPh p (fun y => { y with tfail := true }) with sag := s.sag.otWindow p false }

/-- R258: the sum of the active phases' control samples, mA, and their number. -/
def State.shareSum (s : State) : Int × Nat := (s.activePh.foldl (fun a p => a + (nth s.phm.ph p {}).iMa) 0, s.activePh.length)

/-- R258: the distance of active phase p from the mean, as numerator and denominator of its part of that mean. -/
def State.sharePart (s : State) (p : Nat) : Nat × Nat :=
  ((s.shareSum.2 * (nth s.phm.ph p {}).iMa - s.shareSum.1).natAbs, s.shareSum.1.natAbs)

/-- R258: phase p lies beyond PHM_SHARE_LIM percent of the mean, and the mean above 20 A. -/
def State.outOfShare (s : State) (p : Nat) : Bool :=
  (nth s.phm.ph p {}).active && decide (20000 * s.shareSum.2 < s.shareSum.1.natAbs) &&
  decide (s.parN P.phmShareLim * (s.sharePart p).2 < 100 * (s.sharePart p).1)

/-- R258: PHASE_SHARE_WARNING: the phase has been out of share, or within it, for 1 s, and is so now. -/
def execPhaseShareWarning (p : Fin 16) (out : Bool) (s : State) : Out :=
  let x := nth s.phm.ph p {}
  let pct := (clampI 0 255 (divFree 104 (100 * (s.sharePart p).1 : Nat) (s.sharePart p).2)).toNat
  if out && !x.share && s.outOfShare p then
    .next ((s.modPh p (fun y => { y with share := true })).logPost 0 0x0702 2 [p, pct])
  else if !out && x.share && !s.outOfShare p then .next (s.modPh p (fun y => { y with share := false }))
  else .next s

/-! Tracking start and stop (R268 to R272). -/

/-- R272: a tracking start is abandoned: gate lines low, a requested CO3 switched off, TRK idle, recorded with the row
of R272. -/
def State.abandonTrk (s : State) (kind sev : Nat) : State :=
  ((((s.gatesLow.trkIdle).wantCo 3 false).coilService)).logPost 0 0x0703 sev [kind]

/-- R269: a tracking start begins at the present V_link. -/
def State.trackStart (s : State) : State :=
  { s with
    phm := { s.phm with trk := .recovery, hold := 0, burst := true, burstLeft := 0, co3Asked := false, co3Drop := false,
                        trkMode := s.parN P.phmTrkMode }
    ctl := { s.ctl with link := { s := s.pins.vLink, target := s.pins.vLink } } }

/-- R271, R274: a stop begins from the present reference at `rate` A/s, or at PHM_STOP_RAMP. -/
def State.stopStart (s : State) (rate : Option Nat) : State :=
  let t := s.applyAt (.on .stop)
  { t with phm := { t.phm with trk := .stopping, stopRamp := rate.getD (t.parN P.phmStopRamp), co3Drop := false }
           ctl := { t.ctl with ramp := t.ctl.iref } }

/-- R269: TRK_DWELL_DONE: CO3 is requested. (Log entry 61, DESIGN CHOICE.) -/
def execTrkDwellDone (s : State) : Out :=
  if s.phm.trk = .dwell then
    .next (({ s with phm := { s.phm with trk := .co3Req, co3Asked := true } }.wantCo 3 true).coilService)
  else .next s

/-- R279: the taper of each mode starts from its measured value with v = a = 0: the set point of mode m. -/
def State.measured (s : State) (m : Nat) : Rat :=
  match m with
  | 0 => s.pins.shunt
  | 1 => (s.pins.vStr : Rat) * s.pins.shunt / 1000000
  | _ => (s.pins.vBus : Rat) + (s.ctl.kd : Rat) * s.pins.shunt / 1000

/-- R272: TRK_TIMEOUT: the start is abandoned with FAULT and attention 0x0009, REASON 0. -/
def execTrkTimeout (s : State) : Out :=
  if s.phm.trk.isStart && s.phm.trk != .co3Req then .next ((s.abandonTrk 4 3).attn 9 3 [0]) else .next s

/-- R271: CO3 is requested open at the end of a stop. -/
def State.dropCo3 (s : State) : State :=
  ({ s with phm := { s.phm with co3Drop := true } }.wantCo 3 false).coilService

/-- R261, R271: STOP_CURRENT_LOW: |I_string| has been below PHM_STOP_I for 10 ms, and is so now: zero current is held, recovery runs, and
CO3 is requested open. -/
def execStopCurrentLow (s : State) : Out :=
  if s.phm.trk = .stopping && !s.phm.co3Drop && decide ((s.pins.shunt.natAbs : Int) < s.par P.phmStopI) then
    .next ({ s with phm := { s.phm with burst := true, burstLeft := 0 }, ctl := { s.ctl with ramp := 0, iref := 0 } }.dropCo3)
  else .next s

/-- R271: STOP_TIMEOUT: gate lines low, CO3 requested open, FAULT logged. -/
def execStopTimeout (s : State) : Out :=
  if s.phm.trk = .stopping && !s.phm.co3Drop then .next ((s.gatesLow.dropCo3).logPost 0 0x0703 3 [0xFF])
  else .next s

/-- R242, R257: PHM_FLT_CLR: each named phase's fault clears unless its cause is present (`still`), or its harness has a mismatch; a phase
that has not left the active set yet still leaves it, and rejoins by the adding rule. -/
def execPhmFltClr (w : Word) (still : Word) (s : State) : Out :=
  if 65536 ≤ w.toNat then .fault (.hostError .reservedBit)
  else
    let f := fun (t : State) (p : Nat) =>
      let x := nth t.phm.ph p {}
      if bitOf w.toNat p && x.fault != 0 && !bitOf still.toNat p && !nth t.phm.hidErr (p / 4) false then
        t.modPh p (fun y => { y with fault := 0 })
      else t
    s.hostWrite 3 (.next ((List.range 16).foldl f s).degPhase)

end Sys2Proof.Machine
end

