-- ==== Sys2Proof/Machine/Control.lean ====
section
/-! DEFINITION. The control engine (R275 to R305): set points and apply times, the taper, the outer loop with its limits,
the inner loops, the plausibility observer, coefficient writes and the deadline monitor. -/

namespace Sys2Proof.Machine

/-! Buffered writes (R295, R297). -/

/-- R295: the writes of the outer boundary take effect at an outer tick; a host limit written is stored as TV. -/
def State.applyOuter (s : State) : State :=
  let touch := fun k => s.dict.pend.any (fun w => decide (w.at_ = .outer) && s.ctl.lets w && w.idx == P.ctlHostLimDis + k)
  let put := fun (t : State) k => if touch k then t.syncHostLim k else t
  put (put (s.applyAt .outer) 0) 1

/-- R304: CTL_STAT.PEND. -/
def State.cePend (s : State) : Bool := s.dict.pend.any BwWrite.isCe

/-- R297: LOAD passes its reference boundary: every write pending then is released. -/
def State.loadAtBoundary (s : State) : State :=
  if s.ctl.load then
    { s with ctl := { s.ctl with load := false }
             dict := { s.dict with pend := s.dict.pend.map (fun w => if w.isCe then { w with loaded := true } else w) } }
  else s

/-- R297: COEF_HOLD: write of CTL_COEF_CTL.HOLD. -/
def execCoefHold (on : Bool) (s : State) : Out :=
  s.ownerWrite 3 (.next { s with ctl := { s.ctl with hold := on } })

/-- R297: COEF_LOAD: write of 1 to CTL_COEF_CTL.LOAD. -/
def execCoefLoad (s : State) : Out := s.hostWrite 3 (.next { s with ctl := { s.ctl with load := true } })

/-! Set points (R284, R285). -/

/-- R284: a command's set point held in its range. -/
def State.clampCmd (s : State) (mode : Nat) (v : Int) : Int :=
  match mode with
  | 0 => clampI (-1600000) 1600000 v
  | 2 => clampI (s.par P.ctlVsetMin) (s.par P.ctlVsetMax) v
  | _ => v

/-- R49, R284: a command of the register or of a PDU may be applied: set points apply, and no stop ramp or calibration
discharge runs. -/
def State.takesCommands (s : State) : Bool := s.dispatching && s.phm.trk != .stopping && !s.est.cal && !s.est.calRamp

/-- R284: one command counted in CTL_PDU_IGNORED. -/
def State.ignore (s : State) : State := { s with ctl := { s.ctl with ignored := incSat 16 s.ctl.ignored } }

/-- R285: a is due no later than b, seen from now. -/
def SetCmd.before (now : Nat) (a b : SetCmd) : Bool :=
  decide (diffT a.apply now < diffT b.apply now) || (a.apply == b.apply && decide (a.arr ≤ b.arr))

/-- R285: insert by apply time. -/
def insertCmd (now : Nat) (c : SetCmd) : List SetCmd → List SetCmd
  | [] => [c]
  | x :: l => if c.before now x then c :: x :: l else x :: insertCmd now c l

/-- R285: a PDU reaches the CE: counted late, replacing one of equal time, or competing for a full queue. -/
def State.queuePdu (s : State) (now apply mode : Nat) (v : Int) : State :=
  if !s.takesCommands then s.ignore
  else
    let late := reached now apply
    let c : SetCmd := { apply := apply, mode := mode, value := v, late := late, arr := s.ctl.arrivals }
    let ctl : Ctl := { s.ctl with arrivals := s.ctl.arrivals + 1, lateCnt := if late then incSat 16 s.ctl.lateCnt else s.ctl.lateCnt }
    let rest := ctl.queue.filter (fun x => x.apply != apply)
    if rest.length < ctl.queue.length then
      { s with ctl := { ctl with queue := insertCmd now c rest, applied := false, late := late } }
    else if ctl.queue.length < 4 then
      { s with ctl := { ctl with queue := insertCmd now c ctl.queue, applied := false, late := late } }
    else match ctl.queue.getLast? with
      | some z =>
        if diffT apply now < diffT z.apply now then
          { s with ctl := { ctl with queue := insertCmd now c ctl.queue.dropLast, applied := false, late := late,
                                     dropCnt := incSat 16 ctl.dropCnt } }
        else { s with ctl := { ctl with dropCnt := incSat 16 ctl.dropCnt } }
      | none => s

/-- R284: a register command of mode m, due on arrival. -/
def State.regCommand (s : State) (m : Nat) (v : Int) : State :=
  if !s.takesCommands then s.ignore
  else { s with ctl := { s.ctl with
    regQ := s.ctl.regQ ++ [{ apply := s.lmp.time, mode := m, value := v, arr := s.ctl.arrivals }]
    arrivals := s.ctl.arrivals + 1, applied := false, late := false } }

/-- R279: CTL_MODE: stored; outside the states of R49 it is in force at once. -/
def execCtlMode (w : Word) (s : State) : Out :=
  if 4 ≤ w.toNat then .fault (.hostError .reservedBit)
  else if w.toNat = 3 then .fault (.hostError .reservedCode)
  else
    let c : Ctl := { s.ctl with mode := Tv.put w.toNat }
    s.ownerWrite 3 (.next { s with ctl := if s.dispatching then c else { c with modeAct := w.toNat } })

/-- R284, R429: a write to a command register: stored and taken as a command of its mode. -/
def State.cmdReg (s : State) (m : Nat) (v : Int) (c : Ctl) : Out := s.ownerWrite 3 (.next (({ s with ctl := c }).regCommand m v))

/-- R284: CTL_CMD_I. -/
def execCtlCmdI (w : Word) (s : State) : Out := s.cmdReg 0 w.toInt { s.ctl with cmdI := w.toNat }

/-- R284: CTL_CMD_P. -/
def execCtlCmdP (w : Word) (s : State) : Out := s.cmdReg 1 w.toInt { s.ctl with cmdP := w.toNat }

/-- R284: CTL_CMD_V. -/
def execCtlCmdV (w : Word) (s : State) : Out := s.cmdReg 2 w.toInt { s.ctl with cmdV := w.toNat }

/-- R282, R284, R285, R305: one due command is taken: it retargets the taper, or is counted when its mode is not the one in
force. -/
def State.takeCmd (s0 : State) (c : SetCmd) : State :=
  if !s0.takesCommands || c.mode != s0.ctl.modeAct then s0.ignore
  else
    let s := s0.applyAt (.on .setPoint)
    { s with ctl := { s.ctl with
        taper := { s.ctl.taper with target := s.clampCmd c.mode c.value }, applied := true, late := c.late } }

/-- R285: the commands due at now, PDUs and register commands, in order of apply time and arrival. -/
def State.intake (s : State) (now : Nat) : State :=
  if s.phm.trk = .zeroHold then s
  else
    let due := s.ctl.queue.filter (fun c => reached now c.apply)
    let all := s.ctl.regQ.foldl (fun l c => insertCmd now c l) due
    all.foldl State.takeCmd
      { s with ctl := { s.ctl with queue := s.ctl.queue.filter (fun c => !reached now c.apply), regQ := [] } }

/-! The taper (R281). -/

/-- A magnitude limit, none when written as 0xFFFF_FFFF. -/
def limRat (n : Nat) (scale : Rat) : Option Rat := if n = 0xFFFFFFFF then none else some (n * scale)

/-- q held within ± the limit. -/
def clampLim (l : Option Rat) (q : Rat) : Rat :=
  match l with
  | none => q
  | some m => if q < -m then -m else if m < q then m else q

/-- R281: the speed from which braking just comes to rest within x. -/
def brakeSpeed (amax jmax : Option Rat) (x : Rat) : Option Rat :=
  match amax, jmax with
  | none, none => none
  | some a, none => some (sqrtR (2 * a * x))
  | none, some j => some (cbrtR (j * x * x))
  | some a, some j =>
    if a * a * a / (j * j) ≤ x then some (-(a * a) / (2 * j) + sqrtR (a * a * a * a / (4 * j * j) + 2 * a * x))
    else some (cbrtR (j * x * x))

/-- The sign of q. -/
def signR (q : Rat) : Rat := if q < 0 then -1 else if 0 < q then 1 else 0

/-- R281: one outer tick of the taper, dt in seconds. -/
def Taper.step (t : Taper) (vmax amax jmax : Option Rat) (dt : Rat) : Taper :=
  let d := t.target - t.s
  if d = 0 ∧ t.v = 0 then { t with a := 0 }
  else
    let vb := brakeSpeed amax jmax (if d < 0 then -d else d)
    -- no brake limit at all: the speed that reaches the target within the tick
    let want := match vb with | some x => signR d * x | none => if dt = 0 then 0 else d / dt
    let vd := clampLim vmax want
    let ad := clampLim amax (if dt = 0 then 0 else (vd - t.v) / dt)
    let a := t.a + clampLim (jmax.map (· * dt)) (ad - t.a)
    let v := clampLim vmax (t.v + a * dt)
    if 0 ≤ signR d * (t.s + v * dt - t.target) then { t with s := t.target, v := 0, a := 0 }
    else { t with s := t.s + v * dt, v := v, a := a }

/-- R281, R305: the limits of mode m: velocity, acceleration and jerk, in the mode's unit. -/
def State.taperLims (s : State) (m : Nat) : Option Rat × Option Rat × Option Rat :=
  let k := 3 * min m 2
  (limRat (s.parN (P.ctlTprVelI + k)) 1000, limRat (s.parN (P.ctlTprVelI + k + 1)) 1000,
   limRat (s.parN (P.ctlTprVelI + k + 2)) 1000)

/-! Limits (R286, R287). -/

/-- R286: the five terms of a direction: estimator, thermal, degraded, phases, host; an absent degraded term is none. -/
def State.limTerms (s : State) (chg : Bool) : List (Option Nat) :=
  [some (if chg then s.ctl.estTerm.2 else s.ctl.estTerm.1),
   some (if chg then s.thm.chg.enf else s.thm.dis.enf),
   if s.ctl.degTerm then some ((if chg then s.mir P.sagDegLimChg else s.mir P.sagDegLimDis).toNat) else none,
   some s.ctl.phTerm,
   some (nth s.ctl.hostLim (if chg then 1 else 0) {}).vote]

/-- The least of the terms present, with the lowest code that gives it. -/
def leastTerm : List (Option Nat) → Nat → Option (Nat × Nat)
  | [], _ => none
  | none :: l, k => leastTerm l (k + 1)
  | some v :: l, k =>
    match leastTerm l (k + 1) with
    | some (w, j) => if w < v then some (w, j) else some (v, k)
    | none => some (v, k)

/-- R287: the limit in force follows its terms: a rise and the phases term at once, any other fall through a taper with
the current-mode limits. The result is the limit and the running taper. -/
def State.followLim (s : State) (chg : Bool) (dt : Rat) : Nat × Option Taper :=
  let terms := s.limTerms chg
  let others : Option Nat := (leastTerm (terms.set 3 none) 0).map (·.1)
  let ph := s.ctl.phTerm
  let cur := if chg then s.ctl.limChg else s.ctl.limDis
  let tap := if chg then s.ctl.limTapC else s.ctl.limTapD
  match others with
  | none => (ph, none)
  | some (m : Nat) =>
    let start : Taper := match tap with | some t => { t with target := (m : Rat) } | none => { s := cur, target := (m : Rat) }
    if start.s ≤ (m : Rat) then (min m ph, none)
    else
      let l := s.taperLims 0
      let t := start.step l.1 l.2.1 l.2.2 dt
      (min (ratFree 2 t.s).toNat ph, if t.s = m then none else some t)

/-- R287: both limits at an outer tick. -/
def State.limits (s : State) (dt : Rat) : State :=
  let d := s.followLim false dt
  let c := s.followLim true dt
  { s with ctl := { s.ctl with
      limDis := d.1, limTapD := d.2, limChg := c.1, limTapC := c.2
      srcD := ((leastTerm (s.limTerms false) 0).map (·.2)).getD 0
      srcC := ((leastTerm (s.limTerms true) 0).map (·.2)).getD 0 } }

/-! The outer loop (R275, R278, R280, R288, R289, R222). -/

/-- R291: a value held to 32 signed bits, and whether it saturated. -/
def sat32 (q : Rat) : Rat × Bool :=
  if q < -2147483648 then (-2147483648, true) else if 2147483647 < q then (2147483647, true) else (q, false)

/-- R289: some group's record is LOST. -/
def State.anyLost (s : State) : Bool := s.csm.recs.any (·.lost)

/-- R289: the feed-forward current for set point p watts, in mA, and whether its root was limited. -/
def State.rootCurrent (s : State) (p : Rat) : Rat × Bool :=
  if s.est.tabBad || s.anyLost then (ratDiv 3 (p * 1000000) s.pins.vStr, false)
  else
    let v : Rat := (s.ctl.vocv : Rat) / 1000
    let r : Rat := (s.ctl.rstr : Rat) / 1000000
    let arg := v * v - 4 * r * p
    if arg < 0 then (1000 * ratDiv 4 v (2 * r), true) else (1000 * ratDiv 4 (v - sqrtR arg) (2 * r), false)

/-- R289, R291: that current held to 32 bits, and SAT_FF. -/
def State.feedForward (s : State) (p : Rat) : Rat × Bool :=
  let r := s.rootCurrent p
  ((sat32 r.1).1, r.2 || (sat32 r.1).2)

/-! Tones (R216 to R222). -/

/-- Change tone k. -/
def State.modTone (s : State) (k : Nat) (f : Tone → Tone) : State :=
  { s with prb := { s.prb with tones := s.prb.tones.modify k f } }

/-- Tone k. -/
def State.tone (s : State) (k : Nat) : Tone := nth s.prb.tones k {}

/-- R216: the phase of a tone in cycles at time now; it runs on through every point. -/
def State.tonePhase (s : State) (t : Tone) (now : Nat) : Rat :=
  match t.entry, s.fsq.snapAt with
  | some (m, d, ph0), some at0 =>
    let f : Rat := ratDiv 13 (64 * m + 1) (64 * d)
    (ph0 : Rat) / 4294967296 + f * ((s.fsq.n : Nat) : Rat) + f * (diffT now at0 : Rat) / s.frameNs
  | _, _ => 0

/-- R217: the phase as the tone generator holds it, in steps of 2⁻³² cycle. -/
def State.genPhase (s : State) (t : Tone) (now : Nat) : Rat := (ratFree 100 (s.tonePhase t now * 4294967296) : Rat) / 4294967296

/-- R216: the frequency of a tone entry, Hz. -/
def State.toneHz (s : State) (m d : Nat) : Rat := ratDiv 61 ((64 * m + 1) * 1000000000) ((64 * d : Nat) * (s.frameNs : Rat))

/-- R218, R234: the state lets the tone be injected. -/
def State.toneAllowed (s : State) (t : Tone) : Bool :=
  match t.entry with
  | none => false
  | some (m, d, _) => s.prl.owner && (s.dispatching || (s.inConnected && decide ((t.fmin : Rat) ≤ s.toneHz m d)))

/-- R216, R220, R270: a tone starts and stops at its own phase zero, not before the snapshot of its point; without an entry in the active
bank nothing is injected, and in CONNECTED it runs only with the link held at the rail. The point in which a tone comes alive is its first
since rest. -/
def State.toneTick (s : State) (now : Nat) (t : Tone) : Tone :=
  let c := (s.tonePhase t now).floor
  let free := match t.after with | none => true | some t0 => reached now t0
  let live := t.entry.isSome && (if c = t.cyc || !free then t.live else t.want && (s.dispatching || s.phm.hold == 3))
  { t with cyc := if free then c else t.cyc, after := if free then none else t.after, live := live, fromRest := t.fromRest && !live }

/-- R217: the sum of the live tones at now, mA. -/
def State.toneSum (s : State) (now : Nat) : Rat :=
  (s.prb.tones.filter (·.live)).foldl (fun a t => a + t.amp * sinTurn (s.genPhase t now)) 0

/-- R219: D of a tone. -/
def Tone.d (t : Tone) : Nat := match t.entry with | some (_, d, _) => d | none => 0

/-- R226: a point in progress notes the slower tones that are live. -/
def State.seeSlower (s : State) (t : Tone) : Tone :=
  let l := ((indexed s.prb.tones).filter (fun ko => ko.2.live && ko.2.entry.isSome && decide (t.d < ko.2.d))).map (·.1)
  let f := fun (a : PointAcc) => { a with slowLive := a.slowLive ++ l.filter (fun k => !a.slowLive.contains k) }
  if l.isEmpty then t
  else { t with acc := if t.acc.on then f t.acc else t.acc
                ready := t.ready.map (fun r => if r.set.any (fun x => x.1 == 64) then r else f r) }

/-- R219: the enabled tones of spacing d, ascending. -/
def State.toneSet (s : State) (d : Nat) : List Nat :=
  (List.range 4).filter (fun k => bitOf (s.parN P.prbEn) k && (s.tone k).entry.isSome && (s.tone k).d == d)

/-- R219: the live member of a set during point p. -/
def liveMember (set : List Nat) (p dwell : Nat) : Option Nat := set[p / dwell % set.length]?

/-- R219: the live member of tone k's set in the present point is k. -/
def State.toneTurn (s : State) (k : Nat) : Bool :=
  liveMember (s.toneSet (s.tone k).d) (s.fsq.n / (64 * (s.tone k).d)) (s.parN P.prbDwell) == some k

/-- R222: a, the sum of the amplitudes of the tones being injected. -/
def State.aLive (s : State) : Nat := (s.prb.tones.filter (·.live)).foldl (fun a t => a + t.amp) 0

/-- R222: the full amplitudes: the sum over the sets of what their present members would inject. -/
def State.aFull (s : State) : Nat :=
  ((List.range 4).filter (fun k => s.toneAllowed (s.tone k) && s.toneTurn k)).foldl (fun a k => a + (s.tone k).amp) 0

/-- R222: the clamp of set point q with probe amplitude a: the applied value, and whether both conditions hold. -/
def probeClamp (lc ld a : Nat) (q : Rat) : Rat × Bool :=
  let lo : Rat := -(lc : Rat) + a
  let hi : Rat := (ld : Rat) - a
  let x := if q < lo then lo else if hi < q then hi else q
  (x, decide (lo ≤ hi) && (if q < 0 then decide (q ≤ x) && decide (x ≤ 0) else decide (0 ≤ x) && decide (x ≤ q)))

/-- A plain clamp of q to −lc .. ld. -/
def plainClamp (lc ld : Nat) (q : Rat) : Rat := if q < -(lc : Rat) then -(lc : Rat) else if (ld : Rat) < q then ld else q

/-- R218, R222, R232: a tone is to stop at its phase zero: its point in progress is discarded with reason 0x06, a point that waits for its
batches is kept, and the tone starts from rest when it comes back. -/
def Tone.stop (t : Tone) : Tone :=
  { t with want := false, settle := false, after := none, fromRest := true, reason := if t.acc.on then 6 else t.reason, acc := {} }

/-- R218, R222, R232: the tones of `sel` stop; each point discarded counts. -/
def Prb.stop (p : Prb) (sel : Tone → Bool) : Prb :=
  { p with discCnt := addSat 16 p.discCnt (p.tones.filter (fun t => sel t && t.acc.on)).length
           tones := p.tones.map (fun t => if sel t then t.stop else t) }

/-- R222: suspension of the probe: every tone is to stop, and every point in progress is discarded with reason 0x06. -/
def State.probeSuspend (s : State) : State := { s with prb := { s.prb.stop (fun _ => true) with suspended := true, okNs := 0 } }

/-- R222: the string current reference q is clamped against the limits and the probe's amplitude. While the probe is suspended q meets the
limits alone, and the time for which both conditions hold with the full amplitudes is taken. -/
def State.applyClamp (s : State) (q : Rat) (dtNs : Nat) : State × Rat :=
  let ld := s.ctl.limDis
  let lc := s.ctl.limChg
  let plain := plainClamp lc ld q
  if s.prb.suspended then
    ({ s with prb := { s.prb with okNs := if (probeClamp lc ld s.aFull q).2 then s.prb.okNs + dtNs else 0, clamp := false } }, plain)
  else
    let r := probeClamp lc ld s.aLive q
    if r.2 then ({ s with prb := { s.prb with clamp := decide (r.1 ≠ q) } }, r.1)
    else ({ s.probeSuspend with prb := { s.probeSuspend.prb with clamp := false } }, plain)

/-- R218, R234: the tones that the state no longer lets run. -/
def State.holdTones (s : State) : State := { s with prb := s.prb.stop (fun t => !s.toneAllowed t) }

/-- R276: the nominal outer interval, ns. -/
def State.outerNs (s : State) : Rat :=
  (s.ctl.outerDiv : Rat) * s.phm.period / 4 / (if s.par P.phmUpdTwice = 1 then 2 else 1)

/-- R278: proportional and integral coefficient of mode m, Q16.16. -/
def State.outerGain (s : State) (m : Nat) : Rat × Rat :=
  ((s.par (P.ctlOKpI + 2 * min m 2) : Rat) / 65536, (s.par (P.ctlOKpI + 2 * min m 2 + 1) : Rat) / 65536)

/-- R278: error and feed-forward of the mode in force for set point q: the error, the feed-forward term and SAT_FF. -/
def State.outerErr (s : State) (q : Rat) : Rat × Rat × Bool :=
  match s.ctl.modeAct with
  | 0 => (q - s.pins.shunt, q, false)
  | 1 =>
    let f := s.feedForward q
    (q - (s.pins.vStr : Rat) * s.pins.shunt / 1000000, f.1, f.2)
  | _ => (s.ctl.vref - s.pins.vBus, 0, false)

/-- R278, R288, R291: the outer loop at set point q: the reference, held to 32 bits, before and after the clamp, the integrator and the
flags. -/
def State.outerLoop (s : State) (q : Rat) (dtNs : Nat) : State :=
  let e := s.outerErr q
  let g := s.outerGain s.ctl.modeAct
  let up := sat32 (g.1 * e.1)
  let xmax : Int := s.par P.ctlOXmax * 256
  let adv : Rat := g.2 * e.1 * 256 * ratDiv 5 dtNs s.outerNs
  let x1 : Int := clampI (-xmax) xmax (s.ctl.outX + ratFree 6 adv)
  let ref := (sat32 (e.2.1 + up.1 + (x1 : Rat) / 256)).1
  let cl := s.applyClamp ref dtNs
  let acted := decide (cl.2 ≠ ref)
  -- R288: no advance in the direction that deepens the clamp
  let deepens := acted && ((decide (cl.2 < ref) && decide (0 < adv)) || (decide (ref < cl.2) && decide (adv < 0)))
  let x := if deepens then clampI (-xmax) xmax s.ctl.outX else x1
  let s1 := cl.1
  let t := s1.ctl.taper
  let beyond := s1.ctl.modeAct == 0 && acted &&
    ((decide (cl.2 < ref) && decide (cl.2 < t.target)) || (decide (ref < cl.2) && decide (t.target < cl.2)))
  { s1 with ctl := { s1.ctl with
      outX := x
      iref := ratFree 7 cl.2
      iff := if s1.ctl.modeAct = 1 then ratFree 8 e.2.1 else s1.ctl.iff
      taper := if beyond then { t with target := cl.2 } else t
      outSatf := [nth s1.ctl.outSatf 0 false || up.2, nth s1.ctl.outSatf 1 false || decide (x.natAbs = xmax.natAbs),
                  nth s1.ctl.outSatf 2 false || e.2.2, nth s1.ctl.outSatf 3 false || acted] } }

/-- R279: mode m starts from its measured value, with the outer integrator loaded so that the reference stays what it was. -/
def State.startMode (s : State) (m : Nat) : State :=
  let v := s.measured m
  let s1 := { s with ctl := { s.ctl with modeAct := m, taper := { s := v, target := v } } }
  let s2 := { s1 with ctl := { s1.ctl with vref := if m = 2 then s1.pins.vBus else 0 } }
  let e := s2.outerErr v
  let up := (sat32 ((s2.outerGain m).1 * e.1)).1
  let xmax : Int := s2.par P.ctlOXmax * 256
  { s2 with ctl := { s2.ctl with outX := clampI (-xmax) xmax (ratFree 9 ((s2.ctl.iref - e.2.1 - up) * 256)) } }

/-- R279: at the tick a mode change takes effect while set points apply, the transfer is bumpless. -/
def State.modeChange (s : State) : State :=
  let m := if s.est.cal || s.est.calRamp then 0 else s.ctl.mode.vote
  if m = s.ctl.modeAct then s else s.startMode m

/-- R269, R279, R292: TRK_HOLD_END: set points apply from the measured values. -/
def execTrkHoldEnd (s : State) : Out :=
  if s.phm.trk = .zeroHold then
    .next ({ s with phm := { s.phm with trk := .idle } }.startMode s.ctl.modeAct)
  else .next s

/-- R280: the droop coefficient in force moves by 1 mΩ toward the written one at every outer tick. -/
def State.droopStep (s : State) : State :=
  let goal := s.parN P.ctlDroopKd
  { s with ctl := { s.ctl with kd := if s.ctl.kd < goal then s.ctl.kd + 1 else if goal < s.ctl.kd then s.ctl.kd - 1 else s.ctl.kd } }

/-- R280, R291: V_ref of bus-voltage mode. -/
def State.droop (s : State) : State :=
  { s with ctl := { s.ctl with
      vref := if s.ctl.modeAct = 2 then ratFree 10 (sat32 (s.ctl.taper.s - (s.ctl.kd : Rat) * s.pins.shunt / 1000)).1 else 0 } }

/-- R269, R283: the link-voltage set point moves toward the rail. (Log entry 14, DEDUCED.) -/
def State.linkStep (s : State) (dt : Rat) : Taper :=
  let l := s.taperLims 2
  ({ s.ctl.link with target := s.rail }).step (some ((s.parN P.phmTrkSlew : Rat) * 1000)) l.2.1 l.2.2 dt

/-- R269: V_link has reached PHM_RCV_FRAC of the rail. -/
def State.recovered (s : State) : Bool := decide (s.rail * s.par P.phmRcvFrac / 65536 ≤ s.pins.vLink)

/-- R269: V_link lies within PHM_TRK_WIN of the rail. -/
def State.nearRail (s : State) : Bool :=
  let win : Rat := s.par P.phmTrkWin
  let diff := (s.pins.vLink : Rat) - s.rail
  decide (diff ≤ win) && decide (-win ≤ diff)

/-- R269: a tracking start at an outer tick: the set point, and how far the start has got. -/
def State.trackTick (s : State) (dt : Rat) : State :=
  let lk := s.linkStep dt
  let trk := match s.phm.trk with
    | .recovery => if s.recovered then .slewing else .recovery
    | .slewing => if s.nearRail then .dwell else .slewing
    | .dwell => if s.nearRail then .dwell else .slewing
    | t => t
  { s with phm := { s.phm with trk := trk, burst := trk == .recovery
                               ph := if s.phm.burst && trk != .recovery then s.phm.ph.map Phase.idle else s.phm.ph
                               burstLeft := if trk == .recovery then s.phm.burstLeft else 0 }
           ctl := { s.ctl with link := lk } }

/-- R270: in CONNECTED a due tone runs steps 1 and 2 of R269 and then holds the link at the rail. (Log entry 30, DEDUCED.) -/
def State.holdTick (s0 : State) (dt : Rat) : State :=
  let s := if s0.phm.hold ≠ 0 then s0 else { s0 with
    phm := { s0.phm with hold := 1, burst := true, burstLeft := 0, trkMode := s0.parN P.phmTrkMode }
    ctl := { s0.ctl with link := { s := s0.pins.vLink, target := s0.pins.vLink } } }
  let h := if s.phm.hold = 1 then (if s.recovered then 2 else 1) else if s.phm.hold = 2 then (if s.nearRail then 3 else 2) else 3
  { s with phm := { s.phm with hold := h, burst := h == 1
                               ph := if s.phm.burst && h != 1 then s.phm.ph.map Phase.idle else s.phm.ph
                               burstLeft := if h = 1 then s.phm.burstLeft else 0 }
           ctl := { s.ctl with link := s.linkStep dt } }

/-- R269, log entry 14: the reference while the link is brought to, or held at, the rail: the bus-voltage law on V_link. -/
def State.linkRaw (s : State) : Rat :=
  let e : Rat := s.ctl.link.s - s.pins.vLink
  (sat32 ((s.outerGain 2).1 * e)).1

/-- R222, R275 step 5: reference q of the string current, clamped with the probe's amplitude. -/
def State.setRef (s : State) (q : Rat) (dtNs : Nat) : State :=
  let c := s.applyClamp q dtNs
  { c.1 with ctl := { c.1.ctl with iref := ratFree 11 c.2 } }

/-- R262, R269: the reference of a tracking start or a held link: PHM_BURST_I per phase in burst mode. -/
def State.linkRef (s : State) (dtNs : Nat) : State :=
  let s1 := s.setRef s.linkRaw dtNs
  if s.phm.burst then { s1 with ctl := { s1.ctl with iref := s.par P.phmBurstI * s.parN P.phmMinAct } } else s1

/-- R271, R283: the stop ramp moves toward zero by its rate; a calibration discharge or a zero hold sets its own value. -/
def rampToward0 (q step : Rat) : Rat := if q < 0 then (if q + step < 0 then q + step else 0) else if 0 < q - step then q - step else 0

/-- R272: V_bus below PHM_TRK_DEAD in coincident mode abandons a tracking start. -/
def State.busDead (s : State) : Bool :=
  s.phm.trk.isStart && s.phm.trkMode == 0 && decide (s.pins.vBus < s.par P.phmTrkDead)

/-- R207: the set point of a calibration discharge: EST_CAL_I, at most CAP/5 of the smallest group, mA. -/
def State.calPoint (s : State) : Rat :=
  match s.csm.recs.map (·.cap) with
  | [] => s.par P.estCalI
  | c :: l => min (s.par P.estCalI : Rat) (((l.foldl min c : Nat) : Rat) / 1800)

/-- R207, R222: the ramp that ends a calibration discharge. -/
def State.calRampTick (s : State) (dtNs : Nat) (dt : Rat) : State :=
  let r := rampToward0 s.ctl.ramp ((s.parN P.phmStopRamp : Rat) * 1000 * dt)
  ({ s with ctl := { s.ctl with ramp := r, taper := {} }, est := { s.est with calRamp := r != 0 } }).setRef r dtNs

/-- R275: an outer evaluation while set points apply. -/
def State.dispatchEval (s : State) (now dtNs : Nat) (dt : Rat) : State :=
  let s2 := (s.modeChange).intake now
  if s2.est.calRamp then s2.calRampTick dtNs dt else
  let l := s2.taperLims s2.ctl.modeAct
  let t := if s2.est.cal then { s2.ctl.taper with target := s2.calPoint } else s2.ctl.taper
  let s3 := { s2 with ctl := { s2.ctl with taper := t.step l.1 l.2.1 l.2.2 dt } }
  let s4 := s3.droop
  s4.outerLoop s4.ctl.taper.s dtNs

/-- R271, R285, R292: an outer tick of a stop: the ramp moves on, the outer integrator is held, and commands that fall due are ignored; at
its end zero current is held. -/
def State.stopEval (s : State) (now dtNs : Nat) (dt : Rat) : State :=
  let s1 := s.modeChange
  let s2 := ({ s1 with ctl := { s1.ctl with outX := s.ctl.outX } }).intake now
  let r := if s2.phm.co3Drop then 0 else rampToward0 s2.ctl.ramp ((s2.phm.stopRamp : Rat) * 1000 * dt)
  ({ s2 with ctl := { s2.ctl with ramp := r } }).setRef r dtNs

/-- R275: what an outer evaluation does, in the situation the module is in. -/
def State.outerEval (s : State) (now dtNs : Nat) : State :=
  let dt : Rat := (dtNs : Rat) / 1000000000
  let s1 := (s.limits dt).droopStep
  if s1.busDead then s1.abandonTrk 3 2
  else if s1.phm.trk.isStart then (s1.trackTick dt).linkRef dtNs
  else if s1.inConnected && s1.phm.trk == .idle && s1.toneDue then (s1.holdTick dt).linkRef dtNs
  else match s1.phm.trk with
  | .zeroHold => (s1.modeChange).setRef 0 dtNs
  | .stopping => s1.stopEval now dtNs dt
  | _ =>
    if s1.dispatching then s1.dispatchEval now dtNs dt
    else ((if s1.phm.hold = 0 then s1 else s1.gatesLow).syncMode).setRef 0 dtNs

/-! Deadlines (R300, R301). -/

/-- R301: the deadlines missed within the second before now. -/
def State.recentMisses (s : State) (now : Nat) : List (Nat × Nat) :=
  s.ctl.ovrTimes.filter (fun t => decide (diffT now t.1 < 1000000000) && decide (0 ≤ diffT now t.1) && decide (s.sys.clock ≤ t.2 + 8193))

/-- R300, R301: one missed deadline at now. -/
def State.missDeadline (s : State) (now : Nat) : State :=
  let times := (now, s.sys.clock) :: s.recentMisses now
  let s1 := { s with ctl := { s.ctl with ovrCnt := incSat 16 s.ctl.ovrCnt, ovrTimes := times } }
  if s1.parN P.ctlOvrLim < times.length ∧ !s1.ctl.ovrPersist then
    (({ s1 with ctl := { s1.ctl with ovrPersist := true } }).setDeg 5 true).logPost 0 0x0801 3
      (le2 times.length ++ [s1.ctl.speed])
  else s1

/-- R301: OVERRUN_CLEAR: 10 s without a missed deadline. (Log entry 40, DEDUCED.) -/
def execOverrunClear (s : State) : Out :=
  if s.ctl.ovrPersist then
    .next (({ s with ctl := { s.ctl with ovrPersist := false, ovrTimes := [] } }).setDeg 5 false)
  else .next s

/-- R217, R275 step 6: the tones as the inner loops receive them. -/
def State.tonesAt (s0 : State) (now : Nat) : State :=
  let s := s0.holdTones
  let s1 := { s with prb := { s.prb with tones := (s.prb.tones.map (s.toneTick now)) } }
  let s2 := { s1 with prb := { s1.prb with tones := s1.prb.tones.map s1.seeSlower } }
  { s2 with ctl := { s2.ctl with tones := s2.toneSum now } }

/-- R294: the difference between the sum of the active phases' control samples and the shunt mean. -/
def State.isum (s : State) : State :=
  { s with ctl := { s.ctl with
      isumDiff := (s.phm.ph.filter (·.active)).foldl (fun a p => a + p.iMa) 0 - s.pins.shunt } }

/-- R275: OUTER_TICK. In PILOT and during the freeze of a switchover the CE evaluates nothing (R303, R374). A tick whose result is late
still takes the writes that wait for it (R295) and compares the currents (R277, R294). (Log entry 14, DEDUCED.) -/
def execOuterTick (m : OuterIn) (s : State) : Out :=
  let s0 := { s with
    lmp := { s.lmp with time := m.now.toNat }
    pins := { s.pins with shunt := m.ish, vStr := m.vStr, vBus := m.vBus, vLink := m.vLink, vPre := m.vPre } }
  if s0.sys.st = .pilot || s0.prl.frozen then .next s0
  else if m.late then
    let s1 := s0.applyOuter
    .next (({ s1 with ctl := { s1.ctl with ovrOut := true, missedDt := s1.ctl.missedDt + m.dtNs } }).missDeadline m.now.toNat).isum
  else
    let dt := m.dtNs + s0.ctl.missedDt
    let s1 := (s0.applyOuter).outerEval m.now.toNat dt
    .next (({ s1 with ctl := { s1.ctl with missedDt := 0 } }.tonesAt m.now.toNat).isum)

/-- R294: the difference lies beyond CTL_ISUM_TOL. -/
def State.isumBeyond (s : State) : Bool := decide (s.par P.ctlIsumTol < s.ctl.isumDiff.natAbs)

/-- R294: ISUM_WARNING: the difference has lain beyond CTL_ISUM_TOL, or within it, for 1 s. -/
def execIsumWarning (beyond : Bool) (s : State) : Out :=
  .next (if s.isumBeyond == beyond then ({ s with ctl := { s.ctl with isumWarn := beyond } }).setDeg 3 beyond else s)

/-! The inner loop (R290, R291). -/

/-- R290: a computed duty fraction as a Q0.16 code, which may lie outside 0 to 0xFFFF. -/
def dutyCode (q : Rat) : Int := ratFree 18 (q * 65536)

/-- R290, R291: the split of the demanded inductor voltage vl into duty codes; a duty of 1 set by the split itself is 0xFFFF. -/
def State.split (s : State) (vStr vBus : Int) (vl : Rat) : Int × Int :=
  let rt := ratDiv 14 vBus vStr
  if rt ≤ (s.par P.ctlBbLo : Rat) / 16384 then (dutyCode (ratDiv 15 (vBus + vl) vStr), 0xFFFF)
  else if (s.par P.ctlBbHi : Rat) / 16384 ≤ rt then (0xFFFF, dutyCode (ratDiv 16 (vStr - vl) vBus))
  else (dutyCode (ratDiv 17 ((s.par P.ctlBbDfix : Rat) / 65536 * vBus + vl) vStr), s.par P.ctlBbDfix)

/-- R290: a duty code within ± dstep of the previous one, then within 0 to 0xFFFF. -/
def stepDuty (prev : Nat) (dstep c : Int) : Nat :=
  (clampI 0 0xFFFF (clampI ((prev : Int) - dstep) ((prev : Int) + dstep) c)).toNat

/-- R290: the mean of the latest control samples of the common-duty phases. -/
def State.iMean (s : State) : Rat :=
  let l := s.commonPh
  ratDiv 19 (l.foldl (fun a p => a + (nth s.phm.ph p {}).iMa) (0 : Int)) l.length

/-- R290, R262: the per-phase reference. -/
def State.irefPh (s : State) : Rat :=
  if s.phm.burst then s.par P.phmBurstI else ratDiv 20 (s.ctl.iref + s.ctl.tones) s.commonPh.length

/-- R290: the integrator with its advance, clamped to ± CTL_PH_XMAX, in 1/256 mV. (Log entry 54, DEDUCED.) -/
def State.innerX (s : State) (p : Nat) (e : Rat) : Int :=
  let xm : Int := s.par (P.phase p 5) * 256
  clampI (-xm) xm ((nth s.ctl.ph p {}).x + ratFree 21 ((s.par (P.phase p 4) : Rat) / 65536 * e * 256))

/-- R290: the demanded inductor voltage with integrator x, and whether a term saturated. -/
def State.innerVl (s : State) (p : Nat) (m : EvalIn) (e : Rat) (x : Int) : Rat × Bool × Bool :=
  let up := sat32 ((s.par (P.phase p 3) : Rat) / 65536 * e)
  let r := s.irefPh
  let ff := sat32 ((s.par (P.phase p 7) : Rat) * r / 1000000 +
    ratDiv 22 ((s.par (P.phase p 6) : Rat) * (r - (nth s.ctl.ph p {}).irefPrev)) m.dtNs)
  ((sat32 (up.1 + (x : Rat) / 256 + ff.1)).1, up.2, ff.2)

/-- R290, R291: the duties for vl: DA, DB, whether a clamp acted, and its sign (+1: less voltage than demanded). -/
def State.innerDuty (s : State) (p : Nat) (m : EvalIn) (vl : Rat) : Nat × Nat × Bool × Int :=
  let q := s.split m.vStr m.vBus vl
  let x := nth s.phm.ph p {}
  let dstep := s.par (P.phase p 8)
  let ca := q.1
  let cb := q.2
  let da := stepDuty x.da dstep ca
  let db := stepDuty x.db dstep cb
  let acted := decide ((da : Int) ≠ ca) || decide ((db : Int) ≠ cb)
  let sign : Int := if (da : Int) < ca ∨ cb < (db : Int) then 1 else if ca < (da : Int) ∨ (db : Int) < cb then -1 else 0
  (da, db, acted, sign)

/-- R290: one evaluation of a common-duty phase; the gate lines of one that leaves stay low (R256). -/
def State.innerEval (s : State) (p : Nat) (m : EvalIn) : State :=
  let c := nth s.ctl.ph p {}
  let e := s.irefPh - s.iMean
  let x1 := s.innerX p e
  let v1 := s.innerVl p m e x1
  let d1 := s.innerDuty p m v1.1
  let deepens := d1.2.2.1 && ((d1.2.2.2 == 1 && decide (0 < e)) || (d1.2.2.2 == -1 && decide (e < 0)))
  let xm : Int := s.par (P.phase p 5) * 256
  let x := if deepens then clampI (-xm) xm c.x else x1
  let v := if deepens then s.innerVl p m e x else v1
  let d := if deepens then s.innerDuty p m v.1 else d1
  let f := c.satf
  let c1 : CtlPhase := { c with
    x := x, irefPrev := s.irefPh
    satf := [nth f 0 false || v.2.1, nth f 1 false || decide (x.natAbs = xm.natAbs), nth f 2 false || v.2.2,
             nth f 3 false || d1.2.2.1] }
  let s1 := s.modPh p (fun y => { y with da := d.1, db := d.2.1, gatesLow := y.leaving })
  { s1 with ctl := { s1.ctl with ph := s1.ctl.ph.set p c1, common := (d.1, d.2.1) } }

/-- R264: the zero-current duties of the latched voltages. -/
def State.zeroDuty (s : State) (m : EvalIn) : Int × Int := s.split m.vStr m.vBus 0

/-- R264: a duty between the zero-current and the common one. -/
def mixDuty (pos : Rat) (z : Int) (c : Nat) : Nat := (clampI 0 0xFFFF (ratFree 23 ((z : Rat) + pos * ((c : Rat) - z)))).toNat

/-- R290: the mean of the integrators of the common-duty phases, which a rejoining phase takes. -/
def State.meanX (s : State) (own : Int) : Int :=
  let l := s.commonPh
  if l.isEmpty then own else divFree 24 (l.foldl (fun a p => a + (nth s.ctl.ph p {}).x) 0) l.length

/-- R264, R265: one ramp step of a shedding or adding phase at its update point. -/
def State.rampStep (s : State) (p : Nat) (m : EvalIn) : State :=
  let x := nth s.phm.ph p {}
  let pos := if x.ramp = 1 then x.pos - ratDiv 25 1 x.steps
             else if x.gatesLow then x.pos
             else x.pos + ratDiv 26 1 x.steps
  let pos1 := if pos < 0 then 0 else if 1 < pos then 1 else pos
  let z := s.zeroDuty m
  let done := x.ramp == 2 && decide (pos1 = 1)
  let s1 := s.modPh p (fun y => { y with pos := pos1, gatesLow := y.leaving, ramp := if done then 0 else y.ramp,
                                          da := mixDuty pos1 z.1 s.ctl.common.1, db := mixDuty pos1 z.2 s.ctl.common.2 })
  if done then { s1 with ctl := { s1.ctl with ph := s1.ctl.ph.modify p (fun c => { c with x := s.meanX c.x }) } } else s1

/-- R266: a braking phase at one of its valleys: it resumes, or brakes for another period; BRAKE ends with the last. -/
def State.brakeStep (s : State) (p : Nat) (m : EvalIn) : State :=
  let n := s.activePh.length
  let k := ((nth s.phm.ph p {}).braking).getD 0
  let within := decide (2 * excess (s.fastSum m.fast) s.ctl.iref < n * s.par P.phmRelTh)
  let cut := brakeCut (s.fastMa p (nth m.fast p 32))
  let s1 := if within || decide (s.parN P.phmRelMax ≤ k + 1) then s.modPh p (fun y => { y with braking := none })
            else s.modPh p (fun y => ({ y with braking := some (k + 1) }).turnOff cut (s.edgeTime m.now.toNat))
  { s1 with phm := { s1.phm with brake := s1.phm.ph.any (fun y => y.braking.isSome) } }

/-- R260: the time from the last of two fast-path samples, 400 ns apart, to the zero crossing that their line predicts; none where the
current does not run toward zero. -/
def zeroCrossing (prev last : Int) : Option Rat :=
  if (0 < last ∧ last < prev) ∨ (last < 0 ∧ prev < last) then some (400 * (last : Rat) / ((prev - last : Int) : Rat)) else none

/-- R260: for each two neighbouring samples, oldest first, the last of the n lying `ago` before the valley: when the synchronous switch goes
off by their line, and when the next sample is taken, ns from the valley. -/
def zcdTimes (adv ago : Nat) (n : Nat) : List Int → List (Rat × Rat)
  | a :: b :: l =>
    let here : Rat := -(ago : Rat) - 400 * ((n : Rat) - 2)
    match zeroCrossing a b with
    | some t => (max (here + t - adv) here, here + 400) :: zcdTimes adv ago (n - 1) (b :: l)
    | none => zcdTimes adv ago (n - 1) (b :: l)
  | _ => []

/-- R260: when the synchronous switches went off in the period that ends with these samples. -/
def zcdPast (l : List (Rat × Rat)) : Option Rat := (l.find? (fun x => decide (x.1 < x.2) && decide (x.1 < 0))).map (·.1)

/-- R87, R259, R260: diode emulation at a valley of the phase: whether it runs, which switches are synchronous rectifiers, and when they
go off, in the period that ends or, where the last samples point beyond it, in the one that begins. -/
def State.deStep (s : State) (p : Nat) (m : EvalIn) : State :=
  let x := nth s.phm.ph p {}
  let low := decide ((x.iMa.natAbs : Int) < s.par P.phmDeEnter)
  let run := if low then x.deRun + 1 else 0
  let de := if s.toneLive || x.braking.isSome then false
            else if x.de then decide ((x.iMa.natAbs : Int) ≤ s.par P.phmDeExit)
            else decide (4 ≤ run)
  let on := (de || s.phm.burst) && x.braking.isNone
  let sync := if !on then none else if 0 < x.iMa then some true else if x.iMa < 0 then some false else x.sync
  let zt := zcdTimes (s.parN P.phmZcdAdv) m.fastAgo m.samples.length (m.samples.map (s.fastMa p))
  let past := if x.sync.isSome then zcdPast zt else none
  let at_ := past.orElse (fun _ => if on then (zt.getLast?.map (·.1)).filter (0 ≤ ·) else none)
  s.modPh p (fun y => { y with deRun := run, de := on, sync := sync, zcdAt := at_.map (deferNs (s.conversions m.now.toNat)) })

/-! Gate edges (R87, R248, R249). -/

/-- R87, R248: an edge, in 250 ps from the valley, put off to the end of the span that it falls in. -/
def deferEdge (spans : List Int) (e : Int) : Int :=
  match spans.find? (fun t => decide (t - 600 ≤ e) && decide (e < t + 1200)) with
  | some t => t + 1200
  | none => e

/-- R248: the commanded on-time of a duty code, without pulses and gaps shorter than the least one. -/
def onUnits (period least code : Nat) : Int :=
  let on := divRound 102 ((code : Int) * period) 65536
  if on < least then 0 else if (period : Int) - on < least then period else on

/-- R87, R249: the other side of a leg is to come on at e: when the one goes off, and when the other comes on. An edge is put off at most
once: one that the dead time of a deferred edge carries into the next conversion's span stays there. (Log entry 101, DEDUCED.) -/
def legTurn (spans : List Int) (dead e : Int) : Int × Int :=
  let off := deferEdge spans e
  (off, max (deferEdge spans (e + dead)) (off + dead))

/-- R87, R248, R249: the edges of a leg with duty `code` and dead time `dead`, about the carrier peak; a pulse that a deferral leaves
shorter than the least one is suppressed. (Log entry 101, DEDUCED.) -/
def legOf (period least dead code : Nat) (spans : List Int) : Leg :=
  let on := onUnits period least code
  if on ≤ 0 then .held false 0
  else if (period : Int) ≤ on then .held true 0
  else
    let rise := divRound 103 (period - on) 2
    let up := legTurn spans dead rise
    let down := legTurn spans dead (rise + on)
    if (up.2 ≠ rise + dead ∨ down.1 ≠ rise + on) ∧ down.1 - up.2 < least then .held false 0
    else .pulse 0 up.1 (min up.2 down.1) down.1 down.2

/-- R249: when the low side of the leg is on from, at a valley that follows leg l. -/
def Leg.lowFrom (l : Leg) (spans : List Int) (dead : Int) : Int :=
  match l with
  | .low => deferEdge spans 0
  | .held true _ => (legTurn spans dead 0).2
  | .held false a => a
  | .pulse _ _ _ _ d => d

/-- R249: when the high side is on from, where it is held on from a valley that follows leg l. -/
def Leg.highFrom (l : Leg) (spans : List Int) (dead : Int) : Int :=
  match l with
  | .low => deferEdge spans 0
  | .held true a => a
  | .held false _ => (legTurn spans dead 0).2
  | .pulse _ _ _ _ d => if d ≤ 0 then (legTurn spans dead 0).2 else deferEdge spans 0

/-- R249: leg `new` of the period that begins at a valley, after leg `old`. -/
def Leg.atValley (old new : Leg) (spans : List Int) (dead : Int) : Leg :=
  match new with
  | .low => .low
  | .held true _ => .held true (old.highFrom spans dead)
  | .held false _ => .held false (old.lowFrom spans dead)
  | .pulse _ a b c d => .pulse (old.lowFrom spans dead) a b c d

/-- R248 to R250: leg `new` taken at the carrier peak, in a period of length len that began with leg `old`. -/
def Leg.atPeak (old new : Leg) (spans : List Int) (dead len half : Int) : Leg :=
  let t := legTurn spans dead half
  match old, new with
  | .low, _ => .low
  | _, .low => .low
  | .pulse a b c _ _, .pulse _ _ _ d e => .pulse a b c d e
  | .pulse a b c _ _, .held true _ => .pulse a b c len (len + dead)
  | .pulse a b c _ _, .held false _ => .pulse a b c t.1 t.2
  | .held true a, .pulse _ _ _ d e => .pulse a a a d e
  | .held true a, .held true _ => .held true a
  | .held true a, .held false _ => .pulse a a a t.1 t.2
  | .held false a, .pulse _ _ _ d e => if t.2 < d then .pulse a t.1 t.2 d e else .held false a
  | .held false a, .held true _ => .pulse a t.1 t.2 len (len + dead)
  | .held false a, .held false _ => .held false a

/-- R249: a leg as seen from the next valley, len later. -/
def Leg.shift (len : Int) : Leg → Leg
  | .low => .low
  | .held b a => .held b (a - len)
  | .pulse a b c d e => .pulse (a - len) (b - len) (c - len) (d - len) (e - len)

/-- R87: the conversions t_i, in 250 ps from the valley of the period of length len in which the update point lies. -/
def State.spansFrom (s : State) (m : EvalIn) (len : Nat) : List Int :=
  (s.conversions m.now.toNat).map (fun t => 4 * t + (if m.valley then 0 else (len : Int) / 2))

/-- R247 to R249: the modulator takes the duties of phase p: its edges in the stretched or shortened period, or gate lines held low. -/
def State.issue (s : State) (p : Nat) (m : EvalIn) : State :=
  let x := nth s.phm.ph p {}
  let spans := s.spansFrom m x.perLen
  let leg := fun (k code : Nat) (old : Leg) =>
    let dead := s.parN (P.phase p k)
    let new := legOf x.perLen (s.parN P.phmMinPulse) dead code spans
    if m.valley then old.atValley new spans dead else old.atPeak new spans dead x.perLen ((x.perLen : Int) / 2)
  if !x.active || x.gatesLow then s.modPh p (fun y => { y with legA := .low, legB := .low })
  else s.modPh p (fun y => { y with legA := leg 0 x.da x.legA, legB := leg 1 x.db x.legB })

/-! The plausibility observer (R293). -/

/-- R293: the predicted change of the phase current, mA. -/
def State.predict (s : State) (p : Nat) (m : EvalIn) : Rat :=
  let d := ratDiv 27 ((m.vStr : Rat) * m.onA - (m.vBus : Rat) * m.onB - (s.par (P.phase p 7) : Rat) * m.qI / 1000000)
    (s.par (P.phase p 6))
  let x := nth s.phm.ph p {}
  if x.de then (if 0 < x.iMa ∧ d < -(x.iMa : Rat) then -(x.iMa : Rat) else if x.iMa < 0 ∧ -(x.iMa : Rat) < d then -(x.iMa : Rat) else d)
  else d

/-- R293: one observer check; the third failure in a row is phase fault 0x4. -/
def State.observe (s : State) (p : Nat) (m : EvalIn) (ma : Int) : State :=
  let x := nth s.phm.ph p {}
  if !x.active || s.phm.brake || x.braking.isSome || s.phm.sinceBrake < 2 then s
  else
    let dp := s.predict p m
    let diff : Rat := ((ma - x.iMa : Int) : Rat) - dp
    let mag := if diff < 0 then -diff else diff
    let magP := if dp < 0 then -dp else dp
    let fail := decide ((s.par P.ctlObsAbs : Rat) < mag) && decide ((s.par P.ctlObsRel : Rat) * magP / 100 < mag)
    let bad := if fail then (nth s.ctl.ph p {}).obsBad + 1 else 0
    let s1 := { s with ctl := { s.ctl with ph := s.ctl.ph.modify p (fun c =>
      { c with obs := ratFree 28 diff, obsBad := if 3 ≤ bad then 0 else bad }) } }
    if 3 ≤ bad then s1.phaseFault p 4 else s1

/-- R247, R253, R266: what the valley of a phase brings: its carrier moves, which stretches or shortens the period that begins; the count of
periods with a peak goes on, and switches turned off for the rest of the period come back. -/
def Phase.atValley (period : Nat) (p : Phase) : Phase :=
  let q := p.moveCarrier period
  { q with perLen := ((period : Int) + q.ofs - p.ofs).toNat, cut := [none, none, none, none]
           pkRun := if p.pkSeen then p.pkRun else 0, pkSeen := false
           legA := p.legA.shift p.perLen, legB := p.legB.shift p.perLen }

/-- R259 to R267, R290: what the phase does at an update point: the modulators' own part, and the duties of a result in time. A faulted
phase is evaluated until it leaves. -/
def State.updatePoint (s : State) (p : Nat) (m : EvalIn) : State :=
  let x := nth s.phm.ph p {}
  if !x.active then s
  else
    let s1 := if m.valley then s.modPh p (Phase.atValley s.phm.period) else s
    if x.braking.isSome then (if m.valley then s1.brakeStep p m else s1)
    else
      let s2 := if m.valley then s1.deStep p m else s1
      if x.gatesLow && !x.leaving && !m.valley then s2
      else if x.ramp ≠ 0 then s2.rampStep p m
      else if m.late then s2
      else s2.innerEval p m

/-- R267, R374: while the duties are held, a phase's valley still moves its carrier, and a braking phase resumes or brakes on. -/
def State.heldPoint (s0 : State) (p : Nat) (m : EvalIn) : State :=
  let s := s0.applyAt (.valley p)
  let s1 := s.modPh p (Phase.atValley s.phm.period)
  (if (nth s.phm.ph p {}).braking.isSome then s1.brakeStep p m else s1).issue p m

/-- R494: the tap at the evaluator's output: a capture of phase p takes one record. -/
def State.ceTap (s : State) (p : Nat) (m : EvalIn) : State :=
  match s.spy.ce with
  | none => s
  | some (q, k) =>
    if q ≠ p then s
    else
      let x := nth s.phm.ph p {}
      let c := nth s.ctl.ph p {}
      let r : CeRec := { time := m.now.toNat, sample := x.iMa, iref := c.irefPrev, da := x.da, db := x.db, x := c.x, satf := c.satf,
                         ovr := nth s.ctl.ovrPh p false }
      let y := if m.late then s.spy.trigger .ovr else s.spy
      let z : Spy :=
        if !y.ceFired then { y with ceRecs := (r :: y.ceRecs).take 512 }
        else { y with ceRecs := r :: y.ceRecs, ceLeft := y.ceLeft - 1, ce := if y.ceLeft ≤ 1 then none else some (q, k) }
      { s with spy := z }

/-- R250: the point is one of the phase's update points: its valley, or with PHM_UPD_TWICE its peak. -/
def State.isUpdate (s : State) (m : EvalIn) : Bool := m.valley || s.par P.phmUpdTwice == 1

/-- R249, R274, R295: the writes that an evaluation of phase p takes. -/
def State.evalWrites (s : State) (p : Nat) (m : EvalIn) : State :=
  let s1 := if m.valley then s.applyAt (.valley p) else s
  (s1.applyAt (.sample p)).applyAt (.sample 16)

/-- R290, R293, R295, R300: INNER_EVALUATION of phase p; a late one still takes the writes that wait for it. -/
def execInnerEvaluation (p : Fin 16) (m : EvalIn) (s : State) : Out :=
  let s0 := { s with lmp := { s.lmp with time := m.now.toNat } }
  if !s0.isUpdate m then .next s0
  else if s0.held then .next (if m.valley && (nth s0.phm.ph p {}).active then s0.heldPoint p m else s0)
  else if s0.sys.st = .pilot then .next s0
  else
    let sv := s0.evalWrites p m
    let ma := sv.densMa p m.ones m.bits
    let s1 := (((sv.observe p m ma).modPh p (fun y => { y with iMa := ma })).applyAt (.inner p)).applyAt (.inner 16)
    if m.late then
      .next (((({ s1 with ctl := { s1.ctl with ovrPh := s1.ctl.ovrPh.set p true } }).missDeadline
        m.now.toNat).updatePoint p m).issue p m |>.ceTap p m)
    else
      let s2 := s1.tonesAt m.now.toNat
      .next (((s2.updatePoint p m).issue p m).ceTap p m)

end Sys2Proof.Machine
end

