-- ==== Sys2Proof/Machine/Mem.lean ====
section
/-! DEFINITION. Byte memories in canonical form: the schedule banks and the mailbox buffers (R96, R433). Addresses rise
strictly and a byte of 0 is not listed, so equal memories are equal lists. -/

namespace Sys2Proof.Machine

/-- The byte at address a; an address not listed reads 0 (R96, log entry 10). -/
def memGet : Mem → Nat → Byte
  | [], _ => 0
  | c :: m, a => if c.1 = a then c.2 else memGet m a

/-- The memory with byte b at address a. (Log entry 10, DESIGN CHOICE.) -/
def memPut : Mem → Nat → Byte → Mem
  | [], a, b => if b = 0 then [] else [(a, b)]
  | c :: m, a, b =>
    if a < c.1 then (if b = 0 then c :: m else (a, b) :: c :: m)
    else if a = c.1 then (if b = 0 then m else (a, b) :: m)
    else c :: memPut m a b

/-- The memory with the bytes of l from address a upward. -/
def memPutL : Mem → Nat → List Byte → Mem
  | m, _, [] => m
  | m, a, b :: l => memPutL (memPut m a b) (a + 1) l

/-- n bytes from address a upward. -/
def memGetL : Mem → Nat → Nat → List Byte
  | _, _, 0 => []
  | m, a, n + 1 => memGet m a :: memGetL m (a + 1) n

/-- Every address listed is at least lo, addresses rise strictly, and no byte listed is 0. -/
def memWfFrom : Nat → Mem → Bool
  | _, [] => true
  | lo, c :: m => decide (lo ≤ c.1) && (c.2 != 0) && memWfFrom (c.1 + 1) m

/-- The canonical form. (Log entry 10, DESIGN CHOICE.) -/
def memWf (m : Mem) : Bool := memWfFrom 0 m

end Sys2Proof.Machine
end

