-- ==== Sys2Proof/Machine/Firing.lean ====
section
/-! DEFINITION. The firing sequencer (R76 to R107): entries and their fields, the gate that every entry passes, bank
writes and swaps, cursors, and the entry classes that touch the sequencer alone. -/

namespace Sys2Proof.Machine

/-! Entries (R82 to R86). -/

/-- R82: the 128 bits of entry e. -/
def bankEntry (m : Mem) (e : Nat) : Nat := leNat (memGetL m (16 * e) 16)

/-- R96: the contents of bank b. -/
def Fsq.bank (f : Fsq) (b : Nat) : Mem := if b = 0 then f.bank0 else f.bank1

/-- R96: the number of the shadow bank. -/
def Fsq.shadow (f : Fsq) : Nat := 1 - f.active

/-- R82: OFFSET, ns. -/
def entOffset (w : Nat) : Nat := field w 23 0
/-- R82: CLASS. -/
def entClass (w : Nat) : Nat := field w 29 24
/-- R82: LAST. -/
def entLast (w : Nat) : Bool := bitOf w 30
/-- R82: CONT. -/
def entCont (w : Nat) : Bool := bitOf w 31
/-- R83: NODE. -/
def entNode (w : Nat) : Nat := field w 37 32
/-- R83: UNIT. -/
def entUnit (w : Nat) : Nat := field w 39 38
/-- R86: COUNT of a NODE_SLOT or CONTENTION_SLOT. -/
def entCount (w : Nat) : Nat := field w 93 88
/-- R86: PITCH, ns. -/
def entPitch (w : Nat) : Nat := field w 115 96
/-- R86: WINDOW, ns. -/
def entWindow (w : Nat) : Nat := field w 83 64
/-- R86: KIND of a NODE_SLOT. -/
def entKind (w : Nat) : Nat := field w 85 84
/-- R86: PHY, BPRF. -/
def entPhy (w : Nat) : Bool := bitOf w 86

/-- R84: a BEACON or PROBE_PHASE_STEP with CONT takes the next entry as its extension. -/
def entExtends (w : Nat) : Bool := entCont w && (entClass w == 0x01 || entClass w == 0x0A)

/-- R84: the index after entry e. -/
def entNext (e w : Nat) : Nat := if entExtends w then e + 2 else e + 1

/-- R84: no entry is read after entry e. -/
def entEnds (e w : Nat) : Bool := entLast w || decide (4095 < entNext e w)

/-- R85: a reserved class. -/
def entBadClass (w : Nat) : Bool := entClass w == 0x0E || decide (0x0F < entClass w)

/-- R85: classes that only announce work to nodes; the FSQ itself executes nothing for them. -/
def entAnnounced (w : Nat) : Bool := entClass w == 7 || entClass w == 8 || entClass w == 9

/-- R85: an armed class. -/
def entArmed (w : Nat) : Bool := (1 ≤ entClass w && entClass w ≤ 5) || entClass w == 0x0A

/-- The action entries of a bank from index e on, with their indices, in table order. -/
def tableFrom (m : Mem) : Nat → Nat → List (Nat × Nat)
  | 0, _ => []
  | n + 1, e =>
    let w := bankEntry m e
    if entEnds e w then [(e, w)] else (e, w) :: tableFrom m n (entNext e w)

/-- The action entries of a bank. -/
def bankTable (m : Mem) : List (Nat × Nat) := tableFrom m 4096 0

/-- R85, R86: the bits that an entry of class c uses; the rest are reserved (R84). -/
def entMask (c : Nat) : Nat :=
  let head := 2 ^ 32 - 1
  let node := 0x3F * 2 ^ 32
  let unit := 3 * 2 ^ 38
  let slot := (2 ^ 20 - 1) * 2 ^ 64 + 2 ^ 86 + 0x3F * 2 ^ 88 + (2 ^ 20 - 1) * 2 ^ 96
  match c with
  | 0x01 => head + unit + (2 ^ 20 - 1) * 2 ^ 64 + 2 ^ 86
  | 0x02 => head + node + unit + slot + 3 * 2 ^ 84
  | 0x03 => head + unit + slot
  | 0x05 => head + 7 * 2 ^ 64 + 3 * 2 ^ 72
  | 0x06 => head + node + 0x3F * 2 ^ 64 + 15 * 2 ^ 72
  | 0x07 => head + unit + (2 ^ 24 - 1) * 2 ^ 64
  | 0x08 => head + node + unit + 0x1F * 2 ^ 64
  | 0x09 => head + node + unit + 7 * 2 ^ 64 + 2 ^ 68 + 255 * 2 ^ 72
  | 0x0A => head + 3 * 2 ^ 56 + (2 ^ 24 - 1) * 2 ^ 64
  | 0x0B => head + 0xFFFF * 2 ^ 40 + 15 * 2 ^ 64
  | 0x0C => head + (2 ^ 17 - 1) * 2 ^ 64
  | 0x0D => head + 3 * 2 ^ 64
  | 0x0F => head + 3 * 2 ^ 64
  | _ => head

/-- R84: the entry sets a bit that its class does not use. -/
def entReservedBits (w : Nat) : Bool := w &&& entMask (entClass w) != w

/-! The gate (R92 to R95). -/

/-- What stands when the command of an entry class comes. -/
inductive Gate
  /-- no entry of the class is due -/
  | idle
  /-- the entry was skipped (R94) -/
  | skipped (s : State)
  /-- the entry's contents are a host error (R6) -/
  | bad (k : HostErr)
  /-- the entry of this index and these bits runs, late or not -/
  | run (s : State) (e w : Nat) (late : Bool) (lag : Nat)
  deriving DecidableEq

/-- R92: pass entry e. -/
def Fsq.pass (f : Fsq) (e w : Nat) : Fsq := { f with entry := entNext e w, tableDone := entEnds e w }

/-- R76, R82: the start time of an entry. -/
def Fsq.startOf (f : Fsq) (w : Nat) : Nat := addT f.frameStart (entOffset w)

/-- R495: a line of the FSQ trace: 0 no mark, 1 LATE, 2 SKIP, 3 ECC. -/
def Fsq.traceLine (f : Fsq) (e w lag mark : Nat) : Fsq :=
  if f.tracing then { f with trace := f.trace ++ [{ entry := e, cls := entClass w, offset := entOffset w, lag := lag, mark := mark }] } else f

/-- R94: count a late entry. -/
def Fsq.countLate (f : Fsq) (w : Nat) : Fsq :=
  { f with late := true, lateCnt := incSat 16 f.lateCnt,
           lateSnap := f.lateSnap || entClass w == 4 || entClass w == 5 }

/-- R94: count an abandoned or skipped entry. -/
def Fsq.countSkip (f : Fsq) (ecc : Bool) : Fsq :=
  { f with skip := f.skip || !ecc, eccSkip := f.eccSkip || ecc, skipCnt := incSat 16 f.skipCnt }

/-- R94, R486: the DATA of the record of an entry abandoned or skipped. -/
def skipData (e w : Nat) (ecc : Bool) : List Nat := le2 e ++ [entClass w, if ecc then 1 else 0]

/-- R94, R486: the record of an entry abandoned or skipped. -/
def State.logSkip (s : State) (e w : Nat) (ecc : Bool) : State :=
  ({ s with fsq := (s.fsq.countSkip ecc).traceLine e w 0 (if ecc then 3 else 2)
            prl := { s.prl with eccBad := s.prl.eccBad || ecc } }).logPost 2 0x0202 3 (skipData e w ecc)

/-- R92, R94: an entry that starts at `now` ran late: an armed one after its start time, a self-timed one more than
2 µs after it (log entry 15); an entry of another class is judged like a self-timed one (log entry 68). -/
def lateAt (w : Nat) (lag : Nat) : Bool := if entArmed w then decide (0 < lag) else decide (2000 < lag)

/-- R92: the later of two times. -/
def laterT (a b : Nat) : Nat := if reached a b then a else b

/-- R92, R94: one entry that only announces work to nodes is passed: at its start time, or as soon as the entry before it has started. -/
def Fsq.passOne (f : Fsq) (w : Nat) (ecc : Bool) : Fsq :=
  let at_ := laterT f.lastAt (f.startOf w)
  let lag := (diffT at_ (f.startOf w)).toNat
  let late := !ecc && lateAt w lag
  let f1 := (({ f with lastAt := at_ } : Fsq).pass f.entry w).traceLine f.entry w lag (if ecc then 3 else if late then 1 else 0)
  if ecc then f1.countSkip true else if late then f1.countLate w else f1

/-- R92: the next entry is one that only announces work to nodes, and its start time is reached. -/
def Fsq.announcing (f : Fsq) (now : Nat) : Bool :=
  let w := bankEntry (f.bank f.active) f.entry
  !f.tableDone && entAnnounced w && reached now (f.startOf w)

/-- R92, R94: the entries that only announce work to nodes are passed once their start times are reached; those of the list read with an
uncorrectable error. -/
def Fsq.passAnnounced (now : Nat) (bad : List Nat) : Nat → Fsq → Fsq
  | 0, f => f
  | n + 1, f =>
    if f.announcing now then Fsq.passAnnounced now bad n (f.passOne (bankEntry (f.bank f.active) f.entry) (bad.contains f.entry)) else f

/-- R94: those of them that are skipped for ECC: index and bits. -/
def Fsq.announcedBad (now : Nat) (bad : List Nat) : Nat → Fsq → List (Nat × Nat)
  | 0, _ => []
  | n + 1, f =>
    let w := bankEntry (f.bank f.active) f.entry
    if f.announcing now then
      let l := Fsq.announcedBad now bad n (f.passOne w (bad.contains f.entry))
      if bad.contains f.entry then (f.entry, w) :: l else l
    else []

/-- The FSQ once the announced entries before the due one have been passed. -/
def Fsq.announced (f : Fsq) (m : EntryIn) : Fsq := Fsq.passAnnounced m.now.toNat m.bad 4096 f

/-- R92, R94, R378, R486: the announced entries whose time has come are passed; each skipped for ECC is recorded, and the ECC bit of the
health word falls. -/
def State.announced (s : State) (m : EntryIn) : State :=
  let l := Fsq.announcedBad m.now.toNat m.bad 4096 s.fsq
  l.foldl (fun t x => t.logPost 2 0x0202 3 (skipData x.1 x.2 true))
    { s with fsq := s.fsq.announced m, prl := { s.prl with eccBad := s.prl.eccBad || !l.isEmpty } }

/-- R92, R94: the gate of class c. -/
def State.gate (s : State) (c : Nat) (m : EntryIn) : Gate :=
  let now := m.now.toNat
  let s0 := s.announced m
  let f := s.fsq.announced m
  let e := f.entry
  let w := bankEntry (f.bank f.active) e
  if !f.running || f.tableDone || !reached now (f.startOf w) then .idle
  else if entBadClass w then .bad .reservedCode
  else if entClass w ≠ c then .idle
  else if entReservedBits w then .bad .reservedBit
  else if m.ecc then .skipped ({ s0 with fsq := { f.pass e w with lastAt := now } }.logSkip e w true)
  else
    let lag := (diffT now (f.startOf w)).toNat
    let late := lateAt w lag
    let f1 := ({ f.pass e w with lastAt := now } : Fsq).traceLine e w lag (if late then 1 else 0)
    .run { s0 with fsq := if late then f1.countLate w else f1 } e w late lag

/-- R92: run g on the due entry of class c. -/
def State.onEntry (s : State) (c : Nat) (m : EntryIn) (g : State → Nat → Nat → Out) : Out :=
  match s.gate c m with
  | .idle => .next s
  | .skipped t => .next t
  | .bad k => .fault (.hostError k)
  | .run t e w _ _ => g t e w

/-- R368: in PILOT the class is suppressed. -/
def State.unlessPilot (s : State) (t : State) : State := if s.inPilot then s else t

/-- R85: UNIT names a unit. -/
def entUnitOk (w : Nat) : Bool := entUnit w < 2

/-! Bank writes and swaps (R96 to R101). -/

/-- R97: a swap is in progress. -/
def Fsq.swapBusy (f : Fsq) : Bool := f.swapCode == 1 || f.swapCode == 2 || f.swapCode == 3

/-- R96: bytes l are stored at offset o of bank b, or ignored. -/
def Fsq.bankPut (f : Fsq) (b o : Nat) (l : List Byte) : Fsq :=
  if b = f.active then { f with wrActive := true }
  else if f.swapBusy then { f with wrPending := true }
  else if b = 0 then { f with bank0 := memPutL f.bank0 o l } else { f with bank1 := memPutL f.bank1 o l }

/-- R96: SCHEDULE_BANK_WRITE of word i of a bank. -/
def execScheduleBankWrite (bank : Fin 2) (i : Fin 16384) (w : Word) (s : State) : Out :=
  let stored := bank.val != s.fsq.active && !s.fsq.swapBusy
  s.hostWrite 3 (.next { s with fsq := s.fsq.bankPut bank.val (4 * i.val) (leBytes 4 w.toNat)
                                fnl := if stored then { s.fnl with shadowSlot := none } else s.fnl })

/-- R97: NEXT reads. -/
def Fsq.nextBank (f : Fsq) : Nat := f.next.vote % 2

/-- R97, R98: a write of v to NEXT; a second write of the shadow bank's number while the swap is CHECKING or PENDING does nothing. (Log
entry 88, DESIGN CHOICE.) -/
def Fsq.writeNext (f : Fsq) (v : Nat) : Fsq :=
  if f.swapCode = 3 then f
  else if v = f.active then
    if f.swapCode = 1 ∨ f.swapCode = 2 then { f with next := Tv.put v, swapCode := 8 } else { f with next := Tv.put v }
  else if f.swapCode = 1 ∨ f.swapCode = 2 then f
  else { f with next := Tv.put v, swapCode := 1 }

/-- R97: SWAP_REQUEST. -/
def execSwapRequest (s : State) : Out := s.ownerWrite 3 (.next { s with fsq := s.fsq.writeNext s.fsq.shadow })

/-- R97: SWAP_WITHDRAW. -/
def execSwapWithdraw (s : State) : Out := s.ownerWrite 3 (.next { s with fsq := s.fsq.writeNext s.fsq.active })

/-- R84, R97: the entry with LAST set, if the FSQ reads one. -/
def bankLast (m : Mem) : Option Nat := ((bankTable m).find? (fun x => entLast x.2)).map (·.2)

/-- R76: the frame length of code l, ns. -/
def lenNs (l : Nat) : Nat := 1000000 * 2 ^ l

/-- R78: a frame length is a whole multiple of a PWM period, in 250 ps units. -/
def wholePeriods (ns period : Nat) : Bool := 0 < period && (4 * ns) % period == 0

/-- R97, R78, R246: the code with which the check of the shadow bank ends. -/
def State.checkCode (s : State) : Nat :=
  match bankLast (s.fsq.bank s.fsq.shadow) with
  | none => 6
  | some w =>
    if entClass w ≠ 0x0F then 6
    else
      let t := lenNs (field w 65 64)
      let both := wholePeriods t s.phm.period && (match s.fsq.perPending with | some p => wholePeriods t p | none => true)
      if both then 2 else 7

/-- R97: SWAP_CHECK_DONE. -/
def execSwapCheckDone (s : State) : Out :=
  if s.fsq.swapCode ≠ 1 then .next s
  else
    let c := s.checkCode
    .next { s with fsq := { s.fsq with swapCode := c, next := if c = 2 then s.fsq.next else Tv.put s.fsq.active } }

/-- R76: the LEN of a bank's FRAME_END. -/
def bankLen (m : Mem) (d : Nat) : Nat := match bankLast m with | some w => field w 65 64 | none => d

/-- R101: discard the incomplete point of a tone. -/
def Tone.discard (t : Tone) : Tone := { t with acc := {}, tagged := none }

/-- R99, R100: a pending or committed swap ends at FRAME_END. -/
def State.swapAtEnd (s : State) : State :=
  if s.fsq.swapCode = 2 ∨ s.fsq.swapCode = 3 then
    let clean := s.fsq.swapCode == 3
    { s with fsq := { s.fsq with swapCode := if clean then 4 else 5, swapped := true, swapDirty := !clean } }
  else s

/-- R99 to R101: from offset 0 of the next frame the new bank governs. -/
def State.swapAtStart (s : State) : State :=
  let f := s.fsq
  if f.swapped then
    let a := f.shadow
    { s with
      fsq := { f with active := a, swapped := false, lenCode := bankLen (f.bank a) f.lenCode, n := 0,
                      transFrame := f.swapDirty, transition := f.transition || f.swapDirty, swapDirty := false,
                      cursors := if f.swapDirty then [] else f.cursors,
                      tones := f.tones.map (fun _ => {}) }
      prb := { s.prb with tones := s.prb.tones.map Tone.discard } }
  else { s with fsq := { f with n := f.n + 1, transFrame := false } }

/-! Cursors (R88). -/

/-- R88: the REPORT entry of unit u in a bank: first node and count. -/
def bankReport (m : Mem) (u : Nat) : Option Nat :=
  ((bankTable m).find? (fun x => entClass x.2 == 2 && entUnit x.2 == u && entKind x.2 == 0)).map (·.2)

/-- R88: the nodes that a bank's REPORT slots give to unit u, ascending. -/
def bankNodes (m : Mem) (u : Nat) : List Nat :=
  match bankReport m u with
  | some w => (List.range (entCount w)).map (fun j => entNode w + j)
  | none => []

/-- R88: wires or positions of one node that a test entry visits. -/
def testItems (w : Nat) : List Nat :=
  let n := if entClass w = 8 then 9 else 8
  if bitOf w 68 then [if entClass w = 8 then field w 67 64 else field w 66 64] else List.range n

/-- R88: the nodes a test entry visits. -/
def testNodes (m : Mem) (w : Nat) : List Nat := if entNode w = 0x3F then bankNodes m (entUnit w) else [entNode w]

/-- R88: the node and item at place i of a test entry's walk. -/
def testAt (m : Mem) (w i : Nat) : Option (Nat × Nat) :=
  let its := testItems w
  let ns := testNodes m w
  match ns[i / its.length]? with
  | some n => some (n, nth its (i % its.length) 0)
  | none => none

/-- R88: one test entry's cursor moves to its next place; without a place, as after a swap or the start of the FSQ, it stands at the first
and is announced there. (Log entry 102, DEDUCED.) -/
def cursorStep (m : Mem) (old : List (Nat × Nat)) (x : Nat × Nat) : Nat × Nat :=
  let total := (testItems x.2).length * (testNodes m x.2).length
  match old.find? (fun c => c.1 == x.1) with
  | some c => (x.1, if c.2 + 1 < total then c.2 + 1 else 0)
  | none => (x.1, 0)

/-- R88: the test entries of a bank. -/
def testEntries (m : Mem) : List (Nat × Nat) := (bankTable m).filter (fun x => entClass x.2 == 8 || entClass x.2 == 9)

/-- R88, R101: the cursors after the freeze of a frame whose next frame runs bank m. -/
def cursorsNext (m : Mem) (old : List (Nat × Nat)) : List (Nat × Nat) := (testEntries m).map (cursorStep m old)

/-! Lateness and the classes that touch the sequencer alone. -/

/-- R90: NOP. -/
def execNop (m : EntryIn) (s : State) : Out := s.onEntry 0 m (fun t _ _ => .next t)

/-- R90: LOG_CHECKPOINT. -/
def execLogCheckpoint (m : EntryIn) (s : State) : Out :=
  match s.gate 0x0C m with
  | .idle => .next s
  | .skipped t => .next t
  | .bad k => .fault (.hostError k)
  | .run t _ w _ lag =>
    let ns := min 0xFFFF lag
    let t0 := t.applyAt (.on .checkpoint)
    let t1 := { t0 with fsq := { t0.fsq with lateMax := max t0.fsq.lateMax ns } }
    .next (if bitOf w 80 && t1.parN P.fsqLateLim < lag then t1.logPost 2 0x0201 2 (le2 (field w 79 64) ++ le2 ns) else t1)

/-- R90, R367: what a push of a scope carries: the owner's state, in scope 0 with the CSM. -/
def State.pushBody (s : State) (scope : Nat) : Mirror :=
  { frame := s.fsq.frameCnt, recs := if scope = 0 then s.csm.recs else [], est := s.est, mea := some s.mea, thm := s.thm, ctl := s.ctl
    coef := s.dict.work.filter (fun x => isCoef x.1), pend := s.dict.pend.filter BwWrite.isCe
    ph := s.phm.ph, enMask := s.enMask, snid := s.fnl.snid, kL := s.fnl.kL, pair := s.fnl.pair, epoch := s.fnl.epoch
    fc := s.fnl.units.map (·.fc), nodeFc := s.fnl.links.map (·.lastFc), prb := s.prb, base := s.sys.base
    active := s.fsq.active, cursors := s.fsq.cursors, n := s.fsq.n, opsec := s.sys.opsec
    degRun := s.sag.degRun, degRunT := s.sag.degRunT, st := s.sys.st, originDisp := s.sys.originDisp
    trk := s.phm.trk, stopRamp := s.phm.stopRamp, co3Drop := s.phm.co3Drop }

/-- R90, R365, R367, R368: the owner of a pair pushes a scope, and goes on to the end of the frame in which it passed ownership; the push
carries the next MIRROR_SEQ. -/
def State.push (s : State) (scope : Nat) : State :=
  if s.linkUp ∧ (s.prl.owner ∨ s.fsq.asOwner) then
    let seq := inc32 s.prl.mirrorSeq
    let parts := pushParts (s.parN P.prlVerMax) seq (mirrorBytes scope (s.pushBody scope))
    { s with prl := { s.prl with mirrorSeq := seq, mirrorAge := 0, pushed := some (scope, s.pushBody scope), sentParts := parts,
                                 out := parts.getLastD s.prl.out } }
  else s

/-- R90, R368: MIRROR_PUSH. -/
def execMirrorPush (m : EntryIn) (s : State) : Out :=
  s.onEntry 0x0D m (fun t _ w =>
    if 1 < field w 65 64 then .fault (.hostError .schedule) else .next (t.unlessPilot (t.push (field w 65 64))))

/-- R87, R250: SNAPSHOT: S is marked, from which the spans of deferred gate edges follow. -/
def State.markSnapshot (s : State) (w : Nat) : State := { s with fsq := { s.fsq with snapAt := some (s.fsq.startOf w) } }

/-- R89, R102: FSQ_TONE_STATk after frame n of a tone with step period d; a point is complete after 64·d frames. -/
def toneStat (old : ToneStat) (n d : Nat) (tagged : Bool) : ToneStat :=
  let step := if tagged then n / d % 64 else old.step
  { step := step, sub := n % d
    points := if step == 63 && (n + 1) % (64 * d) == 0 then addSat 16 old.points 1 else old.points }

end Sys2Proof.Machine
end

