-- ==== Sys2Proof/Machine/Balance.lean ====
section
/-! DEFINITION. The balancing plan and the masks that a beacon carries (R81, R202, R203, R440). -/

namespace Sys2Proof.Machine

/-- R37: a record write advances GEN by one at its start and one at its end. -/
def GroupRec.write (r : GroupRec) : GroupRec := { r with gen := (r.gen + 2) % 65536 }

/-- R37, R24: a reader treats the record as stale: it is flagged so, or its generation is odd, since the final write of its last writer was
lost to a fence. A burst of the model is one step, so the generation that it reads first and last is one value and no reader needs to read
again. -/
def GroupRec.old (r : GroupRec) : Bool := r.stale || r.gen % 2 == 1

/-- The record of group g. -/
def State.gr (s : State) (g : Nat) : GroupRec := nth s.csm.recs g {}

/-- The measured state of node n. -/
def State.mn (s : State) (n : Nat) : MNode := nth s.mea.nodes n {}

/-- The link state of node n. -/
def State.nl (s : State) (n : Nat) : NLink := nth s.fnl.links n {}

/-- Change the record of group g. -/
def State.modRec (s : State) (g : Nat) (f : GroupRec → GroupRec) : State :=
  { s with csm := { s.csm with recs := s.csm.recs.modify g f } }

/-- What the EA keeps for group g outside the record. -/
def State.ga (s : State) (g : Nat) : GroupAux := nth s.est.aux g {}

/-- Change what the EA keeps for group g. -/
def State.modGa (s : State) (g : Nat) (f : GroupAux → GroupAux) : State :=
  { s with est := { s.est with aux := s.est.aux.modify g f } }

/-- Change what is measured of node n. -/
def State.modMn (s : State) (n : Nat) (f : MNode → MNode) : State :=
  { s with mea := { s.mea with nodes := s.mea.nodes.modify n f } }

/-- Change the link state of node n. -/
def State.modNl (s : State) (n : Nat) (f : NLink → NLink) : State :=
  { s with fnl := { s.fnl with links := s.fnl.links.modify n f } }

/-- Change unit u. -/
def State.modUnit (s : State) (u : Nat) (f : RUnit → RUnit) : State :=
  { s with fnl := { s.fnl with units := s.fnl.units.modify u f } }

/-- Unit u. -/
def State.unit (s : State) (u : Nat) : RUnit := nth s.fnl.units u {}

/-- R16: unit u is powered. -/
def State.unitUp (s : State) (u : Nat) : Bool := s.up (7 + u)

/-- R203: group g is eligible for the plan. -/
def State.eligible (s : State) (g : Nat) : Bool :=
  let r := s.gr g
  let m := s.mn (g / 8)
  r.anchored && !m.stale && !m.lost && !bitOf m.bstFail (g % 8) && !bitOf m.bstStuck (g % 8) && !r.suspect &&
  !r.openWire && decide (r.t ≤ s.par P.estBalTmax) && decide (s.parN P.estBalVmin ≤ r.vS) && decide (r.coneE < 2)

/-- R202: the charge by which a group is compared, C: headroom in mode 0, held charge in mode 1. -/
def State.balCharge (s : State) (g : Nat) : Rat :=
  let r := s.gr g
  if s.par P.estBalMode = 0 then (((r.cap : Int) * 10000 - r.qc : Int) : Rat) / 1000000 else (r.qc : Rat) / 1000000

/-- The greatest of a list of rationals; `d` where it is empty. -/
def maxRat (d : Rat) : List Rat → Rat
  | [] => d
  | x :: l => l.foldl (fun a b => if a < b then b else a) x

/-- The least of a list of rationals; `d` where it is empty. -/
def minRat (d : Rat) : List Rat → Rat
  | [] => d
  | x :: l => l.foldl (fun a b => if b < a then b else a) x

/-- R202: the reference of the plan: H_max or R_min over the eligible groups. -/
def State.balRef (s : State) : Rat :=
  let l := ((List.range 384).filter s.eligible).map s.balCharge
  if s.par P.estBalMode = 0 then maxRat 0 l else minRat 0 l

/-- R202: the excess e_g of a group against the reference. -/
def State.balExcess (s : State) (ref : Rat) (g : Nat) : Rat :=
  if s.par P.estBalMode = 0 then ref - s.balCharge g else s.balCharge g - ref

/-- R202: group g qualifies: its bit is set beyond EST_BAL_ON and kept down to EST_BAL_OFF, while it is eligible. -/
def State.balWants (s : State) (ref : Rat) (g : Nat) : Bool :=
  let e := s.balExcess ref g
  let had := bitOf (nth s.est.plan (g / 8) 0) (g % 8)
  s.eligible g && (decide ((s.parN P.estBalOn : Rat) < e) || (had && !decide (e < (s.parN P.estBalOff : Rat))))

/-- R202: of two groups of a node the first is taken before the second; equal excesses are ordered freely (log
entry 16). -/
def State.balBefore (s : State) (ref : Rat) (a b : Nat) : Bool :=
  let x := s.balExcess ref a
  let y := s.balExcess ref b
  decide (y < x) || (x == y && (decide (Config.tieKey 1 a < Config.tieKey 1 b) ||
    (Config.tieKey 1 a == Config.tieKey 1 b && decide (a < b))))

/-- R202: the plan's mask of node n. -/
def State.balMask (s : State) (ref : Rat) (n : Nat) : Nat :=
  let want := ((List.range 8).map (8 * n + ·)).filter (s.balWants ref)
  let taken := fun g => want.contains g && decide ((want.filter (fun h => s.balBefore ref h g)).length < s.parN P.estBalMaxNode)
  maskOf ((List.range 8).map (fun i => taken (8 * n + i)))

/-- R202: BALANCING_PLAN, computed by the MGP of an owner from the CSM. -/
def execBalancingPlan (s : State) : Out :=
  if s.sys.mgpAway || s.sys.st == .pilot || !s.up 6 then .next s
  else
    let ref := s.balRef
    .next { s with est := { s.est with plan := (List.range 48).map (s.balMask ref), planDue := false } }

/-- R440: the host mask of node n with the bits of ineligible groups cleared. -/
def State.hostMaskOf (s : State) (n : Nat) : Nat :=
  maskOf ((List.range 8).map (fun i => bitOf (nth s.est.hostMask n 0) i && s.eligible (8 * n + i)))

/-- R81, R202, R440: the bleed mask that the next beacon carries for node n. -/
def State.bleedMask (s : State) (n : Nat) : Nat :=
  if s.sys.mgpAway || s.est.planDue then 0
  else match s.est.balMode with
    | 0 => nth s.est.plan n 0
    | 1 => 0
    | _ => s.hostMaskOf n

end Sys2Proof.Machine
end

