-- ==== Sys2Proof/Machine/Crypto.lean ====
section
/-! DEFINITION. The three public algorithms that the spec names: AES-128 with the CCM* mode of IEEE 802.15.4 (R118, R123, R124),
SHA-256 (R104, R123, R353, R459) and the frame check of IEEE 802.15.4 (R111). The spec names them and gives no text of them.
(Log entry 18, PRESUMED.) -/

namespace Sys2Proof.Machine

/-! AES-128. -/

/-- The substitution table of AES, entry 0 in the lowest byte. -/
def aesTable : Nat :=
  0x16bb54b00f2d99416842e6bf0d89a18cdf2855cee9871e9b948ed9691198f8e19e1dc186b95735610ef6034866b53e708a8bbd4b1f74dde8c6b4a61c2e2578ba08ae7a65eaf4566ca94ed58d6d37c8e779e4959162acd3c25c2406490a3a32e0db0b5ede14b8ee4688902a22dc4f816073195d643d7ea7c41744975fec130ccdd2f3ff1021dab6bcf5389d928f40a351a89f3c507f02f94585334d43fbaaefd0cf584c4a39becb6a5bb1fc20ed00d153842fe329b3d63b52a05a6e1b1a2c830975b227ebe28012079a059618c323c7041531d871f1e5a534ccf73f362693fdb7c072a49cafa2d4adf04759fa7dc982ca76abd7fe2b670130c56f6bf27b777c63

/-- The inverse substitution table of AES. -/
def aesInvTable : Nat :=
  0x7d0c2155631469e126d677ba7e042b17619953833cbbebc8b0f52aae4d3be0a0ef9cc9939f7ae52d0d4ab519a97f51605fec8027591012b131c7078833a8dd1ff45acd78fec0db9a2079d2c64b3e56fc1bbe18aa0e62b76f89c5291d711af1476edf751ce837f9e28535ade72274ac9673e6b4f0cecff297eadc674f4111913a6b8a130103bdafc1020f3fca8f1e2cd00645b3b80558e4f70ad3bc8c00abd890849d8da75746155edab9edfd5048706c92b6655dcc5ca4d41698688664f6f87225d18b6d49a25b76b224d92866a12e084ec3fa420b954cee3d23c2a632947b54cbe9dec444438e3487ff2f9b8239e37cfbd7f3819ea340bf38a53630d56a0952

/-- Entry x of a table of bytes held in one number. -/
def tableAt (t x : Nat) : Nat := (t >>> (8 * x)) % 256

/-- The product of b and x in the field of AES. -/
def aesDouble (b : Nat) : Nat := if b < 128 then 2 * b else (2 * b) % 256 ^^^ 0x1b

/-- The product of b and the constant c below 16 in the field of AES. -/
def aesTimes (c b : Nat) : Nat :=
  let b2 := aesDouble b
  let b4 := aesDouble b2
  let b8 := aesDouble b4
  (if bitOf c 0 then b else 0) ^^^ (if bitOf c 1 then b2 else 0) ^^^ (if bitOf c 2 then b4 else 0) ^^^ (if bitOf c 3 then b8 else 0)

/-- The bytes of two lists added in the field of AES. -/
def xorL (a b : List Nat) : List Nat := List.zipWith (· ^^^ ·) a b

/-- One column times the circulant matrix whose first row is m0 m1 m2 m3. -/
def aesColumn (m0 m1 m2 m3 a b c d : Nat) : List Nat :=
  let dot := fun w x y z => aesTimes w a ^^^ aesTimes x b ^^^ aesTimes y c ^^^ aesTimes z d
  [dot m0 m1 m2 m3, dot m3 m0 m1 m2, dot m2 m3 m0 m1, dot m1 m2 m3 m0]

/-- The column step of AES on a block. -/
def aesMix (m0 m1 m2 m3 : Nat) : List Nat → List Nat
  | a :: b :: c :: d :: l => aesColumn m0 m1 m2 m3 a b c d ++ aesMix m0 m1 m2 m3 l
  | _ => []

/-- The block whose byte i is byte f i of l. -/
def pick (l : List Nat) (f : List Nat) : List Nat := f.map (fun i => l.getD i 0)

/-- The row step of AES: byte i comes from this byte. -/
def aesShift : List Nat := [0, 5, 10, 15, 4, 9, 14, 3, 8, 13, 2, 7, 12, 1, 6, 11]

/-- The inverse row step. -/
def aesUnshift : List Nat := [0, 13, 10, 7, 4, 1, 14, 11, 8, 5, 2, 15, 12, 9, 6, 3]

/-- The next round key. -/
def aesNextKey (k : List Nat) (rcon : Nat) : List Nat :=
  let s := fun i => tableAt aesTable (k.getD i 0)
  let w0 := xorL (k.take 4) [s 13 ^^^ rcon, s 14, s 15, s 12]
  let w1 := xorL ((k.drop 4).take 4) w0
  let w2 := xorL ((k.drop 8).take 4) w1
  w0 ++ w1 ++ w2 ++ xorL ((k.drop 12).take 4) w2

/-- The round keys after k, for the round constants given. -/
def aesKeys (k : List Nat) : List Nat → List (List Nat)
  | [] => []
  | r :: l => let k1 := aesNextKey k r; k1 :: aesKeys k1 l

/-- The ten round constants. -/
def aesRcon : List Nat := [1, 2, 4, 8, 16, 32, 64, 128, 0x1b, 0x36]

/-- The rounds of the cipher, the last without its column step. -/
def aesRounds (b : List Nat) : List (List Nat) → List Nat
  | [] => b
  | [k] => xorL (pick (b.map (tableAt aesTable)) aesShift) k
  | k :: l => aesRounds (xorL (aesMix 2 3 1 1 (pick (b.map (tableAt aesTable)) aesShift)) k) l

/-- The rounds of the inverse cipher, the first round key last. -/
def aesUnrounds (b : List Nat) : List (List Nat) → List Nat
  | [] => b
  | [k] => xorL (pick (b.map (tableAt aesInvTable)) aesUnshift) k
  | k :: l => aesUnrounds (aesMix 14 11 13 9 (xorL (pick (b.map (tableAt aesInvTable)) aesUnshift) k)) l

/-- A number of 128 bits as its 16 bytes, byte 0 lowest. -/
def keyBytes (k : Nat) : List Nat := (leBytes 16 k).map (·.toNat)

/-- AES-128 of a block of 16 bytes under key k. -/
def aes128 (k : Nat) (b : List Byte) : List Byte :=
  let kb := keyBytes k
  toBytes (aesRounds (xorL (b.map (·.toNat)) kb) (aesKeys kb aesRcon))

/-- The block that AES-128 under key k takes to b. -/
def aes128Inv (k : Nat) (b : List Byte) : List Byte :=
  let kb := keyBytes k
  match (kb :: aesKeys kb aesRcon).reverse with
  | [] => b
  | last :: l => toBytes (aesUnrounds (xorL (b.map (·.toNat)) last) l)

/-! CCM* with a 2-byte length field and an 8-byte MIC (R124). -/

/-- The bytes of w, n of them, the highest first. -/
def beBytes (n w : Nat) : List Byte := (leBytes n w).reverse

/-- Bytes filled with zeros to whole blocks. -/
def padBlock (l : List Byte) : List Byte := l ++ List.replicate ((16 - l.length % 16) % 16) 0

/-- Bytes added bit by bit. -/
def xorB (a b : List Byte) : List Byte := List.zipWith (· ^^^ ·) a b

/-- n blocks of l chained from x under key k. -/
def cbcMac (k : Nat) : Nat → List Byte → List Byte → List Byte
  | 0, x, _ => x
  | n + 1, x, l => cbcMac k n (aes128 k (xorB x (l.take 16))) (l.drop 16)

/-- The authentication tag of CCM before its encryption: a is authenticated only, m is the message. -/
def ccmTag (k : Nat) (nonce a m : List Byte) : List Byte :=
  let l := (0x59 :: nonce) ++ beBytes 2 m.length ++ padBlock (beBytes 2 a.length ++ a) ++ padBlock m
  (cbcMac k (l.length / 16) (List.replicate 16 0) l).take 8

/-- Block i of the key stream. -/
def ccmStream (k : Nat) (nonce : List Byte) (i : Nat) : List Byte := aes128 k ((0x01 :: nonce) ++ beBytes 2 i)

/-- The message m enciphered, or deciphered, with the key stream from block i on; n blocks. -/
def ccmCrypt (k : Nat) (nonce : List Byte) : Nat → Nat → List Byte → List Byte
  | 0, _, _ => []
  | n + 1, i, m => xorB (m.take 16) (ccmStream k nonce i) ++ ccmCrypt k nonce n (i + 1) (m.drop 16)

/-- The number of blocks of n bytes. -/
def blocksOf (n : Nat) : Nat := (n + 15) / 16

/-- R124: the message enciphered, and the MIC. -/
def ccmSeal (k : Nat) (nonce a m : List Byte) : List Byte × List Byte :=
  (ccmCrypt k nonce (blocksOf m.length) 1 m, xorB (ccmTag k nonce a m) (ccmStream k nonce 0))

/-- R124: the message deciphered, where the MIC checks. -/
def ccmOpen (k : Nat) (nonce a c mic : List Byte) : Option (List Byte) :=
  let m := ccmCrypt k nonce (blocksOf c.length) 1 c
  if xorB (ccmTag k nonce a m) (ccmStream k nonce 0) = mic then some m else none

/-! SHA-256. -/

/-- The 64 constants of SHA-256, the first in the lowest 32 bits. -/
def shaTable : Nat :=
  0xc67178f2bef9a3f7a4506ceb90befffa8cc7020884c8781478a5636f748f82ee682e6ff35b9cca4f4ed8aa4a391c0cb334b0bcb52748774c1e376c0819a4c116106aa070f40e3585d6990624d192e819c76c51a3c24b8b70a81a664ba2bfe8a192722c8581c2c92e766a0abb650a735453380d134d2c6dfc2e1b213827b70a851429296706ca6351d5a79147c6e00bf3bf597fc7b00327c8a831c66d983e515276f988da5cb0a9dc4a7484aa2de92c6f240ca1cc0fc19dc6efbe4786e49b69c1c19bf1749bdc06a780deb1fe72be5d74550c7dc3243185be12835b01d807aa98ab1c5ed5923f82a459f111f13956c25be9b5dba5b5c0fbcf71374491428a2f98

/-- The initial value of SHA-256. -/
def shaInit : List Nat :=
  [0x6a09e667, 0xbb67ae85, 0x3c6ef372, 0xa54ff53a, 0x510e527f, 0x9b05688c, 0x1f83d9ab, 0x5be0cd19]

/-- w rotated right by n bits. -/
def rotR (w n : Nat) : Nat := (w >>> n) ^^^ (w <<< (32 - n)) % 2 ^ 32

/-- The next word of the message schedule, from the last 16, newest first. -/
def shaWord (w : List Nat) : Nat :=
  let a := w.getD 14 0
  let b := w.getD 1 0
  (w.getD 15 0 + (rotR a 7 ^^^ rotR a 18 ^^^ a >>> 3) + w.getD 6 0 + (rotR b 17 ^^^ rotR b 19 ^^^ b >>> 10)) % 2 ^ 32

/-- n more words of the message schedule, newest first. -/
def shaSchedule : Nat → List Nat → List Nat
  | 0, w => w
  | n + 1, w => shaSchedule n (shaWord w :: w)

/-- One round of SHA-256 with schedule word w and constant k. -/
def shaRound (h : List Nat) (wk : Nat × Nat) : List Nat :=
  match h with
  | [a, b, c, d, e, f, g, x] =>
    let t1 := x + (rotR e 6 ^^^ rotR e 11 ^^^ rotR e 25) + ((e &&& f) ^^^ ((0xFFFFFFFF ^^^ e) &&& g)) + wk.2 + wk.1
    let t2 := (rotR a 2 ^^^ rotR a 13 ^^^ rotR a 22) + ((a &&& b) ^^^ (a &&& c) ^^^ (b &&& c))
    [(t1 + t2) % 2 ^ 32, a, b, c, (d + t1) % 2 ^ 32, e, f, g]
  | l => l

/-- A number from bytes, the highest first. -/
def beNat (l : List Byte) : Nat := leNat l.reverse

/-- One block of 64 bytes. -/
def shaBlock (h : List Nat) (b : List Byte) : List Nat :=
  let w := (List.range 16).map (fun i => beNat ((b.drop (4 * i)).take 4))
  let ws := (shaSchedule 48 w.reverse).reverse
  let ks := (List.range 64).map (fun i => (shaTable >>> (32 * i)) % 2 ^ 32)
  List.zipWith (fun x y => (x + y) % 2 ^ 32) h ((ws.zip ks).foldl shaRound h)

/-- n blocks of l. -/
def shaBlocks : Nat → List Nat → List Byte → List Nat
  | 0, h, _ => h
  | n + 1, h, l => shaBlocks n (shaBlock h (l.take 64)) (l.drop 64)

/-- SHA-256, its 32 bytes as a number, byte 0 lowest. -/
def sha256 (l : List Byte) : Nat :=
  let m := l ++ [0x80] ++ List.replicate ((119 - l.length % 64) % 64) 0 ++ beBytes 8 (8 * l.length)
  leNat ((shaBlocks (m.length / 64) shaInit m).flatMap (beBytes 4))

/-- R123: the first four bytes of SHA-256 over a key, byte 0 lowest. -/
def keyTag (key : Nat) : Nat := sha256 (leBytes 16 key) % 2 ^ 32

/-- R353: SHA-256 over a 16-byte salt followed by the password. -/
def pwDigest (salt : Nat) (password : List Byte) : Nat := sha256 (leBytes 16 salt ++ password)

/-! The frame check (R111). -/

/-- R111: the 16-bit CRC of IEEE 802.15.4 over x¹⁶ + x¹² + x⁵ + 1, reflected, initial value 0. -/
def crc16 (bs : List Byte) : Nat := bs.foldl (crcByte 0x8408) 0

end Sys2Proof.Machine
end

