-- ==== Sys2Proof/Machine/Radio.lean ====
section
/-! DEFINITION. Finam frames as octets (R111 to R113, R123, R124): the header, the FCS, the protection of a payload, and the
layout of a beacon. -/

namespace Sys2Proof.Machine

/-! The header (R111). -/

/-- R111: the fields of the 11-byte header. -/
structure Head where
  /-- TYPE -/
  typ : Nat := 0
  /-- VER -/
  ver : Nat := 2
  /-- DIR, 1 = node to module -/
  dir : Bool := false
  /-- UNIT -/
  unit : Nat := 0
  /-- SNID -/
  snid : Nat := 0
  /-- ADDR -/
  addr : Nat := 0
  /-- FC -/
  fc : Nat := 0
  /-- EPOCH, low 8 bits -/
  epoch : Nat := 0
  deriving DecidableEq, Repr

/-- R111: FCTL. -/
def Head.fctl (h : Head) : Nat := h.typ % 16 + 16 * (h.ver % 4) + bitAt 6 h.dir + 128 * (h.unit % 2)

/-- R111: the 11 bytes of the header. -/
def Head.bytes (h : Head) : List Byte :=
  leBytes 1 h.fctl ++ leBytes 4 h.snid ++ leBytes 1 h.addr ++ leBytes 4 h.fc ++ leBytes 1 h.epoch

/-- R111: the header at the front of bs. -/
def Head.ofBytes (bs : List Byte) : Head :=
  let c := leAt bs 0 1
  { typ := c % 16, ver := field c 5 4, dir := bitOf c 6, unit := field c 7 7, snid := leAt bs 1 4, addr := leAt bs 5 1,
    fc := leAt bs 6 4, epoch := leAt bs 10 1 }

/-! The parts of a frame received (R111). -/

/-- R108, R111: the octets are a frame with a valid FCS. -/
def RxFrame.fcs (f : RxFrame) : Bool :=
  let n := f.bytes.length
  decide (21 ≤ n) && decide (n ≤ 127) && leAt f.bytes (n - 2) 2 == crc16 (f.bytes.take (n - 2))

/-- R111: the header of a frame. -/
def RxFrame.head (f : RxFrame) : Head := Head.ofBytes f.bytes

/-- R111: the payload as sent. -/
def RxFrame.body (f : RxFrame) : List Byte := (f.bytes.drop 11).take (f.bytes.length - 21)

/-- R111: the MIC. -/
def RxFrame.mic (f : RxFrame) : List Byte := (f.bytes.drop (f.bytes.length - 10)).take 8

/-! Protection (R112, R123, R124). -/

/-- R112: how many of n payload bytes are clear: all of a BEACON and of a JOIN request, SUB and SERIAL of a JOIN reply. -/
def Head.clear (h : Head) (n : Nat) : Nat := if h.typ = 1 ∨ (h.typ = 5 ∧ h.dir) then n else if h.typ = 5 then min 9 n else 0

/-- R112: the security level. -/
def Head.level (h : Head) : Nat := if h.typ = 1 ∨ (h.typ = 5 ∧ h.dir) then 2 else 6

/-- R124: the nonce, for a frame whose payload begins with the bytes p. -/
def Head.nonce (h : Head) (p : List Byte) : List Byte :=
  (if h.typ = 5 then (p.drop 1).take 4 else leBytes 4 h.snid) ++ leBytes 1 h.addr ++ leBytes 1 h.fctl ++ leBytes 4 h.fc ++
  leBytes 1 h.epoch ++ leBytes 1 h.level ++ leBytes 1 (if h.typ = 5 then 1 else 0)

/-- R111, R124: the octets of a frame with header h and payload p, protected under key k. -/
def sealFrame (k : Nat) (h : Head) (p : List Byte) : List Byte :=
  let c := h.clear p.length
  let x := ccmSeal k (h.nonce p) (h.bytes ++ p.take c) (p.drop c)
  let bs := h.bytes ++ p.take c ++ x.1 ++ x.2
  bs ++ leBytes 2 (crc16 bs)

/-- R124: the payload of a frame, deciphered, where its MIC checks under key k. -/
def RxFrame.openWith (f : RxFrame) (k : Nat) : Option (List Byte) :=
  let h := f.head
  let b := f.body
  let c := h.clear b.length
  (ccmOpen k (h.nonce b) (h.bytes ++ b.take c) (b.drop c) f.mic).map (b.take c ++ ·)

/-- R123: the epoch key of epoch e. -/
def epochKey (kL snid e : Nat) : Nat :=
  leNat (aes128 kL (toBytes [0x46, 0x4E, 0x4B, 0x45] ++ leBytes 4 snid ++ leBytes 4 e ++ leBytes 4 0))

/-- R118: the 16 bytes that carry a key enciphered under a node key. -/
def wrapKey (kN key : Nat) : List Byte := aes128 kN (leBytes 16 key)

/-- R118: the key that 16 bytes carry under a node key. -/
def unwrapKey (kN : Nat) (b : List Byte) : Nat := leNat (aes128Inv kN b)

/-- R125: FC is greater than the last accepted. -/
def fcFresh (last : Option Nat) (fc : Nat) : Bool := match last with | none => true | some l => decide (l < fc)

/-! Beacons (R113). -/

/-- R113: CTRL. -/
def Beacon.ctrl (b : Beacon) : Nat :=
  b.len % 4 + bitAt 2 b.joinOpen + bitAt 3 b.epochNext + bitAt 4 b.newKey + bitAt 5 b.move + bitAt 7 b.bprf

/-- R113: the payload of a beacon. -/
def Beacon.bytes (b : Beacon) : List Byte :=
  leBytes 2 b.frameNo ++ leBytes 1 b.ctrl ++ leBytes 4 b.schedTag ++ leBytes 5 b.txLt ++ leBytes 3 b.startDt ++
  leBytes 3 b.snap ++ leBytes 1 b.rFirst ++ leBytes 1 b.rCount ++ leBytes 3 b.rOff ++ leBytes 3 b.rPitch ++
  leBytes 3 b.bOff ++ leBytes 3 b.bDur ++ leBytes 1 b.owNode ++ leBytes 1 b.owWire ++ leBytes 3 b.owOff ++
  leBytes 1 b.stNode ++ leBytes 1 b.stPos ++ leBytes 3 b.stOff ++ leBytes 1 b.stDur ++ leBytes 1 b.cNode ++
  leBytes 1 b.cKind ++ leBytes 3 b.cOff ++ leBytes 1 b.kCount ++ leBytes 3 b.kOff ++ leBytes 3 b.kPitch ++
  leBytes 1 b.kackAddr ++ leBytes 1 b.kackFc ++ b.bleed.flatMap (leBytes 1)

/-- R113: the beacon in a payload. -/
def Beacon.ofBytes (p : List Byte) : Beacon :=
  let c := leAt p 2 1
  { frameNo := leAt p 0 2, len := c % 4, joinOpen := bitOf c 2, epochNext := bitOf c 3, newKey := bitOf c 4, move := bitOf c 5,
    bprf := bitOf c 7, schedTag := leAt p 3 4, txLt := leAt p 7 5, startDt := leAt p 12 3, snap := leAt p 15 3,
    rFirst := leAt p 18 1, rCount := leAt p 19 1, rOff := leAt p 20 3, rPitch := leAt p 23 3, bOff := leAt p 26 3,
    bDur := leAt p 29 3, owNode := leAt p 32 1, owWire := leAt p 33 1, owOff := leAt p 34 3, stNode := leAt p 37 1,
    stPos := leAt p 38 1, stOff := leAt p 39 3, stDur := leAt p 42 1, cNode := leAt p 43 1, cKind := leAt p 44 1,
    cOff := leAt p 45 3, kCount := leAt p 48 1, kOff := leAt p 49 3, kPitch := leAt p 52 3, kackAddr := leAt p 55 1,
    kackFc := leAt p 56 1, bleed := (List.range (leAt p 19 1)).map (fun i => leAt p (57 + i) 1) }

/-- R113: the beacon's REPORT entry names node n. -/
def Beacon.covers (b : Beacon) (n : Nat) : Bool := b.rFirst != 0xFF && decide (b.rFirst ≤ n) && decide (n < b.rFirst + b.rCount)

/-- R110, R113: a count of the ranging counter in ns: 63.8976 of them. -/
def countsNs (ns : Rat) : Rat := ns * 638976 / 10000

end Sys2Proof.Machine
end

