-- ==== Sys2Proof/Machine/Link.lean ====
section
/-! DEFINITION. The Finam link, module side (R108 to R145): beacons, receive checks, join, contention, key epochs and the
health of the radio units. -/

namespace Sys2Proof.Machine

/-! Epochs (R125 to R127). -/

/-- R123: the key of the epoch in use. Before the first pairing there is no K_L, and the spec gives no key. (Log entry 70, DESIGN CHOICE.)
-/
def Fnl.keyNow (f : Fnl) : Nat := epochKey (f.kL.getD Config.noKey) f.snid f.epoch

/-- R125, R126: the epoch advances: every FC starts afresh, and node frames of the old epoch are accepted for 64 frames. A new link key
takes the place of the old one where the beacons of the frame before carried NEWKEY (R127). -/
def Fnl.advance (f : Fnl) (clock : Nat) : Fnl :=
  let nk := f.newKeyNext
  { f with epoch := inc32 f.epoch, oldLeft := 64, epochDue := f.newKeyDue && !nk, epochNext := false, newKeyNext := false,
           keOld := f.keyNow, epochAt := clock,
           cmdQ := if nk then f.cmdQ.filter (fun q => q.cmd != 6) else f.cmdQ
           kL := if nk then f.kLNew else f.kL, kLNew := if nk then none else f.kLNew,
           changing := f.changing && !nk, keySent := f.keySent && !nk, newKeyDue := f.newKeyDue && !nk,
           units := f.units.map (fun u => { u with fc := 0 }),
           links := f.links.map (fun l => { l with lastFcOld := l.lastFc, lastFc := none }) }

/-- R126, R145: the link advances its epoch; FNL_EPOCH_PERIOD is taken as it was last written. -/
def State.advanceEpoch (s : State) : State :=
  let s1 := s.applyAt (.on .advance)
  { s1 with fnl := s1.fnl.advance s1.sys.clock }

/-- R126: FNL_EPOCH_PERIOD has elapsed since the last advance; the clock counts 1/8192 s. -/
def State.epochOver (s : State) : Bool := decide (s.fnl.epochAt + s.parN P.fnlEpochPeriod * 3600 * 8192 ≤ s.sys.clock)

/-- R126: EPOCH_PERIOD_EXPIRY: an advance falls due once FNL_EPOCH_PERIOD has elapsed. -/
def execEpochPeriodExpiry (s : State) : Out :=
  if s.inPilot || !s.epochOver then .next s else .next { s with fnl := { s.fnl with epochDue := true } }

/-- R127: the next advance carries NEWKEY. -/
def Fnl.endKeyChange (f : Fnl) : Fnl := { f with newKeyDue := true, epochDue := true }

/-- R127: LINK_KEY_CHANGE_TIMEOUT. -/
def execLinkKeyChangeTimeout (s : State) : Out :=
  if s.fnl.changing && s.fnl.keySent && !s.fnl.newKeyDue then .next { s with fnl := s.fnl.endKeyChange } else .next s

/-- R125, R126: a frame sent by unit u takes its FC, the first of an epoch 0; an FC of 0x8000_0000 makes an advance due. (Log entry 71,
DESIGN CHOICE.) -/
def State.takeFc (s : State) (u : Nat) : State :=
  let fc := (s.unit u).fc
  let s1 := s.modUnit u (fun x => { x with fc := fc + 1 })
  { s1 with fnl := { s1.fnl with epochDue := s1.fnl.epochDue || decide (0x80000000 ≤ fc + 1) } }

/-- R111, R112, R124: unit u sends a frame under the epoch key. -/
def State.sendEpoch (s : State) (u typ ver addr : Nat) (p : List Byte) : State :=
  let h : Head := { typ := typ, ver := ver, unit := u, snid := s.fnl.snid, addr := addr, fc := (s.unit u).fc, epoch := s.fnl.epoch % 256 }
  (s.modUnit u (fun x => { x with tx := sealFrame s.fnl.keyNow h p })).takeFc u

/-- R112, R134: the link version of frames to node n; 2 where none is known. -/
def NLink.sendVer (l : NLink) : Nat := max 2 l.ver

/-! What a bank gives the units. -/

/-- R130: the unit whose REPORT entry in bank m covers node n. -/
def bankUnit (m : Mem) (n : Nat) : Option Nat :=
  if (bankNodes m 0).contains n then some 0 else if (bankNodes m 1).contains n then some 1 else none

/-- The first entry of bank m that p accepts. -/
def bankFind (m : Mem) (p : Nat → Bool) : Option Nat := ((bankTable m).find? (fun x => p x.2)).map (·.2)

/-- R144: 1 = HPRF, 2 = BPRF, from the entries of the unit. -/
def bankMode (m : Mem) (u : Nat) : Nat :=
  match bankFind m (fun w => (entClass w == 1 || entClass w == 2 || entClass w == 3) && entUnit w == u) with
  | some w => if entPhy w then 2 else 1
  | none => match bankFind m (fun w => entClass w == 1) with
    | some w => if entPhy w then 2 else 1
    | none => 1

/-- R130, R138, R144: the links and units follow the bank that becomes active.
A unit that starts or stops serving nodes begins a new history. (Log entry 105, DESIGN CHOICE.) -/
def State.applyBank (s : State) : State :=
  let m := s.fsq.bank s.fsq.active
  let upd := fun (k : Nat) (u : RUnit) => { u with
    served := (bankNodes m k).length
    mode := if s.unitUp k then bankMode m k else 0
    hist := if (u.served == 0) == (bankNodes m k).isEmpty then u.hist else [] }
  { s with fnl := { s.fnl with
      units := [upd 0 (s.unit 0), upd 1 (s.unit 1)]
      links := (indexed s.fnl.links).map (fun nl => { nl.2 with unit := (bankUnit m nl.1).getD nl.2.unit }) } }

/-! The beacon freeze (R77, R79, R98, R113). -/

/-- R79: the bank that frame k+1 runs, as the freeze decides. -/
def Fsq.nextRun (f : Fsq) : Nat := if f.swapCode = 3 then f.shadow else f.active

/-- R413, R77: ns within the PTP second at time-base value t. -/
def State.nsInSec (s : State) (t : Nat) : Nat := (diffT t s.lmp.secMark % 1000000000).toNat

/-- R77: time lock, with a known second. -/
def State.timeLock (s : State) : Bool := s.lmp.st == .locked && s.lmp.secValid

/-- R77: how far time t lies behind the last grid instant of frame length len. -/
def State.offGrid (s : State) (t len : Nat) : Nat :=
  (((s.nsInSec t : Int) - s.fsq.align) % (len : Int)).toNat

/-- R76: the length of frame k+1, ns, as the freeze decides its bank. -/
def State.nextNs (s : State) : Nat := lenNs (bankLen (s.fsq.bank s.fsq.nextRun) s.fsq.lenCode)

/-- R77: a realignment is to be decided: time is locked, in STANDBY or ISOLATED, and frames are out of the grid or would be. -/
def State.realigns (s : State) : Bool :=
  s.timeLock && (s.sys.st == .standby || s.sys.st == .isolated) &&
    (s.fsq.unaligned || s.offGrid (addT s.fsq.frameStart s.frameNs) s.nextNs != 0)

/-- R77, R103: a realignment takes FSQ_ALIGN as it was last written. -/
def State.takeAlign (s : State) : State :=
  if s.realigns then
    let s1 := s.applyAt (.on .realign)
    { s1 with fsq := { s1.fsq with align := s1.par P.fsqAlign } }
  else s

/-- R77: the stretch of this frame that puts the next frame start on the grid; no frame is longer than 2T, so one that would need more is
left, and the next is judged. -/
def State.stretchNow (s : State) : Nat :=
  let off := s.offGrid (addT s.fsq.frameStart s.frameNs) s.nextNs
  if s.realigns && off ≠ 0 && decide (s.nextNs - off ≤ s.frameNs) then s.nextNs - off else 0

/-- R131: the dynamic slot entry of unit u in bank m. -/
def dynSlot (m : Mem) (u : Nat) : Option Nat :=
  bankFind m (fun w => entClass w == 2 && entUnit w == u && (entKind w == 1 || entKind w == 2))

/-- R86, R131: a dynamic slot of word w may carry node n. -/
def slotServes (w n : Nat) : Bool := entNode w == 0x3F || entNode w == n

/-- R131: what the MGP's queue puts into the dynamic slot of unit u: a join reply, then a command, then firmware. -/
def State.pickDyn (s : State) (m : Mem) (u : Nat) : Option (Nat × Nat) :=
  match dynSlot m u with
  | none => none
  | some w =>
    let mine := fun n => (bankNodes m u).contains n && slotServes w n
    if s.sys.mgpAway || s.inPilot then none
    else match s.fnl.joinQ.find? (fun r => r.unit == u && slotServes w r.node) with
      | some r => some (0, r.node)
      | none => match s.fnl.cmdQ.find? (fun c => mine c.node && !c.inFlight) with
        | some c => some (1, c.node)
        | none => match nth s.fnl.fwTo u none with
          | some n => if entKind w = 2 && mine n then some (2, n) else none
          | none => none

/-- R113: the fields of a beacon that come from bank m for unit u. -/
def beaconTiming (m : Mem) (u : Nat) (cur : List (Nat × Nat)) (b : Beacon) : Beacon :=
  let rep := bankReport m u
  let bal := bankFind m (fun w => entClass w == 7 && entUnit w == u)
  let find := fun (c : Nat) => (testEntries m).find? (fun x => entClass x.2 == c && entUnit x.2 == u)
  let place := fun (x : Nat × Nat) => testAt m x.2 (((cur.find? (fun c => c.1 == x.1)).map (·.2)).getD 0)
  let ow := find 8
  let st := find 9
  let con := bankFind m (fun w => entClass w == 3 && entUnit w == u)
  let bea := ((bankTable m).find? (fun x => entClass x.2 == 1 && entUnit x.2 == u))
  { b with
    snap := match bankFind m (fun w => entClass w == 4) with | some w => entOffset w | none => 0
    bprf := match bea with | some x => entPhy x.2 | none => false
    schedTag := match bea with | some x => if entCont x.2 then field (bankEntry m (x.1 + 1)) 63 32 else 0 | none => 0
    rFirst := match rep with | some w => entNode w | none => 0xFF
    rCount := match rep with | some w => entCount w | none => 0
    rOff := match rep with | some w => entOffset w | none => 0
    rPitch := match rep with | some w => entPitch w | none => 0
    bOff := match bal with | some w => entOffset w | none => 0
    bDur := match bal with | some w => field w 87 64 | none => 0
    owNode := match ow with | some x => (place x).elim 0xFF (·.1) | none => 0xFF
    owWire := match ow with | some x => (place x).elim 0 (·.2) | none => 0
    owOff := match ow with | some x => entOffset x.2 | none => 0
    stNode := match st with | some x => (place x).elim 0xFF (·.1) | none => 0xFF
    stPos := match st with | some x => (place x).elim 0 (·.2) | none => 0
    stOff := match st with | some x => entOffset x.2 | none => 0
    stDur := match st with | some x => field x.2 79 72 | none => 0
    cOff := match dynSlot m u with | some w => entOffset w | none => 0
    kCount := match con with | some w => entCount w | none => 0
    kOff := match con with | some w => entOffset w | none => 0
    kPitch := match con with | some w => entPitch w | none => 0 }

/-- R140: some node that unit u serves now is not served by it in bank m. -/
def State.moves (s : State) (m : Mem) (u : Nat) : Bool :=
  (bankNodes (s.fsq.bank s.fsq.active) u).any (fun n => !(bankNodes m u).contains n)

/-- R113: the content of unit u's beacon, but for TX_LT and START_DT, which the firing sets. -/
def State.beaconOf (s : State) (u : Nat) : Beacon :=
  let m := s.fsq.bank s.fsq.nextRun
  let x := s.unit u
  let dyn := s.pickDyn m u
  let b : Beacon := {
    frameNo := s.fsq.frameCnt % 65536
    len := bankLen m s.fsq.lenCode
    joinOpen := s.par P.fnlJoinOpen == 1
    epochNext := s.fnl.epochDue
    newKey := s.fnl.epochDue && s.fnl.newKeyDue
    move := s.fsq.swapCode == 3 && s.moves m u
    cNode := match dyn with | some (0, _) => 0xFE | some (_, n) => n | none => 0xFF
    cKind := match dyn with | some (2, _) => 2 | some _ => 1 | none => 0
    kackAddr := match x.kack with | some a => a.1 | none => 0xFF
    kackFc := match x.kack with | some a => a.2 % 256 | none => 0
    bleed := (bankNodes m u).map s.bleedMask }
  beaconTiming m u s.fsq.cursors b

/-- R98: the freeze itself: the swap is committed, the stretch and the cursors are decided, and the beacons assembled. -/
def State.freeze (s : State) : State :=
  let f := s.fsq
  let f1 := { f with swapCode := if f.swapCode = 2 then 3 else f.swapCode, frozen := true }
  let s1 := (({ s with fsq := f1 } : State).applyAt (.on .freeze)).takeAlign
  let m := f1.bank f1.nextRun
  let s2 := { s1 with fsq := { s1.fsq with
    stretch := s1.stretchNow, cursors := cursorsNext m (if f1.swapCode = 3 then [] else f1.cursors) } }
  if s2.inPilot then s2
  else
    let beacons := [s2.beaconOf 0, s2.beaconOf 1]
    let s3 := { s2 with fsq := { s2.fsq with beacons := beacons }
                        fnl := { s2.fnl with epochNext := s2.fnl.epochDue, newKeyNext := s2.fnl.epochDue && s2.fnl.newKeyDue } }
    (s3.modUnit 0 (fun x => { x with dyn := s2.pickDyn m 0, kack := none })).modUnit 1
      (fun x => { x with dyn := s2.pickDyn m 1, kack := none })

/-- R98: BEACON_FREEZE: once in each frame whose bank has a BEACON entry. -/
def execBeaconFreeze (s : State) : Out :=
  if s.fsq.running && !s.fsq.frozen &&
      (bankFind (s.fsq.bank s.fsq.active) (fun w => entClass w == 1)).isSome then .next s.freeze
  else .next s

/-- R113, R128: unit u sends its frozen beacon: TX_LT, START_DT and the masks sent. -/
def State.sendBeacon (s : State) (u txLt startDt : Nat) : State :=
  let b0 := nth s.fsq.beacons u {}
  -- R81: every beacon sent while the MGP is away carries all-zero masks, one frozen before included
  let b := { b0 with txLt := txLt % 2 ^ 40, startDt := startDt, bleed := if s.sys.mgpAway then b0.bleed.map (fun _ => 0) else b0.bleed }
  let s1 := (s.modUnit u (fun x => { x with sent := (b :: x.sent).take 16, txLt := (txLt % 2 ^ 40 :: x.txLt).take 16 })).sendEpoch
    u 1 2 0x3F b.bytes
  { s1 with
    fsq := { s1.fsq with beacons := s1.fsq.beacons.set u b }
    fnl := { s1.fnl with links := (indexed s1.fnl.links).map (fun nl =>
      if b.rFirst ≤ nl.1 ∧ nl.1 < b.rFirst + b.rCount then
        { nl.2 with bleed := nth b.bleed (nl.1 - b.rFirst) 0 } else nl.2) } }

/-- R128: START_DT: from the RMARKER at time-base value rm to the start of frame k+1. -/
def Fsq.startDt (f : Fsq) (len rm : Nat) : Nat := (diffT (addT f.frameStart (len + f.stretch)) rm).toNat

/-- R113, R139: BEACON: the entry fires with its RMARKER at link time txLt and time-base value rm; a unit that serves no node sends
nothing. -/
def execBeacon (m : EntryIn) (txLt : Nat) (rm : BitVec 32) (s : State) : Out :=
  s.onEntry 0x01 m (fun t _ w =>
    if !entUnitOk w then .fault (.hostError .schedule)
    else if t.radioSilent || !t.unitUp (entUnit w) || (t.unit (entUnit w)).served == 0 || !t.fsq.frozen then .next t
    else .next (t.sendBeacon (entUnit w) txLt (t.fsq.startDt t.frameNs rm.toNat)))

/-! Slots (R86, R131). -/

/-- R118, R127: the parameters of a command as they are sent; SET_LINK_KEY carries the new key under the node key, and the epoch that
follows the present one. -/
def State.cmdParams (s : State) (c : NodeCmd) : List Byte :=
  if c.cmd = 6 then wrapKey (nth s.fnl.pair c.node {}).kN (s.fnl.kLNew.getD 0) ++ leBytes 4 (inc32 s.fnl.epoch) else toBytes c.params

/-- R118, R119: the queued command for node n is sent by unit u: it takes its CSEQ, one above the last, on the first send, and counts the
send. (Log entry 72, DESIGN CHOICE.) -/
def State.sendCmd (s : State) (u n : Nat) : State :=
  match firstAt (fun c => c.node == n && !c.inFlight) s.fnl.cmdQ with
  | none => s
  | some i =>
    let c := nth s.fnl.cmdQ i { node := 0, cmd := 0 }
    let q := if c.tries = 0 then ((s.nl n).cseq + 1) % 256 else c.cseq
    let s1 := (s.modNl n (fun l => { l with cseq := q })).sendEpoch u 3 (s.nl n).sendVer n (leBytes 1 c.cmd ++ leBytes 1 q ++ s.cmdParams c)
    { s1 with fnl := { s1.fnl with
        cmdQ := s1.fnl.cmdQ.set i { c with tries := c.tries + 1, cseq := q, inFlight := true }
        keySent := s1.fnl.keySent || c.cmd == 6 } }

/-- R120: bytes of a firmware block to node n. -/
def State.fwBlock (s : State) (n : Nat) : Nat := if (s.nl n).ver = 3 then 96 else 64

/-- R120: the FIRMWARE payload for node n: bank, offset and the block of the image that is rolled out. -/
def State.fwPayload (s : State) (u n : Nat) : List Byte :=
  let off := nth s.fnl.fwOff u 0
  leBytes 1 (1 - (s.nl n).bank) ++ leBytes 4 off ++ (s.upd.rollPart.data.drop off).take (s.fwBlock n)

/-- R121: the payload of a join reply. -/
def State.replyPayload (s : State) (r : JoinReply) : List Byte :=
  match r.refuse with
  | some why => leBytes 1 3 ++ leBytes 8 r.serial ++ leBytes 1 why
  | none => leBytes 1 2 ++ leBytes 8 r.serial ++ leBytes 1 r.node ++ leBytes 1 (s.nl r.node).unit ++ leBytes 1 r.ver ++
      leBytes 4 s.fnl.snid ++ leBytes 4 s.fnl.epoch ++ leBytes 16 (s.fnl.kL.getD 0) ++ leBytes 2 (s.mir P.meaCmpOv).toNat ++
      leBytes 2 (s.mir P.meaCmpUv).toNat ++ leBytes 2 r.balTo ++ leBytes 1 r.tof ++ s.fnl.codes.flatMap (leBytes 1)

/-- R125, R131: unit u sends a join reply under the node key, with the JOIN counter of its row. (Log entry 71, DESIGN CHOICE.) -/
def State.sendReply (s : State) (u : Nat) (r0 : JoinReply) : State :=
  let r := { r0 with balTo := s.parN P.fnlBalTimeout, tof := (s.mn r0.node).tofSent }
  let row := nth s.fnl.pair r.node {}
  let fc := row.joinCtr + 1
  let h : Head := { typ := 5, ver := 2, unit := u, snid := s.fnl.snid, addr := 0x3E, fc := fc, epoch := 0 }
  let p := s.replyPayload r
  let s1 := s.modUnit u (fun x => { x with tx := sealFrame row.kN h p, waitAck := some (0, r.node, fc), replied := some r, dynNow := none })
  let s2 := { s1 with fnl := { s1.fnl with joinQ := s1.fnl.joinQ.filter (fun x => x.node != r.node)
                                           pair := s1.fnl.pair.modify r.node (fun x => { x with joinCtr := fc }) } }
  if r.refuse.isSome then s2.modNl r.node (fun l => { l with st := if l.st = 1 then 0 else l.st }) else s2

/-- R131: the unit sends what its dynamic slot carries. -/
def State.sendDyn (s : State) (u : Nat) : State :=
  match (s.unit u).dynNow with
  | none => s
  | some (0, n) =>
    match s.fnl.joinQ.find? (fun r => r.node == n) with
    | some r => s.sendReply u r
    | none => s.modUnit u (fun x => { x with dynNow := none })
  | some (k, n) =>
    let s1 := s.modUnit u (fun x => { x with waitAck := some (k, n, x.fc), dynNow := none })
    if k = 1 then s1.sendCmd u n else s1.sendEpoch u 7 (s1.nl n).sendVer n (s1.fwPayload u n)

/-- R86: NODE_SLOT: report windows open, or the dynamic slot's frame is sent. -/
def execNodeSlot (m : EntryIn) (s : State) : Out :=
  s.onEntry 0x02 m (fun t _ w =>
    let u := entUnit w
    if !entUnitOk w || entKind w == 3 || (48 ≤ entNode w && (entNode w != 0x3F || entKind w == 0)) || entCount w == 0 ||
        48 < entCount w then .fault (.hostError .schedule)
    else if !t.unitUp u then .next t
    else if entKind w = 0 then
      .next (t.modUnit u (fun x => { x with expect := (List.range (entCount w)).map (entNode w + ·),
                                            winNow := x.winNow + entCount w }))
    else if t.radioSilent || (t.unit u).served == 0 then .next t
    else .next (t.sendDyn u))

/-- R86: CONTENTION_SLOT: contention windows open. -/
def execContentionSlot (m : EntryIn) (s : State) : Out :=
  s.onEntry 0x03 m (fun t _ w =>
    if !entUnitOk w || entCount w == 0 || 48 < entCount w then .fault (.hostError .schedule)
    else if !t.unitUp (entUnit w) then .next t
    else .next (t.modUnit (entUnit w) (fun x => { x with contOpen := true })))

/-! The receive checks (R137). -/

/-- The counter a failing check advances. -/
inductive RxFail
  | energy | foreign | format | mic | replay
  deriving DecidableEq, Repr

/-- R137: count a failing check at unit u, and a failing MIC at the claimed node. -/
def State.rxCount (s : State) (u n : Nat) (k : RxFail) : State :=
  let s1 := s.modUnit u (fun x => match k with
    | .energy => { x with energy := incSat 16 x.energy, energyNow := x.energyNow + 1 }
    | .foreign => { x with foreignCnt := incSat 16 x.foreignCnt }
    | .format => { x with format := incSat 16 x.format }
    | .mic => { x with micfail := incSat 16 x.micfail }
    | .replay => { x with replay := incSat 16 x.replay })
  if k = .mic ∧ n < 48 then s1.modNl n (fun l => { l with micfail := incSat 16 l.micfail }) else s1

/-- R126: the low 8 bits of EPOCH name the epoch in use. -/
def Fnl.epochNow (f : Fnl) (e : Nat) : Bool := e == f.epoch % 256

/-- R126: they name the epoch before, within 64 frames of the advance. -/
def Fnl.epochOld (f : Fnl) (e : Nat) : Bool := 0 < f.oldLeft && e == (f.epoch + 2 ^ 32 - 1) % 256

/-- R112, R126: the key under which a node frame with EPOCH e is checked. -/
def Fnl.keyFor (f : Fnl) (e : Nat) : Option Nat :=
  if f.epochNow e then some f.keyNow else if f.epochOld e then some f.keOld else none

/-- R137: checks 1 and 2. -/
def State.rxOwn (s : State) (f : RxFrame) : Option RxFail :=
  if !f.fcs then some .energy
  else if f.head.snid ≠ s.fnl.snid ∧ f.head.snid ≠ 0xFFFFFFFF then some .foreign
  else none

/-- R137: the checks of a node frame under the epoch key, in their order: the first that fails, or the payload; `form` is check 3. -/
def State.rxCheck (s : State) (f : RxFrame) (form : Bool) : Except RxFail (List Byte) :=
  let h := f.head
  match s.rxOwn f with
  | some k => .error k
  | none =>
    if !form then .error .format
    else match (s.fnl.keyFor h.epoch).bind f.openWith with
    | none => .error .mic
    | some p =>
      if fcFresh (if s.fnl.epochNow h.epoch then (s.nl h.addr).lastFc else (s.nl h.addr).lastFcOld) h.fc then .ok p else .error .replay

/-- R125, R126: the frame is accepted: its FC is kept. -/
def State.rxAccept (s : State) (f : RxFrame) : State :=
  let h := f.head
  let now := s.fnl.epochNow h.epoch
  let s1 := s.modNl h.addr (fun l => if now then { l with lastFc := some h.fc } else { l with lastFcOld := some h.fc })
  { s1 with fnl := { s1.fnl with epochDue := s1.fnl.epochDue || (now && decide (0x80000000 ≤ h.fc)) } }

/-- R112: the frame carries the link version of its node: the one agreed, or 2 or 3 where none is. -/
def State.verOk (s : State) (h : Head) : Bool :=
  let v := (s.nl h.addr).ver
  if v = 0 then h.ver == 2 || h.ver == 3 else h.ver == v

/-- R137: the part of check 3 that every node frame under the epoch key shares: TYPE, DIR, UNIT, VER, ADDR and length. (Log entry 73,
DEDUCED.) -/
def State.formOk (s : State) (u typ len : Nat) (f : RxFrame) : Bool :=
  let h := f.head
  h.typ == typ && h.dir && h.unit == u && s.verOk h && decide (h.addr < 48) && f.body.length == len

/-! Contention (R115, R122, R131, R132). -/

/-- R115: the first contention frame of the frame with a valid MIC is acknowledged. -/
def State.kackSet (s : State) (u addr fc : Nat) : State :=
  s.modUnit u (fun x => { x with kack := match x.kack with | none => some (addr, fc) | some k => some k })

/-- R122: CONTENTION_RX. -/
def execContentionRx (u : Fin 2) (f : RxFrame) (s : State) : Out :=
  match s.rxCheck f (s.formOk u.val 6 9 f && (s.unit u.val).contOpen) with
  | .error k => .next (s.rxCount u.val f.head.addr k)
  | .ok p =>
    let s1 := s.rxAccept f
    let ev := leAt p 0 1
    if s1.inPilot then .next s1
    else .next ((s1.kackSet u.val f.head.addr f.head.fc).logPost 0 0x0304 (if ev = 2 then 2 else 1)
      ([f.head.addr, ev] ++ ((p.drop 1).take 4).map (fun b : Byte => b.toNat)))

/-- R130: the pairing row that holds a serial. -/
def Fnl.rowOf (f : Fnl) (serial : Nat) : Option Nat :=
  if serial = 0 then none else firstAt (fun r => r.serial == serial) f.pair

/-- R132: an unknown serial, or a MIC that fails under its row's key, is counted, and logged at most once in 10 min. (Log entry 51,
DEDUCED.) -/
def State.joinUnknown (s : State) (u serial : Nat) : State :=
  let s1 := s.modUnit u (fun x => { x with joinUnk := incSat 16 x.joinUnk })
  let recent := s1.fnl.unkLogged.filter (fun x => s1.sys.clock - x.2 < 4915200)
  if recent.any (fun x => x.1 == serial) || s1.inPilot then { s1 with fnl := { s1.fnl with unkLogged := recent } }
  else ({ s1 with fnl := { s1.fnl with unkLogged := recent ++ [(serial, s1.sys.clock)] } }).logPost 0 0x0303 1
    ((leBytes 6 serial).map (fun b : Byte => b.toNat))

/-- R134, R135: the reply to a request for versions lo to hi and hardware revision hw: REASON, the version tested first, and LV. (Log entry
74, DESIGN CHOICE.) -/
def State.joinAnswer (s : State) (lo hi hw : Nat) : Option Nat × Nat :=
  let v := min hi (s.parN P.fnlLinkVerMax)
  if v < lo ∨ v < 2 then (some 1, 0)
  else if hw < s.sys.dn8HwMin ∨ s.sys.dn8HwMax < hw then (some 2, v)
  else (none, v)

/-- R131: the reply for a pairing row is queued. -/
def State.queueReply (s : State) (r : JoinReply) : State :=
  let s1 := { s with fnl := { s.fnl with joinQ := (s.fnl.joinQ.filter (fun x : JoinReply => x.node != r.node)) ++ [r] } }
  s1.modNl r.node (fun l => { l with st := if r.refuse.isNone then 1 else l.st })

/-- R131, R132, R137: JOIN_REQUEST_RX. (Log entry 51, DEDUCED.) -/
def execJoinRequestRx (u : Fin 2) (f : RxFrame) (s : State) : Out :=
  let h := f.head
  let p := f.body
  let form := h.typ == 5 && h.ver == 2 && h.dir && h.unit == u.val && h.addr == 0x3E && p.length == 21 && leAt p 0 1 == 1 &&
    (s.unit u.val).contOpen
  match s.rxOwn f with
  | some k => .next (s.rxCount u.val 0x3E k)
  | none =>
    if !form then .next (s.rxCount u.val 0x3E .format)
    else
      let serial := leAt p 1 8
      match s.fnl.rowOf serial with
      | none => .next (s.joinUnknown u.val serial)
      | some n =>
        let row := nth s.fnl.pair n {}
        if (f.openWith row.kN).isNone || h.epoch != 0 then .next ((s.rxCount u.val n .mic).joinUnknown u.val serial)
        else if h.fc ≤ row.joinCtr then .next (s.rxCount u.val n .replay)
        else
          let s0 := s.applyAt (.on .join)
          let a := s0.joinAnswer (leAt p 9 1) (leAt p 10 1) (leAt p 11 1)
          let r : JoinReply := { node := n, refuse := a.1, unit := u.val, ver := a.2, hw := leAt p 11 1, fwA := leAt p 12 4,
                                 fwB := leAt p 16 4, bank := leAt p 20 1, serial := serial }
          let s1 := { s0 with fnl := { s0.fnl with pair := s0.fnl.pair.modify n (fun x => { x with joinCtr := h.fc }) } }
          if s.inPilot then .next { s with fnl := s1.fnl }
          else .next ((s1.kackSet u.val 0x3E h.fc).queueReply r)

/-- R119, R145: a command for node n joins the MGP's queue, with FNL_CMD_RETRY as it was last written. -/
def State.queueCmd (s : State) (n cmd : Nat) (params : List Nat) (chan : Option Nat) : State :=
  let s1 := s.applyAt (.on .command)
  { s1 with fnl := { s1.fnl with cmdQ := s1.fnl.cmdQ ++ [{ node := n, cmd := cmd, params := params, chan := chan
                                                           limit := s1.parN P.fnlCmdRetry }] } }

/-- R131: the ACK of a join accept: its node is joined. -/
def State.joined (s : State) (r : JoinReply) : State :=
  let n := r.node
  let s1 := s.modNl n (fun l => { l with st := 4, ver := r.ver, hw := r.hw, hwKnown := true, fwA := r.fwA, fwB := r.fwB, bank := r.bank
                                         tof := r.tof, balTo := some r.balTo, joins := addSat 16 l.joins 1, limitsSent := true, keyAck := false })
  let s2 := if s.fnl.changing && s.fnl.kLNew.isSome then s1.queueCmd n 6 [] none else s1
  (s2.modMn n (fun m => { m with reports := 0, tofPrev := none })).logPost 0 0x0302 1 [n, (s.nl n).unit, r.ver]

/-! Unit health and fallback (R138 to R140). -/

/-- R139, R374: UNIT_LOOPBACK_TEST. -/
def execUnitLoopbackTest (u : Fin 2) (ok : Bool) (s : State) : Out :=
  if !s.unitUp u.val then .next s
  else
    let s1 := s.modUnit u.val (fun x => { x with loopOk := ok, tested := true })
    let bad := fun k => (s1.unit k).tested && !(s1.unit k).loopOk
    .next (if bad 0 && bad 1 then s1.autoSwap else s1)

/-- Sum of a list. -/
def sumN (l : List Nat) : Nat := l.foldl (· + ·) 0

/-- R138, R139: the share of a unit: failures and total over the window. -/
def State.unitShare (s : State) (u : Nat) : Nat × Nat :=
  let h := (s.unit u).hist.take (s.parN P.fnlImpairWin)
  (sumN (h.map (·.1)), sumN (h.map (·.2)))

/-- R138, R139: the share is above the limit: FNL_IMPAIR_PCT percent of the report windows, or, for a unit that serves no
node, 1 energy detection in 100 frames. -/
def State.shareBad (s : State) (u : Nat) : Bool :=
  let h := s.unitShare u
  if (s.unit u).served = 0 then 0 < h.1 && h.2 ≤ 100 * h.1 else s.parN P.fnlImpairPct * h.2 < 100 * h.1

/-- R138: unit u is impaired. -/
def State.impaired (s : State) (u : Nat) : Bool := s.shareBad u || ((s.unit u).tested && !(s.unit u).loopOk)

/-- R138: unit u is below half of FNL_IMPAIR_PCT. -/
def State.underHalf (s : State) (u : Nat) : Bool :=
  let h := s.unitShare u
  if (s.unit u).served = 0 then !s.impaired u else !s.impaired u && 200 * h.1 < s.parN P.fnlImpairPct * h.2 + (if h.2 = 0 then 1 else 0)

/-- R104: the image in slot k, if it is valid. -/
def State.image (s : State) (k : Nat) : Option SchedImage :=
  match s.upd.sched[k]? with
  | some i => if i.checks then some i else none
  | none => none

/-- R105, R138: the lowest valid slot whose FLAGS p accepts. -/
def State.slotWith (s : State) (p : Nat → Bool) : Option Nat :=
  (List.range 4).find? (fun k => match s.image k with | some i => p i.flags | none => false)

/-- R104: FLAGS show that only unit u is used. -/
def onlyUnit (u flags : Nat) : Bool := bitOf flags u && !bitOf flags (1 - u)

/-- R138: every unit that slot 0 uses has been unimpaired for FNL_RESTORE_HOLD. -/
def State.restoreReady (s : State) : Bool :=
  match s.image 0 with
  | none => false
  | some i => (List.range 2).all (fun u => !bitOf i.flags u ||
      decide (s.parN P.fnlRestoreHold * 1000000000 ≤ (s.unit u).okNs))

/-- R138: a fallback image (only one unit used) or a BPRF image is active. -/
def State.fallbackActive (s : State) : Bool :=
  match s.fnl.activeSlot with
  | none => false
  | some k => match s.image k with
    | some i => onlyUnit 0 i.flags || onlyUnit 1 i.flags || bitOf i.flags 2
    | none => false

/-- R138: the change that the units call for: unit named, IMPAIRED, slot. (Log entry 53, DESIGN CHOICE.) -/
def State.radioChange (s : State) : Option (Nat × Nat × Nat) :=
  let i0 := (s.unit 0).impaired
  let i1 := (s.unit 1).impaired
  if i0 && i1 then (s.slotWith (bitOf · 2)).map (fun k => (0, 1, k))
  else if i0 && s.underHalf 1 then (s.slotWith (onlyUnit 1)).map (fun k => (0, 1, k))
  else if i1 && s.underHalf 0 then (s.slotWith (onlyUnit 0)).map (fun k => (1, 1, k))
  else if s.fallbackActive && s.fnl.activeSlot != some 0 && s.restoreReady then
    some (if (s.unit 0).served = 0 then 0 else if (s.unit 1).served = 0 then 1 else 0, 0, 0)
  else none

/-- R137, R138: the units' counts of the frame enter their history. -/
def RUnit.frameEnd (x : RUnit) : RUnit :=
  let e := if x.served = 0 then (x.energyNow, 1) else (x.missNow, x.winNow)
  { x with hist := (e :: x.hist).take 5000, missNow := 0, winNow := 0, energyNow := 0, expect := [], contOpen := false,
           waitAck := none, replied := none, kack := none }

/-- R138: the MGP's evaluation at FRAME_END: IMPAIRED, and a schedule load where the units call for one. (Log entry 53, DESIGN CHOICE.) -/
def State.radioFrameEnd (s : State) : State :=
  let s0 := (s.modUnit 0 RUnit.frameEnd).modUnit 1 RUnit.frameEnd
  let age := fun k (x : RUnit) => { x with okNs := if s0.impaired k then 0 else x.okNs + s0.frameNs }
  let s1 := (s0.modUnit 0 (age 0)).modUnit 1 (age 1)
  if s1.sys.mgpAway || s1.inPilot || s1.par P.fnlAutoFallback != 1 then s1
  else
    let mark := fun k (x : RUnit) => { x with impaired := s1.impaired k }
    let s2 := (s1.modUnit 0 (mark 0)).modUnit 1 (mark 1)
    match s2.radioChange with
    | none => s2
    | some (u, i, k) =>
      if s2.fnl.activeSlot = some k ∨ s2.fnl.loading.isSome ∨ s2.mbx.long ∨ s2.fsq.swapBusy then s2
      else
        let s3 := { s2 with fnl := { s2.fnl with loading := some k }, mbx := { s2.mbx with own := 1, long := true } }
        (s3.logPost 0 0x0305 2 [u, i, k]).attn 7 2 [u, i, k]

/-! A frame begins at the nodes (R128, R160). -/

/-- R141: the node keeps its windows: SYNCED or COASTING, and not silent. -/
def Dn8.linked (d : Dn8) : Bool := (d.st == .synced || d.st == .coasting) && !d.silent

/-- R126, R127: the epoch that the beacon of the frame before announced begins; with NEWKEY the pending key takes the place of the old. -/
def Dn8.nextEpoch (d : Dn8) (newKey : Bool) : Dn8 :=
  let d1 : Dn8 := { d with epoch := inc32 d.epoch, fc := 0, rxFc := [none, none] }
  if newKey then
    match d1.kLNew with
    | some (k, _) => { d1 with kL := k, kLNew := none }
    | none => d1
  else d1

/-- R128, R129, R141, R160: a frame begins at a node: what the beacon of the frame before announced comes into use. A node that missed that
beacon projects its timing and keeps its last mask; a wiring or switch test is announced for one frame only. (Log entry 75, DEDUCED.) -/
def Dn8.frameStart (d : Dn8) : Dn8 :=
  if !d.linked then d
  else match d.next with
  | some b =>
    let d1 := if b.epochNext then d.nextEpoch b.newKey else d
    { d1 with timing := some b, next := none, mask := d.nextMask, frameAt := d.nextAt, frameNo := (b.frameNo + 1) % 256, coast := false,
              balActive := false }
  | none => match d.timing with
    | some t => { d with timing := some { t with owNode := 0xFF, stNode := 0xFF }, coast := true, balActive := false
                         frameAt := d.frameAt + countsNs (lenNs t.len) * d.rate, frameNo := (d.frameNo + 1) % 256 }
    | none => { d with balActive := false }

/-- R126, R131: what a frame start does to the link: a decided advance is made, and the dynamic slots take what the
freeze chose; the frame begins at the nodes. -/
def State.linkFrameStart (s : State) : State :=
  let s1 := if s.fnl.epochNext then s.advanceEpoch else { s with fnl := { s.fnl with oldLeft := s.fnl.oldLeft - 1 } }
  { s1 with fnl := { s1.fnl with units := s1.fnl.units.map (fun x => { x with dynNow := x.dyn, dyn := none }) }
            nodes := s1.nodes.map Dn8.frameStart }

end Sys2Proof.Machine
end

