-- ==== Sys2Proof/Machine/UpdOps.lean ====
section
/-! DEFINITION. What an update keeps and leaves (R104, R458 to R466, R469 to R473): parts and banks, the activation record, the
end of an update, and the progress of a DN8 roll-out. -/

namespace Sys2Proof.Machine

/-! Parts and banks (R459, R460). -/

/-- R459: what tells one part of a bank from another. -/
def Part.key (p : Part) : Nat × Nat := (p.kind, p.slot)

/-- R460: the parts of a bank without those named by l. -/
def withoutKeys (l : List (Nat × Nat)) (b : List Part) : List Part := b.filter (fun p => !l.contains p.key)

/-- R460: the parts of a bank that l names. -/
def onlyKeys (l : List (Nat × Nat)) (b : List Part) : List Part := b.filter (fun p => l.contains p.key)

/-- R460: the banks of the kinds and slots of l change places. -/
def Upd.swapBanks (u : Upd) (l : List (Nat × Nat)) : Upd :=
  { u with force := withoutKeys l u.force ++ onlyKeys l u.bank, bank := withoutKeys l u.bank ++ onlyKeys l u.force
           bank1 := u.bank1.filter (fun k => !l.contains k) ++ l.filter (fun k => !u.bank1.contains k) }

/-- R466: the activation record with the previous banks. -/
def Upd.revert (u : Upd) : Upd := { u.swapBanks u.act with act := [], confirmed := true }

/-- R458: the parts that the manifest lists, each with its place. -/
def Upd.listed (u : Upd) : List (Nat × Part) := match u.man with | some m => indexed m.parts | none => []

/-- R461: the bytes received of part k. -/
def Upd.got (u : Upd) (k : Nat) : List Byte := nth u.cur k []

/-- R460: parts of which bytes have come stand in the receiving bank once complete; what stood there before is gone. -/
def Upd.merged (u : Upd) : Upd :=
  let touched := u.listed.filter (fun (kp : Nat × Part) => !(u.got kp.1).isEmpty)
  let whole := touched.filter (fun (kp : Nat × Part) => (u.got kp.1).length == kp.2.length)
  { u with bank := withoutKeys (touched.map (fun (kp : Nat × Part) => kp.2.key)) u.bank ++
                   whole.map (fun (kp : Nat × Part) => ({ kp.2 with data := u.got kp.1 } : Part)) }

/-- R475: what stands at offset o of an image bank. -/
def imageAt (o : Nat) : Nat × Nat :=
  if o < 0x100000 then (1, 0) else if o < 0x140000 then (2, 0) else if o < 0x1C0000 then (3, 0)
  else if o < 0x200000 then (4, 0) else if o < 0x240000 then (5, 0) else (6, (o - 0x240000) / 0x11000)

/-- R475, R477: an uncorrectable word at offset o of image bank b: the stored schedule in force there is not valid any more; a part of the
receiving bank is discarded. The images in force are verified at BOOT. (Log entry 66, DEDUCED.) -/
def Upd.imageBad (u : Upd) (b o : Nat) : Upd :=
  let k := imageAt o
  if u.bank1.contains k = (b == 1) then
    if k.1 = 6 then { u with sched := u.sched.modify k.2 (fun x => { x with checks := false }) } else u
  else match u.listed.find? (fun (kp : Nat × Part) => kp.2.key == k) with
    | some kp => { u with bank := withoutKeys [k] u.bank, cur := u.cur.set kp.1 [], checked := u.checked.filter (· != kp.1)
                          phase := if u.phase = 2 then 1 else u.phase }
    | none => { u with bank := withoutKeys [k] u.bank }

/-- R442: the parts received are discarded. -/
def Upd.discard (u : Upd) : Upd :=
  let touched := u.listed.filter (fun (kp : Nat × Part) => !(u.got kp.1).isEmpty)
  { u with bank := withoutKeys (touched.map (fun (kp : Nat × Part) => kp.2.key)) u.bank, cur := [] }

/-- R473: nothing of an update is under way. -/
def Upd.closed (u : Upd) : Upd :=
  { ({} : Upd) with bank := u.bank, force := u.force, bank1 := u.bank1, act := u.act, confirmed := u.confirmed, sched := u.sched,
                    sagReset := u.sagReset, defaultsDue := u.defaultsDue, done := u.done }

/-- R461, R473: an update ends; complete parts stay in the receiving bank. -/
def Upd.finish (u : Upd) : Upd := u.merged.closed

/-- R466, R475: the activation record and the image banks after a reset: an unconfirmed record gives way to the one before. -/
def Upd.store (u : Upd) : Upd :=
  let v := u.finish
  let w := if v.confirmed then v else v.revert
  { ({} : Upd) with bank := w.bank, force := w.force, bank1 := w.bank1, sched := w.sched, sagReset := w.sagReset }

/-- R460: the version in force of a kind, or old where none has been stored by an update. -/
def Upd.version (u : Upd) (kind old : Nat) : Nat := match u.force.find? (fun p => p.kind == kind) with | some p => p.version | none => old

/-- R473: an update or its roll-out is under way. -/
def Upd.isOpen (u : Upd) : Bool := u.phase != 0 || u.roll != .none

/-- R473: an update under way, its roll-out included, ends: no firmware command is sent any more. -/
def State.updEnd (s : State) : State :=
  if !s.upd.isOpen then s
  else
    let keep := s.fnl.cmdQ.filter (fun (q : NodeCmd) => q.inFlight || !(q.cmd == 4 || q.cmd == 5))
    ({ s with upd := s.upd.finish, fnl := { s.fnl with fwTo := [none, none], fwOff := [0, 0], cmdQ := keep } }).post .updateEnded

/-- R473: what an isolation, a brown-out warning or a takeover does to an update: an activation that has begun runs to its end. -/
def State.updDisturbed (s : State) : State := if s.upd.handoff then s else s.updEnd

/-- R486: an update failure by source src: what failed and the part or node. -/
def State.updFault (s : State) (src what item : Nat) : State :=
  s.logPost src 0x1001 (if what = 4 then 2 else 3) ([(Config.updStep what).toNat] ++ le2 item)

/-! Stored schedules (R104). -/

/-- R104: the image in the bytes of a part. -/
def schedOf (d : List Byte) : SchedImage :=
  let n := leAt d 6 2
  let es := (List.range n).map (fun i => leAt d (64 + 16 * i) 16)
  let last := es.getLastD 0
  { checks := leAt d 0 4 == 0x48435346 && leAt d 4 2 == 1 && decide (1 ≤ n) && decide (n ≤ 4096) &&
      d.length == 64 + 16 * n && leAt d 32 32 == sha256 (d.drop 64) && entClass last == 0x0F && entLast last &&
      (es.take (n - 1)).all (fun w => !entLast w) && leAt d 8 1 == field last 65 64
    id := leAt d 12 4, len := leAt d 8 1, flags := leAt d 9 1, name := (d.drop 16).take 16, entries := es }

/-- R460: the stored schedules of the slots that a manifest lists come into force. -/
def Upd.schedules (u : Upd) (l : List (Nat × Nat)) : List SchedImage :=
  (indexed u.sched).map (fun (ki : Nat × SchedImage) =>
    if l.contains (6, ki.1) then
      match u.force.find? (fun p => p.kind == 6 && p.slot == ki.1) with | some p => schedOf p.data | none => ki.2
    else ki.2)

/-! Confirmation (R465, R466). -/

/-- R135, R430, R465: an MGP image that has come into force gives its version, its settings format and its DN8 range. -/
def Sys.newMgp (y : Sys) (p : Part) : Sys :=
  { y with fw := y.fw.set 0 p.version, fmtSet := p.format, dn8HwMin := (Config.dn8Range p.version).1.toNat
           dn8HwMax := (Config.dn8Range p.version).2.toNat }

/-- R465: CONFIRMED is written 1, and every part of the activation record is in force. -/
def State.confirm (s : State) : State :=
  let l := s.upd.act
  let mgp := if l.contains (1, 0) then s.upd.force.find? (fun p => p.kind == 1) else none
  { s with
    sys := match mgp with | some p => s.sys.newMgp p | none => s.sys
    upd := { s.upd with confirmed := true, act := [], handoff := false, copied := false, loaderStart := false, cur := []
                        sched := s.upd.schedules l, sagReset := s.upd.sagReset || l.contains (3, 0) } }

/-! The roll-out of DN8 firmware (R471, R472). -/

/-- R133: node n is joined. -/
def State.nodeJoined (s : State) (n : Nat) : Bool := decide (2 ≤ (s.nl n).st)

/-- R431, R471: the active bank of node n holds the version rolled out: by its last join or GET_INFO, or as this roll-out has staged it. -/
def State.rollHolds (s : State) (n : Nat) : Bool :=
  let l := s.nl n
  (if l.bank = 0 then l.fwA else l.fwB) == s.upd.rollPart.version || s.upd.rolled.contains (n, l.bank)

/-- R471: node n is to be brought to the version rolled out. -/
def State.rollWants (s : State) (n : Nat) : Bool := s.nodeJoined n && !s.rollHolds n && !s.upd.left.contains n

/-- R472: node n is staged. (Log entry 57, DEDUCED.) -/
def State.rollStaged (s : State) (n : Nat) : Bool := s.upd.rolled.contains (n, 1 - (s.nl n).bank)

/-- R473: the roll-out ends once no node remains. (Log entry 57, DEDUCED.) -/
def State.rollCheck (s : State) : State :=
  if s.upd.roll = .staging && !(List.range 48).any s.rollWants then s.updEnd else s

/-- R471: node n is left on its present firmware; a FAULT is logged. -/
def State.rollLeave (s : State) (n : Nat) : State :=
  let s1 := s.updFault 0 3 n
  { s1 with
    upd := { s1.upd with left := s1.upd.left ++ [n], rollAcked := false, rollSeen := 0
                         roll := if s1.upd.roll = Rollout.activating n then .staging else s1.upd.roll }
    fnl := { s1.fnl with fwTo := s1.fnl.fwTo.map (fun x => if x = some n then none else x) } }.rollCheck

/-- R472: a valid sweep of the node under activation: it is done after MEA_RECOVER_FRAMES with the new bank active; with its old
bank active the roll-out stops. -/
def State.rollSweep (s : State) (n : Nat) : State :=
  if s.sys.mgpAway || s.upd.roll != .activating n then s
  else if (s.nl n).bank = s.upd.rollBank then
    if s.parN P.meaRecoverFrames ≤ s.upd.rollSeen + 1 then
      { s with upd := { s.upd with roll := .staging, done := s.upd.done + 1, rollAcked := false, rollSeen := 0 } }.rollCheck
    else { s with upd := { s.upd with rollSeen := s.upd.rollSeen + 1 } }
  else if s.upd.rollAcked then (s.updFault 0 3 n).updEnd
  else s

end Sys2Proof.Machine
end

