-- ==== Sys2Proof/Machine/LogStore.lean ====
section
/-! DEFINITION. The event recorder and the MRAM controller (R475 to R488). -/

namespace Sys2Proof.Machine

/-- R480: the distance of sequence number q back from the newest. -/
def Log.back (l : Log) (q : Nat) : Nat := (l.seq + 2 ^ 32 - q % 2 ^ 32) % 2 ^ 32

/-- R480: sequence number q lies before FLOOR. -/
def Log.beforeFloor (l : Log) (q : Nat) : Bool := l.back l.floor < l.back q

/-- R478: the record in slot i. -/
def Log.at (l : Log) (i : Nat) : Option (Nat × LogRec × Nat) := l.slots.find? (fun x => x.1 == i)

/-- R480: slot i is free. -/
def Log.free (l : Log) (i : Nat) : Bool :=
  match l.at i with
  | none => true
  | some x => l.beforeFloor x.2.1.seq || l.freed.contains i

/-- R480: slots that are not free. -/
def Log.used (l : Log) : List (Nat × LogRec × Nat) :=
  l.slots.filter (fun x => !(l.beforeFloor x.2.1.seq || l.freed.contains x.1))

/-- R480: no slot is free. -/
def Log.full (l : Log) : Bool := 65536 ≤ l.used.length

/-- R481: the first free slot at or after i, wrapping at 65,536. -/
def Log.freeFrom (l : Log) : Nat → Nat → Option Nat
  | 0, _ => none
  | n + 1, i => if l.free i then some i else l.freeFrom n ((i + 1) % 65536)

/-- R481: the 60 s condition on a slot last written at clock w. -/
def settled (clock w : Nat) : Bool := 491520 ≤ clock - w

/-- The record that lies furthest back from the newest. -/
def Log.oldest (l : Log) : List (Nat × LogRec × Nat) → Option (Nat × LogRec × Nat)
  | [] => none
  | x :: xs => match l.oldest xs with
    | none => some x
    | some y => if l.back y.2.1.seq < l.back x.2.1.seq then some x else some y

/-- R481: the slot for a new record of severity sev. -/
def Log.choose (l : Log) (clock sev : Nat) : Option Nat :=
  if l.full then
    (l.oldest (l.used.filter (fun x => x.2.1.sev ≤ sev && settled clock x.2.2))).map (·.1)
  else l.freeFrom 65536 l.cursor

/-- R481: a drop now is due to the 60 s condition. -/
def Log.wearDrop (l : Log) (sev : Nat) : Bool := l.used.any (fun x => x.2.1.sev ≤ sev)

/-- R479: the sequence number after q. -/
def nextSeq (q : Nat) : Nat := if q % 2 ^ 32 = 2 ^ 32 - 1 then 1 else q + 1

/-- R478: bind slot i to a record, slots rising. -/
def putSlot (i : Nat) (r : LogRec) (t : Nat) : List (Nat × LogRec × Nat) → List (Nat × LogRec × Nat)
  | [] => [(i, r, t)]
  | x :: l => if i < x.1 then (i, r, t) :: x :: l else if i = x.1 then (i, r, t) :: l else x :: putSlot i r t l

/-- R479: write record r into slot i; the three steps are one command. -/
def Log.put (l : Log) (clock i : Nat) (r : LogRec) : Log :=
  let q := nextSeq l.seq
  { l with slots := putSlot i { r with seq := q } clock l.slots, seq := q, cursor := (i + 1) % 65536
           freed := l.freed.filter (· != i) }

/-- R481: write record r, or drop it. -/
def Log.write (l : Log) (clock : Nat) (r : LogRec) : Log :=
  match l.choose clock r.sev with
  | some i => l.put clock i r
  | none => { l.dropOne with wearHold := l.wearHold || l.wearDrop r.sev }

/-- R481, R486: the 0x0F02 record that reports the drops, once a slot qualifies. -/
def State.reportDrops (s : State) : State :=
  if s.log.unreported = 0 then s
  else match s.log.choose s.sys.clock 2 with
    | none => s
    | some i =>
      let r : LogRec := { pcc := s.sys.pcc, opsec := s.sys.opsec, time := s.lmp.time, code := 0x0F02, sev := 2, src := 6,
                          data := data6 (le4 s.log.unreported) }
      { s with log := { s.log.put s.sys.clock i r with unreported := 0 } }

/-- R479, R481: LOG_RECORD_WRITE: the oldest waiting record is written, once the scan of BOOT has ended. -/
def State.logWriteOne (s : State) : State :=
  let s1 := s.reportDrops
  match s1.log.queue with
  | [] => s1
  | r :: rest => { s1 with log := ({ s1.log with queue := rest }).write s1.sys.clock r }

/-- R479: LOG_RECORD_WRITE. -/
def execLogRecordWrite (s : State) : Out := .next (if s.log.scanned then s.logWriteOne else s)

/-- R484: every queued record is written, at a brown-out shutdown or before a module reset. -/
def State.logDrain (s : State) : State := (List.range s.log.queue.length).foldl (fun t _ => t.logWriteOne) s

/-- a is the newer of two sequence numbers. -/
def seqNewer (a b : Nat) : Bool := (a + 2 ^ 32 - b % 2 ^ 32) % 2 ^ 32 < 2 ^ 31

/-- R479: the newest record found in the slots. -/
def newestSlot : List (Nat × LogRec × Nat) → Option (Nat × Nat)
  | [] => none
  | x :: l => match newestSlot l with
    | none => some (x.1, x.2.1.seq)
    | some y => if seqNewer x.2.1.seq y.2 && x.2.1.seq != y.2 then some (x.1, x.2.1.seq) else some y

/-- R479: LOG_BOOT_SCAN: the newest sequence number, or FLOOR if that is newer, and the slot after the newest record. -/
def execLogBootScan (s : State) : Out :=
  if s.log.scanned then .next s
  else match newestSlot s.log.slots with
    | none => .next { s with log := { s.log with scanned := true, seq := s.log.floor, cursor := 0 } }
    | some (i, q) => .next { s with log := { s.log with
        scanned := true, seq := if seqNewer q s.log.floor then q else s.log.floor, cursor := (i + 1) % 65536 } }

/-- R480: LOG_HOURLY_FREE: every record more than 2³⁰ behind the newest is freed. -/
def execLogHourlyFree (s : State) : Out :=
  .next { s with log := { s.log with
    freed := s.log.freed ++ ((s.log.used.filter (fun x => 2 ^ 30 < s.log.back x.2.1.seq)).map (·.1)) } }

/-- R485: the isolation record that set SAG_ISO_CAUSE. -/
def LogRec.sets (r : LogRec) : Bool := r.code == 0x0A01 && nth r.data 2 0 == 1

/-- R485: the sequence number of the isolation record, written or still queued; 0 where it was dropped. (Log entry 47, DEDUCED.) -/
def Log.isoSeq (l : Log) : Nat :=
  match firstAt LogRec.sets l.queue with
  | some i => (List.range (i + 1)).foldl (fun q _ => nextSeq q) l.seq
  | none => match newestSlot (l.slots.filter (fun x => x.2.1.sets)) with
    | some x => x.2
    | none => 0

/-- R485: the older of the two snapshot slots: one not valid, else the lower sequence number. -/
def Log.snapSlot (l : Log) : Nat :=
  let a := nth l.snaps 0 {}
  let b := nth l.snaps 1 {}
  if !a.valid then 0 else if !b.valid then 1 else if seqNewer b.seq a.seq then 0 else 1

/-- R485: ISOLATION_SNAPSHOT: the records of all groups are copied to the older slot. -/
def execIsolationSnapshot (s : State) : Out :=
  match s.log.snapDue with
  | none => .next s
  | some c =>
    let snap : Snapshot := { seq := s.log.isoSeq, pcc := s.sys.pcc, opsec := s.sys.opsec, time := s.lmp.time, cause := c,
                             valid := true, recs := s.csm.recs }
    if s.up 6 then
      .next { s with log := { s.log with snaps := s.log.snaps.set s.log.snapSlot snap, snapDue := none } }
    else .next s

/-- R475, R477: an uncorrectable word at address a makes what holds it invalid. (Log entry 66, DEDUCED.) -/
def State.nvmBad (s : State) (a : Nat) : State :=
  let bad := fun (l : List TwoSlot) (k : Nat) => l.modify k (fun x => { x with valid := false })
  if 0x1000 ≤ a ∧ a < 0x2000 then { s with log := { s.log with pd0 := s.log.pd0.set ((a - 0x1000) / 0x800) (0, 0, 0) } }
  else if 0x4000 ≤ a ∧ a < 0x6000 then { s with est := { s.est with slots := bad s.est.slots ((a - 0x4000) / 0x1000) } }
  else if 0x6000 ≤ a ∧ a < 0xE000 then { s with dict := { s.dict with slots := bad s.dict.slots ((a - 0x6000) / 0x4000) } }
  else if 0x10000 ≤ a ∧ a < 0x20000 then { s with log := { s.log with banked := none, bankedBo := false } }
  else if 0x20000 ≤ a ∧ a < 0x28000 then { s with log := { s.log with ckpt := none } }
  else if 0x30000 ≤ a ∧ a < 0x32000 then { s with sag := { s.sag with slots := bad s.sag.slots ((a - 0x30000) / 0x1000) } }
  else if 0x40000 ≤ a ∧ a < 0x50000 then
    { s with log := { s.log with snaps := s.log.snaps.modify ((a - 0x40000) / 0x8000) (fun x => { x with valid := false }) } }
  else if 0x50000 ≤ a ∧ a < 0x2D4000 then { s with upd := s.upd.imageBad 0 (a - 0x50000) }
  else if 0x2D4000 ≤ a ∧ a < 0x558000 then { s with upd := s.upd.imageBad 1 (a - 0x2D4000) }
  else if 0x600000 ≤ a ∧ a < 0x800000 then
    { s with log := { s.log with slots := s.log.slots.filter (fun x => x.1 != (a - 0x600000) / 32) } }
  else s

/-- R477: one uncorrectable word is counted, named and recorded. -/
def State.nvmUncorrectable (s : State) (a : Nat) : State :=
  let s1 := s.nvmBad a
  ({ s1 with log := { s1.log with eccUnc := incSat 16 s1.log.eccUnc, eccAddr := a % 2 ^ 23 }
             prl := { s1.prl with eccBad := true } }).logPost 6 0x0109 3 (le4 a)

/-- R477: MRAM_SCRUB with the number of corrected words and the addresses of the uncorrectable ones. -/
def execMramScrub (corrected : Nat) (bad : List Nat) (s : State) : Out :=
  let s1 := { s with log := { s.log with eccCorr := addSat 16 s.log.eccCorr corrected } }
  .next (bad.foldl State.nvmUncorrectable s1)

/-- R475: PD0_BACKUP: OPSEC and PCC go to the slot not written last. -/
def State.pd0Backup (s : State) : State :=
  let a := nth s.log.pd0 0 (0, 0, 0)
  let b := nth s.log.pd0 1 (0, 0, 0)
  let k := if a.1 ≤ b.1 then 0 else 1
  { s with log := { s.log with pd0 := s.log.pd0.set k (max a.1 b.1 + 1, s.sys.opsec, s.sys.pcc) } }

/-- R475: PD0_BACKUP, made by the MGP. -/
def execPd0Backup (s : State) : Out := .next (if s.sys.mgpAway then s else s.pd0Backup)

end Sys2Proof.Machine
end

