-- ==== Sys2Proof/Machine/Node.lean ====
section
/-! DEFINITION. The DN8 pack node (R118 to R142, R149 to R166, R472): its link state machine, sweeps, reports, balancing
switches, wiring tests, commands, firmware, window comparators and loop switch. -/

namespace Sys2Proof.Machine

/-- Node n. -/
def State.dn (s : State) (n : Nat) : Dn8 := nth s.nodes n {}

/-- Change node n. -/
def State.modDn (s : State) (n : Nat) (f : Dn8 → Dn8) : State := { s with nodes := s.nodes.modify n f }

/-- R142: every balancing switch opens, and stays open until a valid beacon supplies a mask. -/
def Dn8.openSwitches (d : Dn8) : Dn8 := { d with closed := 0, mask := 0, nextMask := 0, balBarred := true }

/-- R141, R142: entry into SEARCH, UNPAIRED or JOINING opens the switches and ends the timing in use. -/
def Dn8.goTo (d : Dn8) (st : NodeSt) : Dn8 :=
  { d.openSwitches with st := st, heard := [], joinWait := false, replyWait := false, kackWait := none, timing := none, next := none,
                        lastRx := none, searchT := 0, dwellT := 0, scanPos := 0 }

/-- R141: the node listens again: SEARCH with a link key, UNPAIRED without. -/
def Dn8.listen (d : Dn8) : Dn8 := d.goTo (if d.keyed then .search else .unpaired)

/-- R142: a restart with the supply present: silent, then as R133. -/
def Dn8.restart (d : Dn8) : Dn8 :=
  { d.listen with silent := true, missed := 0, selfFault := false, contQ := [], refuseWait := false }

/-- R141: NODE_POWER_ON. (Log entry 6, DESIGN CHOICE.) -/
def execNodePowerOn (n : Fin 48) (s : State) : Out :=
  .next (s.modDn n (fun d => if d.st = .powerOff then { d.listen with supplyOk := true } else d))

/-! The node's own frames (R111, R112, R125). -/

/-- R123: the epoch key that the node holds. -/
def Dn8.keyNow (d : Dn8) : Nat := epochKey d.kL d.snid d.epoch

/-- R111, R125: the node sends a frame of type typ under the epoch key; the first of an epoch carries FC 0. (Log entry 71, DESIGN CHOICE.)
-/
def Dn8.send (d : Dn8) (typ : Nat) (p : List Byte) : Dn8 :=
  let h : Head := { typ := typ, ver := d.ver, dir := true, unit := d.unit, snid := d.snid, addr := d.index.getD 0, fc := d.fc
                    epoch := d.epoch % 256 }
  { d with tx := sealFrame d.keyNow h p, fc := d.fc + 1 }

/-! Backoff (R136). -/

/-- R136: node n draws r for the exponent be. (Log entry 2, DESIGN CHOICE.) -/
def Dn8.draw (d : Dn8) (n be : Nat) : Dn8 :=
  { d with be := be, backoff := Config.nodeDraw n d.draws % 2 ^ be, draws := d.draws + 1 }

/-- R136: node n has a JOIN request to send. -/
def Dn8.wantJoin (d : Dn8) (n : Nat) : Dn8 := { d.draw n 2 with joinWait := true, kackWait := none }

/-- R122, R136: node n has a CONTENTION frame to send; BE is 2 where none was waiting. -/
def Dn8.contend (d : Dn8) (n ev : Nat) (data : List Nat) : Dn8 :=
  let d1 : Dn8 := { d with contQ := d.contQ ++ [(ev, data)] }
  if d.contQ.isEmpty && !d.joinWait then d1.draw n 2 else d1

/-- R136: the frame sent was not acknowledged: BE is raised, to at most 6, and r is drawn again. -/
def Dn8.unacked (d : Dn8) (n : Nat) : Dn8 :=
  if d.kackWait.isSome then { d.draw n (min 6 (d.be + 1)) with kackWait := none } else d

/-- R136: the beacon of the frame acknowledges the contention frame sent in it, or the node raises BE. -/
def Dn8.contResult (d : Dn8) (n : Nat) (b : Beacon) : Dn8 :=
  match d.kackWait with
  | none => d
  | some (isJoin, fc) =>
    let me := if isJoin then 0x3E else d.index.getD 0x3F
    if b.kackAddr == me && b.kackFc == fc % 256 then
      if isJoin then { d with kackWait := none, be := 2, joinWait := false, replyWait := true, reqs := 0 }
      else
        let d1 : Dn8 := { d with kackWait := none, contQ := d.contQ.drop 1 }
        d1.draw n 2
    else d.unacked n

/-! Beacons (R126 to R141). -/

/-- R126: the full epoch that the low 8 bits of a beacon name, from the node's own up to 15 ahead. -/
def Dn8.epochOf (d : Dn8) (low : Nat) : Option Nat :=
  let ahead := (low + 256 - d.epoch % 256) % 256
  if ahead ≤ 15 then some ((d.epoch + ahead) % 2 ^ 32) else none

/-- R137: check 3 of a beacon heard on unit u: TYPE, VER, DIR, UNIT, ADDR and length. (Log entry 73, DEDUCED.) -/
def beaconForm (u : Nat) (f : RxFrame) : Bool :=
  let h := f.head
  h.typ == 1 && h.ver == 2 && !h.dir && h.unit == u && h.addr == 0x3F && f.body.length == 57 + leAt f.body 19 1

/-- R126, R127: the link keys under which epoch e may run: the one held, and a pending one from its FROM epoch on. -/
def Dn8.keysFor (d : Dn8) (e : Nat) : List Nat :=
  d.kL :: (match d.kLNew with | some (k, fr) => if fr ≤ e then [k] else [] | none => [])

/-- R126, R137: a beacon heard on unit u is valid at the node: its epoch, and the link key under which its MIC checks. -/
def Dn8.beaconValid (d : Dn8) (u : Nat) (f : RxFrame) : Option (Nat × Nat) :=
  let h := f.head
  if !(f.fcs && d.keyed && h.snid == d.snid && beaconForm u f) then none
  else match d.epochOf h.epoch with
  | none => none
  | some e =>
    if e = d.epoch ∧ !fcFresh (nth d.rxFc u none) h.fc then none
    else ((d.keysFor e).find? (fun k => (f.openWith (epochKey k d.snid e)).isSome)).map (fun k => (e, k))

/-- R126, R127: the node takes epoch e under link key k from a beacon of unit u with counter fc. -/
def Dn8.takeEpoch (d : Dn8) (u e k fc : Nat) : Dn8 :=
  let d1 : Dn8 := if e = d.epoch then d else { d with epoch := e, fc := 0, rxFc := [none, none] }
  { d1 with rxFc := d1.rxFc.set u (some fc), kL := k, kLNew := if k = d.kL then d1.kLNew else none }

/-- The node's index lies in the REPORT entry of beacon b. -/
def Dn8.covered (d : Dn8) (b : Beacon) : Bool := d.index.elim false b.covers

/-- R128: the rate correction, from the two latest valid beacons; it stands where TX_LT has not moved. (Log entry 75, DEDUCED.) -/
def Dn8.rateNext (d : Dn8) (b : Beacon) (brx : Nat) : Rat :=
  match d.lastRx with
  | none => d.rate
  | some (c, t) =>
    let dt : Nat := (b.txLt + 2 ^ 40 - t) % 2 ^ 40
    if dt = 0 then d.rate else ((((brx + 2 ^ 40 - c) % 2 ^ 40 : Nat)) : Rat) / ((dt : Nat) : Rat)

/-- R128, R141: a valid beacon b that covers the node: timing and mask of the next frame are adopted. -/
def Dn8.adopt (d : Dn8) (n u : Nat) (b : Beacon) (brx : Nat) : Dn8 :=
  let d1 := d.contResult n b
  let rate := d1.rateNext b brx
  { d1 with
    st := .synced, unit := u, timing := if d.linked then d.timing else none, next := some b, missed := 0, balBarred := false
    nextMask := nth b.bleed (d.index.getD 0 - b.rFirst) 0, brx := brx % 2 ^ 32, lastRx := some (brx, b.txLt), rate := rate
    nextAt := (brx : Rat) + countsNs (b.startDt : Nat) * rate - countsNs (d.tof : Nat), bprf := b.bprf, lastLen := b.len, trial := false
    joinWait := false, replyWait := false, heard := [] }

/-- R132: a network heard. -/
def Dn8.hear (d : Dn8) (snid : Nat) : Dn8 := { d with heard := if d.heard.contains snid then d.heard else d.heard ++ [snid] }

/-- R132: after 8 requests without an acknowledgement an unpaired node moves on to the next network that it has heard. -/
def Dn8.moveOn (d : Dn8) (n : Nat) : Dn8 :=
  if 8 ≤ d.reqs && !d.keyed then
    match d.heard.find? (· != d.target) with
    | some x => { d.wantJoin n with target := x, reqs := 0, heard := d.heard.filter (· != d.target) ++ [d.target] }
    | none => { d with reqs := 0 }
  else d

/-- R131, R132, R136: a beacon heard while joining: one of the network asked gives the slot timing and answers the request. -/
def Dn8.joining (d : Dn8) (n snid : Nat) (b : Beacon) : Dn8 :=
  let d1 := d.hear snid
  if snid = d1.target then { d1.contResult n b with timing := some b, lastLen := b.len, bprf := b.bprf }.moveOn n else d1

/-- R141: a beacon with JOIN_OPEN starts the join of an unpaired node. -/
def Dn8.startJoin (d : Dn8) (n u snid : Nat) (b : Beacon) : Dn8 :=
  { ((d.goTo .joining).wantJoin n).hear snid with target := snid, reqs := 0, timing := some b, unit := u, lastLen := b.len, bprf := b.bprf }

/-- R126, R140, R141: a valid beacon, of epoch and key ek, at a node in SYNCED or COASTING. -/
def Dn8.syncedBeacon (d : Dn8) (n u fc brx : Nat) (b : Beacon) (ek : Nat × Nat) : Dn8 :=
  let d1 := d.takeEpoch u ek.1 ek.2 fc
  if d.covered b then d1.adopt n u b brx
  else
    let d2 := d1.contResult n b
    if b.move then { d2.goTo .search with unit := 1 - u } else d2.goTo .search

/-- R141: the effect on node n of a frame heard on unit u in a beacon's place, RMARKER at counter value brx. -/
def Dn8.onBeacon (d : Dn8) (n u : Nat) (f : RxFrame) (brx : Nat) : Dn8 :=
  let b := Beacon.ofBytes f.body
  let h := f.head
  if d.silent || !f.fcs || !beaconForm u f || (u != d.unit && d.st != .unpaired) then d
  else match d.st with
  | .powerOff => d
  | .unpaired => if b.joinOpen && !d.refuseWait then d.startJoin n u h.snid b else d
  | .joining => match d.beaconValid u f with
    | some ek => if d.covered b then (d.takeEpoch u ek.1 ek.2 h.fc).adopt n u b brx else d.joining n h.snid b
    | none => d.joining n h.snid b
  | .search => match d.beaconValid u f with
    | some ek => if d.covered b && !d.refuseWait then (d.takeEpoch u ek.1 ek.2 h.fc).adopt n u b brx else d.hear h.snid
    | none => d.hear h.snid
  | .synced | .coasting => match d.beaconValid u f with
    | some ek => d.syncedBeacon n u h.fc brx b ek
    | none => d

/-- R141: NODE_BEACON_RX of unit u at counter value brx. -/
def execNodeBeaconRx (n : Fin 48) (u : Fin 2) (f : RxFrame) (brx : Nat) (s : State) : Out :=
  .next (s.modDn n (fun d => d.onBeacon n u f (brx % 2 ^ 40)))

/-- R141: NODE_BEACON_MISSED: the projected timing and the last masks will be used. -/
def Dn8.onMiss (d : Dn8) (n : Nat) : Dn8 :=
  if d.linked then { d.unacked n with st := .coasting, missed := d.missed + 1, bmiss := min 15 (d.bmiss + 1) } else d

/-- R141: NODE_BEACON_MISSED. -/
def execNodeBeaconMissed (n : Fin 48) (s : State) : Out := .next (s.modDn n (fun d => d.onMiss n))

/-- R141: NODE_COAST_LIMIT; the search starts on the other channel, as the example of the link chapter has it. (Log entry 75, DEDUCED.) -/
def execNodeCoastLimit (n : Fin 48) (s : State) : Out :=
  .next (s.modDn n (fun d => if d.st = .coasting ∧ 8 ≤ d.missed then { d.goTo .search with unit := 1 - d.unit } else d))

/-- R142: NODE_BAL_TIMEOUT. -/
def execNodeBalTimeout (n : Fin 48) (s : State) : Out :=
  .next (s.modDn n (fun d => if d.st = .powerOff then d else d.openSwitches))

/-! The search (R140). -/

/-- R140: the codes of a mode. -/
def modeCodes (bprf : Bool) : List Nat := if bprf then [9, 10, 11, 12] else [25, 26, 27, 28, 29, 30, 31, 32]

/-- R140: the preamble code on which a searching node listens: that of its join, and after 2 s every code of the mode in turn. -/
def Dn8.scanCode (d : Dn8) : Nat :=
  let all := modeCodes d.bprf
  if d.searchT < 16384 then nth d.codes (d.unit + (if d.bprf then 2 else 0)) 0 else nth all (d.scanPos / 2 % all.length) 0

/-- R140: 1/8192 s of the search: each channel and code is kept for twice the last frame length. (Log entry 75, DEDUCED.) -/
def Dn8.searchTick (d : Dn8) : Dn8 :=
  if d.st != .search || d.silent then d
  else
    let d1 : Dn8 := { d with searchT := d.searchT + 1, dwellT := d.dwellT + 1 }
    if d1.searchT = 16384 then { d1 with dwellT := 0, scanPos := 0 }
    else if 2 * lenNs d.lastLen * 8192 ≤ d1.dwellT * 1000000000 then { d1 with dwellT := 0, scanPos := d.scanPos + 1, unit := 1 - d.unit }
    else d1

/-! Sweeps, reports, balancing and tests (R116, R149 to R166). -/

/-- R150: an NTC reading outside −40 to +120 °C. -/
def ntcOut (t : Int) : Bool := decide (t < -2560) || decide (7680 < t)

/-- R149, R158, R160: the sweep: every switch is open before S, pending limits are applied, and the conversions are kept. -/
def Dn8.sweep (d : Dn8) (m : SweepIn) : Dn8 :=
  let lim := d.limPending.getD (d.ov, d.uv)
  { d with closed := 0, ov := lim.1, uv := lim.2, limPending := none, v := m.v, t := m.t, vsup := m.vsup, vref := m.vref
           ntcFault := m.t.any ntcOut }

/-- R149: NODE_SWEEP. While no FSQ runs the sweep also begins the node's frame. (Log entry 75, DEDUCED.) -/
def execNodeSweep (n : Fin 48) (m : SweepIn) (s : State) : Out :=
  .next (s.modDn n (fun d0 =>
    let d := if s.fsq.running then d0 else d0.frameStart
    if d.linked && d.timing.isSome then d.sweep m else d))

/-- R117: STATUS. -/
def Dn8.status (d : Dn8) : Nat :=
  maskOf [d.ovTrip, d.uvTrip, !d.loopClosed, d.balActive, d.coast, d.selfFault, d.bank == 1, d.staged] +
  256 * d.bmiss + bitAt 12 d.ntcFault

/-- R116: the REPORT payload, with RTX. -/
def Dn8.reportBytes (d : Dn8) (rtx : Nat) : List Byte :=
  toBytes [d.frameNo] ++ d.v.flatMap (leBytes 2) ++ d.t.flatMap (fun t => leBytes 2 (enc 16 t)) ++ leBytes 2 d.vsup ++
  leBytes 2 d.vref ++ leBytes 2 d.status ++ toBytes [d.tcode] ++ leBytes 2 (enc 16 d.tval) ++ leBytes 4 d.brx ++
  leBytes 4 rtx ++ (if d.ver = 3 then toBytes [d.tripMap] else [])

/-- R116, R129: NODE_REPORT_TX: the node sends its REPORT in the window assigned to it and starts its flags afresh. -/
def execNodeReportTx (n : Fin 48) (rtx : Nat) (s : State) : Out :=
  .next (s.modDn n (fun d =>
    if !d.linked || !(d.timing.elim false d.covered) then d
    else { d.send 2 (d.reportBytes rtx) with report := d.reportBytes rtx, ovTrip := false, uvTrip := false, tripMap := 0, bmiss := 0,
                                             tcode := 0, tval := 0 }))

/-- R160: NODE_BALANCE_WINDOW: the masked switches close at BOFF (start) and open at BOFF + BDUR. -/
def execNodeBalanceWindow (n : Fin 48) (start : Bool) (s : State) : Out :=
  .next (s.modDn n (fun d =>
    if !start then { d with closed := 0 }
    else if d.linked && !d.balBarred && d.timing.elim false (fun b => 0 < b.bDur) then
      { d with closed := d.mask, balActive := d.balActive || d.mask != 0 }
    else d))

/-- The node that a test is announced for is this one. -/
def Dn8.named (d : Dn8) (x : Nat) : Bool := d.linked && d.index == some x

/-- R166: NODE_OPEN_WIRE_TEST: the shift of the pulled wire; every switch is open in the interval (R160). -/
def execNodeOpenWireTest (n : Fin 48) (shift : Int) (s : State) : Out :=
  .next (s.modDn n (fun d => match d.timing with
    | some b => if d.named b.owNode then { d with closed := 0, tcode := 1 + 4 * b.owWire, tval := shift } else d
    | none => d))

/-- R163: NODE_SWITCH_TEST: the balance-return current with the announced switch closed, mA. -/
def execNodeSwitchTest (n : Fin 48) (current : Int) (s : State) : Out :=
  .next (s.modDn n (fun d => match d.timing with
    | some b => if d.named b.stNode then { d with closed := 0, balActive := true, tcode := 2 + 4 * b.stPos, tval := current } else d
    | none => d))

/-! Commands and firmware (R118 to R120). -/

/-- R137: a module frame of type typ addressed to the node passes the checks of R137 at the node: its payload. -/
def Dn8.frameOk (d : Dn8) (typ : Nat) (f : RxFrame) : Option (List Byte) :=
  let h := f.head
  if d.st != .powerOff && !d.silent && d.keyed && f.fcs && h.snid == d.snid && h.typ == typ && h.ver == d.ver && !h.dir &&
      h.unit == d.unit && d.index == some h.addr && h.epoch == d.epoch % 256 && fcFresh (nth d.rxFc h.unit none) h.fc then
    f.openWith d.keyNow
  else none

/-- R129: the dynamic slot of the frame is assigned to the node, with CKIND kind. -/
def Dn8.slotMine (d : Dn8) (kind : Nat) : Bool :=
  d.linked && d.timing.elim false (fun b => d.index == some b.cNode && b.cKind == kind)

/-- R119, R129: an ACK is sent in the window assigned, with ACK_FC, RESULT and INFO. -/
def Dn8.ack (d : Dn8) (win : Bool) (fc r info : Nat) : Dn8 :=
  let d1 : Dn8 := { d with lastAck := (r, info) }
  if win then d1.send 4 (leBytes 4 fc ++ leBytes 1 r ++ leBytes 2 info) else d1

/-- R118: execute command c with parameters p; `a` sends the ACK with RESULT and INFO. -/
def Dn8.command (d : Dn8) (n c : Nat) (p : List Byte) (a : Dn8 → Nat → Nat → Dn8) : Dn8 :=
  match c with
  | 1 => if p.length ≠ 4 then a d 2 0 else a { d with limPending := some (leAt p 0 2, leAt p 2 2) } 0 0
  | 2 => if p.length ≠ 3 ∨ leAt p 0 2 < 50 ∨ 1000 < leAt p 0 2 then a d 2 0
         else a { d with balTo := leAt p 0 2, tof := leAt p 2 1 } 0 0
  | 3 => if p.length ≠ 1 then a d 2 0 else a d 0 (Config.nodeInfo n (leAt p 0 1)).toNat
  | 4 => if p.length ≠ 41 ∨ leAt p 0 1 ≠ 1 - d.bank then a d 2 0
         else a { d with fw := some (leAt p 0 1, leAt p 1 4, leAt p 5 4, leAt p 9 32), fwData := [], fwNext := 0, staged := false } 0 0
  | 5 => if p.length ≠ 1 ∨ 1 < leAt p 0 1 ∨ (leAt p 0 1 ≠ d.bank ∧ !d.staged) then a d 2 0
         else { (a d 0 0).restart with bank := leAt p 0 1, trial := leAt p 0 1 != d.bank }
  | 6 => if p.length ≠ 20 then a d 2 0 else a { d with kLNew := some (unwrapKey d.kN (p.take 16), leAt p 16 4) } 0 0
  | 7 => if p.length ≠ 0 then a d 2 0 else (a d 0 0).restart
  | 8 => if p.length ≠ 0 then a d 2 0
         else ({ a d 0 0 with keyed := false, snid := 0, kL := 0, kLNew := none, index := none, epoch := 0 }.goTo .unpaired)
  | _ => a d 1 0

/-- R118, R141: a COMMAND at node n: executed in the window assigned to it, and LEAVE in any state; a repeated CSEQ is answered alike and
not executed again. (Log entry 55, DEDUCED.) -/
def Dn8.onCommand (d : Dn8) (n : Nat) (f : RxFrame) : Dn8 :=
  match d.frameOk 3 f with
  | none => d
  | some p =>
    let h := f.head
    let win := d.slotMine 1
    if p.length < 2 ∨ (!win ∧ leAt p 0 1 ≠ 8) then d
    else
      let d1 : Dn8 := { d with rxFc := d.rxFc.set h.unit (some h.fc) }
      if d1.lastCseq = some (leAt p 1 1) then d1.ack win h.fc d1.lastAck.1 d1.lastAck.2
      else { d1 with lastCseq := some (leAt p 1 1) }.command n (leAt p 0 1) (p.drop 2) (fun x r i => x.ack win h.fc r i)

/-- R118: NODE_COMMAND_RX. -/
def execNodeCommandRx (n : Fin 48) (f : RxFrame) (s : State) : Out := .next (s.modDn n (fun d => d.onCommand n f))

/-- R120: bytes of a firmware block in the node's link version. -/
def Dn8.blockSize (d : Dn8) : Nat := if d.ver = 3 then 96 else 64

/-- R120: the next expected offset in blocks; behind a short last block, the count that includes it. (Log entry 104, DESIGN CHOICE.) -/
def Dn8.nextBlock (d : Dn8) : Nat := (d.fwNext + d.blockSize - 1) / d.blockSize

/-- R120, R122: a block that is in order is written; the last one ends with the check of the image against DIGEST, whose failure is also a
staging fault. (Log entry 104, DESIGN CHOICE.) -/
def Dn8.firmware (d : Dn8) (n bank off : Nat) (block : List Byte) (a : Dn8 → Nat → Nat → Dn8) : Dn8 :=
  match d.fw with
  | none => if 0 < d.fwNext ∧ off ≠ d.fwNext then a d 5 d.nextBlock else a d 2 0
  | some (b, total, ver, digest) =>
    let data := d.fwData ++ block
    if bank ≠ b then a d 2 0
    else if off ≠ d.fwNext then a d 5 d.nextBlock
    else if block.length ≠ min d.blockSize (total - off) then a d 2 0
    else if off + block.length < total then a { d with fwNext := off + block.length, fwData := data } 0 0
    else if sha256 data = digest then
      a { d with fwNext := total, fw := none, fwData := data, staged := true, fwVer := d.fwVer.set b ver } 0 0
    else (a { d with fwNext := 0, fw := none, fwData := [], staged := false } 4 0).contend n 4 ([bank] ++ le4 off)

/-- R120: a FIRMWARE frame at node n. -/
def Dn8.onFirmware (d : Dn8) (n : Nat) (f : RxFrame) : Dn8 :=
  match d.frameOk 7 f with
  | none => d
  | some p =>
    if p.length < 5 ∨ !d.slotMine 2 then d
    else
      let h := f.head
      { d with rxFc := d.rxFc.set h.unit (some h.fc) }.firmware n (leAt p 0 1) (leAt p 1 4) (p.drop 5) (fun x r i => x.ack true h.fc r i)

/-- R120: NODE_FIRMWARE_RX. -/
def execNodeFirmwareRx (n : Fin 48) (f : RxFrame) (s : State) : Out := .next (s.modDn n (fun d => d.onFirmware n f))

/-! Join (R131 to R133, R141). -/

/-- R121, R125, R136, R141: an accept is stored and acknowledged under the epoch key it gives; FC goes on where the epoch is the node's own;
the thresholds wait for the next snapshot (R158), the node retunes where the accept names the other unit (R131), and draws for a
CONTENTION frame that waits. -/
def Dn8.accept (d : Dn8) (n : Nat) (p : List Byte) (fc : Nat) : Dn8 :=
  let same := decide (leAt p 16 4 = d.epoch)
  let d1 : Dn8 := { d with
    keyed := true, index := some (leAt p 9 1), ver := leAt p 11 1, snid := leAt p 12 4, epoch := leAt p 16 4, kL := leAt p 20 16
    kLNew := none, limPending := some (leAt p 36 2, leAt p 38 2), balTo := leAt p 40 2, tof := leAt p 42 1
    codes := (List.range 4).map (fun i => leAt p (43 + i) 1), lastCseq := none, joinCtr := fc
    fc := if same then d.fc else 0, rxFc := if same && leAt p 12 4 == d.snid then d.rxFc else [none, none] }
  let d2 := d1.ack true fc 0 0
  { (if d2.contQ.isEmpty then { d2 with be := 2 } else d2.draw n 2) with
    st := .synced, unit := leAt p 10 1 % 2, joinWait := false, replyWait := false, kackWait := none, timing := none
    next := none, missed := 0, reqs := 0 }

/-- R131, R137: a JOIN reply at the node: for its SERIAL, under its node key, in the slot announced with CNODE 0xFE. -/
def Dn8.onReply (d : Dn8) (n : Nat) (f : RxFrame) : Dn8 :=
  let h := f.head
  if d.st != .joining || d.silent || !f.fcs || h.typ != 5 || h.ver != 2 || h.dir || h.unit != d.unit || h.addr != 0x3E || h.epoch != 0 ||
      h.snid != d.target || h.fc ≤ d.joinCtr || !(d.timing.elim false (·.cNode == 0xFE)) then d
  else match f.openWith d.kN with
  | none => d
  | some p =>
    if leAt p 1 8 ≠ d.serial then d
    else if leAt p 0 1 = 2 ∧ p.length = 47 then d.accept n p h.fc
    else if leAt p 0 1 = 3 ∧ p.length = 10 then { d.listen with refuseWait := true, joinCtr := h.fc }
    else d

/-- R141: NODE_JOIN_REPLY_RX. -/
def execNodeJoinReplyRx (n : Fin 48) (f : RxFrame) (s : State) : Out := .next (s.modDn n (fun d => d.onReply n f))

/-- R131: NODE_JOIN_REPLY_TIMEOUT: the join starts again. -/
def execNodeJoinReplyTimeout (n : Fin 48) (s : State) : Out :=
  .next (s.modDn n (fun d => if d.st = .joining ∧ d.replyWait then { d.wantJoin n with replyWait := false } else d))

/-- R141: NODE_REFUSE_WAIT_END. -/
def execNodeRefuseWaitEnd (n : Fin 48) (s : State) : Out := .next (s.modDn n (fun d => { d with refuseWait := false }))

/-- R141: NODE_SCAN_CYCLE_END: with its own network heard, the node joins again. -/
def execNodeScanCycleEnd (n : Fin 48) (s : State) : Out :=
  .next (s.modDn n (fun d =>
    if d.st = .search ∧ !d.silent then
      if d.heard.contains d.snid ∧ !d.refuseWait then { (d.goTo .joining).wantJoin n with reqs := 0, target := d.snid }
      else { d with heard := [] }
    else d))

/-- R121: the payload of a JOIN request. -/
def Dn8.requestBytes (d : Dn8) : List Byte :=
  leBytes 1 1 ++ leBytes 8 d.serial ++ leBytes 1 d.lvMin ++ leBytes 1 d.lvMax ++ leBytes 1 d.hw ++ leBytes 4 (nth d.fwVer 0 0) ++
  leBytes 4 (nth d.fwVer 1 0) ++ leBytes 1 d.bank

/-- R125, R131: a JOIN request is sent under the node key, with the next value of the JOIN counter. -/
def Dn8.sendRequest (d : Dn8) : Dn8 :=
  let fc := d.joinCtr + 1
  let h : Head := { typ := 5, ver := 2, dir := true, unit := d.unit, snid := if d.keyed then d.snid else 0xFFFFFFFF, addr := 0x3E, fc := fc
                    epoch := 0 }
  { d with tx := sealFrame d.kN h d.requestBytes, joinCtr := fc, reqs := d.reqs + 1, kackWait := some (true, fc) }

/-- R122: the oldest CONTENTION frame is sent: EVENT and 8 bytes of DATA, zeros after those it fills. -/
def Dn8.sendEvent (d : Dn8) : Dn8 :=
  match d.contQ with
  | [] => d
  | (ev, data) :: _ => { d.send 6 (leBytes 1 ev ++ ((toBytes data) ++ List.replicate 8 0).take 8) with kackWait := some (false, d.fc) }

/-- R136: a contention slot of its unit comes at a node that has a frame to send: the node lets it pass, or sends. -/
def Dn8.contSlot (d : Dn8) : Dn8 :=
  let join := d.st == .joining && d.joinWait
  if d.silent || !(d.timing.elim false (fun b => 0 < b.kCount)) || d.kackWait.isSome || !(join || (d.linked && !d.contQ.isEmpty)) then d
  else if 0 < d.backoff then { d with backoff := d.backoff - 1 }
  else if join then d.sendRequest
  else d.sendEvent

/-- R136: NODE_CONTENTION_TX. -/
def execNodeContentionTx (n : Fin 48) (s : State) : Out := .next (s.modDn n Dn8.contSlot)

/-! The comparators and the loop switch (R155 to R157). -/

/-- R157: a contention slot of the node's unit follows the counter value c (32 bits) in the present frame. -/
def Dn8.slotFollows (d : Dn8) (c : Nat) : Bool :=
  d.linked && match d.timing with
  | some b =>
    let at_ := (((c : Int) - d.frameAt.floor) % (2 ^ 32 : Int) : Int)
    decide (0 < b.kCount) && decide ((at_ : Rat) < countsNs (b.kOff + (b.kCount - 1) * b.kPitch) * d.rate)
  | none => false

/-- R155 to R157: the comparator of a position: the group's voltage has been no nearer to the window than `held` (100 µV) for 1 ms; at or
above OV, or at or below UV, the comparator trips and the loop switch opens. -/
def Dn8.trip (d : Dn8) (n pos : Nat) (above : Bool) (held counter : Nat) : Dn8 :=
  if d.st = .powerOff ∨ (if above then held < 100 * d.ov else 100 * d.uv < held) then d
  else
    let m := putBit d.tripMap pos true
    let d1 : Dn8 := { d with loopClosed := false, ovTrip := d.ovTrip || above, uvTrip := d.uvTrip || !above, tripMap := m }
    if d.slotFollows counter then d1.contend n 3 ([m] ++ le4 counter) else d1

/-- R155 to R157: NODE_COMPARATOR_TRIP of a position at counter value `counter`. -/
def execNodeComparatorTrip (n : Fin 48) (pos : Fin 8) (above : Bool) (held counter : Nat) (s : State) : Out :=
  .next (s.modDn n (fun d => d.trip n pos above held counter))

/-- R156: NODE_LOOP_SWITCH_CLOSE: over the last 1 s every group of the node stayed from lo to hi (100 µV), 20 mV inside the window. -/
def execNodeLoopSwitchClose (n : Fin 48) (lo hi : Nat) (s : State) : Out :=
  .next (s.modDn n (fun d =>
    if d.st = .powerOff || d.selfFault || lo < 100 * d.uv + 200 || 100 * d.ov < hi + 200 then d
    else { d with loopClosed := true, supplyOk := true }))

/-- R156: NODE_SUPPLY_LOW. -/
def execNodeSupplyLow (n : Fin 48) (s : State) : Out :=
  .next (s.modDn n (fun d => { d with loopClosed := false, supplyOk := false }))

/-- R156, R122: NODE_SELF_CHECK_FAIL with its fault code. -/
def execNodeSelfCheckFail (n : Fin 48) (code : Nat) (s : State) : Out :=
  .next (s.modDn n (fun d => if d.st = .powerOff then d else { d with loopClosed := false, selfFault := true }.contend n 2 [code]))

/-! Restarts (R142, R472). -/

/-- R142, R122: NODE_OWN_RESTART with its reset cause. (Log entry 55, DEDUCED.) -/
def execNodeOwnRestart (n : Fin 48) (cause : Nat) (s : State) : Out :=
  .next (s.modDn n (fun d => if d.st = .powerOff then d else d.restart.contend n 1 [cause, d.bank]))

/-- R142: NODE_RESTART_DONE. -/
def execNodeRestartDone (n : Fin 48) (s : State) : Out := .next (s.modDn n (fun d => { d with silent := false }))

/-- R472: NODE_BANK_FALLBACK. -/
def execNodeBankFallback (n : Fin 48) (s : State) : Out :=
  .next (s.modDn n (fun d => if d.trial then { d.restart with bank := 1 - d.bank, trial := false } else d))

end Sys2Proof.Machine
end

