-- ==== Sys2Proof/Machine/Probe.lean ====
section
/-! DEFINITION. The impedance probe (R216 to R236): tagged steps, sets and points, samples, demodulation and the results
of each group. -/

namespace Sys2Proof.Machine

/-! Entries and steps (R86, R89). -/

/-- R86: M of a PROBE_PHASE_STEP. -/
def entCycles (w : Nat) : Nat := field w 79 64
/-- R86: D. -/
def entDecim (w : Nat) : Nat := field w 87 80 + 1
/-- R83: TONE. -/
def entTone (w : Nat) : Nat := field w 57 56

/-- R86, R216: M, D and PHASE0 (in 2⁻³² cycle) of entry e. -/
def toneEntry (m : Mem) (e w : Nat) : Nat × Nat × Nat :=
  (entCycles w, entDecim w, if entCont w then field (bankEntry m (e + 1)) 47 32 * 65536 else 0)

/-- R89: the entry of tone k in a bank. -/
def bankTone (m : Mem) (k : Nat) : Option (Nat × Nat × Nat) :=
  ((bankTable m).find? (fun x => entClass x.2 == 0x0A && entTone x.2 == k)).map (fun x => toneEntry m x.1 x.2)

/-- R89: the step that frame n carries for a tone of spacing d. -/
def stepOf (n d : Nat) : Option Nat := if n % d = 0 then some (n / d % 64) else none

/-! Sets and points (R219, R220, R222, R234). -/

/-- R219, R234: a pending write touches the set of spacing d: PRB_DWELL, the amplitude of a member, or the enable bit of a tone that joins
or leaves the set. -/
def State.touches (s : State) (d : Nat) (w : BwWrite) : Bool :=
  w.idx == P.prbDwell ||
  (List.range 4).any (fun k => (s.tone k).entry.isSome && (s.tone k).d == d &&
    ((w.idx == P.prbAmp0 + k && bitOf (s.parN P.prbEn) k) || (w.idx == P.prbEn && bitOf w.val.toNat k != bitOf (s.parN P.prbEn) k)))

/-- R234, R236: the first point boundary of a frame takes the writes that wait for one, and marks the sets that they touch. -/
def State.takePoint (s : State) : State :=
  if s.prb.tones.any (fun t => t.tagged == some 0) then s
  else
    let l := s.dict.pend.filter (fun w => decide (w.at_ = .on .point))
    let mark := fun (t : Tone) => { t with chg := t.chg || l.any (s.touches t.d) }
    ({ s with prb := { s.prb with tones := s.prb.tones.map mark } }).applyAt (.on .point)

/-- R219, R234: the point of tone k that begins now is a settle point. -/
def Tone.settles (t : Tone) (m p dwell : Nat) : Bool := (decide (1 < m) && p % dwell == 0) || t.fromRest || t.chg

/-- R219 to R222, R236: tone k at a point boundary: settings take effect, the completed point waits for its batches, and the tone that is
to be live is chosen, to change after the snapshot of this frame. The tone starts from rest until a point in which it has come alive. -/
def State.pointBoundary (s : State) (k : Nat) : State :=
  let s0 := s.modTone k (fun x => { x with fmin := s.parN P.prbConnFmin })
  let t := s0.tone k
  let m := (s0.toneSet t.d).length
  let suspended := s0.prb.suspended && decide (s0.prb.okNs < 1000000000)
  let want := !suspended && s0.toneAllowed t && s0.toneTurn k
  let settle := t.settles m (s0.fsq.n / (64 * t.d)) (s0.parN P.prbDwell)
  let s1 := s0.modTone k (fun x => { x with
    ready := if x.acc.on then some x.acc else none
    acc := ({ on := want, settle := settle, lim := s0.parN P.prbDistLim } : PointAcc)
    en := bitOf (s0.parN P.prbEn) k, amp := s0.parN (P.prbAmp0 + k), want := want, settle := want && settle
    chg := false, after := s0.fsq.snapAt
    cyc := (s0.fsq.snapAt.map (fun a => (s0.tonePhase x a).floor)).getD x.cyc })
  let s2 := { s1 with prb := { s1.prb with suspended := suspended } }
  if want && t.fromRest then
    { s2 with est := { s2.est with aux := s2.est.aux.map (fun a => { a with sinceRest := a.sinceRest.set k false }) } }
  else s2

/-- R89: frame n is tagged for tone k. -/
def State.tagTone (s : State) (k : Nat) (e : Nat × Nat × Nat) : State :=
  let j := stepOf s.fsq.n e.2.1
  let s0 := if j = some 0 then s.takePoint else s
  let s1 := s0.modTone k (fun t => { t with entry := some e, tagged := j })
  if j = some 0 then s1.pointBoundary k else s1

/-- R89: PROBE_PHASE_STEP. -/
def execProbePhaseStep (m : EntryIn) (s : State) : Out :=
  s.onEntry 0x0A m (fun t e w =>
    .next (t.unlessPilot (t.tagTone (entTone w) (toneEntry (t.fsq.bank t.fsq.active) e w))))

/-! Samples (R223, R224, R226, R227). -/

/-- R226: the slower tones live at the conversion of position i in step j: amplitude, and the generator's phase at t_i. -/
def State.slowAt (s : State) (t : Tone) (i j : Nat) : List (Nat × Nat × Nat × Nat × Rat) :=
  let ti := addT (s.fsq.snapAt.getD s.fsq.frameStart) (1000 * i : Nat)
  (indexed s.prb.tones).filterMap (fun ko =>
    if ko.2.live && ko.2.entry.isSome && decide (t.d < ko.2.d) then some (j, i, ko.1, ko.2.amp, s.genPhase ko.2 ti) else none)

/-- R226, R227: the slower tones of conversion i, and with i = 0 the CE's set point, enter the point at step j. -/
def PointAcc.latch (a : PointAcc) (i j : Nat) (ref : Int) (slow : List (Nat × Nat × Nat × Nat × Rat)) : PointAcc :=
  if a.on then { a with set := if i = 0 then a.set ++ [(j, ref)] else a.set, slow := a.slow ++ slow } else a

/-- R226, R227: what CURRENT_LATCH i adds to one tone. -/
def State.latchTone (s : State) (i : Nat) (t : Tone) : Tone :=
  match t.tagged with
  | none => t
  | some j =>
    let t1 := { t with acc := t.acc.latch i j s.ctl.iref (s.slowAt t i j) }
    if j = 0 then { t1 with ready := t1.ready.map (fun r => r.latch i 64 s.ctl.iref (s.slowAt t i 64)) } else t1

/-- R226, R227: CURRENT_LATCH i of a tagged step. -/
def State.probeLatch (s : State) (i : Nat) : State :=
  { s with prb := { s.prb with tones := s.prb.tones.map (s.latchTone i) } }

/-- R223: the sample of group g at step j; one step has one sample. -/
def PointAcc.sample (a : PointAcc) (g j : Nat) (r : GroupRec) : PointAcc :=
  if !a.on then a
  else
    let b := if r.suspect || r.openWire then { a with wires := if a.wires.contains g then a.wires else g :: a.wires } else a
    if r.old || b.v.any (fun x => x.1 == g && x.2.1 == j) then b
    else { b with v := (g, j, r.vRaw) :: b.v,
                  c := if b.c.any (fun x => x.1 == g % 8 && x.2.1 == j) then b.c else (g % 8, j, r.iLat) :: b.c }

/-! Demodulation (R225, R226). -/

/-- A complex number. -/
structure Cx where
  /-- real part -/
  re : Rat
  /-- imaginary part -/
  im : Rat
  deriving DecidableEq, Repr

/-- R225: w(j). -/
def dftW (j : Nat) : Cx := ⟨sinTurn ((j : Rat) / 64 + 1 / 4), -sinTurn ((j : Rat) / 64)⟩

/-- R225: the phasor of samples x(j), with drift d per step. -/
def phasor (x : List (Nat × Rat)) (d : Rat) : Cx :=
  let s := x.foldl (fun (a : Cx) (jx : Nat × Rat) =>
    let y := jx.2 - d * jx.1
    ⟨a.re + y * (dftW jx.1).re, a.im + y * (dftW jx.1).im⟩) ⟨0, 0⟩
  ⟨s.re / 32, s.im / 32⟩

/-- R225: −a / b. -/
def negDiv (a b : Cx) : Cx :=
  let n := b.re * b.re + b.im * b.im
  ⟨-(ratDiv 62 (a.re * b.re + a.im * b.im) n), -(ratDiv 63 (a.im * b.re - a.re * b.im) n)⟩

/-- R226: the slower tones' share of the current at step j, position i. -/
def slowC (a : PointAcc) (i j : Nat) : Rat :=
  (a.slow.filter (fun x => x.1 == j && x.2.1 == i)).foldl (fun t x => t + x.2.2.2.1 * sinTurn x.2.2.2.2) 0

/-- R226: the slower tones' share of the voltage of group g at step j. -/
def slowV (a : PointAcc) (r : GroupRec) (i j : Nat) : Rat :=
  (a.slow.filter (fun x => x.1 == j && x.2.1 == i)).foldl (fun t x =>
    t - ((nth r.zmag x.2.2.1 0 : Nat) : Rat) * x.2.2.2.1 / 100000000 *
      sinTurn (x.2.2.2.2 + ((nth r.zarg x.2.2.1 0 : Int) : Rat) / 36000)) 0

/-- R225: the samples of group g, steps 0 to 64, with the slower tones taken out: (step, v, c). -/
def PointAcc.xs (a : PointAcc) (g : Nat) (r : GroupRec) : List (Nat × Rat × Rat) :=
  (a.v.filter (fun x => x.1 == g)).filterMap (fun x =>
    match a.c.find? (fun y => y.1 == g % 8 && y.2.1 == x.2.1) with
    | some y => some (x.2.1, (x.2.2 : Rat) - slowV a r (g % 8) x.2.1, (y.2.2 : Rat) - slowC a (g % 8) x.2.1)
    | none => none)

/-- R225: the value of step j. -/
def xAt (l : List (Nat × Rat)) (j : Nat) : Rat := ((l.find? (fun x => x.1 == j)).map (·.2)).getD 0

/-- R225: the phasor of one quantity; `nd` leaves the drift term out. -/
def channel (l : List (Nat × Rat)) (nd : Bool) : Cx :=
  phasor (l.filter (fun x => decide (x.1 < 64))) (if nd then 0 else (xAt l 64 - xAt l 0) / 64)

/-- R225: ZMAG and ZARG of group g. -/
def PointAcc.result (a : PointAcc) (g : Nat) (r : GroupRec) (nd : Bool) : Nat × Int :=
  let x := a.xs g r
  let z := negDiv (channel (x.map (fun y => (y.1, y.2.1))) nd) (channel (x.map (fun y => (y.1, y.2.2))) nd)
  let mag := sqrtR (z.re * z.re + z.im * z.im) * 100000000
  -- a null phasor has no argument: a free value
  let arg : Rat := if z.re = 0 ∧ z.im = 0 then Config.divZero 65 0 else argCd z.re z.im
  ((clampI 0 0xFFFFFFFF (divRound 64 mag.num mag.den)).toNat, clampI (-18000) 18000 (divRound 65 arg.num arg.den))

/-! Outcomes (R227, R232). -/

/-- R227: a latched set point lies off the line from step 0 to the closing sample. -/
def PointAcc.offLine (a : PointAcc) : Bool :=
  match a.set.find? (fun x => x.1 == 0), a.set.find? (fun x => x.1 == 64) with
  | some x0, some x1 => a.set.any (fun x =>
      decide (64 * a.lim < (64 * (x.2 - x0.2) - x.1 * (x1.2 - x0.2)).natAbs))
  | _, _ => false

/-- R232: the code that bars the whole point. -/
def toneCode (a : PointAcc) : Nat :=
  if a.settle then 1 else if a.disturbed || a.offLine then 4 else 0

/-- R232: the code of group g, 0 where it publishes; `nd` where the point has no closing sample. -/
def State.groupCode (s : State) (a : PointAcc) (g : Nat) (nd : Bool) : Nat :=
  let steps := (a.v.filter (fun x => x.1 == g)).map (fun x => x.2.1)
  let n := (steps.filter (· < 64)).length
  if toneCode a ≠ 0 then toneCode a
  else if n + s.parN P.prbMissMax < 64 then 2
  else if !steps.contains 0 || (!nd && !steps.contains 64) then 3
  else if a.slowLive.any (fun k => !nth (s.ga g).sinceRest k false) ||
      a.slow.any (fun x => (!nd || decide (x.1 < 64)) && !nth (s.ga g).sinceRest x.2.2.1 false) then 5
  else if a.wires.contains g then 8
  else 0

/-- R231: the calibration table in use: (ARG, TEMP). -/
def State.tcal (s : State) : List (Int × Int) :=
  (List.range (s.parN P.prbTcalN)).map (fun i => (dec 16 (s.parN (P.prbTcal + i)), dec 16 (s.parN (P.prbTcal + i) / 65536)))

/-- R231: ARG strictly increasing. -/
def argsRise : List (Int × Int) → Bool
  | [] => true
  | [_] => true
  | a :: b :: l => decide (a.1 < b.1) && argsRise (b :: l)

/-- R231: TINT and TINT_CLAMP by interpolation. -/
def tintOf (arg : Int) : List (Int × Int) → Int × Bool
  | [] => (0, true)
  | [a] => (a.2, decide (arg ≠ a.1))
  | a :: b :: l =>
    if arg < a.1 then (a.2, true)
    else if arg ≤ b.1 then (a.2 + divFree 67 ((b.2 - a.2) * (arg - a.1)) (b.1 - a.1), false)
    else tintOf arg (b :: l)

/-- R231: the internal temperature of group g after a publication of PRB_TINT_TONE. -/
def State.tint (s : State) (g : Nat) (arg : Int) : State :=
  let l := s.tcal
  let bad := decide (l.length < 2) || !argsRise l
  let s1 := { s with prb := { s.prb with tcalBad := bad } }
  if bad then s1.modGa g (fun a => { a with tintValid := false })
  else
    let s2 := s1.modGa g (fun a => { a with tint := (tintOf arg l).1, tintClamp := (tintOf arg l).2, tintValid := true })
    { s2 with thm := { s2.thm with tintTicks := s2.thm.tintTicks.set g 0 } }

/-- R228, R229, R231: tone k publishes a result for group g. -/
def State.publish (s : State) (k g : Nat) (z : Nat × Int) (nd : Bool) : State :=
  let s1 := (s.modRec g (fun r => { r with zmag := r.zmag.set k z.1, zarg := r.zarg.set k z.2 }.write)).modGa g
    (fun a => { a with prbValid := a.prbValid.set k true, prbNd := a.prbNd.set k nd, sinceRest := a.sinceRest.set k true })
  if s.parN P.prbTintTone = k then s1.tint g z.2 else s1

/-- R231: a write of the calibration table waits for the next publication. -/
def State.tcalDue (s : State) : Bool :=
  s.dict.pend.any (fun w => decide (w.at_ = .on .publish) && decide (P.prbTcalN ≤ w.idx) && decide (w.idx < P.prbTcal + 16))

/-- R231, R236: the writes that wait for a publication take effect; a new table clears TINT_VALID in every group. -/
def State.takePublish (s : State) : State :=
  if s.dict.pend.any (fun w => decide (w.at_ = .on .publish)) then
    let s1 := s.applyAt (.on .publish)
    if s.tcalDue then
      { s1 with est := { s1.est with aux := s1.est.aux.map (fun (a : GroupAux) => { a with tintValid := false }) }
                prb := { s1.prb with tcalBad := decide (s1.tcal.length < 2) || !argsRise s1.tcal } }
    else s1
  else s

/-- R232, R236: tone k and group g at the end of a point: the code follows from the settings in force, and a publication takes those that
wait for one. -/
def State.closeGroup (s : State) (k g : Nat) (nd : Bool) (a : PointAcc) : State × PointAcc :=
  let c := s.groupCode a g nd
  let b := { a with seen := g :: a.seen }
  if c = 0 then (s.takePublish.publish k g (a.result g (s.gr g) nd) nd, { b with some_ := true }) else (s, { b with why := c })

/-- R224, R225: group g enters tone k, and its completed point closes where the frame carries step 0. -/
def State.probeTone (s : State) (g k : Nat) : State :=
  let t := s.tone k
  match t.tagged with
  | none => s
  | some j =>
    let s1 := s.modTone k (fun x => { x with acc := x.acc.sample g j (s.gr g) })
    if j ≠ 0 then s1
    else match t.ready with
      | none => s1
      | some r =>
        if r.seen.contains g then s1
        else
          let x := s1.closeGroup k g false (r.sample g 64 (s.gr g))
          x.1.modTone k (fun y => { y with ready := some x.2 })

/-- R223: the probe task for node n. -/
def State.probeNode (s : State) (n : Nat) : State :=
  (List.range 8).foldl (fun t p => (List.range 4).foldl (fun u k => u.probeTone (8 * n + p) k) t) s

/-- R232, R235: a tone's point is over: its counters. -/
def State.pointOver (s : State) (k : Nat) (a : PointAcc) : State :=
  let s1 := if a.some_ then s.modTone k (fun t => { t with published := addSat 16 t.published 1 }) else s
  if a.why ≠ 0 then
    { s1.modTone k (fun t => { t with reason := a.why }) with prb := { (s1.modTone k (fun t => { t with reason := a.why })).prb with
      discCnt := incSat 16 s1.prb.discCnt } }
  else s1

/-- R232: the groups that no batch closed in the frame of the closing sample. -/
def State.closeRest (s : State) (k : Nat) (nd : Bool) (a : PointAcc) : State :=
  let x := (List.range 384).foldl (fun (x : State × PointAcc) g =>
    if x.2.seen.contains g then x else x.1.closeGroup k g nd x.2) (s, a)
  x.1.pointOver k x.2

/-- R94, R219, R232: the frame is the first of a point of tone k, and its entry was not executed: the point in progress ends without a
closing sample, and the one that begins has no step 0. -/
def State.probeMissed (s : State) (k : Nat) : State :=
  let t := s.tone k
  if t.entry.isSome && s.fsq.running && stepOf s.fsq.n t.d == some 0 && t.tagged != some 0 then s.takePoint.pointBoundary k else s

/-- R232: FRAME_END for tone k: a point whose closing sample fell in this frame, or was missed in it, is over. -/
def State.probeEndTone (s : State) (k : Nat) : State :=
  let s1 := match (s.tone k).ready with
    | some r => s.closeRest k false r
    | none => s
  s1.modTone k (fun x => { x with tagged := none, ready := none, after := none })

/-- R232: a swap takes effect after this frame: a point that has reached step 63 is published without the drift term, any other in
progress is discarded. (Log entry 30, DEDUCED.) -/
def State.probeSwapTone (s : State) (k : Nat) : State :=
  let t := s.tone k
  let s1 := if !t.acc.on then s
    else if t.tagged = some 63 ∨ t.acc.set.any (fun x => x.1 == 63) then s.closeRest k true t.acc
    else s.pointOver k { t.acc with why := 7 }
  s1.modTone k (fun x => { x with acc := {}, fromRest := true, want := false, live := false, settle := false })

/-- The probe's part of FRAME_END. -/
def State.probeEnd (s : State) : State :=
  if s.inPilot then s
  else
    let s0 := (List.range 4).foldl State.probeMissed s
    let s1 := if s0.fsq.swapped then (List.range 4).foldl State.probeSwapTone s0 else s0
    (List.range 4).foldl State.probeEndTone s1

/-- R89: the tones' entries follow the bank that becomes active. -/
def State.loadTones (s : State) : State :=
  let m := s.fsq.bank s.fsq.active
  { s with prb := { s.prb with tones := (indexed s.prb.tones).map (fun kt =>
    { kt.2 with entry := bankTone m kt.1, live := kt.2.live && (bankTone m kt.1).isSome }) } }

/-- R232, R234: points in progress, and those that wait for their batches, are discarded with 0x07; every tone starts from rest, and
nothing is clamped or suspended. -/
def State.probeRestart (s : State) : State :=
  let s1 := (List.range 4).foldl (fun t k =>
    let x := t.tone k
    let t1 := match x.ready with | some r => t.pointOver k { r with why := 7 } | none => t
    (if x.acc.on then t1.pointOver k { x.acc with why := 7 } else t1).modTone k
      (fun x => { x with acc := {}, ready := none, tagged := none, fromRest := true, want := false, live := false, settle := false
                         after := none })) s
  { s1 with prb := { s1.prb with clamp := false, suspended := false, okNs := 0 } }

end Sys2Proof.Machine
end

