-- ==== Sys2Proof/Machine/Measure.lean ====
section
/-! DEFINITION. Cell group measurement (R146 to R181): current latches, reports and group records, flight times, wiring
and switch tests, plausibility, STALE and LOST, and the snuffer loop class. -/

namespace Sys2Proof.Machine

/-! Node commands that the module queues (R119, R128, R158). -/

/-- R128, R145: SET_TIMING for node n with TOF ns, and FNL_BAL_TIMEOUT as it was last written.
A write of FNL_BAL_TIMEOUT alone sends none. (Log entry 107, DEDUCED.) -/
def State.queueTiming (s : State) (n ns : Nat) : State :=
  let s1 := s.applyAt (.on .join)
  s1.queueCmd n 2 (le2 (s1.parN P.fnlBalTimeout) ++ [ns]) none

/-- R158: SET_LIMITS with the values of the voted mirror (R426). -/
def State.queueLimits (s : State) (n : Nat) : State :=
  (s.queueCmd n 1 (le2 (s.mir P.meaCmpOv).toNat ++ le2 (s.mir P.meaCmpUv).toNat) none).modNl n
    (fun l => { l with limitsSent := true })

/-! Current latches (R87, R152, R183, R368). -/

/-- R368: a difference above 2 % of 1,600 A from the owner's latch. -/
def State.latchFar (s : State) (i : Nat) (ma : Int) : Bool :=
  s.prl.copy.isSome && decide (32000 < (ma - (s.gr i).iLat).natAbs)

/-- R211, R486: a new owner's first snapshot: the string charge since the last mirrored frame is not counted. -/
def State.logUncounted (s : State) (qint : Int) : State :=
  if s.prl.takeKind = 0 then s
  else ({ s with prl := { s.prl with takeKind := 0 } }).logPost 4 0x0B04 1
    ([s.prl.takeKind, 0] ++ le4 (encSat 32 (divFree 82 (qint - s.prl.qintAt) 1000)))

/-- R152, R183: the latches of one conversion; with CONV 0 the running integral, which has grown by dq, is latched as QINT, 64 bits. -/
def State.latch (s : State) (w : Nat) (ma vStr vBus dq : Int) : State :=
  let i := field w 66 64
  let qint := dec 64 (enc 64 (s.est.qintRun + dq))
  let s1 := { s with fsq := { s.fsq with latches := s.fsq.latches.set i ma
                                         vStrLatch := if bitOf w 72 then vStr else s.fsq.vStrLatch
                                         vStr0 := if bitOf w 72 && i == 0 then vStr else s.fsq.vStr0
                                         vBusLatch := if bitOf w 73 then vBus else s.fsq.vBusLatch } }
  let done := if s1.est.takeQint then List.replicate 48 qint else s1.est.qintDone
  let s2 : State := if i = 0 then { s1.logUncounted qint with
    est := { s1.est with qintRun := qint, qint := qint, takeQint := false, qintDone := done } } else s1
  if s2.inPilot && s2.latchFar i ma then { s2 with prl := { s2.prl with latchDiff := true } } else s2

/-- R152, R183: CURRENT_LATCH with the means over the window, and the charge (µC) that has passed since CONV 0 was last latched. -/
def execCurrentLatch (m : EntryIn) (ma vStr vBus dq : Int) (s : State) : Out :=
  s.onEntry 0x05 m (fun t _ w =>
    .next ((t.latch w ma vStr vBus dq).probeLatch (field w 66 64)))

/-- R87: SNAPSHOT. -/
def execSnapshot (m : EntryIn) (s : State) : Out := s.onEntry 0x04 m (fun t _ w => .next (t.markSnapshot w))

/-! Group records (R153, R154, R162, R172 to R176). -/

/-- R154: position p borders wires p and p + 1. -/
def wireBit (mask p : Nat) : Bool := bitOf mask p || bitOf mask (p + 1)

/-- The flags that every write of a record of node n carries. -/
def GroupRec.flags (r : GroupRec) (m : MNode) (p : Nat) : GroupRec :=
  { r with lost := m.lost, suspect := wireBit m.wSuspect p, openWire := wireBit m.wOpen p, balStuck := bitOf m.bstStuck p,
           sumFail := m.sumFail }

/-- R153: I_i − I_0 in 10 mA, saturating (rounding left open). -/
def diOf (ii i0 : Int) : Int := clampI (-32768) 32767 (divFree 30 (ii - i0) 10)

/-- R162: beacon B with this frame number among those the unit sent. -/
def RUnit.beaconNo (x : RUnit) (no : Nat) : Option Beacon := x.sent.find? (fun b => b.frameNo == no)

/-- R162: BDUR in µs (rounding left open). -/
def durUs (b : Beacon) : Nat := (divFree 31 b.bDur 1000).toNat

/-- R142, R162: the balancing timeout of node n, ns: as the node acknowledged it, or the parameter where it has not since BOOT. -/
def State.balTimeNs (s : State) (n : Nat) : Nat := ((s.nl n).balTo.getD (s.parN P.fnlBalTimeout)) * 1000000

/-- R162: BAL_ON of position p of node n with an accepted report of BMISS b. With b saturated at 15 no beacon B can be told, and BAL_ON is
0. (Log entry 76, DESIGN CHOICE.) -/
def State.balOnReport (s : State) (n p b : Nat) : Nat :=
  if bitOf (s.mn n).bstStuck p then s.frameNs / 1000
  else if 15 ≤ b then 0
  else match (s.unit (s.nl n).unit).beaconNo ((s.fsq.frameCnt + 2 ^ 32 - 1 - b) % 65536) with
    | none => 0
    | some x =>
      let until_ := x.startDt + b * s.frameNs + x.bOff + x.bDur
      if bitOf (nth x.bleed (n - x.rFirst) 0) p && x.covers n && until_ ≤ s.balTimeNs n then durUs x else 0

/-- R162: BAL_ON of position p of node n without a report. -/
def State.balOnMiss (s : State) (n p : Nat) : Nat :=
  if bitOf (s.mn n).bstStuck p then s.frameNs / 1000
  else match (s.unit (s.nl n).unit).beaconNo ((s.fsq.frameCnt + 2 ^ 32 - 1) % 65536) with
    | none => 0
    | some x =>
      if bitOf (nth x.bleed (n - x.rFirst) 0) p && x.covers n &&
          (s.mn n).quietNs + s.frameNs ≤ s.balTimeNs n then durUs x else 0

/-- Change the eight records of node n. -/
def State.modNode (s : State) (n : Nat) (f : Nat → GroupRec → GroupRec) : State :=
  (List.range 8).foldl (fun t p => t.modRec (8 * n + p) (f p)) s

/-- R172, R176: the reason of a frame without a valid sweep, where `own` is the node's own. (Log entry 49, DEDUCED.) -/
def State.staleReason (s : State) (own : Nat) : Nat :=
  if s.fsq.transFrame then 5 else if s.fsq.lateSnap then 4 else own

/-- R162, R172: the node's records keep their values and are marked STALE with a reason; `rep` is the BMISS of an accepted report whose
sweep is not valid. (Log entry 59, DEDUCED.) A frame whose own reason is counted but whose record shows 0x06, at the first write after the
CSM's return, is not counted toward LOST. (Log entry 77, DESIGN CHOICE.) -/
def State.writeStale (s : State) (n own : Nat) (rep : Option Nat) : State :=
  let why := s.staleReason own
  let absent := !s.up 6
  let code := if absent then 6 else if (s.mn n).csmMissed then 6 else why
  let fr := s.fsq.frameCnt % 65536
  let s1 := s.modMn n (fun m => { m with stale := true, age := min 255 (m.age + 1), validNow := false, decided := true
                                         reason := if absent then 6 else code, csmMissed := absent, quietNs := m.quietNs + s.frameNs })
  let s2 := if absent then s1
    else s1.modNode n (fun p r => ({ r with stale := true, age := min 255 (r.age + 1), reason := code, frame := fr,
                                            balOn := rep.elim (s.balOnMiss n p) (s.balOnReport n p) }.flags (s1.mn n) p).write)
  { s2 with sag := { s2.sag with
      ovRun := (List.range 8).foldl (fun l p => l.set (8 * n + p) 0) s2.sag.ovRun
      uvRun := (List.range 8).foldl (fun l p => l.set (8 * n + p) 0) s2.sag.uvRun
      otRun := s2.sag.otRun.set n 0 } }

/-! What a report says (R116). -/

/-- R116: fields of a REPORT payload. -/
structure Report where
  /-- FRAME_NO -/
  frameNo : Nat
  /-- V0 to V7 -/
  v : List Nat
  /-- T0 to T3 -/
  t : List Int
  /-- VSUP -/
  vsup : Nat
  /-- VREF -/
  vref : Nat
  /-- STATUS -/
  status : Nat
  /-- TCODE -/
  tcode : Nat
  /-- TVAL -/
  tval : Int
  /-- BRX -/
  brx : Nat
  /-- RTX -/
  rtx : Nat
  /-- TRIPMAP; none in version 2 -/
  tripMap : Option Nat
  deriving DecidableEq, Repr

/-- R116: the fields of a payload. -/
def reportOf (p : List Byte) : Report :=
  { frameNo := leAt p 0 1, v := (List.range 8).map (fun i => leAt p (1 + 2 * i) 2)
    t := (List.range 4).map (fun i => dec 16 (leAt p (17 + 2 * i) 2)), vsup := leAt p 25 2, vref := leAt p 27 2
    status := leAt p 29 2, tcode := leAt p 31 1, tval := dec 16 (leAt p 32 2), brx := leAt p 34 4, rtx := leAt p 38 4
    tripMap := if p.length = 43 then some (leAt p 42 1) else none }

/-- R117: BMISS. -/
def Report.bmiss (r : Report) : Nat := field r.status 11 8

/-- R157: positions whose TRIP is set: those of TRIPMAP, or all eight of a version 2 node that reports a trip. -/
def Report.trips (r : Report) : Nat :=
  match r.tripMap with
  | some m => m
  | none => if bitOf r.status 0 || bitOf r.status 1 then 255 else 0

/-! Flight time (R147). -/

/-- R147: picoseconds of one count of the ranging counter. -/
def countPs : Rat := (1000000000000 : Rat) / 63897600000

/-- R147: the node's counts in one of the module's, from this report's beacon and the one before; none where there is none before. -/
def MNode.rhoNow (m : MNode) (brx txLt : Nat) : Option Rat :=
  match m.tofPrev with
  | none => none
  | some (c, t) =>
    if t = txLt then m.rho
    else some (ratDiv 32 (((brx + 2 ^ 32 - c) % 2 ^ 32 : Nat) : Rat) (((txLt + 2 ^ 40 - t) % 2 ^ 40 : Nat) : Rat))

/-- R128, R147: a sample of node n, in ps, enters the estimate or is rejected; an estimate that has moved more than 2 ns is sent. -/
def State.tofTake (s : State) (n : Nat) (sample : Rat) : State :=
  let m := s.mn n
  if 50000 < sample - m.tofEst ∨ 50000 < m.tofEst - sample then s.modMn n (fun x => { x with tofRej := incSat 16 x.tofRej })
  else
    let est := m.tofEst + (sample - m.tofEst) / s.parN P.meaTofAvg
    let far := 2000 < est - 1000 * (m.tofSent : Rat) ∨ 2000 < 1000 * (m.tofSent : Rat) - est
    let ns := (clampI 0 255 (ratFree 34 (est / 1000))).toNat
    let s2 := s.modMn n (fun x => { x with tofEst := est })
    if far ∧ !s.sys.mgpAway then (s2.modMn n (fun x => { x with tofSent := ns })).queueTiming n ns else s2

/-- R147: the round trip of beacon and report, less the node's own time scaled by q, halved, less the antenna delay of unit u; in ps. -/
def State.tofOf (s : State) (u : Nat) (r : Report) (rxLt txLt : Nat) (q : Rat) : Rat :=
  let d : Rat := (((rxLt + 2 ^ 40 - txLt) % 2 ^ 40 : Nat) : Rat) - ratDiv 33 (((r.rtx + 2 ^ 32 - r.brx) % 2 ^ 32 : Nat) : Rat) q
  d * countPs / 2 - (if u = 0 then s.par P.meaAntDlyU0 else s.par P.meaAntDlyU1)

/-- R128, R147: the flight-time sample of an accepted report and what follows from it: SET_TIMING where the estimate has moved by more than
2 ns from the TOF last sent; while the MGP is away none is sent. -/
def State.tofSample (s : State) (u n : Nat) (r : Report) (rxLt : Nat) : State :=
  match (s.unit u).beaconNo ((s.fsq.frameCnt + 2 ^ 32 - 1 - r.bmiss) % 65536) with
  | none => s
  | some b =>
    if 15 ≤ r.bmiss then s
    else
      let rho := (s.mn n).rhoNow r.brx b.txLt
      let s1 := s.modMn n (fun x => { x with tofPrev := some (r.brx, b.txLt), rho := rho })
      match rho with
      | none => s1
      | some q => s1.tofTake n (s.tofOf u r rxLt b.txLt q)

/-! Wiring tests (R163 to R168). -/

/-- R167: wire k of node n after a test with shift tval. -/
def MNode.wire (m : MNode) (k : Nat) (fails : Bool) : MNode :=
  if fails then
    if bitOf m.wOpen k then { m with wPass := m.wPass.set k 0 }
    else if bitOf m.wSuspect k then
      { m with wSuspect := putBit m.wSuspect k false, wOpen := putBit m.wOpen k true, wPass := m.wPass.set k 0 }
    else { m with wSuspect := putBit m.wSuspect k true }
  else
    let p := nth m.wPass k 0 + 1
    let m1 := { m with wSuspect := putBit m.wSuspect k false, wPass := m.wPass.set k p }
    if bitOf m.wOpen k ∧ 2 ≤ p then { m1 with wOpen := putBit m1.wOpen k false } else m1

/-- R204: a learning cycle of group g is disarmed, with LEARN_BAR where the table says so. -/
def GroupRec.disarm (r : GroupRec) (bar : Bool) : GroupRec := { r with learnArmed := false, learnBar := r.learnBar || bar }

/-- R154: the positions that border wire k. -/
def bordering (k : Nat) : List Nat := (if k = 0 then [] else [k - 1]) ++ (if k = 8 then [] else [k])

/-- R178, R343: the level of the open-wire fault. -/
def State.degWire (s : State) : State := s.setDeg 1 (s.mea.nodes.any (fun m => m.wOpen != 0))

/-- R167: an open-wire result of node n. -/
def State.openWire (s : State) (n k : Nat) (tval : Int) : State :=
  let before := s.mn n
  let s1 := s.modMn n (fun m => m.wire k (decide (s.parN P.meaOwLim < tval.natAbs)))
  let after := s1.mn n
  let s2 := if bitOf after.wSuspect k && !bitOf before.wSuspect k then
      s1.logPost 0 0x0401 2 ([n, k] ++ le2 (enc 16 tval)) else s1
  let s3 := if bitOf after.wOpen k && !bitOf before.wOpen k then
      (bordering k).foldl (fun t p => t.modRec (8 * n + p) (·.disarm true)) (s2.logPost 0 0x0402 3 [n, k]) else s2
  s3.degWire

/-- R163: I_exp of a group of voltage v in 100 µV and resistor r in mΩ, in mA: its nearest whole value, as the example of R164 has it,
where the fraction is below one half (otherwise the rounding is left open). (Log entry 52, DEDUCED.) -/
def iExp (v r : Nat) : Int :=
  if 2 * (100 * v % r) < r then ((100 * v / r : Nat) : Int) else divFree 99 (100 * (v : Int)) r

/-- R163, R164: the class of a switch-test result: 0 below 10 %, 1 below MEA_BST_LO, 2 pass, 3 above MEA_BST_HI, 4 above 160 % of I_exp.
(Log entry 52, DEDUCED.) -/
def State.bstClass (s : State) (g v : Nat) (tval : Int) : Nat :=
  let e := iExp v (s.parN (P.group g 0))
  let x := 100 * tval
  if x < 10 * e then 0 else if x < s.par P.meaBstLo * e then 1 else if x ≤ s.par P.meaBstHi * e then 2
  else if x ≤ 160 * e then 3 else 4

/-- R164: the decision of a complete pass: the row of R164 for each position, 0 for none. -/
def bstRows (c : List Nat) : List Nat :=
  let hi := (c.filter (3 ≤ ·)).length
  if c.all (· == 0) then List.replicate 8 4
  else if (c.filter (· == 2)).length = 1 ∧ (c.filter (· == 4)).length = 7 then c.map (fun x => if x = 2 then 3 else 0)
  else c.map (fun x => if x ≤ 1 then 1 else if 3 ≤ x ∧ hi = 1 then 2 else 0)

/-- R164: the masks of a decision, by row. -/
def bstMasks (rows : List Nat) : List Nat := (List.range 4).map (fun r => maskOf (rows.map (· == r + 1)))

/-- R164: decisions declared after a pass that gives `now`, the pass before having given `prev`: one that both give is declared, one that
neither gives is cleared, and any other stands as it was. -/
def twoPass (now prev cur : Nat) : Nat := (cur &&& prev) ||| (now &&& (cur ||| prev))

/-- R164: log one position's decision. -/
def State.logBst (s : State) (n p row : Nat) : State :=
  let s1 := s.logPost 0 0x0403 (if row = 1 then 2 else 3) [n, p, row]
  if row = 3 then s1.attn 8 3 [n, p] else s1

/-- R164: the decisions of row r that the pass has newly declared are logged, that of a failed sense once. -/
def State.logRow (s : State) (n r fresh : Nat) : State :=
  if r = 4 then (if fresh = 0 then s else s.logBst n 0 4)
  else ((List.range 8).filter (bitOf fresh)).foldl (fun t p => t.logBst n p r) s

/-- R164: a complete pass over node n. -/
def State.passDone (s : State) (n : Nat) (pass : List (Option Nat)) : State :=
  let m := s.mn n
  let cur := bstMasks (bstRows (pass.map (·.getD 2)))
  let decl := (List.range 4).map (fun r => twoPass (nth m.bstDecl r 0) (nth m.bstPrev r 0) (nth cur r 0))
  let s1 := s.modMn n (fun x => { x with
    bstFail := nth decl 0 0 ||| nth decl 1 0 ||| nth decl 3 0, bstStuck := nth decl 2 0, bstDecl := decl, bstPrev := cur
    bstPass := List.replicate 8 none })
  (List.range 4).foldl (fun t r => t.logRow n (r + 1) (nth decl r 0 &&& (255 ^^^ nth m.bstDecl r 0))) s1

/-- R88, R164: a switch-test result of node n. The cursor walks the eight positions in eight frames: a result that does not follow the one
before by one position and one frame starts a pass anew.
A pass that lacks a result neither counts nor breaks a run. (Log entry 109, DESIGN CHOICE.) -/
def State.switchTest (s : State) (n p v : Nat) (tval : Int) : State :=
  let m := s.mn n
  let fr := s.fsq.frameCnt
  let follows := p ≠ 0 ∧ (nth m.bstPass (p - 1) none).isSome ∧ (nth m.bstPass p none).isNone ∧ fr = inc32 m.bstFrame
  let start := if follows then m.bstPass else List.replicate 8 none
  let pass := start.set p (some (s.bstClass (8 * n + p) v tval))
  if pass.any (·.isNone) then s.modMn n (fun x => { x with bstPass := pass, bstFrame := fr })
  else s.passDone n pass

/-- R163, R167: the test result that a report carries.
I_exp follows from V_RAW of the report that carries the result. (Log entry 111, DEDUCED.) -/
def State.testResult (s : State) (n : Nat) (r : Report) : State :=
  let k := field r.tcode 5 2
  if r.tcode % 4 = 1 ∧ k ≤ 8 then s.openWire n k r.tval
  else if r.tcode % 4 = 2 ∧ k ≤ 7 then s.switchTest n k (nth r.v k 0) r.tval
  else s

/-! Sum plausibility of a node (R170). -/

/-- R170: the sum check of a valid sweep. -/
def State.nodeSum (s : State) (n : Nat) (r : Report) : State :=
  let diff : Int := (sumN r.v : Int) - 10 * r.vsup
  let bad := 10 * s.parN P.meaNodeSumTol < diff.natAbs
  let m := s.mn n
  let b := if bad then m.sumBad + 1 else 0
  let k := if bad then 0 else m.sumOk + 1
  let fail := if m.sumFail then decide (k < 3) else decide (3 ≤ b)
  let s1 := s.modMn n (fun x => { x with sumBad := b, sumOk := k, sumFail := fail })
  if fail && !m.sumFail then s1.logPost 0 0x0404 2 ([n, 0] ++ le2 (encSat 16 (divFree 35 diff 10))) else s1

/-! Reports (R137, R153, R172). -/

/-- R330: the saggar's run of a value beyond its limit in consecutive valid sweeps. -/
def runNext (beyond : Bool) (k : Nat) : Nat := if beyond then k + 1 else 0

/-- R330: the saggar's runs of node n after a valid sweep. -/
def State.sagSweep (s : State) (n : Nat) (r : Report) : State :=
  let ov := fun (l : List Nat) (p : Nat) => l.modify (8 * n + p) (runNext (decide (s.saf P.sagOvHard ≤ nth r.v p 0)))
  let uv := fun (l : List Nat) (p : Nat) => l.modify (8 * n + p) (runNext (decide (((nth r.v p 0 : Nat) : Int) ≤ s.saf P.sagUvHard)))
  { s with sag := { s.sag with
      ovRun := (List.range 8).foldl ov s.sag.ovRun
      uvRun := (List.range 8).foldl uv s.sag.uvRun
      otRun := s.sag.otRun.modify n (runNext (r.t.any (fun t => decide (s.saf P.sagOtCell ≤ t)))) } }

/-- R153, R172, R174, R175: the records of a valid sweep are written, and MISS_RUN is reset. (Log entry 59, DEDUCED.)
A valid sweep shows reason 0x00 also on the first write after the CSM's return. (Log entry 110, DEDUCED.) -/
def State.writeValid (s : State) (n : Nat) (r : Report) : State :=
  let fr := s.fsq.frameCnt % 65536
  let coast := bitOf r.status 4
  let s1 := s.modMn n (fun m => { m with
    stale := false, coast := coast, quietNs := 0, trip := bitOf r.status 0 || bitOf r.status 1 || r.trips != 0
    ntcFault := bitOf r.status 12, age := 0, reason := 0, missRun := 0, validNow := true, decided := true, csmMissed := false
    vsup := r.vsup, vref := r.vref, status := r.status, tcode := r.tcode, tval := r.tval, frame := fr, t := r.t, v := r.v
    brx := r.brx, rtx := r.rtx, tripMap := r.tripMap.getD 0, reports := m.reports + 1 })
  let i0 := nth s.fsq.latches 0 0
  (s1.modNode n (fun p rec0 => ({ rec0 with
    stale := false, coast := coast, trip := bitOf r.trips p, age := 0, reason := 0, frame := fr, vRaw := nth r.v p 0
    vS := nth r.v p 0, iLat := nth s.fsq.latches p 0, t := nth r.t (p / 2) 0, balOn := s.balOnReport n p r.bmiss
    di := diOf (nth s.fsq.latches p 0) i0 }.flags (s1.mn n) p).write)).sagSweep n r

/-- R151: VREF in its window. -/
def vrefOk (v : Nat) : Bool := 24960 ≤ v && v ≤ 25040

/-- R147, R172: an accepted report of node n gives a flight-time sample, and is a valid sweep, or its records are marked STALE.
A FRAME_NO that differs is named before a VREF out of its window. (Log entry 108, DESIGN CHOICE.) -/
def State.sweep (s : State) (u n rxLt : Nat) (p : List Byte) : State :=
  let r := reportOf p
  let s0 := s.tofSample u n r rxLt
  if s.fsq.transFrame || s.fsq.lateSnap || !s.up 6 then s0.writeStale n 1 (some r.bmiss)
  else if r.frameNo ≠ s.fsq.frameCnt % 256 then s0.writeStale n 2 (some r.bmiss)
  else if !vrefOk r.vref then s0.writeStale n 3 (some r.bmiss)
  else
    let s2 := ((s0.nodeSum n r).testResult n r).writeValid n r
    (if (s2.nl n).limitsSent ∨ s2.sys.mgpAway then s2 else s2.queueLimits n).rollSweep n

/-- R144: the link state that an accepted report of version v shows. -/
def NLink.reported (l : NLink) (v : Nat) (p : List Byte) : NLink :=
  { l with st := if bitOf (leAt p 29 2) 4 then 3 else 2, ver := v
           bank := if bitOf (leAt p 29 2) 6 then 1 else 0, staged := bitOf (leAt p 29 2) 7 }

/-- R137, R153: REPORT_RX in the window of node n. -/
def execReportRx (u : Fin 2) (n : Fin 48) (f : RxFrame) (s : State) : Out :=
  let open_ := (s.unit u.val).expect.contains n.val
  let h := f.head
  let form := s.formOk u.val 2 (if h.ver = 3 then 43 else 42) f && h.addr == n.val
  if !open_ then .next s
  else match s.rxCheck f form with
    | .error k => .next (s.rxCount u.val h.addr k)
    | .ok p =>
      let s1 := ((s.rxAccept f).modUnit u.val (fun x => { x with expect := x.expect.filter (· != n.val) })).modNl n.val (·.reported h.ver p)
      .next (if s1.inPilot then s1 else s1.sweep u.val n.val f.rxLt p)

/-- R137: REPORT_WINDOW_MISS of node n. -/
def execReportWindowMiss (u : Fin 2) (n : Fin 48) (s : State) : Out :=
  if !(s.unit u.val).expect.contains n.val then .next s
  else
    let s1 := (s.modUnit u.val (fun x => { x with expect := x.expect.filter (· != n.val), miss := incSat 16 x.miss,
                                                  missNow := x.missNow + 1 })).modNl n.val
      (fun l => { l with miss := incSat 16 l.miss, st := if 2 ≤ l.st then 4 else l.st })
    .next (if s1.inPilot then s1 else s1.writeStale n.val 1 none)

/-! The end of a frame (R171 to R176). -/

/-- R176: the reason counts toward LOST. -/
def counted (reason : Nat) : Bool := 1 ≤ reason && reason ≤ 3

/-- R175: the run counts and LOST of one node at FRAME_END. -/
def MNode.frameEnd (m : MNode) (lostAt recoverAt : Nat) : MNode :=
  let run := if m.validNow then 0 else if counted m.reason then min 255 (m.missRun + 1) else m.missRun
  let ok := if m.validNow then m.okRun + 1 else if counted m.reason then 0 else m.okRun
  let lost := if m.lost then decide (ok < recoverAt) else decide (lostAt ≤ run)
  { m with missRun := run, okRun := if lost != m.lost then 0 else ok, lost := lost }

/-- R175, R204: node n at FRAME_END: its LOST flag enters its records and the log. -/
def State.nodeEnd (s : State) (n : Nat) : State :=
  let s1 := if (s.mn n).decided then s else s.writeStale n 1 none
  let before := s1.mn n
  let after := before.frameEnd (s1.parN P.meaLostFrames) (s1.parN P.meaRecoverFrames)
  let s2 := s1.modMn n (fun _ => { after with validNow := before.validNow, decided := false })
  if after.lost = before.lost then s2
  else
    let s3 := s2.modNode n (fun p r => ((if after.lost then r.disarm true else r).flags after p).write)
    s3.logPost 0 0x0405 (if after.lost then 3 else 1) [n, before.reason, if after.lost then 1 else 0]

/-- R173: the sweep of the frame is complete. -/
def State.complete (s : State) : Bool := s.mea.nodes.all (·.validNow)

/-- R171: E of a complete frame, mV. -/
def State.sumError (s : State) : Rat :=
  (s.fsq.vStr0 : Rat) - (sumN (s.csm.recs.map (·.vS)) : Rat) / 10 -
    ((nth s.fsq.latches 0 0 * s.par P.meaLinkR : Int) : Rat) / 1000000

/-- R171: the string sum of a complete frame. -/
def State.stringSum (s : State) : State :=
  let e := s.sumError
  let tol : Rat := s.parN P.meaStrSumTol
  let beyond := decide (tol < e) || decide (e < -tol)
  let run := if beyond != s.mea.sumWarn then s.mea.sumRun + 1 else 0
  let flip := s.parN P.meaStrSumFrames ≤ run
  let warn := if flip then beyond else s.mea.sumWarn
  ({ s with mea := { s.mea with sumDiff := ratFree 36 e, sumRun := if flip then 0 else run, sumWarn := warn } }).setDeg 2 warn

/-- R169: which of rows 0 and 1 a node shows in a complete frame, by the moves since its reference. What counts as a move is left open. (Log
entry 50, DESIGN CHOICE.) -/
def State.patternRows (s : State) (m : MNode) : List Bool :=
  let dv := List.zipWith (fun (a b : Nat) => (a : Int) - (b : Int)) m.v m.patV
  let sum := dv.foldl (· + ·) 0
  let e := s.mea.sumDiff - m.patE
  let at_ := fun p => nth dv p 0
  let still := fun r x => !Config.moved r x
  let broken := (List.range 7).any (fun p => Config.moved 0 (at_ p) && Config.moved 0 (at_ (p + 1)) && decide (at_ p * at_ (p + 1) < 0) &&
    still 0 (at_ p + at_ (p + 1)))
  let single := (List.range 8).any (fun p => Config.moved 1 (at_ p) && still 1 (sum - at_ p))
  [!m.patV.isEmpty && broken && still 0 sum && still 3 e, !m.patV.isEmpty && single && m.sumBad == 0 && still 3 e]

/-- R169: rows 0 and 1 of a node after a complete frame: runs, and the reference, which is taken anew after `frames` frames in which neither
has held. (Log entry 50, DESIGN CHOICE.) -/
def MNode.patternNext (m : MNode) (e : Int) (frames : Nat) (rows : List Bool) : MNode :=
  let run := List.zipWith (fun b k => if b then k + 1 else 0) rows m.patRun ++ m.patRun.drop 2
  let idle := nth run 0 0 == 0 && nth run 1 0 == 0
  let renew := m.patV.isEmpty || (idle && decide (frames ≤ m.patAge))
  { m with patRun := run, patV := if renew then m.v else m.patV, patE := if renew then e else m.patE
           patAge := if renew then 0 else m.patAge + 1
           classified := maskOf ((List.range 3).map (fun r => (nth rows r true) && bitOf m.classified r)) }

/-- R169, R170: row 2 of a node after a valid sweep. -/
def MNode.sumNext (m : MNode) : MNode :=
  let bad := m.sumBad != 0
  { m with patRun := m.patRun.set 2 (if bad then nth m.patRun 2 0 + 1 else 0)
           classified := putBit m.classified 2 (bad && bitOf m.classified 2) }

/-- R169: each pattern of node n that has persisted over MEA_STR_SUM_FRAMES frames is logged once. -/
def State.logPatterns (s : State) (n : Nat) : State :=
  ((List.range 3).filter (fun r => decide (s.parN P.meaStrSumFrames ≤ nth (s.mn n).patRun r 0) && !bitOf (s.mn n).classified r)).foldl
    (fun t r => (t.modMn n (fun m => { m with classified := putBit m.classified r true })).logPost 0 0x0407 1 [n, r]) s

/-- R169: node n at a FRAME_END: row 2 where its sweep is valid, rows 0 and 1 where the whole frame's is. -/
def State.nodePattern (s : State) (full : Bool) (n : Nat) : State :=
  let s1 := if (s.mn n).validNow then s.modMn n MNode.sumNext else s
  let s2 := if full then s1.modMn n (fun m => m.patternNext s1.mea.sumDiff (s1.parN P.meaStrSumFrames) (s1.patternRows m)) else s1
  s2.logPatterns n

/-- R169: row 3, of the whole string, after a complete frame; it is logged once, for no node. (Log entry 50, DESIGN CHOICE.) -/
def State.stringPattern (s : State) : State :=
  let k := s.parN P.meaStrSumFrames
  let e := s.mea.sumDiff
  let held := s.mea.nodes.all (fun m => m.sumBad == 0) && s.mea.drift.elim false (fun d => Config.moved 3 (e - d))
  let run := if held then s.mea.driftRun + 1 else 0
  let renew := s.mea.drift.isNone || (run == 0 && decide (k ≤ s.mea.driftAge))
  let s1 := { s with mea := { s.mea with drift := if renew then some e else s.mea.drift, driftAge := if renew then 0 else s.mea.driftAge + 1
                                         driftRun := run, drifted := held && s.mea.drifted } }
  if k ≤ run ∧ !s1.mea.drifted ∧ held then ({ s1 with mea := { s1.mea with drifted := true } }).logPost 0 0x0407 1 [0xFF, 3] else s1

/-- R169: the patterns at a FRAME_END. -/
def State.patterns (s : State) (full : Bool) : State :=
  let s1 := (List.range 48).foldl (fun t n => t.nodePattern full n) s
  if full then s1.stringPattern else s1

/-- R343: the level of the LOST fault. -/
def State.degLost (s : State) : State := s.setDeg 0 (s.mea.nodes.any (·.lost))

/-- R171 to R178: the measurement part of FRAME_END, which a pilot does not run (R179). (Log entry 49, DEDUCED.) -/
def State.measureEnd (s : State) : State :=
  if s.inPilot then s
  else
    let s1 := (List.range 48).foldl State.nodeEnd s
    let full := s1.complete
    let s2 := { s1 with mea := { s1.mea with sweepInc := !full, incCnt := if full then s1.mea.incCnt else incSat 16 s1.mea.incCnt } }
    let s3 := (if full then s2.stringSum else s2).patterns full
    ({ s3 with mea := { s3.mea with nodes := s3.mea.nodes.map (fun m => { m with validNow := false }) } } : State).degLost

/-! The snuffer loop (R159). -/

/-- R159: the class of a loop current, µA. -/
def loopClass (ua : Nat) : Nat :=
  if ua < 4000 then 2 else if ua < 8000 then 1 else if ua ≤ 12000 then 0 else if ua ≤ 16000 then 1 else 3

/-- R159, R330: LOOP_CLASS_CHANGE at current ua: the loop is reclassified, and isolates when open or bypassed. -/
def execLoopClassChange (ua : Nat) (s : State) : Out :=
  let c := loopClass ua
  let s0 := { s with pins := { s.pins with loopUa := ua } }
  if c = s0.mea.loop || s0.prl.resLeft != 0 then .next s0
  else
    let s1 := ({ s0 with mea := { s0.mea with loop := c } }).logPost 1 0x0406 2 ([c, 0] ++ le2 (min 65535 ua))
    .next (if c = 2 then s1.isolate 1 else if c = 3 then s1.isolate 2 else s1)

end Sys2Proof.Machine
end

