-- ==== Sys2Proof/Machine/Estimate.lean ====
section
/-! DEFINITION. The estimator array (R182 to R215): the charge account of each group, anchors, learning, reported charge,
string reports, dispatch limits, cones, and capacity records. -/

namespace Sys2Proof.Machine

/-- R184: the rest timer, s. -/
def Est.restS (e : Est) : Nat := min 65535 (e.restNs / 1000000000)

/-- R182: q_true. -/
def GroupRec.qTrue (r : GroupRec) : Int := if r.cap = 0 then 0 else (65536 * r.qc) / ((r.cap : Int) * 10000)

/-- R230: R_S from |Z| and arg Z. -/
def rsOf (mag : Nat) (arg : Int) : Nat :=
  let x : Rat := (mag : Rat) * sinTurn ((arg : Rat) / 36000 + 1 / 4)
  (clampI 10000 10000000 (divRound 66 x.num x.den)).toNat

/-- R153, R230: R_S of group g, nΩ: from the last publication of tone PRB_RS_TONE, or the default where that tone has not published. -/
def State.rS (s : State) (g : Nat) : Nat :=
  let k := s.parN P.prbRsTone
  if nth (s.ga g).prbValid k false then rsOf (nth (s.gr g).zmag k 0) (nth (s.gr g).zarg k 0) else s.parN P.meaRsDefault

/-! V_S (R153, R168). -/

/-- R153: V_S of a group with a valid sweep. -/
def State.skew (s : State) (g : Nat) (r : GroupRec) : GroupRec :=
  if r.old then r
  else
    let c := clampI (-200) 200 (divRound 40 ((s.rS g : Int) * r.di) 10000000)
    { r.write with vS := (clampI 0 65535 ((r.vRaw : Int) + c)).toNat }

/-- R168: while wire k is open, positions k − 1 and k both take half the sum of their V_S. -/
def State.halfSum (s : State) (n k : Nat) : State :=
  if bitOf (s.mn n).wOpen k && !(s.mn n).stale then
    let v := (divFree 41 ((s.gr (8 * n + k - 1)).vS + (s.gr (8 * n + k)).vS : Nat) 2).toNat
    (s.modRec (8 * n + k - 1) (fun r => { r.write with vS := v })).modRec (8 * n + k) (fun r => { r.write with vS := v })
  else s

/-- R153, R168: V_S of node n, which every batch that covers it replaces first. Where two adjacent wires are open the half sums are taken in
ascending wire order, each from the values as the one before left them. (Log entry 78, DESIGN CHOICE.) -/
def State.voltages (s : State) (n : Nat) : State :=
  let s1 := (List.range 8).foldl (fun t p => t.modRec (8 * n + p) (s.skew (8 * n + p))) s
  ((List.range 7).map (· + 1)).foldl (fun t k => t.halfSum n k) s1

/-! The charge count (R185 to R187, R204). -/

/-- R185, R186: charge into group g since the node's last batch, µC. -/
def State.dq (s : State) (g : Nat) : Int :=
  let r := s.gr g
  (if s.est.takeQint then 0 else nth s.est.qintDone (g / 8) 0 - s.est.qint) -
    divRound 42 ((r.vS : Int) * r.balOn) (10 * s.parN (P.group g 0))

/-- R187: HYST of group g after a charge of dq, with the part below its least code. -/
def State.hystNext (s : State) (g : Nat) (dq : Int) : Rat :=
  let r := s.gr g
  let den : Rat := (s.parN P.estHystFr : Rat) * r.cap * 10000
  max (-32768) (min 32767 ((r.hyst : Rat) + (s.ga g).hystFrac + ratDiv 44 (2 * (dq : Rat) * 32768 * 65536) den))

/-- R185, R187: QC and HYST of group g after a charge of dq; HYST shows the whole codes. -/
def State.countRec (s : State) (g : Nat) (dq : Int) : State :=
  let h := s.hystNext g dq
  (s.modGa g (fun a => { a with hystFrac := h - h.floor })).modRec g (fun r => { r with qc := r.qc + dq, hyst := h.floor })

/-- R204: the armed cycle of a group takes in charge, and ends on its allowance or its age. -/
def State.armedCycle (s : State) (g : Nat) (dq : Int) : State :=
  let r := s.gr g
  let a := s.ga g
  if !r.learnArmed then s
  else
    let u := if 0 < dq then a.qlcU + dq else a.qlcU
    let q := min 65535 (u / 10000000).toNat
    let above := r.cap < 100000 * q
    let old := decide (((s.parN P.estLearnMaxH * 3600 : Nat) : Int) < (s.sys.opsec : Int) - a.fullAt)
    (s.modGa g (fun x => { x with qlcU := u })).modRec g (fun x =>
      let y := { x with qlc := q }
      if above || old then y.disarm false else y)

/-! Anchors (R188 to R192, R205). -/

/-- R191: the conditions of a full anchor. -/
def State.fullDue (s : State) (r : GroupRec) : Bool :=
  (match s.est.chgAgo with | some t => t ≤ 60000000000 | none => false) && !r.old &&
  decide (s.est.iAvg.natAbs * 18000 < r.cap) && decide (((r.vS : Int) - s.par P.estVFull).natAbs ≤ 100)

/-- R191: a full anchor. -/
def State.fullAnchor (s : State) (g : Nat) : State :=
  if s.fullDue (s.gr g) then
    (s.modGa g (fun a => { a with qlcU := 0, fullAt := s.sys.opsec, hystFrac := 0 })).modRec g (fun r =>
      { r with qc := (r.cap : Int) * 10000, hyst := 32767, anchored := true, learnArmed := true, learnBar := false,
               disagree := false, qlc := 0 })
  else s

/-- R189, R192: no wiring or sum fault bars the anchor. -/
def GroupRec.clean (r : GroupRec) : Bool := !r.suspect && !r.openWire && !r.sumFail

/-- R192: the conditions of an empty anchor. -/
def State.emptyDue (s : State) (r : GroupRec) : Bool :=
  !r.old && r.clean && decide (r.vS ≤ s.parN P.estVEmptyLearn) && !s.est.chgMode &&
  decide (s.est.iAvg * 1800 ≤ (r.cap : Int))

/-- R205: the capacity learned at an empty anchor, 10 mC. -/
def State.learned (s : State) (r : GroupRec) : Int :=
  ratFree 45 (ratDiv 46 (((r.cap : Int) * 10000 - r.qc : Int) : Rat) (1 - (s.parN P.estLearnEmptyFr : Rat) / 65536) / 10000)

/-- R205: a capacity in A·h for a record (rounding left open). -/
def ampHours (cap : Int) : Nat := (clampI 0 65535 (divFree 47 cap 360000)).toNat

/-- R205: the learned capacity is held or flagged. -/
def State.learn (s : State) (g : Nat) : State :=
  let r := s.gr g
  if !r.learnArmed || r.learnBar then s
  else
    let c := s.learned r
    if (c - r.cap).natAbs * 100 ≤ 15 * r.cap then
      ((s.modGa g (fun a => { a with capPend := c.toNat })).modRec g
        (fun x => { x with learnArmed := false, capPending := true })).logPost 0 0x0504 0 (le2 g ++ le4 c.toNat)
    else
      (s.modRec g (fun x => { x with learnArmed := false, capFlagged := true })).logPost 0 0x0505 2
        (le2 g ++ le2 (ampHours c) ++ le2 (ampHours r.cap))

/-- R192: an empty anchor, with R205 evaluated first. -/
def State.emptyAnchor (s : State) (g : Nat) : State :=
  if s.emptyDue (s.gr g) then
    let fr := s.parN P.estLearnEmptyFr
    ((s.learn g).modGa g (fun a => { a with hystFrac := 0 })).modRec g (fun r =>
      { r with qc := divFree 48 ((fr : Int) * r.cap * 10000) 65536, hyst := -32768, anchored := true, cutoff := false })
  else s

/-- R188: the effective OCV at table point i with hysteresis h (Q1.15). -/
def State.ocvEff (s : State) (h : Int) (i : Nat) : Rat :=
  (s.parN (P.estOcvTab + i) : Rat) + (h : Rat) / 32768 * s.parN (P.estHysTab + i)

/-- R189: the fractions of segment i at which the effective OCV equals v: the one nearest to q. -/
def segSolve (i : Nat) (a b v q : Rat) : Option Rat :=
  if a = b then
    if a = v then some ((max ((i : Rat) / 127) (min (((i : Rat) + 1) / 127) q))) else none
  else
    let t := (v - a) / (b - a)
    if 0 ≤ t ∧ t ≤ 1 then some (((i : Rat) + t) / 127) else none

/-- R189: of two solutions the nearer to q; which of two that lie equally near is left open. (Log entry 16, DESIGN CHOICE.) At a table point
where two segments meet, the lower segment stays, and its slope is the one judged. (Log entry 79, DESIGN CHOICE.) -/
def nearer (q : Rat) (a b : Option (Rat × Nat)) : Option (Rat × Nat) :=
  match a, b with
  | none, y => y
  | x, none => x
  | some x, some y =>
    let dx := (x.1 - q) * (x.1 - q)
    let dy := (y.1 - q) * (y.1 - q)
    if dy < dx then some y
    else if dy = dx ∧ x.1 ≠ y.1 ∧ Config.tieKey 2 y.2 < Config.tieKey 2 x.2 then some y
    else some x

/-- R189: the fraction x and its segment. -/
def State.ocvSolve (s : State) (r : GroupRec) : Option (Rat × Nat) :=
  let q : Rat := (r.qTrue : Rat) / 65536
  (List.range 127).foldl (fun best i =>
    nearer q best ((segSolve i (s.ocvEff r.hyst i) (s.ocvEff r.hyst (i + 1)) r.vS q).map (fun x => (x, i)))) none

/-- R189: the slope of OCV segment i, µV per percent. -/
def State.ocvSlope (s : State) (i : Nat) : Rat :=
  ((s.par (P.estOcvTab + i + 1) - s.par (P.estOcvTab + i) : Int) : Rat) * 100 * 127 / 100

/-- R189: the conditions of an OCV anchor but the rest timer. -/
def State.ocvFit (s : State) (r : GroupRec) : Bool :=
  !r.old && r.clean && decide (s.par P.estAnchorTmin ≤ r.t) && decide (r.t ≤ s.par P.estAnchorTmax) && !r.learnArmed &&
  !s.est.tabBad

/-- R189: an OCV anchor. -/
def State.ocvAnchor (s : State) (g : Nat) : State :=
  let r := s.gr g
  if s.est.restS < s.parN P.estAnchorRest then s
  else
    let first := !(s.ga g).ocvTried
    let s1 := s.modGa g (fun a => { a with ocvTried := true })
    if (first || r.disagree) && s.ocvFit r then
      match s.ocvSolve r with
      | none => s1
      | some (x, i) =>
        if r.disagree ∨ (s.parN P.estAnchorSlope : Rat) ≤ s.ocvSlope i then
          s1.modRec g (fun y => { y with qc := ratFree 49 (x * y.cap * 10000), anchored := true, disagree := false })
        else s1
    else s1

/-! Disagreement, cutoff drive and reported charge (R193 to R195). -/

/-- R194: entry into DISAGREE. -/
def State.disagreeCheck (s : State) (g : Nat) : State :=
  let r := s.gr g
  if !r.disagree && decide (r.qTrue ≤ 0) && !r.old && decide (s.parN P.estVCutWarn < r.vS) then
    let s1 := (s.modRec g (fun x => { x.disarm true with disagree := true }))
    let s2 := { s1 with est := { s1.est with disCnt := incSat 16 s1.est.disCnt } }
    if (s2.ga g).disLogged then s2
    else (s2.modGa g (fun a => { a with disLogged := true })).logPost 0 0x0501 2
      (le2 g ++ le2 r.vS ++ le2 (encSat 16 r.qTrue))
  else s

/-- R195: drive_target of a valid sweep. -/
def State.driveOf (s : State) (q v : Nat) : Nat :=
  let ve := s.par P.estVEmpty
  let w := s.par P.estVCutWarn
  (clampI 0 q (ratFree 50 (ratDiv 51 ((q : Rat) * ((v : Rat) - ve)) ((w : Rat) - ve)))).toNat

/-- R195: the cutoff drive of a group. (Log entry 49, DEDUCED.) -/
def State.cutoffCheck (s : State) (g : Nat) : State :=
  let r := s.gr g
  if !s.est.disMode then s.modRec g (fun x => { x with cutoff := false })
  else if r.cutoff then
    if r.old then s else s.modGa g (fun a => { a with driveTarget := s.driveOf a.qEntry r.vS })
  else if !r.old && decide (r.vS ≤ s.parN P.estVCutWarn) && decide (0 < r.qRep) then
    let s1 := (s.modGa g (fun a => { a with qEntry := r.qRep, driveTarget := s.driveOf r.qRep r.vS })).modRec g
      (fun x => { x with cutoff := true })
    if s1.est.driveLogged then s1
    else ({ s1 with est := { s1.est with driveLogged := true } }).logPost 0 0x0502 1 (le2 g ++ le2 r.qRep ++ le2 r.vS)
  else s

/-- R193: codes per second as a step of one frame of ns nanoseconds, in 1/65,536 code (rounding left open). -/
def codeStep (rate ns : Nat) : Int := divFree 85 ((rate : Int) * ns * 65536) 1000000000

/-- R193: Q_REP in 1/65,536 code after one run, from the target in the same unit and the steps down and up. -/
def qRepNext (q target down up : Int) (cut dis : Bool) : Int :=
  let lo := if cut then q - down else 0
  if dis then max (min q target) lo
  else if q < target then min target (q + up)
  else max target lo

/-- R193: the fraction is cleared when Q_REP takes the value of target, or falls to 0. -/
def fracNext (old q target : Int) : Nat :=
  let n := q / 65536
  if n = target ∨ (n = 0 ∧ q ≤ old) then 0 else (q % 65536).toNat

/-- R193: Q_REP of a group. -/
def State.qRepUpdate (s : State) (g : Nat) : State :=
  let r := s.gr g
  let a := s.ga g
  let base := (clampI 0 65535 r.qTrue).toNat
  let target : Int := if r.cutoff then (min base a.driveTarget : Nat) else base
  let old : Int := (r.qRep : Int) * 65536 + a.qFrac
  let q := max 0 (qRepNext old (target * 65536) (codeStep (s.parN P.estCutRate) s.frameNs) (codeStep (s.parN P.estUpRate) s.frameNs) r.cutoff
    s.est.disMode)
  let f := fracNext old q target
  let n := (q / 65536).toNat
  (s.modGa g (fun x => { x with qFrac := f })).modRec g (fun x => { x with qRep := n, upHeld := decide ((n : Int) < target) })

/-- R185: the charge-count task for group g; the record write closes it (R37). -/
def State.chargeGroup (s : State) (g : Nat) : State :=
  let dq := s.dq g
  let s1 := (s.countRec g dq).armedCycle g dq
  let s2 := ((s1.fullAnchor g).emptyAnchor g).ocvAnchor g
  (((s2.disagreeCheck g).cutoffCheck g).qRepUpdate g).modRec g GroupRec.write

/-- R185: the charge-count task for node n. -/
def State.chargeNode (s : State) (n : Nat) : State :=
  let s1 := (List.range 8).foldl (fun t p => t.chargeGroup (8 * n + p)) s
  { s1 with est := { s1.est with qintDone := s1.est.qintDone.set n s1.est.qint, ran := s1.est.ran.set n true } }

/-! Cones of a group (R199, R200). -/

/-- R200: cone j is in force: entered on either threshold, left when both have moved back past their hysteresis. (Log entry 49, DEDUCED.)
-/
def coneOn (was qMet qBack vMet vBack : Bool) : Bool := qMet || vMet || (was && !(qBack && vBack))

/-- R199, R200: cone j of the empty side for group g: the charge criterion, ignored under DISAGREE, and the voltage criterion of the last
valid sweep. -/
def State.emptyCrit (s : State) (g j : Nat) : Bool × Bool :=
  let r := s.gr g
  (!r.disagree && decide (r.qRep ≤ s.parN (P.estConeQC1 + (j - 1))), nth (s.ga g).voltE (j - 1) 0 == 1)

/-- R199: the full side. -/
def State.fullCrit (s : State) (g j : Nat) : Bool × Bool :=
  (decide (s.parN (P.estConeQF1 + (j - 1)) ≤ (s.gr g).qRep), nth (s.ga g).voltF (j - 1) 0 == 1)

/-- R200: the voltage criteria of a valid sweep with V_S v: 0 neither met nor moved back, 1 met, 2 moved back. -/
def State.voltNow (s : State) (v : Nat) : List Nat × List Nat :=
  let e := fun j => if v ≤ s.parN (P.estConeVC1 + j) then 1 else if s.parN (P.estConeVC1 + j) + s.parN P.estConeVhys < v then 2 else 0
  let f := fun j => if s.parN (P.estConeVF1 + j) ≤ v then 1 else if v + s.parN P.estConeVhys < s.parN (P.estConeVF1 + j) then 2 else 0
  ((List.range 3).map e, (List.range 3).map f)

/-- R200: cone j of the empty side of group g. -/
def State.coneEOn (s : State) (g j : Nat) : Bool :=
  let c := s.emptyCrit g j
  let r := s.gr g
  coneOn (j ≤ r.coneE) c.1 (r.disagree || decide (s.parN (P.estConeQC1 + (j - 1)) + s.parN P.estConeQhys < r.qRep)) c.2
    (nth (s.ga g).voltE (j - 1) 0 == 2)

/-- R200: cone j of the full side. -/
def State.coneFOn (s : State) (g j : Nat) : Bool :=
  let c := s.fullCrit g j
  let r := s.gr g
  coneOn (j ≤ r.coneF) c.1 (decide (r.qRep + s.parN P.estConeQhys < s.parN (P.estConeQF1 + (j - 1)))) c.2
    (nth (s.ga g).voltF (j - 1) 0 == 2)

/-- R200: the highest cone in force. -/
def topCone (on : Nat → Bool) : Nat := if on 3 then 3 else if on 2 then 2 else if on 1 then 1 else 0

/-- R200: the cones task for node n. -/
def State.coneNode (s : State) (n : Nat) : State :=
  (List.range 8).foldl (fun t p =>
    let g := 8 * n + p
    let v := t.voltNow (t.gr g).vS
    let u := if (t.gr g).old then t else t.modGa g (fun a => { a with voltE := v.1, voltF := v.2 })
    u.modRec g (fun r => { r with coneE := topCone (u.coneEOn g), coneF := topCone (u.coneFOn g) }.write)) s

/-! FRAME_END of the estimator (R184, R186, R197, R198, R201, R206, R207). -/

/-- R184: the mean current of the last 4 s, mA, from QINT. -/
def iAvgOf (h : List (Nat × Int)) (now : Int) : Int :=
  match h.find? (fun x => decide (4000000000 ≤ x.1)), h.getLast? with
  | some x, _ => divFree 52 ((now - x.2) * 1000000) x.1
  | none, some x => if x.1 = 0 then ratFree 53 (Config.divZero 53 (now - x.2)) else divFree 52 ((now - x.2) * 1000000) x.1
  | none, none => 0

/-- R184: time in one sense. -/
def runFor (on : Bool) (ns t : Nat) : Nat := if on then ns + t else 0

/-- R184, R215: direction, rest and mean current at FRAME_END; a rest period that begins takes EST_ANCHOR_REST as it was last written. -/
def State.direction (s0 : State) : State :=
  let t := s0.frameNs
  let e := s0.est
  let aged := (e.hist.map (fun x => (x.1 + t, x.2)))
  let i := iAvgOf aged e.qint
  let s := if i.natAbs ≤ s0.parN P.estRestI ∧ e.restNs = 0 then s0.applyAt (.on .rest) else s0
  let th := s.par P.estRestI
  let rest := decide (i.natAbs ≤ s.parN P.estRestI)
  let dis := runFor (decide (th < i)) e.disNs t
  let chg := runFor (decide (i < -th)) e.chgNs t
  let restNs := if rest then e.restNs + t else 0
  let chgMode := (e.chgMode || decide (1000000000 ≤ chg)) && !decide (1000000000 ≤ dis)
  let disMode := ((e.disMode || decide (1000000000 ≤ dis)) && !decide (1000000000 ≤ chg)) && restNs / 1000000000 < 1800
  { s with est := { e with
      hist := ((0, e.qint) :: aged).take 4002, iAvg := i, rest := rest, disNs := dis, chgNs := chg, restNs := restNs
      chgMode := chgMode, disMode := disMode, driveLogged := e.driveLogged && disMode
      chgAgo := if chgMode then some 0 else e.chgAgo.map (· + t)
      aux := e.aux.map (fun a => { a with ocvTried := a.ocvTried && rest, disLogged := a.disLogged && disMode }) } }

/-- R186: a frame whose batch did not run for a node loses that node's balancing correction. -/
def State.balLosses (s : State) : State :=
  { s with est := { s.est with balLoss := addSat 16 s.est.balLoss ((s.est.ran.filter (!·)).length),
                               ran := List.replicate 48 false } }

/-- R197: the least of f over all groups, the lowest index winning a tie. -/
def leastGroup (f : Nat → Rat) : Nat := (List.range 384).foldl (fun b g => if f g < f b then g else b) 0

/-- R197: the string reports. -/
def State.stringReports (s : State) : State :=
  let rem := fun g => ((s.gr g).qRep : Rat) * (s.gr g).cap / 65536 / 100
  let head := fun g => ((65536 - (s.gr g).qRep : Nat) : Rat) * (s.gr g).cap / 65536 / 100
  let a := leastGroup rem
  let b := leastGroup head
  let tot := rem a + head b
  { s with est := { s.est with
      strRem := (ratFree 54 (rem a)).toNat, strHead := (ratFree 55 (head b)).toNat, remG := a, headG := b
      strSoc := if tot = 0 then 0 else (clampI 0 65535 (ratFree 56 (rem a * 65536 / tot))).toNat } }

/-- R198: the factor of a string cone level, percent. -/
def State.coneFac (s : State) (j : Nat) : Nat := if j = 0 then 100 else s.parN (P.estConeFac1 + (j - 1))

/-- R198: the groups whose sweep is not LOST. -/
def State.notLost (s : State) : List Nat := (List.range 384).filter (fun g => !(s.gr g).lost)

/-- R198: one dispatch limit, mA, from its current term and its voltage terms. -/
def limitOf (iMax : Rat) (v : List Rat) : Nat := (max 0 (ratFree 57 (v.foldl min iMax))).toNat

/-- R198: the dispatch limits. -/
def State.estLimits (s : State) : State :=
  let i0 : Rat := ((nth s.fsq.latches 0 0 : Int) : Rat)
  let dis := fun g => i0 + ratDiv 58 ((((s.gr g).vS : Int) - s.par P.estVEmpty : Int) * 100000000) (s.rS g)
  let chg := fun g => -i0 + ratDiv 59 ((s.par P.estVFull - ((s.gr g).vS : Int) : Int) * 100000000) (s.rS g)
  { s with est := { s.est with
      limDis := limitOf ((s.parN P.estIDisMax : Rat) * s.coneFac s.est.coneE / 100) (s.notLost.map dis)
      limChg := limitOf ((s.parN P.estIChgMax : Rat) * s.coneFac s.est.coneF / 100) (s.notLost.map chg) } }

/-- R201: one level crossed: log and message. -/
def State.crossing (s : State) (side level dir crit g : Nat) : State :=
  let lv := if dir = 1 then level else level + 1
  let data := [side, level, dir, crit] ++ le2 g
  (s.logPost 0 0x0503 lv data).attn 4 lv data

/-- R201: criteria of a group for levels 1 to 3, two bits a level. -/
def critBits (f : Nat → Bool × Bool) : Nat :=
  maskOf [(f 1).1, (f 1).2, (f 2).1, (f 2).2, (f 3).1, (f 3).2]

/-- R201: the level of a group on a side: 0 empty, 1 full. -/
def GroupRec.side (r : GroupRec) (side : Nat) : Nat := if side = 0 then r.coneE else r.coneF

/-- R201: criteria of level j on a side. -/
def State.critOf (s : State) (side : Nat) (g : Nat) : Nat := critBits (if side = 0 then s.emptyCrit g else s.fullCrit g)

/-- R201: the lowest-index group at or above level j on a side now. -/
def State.groupAt (s : State) (side j : Nat) : Nat := (firstAt (fun r => decide (j ≤ r.side side)) s.csm.recs).getD 0

/-- R201: likewise at the previous FRAME_END. -/
def State.groupWas (s : State) (side j : Nat) : Nat :=
  (firstAt (fun a => decide (j ≤ (if side = 0 then a.lastCone.1 else a.lastCone.2))) s.est.aux).getD 0

/-- R201: every level crossed on a side, in the order crossed. -/
def State.crossings (s : State) (side old new : Nat) : State :=
  if old < new then
    ((List.range (new - old)).map (old + 1 + ·)).foldl (fun t j =>
      let g := s.groupAt side j
      t.crossing side j 1 (field (s.critOf side g) (2 * j - 1) (2 * j - 2)) g) s
  else
    ((List.range (old - new)).map (old - ·)).foldl (fun t j =>
      let g := s.groupWas side j
      let c := (s.ga g).lastCrit
      t.crossing side (j - 1) 0 (field (if side = 0 then c.1 else c.2) (2 * j - 1) (2 * j - 2)) g) s

/-- R201: the string cones at FRAME_END. -/
def State.stringCones (s : State) : State :=
  let e := maxNat (s.csm.recs.map (·.coneE))
  let f := maxNat (s.csm.recs.map (·.coneF))
  let oldE := s.est.coneE
  let oldF := s.est.coneF
  let s1 := { s with est := { s.est with coneE := e, coneF := f, coneSent := if s.sys.mgpAway then s.est.coneSent else (e, f) } }
  let s2 := if s.sys.mgpAway then s1 else (s1.crossings 0 oldE e).crossings 1 oldF f
  { s2 with est := { s2.est with aux := (indexed s2.est.aux).map (fun ga => { ga.2 with
      lastCone := ((s.gr ga.1).coneE, (s.gr ga.1).coneF), lastCrit := (s.critOf 0 ga.1, s.critOf 1 ga.1) }) } }

/-- R212: on resume, one message for each side whose level differs from the level last sent. -/
def State.coneCatchUp (s : State) : State :=
  let one := fun (t : State) (side now sent : Nat) =>
    if now = sent then t
    else if sent < now then
      let g := t.groupAt side now
      t.crossing side now 1 (field (t.critOf side g) (2 * now - 1) (2 * now - 2)) g
    else
      let g := t.groupWas side (now + 1)
      t.crossing side now 0 (field (t.critOf side g) (2 * now + 1) (2 * now)) g
  let s1 := one (one s 0 s.est.coneE s.est.coneSent.1) 1 s.est.coneF s.est.coneSent.2
  { s1 with est := { s1.est with coneSent := (s1.est.coneE, s1.est.coneF) } }

/-- R206: a pending capacity is adopted. -/
def State.adoptGroup (s : State) (g : Nat) : State :=
  let r := s.gr g
  if !r.capPending then s
  else
    let new := (s.ga g).capPend
    let move := divFree 60 ((s.parN P.estLearnEmptyFr : Int) * ((new : Int) - r.cap) * 10000) 65536
    let s1 := (s.modRec g (fun x => { x with cap := new, qc := x.qc + move, capPending := false, capFlagged := false }.write)).modGa g
      (fun a => { a with capPend := 0, adoptions := addSat 16 a.adoptions 1, nominal := false })
    { s1 with est := { s1.est with commitDue := true } }

/-- R206: adoptions at a FRAME_END with DIS_MODE clear. -/
def State.adoptAll (s : State) : State :=
  if s.est.disMode then s else (List.range 384).foldl State.adoptGroup s

/-- R207: a calibration discharge ends with the stop ramp. (Log entry 54, DEDUCED.) -/
def State.calEnd (s : State) : State :=
  if s.est.cal then
    { s with est := { s.est with cal := false, calArmed := [], calRamp := s.dispatching }
             ctl := { s.ctl with ramp := s.ctl.iref } }
  else s

/-- R207: the conditions that end it. -/
def State.calCheck (s : State) : State :=
  if s.est.cal && (s.est.calArmed.all (fun g => !(s.gr g).learnArmed) || decide (3 ≤ s.est.coneE) || s.eff != .dispatch) then
    s.calEnd
  else s

/-- R188: the table check, made when the tables have been loaded. -/
def State.tabCheck (s : State) : Bool :=
  (List.range 128).all (fun i =>
    let v := s.par (P.estOcvTab + i)
    let h := s.par (P.estHysTab + i)
    decide (20000 ≤ v - h) && decide (v + h ≤ 50000) && (i = 127 || decide (v ≤ s.par (P.estOcvTab + i + 1))))

/-- R188, R289: the effective OCV at a charge fraction of q / 65,536 with hysteresis h, in 100 µV, between table points. (Log entry 62,
DESIGN CHOICE.) -/
def State.ocvOf (s : State) (q : Nat) (h : Int) : Rat :=
  let i := q * 127 / 65536
  let a := s.ocvEff h i
  a + (((q * 127 % 65536 : Nat) : Rat) / 65536) * (s.ocvEff h (i + 1) - a)

/-- R289: the string-level values that the CE takes at FRAME_END: the sum of the effective OCVs, mV, and the string resistance, µΩ. (Log
entry 62, DESIGN CHOICE.) -/
def State.ceString (s : State) : State :=
  let ocv := s.csm.recs.foldl (fun a r => a + s.ocvOf (clampI 0 65535 r.qTrue).toNat r.hyst) (0 : Rat)
  let rs := (List.range 384).foldl (fun a g => a + s.rS g) 0
  { s with ctl := { s.ctl with vocv := ratFree 83 (ocv / 10), rstr := (ratFree 84 ((rs : Rat) / 1000)).toNat + s.parN P.meaLinkR } }

/-- R184 to R207, R289: the estimator part of FRAME_END; a pilot takes its state from the mirror (R211). (Log entry 62, DESIGN CHOICE.) -/
def State.estimateEnd (s : State) : State :=
  if s.inPilot || !s.up 6 then s
  else ((((((s.direction.balLosses).adoptAll).stringReports).stringCones).estLimits).ceString).calCheck

/-! Capacity records (R208 to R210). -/

/-- R208: the newest valid slot of a two-slot store. -/
def newestValid (l : List TwoSlot) : Option Nat :=
  let a := nth l 0 {}
  let b := nth l 1 {}
  if a.valid then (if b.valid && a.seq < b.seq then some 1 else some 0) else if b.valid then some 1 else none

/-- R209, R454: the slot that a commit writes and its SEQ. -/
def commitTarget (l : List TwoSlot) : Nat × Nat :=
  match newestValid l with
  | some k => (1 - k, (nth l k {}).seq + 1)
  | none => (0, 1)

/-- R208: the GROUPS of a capacity record: CAP, and ADOPTIONS with FLAGS. -/
def State.capData (s : State) : List (Nat × Int) :=
  (List.range 384).flatMap (fun g => [(2 * g, ((s.gr g).cap : Int)),
    (2 * g + 1, (((s.ga g).adoptions % 65536 + 65536 * maskOf [(s.gr g).capFlagged, (s.ga g).nominal] : Nat) : Int))])

/-- R209: a commit ends; `ok` says that the read-back checks. -/
def State.capCommitEnd (s : State) (ok : Bool) : State :=
  let t := commitTarget s.est.slots
  let done := { s with est := { s.est with capBusy := false } }
  if ok then
    ({ done with est := { done.est with
        slots := s.est.slots.set t.1 { valid := true, seq := t.2, format := 1, opsec := s.sys.opsec, data := s.capData }
        capSeq := t.2, capSlot := t.1, commitDue := false, commitRetry := false, commitHeld := false } }).logPost 0 0x0506 0
      (le4 t.2 ++ [t.1, 0])
  else
    ({ done with est := { done.est with
        slots := s.est.slots.modify t.1 (fun x => { x with valid := false }), capFail := true
        commitRetry := !s.est.commitRetry } }).logPost 0 0x0506 3 (le4 t.2 ++ [t.1, 1])

/-- R209: steps 1 to 3 of a commit: the VALID word of the target is written to 0. -/
def State.capOpen (s : State) : State :=
  { s with est := { s.est with capBusy := true
                               slots := s.est.slots.modify (commitTarget s.est.slots).1 (fun x => { x with valid := false }) } }

/-- R209, R438: the MGP starts a commit of its own, unless a long operation runs or it is away; under a brown-out warning the commit waits
for the next boot. -/
def State.capCommitStart (s : State) : State :=
  if s.sys.boWarn then { s with est := { s.est with commitHeld := true } }
  else if s.mbx.long || s.sys.mgpAway then s
  else { s.capOpen with mbx := { s.mbx with own := 2, long := true } }

/-- R206, R209: CAP_COMMIT_DUE. -/
def execCapCommitDue (s : State) : Out := .next (if s.est.commitDue || s.est.commitHeld then s.capCommitStart else s)

/-- R209: CAP_COMMIT_RETRY. -/
def execCapCommitRetry (s : State) : Out := .next (if s.est.commitRetry then s.capCommitStart else s)

/-- R210: COUNT_CHECKPOINT: words 2 to 4 of all groups and qint_done are copied to MRAM. -/
def execCountCheckpoint (s : State) : Out :=
  .next (if s.sys.mgpAway || !s.up 6 then s
    else { s with log := { s.log with ckpt := some (s.csm.recs, s.est.qintDone) } })

end Sys2Proof.Machine
end

