-- ==== Sys2Proof/Machine/Thermal.lean ====
section
/-! DEFINITION. Thermal management (R306 to R324): samples, phase and cell models, factors and limits, the derate
sequences, and the coolant outputs and inputs. -/

namespace Sys2Proof.Machine

/-- One housekeeping tick in 1/16 ns (R18). -/
def tick16 : Nat := 1953125

/-- One housekeeping tick, s (R18). -/
def tickS : Rat := 1 / 8192

/-! Samples (R306, R307, R314, R321). -/

/-- R307, R321: the ring oscillators with their offsets, the flows and the fan speeds, from the samples last handed over and the settings in
force. -/
def State.thmConvert (s : State) : State :=
  let t := s.thm
  { s with thm := { t with
      ro := if t.roRaw.isEmpty then t.ro else (List.range 16).map (fun k => nth t.roRaw k 0 + s.par (P.thmRoOfs + k))
      flow := if t.flowRaw.isEmpty then t.flow else t.flowRaw.map (fun f => if s.parN P.thmFlowK = 0 then 0 else f / s.parN P.thmFlowK)
      rpm := if t.tachRaw.isEmpty then t.rpm
        else t.tachRaw.map (fun f => if s.parN P.thmFanPpr = 0 then 0 else f * 60 / (1000 * s.parN P.thmFanPpr)) } }

/-- R86, R306: the samples of source `src` (0 ring oscillators, 1 the phases of `mask`, 2 coolant, 3 flow and tachometers). -/
def State.thmTake (s : State) (src mask : Nat) (x : ThmIn) : State :=
  match src with
  | 0 => ({ s with thm := { s.thm with roRaw := x.ro } }).thmConvert
  | 1 =>
    let f := fun (pt : Nat × Int) => if bitOf mask pt.1 then (nth s.phm.ph pt.1 {}).temp else pt.2
    { s with thm := { s.thm with phT := (indexed s.thm.phT).map f } }
  | 2 => { s with thm := { s.thm with cool := x.cool } }
  | _ => ({ s with thm := { s.thm with flowRaw := x.flow, tachRaw := x.tach } }).thmConvert

/-- R306: an entry has covered source `src`, of the phases those of `mask`. -/
def Thm.cover (t : Thm) (src mask : Nat) : Thm :=
  { t with covered := t.covered.set src 0
           phCovered := if src = 1 then (indexed t.phCovered).map (fun pa => if bitOf mask pa.1 then 0 else pa.2) else t.phCovered }

/-- R83: PHMASK of an entry. -/
def entPhases (w : Nat) : Nat := field w 55 40

/-- R90: THERMAL_SAMPLE. -/
def execThermalSample (m : EntryIn) (x : ThmIn) (s : State) : Out :=
  s.onEntry 0x0B m (fun t _ w =>
    .next (if t.up 11 then (List.range 4).foldl (fun u i =>
      if bitOf w (64 + i) then
        let v := u.thmTake i (entPhases w) x
        { v with thm := v.thm.cover i (entPhases w) }
      else u) t else t))

/-- R306: an age of 100 ms, in ticks. -/
def uncovered (age : Nat) : Bool := decide (8192 ≤ 10 * age)

/-- R306: THM_SELF_SAMPLE of a source that no entry has handed over for 100 ms; of the phases, those that no entry has. -/
def execThmSelfSample (src : Fin 4) (x : ThmIn) (s : State) : Out :=
  let mask := if src.val = 1 then maskOf (s.thm.phCovered.map uncovered) else if uncovered (nth s.thm.covered src.val 0) then 1 else 0
  .next (if s.up 11 && mask != 0 then s.thmTake src.val mask x else s)

/-- R150, R321: a coolant input lies in its range. -/
def coolOk (t : Int) : Bool := decide (-2560 ≤ t) && decide (t ≤ 7680)

/-- R314: the coolant reference, and whether no input is valid. -/
def State.tRef (s : State) : Int × Bool :=
  let x := nth s.thm.cool (s.parN P.thmRefCntc) 0
  if coolOk x then (x, false)
  else match s.thm.cool.filter coolOk with
    | [] => (s.par P.thmCoolDefault, true)
    | a :: l => (l.foldl max a, false)

/-! Phases (R308 to R310). -/

/-- R309: a leg is modulating. -/
def modulating (d : Nat) : Bool := decide (0 < d) && decide (d < 0xFFFF)

/-- R309: the loss of phase p, W. -/
def State.phaseLoss (s : State) (p : Nat) : Rat :=
  let x := nth s.phm.ph p {}
  let i : Rat := if x.active then (x.iMa : Rat) / 1000 else 0
  let mag := if i < 0 then -i else i
  let vsw : Rat := ((if modulating x.da then (s.pins.vStr : Rat) else 0) + (if modulating x.db then (s.pins.vBus : Rat) else 0)) / 1000
  i * i * s.parN P.thmLossRc / 1000000 +
    (s.parN P.thmLossKsw : Rat) * mag * vsw * ratDiv 70 4000000000 s.phm.period / 1000000000000

/-- R309: one tick of the poles of a phase. -/
def State.polesNext (s : State) (p : Nat) : List Rat :=
  let w := s.phaseLoss p
  (indexed (nth s.thm.poles p [])).map (fun kt =>
    kt.2 + ratDiv 71 (tickS * 1000) (s.parN (P.thmFstTau1 + kt.1)) * (w * s.parN (P.thmFstR1 + kt.1) / 1000 - kt.2))

/-- R309: t_model of phase p, 1/64 °C. -/
def State.tModel (s : State) (p : Nat) : Rat := (s.tRef.1 : Rat) + 64 * (nth s.thm.poles p []).foldl (· + ·) 0

/-- R310: the mean of a history. -/
def meanRat (l : List Rat) : Rat := if l.isEmpty then 0 else l.foldl (· + ·) 0 / l.length

/-- R309, R310, R319: the model of phase p over a tick, its poles and its offset from the sensor; in PILOT both are the owner's. -/
def State.thmModel (s : State) (p : Nat) : State :=
  if s.sys.st = .pilot then s
  else
    let s1 := { s with thm := { s.thm with poles := s.thm.poles.set p (s.polesNext p) } }
    let lim := s1.par P.thmFstOfsmax
    let old := nth s1.thm.dHist p []
    if (nth s1.phm.ph p {}).tfail then
      let d := if nth s1.thm.fbPh p false then nth s1.thm.delta p 0 else clampI (-lim) lim (ratFree 72 (meanRat old))
      { s1 with thm := { s1.thm with delta := s1.thm.delta.set p d, dHist := s1.thm.dHist.set p [] } }
    else
      let h := ((((nth s1.thm.phT p 0 : Int) : Rat) - s1.tModel p) :: old).take 8192
      { s1 with thm := { s1.thm with delta := s1.thm.delta.set p (ratFree 72 (meanRat h)), dHist := s1.thm.dHist.set p h } }

/-- R308 to R310: phase p at a tick; its measured temperature is the sample of PHM_PH_TEMP last handed over (R90). (Log entry 82, DEDUCED.)
-/
def State.thmPhase (s : State) (p : Nat) : State :=
  let s1 := s.thmModel p
  let bad := (nth s1.phm.ph p {}).tfail
  let t := if bad then ratFree 73 (s1.tModel p) + nth s1.thm.delta p 0 else nth s1.thm.phT p 0
  { s1 with thm := { s1.thm with fbPh := s1.thm.fbPh.set p bad, tj := s1.thm.tj.set p t } }

/-! Cells (R311 to R313). -/

/-- R311: T_NTC of group g is valid. -/
def State.ntcValid (s : State) (g : Nat) : Bool :=
  !(s.mn (g / 8)).ntcFault && decide (nth s.thm.staleTicks g 0 ≤ s.parN P.thmNtcHold * 8192)

/-- R311: T_INT of group g is valid. -/
def State.intValid (s : State) (g : Nat) : Bool :=
  (s.ga g).tintValid && decide (nth s.thm.tintTicks g 0 ≤ s.parN P.thmTintAge * 8192)

/-- R311: T_used, SRC and the second value of group g. -/
def State.groupT (s : State) (g : Nat) : Int × Nat × Int :=
  let a := (s.gr g).t
  let b := (s.ga g).tint
  match s.ntcValid g, s.intValid g with
  | true, true => if (a - b).natAbs ≤ s.parN P.thmXchkTol then (a, 0, a) else (max a b, 2, min a b)
  | true, false => (a, 0, a)
  | false, true => (b, 1, b)
  | false, false =>
    let c := ratFree 74 ((nth s.thm.cell g none).getD s.tRef.1)
    (c, 3, c)

/-- R311, R313, R319: group g at a tick: outside SRC 3 the model follows T_used, from which it starts; in PILOT the model is the owner's. -/
def State.thmGroup (s : State) (g : Nat) : State :=
  let r := s.gr g
  let s1 := { s with thm := { s.thm with
    staleTicks := s.thm.staleTicks.set g (if r.old || !s.up 6 then nth s.thm.staleTicks g 0 + 1 else 0)
    tintTicks := s.thm.tintTicks.set g (nth s.thm.tintTicks g 0 + 1) } }
  let x := s1.groupT g
  let cell := if s.sys.st = .pilot then nth s1.thm.cell g none
    else if x.2.1 = 3 then some ((nth s1.thm.cell g none).getD s1.tRef.1) else some (x.1 : Rat)
  { s1 with thm := { s1.thm with tUsed := s1.thm.tUsed.set g x.1, src := s1.thm.src.set g x.2.1,
                                 tOther := s1.thm.tOther.set g x.2.2, cell := s1.thm.cell.set g cell } }

/-- R313: the cell model of group g over one frame, 1/64 °C. -/
def State.cellNext (s : State) (g : Nat) (t : Rat) : Rat :=
  let i : Rat := ((nth s.fsq.latches 0 0 : Int) : Rat) / 1000
  let r : Rat := (s.rS g : Rat) / 1000000000
  let goal : Rat := (s.tRef.1 : Rat) + 64 * (s.parN P.thmCellRth : Rat) / 1000 * i * i * r
  t + ratDiv 75 ((s.frameNs : Rat) / 1000000000) (s.parN P.thmCellTau) * (goal - t)

/-- R313: every group on the model advances once per frame. -/
def State.thmFrame (s : State) : State :=
  if s.sys.st = .pilot || !s.up 11 then s
  else { s with thm := { s.thm with cell := (indexed s.thm.cell).map (fun gc =>
    if nth s.thm.src gc.1 0 = 3 then gc.2.map (s.cellNext gc.1) else gc.2) } }

/-- R312: XCHK_DISAGREEMENT of group g: its SRC has been 2 for THM_XCHK_S. -/
def execXchkDisagreement (g : Fin 384) (s : State) : Out :=
  if nth s.thm.src g.val 0 ≠ 2 then .next s
  else
    let s1 := { s with thm := { s.thm with xchk := incSat 16 s.thm.xchk } }
    let recent := s1.thm.xLogged.filter (fun x => s1.sys.clock - x.2 < 29491200)
    if recent.any (fun x => x.1 == g.val) then .next s1
    else .next (({ s1 with thm := { s1.thm with xLogged := recent ++ [(g.val, s1.sys.clock)] } }).logPost 0 0x0902 2
      (le2 g.val ++ le2 (enc 16 (s.gr g.val).t) ++ le2 (enc 16 (s.ga g.val).tint)))

/-- R308, R312, R343: the thermal-sensor-fallback fault stands while a phase or a group is on a model. -/
def State.degThermal (s : State) : State := s.setDeg 6 (s.thm.fbPh.any id || s.thm.src.any (· == 3))

/-! Factors and limits (R315, R316). -/

/-- A rational held within 0 to 1. -/
def unit01 (x : Rat) : Rat := if x < 0 then 0 else if 1 < x then 1 else x

/-- R315: the factor with hysteresis. (Log entry 33, DEDUCED.) -/
def factorNext (prev now moved : Rat) : Rat := min now (max prev moved)

/-- R315: the factor of phase p at temperature t. -/
def State.phFactor (s : State) (p : Nat) (t : Int) : Rat :=
  let m := if nth s.thm.fbPh p false then s.par P.thmFbMargin else 0
  let t2 := s.par P.thmPhT2 - m
  unit01 (ratDiv 76 ((t2 - t : Int) : Rat) ((s.par P.thmPhT2 - s.par P.thmPhT1 : Int) : Rat))

/-- R315: the factor of a group at temperature t between the limits lo and hi. -/
def State.grpFactor (s : State) (lo hi t : Int) : Rat :=
  let b : Rat := s.par P.thmCellBand
  min (unit01 (ratDiv 77 ((t - lo : Int) : Rat) b)) (unit01 (ratDiv 78 ((hi - t : Int) : Rat) b))

/-- R315: the factor of a group at a temperature moved by THM_HYST toward the nearer limit. -/
def State.grpMoved (s : State) (lo hi t : Int) : Rat :=
  let h := s.par P.thmHyst
  s.grpFactor lo hi (if lo + hi ≤ 2 * t then t + h else t - h)

/-- R315: the new factor of a group at one temperature. -/
def State.grpNext (s : State) (lo hi t : Int) (prev : Rat) : Rat := factorNext prev (s.grpFactor lo hi t) (s.grpMoved lo hi t)

/-- R311, R318: the temperature of group g that governs, the one with the lower factor. (Log entry 100, DEDUCED.) -/
def State.grpGoverns (s : State) (lo hi : Int) (g : Nat) : Int :=
  let a := nth s.thm.tUsed g 0
  let b := nth s.thm.tOther g 0
  let ma := s.grpMoved lo hi a
  let mb := s.grpMoved lo hi b
  if mb < ma ∨ (mb = ma ∧ s.grpFactor lo hi b < s.grpFactor lo hi a) then b else a

/-- R311, R315: the new factor of group g for a direction; with SRC 2 the more adverse of the two temperatures. -/
def State.grpFac (s : State) (chg : Bool) (g : Nat) (prev : Rat) : Rat :=
  let lo := if chg then s.mir P.thmChgTmin else s.mir P.thmDisTmin
  let hi := if chg then s.mir P.thmChgTmax else s.mir P.thmDisTmax
  min (s.grpNext lo hi (nth s.thm.tUsed g 0) prev) (s.grpNext lo hi (nth s.thm.tOther g 0) prev)

/-- R315: every factor at a tick. (Log entry 33, DEDUCED.) -/
def State.factors (s : State) : State :=
  { s with thm := { s.thm with
      fPh := (indexed s.thm.fPh).map (fun pf =>
        let t := nth s.thm.tj pf.1 0
        factorNext pf.2 (s.phFactor pf.1 t) (s.phFactor pf.1 (t + s.par P.thmHyst)))
      fDis := (indexed s.thm.fDis).map (fun gf => s.grpFac false gf.1 gf.2)
      fChg := (indexed s.thm.fChg).map (fun gf => s.grpFac true gf.1 gf.2) } }

/-- The position and value of the least element, the lowest position winning a tie. -/
def leastAt (l : List Rat) : Nat × Rat :=
  (indexed l).foldl (fun b x => if x.2 < b.2 then x else b) (0, nth l 0 1)

/-- R316, R323: the computed limit of a direction with its source and governing group. (Log entry 33, DEDUCED.) -/
def State.thmLimit (s : State) (chg : Bool) : Nat × Nat × Nat :=
  let p := leastAt s.thm.fPh
  let g := leastAt (if chg then s.thm.fChg else s.thm.fDis)
  let imax := if chg then s.parN P.estIChgMax else s.parN P.estIDisMax
  let lp := (p.2 * (s.nHealthy * s.parN P.ctlImaxPerPh : Nat)).floor.toNat
  let lg := (g.2 * (imax : Nat)).floor.toNat
  let lo := if chg then s.mir P.thmChgTmin else s.mir P.thmDisTmin
  let hi := if chg then s.mir P.thmChgTmax else s.mir P.thmDisTmax
  let side := if lo + hi ≤ 2 * s.grpGoverns lo hi g.1 then 2 else 3
  if p.2 < 1 ∧ (1 ≤ g.2 ∨ lp ≤ lg) then (lp, 1, g.1)
  else if g.2 < 1 then (lg, side, g.1)
  else (1600000, 0, g.1)

/-! Derate requests and enforcement (R318, R319). -/

/-- The sequence of a direction: false discharge, true charge. -/
def Thm.seq (t : Thm) (chg : Bool) : Derate := if chg then t.chg else t.dis

/-- Change the sequence of a direction. -/
def State.setSeq (s : State) (chg : Bool) (d : Derate) : State :=
  { s with thm := if chg then { s.thm with chg := d } else { s.thm with dis := d } }

/-- R318, R399: a derate message of a kind, and what it leaves as last sent. (Log entry 31, DEDUCED.) -/
def State.derateMsg (s : State) (chg : Bool) (kind limit : Nat) : State :=
  let d := s.thm.seq chg
  let item := if d.src = 1 then s.thm.hotPh else d.grp
  let dirn := if chg then 1 else 0
  if s.sys.mgpAway then s
  else (s.attn 5 (if kind = 3 then 2 else 1) ([dirn, kind, d.src, 0] ++ le2 item ++ le4 limit)).setSeq chg
    { d with sent := limit, stSent := d.st }

/-- R318, R486: the record of a request or of an enforcement. (Log entry 31, DEDUCED.) -/
def State.derateLog (s : State) (chg : Bool) (kind limit : Nat) : State :=
  let d := s.thm.seq chg
  s.logPost 0 0x0901 (if kind = 3 then 2 else 1)
    ([if chg then 1 else 0, kind] ++ le2 (if d.src = 1 then s.thm.hotPh else d.grp) ++ le2 (limit / 1000))

/-- R318: one direction's sequence takes the computed limit. -/
def State.derateStep (s : State) (chg : Bool) : State :=
  let c := s.thmLimit chg
  let d0 := s.thm.seq chg
  let d := { d0 with req := c.1, src := c.2.1, grp := c.2.2, grace := d0.grace - tick16 }
  let open_ := decide (1600000 ≤ c.1)
  match d0.st with
  | 0 =>
    if open_ then s.setSeq chg { d with grace := 0 }
    else ((s.setSeq chg { d with st := 1, grace := s.parN P.thmGrace * 16000000 }).derateLog chg 1 c.1).derateMsg chg 1 c.1
  | 1 =>
    if open_ then (s.setSeq chg { d with st := 0, grace := 0 }).derateMsg chg 4 c.1
    else if c.1 + s.parN P.thmReqStep ≤ d.sent ∧ !s.sys.mgpAway then ((s.setSeq chg d).derateLog chg 2 c.1).derateMsg chg 2 c.1
    else s.setSeq chg d
  | _ =>
    if open_ then (s.setSeq chg { d with st := 0, enf := 1600000, grace := 0 }).derateMsg chg 5 c.1
    else s.setSeq chg { d with enf := c.1, grace := 0 }

/-- R318: GRACE_EXPIRY of a direction. -/
def execGraceExpiry (chg : Bool) (s : State) : Out :=
  let d := s.thm.seq chg
  if d.st ≠ 1 || s.sys.st == .pilot || !s.up 11 then .next s
  else .next (((s.setSeq chg { d with st := 2, enf := d.req, grace := 0 }).derateLog chg 3 d.req).derateMsg chg 3 d.req)

/-- R319: on resume one message for each direction whose state differs from the last sent. -/
def State.thmCatchUp (s : State) : State :=
  [false, true].foldl (fun t chg =>
    let d := t.thm.seq chg
    if d.st = d.stSent then t
    else t.derateMsg chg (match d.st with | 0 => if d.stSent = 2 then 5 else 4 | 1 => 1 | _ => 3) d.req) s

/-- R307: the module is hot: recorded at most once a minute. -/
def State.thmHot (s : State) : State :=
  let t := s.thm.ro.foldl max (-32768)
  let hot := decide (s.par P.thmModTwarn < t)
  let ago := s.thm.hotAgo + 1
  let s1 := { s with thm := { s.thm with hot := hot, hotAgo := ago } }
  if hot ∧ 491520 ≤ ago then
    ({ s1 with thm := { s1.thm with hotAgo := 0 } }).logPost 0 0x0903 2
      ([(Config.hotKind 0).toNat, (firstAt (fun x => x == t) s.thm.ro).getD 0] ++ le2 (enc 16 t))
  else s1

/-- R306 to R319: the thermal manager at a tick. In PILOT it computes no limits (R319). (Log entry 37, DEDUCED.) -/
def State.thmTick (s : State) : State :=
  if !s.up 11 then s
  else
    let s0 := { s with thm := { s.thm with covered := s.thm.covered.map (· + 1), phCovered := s.thm.phCovered.map (· + 1)
                                           pace := (s.thm.pace + 1) % 64, coolNone := s.tRef.2 } }
    let s1 := s0.thmConvert.thmHot
    let s2 := (List.range 16).foldl State.thmPhase s1
    let s3 := ((List.range 384).foldl State.thmGroup s2).degThermal
    if s3.sys.st = .pilot then s3
    else
      let s4 := s3.factors
      let s5 := { s4 with thm := { s4.thm with hotPh := (leastAt s4.thm.fPh).1 } }
      (s5.derateStep false).derateStep true

/-! Outputs and inputs (R320 to R322). -/

/-- R320: the duty of a source temperature between TLO and THI. -/
def dutyOf (t lo hi : Int) (dmin : Nat) : Nat :=
  if t < lo then dmin
  else if hi < t then 0xFFFF
  else (clampI 0 0xFFFF (ratFree 79 ((dmin : Rat) + (0xFFFF - (dmin : Rat)) * ratDiv 80 ((t - lo : Int) : Rat) ((hi - lo : Int) : Rat)))).toNat

/-- R320: the duty that the source of output k (0 to 3 valves, 4 to 7 fans) asks for. -/
def State.outDuty (s : State) (k : Nat) : Nat :=
  let j := k % 4
  let fan := 4 ≤ k
  let lo := s.par ((if fan then P.thmFanTlo0 else P.thmVlvTlo0) + j)
  let hi := s.par ((if fan then P.thmFanThi0 else P.thmVlvThi0) + j)
  let dmin := s.parN ((if fan then P.thmFanDmin0 else P.thmVlvDmin0) + j)
  match s.parN ((if fan then P.thmFanSrc0 else P.thmVlvSrc0) + j) with
  | 0 => 0
  | 1 => dutyOf (s.thm.tj.foldl max (-32768)) lo hi dmin
  | 2 => dutyOf (s.thm.tUsed.foldl max (-32768)) lo hi dmin
  | 3 => if nth s.thm.coolFail j false || !coolOk (nth s.thm.cool j 0) then dmin else dutyOf (nth s.thm.cool j 0) lo hi dmin
  | _ => s.parN ((if fan then P.thmFanHost0 else P.thmVlvHost0) + j)

/-- R322: the duty of output k in the present state, and none where it is not driven. -/
def State.outDriven (s : State) (k : Nat) : Option Nat :=
  match s.sys.st with
  | .off | .boot | .selftest | .pilot => none
  | .isolated => if s.fanForced k && s.up 11 then some 0xFFFF else none
  | _ => if !s.up 11 then none else some (if s.fanForced k then 0xFFFF else s.outDuty k)

/-- R320, R322: THM_OUTPUT_UPDATE; a module that hands over holds its outputs. -/
def execThmOutputUpdate (s : State) : Out :=
  if s.prl.frozen then .next s
  else
    let l := (List.range 8).map s.outDriven
    .next { s with thm := { s.thm with duty := l.map (·.getD 0), driven := l.map (·.isSome) } }

/-- R321: the condition of a supervised input as it stands: kind 0 fan, 1 flow, 2 coolant. -/
def State.ioBad (s : State) (kind i : Nat) : Bool :=
  match kind with
  | 0 => decide (19661 ≤ nth s.thm.duty (4 + i) 0) && decide (nth s.thm.rpm i 0 < s.parN P.thmFanMinRpm)
  | 1 => decide (13108 ≤ nth s.thm.duty i 0) && decide (nth s.thm.flow i 0 < s.parN P.thmFlowMin)
  | _ => !coolOk (nth s.thm.cool i 0)

/-- R321: the fault flag of an input. -/
def Thm.ioFlag (t : Thm) (kind i : Nat) : Bool :=
  match kind with | 0 => nth t.fanFail i false | 1 => nth t.flowLow i false | _ => nth t.coolFail i false

/-- R321: set the fault flag of an input. -/
def Thm.setIo (t : Thm) (kind i : Nat) (b : Bool) : Thm :=
  match kind with
  | 0 => { t with fanFail := t.fanFail.set i b }
  | 1 => { t with flowLow := t.flowLow.set i b }
  | _ => { t with coolFail := t.coolFail.set i b }

/-- R321: COOLANT_IO_FAULT: an input's condition has lasted (`on`), or has been absent, for its 5 s. -/
def execCoolantIoFault (kind : Fin 3) (i : Fin 4) (on : Bool) (s : State) : Out :=
  if s.ioBad kind.val i.val != on || s.thm.ioFlag kind.val i.val == on || (kind.val == 1 && decide (2 ≤ i.val)) then .next s
  else
    let s1 := { s with thm := s.thm.setIo kind.val i.val on }
    let t := if kind.val = 2 then enc 16 (nth s.thm.cool i.val 0) else (Config.faultT kind.val i.val).toNat
    .next (if on then s1.logPost 0 0x0903 2 ([(Config.hotKind (kind.val + 1)).toNat, i.val] ++ le2 t) else s1)

/-! The batch (R90, R185, R223). -/

/-- R90, R153: V_S of one node, and the tasks that an ESTIMATE_BATCH names for it. -/
def State.batchNode (s : State) (w n : Nat) : State :=
  let s0 := s.voltages n
  let s1 := if bitOf w 72 then s0.chargeNode n else s0
  let s2 := if bitOf w 73 then s1.coneNode n else s1
  if bitOf w 74 then s2.probeNode n else s2

/-- R90, R368: ESTIMATE_BATCH. The temperature cross-check of task 75 is the choice that the THM makes at every tick (R311). (Log entry
32, DEDUCED.) -/
def execEstimateBatch (m : EntryIn) (s : State) : Out :=
  s.onEntry 0x06 m (fun t _ w =>
    let n := entNode w
    let k := field w 69 64
    if k == 0 || 48 < k || 48 < n + k then .fault (.hostError .schedule)
    else if t.inPilot || !t.up 6 then .next t
    else .next ((List.range k).foldl (fun u i => u.batchNode w (n + i)) t))

end Sys2Proof.Machine
end

