-- ==== Sys2Proof/Machine/Frame.lean ====
section
/-! DEFINITION. Frames of the firing schedule (R76, R77, R80, R91, R94, R99, R105, R246): the work of FRAME_END, the start
of a frame, and the start of the FSQ with a stored schedule. -/

namespace Sys2Proof.Machine

/-! FRAME_END (R91). -/

/-- R91, R102: the tone counters at FRAME_END; a pilot suppresses the class. -/
def State.toneStats (s : State) : State :=
  if s.inPilot then s
  else { s with fsq := { s.fsq with tones := (indexed s.fsq.tones).map (fun kt =>
    match bankTone (s.fsq.bank s.fsq.active) kt.1 with
    | some e => toneStat kt.2 s.fsq.n e.2.1 (s.tone kt.1).tagged.isSome
    | none => kt.2) } }

/-- R368: the pilot's comparison of current latches over frames. -/
def State.latchCheck (s : State) : State :=
  if s.inPilot then
    let run := if s.prl.latchDiff then s.prl.latchRun + 1 else 0
    { s with prl := { s.prl with latchRun := run, latchOk := decide (run < 10), latchDiff := false } }
  else s

/-- R215: a write waits for one of the two OCV tables, whose points start at index base. -/
def State.tableWaits (s : State) (base : Nat) : Bool :=
  s.dict.pend.any (fun w => decide (w.at_ = .on .tables) && decide (base ≤ w.idx) && decide (w.idx < base + 128))

/-- R215: the writes of the OCV and hysteresis tables take effect once both are written. -/
def State.applyTables (s : State) : State :=
  if s.tableWaits P.estOcvTab && s.tableWaits P.estHysTab then s.applyAt (.on .tables) else s

/-- R188, R424: the writes that take effect at FRAME_END; the check of the OCV tables follows them. -/
def State.applyFrameEnd (s : State) : State :=
  let s0 := s.applyAt .frameEnd
  let s1 := ({ s0 with dict := s0.dict.promote }).applyTables
  { s1 with est := { s1.est with tabBad := !s1.tabCheck } }

/-- R91, R181: the work of FRAME_END; the writes that it takes act in its own evaluations. -/
def State.frameEndWork (s : State) : State :=
  let s1 := ((s.swapAtEnd).applyFrameEnd).measureEnd
  let s2 := ((s1.estimateEnd).toneStats).probeEnd
  let s3 := (s2.thmFrame).radioFrameEnd
  let s4 := s3.latchCheck
  { s4 with fsq := { s4.fsq with frameEnded := true, asOwner := false } }

/-- R91: FRAME_END. -/
def execFrameEnd (m : EntryIn) (s : State) : Out :=
  s.onEntry 0x0F m (fun t _ _ => .next (if t.fsq.frameEnded then t else t.frameEndWork))

/-! The start of a frame (R76, R94). -/

/-- R94: every entry of the table not yet started at the end of the frame, now, is abandoned; announced ones that are due pass before. -/
def State.abandonRest (s : State) (now : Nat) : State :=
  let t := s.announced { now := BitVec.ofNat 32 now }
  if t.fsq.tableDone then t
  else (tableFrom (t.fsq.bank t.fsq.active) 4096 t.fsq.entry).foldl (fun u x => u.logSkip x.1 x.2 false) t

/-- R77: UNALIGNED follows the grid while time is locked, and stands in LOCKED while the offset exceeds LMP_ALIGN_TOL (R411). Without lock
a frame that leaves the grid of the last known second, as a change of its length makes it, raises the flag, and nothing clears it. (Log
entry 69, DEDUCED.) -/
def State.alignStat (s : State) : State :=
  let off := s.offGrid s.fsq.frameStart s.frameNs != 0 || (s.timeLock && decide (s.par P.lmpAlignTol < s.lmp.offset.natAbs))
  { s with fsq := { s.fsq with unaligned := off || (!s.timeLock && s.fsq.unaligned) } }

/-- R412: the next second as the step leaves it, advanced past a boundary already reached. -/
def Lmp.secMarkAt (l : Lmp) (now : Nat) : Nat :=
  match l.secAt with
  | none => l.secMark
  | some t => if reached now t then addT t 1000000000 else t

/-- R411: a step may be made in these states. -/
def State.stepState (s : State) : Bool :=
  s.sys.st == .boot || s.sys.st == .selftest || s.sys.st == .standby || s.sys.st == .isolated

/-- R411, R412: a step of the time base at a frame boundary, still in ACQUIRING and in one of those states; the next frame start moves
with it, and armed triggers are cancelled. -/
def State.stepTime (s : State) : State :=
  match s.lmp.step with
  | none => s
  | some d =>
    if s.lmp.st ≠ .acquiring ∨ !s.stepState then { s with lmp := { s.lmp with step := none } }
    else { s with
      lmp := { s.lmp with time := addT s.lmp.time d, step := none, stepped := true, offset := s.lmp.offset + d,
                          secMark := s.lmp.secMarkAt (addT s.lmp.time d), secValid := s.lmp.secValid || s.lmp.secAt.isSome,
                          trigStep := (List.range 4).map (fun i => nth s.lmp.trigStep i false || nth s.lmp.armed i false),
                          armed := [false, false, false, false] }
      fsq := { s.fsq with frameStart := addT s.fsq.frameStart d } }

/-- R246: an accepted PWM period takes effect at the first frame start with no phase switching. -/
def State.adoptPeriod (s : State) : State :=
  match s.fsq.perPending with
  | some p => if s.activePh.isEmpty then
      { s with phm := { s.phm with period := p }, fsq := { s.fsq with perPending := none }
               dict := s.dict.setWork P.phmPeriod p } else s
  | none => s

/-- R276, R286: what the CE takes at a frame start. -/
def State.ceFrameStart (s : State) : State :=
  let s1 := (s.applyAt .frameStart).applyAt (.on .frame)
  { s1 with ctl := { s1.ctl with outerDiv := s1.parN P.ctlOuterDiv, estTerm := (s1.est.limDis, s1.est.limChg) } }

/-- R495: the trace of a whole frame begins or ends. -/
def Fsq.traceStart (f : Fsq) : Fsq :=
  if f.traceArmed then { f with traceArmed := false, tracing := true, trace := [] } else { f with tracing := false }

/-- R76, R89, R92: the FSQ's own state at a frame start at time t. -/
def Fsq.newFrame (f : Fsq) (t : Nat) : Fsq :=
  ({ f with frameStart := t, frameCnt := inc32 f.frameCnt, entry := 0, tableDone := false, frameEnded := false, frozen := false,
            lateSnap := false, stretch := 0, lastAt := t, radioHeld := false } : Fsq).traceStart

/-- R89: the snapshot instant of the frame that starts. -/
def Fsq.markNext (f : Fsq) : Fsq :=
  { f with snapAt := (bankFind (f.bank f.active) (fun w => entClass w == 4)).map f.startOf }

/-- R99: a swap changes what the link and the probe take from the bank. -/
def State.bankChange (s : State) : State :=
  if s.fsq.swapped then
    let s1 := ((s.swapAtStart).applyBank).loadTones
    -- R495: a trace that is running goes on with the new bank's frame
    { s1 with fsq := { s1.fsq with traceArmed := s1.fsq.traceArmed || s1.fsq.tracing }
              fnl := { s1.fnl with activeSlot := s.fnl.shadowSlot, shadowSlot := s.fnl.activeSlot } }
  else s.swapAtStart

/-- R367: the owner's active bank, as the copy names it, governs a pilot from the next frame on. (Log entry 65, DEDUCED.) -/
def State.followBank (s : State) : State :=
  match s.prl.copy with
  | some c =>
    if s.inPilot && c.active != s.fsq.active then { s with fsq := { s.fsq with swapped := true, next := Tv.put c.active } } else s
  | none => s

/-- R76: one frame ends and the next starts. -/
def State.frameStart (s : State) : State :=
  let t := addT s.fsq.frameStart (s.frameNs + s.fsq.stretch)
  let s1 := (if s.fsq.frameEnded then s else s.frameEndWork).abandonRest t
  let s2 := s1.followBank.bankChange
  let s3 := ({ s2 with fsq := s2.fsq.newFrame t }).stepTime
  let s4 := { s3 with fsq := s3.fsq.markNext, prl := { s3.prl with mirrorAge := incSat 16 s3.prl.mirrorAge } }
  ((((s4.alignStat).adoptPeriod).ceFrameStart).linkFrameStart)

/-- R76: FRAME_START. -/
def execFrameStart (s : State) : Out := .next (if s.fsq.running then s.frameStart else s)

/-! The start of the FSQ (R80, R105). -/

/-- R105: the built-in idle table. -/
def idleTable : Nat := 1995000 + 0x0F * 2 ^ 24 + 2 ^ 30 + 2 ^ 64

/-- R104: the entries of an image as the contents of a bank. -/
def imageBank (entries : List Nat) : Mem := memPutL [] 0 (entries.flatMap (leBytes 16))

/-- R105: unit u has failed its loopback test. -/
def State.unitFailed (s : State) (u : Nat) : Bool := (s.unit u).tested && !(s.unit u).loopOk

/-- R105: the slot that the order of R105 finds. -/
def State.bootSlot (s : State) : Option Nat :=
  let lone := if s.unitFailed 0 && !s.unitFailed 1 then s.slotWith (onlyUnit 1)
              else if s.unitFailed 1 && !s.unitFailed 0 then s.slotWith (onlyUnit 0) else none
  match lone with
  | some k => some k
  | none => s.slotWith (fun _ => true)

/-- R105: slot k holds an image that is not valid; an empty slot holds none. -/
def State.badImage (s : State) (k : Nat) : Bool :=
  match s.upd.sched[k]? with
  | some i => !i.checks && !i.entries.isEmpty
  | none => false

/-- R105: every slot whose image is not valid is named in the log. (Log entry 34, DEDUCED.) -/
def State.rejectImages (s : State) : State :=
  ((List.range 4).filter s.badImage).foldl (fun t k => t.logPost 0 0x0203 3 [k]) s

/-- R80, R105: the FSQ starts from bank 0, loaded with the image that the order of R105 finds. (Log entry 34, DEDUCED.) -/
def State.loadBoot (s : State) : State :=
  let slot := s.bootSlot
  let ents := match slot with | some k => ((s.image k).map (·.entries)).getD [] | none => [idleTable]
  let bank := imageBank ents
  let f : Fsq := { s.fsq with running := true, bank0 := bank, active := 0, next := Tv.put 0, lenCode := bankLen bank 1, n := 0,
                              frameCnt := 0, frameStart := s.lmp.time, entry := 0, tableDone := false, frameEnded := false,
                              align := s.par P.fsqAlign, lastAt := s.lmp.time }
  let s1 := { s with fsq := f.markNext, fnl := { s.fnl with activeSlot := slot, shadowSlot := none }
                     est := { s.est with hist := [(0, s.est.qintRun)] } }
  (((s1.applyBank).loadTones).alignStat).ceFrameStart

/-- R80, R105: the FSQ starts; images that are not valid are named in the log. -/
def State.startFsq (s : State) : State := s.rejectImages.loadBoot

/-- R105: the loopback tests of SELFTEST have ended: where order 1 now finds another image, it is loaded in place of the first. (Log entry
34, DEDUCED.) -/
def State.bootReselect (s : State) : State :=
  if s.fsq.running && s.bootSlot != s.fnl.activeSlot then s.loadBoot else s

end Sys2Proof.Machine
end

