-- ==== Sys2Proof/Machine/Saggar.lean ====
section
/-! DEFINITION. The saggar safety channel (R325 to R361): its inputs and diagnostics, coil paths and contactor checks, safety
PDUs, the clearing of isolation causes, and the safety configuration with its change log. -/

namespace Sys2Proof.Machine

/-! When the saggar acts. -/

/-- R50, R325: the saggar runs, in a state from SELFTEST onward. -/
def State.sagLive (s : State) : Bool :=
  nth s.sys.pd 1 false && s.sys.st != .off && s.sys.st != .boot

/-- R50, R330: isolate from SELFTEST onward. -/
def State.sagIsolate (s : State) (c : Nat) : State := if s.sagLive then s.isolate c else s

/-- R328, R378: a diagnostic fails, or passes again; the health word shows whether one fails. -/
def State.diag (s : State) (k : Nat) (bad : Bool) : State :=
  let l := s.sag.diagBad.filter (· != k)
  let l1 := if bad then l ++ [k] else l
  { s with sag := { s.sag with diagBad := l1 }, prl := { s.prl with sagBad := !l1.isEmpty || s.sag.hardDiag } }

/-- R328: diagnostic k fails: isolation with cause 0x11. -/
def State.diagFail (s : State) (k : Nat) : State := if s.sagLive then (s.diag k true).isolate 0x11 else s

/-- R328, R332: a memory or image error, which only a module reset clears. -/
def State.diagHard (s : State) : State :=
  let s1 := s.sagIsolate 0x11
  { s1 with sag := { s1.sag with hardDiag := true }, prl := { s1.prl with sagBad := true } }

/-! Diagnostics and hardware functions (R327, R328, R330, R506). -/

/-- R327: SAG_WINDOW_OVERRUN: two consecutive protection cycles have not completed. -/
def execSagWindowOverrun (s : State) : Out :=
  let s1 := s.sagIsolate 0x10
  .next { s1 with sag := { s1.sag with goodCycles := 0 } }

/-- R328: LOCKSTEP_MISMATCH. -/
def execLockstepMismatch (s : State) : Out := .next (s.diagFail 0)

/-- R328: SAG_ECC_SCRUB; a single-bit error is corrected, an uncorrectable one isolates, and shows in the health word (R378). -/
def execSagEccScrub (corrected : Nat) (uncorrectable : Bool) (s : State) : Out :=
  let s1 := { s with log := { s.log with eccCorr := addSat 16 s.log.eccCorr corrected } }
  .next (if uncorrectable then { s1.diagHard with prl := { s1.diagHard.prl with eccBad := true } } else s1)

/-- R328: SAG_CRC_CHECK of image and configuration. -/
def execSagCrcCheck (ok : Bool) (s : State) : Out := .next (if ok then s else s.diagHard)

/-- R328: SAG_SHUNT_COMPARE: the saggar's own shunt filter, `own`, against the CE's shunt mean; the tenth comparison in a row that finds
more than 16 A between them, 100 ms of them, fails. (Log entry 85, DEDUCED.) -/
def execSagShuntCompare (own : Int) (s : State) : Out :=
  let run := if 16000 < (own - s.pins.shunt).natAbs then min 10 (s.sag.shuntRun + 1) else 0
  let s1 := { s with sag := { s.sag with shuntRun := run } }
  .next (if run = 0 then s1.diag 3 false else if run = 10 then s1.diagFail 3 else s1)

/-- R328: SAG_SUPPLY_FAULT: coil feed below 16 V or an internal rail out of range for 5 ms, or back. -/
def execSagSupplyFault (bad : Bool) (s : State) : Out := .next (if bad then s.diagFail 6 else s.diag 6 false)

/-- R506: X8_STREAM_LOST, or the stream is back. -/
def execX8StreamLost (lost : Bool) (s : State) : Out :=
  if !lost then .next (s.diag 7 false)
  else
    let s1 := s.diagFail 7
    .next (if s.sys.st = .selftest then { s1 with prl := { s1.prl with refOk := false } } else s1)

/-- R330: OVERCURRENT: the shunt has read `ma` or more beyond for SAG_OC_T. -/
def execOvercurrent (ma : Int) (s : State) : Out :=
  .next (if s.saf P.sagOcDis < ma then s.sagIsolate 5 else if ma < -(s.saf P.sagOcChg) then s.sagIsolate 6 else s)

/-- R330, R342: INTERLOCK_OPEN: the interlock has read open for 2 ms. -/
def execInterlockOpen (s : State) : Out :=
  let s1 := { s with pins := { s.pins with ilkClosed := false }, sag := { s.sag with ilkOpened := true } }
  .next (if s1.sag.ilkDone then s1.sagIsolate 9 else s1.coilService)

/-- R342: ILK_TEST_PASS: after at least 100 ms open the interlock has read closed for 2 ms. (Log entry 35, DEDUCED.) -/
def execIlkTestPass (s : State) : Out :=
  let s1 := { s with pins := { s.pins with ilkClosed := true } }
  if s.sag.ilkDone || !(s.sag.ilkOpened || !s.pins.ilkClosed) then .next s1
  else .next { s1 with sag := { s1.sag with ilkDone := true, ilkOpened := false } }

/-- R372: ISOLATE_LINE asserted or released by the partner. -/
def execIsolateLine (asserted : Bool) (s : State) : Out :=
  let s1 := { s with pins := { s.pins with isolateIn := asserted } }
  .next (if asserted && s1.prl.mode == 1 then s1.sagIsolate 0x15 else s1)

/-- R365, R372: ISOLATION_DEMAND_RX: the payload of a demand arrives, or (none) the demand is repeated no more. -/
def execIsolationDemandRx (b : Option (List Byte)) (s : State) : Out :=
  match b with
  | none => .next { s with sag := { s.sag with demandIn := false } }
  | some l => s.pairRx l 4 (fun t => .next (({ t with sag := { t.sag with demandIn := true } }).sagIsolate 0x16))

/-! Contactor outputs (R338 to R341, R502). -/

/-- R340, R502: switch sw of the coil paths fails its test. -/
def State.coilTestFail (s : State) (sw : Nat) : State :=
  ({ s with sag := { s.sag with tpFail := s.sag.tpFail.set sw true, tpWait := s.sag.tpWait.set sw true } }).sagIsolate 0x0F

/-- R340: the tick of the second at which switch sw has its slot in a module of effective position p. -/
def coilSlot (sw p : Nat) : Nat := 1024 * sw + 512 * p

/-- R340: the slot of switch sw is skipped. -/
def State.slotSkip (s : State) (sw : Nat) : State :=
  { s with sag := { s.sag with tpSkip := s.sag.tpSkip.modify sw (· + 1) } }

/-- R340: what the readback must show, row by row, of the switch and of its partner: of a held path the switch off and on again; of an open
path on, off, on and off, with the partner off throughout. -/
def readsOk (held : Bool) (reads : List (Bool × Bool)) : Bool :=
  if held then reads.map (·.1) == [false, true] else reads == [(true, false), (false, false), (true, false), (false, false)]

/-- R340: COIL_TEST_SLOT of switch sw at its tick: `reads` are the levels of the switch and of its partner, row by row; `moving` says that
the contactor changes state. -/
def execCoilTestSlot (sw : Fin 8) (reads : List (Bool × Bool)) (moving : Bool) (s : State) : Out :=
  let k := sw.val / 2
  if s.sys.slot ≠ coilSlot sw.val s.prl.pos then .next s
  else if (nth s.sag.pullin k false || moving) && decide (nth s.sag.tpSkip sw.val 0 < 5) then .next (s.slotSkip sw.val)
  else
    let s1 := { s with sag := { s.sag with tpSkip := s.sag.tpSkip.set sw.val 0 } }
    if readsOk (nth s.sag.coil k false) reads then
      .next { s1 with sag := { s1.sag with tpFail := s1.sag.tpFail.set sw.val false, tpWait := s1.sag.tpWait.set sw.val false } }
    else .next (s1.coilTestFail sw.val)

/-- R502: COIL_PATH_OVERCURRENT: the path is limited and switched off, which shows as a readback failure. -/
def execCoilPathOvercurrent (k : Fin 4) (s : State) : Out :=
  .next (({ s with sag := s.sag.coilOff k.val }).coilTestFail (2 * k.val))

/-- R339, R272: CLOSE_TIMEOUT of COk; for CO3 of a tracking start the start is abandoned. -/
def execCloseTimeout (k : Fin 4) (s : State) : Out :=
  if !nth s.sag.coil k.val false || s.aux k.val then .next s
  else
    let s1 := (({ s with sag := s.sag.coilOff k.val }).wantCo k.val false).logPost 1 0x0A03 3 [k.val]
    if k.val = 3 ∧ s1.phm.trk = .co3Req then .next ((s1.abandonTrk 7 3).attn 9 3 [1]) else .next s1

/-- R341: no gate line switches. -/
def State.gatesAllLow (s : State) : Bool := s.activePh.isEmpty

/-- R370: the partner's path of COk is energised, as its heartbeats say. -/
def State.partnerCoil (s : State) (k : Nat) : Bool :=
  s.prl.mode == 1 && s.prl.partnerOk && (match s.prl.partner with | some p => nth p.coCmd k false | none => false)

/-- R341, R370: WELD_CHECK of COk, of its auxiliary contact or (`volt`) of the voltage across it, once both paths are off. -/
def State.weldBad (s : State) (k : Nat) (volt : Bool) : Option Bool :=
  let dv := s.safN P.sagWeldDv
  if nth s.sag.coil k false || s.partnerCoil k then none
  else if !volt then some (s.aux k)
  else match k with
    | 2 => none
    | 3 => if !s.aux 3 && s.gatesAllLow && decide (s.par P.phmTrkDead ≤ s.pins.vBus) then
        some (decide ((s.pins.vBus - s.pins.vLink).natAbs < dv)) else none
    | _ => if !s.aux 0 && !s.aux 1 && s.gatesAllLow then some (decide ((s.pins.vStr - s.pins.vPre).natAbs < dv)) else none

/-- R341: WELD_CHECK: a failed check is cause 0x0D. -/
def execWeldCheck (k : Fin 4) (volt : Bool) (s : State) : Out :=
  match s.weldBad k.val volt with
  | none => .next s
  | some bad =>
    let i := if volt then 4 + k.val else k.val
    let s1 := { s with sag := { s.sag with weld := s.sag.weld.set i bad, weldWait := s.sag.weldWait.set i bad } }
    .next (if bad then s1.sagIsolate 0x0D else s1)

/-- R341: CONTACTOR_DROPOUT of COk: its contact has read open for 20 ms while its path is energised. One that has not closed since then has
failed to close (R339). (Log entry 92, DEDUCED.) -/
def execContactorDropout (k : Fin 4) (s : State) : Out :=
  .next (if nth s.sag.coil k.val false && !s.aux k.val && nth s.sag.seen k.val false then s.sagIsolate 0x0E else s)

/-- R338: PULLIN_END of COk. -/
def execPullinEnd (k : Fin 4) (s : State) : Out :=
  .next { s with sag := { s.sag with pullin := s.sag.pullin.set k.val false } }

/-! Safety PDUs (R345 to R351). -/

/-- R343 bit 9: SAG_PDU_REQ is 1 and there is no session. -/
def State.degSession (s : State) : State := s.setDeg 9 (s.saf P.sagPduReq == 1 && !s.sag.session)

/-- R348: the check that a copy fails, before SEQ: 0 FMT, 1 CRC, 2 CONN, 3 WD; none where it passes. -/
def State.pduCheck (s : State) (b : List Byte) : Option Nat :=
  let cmd := leAt b 10 2
  if b.length ≠ 20 ∨ leAt b 0 1 ≠ 0xC1 ∨ leAt b 1 1 ≠ 1 ∨ (cmd ≠ 0x5AA5 ∧ cmd ≠ 0xA55A) then some 0
  else if crc32c (b.take 16) ≠ leAt b 16 4 then some 1
  else if leAt b 4 4 ≠ s.safN P.sagConnId ∨ s.safN P.sagConnId = 0 then some 2
  else if leAt b 8 2 ≠ s.safN P.sagPduWd then some 3
  else none

/-- R348, R360: count a failing check; the last two fields saturate at 15. -/
def PduErr.count (e : PduErr) (k : Nat) : PduErr :=
  match k with
  | 0 => { e with fmt := incSat 8 e.fmt }
  | 1 => { e with crc := incSat 8 e.crc }
  | 2 => { e with conn := incSat 8 e.conn }
  | 3 => { e with wd := incSat 4 e.wd }
  | _ => { e with seq := incSat 4 e.seq }

/-- R348: a copy on port p is discarded and counted. -/
def State.pduDrop (s : State) (p : PortId) (k : Nat) : State :=
  { s with sag := { s.sag with err := s.sag.err.modify p.idx (·.count k) } }

/-- R350, R343: the fault "one plant network lost" after the runs of missing and of matching copies. -/
def State.degNet (s : State) : State :=
  let n := s.safN P.sagNetMiss
  if s.sag.missRun.any (n ≤ ·) then s.setDeg 7 true else if n ≤ s.sag.okRun then s.setDeg 7 false else s

/-- R350: the PDU last acted on has lacked its second copy. -/
def State.pduMiss (s : State) : State :=
  if !s.sag.pairOpen then s
  else
    let j := 1 - s.sag.firstPort.idx
    let g := { s.sag with pairOpen := false, okRun := 0, missCnt := s.sag.missCnt.modify j (incSat 16),
                          missRun := (List.range 2).map (fun i => if i = j then nth s.sag.missRun j 0 + 1 else 0) }
    ({ s with sag := g }).degNet

/-- R332: cause c has been observed to clear. -/
def Sag.clears (g : Sag) (c : Nat) : Sag := { g with cleared := if g.cleared.contains c then g.cleared else g.cleared ++ [c] }

/-- R349, R351: a new PDU is acted on. -/
def State.pduAct (s0 : State) (p : PortId) (b : List Byte) : State :=
  let s := s0.pduMiss
  let run := leAt b 10 2 == 0x5AA5
  let fresh := !s.sag.session
  let g0 := { s.sag with session := true, lastSeq := leAt b 2 2, run := run, first := b, firstPort := p, pairOpen := true,
                         netA := p == .a, netB := p == .b }
  let g1 := if run then g0.clears 0x0A else g0
  let g2 := if run && fresh then g1.clears 0x0B else g1
  let s1 := ({ s with sag := g2 }).degSession
  (if run then s1 else s1.sagIsolate 0x0A).sendStatus

/-- R350: the second copy of the PDU last acted on is compared with the first. -/
def State.pduSecond (s : State) (b : List Byte) : State :=
  let g0 := { s.sag with pairOpen := false }
  if b = s.sag.first then
    let g1 := { g0 with netA := true, netB := true, okRun := g0.okRun + 1, missRun := [0, 0] }
    ({ s with sag := if g1.run then g1.clears 0x0C else g1 }).degNet
  else ({ s with sag := { g0 with mismatch := incSat 16 g0.mismatch, okRun := 0, missRun := [0, 0] } }).sagIsolate 0x0C

/-- R346: port p has received a valid command PDU, from an address and UDP port. -/
def State.pduHeard (s : State) (p : PortId) (h : Net) : State :=
  { s with sag := { s.sag with heard := s.sag.heard.set p.idx true, dest := s.sag.dest.set p.idx (h.addr, h.udp) } }

/-- R348 to R351: a copy on port p, which came as h says. -/
def State.pduCopy (s : State) (p : PortId) (b : List Byte) (h : Net) : State :=
  match s.pduCheck b with
  | some k => s.pduDrop p k
  | none =>
    let d := (leAt b 2 2 + 65536 - s.sag.lastSeq) % 65536
    let t := s.pduHeard p h
    if !s.sag.session then t.pduAct p b
    else if d = 0 then (if s.sag.pairOpen && p != s.sag.firstPort then t.pduSecond b else s.pduDrop p 4)
    else if d ≤ 16 then t.pduAct p b
    else s.pduDrop p 4

/-- R325, R348 to R351: SAFETY_PDU: a datagram for the safety UDP port on port p. -/
def execSafetyPdu (p : PortId) (b : List Byte) (h : Net) (s : State) : Out :=
  s.datagram p h b.length 48049 (.next (if nth s.sys.pd 1 false then s.pduCopy p b h else s))

/-- R350: PDU_PAIR_EXPIRY. -/
def execPduPairExpiry (s : State) : Out := .next s.pduMiss

/-- R351: PDU_WATCHDOG_EXPIRY. -/
def execPduWatchdogExpiry (s : State) : Out :=
  if s.sag.session then .next ((({ s with sag := { s.sag with session := false } }).degSession).sagIsolate 0x0B) else .next s

/-! Clearing of causes (R332). -/

/-- R332: every group of a valid sweep satisfies p: each group that is not LOST has a valid sweep, and some group has. -/
def State.allSweeps (s : State) (p : GroupRec → Bool) : Bool :=
  s.csm.recs.all (fun r => r.lost || (!r.old && p r)) && s.csm.recs.any (fun r => !r.old)

/-- R175: nodes LOST. -/
def State.lostCount (s : State) : Nat := (s.mea.nodes.filter (·.lost)).length

/-- R332: cause c has cleared, judged on the last valid readings. (Log entries 27, DEDUCED; 64, DEDUCED.) -/
def State.causeClear (s : State) (c : Nat) : Bool :=
  match c with
  | 0 => true
  | 1 => s.mea.loop == 0
  | 2 => s.mea.loop == 0
  | 3 => s.allSweeps (fun r => decide ((r.vRaw : Int) < s.saf P.sagOvHard - 200))
  | 4 => s.allSweeps (fun r => decide (s.saf P.sagUvHard + 200 < (r.vRaw : Int)))
  | 5 => true
  | 6 => true
  | 7 => s.csm.recs.all (fun r => decide (r.t < s.saf P.sagOtCell - 320))
  | 8 => s.phm.ph.all (fun x => decide (x.temp < s.saf P.sagOtPh - 640))
  | 9 => s.pins.ilkClosed
  | 0x0D => !s.sag.weldWait.any id
  | 0x0E => !s.pins.aux.any id && !s.sag.coil.any id
  | 0x0F => !s.sag.tpWait.any id
  | 0x10 => decide (8192 ≤ s.sag.goodCycles)
  | 0x11 => s.sag.diagBad.isEmpty && !s.sag.hardDiag && s.sag.cfgValid
  | 0x12 => !s.degAny
  | 0x13 => decide (s.lostCount ≤ s.safN P.sagLostMax)
  | 0x14 => true
  | 0x15 => !s.pins.isolateIn
  | 0x16 => !s.sag.demandIn
  | 0x17 => true
  | _ => s.sag.cleared.contains c

/-- R50, R332: every recorded cause has cleared, and a valid configuration is in force (R358, R470). -/
def State.causesClear (s : State) : Bool := s.sag.causes.all s.causeClear && s.sag.cfgValid

/-- R50: the latch is cleared; the ISOLATE line and the demand are released. -/
def State.latchClear (s : State) : State :=
  { s with sag := { s.sag with latch := false, cause := 0, causes := [], cleared := [], isolateOut := false, demandOut := false } }

/-! Safety configuration (R335, R352 to R358). -/

/-- R358: the ENTRIES form of the configuration. -/
def cfgBytes (cfg : List Int) : List Byte :=
  (Params.safety.zip cfg).flatMap (fun iv => leBytes 2 iv.1 ++ leBytes 2 0 ++ leBytes 4 (enc 32 iv.2))

/-- R358: the configuration CRC. -/
def cfgCrc (cfg : List Int) : Nat := crc32c (cfgBytes cfg)

/-- R355: the set that the configuration would hold with the staged values. -/
def State.stagedCfg (s : State) : List Int :=
  (Params.safety.zip s.sag.cfg).map (fun iv => (lookupI s.sag.staged iv.1).getD iv.2)

/-- A value of a set of safety parameters. -/
def cfgVal (cfg : List Int) (i : Nat) : Int := match Params.safetyPos i with | some j => nth cfg j 0 | none => 0

/-- R361: value v of index i is in range. -/
def inRange (i : Nat) (v : Int) : Bool := match Params.at i with | some p => decide (p.lo ≤ v) && decide (v ≤ p.hi) | none => false

/-- R335: the relations in their order, each with its lowest index. -/
def relations (c : List Int) : List (Bool × Nat) :=
  let v := cfgVal c
  [(decide (v P.sagUvHard < v P.sagOvHard), P.sagOvHard),
   (decide (v P.sagOvHard < 100 * v P.meaCmpOv) && decide (100 * v P.meaCmpUv < v P.sagUvHard), P.meaCmpOv),
   (decide (v P.thmChgTmin < v P.thmChgTmax) && decide (v P.thmDisTmin < v P.thmDisTmax), P.thmChgTmin),
   (decide (v P.thmDisTmax < v P.sagOtCell) && decide (v P.thmChgTmax < v P.sagOtCell), P.thmChgTmax),
   (decide (v P.sagPduPair < v P.sagPduWd), P.sagPduWd)]

/-- R355: the index that a commit is refused for: the lowest out of range, else that of the first failing relation. -/
def cfgBad (c : List Int) : Option Nat :=
  match (Params.safety.zip c).find? (fun iv => !inRange iv.1 iv.2) with
  | some iv => some iv.1
  | none => ((relations c).find? (fun r => !r.1)).map (·.2)

/-- R357: entries not free. -/
def Sag.clogUsed (g : Sag) : Nat := (g.clog.filter (fun e => g.clogAck < e.seq)).length

/-- R357: entries free. -/
def Sag.clogFree (g : Sag) : Nat := 1024 - g.clogUsed

/-- R356: the newest SEQ. -/
def Sag.clogSeq (g : Sag) : Nat := match g.clog.getLast? with | some e => e.seq | none => 0

/-- R356: one entry; the log keeps the newest 1,024. -/
def State.clogAdd (s : State) (kind source index : Nat) (old new : Int) : State :=
  let e : ClogEntry := { seq := s.sag.clogSeq + 1, opsec := s.sys.opsec, pcc := s.sys.pcc, kind := kind, source := source,
                         index := index, old := old, new := new, cfgCrc := cfgCrc s.sag.cfg }
  let l := s.sag.clog ++ [e]
  { s with sag := { s.sag with clog := l.drop (l.length - 1024) } }

/-- R426: the voted mirror follows the configuration. -/
def mirrorOf (cfg : List Int) : List Tv := cfg.map (fun v => Tv.put (enc 32 v))

/-- R355: the parameters that the staged set changes: index, old, new. -/
def State.cfgChanges (s : State) : List (Nat × Int × Int) :=
  ((Params.safety.zip (s.sag.cfg.zip s.stagedCfg)).filter (fun x => x.2.1 != x.2.2))

/-- R355, R358: the new configuration is written, with one change-log entry per changed parameter; ILK_TEST_DONE is
cleared, the login ends, and changed comparator limits go to the nodes (R158). -/
def State.cfgCommit (s : State) (source : Nat) : State :=
  let ch := s.cfgChanges
  let cfg := s.stagedCfg
  let t := commitTarget s.sag.slots
  let g := { s.sag with cfg := cfg, pmir := mirrorOf cfg, staged := [], login := none, ilkDone := false, ilkOpened := false,
                        cfgValid := true,
                        slots := s.sag.slots.set t.1 { valid := true, seq := t.2, data := Params.safety.zip cfg } }
  let s1 := ch.foldl (fun t x => t.clogAdd 1 source x.1 x.2.1 x.2.2) { s with sag := g }
  let s2 := s1.degSession
  if ch.any (fun x => x.1 == P.meaCmpOv || x.1 == P.meaCmpUv) then
    (List.range 48).foldl (fun t n => if 2 ≤ (t.nl n).st then t.queueLimits n else t) s2
  else s2

/-- R355, R358, R438: the write of the staged values begins: it is over the slot that is not in force, which is not valid till it ends. -/
def State.cfgOpen (s : State) (source : Nat) : State :=
  { s with sag := { s.sag with job := some (s.sag.staged, source)
                               slots := s.sag.slots.modify (commitTarget s.sag.slots).1 (fun x => { x with valid := false }) } }

/-- R355: the write ends, and with it the commit, whatever has happened to the login meanwhile. -/
def State.cfgEnd (s : State) : State :=
  match s.sag.job with
  | none => s
  | some (l, src) => ({ s with sag := { s.sag with staged := l, job := none } } : State).cfgCommit src

/-- R354: LOGIN_LOCK_END. -/
def execLoginLockEnd (s : State) : Out :=
  .next (if s.sag.locked then { s with sag := { s.sag with locked := false, loginFail := 0 } } else s)

/-- R209, R358: the read-back of the slot fails: it stays not valid, and the configuration before it stays in force. (Log entry 93,
DEDUCED.) -/
def State.cfgFail (s : State) : State := { s with sag := { s.sag with job := none, login := none, staged := [] } }

/-- R355: LOGIN_IDLE_END. -/
def execLoginIdleEnd (s : State) : Out := .next { s with sag := { s.sag with login := none } }

/-- R353: the password matches the stored digest. -/
def Sag.pwOk (g : Sag) (pw : List Byte) : Bool :=
  match g.pw with
  | some (salt, d) => pwDigest salt pw == d
  | none => false

/-- R354: a failed login: counted, logged, and the fifth in a row locks. (Log entry 46, DEDUCED.) -/
def State.loginFails (s : State) (src : Nat) : State :=
  let n := incSat 8 s.sag.loginFail
  ({ s with sag := { s.sag with loginFail := n, locked := decide (5 ≤ n),
                                  lockAt := if 5 ≤ n then s.sys.clock else s.sag.lockAt } }).logPost 1 0x0A02 2 [src, n]

/-- R353: a password in form: 6 to 12 characters from 0x21 to 0x7E. -/
def pwForm (pw : List Byte) : Bool :=
  decide (6 ≤ pw.length) && decide (pw.length ≤ 12) && pw.all (fun b => decide (0x21 ≤ b.toNat) && decide (b.toNat ≤ 0x7E))

/-- R353, R356: the password is set or changed, with a fresh salt (log entry 2). -/
def State.setPassword (s : State) (pw : List Byte) (source : Nat) : State :=
  let salt := Config.random s.fresh
  ({ s with fresh := s.fresh + 1, sag := { s.sag with pw := some (salt, pwDigest salt pw) } }).clogAdd 2 source 0xFFFF 0 0

/-- R470: the effect of a saggar reset with the new image's format and firmware word. -/
def State.sagReset (s : State) (format fw : Nat) : State :=
  let oldFw := nth s.sys.fw 2 0
  let same := decide (format = s.sys.fmtSag)
  let d : Sag := {}
  -- the reset values of R360; what MRAM holds is kept
  let g : Sag := { d with
    latch := s.sag.latch, cause := s.sag.cause, causes := s.sag.causes.filter (fun c => !(c = 5 ∨ c = 6 ∨ c = 0x14 ∨ c = 0x17)),
    cleared := s.sag.cleared, hardDiag := s.sag.hardDiag, weldWait := s.sag.weldWait, tpWait := s.sag.tpWait,
    pw := if same then s.sag.pw else none, cfg := if same then s.sag.cfg else d.cfg,
    pmir := if same then s.sag.pmir else mirrorOf d.cfg, slots := if same then s.sag.slots else d.slots,
    cfgValid := same && s.sag.cfgValid, clog := s.sag.clog, clogAck := s.sag.clogAck, ilkDone := same && s.sag.ilkDone,
    ovRun := s.sag.ovRun, uvRun := s.sag.uvRun, otRun := s.sag.otRun, otPhRun := s.sag.otPhRun }
  let s1 := ({ s with sag := g, sys := { s.sys with fw := s.sys.fw.set 2 fw, fmtSag := format
                                                    fenced := s.sys.fenced.set 1 true } }).clogAdd 5 3 0xFFFF oldFw fw
  if same then s1 else s1.clogAdd 4 3 0xFFFF 0 0

/-- R470: SAGGAR_RESET after a confirmed activation with a saggar image: isolation 0x17, without the ISOLATE line or a
demand. -/
def execSaggarReset (s : State) : Out :=
  if !s.upd.sagReset then .next s
  else
    let part := (s.upd.force.find? (fun p => p.kind == 3)).getD { kind := 3, format := s.sys.fmtSag }
    let s1 := (s.isolate 0x17).sagReset part.format part.version
    .next { s1 with
      sag := { s1.sag with isolateOut := s.sag.isolateOut, demandOut := s.sag.demandOut }
      upd := { s1.upd with sagReset := false } }

end Sys2Proof.Machine
end

