-- ==== Sys2Proof/Machine/Power.lean ====
section
/-! DEFINITION. Resets, start-up, the self-test, domains and fences, and the brown-out shutdown (R15, R22 to R27, R50,
R58 to R71, R210, R242, R243, R362 to R364, R454 to R456, R476). -/

namespace Sys2Proof.Machine

/-! Resets (R69). -/

/-- R475: what the pairing, keys and epoch of the link store leave after a reset. -/
def Fnl.store (f : Fnl) : Fnl := { epoch := f.epoch, snid := f.snid, kL := f.kL, kLNew := f.kLNew, pair := f.pair }

/-- R332: the causes that a module reset leaves recorded: it removes those that clear at once and, with `hard`, the 0x11 of a memory or
image error, which clears by it. -/
def keptCauses (hard : Bool) (l : List Nat) : List Nat :=
  l.filter (fun c => !(c == 5 || c == 6 || c == 0x14 || c == 0x17 || (hard && c == 0x11)))

/-- R475: the saggar's MRAM area. -/
def Sag.store (g : Sag) : Sag :=
  { latch := g.latch, cause := g.cause, causes := keptCauses (g.hardDiag && g.diagBad.isEmpty) g.causes
    weldWait := g.weldWait, tpWait := g.tpWait
    pw := g.pw, slots := g.slots, clog := g.clog,
    clogAck := g.clogAck }

/-- R475: the MRAM of the recorder. -/
def Log.store (l : Log) : Log :=
  { slots := l.slots, floor := l.floor, snaps := l.snaps, pd0 := l.pd0, bankedBo := l.bankedBo, banked := l.banked, ckpt := l.ckpt }

/-- R430: factory values and the versions of the images in force. PREV reads OFF after every kind of reset (log entry 90, DESIGN CHOICE). -/
def Sys.store (y : Sys) (u : Upd) : Sys :=
  { serial := y.serial, mac := y.mac, lla := y.lla, hwRev := y.hwRev
    fw := (y.fw.set 1 (u.version 2 (nth y.fw 1 0))).set 3 (u.version 4 (nth y.fw 3 0)),
    dn8HwMin := y.dn8HwMin, dn8HwMax := y.dn8HwMax, fmtSet := y.fmtSet,
    fmtSag := y.fmtSag, opsec := y.opsec, pcc := y.pcc, clock := y.clock, slot := y.slot }

/-- R69: every block at its reset values; MRAM, PD0, the nodes, the pins and the waiting commands stay. -/
def State.resetBlocks (s : State) (cause : Nat) : State :=
  { pins := s.pins, sys := { s.sys.store s.upd.store with resetCause := cause }, fnl := s.fnl.store, nodes := s.nodes
    est := { ({} : Est) with slots := s.est.slots, qintRun := s.est.qintRun, commitHeld := s.est.commitHeld }, sag := s.sag.store
    plk := { ({} : Plk) with nextNum := s.plk.nextNum }, lmp := { ({} : Lmp) with corr := s.lmp.corr }
    dict := { ({} : Par) with slots := s.dict.slots }, upd := s.upd.store, log := s.log.store, fresh := s.fresh
    pending := s.pending }

/-- R476: OPSEC and PCC where PD0 has lost its contents: the newer backup slot. -/
def State.pd0Restore (s : State) : State :=
  if nth s.sys.pd 0 false then s
  else
    let a := nth s.log.pd0 0 (0, 0, 0)
    let b := nth s.log.pd0 1 (0, 0, 0)
    let x := if b.1 < a.1 then a else b
    { s with sys := { s.sys with opsec := x.2.1, pcc := x.2.2 } }

/-- R50, R69: power-on reset; the power-cycle count is incremented. QINT starts at 0 (R183). (Log entry 24, DEDUCED.) -/
def State.powerOn (s : State) : State :=
  let s1 := s.pd0Restore.resetBlocks (if s.log.bankedBo then 2 else 1)
  { s1 with sys := { s1.sys with pcc := inc32 s1.sys.pcc, slot := 0, holdupOk := false }, est := { s1.est with qintRun := 0 } }

/-- R69, R210, R484: module reset: the banked state is committed and every queued record written before it; a watchdog
escalation commits nothing. -/
def State.moduleReset (s : State) (cause : Nat) : State :=
  let s1 := s.logDrain
  let s2 := if cause = 5 then s1 else { s1 with log := { s1.log with banked := some (s1.csm.recs, s1.est) } }
  let hold := s.sys.holdupOk
  let s3 := s2.resetBlocks cause
  { s3 with sys := { s3.sys with holdupOk := hold } }

/-! BOOT (R50, R210, R242, R362, R455). -/

/-- R454, R455: the working settings at BOOT, with the record of R486. -/
def State.settingsLoad (s : State) : State :=
  match newestValid s.dict.slots with
  | none => ({ s with dict := { s.dict with work := [] } }).logPost 0 0x0105 3 (le2 0 ++ le2 s.sys.fmtSet)
  | some k =>
    let x := nth s.dict.slots k {}
    if x.format = s.sys.fmtSet then { s with dict := { s.dict with work := x.data } }
    else ({ s with dict := { s.dict with work := [] } }).logPost 0 0x0105 2 (le2 x.format ++ le2 s.sys.fmtSet)

/-- R208, R210: the capacities of the record in force. -/
def State.capLoad (s : State) : State :=
  match newestValid s.est.slots with
  | some k =>
    let x := nth s.est.slots k {}
    let flag := fun g => (lookupI x.data (2 * g + 1)).getD 0
    { s with
      csm := { s.csm with recs := (indexed s.csm.recs).map (fun (gr : Nat × GroupRec) => { gr.2 with
        cap := ((lookupI x.data (2 * gr.1)).getD 0).toNat, capFlagged := bitOf (flag gr.1).toNat 16 }) }
      est := { s.est with capSeq := x.seq, capSlot := k, capNominal := false
                          aux := (indexed s.est.aux).map (fun (ga : Nat × GroupAux) => ({ ga.2 with
                            adoptions := (flag ga.1).toNat % 65536, nominal := bitOf (flag ga.1).toNat 17 } : GroupAux)) } }
  | none =>
    ({ s with
      csm := { s.csm with recs := (indexed s.csm.recs).map (fun (gr : Nat × GroupRec) => { gr.2 with cap := s.parN (P.group gr.1 1) }) }
      est := { s.est with capNominal := true, aux := s.est.aux.map (fun (a : GroupAux) => { a with nominal := true }) } }).logPost 0 0x0506 3
        (le4 0 ++ [0, 1])

/-- R182, R210: words 2 to 4 of a record: the count state. -/
def GroupRec.countFrom (r c : GroupRec) : GroupRec :=
  { r with qRep := c.qRep, qc := c.qc, hyst := c.hyst, qlc := c.qlc, anchored := c.anchored, learnArmed := c.learnArmed,
           learnBar := c.learnBar, disagree := c.disagree, cutoff := c.cutoff, upHeld := c.upHeld, coneE := c.coneE, coneF := c.coneF
           capFlagged := c.capFlagged }

/-- R210: what the loss of the banked state does to a record restored from the checkpoint. -/
def GroupRec.unanchor (r : GroupRec) : GroupRec :=
  { r with anchored := false, learnArmed := false, learnBar := true, cutoff := false, capPending := false }

/-- R210: the count state after a reset of the present cause. -/
def State.countLoad (s : State) : State :=
  let put := fun (recs : List GroupRec) (f : GroupRec → GroupRec) =>
    { s with csm := { s.csm with recs := (indexed s.csm.recs).map (fun (gr : Nat × GroupRec) => f (gr.2.countFrom (nth recs gr.1 gr.2))) } }
  if s.sys.resetCause = 1 ∨ s.sys.resetCause = 5 then
    match s.log.ckpt with
    | some (recs, done) =>
      let s1 := put recs GroupRec.unanchor
      { s1 with est := { s1.est with qintDone := if s.sys.resetCause = 5 then done else List.replicate 48 s.est.qintRun } }
    | none => s
  else match s.log.banked with
    | none => s
    | some (recs, e) =>
      let s1 := { s with csm := { s.csm with recs := (indexed s.csm.recs).map (fun (gr : Nat × GroupRec) =>
        let c := nth recs gr.1 gr.2
        { gr.2.countFrom c with capPending := c.capPending }) } }
      { s1 with est := { s1.est with
          disMode := e.disMode, chgMode := e.chgMode, restNs := e.restNs, driveLogged := e.driveLogged
          qintDone := if s.sys.resetCause = 2 then List.replicate 48 s.est.qintRun else e.qintDone
          aux := (indexed s1.est.aux).map (fun (ga : Nat × GroupAux) =>
            let a := nth e.aux ga.1 ga.2
            { ga.2 with capPend := a.capPend, qEntry := a.qEntry, driveTarget := a.driveTarget, qFrac := a.qFrac, hystFrac := a.hystFrac
                        disLogged := a.disLogged, ocvTried := a.ocvTried, fullAt := a.fullAt, qlcU := a.qlcU }) } }

/-- R358: the saggar takes the newer valid configuration slot; without one it isolates with cause 0x11. -/
def State.sagLoad (s : State) : State :=
  match newestValid s.sag.slots with
  | some k =>
    let cfg := Params.safety.map (fun i => (lookupI (nth s.sag.slots k {}).data i).getD (cfgVal ({} : Sag).cfg i))
    { s with sag := { s.sag with cfg := cfg, pmir := mirrorOf cfg, cfgValid := true } }
  | none =>
    let s1 := { s with sag := { s.sag with pmir := mirrorOf s.sag.cfg, cfgValid := false } }
    s1.isolate 0x11

/-- R242: harnesses whose straps do not match: HID_ERR, and phase fault 0x6 on their phases. -/
def State.readStraps (s : State) : State :=
  (List.range 4).foldl (fun t h =>
    let bad := nth t.pins.hid h h != h
    let t1 := { t with phm := { t.phm with hidErr := t.phm.hidErr.set h bad } }
    if bad then t1.harnessFault h 6 else t1) s

/-- R273, R430, R455: the TV fields are reloaded from the settings. -/
def State.tvLoad (s : State) : State :=
  { s with phm := { s.phm with enMask := Tv.put (s.parN P.phmEnMask), period := s.parN P.phmPeriod }
           sys := { s.sys with coPermit := Tv.put (s.parN P.sysCoPermit) }
           ctl := { s.ctl with kd := s.parN P.ctlDroopKd, outerDiv := s.parN P.ctlOuterDiv } }

/-- R50, R126, R455: what BOOT loads, once the images have been verified; the key epoch advances. -/
def State.bootLoad (s : State) : State :=
  let s1 := (((s.sagLoad).settingsLoad).capLoad).countLoad
  let s2 := ((s1.tvLoad).syncHostLim 0).syncHostLim 1
  let s3 := { s2 with
    prl := { s2.prl with mode := s2.parN P.prlMode, pos := if s2.pins.posStrap then 1 else 0,
                         regUa := if s2.parN P.prlMode = 1 ∧ s2.pins.posStrap then 9500 else 10000 }
    est := { s2.est with tabBad := !s2.tabCheck }
    fnl := { s2.fnl.advance s2.sys.clock with
      codes := [s2.parN P.fnlHprfCodeU0, s2.parN P.fnlHprfCodeU1, s2.parN P.fnlBprfCodeU0, s2.parN P.fnlBprfCodeU1] }
    log := { s2.log with bankedBo := false } }
  if s3.sag.cfgValid then s3.degSession else s3

/-- R64: the order in which the domains are powered at start-up. -/
def State.powerOrder (s : State) : List Nat :=
  if s.par P.prlMode = 0 then [9, 3, 6, 11, 7, 8, 4, 5] else [9, 3, 6, 11, 7, 8, 10, 4, 5]

/-- R466: an image that the loader has started from BOOT and that fails gives way to the record before. -/
def State.bootRevert (s : State) : State :=
  if s.upd.loaderStart then { s with upd := s.upd.revert.finish } else s

/-- R465, R466: an image that the loader has started from BOOT is confirmed as SELFTEST is reached; its update ends. -/
def State.bootConfirm (s : State) : State :=
  if s.upd.loaderStart then { s.confirm with upd := s.confirm.upd.finish } else s

/-- R50, R328: BOOT_VERIFY_DONE: the outcome of verifying the MGP image and the saggar image; a saggar image that fails is an image error,
which isolates with cause 0x11. (Log entry 94, DEDUCED.) -/
def execBootVerifyDone (mgpOk sagOk : Bool) (s : State) : Out :=
  if s.sys.st ≠ .boot then .next s
  else if !sagOk then
    let s1 := (s.bootRevert.isolate 0x11).enter .isolated .isolated
    let s1 := { s1 with sag := { s1.sag with hardDiag := true }, prl := { s1.prl with sagBad := true } }
    .next { s1 with sys := { s1.sys with loaderOnly := true } }
  else if !mgpOk then
    let s1 := (s.bootRevert.sagLoad).enter .maintenance .isolated
    .next { s1 with sys := { s1.sys with loaderOnly := true } }
  else
    let s1 := s.bootConfirm.bootLoad
    .next ({ s1 with sys := { s1.sys with powering := s1.powerOrder } }.enter .selftest .selftest)

/-! Domains and fences (R22, R25, R59, R63, R64). -/

/-- R22, R59: domain d is powered and ready; a radio unit takes its mode and its nodes from the active bank. -/
def State.domainUp (s : State) (d : Nat) : State :=
  let s1 := { s with sys := { s.sys with pd := s.sys.pd.set d true } }
  if (d = 7 ∨ d = 8) ∧ s.fsq.running then
    let m := s.fsq.bank s.fsq.active
    s1.modUnit (d - 7) (fun x => { x with mode := bankMode m (d - 7), served := (bankNodes m (d - 7)).length })
  else if d = 9 then
    let on := fun k => if nth s.plk.link k false then PtpSt.listening else PtpSt.initializing
    { s1 with lmp := { s1.lmp with ports := (indexed s1.lmp.ports).map (fun kx => { kx.2 with st := on kx.1 }) } }
  else s1

/-- R69, R144: a radio unit after a reset of its domain: its registers at their reset values. The frame counter (R125) and the histories
are the MGP's. -/
def RUnit.domainReset (x : RUnit) : RUnit := { ({} : RUnit) with fc := x.fc, hist := x.hist, txLt := x.txLt, sent := x.sent }

/-- R69, R381: the pair link after a reset of its domain. Mode, position, ownership and the health of other blocks are kept outside it. -/
def Prl.domainReset (r : Prl) : Prl :=
  { ({} : Prl) with mode := r.mode, pos := r.pos, clash := r.clash, owner := r.owner, refOk := r.refOk, pwmOk := r.pwmOk, eccBad := r.eccBad
                    sagBad := r.sagBad, regUa := r.regUa, swapChan := r.swapChan }

/-- R69, R319, R323: the thermal manager after a reset of its domain; the derate sequences continue from their held values (R319), the
record of what was logged is the MGP's, and the CE keeps the last enforced limit. -/
def Thm.domainReset (t : Thm) : Thm := { ({} : Thm) with dis := t.dis, chg := t.chg, hotAgo := t.hotAgo, xLogged := t.xLogged }

/-- R16, R22, R63, R69: domain d goes down: its fence closes first, and its blocks return to their reset values. -/
def State.domainDown (s : State) (d : Nat) : State :=
  let s1 := { s with sys := { s.sys with pd := s.sys.pd.set d false, fenced := s.sys.fenced.set d true } }
  match d with
  | 4 => (List.range 8).foldl (fun t p => t.modPh p (fun _ => {})) s1
  | 5 => (List.range 8).foldl (fun t p => t.modPh (8 + p) (fun _ => {})) s1
  | 7 => s1.modUnit 0 RUnit.domainReset
  | 8 => s1.modUnit 1 RUnit.domainReset
  | 9 => { s1 with lmp := { s1.lmp with ports := s1.lmp.ports.map (fun x => { x with st := .disabled }) } }
  | 10 => { s1 with prl := s1.prl.domainReset }
  | 11 => { s1 with thm := s1.thm.domainReset }
  | _ => s1

/-- R64, R80: the FSQ starts once every domain of the order is ready, in SELFTEST or in the state that an isolation or the end of the
self-test has entered meanwhile. -/
def State.allReady (s : State) : State :=
  if s.sys.powering.isEmpty && !s.fsq.running && s.sys.st != .boot && s.sys.st != .off then (s.readStraps).startFsq else s

/-- R64: DOMAIN_READY: the domain at the head of the order reports ready. -/
def execDomainReady (d : Fin 12) (s : State) : Out :=
  match s.sys.powering with
  | [] => .next s
  | h :: rest =>
    if h ≠ d.val then .next s
    else
      .next ({ s.domainUp d.val with sys := { (s.domainUp d.val).sys with powering := rest } } : State).allReady

/-- R25: FENCE_OPEN: the blocks of a powered domain signal that they are ready. -/
def execFenceOpen (d : Fin 12) (s : State) : Out :=
  if nth s.sys.pd d.val false then .next { s with sys := { s.sys with fenced := s.sys.fenced.set d.val false } } else .next s

/-! The self-test (R61). -/

/-- R61: one item: row, passed, critical, and the cause of a critical failure (none where the spec gives none). -/
abbrev TestItem := Nat × Bool × Bool × Option Nat

/-- R61, R105: radio loopback is critical where both units fail; with one unit passing it never is, whichever image is stored, as R105
says of every such case. (Log entry 89, DEDUCED.) -/
def SelfTest.radioCritical (r : SelfTest) : Bool := !(r.u0 || r.u1)

/-- R61: the eleven items. -/
def State.testItems (s : State) (r : SelfTest) : List TestItem :=
  [(0, r.coilFail % 256 == 0, true, some 0x0F), (1, !s.pins.aux.any id, true, some 0x0D), (2, r.refs, true, some 0x18),
   (3, s.mea.loop == 0, true, some 0x01), (4, r.ro, true, some 0x18), (5, r.ecc, true, some 0x18),
   (6, r.pwmFail == 0, (List.range 16).any (fun p => bitOf r.pwmFail p && bitOf s.enMask p), some 0x18),
   (7, r.u0 && r.u1, r.radioCritical, none),
   (8, s.prl.mode == 0 || s.prl.partner.isSome, false, none),
   (9, s.plk.link.any id, false, none),
   (10, decide (48 ≤ (s.fnl.links.filter (fun l => 2 ≤ l.st)).length + (s.mir P.sagLostMax).toNat), false, none)]

/-- R61: items that fail. -/
def failedItems (l : List TestItem) : List TestItem := l.filter (fun (i : TestItem) => !i.2.1)

/-- R61, R332: the causes that the failed critical items give, lowest first (R333). (Log entry 29, DEDUCED.) -/
def critCauses (bad : List TestItem) : List Nat :=
  let l := (bad.filter (fun (i : TestItem) => i.2.2.1)).filterMap (fun (i : TestItem) => i.2.2.2)
  (List.range 0x19).filter (l.contains ·)

/-- R61, R332: isolate for every cause of a failed self-test; a failure to which the table gives none isolates with 0x00. (Log entry 29,
DEDUCED.) -/
def State.isolateAll (s : State) (l : List Nat) : State :=
  match l with
  | [] => s.isolate 0
  | c :: cs => cs.foldl State.isolate (s.isolate c)

/-- R61, R486: log a failed item. -/
def State.logItem (s : State) (detail : Nat) (i : TestItem) : State :=
  s.logPost 0 0x0104 (if i.2.2.1 then 4 else 2) ([i.1, 0] ++ le4 detail)

/-- R439: the FAIL bits: references, ring oscillators, ECC, U0, U1, PWM readback. -/
def SelfTest.failBits (r : SelfTest) : Nat := maskOf [!r.refs, !r.ro, !r.ecc, !r.u0, !r.u1, r.pwmFail != 0]

/-- R61, R332, R340, R341: the saggar after the output test of its switches and the reading of the contactors with every path off. -/
def Sag.tested (g : Sag) (fail : Nat) (aux : List Bool) : Sag :=
  let f := (List.range 8).map (bitOf fail)
  let w := (List.range 4).map (fun k => nth aux k false)
  { g with tpFail := f, tpWait := f, weld := w ++ g.weld.drop 4, weldWait := w ++ g.weldWait.drop 4 }

/-- R61, R340, R341, R378: what the items leave in the registers. -/
def State.testResults (s : State) (r : SelfTest) : State :=
  let s1 := { s with
    sys := { s.sys with selftestFail := r.failBits }
    prl := { s.prl with refOk := r.refs, pwmOk := r.pwmFail == 0, eccBad := s.prl.eccBad || !r.ecc }
    sag := s.sag.tested r.coilFail s.pins.aux }
  (s1.modUnit 0 (fun x => { x with loopOk := r.u0, tested := true })).modUnit 1 (fun x => { x with loopOk := r.u1, tested := true })

/-- R243, R364: the partner owns the harness, as this module can tell. -/
def State.partnerOwns (s : State) : Bool :=
  s.pins.ownHigh || (s.prl.mode == 1 && s.prl.pos == 1 && s.prl.partner.isSome && decide (s.prl.hbQuiet < 41))

/-- R364: the harness may be claimed: OWN is low, and a module of position 1 has heard no partner for 5 ms. -/
def State.mayClaim (s : State) : Bool := !s.pins.ownHigh && (s.prl.mode != 1 || s.prl.pos == 0 || decide (41 ≤ s.prl.hbQuiet))

/-- R154, R204: a node that is not joined as SELFTEST ends is LOST, which its records show from the FSQ's first write; a learning cycle of
its groups ends. -/
def State.startLost (s : State) (n : Nat) : State :=
  (s.modMn n (fun m => { m with lost := true })).modNode n (fun _ r => if r.learnArmed then (r.disarm true).write else r)

/-- R61: SELFTEST_DONE: every item has run; the critical failures isolate, or the module goes on. -/
def execSelftestDone (r : SelfTest) (s : State) : Out :=
  if s.sys.st ≠ .selftest then .next s
  else
    let s1 := (s.testResults r).bootReselect
    let bad := failedItems (s.testItems r)
    let s2 := bad.foldl (fun t i => t.logItem r.detail i) s1
    let s3 := (List.range 48).foldl (fun t n => if (t.nl n).st < 2 then t.startLost n else t) s2
    match bad.find? (fun (i : TestItem) => i.2.2.1) with
    | some i =>
      let s4 := s3.isolateAll (critCauses bad)
      .next (s4.post (.selftestEnded (some (i.2.2.2.getD 0)) s4.partnerOwns))
    | none =>
      -- every critical item has passed, which clears a recorded 0x18
      .next ({ s3 with sag := s3.sag.clears 0x18 }.post (.selftestEnded none s3.partnerOwns))

/-- R243, R364: OWN_CLAIM, with OWN as read for 100 µs. (Log entry 28, DEDUCED.) -/
def execOwnClaim (high : Bool) (s : State) : Out :=
  let s0 := { s with pins := { s.pins with ownHigh := high } }
  if s0.prl.owner || !(s0.sys.st == .standby || s0.sys.st == .isolated || s0.sys.st == .maintenance) then .next s0
  else if s0.partnerOwns then .next (if s0.sys.st = .standby then s0.post .ownLost else s0)
  else if !s0.mayClaim then .next s0
  else .next { s0 with prl := { s0.prl with owner := true }, phm := { s0.phm with owned := [true, true, true, true] } }

/-! Feeds and brown-out (R65 to R68, R508). -/

/-- R508: the feeds as they read. -/
def State.setFeed (s : State) (b : Bool) (on : Bool) : State :=
  { s with pins := if b then { s.pins with feedB := on } else { s.pins with feedA := on } }

/-- R50: FEED_GOOD: either feed has been above 16.8 V for 10 ms, in OFF. -/
def execFeedGood (a b : Bool) (s : State) : Out :=
  let s1 := { s with pins := { s.pins with feedA := a, feedB := b } }
  .next (if s.sys.st = .off && (a || b) then s1.powerOn else s1)

/-- R508: FEED_LOSS_SINGLE: one feed falls below 16.8 V while the other stays above it. -/
def execFeedLossSingle (b : Bool) (s : State) : Out := .next (s.setFeed b false)

/-- R508: FEED_RESTORED. -/
def execFeedRestored (b : Bool) (s : State) : Out := .next (s.setFeed b true)

/-- R65: HOLDUP_CHARGED, or fallen below its energy. -/
def execHoldupCharged (charged : Bool) (s : State) : Out := .next { s with sys := { s.sys with holdupOk := charged } }

/-- R66, R271, R272: the power stage at a brown-out warning: a tracking start is abandoned, a dispatching module ramps
down at SYS_BO_RAMP, a running stop takes that rate. -/
def State.boRamp (s : State) : State :=
  let rate := s.parN P.sysBoRamp
  if s.phm.trk.isStart then s.abandonTrk 2 2
  else if s.phm.trk = .stopping then { s with phm := { s.phm with stopRamp := rate } }
  else if s.dispatching && s.prl.owner then s.stopStart (some rate)
  else s

/-- R67: the pilot reports healthy feeds. -/
def State.pilotFeeds (s : State) : Bool :=
  match s.prl.partner with | some p => bitOf p.health 9 | none => false

/-- R66, R67: BROWN_OUT_WARNING. -/
def execBrownOutWarning (s : State) : Out :=
  if s.sys.st = .off || s.sys.boWarn then .next s
  else
    let s1 := { s with sys := { s.sys with boWarn := true, boPhase := .warned, feedBack := false }
                       pins := { s.pins with feedA := false, feedB := false } }
    let s2 := (s1.attn 3 4 []).post .brownOut
    if s2.sys.st = .pilot then
      .next { s2 with sag := { s2.sag with coil := List.replicate 4 false, pullin := List.replicate 4 false }
                      prl := { s2.prl with pathsRel := true } }
    else if s2.mayRequestSwap && s2.pilotFeeds then .next s2.requestSwap
    else .next s2.boRamp

/-- R66: BO_COILS_OFF: CO3, CO0, CO1 and CO2 are de-energised. -/
def execBoCoilsOff (s : State) : Out :=
  if s.sys.boPhase ≠ .warned then .next s
  else
    let s1 := (s.gatesLow).wantNone
    .next { s1 with sys := { s1.sys with boPhase := .coilsOff }
                    sag := { s1.sag with coil := List.replicate 4 false, pullin := List.replicate 4 false } }

/-- R66: BO_DOMAINS_OFF: PD1 and PD3 to PD11 go down, fences closed first; the harness is released. -/
def execBoDomainsOff (s : State) : Out :=
  if s.sys.boPhase ≠ .coilsOff then .next s
  else
    let s1 := [1, 3, 4, 5, 6, 7, 8, 9, 10, 11].foldl State.domainDown s
    .next { s1 with sys := { s1.sys with boPhase := .domainsOff, powering := [] }, fsq := { s1.fsq with running := false }
                    prl := { s1.prl with owner := false }, sag := { s1.sag with isolateOut := false, demandOut := false }
                    phm := { s1.phm with owned := List.replicate 4 false, enHigh := false, trk := .idle } }

/-- R66, R210, R475, R484: what the shutdown commits: the banked state, the CRITICAL record with every queued one, and the
PD0 backup. -/
def State.boCommit (s : State) : State :=
  let s1 := s.logPost (if s.sys.mgpAway then 1 else 0) 0x0103 4 ([s.sys.st.code, 0] ++ le4 (enc 32 s.pins.shunt))
  let s2 := (s1.logDrain).pd0Backup
  { s2 with log := { s2.log with banked := some (s2.csm.recs, s2.est), bankedBo := true } }

/-- R66, R68: BO_COMMIT_DONE: the commit has ended and PD2 goes off; a feed that has returned resets the module. (Log entry 24, DEDUCED.)
-/
def execBoCommitDone (s : State) : Out :=
  if s.sys.boPhase ≠ .domainsOff then .next s
  else
    let s1 := s.boCommit
    let s2 := { s1.domainDown 2 with sys := { (s1.domainDown 2).sys with
      st := .off, base := .off, prev := s1.sys.st, boPhase := .committed, boWarn := false, events := [] } }
    .next (if s.sys.feedBack then s2.powerOn else s2)

/-- R66: HOLDUP_EXHAUSTED: PD0 goes off. -/
def execHoldupExhausted (s : State) : Out :=
  if s.sys.st = .off then .next { s.domainDown 0 with sys := { (s.domainDown 0).sys with holdupOk := false } } else .next s

/-- R68: FEED_RETURN: a feed returns after the shutdown has started. -/
def execFeedReturn (s : State) : Out :=
  if s.sys.boPhase = .none then .next s
  else
    let s1 := { s with pins := { s.pins with feedA := true } }
    .next (if s.sys.st = .off then s1.powerOn else { s1 with sys := { s1.sys with feedBack := true } })

/-! The MGP away (R70, R343). -/

/-- R70: the earlier MGP reset lies less than 10 s back. -/
def State.wdRecent (s : State) : Bool := match s.sys.wdAt with | some t => decide (s.sys.clock - t < 81920) | none => false

/-- R434, R467: requests QUEUED or RUNNING as the MGP goes away are held; those RUNNING are marked. -/
def Mbx.mgpGone (m : Mbx) : Mbx :=
  { m with ch := m.ch.map (fun (c : Chan) =>
      if c.st = .queued ∨ c.st = .running then { c with st := .held, wasRunning := decide (c.st = .running) } else c) }

/-- R69, R70: MGP_WATCHDOG; an expiry while the MGP has not come back yet counts like any other, and the shutdown sequence of R66 is not
cut short by the escalation. -/
def execMgpWatchdog (s : State) : Out :=
  if s.sys.st = .off then .next s
  else
    let again := s.wdRecent
    let s1 := s.cfgEnd.logPost 0 0x0106 3 [if again then 2 else 1]
    if again && s.sys.boPhase == .none && (s.sys.st == .standby || s.sys.st == .isolated || s.sys.st == .pilot) then
      .next (s1.moduleReset 5)
    else .next { s1 with sys := { s1.sys with mgpAway := true, wdAt := some s.sys.clock, mgpStaysAway := s.sys.mgpStaysAway || again }
                         mbx := s1.mbx.mgpGone
                         est := { s1.est with planDue := true }, dict := { s1.dict with job := none }
                         sag := { s1.sag with login := none } }

/-- R343 bit 8: MGP_LOST: the MGP has been away for 10 s. -/
def execMgpLost (s : State) : Out :=
  .next (if s.sys.mgpAway then (({ s with sys := { s.sys with mgpLost := true } }).setDeg 8 true).autoSwap else s)

end Sys2Proof.Machine
end

