-- ==== Sys2Proof/Machine/Pair.lean ====
section
/-! DEFINITION. Active and pilot operation (R362 to R382): heartbeats, the mirror, switchover with outputs held, takeover
after the owner's death, the reserve test of the snuffer loop and the reference check. -/

namespace Sys2Proof.Machine

/-- R486: a record 0x0B01 of a pair fault. -/
def State.pairFault (s : State) (kind : Nat) : State := s.logPost 4 0x0B01 3 ([kind, 0] ++ le2 s.prl.mirrorAge)

/-! Heartbeats (R363, R366, R370, R371). -/

/-- R366: DEG_LEFT, ms; all ones while the timer does not run, and always in version 1. -/
def State.degLeftMs (s : State) : Nat :=
  if s.sag.degRun ∧ s.prl.ver ≠ 1 then (divFree 105 (s.saf P.sagDegTime * 16000000000 - s.sag.degRunT) 16000000).toNat else 0xFFFFFFFF

/-- R366: the fields of the own heartbeat between VER and CRC. -/
def State.heartbeatBody (s : State) : List Byte :=
  leBytes 2 s.prl.hbSeq ++
  leBytes 1 (packF [(0, s.prl.pos), (1, b2n s.prl.owner), (2, b2n s.pins.posStrap), (3, b2n s.sag.latch)]) ++
  leBytes 1 (packF [(0, s.sys.st.code), (4, s.sys.base.code)]) ++ leBytes 1 (maskOf s.sag.coil) ++ leBytes 1 0 ++
  leBytes 4 s.fsq.frameCnt ++ leBytes 4 s.prl.mirrorSeq ++ leBytes 4 s.health ++ leBytes 4 s.degLeftMs

/-- R366: HEARTBEAT_SEND; SEQ of the first heartbeat is 1. (Log entry 81, DESIGN CHOICE.) -/
def execHeartbeatSend (s : State) : Out :=
  .next (if s.linkUp then
    let t := { s with prl := { s.prl with hbSeq := (s.prl.hbSeq + 1) % 65536 } }
    t.pairSend 1 t.heartbeatBody else s)

/-- R366: the fields of a heartbeat payload. -/
def partnerOf (b : List Byte) : Partner :=
  let role := leAt b 4 1
  { seq := leAt b 2 2, ver := leAt b 1 1, pos := role % 2, owner := bitOf role 1, strap := role / 4 % 2, latch := bitOf role 3
    st := leAt b 5 1 % 16, base := leAt b 5 1 / 16, coCmd := (List.range 4).map (bitOf (leAt b 6 1)), frame := leAt b 8 4
    mirrorSeq := leAt b 12 4, health := leAt b 16 4, degLeft := leAt b 20 4 }

/-- R363, R369: the position clash; `higher` says that the partner has the higher serial number. -/
def State.clashCheck (s : State) (h : Partner) (higher : Bool) : State :=
  let mine := if s.pins.posStrap then 1 else 0
  if s.prl.clash || h.strap != mine then s
  else ({ s with prl := { s.prl with clash := true, pos := if higher then 0 else 1, regUa := if higher then 10000 else 9500 } }).pairFault 1

/-- R364, R366, R368, R370, R371: a valid heartbeat. -/
def State.heartbeat (s : State) (h : Partner) (higher : Bool) : State :=
  let run := s.prl.hbRun + 1
  let s1 := { s with prl := { s.prl with
    partner := some h, partnerOk := true, hbRun := run, ver := min (s.parN P.prlVerMax) h.ver, healthPart := h.health % 2 ^ 14
    pathsRel := s.prl.pathsRel && (s.sys.boWarn || decide (run < 10)), hbQuiet := 0 } }
  let s2 := s1.clashCheck h higher
  if s2.sys.st ≠ .pilot then s2
  else (if s2.inPilot then { s2 with fsq := { s2.fsq with frameCnt := h.frame } } else s2).coilService

/-- R365, R366: HEARTBEAT_RX. -/
def execHeartbeatRx (b : List Byte) (higher : Bool) (s : State) : Out := s.pairRx b 1 (fun t => .next (t.heartbeat (partnerOf b) higher))

/-- R366: HEARTBEAT_MISSED. -/
def execHeartbeatMissed (s : State) : Out :=
  .next (if s.linkUp then { s with prl := { s.prl with partnerOk := false, hbRun := 0, hbMiss := incSat 16 s.prl.hbMiss } } else s)

/-- R371: PATHS_RELEASE. -/
def execPathsRelease (s : State) : Out :=
  if s.sys.st ≠ .pilot || s.prl.pathsRel || s.prl.partnerOk || !s.pins.ownHigh then .next s
  else
    let s1 := { s with prl := { s.prl with pathsRel := true } , sag := { s.sag with
      coil := List.replicate 4 false, pullin := List.replicate 4 false } }
    .next (s1.pairFault 2)

/-- R365: ISOLATION_DEMAND_REPEAT: while the latch is set the demand is sent again. -/
def execIsolationDemandRepeat (s : State) : Out :=
  .next (if s.linkUp && s.sag.latch then ({ s with sag := { s.sag with demandOut := true } }).pairSend 4 (leBytes 1 s.sag.cause) else s)

/-! The mirror (R179, R211, R234, R303, R319, R367). -/

/-- R143, R367: link state that the copy carries. -/
def Fnl.fromMirror (f : Fnl) (m : Mirror) : Fnl :=
  { f with links := if m.nodeFc.isEmpty then f.links else (indexed f.links).map (fun kl => { kl.2 with lastFc := nth m.nodeFc kl.1 none })
           snid := m.snid, kL := m.kL, pair := if m.pair.isEmpty then f.pair else m.pair, epoch := m.epoch
           units := (indexed f.units).map (fun (ku : Nat × RUnit) => { ku.2 with fc := nth m.fc ku.1 0 }) }

/-- R303, R367: the CE settings of a pilot follow the owner, those at their defaults too. -/
def Par.fromMirror (d : Par) (m : Mirror) : Par :=
  { d with work := m.coef.foldl (fun l x => bindI l x.1 x.2) (d.work.filter (fun x => !isCoef x.1)), pend := m.pend }

/-- R303, R367, R429: the CE state that the copy carries; the pilot's own counters and flags of its own deadlines and speed stay. -/
def Ctl.fromMirror (c m : Ctl) : Ctl :=
  { m with ignored := c.ignored, lateCnt := c.lateCnt, dropCnt := c.dropCnt, ovrPh := c.ovrPh, ovrOut := c.ovrOut, ovrCnt := c.ovrCnt
           outSatf := c.outSatf, speed := c.speed, slowTicks := c.slowTicks, ovrTimes := c.ovrTimes, ovrPersist := c.ovrPersist
           ph := (indexed m.ph).map (fun kx => { kx.2 with satf := (nth c.ph kx.1 {}).satf }) }

/-- R319, R367: the thermal state that the copy carries: states, timers, model poles and offsets, and what the factors and the groups go
on from. -/
def Thm.fromMirror (t m : Thm) : Thm :=
  { t with dis := m.dis, chg := m.chg, hotPh := m.hotPh, poles := m.poles, delta := m.delta, dHist := m.dHist, cell := m.cell, fPh := m.fPh
           fDis := m.fDis, fChg := m.fChg, staleTicks := m.staleTicks, tintTicks := m.tintTicks }

/-- R179, R367, R429: the measurement state that the copy carries; the own loop class and the own counters stay. -/
def Mea.fromMirror (e m : Mea) : Mea :=
  { m with loop := e.loop, incCnt := e.incCnt, nodes := (indexed m.nodes).map (fun kx =>
    { kx.2 with tofRej := (nth e.nodes kx.1 {}).tofRej }) }

/-- R234: the probe state that the copy carries: what has been published, which a takeover keeps. -/
def Prb.fromMirror (p m : Prb) : Prb :=
  { p with tcalBad := m.tcalBad, tones := (indexed p.tones).map (fun kx =>
      { kx.2 with published := (nth m.tones kx.1 {}).published, reason := (nth m.tones kx.1 {}).reason }) }

/-- R179, R184, R367: the pilot adopts a complete push whole. A push of scope 1 carries no group records. The QINT values behind I_AVG are
moved by the distance of the two modules' integrals, so that the mean goes on. -/
def State.adopt (s : State) (m : Mirror) (seq : Nat) : State :=
  { s with
    prl := { s.prl with copy := some m, mirrorSeq := seq, mirrorAge := 0, parts := (seq, []), qintAt := s.est.qint }
    csm := { s.csm with recs := if m.recs.isEmpty then s.csm.recs else m.recs }
    est := { m.est with slots := s.est.slots, capSeq := s.est.capSeq, capSlot := s.est.capSlot, qint := s.est.qint, qintRun := s.est.qintRun,
                        capBusy := false, takeQint := s.est.takeQint, disCnt := s.est.disCnt, balLoss := s.est.balLoss, capFail := s.est.capFail
                        hist := m.est.hist.map (fun x => (x.1, x.2 + (s.est.qint - m.est.qint)))
                        aux := m.est.aux.map (fun a => { a with fullAt := a.fullAt + (s.sys.opsec : Int) - m.opsec }) }
    mea := match m.mea with | some x => s.mea.fromMirror x | none => s.mea
    thm := s.thm.fromMirror m.thm
    prb := s.prb.fromMirror m.prb
    ctl := s.ctl.fromMirror m.ctl
    dict := s.dict.fromMirror m
    fnl := s.fnl.fromMirror m
    fsq := { s.fsq with active := m.active, cursors := m.cursors, n := m.n } }

/-- R367: the data of n parts in order, where all are present. -/
def partsData (l : List (Nat × List Byte)) (n : Nat) : List Byte :=
  (List.range n).flatMap (fun k => ((l.find? (fun x => x.1 == k)).map (·.2)).getD [])

/-- R365: the CRC-32C at the end of the last part checks over the whole push. -/
def pushOk (d : List Byte) : Bool := decide (4 ≤ d.length) && leAt d (d.length - 4) 4 == crc32c (d.take (d.length - 4))

/-- R374 step 5: B, the first reference period boundary at least 100 µs after `now`, on the grid of the frame. (Log entry 84, DEDUCED.) -/
def State.takeB (s : State) (now : Nat) : Nat :=
  let p := s.phm.period
  let t := (diffT now s.fsq.frameStart).toNat + 100000
  addT s.fsq.frameStart ((4 * t + p - 1) / p * p / 4)

/-- R374 step 5: TAKE naming B answers a complete push. -/
def State.sendTake (s : State) (now : Nat) : State :=
  ({ s with prl := { s.prl with swap := .takeSent, boundary := s.takeB now } }).swapSend 3 (s.takeB now)

/-- R365, R367, R374: MIRROR_PART_RX at `now`; `m` is what the data of the whole push say. A pilot that has sent READY answers the complete
push with TAKE. Parts are numbered from 0. (Log entry 84, DEDUCED.) -/
def execMirrorPartRx (b : List Byte) (now : BitVec 32) (m : Mirror) (s : State) : Out :=
  s.pairRx b 2 (fun t =>
    if t.sys.st ≠ .pilot then .next t
    else
      let seq := leAt b 2 4
      let part := leAt b 6 2
      let old := if t.prl.parts.1 = seq then t.prl.parts.2 else []
      let got := if old.any (fun x => x.1 == part) then old else (part, (b.drop 10).take (b.length - 14)) :: old
      if got.length < leAt b 8 2 then .next { t with prl := { t.prl with parts := (seq, got) } }
      else if !pushOk (partsData got (leAt b 8 2)) then .next { t with prl := { t.prl with parts := (seq, []) } }
      else
        let t1 := t.adopt m seq
        .next (if t1.prl.pilotReady then t1.sendTake now.toNat else t1))

/-! Switchover (R44, R374, R375). -/

/-- R365, R374: a switchover message with SUB `sub` arrives. -/
def State.swapRx (s : State) (b : List Byte) (sub : Nat) (f : State → Out) : Out :=
  s.pairRx b 3 (fun t => if leAt b 2 1 = sub then f t else .next t)

/-- R374 step 2: READY. -/
def State.sendReady (s : State) : State := ({ s with prl := { s.prl with swap := .ready, pilotReady := true } }).swapSend 2 0

/-- R374: SWITCHOVER_REQ: the pilot answers READY or REFUSE; a module of position 1 that waits itself withdraws its request and acknowledges
the other's (R44). -/
def execSwitchoverReq (b : List Byte) (s : State) : Out :=
  s.swapRx b 1 (fun t =>
    if t.prl.swap = .requested then .next (if t.prl.pos = 1 then t.sendReady else t)
    else if t.sys.st ≠ .pilot then .next t
    else if t.copyCurrent && fit t.health then .next t.sendReady
    else .next (({ t with prl := { t.prl with swap := .refused, pilotReady := false } }).swapSend 5 0))

/-- R374: SWITCHOVER_READY: the owner freezes its phases from `now` on and pushes the banked state; a tracking start is
abandoned. -/
def execSwitchoverReady (b : List Byte) (now : BitVec 32) (s : State) : Out :=
  s.swapRx b 2 (fun t =>
    if t.prl.swap ≠ .requested then .next t
    else
      let t1 := if t.phm.trk.isStart then t.abandonTrk 5 2 else t
      .next (({ t1 with prl := { t1.prl with swap := .frozen, frozen := true, frozenAt := now.toNat } }).push 1))

/-- R67: a switchover that a brown-out warning asked for has failed: the sequence of R66 runs in full. -/
def State.swapFailed (s : State) : State := if s.sys.boPhase = .warned then s.boRamp else s

/-- R374: SWITCHOVER_REFUSE. -/
def execSwitchoverRefuse (b : List Byte) (s : State) : Out :=
  s.swapRx b 5 (fun t => if t.prl.swap ≠ .requested then .next t else .next ({ t with prl := { t.prl with swap := .refused } }).swapFailed)

/-- R374: SWITCHOVER_TAKE naming boundary B. -/
def execSwitchoverTake (b : List Byte) (s : State) : Out :=
  s.swapRx b 3 (fun t =>
    if t.prl.swap ≠ .frozen then .next t else .next { t with prl := { t.prl with swap := .takeSent, boundary := leAt b 7 4 } })

/-- R375: SWITCHOVER_ABANDON. -/
def execSwitchoverAbandon (b : List Byte) (s : State) : Out :=
  s.swapRx b 4 (fun t =>
    .next (if t.prl.pilotReady then { t with prl := { t.prl with swap := .abandoned, pilotReady := false } } else t))

/-- R375: SWITCHOVER_TIMEOUT: the owner resumes from its held state. -/
def execSwitchoverTimeout (s : State) : Out :=
  if s.prl.swap ≠ .frozen then .next s
  else
    let s1 := ({ s with prl := { s.prl with swap := .abandoned, frozen := false } }).swapSend 4 0
    .next (s1.logPost 4 0x0B03 2 [(Config.swapKind 0).toNat]).swapFailed

/-- R44: HANDOVER_ACK_TIMEOUT. -/
def execHandoverAckTimeout (s : State) : Out :=
  if s.prl.swap ≠ .requested then .next s
  else
    let s1 := { s with prl := { s.prl with swap := .abandoned } }
    .next (s1.logPost 4 0x0B03 2 [(Config.swapKind 1).toNat]).swapFailed

/-- R374: the owner at B: it releases the harness; its contactor paths stay as they are until it enters PILOT, where they follow the new
owner; a running stop goes on at the new owner. -/
def State.handOver (s : State) (now : Nat) : State :=
  let gap := (diffT now s.prl.frozenAt).toNat
  let s1 := { s with
    prl := { s.prl with owner := false, frozen := false, swap := .done, pathsRel := s.prl.pathsRel || s.sys.boWarn, lastGap := gap
                        swapCnt := incSat 16 s.prl.swapCnt, forwardAt := some s.sys.clock }
    phm := { s.phm with owned := List.replicate 4 false, enHigh := false, trk := .idle }
    fsq := { s.fsq with asOwner := true } }
  (((s1.gatesLow).probeRestart).logPost 4 0x0B02 1 (le4 gap)).post .ownLost

/-- R245, R374, R376: the harness is taken: OWN on all four, EN as the state entered asks; the radio sends from the next frame on. -/
def State.takeHarness (s : State) : State :=
  { s with prl := { s.prl with owner := true, pilotReady := false, swapCnt := incSat 16 s.prl.swapCnt }
           phm := { s.phm with owned := List.replicate 4 true }
           fsq := { s.fsq with radioHeld := true } }

/-- R50: the state that a new owner enters: CONNECTED, DISPATCH or DEGRADED as the owner showed it to the string; an owner in another
state had no contactor to keep closed, and the new one is in STANDBY. (Log entry 99, DEDUCED.) -/
def Mirror.entry (m : Mirror) : OpState :=
  let e := if m.st = .maintenance then m.base else m.st
  if e.enHigh then e else .standby

/-- R245, R272, R367, R374: the duties, masks and timer that the copy holds, and a stop or a zero hold that runs. -/
def State.fromCopy (s : State) (m : Mirror) : State :=
  let trk := if m.trk = .stopping ∨ m.trk = .zeroHold then m.trk else .idle
  { s with phm := { s.phm with ph := mergePh s.phm.ph m.ph, enMask := Tv.put m.enMask, enHigh := m.entry.enHigh && !s.sag.latch
                               trk := trk, stopRamp := m.stopRamp, co3Drop := m.co3Drop && trk == .stopping
                               burst := m.co3Drop && trk == .stopping }
           sag := { s.sag with degRun := m.degRun, degRunT := m.degRunT } }

/-- R126, R158, R211, R234: what every new owner does. -/
def State.newOwner (s : State) (kind : Nat) : State :=
  let s1 := s.probeRestart
  let s2 := s1.advanceEpoch
  { s2 with fnl := { s2.fnl with links := s2.fnl.links.map (fun l => { l with limitsSent := false }) }
            est := { s2.est with takeQint := true }, prl := { s2.prl with takeKind := kind } }

/-- R50, R272, R367: the contactors that the mirrored state shows closed are requested; a stop that has asked CO3 open goes on asking. -/
def State.wantFor (s : State) (st : OpState) (disp : Bool) : State :=
  let three := (st == .dispatch || (st == .degraded && disp)) && !s.phm.co3Drop
  { s with sag := { s.sag with want := [st.enHigh, st.enHigh, false, three] } }

/-- R297: pending coefficient writes are discarded at a takeover. -/
def State.dropCoef (s : State) : State :=
  { s with dict := { s.dict with pend := s.dict.pend.filter (fun w => !w.isCe) }, ctl := { s.ctl with load := false } }

/-- R374: the pilot at B: it takes the harness and the mirrored state. -/
def State.takeOver (s : State) (m : Mirror) (kind gap : Nat) : State :=
  let s1 := ((((s.takeHarness).fromCopy m).newOwner kind).wantFor m.entry m.originDisp).dropCoef
  { s1 with prl := { s1.prl with swap := .done, lastGap := gap } }.post (.ownGained m.entry m.originDisp)

/-- R245: ownership passes at a boundary at `now`; `gap` is the gap that the owner's push names to the pilot. -/
def State.passOwner (s : State) (now gap : Nat) : State :=
  let t := { s with prl := { s.prl with heldB := none } }
  if t.prl.owner then t.handOver now
  else match t.prl.copy with
    | some m => (t.takeOver m 1 gap).logPost 4 0x0B02 1 (le4 gap)
    | none => t

/-- R245, R267: HANDOVER_BOUNDARY; within braking it is moved to the first reference boundary after all phases have resumed. -/
def execHandoverBoundary (now gap : BitVec 32) (s : State) : Out :=
  if s.prl.swap ≠ .takeSent then .next s
  else if s.phm.brake then .next { s with prl := { s.prl with heldB := some gap.toNat } }
  else .next (s.passOwner now.toNat gap.toNat)

/-! Death of the owner (R376, R377). -/

/-- R46: the state of a code that a takeover can enter. -/
def ownerSt (c : Nat) : OpState :=
  match c with
  | 5 => .connected
  | 6 => .dispatch
  | 7 => .degraded
  | _ => .standby

/-- R366: the state that the last heartbeat shows, in MAINTENANCE its base. -/
def Partner.shows (p : Partner) : OpState := ownerSt (if p.st = 9 then p.base else p.st)

/-- R376: the copy, or what the last heartbeat says where no push has come. (Log entry 29, DEDUCED.) -/
def State.lastCopy (s : State) : Mirror :=
  match s.prl.copy with
  | some m => m
  | none =>
    let p := s.prl.partner.getD {}
    let run := p.degLeft != 0xFFFFFFFF
    { est := s.est, thm := s.thm, ctl := s.ctl, snid := s.fnl.snid, kL := s.fnl.kL, pair := s.fnl.pair, epoch := s.fnl.epoch,
      enMask := s.enMask, st := p.shows, base := p.shows, originDisp := p.shows == .degraded && nth p.coCmd 3 false, degRun := run,
      degRunT := if run then (s.saf P.sagDegTime * 16000000000 - p.degLeft * 16000000).toNat else 0 }

/-- R279, R376: the CE starts from measured values. -/
def State.ceFresh (s : State) : State :=
  let v := s.measured s.ctl.modeAct
  { s with ctl := { s.ctl with taper := { s := v, target := v } } }

/-- R376: TAKEOVER_DECISION: heartbeats missed and OWN low on all four harnesses for 100 µs. The harness is taken at the first reference
boundary at least 50 µs later. With the paths released (R371) the string has opened, and the module isolates as for contactors that have
dropped out. (Log entry 29, DEDUCED.) -/
def execTakeoverDecision (s : State) : Out :=
  if s.sys.st ≠ .pilot || s.prl.mode != 1 || s.prl.partnerOk || s.prl.owner || s.prl.takeDue.isSome then .next s
  else
    let s0 := { s with pins := { s.pins with ownHigh := false } }
    let s1 := s0.pairFault 3
    let s2 := if s.copyCurrent then s1 else s1.logPost 4 0x0B05 2 ([0, 0] ++ le2 s.prl.mirrorAge)
    if s.prl.pathsRel then .next (s2.isolate 0x0E)
    else .next { s2 with prl := { s2.prl with takeDue := some s2.lmp.time } }

/-- R245, R267, R376: what waits for a reference boundary at `now`: a handover put off by braking, and a takeover decided 50 µs before. -/
def State.dueOwner (s : State) (now : Nat) : State :=
  let s1 := match s.prl.heldB with
    | some g => if s.phm.brake || s.prl.swap != SwapSt.takeSent then s else s.passOwner now g
    | none => s
  match s1.prl.takeDue with
  | some t0 =>
    if diffT now t0 < 50000 then s1
    else
      let s2 := { s1 with prl := { s1.prl with takeDue := none } }
      if s2.sys.st = .pilot then (s2.takeOver s2.lastCopy 2 s2.prl.lastGap).ceFresh else s2
  | none => s1

/-- R245, R263, R297, R376: REF_PERIOD_BOUNDARY at `now`. -/
def execRefPeriodBoundary (now : BitVec 32) (s : State) : Out :=
  let s0 := { s with lmp := { s.lmp with time := now.toNat } }
  .next ((s0.loadAtBoundary.refBoundary).dueOwner now.toNat)

/-! The loop regulator and the references (R369, R378). -/

/-- R369: a reading of 9.5 mA ± 0.3 mA. -/
def reserveOk (ua : Nat) : Bool := 9200 ≤ ua && ua ≤ 9800

/-- R366, R369: RESERVE_TEST with the readings of both modules, µA; for 10 ms the regulator of position 0 stands at 9.0 mA. Version 1 of
the pair link has no such test. -/
def execReserveTest (own partner : Nat) (s : State) : Out :=
  .next (if s.linkUp && s.prl.ver != 1 then
    { s with prl := { s.prl with loopRes := reserveOk own && reserveOk partner && s.prl.partnerOk, resLeft := 82
                                 regUa := if s.prl.pos = 0 then 9000 else s.prl.regUa } } else s)

/-- R378: REFERENCE_CHECK. -/
def execReferenceCheck (ok : Bool) (s : State) : Out := .next { s with prl := { s.prl with refOk := ok } }

/-- R374: BOTH_PLANT_PORTS_DOWN for 1 s. -/
def execBothPlantPortsDown (s : State) : Out := .next (if s.plk.link.any id then s else s.autoSwap)

end Sys2Proof.Machine
end

