-- ==== Sys2Proof/Machine/Regs.lean ====
section
/-! DEFINITION. The register window as it reads (R417 to R432): the live word of every register, the shadow copies of its SH
fields, the domain of its block, and what a read over the plant link clears. -/

namespace Sys2Proof.Machine

/-- The low 32 bits of a word of 64. -/
def lo32 (w : Nat) : Nat := w % 2 ^ 32

/-- The high 32 bits of a word of 64. -/
def hi32 (w : Nat) : Nat := w / 2 ^ 32 % 2 ^ 32

/-- The unsigned code of a quantity of n bits. -/
def fitN (n w : Nat) : Nat := w % 2 ^ n

/-! Group records (R154, R182, R228). -/

/-- R154, R182, R228: word w of a group record. -/
def GroupRec.word (r : GroupRec) (w : Nat) : Nat :=
  match w with
  | 0 => packF [(0, fitN 16 r.gen), (16, b2n r.stale), (17, b2n r.lost), (18, b2n r.coast), (19, b2n r.suspect), (20, b2n r.openWire),
      (21, b2n r.balStuck), (22, b2n r.trip), (23, b2n r.sumFail), (24, fitN 8 r.age), (32, fitN 8 r.reason), (48, fitN 16 r.frame)]
  | 1 => packF [(0, fitN 16 r.vRaw), (16, fitN 16 r.vS), (32, enc 32 r.iLat)]
  | 2 => packF [(0, enc 16 r.t), (16, fitN 16 r.balOn), (32, enc 16 r.di), (48, fitN 16 r.qRep)]
  | 3 => packF [(0, enc 48 r.qc), (48, enc 16 r.hyst)]
  | 4 => packF [(0, fitN 32 r.cap), (32, fitN 16 r.qlc), (48, b2n r.anchored), (49, b2n r.learnArmed), (50, b2n r.learnBar),
      (51, b2n r.disagree), (52, b2n r.cutoff), (53, b2n r.capPending), (54, b2n r.capFlagged), (55, b2n r.upHeld),
      (56, fitN 3 r.coneE), (59, fitN 3 r.coneF)]
  | 5 => packF [(0, fitN 32 (nth r.zmag 0 0)), (32, enc 16 (nth r.zarg 0 0)), (48, enc 16 (nth r.zarg 1 0))]
  | 6 => packF [(0, fitN 32 (nth r.zmag 1 0)), (32, fitN 32 (nth r.zmag 2 0))]
  | _ => packF [(0, enc 16 (nth r.zarg 2 0)), (16, fitN 32 (nth r.zmag 3 0)), (48, enc 16 (nth r.zarg 3 0))]

/-- R154: the 64 bytes of a group record. -/
def GroupRec.bytes (r : GroupRec) : List Byte := (List.range 8).flatMap (fun w => leBytes 8 (r.word w))

/-- R229: PRB_G_STAT of group g. -/
def State.prbGStat (s : State) (g : Nat) : Nat :=
  let a := s.ga g
  packF [(0, enc 16 a.tint), (16, maskOf a.prbValid), (20, maskOf a.prbNd), (24, b2n a.tintValid), (25, b2n a.tintClamp)]

/-! The event log and the isolation snapshots as bytes (R478, R485, R487). -/

/-- R478: the 32 bytes of a written record. -/
def LogRec.bytes (r : LogRec) : List Byte :=
  leBytes 4 r.seq ++ leBytes 4 r.pcc ++ leBytes 4 r.opsec ++ leBytes 4 r.time ++ leBytes 2 r.code ++ leBytes 1 r.sev ++
    leBytes 1 r.src ++ toBytes (data6 r.data) ++ leBytes 2 0x4C56 ++ leBytes 4 r.seq

/-- R478: the 32 bytes of log slot i; a slot never written reads 0 (log entry 7), and one freed under R480 has its VALID at 0. -/
def State.slotBytes (s : State) (i : Nat) : List Byte :=
  match s.log.at i with
  | some x => if s.log.freed.contains i then (x.2.1.bytes.take 26) ++ leBytes 2 0 ++ x.2.1.bytes.drop 28 else x.2.1.bytes
  | none => leBytes 32 0

/-- R485: unit u of the snapshot slots, 32 bytes. -/
def State.snapUnit (s : State) (u : Nat) : List Byte :=
  let x := nth s.log.snaps (u / 1024) {}
  let k := u % 1024
  if 2048 ≤ u ∨ 768 < k then leBytes 32 0
  else if k = 0 then
    leBytes 4 x.seq ++ leBytes 4 x.pcc ++ leBytes 4 x.opsec ++ leBytes 4 x.time ++ leBytes 1 x.cause ++ leBytes 9 0 ++
      leBytes 2 (if x.valid then 0x4C56 else 0) ++ leBytes 4 x.seq
  else match x.recs[(k - 1) / 2]? with
    | some r => (r.bytes.drop (32 * ((k - 1) % 2))).take 32
    | none => leBytes 32 0

/-- R487: the 32 bytes that LOG_WIN_SLOT selects. -/
def State.logWin (s : State) : List Byte := if s.log.winArea then s.snapUnit s.log.winSlot else s.slotBytes s.log.winSlot

/-! Live words, block by block. -/

/-- R57: SYS_STATE. -/
def State.sysState (s : State) : Nat :=
  packF [(0, s.sys.st.code), (4, s.sys.base.code), (8, s.sys.prev.code), (16, b2n s.sys.mgpAway), (17, b2n s.sys.holdupOk),
    (18, b2n s.sag.ilkDone), (19, b2n s.sag.latch), (20, b2n s.sys.boWarn), (21, b2n s.degDisp)]

/-- R430, R57 to R59, R40: the global registers, word i from 0x0_0000. -/
def State.sysWord (s : State) (i : Nat) : Nat :=
  match i with
  | 0 => 0x38344353
  | 1 => packF [(0, 0x30), (16, 1), (24, fitN 8 s.sys.hwRev)]
  | 2 => lo32 s.sys.serial
  | 3 => hi32 s.sys.serial
  | 9 => packF [(0, 1), (4, 3), (8, 2), (12, 2), (16, 3), (20, fitN 4 s.sys.dn8HwMin), (24, fitN 4 s.sys.dn8HwMax)]
  | 10 => packF [(0, fitN 16 s.sys.fmtSet), (16, fitN 16 s.sys.fmtSag)]
  | 16 => s.sysState
  | 17 => s.sys.resetCause
  | 18 => maskOf s.sys.pd
  | 19 => s.sys.opsec
  | 20 => s.sys.pcc
  | 21 => s.sys.tick
  | 22 => maskOf s.sys.shHold
  | 23 => maskOf [s.sys.accAbsent, s.sys.accPilotWr]
  | 24 => s.sys.tvFix
  | 25 => s.sys.tvLast
  | 26 => fitN 4 s.sys.coPermit.vote
  | 27 => maskOf s.csm.arb.hit
  | _ => if 4 ≤ i ∧ i ≤ 8 then lo32 (nth s.sys.fw (i - 4) 0) else 0

/-- R430: SYS_ATTN_STAT, SYS_ATTN_ASEQ, SYS_ATTN_LAST. -/
def State.attnWord (s : State) (i : Nat) : Nat :=
  match i with
  | 0 => maskOf s.plk.attnStat
  | 1 => s.plk.aseq
  | _ => packF [(0, s.plk.attnLast.1), (16, s.plk.attnLast.2)]

/-- R433: the code of a channel state. -/
def ChSt.code : ChSt → Nat
  | .idle => 0 | .queued => 1 | .running => 2 | .done => 3 | .held => 4

/-- R433: the code of a request source. -/
def Src.code : Src → Nat
  | .portA => 0 | .portB => 1 | .spyhole => 2

/-- R433: MBX_CTLc. -/
def State.mbxCtl (s : State) (c : Nat) : Nat :=
  let x := nth s.mbx.ch c {}
  packF [(4, x.st.code), (7, b2n s.mbx.long), (8, x.src.code), (10, b2n x.wrLost), (16, fitN 16 x.doneCnt)]

/-- R415: the code of a time state. -/
def LmpSt.code : LmpSt → Nat
  | .freerun => 0 | .acquiring => 1 | .locked => 2 | .holdover => 3

/-- R415: the lamplighter registers, word i from 0x0_4000. -/
def State.lmpWord (s : State) (i : Nat) : Nat :=
  let l := s.lmp
  match i with
  | 0 => l.time
  | 1 => packF [(0, l.st.code), (2, l.port), (4, b2n l.stepped), (5, b2n l.secValid), (6, b2n l.slewing)]
  | 2 => encSat 32 l.offset
  | 3 => encSat 32 l.mpd
  | 4 => encSat 32 l.rate
  | 5 => lo32 l.gmId
  | 6 => hi32 l.gmId
  | 7 => l.secMark
  | 8 => l.extTb
  | 9 => lo32 l.extSec
  | 10 => packF [(0, hi32 l.extSec % 65536), (16, fitN 16 l.extCnt)]
  | 19 => packF [(0, maskOf l.fired), (8, maskOf l.armed), (16, maskOf l.trigStep)]
  | _ => if 11 ≤ i ∧ i ≤ 14 then enc 32 (nth l.corr (i - 11) 0) else if 15 ≤ i ∧ i ≤ 18 then nth l.trig (i - 15) 0 else 0

/-- R102: the FSQ registers, word i from 0x0_4400. -/
def State.fsqWord (s : State) (i : Nat) : Nat :=
  let f := s.fsq
  match i with
  | 0 => packF [(0, f.nextBank), (8, f.active)]
  | 1 => f.swapCode
  | 2 => f.frameCnt
  | 3 => f.frameStart
  | 4 => maskOf [f.late, f.skip, f.eccSkip, f.wrActive, f.wrPending, f.transition, f.unaligned]
  | 5 => f.lateCnt
  | 6 => f.lateMax
  | 7 => f.skipCnt
  | _ =>
    let t := nth f.tones (i - 8) {}
    packF [(0, fitN 6 t.step), (8, fitN 8 t.sub), (16, fitN 16 t.points)]

/-- R415: PLK_DISP_ERR of one port. -/
def DispErr.word (e : DispErr) : Nat := packF [(0, e.fmt), (8, e.crc), (16, e.conn), (24, e.old), (28, e.noent)]

/-- R415: the plant-link registers, word i from 0x0_4800. -/
def State.plkWord (s : State) (i : Nat) : Nat :=
  match i with
  | 0 => packF [(0, maskOf s.plk.link), (8, fitN 4 s.plk.sessions.length)]
  | 1 => nth s.plk.rxDrop 0 0
  | 2 => nth s.plk.rxDrop 1 0
  | 3 => packF [(0, s.plk.dispSeq), (16, b2n s.plk.series)]
  | 4 => (nth s.plk.dispErr 0 {}).word
  | 5 => (nth s.plk.dispErr 1 {}).word
  | 6 => s.plk.dispDup
  | _ => s.plk.attnLost

/-- R281: TPR_BUSY. -/
def Taper.busy (t : Taper) : Bool := t.s != t.target || t.v != 0

/-- R304: the CE registers, word i from 0x0_8000. -/
def State.ctlWord (s : State) (i : Nat) : Nat :=
  let c := s.ctl
  match i with
  | 0 => c.mode.vote % 4
  | 1 => packF [(0, c.modeAct), (2, b2n c.taper.busy), (3, b2n (c.limTapD.isSome || c.limTapC.isSome)), (4, b2n c.hold),
      (5, b2n s.cePend), (6, b2n c.ovrPersist), (7, b2n c.isumWarn), (8, s.commonPh.length), (16, c.srcD), (20, c.srcC)]
  | 2 => b2n c.hold
  | 3 => c.cmdI
  | 4 => c.cmdP
  | 5 => c.cmdV
  | 6 => encSat 32 (ratFree 90 c.taper.s)
  | 7 => if c.modeAct = 2 then encSat 32 c.vref else 0
  | 8 => encSat 32 c.iref
  | 9 => encSat 32 c.iff
  | 10 => c.limDis
  | 11 => c.limChg
  | 12 => encSat 32 c.vocv
  | 13 => fitN 32 c.rstr
  | 14 => packF [(0, b2n c.applied), (1, b2n c.late), (8, c.queue.length)]
  | 15 => c.ignored
  | 16 => c.lateCnt
  | 17 => c.dropCnt
  | 18 => packF [(0, maskOf c.ovrPh), (16, b2n c.ovrOut)]
  | 19 => c.ovrCnt
  | 20 => maskOf c.outSatf
  | 21 => encSat 32 (divFree 91 c.outX 256)
  | 22 => encSat 32 c.isumDiff
  | _ => min 255 c.speed

/-- R447: a setting as it reads: the pending value of a buffered write, else the value in force; a safety parameter comes
from the voted mirror. -/
def State.setting (s : State) (i : Nat) : Int :=
  if (Params.safetyPos i).isSome then s.mir i
  else match (s.dict.pend.filter (fun w => w.idx == i)).getLast? with
    | some w => w.val
    | none =>
      if i = P.phmPeriod then (match s.fsq.perPending with | some p => (p : Int) | none => s.par i)
      else if i = P.ctlHostLimDis then (nth s.ctl.hostLim 0 {}).vote
      else if i = P.ctlHostLimChg then (nth s.ctl.hostLim 1 {}).vote
      else s.par i

/-- R446: a setting's 32-bit code. -/
def State.settingW (s : State) (i : Nat) : Nat := enc 32 (s.setting i)

/-- R264, R273: a ramp of kind k runs. -/
def State.rampOf (s : State) (k : Nat) : Bool := s.phm.ph.any (fun p => p.active && p.ramp == k)

/-- R247, R273: a carrier is moving. -/
def State.reint (s : State) : Bool := s.phm.ph.any (fun p => p.active && p.ofs != p.target)

/-- R273: the code of TRK. -/
def Trk.code : Trk → Nat
  | .idle => 0 | .recovery => 1 | .slewing => 2 | .dwell => 3 | .co3Req => 4 | .zeroHold => 5 | .stopping => 6

/-- R273: the global PHM registers, word i from 0x0_8400. -/
def State.phmWord (s : State) (i : Nat) : Nat :=
  let p := s.phm
  match i with
  | 0 => s.enMask % 65536
  | 1 => maskOf (p.ph.map (·.active))
  | 2 => packF [(0, maskOf ((List.range 4).map s.drives)), (4, maskOf p.hidErr), (8, b2n p.burst), (9, b2n p.brake), (10, b2n (s.rampOf 1)),
      (11, b2n (s.rampOf 2)), (12, b2n s.reint), (13, b2n p.perRef), (16, p.trk.code), (19, p.trkMode % 2)]
  | 3 => 0
  | 4 => p.brakeCnt
  | _ => p.shedCnt

/-- R273, R304: the registers of phase p, word i from 0x0_C000 + 0x400·p. -/
def State.phaseWord (s : State) (p i : Nat) : Nat :=
  let x := nth s.phm.ph p {}
  let c := nth s.ctl.ph p {}
  match i with
  | 0 => packF [(0, b2n x.active), (1, b2n x.de), (2, x.ramp), (4, x.fault), (8, b2n x.tfail), (9, b2n x.share), (16, x.pkCnt)]
  | 1 => packF [(0, fitN 16 x.da), (16, fitN 16 x.db)]
  | 2 => fitN 18 x.ofs
  | 3 => encSat 32 x.iMa
  | 4 => encSat 16 x.temp
  | 5 => maskOf c.satf
  | 6 => encSat 32 (divFree 92 c.x 256)
  | _ => encSat 32 c.obs

/-- R180: the node flags as two words. -/
def nodeMap (l : List Bool) (i : Nat) : Nat := if i = 0 then lo32 (maskOf l) else hi32 (maskOf l)

/-- R180: the measurement registers, word i from 0x3_B000. -/
def State.meaWord (s : State) (i : Nat) : Nat :=
  match i with
  | 0 => packF [(0, s.mea.loop), (8, b2n s.mea.sweepInc), (9, b2n s.mea.sumWarn)]
  | 1 => min 65535 s.pins.loopUa
  | 2 => s.mea.incCnt
  | 3 => encSat 32 s.mea.sumDiff
  | 4 => nodeMap (s.mea.nodes.map (·.stale)) 0
  | 5 => nodeMap (s.mea.nodes.map (·.stale)) 1
  | 6 => nodeMap (s.mea.nodes.map (·.lost)) 0
  | _ => nodeMap (s.mea.nodes.map (·.lost)) 1

/-- R144: the registers of unit u, word i from 0x3_B100 + 0x40·u. -/
def State.unitWord (s : State) (u i : Nat) : Nat :=
  let x := s.unit u
  match i with
  | 0 => packF [(0, x.mode), (2, b2n x.loopOk), (3, b2n x.impaired), (8, fitN 6 x.served)]
  | 1 => x.energy
  | 2 => x.foreignCnt
  | 3 => x.format
  | 4 => x.micfail
  | 5 => x.replay
  | 6 => x.miss
  | _ => x.joinUnk

/-- R144: FNL_EPOCH and FNL_KEY_STAT. KEYED is 0 outside a change. (Log entry 106, DESIGN CHOICE.) -/
def State.keyWord (s : State) (i : Nat) : Nat :=
  if i = 0 then lo32 s.fnl.epoch
  else packF [(0, b2n s.fnl.changing), (16, fitN 6 (if s.fnl.changing then countB (s.fnl.links.map (·.keyAck)) else 0))]

/-- R144, R180, R431: the status block of node n, word i. -/
def State.nodeWord (s : State) (n i : Nat) : Nat :=
  let l := s.nl n
  let m := s.mn n
  let row := nth s.fnl.pair n {}
  match i with
  | 0 => packF [(0, l.st), (4, l.unit), (8, fitN 4 l.ver), (16, fitN 8 l.tof)]
  | 1 => l.miss
  | 2 => l.micfail
  | 3 => packF [(0, b2n m.stale), (1, b2n m.lost), (2, b2n m.coast), (3, b2n m.sumFail), (4, b2n m.trip), (5, b2n m.ntcFault),
      (8, fitN 8 m.age), (16, fitN 8 m.missRun), (24, fitN 8 m.reason)]
  | 4 => packF [(0, fitN 9 m.wSuspect), (16, fitN 9 m.wOpen)]
  | 5 => packF [(0, fitN 8 m.bstFail), (8, fitN 8 m.bstStuck)]
  | 6 => m.tofRej
  | 8 => packF [(0, fitN 16 m.vsup), (16, fitN 16 m.vref)]
  | 9 => packF [(0, fitN 16 m.status), (16, fitN 8 m.tcode)]
  | 10 => packF [(0, enc 16 m.tval), (16, fitN 16 m.frame)]
  | 16 => lo32 row.serial
  | 17 => hi32 row.serial
  | 18 => lo32 l.fwA
  | 19 => lo32 l.fwB
  | 20 => packF [(0, fitN 8 l.hw), (8, l.bank % 2), (9, b2n l.staged)]
  | _ => 0

/-- R214: the estimator registers, word i from 0x3_B200. -/
def State.estWord (s : State) (i : Nat) : Nat :=
  let e := s.est
  match i with
  | 0 => packF [(0, b2n e.disMode), (1, b2n e.chgMode), (2, b2n e.rest), (3, b2n (s.csm.recs.any (·.disagree))),
      (4, b2n (s.csm.recs.any (·.learnArmed))), (5, b2n (s.csm.recs.any (·.capPending))), (6, b2n e.tabBad), (16, fitN 2 e.coneE),
      (18, fitN 2 e.coneF)]
  | 1 => min 65535 e.restS
  | 2 => encSat 32 e.iAvg
  | 3 => lo32 (enc 64 e.qint)
  | 4 => e.qintHi
  | 5 => fitN 32 e.strRem
  | 6 => fitN 32 e.strHead
  | 7 => fitN 16 e.strSoc
  | 8 => packF [(0, fitN 9 e.remG), (16, fitN 9 e.headG)]
  | 9 => fitN 32 e.limDis
  | 10 => fitN 32 e.limChg
  | 11 => fitN 32 e.capSeq
  | 12 => packF [(0, e.capSlot % 2), (1, b2n e.capBusy), (2, b2n e.capFail), (3, b2n e.capNominal)]
  | 13 => e.disCnt
  | _ => e.balLoss

/-- R235: the probe registers, word i from 0x3_B300. -/
def State.prbWord (s : State) (i : Nat) : Nat :=
  match i with
  | 0 => packF [(0, maskOf (s.prb.tones.map (·.live))), (4, b2n s.prb.suspended), (5, b2n s.prb.clamp), (6, b2n s.prb.tcalBad)]
  | 1 => s.aLive
  | 6 => s.prb.discCnt
  | _ =>
    let t := s.tone (i - 2)
    packF [(0, b2n t.live), (1, b2n t.settle), (8, fitN 8 t.reason), (16, fitN 16 t.published)]

/-- R360: SAG_PDU_ERR of one port. -/
def PduErr.word (e : PduErr) : Nat := packF [(0, e.fmt), (8, e.crc), (16, e.conn), (24, e.wd), (28, e.seq)]

/-- R360: the saggar registers, word i from 0x3_C000. -/
def State.sagWord (s : State) (i : Nat) : Nat :=
  let g := s.sag
  match i with
  | 0 => packF [(0, b2n g.latch), (1, b2n g.degRun), (2, b2n g.chgForbid), (3, b2n g.disForbid), (4, b2n s.pins.ilkClosed),
      (5, b2n g.session), (6, b2n g.login.isSome), (16, fitN 6 g.lost)]
  | 1 => g.cause
  | 2 => maskOf g.deg
  | 3 => min 65535 s.degLeft
  | 4 => packF [(0, maskOf g.coil), (8, maskOf s.pins.aux), (16, maskOf (List.zipWith (· || ·) (g.weld.take 4) (g.weld.drop 4)))]
  | 5 => maskOf g.tpFail
  | 6 => packF [(0, g.lastSeq), (16, b2n g.run), (24, b2n g.netA), (25, b2n g.netB)]
  | 7 => (nth g.err 0 {}).word
  | 8 => (nth g.err 1 {}).word
  | 9 => nth g.missCnt 0 0
  | 10 => nth g.missCnt 1 0
  | 11 => g.mismatch
  | 12 => fitN 11 g.clogUsed
  | 13 => fitN 32 g.clogSeq
  | 14 => packF [(0, fitN 8 g.loginFail), (8, b2n g.locked)]
  | _ => cfgCrc g.cfg

/-- R318, R323: grace left, ms (rounding left open). -/
def Derate.graceMs (d : Derate) : Nat := if d.st = 1 then min 65535 (divFree 93 d.grace 16000000).toNat else 0

/-- R323: the thermal registers, word i from 0x3_C400. -/
def State.thmWord (s : State) (i : Nat) : Nat :=
  let t := s.thm
  match i with
  | 0 => packF [(0, t.dis.st), (2, t.chg.st), (4, t.dis.src), (8, t.chg.src), (16, fitN 4 t.hotPh)]
  | 1 => t.dis.req
  | 2 => t.chg.req
  | 3 => t.dis.enf
  | 4 => t.chg.enf
  | 5 => packF [(0, t.dis.graceMs), (16, t.chg.graceMs)]
  | 6 => packF [(0, fitN 9 t.dis.grp), (16, fitN 9 t.chg.grp)]
  | 7 => maskOf t.fbPh
  | 8 => (t.src.filter (· == 3)).length
  | 9 => packF [(0, maskOf t.coolFail), (4, maskOf t.fanFail), (8, maskOf t.flowLow), (10, b2n t.coolNone)]
  | _ => t.xchk

/-- R323: coolant, flow, fan and output registers, word i from 0x3_C4C0. -/
def State.coolWord (s : State) (i : Nat) : Nat :=
  if i < 4 then encSat 16 (nth s.thm.cool i 0)
  else if i < 6 then min 65535 (nth s.thm.flow (i - 4) 0)
  else if i < 10 then min 65535 (nth s.thm.rpm (i - 6) 0)
  else min 65535 (nth s.thm.duty (i - 10) 0)

/-- R381: the code of SWAP. -/
def SwapSt.code : SwapSt → Nat
  | .idle => 0 | .requested => 1 | .ready => 2 | .frozen => 3 | .takeSent => 4 | .done => 5 | .abandoned => 6 | .refused => 7

/-- R381: the pair registers, word i from 0x3_D000. -/
def State.prlWord (s : State) (i : Nat) : Nat :=
  let p := s.prl
  match i with
  | 0 => packF [(0, p.pos % 2), (1, b2n (p.mode == 1)), (2, b2n p.owner), (3, b2n p.partnerOk), (4, b2n p.clash), (5, b2n s.mirrorOk),
      (6, b2n p.pathsRel), (8, fitN 4 p.ver), (16, p.swap.code)]
  | 1 => s.health
  | 2 => fitN 14 p.healthPart
  | 3 => fitN 32 p.mirrorSeq
  | 4 => min 65535 p.mirrorAge
  | 5 => fitN 32 p.lastGap
  | 6 => p.swapCnt
  | 7 => p.hbMiss
  | _ => p.rxErr

/-- R487: the log and MRAM registers, word i from 0x3_D800. -/
def State.logWord (s : State) (i : Nat) : Nat :=
  let l := s.log
  match i with
  | 0 => packF [(0, b2n l.full), (1, b2n l.dropped), (2, b2n l.wearHold), (8, l.queue.length)]
  | 1 => l.seq
  | 2 => l.floor
  | 3 => l.used.length
  | 4 => l.cursor
  | 5 => l.drop
  | 8 => packF [(0, l.winSlot), (16, b2n l.winArea)]
  | 32 => l.eccCorr
  | 33 => l.eccUnc
  | 34 => l.eccAddr
  | 35 => l.wrDeny
  | _ => if 16 ≤ i ∧ i < 24 then leAt s.logWin (4 * (i - 16)) 4 else 0

/-! The map (R417). -/

/-- R417: the registers and regions of the window. -/
inductive Reg
  | sys (i : Nat) | attn (i : Nat) | mbx (c : Nat) | req (c i : Nat) | rep (c i : Nat) | lmp (i : Nat) | fsq (i : Nat) | plk (i : Nat)
  | ctl (i : Nat) | par (i : Nat) | phm (i : Nat) | phase (p i : Nat) | phPar (p k : Nat) | bank (b i : Nat) | csm (g i : Nat)
  | prbG (g : Nat) | node (n i : Nat) | mea (i : Nat) | unit (u i : Nat) | key (i : Nat) | est (i : Nat) | prb (i : Nat)
  | sag (i : Nat) | pmir (j : Nat) | thm (i : Nat) | ro (k : Nat) | tj (p : Nat) | cool (i : Nat) | thmG (g : Nat) | prl (i : Nat)
  | log (i : Nat)
  deriving DecidableEq, Repr

/-- R417: the register at word address k (byte address 4·k), below 0x1_0000. -/
def regLow (a : Nat) : Option Reg :=
  let i := a / 4
  if a < 0x2C then some (.sys i)
  else if 0x40 ≤ a ∧ a < 0x70 then some (.sys i)
  else if 0x1000 ≤ a ∧ a < 0x100C then some (.attn (i - 0x400))
  else if 0x1800 ≤ a ∧ a < 0x1810 then some (.mbx (i - 0x600))
  else if 0x2000 ≤ a ∧ a < 0x4000 then
    let c := (a - 0x2000) / 0x800
    let o := (a - 0x2000) % 0x800
    some (if o < 0x400 then .req c (o / 4) else .rep c ((o - 0x400) / 4))
  else if 0x4000 ≤ a ∧ a < 0x4050 then some (.lmp (i - 0x1000))
  else if 0x4400 ≤ a ∧ a < 0x4430 then some (.fsq (i - 0x1100))
  else if 0x4800 ≤ a ∧ a < 0x4820 then some (.plk (i - 0x1200))
  else if 0x8000 ≤ a ∧ a < 0x8060 then some (.ctl (i - 0x2000))
  else if 0x8100 ≤ a ∧ a < 0x8178 then some (.par (P.ctlOuterDiv + (i - 0x2040)))
  else if 0x8400 ≤ a ∧ a < 0x8418 then some (.phm (i - 0x2100))
  else if 0xC000 ≤ a ∧ a < 0x10000 then
    let p := (a - 0xC000) / 0x400
    let o := (a - 0xC000) % 0x400
    if o < 0x20 then some (.phase p (o / 4)) else if 0x100 ≤ o ∧ o < 0x118 then some (.phPar p ((o - 0x100) / 4)) else none
  else none

/-- R431: the offsets of a node status block that hold a register. -/
def nodeOff (i : Nat) : Bool := i < 7 || (8 ≤ i && i < 11) || (16 ≤ i && i < 21)

/-- R487: the offsets of the log registers. -/
def logOff (i : Nat) : Bool := i < 6 || i == 8 || (16 ≤ i && i < 24) || (32 ≤ i && i < 36)

/-- R417: the register at byte address a, from 0x1_0000. -/
def regHigh (a : Nat) : Option Reg :=
  let i := a / 4
  if a < 0x20000 then some (.bank 0 (i - 0x4000))
  else if a < 0x30000 then some (.bank 1 (i - 0x8000))
  else if a < 0x36000 then some (.csm ((a - 0x30000) / 64) ((a - 0x30000) % 64 / 4))
  else if a < 0x36600 then some (.prbG (i - 0xD800))
  else if 0x38000 ≤ a ∧ a < 0x3B000 then
    let n := (a - 0x38000) / 0x100
    let o := (a - 0x38000) % 0x100 / 4
    if nodeOff o then some (.node n o) else none
  else if 0x3B000 ≤ a ∧ a < 0x3B020 then some (.mea (i - 0xEC00))
  else if 0x3B100 ≤ a ∧ a < 0x3B180 then if a % 0x40 < 0x20 then some (.unit ((a - 0x3B100) / 0x40) (a % 0x40 / 4)) else none
  else if 0x3B180 ≤ a ∧ a < 0x3B188 then some (.key (i - 0xEC60))
  else if 0x3B200 ≤ a ∧ a < 0x3B23C then some (.est (i - 0xEC80))
  else if 0x3B300 ≤ a ∧ a < 0x3B31C then some (.prb (i - 0xECC0))
  else if 0x3C000 ≤ a ∧ a < 0x3C040 then some (.sag (i - 0xF000))
  else if 0x3C100 ≤ a ∧ a < 0x3C200 then some (.pmir (i - 0xF040))
  else if 0x3C400 ≤ a ∧ a < 0x3C42C then some (.thm (i - 0xF100))
  else if 0x3C440 ≤ a ∧ a < 0x3C480 then some (.ro (i - 0xF110))
  else if 0x3C480 ≤ a ∧ a < 0x3C4C0 then some (.tj (i - 0xF120))
  else if 0x3C4C0 ≤ a ∧ a < 0x3C508 then some (.cool (i - 0xF130))
  else if 0x3C800 ≤ a ∧ a < 0x3CE00 then some (.thmG (i - 0xF200))
  else if 0x3D000 ≤ a ∧ a < 0x3D024 then some (.prl (i - 0xF400))
  else if 0x3D800 ≤ a ∧ a < 0x3D890 then if logOff (i - 0xF600) then some (.log (i - 0xF600)) else none
  else none

/-- R417: the register at byte address a; none where the window is unmapped. -/
def regAt (a : Nat) : Option Reg := if a < 0x10000 then regLow a else regHigh a

/-! Secrets in a request (R123, R353). -/

/-- R123, R353: the commands whose parameters hold a password or a key: CMD_PAIR_WRITE, CMD_SAG_LOGIN, CMD_SAG_PASSWORD and
CMD_SAG_LOG_ACK. -/
def secretCode (code : Nat) : Bool := code == 0x0601 || code == 0x0901 || code == 0x0905 || code == 0x0907

/-- R123, R353: word i of a request buffer as it reads: no parameter of a command that holds a password or a key is shown. -/
def reqWord (buf : Mem) (i : Nat) : Nat :=
  if 2 ≤ i ∧ secretCode (leNat (memGetL buf 0 2)) then 0 else leNat (memGetL buf (4 * i) 4)

/-- R429: in PILOT the registers of the phase modulators show the duties and the masks last taken from the mirror. -/
def State.pilotView (s : State) : State :=
  if s.sys.st = .pilot then
    match s.prl.copy with
    | some m => { s with phm := { s.phm with ph := mergePh s.phm.ph m.ph, enMask := Tv.put m.enMask }
                         prb := { m.prb with discCnt := s.prb.discCnt } }
    | none => s
  else s

/-- R417: the live word of a register. -/
def State.live (s : State) : Reg → Nat
  | .sys i => s.sysWord i
  | .attn i => s.attnWord i
  | .mbx c => s.mbxCtl c
  | .req c i => reqWord (nth s.mbx.ch c {}).reqBuf i
  | .rep c i => leNat (memGetL (nth s.mbx.ch c {}).repBuf (4 * i) 4)
  | .lmp i => s.lmpWord i
  | .fsq i => s.fsqWord i
  | .plk i => s.plkWord i
  | .ctl i => s.ctlWord i
  | .par i => s.settingW i
  | .phm i => s.pilotView.phmWord i
  | .phase p i => s.pilotView.phaseWord p i
  | .phPar p k => s.settingW (P.phase p (3 + k))
  | .bank b i => leNat (memGetL (s.fsq.bank b) (4 * i) 4)
  | .csm g i => if i % 2 = 0 then lo32 ((s.gr g).word (i / 2)) else hi32 ((s.gr g).word (i / 2))
  | .prbG g => s.prbGStat g
  | .node n i => s.nodeWord n i
  | .mea i => s.meaWord i
  | .unit u i => s.unitWord u i
  | .key i => s.keyWord i
  | .est i => s.estWord i
  | .prb i => s.prbWord i
  | .sag i => s.sagWord i
  | .pmir j => (nth s.sag.pmir j {}).vote
  | .thm i => s.thmWord i
  | .ro k => encSat 16 (nth s.thm.ro k 0)
  | .tj p => encSat 16 (nth s.thm.tj p 0)
  | .cool i => s.coolWord i
  | .thmG g => packF [(0, encSat 16 (nth s.thm.tUsed g 0)), (16, nth s.thm.src g 0)]
  | .prl i => s.prlWord i
  | .log i => s.logWord i

/-! Shadow copies and absence (R16, R419, R421, R429). -/

/-- R419: the SH bits of a register. -/
def Reg.shMask : Reg → Nat
  | .sys 18 => 0xFFFFFFFF
  | .sys 21 => 0xFFFFFFFF
  | .mea 1 => 0xFFFFFFFF
  | .prb i => if i = 0 then 0xF else if i = 1 then 0xFFFFFFFF else if i < 6 then 0x3 else 0
  | .phase _ 4 => 0xFFFFFFFF
  | .ctl 23 => 0xFFFFFFFF
  | .ro _ => 0xFFFFFFFF
  | .tj _ => 0xFFFFFFFF
  | .cool _ => 0xFFFFFFFF
  | .thmG _ => 0xFFFFFFFF
  | .sag _ => 0xFFFFFFFF
  | .prl i => if i = 1 ∨ i = 2 then 0xFFFFFFFF else 0
  | .lmp i => if 2 ≤ i ∧ i ≤ 6 then 0xFFFFFFFF else 0
  | _ => 0

/-- R16: the domains that can hold a register's block; one that answers is enough (two only where the block has a part in each). (Log
entry 37, DEDUCED.) -/
def Reg.doms : Reg → List Nat
  | .sys 26 => [3]
  | .sys 27 => [6]
  | .sys _ | .attn _ => [2]
  | .mbx _ | .req _ _ | .rep _ _ | .lmp _ | .plk _ => [9]
  | .fsq _ | .ctl _ | .par _ | .phm _ | .bank _ _ | .phPar _ _ | .mea _ | .prb _ | .pmir _ => [3]
  | .phase p i => if i < 5 then [if p < 8 then 4 else 5] else [3]
  | .csm _ _ | .prbG _ | .est _ => [6]
  | .node _ i => if i = 3 ∨ i = 4 ∨ i = 5 ∨ i = 6 ∨ (8 ≤ i ∧ i < 11) then [3] else [7, 8]
  | .unit u _ => [7 + u]
  | .key _ => [7, 8]
  | .sag _ => [1]
  | .thm _ | .ro _ | .tj _ | .cool _ | .thmG _ => [11]
  | .prl _ => [10]
  | .log _ => [2]

/-- R22, R429: the register's block answers. -/
def State.answers (s : State) (r : Reg) : Bool := r.doms.any s.up

/-- R417: the byte addresses of the registers with SH fields, ascending. -/
def shAddrs : List Nat :=
  [0x48, 0x54, 0x4008, 0x400C, 0x4010, 0x4014, 0x4018, 0x805C] ++ (List.range 16).map (fun p => 0xC010 + 0x400 * p) ++
  [0x3B004, 0x3B300, 0x3B304, 0x3B308, 0x3B30C, 0x3B310, 0x3B314] ++ (List.range 16).map (fun i => 0x3C000 + 4 * i) ++
  (List.range 16).map (fun k => 0x3C440 + 4 * k) ++ (List.range 16).map (fun k => 0x3C480 + 4 * k) ++
  (List.range 18).map (fun i => 0x3C4C0 + 4 * i) ++ (List.range 384).map (fun g => 0x3C800 + 4 * g) ++ [0x3D004, 0x3D008]

/-- R419: the shadow latch of byte address a; 0 before the first edge. -/
def State.shadowAt (s : State) (a : Nat) : Nat := ((s.sys.shadow.find? (fun p => p.1 == a)).map (·.2)).getD 0

/-- R419, R421: one latch at an edge: the live word, or its last value where the source is absent. -/
def State.latchSh (s : State) (a : Nat) : Nat × Nat :=
  match regAt a with
  | some r => if s.answers r then (a, s.live r &&& r.shMask) else (a, s.shadowAt a)
  | none => (a, 0)

/-- R421: some shadow source of domain d answers ABSENT. -/
def State.shAbsent (s : State) (d : Nat) : Bool :=
  shAddrs.any (fun a => match regAt a with | some r => r.doms.contains d && !s.answers r | none => false)

/-- R419, R421: the edge of the housekeeping tick. -/
def State.latchShadows (s : State) : State :=
  { s with sys := { s.sys with shadow := shAddrs.map s.latchSh, shHold := (List.range 12).map s.shAbsent } }

/-- R419, R429: the word that a read of register r at address a returns. -/
def State.readWord (s : State) (a : Nat) (r : Reg) : Nat :=
  let sh := s.shadowAt a &&& r.shMask
  if s.answers r then sh ||| (s.live r &&& (0xFFFFFFFF - r.shMask)) else sh

/-- R418: the value of the word at byte address a; an unmapped one reads 0. -/
def State.peek (s : State) (a : Nat) : Nat := match regAt a with | some r => s.readWord a r | none => 0

/-- R214, R429: what any read leaves behind: EST_QINT_LO latches HI, and an absent block shows in SYS_ACC_STAT. -/
def State.afterRead (s : State) (r : Reg) : State :=
  let s1 := if s.answers r || r.shMask == 0xFFFFFFFF then s else { s with sys := { s.sys with accAbsent := true } }
  if r = .est 3 ∧ s.answers r then { s1 with est := { s1.est with qintHi := hi32 (enc 64 s1.est.qint) } } else s1

/-! Read-and-clear (R427, R428). -/

/-- R427: the RC registers of a radio unit. -/
def RUnit.rc (x : RUnit) (i : Nat) : RUnit :=
  match i with
  | 1 => { x with energy := 0 }
  | 2 => { x with foreignCnt := 0 }
  | 3 => { x with format := 0 }
  | 4 => { x with micfail := 0 }
  | 5 => { x with replay := 0 }
  | 6 => { x with miss := 0 }
  | 7 => { x with joinUnk := 0 }
  | _ => x

/-- R427: the RC fields of the CE's global registers. -/
def Ctl.rc (c : Ctl) (i : Nat) : Ctl :=
  match i with
  | 15 => { c with ignored := 0 }
  | 16 => { c with lateCnt := 0 }
  | 17 => { c with dropCnt := 0 }
  | 18 => { c with ovrPh := List.replicate 16 false, ovrOut := false }
  | 19 => { c with ovrCnt := 0 }
  | 20 => { c with outSatf := [false, false, false, false] }
  | _ => c

/-- R427: the RC fields of the FSQ. -/
def Fsq.rc (f : Fsq) (i : Nat) : Fsq :=
  match i with
  | 4 => { f with late := false, skip := false, eccSkip := false, wrActive := false, wrPending := false, transition := false }
  | 5 => { f with lateCnt := 0 }
  | 6 => { f with lateMax := 0 }
  | 7 => { f with skipCnt := 0 }
  | _ => f

/-- R427: the RC fields of the plant link. -/
def Plk.rc (p : Plk) (i : Nat) : Plk :=
  match i with
  | 1 => { p with rxDrop := p.rxDrop.set 0 0 }
  | 2 => { p with rxDrop := p.rxDrop.set 1 0 }
  | 4 => { p with dispErr := p.dispErr.set 0 {} }
  | 5 => { p with dispErr := p.dispErr.set 1 {} }
  | 6 => { p with dispDup := 0 }
  | 7 => { p with attnLost := 0 }
  | _ => p

/-- R427: the RC fields of the log and MRAM registers. -/
def Log.rc (l : Log) (i : Nat) : Log :=
  match i with
  | 0 => { l with dropped := false, wearHold := false }
  | 5 => { l with drop := 0 }
  | 32 => { l with eccCorr := 0 }
  | 33 => { l with eccUnc := 0 }
  | 35 => { l with wrDeny := 0 }
  | _ => l

/-- R427: a read over the plant link leaves in the RC fields of a register what came after the capture: nothing yet. -/
def State.clearRc (s : State) (r : Reg) : State :=
  match r with
  | .sys 23 => { s with sys := { s.sys with accAbsent := false, accPilotWr := false } }
  | .sys 24 => { s with sys := { s.sys with tvFix := 0 } }
  | .sys 27 => { s with csm := { s.csm with arb := { s.csm.arb with hit := [false, false] } } }
  | .attn 0 => { s with plk := { s.plk with attnStat := List.replicate 16 false } }
  | .mbx c => { s with mbx := { s.mbx with ch := s.mbx.ch.modify c (fun x => { x with wrLost := false }) } }
  | .lmp 1 => { s with lmp := { s.lmp with stepped := false } }
  | .lmp 19 => { s with lmp := { s.lmp with fired := [false, false, false, false], trigStep := [false, false, false, false] } }
  | .fsq i => { s with fsq := s.fsq.rc i }
  | .plk i => { s with plk := s.plk.rc i }
  | .ctl i => { s with ctl := s.ctl.rc i }
  | .phm 2 => { s with phm := { s.phm with perRef := false } }
  | .phm 4 => { s with phm := { s.phm with brakeCnt := 0 } }
  | .phm 5 => { s with phm := { s.phm with shedCnt := 0 } }
  | .phase p 0 => s.modPh p (fun x => { x with pkCnt := 0 })
  | .phase p 5 => { s with ctl := { s.ctl with ph := s.ctl.ph.modify p (fun x => { x with satf := [false, false, false, false] }) } }
  | .node n 1 => s.modNl n (fun x => { x with miss := 0 })
  | .node n 2 => s.modNl n (fun x => { x with micfail := 0 })
  | .node n 6 => s.modMn n (fun x => { x with tofRej := 0 })
  | .mea 2 => { s with mea := { s.mea with incCnt := 0 } }
  | .unit u i => s.modUnit u (fun x => x.rc i)
  | .est 12 => { s with est := { s.est with capFail := false } }
  | .est 13 => { s with est := { s.est with disCnt := 0 } }
  | .est 14 => { s with est := { s.est with balLoss := 0 } }
  | .prb 6 => { s with prb := { s.prb with discCnt := 0 } }
  | .thm 10 => { s with thm := { s.thm with xchk := 0 } }
  | .prl i => if i = 6 then { s with prl := { s.prl with swapCnt := 0 } } else if i = 7 then { s with prl := { s.prl with hbMiss := 0 } }
      else if i = 8 then { s with prl := { s.prl with rxErr := 0 } } else s
  | .log i => { s with log := s.log.rc i }
  | _ => s

/-- R418, R427, R428: one word read; `clear` for REG_READ over the plant link. -/
def State.readReg (s : State) (clear : Bool) (a : Nat) : Nat × State :=
  match regAt a with
  | none => (0, s)
  | some r =>
    let v := s.readWord a r
    let s1 := s.afterRead r
    (v, if clear && s.answers r then s1.clearRc r else s1)

/-- R395: n consecutive words from byte address a. -/
def State.readRegs (s : State) (clear : Bool) : Nat → Nat → List Nat × State
  | _, 0 => ([], s)
  | a, n + 1 =>
    let x := s.readReg clear a
    let y := State.readRegs x.2 clear (a + 4) n
    (x.1 :: y.1, y.2)

end Sys2Proof.Machine
end

