-- ==== Sys2Proof/Machine/Settings.lean ====
section
/-! DEFINITION. Writing a setting (R246, R423, R424, R447, R453): its range, its boundary and what follows at once; and the
defaults of R456 and R469. -/

namespace Sys2Proof.Machine

/-! Writing a setting (R246, R423, R424, R447, R453). -/

/-- R424: the boundary at which a write of setting i is taken; 16 stands for the evaluations of every phase. -/
def boundOf (i : Nat) : PBnd → Option Bound
  | .atOnce => none
  | .frameEnd => some .frameEnd
  | .inner => some (.inner (if 0xC00 ≤ i ∧ i < 0xE00 then (i - 0xC00) / 32 else 16))
  | .outer => some .outer
  | .frameStart => some .frameStart
  | .valley => some (.valley ((i - 0xC00) / 32))
  | .sample => some (.sample (if 0xC00 ≤ i ∧ i < 0xE00 then (i - 0xC00) / 32 else 16))
  | .on w => some (.on w)
  | .later w => some (.later w)

/-- R246: a PWM period fits the active frame, and that of a shadow bank whose swap is PENDING or COMMITTED. -/
def State.periodFits (s : State) (v : Nat) : Bool :=
  wholePeriods s.frameNs v &&
  (!(s.fsq.swapCode == 2 || s.fsq.swapCode == 3) || wholePeriods (lenNs (bankLen (s.fsq.bank s.fsq.shadow) s.fsq.lenCode)) v)

/-- R246: a write of PHM_PERIOD. (Log entry 42, DEDUCED.) -/
def State.putPeriod (s : State) (v : Nat) : State :=
  if s.periodFits v then { s with fsq := { s.fsq with perPending := if v = s.phm.period then none else some v } }
  else { s with phm := { s.phm with perRef := true } }

/-- R273, R405: what follows at once from a setting that has been written v in place of old. -/
def State.settingDone (s : State) (i : Nat) (v old : Int) : State :=
  if i = P.phmEnMask then ({ s with phm := { s.phm with enMask := Tv.put v.toNat } }).degPhase
  else if i = P.plkDispId ∧ v ≠ old then { s with plk := { s.plk with series := false } }
  else s

/-- R423, R424, R453: setting i is written with v: at once, or into its pending buffer. -/
def State.putSetting (s : State) (i : Nat) (v : Int) : State :=
  match Params.at i with
  | none => s
  | some p =>
    if i = P.phmPeriod then s.putPeriod v.toNat
    else match boundOf i p.bnd with
      | none => ({ s with dict := s.dict.setWork i v }).settingDone i v (s.par i)
      | some b => { s with dict := s.dict.buffer { idx := i, val := v, at_ := b } }

/-- R446: the value that a 32-bit code gives setting i. -/
def settingVal (i w : Nat) : Int := match Params.at i with | some p => if p.signed then dec 32 w else (w : Int) | none => 0

/-- R103, R215, R305, R416, R446: ranges that are not a plain interval; the first byte of an address tells a unicast from a multicast one.
-/
def State.rangeMore (s : State) (i : Nat) (v : Int) : Bool :=
  if i = P.fsqAlign then decide (v < s.frameNs)
  else if i = P.ctlOuterDiv then v == 1 || v == 2 || v == 4 || v == 8 || v == 16 || v == 32
  else if i = P.estBalOff then decide (v ≤ s.setting P.estBalOn)
  else if P.plkAllow ≤ i ∧ i < P.plkAllow + 40 ∧ (i - P.plkAllow) % 5 = 4 then decide (v ≤ 128)
  else if i = P.plkIp4A ∨ i = P.plkIp4A + 1 then v == 0 || (decide (2 ^ 24 ≤ v) && decide (v < 224 * 2 ^ 24))
  else if i = P.plkIp6A ∨ i = P.plkIp6A + 4 then v % 256 != 255
  else if i = P.plkDispMc4 then v == 0 || (decide (224 * 2 ^ 24 ≤ v) && decide (v < 240 * 2 ^ 24))
  else if i = P.plkDispMc6 then v == 0 || v % 256 == 255
  else true

/-- R446: v is in the range of setting i. -/
def State.settingOk (s : State) (i : Nat) (v : Int) : Bool := inRange i v && s.rangeMore i v

/-! The defaults (R456, R469). -/

/-- The settings that do not stand at their defaults, or wait for a value. -/
def State.changedSettings (s : State) : List Nat := s.dict.work.map (·.1) ++ s.dict.pend.map (·.idx)

/-- R456: setting i takes its default, at its boundary. -/
def State.toDefault (s : State) (i : Nat) : State := match Params.at i with | some p => s.putSetting i p.dflt | none => s

/-- R456: CMD_SETTINGS_DEFAULT: the defaults into the working settings. -/
def State.settingsDefault (s : State) : State := s.changedSettings.foldl State.toDefault s

/-- R469: the indices that keep their values: PLK and LMP but PLK_DISP_ID, and PRL_MODE. -/
def keptIndex (i : Nat) : Bool := (decide (0x350 ≤ i) && decide (i < 0x3C0) && i != P.plkDispId) || i == P.prlMode

/-- R469: setting i takes its default; the TV fields PHM_EN_MASK and SYS_CO_PERMIT keep their values. -/
def State.toNewFormat (s : State) (i : Nat) : State :=
  if keptIndex i then s
  else if i = P.phmEnMask then { s with dict := s.dict.setWork i 0 }
  else s.toDefault i

/-- R469: the defaults of a new settings format are loaded. -/
def State.loadNewFormat (s : State) : State :=
  let s1 := s.changedSettings.foldl State.toNewFormat s
  { s1 with upd := { s1.upd with defaultsDue := false } }

/-- R469: they wait for the end of the stop. -/
def State.formatStep (s : State) : State := if s.upd.defaultsDue && !s.dispatching then s.loadNewFormat else s

end Sys2Proof.Machine
end

