-- ==== Sys2Proof/Machine/States.lean ====
section
/-! DEFINITION. The state machine of R50 with its event classes (R54, R519), and what completes a precharge, a tracking start or
a stop (R50, R269, R271). -/

namespace Sys2Proof.Machine

/-! Logins (R355). -/

/-- R355: a login ends when the state leaves STANDBY and ISOLATED. -/
def State.loginState (s : State) : State :=
  if s.eff == .standby || s.eff == .isolated then s else { s with sag := { s.sag with login := none } }

/-! The rows of R50. -/

/-- R50, R331: ISOLATED is entered; a maintenance session is over with it (R51), as is an update. -/
def State.toIsolated (s : State) : State :=
  let s1 := (s.updDisturbed).wantNone
  { s1 with sys := { s1.sys with openPending := false, prechgDone := false } }.enter .isolated .isolated

/-- R50: STANDBY is entered with every contactor requested open. -/
def State.toStandby (s : State) : State :=
  let s1 := ((s.gatesLow).trkIdle).wantNone
  ({ s1 with sys := { s1.sys with openPending := false, prechgDone := false } }).degStop.enterEff .standby

/-- R50: CONNECTED is entered. -/
def State.toConnected (s : State) : State := s.enterEff .connected

/-- R50, R344: DEGRADED is entered from the effective state, which becomes its origin (R47). -/
def State.toDegraded (s : State) : State :=
  let d := s.eff == .dispatch
  ({ s with sys := { s.sys with originDisp := d } }).degStart.enterEff .degraded

/-- R50, R344: every degraded-class fault has cleared: back to the origin. -/
def State.fromDegraded (s : State) : State :=
  (s.degStop).enterEff (if s.sys.originDisp then .dispatch else .connected)

/-- R271: the stop ends: gate lines low, TRK idle. -/
def State.stopDone (s : State) : State := (s.gatesLow).trkIdle

/-- R50: MAINTENANCE is entered; its base is the present state. PILOT is kept (R473). -/
def State.toMaintenance (s : State) : State :=
  if s.sys.st = .pilot ∨ s.sys.st = .maintenance then s else s.enter .maintenance s.sys.st

/-- R50, R60: the state in which SELFTEST ends without a latch. -/
def State.afterTest (s : State) (owned : Bool) : State :=
  if owned then s.enter .pilot .pilot else s.enter .standby .standby

/-- R50, R66, R69: the states in which a module reset is accepted; a shutdown sequence under way runs to its end instead. -/
def State.mayReset (s : State) : Bool :=
  (s.sys.st == .standby || s.sys.st == .isolated || s.sys.st == .pilot) && s.sys.boPhase == .none

/-- R50: the transition that event e causes in the present state; none where the table has no row. The integrators are reset as a tracking
start ends in DISPATCH (R292). (Log entries 36, DEDUCED; 103, DEDUCED.) -/
def State.row (s : State) (e : Ev) : Option State :=
  match e with
  | .brownOut => some s.updDisturbed
  | .isolation =>
    if s.sag.latch && s.sys.st != .isolated && s.sys.st != .off && s.sys.st != .boot then some s.toIsolated else none
  | .ownLost =>
    if s.sys.st == .standby || s.sys.st == .connected || s.sys.st == .dispatch || s.sys.st == .degraded then
      some ((s.degStop.wantNone).enter .pilot .pilot)
    else none
  | .ownGained st od =>
    if s.sys.st == .pilot then
      let s1 := { s with sys := { s.sys with originDisp := od } }
      let s2 := { s1.updDisturbed with ctl := { s1.updDisturbed.ctl with degTerm := decide (st = OpState.degraded) } }
      some (s2.enter st st)
    else none
  | .prechargeDone =>
    if s.sys.st == .precharge && s.aux 0 then
      some (({ s with sys := { s.sys with prechgDone := false } }.wantCo 2 false).enter .connected .connected)
    else none
  | .prechargeTimeout =>
    if s.sys.st == .precharge then
      let s1 := s.logPost 0 0x0107 3 (le4 (encSat 32 (s.pins.vPre - s.pins.vStr)))
      some ({ s1 with sys := { s1.sys with coolDown := true } }).toStandby
    else none
  | .trackingEnded =>
    if s.eff == .connected && s.aux 3 then some (({ s with ctl := s.ctl.resetLoops }).enterEff .dispatch) else none
  | .stopEnded =>
    if s.eff == .dispatch then some ((s.stopDone).enterEff .connected)
    else if s.eff == .degraded && s.sys.originDisp then
      let s1 := s.stopDone
      some ({ s1 with sys := { s1.sys with originDisp := false } }).leaveSetpoints
    else none
  | .openEnded => if s.eff == .dispatch || s.eff == .degraded then some s.toStandby else none
  | .selftestEnded crit owned =>
    if s.sys.st == .selftest then
      some (if s.sag.latch || crit.isSome then s.toIsolated else s.afterTest owned)
    else none
  | .sessionEnded =>
    if s.sys.st == .maintenance && !s.upd.isOpen then some (s.enter s.sys.base s.sys.base) else none
  | .updateEnded =>
    if s.sys.st == .maintenance && !s.upd.isOpen then some (s.enter s.sys.base s.sys.base) else none
  | .spyFirstWrite =>
    if s.sys.st == .standby || s.sys.st == .connected || s.sys.st == .dispatch || s.sys.st == .degraded || s.sys.st == .isolated then
      some s.toMaintenance
    else none
  | .spyReset => if s.mayReset then some { s with spy := { s.spy with status := "OK" }, sys := { s.sys with resetDue := 4 } } else none

/-- R54: the class of an event. -/
def Ev.cls : Ev → Nat
  | .brownOut => 1
  | .isolation => 2
  | .ownLost | .ownGained _ _ => 3
  | .spyFirstWrite | .spyReset => 6
  | _ => 5

/-- R54: an event that no longer has a row is dropped; a kept command of the monitor is answered so. -/
def State.dropEv (s : State) (e : Ev) : State :=
  match e with
  | .spyReset => { s with spy := { s.spy with status := "E STATE" } }
  | _ => s

/-- R54, R519: the events of class c in order: one that has no row is dropped, the first that has one is taken, and the rest
of its class is kept. -/
def State.takeClass (s : State) (c : Nat) : List Ev → State × List Ev
  | [] => (s, [])
  | e :: l =>
    if e.cls ≠ c then
      let r := State.takeClass s c l
      (r.1, e :: r.2)
    else match s.row e with
      | some t => (t, l)
      | none => State.takeClass (s.dropEv e) c l

/-- R54: one class of waiting events. (Log entry 22, DEDUCED.) -/
def State.runClass (s : State) (c : Nat) : State :=
  let r := s.takeClass c s.sys.events
  -- events that a transition posts join those kept
  let new := r.1.sys.events.drop s.sys.events.length
  { r.1 with sys := { r.1.sys with events := r.2 ++ new } }

/-- R343, R50: class 4: the level of the degraded-class faults. (Log entry 22, DEDUCED.) -/
def State.runDegraded (s : State) : State :=
  if (s.eff == .connected || s.eff == .dispatch) && s.degAny then s.toDegraded
  else if s.eff == .degraded && !s.degAny then s.fromDegraded
  else s

/-- R50, R54: no event is taken in OFF, and the classes wait for the MGP while it is away, but for those that the saggar takes itself
(R55) and a switchover, which runs without the MGP (R374). (Log entries 22, DEDUCED; 23, DEDUCED.) -/
def State.stateMachine (s : State) : State :=
  if s.sys.st = .off then s
  else if s.sys.mgpAway then (((s.runClass 2).runClass 3).runDegraded).loginState
  else
    let s1 := ((s.runClass 1).runClass 2).runClass 3
    let s2 := (s1.runDegraded).runClass 5
    let s3 := s2.runClass 6
    let s4 := s3.loginState.formatStep
    { s4 with sys := { s4.sys with cmdUsed := decide (s3.sys.st ≠ s2.sys.st) } }

/-- R343, R50: class 4 has a row at the next tick. -/
def State.degradedWaits (s : State) : Bool :=
  ((s.eff == .connected || s.eff == .dispatch) && s.degAny) || (s.eff == .degraded && !s.degAny)

/-- R54, R519: a host command that moves the state may be taken now: no event of classes 1 to 5 waits for the tick, and no host command has
caused a transition since the last one. (Log entry 22, DEDUCED.) -/
def State.settled (s : State) : Bool := s.sys.events.isEmpty && !s.degradedWaits && !s.sys.cmdUsed

/-! Completion commands (R50, R52, R73, R339, R344). -/

/-- R50, R75: the link is within the SYS_PRECHG_DV of this PRECHARGE of the string. -/
def State.linkNear (s : State) : Bool := decide ((absN (s.pins.vPre - s.pins.vStr) : Int) ≤ s.sys.prechgDv)

/-- R50: PRECHARGE_DONE: the link has been within SYS_PRECHG_DV of the string for 20 ms: CO0 is closed. -/
def execPrechargeDone (s : State) : Out :=
  if s.sys.st ≠ .precharge || s.sys.prechgDone || !s.linkNear then .next s
  else .next (({ s with sys := { s.sys with prechgDone := true } }.wantCo 0 true).coilService)

/-- R50: PRECHARGE_TIMEOUT. -/
def execPrechargeTimeout (s : State) : Out :=
  .next (if s.sys.st = .precharge then s.post .prechargeTimeout else s)

/-- R73: PRECHARGE_COOL_EXPIRY. -/
def execPrechargeCoolExpiry (s : State) : Out := .next { s with sys := { s.sys with coolDown := false } }

/-- R344: DEGRADED_TIMER_EXPIRY. (Log entry 61, DESIGN CHOICE.) -/
def execDegradedTimerExpiry (s : State) : Out := .next (if s.sag.degRun then s.isolate 0x12 else s)

/-- R52, R491: a spyhole session ends; its maintenance session ends with it. -/
def State.spyEnd (s : State) : State :=
  let login := match s.sag.login with | some (_, .spyhole) => none | x => x
  ({ s with spy := { s.spy with openS := false, wrote := false, ce := none
                                ceRecs := if s.spy.ce.isSome && !s.spy.ceFired then [] else s.spy.ceRecs }
            sag := { s.sag with login := login } }).post .sessionEnded

/-- R52: MAINT_IDLE_TIMEOUT. (Log entry 61, DESIGN CHOICE.) -/
def execMaintIdleTimeout (s : State) : Out := .next (if s.spy.openS then s.spyEnd else s)

/-- R269: CO3 reads closed at the end of a tracking start: the zero hold begins. -/
def State.trackClosed (s : State) : State :=
  ({ s with phm := { s.phm with trk := .zeroHold, co3Asked := false } }).post .trackingEnded

/-- R271: CO3 reads open at the end of a stop: the gate lines go low, and the state moves on at the tick. -/
def State.stopOpened (s : State) : State := s.gatesLow.post (if s.sys.openPending then .openEnded else .stopEnded)

/-- R339, R50, R269, R271: AUX_CONTACT_CHANGE of COk. -/
def execAuxContactChange (k : Fin 4) (closed : Bool) (s : State) : Out :=
  let s1 := { s with pins := { s.pins with aux := s.pins.aux.set k.val closed } }
  let s2 :=
    if k.val = 3 ∧ closed ∧ s1.phm.trk = .co3Req then s1.trackClosed
    else if k.val = 3 ∧ !closed ∧ s1.phm.trk = .stopping ∧ s1.phm.co3Drop then s1.stopOpened
    else if k.val = 0 ∧ closed ∧ s1.sys.st = .precharge ∧ s1.sys.prechgDone then s1.post .prechargeDone
    else s1
  .next s2.coilService

end Sys2Proof.Machine
end

