-- ==== Sys2Proof/Machine/Text.lean ====
section
/-! DEFINITION. The text that the spyhole monitor prints (R7, R437, R490, R493). -/

namespace Sys2Proof.Machine

/-- The hexadecimal digit d. -/
def hexDigit (d : Nat) : Char := Char.ofNat (if d < 10 then 48 + d else 87 + d)

/-- The lowest d hexadecimal digits of n, highest first, with letters of lower case. -/
def hexLow : Nat → Nat → List Char
  | 0, _ => []
  | d + 1, n => hexLow d (n / 16) ++ [hexDigit (n % 16)]

/-- The digits with letters of upper case, as R7 writes them. -/
def hexUp (d n : Nat) : List Char := (hexLow d n).map Char.toUpper

/-- R7: an underscore between each group of four digits, counted from the last. -/
def groupFour : List Char → List Char
  | [] => []
  | c :: l => if l.length % 4 = 0 ∧ l ≠ [] then c :: '_' :: groupFour l else c :: groupFour l

/-- R7: a value of d hexadecimal digits. -/
def hexOf (d n : Nat) : String := "0x" ++ String.ofList (groupFour (hexUp d n))

/-- R493: a line of words, each of d digits. -/
def wordLine (d : Nat) (l : List Nat) : String := String.intercalate " " (l.map (hexOf d))

/-- R123: the tag of a key, its bytes in order. -/
def tagText (b : List Nat) : String :=
  let c := b.map (hexLow 2)
  String.ofList ((c.take 2).flatten ++ ['-'] ++ (c.drop 2).flatten)

/-- R437: the name of a reply code. -/
def rcName (rc : Nat) : String :=
  match rc with
  | 0 => "OK" | 1 => "BUSY" | 2 => "NOT_IN_STATE" | 3 => "INHIBITED" | 4 => "DENIED" | 5 => "LOCKED" | 6 => "RANGE"
  | 7 => "LOG_FULL" | 8 => "NOT_FOUND" | 9 => "FAILED" | _ => "CONFLICT"

end Sys2Proof.Machine
end

