-- ==== Sys2Proof/Machine/Tick.lean ====
section
/-! DEFINITION. The housekeeping tick (R18): counters, triple-vote correction, shadow copies, the saggar's protection cycle
(R326, R330, R337), the straps, the engine's speed, the thermal manager and the state machine. -/

namespace Sys2Proof.Machine

/-! Triple-vote correction (R425, R426). -/

/-- R425: one correction, of the TV word at byte address a. -/
def Sys.fixed (y : Sys) (a : Nat) : Sys := { y with tvFix := incSat 16 y.tvFix, tvLast := a }

/-- R425: the TV registers with their byte addresses, ascending, and the copies in each. -/
def State.tvWords (s : State) : List (Nat × Tv) :=
  [(0x68, s.sys.coPermit), (0x4400, s.fsq.next), (0x8000, s.ctl.mode), (0x8160, nth s.ctl.hostLim 0 {}),
   (0x8164, nth s.ctl.hostLim 1 {}), (0x8400, s.phm.enMask)] ++
  (indexed s.sag.pmir).map (fun kx => (0x3C100 + 4 * kx.1, kx.2))

/-- R425: every TV register takes its voted value in all three copies; each that disagreed is counted. (Log entry 38, DEDUCED.) -/
def State.tvCorrect (s : State) : State :=
  let y := (s.tvWords.filter (fun (x : Nat × Tv) => !x.2.agree)).foldl (fun (y : Sys) x => y.fixed x.1) s.sys
  { s with sys := { y with coPermit := Tv.put s.sys.coPermit.vote }
           fsq := { s.fsq with next := Tv.put s.fsq.next.vote }
           ctl := { s.ctl with mode := Tv.put s.ctl.mode.vote, hostLim := s.ctl.hostLim.map (fun t => Tv.put t.vote) }
           phm := { s.phm with enMask := Tv.put s.phm.enMask.vote }
           sag := { s.sag with pmir := s.sag.pmir.map (fun t => Tv.put t.vote) } }

/-- R426: at every tick the saggar rewrites each mirror word whose vote differs from its configuration. -/
def State.mirrorCorrect (s : State) : State :=
  let want := mirrorOf s.sag.cfg
  let bad := (List.range 30).filter (fun j => nth s.sag.pmir j {} != nth want j {})
  { s with sys := bad.foldl (fun y j => y.fixed (0x3C100 + 4 * j)) s.sys, sag := { s.sag with pmir := want } }

/-! The protection cycle (R326 to R337). -/

/-- R334: a contactor is commanded closed: PRECHARGE onward, or a pilot whose own paths are held. -/
def State.closedCommand (s : State) : Bool :=
  s.eff == .precharge || s.eff == .connected || s.eff == .dispatch || s.eff == .degraded ||
  (s.sys.st == .pilot && s.sag.coil.any id)

/-- R328, R330, R334, R342: the isolation causes that the cycle finds, lowest code first. -/
def State.cycleCauses (s : State) : List Nat :=
  let n := s.safN P.sagHardN
  (if s.sag.ovRun.any (n ≤ ·) then [3] else []) ++ (if s.sag.uvRun.any (n ≤ ·) then [4] else []) ++
  (if s.sag.otRun.any (2 ≤ ·) then [7] else []) ++ (if s.sag.otPhRun.any (2 ≤ ·) then [8] else []) ++
  (if s.sag.ilkDone && !s.pins.ilkClosed then [9] else []) ++
  (if s.closedCommand && decide (s.safN P.sagLostMax < s.lostCount) then [0x13] else [])

/-- R332: isolate for a cause that stands now, once for as long as it stands recorded. -/
def State.raise (s : State) (c : Nat) : State := if s.sag.latch && s.sag.causes.contains c then s else s.sagIsolate c

/-- R337: some group that is not LOST has T_used outside lo to hi. -/
def State.tOutside (s : State) (lo hi : Int) : Bool :=
  (indexed s.sag.tUsed).any (fun (gt : Nat × Int) => !(s.gr gt.1).lost && (decide (gt.2 < lo) || decide (hi < gt.2)))

/-- R337: one direction: forbidden now, and the ticks for which every group has been back inside by THM_HYST. -/
def State.sf4Dir (s : State) (was : Bool) (back : Nat) (lo hi : Int) : Bool × Nat :=
  let h := s.par P.thmHyst
  if decide (8192 < s.sag.tUsedAge) || s.tOutside lo hi then (true, 0)
  else if s.tOutside (lo + h) (hi - h) then (was, 0)
  else (was && decide (back + 1 < 81920), back + 1)

/-- R337: the mean shunt current over the last SAG_SF4_T, once that much has been seen. -/
def State.sf4Mean (s : State) : Option Int :=
  let n := s.safN P.sagSf4T * 8192 / 1000
  if n = 0 ∨ s.sag.shuntHist.length < n then none
  else some (divFree 94 ((s.sag.shuntHist.take n).foldl (· + ·) 0) n)

/-- R337: SF4 at a cycle. -/
def State.sf4 (s : State) : State :=
  let c := s.sf4Dir s.sag.chgForbid s.sag.backTicks.1 (s.saf P.thmChgTmin) (s.saf P.thmChgTmax)
  let d := s.sf4Dir s.sag.disForbid s.sag.backTicks.2 (s.saf P.thmDisTmin) (s.saf P.thmDisTmax)
  let s1 := { s with sag := { s.sag with chgForbid := c.1, disForbid := d.1, backTicks := (c.2, d.2) } }
  match s1.sf4Mean with
  | none => s1
  | some m =>
    if (c.1 && decide (m < -(s1.saf P.sagSf4I))) || (d.1 && decide (s1.saf P.sagSf4I < m)) then s1.raise 0x14 else s1

/-- R328: a diagnostic read every tick. -/
def State.tickDiag (s : State) (k : Nat) (bad : Bool) : State :=
  if bad then (if s.sag.diagBad.contains k then s else s.diagFail k) else s.diag k false

/-- R328: the ticks in a row for which the two loop readings differ by more than 1 mA, and the two interlock comparators disagree. -/
def Sag.apartNow (g : Sag) (m : TickIn) : Nat × Nat :=
  (if 1000 < ((m.loopUa : Int) - m.loop2Ua).natAbs then min 82 (g.apart.1 + 1) else 0,
   if m.ilk.1 != m.ilk.2 then min 82 (g.apart.2 + 1) else 0)

/-- R326, R327, R333: one protection cycle, its causes lowest code first, the diagnostics (0x11) among them; a cycle that does not
complete decides nothing. (Log entry 59, DEDUCED.) -/
def State.protect (s : State) (m : TickIn) : State :=
  let hist := (m.shunt :: s.sag.shuntHist).take (s.safN P.sagSf4T * 8192 / 1000)
  let age := if s.up 11 then 0 else s.sag.tUsedAge + 1
  let s0 := { s with sag := { s.sag with shuntHist := hist, tUsedAge := age, tUsed := if s.up 11 then s.thm.tUsed else s.sag.tUsed } }
  if !s0.sagLive then s0
  else if !m.cycleOk then { s0 with sag := { s0.sag with goodCycles := 0 } }
  else
    let far := s0.sag.apartNow m
    let s1 := { s0 with sag := { s0.sag with goodCycles := min 8192 (s0.sag.goodCycles + 1), lost := min 63 s0.lostCount, apart := far } }
    let l := s1.cycleCauses
    let s2 := (((l.filter (· < 0x11)).foldl State.raise s1).diag 0 false)
    let s3 := (s2.tickDiag 4 (decide (82 ≤ far.1))).tickDiag 5 (decide (82 ≤ far.2))
    ((l.filter (0x11 < ·)).foldl State.raise s3).sf4

/-! Other work of a tick. -/

/-- R268, R242, R325, R337, R342: what the tick reads; the interlock where its two comparators agree. -/
def State.tickPins (s : State) (m : TickIn) : State :=
  { s with pins := { s.pins with vStr := m.vStr, vBus := m.vBus, vPre := m.vPre, vLink := m.vLink, shunt := m.shunt,
                                 loopUa := m.loopUa, hid := m.hid, ilkClosed := if m.ilk.1 = m.ilk.2 then m.ilk.1 else s.pins.ilkClosed }
           sag := { s.sag with ilkOpened := s.sag.ilkOpened || (!m.ilk.1 && !m.ilk.2) } }

/-- R343: the degraded-class faults that other blocks raise are levels, which the saggar presents as they stand: 0 to 6, 8 and 9. -/
def State.degLevels (s : State) : State :=
  if !s.sagLive then s
  else
    let s1 := ((((s.degLost).degWire).setDeg 2 s.mea.sumWarn).setDeg 3 s.ctl.isumWarn).degPhase
    (((s1.setDeg 5 s.ctl.ovrPersist).degThermal).setDeg 8 s.sys.mgpLost).degSession

/-- R364, R369: the ticks since the last valid heartbeat, and the end of a reserve test, at which the loop regulator takes its set point
again. -/
def State.pairTick (s : State) : State :=
  let reg := if s.prl.pos = 0 then 10000 else 9500
  { s with prl := { s.prl with hbQuiet := if s.linkUp then min 41 (s.prl.hbQuiet + 1) else 0, resLeft := s.prl.resLeft - 1
                               regUa := if s.prl.resLeft = 1 then reg else s.prl.regUa } }

/-- R18, R430: the counts of a tick; the operating seconds run while PD0 is powered. -/
def State.tickCounts (s : State) : State :=
  let c := s.sys.clock + 1
  let sec := nth s.sys.pd 0 false && c % 8192 == 0
  let t := (if c % 8192 = 0 then s.applyAt (.on .second) else s).applyAt (.on .tick)
  { t with sys := { s.sys with tick := inc32 s.sys.tick, clock := c, slot := (s.sys.slot + 1) % 8192
                               opsec := if sec then inc32 s.sys.opsec else s.sys.opsec }
           lmp := { s.lmp with tick16 := s.lmp.tick16 + tick16 } }

/-- R302: CTL_SPEED, with a WARNING at most once a minute while it is below 46 %. (Log entry 40, DEDUCED.) -/
def State.speedTick (s : State) (pct : Nat) : State :=
  if !s.up 3 then s
  else
    let s1 := { s with ctl := { s.ctl with speed := pct } }
    let ago := s.ctl.slowTicks.map (· + 1)
    let due := match ago with | none => true | some t => decide (491520 ≤ t)
    if decide (pct < 46) && due then
      ({ s1 with ctl := { s1.ctl with slowTicks := some 0 } }).logPost 0 0x0801 2 (le2 (s1.recentMisses s1.lmp.time).length ++ [pct % 256])
    else { s1 with ctl := { s1.ctl with slowTicks := if due then none else ago } }

/-- R344: the degraded timer runs. -/
def State.degTick (s : State) : State :=
  if s.sag.degRun then { s with sag := { s.sag with degRunT := s.sag.degRunT + tick16 } } else s

/-- R242: the straps, read on every tick from SELFTEST on. -/
def State.strapTick (s : State) : State := if s.sys.st = .boot then s else s.readStraps

/-- R140: the search of every node goes on by the time of a tick. -/
def State.searchTick (s : State) : State := { s with nodes := s.nodes.map Dn8.searchTick }

/-- R18: what every tick does outside OFF, up to the state machine. -/
def State.tickWork (s : State) (m : TickIn) : State :=
  let s1 := ((s.tickCounts).latchShadows).tvCorrect
  let s0 := ((s1.tickPins m).thmTick).protect m
  let s2 := ((if s0.sagLive then s0.mirrorCorrect else s0).degTick).searchTick
  ((((s2.strapTick).speedTick m.speed).pairTick).degLevels).stateMachine

/-- R54, R66, R69: the module reset of a command that has been answered: it was taken before every event that has arisen since, and only a
shutdown sequence goes before it. -/
def State.resetGoes (s : State) : Bool := s.sys.resetDue != 0 && s.sys.boPhase == .none

/-- R18: HOUSEKEEPING_TICK. -/
def execHousekeepingTick (m : TickIn) (s : State) : Out :=
  if s.sys.st = .off then .next s.tickCounts
  else if s.resetGoes then .next (s.tickCounts.tvCorrect.moduleReset s.sys.resetDue)
  else .next (s.tickWork m).coilService

end Sys2Proof.Machine
end

