-- ==== Sys2Proof/Machine/Time.lean ====
section
/-! DEFINITION. The lamplighter (R407 to R414): PTP messages, the time state, the servo, the second mark, the time extension and
the host triggers. -/

namespace Sys2Proof.Machine

/-- The PTP port of a plant port (R407). -/
def State.ptp (s : State) (p : PortId) : PtpPort := nth s.lmp.ports p.idx {}

/-- Change the PTP port of a plant port. -/
def State.modPtp (s : State) (p : PortId) (f : PtpPort → PtpPort) : State :=
  { s with lmp := { s.lmp with ports := s.lmp.ports.modify p.idx f } }

/-- R408: a transition of the time state, recorded and sent. -/
def State.timeTo (s : State) (st : LmpSt) : State :=
  if s.lmp.st = st then s
  else
    let s1 := { s with lmp := { s.lmp with st := st, good := 0, moved := false } }
    let sev := if st = .holdover then 2 else 1
    (s1.logPost 3 0x0D01 sev [st.code, s.lmp.port]).attn 0xA sev [st.code, s.lmp.port]

/-! Selection of the time source (R407). -/

/-- R407: the better of two data sets: the lower rank, the first where they are equal. -/
def Announced.better (x y : Announced) : Announced := if y.rank < x.rank then y else x

/-- R407: the best data set announced on a port. -/
def PtpPort.best (x : PtpPort) : Option Announced :=
  match x.heard with
  | [] => none
  | a :: as => some (as.foldl Announced.better a)

/-- The port with the best data set: the lower rank, port A where they are equal; none where no Announce stands. (Log entry 39, PRESUMED.)
-/
def State.bestPort (s : State) : Option PortId :=
  match (s.ptp .a).best, (s.ptp .b).best with
  | none, none => none
  | some _, none => some .a
  | none, some _ => some .b
  | some x, some y => some (if y.rank < x.rank then .b else .a)

/-- R407: the state a port takes when `best` is the time source. (Log entry 39, PRESUMED.) -/
def PtpPort.selected (x : PtpPort) (me : PortId) (best : Option PortId) : PtpPort :=
  if x.st = .faulty ∨ x.st = .disabled ∨ x.st = .initializing then x
  else if best = some me then { x with st := if x.st = .timeReceiver then .timeReceiver else .uncalibrated }
  else { x with st := if x.best.isSome then .passive else .listening, syncWait := none }

/-- R407, R408: the source is chosen again; in LOCKED the first offset after a move, to the other port or to another time transmitter,
decides. -/
def State.reselect (s : State) : State :=
  let best := s.bestPort
  let ports := [(s.ptp .a).selected .a best, (s.ptp .b).selected .b best]
  match best with
  | none => { s with lmp := { s.lmp with ports := ports } }
  | some p =>
    let a := (s.ptp p).best.getD { sender := 0, rank := 0, gm := 0 }
    let moved := s.lmp.port != p.idx || s.lmp.src != a.sender
    { s with lmp := { s.lmp with ports := ports, port := p.idx, gmId := a.gm, src := a.sender,
                                 moved := s.lmp.moved || (moved && s.lmp.st == .locked) } }

/-- R407: the message belongs to the module's domain and came over the transport of its port. -/
def State.ptpMine (s : State) (m : PtpMsg) : Bool :=
  s.up 9 && decide (m.domain = s.parN P.lmpPtpDomain) && m.l2 == (s.par (P.lmpPtpTransportA + m.port.idx) == 1)

/-- R407: a data set takes the place of the one that its sender announced before. -/
def PtpPort.announced (x : PtpPort) (a : Announced) : PtpPort := { x with heard := x.heard.filter (fun y => y.sender != a.sender) ++ [a] }

/-- R407: the best data set of a port is forgotten. -/
def PtpPort.forget (x : PtpPort) : PtpPort :=
  match x.best with
  | none => x
  | some a => { x with heard := x.heard.filter (fun y => y.sender != a.sender), syncWait := none }

/-- R407: PTP_ANNOUNCE_RX: the data set announced, by rank (lower is better) and grandmaster. (Log entry 39, PRESUMED.) -/
def execPtpAnnounceRx (m : PtpMsg) (rank : Nat) (gm : BitVec 64) (s : State) : Out :=
  .next (if s.ptpMine m then (s.modPtp m.port (fun x => x.announced { sender := m.sender, rank := rank, gm := gm.toNat })).reselect else s)

/-- R407: ANNOUNCE_TIMEOUT of a port: the data set of its time transmitter goes. (Log entry 39, PRESUMED.) -/
def execAnnounceTimeout (p : PortId) (s : State) : Out :=
  .next (s.modPtp p (fun x => { x.forget with lastSync := none })).reselect

/-! Timestamps and delay (R407, R409). -/

/-- R409: an ingress timestamp at the fibre connector, ps. -/
def State.ingressPs (s : State) (p : PortId) (t : Int) : Int := 1000 * t - nth s.lmp.corr (2 * p.idx) 0

/-- R409: an egress timestamp at the fibre connector, ps. -/
def State.egressPs (s : State) (p : PortId) (t : Int) : Int := 1000 * t + nth s.lmp.corr (2 * p.idx + 1) 0

/-- R10: the difference of two times in ns, each known modulo 2³². -/
def wrap32 (x : Int) : Int := dec 32 (enc 32 x)

/-- R10: the difference of two times in ps, each known modulo 2³² ns. -/
def wrapPs (x : Int) : Int := x - 4294967296000 * ((x + 2147483648000) / 4294967296000)

/-- R407: the port works peer-to-peer. -/
def State.peer (s : State) (p : PortId) : Bool := s.par (P.lmpPtpDelayA + p.idx) == 1

/-- R407, R409: PTP_DELAY_REQ_SEND: a Delay_Req or Pdelay_Req with its egress time. -/
def execPtpDelayReqSend (p : PortId) (egress : Int) (s : State) : Out :=
  .next (if s.up 9 then s.modPtp p (fun x =>
    { x with reqWait := some (x.reqSeq, s.egressPs p egress), reqSeq := (x.reqSeq + 1) % 65536 }) else s)

/-- R407: PTP_PDELAY_REQ_RX: answered in peer-to-peer mode. -/
def execPtpPdelayReqRx (m : PtpMsg) (s : State) : Out :=
  .next (if s.ptpMine m && s.peer m.port then s.modPtp m.port (fun x => { x with answered := m.seq }) else s)

/-- R407: the mean path delay, ps, from the times of a delay exchange: `egress` when the request left the connector, ps, `rx` when the
partner received it, `tx` when a peer sent its response, `ingress` when that response came. -/
def State.meanDelay (s : State) (p : PortId) (egress rx tx ingress corr : Int) : Option Int :=
  if s.peer p then
    some (divFree 95 (wrapPs (s.ingressPs p ingress - egress) - 1000 * (tx - rx) - 1000 * corr) 2)
  else match (s.ptp p).lastSync with
    | none => none
    | some (origin, at_) =>
      some (divFree 95 (wrapPs (at_ - 1000 * origin) + wrapPs (1000 * rx - egress) - 1000 * corr) 2)

/-- R407, R409: PTP_DELAY_RESP_RX: the path delay, corrected by the port's asymmetry. -/
def execPtpDelayRespRx (m : PtpMsg) (rx tx ingress : Int) (s : State) : Out :=
  if !s.ptpMine m then .next s
  else match (s.ptp m.port).reqWait with
    | none => .next s
    | some (q, egress) =>
      if q ≠ m.seq then .next s
      else match s.meanDelay m.port egress rx tx ingress m.corr with
        | none => .next s
        | some d =>
          let s1 := s.modPtp m.port (fun x => { x with reqWait := none, delay := d + s.par (P.lmpAsymA + m.port.idx) })
          .next (if s.lmp.port = m.port.idx then { s1 with lmp := { s1.lmp with mpd := divFree 96 d 1000 } } else s1)

/-! The servo and the time state (R408, R410 to R412). -/

/-- R411: the rate asked for, held to LMP_SLEW_MAX and to 0.05 ppm per ms of the `ms` since the last change. (Log entry 20, DESIGN
CHOICE.) -/
def State.servo (s : State) (off : Int) (ms : Nat) : State :=
  let lim := 1000000 * s.par P.lmpSlewMax
  let step : Int := 50000 * ms
  let want := clampI (s.lmp.rate - step) (s.lmp.rate + step) (Config.servoRate off s.fresh)
  let r := clampI (-lim) lim want
  { s with fresh := s.fresh + 1, lmp := { s.lmp with rate := r, slewing := decide (r.natAbs = lim.natAbs) } }

/-- R412: SEC_MARK is loaded at the first entry to LOCKED. -/
def State.loadSecMark (s : State) : State :=
  if s.lmp.secValid then s
  else match s.lmp.secAt with
    | some t => { s with lmp := { s.lmp with secMark := t, secValid := true } }
    | none => s

/-- R408: an offset of at most 1 µs. -/
def offNear (off : Int) : Bool := decide (off.natAbs ≤ 1000)

/-- R408, R411: an offset is known: the servo and the time state take it. -/
def State.takeOffset (s0 : State) (off : Int) (ms : Nat) : State :=
  let s := ({ s0 with lmp := { s0.lmp with offset := off } }.applyAt (.on .offset)).servo off ms
  match s.lmp.st with
  | .freerun => s.timeTo .acquiring
  | .holdover => s.timeTo .acquiring
  | .acquiring =>
    if decide (s.par P.lmpStepTh < off.natAbs) && s.stepState then { s with lmp := { s.lmp with step := some (-off), good := 0 } }
    else if !offNear off then { s with lmp := { s.lmp with good := 0 } }
    else if 8 ≤ s.lmp.good + 1 then (s.loadSecMark).timeTo .locked
    else { s with lmp := { s.lmp with good := s.lmp.good + 1 } }
  | .locked =>
    if s.lmp.moved then
      if offNear off then { s with lmp := { s.lmp with moved := false } } else s.timeTo .acquiring
    else s

/-- R410, R412: the time-base value at which the next PTP second begins, from a PTP time in ns. -/
def nextSecond (ptp : Int) : Nat := enc 32 ((ptp / 1000000000 + 1) * 1000000000)

/-- R408, R409: a Sync with its origin time is complete; `ingress` is its time at the connector, ps. -/
def State.syncDone (s : State) (m : PtpMsg) (ingress origin : Int) (ms : Nat) : State :=
  let o := origin + m.corr
  let d := (s.ptp m.port).delay
  let off := divFree 97 (wrapPs (ingress - 1000 * o) - d) 1000
  let s1 := s.modPtp m.port (fun x => { x with st := .timeReceiver, syncWait := none, lastSync := some (o, ingress) })
  { s1 with lmp := { s1.lmp with secAt := some (nextSecond (o + divFree 98 d 1000)) } }.takeOffset off ms

/-- R407: the message comes from the time source: its port is, or is becoming, the time receiver. -/
def State.isSource (s : State) (m : PtpMsg) : Bool :=
  decide (s.lmp.port = m.port.idx) && m.sender == s.lmp.src && ((s.ptp m.port).st == .uncalibrated || (s.ptp m.port).st == .timeReceiver)

/-- R407, R408: PTP_SYNC_RX with its ingress time and, from a one-step sender, its origin time; `ms` since the last change of rate. (Log
entry 39, PRESUMED.) -/
def execPtpSyncRx (m : PtpMsg) (logInterval : Int) (ingress : Int) (origin : Option Int) (ms : Nat) (s : State) : Out :=
  if !s.ptpMine m || !s.isSource m || logInterval < -7 || 0 < logInterval then .next s
  else match origin with
    | some o => .next (s.syncDone m (s.ingressPs m.port ingress) o ms)
    | none => .next (s.modPtp m.port (fun x => { x with syncWait := some (m.seq, s.ingressPs m.port ingress) }))

/-- R407: PTP_FOLLOW_UP_RX: the origin time of a two-step Sync. -/
def execPtpFollowUpRx (m : PtpMsg) (origin : Int) (ms : Nat) (s : State) : Out :=
  if !s.ptpMine m || !s.isSource m then .next s
  else match (s.ptp m.port).syncWait with
    | some (q, t) => .next (if q = m.seq then s.syncDone m t origin ms else s)
    | none => .next s

/-- R408: the time source is lost; where another time transmitter is announced, it becomes the source. -/
def State.sourceLost (s : State) : State :=
  let me : PortId := if s.lmp.port = 0 then .a else .b
  let s1 := s.modPtp me (fun x => { x with st := if x.st = .timeReceiver then .uncalibrated else x.st, lastSync := none, syncWait := none })
  let s2 := s1.modPtp me PtpPort.forget
  if s2.bestPort.isSome then s2.reselect else s1

/-- R408: SYNC_LOSS: no Sync for LMP_LOSS_N intervals from the time source. With no other source, a Sync that it sends again is taken from
it. (Log entry 97, DEDUCED.) -/
def execSyncLoss (s : State) : Out :=
  let t := s.sourceLost
  match s.lmp.st with
  | .acquiring => .next (t.timeTo .freerun)
  | .locked => .next (if t.lmp.src ≠ s.lmp.src ∨ t.lmp.port ≠ s.lmp.port then t else t.timeTo .holdover)
  | _ => .next s

/-- R408: HOLDOVER_EXPIRY. -/
def execHoldoverExpiry (s : State) : Out := .next (if s.lmp.st = .holdover then s.timeTo .freerun else s)

/-- R340: the 8,192-tick second begins anew at the PTP second; the slots that this passes over count as skipped. (Log entry 85, DEDUCED.) -/
def State.slotZero (s : State) : State :=
  let lost := if 2 ≤ s.sys.slot then (List.range 8).filter (fun k => decide (s.sys.slot < coilSlot k s.prl.pos)) else []
  let t := lost.foldl State.slotSkip s
  { t with sys := { t.sys with slot := 0 } }

/-- R340, R412: SEC_MARK_REACHED. -/
def execSecMarkReached (s : State) : Out :=
  .next (if s.lmp.secValid then ({ s with lmp := { s.lmp with secMark := addT s.lmp.secMark 1000000000 } } : State).slotZero else s)

/-- R413: EXT_TIME_UPDATE by the MGP. -/
def execExtTimeUpdate (tb : BitVec 32) (sec : BitVec 48) (s : State) : Out :=
  .next (if s.sys.mgpAway then s
    else { s with lmp := { s.lmp with extTb := tb.toNat, extSec := sec.toNat, extCnt := (s.lmp.extCnt + 1) % 65536 } })

/-! Host triggers and corrections (R409, R414). -/

/-- R414: trigger k has been reached. -/
def State.fire (s : State) (k : Nat) : State :=
  let s1 := { s with lmp := { s.lmp with fired := s.lmp.fired.set k true, armed := s.lmp.armed.set k false } }
  s1.attn 0xB 0 ([k, 0, 0, 0] ++ le4 (nth s.lmp.trig k 0))

/-- R414: LMP_TRIGk: armed with the target written; one that reads as reached fires at once. -/
def execLmpTrig (k : Fin 4) (w : Word) (s : State) : Out :=
  let s1 := { s with lmp := { s.lmp with trig := s.lmp.trig.set k.val w.toNat, armed := s.lmp.armed.set k.val true } }
  s.hostWrite 9 (.next (if reached s.lmp.time w.toNat then s1.fire k.val else s1))

/-- R414: TRIGGER_REACHED. -/
def execTriggerReached (k : Fin 4) (s : State) : Out := .next (if nth s.lmp.armed k.val false then s.fire k.val else s)

/-- R409: LMP_CORR: correction register i (IN_A, EG_A, IN_B, EG_B), kept in MRAM. -/
def execLmpCorr (i : Fin 4) (w : Word) (s : State) : Out :=
  s.hostWrite 9 (.next { s with lmp := { s.lmp with corr := s.lmp.corr.set i.val w.toInt } })

end Sys2Proof.Machine
end

