-- ==== Sys2Proof/Machine/Mailbox.lean ====
section
/-! DEFINITION. The four mailbox channels (R433 to R438): the request and reply layouts, acceptance by state (R72, R439 to R443), and
the turns of the MGP. -/

namespace Sys2Proof.Machine

/-! Channels (R433, R434, R436). -/

/-- Channel c. -/
def State.ch (s : State) (c : Nat) : Chan := nth s.mbx.ch c {}

/-- Change channel c. -/
def State.modCh (s : State) (c : Nat) (f : Chan → Chan) : State := { s with mbx := { s.mbx with ch := s.mbx.ch.modify c f } }

/-- R434: the channel can take a request. -/
def Chan.open (x : Chan) : Bool := x.st == .idle || x.st == .done

/-- R436: the request that a request buffer holds. -/
def requestOf (buf : Mem) : Request :=
  let n := leNat (memGetL buf 4 2)
  { code := leNat (memGetL buf 0 2), tag := leNat (memGetL buf 2 2), len := n, resv := leNat (memGetL buf 6 2)
    params := memGetL buf 8 (min n 1016) }

/-- R436: the bytes of a reply. -/
def replyBytes (code tag rc detail : Nat) (data : List Byte) : List Byte :=
  leBytes 2 code ++ leBytes 2 tag ++ leBytes 2 data.length ++ leBytes 1 rc ++ leBytes 1 0 ++ leBytes 4 detail ++ data

/-- R396, R436: the reply bytes that a reply buffer holds. -/
def replyIn (buf : Mem) : List Byte := memGetL buf 0 (12 + leNat (memGetL buf 4 2))

/-- R123, R353: a request buffer once its request has been taken over: a password or a key does not stay in it. -/
def withoutSecrets (buf : Mem) : Mem := if secretCode (leNat (memGetL buf 0 2)) then memPutL [] 0 (memGetL buf 0 8) else buf

/-- R434: a request in channel c is frozen and QUEUED. -/
def State.accept (s : State) (c : Nat) (src : Src) : State :=
  let s1 := s.modCh c (fun x => { x with st := .queued, src := src, req := some (requestOf x.reqBuf), outcome := none, wasRunning := false
                                         reqBuf := withoutSecrets x.reqBuf })
  { s1 with mbx := { s1.mbx with order := s1.mbx.order ++ [c] } }

/-- R396: a transaction that waits on channel c gets reply r, which is kept. -/
def Session.answered (x : Session) (c : Nat) (r : Reply) : Session :=
  match x.waiting.find? (fun w => w.chan == c) with
  | some w => { x with tid := w.tid, kept := some r, waiting := x.waiting.filter (fun v => v.chan != c) }
  | none => x

/-- R386, R396: every transaction that waits on channel c is answered r, to where it came from. -/
def State.answerWait (s : State) (c : Nat) (r : Reply) : State :=
  let s1 := s.plk.sessions.foldl (fun t y => match y.waiting.find? (fun w => w.chan == c) with
    | some w => t.replyFrom w.port w.net (r.bytes y.ver w.tid y.num)
    | none => t) s
  { s1 with plk := { s1.plk with sessions := s1.plk.sessions.map (·.answered c r) } }

/-- R493, R496: the monitor that waits on channel c prints the reply: its code's name, DETAIL and the data bytes. (Log entry 58, DESIGN
CHOICE.) -/
def Spy.answered (y : Spy) (c rc detail : Nat) (data : List Byte) : Spy :=
  if y.wait = some c then
    let bytes := if data.isEmpty then [] else [wordLine 2 (data.map (fun b : Byte => b.toNat))]
    { y with wait := none, out := [rcName rc, hexOf 8 detail] ++ bytes, status := if rc = 0 then "OK" else "E MBX " ++ rcName rc }
  else y

/-- R434: a reply is posted on channel c: the reply buffer is written whole and DONE_CNT counts it. -/
def State.done (s : State) (c code tag rc detail : Nat) (data : List Byte) : State :=
  let b := replyBytes code tag rc detail data
  let s1 := s.modCh c (fun x => { x with
    st := .done, req := none, repBuf := memPutL [] 0 b, doneCnt := (x.doneCnt + 1) % 65536, outcome := none, wasRunning := false })
  let s2 := s1.answerWait c { type := 4, status := 0, payload := b }
  { s2 with spy := s2.spy.answered c rc detail data }

/-- R439 to R443: the codes marked "long". -/
def longCode (code : Nat) : Bool :=
  code == 0x0109 || code == 0x0201 || code == 0x0404 || code == 0x0503 || code == 0x0802 || code == 0x0903

/-- R434, R437, R438: the reply to the request of channel c; LONG ends with the reply of a long operation. -/
def State.reply (s : State) (c rc detail : Nat) (data : List Byte) : State :=
  match (s.ch c).req with
  | none => s
  | some rq =>
    let ends := longCode rq.code && ((s.ch c).st == .running || (s.ch c).wasRunning)
    let s1 := s.done c rq.code rq.tag rc detail data
    { s1 with mbx := { s1.mbx with long := s1.mbx.long && !ends, order := s1.mbx.order.filter (· != c) } }

/-- R437: OK without data. -/
def State.ok (s : State) (c : Nat) : State := s.reply c 0 0 []

/-- R434: RING on channel c by source src. -/
def State.ring (s : State) (c : Nat) (src : Src) : State :=
  let x := s.ch c
  if !x.open then s
  else if s.mbx.long || s.sys.mgpAway then
    let r := requestOf x.reqBuf
    s.done c r.code r.tag 1 0 []
  else s.accept c src

/-- R434: MBX_RING: a write of 1 to MBX_CTLc.RING. -/
def execMbxRing (c : Fin 4) (src : Src) (s : State) : Out := s.hostWrite 9 (.next (s.ring c.val src))

/-- R434: a word of the request buffer of channel c: stored, or discarded with WR_LOST. -/
def State.bufPut (s : State) (c i w : Nat) : State :=
  if (s.ch c).open then s.modCh c (fun x => { x with reqBuf := memPutL x.reqBuf (4 * i) (leBytes 4 w) })
  else s.modCh c (fun x => { x with wrLost := true })

/-- R434: MBX_BUFFER_WRITE of word i. -/
def execMbxBufferWrite (c : Fin 4) (i : Fin 256) (w : Word) (s : State) : Out := s.hostWrite 9 (.next (s.bufPut c.val i.val w.toNat))

/-! Layouts (R436, R439 to R443). -/

/-- Bytes o to o + n − 1 of the parameters are 0. -/
def zeroAt (p : List Byte) (o n : Nat) : Bool := leAt p o n == 0

/-- R443: a password field at offset o: its length, its bytes, and its form. -/
def pwField (p : List Byte) (o : Nat) : Nat × List Byte :=
  let n := leAt p o 1
  (n, (p.drop (o + 1)).take n)

/-- R443: the field has the form of a password: 6 to 12 bytes, the rest 0x00. -/
def pwLenOk (p : List Byte) (o : Nat) : Bool :=
  let n := leAt p o 1
  decide (6 ≤ n) && decide (n ≤ 12) && zeroAt p (o + 1 + n) (12 - n)

/-- R443: an empty password field. -/
def pwEmpty (p : List Byte) (o : Nat) : Bool := zeroAt p o 13

/-- R358: a safety configuration record sent for staging. -/
def sagRecordOk (r : List Byte) (n : Nat) : Bool :=
  leAt r 0 4 == 0x43474153 && leAt r 4 2 == 1 && leAt r 6 2 == n && zeroAt r 8 8 && r.length == 28 + 8 * n &&
  leAt r (16 + 8 * n) 4 == crc32c (r.take (16 + 8 * n)) && zeroAt r (20 + 8 * n) 8 &&
  (List.range n).all (fun k => zeroAt r (18 + 8 * k) 2)

/-- R439 to R443: the codes of the commands. -/
def knownCode (code : Nat) : Bool :=
  (0x0101 ≤ code && code ≤ 0x010A) || code == 0x0201 || code == 0x0202 || code == 0x0301 || code == 0x0302 ||
  (0x0401 ≤ code && code ≤ 0x0404) || (0x0501 ≤ code && code ≤ 0x0504) || (0x0601 ≤ code && code ≤ 0x0605) ||
  code == 0x0701 || code == 0x0702 || (0x0801 ≤ code && code ≤ 0x0805) || (0x0901 ≤ code && code ≤ 0x0907)

/-- R439 to R443: the layouts of the commands that carry parameters; `n` is LEN. -/
def layoutAt (code n : Nat) (p : List Byte) : Bool :=
  match code with
  | 0x0107 => n == 4 && decide (leAt p 0 1 < 12) && decide (leAt p 1 1 ≤ 1) && zeroAt p 2 2
  | 0x0201 => n == 4 && decide (leAt p 0 1 < 4) && decide (leAt p 1 1 ≤ 1) && zeroAt p 2 2
  | 0x0301 => decide (leAt p 0 1 ≤ 2) && zeroAt p 1 3 && n == (if leAt p 0 1 = 2 then 52 else 4)
  | 0x0401 => n == 4 && decide (leAt p 0 1 ≤ 1) && zeroAt p 1 3
  | 0x0402 => n == 4 && decide (1 ≤ leAt p 2 2) && decide (leAt p 2 2 ≤ 96) && decide (leAt p 0 2 + leAt p 2 2 ≤ 384)
  | 0x0403 => n == 8 && (decide (leAt p 0 2 < 384) || leAt p 0 2 == 0xFFFF) && zeroAt p 2 2
  | 0x0501 => n == 4 && decide (1 ≤ leAt p 2 2) && decide (leAt p 2 2 ≤ 253)
  | 0x0502 => decide (1 ≤ leAt p 2 2) && decide (leAt p 2 2 ≤ 253) && n == 4 + 4 * leAt p 2 2
  | 0x0601 => n == 28 && decide (leAt p 0 1 < 48) && zeroAt p 1 3
  | 0x0602 => n == 4 && decide (leAt p 0 1 < 48) && zeroAt p 1 3
  | 0x0605 => n == 4 && decide (leAt p 0 1 < 48) && (leAt p 1 1 == 3 || leAt p 1 1 == 7) && zeroAt p 3 1
  | 0x0701 => n == 4 && decide (1 ≤ leAt p 2 1) && decide (leAt p 2 1 ≤ 31) && zeroAt p 3 1
  | 0x0801 => n == 24 && (leAt p 4 1 == 0 || leAt p 4 1 == 4 || leAt p 4 1 == 6) && zeroAt p 5 1
  | 0x0901 => n == 13 && pwLenOk p 0
  | 0x0902 =>
    let k := leAt p 2 2
    decide (1 ≤ k) && decide (k ≤ 64) && zeroAt p 1 1 &&
    (if leAt p 0 1 = 0 then n == 4 + 8 * k && (List.range k).all (fun i => zeroAt p (6 + 8 * i) 2)
     else leAt p 0 1 == 1 && n == 32 + 8 * k && sagRecordOk (p.drop 4) k)
  | 0x0905 => n == 26 && (pwLenOk p 0 || pwEmpty p 0) && pwLenOk p 13 && pwForm (pwField p 13).2
  | 0x0906 => n == 8 && decide (1 ≤ leAt p 4 1) && decide (leAt p 4 1 ≤ 31) && zeroAt p 5 3
  | 0x0907 => n == 20 && pwLenOk p 0 && zeroAt p 13 3
  | _ => n == 0

/-- R436: the request has the layout of its command. -/
def Request.formOk (r : Request) : Bool := r.resv == 0 && layoutAt r.code r.len r.params

/-! Acceptance (R63, R72, R439 to R443). -/

/-- R439: "any": STANDBY, PRECHARGE, CONNECTED, DISPATCH, DEGRADED, ISOLATED and MAINTENANCE. -/
def State.anyState (s : State) : Bool :=
  s.sys.st == .standby || s.sys.st == .precharge || s.sys.st == .connected || s.sys.st == .dispatch || s.sys.st == .degraded ||
  s.sys.st == .isolated || s.sys.st == .maintenance

/-- R439: "any, PILOT included". -/
def State.anyPilot (s : State) : Bool := s.anyState || s.sys.st == .pilot

/-- R355: the safety states: STANDBY and ISOLATED, and MAINTENANCE with either as base. -/
def State.safetyState (s : State) : Bool := s.eff == .standby || s.eff == .isolated

/-- R63: the phases of domain 4 or 5 are all clear in the enable mask. -/
def State.maskClear (s : State) (d : Nat) : Bool := if d = 4 then s.enMask % 256 == 0 else s.enMask / 256 % 256 == 0

/-- R63: the host may switch domain d. (Log entry 43, DEDUCED.) -/
def State.domainOk (s : State) (d : Nat) : Bool :=
  let still := s.sys.st == .standby || s.sys.st == .isolated
  let any := s.anyPilot || s.sys.st == .selftest
  match d with
  | 4 => s.sys.st != .pilot && (still || (any && s.maskClear 4))
  | 5 => s.sys.st != .pilot && (still || (any && s.maskClear 5))
  | 7 => any && (bankNodes (s.fsq.bank s.fsq.active) 0).isEmpty
  | 8 => any && (bankNodes (s.fsq.bank s.fsq.active) 1).isEmpty
  | 10 => any && s.prl.mode == 0
  | 11 => still
  | _ => false

/-- R442, R473: an update is open, or its roll-out runs. -/
def State.updOpen (s : State) : Bool := s.upd.isOpen

/-- R442: MAINTENANCE during an update, or PILOT, which an update does not leave (R473). -/
def State.inUpdate (s : State) : Bool := (s.sys.st == .maintenance || s.sys.st == .pilot) && s.updOpen

/-- R72, R442: the states of CMD_UPDATE_BEGIN. -/
def State.beginOk (s : State) : Bool :=
  s.sys.st == .standby || s.sys.st == .connected || s.sys.st == .dispatch || s.sys.st == .degraded || s.sys.st == .isolated ||
  s.sys.st == .pilot || (s.sys.st == .maintenance && s.sys.base == .isolated && s.sys.loaderOnly)

/-- R72: the states of CMD_OPEN. -/
def State.openOk (s : State) : Bool :=
  s.eff == .precharge || s.eff == .connected || s.eff == .dispatch || s.eff == .degraded

/-- R63, R72, R439: the state and operation commands. -/
def State.accepts1 (s : State) (code : Nat) (p : List Byte) : Bool :=
  match code with
  | 0x0101 => s.sys.st == .standby
  | 0x0102 => s.sys.st == .connected && s.phm.trk == .idle
  | 0x0103 => s.dispatching
  | 0x0104 => s.openOk
  | 0x0105 => s.sys.st == .isolated
  | 0x0106 => s.sys.st == .standby || s.sys.st == .isolated || s.sys.st == .pilot
  | 0x0107 => s.domainOk (leAt p 0 1)
  | 0x0108 => s.swapState && s.prl.owner
  | 0x0109 => s.sys.st == .standby || s.sys.st == .isolated || s.sys.st == .pilot
  | _ => s.anyPilot

/-- R440, R441: the schedule, estimation, parameter, link and log commands. -/
def State.accepts2 (s : State) (code : Nat) (p : List Byte) : Bool :=
  match code with
  | 0x0202 => s.anyPilot
  | 0x0302 => s.anyPilot
  | 0x0401 => if leAt p 0 1 = 1 then s.sys.st == .dispatch else s.anyState
  | 0x0402 => s.anyPilot
  | 0x0501 => s.anyPilot
  | 0x0504 => s.sys.st == .standby || s.sys.st == .isolated
  | 0x0601 => s.sys.st == .standby || s.sys.st == .isolated || s.sys.st == .maintenance
  | 0x0602 => s.sys.st == .standby || s.sys.st == .isolated || s.sys.st == .maintenance
  | 0x0603 => s.anyPilot
  | 0x0701 => s.anyPilot
  | _ => s.anyState

/-- R442, R443: the update and safety commands. (Log entry 43, DEDUCED.) -/
def State.accepts3 (s : State) (code : Nat) : Bool :=
  match code with
  | 0x0801 => s.beginOk
  | 0x0802 => s.inUpdate && s.upd.phase != 0
  | 0x0803 => s.inUpdate && s.upd.phase != 0
  | 0x0804 => s.inUpdate
  | 0x0805 => s.anyPilot
  | 0x0906 => s.anyPilot
  | 0x0907 => s.anyState
  | _ => s.safetyState

/-- R72, R435, R439 to R443: the state condition of a request. -/
def State.accepts (s : State) (r : Request) : Bool :=
  if s.sys.loaderOnly && !(0x0801 ≤ r.code && r.code ≤ 0x0805) then false
  else if r.code < 0x0200 then s.accepts1 r.code r.params
  else if r.code < 0x0800 then s.accepts2 r.code r.params
  else s.accepts3 r.code

/-- R72: a request refused in the present state; a NOTICE is logged. -/
def State.notInState (s : State) (c : Nat) (r : Request) : State :=
  (s.logPost 0 0x0102 1 (le2 r.code ++ [s.sys.st.code, s.sys.base.code])).reply c 2 (s.sys.st.code + 16 * s.sys.base.code) []

/-- R54: the commands that have a row in R50. (Log entry 22, DEDUCED.) -/
def moves (code : Nat) : Bool := (0x0101 ≤ code && code ≤ 0x0106) || code == 0x0801

/-! The MGP's turns (R435, R438). -/

/-- R435: the request that the MGP takes next: QUEUED, or held and to be taken up (R467). -/
def State.nextRequest (s : State) : Option Nat :=
  s.mbx.order.find? (fun c => (s.ch c).st == .queued || (s.ch c).st == .held)

/-- R435: MGP_TAKE_REQUEST: the oldest waiting request is taken and judged; a command with a row in R50 waits while an event of a higher
class is due at the tick (R54) or one has already caused a transition in this tick (R519). (Log entry 22, DEDUCED.) -/
def execMgpTakeRequest (s : State) : Out :=
  if s.sys.mgpAway || s.mbx.long || s.mbx.ch.any (fun x : Chan => x.st == .running) then .next s
  else match s.nextRequest with
  | none => .next s
  | some c => match (s.ch c).req with
    | none => .next s
    | some r =>
      if moves r.code && !s.settled then .next s
      else if !knownCode r.code then .fault (.hostError .reservedCode)
      else if !r.formOk then .fault (.hostError .malformed)
      else
        let s1 := { s with mbx := { s.mbx with order := s.mbx.order.filter (· != c) } }
        if !s.accepts r then .next (s1.notInState c r)
        else
          let s2 := s1.modCh c (fun x => { x with st := .running, wasRunning := false })
          .next { s2 with mbx := { s2.mbx with long := longCode r.code } }

/-- R438, R439, R441: the request of channel c has been carried out up to a wait: for its reply, a node's ACK, the end of a
switchover or of a commit. -/
def State.started (s : State) (c : Nat) (code : Nat) : Bool :=
  (s.ch c).outcome.isSome || s.prl.swapChan == some c || s.fnl.cmdQ.any (fun q => q.chan == some c) ||
  (code == 0x0404 && s.est.capBusy) || (code == 0x0503 && s.dict.job.isSome) || (code == 0x0903 && s.sag.job.isSome)

/-- R435: the command of code `code` runs on channel c, where it is RUNNING there and has not run yet; its state condition is
judged again, and a command with a row in R50 waits as at its taking (R54, R519). -/
def State.serve (s : State) (c : Fin 4) (code : Nat) (f : List Byte → Out) : Out :=
  match (s.ch c.val).req with
  | none => .next s
  | some r =>
    if (s.ch c.val).st ≠ .running || r.code != code || s.started c.val code || s.sys.mgpAway ||
      (Machine.moves code && !s.settled) then .next s
    else if !r.formOk then .fault (.hostError .malformed)
    else if !s.accepts r then .next (s.notInState c.val r)
    else f r.params

/-- R438: a long operation on channel c has its result, which MBX_REPLY_POSTED posts. -/
def State.result (s : State) (c rc detail : Nat) (data : List Byte) : State :=
  s.modCh c (fun x => { x with outcome := some (rc, detail, data) })

/-- R54, R519: the command has caused a transition in this tick. -/
def State.moved (s : State) : State := { s with sys := { s.sys with cmdUsed := true } }

/-- R433: the source of the request on channel c. -/
def State.srcOf (s : State) (c : Nat) : Src := (s.ch c).src

end Sys2Proof.Machine
end

