-- ==== Sys2Proof/Machine/ParamOps.lean ====
section
/-! DEFINITION. Reading and writing the parameter dictionary (R445 to R457): the views, the ranges of a write, and the two settings
slots. -/

namespace Sys2Proof.Machine

/-! Reading (R447, R450 to R452). -/

/-- R450: entry k of node n. -/
def State.nodeView (s : State) (n k : Nat) : Nat :=
  let m := s.mn n
  if k < 7 then s.nodeWord n k
  else if k < 10 then s.nodeWord n (k + 1)
  else if k < 15 then s.nodeWord n (k + 6)
  else if k = 15 then packF [(0, enc 16 (nth m.t 0 0)), (16, enc 16 (nth m.t 1 0))]
  else if k = 16 then packF [(0, enc 16 (nth m.t 2 0)), (16, enc 16 (nth m.t 3 0))]
  else if k < 25 then nth m.v (k - 17) 0 % 65536
  else if k = 25 then lo32 m.brx
  else if k = 26 then lo32 m.rtx
  else if k = 27 then (if (s.nl n).ver = 2 then 0 else m.tripMap % 256)
  else if k = 28 then encSat 32 (ratFree 93 m.tofEst)
  else if k = 29 then (s.nl n).bleed % 256
  else if k = 30 then min 65535 (s.nl n).joins
  else 0

/-- R451: entry k of phase p, from 16. -/
def State.phaseView (s : State) (p k : Nat) : Nat :=
  if k < 21 then s.pilotView.phaseWord p (k - 16)
  else if k = 21 then encSat 16 (nth s.thm.tj p 0)
  else if k = 22 then s.pilotView.phaseWord p 6
  else if k = 23 then s.pilotView.phaseWord p 7
  else if k = 24 then s.pilotView.phaseWord p 5
  else if k = 25 then encSat 16 (nth s.thm.delta p 0)
  else if k = 26 then encSat 16 (ratFree 94 (s.tModel p))
  else 0

/-- R452: entry k of group g, from 3. -/
def State.groupView (s : State) (g k : Nat) : Nat :=
  let r := s.gr g
  let a := s.ga g
  match k with
  | 3 => lo32 r.cap
  | 4 => if r.capPending then lo32 a.capPend else 0
  | 5 => packF [(0, a.adoptions % 65536), (16, b2n r.capPending), (17, b2n r.capFlagged), (18, b2n a.nominal)]
  | 6 => lo32 (s.rS g)
  | _ => packF [(0, encSat 16 (nth s.thm.tUsed g 0)), (16, nth s.thm.src g 0)]

/-- R447: the 32-bit value of a dictionary index; a reserved index reads 0. (Log entry 60, DEDUCED.) -/
def State.readParam (s : State) (i : Nat) : Nat :=
  if Params.isView i then
    if i < 0xC00 then s.nodeView ((i - 0x600) / 32) ((i - 0x600) % 32)
    else if i < 0xE00 then s.phaseView ((i - 0xC00) / 32) ((i - 0xC00) % 32)
    else s.groupView ((i - 0x1000) / 8) ((i - 0x1000) % 8)
  else if (Params.at i).isSome then s.settingW i
  else 0

/-- R441, R447: one value of a CMD_PARAM_WRITE; the index of a view is skipped. -/
def State.writeParam (s : State) (i w : Nat) : State := if Params.isView i then s else s.putSetting i (settingVal i w)

/-- R6, R447: what makes a write of w to index i a host error. (Log entry 60, DEDUCED.) -/
def State.writeErr (s : State) (i w : Nat) : Option HostErr :=
  if Params.reserved i then some .reservedIndex
  else if Params.isView i then none
  else if s.settingOk i (settingVal i w) then none else some .outOfRange

/-- R441: values written in ascending index order from index i, or the first host error among them. -/
def State.writeParams (s : State) : Nat → List Nat → Except HostErr State
  | _, [] => .ok s
  | i, w :: l => match s.writeErr i w with
    | some e => .error e
    | none => State.writeParams (s.writeParam i w) (i + 1) l

/-- R324: the order that the host must keep among the derating temperatures of the phases and of each coolant output. -/
def State.thmOrdered (s : State) : Bool :=
  decide (s.setting P.thmPhT1 < s.setting P.thmPhT2) &&
  (List.range 4).all (fun k => decide (s.setting (P.thmVlvTlo0 + k) < s.setting (P.thmVlvThi0 + k)) &&
    decide (s.setting (P.thmFanTlo0 + k) < s.setting (P.thmFanThi0 + k)))

/-- R213: the order that the host must keep among the voltages of the estimator and among the thresholds of its cones.
Equal neighbours count as ordered. (Log entry 112, DESIGN CHOICE.) -/
def State.estOrdered (s : State) : Bool :=
  let down := fun i => decide (s.setting (i + 1) ≤ s.setting i) && decide (s.setting (i + 2) ≤ s.setting (i + 1))
  let up := fun i => decide (s.setting i ≤ s.setting (i + 1)) && decide (s.setting (i + 1) ≤ s.setting (i + 2))
  decide (s.setting P.estVEmpty ≤ s.setting P.estVEmptyLearn) && decide (s.setting P.estVEmptyLearn < s.setting P.estVCutWarn) &&
  decide (s.setting P.estVCutWarn < s.setting P.estVFull) && down P.estConeQC1 && down P.estConeVC1 && up P.estConeQF1 && up P.estConeVF1

/-- R213, R324, R441: the values of one command from index i, or the host error that one of them, or the order in which all leave the
thresholds, is. -/
def State.writeSettings (s : State) (i : Nat) (l : List Nat) : Except HostErr State :=
  match s.writeParams i l with
  | .error e => .error e
  | .ok t => if t.estOrdered && t.thmOrdered then .ok t else .error .order

/-! The settings record (R453, R454). -/

/-- R453: the values that the settings hold now, pending buffered values included. -/
def State.settingsData (s : State) : List (Nat × Int) :=
  let d := s.dict.apply (fun _ => true)
  (match s.fsq.perPending with | some p => d.setWork P.phmPeriod p | none => d).work

/-- R453, R454: the write of the values that the settings hold now begins: over the slot that is not in force, which is not valid till it
ends. -/
def State.settingsOpen (s : State) : State :=
  { s with dict := { s.dict with job := some s.settingsData
                                 slots := s.dict.slots.modify (commitTarget s.dict.slots).1 (fun x => { x with valid := false }) } }

/-- R453, R454: the write ends; a failed read-back leaves the slot not valid. -/
def State.settingsEnd (s : State) (ok : Bool) : State :=
  let t := commitTarget s.dict.slots
  let x : TwoSlot := if ok then { valid := true, seq := t.2, format := s.sys.fmtSet, data := s.dict.job.getD [] } else { valid := false }
  { s with dict := { s.dict with job := none, slots := s.dict.slots.set t.1 x } }

end Sys2Proof.Machine
end

