-- ==== Sys2Proof/Machine/Window.lean ====
section
/-! DEFINITION. Writes to the register window (R6, R418, R423, R429): what each writable register does with a word, the reserved bits,
and the discarded writes. -/

namespace Sys2Proof.Machine

/-! Reserved bits (R5, R6, R418). -/

/-- R57 to R59, R430: the reserved bits of the global registers. -/
def sysReserved (i : Nat) : Nat :=
  match i with
  | 9 => 0xF0000000 | 16 => 0xFFC0F000 | 17 => 0xFFFFFF00 | 18 => 0xFFFFF000 | 22 => 0xFFFFF000 | 23 => 0xFFFFFFFC
  | 24 => 0xFFFF0000 | 25 => 0xFFFC0000 | 26 => 0xFFFFFFF0 | 27 => 0xFFFFFFFC | _ => 0

/-- R102: those of the FSQ. -/
def fsqReserved (i : Nat) : Nat :=
  match i with
  | 0 => 0xFFFFFEFE | 1 => 0xFFFFFFF0 | 2 => 0 | 3 => 0 | 4 => 0xFFFFFF80 | 5 => 0xFFFF0000 | 6 => 0xFFFF0000 | 7 => 0xFFFF0000 | _ => 0xC0

/-- R415: those of the plant link. -/
def plkReserved (i : Nat) : Nat :=
  match i with
  | 0 => 0xFFFFF0FC | 3 => 0xFFFE0000 | 4 => 0 | 5 => 0 | _ => 0xFFFF0000

/-- R304: those of the CE. -/
def ctlReserved (i : Nat) : Nat :=
  match i with
  | 0 => 0xFFFFFFFC | 1 => 0xFF88E000 | 2 => 0xFFFFFFFC | 14 => 0xFFFFF8FC | 15 => 0xFFFF0000 | 16 => 0xFFFF0000 | 17 => 0xFFFF0000
  | 18 => 0xFFFE0000 | 19 => 0xFFFF0000 | 20 => 0xFFFFFFF0 | 23 => 0xFFFFFF00 | _ => 0

/-- R273, R304: those of a phase block. -/
def phaseReserved (i : Nat) : Nat :=
  match i with
  | 0 => 0xFC00 | 2 => 0xFFFC0000 | 4 => 0xFFFF0000 | 5 => 0xFFFFFFF0 | _ => 0

/-- R144, R180, R431: those of a node status block. -/
def nodeReserved (i : Nat) : Nat :=
  match i with
  | 0 => 0xFF00F0E0 | 1 => 0xFFFF0000 | 2 => 0xFFFF0000 | 3 => 0xC0 | 4 => 0xFE00FE00 | 5 => 0xFFFF0000 | 6 => 0xFFFF0000
  | 9 => 0xFF000000 | 20 => 0xFFFFFC00 | _ => 0

/-- R214: those of the estimator. -/
def estReserved (i : Nat) : Nat :=
  match i with
  | 0 => 0xFFF0FF80 | 1 => 0xFFFF0000 | 7 => 0xFFFF0000 | 8 => 0xFE00FE00 | 12 => 0xFFFFFFF0 | 13 => 0xFFFF0000 | 14 => 0xFFFF0000 | _ => 0

/-- R360: those of the saggar. -/
def sagReserved (i : Nat) : Nat :=
  match i with
  | 0 => 0xFFC0FF80 | 1 => 0xFFFFFF00 | 2 => 0xFFFFFC00 | 3 => 0xFFFF0000 | 4 => 0xFFF0F0F0 | 5 => 0xFFFFFF00 | 6 => 0xFCFE0000
  | 9 => 0xFFFF0000 | 10 => 0xFFFF0000 | 11 => 0xFFFF0000 | 12 => 0xFFFFF800 | 14 => 0xFFFFFE00 | _ => 0

/-- R323: those of the thermal manager. -/
def thmReserved (i : Nat) : Nat :=
  match i with
  | 0 => 0xFFF0F880 | 6 => 0xFE00FE00 | 7 => 0xFFFF0000 | 8 => 0xFFFFFE00 | 9 => 0xFFFFF800 | 10 => 0xFFFF0000 | _ => 0

/-- R381: those of the pair link. -/
def prlReserved (i : Nat) : Nat :=
  match i with
  | 0 => 0xFFF0F080 | 1 => 0xFFFFC000 | 2 => 0xFFFFC000 | 4 => 0xFFFF0000 | 6 => 0xFFFF0000 | 7 => 0xFFFF0000 | 8 => 0xFFFF0000 | _ => 0

/-- R487: those of the log. -/
def logReserved (i : Nat) : Nat :=
  match i with
  | 0 => 0xFFFF80F8 | 3 => 0xFFFE0000 | 4 => 0xFFFF0000 | 5 => 0xFFFF0000 | 8 => 0xFFFE0000 | 32 => 0xFFFF0000 | 33 => 0xFFFF0000
  | 34 => 0xFF800000 | 35 => 0xFFFF0000 | _ => 0

/-- The reserved bits of a register. -/
def Reg.reserved : Reg → Nat
  | .sys i => sysReserved i
  | .attn i => if i = 0 then 0xFFFF7800 else if i = 2 then 0xFFF80000 else 0
  | .mbx _ => 0xF80E
  | .lmp i => if i = 1 then 0xFFFFFF88 else if i = 19 then 0xFFF0F0F0 else 0
  | .fsq i => fsqReserved i
  | .plk i => plkReserved i
  | .ctl i => ctlReserved i
  | .phm i => if i = 2 then 0xFFF0C000 else 0xFFFF0000
  | .phase _ i => phaseReserved i
  | .prbG _ => 0xFC000000
  | .node _ i => nodeReserved i
  | .mea i => if i = 0 then 0xFFFFFCFC else if i = 1 ∨ i = 2 ∨ i = 5 ∨ i = 7 then 0xFFFF0000 else 0
  | .unit _ i => if i = 0 then 0xFFFFC0F0 else 0xFFFF0000
  | .key i => if i = 1 then 0xFFC0FFFE else 0
  | .est i => estReserved i
  | .prb i => if i = 0 then 0xFFFFFF80 else if i = 1 then 0 else if i = 6 then 0xFFFF0000 else 0xFC
  | .sag i => sagReserved i
  | .thm i => thmReserved i
  | .ro _ => 0xFFFF0000
  | .tj _ => 0xFFFF0000
  | .cool _ => 0xFFFF0000
  | .thmG _ => 0xFFFC0000
  | .prl i => prlReserved i
  | .log i => logReserved i
  | _ => 0

/-- R429: a write that finds no writable field: ignored, or discarded with ABSENT where the block does not answer. -/
def State.plainWrite (s : State) (r : Reg) : State :=
  if s.answers r || r.shMask == 0xFFFFFFFF then s else { s with sys := { s.sys with accAbsent := true } }

/-! The writable registers. -/

/-- R430: SYS_CO_PERMIT; the coil paths follow it (R339), and the setting shares its store (R453). (Log entry 42, DEDUCED.) -/
def State.writePermit (s : State) (w : Nat) : State :=
  ({ s with sys := { s.sys with coPermit := Tv.put w }, dict := s.dict.setWork P.sysCoPermit w }).coilService

/-- R273: PHM_EN_MASK; the setting shares its store (R453). (Log entry 42, DEDUCED.) -/
def State.writeEnMask (s : State) (w : Nat) : State := s.putSetting P.phmEnMask w

/-- R297: CTL_COEF_CTL: HOLD, then LOAD. -/
def State.writeCoef (s : State) (w : Nat) : Out :=
  match execCoefHold (bitOf w 0) s with
  | .next t => if bitOf w 1 then execCoefLoad t else .next t
  | o => o

/-- R423: a buffered setting written through the window. -/
def State.writeBw (s : State) (i w : Nat) : Out :=
  if s.settingOk i (settingVal i w) then s.ownerWrite 3 (.next (s.putSetting i (settingVal i w))) else .fault (.hostError .outOfRange)

/-- R487: LOG_WIN_SLOT. -/
def State.writeWin (s : State) (w : Nat) : State :=
  { s with log := { s.log with winSlot := w % 65536, winArea := bitOf w 16 } }

/-- R418: register r takes the word w; `still` names the phases whose fault is still present (R257), and src the writer. (Log entry 43,
DEDUCED.) -/
def State.writeTo (s : State) (r : Reg) (w still : Word) (src : Src) : Out :=
  let v := w.toNat
  match r with
  | .sys i => if i = 26 then s.hostWrite 3 (.next (s.writePermit v)) else .next (s.plainWrite r)
  | .mbx c => s.hostWrite 9 (.next (if bitOf v 0 then s.ring c src else s))
  | .req c i => s.hostWrite 9 (.next (s.bufPut c i v))
  | .lmp i =>
    if h : 11 ≤ i ∧ i < 15 then execLmpCorr ⟨i - 11, by omega⟩ w s
    else if h2 : 15 ≤ i ∧ i < 19 then execLmpTrig ⟨i - 15, by omega⟩ w s
    else .next (s.plainWrite r)
  | .fsq i => if i = 0 then s.ownerWrite 3 (.next { s with fsq := s.fsq.writeNext (v % 2) }) else .next (s.plainWrite r)
  | .ctl i =>
    match i with
    | 0 => execCtlMode w s
    | 2 => s.writeCoef v
    | 3 => execCtlCmdI w s
    | 4 => execCtlCmdP w s
    | 5 => execCtlCmdV w s
    | _ => .next (s.plainWrite r)
  | .par i => s.writeBw i v
  | .phPar p k => s.writeBw (P.phase p (3 + k)) v
  | .phm i => if i = 0 then s.ownerWrite 3 (.next (s.writeEnMask v)) else if i = 3 then execPhmFltClr w still s else .next (s.plainWrite r)
  | .bank b i => if h : b < 2 ∧ i < 16384 then execScheduleBankWrite ⟨b, h.1⟩ ⟨i, h.2⟩ w s else .next s
  | .log i => if i = 8 then s.hostWrite 2 (.next (s.writeWin v)) else .next (s.plainWrite r)
  | _ => .next (s.plainWrite r)

/-- R6, R418: a host's write of w to byte address a; an unmapped address ignores it, and a 1 in a reserved bit is a host error. -/
def State.writeReg (s : State) (a : Nat) (w still : Word) (src : Src) : Out :=
  match regAt a with
  | none => .next s
  | some r => if w.toNat &&& r.reserved ≠ 0 then .fault (.hostError .reservedBit) else s.writeTo r w still src

/-- R395: words written one at a time, from byte address a upward. -/
def State.writeRegs (s : State) (src : Src) (still : Word) : Nat → List Word → Out
  | _, [] => .next s
  | a, w :: l => match s.writeReg a w still src with
    | .next t => State.writeRegs t src still (a + 4) l
    | o => o

/-- R418: REGISTER_WRITE of word i of the window (byte address 4·i) by src. -/
def execRegisterWrite (i : Fin 65536) (w still : Word) (src : Src) (s : State) : Out := s.writeReg (4 * i.val) w still src

end Sys2Proof.Machine
end

