-- ==== Sys2Proof/Machine/Plant.lean ====
section
/-! DEFINITION. The plant link (R383 to R406): sessions and transactions, attention retries, dispatch PDUs and the ports. -/

namespace Sys2Proof.Machine

/-! Replies and sessions (R388 to R394). -/

/-- R10: the time base stands at t. -/
def State.atTime (s : State) (t : BitVec 32) : State := { s with lmp := { s.lmp with time := t.toNat } }

/-- R394: the place of the session with number n. -/
def State.sessionAt (s : State) (n : Nat) : Option Nat := firstAt (fun x => x.num == n) s.plk.sessions

/-- R386, R391: session i answers transaction x, and the reply is kept. -/
def State.sessReply (s : State) (i : Nat) (x : Tx) (r : Reply) : State :=
  match s.plk.sessions[i]? with
  | none => s
  | some y =>
    ({ s with plk := { s.plk with sessions := s.plk.sessions.modify i (fun z => { z with tid := x.tid, kept := some r }) } }).replyFrom
      x.port x.toNet (r.bytes y.ver x.tid y.num)

/-- R390: a reply of type ty with a status and no payload, in session i. -/
def State.sessStatus (s : State) (i : Nat) (x : Tx) (ty status : Nat) : State :=
  s.sessReply i x { type := ty, status := status }

/-- R386, R390: a reply outside any session, with the VER and SESSION of the request. (Log entry 83, DESIGN CHOICE.) -/
def State.looseReply (s : State) (x : Tx) (r : Reply) : State :=
  ({ s with plk := { s.plk with lastLoose := some r } }).replyFrom x.port x.toNet (r.bytes x.ver x.tid x.session)

/-- R386, R394, R400: session i has been used by transaction x. -/
def State.sessUsed (s : State) (i : Nat) (x : Tx) : State :=
  { s with plk := { s.plk with sessions := s.plk.sessions.modify i (fun y => { y with port := x.port, addr := x.addr, udp := x.udp }) } }

/-- R389: the version from which a type is available. -/
def typeFrom (ty : Nat) : Nat :=
  match ty with
  | 6 => 2
  | 8 => 2
  | 9 => 2
  | 10 => 3
  | 11 => 2
  | _ => 1

/-- R389: the payload of a request has the length of its type. -/
def payloadOk (ty : Nat) (p : List Byte) : Bool :=
  match ty with
  | 1 => if leAt p 1 1 = 1 then p.length == 4 else p.length == 16
  | 2 => p.length == 8
  | 3 => decide (8 ≤ p.length) && p.length == 8 + 4 * leAt p 4 2
  | 4 => decide (4 ≤ p.length) && p.length == 4 + leAt p 2 2
  | 5 => p.length == 4
  | 6 => p.length == 4
  | 8 => p.length == 4
  | 10 => decide (8 ≤ p.length)
  | _ => p.length == 0

/-- R391: session i, which stands as y, sends its kept reply again. -/
def State.resend (s : State) (i : Nat) (x : Tx) (y : Session) : State :=
  match y.kept with
  | none => s
  | some r =>
    let r1 := { r with resent := true }
    ({ s with plk := { s.plk with sessions := s.plk.sessions.modify i (fun z => { z with kept := some r1 }) } }).replyFrom
      x.port x.toNet (r1.bytes y.ver x.tid y.num)

/-- R384 to R389: a datagram of the transaction protocol comes as x; g carries out a transaction of type ty whose header checks. -/
def State.arrive (s : State) (x : Tx) (ty : Nat) (g : State → Out) : Out :=
  let s0 := s.atTime x.now
  s0.datagram x.port x.toNet x.dg.length 48048
    (if !x.headOk then .next (s0.rxDropOne x.port) else if x.type ≠ ty then .next s0 else g s0)

/-- R388 to R391: a transaction of type ty in a session; f carries it out in the session's place. (Log entry 45, DESIGN CHOICE.) -/
def State.transact (s : State) (x : Tx) (ty : Nat) (f : State → Nat → Out) : Out :=
  s.arrive x ty (fun s0 => match s0.sessionAt x.session with
    | none => .next (s0.looseReply x { type := ty, status := 7 })
    | some i => match s0.plk.sessions[i]? with
      | none => .next s0
      | some y =>
        let s1 := s0.sessUsed i x
        if x.ver ≠ y.ver then .next (s1.sessStatus i x ty 6)
        else if y.kept.isSome && y.tid == x.tid then .next (s1.resend i x y)
        else if y.ver < typeFrom ty then .next (s1.sessStatus i x ty 6)
        else if !payloadOk ty x.payload then .next (s1.sessStatus i x ty 5)
        else f s1 i)

/-- R446: the address of PLK_ALLOW entry e. -/
def State.allowAddr (s : State) (e : Nat) : Nat :=
  let w := fun k => s.parN (P.plkAllow + 5 * e + k)
  packF [(0, w 0), (32, w 1), (64, w 2), (96, w 3)]

/-- R387: the entries set. -/
def State.allowSet (s : State) : List Nat := (List.range 8).filter (fun e => s.parN (P.plkAllow + 5 * e + 4) % 256 != 0)

/-- R387: a source may act. -/
def State.mayAct (s : State) (addr : Nat) : Bool :=
  s.allowSet.isEmpty ||
  s.allowSet.any (fun e => (List.range (s.parN (P.plkAllow + 5 * e + 4) % 256)).all (fun k => addrBit (s.allowAddr e) k == addrBit addr k))

/-- R433: the source code of a plant port. -/
def PortId.src : PortId → Src
  | .a => .portA | .b => .portB

/-! HELLO, BYE, KEEPALIVE (R392 to R394). -/

/-- R393: the version chosen from those offered. -/
def helloVersion (lo hi : Nat) : Option Nat :=
  let v := min 3 hi
  if v = 0 ∨ v < lo then none else some v

/-- R392: the next free session number. -/
def Plk.freeNum (p : Plk) : Nat → Nat → Nat
  | 0, n => n
  | k + 1, n =>
    let m := if n = 0 ∨ 65535 < n then 1 else n
    if p.sessions.any (fun x => x.num == m) then p.freeNum k (m + 1) else m

/-- R392: the reply to a HELLO. -/
def State.helloReply (s : State) (v num : Nat) : Reply :=
  { type := 1, status := 0, payload :=
      leBytes 1 v ++ leBytes 1 (packF [(0, s.prl.pos), (1, b2n s.prl.owner), (2, b2n (s.prl.mode == 1))]) ++ leBytes 2 num ++
      leBytes 2 (s.parN P.plkStringId) ++ leBytes 2 1440 ++ leBytes 8 s.sys.serial ++ leBytes 4 (nth s.sys.fw 0 0) ++
      leBytes 4 (nth s.sys.fw 2 0) }

/-- R394: the session that a HELLO replaces. -/
def State.helloOld (s : State) (x : Tx) (v : Nat) (host : Nat) : Option Session :=
  s.plk.sessions.find? (fun y => if v = 1 then y.addr == x.addr && y.udp == x.udp else y.host == some host)

/-- R392 to R394: a session opens, in place of the old one where there is one. -/
def State.openSession (s : State) (x : Tx) (v host mask : Nat) (old : Option Session) : State :=
  let num := s.plk.freeNum 9 s.plk.nextNum
  let r := s.helloReply v num
  let y : Session := {
    num := num, ver := v, host := if v = 1 then none else some host, mask := if v = 1 then 0xFFFFFFFF else mask
    port := x.port, addr := x.addr, udp := x.udp, tid := x.tid, kept := some r
    queue := (old.map (·.queue)).getD [], lost := (old.map (·.lost)).getD 0 }
  let rest := match old with | some o => s.plk.sessions.filter (fun z => z.num != o.num) | none => s.plk.sessions
  ({ s with plk := { s.plk with sessions := rest ++ [y], nextNum := num + 1 } }).replyFrom x.port x.toNet (r.bytes v x.tid num)

/-- R392 to R394: HELLO. (Log entries 9, DESIGN CHOICE; 45, DESIGN CHOICE.) -/
def execHello (x : Tx) (s : State) : Out :=
  s.arrive x 1 (fun s0 =>
    if !payloadOk 1 x.payload then .next (s0.looseReply x { type := 1, status := 5 })
    else match helloVersion (leAt x.payload 0 1) (leAt x.payload 1 1) with
    | none => .next (s0.looseReply x { type := 1, status := 6 })
    | some v =>
      let host := leAt x.payload 4 8
      let old := s0.helloOld x v host
      if old.isNone && decide (8 ≤ s0.plk.sessions.length) then .next (s0.looseReply x { type := 1, status := 9 })
      else .next (s0.openSession x v host (leAt x.payload 12 4) old))

/-- R394: session i ends; its last reply goes out with it. -/
def State.endSession (s : State) (i : Nat) : State := { s with plk := { s.plk with sessions := s.plk.sessions.eraseIdx i } }

/-- R394: BYE: answered OK, and the session ends. -/
def execBye (x : Tx) (s : State) : Out :=
  s.transact x 9 (fun t i => .next ((t.looseReply x { type := 9, status := 0 }).endSession i))

/-- R389: KEEPALIVE. -/
def execKeepalive (x : Tx) (s : State) : Out := s.transact x 11 (fun t i => .next (t.sessStatus i x 11 0))

/-- R394: SESSION_TIMEOUT of session num. -/
def execSessionTimeout (num : Nat) (s : State) : Out :=
  match s.sessionAt num with
  | some i => .next (s.endSession i)
  | none => .next s

/-! Registers and records (R395). -/

/-- R395: what bars a transfer of count words at addr: COUNT, then the range. -/
def regBad (addr count : Nat) : Option Nat :=
  if count = 0 ∨ 256 < count then some 4
  else if addr % 4 ≠ 0 ∨ 0x40000 < addr + 4 * count then some 3
  else none

/-- R395, R427: REG_READ of count words. (Log entry 45, DESIGN CHOICE.) -/
def execRegRead (x : Tx) (s : State) : Out :=
  let addr := leAt x.payload 0 4
  let count := leAt x.payload 4 2
  s.transact x 2 (fun t i => match regBad addr count with
    | some e => .next (t.sessStatus i x 2 e)
    | none =>
      let r := t.readRegs true addr count
      .next (r.2.sessReply i x { type := 2, status := 0, payload := r.1.flatMap (leBytes 4) }))

/-- R395, R387: REG_WRITE; `still` names the phases whose fault cause is present (R257). -/
def execRegWrite (x : Tx) (still : Word) (s : State) : Out :=
  let addr := leAt x.payload 0 4
  let words := (List.range (leAt x.payload 4 2)).map (fun k => BitVec.ofNat 32 (leAt x.payload (8 + 4 * k) 4))
  s.transact x 3 (fun t i =>
    if !t.mayAct x.addr then .next (t.sessStatus i x 3 10)
    else match regBad addr words.length with
    | some e => .next (t.sessStatus i x 3 e)
    | none => match t.writeRegs x.port.src still addr words with
      | .next t1 => .next (t1.sessStatus i x 3 0)
      | o => o)

/-- R22, R395: the 64 bytes of the record of group g as the bulk-read DMA fetches it; nothing answers while the CSM is absent. `diff` is
how many of its readings in a row showed generation words that differ: after the first and 4 more, the record is returned as read, with
bit 47 of word 0 set. (Log entry 95, DESIGN CHOICE.) -/
def State.bulkRecord (s : State) (g diff : Nat) : List Byte :=
  if !s.up 6 then List.replicate 64 0
  else
    let r := s.gr g
    (List.range 8).flatMap (fun w => leBytes 8 (if w = 0 ∧ 5 ≤ diff then r.word 0 ||| 2 ^ 47 else r.word w))

/-- R395: BULK_READ of count group records from first on; `diff` says for each of them how often the generation words of its burst differed
(R37). -/
def execBulkRead (x : Tx) (diff : List Nat) (s : State) : Out :=
  s.transact x 6 (fun t i =>
    let first := leAt x.payload 0 2
    let n := leAt x.payload 2 2
    if n = 0 ∨ 22 < n ∨ 384 < first + n then .next (t.sessStatus i x 6 4)
    else
      let t1 := if t.up 6 then t else { t with sys := { t.sys with accAbsent := true } }
      let records := (List.range n).flatMap (fun k => t.bulkRecord (first + k) (nth diff k 0))
      .next (t1.sessReply i x { type := 6, status := 0, payload := records }))

/-! Mailbox transport (R396). -/

/-- R396: session i waits for the reply of channel c to transaction x. -/
def State.sessWait (s : State) (i : Nat) (x : Tx) (c : Nat) : State :=
  let w : Waiting := { tid := x.tid, chan := c, port := x.port, net := x.toNet }
  { s with plk := { s.plk with sessions := s.plk.sessions.modify i (fun y => { y with waiting := y.waiting ++ [w] }) } }

/-- R396: MBX_REQ. -/
def execMbxReq (x : Tx) (s : State) : Out :=
  s.transact x 4 (fun t i =>
    let c := leAt x.payload 0 1
    let bytes := x.payload.drop 4
    if !t.mayAct x.addr then .next (t.sessStatus i x 4 10)
    else if 3 < c then .next (t.sessStatus i x 4 5)
    else if 1024 < bytes.length then .next (t.sessStatus i x 4 4)
    else if t.sys.mgpAway || t.mbx.long then .next (t.sessStatus i x 4 1)
    else if !(t.ch c).open then .next (t.sessStatus i x 4 8)
    else
      let t1 := t.modCh c (fun y => { y with reqBuf := memPutL y.reqBuf 0 bytes })
      .next ((t1.accept c x.port.src).sessWait i x c))

/-- R396: what MBX_POLL answers for channel c. -/
def State.pollReply (s : State) (c : Nat) : Reply :=
  match (s.ch c).st with
  | .idle => { type := 5, status := 0 }
  | .queued => { type := 5, status := 2 }
  | .running => { type := 5, status := 2 }
  | .done => { type := 5, status := 0, payload := replyIn (s.ch c).repBuf }
  | .held => { type := 5, status := 1 }

/-- R396: MBX_POLL. -/
def execMbxPoll (x : Tx) (s : State) : Out :=
  s.transact x 5 (fun t i =>
    let c := leAt x.payload 0 1
    if 3 < c then .next (t.sessStatus i x 5 5) else .next (t.sessReply i x (t.pollReply c)))

/-- R396: MBX_PENDING_REPLY: a transaction that has waited 100 ms on channel c is answered PENDING. -/
def execMbxPendingReply (c : Fin 4) (s : State) : Out := .next (s.answerWait c.val { type := 4, status := 2 })

/-! Attention messages (R400). -/

/-- R400: message m leaves the queue of session y; an acknowledged 0x00FF has reported its count. -/
def Session.acked (y : Session) (m : Attn) : Session :=
  { y with queue := y.queue.filter (fun z => z.aseq != m.aseq), lost := if m.code = 0xFF then y.lost - leNat (toBytes m.data) else y.lost }

/-- R400: ATTN_ACK. -/
def execAttnAck (x : Tx) (s : State) : Out :=
  s.transact x 8 (fun t i => match t.plk.sessions[i]? with
    | none => .next t
    | some y => match y.queue.find? (fun z => z.aseq == leAt x.payload 0 4) with
      | none => .next (t.sessStatus i x 8 0)
      | some m =>
        let t1 := { t with plk := { t.plk with sessions := t.plk.sessions.set i (y.acked m) } }
        .next ((t1.sessStatus i x 8 0).lostNote i))

/-- The other plant port. -/
def PortId.other : PortId → PortId
  | .a => .b | .b => .a

/-- R400: message m of session i is dropped: counted unless it is a 0x00FF, and reported. -/
def State.attnDrop (s : State) (i : Nat) (y : Session) (m : Attn) : State :=
  let n := if m.code = 0xFF then 0 else 1
  let y1 := { y with queue := y.queue.filter (fun z => z.aseq != m.aseq), lost := y.lost + n }
  ({ s with plk := { s.plk with sessions := s.plk.sessions.set i y1, attnLost := addSat 16 s.plk.attnLost n } }).lostNote i

/-- R400: ATTN_RETRY of message aseq in session num. -/
def execAttnRetry (num : Nat) (aseq : BitVec 32) (s : State) : Out :=
  match s.sessionAt num with
  | none => .next s
  | some i => match s.plk.sessions[i]? with
    | none => .next s
    | some y => match y.queue.find? (fun z => z.aseq == aseq.toNat) with
      | none => .next s
      | some m =>
        if 8 ≤ m.sends then .next (s.attnDrop i y m)
        else
          let y1 := { y with queue := y.queue.map (fun z =>
            if z.aseq = m.aseq then { z with sends := z.sends + 1, port := z.port.other } else z) }
          .next (({ s with plk := { s.plk with sessions := s.plk.sessions.set i y1 } }).sendAttn y m m.port.other true)

/-! Ports (R383 to R385). -/

/-- R383 to R385: DATAGRAM_DISCARD: a datagram of n payload bytes that came as h says is counted where the plant link discards it. -/
def execDatagramDiscard (p : PortId) (h : Net) (n : Nat) (s : State) : Out :=
  .next (if s.up 9 && s.reaches p h && h.discarded n then s.rxDropOne p else s)

/-- R383: what a network service of port p answers to a frame: ARP and neighbour discovery with the MAC address of the port, an echo with
its data, and a query with the dispatch groups of its IP version; none where the frame is not for the port. -/
def State.netServe (s : State) (p : PortId) (f : SvcFrame) : Option SvcFrame :=
  let four := f.kind == .arp || f.kind == .echo4 || f.kind == .igmp
  let own := (s.ownAddrs p).filter (fun a => isMapped4 a == four)
  let ours := (s.groups).filter (fun g => isMapped4 g == four && (f.dst == 0 || f.dst == g))
  let a : SvcFrame := { kind := f.kind, vlan := s.vlan p, prio := 0, mac := nth s.sys.mac p.idx 0
                        toMac := f.mac, src := f.dst, dst := f.src }
  if f.vlan ≠ s.vlan p then none
  else match f.kind with
    | .arp => if own.contains f.dst then some a else none
    | .nd => if own.contains f.dst then some a else none
    | .echo4 => if own.contains f.dst then some { a with data := f.data } else none
    | .echo6 => if own.contains f.dst then some { a with data := f.data } else none
    | .igmp => if ours.isEmpty then none else some { a with src := own.headD 0, dst := f.dst, groups := ours }
    | .mld => if ours.isEmpty then none else some { a with src := nth s.sys.lla p.idx 0, dst := f.dst, groups := ours }

/-- R383: NETWORK_SERVICE_FRAME: a fragment is discarded and counted; a request for the port is answered. -/
def execNetworkServiceFrame (p : PortId) (f : SvcFrame) (s : State) : Out :=
  if !s.up 9 then .next s
  else if f.frag then .next (s.rxDropOne p)
  else match s.netServe p f with
    | none => .next s
    | some a => .next { s with plk := { s.plk with service := s.plk.service.set p.idx (some a) } }

/-- R416: the link-up at which the settings of a port wait. -/
def PortId.upEvent : PortId → When
  | .a => .linkUpA | .b => .linkUpB

/-- R383, R407: PORT_LINK_CHANGE; the PTP port of a link that is down is FAULTY. (Log entry 39, PRESUMED.) -/
def execPortLinkChange (p : PortId) (linkUp : Bool) (s : State) : Out :=
  let s0 := if linkUp then (s.applyAt (.on p.upEvent)).applyAt (.on .linkUp) else s
  let s1 := { s0 with plk := { s0.plk with link := s0.plk.link.set p.idx linkUp } }
  let f := fun (y : PtpPort) =>
    if linkUp then (if y.st = .faulty ∨ y.st = .initializing then { y with st := .listening } else y)
    else { y with st := .faulty, heard := [], syncWait := none, reqWait := none, lastSync := none }
  .next ((s1.modPtp p f).reselect)

/-! Dispatch PDUs (R403 to R406). -/

/-- R404: the counter that a failing check advances; 3 is OLD, 4 NOENT. -/
def DispErr.count (e : DispErr) (k : Nat) : DispErr :=
  match k with
  | 0 => { e with fmt := incSat 8 e.fmt }
  | 1 => { e with crc := incSat 8 e.crc }
  | 2 => { e with conn := incSat 8 e.conn }
  | 3 => { e with old := incSat 4 e.old }
  | _ => { e with noent := incSat 4 e.noent }

/-- R404: a PDU on port p is discarded by check k. -/
def State.dispDrop (s : State) (p : PortId) (k : Nat) : State :=
  { s with plk := { s.plk with dispErr := s.plk.dispErr.modify p.idx (·.count k) } }

/-- R404: checks 1 to 3. -/
def State.dispCheck (s : State) (b : List Byte) : Option Nat :=
  let n := leAt b 12 2
  if b.length ≠ 20 + 8 * n ∨ leAt b 0 1 ≠ 0xD1 ∨ leAt b 1 1 ≠ 1 ∨ n = 0 ∨ 128 < n then some 0
  else if crc32c (b.take (16 + 8 * n)) ≠ leAt b (16 + 8 * n) 4 then some 1
  else if leAt b 4 4 ≠ s.parN P.plkDispId ∨ s.parN P.plkDispId = 0 then some 2
  else none

/-- R404: the first entry for this string: MODE and SETPOINT. -/
def State.dispEntry (s : State) (b : List Byte) : Option (Nat × Int) :=
  match (List.range (leAt b 12 2)).find? (fun k => leAt b (16 + 8 * k) 2 == s.parN P.plkStringId) with
  | some k => if leAt b (18 + 8 * k) 1 ≤ 2 then some (leAt b (18 + 8 * k) 1, dec 32 (leAt b (20 + 8 * k) 4)) else none
  | none => none

/-- R375: PDUs go to the new owner: from the freeze on, and for 100 ms after B. -/
def State.forwarding (s : State) (now : Nat) : Bool :=
  (s.prl.owner && s.prl.frozen) ||
  match s.prl.forwardAt with
  | some t => decide (s.sys.clock - t ≤ 820) && decide (diffT now s.prl.boundary ≤ 100000000)
  | none => false

/-- R404 check 5, R375: a PDU that has passed check 4 goes to the CE's queue, or over the pair link to the new owner. (Log entry 96, DESIGN
CHOICE.) -/
def State.dispTake (s : State) (p : PortId) (b : List Byte) (now : Nat) : State :=
  match s.dispEntry b with
  | none => s.dispDrop p 4
  | some e =>
    if s.forwarding now then { s with prl := { s.prl with fwd := s.prl.fwd ++ [b] } } else s.queuePdu now (leAt b 8 4) e.1 e.2

/-- R403 to R405: DISPATCH_PDU on port p at `now`, which came as h says; `idle` says that PLK_DISP_IDLE has passed without a PDU passing
check 4. -/
def execDispatchPdu (p : PortId) (b : List Byte) (now : BitVec 32) (idle : Bool) (h : Net) (s : State) : Out :=
  let s0 := s.atTime now
  s0.datagram p h b.length 48050
    (match s0.dispCheck b with
    | some k => .next (s0.dispDrop p k)
    | none =>
      let q := leAt b 2 2
      let d := (q + 65536 - s0.plk.dispSeq) % 65536
      let s1 := { s0 with plk := { s0.plk with series := true, dispSeq := q } }
      .next (if !s0.plk.series || idle then s1.dispTake p b now.toNat
        else if d = 0 then { s0 with plk := { s0.plk with dispDup := incSat 16 s0.plk.dispDup } }
        else if d ≤ 32767 then s1.dispTake p b now.toNat
        else s0.dispDrop p 3))

end Sys2Proof.Machine
end

