-- ==== Sys2Proof/Machine/Commands.lean ====
section
/-! DEFINITION. The mailbox commands of R439 to R441 and R443: state and operation, schedules and balancing, estimation,
parameters, pairing and keys, the event log, and the safety configuration. The update commands stand in Update. -/

namespace Sys2Proof.Machine

/-- R437: condition bits. -/
def condBits (l : List (Nat × Bool)) : Nat := packF (l.map (fun x => (x.1, b2n x.2)))

/-- R437: INHIBITED with its condition bits. -/
def State.inhibited (s : State) (c detail : Nat) : State := s.reply c 3 detail []

/-! State and operation (R439). -/

/-- R73: the conditions that inhibit CMD_CONNECT. -/
def State.connectBars (s : State) : Nat :=
  condBits [(0, !s.sys.holdupOk), (1, !s.sag.ilkDone), (2, s.degAny), (3, s.sys.coolDown), (4, s.sag.chgForbid && s.sag.disForbid)]

/-- R50: CO1 closed, then CO2 closed. -/
def State.toPrecharge (s : State) : State :=
  (((({ s with sys := { s.sys with prechgDone := false, prechgDv := s.par P.sysPrechgDv } }).wantCo 1 true).wantCo 2 true).enter .precharge
    .precharge).coilService

/-- R50, R73, R439: CMD_CONNECT. -/
def execCmdConnect (c : Fin 4) (s : State) : Out :=
  s.serve c 0x0101 (fun _ =>
    if s.connectBars ≠ 0 then .next (s.inhibited c.val s.connectBars) else .next ((s.toPrecharge.moved).ok c.val))

/-- R268: the conditions that inhibit CMD_DISPATCH_ON. -/
def State.dispatchBars (s : State) : Nat :=
  let dead := decide (s.pins.vBus < s.par P.phmTrkDead)
  condBits [(5, if s.parN P.phmTrkMode = 0 then dead else !dead), (7, s.nHealthy == 0)]

/-- R50, R268, R269, R439: CMD_DISPATCH_ON. -/
def execCmdDispatchOn (c : Fin 4) (s : State) : Out :=
  s.serve c 0x0102 (fun _ =>
    let t := s.applyAt (.on .track)
    if t.dispatchBars ≠ 0 then .next (s.inhibited c.val t.dispatchBars) else .next ((t.trackStart.moved).ok c.val))

/-- R50, R271, R272, R439: CMD_DISPATCH_OFF; during a stop it has no effect. -/
def execCmdDispatchOff (c : Fin 4) (s : State) : Out :=
  s.serve c 0x0103 (fun _ =>
    if s.phm.trk = .stopping then .next (s.ok c.val)
    else .next (((s.stopStart none).moved).ok c.val))

/-- R50, R272: what CMD_OPEN starts in the present state; the degraded timer stops at once. (Log entry 36, DEDUCED.) -/
def State.openStart (s : State) : State :=
  if s.dispatching then
    let s1 := { s with sys := { s.sys with openPending := true }, sag := { s.sag with degRun := false } }
    if s.phm.trk = .stopping then s1 else s1.stopStart none
  else if s.phm.trk.isStart then (s.abandonTrk 0 2).toStandby
  else s.toStandby

/-- R50, R439: CMD_OPEN. (Log entry 36, DEDUCED.) -/
def execCmdOpen (c : Fin 4) (s : State) : Out :=
  s.serve c 0x0104 (fun _ => .next (((s.openStart.coilService).moved).ok c.val))

/-- R332, R439: what bars CMD_ISOLATION_RESET: the lowest cause not cleared, or an auxiliary contact. (Log entry 44, DEDUCED.) -/
def State.resetBar (s : State) : Option Nat :=
  match (List.range 0x19).find? (fun k => s.sag.causes.contains k && !s.causeClear k) with
  | some k => some k
  | none => if s.pins.aux.any id then some 0xFF else if !s.sag.cfgValid then some s.sag.cause else none

/-- R50: ISOLATED is left, for STANDBY or PILOT. -/
def State.leaveIsolated (s : State) : State := (s.latchClear).afterTest s.partnerOwns

/-- R50, R332, R439: CMD_ISOLATION_RESET. -/
def execCmdIsolationReset (c : Fin 4) (s : State) : Out :=
  s.serve c 0x0105 (fun _ => match s.resetBar with
    | some k => .next (s.inhibited c.val k)
    | none => .next ((s.leaveIsolated.moved).ok c.val))

/-- R69, R439: CMD_RESET: the reply is posted, and the module reset follows at the start of the next tick. (Log entry 47, DEDUCED.) -/
def execCmdReset (c : Fin 4) (s : State) : Out :=
  s.serve c 0x0106 (fun _ => .next (({ s with sys := { s.sys with resetDue := 3 } }.moved).ok c.val))

/-- R63: domain d goes off, or is powered and reports ready (R64). -/
def State.switchDomain (s : State) (d : Nat) (on : Bool) : State :=
  if on then
    if nth s.sys.pd d false || s.sys.powering.contains d then s else { s with sys := { s.sys with powering := s.sys.powering ++ [d] } }
  else
    let s1 := s.domainDown d
    let s2 := ({ s1 with sys := { s1.sys with powering := s1.sys.powering.filter (· != d) } } : State).degPhase
    -- R64: the start-up order does not wait for a domain switched off before its turn
    if s.sys.powering.contains d then s2.allReady else s2

/-- R63, R439: CMD_DOMAIN_POWER. -/
def execCmdDomainPower (c : Fin 4) (s : State) : Out :=
  s.serve c 0x0107 (fun p => .next ((s.switchDomain (leAt p 0 1) (leAt p 1 1 == 1)).ok c.val))

/-- R374, R439: CMD_SWAP; its reply follows at the end of the switchover. -/
def execCmdSwap (c : Fin 4) (s : State) : Out :=
  s.serve c 0x0108 (fun _ =>
    if s.swapping then .next (s.reply c.val 1 0 [])
    else if !s.mayRequestSwap then .next (s.inhibited c.val 0x40)
    else .next { s.requestSwap with prl := { s.requestSwap.prl with swapChan := some c.val } })

/-- R439: the items that CMD_SELFTEST runs. (Log entry 44, DEDUCED.) -/
def State.selftestRun (s : State) : Nat :=
  condBits [(0, true), (1, true), (2, true), (3, s.unitUp 0), (4, s.unitUp 1), (5, s.sys.st == .standby || s.sys.st == .isolated)]

/-- R61, R439: the items of R61 that CMD_SELFTEST covers: those run and failing. -/
def State.selftestBad (s : State) (r : SelfTest) : List TestItem :=
  (s.testItems r).filter (fun (i : TestItem) => !i.2.1 && (i.1 == 2 || i.1 == 4 || i.1 == 5 || i.1 == 6 || i.1 == 7))

/-- R439: what the items not run report: a pass. -/
def SelfTest.masked (r : SelfTest) (run : Nat) : SelfTest :=
  { r with u0 := r.u0 || !bitOf run 3, u1 := r.u1 || !bitOf run 4, pwmFail := if bitOf run 5 then r.pwmFail else 0 }

/-- R378, R439: the results enter the health report. -/
def State.selftestStore (s : State) (r : SelfTest) (run : Nat) : State :=
  let s1 := { s with
    sys := { s.sys with selftestFail := r.failBits }
    prl := { s.prl with refOk := r.refs, pwmOk := if bitOf run 5 then r.pwmFail == 0 else s.prl.pwmOk, eccBad := s.prl.eccBad || !r.ecc } }
  let s2 := if bitOf run 3 then s1.modUnit 0 (fun x => { x with loopOk := r.u0, tested := true }) else s1
  if bitOf run 4 then s2.modUnit 1 (fun x => { x with loopOk := r.u1, tested := true }) else s2

/-- R61, R332: a critical failure isolates; a run that passes every critical item clears a recorded 0x18. -/
def State.selftestAct (s : State) (r : SelfTest) : State :=
  let bad := s.selftestBad r
  let s1 := bad.foldl (fun t i => t.logItem r.detail i) s
  match bad.find? (fun (i : TestItem) => i.2.2.1) with
  | some _ => s1.isolateAll (critCauses bad)
  | none => { s1 with sag := s1.sag.clears 0x18 }

/-- R61, R439: CMD_SELFTEST with what it measures. -/
def execCmdSelftest (c : Fin 4) (r : SelfTest) (s : State) : Out :=
  s.serve c 0x0109 (fun _ =>
    let run := s.selftestRun
    let m := r.masked run
    .next (((s.selftestStore m run).selftestAct m).result c.val 0 0 (leBytes 2 run ++ leBytes 2 m.failBits)))

/-- R439: CMD_HEALTH. -/
def execCmdHealth (c : Fin 4) (s : State) : Out :=
  s.serve c 0x010A (fun _ => .next (s.reply c.val 0 0
    (leBytes 4 s.health ++ leBytes 4 s.prl.healthPart ++ leBytes 2 s.sys.selftestFail ++ leBytes 2 s.degWord ++
     leBytes 1 s.lostCount ++ leBytes 3 0)))

/-! Schedules and balancing (R440). -/

/-- R105: image i of slot k is loaded into the shadow bank. -/
def State.loadShadow (s : State) (k : Nat) (i : SchedImage) : State :=
  { s with fsq := s.fsq.bankPut s.fsq.shadow 0 (i.entries.flatMap (leBytes 16)), fnl := { s.fnl with shadowSlot := some k } }

/-- R97: the FSQ is asked to swap to the shadow bank. -/
def State.askSwap (s : State) : State := { s with fsq := s.fsq.writeNext s.fsq.shadow }

/-- R105, R440: CMD_SCHED_LOAD; it waits while a swap request is being checked. (Log entry 47, DEDUCED.) -/
def execCmdSchedLoad (c : Fin 4) (s : State) : Out :=
  s.serve c 0x0201 (fun p =>
    let k := leAt p 0 1
    match s.image k with
    | none => .next (s.reply c.val 8 k [])
    | some i =>
      if s.fsq.swapCode = 1 then .next s
      else if s.fsq.swapBusy then .next (s.inhibited c.val 1)
      else
        let s1 := s.loadShadow k i
        let s2 := if leAt p 1 1 = 1 then s1.askSwap else s1
        .next (s2.result c.val 0 0 (leBytes 4 i.id ++ leBytes 2 i.entries.length ++ leBytes 1 (leAt p 1 1) ++ leBytes 1 0)))

/-- R440: the 24 bytes of one slot. -/
def State.slotInfo (s : State) (k : Nat) : List Byte :=
  match s.image k with
  | some i => leBytes 1 1 ++ leBytes 1 i.len ++ leBytes 1 i.flags ++ leBytes 1 0 ++ leBytes 4 i.id ++ (i.name ++ List.replicate 16 0).take 16
  | none => List.replicate 24 0

/-- R440: CMD_SCHED_INFO. -/
def execCmdSchedInfo (c : Fin 4) (s : State) : Out :=
  s.serve c 0x0202 (fun _ => .next (s.reply c.val 0 0 ((List.range 4).flatMap s.slotInfo)))

/-- R440: CMD_BAL_CTL. -/
def execCmdBalCtl (c : Fin 4) (s : State) : Out :=
  s.serve c 0x0301 (fun p =>
    let m := leAt p 0 1
    let masks := if m = 2 then (List.range 48).map (fun n => leAt p (4 + n) 1) else s.est.hostMask
    .next ({ s with est := { s.est with balMode := m, hostMask := masks } }.ok c.val))

/-- R440: CMD_BAL_STATUS. -/
def execCmdBalStatus (c : Fin 4) (s : State) : Out :=
  s.serve c 0x0302 (fun _ => .next (s.reply c.val 0 0
    (leBytes 4 s.est.balMode ++ (s.fnl.links.map (fun l : NLink => BitVec.ofNat 8 l.bleed)))))

/-! Estimation (R440). -/

/-- R207: a calibration discharge starts; one that runs already goes on. -/
def State.calStart (s : State) : State :=
  if s.est.cal then s
  else
    let t := s.applyAt (.on .cal)
    { t with est := { t.est with cal := true, calRamp := false, calArmed := (List.range 384).filter (fun g => (s.gr g).learnArmed) } }

/-- R207, R440: CMD_CAL_DISCHARGE. (Log entry 47, DEDUCED.) -/
def execCmdCalDischarge (c : Fin 4) (s : State) : Out :=
  s.serve c 0x0401 (fun p =>
    if leAt p 0 1 = 1 then
      let t := s.calStart
      .next (t.reply c.val 0 0 (leBytes 2 t.est.calArmed.length))
    else .next ((s.calEnd).reply c.val 0 0 (leBytes 2 s.est.calArmed.length)))

/-- R440: the 10 bytes of one group's capacity report. -/
def State.capReport (s : State) (g : Nat) : List Byte :=
  leBytes 4 (s.gr g).cap ++ leBytes 4 (if (s.gr g).capPending then (s.ga g).capPend else 0) ++
  leBytes 2 (condBits [(0, (s.gr g).capPending), (1, (s.gr g).capFlagged), (2, (s.ga g).nominal)])

/-- R440: CMD_CAP_REPORT. -/
def execCmdCapReport (c : Fin 4) (s : State) : Out :=
  s.serve c 0x0402 (fun p => .next (s.reply c.val 0 0 ((List.range (leAt p 2 2)).flatMap (fun k => s.capReport (leAt p 0 2 + k)))))

/-- R204, R440: the capacity of group g becomes cap, and QC is scaled with it. -/
def State.capWrite (s : State) (cap g : Nat) : State :=
  (s.modRec g (fun r => ({ r with cap := cap, qc := divFree 97 (r.qc * cap) r.cap, capPending := false
                                  capFlagged := false }.disarm true).write)).modGa g
    (fun a => { a with capPend := 0 })

/-- R440: CMD_CAP_WRITE. -/
def execCmdCapWrite (c : Fin 4) (s : State) : Out :=
  s.serve c 0x0403 (fun p =>
    if s.est.disMode then .next (s.inhibited c.val 1)
    else
      let gs := if leAt p 0 2 = 0xFFFF then List.range 384 else [leAt p 0 2]
      let s1 := gs.foldl (fun t g => t.capWrite (leAt p 4 4) g) s
      .next ({ s1 with est := { s1.est with commitDue := true } }.ok c.val))

/-- R209, R440: CMD_CAP_COMMIT: the commit runs; MBX_REPLY_POSTED ends it. -/
def execCmdCapCommit (c : Fin 4) (s : State) : Out :=
  s.serve c 0x0404 (fun _ =>
    if s.sys.boWarn then .next (s.inhibited c.val 1)
    else .next s.capOpen)

/-! Parameters (R441). -/

/-- R441: CMD_PARAM_READ. -/
def execCmdParamRead (c : Fin 4) (s : State) : Out :=
  s.serve c 0x0501 (fun p => .next (s.reply c.val 0 0
    ((List.range (leAt p 2 2)).flatMap (fun k => leBytes 4 (s.readParam (leAt p 0 2 + k))))))

/-- R441: the lowest safety index of a range. -/
def safetyIn (i n : Nat) : Option Nat := ((List.range n).map (i + ·)).find? (fun k => (Params.safetyPos k).isSome)

/-- R441: CMD_PARAM_WRITE. (Log entry 60, DEDUCED.) -/
def execCmdParamWrite (c : Fin 4) (s : State) : Out :=
  s.serve c 0x0502 (fun p =>
    let i := leAt p 0 2
    let n := leAt p 2 2
    match safetyIn i n with
    | some k => .next (s.reply c.val 4 k [])
    | none => match s.writeSettings i ((List.range n).map (fun k => leAt p (4 + 4 * k) 4)) with
      | .ok t => .next (t.ok c.val)
      | .error e => .fault (.hostError e))

/-- R438, R441, R453: CMD_SETTINGS_COMMIT: the write of the values held now begins, and MBX_REPLY_POSTED ends it. -/
def execCmdSettingsCommit (c : Fin 4) (s : State) : Out := s.serve c 0x0503 (fun _ => .next s.settingsOpen)

/-- R441, R456: CMD_SETTINGS_DEFAULT. -/
def execCmdSettingsDefault (c : Fin 4) (s : State) : Out :=
  s.serve c 0x0504 (fun _ => .next (s.settingsDefault.ok c.val))

/-! Pairing, keys and nodes (R441). -/

/-- R130, R441: the row that a pairing of row n with a serial conflicts with. -/
def State.pairConflict (s : State) (n serial : Nat) : Option Nat :=
  match s.fnl.rowOf serial with
  | some k => if k = n then none else some k
  | none => if (nth s.fnl.pair n {}).serial ≠ 0 ∧ (nth s.fnl.pair n {}).serial ≠ serial then some n else none

/-- R123: the string link key is drawn when the first node is paired. (Log entry 2, DESIGN CHOICE.) -/
def State.drawKey (s : State) : State :=
  if s.fnl.kL.isSome then s
  else { s with fnl := { s.fnl with kL := some (Config.random s.fresh % 2 ^ 128) }, fresh := s.fresh + 1 }

/-- R125, R130, R441: row n is written; a node of another serial is another sender. -/
def State.pairPut (s : State) (n serial k : Nat) : State :=
  let f := fun (r : PairRow) => { r with serial := serial, kN := k, joinCtr := if r.serial = serial then r.joinCtr else 0 }
  let s1 := { s with fnl := { s.fnl with pair := s.fnl.pair.modify n f } }
  if (nth s.fnl.pair n {}).serial = serial then s1 else s1.modNl n (fun l => { l with lastFc := none, lastFcOld := none })

/-- R441: CMD_PAIR_WRITE. (Log entry 48, DEDUCED.) -/
def execCmdPairWrite (c : Fin 4) (s : State) : Out :=
  s.serve c 0x0601 (fun p =>
    let n := leAt p 0 1
    match s.pairConflict n (leAt p 4 8) with
    | some k => .next (s.reply c.val 10 k [])
    | none => .next (((s.pairPut n (leAt p 4 8) (leAt p 12 16)).drawKey).ok c.val))

/-- R441: row n is emptied. -/
def State.pairDrop (s : State) (n : Nat) : State :=
  ({ s with fnl := { s.fnl with pair := s.fnl.pair.modify n (fun _ => {}) } }).modNl n (fun l => { l with st := 0 })

/-- R437, R441: CMD_PAIR_CLEAR; a joined node is sent LEAVE first, and the reply follows its ACK or its last retry; an empty row is not
found. -/
def execCmdPairClear (c : Fin 4) (s : State) : Out :=
  s.serve c 0x0602 (fun p =>
    let n := leAt p 0 1
    if s.nodeJoined n then .next (s.queueCmd n 8 [] (some c.val))
    else if (nth s.fnl.pair n {}).serial = 0 then .next (s.reply c.val 8 n [])
    else .next ((s.pairDrop n).reply c.val 0 0 (leBytes 1 0)))

/-- R441: CMD_PAIR_READ. -/
def execCmdPairRead (c : Fin 4) (s : State) : Out :=
  s.serve c 0x0603 (fun _ => .next (s.reply c.val 0 0 (s.fnl.pair.flatMap (fun r : PairRow =>
    if r.serial = 0 then List.replicate 12 0 else leBytes 8 r.serial ++ leBytes 4 (keyTag r.kN)))))

/-- R127: SET_LINK_KEY for node n; its parameters are formed as it is sent. -/
def State.queueKey (s : State) (n : Nat) : State := s.queueCmd n 6 [] none

/-- R127: a link-key change starts; with no node joined nothing is waited for. (Log entry 2, DESIGN CHOICE.) -/
def State.keyChange (s : State) : State :=
  let k := Config.random s.fresh % 2 ^ 128
  let ns := (List.range 48).filter s.nodeJoined
  let s1 := { s with fnl := { s.fnl with changing := true, kLNew := some k, keySent := false,
                                          links := s.fnl.links.map (fun l : NLink => { l with keyAck := false }) }, fresh := s.fresh + 1 }
  let s2 := ns.foldl (fun t n => t.queueKey n) s1
  if ns.isEmpty then { s2 with fnl := s2.fnl.endKeyChange } else s2

/-- R127, R441: CMD_LINK_KEY_CHANGE. (Log entry 48, DEDUCED.) -/
def execCmdLinkKeyChange (c : Fin 4) (s : State) : Out :=
  s.serve c 0x0604 (fun _ => if s.fnl.changing then .next (s.inhibited c.val 1) else .next (s.keyChange.ok c.val))

/-- R441: CMD_NODE_CMD: GET_INFO or NODE_RESET; the reply follows the node's ACK or the last retry. -/
def execCmdNodeCmd (c : Fin 4) (s : State) : Out :=
  s.serve c 0x0605 (fun p =>
    .next (s.queueCmd (leAt p 0 1) (leAt p 1 1) (if leAt p 1 1 = 3 then [leAt p 2 1] else []) (some c.val)))

/-! The event log (R441, R484). -/

/-- R441: CMD_LOG_READ. (Log entry 47, DEDUCED.) -/
def execCmdLogRead (c : Fin 4) (s : State) : Out :=
  s.serve c 0x0701 (fun p => .next (s.reply c.val 0 0 ((List.range (leAt p 2 1)).flatMap (fun k => s.slotBytes ((leAt p 0 2 + k) % 65536)))))

/-- R484: the NOTICE 0x0F01 is written after every record posted before it, and FLOOR takes its sequence number. -/
def State.logClear (s : State) (src : Nat) : State :=
  let s1 := s.logDrain
  let old := s1.log.seq
  let r : LogRec := { pcc := s1.sys.pcc, opsec := s1.sys.opsec, time := s1.lmp.time, code := 0x0F01, sev := 1, src := 0,
                      data := data6 ([src, 0] ++ le4 old) }
  let l := s1.log.write s1.sys.clock r
  { s1 with log := if l.seq = old then l else { l with floor := l.seq } }

/-- R441, R484: CMD_LOG_CLEAR. -/
def execCmdLogClear (c : Fin 4) (s : State) : Out :=
  s.serve c 0x0702 (fun _ => .next ((s.logClear (s.srcOf c.val).code).ok c.val))

/-! The safety configuration (R353 to R357, R443, R444). -/

/-- R354, R437: whole seconds of the lock left (rounding left open). -/
def State.lockLeft (s : State) : Nat := (divFree 98 (4915200 - ((s.sys.clock : Int) - s.sag.lockAt)) 8192).toNat

/-- R354, R444: a login succeeds: it ends the login before it. -/
def State.loginOk (s : State) (c : Nat) : State :=
  { s with sag := { s.sag with login := some (c, s.srcOf c), staged := [], loginFail := 0 } }

/-- R354, R443: CMD_SAG_LOGIN. (Log entry 46, DEDUCED.) -/
def execCmdSagLogin (c : Fin 4) (s : State) : Out :=
  s.serve c 0x0901 (fun p =>
    if s.sag.locked then .next (s.reply c.val 5 s.lockLeft [])
    else if s.sag.pwOk (pwField p 0).2 then .next ((s.loginOk c.val).ok c.val)
    else .next ((s.loginFails (s.srcOf c.val).code).reply c.val 4 0 []))

/-- R444: the login open is that of channel c and its source. -/
def State.loggedIn (s : State) (c : Nat) : Bool := s.sag.login == some (c, s.srcOf c)

/-- R443: the entries of a CMD_SAG_STAGE: index and value. -/
def stageEntries (p : List Byte) : List (Nat × Int) :=
  let o := if leAt p 0 1 = 0 then 4 else 20
  (List.range (leAt p 2 2)).map (fun k => (leAt p (o + 8 * k) 2, settingVal (leAt p (o + 8 * k) 2) (leAt p (o + 4 + 8 * k) 4)))

/-- R355, R443: values are staged; a later one for an index replaces the one before. -/
def State.stage (s : State) (l : List (Nat × Int)) : State :=
  { s with sag := { s.sag with staged := l.foldl (fun m x => bindI m x.1 x.2) s.sag.staged } }

/-- R355, R443: CMD_SAG_STAGE. -/
def execCmdSagStage (c : Fin 4) (s : State) : Out :=
  s.serve c 0x0902 (fun p =>
    if !s.loggedIn c.val then .next (s.reply c.val 4 0 [])
    else
      let t := s.stage (stageEntries p)
      .next (t.reply c.val 0 0 (leBytes 2 t.sag.staged.length)))

/-- R335, R355: the index for which the staged set is refused; an index that is no safety parameter has no value in range. (Log entry 46,
DEDUCED.) -/
def State.stagedBad (s : State) : Option Nat :=
  let odd := (s.sag.staged.map (·.1)).filter (fun i => (Params.safetyPos i).isNone)
  match odd, cfgBad s.stagedCfg with
  | [], b => b
  | i :: _, some k => if (Params.safetyPos k).isSome && !inRange k (cfgVal s.stagedCfg k) && decide (k < i) then some k else some i
  | i :: _, none => some i

/-- R355: the checks of a commit after the state and the login: reply code and DETAIL of the one that fails. -/
def State.commitBar (s : State) : Option (Nat × Nat) :=
  match s.stagedBad with
  | some k => some (6, k)
  | none => if s.sag.clogFree ≤ s.cfgChanges.length then some (7, s.sag.clogFree) else none

/-- R355, R438, R443: CMD_SAG_COMMIT: where the checks pass the write begins, and MBX_REPLY_POSTED ends it. (Log entry 46, DEDUCED.) -/
def execCmdSagCommit (c : Fin 4) (s : State) : Out :=
  s.serve c 0x0903 (fun _ =>
    if !s.loggedIn c.val then .next (s.reply c.val 4 0 [])
    else match s.commitBar with
    | some b => .next (s.reply c.val b.1 b.2 [])
    | none => .next (s.cfgOpen (s.srcOf c.val).code))

/-- R355: the staged values are discarded and the login ends. -/
def State.sagAbort (s : State) : State := { s with sag := { s.sag with staged := [], login := none } }

/-- R443: CMD_SAG_ABORT. -/
def execCmdSagAbort (c : Fin 4) (s : State) : Out := s.serve c 0x0904 (fun _ => .next (s.sagAbort.ok c.val))

/-- R353: the old password of a change is right: empty while none is set. -/
def State.oldPwOk (s : State) (p : List Byte) : Bool := if s.sag.pw.isNone then pwEmpty p 0 else s.sag.pwOk (pwField p 0).2

/-- R353, R357, R443: CMD_SAG_PASSWORD. (Log entry 46, DEDUCED.) -/
def execCmdSagPassword (c : Fin 4) (s : State) : Out :=
  s.serve c 0x0905 (fun p =>
    if !s.oldPwOk p then .next (s.reply c.val 4 0 [])
    else if s.sag.clogFree ≤ 1 then .next (s.reply c.val 7 s.sag.clogFree [])
    else .next ((s.setPassword (pwField p 13).2 (s.srcOf c.val).code).ok c.val))

/-- R356: the 32 bytes of an entry. -/
def ClogEntry.bytes (e : ClogEntry) : List Byte :=
  let b := leBytes 4 e.seq ++ leBytes 4 e.opsec ++ leBytes 4 e.pcc ++ leBytes 1 e.kind ++ leBytes 1 e.source ++ leBytes 2 e.index ++
    leBytes 4 (enc 32 e.old) ++ leBytes 4 (enc 32 e.new) ++ leBytes 4 e.cfgCrc
  b ++ leBytes 4 (crc32c b)

/-- R356: the entry with number q; one never written reads 0. -/
def Sag.clogAt (g : Sag) (q : Nat) : List Byte :=
  match g.clog.find? (fun e => e.seq == q) with | some e => e.bytes | none => List.replicate 32 0

/-- R357, R443: CMD_SAG_LOG_READ. -/
def execCmdSagLogRead (c : Fin 4) (s : State) : Out :=
  s.serve c 0x0906 (fun p =>
    let q := leAt p 0 4
    if s.sag.clogSeq < q then .next (s.reply c.val 8 q [])
    else .next (s.reply c.val 0 0 ((List.range (leAt p 4 1)).flatMap (fun k => s.sag.clogAt (q + k)))))

/-- R357: the entries up to number q are free, and the acknowledgement is entered. -/
def State.clogAckTo (s : State) (q source : Nat) : State :=
  let old := s.sag.clogAck
  ({ s with sag := { s.sag with clogAck := max old q } }).clogAdd 3 source 0xFFFF old (max old q : Nat)

/-- R357, R443: CMD_SAG_LOG_ACK. (Log entry 46, DEDUCED.) -/
def execCmdSagLogAck (c : Fin 4) (s : State) : Out :=
  s.serve c 0x0907 (fun p =>
    let q := leAt p 16 4
    if !s.sag.pwOk (pwField p 0).2 then .next (s.reply c.val 4 0 [])
    else if s.sag.clogSeq < q then .next (s.reply c.val 6 s.sag.clogSeq [])
    else .next ((s.clogAckTo q (s.srcOf c.val).code).ok c.val))

/-! The ends of what runs (R434, R438). -/

/-- R138, R438: the schedule load that the MGP started itself has ended: a swap is requested. -/
def State.ownLoad (s : State) : State :=
  let s1 := { s with mbx := { s.mbx with own := 0, long := false }, fnl := { s.fnl with loading := none } }
  match s.fnl.loading with
  | none => s1
  | some k => match s1.image k with
    | none => s1
    | some i => (s1.loadShadow k i).askSwap

/-- R438: the MGP's own long operation ends; `rb` is what the read-back of a commit gives. -/
def State.ownEnd (s : State) (rb : Bool) : State :=
  match s.mbx.own with
  | 1 => if s.fsq.swapBusy then s else s.ownLoad
  | 2 => ({ s with mbx := { s.mbx with own := 0, long := false } }).capCommitEnd rb
  | _ => s

/-- R209, R440: the commit of CMD_CAP_COMMIT ends, or goes on with its one retry. -/
def State.capReply (s : State) (c : Nat) (rb : Bool) : State :=
  let t := s.capCommitEnd rb
  if rb then t.reply c 0 0 (leBytes 4 t.est.capSeq)
  else if t.est.commitRetry then t.capOpen
  else t.reply c 9 1 []

/-- R441, R453: the write of CMD_SETTINGS_COMMIT ends; `rb` says that the read-back checks. -/
def State.settingsReply (s : State) (c : Nat) (rb : Bool) : State :=
  let t := s.settingsEnd rb
  if rb then t.reply c 0 0 (leBytes 4 (commitTarget s.dict.slots).2) else t.reply c 9 1 []

/-- R355, R358, R443: the write of CMD_SAG_COMMIT ends; `rb` says that the read-back checks. -/
def State.sagReply (s : State) (c : Nat) (rb : Bool) : State :=
  let t := s.cfgEnd
  if rb then t.reply c 0 0 (leBytes 4 t.sag.clogSeq ++ leBytes 4 (cfgCrc t.sag.cfg)) else s.cfgFail.reply c 9 0 []

/-- R439: the end of the switchover that CMD_SWAP asked for. -/
def State.swapReply (s : State) (c : Nat) : State :=
  let t := { s with prl := { s.prl with swapChan := none } }
  match s.prl.swap with
  | .done => t.reply c 0 0 (leBytes 4 s.prl.mirrorSeq ++ leBytes 4 s.prl.lastGap)
  | .abandoned => t.reply c 9 4 []
  | .refused => t.reply c 9 5 []
  | _ => s

/-- R440: the reply of a stored-schedule load waits for the check of R97, whose code it gives. -/
def State.loadReply (s : State) (c detail : Nat) (data : List Byte) : State :=
  if leAt data 6 1 = 1 then
    if s.fsq.swapCode = 1 then s else s.reply c 0 detail (data.take 6 ++ leBytes 1 s.fsq.swapCode ++ leBytes 1 0)
  else s.reply c 0 detail data

/-- R434, R438: the reply of channel c, where what it waits for has ended. -/
def State.postEnd (s : State) (c : Nat) (rb : Bool) : State :=
  match (s.ch c).req with
  | none => s
  | some r =>
    if (s.ch c).st ≠ .running then s
    else match (s.ch c).outcome with
    | some (rc, d, data) => if r.code = 0x0201 then s.loadReply c d data else s.reply c rc d data
    | none =>
      if r.code = 0x0404 && s.est.capBusy then s.capReply c rb
      else if r.code = 0x0503 && s.dict.job.isSome then s.settingsReply c rb
      else if r.code = 0x0903 && s.sag.job.isSome then s.sagReply c rb
      else if r.code = 0x0108 && s.prl.swapChan == some c then s.swapReply c
      else s

/-- R434, R438: MBX_REPLY_POSTED on channel c, or the end of an operation of the MGP's own (none); `rb` is the read-back of a
capacity, settings or safety commit. -/
def execMbxReplyPosted (c : Option (Fin 4)) (rb : Bool) (s : State) : Out :=
  if s.sys.mgpAway then .next s
  else match c with
  | some k => .next (s.postEnd k.val rb)
  | none => .next (s.ownEnd rb)

end Sys2Proof.Machine
end

