-- ==== Sys2Proof/Machine/CsmArb.lean ====
section
/-! DEFINITION. The arbiter of the cell state memory (R28 to R36, R40). -/

namespace Sys2Proof.Machine

/-- R28: the class of a requester: 0 high, 1 normal, 2 low. -/
def reqClass (r : Nat) : Nat := r / 2

/-- R38: the settings in force for a window that starts now. -/
def State.arbSettings (s : State) : List Nat :=
  [s.parN P.csmHqQuota0, s.parN P.csmHqQuota1, s.parN P.csmLowFloor] ++
    (List.range 6).map (fun k => s.parN (P.csmBurstLim0 + k))

/-- R30, R33, R38: at round 0 the settings are taken and all masks clear. -/
def Arb.openWindow (a : Arb) (cfg : List Nat) : Arb :=
  if a.round = 0 then { a with cfg := cfg, hq := [0, 0] } else a

/-- R33: requester r is masked by its quota. -/
def Arb.masked (a : Arb) (r : Nat) : Bool := r < 2 && nth a.cfg r 0 ≤ nth a.hq r 0

/-- R32: the round is one of the last CSM_LOW_FLOOR rounds of its window. -/
def Arb.floorRound (a : Arb) : Bool := 64 ≤ a.round + nth a.cfg 2 0

/-- R31: requester r has a pending request that is eligible. -/
def Arb.eligible (a : Arb) (want : List Nat) (r : Nat) : Bool :=
  0 < nth want r 0 && !a.masked r && nth a.wait r 0 == 0

/-- R36: a low-class request takes part in a floor round even while backing off. -/
def Arb.floorLow (a : Arb) (want : List Nat) (r : Nat) : Bool := a.floorRound && reqClass r == 2 && 0 < nth want r 0

/-- R32: of the two requesters of class c, those that `ok` allows, the one whose turn it is. -/
def Arb.turn (a : Arb) (c : Nat) (ok : Nat → Bool) : Option Nat :=
  let first := if nth a.last c 0 == 2 * c then 2 * c + 1 else 2 * c
  let second := if first == 2 * c then 2 * c + 1 else 2 * c
  if ok first then some first else if ok second then some second else none

/-- R32, R36: the requester that this round grants. -/
def Arb.winner (a : Arb) (want : List Nat) : Option Nat :=
  match a.turn 2 (a.floorLow want) with
  | some r => some r
  | none => match a.turn 0 (a.eligible want) with
    | some r => some r
    | none => match a.turn 1 (a.eligible want) with
      | some r => some r
      | none => a.turn 2 (a.eligible want)

/-- R35, R36: back-off of requester r after a round won by w: its remaining rounds and its next count; one that is backing off and loses a
floor round goes on counting down. (Log entry 87, DESIGN CHOICE.) -/
def Arb.backoff (a : Arb) (want : List Nat) (w : Option Nat) (r : Nat) : Nat × Nat :=
  let wt := nth a.wait r 0
  let ct := nth a.count r 1
  if w = some r then (0, 1)
  else if wt ≠ 0 then (wt - 1, ct)
  else if !a.eligible want r then (0, ct)
  else match w with
    | none => (0, ct)
    | some x =>
      if a.floorRound && reqClass x == 2 then (if reqClass r = 2 then (ct, ct) else (0, ct))
      else (ct, min 32 (2 * ct))

/-- R33, R40: requester r is, or becomes, masked while it still has a request: a level, so that after a read-and-clear the next round of the
window sets the bit again. (Log entry 87, DESIGN CHOICE.) -/
def Arb.hits (a : Arb) (want : List Nat) (r : Nat) : Bool := nth a.hit r false || (a.masked r && 0 < nth want r 0)

/-- R29 to R36: one arbitration round with the words each requester still asks for. -/
def Arb.arbitrate (a0 : Arb) (cfg want : List Nat) : Arb :=
  let a := a0.openWindow cfg
  let w := a.winner want
  let bo : List (Nat × Nat) := (List.range 6).map (a.backoff want w)
  let moved := match w with | some r => min (nth want r 0) (nth a.cfg (3 + r) 0) | none => 0
  let want1 := match w with | some r => want.set r (nth want r 0 - moved) | none => want
  let hq := match w with | some r => if r < 2 then a.hq.modify r (· + 1) else a.hq | none => a.hq
  let a1 := { a with
    wait := bo.map Prod.fst, count := bo.map Prod.snd, granted := w, words := moved, hq := hq
    last := match w with | some r => a.last.set (reqClass r) r | none => a.last }
  { a1 with hit := [a1.hits want1 0, a1.hits want1 1], round := (a.round + 1) % 64 }

/-- R29: CSM_ARBITRATION_ROUND: takes place when the CSM answers and a request is pending. -/
def execCsmArbitrationRound (want : List Nat) (s : State) : Out :=
  if s.up 6 && want.any (0 < ·) then
    .next { s with csm := { s.csm with arb := s.csm.arb.arbitrate s.arbSettings want } }
  else .next s

end Sys2Proof.Machine
end

