-- ==== Sys2Proof/Machine/Update.lean ====
section
/-! DEFINITION. Field update and node commands (R119, R402, R442, R457 to R474): the transfer and its chain, staging, activation
and rollback, the return of the MGP, node ACKs and retries, and the roll-out of DN8 firmware. -/

namespace Sys2Proof.Machine

/-! The manifest (R458, R459, R461). -/

/-- R459: part entry k of a manifest. -/
def partOf (m : List Byte) (k : Nat) : Part :=
  let o := 64 + 48 * k
  { kind := leAt m o 1, slot := leAt m (o + 1) 1, version := leAt m (o + 4) 4, length := leAt m (o + 8) 4,
    format := leAt m (o + 12) 2, digest := leAt m (o + 16) 32 }

/-- R459: the longest LENGTH of a kind. -/
def longest (kind : Nat) : Nat :=
  match kind with
  | 1 => 1048576
  | 3 => 524288
  | 6 => 65600
  | _ => 262144

/-- R459: KIND, SLOT and LENGTH of a part. -/
def Part.formOk (p : Part) : Bool :=
  decide (1 ≤ p.kind) && decide (p.kind ≤ 6) &&
    (if p.kind = 6 then decide (p.slot < 4) else p.slot == 0) && decide (p.length ≤ longest p.kind)

/-- R459: no kind and no schedule slot is listed twice. -/
def keysOnce : List (Nat × Nat) → Bool
  | [] => true
  | k :: l => !l.contains k && keysOnce l

/-- R461: the manifest in the bytes m, if it passes every check on a module of hardware revision hw. -/
def manifestOf (hw : Nat) (m : List Byte) : Option Manifest :=
  let n := leAt m 6 2
  let ps := (List.range n).map (partOf m)
  if leAt m 0 4 == 0x4E414D55 && leAt m 4 2 == 1 && decide (1 ≤ n) && decide (n ≤ 9) && m.length == 64 + 48 * n &&
      leAt m 32 32 == sha256 (m.drop 64) && leAt m 12 2 == 0x30 && decide (leAt m 14 1 ≤ hw) && decide (hw ≤ leAt m 15 1) &&
      ps.all Part.formOk && keysOnce (ps.map Part.key)
  then some { id := leAt m 8 4, parts := ps } else none

/-- R461: a part stands in the receiving bank already. -/
def Upd.keptOf (u : Upd) (p : Part) : Option Part :=
  u.bank.find? (fun b => b.key == p.key && b.length == p.length && b.digest == p.digest)

/-- R462: DIGEST and signature of a part check on the bytes d. -/
def Part.good (p : Part) (d : List Byte) : Bool := sha256 d == p.digest && (p.kind == 6 || Config.sigOk d)

/-- R461: the manifest is taken; parts kept from an earlier update are complete at once. -/
def Upd.takeManifest (u : Upd) (m : Manifest) : Upd :=
  let data := m.parts.map (fun p => match u.keptOf p with | some b => b.data | none => [])
  let whole := (indexed m.parts).filter (fun (kp : Nat × Part) =>
    (nth data kp.1 []).length == kp.2.length && kp.2.good (nth data kp.1 []))
  { u with man := some m, cur := data, checked := whole.map (·.1) }

/-! Transfer (R402, R461). -/

/-- R402: the bytes that part k of the update has, and the NEXT of it. -/
def Upd.bytesOf (u : Upd) (k : Nat) : List Byte := if k = 0xFFFF then u.manBuf else u.got k

/-- R402: the length of part k, 0xFFFF being the manifest; none where no such part is open. -/
def Upd.lengthOf (u : Upd) (k : Nat) : Option Nat :=
  if k = 0xFFFF then some u.manLen
  else match u.man with
  | some m => (m.parts[k]?).map (·.length)
  | none => none

/-- R461: the manifest is complete. -/
def State.manifestDone (s : State) : State :=
  match manifestOf s.sys.hwRev s.upd.manBuf with
  | some m => { s with upd := s.upd.takeManifest m }
  | none => (s.updFault 0 0 0xFFFF).updEnd

/-- R462: part k is complete: its DIGEST and signature are checked. -/
def State.partDone (s : State) (k : Nat) : State :=
  match s.upd.man with
  | none => s
  | some m => match m.parts[k]? with
    | none => s
    | some p => if p.good (s.upd.got k) then { s with upd := { s.upd with checked := s.upd.checked.filter (· != k) ++ [k] } } else s

/-- R402: a block in order is written to part k of length n. -/
def State.blockPut (s : State) (k n : Nat) (b : List Byte) : State :=
  let d := s.upd.bytesOf k ++ b
  if k = 0xFFFF then
    let s1 := { s with upd := { s.upd with manBuf := d } }
    if d.length = n then s1.manifestDone else s1
  else
    let s1 := { s with upd := { s.upd with cur := s.upd.cur.set k d } }
    if d.length = n then s1.partDone k else s1

/-- R402: the reply with NEXT. -/
def State.blockReply (s : State) (i : Nat) (x : Tx) (next : Nat) : State :=
  s.sessReply i x { type := 10, status := 0, payload := leBytes 4 next }

/-- R402, R461, R463: UPD_BLOCK: a block of a part at an offset. (Log entry 57, DEDUCED.) -/
def execUpdBlock (x : Tx) (s : State) : Out :=
  s.transact x 10 (fun t i =>
    let k := leAt x.payload 0 2
    let offset := leAt x.payload 4 4
    let bytes := x.payload.drop 8
    if !t.mayAct x.addr then .next (t.sessStatus i x 10 10)
    else if t.sys.mgpAway then .next (t.sessStatus i x 10 1)
    else if !t.upd.isOpen || decide (1024 < bytes.length) then .next (t.sessStatus i x 10 5)
    else match t.upd.lengthOf k with
    | none => .next (t.sessStatus i x 10 5)
    | some n =>
      if t.upd.roll != .none then .next (t.blockReply i x n)
      else
        let next := (t.upd.bytesOf k).length
        if offset = next ∧ n < next + bytes.length then .next (t.sessStatus i x 10 5)
        else
          let t1 := { t with upd := { t.upd with phase := 1 } }
          if offset ≠ next then .next (t1.blockReply i x next)
          else if bytes.isEmpty then .next (t1.blockReply i x next)
          else .next ((t1.blockPut k n bytes).blockReply i x (next + bytes.length)))

/-! Forwarding (R462). -/

/-- R462: NEXT of part k at the neighbour. -/
def Upd.fwdAt (u : Upd) (k : Nat) : Nat := ((u.fwdNext.find? (fun x => x.1 == k)).map (·.2)).getD 0

/-- R462: what is forwarded, in order: the manifest, then each part whose check has passed; with its length. -/
def Upd.fwdList (u : Upd) : List (Nat × Nat) :=
  match u.man with
  | none => []
  | some m => (0xFFFF, u.manLen) ::
      ((indexed m.parts).filter (fun (kp : Nat × Part) => u.checked.contains kp.1)).map (fun (kp : Nat × Part) => (kp.1, kp.2.length))

/-- R462: forwarding is complete. -/
def Upd.fwdDone (u : Upd) : Bool :=
  u.nextFam == 0 || match u.man with
  | none => false
  | some m => u.fwdAt 0xFFFF == u.manLen && (indexed m.parts).all (fun (kp : Nat × Part) => u.fwdAt kp.1 == kp.2.length)

/-- R388, R391, R462: what the neighbour has answered to the request sent last: the session of a version 3 HELLO, the NEXT of a block, or
an end of the session. Any answer ends the wait for its TID. (Log entry 86, DESIGN CHOICE.) -/
def Upd.fwdReply (u : Upd) (reply : Option (List Byte)) : Upd :=
  match reply with
  | none => u
  | some d =>
    let x : Tx := { dg := d }
    if !x.headOk || !bitOf (leAt d 11 1) 0 || x.tid != u.fwdTid then u
    else
      let v := { u with fwdTid := (u.fwdTid + 1) % 65536 }
      match x.type, leAt d 10 1, u.fwdSent with
      | 1, 0, _ => if leAt x.payload 0 1 = 3 then { v with fwdSess := some (leAt x.payload 2 2) } else v
      | 10, 0, some (k, _) =>
        let n := leAt x.payload 0 4
        { v with fwdNext := u.fwdNext.filter (fun y => y.1 != k) ++ [(k, n)], fwdStall := if u.fwdAt k < n then 0 else u.fwdStall }
      | _, 7, _ => { v with fwdSess := none }
      | _, _, _ => v

/-- R388, R392, R462: the HELLO by which a module opens a version 3 session at its neighbour, as a host with its own serial number. -/
def State.fwdHello (s : State) : List Byte :=
  dgram 1 1 s.upd.fwdTid 0 0 0 (leBytes 1 3 ++ leBytes 1 3 ++ leBytes 2 0 ++ leBytes 8 s.sys.serial ++ leBytes 4 Config.fwdMask.toNat)

/-- R402, R462: the UPD_BLOCK of part k that starts at the neighbour's NEXT, in session n. -/
def Upd.fwdBlock (u : Upd) (n k : Nat) : List Byte :=
  dgram 3 10 u.fwdTid n 0 0 (leBytes 2 k ++ leBytes 2 0 ++ leBytes 4 (u.fwdAt k) ++ ((u.bytesOf k).drop (u.fwdAt k)).take 1024)

/-- R462: the next request to the neighbour, for part k. -/
def State.fwdSend (s : State) (k : Nat) : State :=
  match s.upd.fwdSess with
  | none => { s with upd := { s.upd with fwdOut := s.fwdHello } }
  | some n => { s with upd := { s.upd with fwdSent := some (k, s.upd.fwdAt k), fwdOut := s.upd.fwdBlock n k } }

/-- R462: BLOCK_FORWARD_REPEAT: 100 ms after the request before, with the datagram that the neighbour has answered (none: no answer). (Log
entry 57, DEDUCED.) -/
def execBlockForwardRepeat (reply : Option (List Byte)) (s : State) : Out :=
  if s.upd.nextFam = 0 || s.upd.phase = 0 || s.sys.mgpAway then .next s
  else
    let u := s.upd.fwdReply reply
    match u.fwdList.find? (fun x => decide (u.fwdAt x.1 < x.2)) with
    | none => .next { s with upd := { u with fwdSent := none, fwdOut := [], fwdStall := 0 } }
    | some (k, _) =>
      let s1 := ({ s with upd := { u with fwdStall := u.fwdStall + 1 } } : State).fwdSend k
      .next (if u.fwdStall + 1 = 100 then s1.updFault 0 4 k else s1)

/-! The update commands (R442, R463 to R465, R473). -/

/-- R442: an update opens. -/
def Upd.begin (u : Upd) (p : List Byte) : Upd :=
  { u.finish with phase := 1, manLen := leAt p 0 4, nextFam := leAt p 4 1, nextPort := leAt p 6 2, nextAddr := leAt p 8 16, done := 0 }

/-- R50, R442, R473: CMD_UPDATE_BEGIN. (Log entry 44, DEDUCED.) -/
def execCmdUpdateBegin (c : Fin 4) (s : State) : Out :=
  s.serve c 0x0801 (fun p =>
    if s.sys.st = .pilot ∧ s.upd.isOpen then .next (s.inhibited c.val 1)
    else
      let s1 := ({ s with upd := s.upd.begin p }).toMaintenance.moved
      .next (s1.reply c.val 0 0 (leBytes 2 1024 ++ leBytes 2 0)))

/-- R463: part p passes every check on the bytes d. -/
def Part.stages (p : Part) (d : List Byte) : Bool :=
  d.length == p.length && p.good d && (p.kind != 3 || Config.sagVerify d) && (p.kind != 6 || (schedOf d).checks)

/-- R442: PARTS and FAIL_PART. -/
def stageData (parts fail : Nat) : List Byte := leBytes 2 parts ++ leBytes 2 fail

/-- R463: every part is verified; the first that fails is discarded. (Log entry 56, DEDUCED.) -/
def State.stageUpdate (s : State) (c : Nat) : State :=
  match s.upd.man with
  | none => s.result c 9 3 (stageData 0 0xFFFF)
  | some m =>
    match (indexed m.parts).find? (fun (kp : Nat × Part) => !kp.2.stages (s.upd.got kp.1)) with
    | none => ({ s with upd := { s.upd with phase := 2 } }).result c 0 0 (stageData m.parts.length 0xFFFF)
    | some (k, p) =>
      let u := { s.upd with cur := s.upd.cur.set k [], checked := s.upd.checked.filter (· != k), phase := 1
                            bank := withoutKeys [p.key] s.upd.bank }
      (({ s with upd := u }).updFault 0 1 k).result c 9 3 (stageData m.parts.length k)

/-- R442, R463: CMD_UPDATE_STAGE. -/
def execCmdUpdateStage (c : Fin 4) (s : State) : Out := s.serve c 0x0802 (fun _ => .next (s.stageUpdate c.val))

/-- R464: the saggar part that the manifest lists. -/
def Upd.sagPart (u : Upd) : Option Part := match u.man with | some m => m.parts.find? (fun p => p.kind == 3) | none => none

/-- R464: the conditions that inhibit an activation. -/
def State.activateBars (s : State) : Nat :=
  let pilot := s.sys.st == .pilot
  let sag := s.upd.sagPart
  condBits [(0, sag.isSome && s.sys.base != .isolated && !pilot), (1, !s.upd.fwdDone),
            (2, pilot && sag.elim false (fun p => p.format != s.sys.fmtSag)),
            (3, sag.isSome && decide (s.sag.clogFree < 3)), (4, s.upd.phase != 2)]

/-- R460, R465: the activation record names the receiving bank for every listed kind and slot, with CONFIRMED 0. (Log entry 56, DEDUCED.)
-/
def Upd.activate (u : Upd) : Upd :=
  let l := u.listed.map (fun (kp : Nat × Part) => kp.2.key)
  { u.merged.swapBanks l with act := l, confirmed := false, phase := 3, handoff := true, copied := false, rolledBack := false }

/-- R26, R465, R467: the MGP hands over to the loader: the banked state is committed, and waiting requests are held. -/
def State.mgpGoes (s : State) : State :=
  { s with sys := { s.sys with mgpAway := true }, mbx := s.mbx.mgpGone, sag := { s.sag with login := none }
           log := { s.log with banked := some (s.csm.recs, s.est) }, est := { s.est with planDue := true } }

/-- R465: the DIGEST of every staged part checks again. -/
def Upd.digestsOk (u : Upd) : Bool := u.listed.all (fun (kp : Nat × Part) => sha256 (u.got kp.1) == kp.2.digest)

/-- R442, R464, R465: CMD_UPDATE_ACTIVATE. -/
def execCmdUpdateActivate (c : Fin 4) (s : State) : Out :=
  s.serve c 0x0803 (fun _ =>
    if s.activateBars ≠ 0 then .next (s.inhibited c.val s.activateBars)
    else if !s.upd.digestsOk then .next (s.reply c.val 9 3 [])
    else .next (({ s with upd := s.upd.activate }).ok c.val).mgpGoes)

/-- R442, R473: CMD_UPDATE_ABORT; after confirmation it stops only the roll-out. -/
def execCmdUpdateAbort (c : Fin 4) (s : State) : Out :=
  s.serve c 0x0804 (fun _ =>
    .next ((if s.upd.roll != .none then s.updEnd else ({ s with upd := s.upd.discard }).updEnd).ok c.val))

/-- R442, R472: NEXT of the part being received, or the number of nodes done in a roll-out. -/
def Upd.statusNext (u : Upd) : Nat :=
  if u.roll != .none then u.done
  else match u.man with
  | none => u.manBuf.length
  | some m => match (indexed m.parts).find? (fun (kp : Nat × Part) => decide ((u.got kp.1).length < kp.2.length)) with
    | some (k, _) => (u.got k).length
    | none => (m.parts.getLast?.map (·.length)).getD 0

/-- R442: CMD_UPDATE_STATUS. -/
def execCmdUpdateStatus (c : Fin 4) (s : State) : Out :=
  s.serve c 0x0805 (fun _ => .next (s.reply c.val 0 0
    (leBytes 1 s.upd.phase ++ leBytes 1 0 ++ leBytes 2 ((s.upd.man.map (·.parts.length)).getD 0) ++ leBytes 4 s.upd.statusNext)))

/-! The MGP away and back (R55, R465 to R470). -/

/-- R434, R467: what ran for the request of channel c no longer answers it; a node command that has not been sent is not executed. -/
def State.forget (s : State) (c : Nat) : State :=
  { s with prl := { s.prl with swapChan := if s.prl.swapChan = some c then none else s.prl.swapChan }
           fnl := { s.fnl with cmdQ := (s.fnl.cmdQ.filter (fun q => q.inFlight || q.chan != some c)).map (fun q =>
             if q.chan = some c then { q with chan := none } else q) } }

/-- R467: held requests that p accepts are answered BUSY. -/
def State.heldBusy (s : State) (p : Chan → Bool) : State :=
  (List.range 4).foldl (fun t c => if (t.ch c).st = .held && p (t.ch c) then (t.reply c 1 0 []).forget c else t) s

/-- R55, R212, R319, R343, R492: the MGP is back: what it has not sent is caught up, and the monitor prints MGP RESUMED. -/
def State.mgpBack (s : State) : State :=
  let s1 := { s with sys := { s.sys with mgpAway := false, mgpLost := false }, spy := { s.spy with out := ["! MGP RESUMED"] } }
  let s2 := if (s1.sys.st, s1.sys.base) = s1.sys.lastReported then s1 else s1.announce
  (((s2.isoCatchUp.lostCatchUp).coneCatchUp).thmCatchUp).setDeg 8 false

/-- R55, R467: MGP_RESUME after a watchdog reset. (Log entry 23, DEDUCED.) -/
def execMgpResume (s : State) : Out :=
  if !s.sys.mgpAway || s.sys.mgpStaysAway || s.upd.handoff then .next s
  else .next (s.mgpBack.heldBusy (·.wasRunning))

/-- R466: rollback: the activation record with the previous banks; the loader restores the previous image. (Log entry 56, DEDUCED.) -/
def State.rollBack (s : State) : State :=
  ({ s with upd := { s.upd.revert with copied := false, rolledBack := true } }).updFault 5 2 1

/-- R70, R466: the previous image is not ready either: the MGP stays away. -/
def State.staysAway (s : State) : State :=
  { s with sys := { s.sys with mgpStaysAway := true }, upd := { s.upd with handoff := false, copied := false } }

/-- R50, R465, R466: in the loader-only service the new image starts from BOOT. (Log entry 56, DEDUCED.) -/
def State.loaderBoot (s : State) : State :=
  let s1 := s.heldBusy (fun _ => true)
  { s1 with
    sys := { s1.sys with st := .boot, base := .boot, prev := s1.sys.st, loaderOnly := false, mgpAway := false }
    upd := { s1.upd with handoff := false, loaderStart := true } }

/-- R465, R466: LOADER_COPY_DONE: the copy is made; `ok` says that its signature checks. -/
def execLoaderCopyDone (ok : Bool) (s : State) : Out :=
  if !s.upd.handoff || s.upd.copied then .next s
  else if !ok then .next (if s.upd.rolledBack then s.staysAway else s.rollBack)
  else if s.sys.loaderOnly && !s.upd.rolledBack then .next s.loaderBoot
  else .next { s with upd := { s.upd with copied := true } }

/-- R466: NEW_MGP_TIMEOUT: not ready within 1,500 ms. (Log entry 56, DEDUCED.) -/
def execNewMgpTimeout (s : State) : Out :=
  if !s.upd.handoff || !s.upd.copied then .next s
  else .next (if s.upd.rolledBack then s.staysAway else s.rollBack)

/-- R469: the settings format of the new firmware differs from `old`: a dispatching owner stops first, then the defaults are
loaded. -/
def State.formatChange (s : State) (old : Nat) : State :=
  if s.sys.fmtSet = old then s
  else
    let s1 := s.logPost 0 0x0105 2 (le2 old ++ le2 s.sys.fmtSet)
    let s2 := { s1 with upd := { s1.upd with defaultsDue := true } }
    let s3 := if s2.dispatching && s2.prl.owner && s2.phm.trk != .stopping then s2.stopStart none else s2
    s3.formatStep

/-- R135: a joined node whose hardware revision is known to lie outside the range is sent LEAVE; its pairing row is kept. One whose revision
has not been learned since BOOT is checked as it joins or answers GET_INFO. (Log entry 57, DEDUCED.) -/
def State.rangeLeave (s : State) : State :=
  (List.range 48).foldl (fun t n =>
    if t.nodeJoined n && (t.nl n).hwKnown && (decide ((t.nl n).hw < t.sys.dn8HwMin) || decide (t.sys.dn8HwMax < (t.nl n).hw)) then
      t.queueCmd n 8 [] none else t) s

/-- R471, R473: after confirmation an owner rolls a DN8 part out; without one, or isolated, the update ends. -/
def State.afterConfirm (s : State) (l : List (Nat × Nat)) : State :=
  match s.upd.force.find? (fun p => p.kind == 5) with
  | some p =>
    if l.contains (5, 0) && s.prl.owner && !s.sag.latch then
      { s with upd := { s.upd with roll := .staging, rollPart := p, done := 0, left := [], again := [], rolled := [] } }.rollCheck
    else s.updEnd
  | none => s.updEnd

/-- R465: the new MGP is ready: its record is confirmed, and it resumes. (Log entry 57, DEDUCED.) -/
def State.newReady (s : State) : State :=
  let l := s.upd.act
  let old := s.sys.fmtSet
  let s1 := (s.confirm.mgpBack).heldBusy (fun _ => true)
  (((s1.formatChange old).rangeLeave).afterConfirm l)

/-- R466: the previous MGP is ready: it resumes, and reports the failure; the update stays staged, unless an isolation has come. (Log
entry 56, DEDUCED.) -/
def State.oldReady (s : State) : State :=
  let s1 := { s with upd := { s.upd with handoff := false, copied := false, rolledBack := false, phase := 2 } }
  let s2 := (s1.mgpBack.heldBusy (fun _ => true)).attn (1 + Config.updAttn.toNat % 11) 3 []
  if s2.sag.latch then s2.updEnd else s2

/-- R465, R466: NEW_MGP_READY: the MGP that the loader has started has restored the banked state. -/
def execNewMgpReady (s : State) : Out :=
  if !s.upd.handoff || !s.upd.copied then .next s
  else .next (if s.upd.rolledBack then s.oldReady else s.newReady)

/-! Node ACKs and retries (R119, R131, R135, R471). -/

/-- R127: every joined node has acknowledged the new link key. -/
def State.keysAcked (s : State) : Bool := (List.range 48).all (fun n => !s.nodeJoined n || (s.nl n).keyAck)

/-- R438, R441: the reply of a command that waits for a node's ACK. -/
def State.nodeReply (s : State) (q : NodeCmd) (rc detail : Nat) (data : List Byte) : State :=
  match q.chan with
  | some c => if (s.ch c).st = .running then s.reply c rc detail data else s
  | none => s

/-- R118, R441: a LEAVE has been acknowledged, or given up: the row of CMD_PAIR_CLEAR is emptied, any other is kept. -/
def State.leaveDone (s : State) (q : NodeCmd) (result : Nat) : State :=
  match q.chan with
  | some _ => (s.pairDrop q.node).nodeReply q 0 0 (leBytes 1 result)
  | none => s.modNl q.node (fun l => { l with st := 0 })

/-- A 32-bit value with its low half, or with its high half, replaced. -/
def setHalf (high : Bool) (v x : Nat) : Nat := if high then v % 65536 + 65536 * (x % 65536) else v / 65536 * 65536 + x % 65536

/-- R135, R431: what GET_INFO has brought: a firmware version, by halves, or the hardware revision, which is checked. -/
def State.infoGot (s : State) (q : NodeCmd) (info : Nat) : State :=
  match (Config.itemKind (nth q.params 0 0)).toNat with
  | 1 =>
    let s1 := s.modNl q.node (fun l => { l with hw := info, hwKnown := true })
    if info < s1.sys.dn8HwMin ∨ s1.sys.dn8HwMax < info then s1.queueCmd q.node 8 [] none else s1
  | 2 => s.modNl q.node (fun l => { l with fwA := setHalf false l.fwA info })
  | 3 => s.modNl q.node (fun l => { l with fwA := setHalf true l.fwA info })
  | 4 => s.modNl q.node (fun l => { l with fwB := setHalf false l.fwB info })
  | 5 => s.modNl q.node (fun l => { l with fwB := setHalf true l.fwB info })
  | _ => s

/-- R471: FW_BEGIN is accepted: blocks follow in the FIRMWARE slots of the node's unit. -/
def State.fwBegun (s : State) (n : Nat) : State :=
  let u := (s.nl n).unit
  if s.upd.roll = .none then s
  else { s with fnl := { s.fnl with fwTo := s.fnl.fwTo.set u (some n), fwOff := s.fnl.fwOff.set u 0 } }

/-- R118, R119, R127, R471, R472: what the ACK of a command means. -/
def State.ackCmd (s : State) (q : NodeCmd) (r info : Nat) : State :=
  match q.cmd with
  | 2 => if r = 0 then s.modNl q.node (fun l => { l with tof := nth q.params 2 0, balTo := some (nth q.params 0 0 + 256 * nth q.params 1 0) })
         else s
  | 3 => (if r = 0 then s.infoGot q info else s).nodeReply q 0 0 (leBytes 1 r ++ leBytes 1 0 ++ leBytes 2 info)
  | 4 => if r = 0 then s.fwBegun q.node else s.rollLeave q.node
  | 5 => if r = 0 then { s with upd := { s.upd with rollAcked := s.upd.rollAcked || s.upd.roll == .activating q.node } }
         else s.rollLeave q.node
  | 6 =>
    let s1 := if r = 0 then s.modNl q.node (fun l => { l with keyAck := true }) else s
    if s1.fnl.changing && !s1.fnl.newKeyDue && s1.keysAcked then { s1 with fnl := s1.fnl.endKeyChange } else s1
  | 7 => s.nodeReply q 0 0 (leBytes 1 r ++ leBytes 1 0 ++ leBytes 2 info)
  | 8 => s.leaveDone q 1
  | _ => s

/-- R471: node n holds the whole image: its inactive bank is staged. -/
def State.fwStaged (s : State) (u n : Nat) : State :=
  { s with fnl := { s.fnl with fwTo := s.fnl.fwTo.set u none, fwOff := s.fnl.fwOff.set u 0 }
           upd := { s.upd with rolled := s.upd.rolled ++ [(n, 1 - (s.nl n).bank)] } }

/-- R120, R471: the ACK of a firmware block; a node that expects no further block holds the image. (Log entry 104, DESIGN CHOICE.) -/
def State.ackFw (s : State) (u n r info : Nat) : State :=
  if nth s.fnl.fwTo u none != some n then s
  else
    let off := nth s.fnl.fwOff u 0
    match r with
    | 0 =>
      if s.upd.rollPart.length ≤ off + s.fwBlock n then s.fwStaged u n
      else { s with fnl := { s.fnl with fwOff := s.fnl.fwOff.set u (off + s.fwBlock n) } }
    | 5 =>
      if s.upd.rollPart.length ≤ info * s.fwBlock n then s.fwStaged u n
      else { s with fnl := { s.fnl with fwOff := s.fnl.fwOff.set u (info * s.fwBlock n) } }
    | 4 =>
      if s.upd.again.contains n then s.rollLeave n
      else { s with upd := { s.upd with again := s.upd.again ++ [n] }, fnl := { s.fnl with fwTo := s.fnl.fwTo.set u none } }
    | _ => s.rollLeave n

/-- R119: the command in flight to node n leaves the queue. -/
def State.takeFlight (s : State) (n : Nat) : Option (NodeCmd × State) :=
  match s.fnl.cmdQ.find? (fun q => q.node == n && q.inFlight) with
  | none => none
  | some q => some (q, { s with fnl := { s.fnl with cmdQ := s.fnl.cmdQ.filter (fun x => !(x.node == n && x.inFlight)) } })

/-- R119, R131: what an accepted ACK answers: kind 0 a join reply, 1 a command, 2 a firmware block. -/
def State.ackKind (s : State) (u k n r info : Nat) : State :=
  match k with
  | 0 => match (s.unit u).replied with
    | some j => if j.refuse.isNone then (s.joined j).modUnit u (fun x => { x with replied := none }) else s
    | none => s
  | 1 => match s.takeFlight n with
    | some (q, t) => t.ackCmd q r info
    | none => s
  | _ => s.ackFw u n r info

/-- R112, R119: the link version of the ACK awaited: the node's, or that of the join reply. -/
def State.ackForm (s : State) (u k n : Nat) (f : RxFrame) : Bool :=
  let h := f.head
  h.typ == 4 && h.dir && h.unit == u && h.addr == n && f.body.length == 7 &&
  (if k = 0 then h.ver == ((s.unit u).replied.map (·.ver)).getD 0 else s.verOk h)

/-- R119, R137: ACK_RX by unit u. An ACK that names another frame, or carries a reserved RESULT, is received and answers nothing. (Log entry
73, DEDUCED.) -/
def execAckRx (u : Fin 2) (f : RxFrame) (s : State) : Out :=
  match (s.unit u.val).waitAck with
  | none => match s.rxCheck f false with
    | .error e => .next (s.rxCount u.val f.head.addr e)
    | .ok _ => .next s
  | some (k, n, fc) =>
    match s.rxCheck f (s.ackForm u.val k n f) with
    | .error e => .next (s.rxCount u.val f.head.addr e)
    | .ok p =>
      let s2 := s.rxAccept f
      if leAt p 0 4 = fc % 2 ^ 32 ∧ leAt p 4 1 ≤ 5 then
        .next ((s2.modUnit u.val (fun x => { x with waitAck := none })).ackKind u.val k n (leAt p 4 1) (leAt p 5 2))
      else .next s2

/-- R119, R441, R471: a command that no ACK has answered is given up. -/
def State.giveUp (s : State) (q : NodeCmd) : State :=
  let s1 := s.logPost 0 0x0301 3 [q.node, q.cmd]
  match q.cmd with
  | 4 => s1.rollLeave q.node
  | 5 => s1.rollLeave q.node
  | 8 => if q.chan.isSome then s1.leaveDone q 2 else s1
  | _ => s1.nodeReply q 9 2 []

/-- R119: COMMAND_RETRY: no ACK has come from node n: the command waits for a later dynamic slot, or is given up. -/
def execCommandRetry (n : Fin 48) (s : State) : Out :=
  if s.sys.mgpAway then .next s
  else match s.takeFlight n.val with
  | none => .next s
  | some (q, t) =>
    if q.tries ≤ q.limit then
      .next { s with fnl := { s.fnl with cmdQ := s.fnl.cmdQ.map (fun x =>
        if x.node == n.val && x.inFlight then { x with inFlight := false } else x) } }
    else .next (t.giveUp q)

/-! The roll-out (R471, R472). -/

/-- R471: the active bank has a FIRMWARE dynamic slot on unit u. -/
def State.hasFwSlot (s : State) (u : Nat) : Bool :=
  (bankFind (s.fsq.bank s.fsq.active) (fun w => entClass w == 2 && entUnit w == u && entKind w == 2)).isSome

/-- R471: a node of unit u is being staged. -/
def State.stagingOn (s : State) (u : Nat) : Bool :=
  (nth s.fnl.fwTo u none).isSome || s.fnl.cmdQ.any (fun q => q.cmd == 4 && (s.nl q.node).unit == u)

/-- R118: the parameters of FW_BEGIN for the inactive bank of node n. -/
def State.beginParams (s : State) (n : Nat) : List Nat :=
  let p := s.upd.rollPart
  [1 - (s.nl n).bank] ++ le4 p.length ++ le4 p.version ++ (leBytes 32 p.digest).map (fun b : Byte => b.toNat)

/-- R471: DN8_NODE_STAGE on unit u: FW_BEGIN for the next node in ascending order. -/
def execDn8NodeStage (u : Fin 2) (s : State) : Out :=
  if s.upd.roll != .staging || s.sys.mgpAway || !s.prl.owner || s.stagingOn u.val || !s.hasFwSlot u.val then .next s
  else match (List.range 48).find? (fun n => (s.nl n).unit == u.val && s.rollWants n && !s.rollStaged n) with
  | none => .next s
  | some n => .next (s.queueCmd n 4 (s.beginParams n) none)

/-- R472: the conditions on activating the next node. -/
def State.rollMay (s : State) : Bool :=
  !s.mea.nodes.any (fun m : MNode => m.stale || m.lost) && s.eff != .degraded &&
  (!(s.eff == .precharge || s.eff == .connected || s.eff == .dispatch) || decide (1 ≤ s.mir P.sagLostMax) ||
   decide (400000000 ≤ s.parN P.meaLostFrames * s.frameNs))

/-- R472: DN8_NODE_ACTIVATE: once every node is staged or left, FW_ACTIVATE for the next staged node. -/
def execDn8NodeActivate (s : State) : Out :=
  if s.upd.roll != .staging || s.sys.mgpAway || !s.prl.owner || !s.rollMay ||
      (List.range 48).any (fun n => s.rollWants n && !s.rollStaged n) then .next s
  else match (List.range 48).find? s.rollWants with
  | none => .next s.rollCheck
  | some n =>
    let b := 1 - (s.nl n).bank
    let s1 := s.queueCmd n 5 [b] none
    .next { s1 with upd := { s1.upd with roll := .activating n, rollBank := b, rollAcked := false, rollSeen := 0 } }

end Sys2Proof.Machine
end

