-- ==== Sys2Proof/Machine/Spyhole.lean ====
section
/-! DEFINITION. The spyhole monitor (R489 to R496): sessions, reads, writes, traces, mailbox requests and the safety commands. -/

namespace Sys2Proof.Machine

/-! Sessions and status lines (R490 to R492). -/

/-- R490: the status line E with a code. -/
def State.spyErr (s : State) (code : String) : State := { s with spy := { s.spy with out := [], status := "E " ++ code } }

/-- R490: data lines, then OK. -/
def State.spyOut (s : State) (l : List String) : State := { s with spy := { s.spy with out := l, status := "OK" } }

/-- R491, R492: a command of the monitor: nothing is answered while the MGP is away; the session opens; the bisque loader alone serves
only those marked `plain`. (Log entry 58, DESIGN CHOICE.) -/
def State.monitor (s : State) (plain : Bool) (f : State → Out) : Out :=
  if s.sys.mgpAway || s.sys.st == .off then .next s
  else
    let s1 := { s with spy := { s.spy with openS := true, out := [], status := "OK" } }
    if s1.sys.loaderOnly && !plain then .next (s1.spyErr "STATE") else f s1

/-- R491: a write is refused in BOOT, SELFTEST and PRECHARGE. -/
def State.spyBarred (s : State) : Bool := s.sys.st == .boot || s.sys.st == .selftest || s.sys.st == .precharge

/-- R50, R491: a write is carried out: the session is a write session, and its first write enters MAINTENANCE, at the
tick where an event of a higher class or another host command goes before it (R54, R519). -/
def State.spyWrote (s : State) : State :=
  let s1 := { s with spy := { s.spy with wrote := true } }
  if s.spy.wrote then s
  else if s1.sys.st = .pilot ∨ s1.sys.st = .maintenance then s1
  else if s1.settled then s1.toMaintenance.moved
  else s1.post .spyFirstWrite

/-- R491: a write command of the monitor. -/
def State.spyWrite (s : State) (f : State → Out) : Out :=
  s.monitor false (fun t => if t.spyBarred then .next (t.spyErr "STATE") else f t)

/-! Reads (R493). -/

/-- R493: the range of a read or write of n words at address a. -/
def spyAddrBad (a n : Nat) : Bool := a % 4 != 0 || decide (0x40000 < a + 4 * n)

/-- R493: `r`: RC fields are not cleared. -/
def execSpyR (addr n : Nat) (s : State) : Out :=
  s.monitor true (fun t =>
    if n = 0 ∨ 64 < n then .next (t.spyErr "RANGE")
    else if spyAddrBad addr n then .next (t.spyErr "ADDR")
    else
      let r := t.readRegs false addr n
      .next (r.2.spyOut ((indexed r.1).map (fun (kv : Nat × Nat) => hexOf 5 (addr + 4 * kv.1) ++ ": " ++ hexOf 8 kv.2))))

/-- R493: `p`. -/
def execSpyP (index n : Nat) (s : State) : Out :=
  s.monitor false (fun t =>
    let l := (List.range n).map (index + ·)
    if n = 0 ∨ 64 < n ∨ 65536 < index + n ∨ l.any Params.reserved then .next (t.spyErr "RANGE")
    else .next (t.spyOut (l.map (fun k => toString k ++ ": " ++ hexOf 8 (t.readParam k)))))

/-- The little-endian words of w bytes in b. -/
def wordsOf (w : Nat) (b : List Byte) : List Nat := (List.range (b.length / w)).map (fun k => leAt b (w * k) w)

/-- R493: `csm`: the eight words of each record, as BULK_READ reads it. (Log entry 58, DESIGN CHOICE.) -/
def execSpyCsm (g n : Nat) (s : State) : Out :=
  s.monitor false (fun t =>
    if n = 0 ∨ 16 < n ∨ 384 < g + n then .next (t.spyErr "RANGE")
    else
      let t1 := if t.up 6 then t else { t with sys := { t.sys with accAbsent := true } }
      .next (t1.spyOut ((List.range n).map (fun k => wordLine 16 (wordsOf 8 (t.bulkRecord (g + k) 0))))))

/-- R493: `log`. -/
def execSpyLog (slot n : Nat) (s : State) : Out :=
  s.monitor false (fun t =>
    if n = 0 ∨ 31 < n ∨ 65536 ≤ slot then .next (t.spyErr "RANGE")
    else .next (t.spyOut ((List.range n).map (fun k => wordLine 8 (wordsOf 4 (t.slotBytes ((slot + k) % 65536)))))))

/-- R493: `health`: STATE, HEALTH_OWN, HEALTH_PART, DEG, LOST, ISO. (Log entry 58, DESIGN CHOICE.) -/
def execSpyHealth (s : State) : Out :=
  s.monitor true (fun t => .next (t.spyOut
    ([("STATE", t.sys.st.code), ("HEALTH_OWN", t.health), ("HEALTH_PART", t.prl.healthPart), ("DEG", t.degWord), ("LOST", t.lostCount),
      ("ISO", t.sag.cause)].map (fun (x : String × Nat) => x.1 ++ " " ++ hexOf 8 x.2))))

/-- R493, R123: `keys`: the tag of K_L, and the epoch; no key is printed. -/
def execSpyKeys (s : State) : Out :=
  s.monitor false (fun t => .next (t.spyOut
    ((match t.fnl.kL with | some k => ["K_L " ++ tagText (le4 (keyTag k))] | none => []) ++ ["EPOCH " ++ toString t.fnl.epoch])))

/-! Writes (R493). -/

/-- R429, R493: `w`; `still` names the phases whose fault is still present (R257). -/
def execSpyW (addr : Nat) (value still : Word) (s : State) : Out :=
  s.spyWrite (fun t =>
    if spyAddrBad addr 1 then .next (t.spyErr "ADDR")
    else
      let t1 := { t.spyWrote with sys := { t.spyWrote.sys with accPilotWr := false } }
      match t1.writeReg addr value still .spyhole with
      | .next t2 =>
        if t2.sys.accPilotWr then .next (({ t with sys := { t.sys with accPilotWr := true } } : State).spyErr "PILOT")
        else .next ({ t2 with sys := { t2.sys with accPilotWr := t.sys.accPilotWr } }.spyOut [])
      | o => o)

/-- R429, R448, R451, R452: setting i belongs to the FSQ, the estimator, the probe, the phase modulators or the CE, whose fields PILOT
discards. -/
def pilotField (i : Nat) : Bool :=
  (decide (0x30 ≤ i) && decide (i < 0x40)) || (decide (0x80 ≤ i) && decide (i < 0x280)) || (decide (0xC00 ≤ i) && decide (i < 0xE00)) ||
  (decide (0x1000 ≤ i) && decide (i < 0x1C00) && i % 8 == 1)

/-- R441, R493: `pw`. (Log entry 58, DESIGN CHOICE.) -/
def execSpyPw (index : Nat) (value : Word) (s : State) : Out :=
  s.spyWrite (fun t =>
    if (Params.safetyPos index).isSome then .next (t.spyErr "DENIED")
    else if 65536 ≤ index ∨ Params.reserved index then .next (t.spyErr "RANGE")
    else if t.sys.st = .pilot then .next (t.spyErr (if pilotField index then "PILOT" else "STATE"))
    else match t.spyWrote.writeSettings index [value.toNat] with
    | .ok t1 => .next (t1.spyOut [])
    | .error e => .fault (.hostError e))

/-! Traces (R494, R495). -/

/-- R494: `trace ce` of phase p. -/
def execSpyTraceCe (p : Fin 16) (trig : CeTrig) (s : State) : Out :=
  s.monitor false (fun t => .next { t with spy := { t.spy with
    ce := some (p.val, trig), ceFired := decide (trig = .now), ceLeft := if trig = .now then 1024 else 0, ceRecs := [] } })

/-- R495: `trace fsq`: the next whole frame. -/
def execSpyTraceFsq (s : State) : Out :=
  s.monitor false (fun t => .next { t with fsq := { t.fsq with traceArmed := true, tracing := false, trace := [] } })

/-- R490, R494: Ctrl-C: a printout or a capture stops; one that has not triggered prints nothing. (Log entry 58, DESIGN CHOICE.) -/
def execSpyCtrlC (s : State) : Out :=
  if s.sys.mgpAway || s.sys.st == .off then .next s
  else .next { s with
    spy := { s.spy with status := "OK STOPPED", ce := none, ceRecs := if s.spy.ce.isSome && !s.spy.ceFired then [] else s.spy.ceRecs }
    fsq := { s.fsq with traceArmed := false, tracing := false } }

/-! Mailbox requests (R496). -/

/-- R496: the lowest-numbered channel in IDLE or DONE. -/
def State.freeChan (s : State) : Option Nat := (List.range 4).find? (fun c => (s.ch c).open)

/-- R496: `m`. -/
def execSpyM (code : BitVec 16) (bytes : List Byte) (s : State) : Out :=
  s.spyWrite (fun t => match t.freeChan with
    | none => .next (t.spyErr "CHAN_BUSY")
    | some c =>
      let msg := leBytes 2 code.toNat ++ leBytes 2 0x5350 ++ leBytes 2 bytes.length ++ leBytes 2 0 ++ bytes
      let t1 := t.spyWrote
      let t2 := t1.modCh c (fun x => { x with reqBuf := memPutL x.reqBuf 0 (msg.take 1024) })
      .next (({ t2 with spy := { t2.spy with wait := some c } }).ring c .spyhole))

/-! The safety commands (R354, R355, R444, R493). -/

/-- R355: the safety commands of the monitor, in the states of R355. (Log entry 58, DESIGN CHOICE.) -/
def State.spySafety (s : State) (f : State → Out) : Out :=
  s.spyWrite (fun t => if t.safetyState then f t else .next (t.spyErr "STATE"))

/-- R444: the login open is one of the spyhole. -/
def State.spyLoggedIn (s : State) : Bool := match s.sag.login with | some (_, .spyhole) => true | _ => false

/-- R354, R444, R493: `sag login` with the password typed at the prompt; the login is one of SRC 2 and of no channel (4). (Log entry 58,
DESIGN CHOICE.) -/
def execSpySagLogin (password : List Byte) (s : State) : Out :=
  s.spySafety (fun t =>
    if t.sag.locked then .next (t.spyErr "LOCKED")
    else if t.sag.pwOk password then
      let t1 := t.spyWrote
      .next ({ t1 with sag := { t1.sag with login := some (4, .spyhole), staged := [], loginFail := 0 } }.spyOut [])
    else .next ((t.loginFails 2).spyErr "DENIED"))

/-- R355, R493: `sag stage`. -/
def execSpySagStage (index : Nat) (value : Word) (s : State) : Out :=
  s.spySafety (fun t =>
    if !t.spyLoggedIn then .next (t.spyErr "DENIED")
    else .next ((t.spyWrote.stage [(index, settingVal index value.toNat)]).spyOut []))

/-- R355, R493: `sag commit` prints CLOG_SEQ and CFG_CRC. (Log entry 58, DESIGN CHOICE.) -/
def execSpySagCommit (s : State) : Out :=
  s.spySafety (fun t =>
    if !t.spyLoggedIn then .next (t.spyErr "DENIED")
    else match t.commitBar with
    | some b => .next (t.spyErr (if b.1 = 6 then "RANGE" else "MBX LOG_FULL"))
    | none =>
      let t1 := t.spyWrote.cfgCommit 2
      .next (t1.spyOut ["CLOG_SEQ " ++ hexOf 8 t1.sag.clogSeq, "CFG_CRC " ++ hexOf 8 (cfgCrc t1.sag.cfg)]))

/-- R355, R493: `sag abort`. -/
def execSpySagAbort (s : State) : Out := s.spySafety (fun t => .next (t.spyWrote.sagAbort.spyOut []))

/-! Reset, bye and bad lines (R489, R493). -/

/-- R69, R493: `reset`; a host command of class 6, it waits for the tick while an event of a higher class or another host command goes
before it (R54, R519). -/
def execSpyReset (s : State) : Out :=
  s.monitor false (fun t =>
    if !t.settled then .next (({ t with spy := { t.spy with status := "" } } : State).post .spyReset)
    else if t.mayReset then .next (t.moduleReset 4)
    else .next (t.spyErr "STATE"))

/-- R491, R493: `bye`. -/
def execSpyBye (s : State) : Out := s.monitor true (fun t => .next t.spyEnd)

/-- R489: an overlong line, or one that names no command. -/
def execSpyUnknownLine (s : State) : Out :=
  if s.sys.mgpAway || s.sys.st == .off then .next s else .next (s.spyErr "SYNTAX")

end Sys2Proof.Machine
end

