-- ==== Sys2Proof/Machine/Dispatch.lean ====
section
/-! DEFINITION. The meaning of each command: one arm for each constructor. -/

namespace Sys2Proof.Machine

/-- The effect of a command on everything but the queue. -/
def exec (i : Instr) (s : State) : Host.Outcome State Fault Refusal :=
  match i with
  | .feedGood a b => Sys2Proof.Machine.execFeedGood a b s
  | .feedLossSingle b => Sys2Proof.Machine.execFeedLossSingle b s
  | .holdupCharged charged => Sys2Proof.Machine.execHoldupCharged charged s
  | .brownOutWarning => Sys2Proof.Machine.execBrownOutWarning s
  | .boCoilsOff => Sys2Proof.Machine.execBoCoilsOff s
  | .boDomainsOff => Sys2Proof.Machine.execBoDomainsOff s
  | .boCommitDone => Sys2Proof.Machine.execBoCommitDone s
  | .holdupExhausted => Sys2Proof.Machine.execHoldupExhausted s
  | .feedReturn => Sys2Proof.Machine.execFeedReturn s
  | .bootVerifyDone mgpOk sagOk => Sys2Proof.Machine.execBootVerifyDone mgpOk sagOk s
  | .domainReady d => Sys2Proof.Machine.execDomainReady d s
  | .selftestDone r => Sys2Proof.Machine.execSelftestDone r s
  | .ownClaim high => Sys2Proof.Machine.execOwnClaim high s
  | .mgpWatchdog => Sys2Proof.Machine.execMgpWatchdog s
  | .mgpResume => Sys2Proof.Machine.execMgpResume s
  | .mgpLost => Sys2Proof.Machine.execMgpLost s
  | .fenceOpen d => Sys2Proof.Machine.execFenceOpen d s
  | .csmArbitrationRound want => Sys2Proof.Machine.execCsmArbitrationRound want s
  | .housekeepingTick m => Sys2Proof.Machine.execHousekeepingTick m s
  | .prechargeDone => Sys2Proof.Machine.execPrechargeDone s
  | .prechargeTimeout => Sys2Proof.Machine.execPrechargeTimeout s
  | .prechargeCoolExpiry => Sys2Proof.Machine.execPrechargeCoolExpiry s
  | .degradedTimerExpiry => Sys2Proof.Machine.execDegradedTimerExpiry s
  | .maintIdleTimeout => Sys2Proof.Machine.execMaintIdleTimeout s
  | .auxContactChange k closed => Sys2Proof.Machine.execAuxContactChange k closed s
  | .frameStart => Sys2Proof.Machine.execFrameStart s
  | .beaconFreeze => Sys2Proof.Machine.execBeaconFreeze s
  | .beacon m txLt rm => Sys2Proof.Machine.execBeacon m txLt rm s
  | .nodeSlot m => Sys2Proof.Machine.execNodeSlot m s
  | .contentionSlot m => Sys2Proof.Machine.execContentionSlot m s
  | .snapshot m => Sys2Proof.Machine.execSnapshot m s
  | .currentLatch m ma vStr vBus qint => Sys2Proof.Machine.execCurrentLatch m ma vStr vBus qint s
  | .estimateBatch m => Sys2Proof.Machine.execEstimateBatch m s
  | .probePhaseStep m => Sys2Proof.Machine.execProbePhaseStep m s
  | .thermalSample m x => Sys2Proof.Machine.execThermalSample m x s
  | .logCheckpoint m => Sys2Proof.Machine.execLogCheckpoint m s
  | .mirrorPush m => Sys2Proof.Machine.execMirrorPush m s
  | .nop m => Sys2Proof.Machine.execNop m s
  | .frameEnd m => Sys2Proof.Machine.execFrameEnd m s
  | .swapRequest => Sys2Proof.Machine.execSwapRequest s
  | .swapWithdraw => Sys2Proof.Machine.execSwapWithdraw s
  | .swapCheckDone => Sys2Proof.Machine.execSwapCheckDone s
  | .scheduleBankWrite bank k w => Sys2Proof.Machine.execScheduleBankWrite bank k w s
  | .reportRx u n f => Sys2Proof.Machine.execReportRx u n f s
  | .reportWindowMiss u n => Sys2Proof.Machine.execReportWindowMiss u n s
  | .joinRequestRx u f => Sys2Proof.Machine.execJoinRequestRx u f s
  | .contentionRx u f => Sys2Proof.Machine.execContentionRx u f s
  | .ackRx u f => Sys2Proof.Machine.execAckRx u f s
  | .commandRetry n => Sys2Proof.Machine.execCommandRetry n s
  | .unitLoopbackTest u ok => Sys2Proof.Machine.execUnitLoopbackTest u ok s
  | .epochPeriodExpiry => Sys2Proof.Machine.execEpochPeriodExpiry s
  | .linkKeyChangeTimeout => Sys2Proof.Machine.execLinkKeyChangeTimeout s
  | .loopClassChange ua => Sys2Proof.Machine.execLoopClassChange ua s
  | .nodePowerOn n => Sys2Proof.Machine.execNodePowerOn n s
  | .nodeBeaconRx n u f brx => Sys2Proof.Machine.execNodeBeaconRx n u f brx s
  | .nodeBeaconMissed n => Sys2Proof.Machine.execNodeBeaconMissed n s
  | .nodeCoastLimit n => Sys2Proof.Machine.execNodeCoastLimit n s
  | .nodeBalTimeout n => Sys2Proof.Machine.execNodeBalTimeout n s
  | .nodeSweep n m => Sys2Proof.Machine.execNodeSweep n m s
  | .nodeReportTx n rtx => Sys2Proof.Machine.execNodeReportTx n rtx s
  | .nodeBalanceWindow n start => Sys2Proof.Machine.execNodeBalanceWindow n start s
  | .nodeOpenWireTest n shift => Sys2Proof.Machine.execNodeOpenWireTest n shift s
  | .nodeSwitchTest n current => Sys2Proof.Machine.execNodeSwitchTest n current s
  | .nodeCommandRx n f => Sys2Proof.Machine.execNodeCommandRx n f s
  | .nodeFirmwareRx n f => Sys2Proof.Machine.execNodeFirmwareRx n f s
  | .nodeJoinReplyRx n f => Sys2Proof.Machine.execNodeJoinReplyRx n f s
  | .nodeJoinReplyTimeout n => Sys2Proof.Machine.execNodeJoinReplyTimeout n s
  | .nodeRefuseWaitEnd n => Sys2Proof.Machine.execNodeRefuseWaitEnd n s
  | .nodeScanCycleEnd n => Sys2Proof.Machine.execNodeScanCycleEnd n s
  | .nodeContentionTx n => Sys2Proof.Machine.execNodeContentionTx n s
  | .nodeComparatorTrip n pos above held counter => Sys2Proof.Machine.execNodeComparatorTrip n pos above held counter s
  | .nodeLoopSwitchClose n lo hi => Sys2Proof.Machine.execNodeLoopSwitchClose n lo hi s
  | .nodeSupplyLow n => Sys2Proof.Machine.execNodeSupplyLow n s
  | .nodeRestartDone n => Sys2Proof.Machine.execNodeRestartDone n s
  | .nodeBankFallback n => Sys2Proof.Machine.execNodeBankFallback n s
  | .balancingPlan => Sys2Proof.Machine.execBalancingPlan s
  | .capCommitDue => Sys2Proof.Machine.execCapCommitDue s
  | .capCommitRetry => Sys2Proof.Machine.execCapCommitRetry s
  | .countCheckpoint => Sys2Proof.Machine.execCountCheckpoint s
  | .outerTick m => Sys2Proof.Machine.execOuterTick m s
  | .innerEvaluation p m => Sys2Proof.Machine.execInnerEvaluation p m s
  | .overrunClear => Sys2Proof.Machine.execOverrunClear s
  | .isumWarning beyond => Sys2Proof.Machine.execIsumWarning beyond s
  | .refPeriodBoundary now => Sys2Proof.Machine.execRefPeriodBoundary now s
  | .peakLimitEvent p d now => Sys2Proof.Machine.execPeakLimitEvent p d now s
  | .loadRelease fast now => Sys2Proof.Machine.execLoadRelease fast now s
  | .loadStep fast => Sys2Proof.Machine.execLoadStep fast s
  | .currentInputSaturated p d => Sys2Proof.Machine.execCurrentInputSaturated p d s
  | .currentInputLost p => Sys2Proof.Machine.execCurrentInputLost p s
  | .driverFault p => Sys2Proof.Machine.execDriverFault p s
  | .readbackMismatch h ph atTakeover => Sys2Proof.Machine.execReadbackMismatch h ph atTakeover s
  | .tempCountWindow p count => Sys2Proof.Machine.execTempCountWindow p count s
  | .tempLineFail p => Sys2Proof.Machine.execTempLineFail p s
  | .phaseShareWarning p out => Sys2Proof.Machine.execPhaseShareWarning p out s
  | .trkDwellDone => Sys2Proof.Machine.execTrkDwellDone s
  | .trkHoldEnd => Sys2Proof.Machine.execTrkHoldEnd s
  | .trkTimeout => Sys2Proof.Machine.execTrkTimeout s
  | .stopCurrentLow => Sys2Proof.Machine.execStopCurrentLow s
  | .stopTimeout => Sys2Proof.Machine.execStopTimeout s
  | .handoverBoundary now gap => Sys2Proof.Machine.execHandoverBoundary now gap s
  | .phmFltClr w still => Sys2Proof.Machine.execPhmFltClr w still s
  | .ctlMode w => Sys2Proof.Machine.execCtlMode w s
  | .ctlCmdI w => Sys2Proof.Machine.execCtlCmdI w s
  | .ctlCmdP w => Sys2Proof.Machine.execCtlCmdP w s
  | .ctlCmdV w => Sys2Proof.Machine.execCtlCmdV w s
  | .coefHold on => Sys2Proof.Machine.execCoefHold on s
  | .coefLoad => Sys2Proof.Machine.execCoefLoad s
  | .dispatchPdu p b now idle h => Sys2Proof.Machine.execDispatchPdu p b now idle h s
  | .thmSelfSample src x => Sys2Proof.Machine.execThmSelfSample src x s
  | .thmOutputUpdate => Sys2Proof.Machine.execThmOutputUpdate s
  | .graceExpiry chg => Sys2Proof.Machine.execGraceExpiry chg s
  | .coolantIoFault kind k on => Sys2Proof.Machine.execCoolantIoFault kind k on s
  | .xchkDisagreement g => Sys2Proof.Machine.execXchkDisagreement g s
  | .sagWindowOverrun => Sys2Proof.Machine.execSagWindowOverrun s
  | .interlockOpen => Sys2Proof.Machine.execInterlockOpen s
  | .ilkTestPass => Sys2Proof.Machine.execIlkTestPass s
  | .overcurrent ma => Sys2Proof.Machine.execOvercurrent ma s
  | .isolateLine asserted => Sys2Proof.Machine.execIsolateLine asserted s
  | .isolationDemandRx b => Sys2Proof.Machine.execIsolationDemandRx b s
  | .isolationDemandRepeat => Sys2Proof.Machine.execIsolationDemandRepeat s
  | .safetyPdu p b h => Sys2Proof.Machine.execSafetyPdu p b h s
  | .pduPairExpiry => Sys2Proof.Machine.execPduPairExpiry s
  | .pduWatchdogExpiry => Sys2Proof.Machine.execPduWatchdogExpiry s
  | .coilTestSlot sw reads moving => Sys2Proof.Machine.execCoilTestSlot sw reads moving s
  | .closeTimeout k => Sys2Proof.Machine.execCloseTimeout k s
  | .weldCheck k volt => Sys2Proof.Machine.execWeldCheck k volt s
  | .contactorDropout k => Sys2Proof.Machine.execContactorDropout k s
  | .pullinEnd k => Sys2Proof.Machine.execPullinEnd k s
  | .lockstepMismatch => Sys2Proof.Machine.execLockstepMismatch s
  | .sagEccScrub corrected uncorrectable => Sys2Proof.Machine.execSagEccScrub corrected uncorrectable s
  | .sagCrcCheck ok => Sys2Proof.Machine.execSagCrcCheck ok s
  | .sagShuntCompare own => Sys2Proof.Machine.execSagShuntCompare own s
  | .sagSupplyFault bad => Sys2Proof.Machine.execSagSupplyFault bad s
  | .x8StreamLost lost => Sys2Proof.Machine.execX8StreamLost lost s
  | .loginLockEnd => Sys2Proof.Machine.execLoginLockEnd s
  | .loginIdleEnd => Sys2Proof.Machine.execLoginIdleEnd s
  | .heartbeatSend => Sys2Proof.Machine.execHeartbeatSend s
  | .heartbeatRx b higher => Sys2Proof.Machine.execHeartbeatRx b higher s
  | .heartbeatMissed => Sys2Proof.Machine.execHeartbeatMissed s
  | .mirrorPartRx b now m => Sys2Proof.Machine.execMirrorPartRx b now m s
  | .switchoverReq b => Sys2Proof.Machine.execSwitchoverReq b s
  | .switchoverReady b now => Sys2Proof.Machine.execSwitchoverReady b now s
  | .switchoverRefuse b => Sys2Proof.Machine.execSwitchoverRefuse b s
  | .switchoverTake b => Sys2Proof.Machine.execSwitchoverTake b s
  | .switchoverAbandon b => Sys2Proof.Machine.execSwitchoverAbandon b s
  | .switchoverTimeout => Sys2Proof.Machine.execSwitchoverTimeout s
  | .handoverAckTimeout => Sys2Proof.Machine.execHandoverAckTimeout s
  | .pathsRelease => Sys2Proof.Machine.execPathsRelease s
  | .takeoverDecision => Sys2Proof.Machine.execTakeoverDecision s
  | .reserveTest own partner => Sys2Proof.Machine.execReserveTest own partner s
  | .hello x => Sys2Proof.Machine.execHello x s
  | .regRead x => Sys2Proof.Machine.execRegRead x s
  | .regWrite x still => Sys2Proof.Machine.execRegWrite x still s
  | .mbxReq x => Sys2Proof.Machine.execMbxReq x s
  | .mbxPoll x => Sys2Proof.Machine.execMbxPoll x s
  | .bulkRead x diff => Sys2Proof.Machine.execBulkRead x diff s
  | .attnAck x => Sys2Proof.Machine.execAttnAck x s
  | .bye x => Sys2Proof.Machine.execBye x s
  | .updBlock x => Sys2Proof.Machine.execUpdBlock x s
  | .keepalive x => Sys2Proof.Machine.execKeepalive x s
  | .datagramDiscard p h n => Sys2Proof.Machine.execDatagramDiscard p h n s
  | .attnRetry num aseq => Sys2Proof.Machine.execAttnRetry num aseq s
  | .sessionTimeout num => Sys2Proof.Machine.execSessionTimeout num s
  | .mbxPendingReply c => Sys2Proof.Machine.execMbxPendingReply c s
  | .portLinkChange p linkUp => Sys2Proof.Machine.execPortLinkChange p linkUp s
  | .ptpSyncRx m logInterval ingress origin ms => Sys2Proof.Machine.execPtpSyncRx m logInterval ingress origin ms s
  | .ptpAnnounceRx m rank gm => Sys2Proof.Machine.execPtpAnnounceRx m rank gm s
  | .ptpPdelayReqRx m => Sys2Proof.Machine.execPtpPdelayReqRx m s
  | .ptpDelayRespRx m rx tx ingress => Sys2Proof.Machine.execPtpDelayRespRx m rx tx ingress s
  | .announceTimeout p => Sys2Proof.Machine.execAnnounceTimeout p s
  | .syncLoss => Sys2Proof.Machine.execSyncLoss s
  | .holdoverExpiry => Sys2Proof.Machine.execHoldoverExpiry s
  | .secMarkReached => Sys2Proof.Machine.execSecMarkReached s
  | .extTimeUpdate tb sec => Sys2Proof.Machine.execExtTimeUpdate tb sec s
  | .lmpTrig k w => Sys2Proof.Machine.execLmpTrig k w s
  | .triggerReached k => Sys2Proof.Machine.execTriggerReached k s
  | .lmpCorr k w => Sys2Proof.Machine.execLmpCorr k w s
  | .registerWrite k w still src => Sys2Proof.Machine.execRegisterWrite k w still src s
  | .mbxRing c src => Sys2Proof.Machine.execMbxRing c src s
  | .mbxBufferWrite c k w => Sys2Proof.Machine.execMbxBufferWrite c k w s
  | .mgpTakeRequest => Sys2Proof.Machine.execMgpTakeRequest s
  | .mbxReplyPosted c rb => Sys2Proof.Machine.execMbxReplyPosted c rb s
  | .cmdConnect c => Sys2Proof.Machine.execCmdConnect c s
  | .cmdDispatchOn c => Sys2Proof.Machine.execCmdDispatchOn c s
  | .cmdDispatchOff c => Sys2Proof.Machine.execCmdDispatchOff c s
  | .cmdOpen c => Sys2Proof.Machine.execCmdOpen c s
  | .cmdIsolationReset c => Sys2Proof.Machine.execCmdIsolationReset c s
  | .cmdReset c => Sys2Proof.Machine.execCmdReset c s
  | .cmdDomainPower c => Sys2Proof.Machine.execCmdDomainPower c s
  | .cmdSwap c => Sys2Proof.Machine.execCmdSwap c s
  | .cmdSelftest c r => Sys2Proof.Machine.execCmdSelftest c r s
  | .cmdHealth c => Sys2Proof.Machine.execCmdHealth c s
  | .cmdSchedLoad c => Sys2Proof.Machine.execCmdSchedLoad c s
  | .cmdSchedInfo c => Sys2Proof.Machine.execCmdSchedInfo c s
  | .cmdBalCtl c => Sys2Proof.Machine.execCmdBalCtl c s
  | .cmdBalStatus c => Sys2Proof.Machine.execCmdBalStatus c s
  | .cmdCalDischarge c => Sys2Proof.Machine.execCmdCalDischarge c s
  | .cmdCapReport c => Sys2Proof.Machine.execCmdCapReport c s
  | .cmdCapWrite c => Sys2Proof.Machine.execCmdCapWrite c s
  | .cmdCapCommit c => Sys2Proof.Machine.execCmdCapCommit c s
  | .cmdParamRead c => Sys2Proof.Machine.execCmdParamRead c s
  | .cmdParamWrite c => Sys2Proof.Machine.execCmdParamWrite c s
  | .cmdSettingsCommit c => Sys2Proof.Machine.execCmdSettingsCommit c s
  | .cmdSettingsDefault c => Sys2Proof.Machine.execCmdSettingsDefault c s
  | .cmdPairWrite c => Sys2Proof.Machine.execCmdPairWrite c s
  | .cmdPairClear c => Sys2Proof.Machine.execCmdPairClear c s
  | .cmdPairRead c => Sys2Proof.Machine.execCmdPairRead c s
  | .cmdLinkKeyChange c => Sys2Proof.Machine.execCmdLinkKeyChange c s
  | .cmdNodeCmd c => Sys2Proof.Machine.execCmdNodeCmd c s
  | .cmdLogRead c => Sys2Proof.Machine.execCmdLogRead c s
  | .cmdLogClear c => Sys2Proof.Machine.execCmdLogClear c s
  | .cmdUpdateBegin c => Sys2Proof.Machine.execCmdUpdateBegin c s
  | .cmdUpdateStage c => Sys2Proof.Machine.execCmdUpdateStage c s
  | .cmdUpdateActivate c => Sys2Proof.Machine.execCmdUpdateActivate c s
  | .cmdUpdateAbort c => Sys2Proof.Machine.execCmdUpdateAbort c s
  | .cmdUpdateStatus c => Sys2Proof.Machine.execCmdUpdateStatus c s
  | .cmdSagLogin c => Sys2Proof.Machine.execCmdSagLogin c s
  | .cmdSagStage c => Sys2Proof.Machine.execCmdSagStage c s
  | .cmdSagCommit c => Sys2Proof.Machine.execCmdSagCommit c s
  | .cmdSagAbort c => Sys2Proof.Machine.execCmdSagAbort c s
  | .cmdSagPassword c => Sys2Proof.Machine.execCmdSagPassword c s
  | .cmdSagLogRead c => Sys2Proof.Machine.execCmdSagLogRead c s
  | .cmdSagLogAck c => Sys2Proof.Machine.execCmdSagLogAck c s
  | .loaderCopyDone ok => Sys2Proof.Machine.execLoaderCopyDone ok s
  | .newMgpReady => Sys2Proof.Machine.execNewMgpReady s
  | .newMgpTimeout => Sys2Proof.Machine.execNewMgpTimeout s
  | .saggarReset => Sys2Proof.Machine.execSaggarReset s
  | .blockForwardRepeat reply => Sys2Proof.Machine.execBlockForwardRepeat reply s
  | .dn8NodeStage u => Sys2Proof.Machine.execDn8NodeStage u s
  | .dn8NodeActivate => Sys2Proof.Machine.execDn8NodeActivate s
  | .logRecordWrite => Sys2Proof.Machine.execLogRecordWrite s
  | .logBootScan => Sys2Proof.Machine.execLogBootScan s
  | .logHourlyFree => Sys2Proof.Machine.execLogHourlyFree s
  | .isolationSnapshot => Sys2Proof.Machine.execIsolationSnapshot s
  | .mramScrub corrected bad => Sys2Proof.Machine.execMramScrub corrected bad s
  | .pd0Backup => Sys2Proof.Machine.execPd0Backup s
  | .spyR addr n => Sys2Proof.Machine.execSpyR addr n s
  | .spyW addr value still => Sys2Proof.Machine.execSpyW addr value still s
  | .spyP index n => Sys2Proof.Machine.execSpyP index n s
  | .spyPw index value => Sys2Proof.Machine.execSpyPw index value s
  | .spyCsm g n => Sys2Proof.Machine.execSpyCsm g n s
  | .spyLog slot n => Sys2Proof.Machine.execSpyLog slot n s
  | .spyHealth => Sys2Proof.Machine.execSpyHealth s
  | .spyKeys => Sys2Proof.Machine.execSpyKeys s
  | .spyTraceCe p trig => Sys2Proof.Machine.execSpyTraceCe p trig s
  | .spyTraceFsq => Sys2Proof.Machine.execSpyTraceFsq s
  | .spyM code bytes => Sys2Proof.Machine.execSpyM code bytes s
  | .spySagLogin password => Sys2Proof.Machine.execSpySagLogin password s
  | .spySagStage index value => Sys2Proof.Machine.execSpySagStage index value s
  | .spySagCommit => Sys2Proof.Machine.execSpySagCommit s
  | .spySagAbort => Sys2Proof.Machine.execSpySagAbort s
  | .spyReset => Sys2Proof.Machine.execSpyReset s
  | .spyBye => Sys2Proof.Machine.execSpyBye s
  | .spyCtrlC => Sys2Proof.Machine.execSpyCtrlC s
  | .feedRestored b => Sys2Proof.Machine.execFeedRestored b s
  | .nodeSelfCheckFail n code => Sys2Proof.Machine.execNodeSelfCheckFail n code s
  | .nodeOwnRestart n cause => Sys2Proof.Machine.execNodeOwnRestart n cause s
  | .bothPlantPortsDown => Sys2Proof.Machine.execBothPlantPortsDown s
  | .referenceCheck ok => Sys2Proof.Machine.execReferenceCheck ok s
  | .coilPathOvercurrent k => Sys2Proof.Machine.execCoilPathOvercurrent k s
  | .ptpFollowUpRx m origin ms => Sys2Proof.Machine.execPtpFollowUpRx m origin ms s
  | .ptpDelayReqSend p egress => Sys2Proof.Machine.execPtpDelayReqSend p egress s
  | .networkServiceFrame p f => Sys2Proof.Machine.execNetworkServiceFrame p f s
  | .spyUnknownLine => Sys2Proof.Machine.execSpyUnknownLine s

end Sys2Proof.Machine
end

