-- ==== Sys2Proof/Safety.lean ====
section
/-! DEFINITION. The terms in which statements are made: completion of a command, a safe state, and the blocks that an operation
leaves alone. -/

namespace Sys2Proof.Machine

/-- Command c completes from s: a next state, of which P holds. -/
def Completes (c : Instr) (s : State) (P : State → Prop) : Prop := ∃ t, exec c s = .next t ∧ P t

/-- R331, R338, R339: while the isolation latch is set no coil path is energised. -/
def State.LatchSafe (s : State) : Prop := s.sag.latch = true → s.sag.coil = [false, false, false, false]

/-- R96, R433: every schedule bank and mailbox buffer has its canonical form. -/
def State.MemOk (s : State) : Prop :=
  memWf s.fsq.bank0 = true ∧ memWf s.fsq.bank1 = true ∧ ∀ x ∈ s.mbx.ch, memWf x.reqBuf = true ∧ memWf x.repBuf = true

/-- R92: an entry of class c is due at the instant that m gives, and its bits are w: the FSQ runs, its table is not done, the
entry after those that only announce work has reached its start, its class is c and is no reserved one, it sets no reserved
bit (R84), and its read shows no uncorrectable error. -/
def State.EntryDue (s : State) (c : Nat) (m : EntryIn) (w : Nat) : Prop :=
  let f := s.fsq.announced m
  f.running = true ∧ f.tableDone = false ∧ bankEntry (f.bank f.active) f.entry = w ∧
  reached m.now.toNat (f.startOf w) = true ∧ entBadClass w = false ∧ entClass w = c ∧ entReservedBits w = false ∧ m.ecc = false

/-- R92, R94: the FSQ once the entry w that is due has been passed: its trace line, and the count where it was late. -/
def Fsq.taken (f0 : Fsq) (m : EntryIn) (w : Nat) : Fsq :=
  let f := f0.announced m
  let lag := (diffT m.now.toNat (f.startOf w)).toNat
  let f1 := ({ f.pass f.entry w with lastAt := m.now.toNat } : Fsq).traceLine f.entry w lag (if lateAt w lag then 1 else 0)
  if lateAt w lag then f1.countLate w else f1

/-- The state once the entry w that is due has been passed: an announced entry that was skipped before it has its record. -/
def State.taken (s : State) (m : EntryIn) (w : Nat) : State := { s.announced m with fsq := s.fsq.taken m w }

/-- R383 to R385: the plant link takes a datagram of n bytes that comes to port p as h says, for UDP port k: it answers, the port's VLAN and
addresses take it, it is no fragment, its checksum is right, it is not too long, and its UDP port is k. -/
def State.Lands (s : State) (p : PortId) (h : Net) (n k : Nat) : Prop :=
  s.up 9 = true ∧ s.reaches p h = true ∧ h.discarded n = false ∧ h.dudp = k

/-- R388 to R391: transaction x of type ty is one to carry out in the session at place i: the plant link takes its datagram, MAGIC, VER
and LEN check, the version is the session's, the request repeats no answered one, the type is available in that version, and its payload
is right. -/
def State.TxOk (s : State) (x : Tx) (ty i : Nat) : Prop :=
  s.Lands x.port x.toNet x.dg.length 48048 ∧ x.headOk = true ∧ x.type = ty ∧ s.sessionAt x.session = some i ∧ payloadOk ty x.payload = true ∧
  ∃ y, s.plk.sessions[i]? = some y ∧ x.ver = y.ver ∧ (y.kept.isSome = true → y.tid ≠ x.tid) ∧ typeFrom ty ≤ y.ver

/-- The state in which a transaction is carried out: the time is its own, and the session has been used from its source. -/
def State.txIn (s : State) (x : Tx) (i : Nat) : State := (s.atTime x.now).sessUsed i x

/-- The session at place i. -/
def State.sess (s : State) (i : Nat) : Option Session := s.plk.sessions[i]?

/-- R435, R436, R439 to R443: a command of this code and these parameters runs on channel c: its request is RUNNING there and has not
been carried out up to a wait, its layout and the state it needs are right, the MGP is present, and nothing goes before it at the tick where
it has a row in R50 (R54, R519). -/
def State.Serves (s : State) (c : Fin 4) (code : Nat) (p : List Byte) : Prop :=
  (s.ch c.val).st = .running ∧ s.started c.val code = false ∧ s.sys.mgpAway = false ∧
  (Machine.moves code = true → s.settled = true) ∧ ∃ r, (s.ch c.val).req = some r ∧ r.code = code ∧ r.params = p ∧ r.formOk = true ∧ s.accepts r = true

/-- R434 to R438, R72: what command i of this code does on channel c where it is not carried out: nothing while no such request is RUNNING
and ready to run, a host error where its layout is wrong, NOT_IN_STATE where the state does not accept it. -/
def State.NotServed (s : State) (c : Fin 4) (code : Nat) (i : Instr) : Prop :=
  ((s.ch c.val).req = none → exec i s = .next s) ∧
  ∀ r, (s.ch c.val).req = some r →
    ((s.ch c.val).st ≠ .running ∨ r.code ≠ code ∨ s.started c.val code = true ∨ s.sys.mgpAway = true ∨
      (Machine.moves code = true ∧ s.settled = false) → exec i s = .next s) ∧
    ((s.ch c.val).st = .running → r.code = code → s.started c.val code = false → s.sys.mgpAway = false →
      (Machine.moves code = true → s.settled = true) →
      (r.formOk = false → exec i s = .fault (.hostError .malformed)) ∧
      (r.formOk = true → s.accepts r = false → exec i s = .next (s.notInState c.val r)))

/-- R491, R492: the state in which a command of the monitor runs: its session is open, and nothing is printed yet. -/
def State.spyIn (s : State) : State :=
  { s with spy := { s.spy with openS := true, out := [], status := "OK" } }

/-- The state with node n as d. -/
def State.withNode (s : State) (n : Nat) (d : Dn8) : State := { s with nodes := s.nodes.set n d }

/-- R331, R333: t has been isolated with cause c from s: the latch is set, c is recorded, and it is the first cause where the latch was
clear. -/
def State.isolatedAs (s : State) (c : Nat) (t : State) : Prop :=
  t.sag.latch = true ∧ t.sag.cause = (if s.sag.latch then s.sag.cause else c) ∧ c ∈ t.sag.causes

/-- R141: the node whose own event a command is. -/
def nodeOf : Instr → Option (Fin 48)
  | .nodePowerOn n => some n
  | .nodeBeaconRx n _ _ _ => some n
  | .nodeBeaconMissed n => some n
  | .nodeCoastLimit n => some n
  | .nodeBalTimeout n => some n
  | .nodeSweep n _ => some n
  | .nodeReportTx n _ => some n
  | .nodeBalanceWindow n _ => some n
  | .nodeOpenWireTest n _ => some n
  | .nodeSwitchTest n _ => some n
  | .nodeCommandRx n _ => some n
  | .nodeFirmwareRx n _ => some n
  | .nodeJoinReplyRx n _ => some n
  | .nodeJoinReplyTimeout n => some n
  | .nodeRefuseWaitEnd n => some n
  | .nodeScanCycleEnd n => some n
  | .nodeContentionTx n => some n
  | .nodeComparatorTrip n _ _ _ _ => some n
  | .nodeLoopSwitchClose n _ _ => some n
  | .nodeSupplyLow n => some n
  | .nodeSelfCheckFail n _ => some n
  | .nodeOwnRestart n _ => some n
  | .nodeRestartDone n => some n
  | .nodeBankFallback n => some n
  | _ => none

end Sys2Proof.Machine
end

