-- ==== Sys2Proof/Certificates/Slice0/Obligations.lean ====
section
/-! DEFINITION. The statements for the provers, in the order of OBLIGATIONS.json: the families of commands, the shared
operations, the whole-machine rules. -/

open Sys2Proof Sys2Proof.Machine

/-- The feeds and the hold-up store, the power-on reset from OFF, and the brown-out shutdown in its order
(02_states_and_domains.md, 20_hardware.md). -/
def Obligations.FeedsAndBrownOut : Prop :=
  (∀ s : State,
    (∀ b, exec (.feedRestored b) s = .next (s.setFeed b true)) ∧
    (∀ b, exec (.feedLossSingle b) s = .next (s.setFeed b false)) ∧
    (∀ b on, (s.setFeed b on).pins = (if b then { s.pins with feedB := on } else { s.pins with feedA := on }) ∧
      s.setFeed b on = { s with pins := (s.setFeed b on).pins }) ∧
    (∀ c, exec (.holdupCharged c) s = .next { s with sys := { s.sys with holdupOk := c } }) ∧
    (∀ a b, s.sys.st ≠ .off ∨ (a || b) = false →
      exec (.feedGood a b) s = .next { s with pins := { s.pins with feedA := a, feedB := b } }) ∧
    (∀ a b, s.sys.st = .off → (a || b) = true → nth s.sys.pd 0 false = true →
      Completes (.feedGood a b) s fun t => t.sys.st = .boot ∧ t.sys.pcc = inc32 s.sys.pcc ∧
        t.sag.coil = [false, false, false, false] ∧ t.sag.latch = s.sag.latch ∧ t.pending = s.pending)) ∧
  (∀ s : State,
    (s.sys.st ≠ .off → s.sys.boWarn = false → Completes .brownOutWarning s fun t =>
      t.sys.boWarn = true ∧ t.sys.boPhase = .warned ∧ Ev.brownOut ∈ t.sys.events) ∧
    (s.sys.st = .off ∨ s.sys.boWarn = true → exec .brownOutWarning s = .next s) ∧
    (s.sys.boPhase = .warned → Completes .boCoilsOff s fun t =>
      t.sys.boPhase = .coilsOff ∧ t.sag.coil = [false, false, false, false] ∧ t.sag.pullin = [false, false, false, false] ∧
      (∀ p ∈ t.phm.ph, p.gatesLow = true ∧ p.active = false)) ∧
    (s.sys.boPhase ≠ .warned → exec .boCoilsOff s = .next s) ∧
    (s.sys.boPhase = .coilsOff → Completes .boDomainsOff s fun t =>
      t.sys.boPhase = .domainsOff ∧ t.prl.owner = false ∧ t.phm.enHigh = false ∧ t.phm.owned = [false, false, false, false] ∧
      ∀ d ∈ [1, 3, 4, 5, 6, 7, 8, 9, 10, 11], nth t.sys.pd d false = false) ∧
    (s.sys.boPhase ≠ .coilsOff → exec .boDomainsOff s = .next s) ∧
    (s.sys.boPhase = .domainsOff → s.sys.feedBack = false → Completes .boCommitDone s fun t =>
      t.sys.st = .off ∧ nth t.sys.pd 2 false = false ∧ t.log.banked = some (s.csm.recs, s.est) ∧ t.log.bankedBo = true) ∧
    (s.sys.boPhase = .domainsOff → s.sys.feedBack = true → Completes .boCommitDone s fun t =>
      t.sys.st = .boot ∧ t.sys.resetCause = 2 ∧ t.log.banked = some (s.csm.recs, s.est)) ∧
    (s.sys.boPhase ≠ .domainsOff → exec .boCommitDone s = .next s) ∧
    (s.sys.st = .off → Completes .holdupExhausted s fun t => nth t.sys.pd 0 false = false ∧ t.sys.holdupOk = false) ∧
    (s.sys.st ≠ .off → exec .holdupExhausted s = .next s) ∧
    (s.sys.boPhase = .none → exec .feedReturn s = .next s) ∧
    (s.sys.boPhase ≠ .none → s.sys.st ≠ .off → exec .feedReturn s =
      .next { s with pins := { s.pins with feedA := true }, sys := { s.sys with feedBack := true } }) ∧
    (s.sys.boPhase ≠ .none → s.sys.st = .off → s.log.bankedBo = true → Completes .feedReturn s fun t =>
      t.sys.st = .boot ∧ t.sys.resetCause = 2))

/-- BOOT_VERIFY_DONE, DOMAIN_READY, FENCE_OPEN, SELFTEST_DONE and OWN_CLAIM complete in every state, each with its
effect (01_architecture.md, 02_states_and_domains.md, 12_pair_operation.md). -/
def Obligations.StartUpGoesFromBootToSelftest : Prop :=
  ∀ s : State,
    (s.sys.st ≠ .boot → ∀ m g, exec (.bootVerifyDone m g) s = .next s) ∧
    (s.sys.st = .boot → Completes (.bootVerifyDone true true) s fun t => t.sys.st = .selftest ∧ t.sys.base = .selftest ∧
      t.sys.powering = t.powerOrder ∧ t.nodes = s.nodes ∧ t.pending = s.pending) ∧
    (s.sys.st = .boot → ∀ m, Completes (.bootVerifyDone m false) s fun t =>
      t.sys.st = .isolated ∧ t.sys.base = .isolated ∧ t.sys.loaderOnly = true ∧ s.isolatedAs 0x11 t ∧ t.sag.hardDiag = true) ∧
    (s.sys.st = .boot → Completes (.bootVerifyDone false true) s fun t =>
      t.sys.st = .maintenance ∧ t.sys.base = .isolated ∧ t.sys.loaderOnly = true) ∧
    (s.powerOrder = if s.par P.prlMode = 0 then [9, 3, 6, 11, 7, 8, 4, 5] else [9, 3, 6, 11, 7, 8, 10, 4, 5]) ∧
    (∀ d : Fin 12, s.sys.powering.head? ≠ some d.val → exec (.domainReady d) s = .next s) ∧
    (∀ (d : Fin 12) l, s.sys.powering = d.val :: l → s.sys.pd.length = 12 → Completes (.domainReady d) s fun t =>
      t.sys.powering = l ∧ nth t.sys.pd d.val false = true ∧ t.sys.st = s.sys.st) ∧
    (∀ (d : Fin 12) e l, s.sys.powering = d.val :: e :: l → Completes (.domainReady d) s fun t =>
      t.fsq = s.fsq ∧ t.sag = s.sag ∧ t.phm = s.phm) ∧
    (∀ d : Fin 12, s.sys.powering = [d.val] → s.sys.st ≠ .boot → s.sys.st ≠ .off → s.fsq.running = false →
      Completes (.domainReady d) s fun t => t.fsq.running = true) ∧
    (∀ d : Fin 12, exec (.fenceOpen d) s = .next (if nth s.sys.pd d.val false = true then
      { s with sys := { s.sys with fenced := s.sys.fenced.set d.val false } } else s)) ∧
    (s.sys.st ≠ .selftest → ∀ r, exec (.selftestDone r) s = .next s) ∧
    (s.sys.st = .selftest → ∀ r, Completes (.selftestDone r) s fun t =>
      t.sys.st = .selftest ∧ t.sys.selftestFail = r.failBits ∧ (∃ c o, Ev.selftestEnded c o ∈ t.sys.events) ∧
      t.sag.latch = ((failedItems (s.testItems r)).any (fun i => i.2.2.1) || s.sag.latch)) ∧
    (∀ high, s.prl.owner = true ∨ ¬ (s.sys.st = .standby ∨ s.sys.st = .isolated ∨ s.sys.st = .maintenance) →
      exec (.ownClaim high) s = .next { s with pins := { s.pins with ownHigh := high } }) ∧
    (∀ high, s.prl.owner = false → s.sys.st = .standby ∨ s.sys.st = .isolated ∨ s.sys.st = .maintenance →
      high = true ∨ (s.prl.mode = 1 ∧ s.prl.pos = 1 ∧ s.prl.partner.isSome = true ∧ s.prl.hbQuiet < 41) →
      exec (.ownClaim high) s = .next (if s.sys.st = .standby
        then { s with pins := { s.pins with ownHigh := high }, sys := { s.sys with events := s.sys.events ++ [.ownLost] } }
        else { s with pins := { s.pins with ownHigh := high } })) ∧
    (s.prl.owner = false → s.sys.st = .standby ∨ s.sys.st = .isolated ∨ s.sys.st = .maintenance →
      s.prl.mode = 1 → s.prl.pos = 1 → s.prl.partner = none → s.prl.hbQuiet < 41 →
      exec (.ownClaim false) s = .next { s with pins := { s.pins with ownHigh := false } }) ∧
    (s.prl.owner = false → s.sys.st = .standby ∨ s.sys.st = .isolated ∨ s.sys.st = .maintenance →
      s.prl.mode ≠ 1 ∨ s.prl.pos = 0 ∨ 41 ≤ s.prl.hbQuiet →
      exec (.ownClaim false) s =
        .next { s with
          pins := { s.pins with ownHigh := false }, prl := { s.prl with owner := true },
          phm := { s.phm with owned := [true, true, true, true] } })

/-- MGP_WATCHDOG, MGP_RESUME and MGP_LOST complete in every state, each with its effect (02_states_and_domains.md,
11_saggar_safety.md, 15_mailboxes.md, 17_field_update.md). -/
def Obligations.MgpGoesAwayAndReturns : Prop :=
  ∀ s : State,
    (s.sys.st = .off → exec .mgpWatchdog s = .next s) ∧
    (s.sys.st = .standby ∨ s.sys.st = .isolated ∨ s.sys.st = .pilot → s.wdRecent = true → s.sys.boPhase = .none →
      Completes .mgpWatchdog s fun t => t.sys.st = .boot ∧ t.sys.resetCause = 5) ∧
    (s.sys.st ≠ .off → s.wdRecent = false ∨ s.sys.boPhase ≠ .none ∨ ¬ (s.sys.st = .standby ∨ s.sys.st = .isolated ∨ s.sys.st = .pilot) →
      Completes .mgpWatchdog s fun t => t.sys.mgpAway = true ∧ t.sys.mgpStaysAway = (s.sys.mgpStaysAway || s.wdRecent) ∧
        t.sys.st = s.sys.st ∧ ∀ c ∈ t.mbx.ch, c.st ≠ .queued ∧ c.st ≠ .running) ∧
    (s.sys.mgpAway = false ∨ s.sys.mgpStaysAway = true ∨ s.upd.handoff = true → exec .mgpResume s = .next s) ∧
    (s.sys.mgpAway = true → s.sys.mgpStaysAway = false → s.upd.handoff = false → 8 < s.sag.deg.length →
      Completes .mgpResume s fun t => t.sys.mgpAway = false ∧ nth t.sag.deg 8 false = false) ∧
    (s.sys.mgpAway = true → 8 < s.sag.deg.length → Completes .mgpLost s fun t => nth t.sag.deg 8 false = true) ∧
    (s.sys.mgpAway = false → exec .mgpLost s = .next s)

/-- PRECHARGE_DONE, _TIMEOUT and _COOL_EXPIRY, DEGRADED_TIMER_EXPIRY, MAINT_IDLE_TIMEOUT and AUX_CONTACT_CHANGE complete
in every state (02_states_and_domains.md, 08_phase_harness.md, 11_saggar_safety.md). -/
def Obligations.TimersAndContactsMoveTheStateMachine : Prop :=
  ∀ s : State,
    (s.sys.st = .precharge → s.sys.prechgDone = false → (absN (s.pins.vPre - s.pins.vStr) : Int) ≤ s.sys.prechgDv →
      exec .prechargeDone s =
      .next ({ s with sys := { s.sys with prechgDone := true }, sag := { s.sag with want := s.sag.want.set 0 true } } : State).coilService) ∧
    (s.sys.st ≠ .precharge ∨ s.sys.prechgDone = true ∨ (s.sys.prechgDv : Int) < absN (s.pins.vPre - s.pins.vStr) →
      exec .prechargeDone s = .next s) ∧
    (exec .prechargeTimeout s = .next (if s.sys.st = .precharge
      then { s with sys := { s.sys with events := s.sys.events ++ [.prechargeTimeout] } } else s)) ∧
    (exec .prechargeCoolExpiry s = .next { s with sys := { s.sys with coolDown := false } }) ∧
    (exec .degradedTimerExpiry s = .next (if s.sag.degRun = true then s.isolate 0x12 else s)) ∧
    (s.spy.openS = true → Completes .maintIdleTimeout s fun t =>
      t.spy.openS = false ∧ t.spy.wrote = false ∧ t.sys.events = s.sys.events ++ [.sessionEnded] ∧ t.sys.st = s.sys.st) ∧
    (s.spy.openS = false → exec .maintIdleTimeout s = .next s) ∧
    (∀ (k : Fin 4) b, s.pins.aux.length = 4 → Completes (.auxContactChange k b) s fun t => t.aux k.val = b ∧ t.sys.st = s.sys.st) ∧
    (s.sys.st = .precharge → s.sys.prechgDone = true → Completes (.auxContactChange 0 true) s fun t =>
      t.sys.events = s.sys.events ++ [.prechargeDone]) ∧
    (s.phm.trk = .co3Req → Completes (.auxContactChange 3 true) s fun t =>
      t.phm.trk = .zeroHold ∧ t.sys.events = s.sys.events ++ [.trackingEnded]) ∧
    (s.phm.trk = .stopping → s.phm.co3Drop = true → Completes (.auxContactChange 3 false) s fun t =>
      t.sys.events = s.sys.events ++ [if s.sys.openPending = true then .openEnded else .stopEnded]) ∧
    (∀ (k : Fin 4) b, ¬ (k = 0 ∧ b = true ∧ s.sys.st = .precharge ∧ s.sys.prechgDone = true) →
      ¬ (k = 3 ∧ b = true ∧ s.phm.trk = .co3Req) → ¬ (k = 3 ∧ b = false ∧ s.phm.trk = .stopping ∧ s.phm.co3Drop = true) →
      Completes (.auxContactChange k b) s fun t => t.sys.events = s.sys.events ∧ t.phm = s.phm)

/-- HOUSEKEEPING_TICK completes in every state: the counts, OFF, a due reset, and every other state (01_architecture.md,
02_states_and_domains.md). -/
def Obligations.HousekeepingTickCountsAndProtects : Prop :=
  ∀ (s : State) (m : TickIn),
    (s.sys.st = .off → exec (.housekeepingTick m) s = .next s.tickCounts) ∧
    (s.tickCounts.sys.tick = inc32 s.sys.tick ∧ s.tickCounts.sys.clock = s.sys.clock + 1 ∧ s.tickCounts.sys.st = s.sys.st) ∧
    (s.resetGoes = true ↔ s.sys.resetDue ≠ 0 ∧ s.sys.boPhase = .none) ∧
    (s.sys.st ≠ .off → s.resetGoes = true → Completes (.housekeepingTick m) s fun t =>
      t.sys.st = .boot ∧ t.sys.resetCause = s.sys.resetDue ∧ t.sag.latch = s.sag.latch ∧ t.sys.clock = s.sys.clock + 1 ∧ t.pending = s.pending) ∧
    (s.sys.st ≠ .off → s.resetGoes = false → Completes (.housekeepingTick m) s fun t =>
      t.sys.clock = s.sys.clock + 1 ∧ t.sys.tick = inc32 s.sys.tick ∧ t.pins.shunt = m.shunt ∧ t.pending = s.pending)

/-- Rows of the state table: which event moves which state where, and the degraded class (02_states_and_domains.md,
08_phase_harness.md). -/
def Obligations.StateMachineFollowsItsTable : Prop :=
  (∀ s : State,
    (s.sag.latch = true → s.sys.st ≠ .isolated → s.sys.st ≠ .off → s.sys.st ≠ .boot →
      ∃ t, s.row .isolation = some t ∧ t.sys.st = .isolated ∧ t.sys.prev = s.sys.st) ∧
    (s.sag.latch = false → s.row .isolation = none) ∧
    (s.sys.st = .precharge → s.aux 0 = true → ∃ t, s.row .prechargeDone = some t ∧ t.sys.st = .connected) ∧
    (s.sys.st = .precharge → ∃ t, s.row .prechargeTimeout = some t ∧ t.sys.st = .standby ∧ t.sys.coolDown = true ∧
      t.sag.want = [false, false, false, false]) ∧
    (s.sys.st ≠ .precharge → s.row .prechargeDone = none ∧ s.row .prechargeTimeout = none) ∧
    (s.eff = .connected → s.aux 3 = true → ∃ t, s.row .trackingEnded = some t ∧ t.eff = .dispatch) ∧
    (s.eff = .dispatch → ∃ t, s.row .stopEnded = some t ∧ t.eff = .connected) ∧
    (s.eff = .dispatch ∨ s.eff = .degraded → ∃ t, s.row .openEnded = some t ∧ t.eff = .standby ∧ t.sag.degRun = false) ∧
    (s.sys.st = .selftest → s.sag.latch = false → ∀ o, ∃ t, s.row (.selftestEnded none o) = some t ∧
      t.sys.st = (if o then .pilot else .standby)) ∧
    (s.sys.st = .selftest → ∀ c o, c.isSome = true ∨ s.sag.latch = true →
      ∃ t, s.row (.selftestEnded c o) = some t ∧ t.sys.st = .isolated) ∧
    (s.sys.st = .maintenance → s.upd.isOpen = false → ∀ e, e = .sessionEnded ∨ e = .updateEnded →
      ∃ t, s.row e = some t ∧ t.sys.st = s.sys.base) ∧
    (s.sys.st = .standby ∨ s.sys.st = .connected ∨ s.sys.st = .dispatch ∨ s.sys.st = .degraded →
      ∃ t, s.row .ownLost = some t ∧ t.sys.st = .pilot) ∧
    (s.sys.st = .pilot → ∀ st od, ∃ t, s.row (.ownGained st od) = some t ∧ t.sys.st = st) ∧
    (∀ st b, (s.enter st b).sys.st = st ∧ (s.enter st b).sys.base = b ∧ (s.enter st b).sys.prev = s.sys.st ∧
      (s.enter st b).phm.enHigh = (s.prl.owner && (if st = .maintenance then b else st).enHigh && !s.sag.latch) ∧
      (s.enter st b).sag = s.sag ∧ (s.enter st b).fsq = s.fsq ∧ (s.enter st b).csm = s.csm ∧ (s.enter st b).dict = s.dict)) ∧
  (∀ s : State,
    (s.degAny = true → s.eff = .connected ∨ s.eff = .dispatch →
      s.runDegraded.eff = .degraded ∧ s.runDegraded.sag.degRun = true ∧ s.runDegraded.sag.degRunT = 0 ∧
      s.runDegraded.ctl.degTerm = true ∧ s.runDegraded.sys.originDisp = decide (s.eff = .dispatch)) ∧
    (s.degAny = false → s.eff = .degraded →
      s.runDegraded.eff = (if s.sys.originDisp then .dispatch else .connected) ∧ s.runDegraded.sag.degRun = false ∧
      s.runDegraded.ctl.degTerm = false) ∧
    (s.sys.st = .standby ∨ s.sys.st = .isolated ∨ s.sys.st = .pilot ∨ s.sys.st = .precharge → s.runDegraded = s))

/-- The gate of a firing-schedule entry: the due entry of its class runs, and no other does (03_firing_schedule.md). -/
def Obligations.EntryGateRunsTheDueEntry : Prop :=
  ∀ (s : State) (c : Nat) (m : EntryIn),
    (∀ w, s.EntryDue c m w → ∃ e late lag, s.gate c m = .run (s.taken m w) e w late lag) ∧
    (s.fsq.running = false → s.gate c m = .idle) ∧
    ((s.fsq.announced m).tableDone = true → s.gate c m = .idle) ∧
    (s.gate 0 m = .idle → exec (.nop m) s = .next s) ∧
    (s.gate 1 m = .idle → ∀ x r, exec (.beacon m x r) s = .next s) ∧
    (s.gate 2 m = .idle → exec (.nodeSlot m) s = .next s) ∧
    (s.gate 3 m = .idle → exec (.contentionSlot m) s = .next s) ∧
    (s.gate 4 m = .idle → exec (.snapshot m) s = .next s) ∧
    (s.gate 5 m = .idle → ∀ i v b q, exec (.currentLatch m i v b q) s = .next s) ∧
    (s.gate 6 m = .idle → exec (.estimateBatch m) s = .next s) ∧
    (s.gate 0x0A m = .idle → exec (.probePhaseStep m) s = .next s) ∧
    (s.gate 0x0B m = .idle → ∀ x, exec (.thermalSample m x) s = .next s) ∧
    (s.gate 0x0C m = .idle → exec (.logCheckpoint m) s = .next s) ∧
    (s.gate 0x0D m = .idle → exec (.mirrorPush m) s = .next s) ∧
    (s.gate 0x0F m = .idle → exec (.frameEnd m) s = .next s) ∧
    (∀ w, m.ecc = true → s.EntryDue c { m with ecc := false } w →
      ∃ t, s.gate c m = .skipped t ∧ t.fsq.eccSkip = true ∧ t.fsq.skipCnt = incSat 16 (s.fsq.announced m).skipCnt ∧ t.fnl = s.fnl ∧
        t.csm = s.csm) ∧
    (∀ w, (s.fsq.taken m w).lateCnt = (s.fsq.announced m).lateCnt ∨
      (s.fsq.taken m w).lateCnt = incSat 16 (s.fsq.announced m).lateCnt ∧ (s.fsq.taken m w).late = true)

/-- NOP, SNAPSHOT, LOG_CHECKPOINT, MIRROR_PUSH, PROBE_PHASE_STEP and CURRENT_LATCH entries that are due complete
(03_firing_schedule.md, 05_cell_measurement.md, 12_pair_operation.md). -/
def Obligations.EntriesOfTheSequencerRun : Prop :=
  ∀ (s : State) (m : EntryIn) (w : Nat) (t : State), t = s.taken m w →
    (s.EntryDue 0 m w → exec (.nop m) s = .next t) ∧
    (s.EntryDue 4 m w → exec (.snapshot m) s = .next { t with fsq := { t.fsq with snapAt := some (t.fsq.startOf w) } }) ∧
    (s.EntryDue 0x0C m w → Completes (.logCheckpoint m) s fun u => t.fsq.lateMax ≤ u.fsq.lateMax ∧ u.csm = s.csm) ∧
    (s.EntryDue 0x0D m w → field w 65 64 ≤ 1 → t.linkUp = true → t.prl.owner = true ∨ t.fsq.asOwner = true → t.inPilot = false →
      Completes (.mirrorPush m) s fun u => u.prl.mirrorSeq = inc32 s.prl.mirrorSeq ∧ u.prl.mirrorAge = 0 ∧
        u.prl.pushed = some (field w 65 64, t.pushBody (field w 65 64)) ∧ u = { t with prl := u.prl } ∧
        u.prl.sentParts = pushParts (s.parN P.prlVerMax) (inc32 s.prl.mirrorSeq) (mirrorBytes (field w 65 64) (t.pushBody (field w 65 64)))) ∧
    (s.EntryDue 0x0D m w → field w 65 64 ≤ 1 → t.inPilot = true ∨ t.linkUp = false ∨ t.prl.owner = false ∧ t.fsq.asOwner = false →
      exec (.mirrorPush m) s = .next t) ∧
    (s.EntryDue 0x0A m w → t.inPilot = false → Completes (.probePhaseStep m) s fun u => u.sag = s.sag ∧ u.csm = s.csm ∧
      u = (t.tagTone (entTone w) (toneEntry (t.fsq.bank t.fsq.active) (s.fsq.announced m).entry w))) ∧
    (s.EntryDue 0x0A m w → t.inPilot = true → exec (.probePhaseStep m) s = .next t) ∧
    (s.EntryDue 5 m w → ∀ i v b q, Completes (.currentLatch m i v b q) s fun u =>
      u.fsq.latches = t.fsq.latches.set (field w 66 64) i)

/-- BEACON, NODE_SLOT, CONTENTION_SLOT, ESTIMATE_BATCH, THERMAL_SAMPLE and FRAME_END entries that are due complete; host
errors in a schedule stop (03_firing_schedule.md, 04_finam_link.md, 06_state_estimation.md, 10_thermal.md,
00_scope.md). -/
def Obligations.EntriesOfLinkAndBlocksRun : Prop :=
  (∀ (s : State) (m : EntryIn) (w : Nat) (t : State), t = s.taken m w →
    (s.EntryDue 1 m w → entUnit w < 2 → t.radioSilent = false → t.unitUp (entUnit w) = true → (t.unit (entUnit w)).served ≠ 0 →
      t.fsq.frozen = true → ∀ x r, exec (.beacon m x r) s =
        .next (t.sendBeacon (entUnit w) x (t.fsq.startDt t.frameNs r.toNat))) ∧
    (s.EntryDue 1 m w → entUnit w < 2 → t.radioSilent = true ∨ t.unitUp (entUnit w) = false ∨ (t.unit (entUnit w)).served = 0 ∨
      t.fsq.frozen = false → ∀ x r, exec (.beacon m x r) s = .next t) ∧
    (s.EntryDue 2 m w → entUnit w < 2 → entKind w = 0 → entNode w < 48 → 1 ≤ entCount w → entCount w ≤ 48 →
      exec (.nodeSlot m) s = .next (if t.unitUp (entUnit w) = true then t.modUnit (entUnit w) (fun x =>
        { x with expect := (List.range (entCount w)).map (entNode w + ·), winNow := x.winNow + entCount w }) else t)) ∧
    (s.EntryDue 2 m w → entUnit w < 2 → entKind w = 1 ∨ entKind w = 2 → entNode w < 48 ∨ entNode w = 0x3F → 1 ≤ entCount w → entCount w ≤ 48 →
      exec (.nodeSlot m) s = .next (if t.unitUp (entUnit w) = true ∧ t.radioSilent = false ∧ (t.unit (entUnit w)).served ≠ 0
        then t.sendDyn (entUnit w) else t)) ∧
    (s.EntryDue 3 m w → entUnit w < 2 → 1 ≤ entCount w → entCount w ≤ 48 →
      exec (.contentionSlot m) s = .next (if t.unitUp (entUnit w) = true
        then t.modUnit (entUnit w) (fun x => { x with contOpen := true }) else t)) ∧
    (s.EntryDue 6 m w → 1 ≤ field w 69 64 → entNode w + field w 69 64 ≤ 48 →
      exec (.estimateBatch m) s = .next (if t.inPilot = true ∨ t.up 6 = false then t
        else (List.range (field w 69 64)).foldl (fun u i => u.batchNode w (entNode w + i)) t)) ∧
    (s.EntryDue 0x0B m w → ∀ x, exec (.thermalSample m x) s = .next (if t.up 11 = true then (List.range 4).foldl (fun u i =>
      if bitOf w (64 + i) then
        { u.thmTake i (entPhases w) x with thm := (u.thmTake i (entPhases w) x).thm.cover i (entPhases w) } else u) t else t)) ∧
    (s.EntryDue 0x0F m w → Completes (.frameEnd m) s fun u => u.fsq.frameEnded = true)) ∧
  (∀ (s : State) (m : EntryIn) (w : Nat),
    (∀ c f, f = s.fsq.announced m → f.running = true → f.tableDone = false → bankEntry (f.bank f.active) f.entry = w →
      reached m.now.toNat (f.startOf w) = true → entBadClass w = true → s.gate c m = .bad .reservedCode) ∧
    (∀ c f, f = s.fsq.announced m → f.running = true → f.tableDone = false → bankEntry (f.bank f.active) f.entry = w →
      reached m.now.toNat (f.startOf w) = true → entBadClass w = false → entClass w = c → entReservedBits w = true →
      s.gate c m = .bad .reservedBit) ∧
    (s.EntryDue 1 m w → 2 ≤ entUnit w → ∀ x r, exec (.beacon m x r) s = .fault (.hostError .schedule)) ∧
    (s.EntryDue 2 m w → 2 ≤ entUnit w ∨ entKind w = 3 ∨ entNode w = 48 → exec (.nodeSlot m) s = .fault (.hostError .schedule)) ∧
    (s.EntryDue 3 m w → 2 ≤ entUnit w ∨ entCount w = 0 ∨ 48 < entCount w →
      exec (.contentionSlot m) s = .fault (.hostError .schedule)) ∧
    (s.EntryDue 6 m w → field w 69 64 = 0 ∨ 48 < entNode w + field w 69 64 → exec (.estimateBatch m) s = .fault (.hostError .schedule)) ∧
    (s.EntryDue 0x0D m w → 1 < field w 65 64 → exec (.mirrorPush m) s = .fault (.hostError .schedule)))

/-- The schedule banks: writes, the request, the check, the withdrawal, the freeze, the frame start, and what reads back
(03_firing_schedule.md, 14_register_window.md). -/
def Obligations.BanksSwapAndReadBack : Prop :=
  (∀ s : State,
    (∀ (b : Fin 2) i w, s.up 3 = true → b.val ≠ s.fsq.active → s.fsq.swapBusy = false → Completes (.scheduleBankWrite b i w) s fun t =>
      t.fsq.bank b.val = memPutL (s.fsq.bank b.val) (4 * i.val) (leBytes 4 w.toNat) ∧ t.sag = s.sag ∧ t.fsq.wrActive = s.fsq.wrActive) ∧
    (∀ (b : Fin 2) i w, s.up 3 = true → b.val = s.fsq.active →
      exec (.scheduleBankWrite b i w) s = .next { s with fsq := { s.fsq with wrActive := true } }) ∧
    (∀ (b : Fin 2) i w, s.up 3 = true → b.val ≠ s.fsq.active → s.fsq.swapBusy = true →
      exec (.scheduleBankWrite b i w) s = .next { s with fsq := { s.fsq with wrPending := true } }) ∧
    (s.up 3 = true → s.sys.st ≠ .pilot → s.fsq.swapBusy = false → s.fsq.active < 2 → exec .swapRequest s =
      .next { s with fsq := { s.fsq with next := Tv.put s.fsq.shadow, swapCode := 1 } }) ∧
    (s.up 3 = true → s.sys.st ≠ .pilot → s.fsq.swapBusy = true → s.fsq.active < 2 → exec .swapRequest s = .next s) ∧
    (s.up 3 = true → s.sys.st ≠ .pilot → s.fsq.swapCode = 1 ∨ s.fsq.swapCode = 2 → exec .swapWithdraw s =
      .next { s with fsq := { s.fsq with next := Tv.put s.fsq.active, swapCode := 8 } }) ∧
    (s.up 3 = true → s.sys.st = .pilot → ∀ c, c = .swapRequest ∨ c = .swapWithdraw →
      exec c s = .next { s with sys := { s.sys with accPilotWr := true } }) ∧
    (s.up 3 = false → ∀ c, c = .swapRequest ∨ c = .swapWithdraw ∨ (∃ b i w, c = .scheduleBankWrite b i w) →
      exec c s = .next { s with sys := { s.sys with accAbsent := true } }) ∧
    (s.fsq.swapCode = 1 → Completes .swapCheckDone s fun t =>
      (t.fsq.swapCode = 2 ∧ t.fsq.next = s.fsq.next ∨
       (t.fsq.swapCode = 6 ∨ t.fsq.swapCode = 7) ∧ t.fsq.next = Tv.put s.fsq.active) ∧ t = { s with fsq := t.fsq }) ∧
    (s.fsq.swapCode ≠ 1 → exec .swapCheckDone s = .next s) ∧
    (s.fsq.running = true → s.fsq.frozen = false → (bankFind (s.fsq.bank s.fsq.active) (fun w => entClass w == 1)).isSome = true →
      Completes .beaconFreeze s fun t => t.fsq.frozen = true ∧ t.fsq.swapCode = (if s.fsq.swapCode = 2 then 3 else s.fsq.swapCode)) ∧
    (s.fsq.running = false ∨ s.fsq.frozen = true ∨ bankFind (s.fsq.bank s.fsq.active) (fun w => entClass w == 1) = none →
      exec .beaconFreeze s = .next s) ∧
    (s.fsq.running = true → Completes .frameStart s fun t => t.fsq.entry = 0 ∧ t.fsq.tableDone = false ∧ t.fsq.frameEnded = false ∧
      t.fsq.frozen = false) ∧
    (s.fsq.running = false → exec .frameStart s = .next s)) ∧
  (∀ (m : Mem) (a : Nat) (l : List Byte), memWf m = true →
    memGetL (memPutL m a l) a l.length = l ∧
    (∀ b, b < a ∨ a + l.length ≤ b → memGet (memPutL m a l) b = memGet m b) ∧
    memWf (memPutL m a l) = true)

/-- The receive checks of a node frame: the first that fails is the answer, and a frame that passes all of them gives
its payload and keeps its FC (04_finam_link.md). -/
def Obligations.ReceivedFramesPassTheirChecks : Prop :=
  ∀ (s : State) (f : RxFrame) (form : Bool),
    (f.fcs = false → s.rxCheck f form = .error .energy) ∧
    (f.fcs = true → f.head.snid ≠ s.fnl.snid → f.head.snid ≠ 0xFFFFFFFF → s.rxCheck f form = .error .foreign) ∧
    (f.fcs = true → f.head.snid = s.fnl.snid → form = false → s.rxCheck f form = .error .format) ∧
    (f.fcs = true → f.head.snid = s.fnl.snid → form = true → (s.fnl.keyFor f.head.epoch).bind f.openWith = none →
      s.rxCheck f form = .error .mic) ∧
    (∀ p l, f.fcs = true → f.head.snid = s.fnl.snid → form = true → f.head.epoch = s.fnl.epoch % 256 → f.openWith s.fnl.keyNow = some p →
      (s.nl f.head.addr).lastFc = some l → s.rxCheck f form = if l < f.head.fc then .ok p else .error .replay) ∧
    (∀ p, f.fcs = true → f.head.snid = s.fnl.snid → form = true → f.head.epoch = s.fnl.epoch % 256 → f.openWith s.fnl.keyNow = some p →
      (s.nl f.head.addr).lastFc = none → s.rxCheck f form = .ok p) ∧
    (∀ u n k, s.rxCount u n k = { s with fnl := (s.rxCount u n k).fnl }) ∧
    (f.head.epoch = s.fnl.epoch % 256 → f.head.addr < s.fnl.links.length → ((s.rxAccept f).nl f.head.addr).lastFc = some f.head.fc) ∧
    (s.rxAccept f = { s with fnl := (s.rxAccept f).fnl })

/-- REPORT_RX, REPORT_WINDOW_MISS, JOIN_REQUEST_RX, CONTENTION_RX and ACK_RX complete on every frame, by the outcome of
the receive checks; timers of the link (04_finam_link.md, 05_cell_measurement.md, 12_pair_operation.md). -/
def Obligations.LinkFramesAreTaken : Prop :=
  ∀ (s : State) (u : Fin 2) (f : RxFrame),
    (∀ n, (s.unit u.val).expect.contains n.val = false → exec (.reportRx u n f) s = .next s ∧ exec (.reportWindowMiss u n) s = .next s) ∧
    (∀ (n : Fin 48) g r, (s.unit u.val).expect.contains n.val = true →
      g = (s.formOk u.val 2 (if f.head.ver = 3 then 43 else 42) f && f.head.addr == n.val) → s.rxCheck f g = r →
      exec (.reportRx u n f) s = .next (match r with
        | .error k => s.rxCount u.val f.head.addr k
        | .ok p =>
          let t := ((s.rxAccept f).modUnit u.val (fun x => { x with expect := x.expect.filter (· != n.val) })).modNl n.val (·.reported f.head.ver p)
          if s.inPilot = true then t else t.sweep u.val n.val f.rxLt p)) ∧
    (∀ n : Fin 48, (s.unit u.val).expect.contains n.val = true → u.val < s.fnl.units.length → n.val < s.fnl.links.length →
      Completes (.reportWindowMiss u n) s fun t => (t.unit u.val).miss = incSat 16 (s.unit u.val).miss ∧
        (t.nl n.val).miss = incSat 16 (s.nl n.val).miss ∧ (t.unit u.val).expect.contains n.val = false) ∧
    (∀ k, s.rxCheck f (s.formOk u.val 6 9 f && (s.unit u.val).contOpen) = .error k →
      exec (.contentionRx u f) s = .next (s.rxCount u.val f.head.addr k)) ∧
    (∀ p, s.rxCheck f (s.formOk u.val 6 9 f && (s.unit u.val).contOpen) = .ok p →
      exec (.contentionRx u f) s = .next (if s.inPilot = true then s.rxAccept f else
        ((s.rxAccept f).kackSet u.val f.head.addr f.head.fc).logPost 0 0x0304 (if leAt p 0 1 = 2 then 2 else 1)
          ([f.head.addr, leAt p 0 1] ++ ((p.drop 1).take 4).map (fun b : Byte => b.toNat)))) ∧
    (∀ k, s.rxOwn f = some k → exec (.joinRequestRx u f) s = .next (s.rxCount u.val 0x3E k)) ∧
    (∀ g, g = (f.head.typ == 5 && f.head.ver == 2 && f.head.dir && f.head.unit == u.val && f.head.addr == 0x3E && f.body.length == 21 &&
        leAt f.body 0 1 == 1 && (s.unit u.val).contOpen) → s.rxOwn f = none →
      (g = false → exec (.joinRequestRx u f) s = .next (s.rxCount u.val 0x3E .format)) ∧
      (g = true → s.fnl.rowOf (leAt f.body 1 8) = none →
        exec (.joinRequestRx u f) s = .next (s.joinUnknown u.val (leAt f.body 1 8))) ∧
      (∀ n, g = true → s.fnl.rowOf (leAt f.body 1 8) = some n → f.openWith (nth s.fnl.pair n {}).kN = none ∨ f.head.epoch ≠ 0 →
        exec (.joinRequestRx u f) s = .next ((s.rxCount u.val n .mic).joinUnknown u.val (leAt f.body 1 8))) ∧
      (∀ n, g = true → s.fnl.rowOf (leAt f.body 1 8) = some n → (f.openWith (nth s.fnl.pair n {}).kN).isSome = true → f.head.epoch = 0 →
        f.head.fc ≤ (nth s.fnl.pair n {}).joinCtr → exec (.joinRequestRx u f) s = .next (s.rxCount u.val n .replay)) ∧
      (∀ n, g = true → s.fnl.rowOf (leAt f.body 1 8) = some n → (f.openWith (nth s.fnl.pair n {}).kN).isSome = true → f.head.epoch = 0 →
        (nth s.fnl.pair n {}).joinCtr < f.head.fc → Completes (.joinRequestRx u f) s fun t =>
          (nth t.fnl.pair n {}).joinCtr = f.head.fc ∧ (s.inPilot = false → ∃ r ∈ t.fnl.joinQ, r.node = n))) ∧
    ((s.unit u.val).waitAck = none → exec (.ackRx u f) s = .next (match s.rxCheck f false with
      | .error k => s.rxCount u.val f.head.addr k
      | .ok _ => s)) ∧
    (∀ k n c r, (s.unit u.val).waitAck = some (k, n, c) → s.rxCheck f (s.ackForm u.val k n f) = r →
      exec (.ackRx u f) s = .next (match r with
        | .error e => s.rxCount u.val f.head.addr e
        | .ok p =>
          let t := s.rxAccept f
          if leAt p 0 4 = c % 2 ^ 32 ∧ leAt p 4 1 ≤ 5
            then (t.modUnit u.val (fun x => { x with waitAck := none })).ackKind u.val k n (leAt p 4 1) (leAt p 5 2) else t)) ∧
    (∀ b, s.unitUp u.val = true → Completes (.unitLoopbackTest u b) s fun t =>
      t.fnl.units = s.fnl.units.modify u.val (fun x => { x with loopOk := b, tested := true }) ∧ t.sag = s.sag) ∧
    (s.inPilot = false → s.epochOver = true → Completes .epochPeriodExpiry s fun t => t = { s with fnl := { s.fnl with epochDue := true } }) ∧
    (s.fnl.changing = true → s.fnl.keySent = true → s.fnl.newKeyDue = false → Completes .linkKeyChangeTimeout s fun t =>
      t = { s with fnl := { s.fnl with newKeyDue := true, epochDue := true } }) ∧
    (∀ (n : Fin 48) q, s.sys.mgpAway = false → s.fnl.cmdQ.find? (fun x => x.node == n.val && x.inFlight) = some q → q.tries ≤ q.limit →
      Completes (.commandRetry n) s fun t => t = { s with fnl := { s.fnl with cmdQ := s.fnl.cmdQ.map (fun x => if x.node == n.val && x.inFlight then { x with inFlight := false } else x) } })

/-- COMMAND_RETRY, UNIT_LOOPBACK_TEST, EPOCH_PERIOD_EXPIRY, LINK_KEY_CHANGE_TIMEOUT and LOOP_CLASS_CHANGE complete in
every state (04_finam_link.md, 05_cell_measurement.md). -/
def Obligations.LinkTimersAndUnits : Prop :=
  ∀ s : State,
    (∀ (u : Fin 2) b t, s.unitUp u.val = true → t = s.modUnit u.val (fun x => { x with loopOk := b, tested := true }) →
      exec (.unitLoopbackTest u b) s = .next (if (t.unit 0).tested = true ∧ (t.unit 0).loopOk = false ∧ (t.unit 1).tested = true ∧
        (t.unit 1).loopOk = false then t.autoSwap else t)) ∧
    (∀ (u : Fin 2) b, s.unitUp u.val = false → exec (.unitLoopbackTest u b) s = .next s) ∧
    (s.inPilot = false → s.fnl.epochAt + s.parN P.fnlEpochPeriod * 3600 * 8192 ≤ s.sys.clock →
      exec .epochPeriodExpiry s = .next { s with fnl := { s.fnl with epochDue := true } }) ∧
    (s.inPilot = true ∨ s.sys.clock < s.fnl.epochAt + s.parN P.fnlEpochPeriod * 3600 * 8192 → exec .epochPeriodExpiry s = .next s) ∧
    (exec .linkKeyChangeTimeout s = .next (if s.fnl.changing = true ∧ s.fnl.keySent = true ∧ s.fnl.newKeyDue = false
      then { s with fnl := { s.fnl with newKeyDue := true, epochDue := true } } else s)) ∧
    (∀ n : Fin 48, s.sys.mgpAway = true ∨ s.takeFlight n.val = none → exec (.commandRetry n) s = .next s) ∧
    (∀ (n : Fin 48) q t, s.sys.mgpAway = false → s.takeFlight n.val = some (q, t) → q.tries ≤ q.limit →
      Completes (.commandRetry n) s fun r => (∀ x ∈ r.fnl.cmdQ, x.node = n.val → x.inFlight = false) ∧ r = { s with fnl := r.fnl }) ∧
    (∀ (n : Fin 48) q t, s.sys.mgpAway = false → s.takeFlight n.val = some (q, t) → q.limit < q.tries →
      exec (.commandRetry n) s = .next (t.giveUp q) ∧ ∀ x ∈ t.fnl.cmdQ, x.node = n.val → x.inFlight = false) ∧
    (∀ ua, loopClass ua = s.mea.loop ∨ s.prl.resLeft ≠ 0 → exec (.loopClassChange ua) s = .next { s with pins := { s.pins with loopUa := ua } }) ∧
    (∀ ua, loopClass ua ≠ s.mea.loop → s.prl.resLeft = 0 → Completes (.loopClassChange ua) s fun t => t.mea.loop = loopClass ua ∧ t.pins.loopUa = ua ∧
      t.sag.latch = (loopClass ua == 2 || loopClass ua == 3 || s.sag.latch)) ∧
    (∀ c, (s.fnl.advance c).epoch = inc32 s.fnl.epoch ∧ (∀ x ∈ (s.fnl.advance c).units, x.fc = 0) ∧
      ∀ l ∈ (s.fnl.advance c).links, l.lastFc = none)

/-- Every command of a DN8 node completes in every state and changes that node alone (04_finam_link.md,
05_cell_measurement.md). -/
def Obligations.NodeCommandsTouchOneNode : Prop :=
  ∀ (s : State) (n : Fin 48) (c : Instr), nodeOf c = some n →
    Completes c s fun t =>
      t = { s with nodes := t.nodes } ∧ t.nodes.length = s.nodes.length ∧ ∀ k, k ≠ n.val → t.nodes[k]? = s.nodes[k]?

/-- NODE_POWER_ON, _BEACON_MISSED, _COAST_LIMIT, _BAL_TIMEOUT, _REFUSE_WAIT_END, _RESTART_DONE, _SCAN_CYCLE_END,
_BANK_FALLBACK complete (04_finam_link.md, 17_field_update.md). -/
def Obligations.NodeLinkStatesFollowTheTable : Prop :=
  ∀ (s : State) (n : Fin 48) (d : Dn8), s.nodes[n.val]? = some d →
    (d.st = .powerOff → Completes (.nodePowerOn n) s fun t => ∃ e, t = s.withNode n.val e ∧
      e.st = (if d.keyed = true then .search else .unpaired) ∧ e.closed = 0 ∧ e.balBarred = true ∧ e.supplyOk = true) ∧
    (d.st ≠ .powerOff → exec (.nodePowerOn n) s = .next s) ∧
    (d.linked = true → Completes (.nodeBeaconMissed n) s fun t => ∃ e, t = s.withNode n.val e ∧
      e.st = .coasting ∧ e.missed = d.missed + 1 ∧ e.bmiss = min 15 (d.bmiss + 1) ∧ e.kackWait = none ∧ e.mask = d.mask ∧ e.timing = d.timing) ∧
    (d.linked = false → exec (.nodeBeaconMissed n) s = .next s) ∧
    (d.st = .coasting → 8 ≤ d.missed → Completes (.nodeCoastLimit n) s fun t => ∃ e, t = s.withNode n.val e ∧
      e.st = .search ∧ e.unit = 1 - d.unit ∧ e.closed = 0 ∧ e.mask = 0 ∧ e.balBarred = true ∧ e.timing = none) ∧
    (d.st ≠ .coasting ∨ d.missed < 8 → exec (.nodeCoastLimit n) s = .next s) ∧
    (d.st ≠ .powerOff → exec (.nodeBalTimeout n) s =
      .next (s.withNode n.val { d with closed := 0, mask := 0, nextMask := 0, balBarred := true })) ∧
    (d.st = .powerOff → exec (.nodeBalTimeout n) s = .next s) ∧
    (exec (.nodeRefuseWaitEnd n) s = .next (s.withNode n.val { d with refuseWait := false })) ∧
    (exec (.nodeRestartDone n) s = .next (s.withNode n.val { d with silent := false })) ∧
    (d.st = .search → d.silent = false → d.heard.contains d.snid = true → d.refuseWait = false →
      Completes (.nodeScanCycleEnd n) s fun t => ∃ e, t = s.withNode n.val e ∧
        e.st = .joining ∧ e.joinWait = true ∧ e.target = d.snid ∧ e.be = 2 ∧ e.reqs = 0) ∧
    (d.st = .search → d.silent = false → d.heard.contains d.snid = false ∨ d.refuseWait = true →
      exec (.nodeScanCycleEnd n) s = .next (s.withNode n.val { d with heard := [] })) ∧
    (d.st ≠ .search ∨ d.silent = true → exec (.nodeScanCycleEnd n) s = .next s) ∧
    (d.trial = true → Completes (.nodeBankFallback n) s fun t => ∃ e, t = s.withNode n.val e ∧
      e.bank = 1 - d.bank ∧ e.trial = false ∧ e.silent = true ∧ e.closed = 0 ∧ e.balBarred = true) ∧
    (d.trial = false → exec (.nodeBankFallback n) s = .next s)

/-- NODE_BEACON_RX, NODE_JOIN_REPLY_RX and NODE_JOIN_REPLY_TIMEOUT complete on every frame: adoption, the network heard,
the accept and the refuse (04_finam_link.md). -/
def Obligations.NodeBeaconsSetTimingAndMasks : Prop :=
  ∀ (s : State) (n : Fin 48) (d : Dn8), s.nodes[n.val]? = some d →
    (∀ u f x, exec (.nodeBeaconRx n u f x) s = .next (s.withNode n.val (d.onBeacon n.val u.val f (x % 2 ^ 40)))) ∧
    (∀ u f x, d.silent = true ∨ f.fcs = false ∨ d.st = .powerOff ∨ beaconForm u f = false ∨ (u ≠ d.unit ∧ d.st ≠ .unpaired) →
      d.onBeacon n.val u f x = d) ∧
    (∀ u f x e k, d.linked = true → d.unit = u → d.beaconValid u f = some (e, k) → d.covered (Beacon.ofBytes f.body) = true →
      ∃ y, d.onBeacon n.val u f x = y ∧ y.st = .synced ∧ y.unit = u ∧ y.next = some (Beacon.ofBytes f.body) ∧ y.missed = 0 ∧
        y.nextMask = nth (Beacon.ofBytes f.body).bleed (d.index.getD 0 - (Beacon.ofBytes f.body).rFirst) 0 ∧ y.mask = d.mask ∧
        y.timing = d.timing ∧ y.balBarred = false ∧ y.brx = x % 2 ^ 32 ∧ y.epoch = e ∧ y.kL = k) ∧
    (∀ u f x e k, d.linked = true → d.unit = u → d.beaconValid u f = some (e, k) → d.covered (Beacon.ofBytes f.body) = false →
      ∃ y, d.onBeacon n.val u f x = y ∧ y.st = .search ∧ y.closed = 0 ∧ y.balBarred = true ∧
        y.unit = (if (Beacon.ofBytes f.body).move = true then 1 - u else u)) ∧
    (∀ u f x, d.linked = true → d.beaconValid u f = none → d.onBeacon n.val u f x = d) ∧
    (∀ u f x, d.st = .unpaired → d.silent = false → d.refuseWait = false → f.fcs = true → beaconForm u f = true →
      (Beacon.ofBytes f.body).joinOpen = true → ∃ y, d.onBeacon n.val u f x = y ∧ y.st = .joining ∧ y.joinWait = true ∧
        y.target = f.head.snid ∧ y.unit = u ∧ y.timing = some (Beacon.ofBytes f.body)) ∧
    (∀ f, exec (.nodeJoinReplyRx n f) s = .next (s.withNode n.val (d.onReply n.val f))) ∧
    (∀ f g, g = (d.st == .joining && !d.silent && f.fcs && f.head.typ == 5 && f.head.ver == 2 && !f.head.dir && f.head.unit == d.unit &&
        f.head.addr == 0x3E && f.head.epoch == 0 && f.head.snid == d.target && decide (d.joinCtr < f.head.fc) &&
        d.timing.elim false (·.cNode == 0xFE)) →
      (g = false ∨ f.openWith d.kN = none → d.onReply n.val f = d) ∧
      (∀ p, g = true → f.openWith d.kN = some p → leAt p 1 8 ≠ d.serial → d.onReply n.val f = d) ∧
      (∀ p, g = true → f.openWith d.kN = some p → leAt p 1 8 = d.serial → leAt p 0 1 = 2 → p.length = 47 →
        d.onReply n.val f = d.accept n.val p f.head.fc) ∧
      (∀ p, g = true → f.openWith d.kN = some p → leAt p 1 8 = d.serial → leAt p 0 1 = 3 → p.length = 10 →
        d.onReply n.val f = { d.listen with refuseWait := true, joinCtr := f.head.fc })) ∧
    (∀ p c, (d.accept n.val p c).st = .synced ∧ (d.accept n.val p c).unit = leAt p 10 1 % 2 ∧ (d.accept n.val p c).ver = leAt p 11 1 ∧
      (d.accept n.val p c).snid = leAt p 12 4 ∧ (d.accept n.val p c).epoch = leAt p 16 4 ∧ (d.accept n.val p c).kL = leAt p 20 16 ∧
      (d.accept n.val p c).limPending = some (leAt p 36 2, leAt p 38 2) ∧ (d.accept n.val p c).ov = d.ov ∧ (d.accept n.val p c).uv = d.uv ∧
      (d.accept n.val p c).balTo = leAt p 40 2 ∧ (d.accept n.val p c).tof = leAt p 42 1 ∧ (d.accept n.val p c).joinCtr = c ∧
      (d.accept n.val p c).fc = (if leAt p 16 4 = d.epoch then d.fc else 0) + 1) ∧
    (d.st = .joining → d.replyWait = true → Completes (.nodeJoinReplyTimeout n) s fun t => ∃ e, t = s.withNode n.val e ∧
      e.st = .joining ∧ e.replyWait = false ∧ e.joinWait = true ∧ e.be = 2) ∧
    (d.st ≠ .joining ∨ d.replyWait = false → exec (.nodeJoinReplyTimeout n) s = .next s)

/-- NODE_SWEEP, NODE_REPORT_TX, NODE_BALANCE_WINDOW, NODE_OPEN_WIRE_TEST and NODE_SWITCH_TEST complete in every state of
the node (04_finam_link.md, 05_cell_measurement.md). -/
def Obligations.NodeMeasuresAndBalances : Prop :=
  ∀ (s : State) (n : Fin 48) (d : Dn8), s.nodes[n.val]? = some d →
    (∀ m e, e = (if s.fsq.running = true then d else d.frameStart) → e.linked = true → e.timing.isSome = true →
      exec (.nodeSweep n m) s = .next (s.withNode n.val { e with
          closed := 0, ov := (e.limPending.getD (e.ov, e.uv)).1, uv := (e.limPending.getD (e.ov, e.uv)).2,
          limPending := none, v := m.v, t := m.t, vsup := m.vsup, vref := m.vref,
          ntcFault := m.t.any (fun x => decide (x < -2560) || decide (7680 < x)) })) ∧
    (∀ m e, e = (if s.fsq.running = true then d else d.frameStart) → e.linked = false ∨ e.timing = none →
      exec (.nodeSweep n m) s = .next (s.withNode n.val e)) ∧
    (∀ x b, d.linked = true → d.timing = some b → d.covered b = true → Completes (.nodeReportTx n x) s fun t => ∃ e, t = s.withNode n.val e ∧
      e = { d with
          tx := e.tx, report := d.reportBytes x, fc := d.fc + 1, ovTrip := false, uvTrip := false, tripMap := 0,
          bmiss := 0, tcode := 0, tval := 0 }) ∧
    (∀ x, d.linked = false ∨ (d.timing.elim false d.covered) = false → exec (.nodeReportTx n x) s = .next s) ∧
    (∀ b, d.linked = true → d.balBarred = false → d.timing = some b → 0 < b.bDur → exec (.nodeBalanceWindow n true) s =
      .next (s.withNode n.val { d with closed := d.mask, balActive := d.balActive || d.mask != 0 })) ∧
    (d.linked = false ∨ d.balBarred = true ∨ (d.timing.elim false (fun b => decide (0 < b.bDur))) = false →
      exec (.nodeBalanceWindow n true) s = .next s) ∧
    (exec (.nodeBalanceWindow n false) s = .next (s.withNode n.val { d with closed := 0 })) ∧
    (∀ x b, d.linked = true → d.timing = some b → d.index = some b.owNode → exec (.nodeOpenWireTest n x) s =
      .next (s.withNode n.val { d with closed := 0, tcode := 1 + 4 * b.owWire, tval := x })) ∧
    (∀ x, d.linked = false ∨ (∀ b, d.timing = some b → d.index ≠ some b.owNode) → exec (.nodeOpenWireTest n x) s = .next s) ∧
    (∀ x b, d.linked = true → d.timing = some b → d.index = some b.stNode → exec (.nodeSwitchTest n x) s =
      .next (s.withNode n.val { d with closed := 0, balActive := true, tcode := 2 + 4 * b.stPos, tval := x })) ∧
    (∀ x, d.linked = false ∨ (∀ b, d.timing = some b → d.index ≠ some b.stNode) → exec (.nodeSwitchTest n x) s = .next s)

/-- NODE_COMMAND_RX and NODE_FIRMWARE_RX complete on every frame: executed once, acknowledged, refused by RESULT
(04_finam_link.md). -/
def Obligations.NodeCommandsAndFirmware : Prop :=
  ∀ (s : State) (n : Fin 48) (d : Dn8), s.nodes[n.val]? = some d →
    (∀ f, d.frameOk 3 f = none ∨ (∃ p, d.frameOk 3 f = some p ∧ (p.length < 2 ∨ (d.slotMine 1 = false ∧ leAt p 0 1 ≠ 8))) →
      exec (.nodeCommandRx n f) s = .next s) ∧
    (∀ f p x, d.frameOk 3 f = some p → 2 ≤ p.length → d.slotMine 1 = true ∨ leAt p 0 1 = 8 →
      x = { d with rxFc := d.rxFc.set f.head.unit (some f.head.fc) } →
      exec (.nodeCommandRx n f) s = .next (s.withNode n.val (if d.lastCseq = some (leAt p 1 1)
        then x.ack (d.slotMine 1) f.head.fc d.lastAck.1 d.lastAck.2
        else { x with lastCseq := some (leAt p 1 1) }.command n.val (leAt p 0 1) (p.drop 2)
          (fun y r i => y.ack (d.slotMine 1) f.head.fc r i)))) ∧
    (∀ p a, p.length = 4 → d.command n.val 1 p a = a { d with limPending := some (leAt p 0 2, leAt p 2 2) } 0 0) ∧
    (∀ p a, p.length = 3 → 50 ≤ leAt p 0 2 → leAt p 0 2 ≤ 1000 →
      d.command n.val 2 p a = a { d with balTo := leAt p 0 2, tof := leAt p 2 1 } 0 0) ∧
    (∀ p a, p.length = 3 → leAt p 0 2 < 50 ∨ 1000 < leAt p 0 2 → d.command n.val 2 p a = a d 2 0) ∧
    (∀ w c, (d.command n.val 8 [] (fun y r i => y.ack w c r i)).st = .unpaired ∧
      (d.command n.val 8 [] (fun y r i => y.ack w c r i)).keyed = false) ∧
    (∀ c p a, c = 0 ∨ 8 < c → d.command n.val c p a = a d 1 0) ∧
    (∀ f, d.frameOk 7 f = none ∨ (∃ p, d.frameOk 7 f = some p ∧ (p.length < 5 ∨ d.slotMine 2 = false)) →
      exec (.nodeFirmwareRx n f) s = .next s) ∧
    (∀ f p, d.frameOk 7 f = some p → 5 ≤ p.length → d.slotMine 2 = true → exec (.nodeFirmwareRx n f) s = .next (s.withNode n.val
      ({ d with rxFc := d.rxFc.set f.head.unit (some f.head.fc) }.firmware n.val (leAt p 0 1) (leAt p 1 4) (p.drop 5)
        (fun y r i => y.ack true f.head.fc r i)))) ∧
    (∀ b off l a, d.fw = none → d.firmware n.val b off l a = if 0 < d.fwNext ∧ off ≠ d.fwNext then a d 5 d.nextBlock else a d 2 0) ∧
    (∀ b total v g c off l a, d.fw = some (b, total, v, g) → c ≠ b → d.firmware n.val c off l a = a d 2 0) ∧
    (∀ b total v g off l a, d.fw = some (b, total, v, g) → off ≠ d.fwNext → d.firmware n.val b off l a = a d 5 d.nextBlock) ∧
    (∀ b total v g l a, d.fw = some (b, total, v, g) → l.length = min d.blockSize (total - d.fwNext) → d.fwNext + l.length < total →
      d.firmware n.val b d.fwNext l a = a { d with fwNext := d.fwNext + l.length, fwData := d.fwData ++ l } 0 0) ∧
    (∀ b total v g l a, d.fw = some (b, total, v, g) → l.length = min d.blockSize (total - d.fwNext) → total ≤ d.fwNext + l.length →
      sha256 (d.fwData ++ l) = g → ∃ e, d.firmware n.val b d.fwNext l a = a e 0 0 ∧ e.staged = true ∧ e.fwVer = d.fwVer.set b v)

/-- NODE_COMPARATOR_TRIP, _SUPPLY_LOW, _SELF_CHECK_FAIL, _LOOP_SWITCH_CLOSE, _OWN_RESTART and _CONTENTION_TX complete in
every state of the node (04_finam_link.md, 05_cell_measurement.md). -/
def Obligations.NodeTripsAndContention : Prop :=
  ∀ (s : State) (n : Fin 48) (d : Dn8), s.nodes[n.val]? = some d →
    (∀ p above held x, d.st ≠ .powerOff → (if above = true then 100 * d.ov ≤ held else held ≤ 100 * d.uv) →
      Completes (.nodeComparatorTrip n p above held x) s fun t => ∃ e, t = s.withNode n.val e ∧
        e.loopClosed = false ∧ e.ovTrip = (d.ovTrip || above) ∧ e.uvTrip = (d.uvTrip || !above) ∧ e.tripMap = putBit d.tripMap p.val true ∧
        e.contQ = (if d.slotFollows x = true then d.contQ ++ [(3, [putBit d.tripMap p.val true] ++ le4 x)] else d.contQ)) ∧
    (∀ p above held x, d.st = .powerOff ∨ (if above = true then held < 100 * d.ov else 100 * d.uv < held) →
      exec (.nodeComparatorTrip n p above held x) s = .next s) ∧
    (exec (.nodeSupplyLow n) s = .next (s.withNode n.val { d with loopClosed := false, supplyOk := false })) ∧
    (∀ x, d.st ≠ .powerOff → Completes (.nodeSelfCheckFail n x) s fun t => ∃ e, t = s.withNode n.val e ∧
      e.loopClosed = false ∧ e.selfFault = true ∧ e.contQ = d.contQ ++ [(2, [x])]) ∧
    (∀ x, d.st ≠ .powerOff → Completes (.nodeOwnRestart n x) s fun t => ∃ e, t = s.withNode n.val e ∧
      e.silent = true ∧ e.st = (if d.keyed = true then .search else .unpaired) ∧ e.closed = 0 ∧ e.balBarred = true ∧
      e.contQ = [(1, [x, d.bank])]) ∧
    (∀ x, d.st = .powerOff → exec (.nodeSelfCheckFail n x) s = .next s ∧ exec (.nodeOwnRestart n x) s = .next s) ∧
    (∀ lo hi, exec (.nodeLoopSwitchClose n lo hi) s = .next (if d.st ≠ .powerOff ∧ d.selfFault = false ∧ 100 * d.uv + 200 ≤ lo ∧
      hi + 200 ≤ 100 * d.ov then s.withNode n.val { d with loopClosed := true, supplyOk := true } else s)) ∧
    (d.silent = true ∨ (d.timing.elim false (fun b => decide (0 < b.kCount))) = false ∨ d.kackWait.isSome = true ∨
      (¬ (d.st = .joining ∧ d.joinWait = true) ∧ (d.linked = false ∨ d.contQ = [])) → exec (.nodeContentionTx n) s = .next s) ∧
    (∀ b, d.silent = false → d.timing = some b → 0 < b.kCount → d.kackWait = none →
      (d.st = .joining ∧ d.joinWait = true) ∨ (d.linked = true ∧ d.contQ ≠ []) → 0 < d.backoff →
      exec (.nodeContentionTx n) s = .next (s.withNode n.val { d with backoff := d.backoff - 1 })) ∧
    (∀ b, d.silent = false → d.timing = some b → 0 < b.kCount → d.kackWait = none → d.backoff = 0 → d.st = .joining → d.joinWait = true →
      Completes (.nodeContentionTx n) s fun t => ∃ e, t = s.withNode n.val e ∧
        e = { d with tx := e.tx, joinCtr := d.joinCtr + 1, reqs := d.reqs + 1, kackWait := some (true, d.joinCtr + 1) }) ∧
    (∀ b, d.timing = some b → 0 < b.kCount → d.kackWait = none → d.backoff = 0 → d.linked = true → d.contQ ≠ [] →
      Completes (.nodeContentionTx n) s fun t => ∃ e, t = s.withNode n.val e ∧
        e = { d with tx := e.tx, fc := d.fc + 1, kackWait := some (false, d.fc) })

/-- CSM_ARBITRATION_ROUND completes in every state; a round grants at most one requester with a request, by class, quota
and floor (01_architecture.md). -/
def Obligations.ArbiterKeepsQuotasAndFloor : Prop :=
  (∀ (s : State) want, s.up 6 = true → want.any (0 < ·) = true → exec (.csmArbitrationRound want) s =
    .next { s with csm := { s.csm with arb := s.csm.arb.arbitrate s.arbSettings want } }) ∧
  (∀ (s : State) want, s.up 6 = false ∨ want.any (0 < ·) = false → exec (.csmArbitrationRound want) s = .next s) ∧
  ∀ (a : Arb) (cfg want : List Nat),
    (a.arbitrate cfg want).round = (a.round + 1) % 64 ∧
    (a.arbitrate cfg want).cfg = (if a.round = 0 then cfg else a.cfg) ∧
    (∀ r, (a.arbitrate cfg want).granted = some r → r < 6 ∧ 0 < nth want r 0 ∧ (a.arbitrate cfg want).words ≤ nth want r 0) ∧
    (∀ r, r < 2 → (a.arbitrate cfg want).granted = some r →
      nth (a.arbitrate cfg want).hq r 0 ≤ nth (a.arbitrate cfg want).cfg r 0) ∧
    (64 ≤ a.round + nth (a.arbitrate cfg want).cfg 2 0 → 0 < nth want 4 0 ∨ 0 < nth want 5 0 →
      (a.arbitrate cfg want).granted = some 4 ∨ (a.arbitrate cfg want).granted = some 5) ∧
    (∀ b, b = a.openWindow cfg → b.floorRound = false ∨ (nth want 4 0 = 0 ∧ nth want 5 0 = 0) →
      (b.eligible want 0 = true ∨ b.eligible want 1 = true → (a.arbitrate cfg want).granted = some 0 ∨ (a.arbitrate cfg want).granted = some 1) ∧
      (b.eligible want 0 = false → b.eligible want 1 = false → b.eligible want 2 = true ∨ b.eligible want 3 = true →
        (a.arbitrate cfg want).granted = some 2 ∨ (a.arbitrate cfg want).granted = some 3)) ∧
    ((a.arbitrate cfg want).granted = none → (a.arbitrate cfg want).words = 0 ∧ (a.arbitrate cfg want).hq = (a.openWindow cfg).hq)

/-- The balancing plan and its masks, capacity commits, checkpoint, PD0 backup, MRAM scrub and the isolation snapshot
(01_architecture.md, 05_cell_measurement.md, 06_state_estimation.md, 18_event_log.md). -/
def Obligations.MgpJobsAndMram : Prop :=
  (∀ s : State,
    (∀ want, s.up 6 = true → want.any (0 < ·) = true → Completes (.csmArbitrationRound want) s fun t =>
      t.csm.arb.round = (s.csm.arb.round + 1) % 64 ∧ t.csm.recs = s.csm.recs) ∧
    (∀ ua, loopClass ua ≠ s.mea.loop → s.prl.resLeft = 0 → Completes (.loopClassChange ua) s fun t =>
      t.mea.loop = loopClass ua ∧ t.pins.loopUa = ua) ∧
    (s.sys.mgpAway = false → s.sys.st ≠ .pilot → s.up 6 = true → exec .balancingPlan s =
      .next { s with est := { s.est with plan := (List.range 48).map (s.balMask s.balRef), planDue := false } }) ∧
    (s.sys.mgpAway = true ∨ s.sys.st = .pilot ∨ s.up 6 = false → exec .balancingPlan s = .next s) ∧
    (∀ c due, (c = .capCommitDue ∧ due = (s.est.commitDue || s.est.commitHeld)) ∨ (c = .capCommitRetry ∧ due = s.est.commitRetry) →
      (due = false → exec c s = .next s) ∧
      (due = true → s.sys.boWarn = true → exec c s = .next { s with est := { s.est with commitHeld := true } }) ∧
      (due = true → s.sys.boWarn = false → s.mbx.long = true ∨ s.sys.mgpAway = true → exec c s = .next s) ∧
      (due = true → s.sys.boWarn = false → s.mbx.long = false → s.sys.mgpAway = false → Completes c s fun t =>
        t.est.capBusy = true ∧ t.mbx.own = 2 ∧ t.mbx.long = true ∧
        t.est.slots = s.est.slots.modify (commitTarget s.est.slots).1 (fun x => { x with valid := false }) ∧ t.csm = s.csm)) ∧
    (exec .countCheckpoint s = .next (if s.sys.mgpAway = true ∨ s.up 6 = false then s
      else { s with log := { s.log with ckpt := some (s.csm.recs, s.est.qintDone) } })) ∧
    (s.sys.mgpAway = true → exec .pd0Backup s = .next s) ∧
    (s.sys.mgpAway = false → s.log.pd0.length = 2 → Completes .pd0Backup s fun t =>
      (∃ k x, t.log.pd0 = s.log.pd0.set k (x, s.sys.opsec, s.sys.pcc) ∧ ∀ y ∈ s.log.pd0, y.1 < x) ∧ t = { s with log := t.log })) ∧
  (∀ (s : State) (ref : Rat) (n : Nat),
    (∀ i, bitOf (s.balMask ref n) i = true → i < 8 ∧ s.eligible (8 * n + i) = true) ∧
    ((List.range 8).filter (fun i => bitOf (s.balMask ref n) i)).length ≤ s.parN P.estBalMaxNode) ∧
  (∀ s : State,
    (∀ n, exec (.mramScrub n []) s = .next { s with log := { s.log with eccCorr := addSat 16 s.log.eccCorr n } }) ∧
    (∀ n l a, Completes (.mramScrub n (l ++ [a])) s fun t => t.log.eccAddr = a % 2 ^ 23 ∧
      t.prl.eccBad = true ∧ t.log.eccCorr = addSat 16 s.log.eccCorr n ∧ (l = [] → t.log.eccUnc = incSat 16 s.log.eccUnc)) ∧
    (s.log.snapDue = none ∨ s.up 6 = false → exec .isolationSnapshot s = .next s) ∧
    (∀ c, s.log.snapDue = some c → s.up 6 = true → s.log.snaps.length = 2 → Completes .isolationSnapshot s fun t =>
      t.log.snapDue = none ∧ (∃ x ∈ t.log.snaps, x.recs = s.csm.recs ∧ x.cause = c ∧ x.valid = true ∧ x.pcc = s.sys.pcc) ∧
      t = { s with log := t.log }))

/-- The event recorder: the queue of 64 records, the writing in order, drops with a count (18_event_log.md). -/
def Obligations.RecorderQueuesAndWrites : Prop :=
  (∀ (s : State) (src code sev : Nat) (d : List Nat),
    (s.log.queue.length < 64 → src ≠ 0 ∨ s.sys.mgpAway = false → (s.logPost src code sev d).log.queue = s.log.queue ++
      [{ pcc := s.sys.pcc, opsec := s.sys.opsec, time := s.lmp.time, code := code, sev := sev, src := src, data := data6 d }]) ∧
    (64 ≤ s.log.queue.length → src ≠ 0 ∨ s.sys.mgpAway = false → (s.logPost src code sev d).log.queue = s.log.queue ∧
      (s.logPost src code sev d).log.drop = incSat 16 s.log.drop ∧ (s.logPost src code sev d).log.dropped = true) ∧
    (s.sys.mgpAway = true → s.logPost 0 code sev d = s) ∧
    (s.logPost src code sev d = { s with log := (s.logPost src code sev d).log }) ∧
    (data6 d).length = 6) ∧
  (∀ s : State,
    (s.log.scanned = false → exec .logRecordWrite s = .next s) ∧
    (s.log.scanned = true → s.log.unreported = 0 → s.log.queue = [] → exec .logRecordWrite s = .next s) ∧
    (∀ r l i, s.log.scanned = true → s.log.unreported = 0 → s.log.queue = r :: l →
      ({ s.log with queue := l } : Log).choose s.sys.clock r.sev = some i → Completes .logRecordWrite s fun t =>
        t.log.queue = l ∧ t.log.seq = nextSeq s.log.seq ∧ t.log.cursor = (i + 1) % 65536 ∧
        t.log.at i = some (i, { r with seq := nextSeq s.log.seq }, s.sys.clock) ∧ t = { s with log := t.log }) ∧
    (∀ r l, s.log.scanned = true → s.log.unreported = 0 → s.log.queue = r :: l →
      ({ s.log with queue := l } : Log).choose s.sys.clock r.sev = none → Completes .logRecordWrite s fun t =>
        t.log.queue = l ∧ t.log.slots = s.log.slots ∧ t.log.drop = incSat 16 s.log.drop ∧ t.log.dropped = true) ∧
    (s.log.scanned = false → newestSlot s.log.slots = none → exec .logBootScan s =
      .next { s with log := { s.log with scanned := true, seq := s.log.floor, cursor := 0 } }) ∧
    (∀ i q, s.log.scanned = false → newestSlot s.log.slots = some (i, q) → Completes .logBootScan s fun t =>
      t.log.scanned = true ∧ t.log.cursor = (i + 1) % 65536 ∧ t.log.seq = (if seqNewer q s.log.floor = true then q else s.log.floor) ∧
      t = { s with log := t.log }) ∧
    (s.log.scanned = true → exec .logBootScan s = .next s) ∧
    (Completes .logHourlyFree s fun t => t = { s with log := { s.log with freed := t.log.freed } } ∧
      ∀ i ∈ s.log.freed, i ∈ t.log.freed) ∧
    (nextSeq (2 ^ 32 - 1) = 1 ∧ ∀ q, q < 2 ^ 32 - 1 → nextSeq q = q + 1))

/-- CTL_MODE, CTL_CMD_I, CTL_CMD_P, CTL_CMD_V, COEF_HOLD and COEF_LOAD: what they write, and what stops CTL_MODE
(09_control_engine.md, 14_register_window.md). -/
def Obligations.CommandsOfTheControlEngine : Prop :=
  ∀ s : State,
    (∀ w : Word, s.up 3 = true → s.sys.st ≠ .pilot → w.toNat < 3 → exec (.ctlMode w) s = .next { s with ctl := { s.ctl with
          mode := Tv.put w.toNat, modeAct := if s.dispatching then s.ctl.modeAct else w.toNat } }) ∧
    (∀ w : Word, w.toNat = 3 → exec (.ctlMode w) s = .fault (.hostError .reservedCode)) ∧
    (∀ w : Word, 4 ≤ w.toNat → exec (.ctlMode w) s = .fault (.hostError .reservedBit)) ∧
    (∀ w : Word, s.up 3 = true → s.sys.st ≠ .pilot →
      exec (.ctlCmdI w) s = .next (({ s with ctl := { s.ctl with cmdI := w.toNat } } : State).regCommand 0 w.toInt) ∧
      exec (.ctlCmdP w) s = .next (({ s with ctl := { s.ctl with cmdP := w.toNat } } : State).regCommand 1 w.toInt) ∧
      exec (.ctlCmdV w) s = .next (({ s with ctl := { s.ctl with cmdV := w.toNat } } : State).regCommand 2 w.toInt)) ∧
    (∀ b, s.up 3 = true → s.sys.st ≠ .pilot → exec (.coefHold b) s = .next { s with ctl := { s.ctl with hold := b } }) ∧
    (s.up 3 = true → exec .coefLoad s = .next { s with ctl := { s.ctl with load := true } }) ∧
    (∀ c (b : Bool) (w v : Word), s.up 3 = true → s.sys.st = .pilot → v.toNat < 3 →
      c = .coefHold b ∨ c = .ctlCmdI w ∨ c = .ctlCmdP w ∨ c = .ctlCmdV w ∨ c = .ctlMode v →
      exec c s = .next { s with sys := { s.sys with accPilotWr := true } }) ∧
    (∀ c (b : Bool) (w v : Word), s.up 3 = false → v.toNat < 3 →
      c = .coefHold b ∨ c = .coefLoad ∨ c = .ctlCmdI w ∨ c = .ctlCmdP w ∨ c = .ctlCmdV w ∨ c = .ctlMode v →
      exec c s = .next { s with sys := { s.sys with accAbsent := true } })

/-- Set points: taken only where they apply, at most four queued, clamped to their range (09_control_engine.md). -/
def Obligations.SetPointsQueueUnderR285 : Prop :=
  ∀ (s : State) (now apply mode : Nat) (v : Int),
    (s.takesCommands = false → s.queuePdu now apply mode v = { s with ctl := { s.ctl with ignored := incSat 16 s.ctl.ignored } } ∧
      s.regCommand mode v = { s with ctl := { s.ctl with ignored := incSat 16 s.ctl.ignored } }) ∧
    (s.ctl.queue.length ≤ 4 → (s.queuePdu now apply mode v).ctl.queue.length ≤ 4) ∧
    (s.takesCommands = true → s.ctl.queue.length = 4 → (∀ x ∈ s.ctl.queue, x.apply ≠ apply) →
      (s.queuePdu now apply mode v).ctl.dropCnt = incSat 16 s.ctl.dropCnt ∧ (s.queuePdu now apply mode v).ctl.queue.length = 4) ∧
    (s.takesCommands = true → s.ctl.queue.length < 4 → reached now apply = true →
      (s.queuePdu now apply mode v).ctl.lateCnt = incSat 16 s.ctl.lateCnt) ∧
    (s.queuePdu now apply mode v = { s with ctl := (s.queuePdu now apply mode v).ctl }) ∧
    (s.clearSetpoints.ctl.queue = [] ∧ s.clearSetpoints.ctl.regQ = [] ∧ s.clearSetpoints = { s with ctl := s.clearSetpoints.ctl }) ∧
    (-1600000 ≤ s.clampCmd 0 v ∧ s.clampCmd 0 v ≤ 1600000)

/-- A dispatch limit names its least term and never passes the phases term; a duty stays within its step
(09_control_engine.md). -/
def Obligations.LimitsAndDutiesKeepTheirBounds : Prop :=
  (∀ (s : State) (c : Bool) v k, leastTerm (s.limTerms c) 0 = some (v, k) →
    (s.limTerms c)[k]? = some (some v) ∧ (∀ j w, (s.limTerms c)[j]? = some (some w) → v ≤ w ∧ (w = v → k ≤ j))) ∧
  (∀ (s : State) (c : Bool), ∃ v k, leastTerm (s.limTerms c) 0 = some (v, k) ∧ k < 5 ∧ (s.ctl.degTerm = false → k ≠ 2)) ∧
  (∀ (s : State) (dt : Rat), (s.limits dt).ctl.limDis ≤ s.ctl.phTerm ∧ (s.limits dt).ctl.limChg ≤ s.ctl.phTerm) ∧
  (∀ (prev : Nat) (d c : Int), 0 ≤ d → prev ≤ 0xFFFF →
    stepDuty prev d c ≤ 0xFFFF ∧ (prev : Int) - d ≤ stepDuty prev d c ∧ (stepDuty prev d c : Int) ≤ prev + d)

/-- OUTER_TICK, INNER_EVALUATION, REF_PERIOD_BOUNDARY, OVERRUN_CLEAR and ISUM_WARNING complete in every state; what they
do, and what they leave (08_phase_harness.md, 09_control_engine.md, 12_pair_operation.md). -/
def Obligations.EvaluationsOfTheControlEngine : Prop :=
  ∀ s : State,
    (∀ m, s.sys.st = .pilot ∨ s.prl.frozen = true → exec (.outerTick m) s = .next { s with
          lmp := { s.lmp with time := m.now.toNat },
          pins := { s.pins with shunt := m.ish, vStr := m.vStr, vBus := m.vBus, vLink := m.vLink, vPre := m.vPre } }) ∧
    (∀ m, s.sys.st ≠ .pilot → s.prl.frozen = false → m.late = true → Completes (.outerTick m) s fun t =>
      t.ctl.ovrOut = true ∧ t.ctl.missedDt = s.ctl.missedDt + m.dtNs ∧ t.ctl.ovrCnt = incSat 16 s.ctl.ovrCnt ∧ t.sys = s.sys ∧
      t.sag.latch = s.sag.latch ∧ t.csm = s.csm ∧ t.mbx = s.mbx) ∧
    (∀ m, s.sys.st ≠ .pilot → s.prl.frozen = false → m.late = false → Completes (.outerTick m) s fun t =>
      t.ctl.missedDt = 0 ∧ t.lmp.time = m.now.toNat ∧ t.pins.shunt = m.ish ∧ t.sys = s.sys ∧ t.sag.latch = s.sag.latch ∧
      t.csm = s.csm ∧ t.mbx = s.mbx) ∧
    (∀ (p : Fin 16) m, s.isUpdate m = false ∨ (s.held = false ∧ s.sys.st = .pilot) ∨
        (s.held = true ∧ (m.valley = false ∨ (nth s.phm.ph p.val {}).active = false)) → exec (.innerEvaluation p m) s =
      .next { s with lmp := { s.lmp with time := m.now.toNat } }) ∧
    (∀ (p : Fin 16) m, s.isUpdate m = true → s.held = true → m.valley = true → (nth s.phm.ph p.val {}).active = true →
      Completes (.innerEvaluation p m) s fun t =>
        t.lmp.time = m.now.toNat ∧ t.sys = s.sys ∧ t.ctl = s.ctl ∧ t.sag = s.sag ∧ t.csm = s.csm ∧ t.mbx = s.mbx) ∧
    (∀ (p : Fin 16) m, s.sys.st ≠ .pilot → s.held = false → s.isUpdate m = true → s.phm.ph.length = 16 →
      Completes (.innerEvaluation p m) s fun t =>
        (nth t.phm.ph p.val {}).iMa = (s.evalWrites p.val m).densMa p.val m.ones m.bits ∧
        t.lmp.time = m.now.toNat ∧ t.sys = s.sys ∧ t.sag.latch = s.sag.latch ∧ t.csm = s.csm ∧ t.mbx = s.mbx) ∧
    (∀ b, exec (.refPeriodBoundary b) s = .next (State.dueOwner
      (({ s with lmp := { s.lmp with time := b.toNat } } : State).loadAtBoundary.refBoundary) b.toNat)) ∧
    (∀ b, s.prl.heldB = none → s.prl.takeDue = none → Completes (.refPeriodBoundary b) s fun t =>
      t.ctl.load = false ∧ t.lmp.time = b.toNat ∧ t.sys = s.sys ∧ t.sag = s.sag) ∧
    (s.ctl.ovrPersist = true → 5 < s.sag.deg.length → Completes .overrunClear s fun t =>
      t.ctl.ovrPersist = false ∧ t.ctl.ovrTimes = [] ∧ nth t.sag.deg 5 false = false) ∧
    (s.ctl.ovrPersist = false → exec .overrunClear s = .next s) ∧
    (∀ b, s.isumBeyond = b → 3 < s.sag.deg.length → Completes (.isumWarning b) s fun t =>
      t.ctl.isumWarn = b ∧ nth t.sag.deg 3 false = b) ∧
    (∀ b, s.isumBeyond ≠ b → exec (.isumWarning b) s = .next s)

/-- Events of a phase complete in every state: peak limit, current input, driver fault, readback, temperature, share
(08_phase_harness.md, 12_pair_operation.md). -/
def Obligations.PhaseEventsAct : Prop :=
  ∀ s : State, s.phm.ph.length = 16 →
    (∀ (p : Fin 16) d (now : BitVec 32), (nth s.phm.ph p.val {}).active = true → (nth s.phm.ph p.val {}).pkSeen = false →
      s.par P.phmIpk < ((s.fastMa p.val d).natAbs : Int) → Completes (.peakLimitEvent p d now) s fun t =>
        (nth t.phm.ph p.val {}).pkCnt = incSat 16 (nth s.phm.ph p.val {}).pkCnt ∧ (nth t.phm.ph p.val {}).pkSeen = true ∧
        ((nth s.phm.ph p.val {}).pkRun + 1 < s.parN P.phmPkCount → (nth t.phm.ph p.val {}).cut =
          ((nth s.phm.ph p.val {}).turnOff ((nth s.phm.ph p.val {}).driving (decide (0 ≤ s.fastMa p.val d))) (s.edgeTime now.toNat)).cut) ∧
        (s.parN P.phmPkCount ≤ (nth s.phm.ph p.val {}).pkRun + 1 → (nth t.phm.ph p.val {}).fault ≠ 0)) ∧
    (∀ (p : Fin 16) d (now : BitVec 32), (nth s.phm.ph p.val {}).active = false ∨ (nth s.phm.ph p.val {}).pkSeen = true ∨
      ((s.fastMa p.val d).natAbs : Int) ≤ s.par P.phmIpk → exec (.peakLimitEvent p d now) s = .next s) ∧
    (∀ (p : Fin 16) d, exec (.currentInputSaturated p d) s = .next (if bitOf s.enMask p.val = true ∧ d.length = 4 ∧
      (∀ x ∈ d, saturated x = true) then s.phaseFault p.val 3 else s)) ∧
    (∀ p : Fin 16, Completes (.currentInputLost p) s fun t => (nth t.phm.ph p.val {}).gatesLow = true ∧
      (nth t.phm.ph p.val {}).fault = (if (nth s.phm.ph p.val {}).fault = 0 then 2 else (nth s.phm.ph p.val {}).fault)) ∧
    (∀ p : Fin 16, bitOf s.enMask p.val = true → s.phm.enHigh = true → Completes (.driverFault p) s fun t =>
      (nth t.phm.ph p.val {}).gatesLow = true ∧
      (nth t.phm.ph p.val {}).fault = (if (nth s.phm.ph p.val {}).fault = 0 then 1 else (nth s.phm.ph p.val {}).fault)) ∧
    (∀ p : Fin 16, bitOf s.enMask p.val = false ∨ s.phm.enHigh = false → exec (.driverFault p) s = .next s) ∧
    (∀ h p b, s.prl.owner = false → exec (.readbackMismatch h p b) s = .next s) ∧
    (∀ (h i : Fin 4) b, s.prl.owner = true → exec (.readbackMismatch h (some i) b) s = .next (s.phaseFault (4 * h.val + i.val) 5).autoSwap) ∧
    (∀ h : Fin 4, s.prl.owner = true → exec (.readbackMismatch h none false) s = .next (s.harnessFault h.val 5).autoSwap) ∧
    (∀ h : Fin 4, s.prl.owner = true → Completes (.readbackMismatch h none true) s fun t => t.sag.latch = true ∧
      ∀ i < 4, (nth t.phm.ph (4 * h.val + i) {}).fault ≠ 0) ∧
    (∀ (p : Fin 16) n, n < 95 ∨ 1005 < n → Completes (.tempCountWindow p n) s fun t => (nth t.phm.ph p.val {}).tfail = true) ∧
    (∀ (p : Fin 16) n, 95 ≤ n → n ≤ 1005 → Completes (.tempCountWindow p n) s fun t => (nth t.phm.ph p.val {}).tfail = false ∧
      (nth t.phm.ph p.val {}).temp = (if (nth s.phm.ph p.val {}).tfail = true then (nth s.phm.ph p.val {}).temp else ((n : Int) - 260) * 16)) ∧
    (∀ p : Fin 16, Completes (.tempLineFail p) s fun t => (nth t.phm.ph p.val {}).tfail = true) ∧
    (∀ p : Fin 16, (nth s.phm.ph p.val {}).share = false → s.outOfShare p.val = true →
      Completes (.phaseShareWarning p true) s fun t => (nth t.phm.ph p.val {}).share = true) ∧
    (∀ p : Fin 16, (nth s.phm.ph p.val {}).share = true → s.outOfShare p.val = false →
      Completes (.phaseShareWarning p false) s fun t => (nth t.phm.ph p.val {}).share = false) ∧
    (∀ (p : Fin 16) b, (nth s.phm.ph p.val {}).share = b ∨ s.outOfShare p.val ≠ b → exec (.phaseShareWarning p b) s = .next s)

/-- A phase fault: the code, the gate lines and the departure of the phase; a code held stays but for the harness
mismatch (08_phase_harness.md, 11_saggar_safety.md). -/
def Obligations.PhaseFaultIsRecordedOnce : Prop :=
  ∀ (s : State) (p c : Nat), p < s.phm.ph.length →
    ((nth s.phm.ph p {}).fault ≠ 0 → c ≠ 6 ∨ (nth s.phm.ph p {}).fault = 6 → s.phaseFault p c = s) ∧
    ((nth s.phm.ph p {}).fault = 0 ∨ (c = 6 ∧ (nth s.phm.ph p {}).fault ≠ 6) →
      (nth (s.phaseFault p c).phm.ph p {}).fault = c ∧ (nth (s.phaseFault p c).phm.ph p {}).gatesLow = true ∧
      (nth (s.phaseFault p c).phm.ph p {}).leaving = (nth s.phm.ph p {}).active ∧
      (4 < s.sag.deg.length → nth (s.phaseFault p c).sag.deg 4 false = (s.phaseFault p c).phaseFaultAny)) ∧
    (∀ q, q ≠ p → nth (s.phaseFault p c).phm.ph q {} = nth s.phm.ph q {}) ∧
    ((s.phaseFault p c).sys = s.sys ∧ (s.phaseFault p c).csm = s.csm ∧ (s.phaseFault p c).sag.latch = s.sag.latch ∧
     (s.phaseFault p c).sag.coil = s.sag.coil)

/-- LOAD_RELEASE, LOAD_STEP, TRK_DWELL_DONE, TRK_HOLD_END, TRK_TIMEOUT, STOP_CURRENT_LOW, STOP_TIMEOUT, PHM_FLT_CLR,
HANDOVER_BOUNDARY complete (08_phase_harness.md, 12_pair_operation.md, 14_register_window.md). -/
def Obligations.PowerStageStartsAndStops : Prop :=
  ∀ s : State,
    (∀ x (now : BitVec 32), s.held = false → s.phm.brake = false → 2 ≤ s.phm.sinceBrake → s.activePh ≠ [] →
      s.activePh.length * s.par P.phmRelTh < excess (s.fastSum x) s.ctl.iref → Completes (.loadRelease x now) s fun t =>
        t.phm.brake = true ∧ t.phm.sinceBrake = 0 ∧ t.phm.brakeCnt = incSat 16 s.phm.brakeCnt ∧ t.sag = s.sag ∧ t.sys = s.sys) ∧
    (∀ x (now : BitVec 32), s.held = true ∨ s.phm.brake = true ∨ s.phm.sinceBrake < 2 ∨ s.activePh = [] ∨
      excess (s.fastSum x) s.ctl.iref ≤ s.activePh.length * s.par P.phmRelTh → exec (.loadRelease x now) s = .next s) ∧
    (∀ x, s.held = false → s.phm.brake = false → s.activePh ≠ [] → s.shedding = true →
      s.activePh.length * s.par P.phmStepTh < -(excess (s.fastSum x) s.ctl.iref) → Completes (.loadStep x) s fun t =>
        t.phm.stepReq = ceilDiv s.ctl.iref.natAbs (t.parN P.phmAddI) ∧ (∀ p ∈ t.phm.ph, p.ramp ≠ 1) ∧ t.sag = s.sag ∧ t.sys = s.sys) ∧
    (∀ x, s.held = true ∨ s.phm.brake = true ∨ s.activePh = [] ∨ s.shedding = false ∨
      -(excess (s.fastSum x) s.ctl.iref) ≤ s.activePh.length * s.par P.phmStepTh → exec (.loadStep x) s = .next s) ∧
    (s.phm.trk = .dwell → Completes .trkDwellDone s fun t => t.phm.trk = .co3Req ∧ t.phm.co3Asked = true) ∧
    (s.phm.trk ≠ .dwell → exec .trkDwellDone s = .next s) ∧
    (s.phm.trk = .zeroHold → Completes .trkHoldEnd s fun t => t.phm.trk = .idle ∧
      t.ctl.taper = { s := s.measured s.ctl.modeAct, target := s.measured s.ctl.modeAct } ∧ t.sag = s.sag ∧ t.sys = s.sys) ∧
    (s.phm.trk ≠ .zeroHold → exec .trkHoldEnd s = .next s) ∧
    (s.phm.trk = .recovery ∨ s.phm.trk = .slewing ∨ s.phm.trk = .dwell → Completes .trkTimeout s fun t => t.phm.trk = .idle ∧
      (∀ p ∈ t.phm.ph, p.gatesLow = true)) ∧
    (¬ (s.phm.trk = .recovery ∨ s.phm.trk = .slewing ∨ s.phm.trk = .dwell) → exec .trkTimeout s = .next s) ∧
    (s.phm.trk = .stopping → s.phm.co3Drop = false → (s.pins.shunt.natAbs : Int) < s.par P.phmStopI →
      Completes .stopCurrentLow s fun t => t.phm.co3Drop = true ∧ t.phm.burst = true ∧ t.ctl.iref = 0) ∧
    (s.phm.trk ≠ .stopping ∨ s.phm.co3Drop = true ∨ s.par P.phmStopI ≤ (s.pins.shunt.natAbs : Int) → exec .stopCurrentLow s = .next s) ∧
    (s.phm.trk = .stopping → s.phm.co3Drop = false → Completes .stopTimeout s fun t => t.phm.co3Drop = true ∧ (∀ p ∈ t.phm.ph, p.gatesLow = true)) ∧
    (s.phm.trk ≠ .stopping ∨ s.phm.co3Drop = true → exec .stopTimeout s = .next s) ∧
    (∀ w still : Word, 65536 ≤ w.toNat → exec (.phmFltClr w still) s = .fault (.hostError .reservedBit)) ∧
    (∀ w still : Word, w.toNat < 65536 → s.up 3 = false →
      exec (.phmFltClr w still) s = .next { s with sys := { s.sys with accAbsent := true } }) ∧
    (∀ w still : Word, w.toNat < 65536 → s.up 3 = true → s.phm.ph.length = 16 → Completes (.phmFltClr w still) s fun t =>
      ∀ p < 16, (nth t.phm.ph p {}).fault = (if bitOf w.toNat p = true ∧ bitOf still.toNat p = false ∧ nth s.phm.hidErr (p / 4) false = false
        then 0 else (nth s.phm.ph p {}).fault)) ∧
    (∀ x g, s.prl.swap ≠ .takeSent → exec (.handoverBoundary x g) s = .next s) ∧
    (∀ x g : BitVec 32, s.prl.swap = .takeSent → exec (.handoverBoundary x g) s = .next (if s.phm.brake = true
      then { s with prl := { s.prl with heldB := some g.toNat } } else s.passOwner x.toNat g.toNat))

/-- The thermal manager: own samples, the outputs, the end of a grace, input faults and cross-checks, all their forms
(10_thermal.md, 05_cell_measurement.md). -/
def Obligations.ThermalEventsAct : Prop :=
  ∀ s : State,
    (∀ (k : Fin 4) x, k.val ≠ 1 → s.up 11 = true → 8192 ≤ 10 * nth s.thm.covered k.val 0 → exec (.thmSelfSample k x) s = .next (s.thmTake k.val 1 x)) ∧
    (∀ x, s.up 11 = true → maskOf (s.thm.phCovered.map uncovered) ≠ 0 →
      exec (.thmSelfSample 1 x) s = .next (s.thmTake 1 (maskOf (s.thm.phCovered.map uncovered)) x)) ∧
    (∀ (k : Fin 4) x, s.up 11 = false ∨ (k.val ≠ 1 ∧ 10 * nth s.thm.covered k.val 0 < 8192) ∨
      (k.val = 1 ∧ maskOf (s.thm.phCovered.map uncovered) = 0) → exec (.thmSelfSample k x) s = .next s) ∧
    (∀ k m x, s.thmTake k m x = { s with thm := (s.thmTake k m x).thm } ∧ (s.thmTake 2 m x).thm.cool = x.cool ∧
      ∀ p < s.thm.phT.length, nth (s.thmTake 1 m x).thm.phT p 0 = if bitOf m p = true then (nth s.phm.ph p {}).temp else nth s.thm.phT p 0) ∧
    (s.prl.frozen = false → exec .thmOutputUpdate s = .next { s with thm := { s.thm with
          duty := (List.range 8).map (fun k => (s.outDriven k).getD 0),
          driven := (List.range 8).map (fun k => (s.outDriven k).isSome) } }) ∧
    (s.prl.frozen = true → exec .thmOutputUpdate s = .next s) ∧
    (∀ k, s.sys.st = .pilot ∨ s.sys.st = .boot ∨ s.sys.st = .off ∨ s.sys.st = .selftest → s.outDriven k = none) ∧
    (∀ b, (s.thm.seq b).st = 1 → s.sys.st ≠ .pilot → s.up 11 = true → Completes (.graceExpiry b) s fun t =>
      (t.thm.seq b).st = 2 ∧ (t.thm.seq b).enf = (s.thm.seq b).req ∧ (t.thm.seq b).grace = 0 ∧ t.sag = s.sag) ∧
    (∀ b, (s.thm.seq b).st ≠ 1 ∨ s.sys.st = .pilot ∨ s.up 11 = false → exec (.graceExpiry b) s = .next s) ∧
    (∀ (k : Fin 3) (i : Fin 4) b, s.ioBad k.val i.val = b → s.thm.ioFlag k.val i.val = !b → ¬ (k.val = 1 ∧ 2 ≤ i.val) →
      Completes (.coolantIoFault k i b) s fun t => t.thm = s.thm.setIo k.val i.val b ∧ t.sag = s.sag) ∧
    (∀ (k : Fin 3) (i : Fin 4) b, s.ioBad k.val i.val = !b ∨ s.thm.ioFlag k.val i.val = b ∨ (k.val = 1 ∧ 2 ≤ i.val) →
      exec (.coolantIoFault k i b) s = .next s) ∧
    (∀ g : Fin 384, nth s.thm.src g.val 0 = 2 → Completes (.xchkDisagreement g) s fun t => t.thm.xchk = incSat 16 s.thm.xchk ∧ t.sag = s.sag ∧
      ∃ x ∈ t.thm.xLogged, x.1 = g.val) ∧
    (∀ g : Fin 384, nth s.thm.src g.val 0 ≠ 2 → exec (.xchkDisagreement g) s = .next s)

/-- The saggar isolates: the latch, the cause, every coil path and EN off, the line and the demand out
(11_saggar_safety.md). -/
def Obligations.IsolationDropsEveryOutput : Prop :=
  ∀ (s : State) (c : Nat), s.sag.latch = false →
    (s.isolate c).sag.latch = true ∧ (s.isolate c).sag.cause = c ∧ (s.isolate c).sag.causes = [c] ∧
    (s.isolate c).sag.coil = [false, false, false, false] ∧ (s.isolate c).sag.want = [false, false, false, false] ∧
    (s.isolate c).phm.enHigh = false ∧ (∀ p ∈ (s.isolate c).phm.ph, p.gatesLow = true ∧ p.active = false) ∧
    (s.isolate c).sag.isolateOut = true ∧ (s.isolate c).sag.demandOut = true ∧ (s.isolate c).sag.degRun = false ∧
    (s.isolate c).ctl.queue = [] ∧ (s.isolate c).log.snapDue = some c ∧
    (s.isolate c).sys.st = s.sys.st ∧ (s.isolate c).sag.cfg = s.sag.cfg ∧ (s.isolate c).csm = s.csm ∧ (s.isolate c).mbx = s.mbx ∧
    (s.isolate c).dict = s.dict

/-- SAG_ISO_CAUSE is the first cause; the causes of one cycle come lowest first; a later cause is logged and changes no
output (R333). -/
def Obligations.LaterCausesChangeNoOutput : Prop :=
  ∀ (s : State) (c : Nat),
    (s.sag.latch = false → (s.isolate c).sag.latch = true ∧ (s.isolate c).sag.cause = c) ∧
    (s.cycleCauses.Pairwise (· < ·)) ∧
    (∀ m l, s.sagLive = true → m.cycleOk = true → s.sag.latch = false → s.cycleCauses = c :: l →
      c < 0x11 ∨ ((s.sag.apartNow m).1 < 82 ∧ (s.sag.apartNow m).2 < 82) →
      (s.protect m).sag.latch = true ∧ (s.protect m).sag.cause = c) ∧
    (∀ m, s.sagLive = true → m.cycleOk = true → s.sag.latch = false → (∀ x ∈ s.cycleCauses, 0x11 < x) →
      82 ≤ (s.sag.apartNow m).1 ∨ 82 ≤ (s.sag.apartNow m).2 → s.sag.diagBad = [] →
      (s.protect m).sag.latch = true ∧ (s.protect m).sag.cause = 0x11) ∧
    (s.sag.latch = true → s.isolate c =
      (({ s with sag := s.sag.addCause c } : State).logPost 1 0x0A01 (causeSev c) [c, s.sys.st.code, 0]).post .isolation) ∧
    (s.sag.latch = true → (s.isolate c).sag.latch = true ∧ (s.isolate c).sag.cause = s.sag.cause ∧ c ∈ (s.isolate c).sag.causes ∧
      (∀ x ∈ s.sag.causes, x ∈ (s.isolate c).sag.causes) ∧
      (s.isolate c).sag.coil = s.sag.coil ∧ (s.isolate c).sag.want = s.sag.want ∧ (s.isolate c).phm = s.phm ∧
      (s.isolate c).sag.isolateOut = s.sag.isolateOut ∧ (s.isolate c).sag.demandOut = s.sag.demandOut ∧
      (s.isolate c).log.snapDue = s.log.snapDue ∧ (s.isolate c).sys.st = s.sys.st)

/-- The saggar inputs that isolate from SELFTEST onward, each with its cause, which is the first one where the latch was
clear (11_saggar_safety.md, 12_pair_operation.md, 20_hardware.md). -/
def Obligations.SaggarInputsIsolate : Prop :=
  ∀ s : State, s.sagLive = true →
    (∀ i, s.saf P.sagOcDis < i → Completes (.overcurrent i) s (s.isolatedAs 5)) ∧
    (∀ i, i ≤ s.saf P.sagOcDis → i < -(s.saf P.sagOcChg) → Completes (.overcurrent i) s (s.isolatedAs 6)) ∧
    (s.sag.ilkDone = true → Completes .interlockOpen s fun t => s.isolatedAs 9 t ∧ t.pins.ilkClosed = false) ∧
    (s.prl.mode = 1 → Completes (.isolateLine true) s fun t => s.isolatedAs 0x15 t ∧ t.pins.isolateIn = true) ∧
    (∀ b, s.linkUp = true → pairCrcOk b = true → leAt b 0 1 = 4 → Completes (.isolationDemandRx (some b)) s fun t =>
      s.isolatedAs 0x16 t ∧ t.sag.demandIn = true) ∧
    (Completes .sagWindowOverrun s fun t => s.isolatedAs 0x10 t ∧ t.sag.goodCycles = 0) ∧
    (Completes .lockstepMismatch s fun t => s.isolatedAs 0x11 t ∧ 0 ∈ t.sag.diagBad) ∧
    (Completes (.sagCrcCheck false) s fun t => s.isolatedAs 0x11 t ∧ t.sag.hardDiag = true) ∧
    (∀ n, Completes (.sagEccScrub n true) s fun t => s.isolatedAs 0x11 t ∧ t.sag.hardDiag = true) ∧
    (∀ own : Int, 16000 < (own - s.pins.shunt).natAbs → 9 ≤ s.sag.shuntRun → Completes (.sagShuntCompare own) s fun t =>
      s.isolatedAs 0x11 t ∧ 3 ∈ t.sag.diagBad) ∧
    (Completes (.sagSupplyFault true) s fun t => s.isolatedAs 0x11 t ∧ 6 ∈ t.sag.diagBad) ∧
    (Completes (.x8StreamLost true) s fun t => s.isolatedAs 0x11 t ∧ 7 ∈ t.sag.diagBad ∧ (s.sys.st = .selftest → t.prl.refOk = false)) ∧
    (∀ k : Fin 4, Completes (.coilPathOvercurrent k) s (s.isolatedAs 0x0F)) ∧
    (∀ (w : Fin 8) r m, s.sys.slot = coilSlot w.val s.prl.pos → (nth s.sag.pullin (w.val / 2) false = false ∧ m = false) ∨ 5 ≤ nth s.sag.tpSkip w.val 0 →
      readsOk (nth s.sag.coil (w.val / 2) false) r = false → Completes (.coilTestSlot w r m) s (s.isolatedAs 0x0F)) ∧
    (∀ k : Fin 4, nth s.sag.coil k.val false = true → s.aux k.val = false → nth s.sag.seen k.val false = true →
      Completes (.contactorDropout k) s (s.isolatedAs 0x0E)) ∧
    (∀ (k : Fin 4) v, s.weldBad k.val v = some true → Completes (.weldCheck k v) s (s.isolatedAs 0x0D)) ∧
    (∀ k : Fin 4, nth s.sag.coil k.val false = false → s.partnerCoil k.val = false → s.weldBad k.val false = some (s.aux k.val))

/-- Saggar inputs and checks that isolate nothing: what each stores, and where each changes nothing
(11_saggar_safety.md, 12_pair_operation.md, 20_hardware.md). -/
def Obligations.SaggarChecksThatPass : Prop :=
  ∀ s : State,
    (∀ i, i ≤ s.saf P.sagOcDis → -(s.saf P.sagOcChg) ≤ i → exec (.overcurrent i) s = .next s) ∧
    (s.sag.ilkDone = false → s.sag.coil.length = 4 → Completes .interlockOpen s fun t => t.pins.ilkClosed = false ∧ t.sag.ilkOpened = true ∧
      t.sag.coil = [false, false, false, false] ∧ t.sag.latch = s.sag.latch) ∧
    (s.sag.ilkDone = false → s.sag.ilkOpened = true ∨ s.pins.ilkClosed = false → exec .ilkTestPass s =
      .next { s with pins := { s.pins with ilkClosed := true }, sag := { s.sag with ilkDone := true, ilkOpened := false } }) ∧
    (s.sag.ilkDone = true ∨ (s.sag.ilkOpened = false ∧ s.pins.ilkClosed = true) → exec .ilkTestPass s =
      .next { s with pins := { s.pins with ilkClosed := true } }) ∧
    (∀ b, b = false ∨ s.prl.mode ≠ 1 → exec (.isolateLine b) s = .next { s with pins := { s.pins with isolateIn := b } }) ∧
    (exec (.isolationDemandRx none) s = .next { s with sag := { s.sag with demandIn := false } }) ∧
    (∀ b, s.linkUp = false ∨ (pairCrcOk b = true ∧ leAt b 0 1 ≠ 4) → exec (.isolationDemandRx (some b)) s = .next s) ∧
    (∀ b, s.linkUp = true → pairCrcOk b = false → exec (.isolationDemandRx (some b)) s =
      .next { s with prl := { s.prl with rxErr := incSat 16 s.prl.rxErr } }) ∧
    (exec (.sagCrcCheck true) s = .next s) ∧
    (∀ n, exec (.sagEccScrub n false) s = .next { s with log := { s.log with eccCorr := addSat 16 s.log.eccCorr n } }) ∧
    (∀ own : Int, (own - s.pins.shunt).natAbs ≤ 16000 → Completes (.sagShuntCompare own) s fun t => t.sag.shuntRun = 0 ∧ 3 ∉ t.sag.diagBad ∧
      t.sag.latch = s.sag.latch) ∧
    (∀ own : Int, 16000 < (own - s.pins.shunt).natAbs → s.sag.shuntRun < 9 → exec (.sagShuntCompare own) s =
      .next { s with sag := { s.sag with shuntRun := s.sag.shuntRun + 1 } }) ∧
    (exec (.sagSupplyFault false) s = .next (s.diag 6 false) ∧ exec (.x8StreamLost false) s = .next (s.diag 7 false)) ∧
    (∀ k, k ∉ (s.diag k false).sag.diagBad ∧ (s.diag k false).sag.latch = s.sag.latch ∧ (s.diag k false).sag.coil = s.sag.coil) ∧
    (∀ (w : Fin 8) r m, s.sys.slot ≠ coilSlot w.val s.prl.pos → exec (.coilTestSlot w r m) s = .next s) ∧
    (∀ (w : Fin 8) r m, s.sys.slot = coilSlot w.val s.prl.pos → nth s.sag.pullin (w.val / 2) false = true ∨ m = true → nth s.sag.tpSkip w.val 0 < 5 →
      exec (.coilTestSlot w r m) s = .next (s.slotSkip w.val)) ∧
    (∀ (w : Fin 8) r m, s.sys.slot = coilSlot w.val s.prl.pos → (nth s.sag.pullin (w.val / 2) false = false ∧ m = false) ∨ 5 ≤ nth s.sag.tpSkip w.val 0 →
      readsOk (nth s.sag.coil (w.val / 2) false) r = true → exec (.coilTestSlot w r m) s =
      .next { s with sag := { s.sag with tpSkip := s.sag.tpSkip.set w.val 0, tpFail := s.sag.tpFail.set w.val false, tpWait := s.sag.tpWait.set w.val false } }) ∧
    (∀ k : Fin 4, nth s.sag.coil k.val false = true → s.aux k.val = false → ¬ (k.val = 3 ∧ s.phm.trk = .co3Req) → exec (.closeTimeout k) s =
      .next ((({ s with sag := s.sag.coilOff k.val } : State).wantCo k.val false).logPost 1 0x0A03 3 [k.val])) ∧
    (nth s.sag.coil 3 false = true → s.aux 3 = false → s.phm.trk = .co3Req → Completes (.closeTimeout 3) s fun t =>
      t.phm.trk = .idle ∧ (∀ p ∈ t.phm.ph, p.gatesLow = true) ∧ nth t.sag.want 3 false = false) ∧
    (∀ k : Fin 4, nth s.sag.coil k.val false = false ∨ s.aux k.val = true →
      exec (.closeTimeout k) s = .next s ∧ exec (.contactorDropout k) s = .next s) ∧
    (∀ k : Fin 4, nth s.sag.seen k.val false = false → exec (.contactorDropout k) s = .next s) ∧
    (∀ (k : Fin 4) v, s.weldBad k.val v = none → exec (.weldCheck k v) s = .next s) ∧
    (∀ (k : Fin 4) v, s.weldBad k.val v = some false → exec (.weldCheck k v) s =
      .next { s with sag := { s.sag with weld := s.sag.weld.set (if v then 4 + k.val else k.val) false, weldWait := s.sag.weldWait.set (if v then 4 + k.val else k.val) false } }) ∧
    (∀ k : Fin 4, exec (.pullinEnd k) s = .next { s with sag := { s.sag with pullin := s.sag.pullin.set k.val false } }) ∧
    (s.sag.locked = true → exec .loginLockEnd s = .next { s with sag := { s.sag with locked := false, loginFail := 0 } }) ∧
    (s.sag.locked = false → exec .loginLockEnd s = .next s) ∧
    (exec .loginIdleEnd s = .next { s with sag := { s.sag with login := none } }) ∧
    (∀ (k : Fin 4) i, s.sagLive = false → exec (.overcurrent i) s = .next s ∧ exec (.contactorDropout k) s = .next s ∧
      exec .lockstepMismatch s = .next s ∧ exec (.sagSupplyFault true) s = .next s ∧
      exec .sagWindowOverrun s = .next { s with sag := { s.sag with goodCycles := 0 } } ∧
      Completes (.coilPathOvercurrent k) s fun t => t.sag.latch = s.sag.latch ∧ nth t.sag.coil k.val false = false)

/-- Safety PDUs: the checks in order, a new PDU, a second copy, the pair expiry and the watchdog (11_saggar_safety.md). -/
def Obligations.SafetyPdusAreCheckedAndActedOn : Prop :=
  ∀ (s : State) (p : PortId) (b : List Byte) (h : Net),
    (s.up 9 = false ∨ s.reaches p h = false ∨ (h.discarded b.length = false ∧ (h.dudp ≠ 48049 ∨ nth s.sys.pd 1 false = false)) →
      exec (.safetyPdu p b h) s = .next s) ∧
    (s.up 9 = true → s.reaches p h = true → h.discarded b.length = true → exec (.safetyPdu p b h) s = .next (s.rxDropOne p)) ∧
    (b.length ≠ 20 ∨ leAt b 0 1 ≠ 0xC1 ∨ leAt b 1 1 ≠ 1 ∨ (leAt b 10 2 ≠ 0x5AA5 ∧ leAt b 10 2 ≠ 0xA55A) → s.pduCheck b = some 0) ∧
    (b.length = 20 → leAt b 0 1 = 0xC1 → leAt b 1 1 = 1 → leAt b 10 2 = 0x5AA5 ∨ leAt b 10 2 = 0xA55A → s.pduCheck b =
      if crc32c (b.take 16) ≠ leAt b 16 4 then some 1
      else if leAt b 4 4 ≠ s.safN P.sagConnId ∨ s.safN P.sagConnId = 0 then some 2
      else if leAt b 8 2 ≠ s.safN P.sagPduWd then some 3 else none) ∧
    (∀ k, s.Lands p h b.length 48049 → nth s.sys.pd 1 false = true → s.pduCheck b = some k → exec (.safetyPdu p b h) s = .next (s.pduDrop p k)) ∧
    (s.Lands p h b.length 48049 → nth s.sys.pd 1 false = true → s.pduCheck b = none → s.sag.session = false → exec (.safetyPdu p b h) s = .next ((s.pduHeard p h).pduAct p b)) ∧
    (∀ d, s.Lands p h b.length 48049 → nth s.sys.pd 1 false = true → s.pduCheck b = none → d = (leAt b 2 2 + 65536 - s.sag.lastSeq) % 65536 → 1 ≤ d → d ≤ 16 →
      exec (.safetyPdu p b h) s = .next ((s.pduHeard p h).pduAct p b)) ∧
    (∀ d, s.Lands p h b.length 48049 → nth s.sys.pd 1 false = true → s.pduCheck b = none → s.sag.session = true → d = (leAt b 2 2 + 65536 - s.sag.lastSeq) % 65536 → 16 < d →
      exec (.safetyPdu p b h) s = .next (s.pduDrop p 4)) ∧
    (s.Lands p h b.length 48049 → nth s.sys.pd 1 false = true → s.pduCheck b = none → s.sag.session = true → leAt b 2 2 = s.sag.lastSeq → s.sag.pairOpen = false ∨ p = s.sag.firstPort →
      exec (.safetyPdu p b h) s = .next (s.pduDrop p 4)) ∧
    (s.Lands p h b.length 48049 → nth s.sys.pd 1 false = true → s.pduCheck b = none → s.sag.session = true → leAt b 2 2 = s.sag.lastSeq → s.sag.pairOpen = true → p ≠ s.sag.firstPort →
      Completes (.safetyPdu p b h) s fun t => t.sag.pairOpen = false ∧ t.sag.dest = s.sag.dest.set p.idx (h.addr, h.udp) ∧
        (b = s.sag.first → t.sag.netA = true ∧ t.sag.netB = true ∧ t.sag.latch = s.sag.latch) ∧
        (b ≠ s.sag.first → t.sag.mismatch = incSat 16 s.sag.mismatch ∧ (s.sagLive = true → s.isolatedAs 0x0C t))) ∧
    ((s.pduAct p b).sag.session = true ∧ (s.pduAct p b).sag.lastSeq = leAt b 2 2 ∧ (s.pduAct p b).sag.firstPort = p ∧ (s.pduAct p b).sag.pairOpen = true) ∧
    (leAt b 10 2 ≠ 0x5AA5 → s.sagLive = true → s.isolatedAs 0x0A (s.pduAct p b)) ∧
    (leAt b 10 2 = 0x5AA5 → (s.pduAct p b).sag.latch = s.sag.latch) ∧
    (∀ k, s.pduDrop p k = { s with sag := { s.sag with err := (s.pduDrop p k).sag.err } }) ∧
    (s.sag.pairOpen = false → exec .pduPairExpiry s = .next s) ∧
    (s.sag.pairOpen = true → Completes .pduPairExpiry s fun t => t.sag.pairOpen = false ∧ t.sag.okRun = 0 ∧
      t.sag.missCnt = s.sag.missCnt.modify (1 - s.sag.firstPort.idx) (incSat 16) ∧ t.sag.latch = s.sag.latch) ∧
    (s.sag.session = true → Completes .pduWatchdogExpiry s fun t => t.sag.session = false ∧ (s.sagLive = true → s.isolatedAs 0x0B t)) ∧
    (s.sag.session = false → exec .pduWatchdogExpiry s = .next s)

/-- A coil path is energised only under every condition of R339, and never while the latch is set (11_saggar_safety.md,
02_states_and_domains.md). -/
def Obligations.CoilPathsNeedEveryCondition : Prop :=
  ∀ (s : State) (k : Nat),
    (nth (s.coilService1 k).sag.coil k false = true → s.coAllowed k (nth s.sag.coil k false) = true) ∧
    (∀ h, s.coAllowed k h = true → s.boOpen = false ∧ s.sag.latch = false ∧ s.sag.ilkDone = true ∧ s.pins.ilkClosed = true ∧
      bitOf s.sys.coPermit.vote k = true ∧ s.coState k = true) ∧
    (s.sag.latch = true → s.sag.coil.length = 4 → s.coilService.sag.coil = [false, false, false, false]) ∧
    (s.coilService = { s with sag := s.coilService.sag })

/-- The safety configuration: what a commit writes, and what refuses it (11_saggar_safety.md). -/
def Obligations.SafetyConfigurationCommits : Prop :=
  ∀ s : State,
    (∀ c i v, (Params.safety.zip c).find? (fun iv => !inRange iv.1 iv.2) = some (i, v) → cfgBad c = some i) ∧
    (∀ c, (Params.safety.zip c).find? (fun iv => !inRange iv.1 iv.2) = none →
      cfgBad c = ((relations c).find? (fun r => !r.1)).map (·.2)) ∧
    (∀ src, (s.cfgCommit src).sag.cfg = s.stagedCfg ∧ (s.cfgCommit src).sag.pmir = mirrorOf s.stagedCfg ∧
      (s.cfgCommit src).sag.staged = [] ∧ (s.cfgCommit src).sag.login = none ∧ (s.cfgCommit src).sag.ilkDone = false ∧
      (s.cfgCommit src).sag.slots = s.sag.slots.set (commitTarget s.sag.slots).1
        { valid := true, seq := (commitTarget s.sag.slots).2, data := Params.safety.zip s.stagedCfg } ∧
      (s.cfgCommit src).sag.latch = s.sag.latch ∧ (s.cfgCommit src).sag.coil = s.sag.coil ∧ (s.cfgCommit src).sys = s.sys) ∧
    (∀ src, s.sag.clog.length + s.cfgChanges.length ≤ 1024 →
      (s.cfgCommit src).sag.clog.length = s.sag.clog.length + s.cfgChanges.length) ∧
    (∀ k src i a b, s.sag.clog.length ≤ 1024 → (s.clogAdd k src i a b).sag.clog.length ≤ 1024)

/-- Heartbeats, the mirror, the released paths, the repeated demand, the reserve test and the reference check, in all
their forms (12_pair_operation.md). -/
def Obligations.PairLinkKeepsThePartner : Prop :=
  ∀ s : State,
    (s.linkUp = true → Completes .heartbeatSend s fun t => t.prl.hbSeq = (s.prl.hbSeq + 1) % 65536 ∧ t = { s with prl := t.prl }) ∧
    (∀ b h, s.linkUp = true → pairCrcOk b = true → leAt b 0 1 = 1 → Completes (.heartbeatRx b h) s fun t =>
      t.prl.partner = some (partnerOf b) ∧ t.prl.partnerOk = true ∧ t.prl.hbRun = s.prl.hbRun + 1 ∧
      t.prl.ver = min (s.parN P.prlVerMax) (leAt b 1 1) ∧ t.sag.latch = s.sag.latch ∧ t.sys = s.sys) ∧
    (s.linkUp = true → exec .heartbeatMissed s =
      .next { s with prl := { s.prl with partnerOk := false, hbRun := 0, hbMiss := incSat 16 s.prl.hbMiss } }) ∧
    (∀ c b h now m, s.linkUp = true → pairCrcOk b = false → c = .heartbeatRx b h ∨ c = .mirrorPartRx b now m ∨ c = .switchoverReq b ∨
      c = .switchoverReady b now ∨ c = .switchoverRefuse b ∨ c = .switchoverTake b ∨ c = .switchoverAbandon b →
      exec c s = .next { s with prl := { s.prl with rxErr := incSat 16 s.prl.rxErr } }) ∧
    (∀ b h now m, s.linkUp = true → pairCrcOk b = true → (leAt b 0 1 ≠ 1 → exec (.heartbeatRx b h) s = .next s) ∧
      (leAt b 0 1 ≠ 2 ∨ s.sys.st ≠ .pilot → exec (.mirrorPartRx b now m) s = .next s)) ∧
    (∀ c b h now m x y, s.linkUp = false → c = .heartbeatSend ∨ c = .heartbeatRx b h ∨ c = .heartbeatMissed ∨ c = .mirrorPartRx b now m ∨
      c = .isolationDemandRepeat ∨ c = .reserveTest x y ∨ c = .switchoverReq b ∨ c = .switchoverReady b now ∨ c = .switchoverRefuse b ∨
      c = .switchoverTake b ∨ c = .switchoverAbandon b → exec c s = .next s) ∧
    (∀ b now m, s.linkUp = true → pairCrcOk b = true → leAt b 0 1 = 2 → s.sys.st = .pilot → s.prl.parts.1 ≠ leAt b 2 4 → 1 < leAt b 8 2 →
      exec (.mirrorPartRx b now m) s =
      .next { s with prl := { s.prl with parts := (leAt b 2 4, [(leAt b 6 2, (b.drop 10).take (b.length - 14))]) } }) ∧
    (∀ b now m, s.linkUp = true → pairCrcOk b = true → leAt b 0 1 = 2 → s.sys.st = .pilot → s.prl.parts.1 ≠ leAt b 2 4 → leAt b 8 2 = 1 →
      leAt b 6 2 = 0 → exec (.mirrorPartRx b now m) s = .next (if pushOk ((b.drop 10).take (b.length - 14)) = false
        then { s with prl := { s.prl with parts := (leAt b 2 4, []) } }
        else if s.prl.pilotReady = true then (s.adopt m (leAt b 2 4)).sendTake now.toNat else s.adopt m (leAt b 2 4))) ∧
    (∀ b now m, s.linkUp = true → pairCrcOk b = true → leAt b 0 1 = 2 → s.sys.st = .pilot → Completes (.mirrorPartRx b now m) s fun t =>
      t.sag = s.sag ∧ t.sys = s.sys ∧ t.est.qint = s.est.qint) ∧
    (∀ m q, (s.adopt m q).prl.copy = some m ∧ (s.adopt m q).prl.mirrorSeq = q ∧ (s.adopt m q).ctl = s.ctl.fromMirror m.ctl ∧ (s.adopt m q).thm = s.thm.fromMirror m.thm ∧
      (s.adopt m q).ctl.taper = m.ctl.taper ∧ (s.adopt m q).ctl.ovrCnt = s.ctl.ovrCnt ∧ (s.adopt m q).thm.dis = m.thm.dis ∧
      (s.adopt m q).thm.xchk = s.thm.xchk ∧
      (s.adopt m q).est.qint = s.est.qint ∧ (s.adopt m q).sag = s.sag ∧ (s.adopt m q).sys = s.sys) ∧
    (s.sys.st = .pilot → s.prl.pathsRel = false → s.prl.partnerOk = false → s.pins.ownHigh = true → Completes .pathsRelease s fun t =>
      t.prl.pathsRel = true ∧ t.sag.coil = [false, false, false, false] ∧ t.sag.latch = s.sag.latch) ∧
    (s.sys.st ≠ .pilot ∨ s.prl.pathsRel = true ∨ s.prl.partnerOk = true ∨ s.pins.ownHigh = false → exec .pathsRelease s = .next s) ∧
    (s.linkUp = true → s.sag.latch = true → Completes .isolationDemandRepeat s fun t => t.sag = { s.sag with demandOut := true } ∧
      t.prl.out = pairBytes 4 (s.parN P.prlVerMax) (leBytes 1 s.sag.cause)) ∧
    (s.sag.latch = false → exec .isolationDemandRepeat s = .next s) ∧
    (∀ a b, s.linkUp = true → s.prl.ver ≠ 1 → exec (.reserveTest a b) s = .next { s with prl := { s.prl with
          loopRes := decide (9200 ≤ a) && decide (a ≤ 9800) && (decide (9200 ≤ b) && decide (b ≤ 9800)) && s.prl.partnerOk,
          resLeft := 82, regUa := if s.prl.pos = 0 then 9000 else s.prl.regUa } }) ∧
    (∀ a b, s.prl.ver = 1 → exec (.reserveTest a b) s = .next s) ∧
    (∀ b, exec (.referenceCheck b) s = .next { s with prl := { s.prl with refOk := b } })

/-- A switchover step by step, the handover at the boundary, and the takeover after the death of the owner, in all their
forms (01_architecture.md, 08_phase_harness.md, 12_pair_operation.md). -/
def Obligations.SwitchoverPassesOwnership : Prop :=
  ∀ s : State,
    (∀ b, s.linkUp = true → pairCrcOk b = true → leAt b 0 1 = 3 → leAt b 2 1 = 1 →
      exec (.switchoverReq b) s = .next (if s.prl.swap = .requested then (if s.prl.pos = 1 then s.sendReady else s)
        else if s.sys.st ≠ .pilot then s
        else if s.copyCurrent = true ∧ fit s.health = true then s.sendReady
        else ({ s with prl := { s.prl with swap := .refused, pilotReady := false } } : State).swapSend 5 0)) ∧
    (s.sendReady.prl.swap = .ready ∧ s.sendReady.prl.pilotReady = true ∧ s.sendReady = { s with prl := s.sendReady.prl }) ∧
    (∀ b now, s.linkUp = true → pairCrcOk b = true → leAt b 0 1 = 3 → leAt b 2 1 = 2 → s.prl.swap = .requested → s.prl.owner = true →
      Completes (.switchoverReady b now) s fun t => t.prl.swap = .frozen ∧ t.prl.frozen = true ∧
        t.prl.mirrorSeq = inc32 s.prl.mirrorSeq ∧ t.prl.frozenAt = now.toNat) ∧
    (∀ b, s.linkUp = true → pairCrcOk b = true → leAt b 0 1 = 3 → leAt b 2 1 = 5 → s.prl.swap = .requested →
      Completes (.switchoverRefuse b) s fun t => t.prl.swap = .refused ∧ t.prl.owner = s.prl.owner ∧
        (s.sys.boPhase ≠ .warned → t = { s with prl := { s.prl with swap := .refused } })) ∧
    (∀ b, s.linkUp = true → pairCrcOk b = true → leAt b 0 1 = 3 → leAt b 2 1 = 3 → s.prl.swap = .frozen →
      exec (.switchoverTake b) s = .next { s with prl := { s.prl with swap := .takeSent, boundary := leAt b 7 4 } }) ∧
    (∀ b, s.linkUp = true → pairCrcOk b = true → leAt b 0 1 = 3 → leAt b 2 1 = 4 → s.prl.pilotReady = true →
      exec (.switchoverAbandon b) s = .next { s with prl := { s.prl with swap := .abandoned, pilotReady := false } }) ∧
    (∀ b now, s.linkUp = true → pairCrcOk b = true →
      (leAt b 0 1 ≠ 3 ∨ leAt b 2 1 ≠ 1 → exec (.switchoverReq b) s = .next s) ∧
      (leAt b 0 1 ≠ 3 ∨ leAt b 2 1 ≠ 2 ∨ s.prl.swap ≠ .requested → exec (.switchoverReady b now) s = .next s) ∧
      (leAt b 0 1 ≠ 3 ∨ leAt b 2 1 ≠ 5 ∨ s.prl.swap ≠ .requested → exec (.switchoverRefuse b) s = .next s) ∧
      (leAt b 0 1 ≠ 3 ∨ leAt b 2 1 ≠ 3 ∨ s.prl.swap ≠ .frozen → exec (.switchoverTake b) s = .next s) ∧
      (leAt b 0 1 ≠ 3 ∨ leAt b 2 1 ≠ 4 ∨ s.prl.pilotReady = false → exec (.switchoverAbandon b) s = .next s)) ∧
    (s.prl.swap = .frozen → Completes .switchoverTimeout s fun t => t.prl.swap = .abandoned ∧ t.prl.frozen = false ∧ t.prl.owner = s.prl.owner) ∧
    (s.prl.swap ≠ .frozen → exec .switchoverTimeout s = .next s) ∧
    (s.prl.swap = .requested → Completes .handoverAckTimeout s fun t => t.prl.swap = .abandoned ∧ t.prl.owner = s.prl.owner) ∧
    (s.prl.swap ≠ .requested → exec .handoverAckTimeout s = .next s) ∧
    (∀ x g, s.prl.swap = .takeSent → s.phm.brake = false → s.prl.owner = true → Completes (.handoverBoundary x g) s fun t => t.prl.owner = false ∧
      t.prl.swap = .done ∧ t.phm.enHigh = false ∧ t.phm.owned = [false, false, false, false] ∧ t.sag = s.sag ∧
      (∀ p ∈ t.phm.ph, p.gatesLow = true) ∧ Ev.ownLost ∈ t.sys.events ∧ t.prl.swapCnt = incSat 16 s.prl.swapCnt) ∧
    (∀ x g m, s.prl.swap = .takeSent → s.phm.brake = false → s.prl.owner = false → s.prl.copy = some m → Completes (.handoverBoundary x g) s fun t =>
      t.prl.owner = true ∧ t.phm.owned = [true, true, true, true] ∧ t.fnl.epoch = inc32 s.fnl.epoch ∧
      Ev.ownGained m.entry m.originDisp ∈ t.sys.events ∧ t.prl.swapCnt = incSat 16 s.prl.swapCnt ∧ t.prl.heldB = none) ∧
    (∀ x g, s.prl.swap = .takeSent → s.phm.brake = false → s.prl.owner = false → s.prl.copy = none → exec (.handoverBoundary x g) s =
      .next { s with prl := { s.prl with heldB := none } }) ∧
    (s.sys.st = .pilot → s.prl.mode = 1 → s.prl.partnerOk = false → s.prl.owner = false → s.prl.takeDue = none → s.prl.pathsRel = false →
      Completes .takeoverDecision s fun t => t.prl.takeDue = some s.lmp.time ∧ t.prl.owner = false ∧ t.sag = s.sag) ∧
    (s.sys.st = .pilot → s.prl.mode = 1 → s.prl.partnerOk = false → s.prl.owner = false → s.prl.takeDue = none → s.prl.pathsRel = true →
      Completes .takeoverDecision s fun t => s.isolatedAs 0x0E t ∧ t.prl.owner = false) ∧
    (s.sys.st ≠ .pilot ∨ s.prl.mode ≠ 1 ∨ s.prl.partnerOk = true ∨ s.prl.owner = true ∨ s.prl.takeDue ≠ none → exec .takeoverDecision s = .next s) ∧
    (∀ (b : BitVec 32) d, s.sys.st = .pilot → s.prl.heldB = none → s.prl.takeDue = some d → 50000 ≤ diffT b.toNat d →
      Completes (.refPeriodBoundary b) s fun t => t.prl.owner = true ∧ t.prl.takeDue = none ∧ t.phm.owned = [true, true, true, true] ∧
        t.fnl.epoch = inc32 s.fnl.epoch ∧ t.sag.latch = s.sag.latch) ∧
    (∀ (b : BitVec 32) d, s.prl.heldB = none → s.prl.takeDue = some d → diffT b.toNat d < 50000 →
      Completes (.refPeriodBoundary b) s fun t => t.prl = s.prl ∧ t.fnl = s.fnl ∧ t.sag = s.sag) ∧
    (s.plk.link.any id = true ∨ s.par P.prlAutoSwap ≠ 1 ∨ s.mayRequestSwap = false → exec .bothPlantPortsDown s = .next s) ∧
    (s.plk.link.any id = false → s.par P.prlAutoSwap = 1 → s.mayRequestSwap = true → Completes .bothPlantPortsDown s fun t =>
      t.prl.swap = .requested ∧ t = { s with prl := t.prl })

/-- Transactions of the plant link: what each is answered before it is carried out; HELLO, BYE, KEEPALIVE, the session
timeout, discards (13_plant_link.md). -/
def Obligations.SessionsOfThePlantLink : Prop :=
  ∀ (s : State) (x : Tx),
    (∀ c ty w df, (c, ty) ∈ [(Instr.regRead x, 2), (.regWrite x w, 3), (.mbxReq x, 4), (.mbxPoll x, 5), (.bulkRead x df, 6), (.attnAck x, 8), (.bye x, 9),
        (.updBlock x, 10), (.keepalive x, 11)] →
      (s.up 9 = false ∨ s.reaches x.port x.toNet = false ∨ (x.toNet.discarded x.dg.length = false ∧ x.dudp ≠ 48048) →
        exec c s = .next (s.atTime x.now)) ∧
      (s.up 9 = true → s.reaches x.port x.toNet = true → x.toNet.discarded x.dg.length = true →
        exec c s = .next ((s.atTime x.now).rxDropOne x.port)) ∧
      (s.Lands x.port x.toNet x.dg.length 48048 → x.headOk = false → exec c s = .next ((s.atTime x.now).rxDropOne x.port)) ∧
      (s.Lands x.port x.toNet x.dg.length 48048 → x.headOk = true → x.type ≠ ty → exec c s = .next (s.atTime x.now)) ∧
      (s.Lands x.port x.toNet x.dg.length 48048 → x.headOk = true → x.type = ty → s.sessionAt x.session = none →
        exec c s = .next ((s.atTime x.now).looseReply x { type := ty, status := 7 })) ∧
      (∀ i y, s.Lands x.port x.toNet x.dg.length 48048 → x.headOk = true → x.type = ty → s.sessionAt x.session = some i → s.sess i = some y →
        (x.ver ≠ y.ver → exec c s = .next ((s.txIn x i).sessStatus i x ty 6)) ∧
        (x.ver = y.ver → y.kept.isSome = true → y.tid = x.tid → Completes c s fun t => t = { s with lmp := t.lmp, plk := t.plk } ∧
          ∃ z, t.sess i = some z ∧ z.kept = y.kept.map (fun r => { r with resent := true }) ∧ z.tid = y.tid) ∧
        (x.ver = y.ver → y.kept = none ∨ y.tid ≠ x.tid → y.ver < typeFrom ty → exec c s = .next ((s.txIn x i).sessStatus i x ty 6)) ∧
        (x.ver = y.ver → y.kept = none ∨ y.tid ≠ x.tid → typeFrom ty ≤ y.ver → payloadOk ty x.payload = false →
          exec c s = .next ((s.txIn x i).sessStatus i x ty 5)))) ∧
    (∀ i, s.TxOk x 11 i → exec (.keepalive x) s = .next ((s.txIn x i).sessStatus i x 11 0)) ∧
    (∀ i, s.TxOk x 9 i → Completes (.bye x) s fun t => t.plk.sessions.length + 1 = s.plk.sessions.length ∧
      t.plk.lastLoose = some { type := 9, status := 0 }) ∧
    (s.up 9 = false ∨ s.reaches x.port x.toNet = false ∨ (x.toNet.discarded x.dg.length = false ∧ x.dudp ≠ 48048) →
      exec (.hello x) s = .next (s.atTime x.now)) ∧
    (s.up 9 = true → s.reaches x.port x.toNet = true → x.toNet.discarded x.dg.length = true →
      exec (.hello x) s = .next ((s.atTime x.now).rxDropOne x.port)) ∧
    (s.Lands x.port x.toNet x.dg.length 48048 → x.headOk = false → exec (.hello x) s = .next ((s.atTime x.now).rxDropOne x.port)) ∧
    (s.Lands x.port x.toNet x.dg.length 48048 → x.headOk = true → x.type ≠ 1 → exec (.hello x) s = .next (s.atTime x.now)) ∧
    (s.Lands x.port x.toNet x.dg.length 48048 → x.headOk = true → x.type = 1 → payloadOk 1 x.payload = false →
      exec (.hello x) s = .next ((s.atTime x.now).looseReply x { type := 1, status := 5 })) ∧
    (s.Lands x.port x.toNet x.dg.length 48048 → x.headOk = true → x.type = 1 → payloadOk 1 x.payload = true → helloVersion (leAt x.payload 0 1) (leAt x.payload 1 1) = none →
      exec (.hello x) s = .next ((s.atTime x.now).looseReply x { type := 1, status := 6 })) ∧
    (∀ v, s.Lands x.port x.toNet x.dg.length 48048 → x.headOk = true → x.type = 1 → payloadOk 1 x.payload = true → helloVersion (leAt x.payload 0 1) (leAt x.payload 1 1) = some v →
      s.helloOld x v (leAt x.payload 4 8) = none → 8 ≤ s.plk.sessions.length →
      exec (.hello x) s = .next ((s.atTime x.now).looseReply x { type := 1, status := 9 })) ∧
    (∀ v, s.Lands x.port x.toNet x.dg.length 48048 → x.headOk = true → x.type = 1 → payloadOk 1 x.payload = true → helloVersion (leAt x.payload 0 1) (leAt x.payload 1 1) = some v →
      s.helloOld x v (leAt x.payload 4 8) = none → s.plk.sessions.length < 8 → Completes (.hello x) s fun t =>
        t.plk.sessions.length = s.plk.sessions.length + 1 ∧ ∃ y ∈ t.plk.sessions, y.ver = v ∧ y.tid = x.tid ∧ y.queue = [] ∧
          (y.kept.map (·.status)) = some 0) ∧
    (∀ v o, s.Lands x.port x.toNet x.dg.length 48048 → x.headOk = true → x.type = 1 → payloadOk 1 x.payload = true → helloVersion (leAt x.payload 0 1) (leAt x.payload 1 1) = some v →
      s.helloOld x v (leAt x.payload 4 8) = some o → Completes (.hello x) s fun t =>
        t.plk.sessions.length ≤ s.plk.sessions.length ∧ ∃ y ∈ t.plk.sessions, y.ver = v ∧ y.tid = x.tid ∧ y.queue = o.queue ∧
          (y.kept.map (·.status)) = some 0) ∧
    (∀ lo hi v, helloVersion lo hi = some v → 1 ≤ v ∧ v ≤ 3 ∧ lo ≤ v ∧ v ≤ hi) ∧
    (∀ n i, s.sessionAt n = some i → exec (.sessionTimeout n) s = .next (s.endSession i)) ∧
    (∀ n, s.sessionAt n = none → exec (.sessionTimeout n) s = .next s) ∧
    (∀ p h n, s.up 9 = true → s.reaches p h = true → h.discarded n = true → exec (.datagramDiscard p h n) s =
      .next { s with plk := { s.plk with rxDrop := s.plk.rxDrop.modify p.idx (incSat 16) } }) ∧
    (∀ p h n, s.up 9 = false ∨ s.reaches p h = false ∨ h.discarded n = false → exec (.datagramDiscard p h n) s = .next s) ∧
    (∀ (h : Net) n, h.discarded n = true ↔ h.frag = true ∨ h.sumOk = false ∨ 1452 < n ∨ h.portUsed = false)

/-- REG_READ, REG_WRITE, BULK_READ, MBX_REQ, MBX_POLL carried out: lengths, addresses, rights, effects and replies;
MBX_PENDING_REPLY (13_plant_link.md, 14_register_window.md, 15_mailboxes.md). -/
def Obligations.TransactionsReachRegistersAndMailboxes : Prop :=
  ∀ (s : State) (x : Tx) (i : Nat),
    (∀ a n, (n = 0 ∨ 256 < n → regBad a n = some 4) ∧ (1 ≤ n → n ≤ 256 → a % 4 ≠ 0 ∨ 0x40000 < a + 4 * n → regBad a n = some 3) ∧
      (1 ≤ n → n ≤ 256 → a % 4 = 0 → a + 4 * n ≤ 0x40000 → regBad a n = none)) ∧
    (∀ e, s.TxOk x 2 i → regBad (leAt x.payload 0 4) (leAt x.payload 4 2) = some e → exec (.regRead x) s = .next ((s.txIn x i).sessStatus i x 2 e)) ∧
    (s.TxOk x 2 i → regBad (leAt x.payload 0 4) (leAt x.payload 4 2) = none → exec (.regRead x) s =
      .next (((s.txIn x i).readRegs true (leAt x.payload 0 4) (leAt x.payload 4 2)).2.sessReply i x { type := 2, status := 0, payload := ((s.txIn x i).readRegs true (leAt x.payload 0 4) (leAt x.payload 4 2)).1.flatMap (leBytes 4) })) ∧
    (∀ w, s.TxOk x 3 i → s.mayAct x.addr = false → exec (.regWrite x w) s = .next ((s.txIn x i).sessStatus i x 3 10)) ∧
    (∀ w e, s.TxOk x 3 i → s.mayAct x.addr = true → regBad (leAt x.payload 0 4) (leAt x.payload 4 2) = some e →
      exec (.regWrite x w) s = .next ((s.txIn x i).sessStatus i x 3 e)) ∧
    (∀ w t, s.TxOk x 3 i → s.mayAct x.addr = true → regBad (leAt x.payload 0 4) (leAt x.payload 4 2) = none →
      (s.txIn x i).writeRegs x.port.src w (leAt x.payload 0 4)
        ((List.range (leAt x.payload 4 2)).map (fun k => BitVec.ofNat 32 (leAt x.payload (8 + 4 * k) 4))) = .next t →
      exec (.regWrite x w) s = .next (t.sessStatus i x 3 0)) ∧
    (∀ w f, s.TxOk x 3 i → s.mayAct x.addr = true → regBad (leAt x.payload 0 4) (leAt x.payload 4 2) = none →
      (s.txIn x i).writeRegs x.port.src w (leAt x.payload 0 4)
        ((List.range (leAt x.payload 4 2)).map (fun k => BitVec.ofNat 32 (leAt x.payload (8 + 4 * k) 4))) = .fault f →
      exec (.regWrite x w) s = .fault f) ∧
    (∀ df, s.TxOk x 6 i → leAt x.payload 2 2 = 0 ∨ 22 < leAt x.payload 2 2 ∨ 384 < leAt x.payload 0 2 + leAt x.payload 2 2 →
      exec (.bulkRead x df) s = .next ((s.txIn x i).sessStatus i x 6 4)) ∧
    (∀ df, s.TxOk x 6 i → 1 ≤ leAt x.payload 2 2 → leAt x.payload 2 2 ≤ 22 → leAt x.payload 0 2 + leAt x.payload 2 2 ≤ 384 → s.up 6 = true →
      exec (.bulkRead x df) s = .next ((s.txIn x i).sessReply i x { type := 6, status := 0, payload := (List.range (leAt x.payload 2 2)).flatMap (fun k => s.bulkRecord (leAt x.payload 0 2 + k) (nth df k 0)) })) ∧
    (∀ df, s.TxOk x 6 i → 1 ≤ leAt x.payload 2 2 → leAt x.payload 2 2 ≤ 22 → leAt x.payload 0 2 + leAt x.payload 2 2 ≤ 384 → s.up 6 = false →
      Completes (.bulkRead x df) s fun t => t.sys = { s.sys with accAbsent := true } ∧ ∃ z r, t.sess i = some z ∧ z.kept = some r ∧ r.status = 0 ∧
        r.payload = (List.range (leAt x.payload 2 2)).flatMap (fun _ => List.replicate 64 0)) ∧
    (∀ g d, s.up 6 = true → (d < 5 → s.bulkRecord g d = (s.gr g).bytes) ∧
      (5 ≤ d → (s.bulkRecord g d).take 8 = leBytes 8 ((s.gr g).word 0 ||| 2 ^ 47) ∧ (s.bulkRecord g d).drop 8 = (s.gr g).bytes.drop 8)) ∧
    (s.TxOk x 4 i → s.mayAct x.addr = false → exec (.mbxReq x) s = .next ((s.txIn x i).sessStatus i x 4 10)) ∧
    (s.TxOk x 4 i → s.mayAct x.addr = true → 3 < leAt x.payload 0 1 → exec (.mbxReq x) s = .next ((s.txIn x i).sessStatus i x 4 5)) ∧
    (s.TxOk x 4 i → s.mayAct x.addr = true → leAt x.payload 0 1 ≤ 3 → 1028 < x.payload.length →
      exec (.mbxReq x) s = .next ((s.txIn x i).sessStatus i x 4 4)) ∧
    (s.TxOk x 4 i → s.mayAct x.addr = true → leAt x.payload 0 1 ≤ 3 → x.payload.length ≤ 1028 → s.sys.mgpAway = true ∨ s.mbx.long = true →
      exec (.mbxReq x) s = .next ((s.txIn x i).sessStatus i x 4 1)) ∧
    (s.TxOk x 4 i → s.mayAct x.addr = true → leAt x.payload 0 1 ≤ 3 → x.payload.length ≤ 1028 → s.sys.mgpAway = false → s.mbx.long = false →
      (s.ch (leAt x.payload 0 1)).open = false → exec (.mbxReq x) s = .next ((s.txIn x i).sessStatus i x 4 8)) ∧
    (s.TxOk x 4 i → s.mayAct x.addr = true → leAt x.payload 0 1 ≤ 3 → x.payload.length ≤ 1028 → s.sys.mgpAway = false → s.mbx.long = false →
      (s.ch (leAt x.payload 0 1)).open = true → exec (.mbxReq x) s = .next ((((s.txIn x i).modCh (leAt x.payload 0 1) (fun y =>
        { y with reqBuf := memPutL y.reqBuf 0 (x.payload.drop 4) })).accept (leAt x.payload 0 1) x.port.src).sessWait i x (leAt x.payload 0 1))) ∧
    (s.TxOk x 5 i → leAt x.payload 0 1 ≤ 3 → exec (.mbxPoll x) s = .next ((s.txIn x i).sessReply i x (s.pollReply (leAt x.payload 0 1)))) ∧
    (s.TxOk x 5 i → 3 < leAt x.payload 0 1 → exec (.mbxPoll x) s = .next ((s.txIn x i).sessStatus i x 5 5)) ∧
    (∀ c, Completes (.mbxPendingReply c) s fun t => t = { s with plk := t.plk } ∧
      t.plk.sessions = s.plk.sessions.map (·.answered c.val { type := 4, status := 2 }))

/-- Attention messages, their retries and drops; dispatch PDUs; the ports: ATTN_ACK, ATTN_RETRY, DISPATCH_PDU,
PORT_LINK_CHANGE, NETWORK_SERVICE_FRAME (13_plant_link.md). -/
def Obligations.AttentionAndDispatchOnTheLink : Prop :=
  ∀ s : State,
    (∀ (x : Tx) i y, s.TxOk x 8 i → (s.txIn x i).sess i = some y → (y.queue.find? (fun z => z.aseq == leAt x.payload 0 4)) = none →
      exec (.attnAck x) s = .next ((s.txIn x i).sessStatus i x 8 0)) ∧
    (∀ (x : Tx) i, s.TxOk x 8 i → Completes (.attnAck x) s fun t => ∀ z, t.sess i = some z → ∀ m ∈ z.queue, m.code = 0xFF ∨ m.aseq ≠ leAt x.payload 0 4) ∧
    (∀ n (a : BitVec 32) i y m, s.sessionAt n = some i → s.sess i = some y → (y.queue.find? (fun z => z.aseq == a.toNat)) = some m → m.sends < 8 →
      Completes (.attnRetry n a) s fun t => t = { s with plk := t.plk } ∧ t.plk.sessions = s.plk.sessions.set i { y with queue := y.queue.map (fun z => if z.aseq = m.aseq then { z with
          sends := z.sends + 1, port := z.port.other } else z) }) ∧
    (∀ n (a : BitVec 32) i y m, s.sessionAt n = some i → s.sess i = some y → (y.queue.find? (fun z => z.aseq == a.toNat)) = some m → 8 ≤ m.sends →
      Completes (.attnRetry n a) s fun t => ∀ z, t.sess i = some z → ∀ q ∈ z.queue, q.code = 0xFF ∨ q.aseq ≠ a.toNat) ∧
    (∀ n (a : BitVec 32) i y, s.sessionAt n = some i → s.sess i = some y → (y.queue.find? (fun z => z.aseq == a.toNat)) = none →
      exec (.attnRetry n a) s = .next s) ∧
    (∀ n a, s.sessionAt n = none → exec (.attnRetry n a) s = .next s) ∧
    (∀ (y : Session) m, y.queue.length ≤ 64 → (y.enqueue m).1.queue.length ≤ 64 ∧ m ∈ (y.enqueue m).1.queue) ∧
    (∀ p b now id h, s.up 9 = false ∨ s.reaches p h = false ∨ (h.discarded b.length = false ∧ h.dudp ≠ 48050) →
      exec (.dispatchPdu p b now id h) s = .next (s.atTime now)) ∧
    (∀ p b now id h, s.up 9 = true → s.reaches p h = true → h.discarded b.length = true →
      exec (.dispatchPdu p b now id h) s = .next ((s.atTime now).rxDropOne p)) ∧
    (∀ p b now id h k, s.Lands p h b.length 48050 → (s.atTime now).dispCheck b = some k →
      exec (.dispatchPdu p b now id h) s = .next ((s.atTime now).dispDrop p k)) ∧
    (∀ p b (now : BitVec 32) id h, s.Lands p h b.length 48050 → (s.atTime now).dispCheck b = none →
      s.plk.series = false ∨ id = true ∨ (1 ≤ (leAt b 2 2 + 65536 - s.plk.dispSeq) % 65536 ∧ (leAt b 2 2 + 65536 - s.plk.dispSeq) % 65536 ≤ 32767) →
      exec (.dispatchPdu p b now id h) s =
      .next (({ s with lmp := { s.lmp with time := now.toNat }, plk := { s.plk with series := true, dispSeq := leAt b 2 2 } } : State).dispTake p b
        now.toNat)) ∧
    (∀ p b (now : BitVec 32) h, s.Lands p h b.length 48050 → (s.atTime now).dispCheck b = none → s.plk.series = true →
      (leAt b 2 2 + 65536 - s.plk.dispSeq) % 65536 = 0 → exec (.dispatchPdu p b now false h) s =
        .next { s with lmp := { s.lmp with time := now.toNat }, plk := { s.plk with dispDup := incSat 16 s.plk.dispDup } }) ∧
    (∀ p b (now : BitVec 32) h, s.Lands p h b.length 48050 → (s.atTime now).dispCheck b = none → s.plk.series = true →
      32767 < (leAt b 2 2 + 65536 - s.plk.dispSeq) % 65536 → exec (.dispatchPdu p b now false h) s = .next ((s.atTime now).dispDrop p 3)) ∧
    (∀ p b now, s.dispEntry b = none → s.dispTake p b now = s.dispDrop p 4) ∧
    (∀ p b now e, s.dispEntry b = some e → s.forwarding now = false → s.dispTake p b now = s.queuePdu now (leAt b 8 4) e.1 e.2) ∧
    (∀ p k, s.dispDrop p k = { s with plk := { s.plk with dispErr := (s.dispDrop p k).plk.dispErr } }) ∧
    (∀ p b, Completes (.portLinkChange p b) s fun t => t.plk.link = s.plk.link.set p.idx b ∧ t.sag = s.sag ∧ t.sys = s.sys) ∧
    (∀ p b now e, s.dispEntry b = some e → s.forwarding now = true → s.dispTake p b now = { s with prl := { s.prl with fwd := s.prl.fwd ++ [b] } }) ∧
    (∀ p f, s.up 9 = true → f.frag = true → exec (.networkServiceFrame p f) s = .next (s.rxDropOne p)) ∧
    (∀ p f a, s.up 9 = true → f.frag = false → s.netServe p f = some a → exec (.networkServiceFrame p f) s =
      .next { s with plk := { s.plk with service := s.plk.service.set p.idx (some a) } }) ∧
    (∀ p f, s.up 9 = false ∨ (f.frag = false ∧ s.netServe p f = none) → exec (.networkServiceFrame p f) s = .next s) ∧
    (∀ p (f a : SvcFrame), s.netServe p f = some a → f.vlan = s.vlan p ∧ a.vlan = s.vlan p ∧ a.kind = f.kind ∧ a.mac = nth s.sys.mac p.idx 0 ∧
      (f.kind = .echo4 ∨ f.kind = .echo6 → a.data = f.data) ∧ (f.kind = .arp ∨ f.kind = .nd → f.dst ∈ s.ownAddrs p))

/-- PTP messages, the time states, the second mark, the time extension, the host triggers and the corrections, in all
their forms (13_plant_link.md, 14_register_window.md). -/
def Obligations.LamplighterFollowsTime : Prop :=
  ∀ s : State,
    (∀ m r g o y ms t x, s.ptpMine m = false → exec (.ptpAnnounceRx m r g) s = .next s ∧ exec (.ptpSyncRx m x o y ms) s = .next s ∧
      exec (.ptpFollowUpRx m o ms) s = .next s ∧ exec (.ptpPdelayReqRx m) s = .next s ∧ exec (.ptpDelayRespRx m o t x) s = .next s) ∧
    (∀ m r g, s.ptpMine m = true → m.port.idx < s.lmp.ports.length → Completes (.ptpAnnounceRx m r g) s fun t =>
      { sender := m.sender, rank := r, gm := g.toNat } ∈ (t.ptp m.port).heard ∧
      (∀ a ∈ (s.ptp m.port).heard, a.sender ≠ m.sender → a ∈ (t.ptp m.port).heard) ∧ t = { s with lmp := t.lmp }) ∧
    (∀ (x : PtpPort) b, x.best = some b → b ∈ x.heard ∧ ∀ a ∈ x.heard, b.rank ≤ a.rank) ∧
    (∀ m k i ms, s.ptpMine m = true → s.isSource m = true → -7 ≤ k → k ≤ 0 → exec (.ptpSyncRx m k i none ms) s =
      .next (s.modPtp m.port (fun x => { x with syncWait := some (m.seq, s.ingressPs m.port i) }))) ∧
    (∀ m k i o ms, s.ptpMine m = true → s.isSource m = true → -7 ≤ k → k ≤ 0 → exec (.ptpSyncRx m k i (some o) ms) s =
      .next (s.syncDone m (s.ingressPs m.port i) o ms)) ∧
    (∀ m k i o ms, s.isSource m = false ∨ k < -7 ∨ 0 < k → exec (.ptpSyncRx m k i o ms) s = .next s) ∧
    (∀ m o ms t, s.ptpMine m = true → s.isSource m = true → (s.ptp m.port).syncWait = some (m.seq, t) →
      exec (.ptpFollowUpRx m o ms) s = .next (s.syncDone m t o ms)) ∧
    (∀ m o ms, s.isSource m = false ∨ (∀ t, (s.ptp m.port).syncWait ≠ some (m.seq, t)) → exec (.ptpFollowUpRx m o ms) s = .next s) ∧
    (∀ m i o ms, (s.syncDone m i o ms).lmp.secAt.isSome = true) ∧
    (∀ p e, s.up 9 = true → exec (.ptpDelayReqSend p e) s = .next (s.modPtp p (fun x =>
      { x with reqWait := some (x.reqSeq, s.egressPs p e), reqSeq := (x.reqSeq + 1) % 65536 }))) ∧
    (∀ p e, s.up 9 = false → exec (.ptpDelayReqSend p e) s = .next s) ∧
    (∀ m, s.ptpMine m = true → s.peer m.port = true → exec (.ptpPdelayReqRx m) s = .next (s.modPtp m.port (fun x => { x with answered := m.seq }))) ∧
    (∀ m, s.peer m.port = false → exec (.ptpPdelayReqRx m) s = .next s) ∧
    (∀ m rx tx i e d, s.ptpMine m = true → (s.ptp m.port).reqWait = some (m.seq, e) → s.meanDelay m.port e rx tx i m.corr = some d →
      m.port.idx < s.lmp.ports.length → Completes (.ptpDelayRespRx m rx tx i) s fun t =>
        (t.ptp m.port).delay = d + s.par (P.lmpAsymA + m.port.idx) ∧ (t.ptp m.port).reqWait = none ∧ t = { s with lmp := t.lmp }) ∧
    (∀ m rx tx i, (∀ e, (s.ptp m.port).reqWait ≠ some (m.seq, e)) → exec (.ptpDelayRespRx m rx tx i) s = .next s) ∧
    (∀ m rx tx i e, (s.ptp m.port).reqWait = some (m.seq, e) → s.meanDelay m.port e rx tx i m.corr = none → exec (.ptpDelayRespRx m rx tx i) s = .next s) ∧
    (∀ p, Completes (.announceTimeout p) s fun t => t = { s with lmp := t.lmp } ∧ ∀ b, (s.ptp p).best = some b →
      (∀ a ∈ (t.ptp p).heard, a.sender ≠ b.sender) ∧ (∀ a ∈ (s.ptp p).heard, a.sender ≠ b.sender → a ∈ (t.ptp p).heard)) ∧
    (s.lmp.st = .acquiring → Completes .syncLoss s fun t => t.lmp.st = .freerun) ∧
    (s.lmp.st = .locked → (s.ptp (if s.lmp.port = 0 then .b else .a)).heard = [] →
      (∀ a ∈ (s.ptp (if s.lmp.port = 0 then .a else .b)).heard, a.sender = s.lmp.src) → Completes .syncLoss s fun t => t.lmp.st = .holdover) ∧
    (s.lmp.st = .locked → (∀ b, (s.ptp (if s.lmp.port = 0 then .a else .b)).best = some b → b.sender = s.lmp.src) →
      (s.ptp (if s.lmp.port = 0 then .b else .a)).heard ≠ [] ∨ (∃ a ∈ (s.ptp (if s.lmp.port = 0 then .a else .b)).heard, a.sender ≠ s.lmp.src) →
      Completes .syncLoss s fun t => t = { s with lmp := t.lmp } ∧ t.lmp.st = .locked ∧ (t.lmp.port ≠ s.lmp.port ∨ t.lmp.src ≠ s.lmp.src)) ∧
    (s.lmp.st = .freerun ∨ s.lmp.st = .holdover → exec .syncLoss s = .next s) ∧
    (s.lmp.st = .holdover → Completes .holdoverExpiry s fun t => t.lmp.st = .freerun) ∧
    (s.lmp.st ≠ .holdover → exec .holdoverExpiry s = .next s) ∧
    (s.lmp.secValid = true → Completes .secMarkReached s fun t => t.lmp.secMark = addT s.lmp.secMark 1000000000 ∧ t.lmp.time = s.lmp.time) ∧
    (s.lmp.secValid = false → exec .secMarkReached s = .next s) ∧
    (∀ a b, s.sys.mgpAway = false → exec (.extTimeUpdate a b) s =
      .next { s with lmp := { s.lmp with extTb := a.toNat, extSec := b.toNat, extCnt := (s.lmp.extCnt + 1) % 65536 } }) ∧
    (∀ a b, s.sys.mgpAway = true → exec (.extTimeUpdate a b) s = .next s) ∧
    (∀ (k : Fin 4) (w : Word), s.up 9 = true → reached s.lmp.time w.toNat = false → exec (.lmpTrig k w) s =
      .next { s with lmp := { s.lmp with trig := s.lmp.trig.set k.val w.toNat, armed := s.lmp.armed.set k.val true } }) ∧
    (∀ (k : Fin 4) (w : Word), s.up 9 = true → reached s.lmp.time w.toNat = true → Completes (.lmpTrig k w) s fun t =>
      t.lmp.trig = s.lmp.trig.set k.val w.toNat ∧ t.lmp.fired = s.lmp.fired.set k.val true ∧ nth t.lmp.armed k.val false = false) ∧
    (∀ k : Fin 4, nth s.lmp.armed k.val false = true → Completes (.triggerReached k) s fun t =>
      t.lmp.fired = s.lmp.fired.set k.val true ∧ t.lmp.armed = s.lmp.armed.set k.val false) ∧
    (∀ k : Fin 4, nth s.lmp.armed k.val false = false → exec (.triggerReached k) s = .next s) ∧
    (∀ (i : Fin 4) (w : Word), s.up 9 = true → exec (.lmpCorr i w) s = .next { s with lmp := { s.lmp with corr := s.lmp.corr.set i.val w.toInt } }) ∧
    (∀ (k i : Fin 4) (w v : Word), s.up 9 = false → exec (.lmpTrig k w) s = .next { s with sys := { s.sys with accAbsent := true } } ∧
      exec (.lmpCorr i v) s = .next { s with sys := { s.sys with accAbsent := true } })

/-- Register writes: unmapped addresses, reserved bits, blocks that do not answer, PILOT, and the buffered settings
(13_plant_link.md, 14_register_window.md). -/
def Obligations.RegisterWindowTakesWords : Prop :=
  ∀ (s : State) (i : Fin 65536) (w still : Word) (src : Src),
    (regAt (4 * i.val) = none → exec (.registerWrite i w still src) s = .next s) ∧
    (∀ r, regAt (4 * i.val) = some r → w.toNat &&& r.reserved ≠ 0 → exec (.registerWrite i w still src) s = .fault (.hostError .reservedBit)) ∧
    (∀ r, regAt (4 * i.val) = some r → w.toNat &&& r.reserved = 0 → exec (.registerWrite i w still src) s = s.writeTo r w still src) ∧
    (∀ r, (s.answers r = true → s.plainWrite r = s) ∧
      (s.answers r = false → r.shMask ≠ 0xFFFFFFFF → s.plainWrite r = { s with sys := { s.sys with accAbsent := true } })) ∧
    (regAt (4 * i.val) = some (.sys 26) → w.toNat &&& (Reg.sys 26).reserved = 0 → s.up 3 = true → exec (.registerWrite i w still src) s =
      .next ({ s with sys := { s.sys with coPermit := Tv.put w.toNat }, dict := s.dict.setWork P.sysCoPermit w.toNat } : State).coilService) ∧
    (regAt (4 * i.val) = some (.sys 26) → w.toNat &&& (Reg.sys 26).reserved = 0 → s.up 3 = false → exec (.registerWrite i w still src) s =
      .next { s with sys := { s.sys with accAbsent := true } }) ∧
    (∀ k r, regAt (4 * i.val) = some r → r = .par k ∨ (∃ p j, r = .phPar p j ∧ k = P.phase p (3 + j)) → w.toNat &&& r.reserved = 0 →
      (s.settingOk k (settingVal k w.toNat) = false → exec (.registerWrite i w still src) s = .fault (.hostError .outOfRange)) ∧
      (s.settingOk k (settingVal k w.toNat) = true → s.up 3 = true → s.sys.st ≠ .pilot →
        exec (.registerWrite i w still src) s = .next (s.putSetting k (settingVal k w.toNat))) ∧
      (s.settingOk k (settingVal k w.toNat) = true → s.up 3 = true → s.sys.st = .pilot →
        exec (.registerWrite i w still src) s = .next { s with sys := { s.sys with accPilotWr := true } }) ∧
      (s.settingOk k (settingVal k w.toNat) = true → s.up 3 = false →
        exec (.registerWrite i w still src) s = .next { s with sys := { s.sys with accAbsent := true } })) ∧
    (∀ (b : Fin 2) (j : Fin 16384), regAt (4 * i.val) = some (.bank b.val j.val) → exec (.registerWrite i w still src) s =
      exec (.scheduleBankWrite b j w) s) ∧
    (∀ c, regAt (4 * i.val) = some (.mbx c) → w.toNat &&& (Reg.mbx c).reserved = 0 →
      (s.up 9 = true → exec (.registerWrite i w still src) s = .next (if bitOf w.toNat 0 = true then s.ring c src else s)) ∧
      (s.up 9 = false → exec (.registerWrite i w still src) s = .next { s with sys := { s.sys with accAbsent := true } })) ∧
    (∀ a, s.writeRegs src still a [] = .next s) ∧
    (∀ a l t, s.writeReg a w still src = .next t → s.writeRegs src still a (w :: l) = t.writeRegs src still (a + 4) l) ∧
    (regAt 0x68 = some (.sys 26))

/-- A triple-voted field reads the majority of its copies, a write sets all three, and each tick corrects and counts
(R425). -/
def Obligations.TripleVotesMask : Prop :=
  (∀ (a b c i : Nat), bitOf (⟨a, b, c⟩ : Tv).vote i = ((bitOf a i && bitOf b i) || (bitOf a i && bitOf c i) || (bitOf b i && bitOf c i))) ∧
  (∀ v x : Nat, (⟨v, v, x⟩ : Tv).vote = v ∧ (⟨v, x, v⟩ : Tv).vote = v ∧ (⟨x, v, v⟩ : Tv).vote = v) ∧
  (∀ v : Nat, (Tv.put v) = ⟨v, v, v⟩ ∧ (Tv.put v).vote = v ∧ (Tv.put v).agree = true) ∧
  (∀ s : State, s.tvCorrect.phm.enMask = Tv.put s.phm.enMask.vote ∧ s.tvCorrect.sys.coPermit = Tv.put s.sys.coPermit.vote ∧
    s.tvCorrect.ctl.mode = Tv.put s.ctl.mode.vote ∧ s.tvCorrect.fsq.next = Tv.put s.fsq.next.vote ∧
    s.tvCorrect.ctl.hostLim = s.ctl.hostLim.map (fun x => Tv.put x.vote) ∧
    s.tvWords.map (fun x => x.1) = [0x68, 0x4400, 0x8000, 0x8160, 0x8164, 0x8400] ++
      (List.range s.sag.pmir.length).map (fun k => 0x3C100 + 4 * k) ∧
    s.tvCorrect.sag.pmir = s.sag.pmir.map (fun x => Tv.put x.vote) ∧
    s.tvCorrect.sys.tvFix = (s.tvWords.filter (fun x => !x.2.agree)).foldl (fun n _ => incSat 16 n) s.sys.tvFix ∧
    s.tvCorrect.sys.tvLast = (((s.tvWords.filter (fun x => !x.2.agree)).getLast?).map (fun x => x.1)).getD s.sys.tvLast ∧
    s.sysWord 26 = fitN 4 s.sys.coPermit.vote) ∧
  (∀ (s : State) (m : TickIn), s.sys.st ≠ .off → s.resetGoes = false → (∃ t : State,
    t = (((s.tickCounts.latchShadows.tvCorrect).tickPins m).thmTick).protect m ∧ exec (.housekeepingTick m) s =
      .next ((((((((if t.sagLive = true then t.mirrorCorrect else t).degTick).searchTick).strapTick).speedTick m.speed).pairTick).degLevels).stateMachine).coilService)) ∧
  (∀ (s : State) (m : TickIn), s.sys.st ≠ .off → s.resetGoes = true → exec (.housekeepingTick m) s =
    .next (s.tickCounts.tvCorrect.moduleReset s.sys.resetDue))

/-- The mailbox: the doorbell, the request buffer, the turn of the MGP, and the reply: MBX_RING, MBX_BUFFER_WRITE,
MGP_TAKE_REQUEST, MBX_REPLY_POSTED (02_states_and_domains.md, 15_mailboxes.md). -/
def Obligations.MailboxChannelsFollowTheProtocol : Prop :=
  ∀ s : State,
    (∀ (c : Fin 4) src, s.up 9 = true → (s.ch c.val).open = false → exec (.mbxRing c src) s = .next s) ∧
    (∀ (c : Fin 4) src, s.up 9 = true → (s.ch c.val).open = true → s.mbx.long = false → s.sys.mgpAway = false → c.val < s.mbx.ch.length →
      Completes (.mbxRing c src) s fun t => (t.ch c.val).st = .queued ∧ (t.ch c.val).src = src ∧
        (t.ch c.val).req = some (requestOf (s.ch c.val).reqBuf) ∧ t.mbx.order = s.mbx.order ++ [c.val] ∧ t = { s with mbx := t.mbx }) ∧
    (∀ (c : Fin 4) src, s.up 9 = true → (s.ch c.val).open = true → s.mbx.long = true ∨ s.sys.mgpAway = true → c.val < s.mbx.ch.length →
      Completes (.mbxRing c src) s fun t => (t.ch c.val).st = .done ∧ (t.ch c.val).doneCnt = ((s.ch c.val).doneCnt + 1) % 65536 ∧
        (t.ch c.val).repBuf = memPutL [] 0 (replyBytes (requestOf (s.ch c.val).reqBuf).code (requestOf (s.ch c.val).reqBuf).tag 1 0 [])) ∧
    (∀ (c : Fin 4) i (w : Word), s.up 9 = true → (s.ch c.val).open = true → exec (.mbxBufferWrite c i w) s =
      .next (s.modCh c.val (fun x => { x with reqBuf := memPutL x.reqBuf (4 * i.val) (leBytes 4 w.toNat) }))) ∧
    (∀ (c : Fin 4) i w, s.up 9 = true → (s.ch c.val).open = false → exec (.mbxBufferWrite c i w) s =
      .next (s.modCh c.val (fun x => { x with wrLost := true }))) ∧
    (∀ (c : Fin 4) src i w, s.up 9 = false → exec (.mbxRing c src) s = .next { s with sys := { s.sys with accAbsent := true } } ∧
      exec (.mbxBufferWrite c i w) s = .next { s with sys := { s.sys with accAbsent := true } }) ∧
    (s.sys.mgpAway = true ∨ s.mbx.long = true ∨ s.mbx.ch.any (fun x => x.st == .running) = true ∨ s.nextRequest = none →
      exec .mgpTakeRequest s = .next s) ∧
    (∀ c r, s.sys.mgpAway = false → s.mbx.long = false → s.mbx.ch.any (fun x => x.st == .running) = false → s.nextRequest = some c →
      (s.ch c).req = some r →
      (moves r.code = true → s.settled = false → exec .mgpTakeRequest s = .next s) ∧
      (moves r.code = false ∨ s.settled = true →
        (knownCode r.code = false → exec .mgpTakeRequest s = .fault (.hostError .reservedCode)) ∧
        (knownCode r.code = true → r.formOk = false → exec .mgpTakeRequest s = .fault (.hostError .malformed)) ∧
        (knownCode r.code = true → r.formOk = true → s.accepts r = false → exec .mgpTakeRequest s =
          .next (({ s with mbx := { s.mbx with order := s.mbx.order.filter (· != c) } } : State).notInState c r)) ∧
        (knownCode r.code = true → r.formOk = true → s.accepts r = true → c < s.mbx.ch.length → Completes .mgpTakeRequest s fun t =>
          (t.ch c).st = .running ∧ (t.ch c).req = some r ∧ t.mbx.long = longCode r.code ∧ t = { s with mbx := t.mbx }))) ∧
    (∀ c rq rc d b, (s.ch c).req = some rq → c < s.mbx.ch.length → ((s.reply c rc d b).ch c).st = .done ∧
      ((s.reply c rc d b).ch c).req = none ∧ ((s.reply c rc d b).ch c).repBuf = memPutL [] 0 (replyBytes rq.code rq.tag rc d b) ∧
      ((s.reply c rc d b).ch c).doneCnt = ((s.ch c).doneCnt + 1) % 65536 ∧
      s.reply c rc d b = { s with mbx := (s.reply c rc d b).mbx, plk := (s.reply c rc d b).plk, spy := (s.reply c rc d b).spy }) ∧
    (∀ (c : Fin 4) r rc d b rb, s.sys.mgpAway = false → (s.ch c.val).req = some r → (s.ch c.val).st = .running →
      (s.ch c.val).outcome = some (rc, d, b) → r.code ≠ 0x0201 → exec (.mbxReplyPosted (some c) rb) s = .next (s.reply c.val rc d b)) ∧
    (∀ (c : Fin 4) r d b rb, s.sys.mgpAway = false → (s.ch c.val).req = some r → (s.ch c.val).st = .running →
      (s.ch c.val).outcome = some (0, d, b) → r.code = 0x0201 → leAt b 6 1 = 1 → s.fsq.swapCode = 1 →
      exec (.mbxReplyPosted (some c) rb) s = .next s) ∧
    (∀ (c : Fin 4) rb, s.sys.mgpAway = true ∨ (s.ch c.val).req = none ∨ (s.ch c.val).st ≠ .running → exec (.mbxReplyPosted (some c) rb) s = .next s) ∧
    (∀ rb, s.sys.mgpAway = true ∨ s.mbx.own = 0 ∨ (s.mbx.own = 1 ∧ s.fsq.swapBusy = true) → exec (.mbxReplyPosted none rb) s = .next s) ∧
    (∀ rb, s.sys.mgpAway = false → s.mbx.own = 2 → Completes (.mbxReplyPosted none rb) s fun t => t.mbx.own = 0 ∧ t.mbx.long = false ∧
      t.est.capBusy = false)

/-- CMD_CONNECT, CMD_DISPATCH_ON, CMD_DISPATCH_OFF, CMD_OPEN, CMD_ISOLATION_RESET, CMD_RESET, CMD_DOMAIN_POWER,
CMD_SWAP, in all their forms (02_states_and_domains.md, 08_phase_harness.md, 11_saggar_safety.md,
12_pair_operation.md, 15_mailboxes.md). -/
def Obligations.StateCommandsRun : Prop :=
  ∀ (s : State) (c : Fin 4) (p : List Byte),
    (∀ i k, (i, k) ∈ [(Instr.cmdConnect c, 0x0101), (.cmdDispatchOn c, 0x0102), (.cmdDispatchOff c, 0x0103), (.cmdOpen c, 0x0104),
      (.cmdIsolationReset c, 0x0105), (.cmdReset c, 0x0106), (.cmdDomainPower c, 0x0107), (.cmdSwap c, 0x0108)] → s.NotServed c k i) ∧
    (s.Serves c 0x0101 p → s.connectBars = 0 → s.sag.want.length = 4 → Completes (.cmdConnect c) s fun t =>
      t.sys.st = .precharge ∧ nth t.sag.want 1 false = true ∧ nth t.sag.want 2 false = true ∧ t.sys.cmdUsed = true ∧ (t.ch c.val).req = none) ∧
    (s.Serves c 0x0101 p → s.connectBars ≠ 0 → exec (.cmdConnect c) s = .next (s.reply c.val 3 s.connectBars [])) ∧
    (s.Serves c 0x0102 p → (s.applyAt (.on .track)).dispatchBars = 0 → Completes (.cmdDispatchOn c) s fun t =>
      t.phm.trk = .recovery ∧ t.phm.burst = true ∧ t.sys = { s.sys with cmdUsed := true } ∧ t.sag = s.sag ∧ (t.ch c.val).req = none) ∧
    (s.Serves c 0x0102 p → (s.applyAt (.on .track)).dispatchBars ≠ 0 →
      exec (.cmdDispatchOn c) s = .next (s.reply c.val 3 (s.applyAt (.on .track)).dispatchBars [])) ∧
    (s.Serves c 0x0103 p → s.phm.trk ≠ .stopping → Completes (.cmdDispatchOff c) s fun t => t.phm.trk = .stopping ∧ t.ctl.ramp = s.ctl.iref ∧
      t.sys = { s.sys with cmdUsed := true } ∧ t.sag = s.sag) ∧
    (s.Serves c 0x0103 p → s.phm.trk = .stopping → exec (.cmdDispatchOff c) s = .next (s.reply c.val 0 0 [])) ∧
    (s.Serves c 0x0104 p → s.dispatching = false → Completes (.cmdOpen c) s fun t => t.sag.want = [false, false, false, false] ∧ t.sag.degRun = false ∧
      (s.sys.st ≠ .maintenance → t.sys.st = .standby) ∧ (s.sys.st = .maintenance → t.sys.st = .maintenance ∧ t.sys.base = .standby)) ∧
    (s.Serves c 0x0104 p → s.dispatching = true → Completes (.cmdOpen c) s fun t => t.sys.st = s.sys.st ∧ t.sys.openPending = true ∧
      t.phm.trk = .stopping ∧ t.sag.degRun = false) ∧
    (s.Serves c 0x0105 p → s.resetBar = none → Completes (.cmdIsolationReset c) s fun t => t.sag.latch = false ∧ t.sag.cause = 0 ∧
      t.sag.causes = [] ∧ t.sag.isolateOut = false ∧ t.sys.st = (if s.partnerOwns then .pilot else .standby)) ∧
    (∀ k, s.Serves c 0x0105 p → s.resetBar = some k → exec (.cmdIsolationReset c) s = .next (s.reply c.val 3 k [])) ∧
    (s.Serves c 0x0106 p → Completes (.cmdReset c) s fun t => t.sys = { s.sys with resetDue := 3, cmdUsed := true } ∧ t.sag = s.sag ∧
      (t.ch c.val).req = none) ∧
    (s.Serves c 0x0107 p → leAt p 1 1 ≠ 1 → Completes (.cmdDomainPower c) s fun t => nth t.sys.pd (leAt p 0 1) false = false ∧
      leAt p 0 1 ∉ t.sys.powering) ∧
    (s.Serves c 0x0107 p → leAt p 1 1 = 1 → nth s.sys.pd (leAt p 0 1) false = false → s.sys.powering.contains (leAt p 0 1) = false →
      Completes (.cmdDomainPower c) s fun t => t.sys = { s.sys with powering := s.sys.powering ++ [leAt p 0 1] }) ∧
    (s.Serves c 0x0107 p → leAt p 1 1 = 1 → nth s.sys.pd (leAt p 0 1) false = true ∨ s.sys.powering.contains (leAt p 0 1) = true →
      exec (.cmdDomainPower c) s = .next (s.reply c.val 0 0 [])) ∧
    (s.Serves c 0x0108 p → s.swapping = false → s.mayRequestSwap = true → Completes (.cmdSwap c) s fun t =>
      t.prl.swap = .requested ∧ t.prl.swapChan = some c.val ∧ t = { s with prl := t.prl }) ∧
    (s.Serves c 0x0108 p → s.swapping = false → s.mayRequestSwap = false → exec (.cmdSwap c) s = .next (s.reply c.val 3 0x40 [])) ∧
    (s.Serves c 0x0108 p → s.swapping = true → exec (.cmdSwap c) s = .next (s.reply c.val 1 0 []))

/-- CMD_SELFTEST, CMD_HEALTH, the schedule, balancing, calibration and capacity commands, in all their forms
(03_firing_schedule.md, 05_cell_measurement.md, 06_state_estimation.md, 12_pair_operation.md, 15_mailboxes.md). -/
def Obligations.ReportAndScheduleCommandsRun : Prop :=
  ∀ (s : State) (c : Fin 4) (p : List Byte),
    (∀ i k r, (i, k) ∈ [(Instr.cmdSelftest c r, 0x0109), (.cmdHealth c, 0x010A), (.cmdSchedLoad c, 0x0201), (.cmdSchedInfo c, 0x0202),
      (.cmdBalCtl c, 0x0301), (.cmdBalStatus c, 0x0302), (.cmdCalDischarge c, 0x0401), (.cmdCapReport c, 0x0402), (.cmdCapWrite c, 0x0403),
      (.cmdCapCommit c, 0x0404)] → s.NotServed c k i) ∧
    (∀ r, s.Serves c 0x0109 p → Completes (.cmdSelftest c r) s fun t =>
      t.sys.selftestFail = (r.masked s.selftestRun).failBits ∧ t.prl.refOk = r.refs ∧ t.sys.st = s.sys.st) ∧
    (s.Serves c 0x010A p → exec (.cmdHealth c) s = .next (s.reply c.val 0 0 (leBytes 4 s.health ++ leBytes 4 s.prl.healthPart ++
      leBytes 2 s.sys.selftestFail ++ leBytes 2 s.degWord ++ leBytes 1 s.lostCount ++ leBytes 3 0))) ∧
    (s.Serves c 0x0201 p → s.image (leAt p 0 1) = none → exec (.cmdSchedLoad c) s = .next (s.reply c.val 8 (leAt p 0 1) [])) ∧
    (∀ i, s.Serves c 0x0201 p → s.image (leAt p 0 1) = some i → exec (.cmdSchedLoad c) s =
      .next (if s.fsq.swapCode = 1 then s else if s.fsq.swapBusy = true then s.reply c.val 3 1 []
        else (if leAt p 1 1 = 1 then (s.loadShadow (leAt p 0 1) i).askSwap else s.loadShadow (leAt p 0 1) i).result c.val 0 0
          (leBytes 4 i.id ++ leBytes 2 i.entries.length ++ leBytes 1 (leAt p 1 1) ++ leBytes 1 0))) ∧
    (s.Serves c 0x0202 p → exec (.cmdSchedInfo c) s = .next (s.reply c.val 0 0 ((List.range 4).flatMap s.slotInfo))) ∧
    (s.Serves c 0x0301 p → leAt p 0 1 ≠ 2 → exec (.cmdBalCtl c) s =
      .next (({ s with est := { s.est with balMode := leAt p 0 1 } } : State).reply c.val 0 0 [])) ∧
    (s.Serves c 0x0301 p → leAt p 0 1 = 2 → Completes (.cmdBalCtl c) s fun t => t.est.balMode = 2 ∧
      t.est.hostMask = (List.range 48).map (fun n => leAt p (4 + n) 1)) ∧
    (s.Serves c 0x0302 p → exec (.cmdBalStatus c) s = .next (s.reply c.val 0 0 (leBytes 4 s.est.balMode ++
      s.fnl.links.map (fun l => BitVec.ofNat 8 l.bleed)))) ∧
    (s.Serves c 0x0401 p → leAt p 0 1 = 1 → Completes (.cmdCalDischarge c) s fun t => t.est.cal = true ∧
      (s.est.cal = false → t.est.calArmed = (List.range 384).filter (fun g => (s.gr g).learnArmed))) ∧
    (s.Serves c 0x0401 p → leAt p 0 1 ≠ 1 → Completes (.cmdCalDischarge c) s fun t => t.est.cal = false) ∧
    (s.Serves c 0x0402 p → exec (.cmdCapReport c) s =
      .next (s.reply c.val 0 0 ((List.range (leAt p 2 2)).flatMap (fun k => s.capReport (leAt p 0 2 + k))))) ∧
    (s.Serves c 0x0403 p → s.est.disMode = true → exec (.cmdCapWrite c) s = .next (s.reply c.val 3 1 [])) ∧
    (s.Serves c 0x0403 p → s.est.disMode = false → leAt p 0 2 ≠ 0xFFFF → leAt p 0 2 < s.csm.recs.length → Completes (.cmdCapWrite c) s fun t =>
      (t.gr (leAt p 0 2)).cap = leAt p 4 4 ∧ (t.gr (leAt p 0 2)).capPending = false ∧ t.est.commitDue = true) ∧
    (s.Serves c 0x0403 p → s.est.disMode = false → leAt p 0 2 = 0xFFFF → s.csm.recs.length = 384 → Completes (.cmdCapWrite c) s fun t =>
      (∀ g < 384, (t.gr g).cap = leAt p 4 4 ∧ (t.gr g).capPending = false) ∧ t.est.commitDue = true) ∧
    (s.Serves c 0x0404 p → s.sys.boWarn = false → exec (.cmdCapCommit c) s = .next { s with est := { s.est with
          capBusy := true,
          slots := s.est.slots.modify (commitTarget s.est.slots).1 (fun x => { x with valid := false }) } }) ∧
    (s.Serves c 0x0404 p → s.sys.boWarn = true → exec (.cmdCapCommit c) s = .next (s.reply c.val 3 1 [])) ∧
    (∀ r b, s.sys.mgpAway = false → (s.ch c.val).req = some r → (s.ch c.val).st = .running → (s.ch c.val).outcome = none → r.code = 0x0404 →
      s.est.capBusy = true → Completes (.mbxReplyPosted (some c) b) s fun t =>
        (b = true → (t.ch c.val).st = .done ∨ s.mbx.ch.length ≤ c.val) ∧ (b = true → t.est.capBusy = false ∧ t.est.commitDue = false ∧
          t.est.capSeq = (commitTarget s.est.slots).2) ∧
        (b = false → t.est.capBusy = !s.est.commitRetry ∧ t.est.capFail = true))

/-- The parameter, pairing, key, node and log commands, in all their forms, and the end of a settings commit
(04_finam_link.md, 15_mailboxes.md, 16_parameter_dictionary.md, 18_event_log.md). -/
def Obligations.SettingAndLinkCommandsRun : Prop :=
  ∀ (s : State) (c : Fin 4) (p : List Byte),
    (∀ i k, (i, k) ∈ [(Instr.cmdParamRead c, 0x0501), (.cmdParamWrite c, 0x0502), (.cmdSettingsCommit c, 0x0503), (.cmdSettingsDefault c, 0x0504),
      (.cmdPairWrite c, 0x0601), (.cmdPairClear c, 0x0602), (.cmdPairRead c, 0x0603), (.cmdLinkKeyChange c, 0x0604), (.cmdNodeCmd c, 0x0605),
      (.cmdLogRead c, 0x0701), (.cmdLogClear c, 0x0702)] → s.NotServed c k i) ∧
    (s.Serves c 0x0501 p → exec (.cmdParamRead c) s =
      .next (s.reply c.val 0 0 ((List.range (leAt p 2 2)).flatMap (fun k => leBytes 4 (s.readParam (leAt p 0 2 + k)))))) ∧
    (∀ k, s.Serves c 0x0502 p → safetyIn (leAt p 0 2) (leAt p 2 2) = some k → exec (.cmdParamWrite c) s = .next (s.reply c.val 4 k [])) ∧
    (∀ t, s.Serves c 0x0502 p → safetyIn (leAt p 0 2) (leAt p 2 2) = none →
      s.writeParams (leAt p 0 2) ((List.range (leAt p 2 2)).map (fun k => leAt p (4 + 4 * k) 4)) = .ok t →
      exec (.cmdParamWrite c) s = if t.estOrdered = true ∧ t.thmOrdered = true then .next (t.reply c.val 0 0 []) else .fault (.hostError .order)) ∧
    (∀ e, s.Serves c 0x0502 p → safetyIn (leAt p 0 2) (leAt p 2 2) = none →
      s.writeParams (leAt p 0 2) ((List.range (leAt p 2 2)).map (fun k => leAt p (4 + 4 * k) 4)) = .error e →
      exec (.cmdParamWrite c) s = .fault (.hostError e)) ∧
    (s.Serves c 0x0503 p → exec (.cmdSettingsCommit c) s = .next { s with dict := { s.dict with
          job := some s.settingsData,
          slots := s.dict.slots.modify (commitTarget s.dict.slots).1 (fun x => { x with valid := false }) } }) ∧
    (∀ r b, s.sys.mgpAway = false → (s.ch c.val).req = some r → (s.ch c.val).st = .running → (s.ch c.val).outcome = none → r.code = 0x0503 →
      s.dict.job.isSome = true → exec (.mbxReplyPosted (some c) b) s = .next (if b = true
        then (s.settingsEnd true).reply c.val 0 0 (leBytes 4 (commitTarget s.dict.slots).2) else (s.settingsEnd false).reply c.val 9 1 [])) ∧
    (s.Serves c 0x0504 p → exec (.cmdSettingsDefault c) s = .next (s.settingsDefault.reply c.val 0 0 [])) ∧
    (s.Serves c 0x0601 p → s.pairConflict (leAt p 0 1) (leAt p 4 8) = none → leAt p 0 1 < s.fnl.pair.length → Completes (.cmdPairWrite c) s fun t =>
      (nth t.fnl.pair (leAt p 0 1) {}).serial = leAt p 4 8 ∧ (nth t.fnl.pair (leAt p 0 1) {}).kN = leAt p 12 16 ∧ t.fnl.kL.isSome = true) ∧
    (∀ k, s.Serves c 0x0601 p → s.pairConflict (leAt p 0 1) (leAt p 4 8) = some k → exec (.cmdPairWrite c) s = .next (s.reply c.val 10 k [])) ∧
    (s.Serves c 0x0602 p → s.nodeJoined (leAt p 0 1) = true → exec (.cmdPairClear c) s = .next (s.queueCmd (leAt p 0 1) 8 [] (some c.val))) ∧
    (s.Serves c 0x0602 p → s.nodeJoined (leAt p 0 1) = false → (nth s.fnl.pair (leAt p 0 1) {}).serial = 0 →
      exec (.cmdPairClear c) s = .next (s.reply c.val 8 (leAt p 0 1) [])) ∧
    (s.Serves c 0x0602 p → s.nodeJoined (leAt p 0 1) = false → (nth s.fnl.pair (leAt p 0 1) {}).serial ≠ 0 → Completes (.cmdPairClear c) s fun t =>
      (nth t.fnl.pair (leAt p 0 1) {}).serial = 0) ∧
    (s.Serves c 0x0603 p → Completes (.cmdPairRead c) s fun t => t = { s with mbx := t.mbx, plk := t.plk, spy := t.spy }) ∧
    (s.Serves c 0x0604 p → s.fnl.changing = true → exec (.cmdLinkKeyChange c) s = .next (s.reply c.val 3 1 [])) ∧
    (s.Serves c 0x0604 p → s.fnl.changing = false → Completes (.cmdLinkKeyChange c) s fun t => t.fresh = s.fresh + 1 ∧
      t.fnl.cmdQ.length = s.fnl.cmdQ.length + ((List.range 48).filter s.nodeJoined).length) ∧
    (s.Serves c 0x0605 p → Completes (.cmdNodeCmd c) s fun t => t.fnl.cmdQ.length = s.fnl.cmdQ.length + 1 ∧
      ∃ q, t.fnl.cmdQ.getLast? = some q ∧ q.node = leAt p 0 1 ∧ q.cmd = leAt p 1 1 ∧ q.chan = some c.val) ∧
    (s.Serves c 0x0701 p → Completes (.cmdLogRead c) s fun t => t = { s with mbx := t.mbx, plk := t.plk, spy := t.spy }) ∧
    (s.Serves c 0x0702 p → Completes (.cmdLogClear c) s fun t => t.log.queue = [] ∧ t.sag = s.sag ∧ t.csm = s.csm)

/-- The safety commands in all their forms: login, staging, commit and its end, abort, password, and the change log
(11_saggar_safety.md, 15_mailboxes.md). -/
def Obligations.SafetyCommandsRun : Prop :=
  ∀ (s : State) (c : Fin 4) (p : List Byte),
    (∀ i k, (i, k) ∈ [(Instr.cmdSagLogin c, 0x0901), (.cmdSagStage c, 0x0902), (.cmdSagCommit c, 0x0903), (.cmdSagAbort c, 0x0904),
      (.cmdSagPassword c, 0x0905), (.cmdSagLogRead c, 0x0906), (.cmdSagLogAck c, 0x0907)] → s.NotServed c k i) ∧
    (s.Serves c 0x0901 p → s.sag.locked = true → exec (.cmdSagLogin c) s = .next (s.reply c.val 5 s.lockLeft [])) ∧
    (s.Serves c 0x0901 p → s.sag.locked = false → s.sag.pwOk (pwField p 0).2 = true → Completes (.cmdSagLogin c) s fun t =>
      t.sag.login = some (c.val, s.srcOf c.val) ∧ t.sag.staged = [] ∧ t.sag.loginFail = 0 ∧ t.sag.cfg = s.sag.cfg) ∧
    (s.Serves c 0x0901 p → s.sag.locked = false → s.sag.pwOk (pwField p 0).2 = false → Completes (.cmdSagLogin c) s fun t =>
      t.sag.loginFail = incSat 8 s.sag.loginFail ∧ t.sag.locked = decide (5 ≤ incSat 8 s.sag.loginFail) ∧ t.sag.login = s.sag.login) ∧
    (s.loggedIn c.val = false → (s.Serves c 0x0902 p → exec (.cmdSagStage c) s = .next (s.reply c.val 4 0 [])) ∧
      (s.Serves c 0x0903 p → exec (.cmdSagCommit c) s = .next (s.reply c.val 4 0 []))) ∧
    (s.Serves c 0x0902 p → s.loggedIn c.val = true → exec (.cmdSagStage c) s = .next ((s.stage (stageEntries p)).reply c.val 0 0
      (leBytes 2 (s.stage (stageEntries p)).sag.staged.length))) ∧
    (s.Serves c 0x0903 p → s.loggedIn c.val = true → s.commitBar = none → Completes (.cmdSagCommit c) s fun t =>
      t.sag.job = some (s.sag.staged, (s.srcOf c.val).code) ∧ t.sag.cfg = s.sag.cfg ∧ t.sag.latch = s.sag.latch ∧ t = { s with sag := t.sag }) ∧
    (∀ b, s.Serves c 0x0903 p → s.loggedIn c.val = true → s.commitBar = some b → exec (.cmdSagCommit c) s = .next (s.reply c.val b.1 b.2 [])) ∧
    (∀ r l n b, s.sys.mgpAway = false → (s.ch c.val).req = some r → (s.ch c.val).st = .running → (s.ch c.val).outcome = none → r.code = 0x0903 →
      s.sag.job = some (l, n) → b = true → Completes (.mbxReplyPosted (some c) b) s fun t =>
        t.sag.cfg = ({ s with sag := { s.sag with staged := l } } : State).stagedCfg ∧ t.sag.staged = [] ∧ t.sag.login = none ∧
        t.sag.ilkDone = false ∧ t.sag.job = none ∧ t.sag.latch = s.sag.latch) ∧
    (∀ r l n, s.sys.mgpAway = false → (s.ch c.val).req = some r → (s.ch c.val).st = .running → (s.ch c.val).outcome = none → r.code = 0x0903 →
      s.sag.job = some (l, n) → exec (.mbxReplyPosted (some c) false) s =
        .next (({ s with sag := { s.sag with job := none, login := none, staged := [] } } : State).reply c.val 9 0 [])) ∧
    (s.Serves c 0x0904 p → exec (.cmdSagAbort c) s =
      .next (({ s with sag := { s.sag with staged := [], login := none } } : State).reply c.val 0 0 [])) ∧
    (s.Serves c 0x0905 p → s.oldPwOk p = false → exec (.cmdSagPassword c) s = .next (s.reply c.val 4 0 [])) ∧
    (s.Serves c 0x0905 p → s.oldPwOk p = true → s.sag.clogFree ≤ 1 → exec (.cmdSagPassword c) s = .next (s.reply c.val 7 s.sag.clogFree [])) ∧
    (s.Serves c 0x0905 p → s.oldPwOk p = true → 1 < s.sag.clogFree → Completes (.cmdSagPassword c) s fun t =>
      (∃ x, t.sag.pw = some (x, pwDigest x (pwField p 13).2)) ∧ t.sag.clogSeq = s.sag.clogSeq + 1) ∧
    (s.Serves c 0x0906 p → s.sag.clogSeq < leAt p 0 4 → exec (.cmdSagLogRead c) s = .next (s.reply c.val 8 (leAt p 0 4) [])) ∧
    (s.Serves c 0x0906 p → leAt p 0 4 ≤ s.sag.clogSeq → exec (.cmdSagLogRead c) s =
      .next (s.reply c.val 0 0 ((List.range (leAt p 4 1)).flatMap (fun k => s.sag.clogAt (leAt p 0 4 + k))))) ∧
    (s.Serves c 0x0907 p → s.sag.pwOk (pwField p 0).2 = false → exec (.cmdSagLogAck c) s = .next (s.reply c.val 4 0 [])) ∧
    (s.Serves c 0x0907 p → s.sag.pwOk (pwField p 0).2 = true → s.sag.clogSeq < leAt p 16 4 →
      exec (.cmdSagLogAck c) s = .next (s.reply c.val 6 s.sag.clogSeq [])) ∧
    (s.Serves c 0x0907 p → s.sag.pwOk (pwField p 0).2 = true → leAt p 16 4 ≤ s.sag.clogSeq → Completes (.cmdSagLogAck c) s fun t =>
      t.sag.clogAck = max s.sag.clogAck (leAt p 16 4) ∧ t.sag.cfg = s.sag.cfg)

/-- A field update: CMD_UPDATE_BEGIN, UPD_BLOCK, staging, forwarding, CMD_UPDATE_ABORT and CMD_UPDATE_STATUS, in all
their forms (13_plant_link.md, 15_mailboxes.md, 17_field_update.md). -/
def Obligations.UpdatesAreReceivedAndStaged : Prop :=
  ∀ (s : State) (c : Fin 4) (p : List Byte),
    (∀ i k, (i, k) ∈ [(Instr.cmdUpdateBegin c, 0x0801), (.cmdUpdateStage c, 0x0802), (.cmdUpdateAbort c, 0x0804), (.cmdUpdateStatus c, 0x0805)] →
      s.NotServed c k i) ∧
    (∀ (x : Tx) i, s.TxOk x 10 i → (s.mayAct x.addr = false → exec (.updBlock x) s = .next ((s.txIn x i).sessStatus i x 10 10)) ∧
      (s.mayAct x.addr = true → s.sys.mgpAway = true → exec (.updBlock x) s = .next ((s.txIn x i).sessStatus i x 10 1)) ∧
      (s.mayAct x.addr = true → s.sys.mgpAway = false → s.upd.isOpen = false ∨ 1032 < x.payload.length ∨ s.upd.lengthOf (leAt x.payload 0 2) = none →
        exec (.updBlock x) s = .next ((s.txIn x i).sessStatus i x 10 5))) ∧
    (∀ (x : Tx) i n, s.TxOk x 10 i → s.mayAct x.addr = true → s.sys.mgpAway = false → s.upd.isOpen = true → x.payload.length ≤ 1032 →
      s.upd.lengthOf (leAt x.payload 0 2) = some n → s.upd.roll ≠ .none → exec (.updBlock x) s = .next ((s.txIn x i).blockReply i x n)) ∧
    (∀ (x : Tx) i n o, s.TxOk x 10 i → s.mayAct x.addr = true → s.sys.mgpAway = false → s.upd.isOpen = true → x.payload.length ≤ 1032 →
      s.upd.lengthOf (leAt x.payload 0 2) = some n → s.upd.roll = .none → o = (s.upd.bytesOf (leAt x.payload 0 2)).length →
      (leAt x.payload 4 4 ≠ o ∨ (x.payload.length = 8 ∧ o ≤ n) → exec (.updBlock x) s =
        .next (({ s.txIn x i with upd := { s.upd with phase := 1 } } : State).blockReply i x o)) ∧
      (leAt x.payload 4 4 = o → n < o + (x.payload.length - 8) → exec (.updBlock x) s = .next ((s.txIn x i).sessStatus i x 10 5)) ∧
      (leAt x.payload 4 4 = o → 8 < x.payload.length → o + (x.payload.length - 8) ≤ n → exec (.updBlock x) s =
        .next ((({ s.txIn x i with upd := { s.upd with phase := 1 } } : State).blockPut (leAt x.payload 0 2) n (x.payload.drop 8)).blockReply i x
          (o + (x.payload.length - 8))))) ∧
    (∀ n b, (s.upd.manBuf ++ b).length ≠ n → s.blockPut 0xFFFF n b = { s with upd := { s.upd with manBuf := s.upd.manBuf ++ b } }) ∧
    (s.Serves c 0x0801 p → s.sys.st ≠ .pilot ∨ s.upd.isOpen = false → Completes (.cmdUpdateBegin c) s fun t =>
      t.upd.phase = 1 ∧ t.upd.manLen = leAt p 0 4 ∧ t.upd.man = none ∧ t.upd.force = s.upd.force ∧
      t.sys.st = (if s.sys.st = .pilot then .pilot else .maintenance) ∧ t.sag.coil = s.sag.coil) ∧
    (s.Serves c 0x0801 p → s.sys.st = .pilot → s.upd.isOpen = true → exec (.cmdUpdateBegin c) s = .next (s.reply c.val 3 1 [])) ∧
    (∀ m, s.Serves c 0x0802 p → s.upd.man = some m → (∀ kp ∈ indexed m.parts, kp.2.stages (s.upd.got kp.1) = true) →
      exec (.cmdUpdateStage c) s = .next (({ s with upd := { s.upd with phase := 2 } } : State).result c.val 0 0
        (leBytes 2 m.parts.length ++ leBytes 2 0xFFFF))) ∧
    (∀ m k q, s.Serves c 0x0802 p → s.upd.man = some m →
      (indexed m.parts).find? (fun kp => !kp.2.stages (s.upd.got kp.1)) = some (k, q) → Completes (.cmdUpdateStage c) s fun t =>
        t.upd.phase = 1 ∧ t.upd.got k = [] ∧ t.upd.force = s.upd.force ∧
        t.mbx = (s.result c.val 9 3 (leBytes 2 m.parts.length ++ leBytes 2 k)).mbx) ∧
    (s.Serves c 0x0802 p → s.upd.man = none → exec (.cmdUpdateStage c) s = .next (s.result c.val 9 3 (leBytes 2 0 ++ leBytes 2 0xFFFF))) ∧
    (∀ r, s.upd.nextFam = 0 ∨ s.upd.phase = 0 ∨ s.sys.mgpAway = true → exec (.blockForwardRepeat r) s = .next s) ∧
    (∀ r, s.upd.nextFam ≠ 0 → s.upd.phase ≠ 0 → s.sys.mgpAway = false → (s.upd.fwdReply r).fwdList.find? (fun x =>
      decide ((s.upd.fwdReply r).fwdAt x.1 < x.2)) = none → exec (.blockForwardRepeat r) s =
        .next { s with upd := { s.upd.fwdReply r with fwdSent := none, fwdOut := [], fwdStall := 0 } }) ∧
    (∀ r k n, s.upd.nextFam ≠ 0 → s.upd.phase ≠ 0 → s.sys.mgpAway = false → (s.upd.fwdReply r).fwdList.find? (fun x =>
      decide ((s.upd.fwdReply r).fwdAt x.1 < x.2)) = some (k, n) → Completes (.blockForwardRepeat r) s fun t =>
        t.upd.fwdStall = (s.upd.fwdReply r).fwdStall + 1 ∧ t = { s with upd := t.upd, log := t.log } ∧
        ((s.upd.fwdReply r).fwdSess ≠ none → t.upd.fwdSent = some (k, (s.upd.fwdReply r).fwdAt k))) ∧
    (s.Serves c 0x0804 p → Completes (.cmdUpdateAbort c) s fun t => t.upd.phase = 0 ∧ t.upd.roll = .none ∧ t.upd.force = s.upd.force ∧ t.sag = s.sag) ∧
    (s.Serves c 0x0805 p → Completes (.cmdUpdateStatus c) s fun t => t = { s with mbx := t.mbx, plk := t.plk, spy := t.spy })

/-- Activation, the copy, the new image, the rollback, the saggar image and the roll-out to the nodes, in all their
forms (15_mailboxes.md, 17_field_update.md). -/
def Obligations.UpdatesActivateRollBackAndRollOut : Prop :=
  ∀ (s : State) (c : Fin 4) (p : List Byte),
    (s.NotServed c 0x0803 (.cmdUpdateActivate c)) ∧
    (s.Serves c 0x0803 p → s.activateBars ≠ 0 → exec (.cmdUpdateActivate c) s = .next (s.reply c.val 3 s.activateBars [])) ∧
    (s.Serves c 0x0803 p → s.activateBars = 0 → s.upd.digestsOk = false → exec (.cmdUpdateActivate c) s = .next (s.reply c.val 9 3 [])) ∧
    (s.Serves c 0x0803 p → s.activateBars = 0 → s.upd.digestsOk = true → Completes (.cmdUpdateActivate c) s fun t =>
      t.upd.phase = 3 ∧ t.upd.handoff = true ∧ t.upd.confirmed = false ∧ t.sys.mgpAway = true ∧ t.sag.login = none ∧
      t.log.banked = some (s.csm.recs, s.est) ∧ t.sys.st = s.sys.st) ∧
    (∀ b, s.upd.handoff = false ∨ s.upd.copied = true → exec (.loaderCopyDone b) s = .next s) ∧
    (s.upd.handoff = true → s.upd.copied = false → s.sys.loaderOnly = false ∨ s.upd.rolledBack = true → exec (.loaderCopyDone true) s =
      .next { s with upd := { s.upd with copied := true } }) ∧
    (s.upd.handoff = true → s.upd.copied = false → s.sys.loaderOnly = true → s.upd.rolledBack = false →
      Completes (.loaderCopyDone true) s fun t => t.sys.st = .boot ∧ t.sys.loaderOnly = false ∧ t.sys.mgpAway = false) ∧
    (s.upd.handoff = true → s.upd.copied = false → s.upd.rolledBack = false → exec (.loaderCopyDone false) s = .next s.rollBack) ∧
    (s.upd.handoff = true → s.upd.copied = false → s.upd.rolledBack = true → exec (.loaderCopyDone false) s =
      .next { s with sys := { s.sys with mgpStaysAway := true }, upd := { s.upd with handoff := false, copied := false } }) ∧
    (s.rollBack.upd.rolledBack = true ∧ s.rollBack.upd.confirmed = true ∧ s.rollBack.upd.act = [] ∧ s.rollBack.upd.copied = false) ∧
    (s.upd.handoff = false ∨ s.upd.copied = false → exec .newMgpTimeout s = .next s ∧ exec .newMgpReady s = .next s) ∧
    (s.upd.handoff = true → s.upd.copied = true → exec .newMgpTimeout s = .next (if s.upd.rolledBack = true
      then { s with sys := { s.sys with mgpStaysAway := true }, upd := { s.upd with handoff := false, copied := false } } else s.rollBack)) ∧
    (s.upd.handoff = true → s.upd.copied = true → s.upd.rolledBack = false → Completes .newMgpReady s fun t =>
      t.sys.mgpAway = false ∧ t.upd.confirmed = true ∧ t.upd.act = [] ∧ t.upd.handoff = false) ∧
    (s.upd.handoff = true → s.upd.copied = true → s.upd.rolledBack = true → Completes .newMgpReady s fun t =>
      t.sys.mgpAway = false ∧ t.upd.rolledBack = false ∧ t.upd.handoff = false) ∧
    (s.upd.sagReset = false → exec .saggarReset s = .next s) ∧
    (s.upd.sagReset = true → Completes .saggarReset s fun t => t.sag.latch = true ∧ t.upd.sagReset = false ∧
      t.sag.cause = (if s.sag.latch then s.sag.cause else 0x17) ∧ t.sag.coil = [false, false, false, false] ∧
      t.sag.isolateOut = s.sag.isolateOut ∧ t.sag.demandOut = s.sag.demandOut) ∧
    (∀ u : Fin 2, s.upd.roll ≠ .staging ∨ s.sys.mgpAway = true ∨ s.prl.owner = false ∨ s.stagingOn u.val = true ∨ s.hasFwSlot u.val = false ∨
      (List.range 48).find? (fun n => (s.nl n).unit == u.val && s.rollWants n && !s.rollStaged n) = none → exec (.dn8NodeStage u) s = .next s) ∧
    (∀ (u : Fin 2) n, s.upd.roll = .staging → s.sys.mgpAway = false → s.prl.owner = true → s.stagingOn u.val = false → s.hasFwSlot u.val = true →
      (List.range 48).find? (fun n => (s.nl n).unit == u.val && s.rollWants n && !s.rollStaged n) = some n →
      exec (.dn8NodeStage u) s = .next (s.queueCmd n 4 (s.beginParams n) none)) ∧
    (s.upd.roll ≠ .staging ∨ s.sys.mgpAway = true ∨ s.prl.owner = false ∨ s.rollMay = false ∨
      (List.range 48).any (fun n => s.rollWants n && !s.rollStaged n) = true → exec .dn8NodeActivate s = .next s) ∧
    (∀ n, s.upd.roll = .staging → s.sys.mgpAway = false → s.prl.owner = true → s.rollMay = true →
      (List.range 48).any (fun n => s.rollWants n && !s.rollStaged n) = false → (List.range 48).find? s.rollWants = some n →
      Completes .dn8NodeActivate s fun t => t.upd.roll = .activating n ∧ t.upd.rollBank = 1 - (s.nl n).bank ∧
        t.fnl = (s.queueCmd n 5 [1 - (s.nl n).bank] none).fnl) ∧
    (s.upd.roll = .staging → s.sys.mgpAway = false → s.prl.owner = true → s.rollMay = true → (∀ n < 48, s.rollWants n = false) →
      Completes .dn8NodeActivate s fun t => t.upd.roll = .none ∧ t.upd.phase = 0)

/-- The spyhole: reads, health, keys, traces, Ctrl-C, reset, bye and bad lines (answers in the form of log entry 58)
(02_states_and_domains.md, 19_spyhole_monitor.md). -/
def Obligations.SpyholeReadsTracesAndEnds : Prop :=
  ∀ s : State,
    (s.sys.mgpAway = true ∨ s.sys.st = .off → (∀ a n w v l p g i, exec (.spyR a n) s = .next s ∧ exec (.spyP a n) s = .next s ∧
      exec (.spyCsm a n) s = .next s ∧ exec (.spyLog a n) s = .next s ∧ exec .spyHealth s = .next s ∧ exec .spyKeys s = .next s ∧
      exec (.spyW a w v) s = .next s ∧ exec (.spyPw a w) s = .next s ∧ exec (.spyM g l) s = .next s ∧ exec (.spySagLogin l) s = .next s ∧
      exec (.spySagStage a w) s = .next s ∧ exec .spySagCommit s = .next s ∧ exec .spySagAbort s = .next s ∧ exec .spyReset s = .next s ∧
      exec .spyBye s = .next s ∧ exec .spyUnknownLine s = .next s ∧ exec (.spyTraceCe p i) s = .next s ∧ exec .spyTraceFsq s = .next s)) ∧
    (s.sys.mgpAway = false → s.sys.st ≠ .off → s.sys.loaderOnly = true → ∀ a n w v g l p i,
      exec (.spyP a n) s = .next (s.spyIn.spyErr "STATE") ∧ exec (.spyCsm a n) s = .next (s.spyIn.spyErr "STATE") ∧
      exec (.spyLog a n) s = .next (s.spyIn.spyErr "STATE") ∧ exec .spyKeys s = .next (s.spyIn.spyErr "STATE") ∧
      exec (.spyTraceCe p i) s = .next (s.spyIn.spyErr "STATE") ∧ exec .spyTraceFsq s = .next (s.spyIn.spyErr "STATE") ∧
      exec .spyReset s = .next (s.spyIn.spyErr "STATE") ∧ exec (.spyW a w v) s = .next (s.spyIn.spyErr "STATE") ∧
      exec (.spyPw a w) s = .next (s.spyIn.spyErr "STATE") ∧ exec (.spyM g l) s = .next (s.spyIn.spyErr "STATE") ∧
      exec (.spySagLogin l) s = .next (s.spyIn.spyErr "STATE") ∧ exec (.spySagStage a w) s = .next (s.spyIn.spyErr "STATE") ∧
      exec .spySagCommit s = .next (s.spyIn.spyErr "STATE") ∧ exec .spySagAbort s = .next (s.spyIn.spyErr "STATE")) ∧
    (s.sys.mgpAway = true ∨ s.sys.st = .off → exec .spyCtrlC s = .next s) ∧
    (s.sys.mgpAway = false → s.sys.st ≠ .off → Completes .spyCtrlC s fun t => t.spy.status = "OK STOPPED" ∧ t.spy.ce = none ∧ t.fsq.traceArmed = false ∧
      t.fsq.tracing = false ∧ (t.spy.ceRecs = if s.spy.ce.isSome = true ∧ s.spy.ceFired = false then [] else s.spy.ceRecs) ∧
      t.sag = s.sag) ∧
    (s.sys.mgpAway = false → s.sys.st ≠ .off → exec .spyUnknownLine s = .next (s.spyErr "SYNTAX")) ∧
    (s.sys.mgpAway = false → s.sys.st ≠ .off → exec .spyBye s = .next s.spyIn.spyEnd) ∧
    (s.spyEnd.spy.openS = false ∧ s.spyEnd.spy.wrote = false ∧ s.spyEnd.sys.events = s.sys.events ++ [.sessionEnded] ∧
      (∀ n, s.sag.login = some (n, .spyhole) → s.spyEnd.sag.login = none) ∧
      ((∀ n, s.sag.login ≠ some (n, .spyhole)) → s.spyEnd.sag = s.sag)) ∧
    (s.sys.mgpAway = false → s.sys.st ≠ .off →
      (∀ a n, n = 0 ∨ 64 < n → exec (.spyR a n) s = .next (s.spyIn.spyErr "RANGE")) ∧
      (∀ a n, 1 ≤ n → n ≤ 64 → spyAddrBad a n = true → exec (.spyR a n) s = .next (s.spyIn.spyErr "ADDR")) ∧
      (∀ a n, 1 ≤ n → n ≤ 64 → spyAddrBad a n = false → exec (.spyR a n) s = .next ((s.spyIn.readRegs false a n).2.spyOut
        ((indexed (s.spyIn.readRegs false a n).1).map fun kv => hexOf 5 (a + 4 * kv.1) ++ ": " ++ hexOf 8 kv.2))) ∧
      exec .spyHealth s = .next (s.spyIn.spyOut ["STATE " ++ hexOf 8 s.sys.st.code, "HEALTH_OWN " ++ hexOf 8 s.health,
        "HEALTH_PART " ++ hexOf 8 s.prl.healthPart, "DEG " ++ hexOf 8 s.degWord, "LOST " ++ hexOf 8 s.lostCount,
        "ISO " ++ hexOf 8 s.sag.cause])) ∧
    (s.sys.mgpAway = false → s.sys.st ≠ .off → s.sys.loaderOnly = false →
      (∀ i n, n = 0 ∨ 64 < n ∨ 65536 < i + n → exec (.spyP i n) s = .next (s.spyIn.spyErr "RANGE")) ∧
      (∀ i n k, k < n → Params.reserved (i + k) = true → exec (.spyP i n) s = .next (s.spyIn.spyErr "RANGE")) ∧
      (∀ i n, 1 ≤ n → n ≤ 64 → i + n ≤ 65536 → (∀ k, k < n → Params.reserved (i + k) = false) → exec (.spyP i n) s =
        .next (s.spyIn.spyOut ((List.range n).map fun k => toString (i + k) ++ ": " ++ hexOf 8 (s.readParam (i + k))))) ∧
      (∀ g n, n = 0 ∨ 16 < n ∨ 384 < g + n → exec (.spyCsm g n) s = .next (s.spyIn.spyErr "RANGE")) ∧
      (∀ g n, 1 ≤ n → n ≤ 16 → g + n ≤ 384 → Completes (.spyCsm g n) s fun t => t.sys.accAbsent = (s.sys.accAbsent || !s.up 6) ∧
        t.spy.out = (List.range n).map (fun k => wordLine 16 (wordsOf 8 (s.bulkRecord (g + k) 0))) ∧ t.csm = s.csm) ∧
      (∀ i n, n = 0 ∨ 31 < n ∨ 65536 ≤ i → exec (.spyLog i n) s = .next (s.spyIn.spyErr "RANGE")) ∧
      (∀ i n, 1 ≤ n → n ≤ 31 → i < 65536 → exec (.spyLog i n) s = .next (s.spyIn.spyOut
        ((List.range n).map fun k => wordLine 8 (wordsOf 4 (s.slotBytes ((i + k) % 65536)))))) ∧
      (∀ k, s.fnl.kL = some k → exec .spyKeys s = .next (s.spyIn.spyOut ["K_L " ++ tagText (le4 (keyTag k)),
        "EPOCH " ++ toString s.fnl.epoch])) ∧
      (s.fnl.kL = none → exec .spyKeys s = .next (s.spyIn.spyOut ["EPOCH " ++ toString s.fnl.epoch])) ∧
      (∀ (p : Fin 16) g, Completes (.spyTraceCe p g) s fun t => t.spy.ce = some (p.val, g) ∧ t.spy.ceFired = decide (g = .now) ∧
        t.spy.ceLeft = (if g = .now then 1024 else 0) ∧ t.spy.ceRecs = [] ∧ t = { s with spy := t.spy }) ∧
      (Completes .spyTraceFsq s fun t => t.fsq = { s.fsq with traceArmed := true, tracing := false, trace := [] } ∧
        t = { s.spyIn with fsq := t.fsq }) ∧
      (s.settled = true → s.sys.st = .standby ∨ s.sys.st = .isolated ∨ s.sys.st = .pilot → s.sys.boPhase = .none → Completes .spyReset s fun t =>
        t.sys.st = .boot ∧ t.sys.resetCause = 4 ∧ t.sag.latch = s.sag.latch ∧ t.pending = s.pending) ∧
      (s.settled = true → s.sys.st ≠ .standby ∧ s.sys.st ≠ .isolated ∧ s.sys.st ≠ .pilot ∨ s.sys.boPhase ≠ .none →
        exec .spyReset s = .next (s.spyIn.spyErr "STATE")) ∧
      (s.settled = false → Completes .spyReset s fun t => t.sys = { s.sys with events := s.sys.events ++ [.spyReset] } ∧ t.spy.status = "" ∧
        t = { s with spy := t.spy, sys := t.sys }))

/-- The writes of the spyhole: w, pw, m and the safety commands (answers in the form of log entry 58)
(02_states_and_domains.md, 11_saggar_safety.md, 14_register_window.md, 15_mailboxes.md, 19_spyhole_monitor.md). -/
def Obligations.SpyholeWritesOpenMaintenance : Prop :=
  ∀ s : State, s.sys.mgpAway = false → s.sys.st ≠ .off → s.sys.loaderOnly = false →
    (s.spyBarred = true → ∀ a w v g l, exec (.spyW a w v) s = .next (s.spyIn.spyErr "STATE") ∧ exec (.spyPw a w) s = .next (s.spyIn.spyErr "STATE") ∧
      exec (.spyM g l) s = .next (s.spyIn.spyErr "STATE") ∧ exec (.spySagLogin l) s = .next (s.spyIn.spyErr "STATE") ∧
      exec (.spySagStage a w) s = .next (s.spyIn.spyErr "STATE") ∧ exec .spySagCommit s = .next (s.spyIn.spyErr "STATE") ∧
      exec .spySagAbort s = .next (s.spyIn.spyErr "STATE")) ∧
    (s.spyWrote.spy.wrote = true ∧ s.spyWrote.sag = s.sag ∧
      (s.spy.wrote = true → s.spyWrote = s) ∧
      (s.sys.st = .pilot ∨ s.sys.st = .maintenance → s.spyWrote.sys = s.sys) ∧
      (s.spy.wrote = false → s.sys.st ≠ .pilot → s.sys.st ≠ .maintenance → s.settled = true → s.spyWrote.sys.st = .maintenance) ∧
      (s.spy.wrote = false → s.sys.st ≠ .pilot → s.sys.st ≠ .maintenance → s.settled = false → s.spyWrote.sys.st = s.sys.st ∧
        s.spyWrote.sys.events = s.sys.events ++ [.spyFirstWrite])) ∧
    (s.spyBarred = false →
      (∀ a w v, spyAddrBad a 1 = true → exec (.spyW a w v) s = .next (s.spyIn.spyErr "ADDR")) ∧
      (∀ a w v r, spyAddrBad a 1 = false → ({ s.spyIn.spyWrote with sys := { s.spyIn.spyWrote.sys with accPilotWr := false } } : State).writeReg a w v .spyhole = .next r →
        exec (.spyW a w v) s = if r.sys.accPilotWr = true then
          .next (({ s.spyIn with sys := { s.sys with accPilotWr := true } } : State).spyErr "PILOT") else
          .next (({ r with sys := { r.sys with accPilotWr := s.sys.accPilotWr } } : State).spyOut [])) ∧
      (∀ a w v e, spyAddrBad a 1 = false → ({ s.spyIn.spyWrote with sys := { s.spyIn.spyWrote.sys with accPilotWr := false } } : State).writeReg a w v .spyhole = .fault e →
        exec (.spyW a w v) s = .fault e) ∧
      (∀ i w k, Params.safetyPos i = some k → exec (.spyPw i w) s = .next (s.spyIn.spyErr "DENIED")) ∧
      (∀ i w, Params.safetyPos i = none → 65536 ≤ i ∨ Params.reserved i = true → exec (.spyPw i w) s = .next (s.spyIn.spyErr "RANGE")) ∧
      (∀ i w, Params.safetyPos i = none → i < 65536 → Params.reserved i = false → s.sys.st = .pilot →
        exec (.spyPw i w) s = .next (s.spyIn.spyErr (if pilotField i then "PILOT" else "STATE"))) ∧
      (∀ i (w : Word) r, Params.safetyPos i = none → i < 65536 → Params.reserved i = false → s.sys.st ≠ .pilot →
        s.spyIn.spyWrote.writeSettings i [w.toNat] = .ok r → exec (.spyPw i w) s = .next (r.spyOut [])) ∧
      (∀ i (w : Word) e, Params.safetyPos i = none → i < 65536 → Params.reserved i = false → s.sys.st ≠ .pilot →
        s.spyIn.spyWrote.writeSettings i [w.toNat] = .error e → exec (.spyPw i w) s = .fault (.hostError e)) ∧
      (∀ g l, s.freeChan = none → exec (.spyM g l) s = .next (s.spyIn.spyErr "CHAN_BUSY")) ∧
      (∀ g l c, s.freeChan = some c → s.mbx.long = false → c < s.mbx.ch.length → Completes (.spyM g l) s fun t =>
        (t.ch c).st = .queued ∧ (t.ch c).src = .spyhole ∧ t.spy.wait = some c ∧ t.spy.wrote = true) ∧
      (s.safetyState = true →
        (∀ l, s.sag.locked = true → exec (.spySagLogin l) s = .next (s.spyIn.spyErr "LOCKED")) ∧
        (∀ l, s.sag.locked = false → s.sag.pwOk l = true → Completes (.spySagLogin l) s fun t =>
          t.sag = { s.sag with login := some (4, .spyhole), staged := [], loginFail := 0 } ∧ t.spy.wrote = true ∧ t.spy.status = "OK") ∧
        (∀ l, s.sag.locked = false → s.sag.pwOk l = false → Completes (.spySagLogin l) s fun t =>
          t.spy.status = "E DENIED" ∧ t.sag.loginFail = incSat 8 s.sag.loginFail ∧ t.sag.login = s.sag.login ∧
          t.sag.locked = decide (5 ≤ incSat 8 s.sag.loginFail)) ∧
        (s.spyLoggedIn = false → ∀ i w, exec .spySagCommit s = .next (s.spyIn.spyErr "DENIED") ∧
          exec (.spySagStage i w) s = .next (s.spyIn.spyErr "DENIED")) ∧
        (∀ i (w : Word), s.spyLoggedIn = true → exec (.spySagStage i w) s =
          .next ((s.spyIn.spyWrote.stage [(i, settingVal i w.toNat)]).spyOut [])) ∧
        (∀ b, s.spyLoggedIn = true → s.commitBar = some b → exec .spySagCommit s =
          .next (s.spyIn.spyErr (if b.1 = 6 then "RANGE" else "MBX LOG_FULL"))) ∧
        (s.spyLoggedIn = true → s.commitBar = none → Completes .spySagCommit s fun t => t.sag.cfg = s.stagedCfg ∧ t.sag.staged = [] ∧
          t.sag.login = none ∧ t.sag.ilkDone = false ∧ t.sag.latch = s.sag.latch ∧
          t.spy.out = ["CLOG_SEQ " ++ hexOf 8 t.sag.clogSeq, "CFG_CRC " ++ hexOf 8 (cfgCrc t.sag.cfg)]) ∧
        (Completes .spySagAbort s fun t => t.sag = { s.sag with login := none, staged := [] } ∧ t.spy.status = "OK")) ∧
      (s.safetyState = false → ∀ l i w, exec (.spySagLogin l) s = .next (s.spyIn.spyErr "STATE") ∧
        exec (.spySagStage i w) s = .next (s.spyIn.spyErr "STATE") ∧ exec .spySagCommit s = .next (s.spyIn.spyErr "STATE") ∧
        exec .spySagAbort s = .next (s.spyIn.spyErr "STATE")))

/-- What a power-on reset leaves: BOOT, every path off, nothing queued, and the invariants hold (log 1, 7, 10 choose the
rest) (00_scope.md, 02_states_and_domains.md). -/
def Obligations.ResetLeavesTheStatedValues : Prop :=
  State.reset.sysWord 16 = 0x11 ∧ State.reset.sysWord 17 = 1 ∧ State.reset.sysWord 0 = 0x38344353 ∧
  State.reset.sag.coil = [false, false, false, false] ∧ State.reset.fsq.running = false ∧ State.reset.fsq.swapCode = 0 ∧
  (∀ c ∈ State.reset.mbx.ch, c.st = .idle ∧ c.req = none ∧ c.doneCnt = 0) ∧ State.reset.plk.sessions = [] ∧ State.reset.log.queue = [] ∧
  State.reset.ctl.queue = [] ∧ State.reset.lmp.st = .freerun ∧ State.reset.pending = [] ∧ State.reset.LatchSafe ∧ State.reset.MemOk

/-- A step runs the command at the front of the queue on the state with the rest of it; an empty queue idles (log entry
1) (00_scope.md, 02_states_and_domains.md). -/
def Obligations.StepRunsTheFrontCommand : Prop :=
  (∀ (s : State) (c : Instr), step { s with pending := c :: s.pending } = exec c s) ∧
  (∀ (s : State) c l, s.pending = c :: l → step s = exec c { s with pending := l }) ∧
  (∀ s : State, s.pending = [] → step s = .next s) ∧
  (∀ (s : State) n w, decodeTableWord n w = none ∧ s.withFetchWord n w = s)

/-- No command touches the queue; what may touch the nodes, the password and the safety set (04_finam_link.md,
11_saggar_safety.md, 17_field_update.md). -/
def Obligations.EveryCommandKeepsTheQueueAndTheNodes : Prop :=
  ∀ (s t : State) (c : Instr), exec c s = .next t →
    t.pending = s.pending ∧
    (nodeOf c = none → t.nodes = s.nodes ∨ (c = .frameStart ∧ t.nodes = s.nodes.map Dn8.frameStart) ∨
      ((∃ m, c = .housekeepingTick m) ∧ t.nodes = s.nodes.map Dn8.searchTick)) ∧
    (∀ n, nodeOf c = some n → ∀ k, k ≠ n.val → t.nodes[k]? = s.nodes[k]?) ∧
    (t.sag.pw = s.sag.pw ∨ (∃ k, c = .cmdSagPassword k) ∨ c = .saggarReset) ∧
    (t.sag.cfg = s.sag.cfg ∨ (∃ k rb, c = .mbxReplyPosted k rb) ∨ c = .spySagCommit ∨ c = .mgpWatchdog ∨ c = .saggarReset ∨
      (∃ a b, c = .bootVerifyDone a b) ∨ t.sag.cfg = ({} : Sag).cfg)

/-- Once set, the isolation latch stays through every command but CMD_ISOLATION_RESET, every reset included
(02_states_and_domains.md, 11_saggar_safety.md, 17_field_update.md). -/
def Obligations.OnlyIsolationResetClearsTheLatch : Prop :=
  ∀ (s t : State) (c : Instr), s.sag.latch = true → exec c s = .next t →
    t.sag.latch = true ∨ (∃ k, c = .cmdIsolationReset k) ∧ s.resetBar = none

/-- While the isolation latch is set no coil path is energised: every step keeps it (11_saggar_safety.md). -/
def Obligations.StepKeepsTheLatchSafe : Prop :=
  ∀ s t : State, s.LatchSafe → step s = .next t → t.LatchSafe

/-- Every schedule bank and mailbox buffer keeps its canonical form (log entry 10) through every step
(03_firing_schedule.md, 15_mailboxes.md). -/
def Obligations.StepKeepsTheMemoriesCanonical : Prop :=
  ∀ s t : State, s.MemOk → step s = .next t → t.MemOk
end

