-- ==== Sys2Proof/Laws/State.lean ====
section
/-! SUPPORT. What each plain update of State does to each field, one lemma a field, true by rfl (written `(rfl)` so that simp can also use it below a binder): no proof unfolds a record update. -/

namespace Sys2Proof.Machine

@[simp] theorem State.replyFrom_pins (s : State) (p : PortId) (h : Net) (b : List Byte) : (s.replyFrom p h b).pins = s.pins := (rfl)
@[simp] theorem State.replyFrom_sys (s : State) (p : PortId) (h : Net) (b : List Byte) : (s.replyFrom p h b).sys = s.sys := (rfl)
@[simp] theorem State.replyFrom_fsq (s : State) (p : PortId) (h : Net) (b : List Byte) : (s.replyFrom p h b).fsq = s.fsq := (rfl)
@[simp] theorem State.replyFrom_fnl (s : State) (p : PortId) (h : Net) (b : List Byte) : (s.replyFrom p h b).fnl = s.fnl := (rfl)
@[simp] theorem State.replyFrom_nodes (s : State) (p : PortId) (h : Net) (b : List Byte) : (s.replyFrom p h b).nodes = s.nodes := (rfl)
@[simp] theorem State.replyFrom_csm (s : State) (p : PortId) (h : Net) (b : List Byte) : (s.replyFrom p h b).csm = s.csm := (rfl)
@[simp] theorem State.replyFrom_mea (s : State) (p : PortId) (h : Net) (b : List Byte) : (s.replyFrom p h b).mea = s.mea := (rfl)
@[simp] theorem State.replyFrom_est (s : State) (p : PortId) (h : Net) (b : List Byte) : (s.replyFrom p h b).est = s.est := (rfl)
@[simp] theorem State.replyFrom_prb (s : State) (p : PortId) (h : Net) (b : List Byte) : (s.replyFrom p h b).prb = s.prb := (rfl)
@[simp] theorem State.replyFrom_phm (s : State) (p : PortId) (h : Net) (b : List Byte) : (s.replyFrom p h b).phm = s.phm := (rfl)
@[simp] theorem State.replyFrom_ctl (s : State) (p : PortId) (h : Net) (b : List Byte) : (s.replyFrom p h b).ctl = s.ctl := (rfl)
@[simp] theorem State.replyFrom_thm (s : State) (p : PortId) (h : Net) (b : List Byte) : (s.replyFrom p h b).thm = s.thm := (rfl)
@[simp] theorem State.replyFrom_sag (s : State) (p : PortId) (h : Net) (b : List Byte) : (s.replyFrom p h b).sag = s.sag := (rfl)
@[simp] theorem State.replyFrom_prl (s : State) (p : PortId) (h : Net) (b : List Byte) : (s.replyFrom p h b).prl = s.prl := (rfl)
@[simp] theorem State.replyFrom_plk (s : State) (p : PortId) (h : Net) (b : List Byte) : (s.replyFrom p h b).plk = { s.plk with sent := s.plk.sent.set p.idx (some (s.frameTo p h.addr h.udp h.dst h.dudp 0 b)) } := (rfl)
@[simp] theorem State.replyFrom_lmp (s : State) (p : PortId) (h : Net) (b : List Byte) : (s.replyFrom p h b).lmp = s.lmp := (rfl)
@[simp] theorem State.replyFrom_mbx (s : State) (p : PortId) (h : Net) (b : List Byte) : (s.replyFrom p h b).mbx = s.mbx := (rfl)
@[simp] theorem State.replyFrom_dict (s : State) (p : PortId) (h : Net) (b : List Byte) : (s.replyFrom p h b).dict = s.dict := (rfl)
@[simp] theorem State.replyFrom_upd (s : State) (p : PortId) (h : Net) (b : List Byte) : (s.replyFrom p h b).upd = s.upd := (rfl)
@[simp] theorem State.replyFrom_log (s : State) (p : PortId) (h : Net) (b : List Byte) : (s.replyFrom p h b).log = s.log := (rfl)
@[simp] theorem State.replyFrom_spy (s : State) (p : PortId) (h : Net) (b : List Byte) : (s.replyFrom p h b).spy = s.spy := (rfl)
@[simp] theorem State.replyFrom_fresh (s : State) (p : PortId) (h : Net) (b : List Byte) : (s.replyFrom p h b).fresh = s.fresh := (rfl)
@[simp] theorem State.replyFrom_pending (s : State) (p : PortId) (h : Net) (b : List Byte) : (s.replyFrom p h b).pending = s.pending := (rfl)

@[simp] theorem State.rxDropOne_pins (s : State) (p : PortId) : (s.rxDropOne p).pins = s.pins := (rfl)
@[simp] theorem State.rxDropOne_sys (s : State) (p : PortId) : (s.rxDropOne p).sys = s.sys := (rfl)
@[simp] theorem State.rxDropOne_fsq (s : State) (p : PortId) : (s.rxDropOne p).fsq = s.fsq := (rfl)
@[simp] theorem State.rxDropOne_fnl (s : State) (p : PortId) : (s.rxDropOne p).fnl = s.fnl := (rfl)
@[simp] theorem State.rxDropOne_nodes (s : State) (p : PortId) : (s.rxDropOne p).nodes = s.nodes := (rfl)
@[simp] theorem State.rxDropOne_csm (s : State) (p : PortId) : (s.rxDropOne p).csm = s.csm := (rfl)
@[simp] theorem State.rxDropOne_mea (s : State) (p : PortId) : (s.rxDropOne p).mea = s.mea := (rfl)
@[simp] theorem State.rxDropOne_est (s : State) (p : PortId) : (s.rxDropOne p).est = s.est := (rfl)
@[simp] theorem State.rxDropOne_prb (s : State) (p : PortId) : (s.rxDropOne p).prb = s.prb := (rfl)
@[simp] theorem State.rxDropOne_phm (s : State) (p : PortId) : (s.rxDropOne p).phm = s.phm := (rfl)
@[simp] theorem State.rxDropOne_ctl (s : State) (p : PortId) : (s.rxDropOne p).ctl = s.ctl := (rfl)
@[simp] theorem State.rxDropOne_thm (s : State) (p : PortId) : (s.rxDropOne p).thm = s.thm := (rfl)
@[simp] theorem State.rxDropOne_sag (s : State) (p : PortId) : (s.rxDropOne p).sag = s.sag := (rfl)
@[simp] theorem State.rxDropOne_prl (s : State) (p : PortId) : (s.rxDropOne p).prl = s.prl := (rfl)
@[simp] theorem State.rxDropOne_plk (s : State) (p : PortId) : (s.rxDropOne p).plk = { s.plk with rxDrop := s.plk.rxDrop.modify p.idx (incSat 16) } := (rfl)
@[simp] theorem State.rxDropOne_lmp (s : State) (p : PortId) : (s.rxDropOne p).lmp = s.lmp := (rfl)
@[simp] theorem State.rxDropOne_mbx (s : State) (p : PortId) : (s.rxDropOne p).mbx = s.mbx := (rfl)
@[simp] theorem State.rxDropOne_dict (s : State) (p : PortId) : (s.rxDropOne p).dict = s.dict := (rfl)
@[simp] theorem State.rxDropOne_upd (s : State) (p : PortId) : (s.rxDropOne p).upd = s.upd := (rfl)
@[simp] theorem State.rxDropOne_log (s : State) (p : PortId) : (s.rxDropOne p).log = s.log := (rfl)
@[simp] theorem State.rxDropOne_spy (s : State) (p : PortId) : (s.rxDropOne p).spy = s.spy := (rfl)
@[simp] theorem State.rxDropOne_fresh (s : State) (p : PortId) : (s.rxDropOne p).fresh = s.fresh := (rfl)
@[simp] theorem State.rxDropOne_pending (s : State) (p : PortId) : (s.rxDropOne p).pending = s.pending := (rfl)

@[simp] theorem State.gatesLow_pins (s : State) : (s.gatesLow).pins = s.pins := (rfl)
@[simp] theorem State.gatesLow_sys (s : State) : (s.gatesLow).sys = s.sys := (rfl)
@[simp] theorem State.gatesLow_fsq (s : State) : (s.gatesLow).fsq = s.fsq := (rfl)
@[simp] theorem State.gatesLow_fnl (s : State) : (s.gatesLow).fnl = s.fnl := (rfl)
@[simp] theorem State.gatesLow_nodes (s : State) : (s.gatesLow).nodes = s.nodes := (rfl)
@[simp] theorem State.gatesLow_csm (s : State) : (s.gatesLow).csm = s.csm := (rfl)
@[simp] theorem State.gatesLow_mea (s : State) : (s.gatesLow).mea = s.mea := (rfl)
@[simp] theorem State.gatesLow_est (s : State) : (s.gatesLow).est = s.est := (rfl)
@[simp] theorem State.gatesLow_prb (s : State) : (s.gatesLow).prb = s.prb := (rfl)
@[simp] theorem State.gatesLow_phm (s : State) : (s.gatesLow).phm = { s.phm with ph := s.phm.ph.map Phase.idle, burst := false, burstLeft := 0, brake := false, hold := 0, stepReq := 0 } := (rfl)
@[simp] theorem State.gatesLow_ctl (s : State) : (s.gatesLow).ctl = s.ctl := (rfl)
@[simp] theorem State.gatesLow_thm (s : State) : (s.gatesLow).thm = s.thm := (rfl)
@[simp] theorem State.gatesLow_sag (s : State) : (s.gatesLow).sag = s.sag := (rfl)
@[simp] theorem State.gatesLow_prl (s : State) : (s.gatesLow).prl = s.prl := (rfl)
@[simp] theorem State.gatesLow_plk (s : State) : (s.gatesLow).plk = s.plk := (rfl)
@[simp] theorem State.gatesLow_lmp (s : State) : (s.gatesLow).lmp = s.lmp := (rfl)
@[simp] theorem State.gatesLow_mbx (s : State) : (s.gatesLow).mbx = s.mbx := (rfl)
@[simp] theorem State.gatesLow_dict (s : State) : (s.gatesLow).dict = s.dict := (rfl)
@[simp] theorem State.gatesLow_upd (s : State) : (s.gatesLow).upd = s.upd := (rfl)
@[simp] theorem State.gatesLow_log (s : State) : (s.gatesLow).log = s.log := (rfl)
@[simp] theorem State.gatesLow_spy (s : State) : (s.gatesLow).spy = s.spy := (rfl)
@[simp] theorem State.gatesLow_fresh (s : State) : (s.gatesLow).fresh = s.fresh := (rfl)
@[simp] theorem State.gatesLow_pending (s : State) : (s.gatesLow).pending = s.pending := (rfl)

@[simp] theorem State.post_pins (s : State) (e : Ev) : (s.post e).pins = s.pins := (rfl)
@[simp] theorem State.post_sys (s : State) (e : Ev) : (s.post e).sys = { s.sys with events := s.sys.events ++ [e] } := (rfl)
@[simp] theorem State.post_fsq (s : State) (e : Ev) : (s.post e).fsq = s.fsq := (rfl)
@[simp] theorem State.post_fnl (s : State) (e : Ev) : (s.post e).fnl = s.fnl := (rfl)
@[simp] theorem State.post_nodes (s : State) (e : Ev) : (s.post e).nodes = s.nodes := (rfl)
@[simp] theorem State.post_csm (s : State) (e : Ev) : (s.post e).csm = s.csm := (rfl)
@[simp] theorem State.post_mea (s : State) (e : Ev) : (s.post e).mea = s.mea := (rfl)
@[simp] theorem State.post_est (s : State) (e : Ev) : (s.post e).est = s.est := (rfl)
@[simp] theorem State.post_prb (s : State) (e : Ev) : (s.post e).prb = s.prb := (rfl)
@[simp] theorem State.post_phm (s : State) (e : Ev) : (s.post e).phm = s.phm := (rfl)
@[simp] theorem State.post_ctl (s : State) (e : Ev) : (s.post e).ctl = s.ctl := (rfl)
@[simp] theorem State.post_thm (s : State) (e : Ev) : (s.post e).thm = s.thm := (rfl)
@[simp] theorem State.post_sag (s : State) (e : Ev) : (s.post e).sag = s.sag := (rfl)
@[simp] theorem State.post_prl (s : State) (e : Ev) : (s.post e).prl = s.prl := (rfl)
@[simp] theorem State.post_plk (s : State) (e : Ev) : (s.post e).plk = s.plk := (rfl)
@[simp] theorem State.post_lmp (s : State) (e : Ev) : (s.post e).lmp = s.lmp := (rfl)
@[simp] theorem State.post_mbx (s : State) (e : Ev) : (s.post e).mbx = s.mbx := (rfl)
@[simp] theorem State.post_dict (s : State) (e : Ev) : (s.post e).dict = s.dict := (rfl)
@[simp] theorem State.post_upd (s : State) (e : Ev) : (s.post e).upd = s.upd := (rfl)
@[simp] theorem State.post_log (s : State) (e : Ev) : (s.post e).log = s.log := (rfl)
@[simp] theorem State.post_spy (s : State) (e : Ev) : (s.post e).spy = s.spy := (rfl)
@[simp] theorem State.post_fresh (s : State) (e : Ev) : (s.post e).fresh = s.fresh := (rfl)
@[simp] theorem State.post_pending (s : State) (e : Ev) : (s.post e).pending = s.pending := (rfl)

@[simp] theorem State.wantCo_pins (s : State) (k : Nat) (on : Bool) : (s.wantCo k on).pins = s.pins := (rfl)
@[simp] theorem State.wantCo_sys (s : State) (k : Nat) (on : Bool) : (s.wantCo k on).sys = s.sys := (rfl)
@[simp] theorem State.wantCo_fsq (s : State) (k : Nat) (on : Bool) : (s.wantCo k on).fsq = s.fsq := (rfl)
@[simp] theorem State.wantCo_fnl (s : State) (k : Nat) (on : Bool) : (s.wantCo k on).fnl = s.fnl := (rfl)
@[simp] theorem State.wantCo_nodes (s : State) (k : Nat) (on : Bool) : (s.wantCo k on).nodes = s.nodes := (rfl)
@[simp] theorem State.wantCo_csm (s : State) (k : Nat) (on : Bool) : (s.wantCo k on).csm = s.csm := (rfl)
@[simp] theorem State.wantCo_mea (s : State) (k : Nat) (on : Bool) : (s.wantCo k on).mea = s.mea := (rfl)
@[simp] theorem State.wantCo_est (s : State) (k : Nat) (on : Bool) : (s.wantCo k on).est = s.est := (rfl)
@[simp] theorem State.wantCo_prb (s : State) (k : Nat) (on : Bool) : (s.wantCo k on).prb = s.prb := (rfl)
@[simp] theorem State.wantCo_phm (s : State) (k : Nat) (on : Bool) : (s.wantCo k on).phm = s.phm := (rfl)
@[simp] theorem State.wantCo_ctl (s : State) (k : Nat) (on : Bool) : (s.wantCo k on).ctl = s.ctl := (rfl)
@[simp] theorem State.wantCo_thm (s : State) (k : Nat) (on : Bool) : (s.wantCo k on).thm = s.thm := (rfl)
@[simp] theorem State.wantCo_sag (s : State) (k : Nat) (on : Bool) : (s.wantCo k on).sag = { s.sag with want := s.sag.want.set k on } := (rfl)
@[simp] theorem State.wantCo_prl (s : State) (k : Nat) (on : Bool) : (s.wantCo k on).prl = s.prl := (rfl)
@[simp] theorem State.wantCo_plk (s : State) (k : Nat) (on : Bool) : (s.wantCo k on).plk = s.plk := (rfl)
@[simp] theorem State.wantCo_lmp (s : State) (k : Nat) (on : Bool) : (s.wantCo k on).lmp = s.lmp := (rfl)
@[simp] theorem State.wantCo_mbx (s : State) (k : Nat) (on : Bool) : (s.wantCo k on).mbx = s.mbx := (rfl)
@[simp] theorem State.wantCo_dict (s : State) (k : Nat) (on : Bool) : (s.wantCo k on).dict = s.dict := (rfl)
@[simp] theorem State.wantCo_upd (s : State) (k : Nat) (on : Bool) : (s.wantCo k on).upd = s.upd := (rfl)
@[simp] theorem State.wantCo_log (s : State) (k : Nat) (on : Bool) : (s.wantCo k on).log = s.log := (rfl)
@[simp] theorem State.wantCo_spy (s : State) (k : Nat) (on : Bool) : (s.wantCo k on).spy = s.spy := (rfl)
@[simp] theorem State.wantCo_fresh (s : State) (k : Nat) (on : Bool) : (s.wantCo k on).fresh = s.fresh := (rfl)
@[simp] theorem State.wantCo_pending (s : State) (k : Nat) (on : Bool) : (s.wantCo k on).pending = s.pending := (rfl)

@[simp] theorem State.wantNone_pins (s : State) : (s.wantNone).pins = s.pins := (rfl)
@[simp] theorem State.wantNone_sys (s : State) : (s.wantNone).sys = s.sys := (rfl)
@[simp] theorem State.wantNone_fsq (s : State) : (s.wantNone).fsq = s.fsq := (rfl)
@[simp] theorem State.wantNone_fnl (s : State) : (s.wantNone).fnl = s.fnl := (rfl)
@[simp] theorem State.wantNone_nodes (s : State) : (s.wantNone).nodes = s.nodes := (rfl)
@[simp] theorem State.wantNone_csm (s : State) : (s.wantNone).csm = s.csm := (rfl)
@[simp] theorem State.wantNone_mea (s : State) : (s.wantNone).mea = s.mea := (rfl)
@[simp] theorem State.wantNone_est (s : State) : (s.wantNone).est = s.est := (rfl)
@[simp] theorem State.wantNone_prb (s : State) : (s.wantNone).prb = s.prb := (rfl)
@[simp] theorem State.wantNone_phm (s : State) : (s.wantNone).phm = s.phm := (rfl)
@[simp] theorem State.wantNone_ctl (s : State) : (s.wantNone).ctl = s.ctl := (rfl)
@[simp] theorem State.wantNone_thm (s : State) : (s.wantNone).thm = s.thm := (rfl)
@[simp] theorem State.wantNone_sag (s : State) : (s.wantNone).sag = { s.sag with want := [false, false, false, false] } := (rfl)
@[simp] theorem State.wantNone_prl (s : State) : (s.wantNone).prl = s.prl := (rfl)
@[simp] theorem State.wantNone_plk (s : State) : (s.wantNone).plk = s.plk := (rfl)
@[simp] theorem State.wantNone_lmp (s : State) : (s.wantNone).lmp = s.lmp := (rfl)
@[simp] theorem State.wantNone_mbx (s : State) : (s.wantNone).mbx = s.mbx := (rfl)
@[simp] theorem State.wantNone_dict (s : State) : (s.wantNone).dict = s.dict := (rfl)
@[simp] theorem State.wantNone_upd (s : State) : (s.wantNone).upd = s.upd := (rfl)
@[simp] theorem State.wantNone_log (s : State) : (s.wantNone).log = s.log := (rfl)
@[simp] theorem State.wantNone_spy (s : State) : (s.wantNone).spy = s.spy := (rfl)
@[simp] theorem State.wantNone_fresh (s : State) : (s.wantNone).fresh = s.fresh := (rfl)
@[simp] theorem State.wantNone_pending (s : State) : (s.wantNone).pending = s.pending := (rfl)

@[simp] theorem State.setDeg_pins (s : State) (k : Nat) (b : Bool) : (s.setDeg k b).pins = s.pins := (rfl)
@[simp] theorem State.setDeg_sys (s : State) (k : Nat) (b : Bool) : (s.setDeg k b).sys = s.sys := (rfl)
@[simp] theorem State.setDeg_fsq (s : State) (k : Nat) (b : Bool) : (s.setDeg k b).fsq = s.fsq := (rfl)
@[simp] theorem State.setDeg_fnl (s : State) (k : Nat) (b : Bool) : (s.setDeg k b).fnl = s.fnl := (rfl)
@[simp] theorem State.setDeg_nodes (s : State) (k : Nat) (b : Bool) : (s.setDeg k b).nodes = s.nodes := (rfl)
@[simp] theorem State.setDeg_csm (s : State) (k : Nat) (b : Bool) : (s.setDeg k b).csm = s.csm := (rfl)
@[simp] theorem State.setDeg_mea (s : State) (k : Nat) (b : Bool) : (s.setDeg k b).mea = s.mea := (rfl)
@[simp] theorem State.setDeg_est (s : State) (k : Nat) (b : Bool) : (s.setDeg k b).est = s.est := (rfl)
@[simp] theorem State.setDeg_prb (s : State) (k : Nat) (b : Bool) : (s.setDeg k b).prb = s.prb := (rfl)
@[simp] theorem State.setDeg_phm (s : State) (k : Nat) (b : Bool) : (s.setDeg k b).phm = s.phm := (rfl)
@[simp] theorem State.setDeg_ctl (s : State) (k : Nat) (b : Bool) : (s.setDeg k b).ctl = s.ctl := (rfl)
@[simp] theorem State.setDeg_thm (s : State) (k : Nat) (b : Bool) : (s.setDeg k b).thm = s.thm := (rfl)
@[simp] theorem State.setDeg_sag (s : State) (k : Nat) (b : Bool) : (s.setDeg k b).sag = { s.sag with deg := s.sag.deg.set k b } := (rfl)
@[simp] theorem State.setDeg_prl (s : State) (k : Nat) (b : Bool) : (s.setDeg k b).prl = s.prl := (rfl)
@[simp] theorem State.setDeg_plk (s : State) (k : Nat) (b : Bool) : (s.setDeg k b).plk = s.plk := (rfl)
@[simp] theorem State.setDeg_lmp (s : State) (k : Nat) (b : Bool) : (s.setDeg k b).lmp = s.lmp := (rfl)
@[simp] theorem State.setDeg_mbx (s : State) (k : Nat) (b : Bool) : (s.setDeg k b).mbx = s.mbx := (rfl)
@[simp] theorem State.setDeg_dict (s : State) (k : Nat) (b : Bool) : (s.setDeg k b).dict = s.dict := (rfl)
@[simp] theorem State.setDeg_upd (s : State) (k : Nat) (b : Bool) : (s.setDeg k b).upd = s.upd := (rfl)
@[simp] theorem State.setDeg_log (s : State) (k : Nat) (b : Bool) : (s.setDeg k b).log = s.log := (rfl)
@[simp] theorem State.setDeg_spy (s : State) (k : Nat) (b : Bool) : (s.setDeg k b).spy = s.spy := (rfl)
@[simp] theorem State.setDeg_fresh (s : State) (k : Nat) (b : Bool) : (s.setDeg k b).fresh = s.fresh := (rfl)
@[simp] theorem State.setDeg_pending (s : State) (k : Nat) (b : Bool) : (s.setDeg k b).pending = s.pending := (rfl)

@[simp] theorem State.degStop_pins (s : State) : (s.degStop).pins = s.pins := (rfl)
@[simp] theorem State.degStop_sys (s : State) : (s.degStop).sys = s.sys := (rfl)
@[simp] theorem State.degStop_fsq (s : State) : (s.degStop).fsq = s.fsq := (rfl)
@[simp] theorem State.degStop_fnl (s : State) : (s.degStop).fnl = s.fnl := (rfl)
@[simp] theorem State.degStop_nodes (s : State) : (s.degStop).nodes = s.nodes := (rfl)
@[simp] theorem State.degStop_csm (s : State) : (s.degStop).csm = s.csm := (rfl)
@[simp] theorem State.degStop_mea (s : State) : (s.degStop).mea = s.mea := (rfl)
@[simp] theorem State.degStop_est (s : State) : (s.degStop).est = s.est := (rfl)
@[simp] theorem State.degStop_prb (s : State) : (s.degStop).prb = s.prb := (rfl)
@[simp] theorem State.degStop_phm (s : State) : (s.degStop).phm = s.phm := (rfl)
@[simp] theorem State.degStop_ctl (s : State) : (s.degStop).ctl = { s.ctl with degTerm := false } := (rfl)
@[simp] theorem State.degStop_thm (s : State) : (s.degStop).thm = s.thm := (rfl)
@[simp] theorem State.degStop_sag (s : State) : (s.degStop).sag = { s.sag with degRun := false, degRunT := 0 } := (rfl)
@[simp] theorem State.degStop_prl (s : State) : (s.degStop).prl = s.prl := (rfl)
@[simp] theorem State.degStop_plk (s : State) : (s.degStop).plk = s.plk := (rfl)
@[simp] theorem State.degStop_lmp (s : State) : (s.degStop).lmp = s.lmp := (rfl)
@[simp] theorem State.degStop_mbx (s : State) : (s.degStop).mbx = s.mbx := (rfl)
@[simp] theorem State.degStop_dict (s : State) : (s.degStop).dict = s.dict := (rfl)
@[simp] theorem State.degStop_upd (s : State) : (s.degStop).upd = s.upd := (rfl)
@[simp] theorem State.degStop_log (s : State) : (s.degStop).log = s.log := (rfl)
@[simp] theorem State.degStop_spy (s : State) : (s.degStop).spy = s.spy := (rfl)
@[simp] theorem State.degStop_fresh (s : State) : (s.degStop).fresh = s.fresh := (rfl)
@[simp] theorem State.degStop_pending (s : State) : (s.degStop).pending = s.pending := (rfl)

@[simp] theorem State.trkIdle_pins (s : State) : (s.trkIdle).pins = s.pins := (rfl)
@[simp] theorem State.trkIdle_sys (s : State) : (s.trkIdle).sys = s.sys := (rfl)
@[simp] theorem State.trkIdle_fsq (s : State) : (s.trkIdle).fsq = s.fsq := (rfl)
@[simp] theorem State.trkIdle_fnl (s : State) : (s.trkIdle).fnl = s.fnl := (rfl)
@[simp] theorem State.trkIdle_nodes (s : State) : (s.trkIdle).nodes = s.nodes := (rfl)
@[simp] theorem State.trkIdle_csm (s : State) : (s.trkIdle).csm = s.csm := (rfl)
@[simp] theorem State.trkIdle_mea (s : State) : (s.trkIdle).mea = s.mea := (rfl)
@[simp] theorem State.trkIdle_est (s : State) : (s.trkIdle).est = s.est := (rfl)
@[simp] theorem State.trkIdle_prb (s : State) : (s.trkIdle).prb = s.prb := (rfl)
@[simp] theorem State.trkIdle_phm (s : State) : (s.trkIdle).phm = { s.phm with trk := .idle, co3Asked := false, co3Drop := false } := (rfl)
@[simp] theorem State.trkIdle_ctl (s : State) : (s.trkIdle).ctl = s.ctl := (rfl)
@[simp] theorem State.trkIdle_thm (s : State) : (s.trkIdle).thm = s.thm := (rfl)
@[simp] theorem State.trkIdle_sag (s : State) : (s.trkIdle).sag = s.sag := (rfl)
@[simp] theorem State.trkIdle_prl (s : State) : (s.trkIdle).prl = s.prl := (rfl)
@[simp] theorem State.trkIdle_plk (s : State) : (s.trkIdle).plk = s.plk := (rfl)
@[simp] theorem State.trkIdle_lmp (s : State) : (s.trkIdle).lmp = s.lmp := (rfl)
@[simp] theorem State.trkIdle_mbx (s : State) : (s.trkIdle).mbx = s.mbx := (rfl)
@[simp] theorem State.trkIdle_dict (s : State) : (s.trkIdle).dict = s.dict := (rfl)
@[simp] theorem State.trkIdle_upd (s : State) : (s.trkIdle).upd = s.upd := (rfl)
@[simp] theorem State.trkIdle_log (s : State) : (s.trkIdle).log = s.log := (rfl)
@[simp] theorem State.trkIdle_spy (s : State) : (s.trkIdle).spy = s.spy := (rfl)
@[simp] theorem State.trkIdle_fresh (s : State) : (s.trkIdle).fresh = s.fresh := (rfl)
@[simp] theorem State.trkIdle_pending (s : State) : (s.trkIdle).pending = s.pending := (rfl)

@[simp] theorem State.modPh_pins (s : State) (p : Nat) (f : Phase → Phase) : (s.modPh p f).pins = s.pins := (rfl)
@[simp] theorem State.modPh_sys (s : State) (p : Nat) (f : Phase → Phase) : (s.modPh p f).sys = s.sys := (rfl)
@[simp] theorem State.modPh_fsq (s : State) (p : Nat) (f : Phase → Phase) : (s.modPh p f).fsq = s.fsq := (rfl)
@[simp] theorem State.modPh_fnl (s : State) (p : Nat) (f : Phase → Phase) : (s.modPh p f).fnl = s.fnl := (rfl)
@[simp] theorem State.modPh_nodes (s : State) (p : Nat) (f : Phase → Phase) : (s.modPh p f).nodes = s.nodes := (rfl)
@[simp] theorem State.modPh_csm (s : State) (p : Nat) (f : Phase → Phase) : (s.modPh p f).csm = s.csm := (rfl)
@[simp] theorem State.modPh_mea (s : State) (p : Nat) (f : Phase → Phase) : (s.modPh p f).mea = s.mea := (rfl)
@[simp] theorem State.modPh_est (s : State) (p : Nat) (f : Phase → Phase) : (s.modPh p f).est = s.est := (rfl)
@[simp] theorem State.modPh_prb (s : State) (p : Nat) (f : Phase → Phase) : (s.modPh p f).prb = s.prb := (rfl)
@[simp] theorem State.modPh_phm (s : State) (p : Nat) (f : Phase → Phase) : (s.modPh p f).phm = { s.phm with ph := s.phm.ph.modify p f } := (rfl)
@[simp] theorem State.modPh_ctl (s : State) (p : Nat) (f : Phase → Phase) : (s.modPh p f).ctl = s.ctl := (rfl)
@[simp] theorem State.modPh_thm (s : State) (p : Nat) (f : Phase → Phase) : (s.modPh p f).thm = s.thm := (rfl)
@[simp] theorem State.modPh_sag (s : State) (p : Nat) (f : Phase → Phase) : (s.modPh p f).sag = s.sag := (rfl)
@[simp] theorem State.modPh_prl (s : State) (p : Nat) (f : Phase → Phase) : (s.modPh p f).prl = s.prl := (rfl)
@[simp] theorem State.modPh_plk (s : State) (p : Nat) (f : Phase → Phase) : (s.modPh p f).plk = s.plk := (rfl)
@[simp] theorem State.modPh_lmp (s : State) (p : Nat) (f : Phase → Phase) : (s.modPh p f).lmp = s.lmp := (rfl)
@[simp] theorem State.modPh_mbx (s : State) (p : Nat) (f : Phase → Phase) : (s.modPh p f).mbx = s.mbx := (rfl)
@[simp] theorem State.modPh_dict (s : State) (p : Nat) (f : Phase → Phase) : (s.modPh p f).dict = s.dict := (rfl)
@[simp] theorem State.modPh_upd (s : State) (p : Nat) (f : Phase → Phase) : (s.modPh p f).upd = s.upd := (rfl)
@[simp] theorem State.modPh_log (s : State) (p : Nat) (f : Phase → Phase) : (s.modPh p f).log = s.log := (rfl)
@[simp] theorem State.modPh_spy (s : State) (p : Nat) (f : Phase → Phase) : (s.modPh p f).spy = s.spy := (rfl)
@[simp] theorem State.modPh_fresh (s : State) (p : Nat) (f : Phase → Phase) : (s.modPh p f).fresh = s.fresh := (rfl)
@[simp] theorem State.modPh_pending (s : State) (p : Nat) (f : Phase → Phase) : (s.modPh p f).pending = s.pending := (rfl)

@[simp] theorem State.syncHostLim_pins (s : State) (k : Nat) : (s.syncHostLim k).pins = s.pins := (rfl)
@[simp] theorem State.syncHostLim_sys (s : State) (k : Nat) : (s.syncHostLim k).sys = s.sys := (rfl)
@[simp] theorem State.syncHostLim_fsq (s : State) (k : Nat) : (s.syncHostLim k).fsq = s.fsq := (rfl)
@[simp] theorem State.syncHostLim_fnl (s : State) (k : Nat) : (s.syncHostLim k).fnl = s.fnl := (rfl)
@[simp] theorem State.syncHostLim_nodes (s : State) (k : Nat) : (s.syncHostLim k).nodes = s.nodes := (rfl)
@[simp] theorem State.syncHostLim_csm (s : State) (k : Nat) : (s.syncHostLim k).csm = s.csm := (rfl)
@[simp] theorem State.syncHostLim_mea (s : State) (k : Nat) : (s.syncHostLim k).mea = s.mea := (rfl)
@[simp] theorem State.syncHostLim_est (s : State) (k : Nat) : (s.syncHostLim k).est = s.est := (rfl)
@[simp] theorem State.syncHostLim_prb (s : State) (k : Nat) : (s.syncHostLim k).prb = s.prb := (rfl)
@[simp] theorem State.syncHostLim_phm (s : State) (k : Nat) : (s.syncHostLim k).phm = s.phm := (rfl)
@[simp] theorem State.syncHostLim_ctl (s : State) (k : Nat) : (s.syncHostLim k).ctl = { s.ctl with hostLim := s.ctl.hostLim.set k (Tv.put (s.parN (P.ctlHostLimDis + k))) } := (rfl)
@[simp] theorem State.syncHostLim_thm (s : State) (k : Nat) : (s.syncHostLim k).thm = s.thm := (rfl)
@[simp] theorem State.syncHostLim_sag (s : State) (k : Nat) : (s.syncHostLim k).sag = s.sag := (rfl)
@[simp] theorem State.syncHostLim_prl (s : State) (k : Nat) : (s.syncHostLim k).prl = s.prl := (rfl)
@[simp] theorem State.syncHostLim_plk (s : State) (k : Nat) : (s.syncHostLim k).plk = s.plk := (rfl)
@[simp] theorem State.syncHostLim_lmp (s : State) (k : Nat) : (s.syncHostLim k).lmp = s.lmp := (rfl)
@[simp] theorem State.syncHostLim_mbx (s : State) (k : Nat) : (s.syncHostLim k).mbx = s.mbx := (rfl)
@[simp] theorem State.syncHostLim_dict (s : State) (k : Nat) : (s.syncHostLim k).dict = s.dict := (rfl)
@[simp] theorem State.syncHostLim_upd (s : State) (k : Nat) : (s.syncHostLim k).upd = s.upd := (rfl)
@[simp] theorem State.syncHostLim_log (s : State) (k : Nat) : (s.syncHostLim k).log = s.log := (rfl)
@[simp] theorem State.syncHostLim_spy (s : State) (k : Nat) : (s.syncHostLim k).spy = s.spy := (rfl)
@[simp] theorem State.syncHostLim_fresh (s : State) (k : Nat) : (s.syncHostLim k).fresh = s.fresh := (rfl)
@[simp] theorem State.syncHostLim_pending (s : State) (k : Nat) : (s.syncHostLim k).pending = s.pending := (rfl)

@[simp] theorem State.applyAt_pins (s : State) (b : Bound) : (s.applyAt b).pins = s.pins := (rfl)
@[simp] theorem State.applyAt_sys (s : State) (b : Bound) : (s.applyAt b).sys = s.sys := (rfl)
@[simp] theorem State.applyAt_fsq (s : State) (b : Bound) : (s.applyAt b).fsq = s.fsq := (rfl)
@[simp] theorem State.applyAt_fnl (s : State) (b : Bound) : (s.applyAt b).fnl = s.fnl := (rfl)
@[simp] theorem State.applyAt_nodes (s : State) (b : Bound) : (s.applyAt b).nodes = s.nodes := (rfl)
@[simp] theorem State.applyAt_csm (s : State) (b : Bound) : (s.applyAt b).csm = s.csm := (rfl)
@[simp] theorem State.applyAt_mea (s : State) (b : Bound) : (s.applyAt b).mea = s.mea := (rfl)
@[simp] theorem State.applyAt_est (s : State) (b : Bound) : (s.applyAt b).est = s.est := (rfl)
@[simp] theorem State.applyAt_prb (s : State) (b : Bound) : (s.applyAt b).prb = s.prb := (rfl)
@[simp] theorem State.applyAt_phm (s : State) (b : Bound) : (s.applyAt b).phm = s.phm := (rfl)
@[simp] theorem State.applyAt_ctl (s : State) (b : Bound) : (s.applyAt b).ctl = s.ctl := (rfl)
@[simp] theorem State.applyAt_thm (s : State) (b : Bound) : (s.applyAt b).thm = s.thm := (rfl)
@[simp] theorem State.applyAt_sag (s : State) (b : Bound) : (s.applyAt b).sag = s.sag := (rfl)
@[simp] theorem State.applyAt_prl (s : State) (b : Bound) : (s.applyAt b).prl = s.prl := (rfl)
@[simp] theorem State.applyAt_plk (s : State) (b : Bound) : (s.applyAt b).plk = s.plk := (rfl)
@[simp] theorem State.applyAt_lmp (s : State) (b : Bound) : (s.applyAt b).lmp = s.lmp := (rfl)
@[simp] theorem State.applyAt_mbx (s : State) (b : Bound) : (s.applyAt b).mbx = s.mbx := (rfl)
@[simp] theorem State.applyAt_dict (s : State) (b : Bound) : (s.applyAt b).dict = s.dict.apply (fun w => decide (w.at_ = b) && (!w.isCe || s.ctl.lets w)) := (rfl)
@[simp] theorem State.applyAt_upd (s : State) (b : Bound) : (s.applyAt b).upd = s.upd := (rfl)
@[simp] theorem State.applyAt_log (s : State) (b : Bound) : (s.applyAt b).log = s.log := (rfl)
@[simp] theorem State.applyAt_spy (s : State) (b : Bound) : (s.applyAt b).spy = s.spy := (rfl)
@[simp] theorem State.applyAt_fresh (s : State) (b : Bound) : (s.applyAt b).fresh = s.fresh := (rfl)
@[simp] theorem State.applyAt_pending (s : State) (b : Bound) : (s.applyAt b).pending = s.pending := (rfl)

@[simp] theorem State.ignore_pins (s : State) : (s.ignore).pins = s.pins := (rfl)
@[simp] theorem State.ignore_sys (s : State) : (s.ignore).sys = s.sys := (rfl)
@[simp] theorem State.ignore_fsq (s : State) : (s.ignore).fsq = s.fsq := (rfl)
@[simp] theorem State.ignore_fnl (s : State) : (s.ignore).fnl = s.fnl := (rfl)
@[simp] theorem State.ignore_nodes (s : State) : (s.ignore).nodes = s.nodes := (rfl)
@[simp] theorem State.ignore_csm (s : State) : (s.ignore).csm = s.csm := (rfl)
@[simp] theorem State.ignore_mea (s : State) : (s.ignore).mea = s.mea := (rfl)
@[simp] theorem State.ignore_est (s : State) : (s.ignore).est = s.est := (rfl)
@[simp] theorem State.ignore_prb (s : State) : (s.ignore).prb = s.prb := (rfl)
@[simp] theorem State.ignore_phm (s : State) : (s.ignore).phm = s.phm := (rfl)
@[simp] theorem State.ignore_ctl (s : State) : (s.ignore).ctl = { s.ctl with ignored := incSat 16 s.ctl.ignored } := (rfl)
@[simp] theorem State.ignore_thm (s : State) : (s.ignore).thm = s.thm := (rfl)
@[simp] theorem State.ignore_sag (s : State) : (s.ignore).sag = s.sag := (rfl)
@[simp] theorem State.ignore_prl (s : State) : (s.ignore).prl = s.prl := (rfl)
@[simp] theorem State.ignore_plk (s : State) : (s.ignore).plk = s.plk := (rfl)
@[simp] theorem State.ignore_lmp (s : State) : (s.ignore).lmp = s.lmp := (rfl)
@[simp] theorem State.ignore_mbx (s : State) : (s.ignore).mbx = s.mbx := (rfl)
@[simp] theorem State.ignore_dict (s : State) : (s.ignore).dict = s.dict := (rfl)
@[simp] theorem State.ignore_upd (s : State) : (s.ignore).upd = s.upd := (rfl)
@[simp] theorem State.ignore_log (s : State) : (s.ignore).log = s.log := (rfl)
@[simp] theorem State.ignore_spy (s : State) : (s.ignore).spy = s.spy := (rfl)
@[simp] theorem State.ignore_fresh (s : State) : (s.ignore).fresh = s.fresh := (rfl)
@[simp] theorem State.ignore_pending (s : State) : (s.ignore).pending = s.pending := (rfl)

@[simp] theorem State.modTone_pins (s : State) (k : Nat) (f : Tone → Tone) : (s.modTone k f).pins = s.pins := (rfl)
@[simp] theorem State.modTone_sys (s : State) (k : Nat) (f : Tone → Tone) : (s.modTone k f).sys = s.sys := (rfl)
@[simp] theorem State.modTone_fsq (s : State) (k : Nat) (f : Tone → Tone) : (s.modTone k f).fsq = s.fsq := (rfl)
@[simp] theorem State.modTone_fnl (s : State) (k : Nat) (f : Tone → Tone) : (s.modTone k f).fnl = s.fnl := (rfl)
@[simp] theorem State.modTone_nodes (s : State) (k : Nat) (f : Tone → Tone) : (s.modTone k f).nodes = s.nodes := (rfl)
@[simp] theorem State.modTone_csm (s : State) (k : Nat) (f : Tone → Tone) : (s.modTone k f).csm = s.csm := (rfl)
@[simp] theorem State.modTone_mea (s : State) (k : Nat) (f : Tone → Tone) : (s.modTone k f).mea = s.mea := (rfl)
@[simp] theorem State.modTone_est (s : State) (k : Nat) (f : Tone → Tone) : (s.modTone k f).est = s.est := (rfl)
@[simp] theorem State.modTone_prb (s : State) (k : Nat) (f : Tone → Tone) : (s.modTone k f).prb = { s.prb with tones := s.prb.tones.modify k f } := (rfl)
@[simp] theorem State.modTone_phm (s : State) (k : Nat) (f : Tone → Tone) : (s.modTone k f).phm = s.phm := (rfl)
@[simp] theorem State.modTone_ctl (s : State) (k : Nat) (f : Tone → Tone) : (s.modTone k f).ctl = s.ctl := (rfl)
@[simp] theorem State.modTone_thm (s : State) (k : Nat) (f : Tone → Tone) : (s.modTone k f).thm = s.thm := (rfl)
@[simp] theorem State.modTone_sag (s : State) (k : Nat) (f : Tone → Tone) : (s.modTone k f).sag = s.sag := (rfl)
@[simp] theorem State.modTone_prl (s : State) (k : Nat) (f : Tone → Tone) : (s.modTone k f).prl = s.prl := (rfl)
@[simp] theorem State.modTone_plk (s : State) (k : Nat) (f : Tone → Tone) : (s.modTone k f).plk = s.plk := (rfl)
@[simp] theorem State.modTone_lmp (s : State) (k : Nat) (f : Tone → Tone) : (s.modTone k f).lmp = s.lmp := (rfl)
@[simp] theorem State.modTone_mbx (s : State) (k : Nat) (f : Tone → Tone) : (s.modTone k f).mbx = s.mbx := (rfl)
@[simp] theorem State.modTone_dict (s : State) (k : Nat) (f : Tone → Tone) : (s.modTone k f).dict = s.dict := (rfl)
@[simp] theorem State.modTone_upd (s : State) (k : Nat) (f : Tone → Tone) : (s.modTone k f).upd = s.upd := (rfl)
@[simp] theorem State.modTone_log (s : State) (k : Nat) (f : Tone → Tone) : (s.modTone k f).log = s.log := (rfl)
@[simp] theorem State.modTone_spy (s : State) (k : Nat) (f : Tone → Tone) : (s.modTone k f).spy = s.spy := (rfl)
@[simp] theorem State.modTone_fresh (s : State) (k : Nat) (f : Tone → Tone) : (s.modTone k f).fresh = s.fresh := (rfl)
@[simp] theorem State.modTone_pending (s : State) (k : Nat) (f : Tone → Tone) : (s.modTone k f).pending = s.pending := (rfl)

@[simp] theorem State.modRec_pins (s : State) (g : Nat) (f : GroupRec → GroupRec) : (s.modRec g f).pins = s.pins := (rfl)
@[simp] theorem State.modRec_sys (s : State) (g : Nat) (f : GroupRec → GroupRec) : (s.modRec g f).sys = s.sys := (rfl)
@[simp] theorem State.modRec_fsq (s : State) (g : Nat) (f : GroupRec → GroupRec) : (s.modRec g f).fsq = s.fsq := (rfl)
@[simp] theorem State.modRec_fnl (s : State) (g : Nat) (f : GroupRec → GroupRec) : (s.modRec g f).fnl = s.fnl := (rfl)
@[simp] theorem State.modRec_nodes (s : State) (g : Nat) (f : GroupRec → GroupRec) : (s.modRec g f).nodes = s.nodes := (rfl)
@[simp] theorem State.modRec_csm (s : State) (g : Nat) (f : GroupRec → GroupRec) : (s.modRec g f).csm = { s.csm with recs := s.csm.recs.modify g f } := (rfl)
@[simp] theorem State.modRec_mea (s : State) (g : Nat) (f : GroupRec → GroupRec) : (s.modRec g f).mea = s.mea := (rfl)
@[simp] theorem State.modRec_est (s : State) (g : Nat) (f : GroupRec → GroupRec) : (s.modRec g f).est = s.est := (rfl)
@[simp] theorem State.modRec_prb (s : State) (g : Nat) (f : GroupRec → GroupRec) : (s.modRec g f).prb = s.prb := (rfl)
@[simp] theorem State.modRec_phm (s : State) (g : Nat) (f : GroupRec → GroupRec) : (s.modRec g f).phm = s.phm := (rfl)
@[simp] theorem State.modRec_ctl (s : State) (g : Nat) (f : GroupRec → GroupRec) : (s.modRec g f).ctl = s.ctl := (rfl)
@[simp] theorem State.modRec_thm (s : State) (g : Nat) (f : GroupRec → GroupRec) : (s.modRec g f).thm = s.thm := (rfl)
@[simp] theorem State.modRec_sag (s : State) (g : Nat) (f : GroupRec → GroupRec) : (s.modRec g f).sag = s.sag := (rfl)
@[simp] theorem State.modRec_prl (s : State) (g : Nat) (f : GroupRec → GroupRec) : (s.modRec g f).prl = s.prl := (rfl)
@[simp] theorem State.modRec_plk (s : State) (g : Nat) (f : GroupRec → GroupRec) : (s.modRec g f).plk = s.plk := (rfl)
@[simp] theorem State.modRec_lmp (s : State) (g : Nat) (f : GroupRec → GroupRec) : (s.modRec g f).lmp = s.lmp := (rfl)
@[simp] theorem State.modRec_mbx (s : State) (g : Nat) (f : GroupRec → GroupRec) : (s.modRec g f).mbx = s.mbx := (rfl)
@[simp] theorem State.modRec_dict (s : State) (g : Nat) (f : GroupRec → GroupRec) : (s.modRec g f).dict = s.dict := (rfl)
@[simp] theorem State.modRec_upd (s : State) (g : Nat) (f : GroupRec → GroupRec) : (s.modRec g f).upd = s.upd := (rfl)
@[simp] theorem State.modRec_log (s : State) (g : Nat) (f : GroupRec → GroupRec) : (s.modRec g f).log = s.log := (rfl)
@[simp] theorem State.modRec_spy (s : State) (g : Nat) (f : GroupRec → GroupRec) : (s.modRec g f).spy = s.spy := (rfl)
@[simp] theorem State.modRec_fresh (s : State) (g : Nat) (f : GroupRec → GroupRec) : (s.modRec g f).fresh = s.fresh := (rfl)
@[simp] theorem State.modRec_pending (s : State) (g : Nat) (f : GroupRec → GroupRec) : (s.modRec g f).pending = s.pending := (rfl)

@[simp] theorem State.modGa_pins (s : State) (g : Nat) (f : GroupAux → GroupAux) : (s.modGa g f).pins = s.pins := (rfl)
@[simp] theorem State.modGa_sys (s : State) (g : Nat) (f : GroupAux → GroupAux) : (s.modGa g f).sys = s.sys := (rfl)
@[simp] theorem State.modGa_fsq (s : State) (g : Nat) (f : GroupAux → GroupAux) : (s.modGa g f).fsq = s.fsq := (rfl)
@[simp] theorem State.modGa_fnl (s : State) (g : Nat) (f : GroupAux → GroupAux) : (s.modGa g f).fnl = s.fnl := (rfl)
@[simp] theorem State.modGa_nodes (s : State) (g : Nat) (f : GroupAux → GroupAux) : (s.modGa g f).nodes = s.nodes := (rfl)
@[simp] theorem State.modGa_csm (s : State) (g : Nat) (f : GroupAux → GroupAux) : (s.modGa g f).csm = s.csm := (rfl)
@[simp] theorem State.modGa_mea (s : State) (g : Nat) (f : GroupAux → GroupAux) : (s.modGa g f).mea = s.mea := (rfl)
@[simp] theorem State.modGa_est (s : State) (g : Nat) (f : GroupAux → GroupAux) : (s.modGa g f).est = { s.est with aux := s.est.aux.modify g f } := (rfl)
@[simp] theorem State.modGa_prb (s : State) (g : Nat) (f : GroupAux → GroupAux) : (s.modGa g f).prb = s.prb := (rfl)
@[simp] theorem State.modGa_phm (s : State) (g : Nat) (f : GroupAux → GroupAux) : (s.modGa g f).phm = s.phm := (rfl)
@[simp] theorem State.modGa_ctl (s : State) (g : Nat) (f : GroupAux → GroupAux) : (s.modGa g f).ctl = s.ctl := (rfl)
@[simp] theorem State.modGa_thm (s : State) (g : Nat) (f : GroupAux → GroupAux) : (s.modGa g f).thm = s.thm := (rfl)
@[simp] theorem State.modGa_sag (s : State) (g : Nat) (f : GroupAux → GroupAux) : (s.modGa g f).sag = s.sag := (rfl)
@[simp] theorem State.modGa_prl (s : State) (g : Nat) (f : GroupAux → GroupAux) : (s.modGa g f).prl = s.prl := (rfl)
@[simp] theorem State.modGa_plk (s : State) (g : Nat) (f : GroupAux → GroupAux) : (s.modGa g f).plk = s.plk := (rfl)
@[simp] theorem State.modGa_lmp (s : State) (g : Nat) (f : GroupAux → GroupAux) : (s.modGa g f).lmp = s.lmp := (rfl)
@[simp] theorem State.modGa_mbx (s : State) (g : Nat) (f : GroupAux → GroupAux) : (s.modGa g f).mbx = s.mbx := (rfl)
@[simp] theorem State.modGa_dict (s : State) (g : Nat) (f : GroupAux → GroupAux) : (s.modGa g f).dict = s.dict := (rfl)
@[simp] theorem State.modGa_upd (s : State) (g : Nat) (f : GroupAux → GroupAux) : (s.modGa g f).upd = s.upd := (rfl)
@[simp] theorem State.modGa_log (s : State) (g : Nat) (f : GroupAux → GroupAux) : (s.modGa g f).log = s.log := (rfl)
@[simp] theorem State.modGa_spy (s : State) (g : Nat) (f : GroupAux → GroupAux) : (s.modGa g f).spy = s.spy := (rfl)
@[simp] theorem State.modGa_fresh (s : State) (g : Nat) (f : GroupAux → GroupAux) : (s.modGa g f).fresh = s.fresh := (rfl)
@[simp] theorem State.modGa_pending (s : State) (g : Nat) (f : GroupAux → GroupAux) : (s.modGa g f).pending = s.pending := (rfl)

@[simp] theorem State.modMn_pins (s : State) (n : Nat) (f : MNode → MNode) : (s.modMn n f).pins = s.pins := (rfl)
@[simp] theorem State.modMn_sys (s : State) (n : Nat) (f : MNode → MNode) : (s.modMn n f).sys = s.sys := (rfl)
@[simp] theorem State.modMn_fsq (s : State) (n : Nat) (f : MNode → MNode) : (s.modMn n f).fsq = s.fsq := (rfl)
@[simp] theorem State.modMn_fnl (s : State) (n : Nat) (f : MNode → MNode) : (s.modMn n f).fnl = s.fnl := (rfl)
@[simp] theorem State.modMn_nodes (s : State) (n : Nat) (f : MNode → MNode) : (s.modMn n f).nodes = s.nodes := (rfl)
@[simp] theorem State.modMn_csm (s : State) (n : Nat) (f : MNode → MNode) : (s.modMn n f).csm = s.csm := (rfl)
@[simp] theorem State.modMn_mea (s : State) (n : Nat) (f : MNode → MNode) : (s.modMn n f).mea = { s.mea with nodes := s.mea.nodes.modify n f } := (rfl)
@[simp] theorem State.modMn_est (s : State) (n : Nat) (f : MNode → MNode) : (s.modMn n f).est = s.est := (rfl)
@[simp] theorem State.modMn_prb (s : State) (n : Nat) (f : MNode → MNode) : (s.modMn n f).prb = s.prb := (rfl)
@[simp] theorem State.modMn_phm (s : State) (n : Nat) (f : MNode → MNode) : (s.modMn n f).phm = s.phm := (rfl)
@[simp] theorem State.modMn_ctl (s : State) (n : Nat) (f : MNode → MNode) : (s.modMn n f).ctl = s.ctl := (rfl)
@[simp] theorem State.modMn_thm (s : State) (n : Nat) (f : MNode → MNode) : (s.modMn n f).thm = s.thm := (rfl)
@[simp] theorem State.modMn_sag (s : State) (n : Nat) (f : MNode → MNode) : (s.modMn n f).sag = s.sag := (rfl)
@[simp] theorem State.modMn_prl (s : State) (n : Nat) (f : MNode → MNode) : (s.modMn n f).prl = s.prl := (rfl)
@[simp] theorem State.modMn_plk (s : State) (n : Nat) (f : MNode → MNode) : (s.modMn n f).plk = s.plk := (rfl)
@[simp] theorem State.modMn_lmp (s : State) (n : Nat) (f : MNode → MNode) : (s.modMn n f).lmp = s.lmp := (rfl)
@[simp] theorem State.modMn_mbx (s : State) (n : Nat) (f : MNode → MNode) : (s.modMn n f).mbx = s.mbx := (rfl)
@[simp] theorem State.modMn_dict (s : State) (n : Nat) (f : MNode → MNode) : (s.modMn n f).dict = s.dict := (rfl)
@[simp] theorem State.modMn_upd (s : State) (n : Nat) (f : MNode → MNode) : (s.modMn n f).upd = s.upd := (rfl)
@[simp] theorem State.modMn_log (s : State) (n : Nat) (f : MNode → MNode) : (s.modMn n f).log = s.log := (rfl)
@[simp] theorem State.modMn_spy (s : State) (n : Nat) (f : MNode → MNode) : (s.modMn n f).spy = s.spy := (rfl)
@[simp] theorem State.modMn_fresh (s : State) (n : Nat) (f : MNode → MNode) : (s.modMn n f).fresh = s.fresh := (rfl)
@[simp] theorem State.modMn_pending (s : State) (n : Nat) (f : MNode → MNode) : (s.modMn n f).pending = s.pending := (rfl)

@[simp] theorem State.modNl_pins (s : State) (n : Nat) (f : NLink → NLink) : (s.modNl n f).pins = s.pins := (rfl)
@[simp] theorem State.modNl_sys (s : State) (n : Nat) (f : NLink → NLink) : (s.modNl n f).sys = s.sys := (rfl)
@[simp] theorem State.modNl_fsq (s : State) (n : Nat) (f : NLink → NLink) : (s.modNl n f).fsq = s.fsq := (rfl)
@[simp] theorem State.modNl_fnl (s : State) (n : Nat) (f : NLink → NLink) : (s.modNl n f).fnl = { s.fnl with links := s.fnl.links.modify n f } := (rfl)
@[simp] theorem State.modNl_nodes (s : State) (n : Nat) (f : NLink → NLink) : (s.modNl n f).nodes = s.nodes := (rfl)
@[simp] theorem State.modNl_csm (s : State) (n : Nat) (f : NLink → NLink) : (s.modNl n f).csm = s.csm := (rfl)
@[simp] theorem State.modNl_mea (s : State) (n : Nat) (f : NLink → NLink) : (s.modNl n f).mea = s.mea := (rfl)
@[simp] theorem State.modNl_est (s : State) (n : Nat) (f : NLink → NLink) : (s.modNl n f).est = s.est := (rfl)
@[simp] theorem State.modNl_prb (s : State) (n : Nat) (f : NLink → NLink) : (s.modNl n f).prb = s.prb := (rfl)
@[simp] theorem State.modNl_phm (s : State) (n : Nat) (f : NLink → NLink) : (s.modNl n f).phm = s.phm := (rfl)
@[simp] theorem State.modNl_ctl (s : State) (n : Nat) (f : NLink → NLink) : (s.modNl n f).ctl = s.ctl := (rfl)
@[simp] theorem State.modNl_thm (s : State) (n : Nat) (f : NLink → NLink) : (s.modNl n f).thm = s.thm := (rfl)
@[simp] theorem State.modNl_sag (s : State) (n : Nat) (f : NLink → NLink) : (s.modNl n f).sag = s.sag := (rfl)
@[simp] theorem State.modNl_prl (s : State) (n : Nat) (f : NLink → NLink) : (s.modNl n f).prl = s.prl := (rfl)
@[simp] theorem State.modNl_plk (s : State) (n : Nat) (f : NLink → NLink) : (s.modNl n f).plk = s.plk := (rfl)
@[simp] theorem State.modNl_lmp (s : State) (n : Nat) (f : NLink → NLink) : (s.modNl n f).lmp = s.lmp := (rfl)
@[simp] theorem State.modNl_mbx (s : State) (n : Nat) (f : NLink → NLink) : (s.modNl n f).mbx = s.mbx := (rfl)
@[simp] theorem State.modNl_dict (s : State) (n : Nat) (f : NLink → NLink) : (s.modNl n f).dict = s.dict := (rfl)
@[simp] theorem State.modNl_upd (s : State) (n : Nat) (f : NLink → NLink) : (s.modNl n f).upd = s.upd := (rfl)
@[simp] theorem State.modNl_log (s : State) (n : Nat) (f : NLink → NLink) : (s.modNl n f).log = s.log := (rfl)
@[simp] theorem State.modNl_spy (s : State) (n : Nat) (f : NLink → NLink) : (s.modNl n f).spy = s.spy := (rfl)
@[simp] theorem State.modNl_fresh (s : State) (n : Nat) (f : NLink → NLink) : (s.modNl n f).fresh = s.fresh := (rfl)
@[simp] theorem State.modNl_pending (s : State) (n : Nat) (f : NLink → NLink) : (s.modNl n f).pending = s.pending := (rfl)

@[simp] theorem State.modUnit_pins (s : State) (u : Nat) (f : RUnit → RUnit) : (s.modUnit u f).pins = s.pins := (rfl)
@[simp] theorem State.modUnit_sys (s : State) (u : Nat) (f : RUnit → RUnit) : (s.modUnit u f).sys = s.sys := (rfl)
@[simp] theorem State.modUnit_fsq (s : State) (u : Nat) (f : RUnit → RUnit) : (s.modUnit u f).fsq = s.fsq := (rfl)
@[simp] theorem State.modUnit_fnl (s : State) (u : Nat) (f : RUnit → RUnit) : (s.modUnit u f).fnl = { s.fnl with units := s.fnl.units.modify u f } := (rfl)
@[simp] theorem State.modUnit_nodes (s : State) (u : Nat) (f : RUnit → RUnit) : (s.modUnit u f).nodes = s.nodes := (rfl)
@[simp] theorem State.modUnit_csm (s : State) (u : Nat) (f : RUnit → RUnit) : (s.modUnit u f).csm = s.csm := (rfl)
@[simp] theorem State.modUnit_mea (s : State) (u : Nat) (f : RUnit → RUnit) : (s.modUnit u f).mea = s.mea := (rfl)
@[simp] theorem State.modUnit_est (s : State) (u : Nat) (f : RUnit → RUnit) : (s.modUnit u f).est = s.est := (rfl)
@[simp] theorem State.modUnit_prb (s : State) (u : Nat) (f : RUnit → RUnit) : (s.modUnit u f).prb = s.prb := (rfl)
@[simp] theorem State.modUnit_phm (s : State) (u : Nat) (f : RUnit → RUnit) : (s.modUnit u f).phm = s.phm := (rfl)
@[simp] theorem State.modUnit_ctl (s : State) (u : Nat) (f : RUnit → RUnit) : (s.modUnit u f).ctl = s.ctl := (rfl)
@[simp] theorem State.modUnit_thm (s : State) (u : Nat) (f : RUnit → RUnit) : (s.modUnit u f).thm = s.thm := (rfl)
@[simp] theorem State.modUnit_sag (s : State) (u : Nat) (f : RUnit → RUnit) : (s.modUnit u f).sag = s.sag := (rfl)
@[simp] theorem State.modUnit_prl (s : State) (u : Nat) (f : RUnit → RUnit) : (s.modUnit u f).prl = s.prl := (rfl)
@[simp] theorem State.modUnit_plk (s : State) (u : Nat) (f : RUnit → RUnit) : (s.modUnit u f).plk = s.plk := (rfl)
@[simp] theorem State.modUnit_lmp (s : State) (u : Nat) (f : RUnit → RUnit) : (s.modUnit u f).lmp = s.lmp := (rfl)
@[simp] theorem State.modUnit_mbx (s : State) (u : Nat) (f : RUnit → RUnit) : (s.modUnit u f).mbx = s.mbx := (rfl)
@[simp] theorem State.modUnit_dict (s : State) (u : Nat) (f : RUnit → RUnit) : (s.modUnit u f).dict = s.dict := (rfl)
@[simp] theorem State.modUnit_upd (s : State) (u : Nat) (f : RUnit → RUnit) : (s.modUnit u f).upd = s.upd := (rfl)
@[simp] theorem State.modUnit_log (s : State) (u : Nat) (f : RUnit → RUnit) : (s.modUnit u f).log = s.log := (rfl)
@[simp] theorem State.modUnit_spy (s : State) (u : Nat) (f : RUnit → RUnit) : (s.modUnit u f).spy = s.spy := (rfl)
@[simp] theorem State.modUnit_fresh (s : State) (u : Nat) (f : RUnit → RUnit) : (s.modUnit u f).fresh = s.fresh := (rfl)
@[simp] theorem State.modUnit_pending (s : State) (u : Nat) (f : RUnit → RUnit) : (s.modUnit u f).pending = s.pending := (rfl)

@[simp] theorem State.modDn_pins (s : State) (n : Nat) (f : Dn8 → Dn8) : (s.modDn n f).pins = s.pins := (rfl)
@[simp] theorem State.modDn_sys (s : State) (n : Nat) (f : Dn8 → Dn8) : (s.modDn n f).sys = s.sys := (rfl)
@[simp] theorem State.modDn_fsq (s : State) (n : Nat) (f : Dn8 → Dn8) : (s.modDn n f).fsq = s.fsq := (rfl)
@[simp] theorem State.modDn_fnl (s : State) (n : Nat) (f : Dn8 → Dn8) : (s.modDn n f).fnl = s.fnl := (rfl)
@[simp] theorem State.modDn_nodes (s : State) (n : Nat) (f : Dn8 → Dn8) : (s.modDn n f).nodes = s.nodes.modify n f := (rfl)
@[simp] theorem State.modDn_csm (s : State) (n : Nat) (f : Dn8 → Dn8) : (s.modDn n f).csm = s.csm := (rfl)
@[simp] theorem State.modDn_mea (s : State) (n : Nat) (f : Dn8 → Dn8) : (s.modDn n f).mea = s.mea := (rfl)
@[simp] theorem State.modDn_est (s : State) (n : Nat) (f : Dn8 → Dn8) : (s.modDn n f).est = s.est := (rfl)
@[simp] theorem State.modDn_prb (s : State) (n : Nat) (f : Dn8 → Dn8) : (s.modDn n f).prb = s.prb := (rfl)
@[simp] theorem State.modDn_phm (s : State) (n : Nat) (f : Dn8 → Dn8) : (s.modDn n f).phm = s.phm := (rfl)
@[simp] theorem State.modDn_ctl (s : State) (n : Nat) (f : Dn8 → Dn8) : (s.modDn n f).ctl = s.ctl := (rfl)
@[simp] theorem State.modDn_thm (s : State) (n : Nat) (f : Dn8 → Dn8) : (s.modDn n f).thm = s.thm := (rfl)
@[simp] theorem State.modDn_sag (s : State) (n : Nat) (f : Dn8 → Dn8) : (s.modDn n f).sag = s.sag := (rfl)
@[simp] theorem State.modDn_prl (s : State) (n : Nat) (f : Dn8 → Dn8) : (s.modDn n f).prl = s.prl := (rfl)
@[simp] theorem State.modDn_plk (s : State) (n : Nat) (f : Dn8 → Dn8) : (s.modDn n f).plk = s.plk := (rfl)
@[simp] theorem State.modDn_lmp (s : State) (n : Nat) (f : Dn8 → Dn8) : (s.modDn n f).lmp = s.lmp := (rfl)
@[simp] theorem State.modDn_mbx (s : State) (n : Nat) (f : Dn8 → Dn8) : (s.modDn n f).mbx = s.mbx := (rfl)
@[simp] theorem State.modDn_dict (s : State) (n : Nat) (f : Dn8 → Dn8) : (s.modDn n f).dict = s.dict := (rfl)
@[simp] theorem State.modDn_upd (s : State) (n : Nat) (f : Dn8 → Dn8) : (s.modDn n f).upd = s.upd := (rfl)
@[simp] theorem State.modDn_log (s : State) (n : Nat) (f : Dn8 → Dn8) : (s.modDn n f).log = s.log := (rfl)
@[simp] theorem State.modDn_spy (s : State) (n : Nat) (f : Dn8 → Dn8) : (s.modDn n f).spy = s.spy := (rfl)
@[simp] theorem State.modDn_fresh (s : State) (n : Nat) (f : Dn8 → Dn8) : (s.modDn n f).fresh = s.fresh := (rfl)
@[simp] theorem State.modDn_pending (s : State) (n : Nat) (f : Dn8 → Dn8) : (s.modDn n f).pending = s.pending := (rfl)

@[simp] theorem State.capOpen_pins (s : State) : (s.capOpen).pins = s.pins := (rfl)
@[simp] theorem State.capOpen_sys (s : State) : (s.capOpen).sys = s.sys := (rfl)
@[simp] theorem State.capOpen_fsq (s : State) : (s.capOpen).fsq = s.fsq := (rfl)
@[simp] theorem State.capOpen_fnl (s : State) : (s.capOpen).fnl = s.fnl := (rfl)
@[simp] theorem State.capOpen_nodes (s : State) : (s.capOpen).nodes = s.nodes := (rfl)
@[simp] theorem State.capOpen_csm (s : State) : (s.capOpen).csm = s.csm := (rfl)
@[simp] theorem State.capOpen_mea (s : State) : (s.capOpen).mea = s.mea := (rfl)
@[simp] theorem State.capOpen_est (s : State) : (s.capOpen).est = { s.est with capBusy := true, slots := s.est.slots.modify (commitTarget s.est.slots).1 (fun x => { x with valid := false }) } := (rfl)
@[simp] theorem State.capOpen_prb (s : State) : (s.capOpen).prb = s.prb := (rfl)
@[simp] theorem State.capOpen_phm (s : State) : (s.capOpen).phm = s.phm := (rfl)
@[simp] theorem State.capOpen_ctl (s : State) : (s.capOpen).ctl = s.ctl := (rfl)
@[simp] theorem State.capOpen_thm (s : State) : (s.capOpen).thm = s.thm := (rfl)
@[simp] theorem State.capOpen_sag (s : State) : (s.capOpen).sag = s.sag := (rfl)
@[simp] theorem State.capOpen_prl (s : State) : (s.capOpen).prl = s.prl := (rfl)
@[simp] theorem State.capOpen_plk (s : State) : (s.capOpen).plk = s.plk := (rfl)
@[simp] theorem State.capOpen_lmp (s : State) : (s.capOpen).lmp = s.lmp := (rfl)
@[simp] theorem State.capOpen_mbx (s : State) : (s.capOpen).mbx = s.mbx := (rfl)
@[simp] theorem State.capOpen_dict (s : State) : (s.capOpen).dict = s.dict := (rfl)
@[simp] theorem State.capOpen_upd (s : State) : (s.capOpen).upd = s.upd := (rfl)
@[simp] theorem State.capOpen_log (s : State) : (s.capOpen).log = s.log := (rfl)
@[simp] theorem State.capOpen_spy (s : State) : (s.capOpen).spy = s.spy := (rfl)
@[simp] theorem State.capOpen_fresh (s : State) : (s.capOpen).fresh = s.fresh := (rfl)
@[simp] theorem State.capOpen_pending (s : State) : (s.capOpen).pending = s.pending := (rfl)

@[simp] theorem State.setSeq_pins (s : State) (chg : Bool) (d : Derate) : (s.setSeq chg d).pins = s.pins := (rfl)
@[simp] theorem State.setSeq_sys (s : State) (chg : Bool) (d : Derate) : (s.setSeq chg d).sys = s.sys := (rfl)
@[simp] theorem State.setSeq_fsq (s : State) (chg : Bool) (d : Derate) : (s.setSeq chg d).fsq = s.fsq := (rfl)
@[simp] theorem State.setSeq_fnl (s : State) (chg : Bool) (d : Derate) : (s.setSeq chg d).fnl = s.fnl := (rfl)
@[simp] theorem State.setSeq_nodes (s : State) (chg : Bool) (d : Derate) : (s.setSeq chg d).nodes = s.nodes := (rfl)
@[simp] theorem State.setSeq_csm (s : State) (chg : Bool) (d : Derate) : (s.setSeq chg d).csm = s.csm := (rfl)
@[simp] theorem State.setSeq_mea (s : State) (chg : Bool) (d : Derate) : (s.setSeq chg d).mea = s.mea := (rfl)
@[simp] theorem State.setSeq_est (s : State) (chg : Bool) (d : Derate) : (s.setSeq chg d).est = s.est := (rfl)
@[simp] theorem State.setSeq_prb (s : State) (chg : Bool) (d : Derate) : (s.setSeq chg d).prb = s.prb := (rfl)
@[simp] theorem State.setSeq_phm (s : State) (chg : Bool) (d : Derate) : (s.setSeq chg d).phm = s.phm := (rfl)
@[simp] theorem State.setSeq_ctl (s : State) (chg : Bool) (d : Derate) : (s.setSeq chg d).ctl = s.ctl := (rfl)
@[simp] theorem State.setSeq_thm (s : State) (chg : Bool) (d : Derate) : (s.setSeq chg d).thm = if chg then { s.thm with chg := d } else { s.thm with dis := d } := (rfl)
@[simp] theorem State.setSeq_sag (s : State) (chg : Bool) (d : Derate) : (s.setSeq chg d).sag = s.sag := (rfl)
@[simp] theorem State.setSeq_prl (s : State) (chg : Bool) (d : Derate) : (s.setSeq chg d).prl = s.prl := (rfl)
@[simp] theorem State.setSeq_plk (s : State) (chg : Bool) (d : Derate) : (s.setSeq chg d).plk = s.plk := (rfl)
@[simp] theorem State.setSeq_lmp (s : State) (chg : Bool) (d : Derate) : (s.setSeq chg d).lmp = s.lmp := (rfl)
@[simp] theorem State.setSeq_mbx (s : State) (chg : Bool) (d : Derate) : (s.setSeq chg d).mbx = s.mbx := (rfl)
@[simp] theorem State.setSeq_dict (s : State) (chg : Bool) (d : Derate) : (s.setSeq chg d).dict = s.dict := (rfl)
@[simp] theorem State.setSeq_upd (s : State) (chg : Bool) (d : Derate) : (s.setSeq chg d).upd = s.upd := (rfl)
@[simp] theorem State.setSeq_log (s : State) (chg : Bool) (d : Derate) : (s.setSeq chg d).log = s.log := (rfl)
@[simp] theorem State.setSeq_spy (s : State) (chg : Bool) (d : Derate) : (s.setSeq chg d).spy = s.spy := (rfl)
@[simp] theorem State.setSeq_fresh (s : State) (chg : Bool) (d : Derate) : (s.setSeq chg d).fresh = s.fresh := (rfl)
@[simp] theorem State.setSeq_pending (s : State) (chg : Bool) (d : Derate) : (s.setSeq chg d).pending = s.pending := (rfl)

@[simp] theorem State.pduDrop_pins (s : State) (p : PortId) (k : Nat) : (s.pduDrop p k).pins = s.pins := (rfl)
@[simp] theorem State.pduDrop_sys (s : State) (p : PortId) (k : Nat) : (s.pduDrop p k).sys = s.sys := (rfl)
@[simp] theorem State.pduDrop_fsq (s : State) (p : PortId) (k : Nat) : (s.pduDrop p k).fsq = s.fsq := (rfl)
@[simp] theorem State.pduDrop_fnl (s : State) (p : PortId) (k : Nat) : (s.pduDrop p k).fnl = s.fnl := (rfl)
@[simp] theorem State.pduDrop_nodes (s : State) (p : PortId) (k : Nat) : (s.pduDrop p k).nodes = s.nodes := (rfl)
@[simp] theorem State.pduDrop_csm (s : State) (p : PortId) (k : Nat) : (s.pduDrop p k).csm = s.csm := (rfl)
@[simp] theorem State.pduDrop_mea (s : State) (p : PortId) (k : Nat) : (s.pduDrop p k).mea = s.mea := (rfl)
@[simp] theorem State.pduDrop_est (s : State) (p : PortId) (k : Nat) : (s.pduDrop p k).est = s.est := (rfl)
@[simp] theorem State.pduDrop_prb (s : State) (p : PortId) (k : Nat) : (s.pduDrop p k).prb = s.prb := (rfl)
@[simp] theorem State.pduDrop_phm (s : State) (p : PortId) (k : Nat) : (s.pduDrop p k).phm = s.phm := (rfl)
@[simp] theorem State.pduDrop_ctl (s : State) (p : PortId) (k : Nat) : (s.pduDrop p k).ctl = s.ctl := (rfl)
@[simp] theorem State.pduDrop_thm (s : State) (p : PortId) (k : Nat) : (s.pduDrop p k).thm = s.thm := (rfl)
@[simp] theorem State.pduDrop_sag (s : State) (p : PortId) (k : Nat) : (s.pduDrop p k).sag = { s.sag with err := s.sag.err.modify p.idx (·.count k) } := (rfl)
@[simp] theorem State.pduDrop_prl (s : State) (p : PortId) (k : Nat) : (s.pduDrop p k).prl = s.prl := (rfl)
@[simp] theorem State.pduDrop_plk (s : State) (p : PortId) (k : Nat) : (s.pduDrop p k).plk = s.plk := (rfl)
@[simp] theorem State.pduDrop_lmp (s : State) (p : PortId) (k : Nat) : (s.pduDrop p k).lmp = s.lmp := (rfl)
@[simp] theorem State.pduDrop_mbx (s : State) (p : PortId) (k : Nat) : (s.pduDrop p k).mbx = s.mbx := (rfl)
@[simp] theorem State.pduDrop_dict (s : State) (p : PortId) (k : Nat) : (s.pduDrop p k).dict = s.dict := (rfl)
@[simp] theorem State.pduDrop_upd (s : State) (p : PortId) (k : Nat) : (s.pduDrop p k).upd = s.upd := (rfl)
@[simp] theorem State.pduDrop_log (s : State) (p : PortId) (k : Nat) : (s.pduDrop p k).log = s.log := (rfl)
@[simp] theorem State.pduDrop_spy (s : State) (p : PortId) (k : Nat) : (s.pduDrop p k).spy = s.spy := (rfl)
@[simp] theorem State.pduDrop_fresh (s : State) (p : PortId) (k : Nat) : (s.pduDrop p k).fresh = s.fresh := (rfl)
@[simp] theorem State.pduDrop_pending (s : State) (p : PortId) (k : Nat) : (s.pduDrop p k).pending = s.pending := (rfl)

@[simp] theorem State.searchTick_pins (s : State) : (s.searchTick).pins = s.pins := (rfl)
@[simp] theorem State.searchTick_sys (s : State) : (s.searchTick).sys = s.sys := (rfl)
@[simp] theorem State.searchTick_fsq (s : State) : (s.searchTick).fsq = s.fsq := (rfl)
@[simp] theorem State.searchTick_fnl (s : State) : (s.searchTick).fnl = s.fnl := (rfl)
@[simp] theorem State.searchTick_nodes (s : State) : (s.searchTick).nodes = s.nodes.map Dn8.searchTick := (rfl)
@[simp] theorem State.searchTick_csm (s : State) : (s.searchTick).csm = s.csm := (rfl)
@[simp] theorem State.searchTick_mea (s : State) : (s.searchTick).mea = s.mea := (rfl)
@[simp] theorem State.searchTick_est (s : State) : (s.searchTick).est = s.est := (rfl)
@[simp] theorem State.searchTick_prb (s : State) : (s.searchTick).prb = s.prb := (rfl)
@[simp] theorem State.searchTick_phm (s : State) : (s.searchTick).phm = s.phm := (rfl)
@[simp] theorem State.searchTick_ctl (s : State) : (s.searchTick).ctl = s.ctl := (rfl)
@[simp] theorem State.searchTick_thm (s : State) : (s.searchTick).thm = s.thm := (rfl)
@[simp] theorem State.searchTick_sag (s : State) : (s.searchTick).sag = s.sag := (rfl)
@[simp] theorem State.searchTick_prl (s : State) : (s.searchTick).prl = s.prl := (rfl)
@[simp] theorem State.searchTick_plk (s : State) : (s.searchTick).plk = s.plk := (rfl)
@[simp] theorem State.searchTick_lmp (s : State) : (s.searchTick).lmp = s.lmp := (rfl)
@[simp] theorem State.searchTick_mbx (s : State) : (s.searchTick).mbx = s.mbx := (rfl)
@[simp] theorem State.searchTick_dict (s : State) : (s.searchTick).dict = s.dict := (rfl)
@[simp] theorem State.searchTick_upd (s : State) : (s.searchTick).upd = s.upd := (rfl)
@[simp] theorem State.searchTick_log (s : State) : (s.searchTick).log = s.log := (rfl)
@[simp] theorem State.searchTick_spy (s : State) : (s.searchTick).spy = s.spy := (rfl)
@[simp] theorem State.searchTick_fresh (s : State) : (s.searchTick).fresh = s.fresh := (rfl)
@[simp] theorem State.searchTick_pending (s : State) : (s.searchTick).pending = s.pending := (rfl)

@[simp] theorem State.modPtp_pins (s : State) (p : PortId) (f : PtpPort → PtpPort) : (s.modPtp p f).pins = s.pins := (rfl)
@[simp] theorem State.modPtp_sys (s : State) (p : PortId) (f : PtpPort → PtpPort) : (s.modPtp p f).sys = s.sys := (rfl)
@[simp] theorem State.modPtp_fsq (s : State) (p : PortId) (f : PtpPort → PtpPort) : (s.modPtp p f).fsq = s.fsq := (rfl)
@[simp] theorem State.modPtp_fnl (s : State) (p : PortId) (f : PtpPort → PtpPort) : (s.modPtp p f).fnl = s.fnl := (rfl)
@[simp] theorem State.modPtp_nodes (s : State) (p : PortId) (f : PtpPort → PtpPort) : (s.modPtp p f).nodes = s.nodes := (rfl)
@[simp] theorem State.modPtp_csm (s : State) (p : PortId) (f : PtpPort → PtpPort) : (s.modPtp p f).csm = s.csm := (rfl)
@[simp] theorem State.modPtp_mea (s : State) (p : PortId) (f : PtpPort → PtpPort) : (s.modPtp p f).mea = s.mea := (rfl)
@[simp] theorem State.modPtp_est (s : State) (p : PortId) (f : PtpPort → PtpPort) : (s.modPtp p f).est = s.est := (rfl)
@[simp] theorem State.modPtp_prb (s : State) (p : PortId) (f : PtpPort → PtpPort) : (s.modPtp p f).prb = s.prb := (rfl)
@[simp] theorem State.modPtp_phm (s : State) (p : PortId) (f : PtpPort → PtpPort) : (s.modPtp p f).phm = s.phm := (rfl)
@[simp] theorem State.modPtp_ctl (s : State) (p : PortId) (f : PtpPort → PtpPort) : (s.modPtp p f).ctl = s.ctl := (rfl)
@[simp] theorem State.modPtp_thm (s : State) (p : PortId) (f : PtpPort → PtpPort) : (s.modPtp p f).thm = s.thm := (rfl)
@[simp] theorem State.modPtp_sag (s : State) (p : PortId) (f : PtpPort → PtpPort) : (s.modPtp p f).sag = s.sag := (rfl)
@[simp] theorem State.modPtp_prl (s : State) (p : PortId) (f : PtpPort → PtpPort) : (s.modPtp p f).prl = s.prl := (rfl)
@[simp] theorem State.modPtp_plk (s : State) (p : PortId) (f : PtpPort → PtpPort) : (s.modPtp p f).plk = s.plk := (rfl)
@[simp] theorem State.modPtp_lmp (s : State) (p : PortId) (f : PtpPort → PtpPort) : (s.modPtp p f).lmp = { s.lmp with ports := s.lmp.ports.modify p.idx f } := (rfl)
@[simp] theorem State.modPtp_mbx (s : State) (p : PortId) (f : PtpPort → PtpPort) : (s.modPtp p f).mbx = s.mbx := (rfl)
@[simp] theorem State.modPtp_dict (s : State) (p : PortId) (f : PtpPort → PtpPort) : (s.modPtp p f).dict = s.dict := (rfl)
@[simp] theorem State.modPtp_upd (s : State) (p : PortId) (f : PtpPort → PtpPort) : (s.modPtp p f).upd = s.upd := (rfl)
@[simp] theorem State.modPtp_log (s : State) (p : PortId) (f : PtpPort → PtpPort) : (s.modPtp p f).log = s.log := (rfl)
@[simp] theorem State.modPtp_spy (s : State) (p : PortId) (f : PtpPort → PtpPort) : (s.modPtp p f).spy = s.spy := (rfl)
@[simp] theorem State.modPtp_fresh (s : State) (p : PortId) (f : PtpPort → PtpPort) : (s.modPtp p f).fresh = s.fresh := (rfl)
@[simp] theorem State.modPtp_pending (s : State) (p : PortId) (f : PtpPort → PtpPort) : (s.modPtp p f).pending = s.pending := (rfl)

@[simp] theorem State.modCh_pins (s : State) (c : Nat) (f : Chan → Chan) : (s.modCh c f).pins = s.pins := (rfl)
@[simp] theorem State.modCh_sys (s : State) (c : Nat) (f : Chan → Chan) : (s.modCh c f).sys = s.sys := (rfl)
@[simp] theorem State.modCh_fsq (s : State) (c : Nat) (f : Chan → Chan) : (s.modCh c f).fsq = s.fsq := (rfl)
@[simp] theorem State.modCh_fnl (s : State) (c : Nat) (f : Chan → Chan) : (s.modCh c f).fnl = s.fnl := (rfl)
@[simp] theorem State.modCh_nodes (s : State) (c : Nat) (f : Chan → Chan) : (s.modCh c f).nodes = s.nodes := (rfl)
@[simp] theorem State.modCh_csm (s : State) (c : Nat) (f : Chan → Chan) : (s.modCh c f).csm = s.csm := (rfl)
@[simp] theorem State.modCh_mea (s : State) (c : Nat) (f : Chan → Chan) : (s.modCh c f).mea = s.mea := (rfl)
@[simp] theorem State.modCh_est (s : State) (c : Nat) (f : Chan → Chan) : (s.modCh c f).est = s.est := (rfl)
@[simp] theorem State.modCh_prb (s : State) (c : Nat) (f : Chan → Chan) : (s.modCh c f).prb = s.prb := (rfl)
@[simp] theorem State.modCh_phm (s : State) (c : Nat) (f : Chan → Chan) : (s.modCh c f).phm = s.phm := (rfl)
@[simp] theorem State.modCh_ctl (s : State) (c : Nat) (f : Chan → Chan) : (s.modCh c f).ctl = s.ctl := (rfl)
@[simp] theorem State.modCh_thm (s : State) (c : Nat) (f : Chan → Chan) : (s.modCh c f).thm = s.thm := (rfl)
@[simp] theorem State.modCh_sag (s : State) (c : Nat) (f : Chan → Chan) : (s.modCh c f).sag = s.sag := (rfl)
@[simp] theorem State.modCh_prl (s : State) (c : Nat) (f : Chan → Chan) : (s.modCh c f).prl = s.prl := (rfl)
@[simp] theorem State.modCh_plk (s : State) (c : Nat) (f : Chan → Chan) : (s.modCh c f).plk = s.plk := (rfl)
@[simp] theorem State.modCh_lmp (s : State) (c : Nat) (f : Chan → Chan) : (s.modCh c f).lmp = s.lmp := (rfl)
@[simp] theorem State.modCh_mbx (s : State) (c : Nat) (f : Chan → Chan) : (s.modCh c f).mbx = { s.mbx with ch := s.mbx.ch.modify c f } := (rfl)
@[simp] theorem State.modCh_dict (s : State) (c : Nat) (f : Chan → Chan) : (s.modCh c f).dict = s.dict := (rfl)
@[simp] theorem State.modCh_upd (s : State) (c : Nat) (f : Chan → Chan) : (s.modCh c f).upd = s.upd := (rfl)
@[simp] theorem State.modCh_log (s : State) (c : Nat) (f : Chan → Chan) : (s.modCh c f).log = s.log := (rfl)
@[simp] theorem State.modCh_spy (s : State) (c : Nat) (f : Chan → Chan) : (s.modCh c f).spy = s.spy := (rfl)
@[simp] theorem State.modCh_fresh (s : State) (c : Nat) (f : Chan → Chan) : (s.modCh c f).fresh = s.fresh := (rfl)
@[simp] theorem State.modCh_pending (s : State) (c : Nat) (f : Chan → Chan) : (s.modCh c f).pending = s.pending := (rfl)

@[simp] theorem State.moved_pins (s : State) : (s.moved).pins = s.pins := (rfl)
@[simp] theorem State.moved_sys (s : State) : (s.moved).sys = { s.sys with cmdUsed := true } := (rfl)
@[simp] theorem State.moved_fsq (s : State) : (s.moved).fsq = s.fsq := (rfl)
@[simp] theorem State.moved_fnl (s : State) : (s.moved).fnl = s.fnl := (rfl)
@[simp] theorem State.moved_nodes (s : State) : (s.moved).nodes = s.nodes := (rfl)
@[simp] theorem State.moved_csm (s : State) : (s.moved).csm = s.csm := (rfl)
@[simp] theorem State.moved_mea (s : State) : (s.moved).mea = s.mea := (rfl)
@[simp] theorem State.moved_est (s : State) : (s.moved).est = s.est := (rfl)
@[simp] theorem State.moved_prb (s : State) : (s.moved).prb = s.prb := (rfl)
@[simp] theorem State.moved_phm (s : State) : (s.moved).phm = s.phm := (rfl)
@[simp] theorem State.moved_ctl (s : State) : (s.moved).ctl = s.ctl := (rfl)
@[simp] theorem State.moved_thm (s : State) : (s.moved).thm = s.thm := (rfl)
@[simp] theorem State.moved_sag (s : State) : (s.moved).sag = s.sag := (rfl)
@[simp] theorem State.moved_prl (s : State) : (s.moved).prl = s.prl := (rfl)
@[simp] theorem State.moved_plk (s : State) : (s.moved).plk = s.plk := (rfl)
@[simp] theorem State.moved_lmp (s : State) : (s.moved).lmp = s.lmp := (rfl)
@[simp] theorem State.moved_mbx (s : State) : (s.moved).mbx = s.mbx := (rfl)
@[simp] theorem State.moved_dict (s : State) : (s.moved).dict = s.dict := (rfl)
@[simp] theorem State.moved_upd (s : State) : (s.moved).upd = s.upd := (rfl)
@[simp] theorem State.moved_log (s : State) : (s.moved).log = s.log := (rfl)
@[simp] theorem State.moved_spy (s : State) : (s.moved).spy = s.spy := (rfl)
@[simp] theorem State.moved_fresh (s : State) : (s.moved).fresh = s.fresh := (rfl)
@[simp] theorem State.moved_pending (s : State) : (s.moved).pending = s.pending := (rfl)

@[simp] theorem State.dispDrop_pins (s : State) (p : PortId) (k : Nat) : (s.dispDrop p k).pins = s.pins := (rfl)
@[simp] theorem State.dispDrop_sys (s : State) (p : PortId) (k : Nat) : (s.dispDrop p k).sys = s.sys := (rfl)
@[simp] theorem State.dispDrop_fsq (s : State) (p : PortId) (k : Nat) : (s.dispDrop p k).fsq = s.fsq := (rfl)
@[simp] theorem State.dispDrop_fnl (s : State) (p : PortId) (k : Nat) : (s.dispDrop p k).fnl = s.fnl := (rfl)
@[simp] theorem State.dispDrop_nodes (s : State) (p : PortId) (k : Nat) : (s.dispDrop p k).nodes = s.nodes := (rfl)
@[simp] theorem State.dispDrop_csm (s : State) (p : PortId) (k : Nat) : (s.dispDrop p k).csm = s.csm := (rfl)
@[simp] theorem State.dispDrop_mea (s : State) (p : PortId) (k : Nat) : (s.dispDrop p k).mea = s.mea := (rfl)
@[simp] theorem State.dispDrop_est (s : State) (p : PortId) (k : Nat) : (s.dispDrop p k).est = s.est := (rfl)
@[simp] theorem State.dispDrop_prb (s : State) (p : PortId) (k : Nat) : (s.dispDrop p k).prb = s.prb := (rfl)
@[simp] theorem State.dispDrop_phm (s : State) (p : PortId) (k : Nat) : (s.dispDrop p k).phm = s.phm := (rfl)
@[simp] theorem State.dispDrop_ctl (s : State) (p : PortId) (k : Nat) : (s.dispDrop p k).ctl = s.ctl := (rfl)
@[simp] theorem State.dispDrop_thm (s : State) (p : PortId) (k : Nat) : (s.dispDrop p k).thm = s.thm := (rfl)
@[simp] theorem State.dispDrop_sag (s : State) (p : PortId) (k : Nat) : (s.dispDrop p k).sag = s.sag := (rfl)
@[simp] theorem State.dispDrop_prl (s : State) (p : PortId) (k : Nat) : (s.dispDrop p k).prl = s.prl := (rfl)
@[simp] theorem State.dispDrop_plk (s : State) (p : PortId) (k : Nat) : (s.dispDrop p k).plk = { s.plk with dispErr := s.plk.dispErr.modify p.idx (·.count k) } := (rfl)
@[simp] theorem State.dispDrop_lmp (s : State) (p : PortId) (k : Nat) : (s.dispDrop p k).lmp = s.lmp := (rfl)
@[simp] theorem State.dispDrop_mbx (s : State) (p : PortId) (k : Nat) : (s.dispDrop p k).mbx = s.mbx := (rfl)
@[simp] theorem State.dispDrop_dict (s : State) (p : PortId) (k : Nat) : (s.dispDrop p k).dict = s.dict := (rfl)
@[simp] theorem State.dispDrop_upd (s : State) (p : PortId) (k : Nat) : (s.dispDrop p k).upd = s.upd := (rfl)
@[simp] theorem State.dispDrop_log (s : State) (p : PortId) (k : Nat) : (s.dispDrop p k).log = s.log := (rfl)
@[simp] theorem State.dispDrop_spy (s : State) (p : PortId) (k : Nat) : (s.dispDrop p k).spy = s.spy := (rfl)
@[simp] theorem State.dispDrop_fresh (s : State) (p : PortId) (k : Nat) : (s.dispDrop p k).fresh = s.fresh := (rfl)
@[simp] theorem State.dispDrop_pending (s : State) (p : PortId) (k : Nat) : (s.dispDrop p k).pending = s.pending := (rfl)

@[simp] theorem State.forget_pins (s : State) (c : Nat) : (s.forget c).pins = s.pins := (rfl)
@[simp] theorem State.forget_sys (s : State) (c : Nat) : (s.forget c).sys = s.sys := (rfl)
@[simp] theorem State.forget_fsq (s : State) (c : Nat) : (s.forget c).fsq = s.fsq := (rfl)
@[simp] theorem State.forget_fnl (s : State) (c : Nat) : (s.forget c).fnl = { s.fnl with cmdQ := (s.fnl.cmdQ.filter (fun q => q.inFlight || q.chan != some c)).map (fun q => if q.chan = some c then { q with chan := none } else q) } := (rfl)
@[simp] theorem State.forget_nodes (s : State) (c : Nat) : (s.forget c).nodes = s.nodes := (rfl)
@[simp] theorem State.forget_csm (s : State) (c : Nat) : (s.forget c).csm = s.csm := (rfl)
@[simp] theorem State.forget_mea (s : State) (c : Nat) : (s.forget c).mea = s.mea := (rfl)
@[simp] theorem State.forget_est (s : State) (c : Nat) : (s.forget c).est = s.est := (rfl)
@[simp] theorem State.forget_prb (s : State) (c : Nat) : (s.forget c).prb = s.prb := (rfl)
@[simp] theorem State.forget_phm (s : State) (c : Nat) : (s.forget c).phm = s.phm := (rfl)
@[simp] theorem State.forget_ctl (s : State) (c : Nat) : (s.forget c).ctl = s.ctl := (rfl)
@[simp] theorem State.forget_thm (s : State) (c : Nat) : (s.forget c).thm = s.thm := (rfl)
@[simp] theorem State.forget_sag (s : State) (c : Nat) : (s.forget c).sag = s.sag := (rfl)
@[simp] theorem State.forget_prl (s : State) (c : Nat) : (s.forget c).prl = { s.prl with swapChan := if s.prl.swapChan = some c then none else s.prl.swapChan } := (rfl)
@[simp] theorem State.forget_plk (s : State) (c : Nat) : (s.forget c).plk = s.plk := (rfl)
@[simp] theorem State.forget_lmp (s : State) (c : Nat) : (s.forget c).lmp = s.lmp := (rfl)
@[simp] theorem State.forget_mbx (s : State) (c : Nat) : (s.forget c).mbx = s.mbx := (rfl)
@[simp] theorem State.forget_dict (s : State) (c : Nat) : (s.forget c).dict = s.dict := (rfl)
@[simp] theorem State.forget_upd (s : State) (c : Nat) : (s.forget c).upd = s.upd := (rfl)
@[simp] theorem State.forget_log (s : State) (c : Nat) : (s.forget c).log = s.log := (rfl)
@[simp] theorem State.forget_spy (s : State) (c : Nat) : (s.forget c).spy = s.spy := (rfl)
@[simp] theorem State.forget_fresh (s : State) (c : Nat) : (s.forget c).fresh = s.fresh := (rfl)
@[simp] theorem State.forget_pending (s : State) (c : Nat) : (s.forget c).pending = s.pending := (rfl)

@[simp] theorem State.spyErr_pins (s : State) (code : String) : (s.spyErr code).pins = s.pins := (rfl)
@[simp] theorem State.spyErr_sys (s : State) (code : String) : (s.spyErr code).sys = s.sys := (rfl)
@[simp] theorem State.spyErr_fsq (s : State) (code : String) : (s.spyErr code).fsq = s.fsq := (rfl)
@[simp] theorem State.spyErr_fnl (s : State) (code : String) : (s.spyErr code).fnl = s.fnl := (rfl)
@[simp] theorem State.spyErr_nodes (s : State) (code : String) : (s.spyErr code).nodes = s.nodes := (rfl)
@[simp] theorem State.spyErr_csm (s : State) (code : String) : (s.spyErr code).csm = s.csm := (rfl)
@[simp] theorem State.spyErr_mea (s : State) (code : String) : (s.spyErr code).mea = s.mea := (rfl)
@[simp] theorem State.spyErr_est (s : State) (code : String) : (s.spyErr code).est = s.est := (rfl)
@[simp] theorem State.spyErr_prb (s : State) (code : String) : (s.spyErr code).prb = s.prb := (rfl)
@[simp] theorem State.spyErr_phm (s : State) (code : String) : (s.spyErr code).phm = s.phm := (rfl)
@[simp] theorem State.spyErr_ctl (s : State) (code : String) : (s.spyErr code).ctl = s.ctl := (rfl)
@[simp] theorem State.spyErr_thm (s : State) (code : String) : (s.spyErr code).thm = s.thm := (rfl)
@[simp] theorem State.spyErr_sag (s : State) (code : String) : (s.spyErr code).sag = s.sag := (rfl)
@[simp] theorem State.spyErr_prl (s : State) (code : String) : (s.spyErr code).prl = s.prl := (rfl)
@[simp] theorem State.spyErr_plk (s : State) (code : String) : (s.spyErr code).plk = s.plk := (rfl)
@[simp] theorem State.spyErr_lmp (s : State) (code : String) : (s.spyErr code).lmp = s.lmp := (rfl)
@[simp] theorem State.spyErr_mbx (s : State) (code : String) : (s.spyErr code).mbx = s.mbx := (rfl)
@[simp] theorem State.spyErr_dict (s : State) (code : String) : (s.spyErr code).dict = s.dict := (rfl)
@[simp] theorem State.spyErr_upd (s : State) (code : String) : (s.spyErr code).upd = s.upd := (rfl)
@[simp] theorem State.spyErr_log (s : State) (code : String) : (s.spyErr code).log = s.log := (rfl)
@[simp] theorem State.spyErr_spy (s : State) (code : String) : (s.spyErr code).spy = { s.spy with out := [], status := "E " ++ code } := (rfl)
@[simp] theorem State.spyErr_fresh (s : State) (code : String) : (s.spyErr code).fresh = s.fresh := (rfl)
@[simp] theorem State.spyErr_pending (s : State) (code : String) : (s.spyErr code).pending = s.pending := (rfl)

@[simp] theorem State.spyOut_pins (s : State) (l : List String) : (s.spyOut l).pins = s.pins := (rfl)
@[simp] theorem State.spyOut_sys (s : State) (l : List String) : (s.spyOut l).sys = s.sys := (rfl)
@[simp] theorem State.spyOut_fsq (s : State) (l : List String) : (s.spyOut l).fsq = s.fsq := (rfl)
@[simp] theorem State.spyOut_fnl (s : State) (l : List String) : (s.spyOut l).fnl = s.fnl := (rfl)
@[simp] theorem State.spyOut_nodes (s : State) (l : List String) : (s.spyOut l).nodes = s.nodes := (rfl)
@[simp] theorem State.spyOut_csm (s : State) (l : List String) : (s.spyOut l).csm = s.csm := (rfl)
@[simp] theorem State.spyOut_mea (s : State) (l : List String) : (s.spyOut l).mea = s.mea := (rfl)
@[simp] theorem State.spyOut_est (s : State) (l : List String) : (s.spyOut l).est = s.est := (rfl)
@[simp] theorem State.spyOut_prb (s : State) (l : List String) : (s.spyOut l).prb = s.prb := (rfl)
@[simp] theorem State.spyOut_phm (s : State) (l : List String) : (s.spyOut l).phm = s.phm := (rfl)
@[simp] theorem State.spyOut_ctl (s : State) (l : List String) : (s.spyOut l).ctl = s.ctl := (rfl)
@[simp] theorem State.spyOut_thm (s : State) (l : List String) : (s.spyOut l).thm = s.thm := (rfl)
@[simp] theorem State.spyOut_sag (s : State) (l : List String) : (s.spyOut l).sag = s.sag := (rfl)
@[simp] theorem State.spyOut_prl (s : State) (l : List String) : (s.spyOut l).prl = s.prl := (rfl)
@[simp] theorem State.spyOut_plk (s : State) (l : List String) : (s.spyOut l).plk = s.plk := (rfl)
@[simp] theorem State.spyOut_lmp (s : State) (l : List String) : (s.spyOut l).lmp = s.lmp := (rfl)
@[simp] theorem State.spyOut_mbx (s : State) (l : List String) : (s.spyOut l).mbx = s.mbx := (rfl)
@[simp] theorem State.spyOut_dict (s : State) (l : List String) : (s.spyOut l).dict = s.dict := (rfl)
@[simp] theorem State.spyOut_upd (s : State) (l : List String) : (s.spyOut l).upd = s.upd := (rfl)
@[simp] theorem State.spyOut_log (s : State) (l : List String) : (s.spyOut l).log = s.log := (rfl)
@[simp] theorem State.spyOut_spy (s : State) (l : List String) : (s.spyOut l).spy = { s.spy with out := l, status := "OK" } := (rfl)
@[simp] theorem State.spyOut_fresh (s : State) (l : List String) : (s.spyOut l).fresh = s.fresh := (rfl)
@[simp] theorem State.spyOut_pending (s : State) (l : List String) : (s.spyOut l).pending = s.pending := (rfl)

end Sys2Proof.Machine
end

