-- ==== Sys2Proof/Laws/FrameSag.lean ====
section
/-! SUPPORT. The shared operations that leave the saggar, whole unchanged, one lemma an operation. -/

namespace Sys2Proof.Machine

/-- A fold of updates that keep the field keeps it. -/
@[simp] theorem State.sag_foldl {β : Type} (f : State → β → State) (l : List β) (s : State) (h : ∀ t x, (f t x).sag = t.sag) :
    (l.foldl f s).sag = s.sag := by
  induction l generalizing s with
  | nil => rfl
  | cons x l ih => rw [List.foldl_cons, ih, h]

/-- The field of a choice of states. -/
@[simp] theorem State.sag_ite (c : Prop) [Decidable c] (a b : State) : (if c then a else b).sag = if c then a.sag else b.sag := by
  split <;> rfl

/-- A fold of updates beside a value. -/
@[simp] theorem State.sag_foldlp {α β : Type} (f : State × α → β → State × α) (l : List β) (p : State × α)
    (h : ∀ t x, (f t x).1.sag = t.1.sag) : (l.foldl f p).1.sag = p.1.sag := by
  induction l generalizing p with
  | nil => rfl
  | cons x l ih => rw [List.foldl_cons, ih, h]

/-- The field of a choice of states beside a value. -/
@[simp] theorem State.sag_itep {α : Type} (c : Prop) [Decidable c] (a b : State × α) :
    (if c then a else b).1.sag = if c then a.1.sag else b.1.sag := by
  split <;> rfl

@[simp] theorem State.logPost_sag (s : State) (src : Nat) (code : Nat) (sev : Nat) (data : List Nat) : (State.logPost s src code sev data).sag = s.sag := by
  simp [State.logPost]

@[simp] theorem State.sendFrom_sag (s : State) (p : PortId) (addr : Nat) (udp : Nat) (b : List Byte) : (State.sendFrom s p addr udp b).sag = s.sag := by
  simp [State.sendFrom]

@[simp] theorem State.sendAttn_sag (s : State) (x : Session) (m : Attn) (p : PortId) (again : Bool) : (State.sendAttn s x m p again).sag = s.sag := by
  simp [State.sendAttn]

@[simp] theorem State.lostNote_sag (s : State) (i : Nat) : (State.lostNote s i).sag = s.sag := by
  unfold State.lostNote
  try dsimp only
  repeat' split
  all_goals (first | rfl | simp)

@[simp] theorem State.attnTo_sag (s : State) (m : Attn) (i : Nat) : (State.attnTo s m i).sag = s.sag := by
  unfold State.attnTo
  try dsimp only
  repeat' split
  all_goals (first | rfl | simp)

@[simp] theorem State.attn_sag (s : State) (code : Nat) (sev : Nat) (data : List Nat) : (State.attn s code sev data).sag = s.sag := by
  simp [State.attn]

@[simp] theorem State.announce_sag (s : State) : (State.announce s).sag = s.sag := by
  simp [State.announce]

@[simp] theorem State.clearSetpoints_sag (s : State) : (State.clearSetpoints s).sag = s.sag := by
  simp [State.clearSetpoints]

@[simp] theorem State.syncMode_sag (s : State) : (State.syncMode s).sag = s.sag := by
  simp [State.syncMode]

@[simp] theorem State.leaveSetpoints_sag (s : State) : (State.leaveSetpoints s).sag = s.sag := by
  simp [State.leaveSetpoints]

@[simp] theorem State.outputsRest_sag (s : State) : (State.outputsRest s).sag = s.sag := by
  unfold State.outputsRest
  try dsimp only
  repeat' split
  all_goals (first | rfl | simp)

@[simp] theorem State.enter_sag (s : State) (st : OpState) (b : OpState) : (State.enter s st b).sag = s.sag := by
  simp [State.enter]

@[simp] theorem State.enterEff_sag (s : State) (st : OpState) : (State.enterEff s st).sag = s.sag := by
  simp [State.enterEff]

@[simp] theorem State.pairSend_sag (s : State) (kind : Nat) (body : List Byte) : (State.pairSend s kind body).sag = s.sag := by
  simp [State.pairSend]

@[simp] theorem State.swapSend_sag (s : State) (sub : Nat) (b : Nat) : (State.swapSend s sub b).sag = s.sag := by
  simp [State.swapSend]

@[simp] theorem State.swapAbandon_sag (s : State) : (State.swapAbandon s).sag = s.sag := by
  unfold State.swapAbandon
  try dsimp only
  repeat' split
  all_goals (first | rfl | simp)

@[simp] theorem State.isoCatchUp_sag (s : State) : (State.isoCatchUp s).sag = s.sag := by
  unfold State.isoCatchUp
  try dsimp only
  repeat' split
  all_goals (first | rfl | simp)

@[simp] theorem State.lostCatchUp_sag (s : State) : (State.lostCatchUp s).sag = s.sag := by
  simp [State.lostCatchUp]

@[simp] theorem State.requestSwap_sag (s : State) : (State.requestSwap s).sag = s.sag := by
  simp [State.requestSwap]

@[simp] theorem State.autoSwap_sag (s : State) : (State.autoSwap s).sag = s.sag := by
  simp [State.autoSwap]

@[simp] theorem State.addPhases_sag (s : State) (req : Nat) : (State.addPhases s req).sag = s.sag := by
  simp [State.addPhases]

@[simp] theorem State.loadStep_sag (s : State) : (State.loadStep s).sag = s.sag := by
  simp [State.loadStep]

@[simp] theorem State.startOrdered_sag (s : State) : (State.startOrdered s).sag = s.sag := by
  simp [State.startOrdered]

@[simp] theorem State.startShed_sag (s : State) (p : Nat) : (State.startShed s p).sag = s.sag := by
  simp [State.startShed]

@[simp] theorem State.shedDisabled_sag (s : State) : (State.shedDisabled s).sag = s.sag := by
  simp [State.shedDisabled]

@[simp] theorem State.decidePhases_sag (s : State) : (State.decidePhases s).sag = s.sag := by
  unfold State.decidePhases
  try dsimp only
  repeat' split
  all_goals (first | rfl | simp)

@[simp] theorem State.retarget_sag (s : State) : (State.retarget s).sag = s.sag := by
  simp [State.retarget]

@[simp] theorem State.burstStart_sag (s : State) : (State.burstStart s).sag = s.sag := by
  simp [State.burstStart]

@[simp] theorem State.burstStep_sag (s : State) : (State.burstStep s).sag = s.sag := by
  simp [State.burstStep]

@[simp] theorem State.loopBurst_sag (s : State) : (State.loopBurst s).sag = s.sag := by
  simp [State.loopBurst]

@[simp] theorem State.boundaryCounts_sag (s : State) : (State.boundaryCounts s).sag = s.sag := by
  simp [State.boundaryCounts]

@[simp] theorem State.boundaryPhases_sag (s : State) : (State.boundaryPhases s).sag = s.sag := by
  simp [State.boundaryPhases]

@[simp] theorem State.refBoundary_sag (s : State) : (State.refBoundary s).sag = s.sag := by
  simp [State.refBoundary]

@[simp] theorem State.trackStart_sag (s : State) : (State.trackStart s).sag = s.sag := by
  simp [State.trackStart]

@[simp] theorem State.stopStart_sag (s : State) (rate : Option Nat) : (State.stopStart s rate).sag = s.sag := by
  simp [State.stopStart]

@[simp] theorem State.applyOuter_sag (s : State) : (State.applyOuter s).sag = s.sag := by
  simp [State.applyOuter]

@[simp] theorem State.loadAtBoundary_sag (s : State) : (State.loadAtBoundary s).sag = s.sag := by
  simp [State.loadAtBoundary]

@[simp] theorem State.queuePdu_sag (s : State) (now : Nat) (apply : Nat) (mode : Nat) (v : Int) : (State.queuePdu s now apply mode v).sag = s.sag := by
  unfold State.queuePdu
  try dsimp only
  repeat' split
  all_goals (first | rfl | simp)

@[simp] theorem State.regCommand_sag (s : State) (m : Nat) (v : Int) : (State.regCommand s m v).sag = s.sag := by
  simp [State.regCommand]

@[simp] theorem State.takeCmd_sag (s0 : State) (c : SetCmd) : (State.takeCmd s0 c).sag = s0.sag := by
  simp [State.takeCmd]

@[simp] theorem State.intake_sag (s : State) (now : Nat) : (State.intake s now).sag = s.sag := by
  simp [State.intake]

@[simp] theorem State.limits_sag (s : State) (dt : Rat) : (State.limits s dt).sag = s.sag := by
  simp [State.limits]

@[simp] theorem State.probeSuspend_sag (s : State) : (State.probeSuspend s).sag = s.sag := by
  simp [State.probeSuspend]

@[simp] theorem State.applyClamp_sag (s : State) (q : Rat) (dtNs : Nat) : (State.applyClamp s q dtNs).1.sag = s.sag := by
  simp [State.applyClamp]

@[simp] theorem State.holdTones_sag (s : State) : (State.holdTones s).sag = s.sag := by
  simp [State.holdTones]

@[simp] theorem State.outerLoop_sag (s : State) (q : Rat) (dtNs : Nat) : (State.outerLoop s q dtNs).sag = s.sag := by
  simp [State.outerLoop]

@[simp] theorem State.startMode_sag (s : State) (m : Nat) : (State.startMode s m).sag = s.sag := by
  simp [State.startMode]

@[simp] theorem State.modeChange_sag (s : State) : (State.modeChange s).sag = s.sag := by
  simp [State.modeChange]

@[simp] theorem State.droopStep_sag (s : State) : (State.droopStep s).sag = s.sag := by
  simp [State.droopStep]

@[simp] theorem State.droop_sag (s : State) : (State.droop s).sag = s.sag := by
  simp [State.droop]

@[simp] theorem State.trackTick_sag (s : State) (dt : Rat) : (State.trackTick s dt).sag = s.sag := by
  simp [State.trackTick]

@[simp] theorem State.holdTick_sag (s0 : State) (dt : Rat) : (State.holdTick s0 dt).sag = s0.sag := by
  simp [State.holdTick]

@[simp] theorem State.setRef_sag (s : State) (q : Rat) (dtNs : Nat) : (State.setRef s q dtNs).sag = s.sag := by
  simp [State.setRef]

@[simp] theorem State.linkRef_sag (s : State) (dtNs : Nat) : (State.linkRef s dtNs).sag = s.sag := by
  simp [State.linkRef]

@[simp] theorem State.calRampTick_sag (s : State) (dtNs : Nat) (dt : Rat) : (State.calRampTick s dtNs dt).sag = s.sag := by
  simp [State.calRampTick]

@[simp] theorem State.dispatchEval_sag (s : State) (now : Nat) (dtNs : Nat) (dt : Rat) : (State.dispatchEval s now dtNs dt).sag = s.sag := by
  simp [State.dispatchEval]

@[simp] theorem State.stopEval_sag (s : State) (now : Nat) (dtNs : Nat) (dt : Rat) : (State.stopEval s now dtNs dt).sag = s.sag := by
  simp [State.stopEval]

@[simp] theorem State.tonesAt_sag (s0 : State) (now : Nat) : (State.tonesAt s0 now).sag = s0.sag := by
  simp [State.tonesAt]

@[simp] theorem State.isum_sag (s : State) : (State.isum s).sag = s.sag := by
  simp [State.isum]

@[simp] theorem State.innerEval_sag (s : State) (p : Nat) (m : EvalIn) : (State.innerEval s p m).sag = s.sag := by
  simp [State.innerEval]

@[simp] theorem State.rampStep_sag (s : State) (p : Nat) (m : EvalIn) : (State.rampStep s p m).sag = s.sag := by
  simp [State.rampStep]

@[simp] theorem State.brakeStep_sag (s : State) (p : Nat) (m : EvalIn) : (State.brakeStep s p m).sag = s.sag := by
  simp [State.brakeStep]

@[simp] theorem State.deStep_sag (s : State) (p : Nat) (m : EvalIn) : (State.deStep s p m).sag = s.sag := by
  simp [State.deStep]

@[simp] theorem State.issue_sag (s : State) (p : Nat) (m : EvalIn) : (State.issue s p m).sag = s.sag := by
  simp [State.issue]

@[simp] theorem State.updatePoint_sag (s : State) (p : Nat) (m : EvalIn) : (State.updatePoint s p m).sag = s.sag := by
  simp [State.updatePoint]

@[simp] theorem State.heldPoint_sag (s0 : State) (p : Nat) (m : EvalIn) : (State.heldPoint s0 p m).sag = s0.sag := by
  simp [State.heldPoint]

@[simp] theorem State.ceTap_sag (s : State) (p : Nat) (m : EvalIn) : (State.ceTap s p m).sag = s.sag := by
  unfold State.ceTap
  try dsimp only
  repeat' split
  all_goals (first | rfl | simp)

@[simp] theorem State.evalWrites_sag (s : State) (p : Nat) (m : EvalIn) : (State.evalWrites s p m).sag = s.sag := by
  simp [State.evalWrites]

@[simp] theorem State.logSkip_sag (s : State) (e : Nat) (w : Nat) (ecc : Bool) : (State.logSkip s e w ecc).sag = s.sag := by
  simp [State.logSkip]

@[simp] theorem State.announced_sag (s : State) (m : EntryIn) : (State.announced s m).sag = s.sag := by
  simp [State.announced]

@[simp] theorem State.unlessPilot_sag (s t : State) (h : t.sag = s.sag) : (s.unlessPilot t).sag = s.sag := by
  unfold State.unlessPilot
  split <;> simp [h]

@[simp] theorem State.swapAtEnd_sag (s : State) : (State.swapAtEnd s).sag = s.sag := by
  simp [State.swapAtEnd]

@[simp] theorem State.swapAtStart_sag (s : State) : (State.swapAtStart s).sag = s.sag := by
  simp [State.swapAtStart]

@[simp] theorem State.push_sag (s : State) (scope : Nat) : (State.push s scope).sag = s.sag := by
  simp [State.push]

@[simp] theorem State.markSnapshot_sag (s : State) (w : Nat) : (State.markSnapshot s w).sag = s.sag := by
  simp [State.markSnapshot]

@[simp] theorem State.takePoint_sag (s : State) : (State.takePoint s).sag = s.sag := by
  simp [State.takePoint]

@[simp] theorem State.pointBoundary_sag (s : State) (k : Nat) : (State.pointBoundary s k).sag = s.sag := by
  simp [State.pointBoundary]

@[simp] theorem State.tagTone_sag (s : State) (k : Nat) (e : Nat × Nat × Nat) : (State.tagTone s k e).sag = s.sag := by
  simp [State.tagTone]

@[simp] theorem State.probeLatch_sag (s : State) (i : Nat) : (State.probeLatch s i).sag = s.sag := by
  simp [State.probeLatch]

@[simp] theorem State.tint_sag (s : State) (g : Nat) (arg : Int) : (State.tint s g arg).sag = s.sag := by
  simp [State.tint]

@[simp] theorem State.publish_sag (s : State) (k : Nat) (g : Nat) (z : Nat × Int) (nd : Bool) : (State.publish s k g z nd).sag = s.sag := by
  simp [State.publish]

@[simp] theorem State.takePublish_sag (s : State) : (State.takePublish s).sag = s.sag := by
  simp [State.takePublish]

@[simp] theorem State.closeGroup_sag (s : State) (k : Nat) (g : Nat) (nd : Bool) (a : PointAcc) : (State.closeGroup s k g nd a).1.sag = s.sag := by
  simp [State.closeGroup]

@[simp] theorem State.probeTone_sag (s : State) (g : Nat) (k : Nat) : (State.probeTone s g k).sag = s.sag := by
  unfold State.probeTone
  try dsimp only
  repeat' split
  all_goals (first | rfl | simp)

@[simp] theorem State.probeNode_sag (s : State) (n : Nat) : (State.probeNode s n).sag = s.sag := by
  simp [State.probeNode]

@[simp] theorem State.pointOver_sag (s : State) (k : Nat) (a : PointAcc) : (State.pointOver s k a).sag = s.sag := by
  simp [State.pointOver]

@[simp] theorem State.closeRest_sag (s : State) (k : Nat) (nd : Bool) (a : PointAcc) : (State.closeRest s k nd a).sag = s.sag := by
  simp [State.closeRest]

@[simp] theorem State.probeMissed_sag (s : State) (k : Nat) : (State.probeMissed s k).sag = s.sag := by
  simp [State.probeMissed]

@[simp] theorem State.probeEndTone_sag (s : State) (k : Nat) : (State.probeEndTone s k).sag = s.sag := by
  unfold State.probeEndTone
  simp only []
  split <;> simp

@[simp] theorem State.probeSwapTone_sag (s : State) (k : Nat) : (State.probeSwapTone s k).sag = s.sag := by
  simp [State.probeSwapTone]

@[simp] theorem State.probeEnd_sag (s : State) : (State.probeEnd s).sag = s.sag := by
  simp [State.probeEnd]

@[simp] theorem State.loadTones_sag (s : State) : (State.loadTones s).sag = s.sag := by
  simp [State.loadTones]

@[simp] theorem State.probeRestart_sag (s : State) : (State.probeRestart s).sag = s.sag := by
  unfold State.probeRestart
  exact State.sag_foldl _ _ _ (fun t x => by
    dsimp only
    split <;> split <;> simp)

@[simp] theorem State.advanceEpoch_sag (s : State) : (State.advanceEpoch s).sag = s.sag := by
  simp [State.advanceEpoch]

@[simp] theorem State.takeFc_sag (s : State) (u : Nat) : (State.takeFc s u).sag = s.sag := by
  simp [State.takeFc]

@[simp] theorem State.sendEpoch_sag (s : State) (u : Nat) (typ : Nat) (ver : Nat) (addr : Nat) (p : List Byte) : (State.sendEpoch s u typ ver addr p).sag = s.sag := by
  simp [State.sendEpoch]

@[simp] theorem State.applyBank_sag (s : State) : (State.applyBank s).sag = s.sag := by
  simp [State.applyBank]

@[simp] theorem State.takeAlign_sag (s : State) : (State.takeAlign s).sag = s.sag := by
  simp [State.takeAlign]

@[simp] theorem State.freeze_sag (s : State) : (State.freeze s).sag = s.sag := by
  simp [State.freeze]

@[simp] theorem State.sendBeacon_sag (s : State) (u : Nat) (txLt : Nat) (startDt : Nat) : (State.sendBeacon s u txLt startDt).sag = s.sag := by
  simp [State.sendBeacon]

@[simp] theorem State.sendCmd_sag (s : State) (u : Nat) (n : Nat) : (State.sendCmd s u n).sag = s.sag := by
  unfold State.sendCmd
  try dsimp only
  repeat' split
  all_goals (first | rfl | simp)

@[simp] theorem State.sendReply_sag (s : State) (u : Nat) (r0 : JoinReply) : (State.sendReply s u r0).sag = s.sag := by
  simp [State.sendReply]

@[simp] theorem State.sendDyn_sag (s : State) (u : Nat) : (State.sendDyn s u).sag = s.sag := by
  unfold State.sendDyn
  try dsimp only
  repeat' split
  all_goals (first | rfl | simp)

@[simp] theorem State.rxCount_sag (s : State) (u : Nat) (n : Nat) (k : RxFail) : (State.rxCount s u n k).sag = s.sag := by
  simp [State.rxCount]

@[simp] theorem State.rxAccept_sag (s : State) (f : RxFrame) : (State.rxAccept s f).sag = s.sag := by
  simp [State.rxAccept]

@[simp] theorem State.kackSet_sag (s : State) (u : Nat) (addr : Nat) (fc : Nat) : (State.kackSet s u addr fc).sag = s.sag := by
  simp [State.kackSet]

@[simp] theorem State.joinUnknown_sag (s : State) (u : Nat) (serial : Nat) : (State.joinUnknown s u serial).sag = s.sag := by
  simp [State.joinUnknown]

@[simp] theorem State.queueReply_sag (s : State) (r : JoinReply) : (State.queueReply s r).sag = s.sag := by
  simp [State.queueReply]

@[simp] theorem State.queueCmd_sag (s : State) (n : Nat) (cmd : Nat) (params : List Nat) (chan : Option Nat) : (State.queueCmd s n cmd params chan).sag = s.sag := by
  simp [State.queueCmd]

@[simp] theorem State.joined_sag (s : State) (r : JoinReply) : (State.joined s r).sag = s.sag := by
  simp [State.joined]

@[simp] theorem State.radioFrameEnd_sag (s : State) : (State.radioFrameEnd s).sag = s.sag := by
  unfold State.radioFrameEnd
  try dsimp only
  repeat' split
  all_goals (first | rfl | simp)

@[simp] theorem State.updEnd_sag (s : State) : (State.updEnd s).sag = s.sag := by
  simp [State.updEnd]

@[simp] theorem State.updDisturbed_sag (s : State) : (State.updDisturbed s).sag = s.sag := by
  simp [State.updDisturbed]

@[simp] theorem State.updFault_sag (s : State) (src : Nat) (what : Nat) (item : Nat) : (State.updFault s src what item).sag = s.sag := by
  simp [State.updFault]

@[simp] theorem State.rollCheck_sag (s : State) : (State.rollCheck s).sag = s.sag := by
  simp [State.rollCheck]

@[simp] theorem State.rollLeave_sag (s : State) (n : Nat) : (State.rollLeave s n).sag = s.sag := by
  simp [State.rollLeave]

@[simp] theorem State.rollSweep_sag (s : State) (n : Nat) : (State.rollSweep s n).sag = s.sag := by
  simp [State.rollSweep]

@[simp] theorem State.queueTiming_sag (s : State) (n : Nat) (ns : Nat) : (State.queueTiming s n ns).sag = s.sag := by
  simp [State.queueTiming]

@[simp] theorem State.queueLimits_sag (s : State) (n : Nat) : (State.queueLimits s n).sag = s.sag := by
  simp [State.queueLimits]

@[simp] theorem State.logUncounted_sag (s : State) (qint : Int) : (State.logUncounted s qint).sag = s.sag := by
  simp [State.logUncounted]

@[simp] theorem State.latch_sag (s : State) (w : Nat) (ma : Int) (vStr : Int) (vBus : Int) (dq : Int) : (State.latch s w ma vStr vBus dq).sag = s.sag := by
  simp [State.latch]

@[simp] theorem State.modNode_sag (s : State) (n : Nat) (f : Nat → GroupRec → GroupRec) : (State.modNode s n f).sag = s.sag := by
  simp [State.modNode]

@[simp] theorem State.tofTake_sag (s : State) (n : Nat) (sample : Rat) : (State.tofTake s n sample).sag = s.sag := by
  simp [State.tofTake]

@[simp] theorem State.tofSample_sag (s : State) (u : Nat) (n : Nat) (r : Report) (rxLt : Nat) : (State.tofSample s u n r rxLt).sag = s.sag := by
  unfold State.tofSample
  split
  · rfl
  · split
    · rfl
    · dsimp only
      split <;> simp

@[simp] theorem State.logBst_sag (s : State) (n : Nat) (p : Nat) (row : Nat) : (State.logBst s n p row).sag = s.sag := by
  simp [State.logBst]

@[simp] theorem State.logRow_sag (s : State) (n : Nat) (r : Nat) (fresh : Nat) : (State.logRow s n r fresh).sag = s.sag := by
  simp [State.logRow]

@[simp] theorem State.passDone_sag (s : State) (n : Nat) (pass : List (Option Nat)) : (State.passDone s n pass).sag = s.sag := by
  simp [State.passDone]

@[simp] theorem State.switchTest_sag (s : State) (n : Nat) (p : Nat) (v : Nat) (tval : Int) : (State.switchTest s n p v tval).sag = s.sag := by
  simp [State.switchTest]

@[simp] theorem State.nodeSum_sag (s : State) (n : Nat) (r : Report) : (State.nodeSum s n r).sag = s.sag := by
  simp [State.nodeSum]

@[simp] theorem State.logPatterns_sag (s : State) (n : Nat) : (State.logPatterns s n).sag = s.sag := by
  simp [State.logPatterns]

@[simp] theorem State.nodePattern_sag (s : State) (full : Bool) (n : Nat) : (State.nodePattern s full n).sag = s.sag := by
  simp [State.nodePattern]

@[simp] theorem State.stringPattern_sag (s : State) : (State.stringPattern s).sag = s.sag := by
  simp [State.stringPattern]

@[simp] theorem State.patterns_sag (s : State) (full : Bool) : (State.patterns s full).sag = s.sag := by
  simp [State.patterns]

@[simp] theorem State.halfSum_sag (s : State) (n : Nat) (k : Nat) : (State.halfSum s n k).sag = s.sag := by
  simp [State.halfSum]

@[simp] theorem State.voltages_sag (s : State) (n : Nat) : (State.voltages s n).sag = s.sag := by
  simp [State.voltages]

@[simp] theorem State.countRec_sag (s : State) (g : Nat) (dq : Int) : (State.countRec s g dq).sag = s.sag := by
  simp [State.countRec]

@[simp] theorem State.armedCycle_sag (s : State) (g : Nat) (dq : Int) : (State.armedCycle s g dq).sag = s.sag := by
  simp [State.armedCycle]

@[simp] theorem State.fullAnchor_sag (s : State) (g : Nat) : (State.fullAnchor s g).sag = s.sag := by
  simp [State.fullAnchor]

@[simp] theorem State.learn_sag (s : State) (g : Nat) : (State.learn s g).sag = s.sag := by
  simp [State.learn]

@[simp] theorem State.emptyAnchor_sag (s : State) (g : Nat) : (State.emptyAnchor s g).sag = s.sag := by
  simp [State.emptyAnchor]

@[simp] theorem State.ocvAnchor_sag (s : State) (g : Nat) : (State.ocvAnchor s g).sag = s.sag := by
  unfold State.ocvAnchor
  try dsimp only
  repeat' split
  all_goals (first | rfl | simp)

@[simp] theorem State.disagreeCheck_sag (s : State) (g : Nat) : (State.disagreeCheck s g).sag = s.sag := by
  simp [State.disagreeCheck]

@[simp] theorem State.cutoffCheck_sag (s : State) (g : Nat) : (State.cutoffCheck s g).sag = s.sag := by
  simp [State.cutoffCheck]

@[simp] theorem State.qRepUpdate_sag (s : State) (g : Nat) : (State.qRepUpdate s g).sag = s.sag := by
  simp [State.qRepUpdate]

@[simp] theorem State.chargeGroup_sag (s : State) (g : Nat) : (State.chargeGroup s g).sag = s.sag := by
  simp [State.chargeGroup]

@[simp] theorem State.chargeNode_sag (s : State) (n : Nat) : (State.chargeNode s n).sag = s.sag := by
  simp [State.chargeNode]

@[simp] theorem State.coneNode_sag (s : State) (n : Nat) : (State.coneNode s n).sag = s.sag := by
  simp [State.coneNode]

@[simp] theorem State.direction_sag (s0 : State) : (State.direction s0).sag = s0.sag := by
  simp [State.direction]

@[simp] theorem State.balLosses_sag (s : State) : (State.balLosses s).sag = s.sag := by
  simp [State.balLosses]

@[simp] theorem State.stringReports_sag (s : State) : (State.stringReports s).sag = s.sag := by
  simp [State.stringReports]

@[simp] theorem State.estLimits_sag (s : State) : (State.estLimits s).sag = s.sag := by
  simp [State.estLimits]

@[simp] theorem State.crossing_sag (s : State) (side : Nat) (level : Nat) (dir : Nat) (crit : Nat) (g : Nat) : (State.crossing s side level dir crit g).sag = s.sag := by
  simp [State.crossing]

@[simp] theorem State.crossings_sag (s : State) (side : Nat) (old : Nat) (new : Nat) : (State.crossings s side old new).sag = s.sag := by
  simp [State.crossings]

@[simp] theorem State.stringCones_sag (s : State) : (State.stringCones s).sag = s.sag := by
  simp [State.stringCones]

@[simp] theorem State.coneCatchUp_sag (s : State) : (State.coneCatchUp s).sag = s.sag := by
  simp [State.coneCatchUp]

@[simp] theorem State.adoptGroup_sag (s : State) (g : Nat) : (State.adoptGroup s g).sag = s.sag := by
  simp [State.adoptGroup]

@[simp] theorem State.adoptAll_sag (s : State) : (State.adoptAll s).sag = s.sag := by
  simp [State.adoptAll]

@[simp] theorem State.calEnd_sag (s : State) : (State.calEnd s).sag = s.sag := by
  simp [State.calEnd]

@[simp] theorem State.calCheck_sag (s : State) : (State.calCheck s).sag = s.sag := by
  simp [State.calCheck]

@[simp] theorem State.ceString_sag (s : State) : (State.ceString s).sag = s.sag := by
  simp [State.ceString]

@[simp] theorem State.estimateEnd_sag (s : State) : (State.estimateEnd s).sag = s.sag := by
  simp [State.estimateEnd]

@[simp] theorem State.capCommitEnd_sag (s : State) (ok : Bool) : (State.capCommitEnd s ok).sag = s.sag := by
  simp [State.capCommitEnd]

@[simp] theorem State.capCommitStart_sag (s : State) : (State.capCommitStart s).sag = s.sag := by
  simp [State.capCommitStart]

@[simp] theorem State.reportDrops_sag (s : State) : (State.reportDrops s).sag = s.sag := by
  unfold State.reportDrops
  try dsimp only
  repeat' split
  all_goals (first | rfl | simp)

@[simp] theorem State.logWriteOne_sag (s : State) : (State.logWriteOne s).sag = s.sag := by
  unfold State.logWriteOne
  try dsimp only
  repeat' split
  all_goals (first | rfl | simp)

@[simp] theorem State.logDrain_sag (s : State) : (State.logDrain s).sag = s.sag := by
  simp [State.logDrain]

@[simp] theorem State.pd0Backup_sag (s : State) : (State.pd0Backup s).sag = s.sag := by
  simp [State.pd0Backup]

@[simp] theorem State.thmConvert_sag (s : State) : (State.thmConvert s).sag = s.sag := by
  simp [State.thmConvert]

@[simp] theorem State.thmTake_sag (s : State) (src : Nat) (mask : Nat) (x : ThmIn) : (State.thmTake s src mask x).sag = s.sag := by
  unfold State.thmTake
  try dsimp only
  repeat' split
  all_goals (first | rfl | simp)

@[simp] theorem State.thmModel_sag (s : State) (p : Nat) : (State.thmModel s p).sag = s.sag := by
  simp [State.thmModel]

@[simp] theorem State.thmPhase_sag (s : State) (p : Nat) : (State.thmPhase s p).sag = s.sag := by
  simp [State.thmPhase]

@[simp] theorem State.thmGroup_sag (s : State) (g : Nat) : (State.thmGroup s g).sag = s.sag := by
  simp [State.thmGroup]

@[simp] theorem State.thmFrame_sag (s : State) : (State.thmFrame s).sag = s.sag := by
  simp [State.thmFrame]

@[simp] theorem State.factors_sag (s : State) : (State.factors s).sag = s.sag := by
  simp [State.factors]

@[simp] theorem State.derateMsg_sag (s : State) (chg : Bool) (kind : Nat) (limit : Nat) : (State.derateMsg s chg kind limit).sag = s.sag := by
  simp [State.derateMsg]

@[simp] theorem State.derateLog_sag (s : State) (chg : Bool) (kind : Nat) (limit : Nat) : (State.derateLog s chg kind limit).sag = s.sag := by
  simp [State.derateLog]

@[simp] theorem State.derateStep_sag (s : State) (chg : Bool) : (State.derateStep s chg).sag = s.sag := by
  unfold State.derateStep
  try dsimp only
  repeat' split
  all_goals (first | rfl | simp)

@[simp] theorem State.thmCatchUp_sag (s : State) : (State.thmCatchUp s).sag = s.sag := by
  simp [State.thmCatchUp]

@[simp] theorem State.thmHot_sag (s : State) : (State.thmHot s).sag = s.sag := by
  simp [State.thmHot]

@[simp] theorem State.batchNode_sag (s : State) (w : Nat) (n : Nat) : (State.batchNode s w n).sag = s.sag := by
  simp [State.batchNode]

@[simp] theorem State.toneStats_sag (s : State) : (State.toneStats s).sag = s.sag := by
  simp [State.toneStats]

@[simp] theorem State.latchCheck_sag (s : State) : (State.latchCheck s).sag = s.sag := by
  simp [State.latchCheck]

@[simp] theorem State.applyTables_sag (s : State) : (State.applyTables s).sag = s.sag := by
  simp [State.applyTables]

@[simp] theorem State.applyFrameEnd_sag (s : State) : (State.applyFrameEnd s).sag = s.sag := by
  simp [State.applyFrameEnd]

@[simp] theorem State.abandonRest_sag (s : State) (now : Nat) : (State.abandonRest s now).sag = s.sag := by
  simp [State.abandonRest]

@[simp] theorem State.adoptPeriod_sag (s : State) : (State.adoptPeriod s).sag = s.sag := by
  unfold State.adoptPeriod
  try dsimp only
  repeat' split
  all_goals (first | rfl | simp)

@[simp] theorem State.bankChange_sag (s : State) : (State.bankChange s).sag = s.sag := by
  simp [State.bankChange]

@[simp] theorem State.followBank_sag (s : State) : (State.followBank s).sag = s.sag := by
  unfold State.followBank
  try dsimp only
  repeat' split
  all_goals (first | rfl | simp)

@[simp] theorem State.rejectImages_sag (s : State) : (State.rejectImages s).sag = s.sag := by
  simp [State.rejectImages]

@[simp] theorem State.pd0Restore_sag (s : State) : (State.pd0Restore s).sag = s.sag := by
  simp [State.pd0Restore]

@[simp] theorem State.settingsLoad_sag (s : State) : (State.settingsLoad s).sag = s.sag := by
  unfold State.settingsLoad
  try dsimp only
  repeat' split
  all_goals (first | rfl | simp)

@[simp] theorem State.capLoad_sag (s : State) : (State.capLoad s).sag = s.sag := by
  unfold State.capLoad
  try dsimp only
  repeat' split
  all_goals (first | rfl | simp)

@[simp] theorem State.countLoad_sag (s : State) : (State.countLoad s).sag = s.sag := by
  unfold State.countLoad
  try dsimp only
  repeat' split
  all_goals (first | rfl | simp)

@[simp] theorem State.tvLoad_sag (s : State) : (State.tvLoad s).sag = s.sag := by
  simp [State.tvLoad]

@[simp] theorem State.bootRevert_sag (s : State) : (State.bootRevert s).sag = s.sag := by
  simp [State.bootRevert]

@[simp] theorem State.domainUp_sag (s : State) (d : Nat) : (State.domainUp s d).sag = s.sag := by
  simp [State.domainUp]

@[simp] theorem State.domainDown_sag (s : State) (d : Nat) : (State.domainDown s d).sag = s.sag := by
  unfold State.domainDown
  try dsimp only
  repeat' split
  all_goals (first | rfl | simp)

@[simp] theorem State.logItem_sag (s : State) (detail : Nat) (i : TestItem) : (State.logItem s detail i).sag = s.sag := by
  simp [State.logItem]

@[simp] theorem State.startLost_sag (s : State) (n : Nat) : (State.startLost s n).sag = s.sag := by
  simp [State.startLost]

@[simp] theorem State.setFeed_sag (s : State) (b : Bool) (on : Bool) : (State.setFeed s b on).sag = s.sag := by
  simp [State.setFeed]

@[simp] theorem State.boCommit_sag (s : State) : (State.boCommit s).sag = s.sag := by
  simp [State.boCommit]

@[simp] theorem State.pairFault_sag (s : State) (kind : Nat) : (State.pairFault s kind).sag = s.sag := by
  simp [State.pairFault]

@[simp] theorem State.clashCheck_sag (s : State) (h : Partner) (higher : Bool) : (State.clashCheck s h higher).sag = s.sag := by
  simp [State.clashCheck]

@[simp] theorem State.adopt_sag (s : State) (m : Mirror) (seq : Nat) : (State.adopt s m seq).sag = s.sag := by
  simp [State.adopt]

@[simp] theorem State.sendTake_sag (s : State) (now : Nat) : (State.sendTake s now).sag = s.sag := by
  simp [State.sendTake]

@[simp] theorem State.sendReady_sag (s : State) : (State.sendReady s).sag = s.sag := by
  simp [State.sendReady]

@[simp] theorem State.handOver_sag (s : State) (now : Nat) : (State.handOver s now).sag = s.sag := by
  simp [State.handOver]

@[simp] theorem State.takeHarness_sag (s : State) : (State.takeHarness s).sag = s.sag := by
  simp [State.takeHarness]

@[simp] theorem State.newOwner_sag (s : State) (kind : Nat) : (State.newOwner s kind).sag = s.sag := by
  simp [State.newOwner]

@[simp] theorem State.dropCoef_sag (s : State) : (State.dropCoef s).sag = s.sag := by
  simp [State.dropCoef]

@[simp] theorem State.ceFresh_sag (s : State) : (State.ceFresh s).sag = s.sag := by
  simp [State.ceFresh]

@[simp] theorem State.pilotView_sag (s : State) : (State.pilotView s).sag = s.sag := by
  unfold State.pilotView
  try dsimp only
  repeat' split
  all_goals (first | rfl | simp)

@[simp] theorem State.latchShadows_sag (s : State) : (State.latchShadows s).sag = s.sag := by
  simp [State.latchShadows]

@[simp] theorem State.afterRead_sag (s : State) (r : Reg) : (State.afterRead s r).sag = s.sag := by
  simp [State.afterRead]

@[simp] theorem State.clearRc_sag (s : State) (r : Reg) : (State.clearRc s r).sag = s.sag := by
  unfold State.clearRc
  try dsimp only
  repeat' split
  all_goals (first | rfl | simp)

@[simp] theorem State.putPeriod_sag (s : State) (v : Nat) : (State.putPeriod s v).sag = s.sag := by
  simp [State.putPeriod]

@[simp] theorem State.toConnected_sag (s : State) : (State.toConnected s).sag = s.sag := by
  simp [State.toConnected]

@[simp] theorem State.stopDone_sag (s : State) : (State.stopDone s).sag = s.sag := by
  simp [State.stopDone]

@[simp] theorem State.toMaintenance_sag (s : State) : (State.toMaintenance s).sag = s.sag := by
  simp [State.toMaintenance]

@[simp] theorem State.afterTest_sag (s : State) (owned : Bool) : (State.afterTest s owned).sag = s.sag := by
  simp [State.afterTest]

@[simp] theorem State.dropEv_sag (s : State) (e : Ev) : (State.dropEv s e).sag = s.sag := by
  unfold State.dropEv
  try dsimp only
  repeat' split
  all_goals (first | rfl | simp)

@[simp] theorem State.trackClosed_sag (s : State) : (State.trackClosed s).sag = s.sag := by
  simp [State.trackClosed]

@[simp] theorem State.stopOpened_sag (s : State) : (State.stopOpened s).sag = s.sag := by
  simp [State.stopOpened]

@[simp] theorem State.pairTick_sag (s : State) : (State.pairTick s).sag = s.sag := by
  simp [State.pairTick]

@[simp] theorem State.tickCounts_sag (s : State) : (State.tickCounts s).sag = s.sag := by
  simp [State.tickCounts]

@[simp] theorem State.speedTick_sag (s : State) (pct : Nat) : (State.speedTick s pct).sag = s.sag := by
  simp [State.speedTick]

@[simp] theorem State.timeTo_sag (s : State) (st : LmpSt) : (State.timeTo s st).sag = s.sag := by
  simp [State.timeTo]

@[simp] theorem State.reselect_sag (s : State) : (State.reselect s).sag = s.sag := by
  unfold State.reselect
  try dsimp only
  repeat' split
  all_goals (first | rfl | simp)

@[simp] theorem State.servo_sag (s : State) (off : Int) (ms : Nat) : (State.servo s off ms).sag = s.sag := by
  simp [State.servo]

@[simp] theorem State.loadSecMark_sag (s : State) : (State.loadSecMark s).sag = s.sag := by
  unfold State.loadSecMark
  try dsimp only
  repeat' split
  all_goals (first | rfl | simp)

@[simp] theorem State.takeOffset_sag (s0 : State) (off : Int) (ms : Nat) : (State.takeOffset s0 off ms).sag = s0.sag := by
  unfold State.takeOffset
  try dsimp only
  repeat' split
  all_goals (first | rfl | simp)

@[simp] theorem State.syncDone_sag (s : State) (m : PtpMsg) (ingress : Int) (origin : Int) (ms : Nat) : (State.syncDone s m ingress origin ms).sag = s.sag := by
  simp [State.syncDone]

@[simp] theorem State.sourceLost_sag (s : State) : (State.sourceLost s).sag = s.sag := by
  simp [State.sourceLost]

@[simp] theorem State.fire_sag (s : State) (k : Nat) : (State.fire s k).sag = s.sag := by
  simp [State.fire]

@[simp] theorem State.accept_sag (s : State) (c : Nat) (src : Src) : (State.accept s c src).sag = s.sag := by
  simp [State.accept]

@[simp] theorem State.answerWait_sag (s : State) (c : Nat) (r : Reply) : (State.answerWait s c r).sag = s.sag := by
  unfold State.answerWait
  exact State.sag_foldl _ _ _ (fun t x => by split <;> simp)

@[simp] theorem State.done_sag (s : State) (c : Nat) (code : Nat) (tag : Nat) (rc : Nat) (detail : Nat) (data : List Byte) : (State.done s c code tag rc detail data).sag = s.sag := by
  simp [State.done]

@[simp] theorem State.reply_sag (s : State) (c : Nat) (rc : Nat) (detail : Nat) (data : List Byte) : (State.reply s c rc detail data).sag = s.sag := by
  unfold State.reply
  try dsimp only
  repeat' split
  all_goals (first | rfl | simp)

@[simp] theorem State.ok_sag (s : State) (c : Nat) : (State.ok s c).sag = s.sag := by
  simp [State.ok]

@[simp] theorem State.ring_sag (s : State) (c : Nat) (src : Src) : (State.ring s c src).sag = s.sag := by
  simp [State.ring]

@[simp] theorem State.bufPut_sag (s : State) (c : Nat) (i : Nat) (w : Nat) : (State.bufPut s c i w).sag = s.sag := by
  simp [State.bufPut]

@[simp] theorem State.notInState_sag (s : State) (c : Nat) (r : Request) : (State.notInState s c r).sag = s.sag := by
  simp [State.notInState]

@[simp] theorem State.result_sag (s : State) (c : Nat) (rc : Nat) (detail : Nat) (data : List Byte) : (State.result s c rc detail data).sag = s.sag := by
  simp [State.result]

@[simp] theorem State.settingsOpen_sag (s : State) : (State.settingsOpen s).sag = s.sag := by
  simp [State.settingsOpen]

@[simp] theorem State.settingsEnd_sag (s : State) (ok : Bool) : (State.settingsEnd s ok).sag = s.sag := by
  simp [State.settingsEnd]

@[simp] theorem State.plainWrite_sag (s : State) (r : Reg) : (State.plainWrite s r).sag = s.sag := by
  simp [State.plainWrite]

@[simp] theorem State.writeWin_sag (s : State) (w : Nat) : (State.writeWin s w).sag = s.sag := by
  simp [State.writeWin]

@[simp] theorem State.atTime_sag (s : State) (t : BitVec 32) : (State.atTime s t).sag = s.sag := by
  simp [State.atTime]

@[simp] theorem State.sessReply_sag (s : State) (i : Nat) (x : Tx) (r : Reply) : (State.sessReply s i x r).sag = s.sag := by
  unfold State.sessReply
  try dsimp only
  repeat' split
  all_goals (first | rfl | simp)

@[simp] theorem State.sessStatus_sag (s : State) (i : Nat) (x : Tx) (ty : Nat) (status : Nat) : (State.sessStatus s i x ty status).sag = s.sag := by
  simp [State.sessStatus]

@[simp] theorem State.looseReply_sag (s : State) (x : Tx) (r : Reply) : (State.looseReply s x r).sag = s.sag := by
  simp [State.looseReply]

@[simp] theorem State.sessUsed_sag (s : State) (i : Nat) (x : Tx) : (State.sessUsed s i x).sag = s.sag := by
  simp [State.sessUsed]

@[simp] theorem State.resend_sag (s : State) (i : Nat) (x : Tx) (y : Session) : (State.resend s i x y).sag = s.sag := by
  unfold State.resend
  try dsimp only
  repeat' split
  all_goals (first | rfl | simp)

@[simp] theorem State.openSession_sag (s : State) (x : Tx) (v : Nat) (host : Nat) (mask : Nat) (old : Option Session) : (State.openSession s x v host mask old).sag = s.sag := by
  simp [State.openSession]

@[simp] theorem State.endSession_sag (s : State) (i : Nat) : (State.endSession s i).sag = s.sag := by
  simp [State.endSession]

@[simp] theorem State.sessWait_sag (s : State) (i : Nat) (x : Tx) (c : Nat) : (State.sessWait s i x c).sag = s.sag := by
  simp [State.sessWait]

@[simp] theorem State.attnDrop_sag (s : State) (i : Nat) (y : Session) (m : Attn) : (State.attnDrop s i y m).sag = s.sag := by
  simp [State.attnDrop]

@[simp] theorem State.dispTake_sag (s : State) (p : PortId) (b : List Byte) (now : Nat) : (State.dispTake s p b now).sag = s.sag := by
  unfold State.dispTake
  try dsimp only
  repeat' split
  all_goals (first | rfl | simp)

@[simp] theorem State.inhibited_sag (s : State) (c : Nat) (detail : Nat) : (State.inhibited s c detail).sag = s.sag := by
  simp [State.inhibited]

@[simp] theorem State.selftestStore_sag (s : State) (r : SelfTest) (run : Nat) : (State.selftestStore s r run).sag = s.sag := by
  simp [State.selftestStore]

@[simp] theorem State.loadShadow_sag (s : State) (k : Nat) (i : SchedImage) : (State.loadShadow s k i).sag = s.sag := by
  simp [State.loadShadow]

@[simp] theorem State.askSwap_sag (s : State) : (State.askSwap s).sag = s.sag := by
  simp [State.askSwap]

@[simp] theorem State.calStart_sag (s : State) : (State.calStart s).sag = s.sag := by
  simp [State.calStart]

@[simp] theorem State.capWrite_sag (s : State) (cap : Nat) (g : Nat) : (State.capWrite s cap g).sag = s.sag := by
  simp [State.capWrite]

@[simp] theorem State.drawKey_sag (s : State) : (State.drawKey s).sag = s.sag := by
  simp [State.drawKey]

@[simp] theorem State.pairPut_sag (s : State) (n : Nat) (serial : Nat) (k : Nat) : (State.pairPut s n serial k).sag = s.sag := by
  simp [State.pairPut]

@[simp] theorem State.pairDrop_sag (s : State) (n : Nat) : (State.pairDrop s n).sag = s.sag := by
  simp [State.pairDrop]

@[simp] theorem State.queueKey_sag (s : State) (n : Nat) : (State.queueKey s n).sag = s.sag := by
  simp [State.queueKey]

@[simp] theorem State.keyChange_sag (s : State) : (State.keyChange s).sag = s.sag := by
  simp [State.keyChange]

@[simp] theorem State.logClear_sag (s : State) (src : Nat) : (State.logClear s src).sag = s.sag := by
  simp [State.logClear]

@[simp] theorem State.ownLoad_sag (s : State) : (State.ownLoad s).sag = s.sag := by
  unfold State.ownLoad
  try dsimp only
  repeat' split
  all_goals (first | rfl | simp)

@[simp] theorem State.ownEnd_sag (s : State) (rb : Bool) : (State.ownEnd s rb).sag = s.sag := by
  unfold State.ownEnd
  try dsimp only
  repeat' split
  all_goals (first | rfl | simp)

@[simp] theorem State.capReply_sag (s : State) (c : Nat) (rb : Bool) : (State.capReply s c rb).sag = s.sag := by
  simp [State.capReply]

@[simp] theorem State.settingsReply_sag (s : State) (c : Nat) (rb : Bool) : (State.settingsReply s c rb).sag = s.sag := by
  simp [State.settingsReply]

@[simp] theorem State.swapReply_sag (s : State) (c : Nat) : (State.swapReply s c).sag = s.sag := by
  unfold State.swapReply
  try dsimp only
  repeat' split
  all_goals (first | rfl | simp)

@[simp] theorem State.loadReply_sag (s : State) (c : Nat) (detail : Nat) (data : List Byte) : (State.loadReply s c detail data).sag = s.sag := by
  simp [State.loadReply]

@[simp] theorem State.manifestDone_sag (s : State) : (State.manifestDone s).sag = s.sag := by
  unfold State.manifestDone
  try dsimp only
  repeat' split
  all_goals (first | rfl | simp)

@[simp] theorem State.partDone_sag (s : State) (k : Nat) : (State.partDone s k).sag = s.sag := by
  unfold State.partDone
  try dsimp only
  repeat' split
  all_goals (first | rfl | simp)

@[simp] theorem State.blockPut_sag (s : State) (k : Nat) (n : Nat) (b : List Byte) : (State.blockPut s k n b).sag = s.sag := by
  simp [State.blockPut]

@[simp] theorem State.blockReply_sag (s : State) (i : Nat) (x : Tx) (next : Nat) : (State.blockReply s i x next).sag = s.sag := by
  simp [State.blockReply]

@[simp] theorem State.fwdSend_sag (s : State) (k : Nat) : (State.fwdSend s k).sag = s.sag := by
  unfold State.fwdSend
  try dsimp only
  repeat' split
  all_goals (first | rfl | simp)

@[simp] theorem State.stageUpdate_sag (s : State) (c : Nat) : (State.stageUpdate s c).sag = s.sag := by
  unfold State.stageUpdate
  try dsimp only
  repeat' split
  all_goals (first | rfl | simp)

@[simp] theorem State.heldBusy_sag (s : State) (p : Chan → Bool) : (State.heldBusy s p).sag = s.sag := by
  simp [State.heldBusy]

@[simp] theorem State.rollBack_sag (s : State) : (State.rollBack s).sag = s.sag := by
  simp [State.rollBack]

@[simp] theorem State.staysAway_sag (s : State) : (State.staysAway s).sag = s.sag := by
  simp [State.staysAway]

@[simp] theorem State.loaderBoot_sag (s : State) : (State.loaderBoot s).sag = s.sag := by
  simp [State.loaderBoot]

@[simp] theorem State.rangeLeave_sag (s : State) : (State.rangeLeave s).sag = s.sag := by
  simp [State.rangeLeave]

@[simp] theorem State.afterConfirm_sag (s : State) (l : List (Nat × Nat)) : (State.afterConfirm s l).sag = s.sag := by
  unfold State.afterConfirm
  try dsimp only
  repeat' split
  all_goals (first | rfl | simp)

@[simp] theorem State.nodeReply_sag (s : State) (q : NodeCmd) (rc : Nat) (detail : Nat) (data : List Byte) : (State.nodeReply s q rc detail data).sag = s.sag := by
  unfold State.nodeReply
  try dsimp only
  repeat' split
  all_goals (first | rfl | simp)

@[simp] theorem State.leaveDone_sag (s : State) (q : NodeCmd) (result : Nat) : (State.leaveDone s q result).sag = s.sag := by
  unfold State.leaveDone
  try dsimp only
  repeat' split
  all_goals (first | rfl | simp)

@[simp] theorem State.infoGot_sag (s : State) (q : NodeCmd) (info : Nat) : (State.infoGot s q info).sag = s.sag := by
  unfold State.infoGot
  try dsimp only
  repeat' split
  all_goals (first | rfl | simp)

@[simp] theorem State.fwBegun_sag (s : State) (n : Nat) : (State.fwBegun s n).sag = s.sag := by
  simp [State.fwBegun]

@[simp] theorem State.ackCmd_sag (s : State) (q : NodeCmd) (r : Nat) (info : Nat) : (State.ackCmd s q r info).sag = s.sag := by
  unfold State.ackCmd
  try dsimp only
  repeat' split
  all_goals (first | rfl | simp)

@[simp] theorem State.fwStaged_sag (s : State) (u : Nat) (n : Nat) : (State.fwStaged s u n).sag = s.sag := by
  simp [State.fwStaged]

@[simp] theorem State.ackFw_sag (s : State) (u : Nat) (n : Nat) (r : Nat) (info : Nat) : (State.ackFw s u n r info).sag = s.sag := by
  unfold State.ackFw
  try dsimp only
  repeat' split
  all_goals (first | rfl | simp)

theorem State.takeFlight_sag (s : State) (n : Nat) (t_ : NodeCmd × State) (h_ : State.takeFlight s n = some t_) : t_.2.sag = s.sag := by
  revert h_
  unfold State.takeFlight
  try dsimp only
  repeat' split
  all_goals (intro h_; first | (cases h_; done) | (cases h_; rfl) | (cases h_; simp; done) | (simp at h_; done) | (simp at h_; subst h_; simp; done))

@[simp] theorem State.ackKind_sag (s : State) (u : Nat) (k : Nat) (n : Nat) (r : Nat) (info : Nat) : (State.ackKind s u k n r info).sag = s.sag := by
  unfold State.ackKind
  split
  · split <;> (try split) <;> simp
  · split
    · rename_i h; have h2 := State.takeFlight_sag _ _ _ h; simpa using h2
    · rfl
  · simp

@[simp] theorem State.giveUp_sag (s : State) (q : NodeCmd) : (State.giveUp s q).sag = s.sag := by
  unfold State.giveUp
  try dsimp only
  repeat' split
  all_goals (first | rfl | simp)

@[simp] theorem State.spyWrote_sag (s : State) : (State.spyWrote s).sag = s.sag := by
  simp [State.spyWrote]

end Sys2Proof.Machine
end

