-- ==== Sys2Proof/Laws/FrameCfg.lean ====
section
/-! SUPPORT. The shared operations that leave the safety configuration unchanged, one lemma an operation. -/

namespace Sys2Proof.Machine

/-- A fold of updates that keep the field keeps it. -/
@[simp] theorem State.sag_cfg_foldl {β : Type} (f : State → β → State) (l : List β) (s : State) (h : ∀ t x, (f t x).sag.cfg = t.sag.cfg) :
    (l.foldl f s).sag.cfg = s.sag.cfg := by
  induction l generalizing s with
  | nil => rfl
  | cons x l ih => rw [List.foldl_cons, ih, h]

/-- The field of a choice of states. -/
@[simp] theorem State.sag_cfg_ite (c : Prop) [Decidable c] (a b : State) : (if c then a else b).sag.cfg = if c then a.sag.cfg else b.sag.cfg := by
  split <;> rfl

/-- A fold of updates beside a value. -/
@[simp] theorem State.sag_cfg_foldlp {α β : Type} (f : State × α → β → State × α) (l : List β) (p : State × α)
    (h : ∀ t x, (f t x).1.sag.cfg = t.1.sag.cfg) : (l.foldl f p).1.sag.cfg = p.1.sag.cfg := by
  induction l generalizing p with
  | nil => rfl
  | cons x l ih => rw [List.foldl_cons, ih, h]

/-- The field of a choice of states beside a value. -/
@[simp] theorem State.sag_cfg_itep {α : Type} (c : Prop) [Decidable c] (a b : State × α) :
    (if c then a else b).1.sag.cfg = if c then a.1.sag.cfg else b.1.sag.cfg := by
  split <;> rfl

/-- The field of a choice of saggars. -/
@[simp] theorem State.sag_cfg_sub (c : Prop) [Decidable c] (a b : Sag) : (if c then a else b).cfg = if c then a.cfg else b.cfg := by
  split <;> rfl

@[simp] theorem State.coilService1_sag_cfg (s : State) (k : Nat) : (State.coilService1 s k).sag.cfg = s.sag.cfg := by
  unfold State.coilService1
  try dsimp only
  repeat' split
  all_goals (first | rfl | simp)

@[simp] theorem State.coilService_sag_cfg (s : State) : (State.coilService s).sag.cfg = s.sag.cfg := by
  simp [State.coilService]

@[simp] theorem State.degStart_sag_cfg (s : State) : (State.degStart s).sag.cfg = s.sag.cfg := by
  simp [State.degStart]

@[simp] theorem State.sendStatus_sag_cfg (s : State) : (State.sendStatus s).sag.cfg = s.sag.cfg := by
  simp [State.sendStatus]

@[simp] theorem State.dropOutputs_sag_cfg (s : State) : (State.dropOutputs s).sag.cfg = s.sag.cfg := by
  simp [State.dropOutputs]

@[simp] theorem State.degPhase_sag_cfg (s : State) : (State.degPhase s).sag.cfg = s.sag.cfg := by
  simp [State.degPhase]

@[simp] theorem State.phaseFault_sag_cfg (s : State) (p : Nat) (c : Nat) : (State.phaseFault s p c).sag.cfg = s.sag.cfg := by
  simp [State.phaseFault]

@[simp] theorem State.harnessFault_sag_cfg (s : State) (h : Nat) (c : Nat) : (State.harnessFault s h c).sag.cfg = s.sag.cfg := by
  simp [State.harnessFault]

@[simp] theorem State.abandonTrk_sag_cfg (s : State) (kind : Nat) (sev : Nat) : (State.abandonTrk s kind sev).sag.cfg = s.sag.cfg := by
  simp [State.abandonTrk]

@[simp] theorem State.dropCo3_sag_cfg (s : State) : (State.dropCo3 s).sag.cfg = s.sag.cfg := by
  simp [State.dropCo3]

@[simp] theorem State.outerEval_sag_cfg (s : State) (now : Nat) (dtNs : Nat) : (State.outerEval s now dtNs).sag.cfg = s.sag.cfg := by
  unfold State.outerEval
  try dsimp only
  repeat' split
  all_goals (first | rfl | simp)

@[simp] theorem State.missDeadline_sag_cfg (s : State) (now : Nat) : (State.missDeadline s now).sag.cfg = s.sag.cfg := by
  simp [State.missDeadline]

@[simp] theorem State.observe_sag_cfg (s : State) (p : Nat) (m : EvalIn) (ma : Int) : (State.observe s p m ma).sag.cfg = s.sag.cfg := by
  simp [State.observe]

@[simp] theorem State.unlessPilot_sag_cfg (s t : State) (h : t.sag.cfg = s.sag.cfg) : (s.unlessPilot t).sag.cfg = s.sag.cfg := by
  unfold State.unlessPilot
  split <;> simp [h]

@[simp] theorem State.linkFrameStart_sag_cfg (s : State) : (State.linkFrameStart s).sag.cfg = s.sag.cfg := by
  simp [State.linkFrameStart]

@[simp] theorem State.writeStale_sag_cfg (s : State) (n : Nat) (own : Nat) (rep : Option Nat) : (State.writeStale s n own rep).sag.cfg = s.sag.cfg := by
  simp [State.writeStale]

@[simp] theorem State.degWire_sag_cfg (s : State) : (State.degWire s).sag.cfg = s.sag.cfg := by
  simp [State.degWire]

@[simp] theorem State.openWire_sag_cfg (s : State) (n : Nat) (k : Nat) (tval : Int) : (State.openWire s n k tval).sag.cfg = s.sag.cfg := by
  simp [State.openWire]

@[simp] theorem State.testResult_sag_cfg (s : State) (n : Nat) (r : Report) : (State.testResult s n r).sag.cfg = s.sag.cfg := by
  simp [State.testResult]

@[simp] theorem State.sagSweep_sag_cfg (s : State) (n : Nat) (r : Report) : (State.sagSweep s n r).sag.cfg = s.sag.cfg := by
  simp [State.sagSweep]

@[simp] theorem State.writeValid_sag_cfg (s : State) (n : Nat) (r : Report) : (State.writeValid s n r).sag.cfg = s.sag.cfg := by
  simp [State.writeValid]

@[simp] theorem State.sweep_sag_cfg (s : State) (u : Nat) (n : Nat) (rxLt : Nat) (p : List Byte) : (State.sweep s u n rxLt p).sag.cfg = s.sag.cfg := by
  simp [State.sweep]

@[simp] theorem State.nodeEnd_sag_cfg (s : State) (n : Nat) : (State.nodeEnd s n).sag.cfg = s.sag.cfg := by
  simp [State.nodeEnd]

@[simp] theorem State.stringSum_sag_cfg (s : State) : (State.stringSum s).sag.cfg = s.sag.cfg := by
  simp [State.stringSum]

@[simp] theorem State.degLost_sag_cfg (s : State) : (State.degLost s).sag.cfg = s.sag.cfg := by
  simp [State.degLost]

@[simp] theorem State.measureEnd_sag_cfg (s : State) : (State.measureEnd s).sag.cfg = s.sag.cfg := by
  simp [State.measureEnd]

@[simp] theorem State.degThermal_sag_cfg (s : State) : (State.degThermal s).sag.cfg = s.sag.cfg := by
  simp [State.degThermal]

@[simp] theorem State.thmTick_sag_cfg (s : State) : (State.thmTick s).sag.cfg = s.sag.cfg := by
  simp [State.thmTick]

@[simp] theorem State.frameEndWork_sag_cfg (s : State) : (State.frameEndWork s).sag.cfg = s.sag.cfg := by
  simp [State.frameEndWork]

@[simp] theorem State.alignStat_sag_cfg (s : State) : (State.alignStat s).sag.cfg = s.sag.cfg := by
  simp [State.alignStat]

@[simp] theorem State.stepTime_sag_cfg (s : State) : (State.stepTime s).sag.cfg = s.sag.cfg := by
  unfold State.stepTime
  try dsimp only
  repeat' split
  all_goals (first | rfl | simp)

@[simp] theorem State.ceFrameStart_sag_cfg (s : State) : (State.ceFrameStart s).sag.cfg = s.sag.cfg := by
  simp [State.ceFrameStart]

@[simp] theorem State.frameStart_sag_cfg (s : State) : (State.frameStart s).sag.cfg = s.sag.cfg := by
  simp [State.frameStart]

@[simp] theorem State.loadBoot_sag_cfg (s : State) : (State.loadBoot s).sag.cfg = s.sag.cfg := by
  simp [State.loadBoot]

@[simp] theorem State.startFsq_sag_cfg (s : State) : (State.startFsq s).sag.cfg = s.sag.cfg := by
  simp [State.startFsq]

@[simp] theorem State.bootReselect_sag_cfg (s : State) : (State.bootReselect s).sag.cfg = s.sag.cfg := by
  simp [State.bootReselect]

@[simp] theorem State.diag_sag_cfg (s : State) (k : Nat) (bad : Bool) : (State.diag s k bad).sag.cfg = s.sag.cfg := by
  simp [State.diag]

@[simp] theorem State.slotSkip_sag_cfg (s : State) (sw : Nat) : (State.slotSkip s sw).sag.cfg = s.sag.cfg := by
  simp [State.slotSkip]

@[simp] theorem State.degSession_sag_cfg (s : State) : (State.degSession s).sag.cfg = s.sag.cfg := by
  simp [State.degSession]

@[simp] theorem State.degNet_sag_cfg (s : State) : (State.degNet s).sag.cfg = s.sag.cfg := by
  simp [State.degNet]

@[simp] theorem State.pduMiss_sag_cfg (s : State) : (State.pduMiss s).sag.cfg = s.sag.cfg := by
  simp [State.pduMiss]

@[simp] theorem State.pduHeard_sag_cfg (s : State) (p : PortId) (h : Net) : (State.pduHeard s p h).sag.cfg = s.sag.cfg := by
  simp [State.pduHeard]

@[simp] theorem State.latchClear_sag_cfg (s : State) : (State.latchClear s).sag.cfg = s.sag.cfg := by
  simp [State.latchClear]

@[simp] theorem State.clogAdd_sag_cfg (s : State) (kind : Nat) (source : Nat) (index : Nat) (old : Int) (new : Int) : (State.clogAdd s kind source index old new).sag.cfg = s.sag.cfg := by
  simp [State.clogAdd]

@[simp] theorem State.cfgOpen_sag_cfg (s : State) (source : Nat) : (State.cfgOpen s source).sag.cfg = s.sag.cfg := by
  simp [State.cfgOpen]

@[simp] theorem State.cfgFail_sag_cfg (s : State) : (State.cfgFail s).sag.cfg = s.sag.cfg := by
  simp [State.cfgFail]

@[simp] theorem State.loginFails_sag_cfg (s : State) (src : Nat) : (State.loginFails s src).sag.cfg = s.sag.cfg := by
  simp [State.loginFails]

@[simp] theorem State.setPassword_sag_cfg (s : State) (pw : List Byte) (source : Nat) : (State.setPassword s pw source).sag.cfg = s.sag.cfg := by
  simp [State.setPassword]

@[simp] theorem State.readStraps_sag_cfg (s : State) : (State.readStraps s).sag.cfg = s.sag.cfg := by
  simp [State.readStraps]

@[simp] theorem State.allReady_sag_cfg (s : State) : (State.allReady s).sag.cfg = s.sag.cfg := by
  simp [State.allReady]

@[simp] theorem State.testResults_sag_cfg (s : State) (r : SelfTest) : (State.testResults s r).sag.cfg = s.sag.cfg := by
  unfold State.testResults
  try dsimp only
  repeat' split
  all_goals (first | rfl | simp)

@[simp] theorem State.boRamp_sag_cfg (s : State) : (State.boRamp s).sag.cfg = s.sag.cfg := by
  simp [State.boRamp]

@[simp] theorem State.heartbeat_sag_cfg (s : State) (h : Partner) (higher : Bool) : (State.heartbeat s h higher).sag.cfg = s.sag.cfg := by
  simp [State.heartbeat]

@[simp] theorem State.swapFailed_sag_cfg (s : State) : (State.swapFailed s).sag.cfg = s.sag.cfg := by
  simp [State.swapFailed]

@[simp] theorem State.fromCopy_sag_cfg (s : State) (m : Mirror) : (State.fromCopy s m).sag.cfg = s.sag.cfg := by
  simp [State.fromCopy]

@[simp] theorem State.wantFor_sag_cfg (s : State) (st : OpState) (disp : Bool) : (State.wantFor s st disp).sag.cfg = s.sag.cfg := by
  simp [State.wantFor]

@[simp] theorem State.takeOver_sag_cfg (s : State) (m : Mirror) (kind : Nat) (gap : Nat) : (State.takeOver s m kind gap).sag.cfg = s.sag.cfg := by
  simp [State.takeOver]

@[simp] theorem State.passOwner_sag_cfg (s : State) (now : Nat) (gap : Nat) : (State.passOwner s now gap).sag.cfg = s.sag.cfg := by
  unfold State.passOwner
  dsimp only
  split
  · simp
  · split <;> simp

@[simp] theorem State.dueOwner_sag_cfg (s : State) (now : Nat) : (State.dueOwner s now).sag.cfg = s.sag.cfg := by
  unfold State.dueOwner
  try dsimp only
  repeat' split
  all_goals (first | rfl | simp)

@[simp] theorem State.settingDone_sag_cfg (s : State) (i : Nat) (v : Int) (old : Int) : (State.settingDone s i v old).sag.cfg = s.sag.cfg := by
  simp [State.settingDone]

@[simp] theorem State.putSetting_sag_cfg (s : State) (i : Nat) (v : Int) : (State.putSetting s i v).sag.cfg = s.sag.cfg := by
  unfold State.putSetting
  try dsimp only
  repeat' split
  all_goals (first | rfl | simp)

@[simp] theorem State.toDefault_sag_cfg (s : State) (i : Nat) : (State.toDefault s i).sag.cfg = s.sag.cfg := by
  unfold State.toDefault
  try dsimp only
  repeat' split
  all_goals (first | rfl | simp)

@[simp] theorem State.settingsDefault_sag_cfg (s : State) : (State.settingsDefault s).sag.cfg = s.sag.cfg := by
  simp [State.settingsDefault]

@[simp] theorem State.toNewFormat_sag_cfg (s : State) (i : Nat) : (State.toNewFormat s i).sag.cfg = s.sag.cfg := by
  simp [State.toNewFormat]

@[simp] theorem State.loadNewFormat_sag_cfg (s : State) : (State.loadNewFormat s).sag.cfg = s.sag.cfg := by
  simp [State.loadNewFormat]

@[simp] theorem State.formatStep_sag_cfg (s : State) : (State.formatStep s).sag.cfg = s.sag.cfg := by
  simp [State.formatStep]

@[simp] theorem State.loginState_sag_cfg (s : State) : (State.loginState s).sag.cfg = s.sag.cfg := by
  simp [State.loginState]

@[simp] theorem State.toIsolated_sag_cfg (s : State) : (State.toIsolated s).sag.cfg = s.sag.cfg := by
  simp [State.toIsolated]

@[simp] theorem State.toStandby_sag_cfg (s : State) : (State.toStandby s).sag.cfg = s.sag.cfg := by
  simp [State.toStandby]

@[simp] theorem State.toDegraded_sag_cfg (s : State) : (State.toDegraded s).sag.cfg = s.sag.cfg := by
  simp [State.toDegraded]

@[simp] theorem State.fromDegraded_sag_cfg (s : State) : (State.fromDegraded s).sag.cfg = s.sag.cfg := by
  simp [State.fromDegraded]

theorem State.row_sag_cfg (s : State) (e : Ev) (t_ : State) (h_ : State.row s e = some t_) : t_.sag.cfg = s.sag.cfg := by
  revert h_
  unfold State.row
  try dsimp only
  repeat' split
  all_goals (intro h_; first | (cases h_; done) | (cases h_; rfl) | (cases h_; simp; done) | (simp at h_; done) | (simp at h_; subst h_; simp; done))

@[simp] theorem State.takeClass_sag_cfg (s : State) (c : Nat) (p0 : List Ev) : (s.takeClass c p0).1.sag.cfg = s.sag.cfg := by
  induction p0 generalizing s with
  | nil => rfl
  | cons e l ih =>
    simp only [State.takeClass]
    split
    · exact ih s
    · split
      · rename_i h
        exact State.row_sag_cfg _ _ _ h
      · exact (ih _).trans (by simp)

@[simp] theorem State.runClass_sag_cfg (s : State) (c : Nat) : (State.runClass s c).sag.cfg = s.sag.cfg := by
  simp [State.runClass]

@[simp] theorem State.runDegraded_sag_cfg (s : State) : (State.runDegraded s).sag.cfg = s.sag.cfg := by
  simp [State.runDegraded]

@[simp] theorem State.stateMachine_sag_cfg (s : State) : (State.stateMachine s).sag.cfg = s.sag.cfg := by
  simp [State.stateMachine]

@[simp] theorem State.spyEnd_sag_cfg (s : State) : (State.spyEnd s).sag.cfg = s.sag.cfg := by
  simp [State.spyEnd]

@[simp] theorem State.tvCorrect_sag_cfg (s : State) : (State.tvCorrect s).sag.cfg = s.sag.cfg := by
  simp [State.tvCorrect]

@[simp] theorem State.mirrorCorrect_sag_cfg (s : State) : (State.mirrorCorrect s).sag.cfg = s.sag.cfg := by
  simp [State.mirrorCorrect]

@[simp] theorem State.tickPins_sag_cfg (s : State) (m : TickIn) : (State.tickPins s m).sag.cfg = s.sag.cfg := by
  simp [State.tickPins]

@[simp] theorem State.degLevels_sag_cfg (s : State) : (State.degLevels s).sag.cfg = s.sag.cfg := by
  simp [State.degLevels]

@[simp] theorem State.degTick_sag_cfg (s : State) : (State.degTick s).sag.cfg = s.sag.cfg := by
  simp [State.degTick]

@[simp] theorem State.strapTick_sag_cfg (s : State) : (State.strapTick s).sag.cfg = s.sag.cfg := by
  simp [State.strapTick]

@[simp] theorem State.slotZero_sag_cfg (s : State) : (State.slotZero s).sag.cfg = s.sag.cfg := by
  simp [State.slotZero]

@[simp] theorem State.writeParam_sag_cfg (s : State) (i : Nat) (w : Nat) : (State.writeParam s i w).sag.cfg = s.sag.cfg := by
  simp [State.writeParam]

@[simp] theorem State.writePermit_sag_cfg (s : State) (w : Nat) : (State.writePermit s w).sag.cfg = s.sag.cfg := by
  simp [State.writePermit]

@[simp] theorem State.writeEnMask_sag_cfg (s : State) (w : Nat) : (State.writeEnMask s w).sag.cfg = s.sag.cfg := by
  simp [State.writeEnMask]

@[simp] theorem State.toPrecharge_sag_cfg (s : State) : (State.toPrecharge s).sag.cfg = s.sag.cfg := by
  simp [State.toPrecharge]

@[simp] theorem State.openStart_sag_cfg (s : State) : (State.openStart s).sag.cfg = s.sag.cfg := by
  simp [State.openStart]

@[simp] theorem State.leaveIsolated_sag_cfg (s : State) : (State.leaveIsolated s).sag.cfg = s.sag.cfg := by
  simp [State.leaveIsolated]

@[simp] theorem State.switchDomain_sag_cfg (s : State) (d : Nat) (on : Bool) : (State.switchDomain s d on).sag.cfg = s.sag.cfg := by
  simp [State.switchDomain]

@[simp] theorem State.loginOk_sag_cfg (s : State) (c : Nat) : (State.loginOk s c).sag.cfg = s.sag.cfg := by
  simp [State.loginOk]

@[simp] theorem State.stage_sag_cfg (s : State) (l : List (Nat × Int)) : (State.stage s l).sag.cfg = s.sag.cfg := by
  simp [State.stage]

@[simp] theorem State.sagAbort_sag_cfg (s : State) : (State.sagAbort s).sag.cfg = s.sag.cfg := by
  simp [State.sagAbort]

@[simp] theorem State.clogAckTo_sag_cfg (s : State) (q : Nat) (source : Nat) : (State.clogAckTo s q source).sag.cfg = s.sag.cfg := by
  simp [State.clogAckTo]

@[simp] theorem State.mgpGoes_sag_cfg (s : State) : (State.mgpGoes s).sag.cfg = s.sag.cfg := by
  simp [State.mgpGoes]

@[simp] theorem State.mgpBack_sag_cfg (s : State) : (State.mgpBack s).sag.cfg = s.sag.cfg := by
  simp [State.mgpBack]

@[simp] theorem State.formatChange_sag_cfg (s : State) (old : Nat) : (State.formatChange s old).sag.cfg = s.sag.cfg := by
  simp [State.formatChange]

@[simp] theorem State.oldReady_sag_cfg (s : State) : (State.oldReady s).sag.cfg = s.sag.cfg := by
  simp [State.oldReady]

theorem State.takeFlight_sag_cfg (s : State) (n : Nat) (t_ : NodeCmd × State) (h_ : State.takeFlight s n = some t_) : t_.2.sag.cfg = s.sag.cfg := by
  revert h_
  unfold State.takeFlight
  try dsimp only
  repeat' split
  all_goals (intro h_; first | (cases h_; done) | (cases h_; rfl) | (cases h_; simp; done) | (simp at h_; done) | (simp at h_; subst h_; simp; done))

end Sys2Proof.Machine
end

