-- ==== Sys2Proof/Laws/FrameCoil.lean ====
section
/-! SUPPORT. The shared operations that leave the coils of the saggar unchanged, one lemma an operation. -/

namespace Sys2Proof.Machine

/-- A fold of updates that keep the field keeps it. -/
@[simp] theorem State.sag_coil_foldl {β : Type} (f : State → β → State) (l : List β) (s : State) (h : ∀ t x, (f t x).sag.coil = t.sag.coil) :
    (l.foldl f s).sag.coil = s.sag.coil := by
  induction l generalizing s with
  | nil => rfl
  | cons x l ih => rw [List.foldl_cons, ih, h]

/-- The field of a choice of states. -/
@[simp] theorem State.sag_coil_ite (c : Prop) [Decidable c] (a b : State) : (if c then a else b).sag.coil = if c then a.sag.coil else b.sag.coil := by
  split <;> rfl

/-- A fold of updates beside a value. -/
@[simp] theorem State.sag_coil_foldlp {α β : Type} (f : State × α → β → State × α) (l : List β) (p : State × α)
    (h : ∀ t x, (f t x).1.sag.coil = t.1.sag.coil) : (l.foldl f p).1.sag.coil = p.1.sag.coil := by
  induction l generalizing p with
  | nil => rfl
  | cons x l ih => rw [List.foldl_cons, ih, h]

/-- The field of a choice of states beside a value. -/
@[simp] theorem State.sag_coil_itep {α : Type} (c : Prop) [Decidable c] (a b : State × α) :
    (if c then a else b).1.sag.coil = if c then a.1.sag.coil else b.1.sag.coil := by
  split <;> rfl

/-- The field of a choice of saggars. -/
@[simp] theorem State.sag_coil_sub (c : Prop) [Decidable c] (a b : Sag) : (if c then a else b).coil = if c then a.coil else b.coil := by
  split <;> rfl

@[simp] theorem State.degStart_sag_coil (s : State) : (State.degStart s).sag.coil = s.sag.coil := by
  simp [State.degStart]

@[simp] theorem State.sendStatus_sag_coil (s : State) : (State.sendStatus s).sag.coil = s.sag.coil := by
  simp [State.sendStatus]

@[simp] theorem State.degPhase_sag_coil (s : State) : (State.degPhase s).sag.coil = s.sag.coil := by
  simp [State.degPhase]

@[simp] theorem State.phaseFault_sag_coil (s : State) (p : Nat) (c : Nat) : (State.phaseFault s p c).sag.coil = s.sag.coil := by
  simp [State.phaseFault]

@[simp] theorem State.harnessFault_sag_coil (s : State) (h : Nat) (c : Nat) : (State.harnessFault s h c).sag.coil = s.sag.coil := by
  simp [State.harnessFault]

@[simp] theorem State.missDeadline_sag_coil (s : State) (now : Nat) : (State.missDeadline s now).sag.coil = s.sag.coil := by
  simp [State.missDeadline]

@[simp] theorem State.observe_sag_coil (s : State) (p : Nat) (m : EvalIn) (ma : Int) : (State.observe s p m ma).sag.coil = s.sag.coil := by
  simp [State.observe]

@[simp] theorem State.unlessPilot_sag_coil (s t : State) (h : t.sag.coil = s.sag.coil) : (s.unlessPilot t).sag.coil = s.sag.coil := by
  unfold State.unlessPilot
  split <;> simp [h]

@[simp] theorem State.linkFrameStart_sag_coil (s : State) : (State.linkFrameStart s).sag.coil = s.sag.coil := by
  simp [State.linkFrameStart]

@[simp] theorem State.confirm_sag_coil (s : State) : (State.confirm s).sag.coil = s.sag.coil := by
  simp [State.confirm]

@[simp] theorem State.writeStale_sag_coil (s : State) (n : Nat) (own : Nat) (rep : Option Nat) : (State.writeStale s n own rep).sag.coil = s.sag.coil := by
  simp [State.writeStale]

@[simp] theorem State.degWire_sag_coil (s : State) : (State.degWire s).sag.coil = s.sag.coil := by
  simp [State.degWire]

@[simp] theorem State.openWire_sag_coil (s : State) (n : Nat) (k : Nat) (tval : Int) : (State.openWire s n k tval).sag.coil = s.sag.coil := by
  simp [State.openWire]

@[simp] theorem State.testResult_sag_coil (s : State) (n : Nat) (r : Report) : (State.testResult s n r).sag.coil = s.sag.coil := by
  simp [State.testResult]

@[simp] theorem State.sagSweep_sag_coil (s : State) (n : Nat) (r : Report) : (State.sagSweep s n r).sag.coil = s.sag.coil := by
  simp [State.sagSweep]

@[simp] theorem State.writeValid_sag_coil (s : State) (n : Nat) (r : Report) : (State.writeValid s n r).sag.coil = s.sag.coil := by
  simp [State.writeValid]

@[simp] theorem State.sweep_sag_coil (s : State) (u : Nat) (n : Nat) (rxLt : Nat) (p : List Byte) : (State.sweep s u n rxLt p).sag.coil = s.sag.coil := by
  simp [State.sweep]

@[simp] theorem State.nodeEnd_sag_coil (s : State) (n : Nat) : (State.nodeEnd s n).sag.coil = s.sag.coil := by
  simp [State.nodeEnd]

@[simp] theorem State.stringSum_sag_coil (s : State) : (State.stringSum s).sag.coil = s.sag.coil := by
  simp [State.stringSum]

@[simp] theorem State.degLost_sag_coil (s : State) : (State.degLost s).sag.coil = s.sag.coil := by
  simp [State.degLost]

@[simp] theorem State.measureEnd_sag_coil (s : State) : (State.measureEnd s).sag.coil = s.sag.coil := by
  simp [State.measureEnd]

@[simp] theorem State.degThermal_sag_coil (s : State) : (State.degThermal s).sag.coil = s.sag.coil := by
  simp [State.degThermal]

@[simp] theorem State.thmTick_sag_coil (s : State) : (State.thmTick s).sag.coil = s.sag.coil := by
  simp [State.thmTick]

@[simp] theorem State.frameEndWork_sag_coil (s : State) : (State.frameEndWork s).sag.coil = s.sag.coil := by
  simp [State.frameEndWork]

@[simp] theorem State.alignStat_sag_coil (s : State) : (State.alignStat s).sag.coil = s.sag.coil := by
  simp [State.alignStat]

@[simp] theorem State.stepTime_sag_coil (s : State) : (State.stepTime s).sag.coil = s.sag.coil := by
  unfold State.stepTime
  try dsimp only
  repeat' split
  all_goals (first | rfl | simp)

@[simp] theorem State.ceFrameStart_sag_coil (s : State) : (State.ceFrameStart s).sag.coil = s.sag.coil := by
  simp [State.ceFrameStart]

@[simp] theorem State.frameStart_sag_coil (s : State) : (State.frameStart s).sag.coil = s.sag.coil := by
  simp [State.frameStart]

@[simp] theorem State.loadBoot_sag_coil (s : State) : (State.loadBoot s).sag.coil = s.sag.coil := by
  simp [State.loadBoot]

@[simp] theorem State.startFsq_sag_coil (s : State) : (State.startFsq s).sag.coil = s.sag.coil := by
  simp [State.startFsq]

@[simp] theorem State.bootReselect_sag_coil (s : State) : (State.bootReselect s).sag.coil = s.sag.coil := by
  simp [State.bootReselect]

@[simp] theorem State.diag_sag_coil (s : State) (k : Nat) (bad : Bool) : (State.diag s k bad).sag.coil = s.sag.coil := by
  simp [State.diag]

@[simp] theorem State.slotSkip_sag_coil (s : State) (sw : Nat) : (State.slotSkip s sw).sag.coil = s.sag.coil := by
  simp [State.slotSkip]

@[simp] theorem State.degSession_sag_coil (s : State) : (State.degSession s).sag.coil = s.sag.coil := by
  simp [State.degSession]

@[simp] theorem State.degNet_sag_coil (s : State) : (State.degNet s).sag.coil = s.sag.coil := by
  simp [State.degNet]

@[simp] theorem State.pduMiss_sag_coil (s : State) : (State.pduMiss s).sag.coil = s.sag.coil := by
  simp [State.pduMiss]

@[simp] theorem State.pduHeard_sag_coil (s : State) (p : PortId) (h : Net) : (State.pduHeard s p h).sag.coil = s.sag.coil := by
  simp [State.pduHeard]

@[simp] theorem State.latchClear_sag_coil (s : State) : (State.latchClear s).sag.coil = s.sag.coil := by
  simp [State.latchClear]

@[simp] theorem State.clogAdd_sag_coil (s : State) (kind : Nat) (source : Nat) (index : Nat) (old : Int) (new : Int) : (State.clogAdd s kind source index old new).sag.coil = s.sag.coil := by
  simp [State.clogAdd]

@[simp] theorem State.cfgCommit_sag_coil (s : State) (source : Nat) : (State.cfgCommit s source).sag.coil = s.sag.coil := by
  simp [State.cfgCommit]

@[simp] theorem State.cfgOpen_sag_coil (s : State) (source : Nat) : (State.cfgOpen s source).sag.coil = s.sag.coil := by
  simp [State.cfgOpen]

@[simp] theorem State.cfgEnd_sag_coil (s : State) : (State.cfgEnd s).sag.coil = s.sag.coil := by
  unfold State.cfgEnd
  try dsimp only
  repeat' split
  all_goals (first | rfl | simp)

@[simp] theorem State.cfgFail_sag_coil (s : State) : (State.cfgFail s).sag.coil = s.sag.coil := by
  simp [State.cfgFail]

@[simp] theorem State.loginFails_sag_coil (s : State) (src : Nat) : (State.loginFails s src).sag.coil = s.sag.coil := by
  simp [State.loginFails]

@[simp] theorem State.setPassword_sag_coil (s : State) (pw : List Byte) (source : Nat) : (State.setPassword s pw source).sag.coil = s.sag.coil := by
  simp [State.setPassword]

@[simp] theorem State.readStraps_sag_coil (s : State) : (State.readStraps s).sag.coil = s.sag.coil := by
  simp [State.readStraps]

@[simp] theorem State.bootConfirm_sag_coil (s : State) : (State.bootConfirm s).sag.coil = s.sag.coil := by
  simp [State.bootConfirm]

@[simp] theorem State.allReady_sag_coil (s : State) : (State.allReady s).sag.coil = s.sag.coil := by
  simp [State.allReady]

@[simp] theorem State.testResults_sag_coil (s : State) (r : SelfTest) : (State.testResults s r).sag.coil = s.sag.coil := by
  unfold State.testResults
  try dsimp only
  repeat' split
  all_goals (first | rfl | simp)

@[simp] theorem State.fromCopy_sag_coil (s : State) (m : Mirror) : (State.fromCopy s m).sag.coil = s.sag.coil := by
  simp [State.fromCopy]

@[simp] theorem State.wantFor_sag_coil (s : State) (st : OpState) (disp : Bool) : (State.wantFor s st disp).sag.coil = s.sag.coil := by
  simp [State.wantFor]

@[simp] theorem State.takeOver_sag_coil (s : State) (m : Mirror) (kind : Nat) (gap : Nat) : (State.takeOver s m kind gap).sag.coil = s.sag.coil := by
  simp [State.takeOver]

@[simp] theorem State.passOwner_sag_coil (s : State) (now : Nat) (gap : Nat) : (State.passOwner s now gap).sag.coil = s.sag.coil := by
  unfold State.passOwner
  dsimp only
  split
  · simp
  · split <;> simp

@[simp] theorem State.dueOwner_sag_coil (s : State) (now : Nat) : (State.dueOwner s now).sag.coil = s.sag.coil := by
  unfold State.dueOwner
  try dsimp only
  repeat' split
  all_goals (first | rfl | simp)

@[simp] theorem State.settingDone_sag_coil (s : State) (i : Nat) (v : Int) (old : Int) : (State.settingDone s i v old).sag.coil = s.sag.coil := by
  simp [State.settingDone]

@[simp] theorem State.putSetting_sag_coil (s : State) (i : Nat) (v : Int) : (State.putSetting s i v).sag.coil = s.sag.coil := by
  unfold State.putSetting
  try dsimp only
  repeat' split
  all_goals (first | rfl | simp)

@[simp] theorem State.toDefault_sag_coil (s : State) (i : Nat) : (State.toDefault s i).sag.coil = s.sag.coil := by
  unfold State.toDefault
  try dsimp only
  repeat' split
  all_goals (first | rfl | simp)

@[simp] theorem State.settingsDefault_sag_coil (s : State) : (State.settingsDefault s).sag.coil = s.sag.coil := by
  simp [State.settingsDefault]

@[simp] theorem State.toNewFormat_sag_coil (s : State) (i : Nat) : (State.toNewFormat s i).sag.coil = s.sag.coil := by
  simp [State.toNewFormat]

@[simp] theorem State.loadNewFormat_sag_coil (s : State) : (State.loadNewFormat s).sag.coil = s.sag.coil := by
  simp [State.loadNewFormat]

@[simp] theorem State.formatStep_sag_coil (s : State) : (State.formatStep s).sag.coil = s.sag.coil := by
  simp [State.formatStep]

@[simp] theorem State.loginState_sag_coil (s : State) : (State.loginState s).sag.coil = s.sag.coil := by
  simp [State.loginState]

@[simp] theorem State.toIsolated_sag_coil (s : State) : (State.toIsolated s).sag.coil = s.sag.coil := by
  simp [State.toIsolated]

@[simp] theorem State.toStandby_sag_coil (s : State) : (State.toStandby s).sag.coil = s.sag.coil := by
  simp [State.toStandby]

@[simp] theorem State.toDegraded_sag_coil (s : State) : (State.toDegraded s).sag.coil = s.sag.coil := by
  simp [State.toDegraded]

@[simp] theorem State.fromDegraded_sag_coil (s : State) : (State.fromDegraded s).sag.coil = s.sag.coil := by
  simp [State.fromDegraded]

theorem State.row_sag_coil (s : State) (e : Ev) (t_ : State) (h_ : State.row s e = some t_) : t_.sag.coil = s.sag.coil := by
  revert h_
  unfold State.row
  try dsimp only
  repeat' split
  all_goals (intro h_; first | (cases h_; done) | (cases h_; rfl) | (cases h_; simp; done) | (simp at h_; done) | (simp at h_; subst h_; simp; done))

@[simp] theorem State.takeClass_sag_coil (s : State) (c : Nat) (p0 : List Ev) : (s.takeClass c p0).1.sag.coil = s.sag.coil := by
  induction p0 generalizing s with
  | nil => rfl
  | cons e l ih =>
    simp only [State.takeClass]
    split
    · exact ih s
    · split
      · rename_i h
        exact State.row_sag_coil _ _ _ h
      · exact (ih _).trans (by simp)

@[simp] theorem State.runClass_sag_coil (s : State) (c : Nat) : (State.runClass s c).sag.coil = s.sag.coil := by
  simp [State.runClass]

@[simp] theorem State.runDegraded_sag_coil (s : State) : (State.runDegraded s).sag.coil = s.sag.coil := by
  simp [State.runDegraded]

@[simp] theorem State.stateMachine_sag_coil (s : State) : (State.stateMachine s).sag.coil = s.sag.coil := by
  simp [State.stateMachine]

@[simp] theorem State.spyEnd_sag_coil (s : State) : (State.spyEnd s).sag.coil = s.sag.coil := by
  simp [State.spyEnd]

@[simp] theorem State.tvCorrect_sag_coil (s : State) : (State.tvCorrect s).sag.coil = s.sag.coil := by
  simp [State.tvCorrect]

@[simp] theorem State.mirrorCorrect_sag_coil (s : State) : (State.mirrorCorrect s).sag.coil = s.sag.coil := by
  simp [State.mirrorCorrect]

@[simp] theorem State.tickPins_sag_coil (s : State) (m : TickIn) : (State.tickPins s m).sag.coil = s.sag.coil := by
  simp [State.tickPins]

@[simp] theorem State.degLevels_sag_coil (s : State) : (State.degLevels s).sag.coil = s.sag.coil := by
  simp [State.degLevels]

@[simp] theorem State.degTick_sag_coil (s : State) : (State.degTick s).sag.coil = s.sag.coil := by
  simp [State.degTick]

@[simp] theorem State.strapTick_sag_coil (s : State) : (State.strapTick s).sag.coil = s.sag.coil := by
  simp [State.strapTick]

@[simp] theorem State.slotZero_sag_coil (s : State) : (State.slotZero s).sag.coil = s.sag.coil := by
  simp [State.slotZero]

@[simp] theorem State.writeParam_sag_coil (s : State) (i : Nat) (w : Nat) : (State.writeParam s i w).sag.coil = s.sag.coil := by
  simp [State.writeParam]

@[simp] theorem State.writeEnMask_sag_coil (s : State) (w : Nat) : (State.writeEnMask s w).sag.coil = s.sag.coil := by
  simp [State.writeEnMask]

@[simp] theorem State.leaveIsolated_sag_coil (s : State) : (State.leaveIsolated s).sag.coil = s.sag.coil := by
  simp [State.leaveIsolated]

@[simp] theorem State.switchDomain_sag_coil (s : State) (d : Nat) (on : Bool) : (State.switchDomain s d on).sag.coil = s.sag.coil := by
  simp [State.switchDomain]

@[simp] theorem State.loginOk_sag_coil (s : State) (c : Nat) : (State.loginOk s c).sag.coil = s.sag.coil := by
  simp [State.loginOk]

@[simp] theorem State.stage_sag_coil (s : State) (l : List (Nat × Int)) : (State.stage s l).sag.coil = s.sag.coil := by
  simp [State.stage]

@[simp] theorem State.sagAbort_sag_coil (s : State) : (State.sagAbort s).sag.coil = s.sag.coil := by
  simp [State.sagAbort]

@[simp] theorem State.clogAckTo_sag_coil (s : State) (q : Nat) (source : Nat) : (State.clogAckTo s q source).sag.coil = s.sag.coil := by
  simp [State.clogAckTo]

@[simp] theorem State.sagReply_sag_coil (s : State) (c : Nat) (rb : Bool) : (State.sagReply s c rb).sag.coil = s.sag.coil := by
  simp [State.sagReply]

@[simp] theorem State.postEnd_sag_coil (s : State) (c : Nat) (rb : Bool) : (State.postEnd s c rb).sag.coil = s.sag.coil := by
  unfold State.postEnd
  try dsimp only
  repeat' split
  all_goals (first | rfl | simp)

@[simp] theorem State.mgpGoes_sag_coil (s : State) : (State.mgpGoes s).sag.coil = s.sag.coil := by
  simp [State.mgpGoes]

@[simp] theorem State.mgpBack_sag_coil (s : State) : (State.mgpBack s).sag.coil = s.sag.coil := by
  simp [State.mgpBack]

@[simp] theorem State.formatChange_sag_coil (s : State) (old : Nat) : (State.formatChange s old).sag.coil = s.sag.coil := by
  simp [State.formatChange]

@[simp] theorem State.newReady_sag_coil (s : State) : (State.newReady s).sag.coil = s.sag.coil := by
  simp [State.newReady]

@[simp] theorem State.oldReady_sag_coil (s : State) : (State.oldReady s).sag.coil = s.sag.coil := by
  simp [State.oldReady]

theorem State.takeFlight_sag_coil (s : State) (n : Nat) (t_ : NodeCmd × State) (h_ : State.takeFlight s n = some t_) : t_.2.sag.coil = s.sag.coil := by
  revert h_
  unfold State.takeFlight
  try dsimp only
  repeat' split
  all_goals (intro h_; first | (cases h_; done) | (cases h_; rfl) | (cases h_; simp; done) | (simp at h_; done) | (simp at h_; subst h_; simp; done))

end Sys2Proof.Machine
end

