-- ==== Sys2Proof/Laws/FrameLatch.lean ====
section
/-! SUPPORT. The shared operations that leave the latch of the saggar unchanged, one lemma an operation. -/

namespace Sys2Proof.Machine

/-- A fold of updates that keep the field keeps it. -/
@[simp] theorem State.sag_latch_foldl {β : Type} (f : State → β → State) (l : List β) (s : State) (h : ∀ t x, (f t x).sag.latch = t.sag.latch) :
    (l.foldl f s).sag.latch = s.sag.latch := by
  induction l generalizing s with
  | nil => rfl
  | cons x l ih => rw [List.foldl_cons, ih, h]

/-- The field of a choice of states. -/
@[simp] theorem State.sag_latch_ite (c : Prop) [Decidable c] (a b : State) : (if c then a else b).sag.latch = if c then a.sag.latch else b.sag.latch := by
  split <;> rfl

/-- A fold of updates beside a value. -/
@[simp] theorem State.sag_latch_foldlp {α β : Type} (f : State × α → β → State × α) (l : List β) (p : State × α)
    (h : ∀ t x, (f t x).1.sag.latch = t.1.sag.latch) : (l.foldl f p).1.sag.latch = p.1.sag.latch := by
  induction l generalizing p with
  | nil => rfl
  | cons x l ih => rw [List.foldl_cons, ih, h]

/-- The field of a choice of states beside a value. -/
@[simp] theorem State.sag_latch_itep {α : Type} (c : Prop) [Decidable c] (a b : State × α) :
    (if c then a else b).1.sag.latch = if c then a.1.sag.latch else b.1.sag.latch := by
  split <;> rfl

/-- The field of a choice of saggars. -/
@[simp] theorem State.sag_latch_sub (c : Prop) [Decidable c] (a b : Sag) : (if c then a else b).latch = if c then a.latch else b.latch := by
  split <;> rfl

@[simp] theorem State.coilService1_sag_latch (s : State) (k : Nat) : (State.coilService1 s k).sag.latch = s.sag.latch := by
  unfold State.coilService1
  try dsimp only
  repeat' split
  all_goals (first | rfl | simp)

@[simp] theorem State.coilService_sag_latch (s : State) : (State.coilService s).sag.latch = s.sag.latch := by
  simp [State.coilService]

@[simp] theorem State.degStart_sag_latch (s : State) : (State.degStart s).sag.latch = s.sag.latch := by
  simp [State.degStart]

@[simp] theorem State.sendStatus_sag_latch (s : State) : (State.sendStatus s).sag.latch = s.sag.latch := by
  simp [State.sendStatus]

@[simp] theorem State.dropOutputs_sag_latch (s : State) : (State.dropOutputs s).sag.latch = s.sag.latch := by
  simp [State.dropOutputs]

@[simp] theorem State.degPhase_sag_latch (s : State) : (State.degPhase s).sag.latch = s.sag.latch := by
  simp [State.degPhase]

@[simp] theorem State.phaseFault_sag_latch (s : State) (p : Nat) (c : Nat) : (State.phaseFault s p c).sag.latch = s.sag.latch := by
  simp [State.phaseFault]

@[simp] theorem State.harnessFault_sag_latch (s : State) (h : Nat) (c : Nat) : (State.harnessFault s h c).sag.latch = s.sag.latch := by
  simp [State.harnessFault]

@[simp] theorem State.abandonTrk_sag_latch (s : State) (kind : Nat) (sev : Nat) : (State.abandonTrk s kind sev).sag.latch = s.sag.latch := by
  simp [State.abandonTrk]

@[simp] theorem State.dropCo3_sag_latch (s : State) : (State.dropCo3 s).sag.latch = s.sag.latch := by
  simp [State.dropCo3]

@[simp] theorem State.outerEval_sag_latch (s : State) (now : Nat) (dtNs : Nat) : (State.outerEval s now dtNs).sag.latch = s.sag.latch := by
  unfold State.outerEval
  try dsimp only
  repeat' split
  all_goals (first | rfl | simp)

@[simp] theorem State.missDeadline_sag_latch (s : State) (now : Nat) : (State.missDeadline s now).sag.latch = s.sag.latch := by
  simp [State.missDeadline]

@[simp] theorem State.observe_sag_latch (s : State) (p : Nat) (m : EvalIn) (ma : Int) : (State.observe s p m ma).sag.latch = s.sag.latch := by
  simp [State.observe]

@[simp] theorem State.unlessPilot_sag_latch (s t : State) (h : t.sag.latch = s.sag.latch) : (s.unlessPilot t).sag.latch = s.sag.latch := by
  unfold State.unlessPilot
  split <;> simp [h]

@[simp] theorem State.linkFrameStart_sag_latch (s : State) : (State.linkFrameStart s).sag.latch = s.sag.latch := by
  simp [State.linkFrameStart]

@[simp] theorem State.writeStale_sag_latch (s : State) (n : Nat) (own : Nat) (rep : Option Nat) : (State.writeStale s n own rep).sag.latch = s.sag.latch := by
  simp [State.writeStale]

@[simp] theorem State.degWire_sag_latch (s : State) : (State.degWire s).sag.latch = s.sag.latch := by
  simp [State.degWire]

@[simp] theorem State.openWire_sag_latch (s : State) (n : Nat) (k : Nat) (tval : Int) : (State.openWire s n k tval).sag.latch = s.sag.latch := by
  simp [State.openWire]

@[simp] theorem State.testResult_sag_latch (s : State) (n : Nat) (r : Report) : (State.testResult s n r).sag.latch = s.sag.latch := by
  simp [State.testResult]

@[simp] theorem State.sagSweep_sag_latch (s : State) (n : Nat) (r : Report) : (State.sagSweep s n r).sag.latch = s.sag.latch := by
  simp [State.sagSweep]

@[simp] theorem State.writeValid_sag_latch (s : State) (n : Nat) (r : Report) : (State.writeValid s n r).sag.latch = s.sag.latch := by
  simp [State.writeValid]

@[simp] theorem State.sweep_sag_latch (s : State) (u : Nat) (n : Nat) (rxLt : Nat) (p : List Byte) : (State.sweep s u n rxLt p).sag.latch = s.sag.latch := by
  simp [State.sweep]

@[simp] theorem State.nodeEnd_sag_latch (s : State) (n : Nat) : (State.nodeEnd s n).sag.latch = s.sag.latch := by
  simp [State.nodeEnd]

@[simp] theorem State.stringSum_sag_latch (s : State) : (State.stringSum s).sag.latch = s.sag.latch := by
  simp [State.stringSum]

@[simp] theorem State.degLost_sag_latch (s : State) : (State.degLost s).sag.latch = s.sag.latch := by
  simp [State.degLost]

@[simp] theorem State.measureEnd_sag_latch (s : State) : (State.measureEnd s).sag.latch = s.sag.latch := by
  simp [State.measureEnd]

@[simp] theorem State.degThermal_sag_latch (s : State) : (State.degThermal s).sag.latch = s.sag.latch := by
  simp [State.degThermal]

@[simp] theorem State.thmTick_sag_latch (s : State) : (State.thmTick s).sag.latch = s.sag.latch := by
  simp [State.thmTick]

@[simp] theorem State.frameEndWork_sag_latch (s : State) : (State.frameEndWork s).sag.latch = s.sag.latch := by
  simp [State.frameEndWork]

@[simp] theorem State.alignStat_sag_latch (s : State) : (State.alignStat s).sag.latch = s.sag.latch := by
  simp [State.alignStat]

@[simp] theorem State.stepTime_sag_latch (s : State) : (State.stepTime s).sag.latch = s.sag.latch := by
  unfold State.stepTime
  try dsimp only
  repeat' split
  all_goals (first | rfl | simp)

@[simp] theorem State.ceFrameStart_sag_latch (s : State) : (State.ceFrameStart s).sag.latch = s.sag.latch := by
  simp [State.ceFrameStart]

@[simp] theorem State.frameStart_sag_latch (s : State) : (State.frameStart s).sag.latch = s.sag.latch := by
  simp [State.frameStart]

@[simp] theorem State.loadBoot_sag_latch (s : State) : (State.loadBoot s).sag.latch = s.sag.latch := by
  simp [State.loadBoot]

@[simp] theorem State.startFsq_sag_latch (s : State) : (State.startFsq s).sag.latch = s.sag.latch := by
  simp [State.startFsq]

@[simp] theorem State.bootReselect_sag_latch (s : State) : (State.bootReselect s).sag.latch = s.sag.latch := by
  simp [State.bootReselect]

@[simp] theorem State.diag_sag_latch (s : State) (k : Nat) (bad : Bool) : (State.diag s k bad).sag.latch = s.sag.latch := by
  simp [State.diag]

@[simp] theorem State.slotSkip_sag_latch (s : State) (sw : Nat) : (State.slotSkip s sw).sag.latch = s.sag.latch := by
  simp [State.slotSkip]

@[simp] theorem State.degSession_sag_latch (s : State) : (State.degSession s).sag.latch = s.sag.latch := by
  simp [State.degSession]

@[simp] theorem State.degNet_sag_latch (s : State) : (State.degNet s).sag.latch = s.sag.latch := by
  simp [State.degNet]

@[simp] theorem State.pduMiss_sag_latch (s : State) : (State.pduMiss s).sag.latch = s.sag.latch := by
  simp [State.pduMiss]

@[simp] theorem State.pduHeard_sag_latch (s : State) (p : PortId) (h : Net) : (State.pduHeard s p h).sag.latch = s.sag.latch := by
  simp [State.pduHeard]

@[simp] theorem State.clogAdd_sag_latch (s : State) (kind : Nat) (source : Nat) (index : Nat) (old : Int) (new : Int) : (State.clogAdd s kind source index old new).sag.latch = s.sag.latch := by
  simp [State.clogAdd]

@[simp] theorem State.cfgCommit_sag_latch (s : State) (source : Nat) : (State.cfgCommit s source).sag.latch = s.sag.latch := by
  simp [State.cfgCommit]

@[simp] theorem State.cfgOpen_sag_latch (s : State) (source : Nat) : (State.cfgOpen s source).sag.latch = s.sag.latch := by
  simp [State.cfgOpen]

@[simp] theorem State.cfgEnd_sag_latch (s : State) : (State.cfgEnd s).sag.latch = s.sag.latch := by
  unfold State.cfgEnd
  try dsimp only
  repeat' split
  all_goals (first | rfl | simp)

@[simp] theorem State.cfgFail_sag_latch (s : State) : (State.cfgFail s).sag.latch = s.sag.latch := by
  simp [State.cfgFail]

@[simp] theorem State.loginFails_sag_latch (s : State) (src : Nat) : (State.loginFails s src).sag.latch = s.sag.latch := by
  simp [State.loginFails]

@[simp] theorem State.setPassword_sag_latch (s : State) (pw : List Byte) (source : Nat) : (State.setPassword s pw source).sag.latch = s.sag.latch := by
  simp [State.setPassword]

@[simp] theorem State.readStraps_sag_latch (s : State) : (State.readStraps s).sag.latch = s.sag.latch := by
  simp [State.readStraps]

@[simp] theorem State.allReady_sag_latch (s : State) : (State.allReady s).sag.latch = s.sag.latch := by
  simp [State.allReady]

@[simp] theorem State.testResults_sag_latch (s : State) (r : SelfTest) : (State.testResults s r).sag.latch = s.sag.latch := by
  unfold State.testResults
  try dsimp only
  repeat' split
  all_goals (first | rfl | simp)

@[simp] theorem State.boRamp_sag_latch (s : State) : (State.boRamp s).sag.latch = s.sag.latch := by
  simp [State.boRamp]

@[simp] theorem State.heartbeat_sag_latch (s : State) (h : Partner) (higher : Bool) : (State.heartbeat s h higher).sag.latch = s.sag.latch := by
  simp [State.heartbeat]

@[simp] theorem State.swapFailed_sag_latch (s : State) : (State.swapFailed s).sag.latch = s.sag.latch := by
  simp [State.swapFailed]

@[simp] theorem State.fromCopy_sag_latch (s : State) (m : Mirror) : (State.fromCopy s m).sag.latch = s.sag.latch := by
  simp [State.fromCopy]

@[simp] theorem State.wantFor_sag_latch (s : State) (st : OpState) (disp : Bool) : (State.wantFor s st disp).sag.latch = s.sag.latch := by
  simp [State.wantFor]

@[simp] theorem State.takeOver_sag_latch (s : State) (m : Mirror) (kind : Nat) (gap : Nat) : (State.takeOver s m kind gap).sag.latch = s.sag.latch := by
  simp [State.takeOver]

@[simp] theorem State.passOwner_sag_latch (s : State) (now : Nat) (gap : Nat) : (State.passOwner s now gap).sag.latch = s.sag.latch := by
  unfold State.passOwner
  dsimp only
  split
  · simp
  · split <;> simp

@[simp] theorem State.dueOwner_sag_latch (s : State) (now : Nat) : (State.dueOwner s now).sag.latch = s.sag.latch := by
  unfold State.dueOwner
  try dsimp only
  repeat' split
  all_goals (first | rfl | simp)

@[simp] theorem State.settingDone_sag_latch (s : State) (i : Nat) (v : Int) (old : Int) : (State.settingDone s i v old).sag.latch = s.sag.latch := by
  simp [State.settingDone]

@[simp] theorem State.putSetting_sag_latch (s : State) (i : Nat) (v : Int) : (State.putSetting s i v).sag.latch = s.sag.latch := by
  unfold State.putSetting
  try dsimp only
  repeat' split
  all_goals (first | rfl | simp)

@[simp] theorem State.toDefault_sag_latch (s : State) (i : Nat) : (State.toDefault s i).sag.latch = s.sag.latch := by
  unfold State.toDefault
  try dsimp only
  repeat' split
  all_goals (first | rfl | simp)

@[simp] theorem State.settingsDefault_sag_latch (s : State) : (State.settingsDefault s).sag.latch = s.sag.latch := by
  simp [State.settingsDefault]

@[simp] theorem State.toNewFormat_sag_latch (s : State) (i : Nat) : (State.toNewFormat s i).sag.latch = s.sag.latch := by
  simp [State.toNewFormat]

@[simp] theorem State.loadNewFormat_sag_latch (s : State) : (State.loadNewFormat s).sag.latch = s.sag.latch := by
  simp [State.loadNewFormat]

@[simp] theorem State.formatStep_sag_latch (s : State) : (State.formatStep s).sag.latch = s.sag.latch := by
  simp [State.formatStep]

@[simp] theorem State.loginState_sag_latch (s : State) : (State.loginState s).sag.latch = s.sag.latch := by
  simp [State.loginState]

@[simp] theorem State.toIsolated_sag_latch (s : State) : (State.toIsolated s).sag.latch = s.sag.latch := by
  simp [State.toIsolated]

@[simp] theorem State.toStandby_sag_latch (s : State) : (State.toStandby s).sag.latch = s.sag.latch := by
  simp [State.toStandby]

@[simp] theorem State.toDegraded_sag_latch (s : State) : (State.toDegraded s).sag.latch = s.sag.latch := by
  simp [State.toDegraded]

@[simp] theorem State.fromDegraded_sag_latch (s : State) : (State.fromDegraded s).sag.latch = s.sag.latch := by
  simp [State.fromDegraded]

theorem State.row_sag_latch (s : State) (e : Ev) (t_ : State) (h_ : State.row s e = some t_) : t_.sag.latch = s.sag.latch := by
  revert h_
  unfold State.row
  try dsimp only
  repeat' split
  all_goals (intro h_; first | (cases h_; done) | (cases h_; rfl) | (cases h_; simp; done) | (simp at h_; done) | (simp at h_; subst h_; simp; done))

@[simp] theorem State.takeClass_sag_latch (s : State) (c : Nat) (p0 : List Ev) : (s.takeClass c p0).1.sag.latch = s.sag.latch := by
  induction p0 generalizing s with
  | nil => rfl
  | cons e l ih =>
    simp only [State.takeClass]
    split
    · exact ih s
    · split
      · rename_i h
        exact State.row_sag_latch _ _ _ h
      · exact (ih _).trans (by simp)

@[simp] theorem State.runClass_sag_latch (s : State) (c : Nat) : (State.runClass s c).sag.latch = s.sag.latch := by
  simp [State.runClass]

@[simp] theorem State.runDegraded_sag_latch (s : State) : (State.runDegraded s).sag.latch = s.sag.latch := by
  simp [State.runDegraded]

@[simp] theorem State.stateMachine_sag_latch (s : State) : (State.stateMachine s).sag.latch = s.sag.latch := by
  simp [State.stateMachine]

@[simp] theorem State.spyEnd_sag_latch (s : State) : (State.spyEnd s).sag.latch = s.sag.latch := by
  simp [State.spyEnd]

@[simp] theorem State.tvCorrect_sag_latch (s : State) : (State.tvCorrect s).sag.latch = s.sag.latch := by
  simp [State.tvCorrect]

@[simp] theorem State.mirrorCorrect_sag_latch (s : State) : (State.mirrorCorrect s).sag.latch = s.sag.latch := by
  simp [State.mirrorCorrect]

@[simp] theorem State.tickPins_sag_latch (s : State) (m : TickIn) : (State.tickPins s m).sag.latch = s.sag.latch := by
  simp [State.tickPins]

@[simp] theorem State.degLevels_sag_latch (s : State) : (State.degLevels s).sag.latch = s.sag.latch := by
  simp [State.degLevels]

@[simp] theorem State.degTick_sag_latch (s : State) : (State.degTick s).sag.latch = s.sag.latch := by
  simp [State.degTick]

@[simp] theorem State.strapTick_sag_latch (s : State) : (State.strapTick s).sag.latch = s.sag.latch := by
  simp [State.strapTick]

@[simp] theorem State.slotZero_sag_latch (s : State) : (State.slotZero s).sag.latch = s.sag.latch := by
  simp [State.slotZero]

@[simp] theorem State.writeParam_sag_latch (s : State) (i : Nat) (w : Nat) : (State.writeParam s i w).sag.latch = s.sag.latch := by
  simp [State.writeParam]

@[simp] theorem State.writePermit_sag_latch (s : State) (w : Nat) : (State.writePermit s w).sag.latch = s.sag.latch := by
  simp [State.writePermit]

@[simp] theorem State.writeEnMask_sag_latch (s : State) (w : Nat) : (State.writeEnMask s w).sag.latch = s.sag.latch := by
  simp [State.writeEnMask]

@[simp] theorem State.toPrecharge_sag_latch (s : State) : (State.toPrecharge s).sag.latch = s.sag.latch := by
  simp [State.toPrecharge]

@[simp] theorem State.openStart_sag_latch (s : State) : (State.openStart s).sag.latch = s.sag.latch := by
  simp [State.openStart]

@[simp] theorem State.switchDomain_sag_latch (s : State) (d : Nat) (on : Bool) : (State.switchDomain s d on).sag.latch = s.sag.latch := by
  simp [State.switchDomain]

@[simp] theorem State.loginOk_sag_latch (s : State) (c : Nat) : (State.loginOk s c).sag.latch = s.sag.latch := by
  simp [State.loginOk]

@[simp] theorem State.stage_sag_latch (s : State) (l : List (Nat × Int)) : (State.stage s l).sag.latch = s.sag.latch := by
  simp [State.stage]

@[simp] theorem State.sagAbort_sag_latch (s : State) : (State.sagAbort s).sag.latch = s.sag.latch := by
  simp [State.sagAbort]

@[simp] theorem State.clogAckTo_sag_latch (s : State) (q : Nat) (source : Nat) : (State.clogAckTo s q source).sag.latch = s.sag.latch := by
  simp [State.clogAckTo]

@[simp] theorem State.sagReply_sag_latch (s : State) (c : Nat) (rb : Bool) : (State.sagReply s c rb).sag.latch = s.sag.latch := by
  simp [State.sagReply]

@[simp] theorem State.postEnd_sag_latch (s : State) (c : Nat) (rb : Bool) : (State.postEnd s c rb).sag.latch = s.sag.latch := by
  unfold State.postEnd
  try dsimp only
  repeat' split
  all_goals (first | rfl | simp)

@[simp] theorem State.mgpGoes_sag_latch (s : State) : (State.mgpGoes s).sag.latch = s.sag.latch := by
  simp [State.mgpGoes]

@[simp] theorem State.mgpBack_sag_latch (s : State) : (State.mgpBack s).sag.latch = s.sag.latch := by
  simp [State.mgpBack]

@[simp] theorem State.formatChange_sag_latch (s : State) (old : Nat) : (State.formatChange s old).sag.latch = s.sag.latch := by
  simp [State.formatChange]

@[simp] theorem State.oldReady_sag_latch (s : State) : (State.oldReady s).sag.latch = s.sag.latch := by
  simp [State.oldReady]

theorem State.takeFlight_sag_latch (s : State) (n : Nat) (t_ : NodeCmd × State) (h_ : State.takeFlight s n = some t_) : t_.2.sag.latch = s.sag.latch := by
  revert h_
  unfold State.takeFlight
  try dsimp only
  repeat' split
  all_goals (intro h_; first | (cases h_; done) | (cases h_; rfl) | (cases h_; simp; done) | (simp at h_; done) | (simp at h_; subst h_; simp; done))

end Sys2Proof.Machine
end

