-- ==== Sys2Proof/Laws/FrameNodes.lean ====
section
/-! SUPPORT. The shared operations that leave the nodes unchanged, one lemma an operation. -/

namespace Sys2Proof.Machine

/-- A fold of updates that keep the field keeps it. -/
@[simp] theorem State.nodes_foldl {β : Type} (f : State → β → State) (l : List β) (s : State) (h : ∀ t x, (f t x).nodes = t.nodes) :
    (l.foldl f s).nodes = s.nodes := by
  induction l generalizing s with
  | nil => rfl
  | cons x l ih => rw [List.foldl_cons, ih, h]

/-- The field of a choice of states. -/
@[simp] theorem State.nodes_ite (c : Prop) [Decidable c] (a b : State) : (if c then a else b).nodes = if c then a.nodes else b.nodes := by
  split <;> rfl

/-- A fold of updates beside a value. -/
@[simp] theorem State.nodes_foldlp {α β : Type} (f : State × α → β → State × α) (l : List β) (p : State × α)
    (h : ∀ t x, (f t x).1.nodes = t.1.nodes) : (l.foldl f p).1.nodes = p.1.nodes := by
  induction l generalizing p with
  | nil => rfl
  | cons x l ih => rw [List.foldl_cons, ih, h]

/-- The field of a choice of states beside a value. -/
@[simp] theorem State.nodes_itep {α : Type} (c : Prop) [Decidable c] (a b : State × α) :
    (if c then a else b).1.nodes = if c then a.1.nodes else b.1.nodes := by
  split <;> rfl

@[simp] theorem State.logPost_nodes (s : State) (src : Nat) (code : Nat) (sev : Nat) (data : List Nat) : (State.logPost s src code sev data).nodes = s.nodes := by
  simp [State.logPost]

@[simp] theorem State.sendFrom_nodes (s : State) (p : PortId) (addr : Nat) (udp : Nat) (b : List Byte) : (State.sendFrom s p addr udp b).nodes = s.nodes := by
  simp [State.sendFrom]

@[simp] theorem State.sendAttn_nodes (s : State) (x : Session) (m : Attn) (p : PortId) (again : Bool) : (State.sendAttn s x m p again).nodes = s.nodes := by
  simp [State.sendAttn]

@[simp] theorem State.lostNote_nodes (s : State) (i : Nat) : (State.lostNote s i).nodes = s.nodes := by
  unfold State.lostNote
  try dsimp only
  repeat' split
  all_goals (first | rfl | simp)

@[simp] theorem State.attnTo_nodes (s : State) (m : Attn) (i : Nat) : (State.attnTo s m i).nodes = s.nodes := by
  unfold State.attnTo
  try dsimp only
  repeat' split
  all_goals (first | rfl | simp)

@[simp] theorem State.attn_nodes (s : State) (code : Nat) (sev : Nat) (data : List Nat) : (State.attn s code sev data).nodes = s.nodes := by
  simp [State.attn]

@[simp] theorem State.announce_nodes (s : State) : (State.announce s).nodes = s.nodes := by
  simp [State.announce]

@[simp] theorem State.clearSetpoints_nodes (s : State) : (State.clearSetpoints s).nodes = s.nodes := by
  simp [State.clearSetpoints]

@[simp] theorem State.syncMode_nodes (s : State) : (State.syncMode s).nodes = s.nodes := by
  simp [State.syncMode]

@[simp] theorem State.leaveSetpoints_nodes (s : State) : (State.leaveSetpoints s).nodes = s.nodes := by
  simp [State.leaveSetpoints]

@[simp] theorem State.outputsRest_nodes (s : State) : (State.outputsRest s).nodes = s.nodes := by
  unfold State.outputsRest
  try dsimp only
  repeat' split
  all_goals (first | rfl | simp)

@[simp] theorem State.enter_nodes (s : State) (st : OpState) (b : OpState) : (State.enter s st b).nodes = s.nodes := by
  simp [State.enter]

@[simp] theorem State.enterEff_nodes (s : State) (st : OpState) : (State.enterEff s st).nodes = s.nodes := by
  simp [State.enterEff]

@[simp] theorem State.coilService1_nodes (s : State) (k : Nat) : (State.coilService1 s k).nodes = s.nodes := by
  simp [State.coilService1]

@[simp] theorem State.coilService_nodes (s : State) : (State.coilService s).nodes = s.nodes := by
  simp [State.coilService]

@[simp] theorem State.degStart_nodes (s : State) : (State.degStart s).nodes = s.nodes := by
  simp [State.degStart]

@[simp] theorem State.pairSend_nodes (s : State) (kind : Nat) (body : List Byte) : (State.pairSend s kind body).nodes = s.nodes := by
  simp [State.pairSend]

@[simp] theorem State.swapSend_nodes (s : State) (sub : Nat) (b : Nat) : (State.swapSend s sub b).nodes = s.nodes := by
  simp [State.swapSend]

@[simp] theorem State.sendStatus_nodes (s : State) : (State.sendStatus s).nodes = s.nodes := by
  simp [State.sendStatus]

@[simp] theorem State.dropOutputs_nodes (s : State) : (State.dropOutputs s).nodes = s.nodes := by
  simp [State.dropOutputs]

@[simp] theorem State.swapAbandon_nodes (s : State) : (State.swapAbandon s).nodes = s.nodes := by
  unfold State.swapAbandon
  try dsimp only
  repeat' split
  all_goals (first | rfl | simp)

@[simp] theorem State.isolate_nodes (s : State) (c : Nat) : (State.isolate s c).nodes = s.nodes := by
  simp [State.isolate]

@[simp] theorem State.isoCatchUp_nodes (s : State) : (State.isoCatchUp s).nodes = s.nodes := by
  unfold State.isoCatchUp
  try dsimp only
  repeat' split
  all_goals (first | rfl | simp)

@[simp] theorem State.lostCatchUp_nodes (s : State) : (State.lostCatchUp s).nodes = s.nodes := by
  simp [State.lostCatchUp]

@[simp] theorem State.degPhase_nodes (s : State) : (State.degPhase s).nodes = s.nodes := by
  simp [State.degPhase]

@[simp] theorem State.phaseFault_nodes (s : State) (p : Nat) (c : Nat) : (State.phaseFault s p c).nodes = s.nodes := by
  simp [State.phaseFault]

@[simp] theorem State.requestSwap_nodes (s : State) : (State.requestSwap s).nodes = s.nodes := by
  simp [State.requestSwap]

@[simp] theorem State.autoSwap_nodes (s : State) : (State.autoSwap s).nodes = s.nodes := by
  simp [State.autoSwap]

@[simp] theorem State.addPhases_nodes (s : State) (req : Nat) : (State.addPhases s req).nodes = s.nodes := by
  simp [State.addPhases]

@[simp] theorem State.loadStep_nodes (s : State) : (State.loadStep s).nodes = s.nodes := by
  simp [State.loadStep]

@[simp] theorem State.startOrdered_nodes (s : State) : (State.startOrdered s).nodes = s.nodes := by
  simp [State.startOrdered]

@[simp] theorem State.startShed_nodes (s : State) (p : Nat) : (State.startShed s p).nodes = s.nodes := by
  simp [State.startShed]

@[simp] theorem State.shedDisabled_nodes (s : State) : (State.shedDisabled s).nodes = s.nodes := by
  simp [State.shedDisabled]

@[simp] theorem State.decidePhases_nodes (s : State) : (State.decidePhases s).nodes = s.nodes := by
  unfold State.decidePhases
  try dsimp only
  repeat' split
  all_goals (first | rfl | simp)

@[simp] theorem State.retarget_nodes (s : State) : (State.retarget s).nodes = s.nodes := by
  simp [State.retarget]

@[simp] theorem State.burstStart_nodes (s : State) : (State.burstStart s).nodes = s.nodes := by
  simp [State.burstStart]

@[simp] theorem State.burstStep_nodes (s : State) : (State.burstStep s).nodes = s.nodes := by
  simp [State.burstStep]

@[simp] theorem State.loopBurst_nodes (s : State) : (State.loopBurst s).nodes = s.nodes := by
  simp [State.loopBurst]

@[simp] theorem State.boundaryCounts_nodes (s : State) : (State.boundaryCounts s).nodes = s.nodes := by
  simp [State.boundaryCounts]

@[simp] theorem State.boundaryPhases_nodes (s : State) : (State.boundaryPhases s).nodes = s.nodes := by
  simp [State.boundaryPhases]

@[simp] theorem State.refBoundary_nodes (s : State) : (State.refBoundary s).nodes = s.nodes := by
  simp [State.refBoundary]

@[simp] theorem State.harnessFault_nodes (s : State) (h : Nat) (c : Nat) : (State.harnessFault s h c).nodes = s.nodes := by
  simp [State.harnessFault]

@[simp] theorem State.abandonTrk_nodes (s : State) (kind : Nat) (sev : Nat) : (State.abandonTrk s kind sev).nodes = s.nodes := by
  simp [State.abandonTrk]

@[simp] theorem State.trackStart_nodes (s : State) : (State.trackStart s).nodes = s.nodes := by
  simp [State.trackStart]

@[simp] theorem State.stopStart_nodes (s : State) (rate : Option Nat) : (State.stopStart s rate).nodes = s.nodes := by
  simp [State.stopStart]

@[simp] theorem State.dropCo3_nodes (s : State) : (State.dropCo3 s).nodes = s.nodes := by
  simp [State.dropCo3]

@[simp] theorem State.applyOuter_nodes (s : State) : (State.applyOuter s).nodes = s.nodes := by
  simp [State.applyOuter]

@[simp] theorem State.loadAtBoundary_nodes (s : State) : (State.loadAtBoundary s).nodes = s.nodes := by
  simp [State.loadAtBoundary]

@[simp] theorem State.queuePdu_nodes (s : State) (now : Nat) (apply : Nat) (mode : Nat) (v : Int) : (State.queuePdu s now apply mode v).nodes = s.nodes := by
  unfold State.queuePdu
  try dsimp only
  repeat' split
  all_goals (first | rfl | simp)

@[simp] theorem State.regCommand_nodes (s : State) (m : Nat) (v : Int) : (State.regCommand s m v).nodes = s.nodes := by
  simp [State.regCommand]

@[simp] theorem State.takeCmd_nodes (s0 : State) (c : SetCmd) : (State.takeCmd s0 c).nodes = s0.nodes := by
  simp [State.takeCmd]

@[simp] theorem State.intake_nodes (s : State) (now : Nat) : (State.intake s now).nodes = s.nodes := by
  simp [State.intake]

@[simp] theorem State.limits_nodes (s : State) (dt : Rat) : (State.limits s dt).nodes = s.nodes := by
  simp [State.limits]

@[simp] theorem State.probeSuspend_nodes (s : State) : (State.probeSuspend s).nodes = s.nodes := by
  simp [State.probeSuspend]

@[simp] theorem State.applyClamp_nodes (s : State) (q : Rat) (dtNs : Nat) : (State.applyClamp s q dtNs).1.nodes = s.nodes := by
  simp [State.applyClamp]

@[simp] theorem State.holdTones_nodes (s : State) : (State.holdTones s).nodes = s.nodes := by
  simp [State.holdTones]

@[simp] theorem State.outerLoop_nodes (s : State) (q : Rat) (dtNs : Nat) : (State.outerLoop s q dtNs).nodes = s.nodes := by
  simp [State.outerLoop]

@[simp] theorem State.startMode_nodes (s : State) (m : Nat) : (State.startMode s m).nodes = s.nodes := by
  simp [State.startMode]

@[simp] theorem State.modeChange_nodes (s : State) : (State.modeChange s).nodes = s.nodes := by
  simp [State.modeChange]

@[simp] theorem State.droopStep_nodes (s : State) : (State.droopStep s).nodes = s.nodes := by
  simp [State.droopStep]

@[simp] theorem State.droop_nodes (s : State) : (State.droop s).nodes = s.nodes := by
  simp [State.droop]

@[simp] theorem State.trackTick_nodes (s : State) (dt : Rat) : (State.trackTick s dt).nodes = s.nodes := by
  simp [State.trackTick]

@[simp] theorem State.holdTick_nodes (s0 : State) (dt : Rat) : (State.holdTick s0 dt).nodes = s0.nodes := by
  simp [State.holdTick]

@[simp] theorem State.setRef_nodes (s : State) (q : Rat) (dtNs : Nat) : (State.setRef s q dtNs).nodes = s.nodes := by
  simp [State.setRef]

@[simp] theorem State.linkRef_nodes (s : State) (dtNs : Nat) : (State.linkRef s dtNs).nodes = s.nodes := by
  simp [State.linkRef]

@[simp] theorem State.calRampTick_nodes (s : State) (dtNs : Nat) (dt : Rat) : (State.calRampTick s dtNs dt).nodes = s.nodes := by
  simp [State.calRampTick]

@[simp] theorem State.dispatchEval_nodes (s : State) (now : Nat) (dtNs : Nat) (dt : Rat) : (State.dispatchEval s now dtNs dt).nodes = s.nodes := by
  simp [State.dispatchEval]

@[simp] theorem State.stopEval_nodes (s : State) (now : Nat) (dtNs : Nat) (dt : Rat) : (State.stopEval s now dtNs dt).nodes = s.nodes := by
  simp [State.stopEval]

@[simp] theorem State.outerEval_nodes (s : State) (now : Nat) (dtNs : Nat) : (State.outerEval s now dtNs).nodes = s.nodes := by
  unfold State.outerEval
  try dsimp only
  repeat' split
  all_goals (first | rfl | simp)

@[simp] theorem State.missDeadline_nodes (s : State) (now : Nat) : (State.missDeadline s now).nodes = s.nodes := by
  simp [State.missDeadline]

@[simp] theorem State.tonesAt_nodes (s0 : State) (now : Nat) : (State.tonesAt s0 now).nodes = s0.nodes := by
  simp [State.tonesAt]

@[simp] theorem State.isum_nodes (s : State) : (State.isum s).nodes = s.nodes := by
  simp [State.isum]

@[simp] theorem State.innerEval_nodes (s : State) (p : Nat) (m : EvalIn) : (State.innerEval s p m).nodes = s.nodes := by
  simp [State.innerEval]

@[simp] theorem State.rampStep_nodes (s : State) (p : Nat) (m : EvalIn) : (State.rampStep s p m).nodes = s.nodes := by
  simp [State.rampStep]

@[simp] theorem State.brakeStep_nodes (s : State) (p : Nat) (m : EvalIn) : (State.brakeStep s p m).nodes = s.nodes := by
  simp [State.brakeStep]

@[simp] theorem State.deStep_nodes (s : State) (p : Nat) (m : EvalIn) : (State.deStep s p m).nodes = s.nodes := by
  simp [State.deStep]

@[simp] theorem State.issue_nodes (s : State) (p : Nat) (m : EvalIn) : (State.issue s p m).nodes = s.nodes := by
  simp [State.issue]

@[simp] theorem State.observe_nodes (s : State) (p : Nat) (m : EvalIn) (ma : Int) : (State.observe s p m ma).nodes = s.nodes := by
  simp [State.observe]

@[simp] theorem State.updatePoint_nodes (s : State) (p : Nat) (m : EvalIn) : (State.updatePoint s p m).nodes = s.nodes := by
  simp [State.updatePoint]

@[simp] theorem State.heldPoint_nodes (s0 : State) (p : Nat) (m : EvalIn) : (State.heldPoint s0 p m).nodes = s0.nodes := by
  simp [State.heldPoint]

@[simp] theorem State.ceTap_nodes (s : State) (p : Nat) (m : EvalIn) : (State.ceTap s p m).nodes = s.nodes := by
  unfold State.ceTap
  try dsimp only
  repeat' split
  all_goals (first | rfl | simp)

@[simp] theorem State.evalWrites_nodes (s : State) (p : Nat) (m : EvalIn) : (State.evalWrites s p m).nodes = s.nodes := by
  simp [State.evalWrites]

@[simp] theorem State.logSkip_nodes (s : State) (e : Nat) (w : Nat) (ecc : Bool) : (State.logSkip s e w ecc).nodes = s.nodes := by
  simp [State.logSkip]

@[simp] theorem State.announced_nodes (s : State) (m : EntryIn) : (State.announced s m).nodes = s.nodes := by
  simp [State.announced]

@[simp] theorem State.unlessPilot_nodes (s t : State) (h : t.nodes = s.nodes) : (s.unlessPilot t).nodes = s.nodes := by
  unfold State.unlessPilot
  split <;> simp [h]

@[simp] theorem State.swapAtEnd_nodes (s : State) : (State.swapAtEnd s).nodes = s.nodes := by
  simp [State.swapAtEnd]

@[simp] theorem State.swapAtStart_nodes (s : State) : (State.swapAtStart s).nodes = s.nodes := by
  simp [State.swapAtStart]

@[simp] theorem State.push_nodes (s : State) (scope : Nat) : (State.push s scope).nodes = s.nodes := by
  simp [State.push]

@[simp] theorem State.markSnapshot_nodes (s : State) (w : Nat) : (State.markSnapshot s w).nodes = s.nodes := by
  simp [State.markSnapshot]

@[simp] theorem State.takePoint_nodes (s : State) : (State.takePoint s).nodes = s.nodes := by
  simp [State.takePoint]

@[simp] theorem State.pointBoundary_nodes (s : State) (k : Nat) : (State.pointBoundary s k).nodes = s.nodes := by
  simp [State.pointBoundary]

@[simp] theorem State.tagTone_nodes (s : State) (k : Nat) (e : Nat × Nat × Nat) : (State.tagTone s k e).nodes = s.nodes := by
  simp [State.tagTone]

@[simp] theorem State.probeLatch_nodes (s : State) (i : Nat) : (State.probeLatch s i).nodes = s.nodes := by
  simp [State.probeLatch]

@[simp] theorem State.tint_nodes (s : State) (g : Nat) (arg : Int) : (State.tint s g arg).nodes = s.nodes := by
  simp [State.tint]

@[simp] theorem State.publish_nodes (s : State) (k : Nat) (g : Nat) (z : Nat × Int) (nd : Bool) : (State.publish s k g z nd).nodes = s.nodes := by
  simp [State.publish]

@[simp] theorem State.takePublish_nodes (s : State) : (State.takePublish s).nodes = s.nodes := by
  simp [State.takePublish]

@[simp] theorem State.closeGroup_nodes (s : State) (k : Nat) (g : Nat) (nd : Bool) (a : PointAcc) : (State.closeGroup s k g nd a).1.nodes = s.nodes := by
  simp [State.closeGroup]

@[simp] theorem State.probeTone_nodes (s : State) (g : Nat) (k : Nat) : (State.probeTone s g k).nodes = s.nodes := by
  unfold State.probeTone
  try dsimp only
  repeat' split
  all_goals (first | rfl | simp)

@[simp] theorem State.probeNode_nodes (s : State) (n : Nat) : (State.probeNode s n).nodes = s.nodes := by
  simp [State.probeNode]

@[simp] theorem State.pointOver_nodes (s : State) (k : Nat) (a : PointAcc) : (State.pointOver s k a).nodes = s.nodes := by
  simp [State.pointOver]

@[simp] theorem State.closeRest_nodes (s : State) (k : Nat) (nd : Bool) (a : PointAcc) : (State.closeRest s k nd a).nodes = s.nodes := by
  simp [State.closeRest]

@[simp] theorem State.probeMissed_nodes (s : State) (k : Nat) : (State.probeMissed s k).nodes = s.nodes := by
  simp [State.probeMissed]

@[simp] theorem State.probeEndTone_nodes (s : State) (k : Nat) : (State.probeEndTone s k).nodes = s.nodes := by
  unfold State.probeEndTone
  simp only []
  split <;> simp

@[simp] theorem State.probeSwapTone_nodes (s : State) (k : Nat) : (State.probeSwapTone s k).nodes = s.nodes := by
  simp [State.probeSwapTone]

@[simp] theorem State.probeEnd_nodes (s : State) : (State.probeEnd s).nodes = s.nodes := by
  simp [State.probeEnd]

@[simp] theorem State.loadTones_nodes (s : State) : (State.loadTones s).nodes = s.nodes := by
  simp [State.loadTones]

@[simp] theorem State.probeRestart_nodes (s : State) : (State.probeRestart s).nodes = s.nodes := by
  unfold State.probeRestart
  exact State.nodes_foldl _ _ _ (fun t x => by
    dsimp only
    split <;> split <;> simp)

@[simp] theorem State.advanceEpoch_nodes (s : State) : (State.advanceEpoch s).nodes = s.nodes := by
  simp [State.advanceEpoch]

@[simp] theorem State.takeFc_nodes (s : State) (u : Nat) : (State.takeFc s u).nodes = s.nodes := by
  simp [State.takeFc]

@[simp] theorem State.sendEpoch_nodes (s : State) (u : Nat) (typ : Nat) (ver : Nat) (addr : Nat) (p : List Byte) : (State.sendEpoch s u typ ver addr p).nodes = s.nodes := by
  simp [State.sendEpoch]

@[simp] theorem State.applyBank_nodes (s : State) : (State.applyBank s).nodes = s.nodes := by
  simp [State.applyBank]

@[simp] theorem State.takeAlign_nodes (s : State) : (State.takeAlign s).nodes = s.nodes := by
  simp [State.takeAlign]

@[simp] theorem State.freeze_nodes (s : State) : (State.freeze s).nodes = s.nodes := by
  simp [State.freeze]

@[simp] theorem State.sendBeacon_nodes (s : State) (u : Nat) (txLt : Nat) (startDt : Nat) : (State.sendBeacon s u txLt startDt).nodes = s.nodes := by
  simp [State.sendBeacon]

@[simp] theorem State.sendCmd_nodes (s : State) (u : Nat) (n : Nat) : (State.sendCmd s u n).nodes = s.nodes := by
  unfold State.sendCmd
  try dsimp only
  repeat' split
  all_goals (first | rfl | simp)

@[simp] theorem State.sendReply_nodes (s : State) (u : Nat) (r0 : JoinReply) : (State.sendReply s u r0).nodes = s.nodes := by
  simp [State.sendReply]

@[simp] theorem State.sendDyn_nodes (s : State) (u : Nat) : (State.sendDyn s u).nodes = s.nodes := by
  unfold State.sendDyn
  try dsimp only
  repeat' split
  all_goals (first | rfl | simp)

@[simp] theorem State.rxCount_nodes (s : State) (u : Nat) (n : Nat) (k : RxFail) : (State.rxCount s u n k).nodes = s.nodes := by
  simp [State.rxCount]

@[simp] theorem State.rxAccept_nodes (s : State) (f : RxFrame) : (State.rxAccept s f).nodes = s.nodes := by
  simp [State.rxAccept]

@[simp] theorem State.kackSet_nodes (s : State) (u : Nat) (addr : Nat) (fc : Nat) : (State.kackSet s u addr fc).nodes = s.nodes := by
  simp [State.kackSet]

@[simp] theorem State.joinUnknown_nodes (s : State) (u : Nat) (serial : Nat) : (State.joinUnknown s u serial).nodes = s.nodes := by
  simp [State.joinUnknown]

@[simp] theorem State.queueReply_nodes (s : State) (r : JoinReply) : (State.queueReply s r).nodes = s.nodes := by
  simp [State.queueReply]

@[simp] theorem State.queueCmd_nodes (s : State) (n : Nat) (cmd : Nat) (params : List Nat) (chan : Option Nat) : (State.queueCmd s n cmd params chan).nodes = s.nodes := by
  simp [State.queueCmd]

@[simp] theorem State.radioFrameEnd_nodes (s : State) : (State.radioFrameEnd s).nodes = s.nodes := by
  unfold State.radioFrameEnd
  try dsimp only
  repeat' split
  all_goals (first | rfl | simp)

@[simp] theorem State.updEnd_nodes (s : State) : (State.updEnd s).nodes = s.nodes := by
  simp [State.updEnd]

@[simp] theorem State.updDisturbed_nodes (s : State) : (State.updDisturbed s).nodes = s.nodes := by
  simp [State.updDisturbed]

@[simp] theorem State.updFault_nodes (s : State) (src : Nat) (what : Nat) (item : Nat) : (State.updFault s src what item).nodes = s.nodes := by
  simp [State.updFault]

@[simp] theorem State.confirm_nodes (s : State) : (State.confirm s).nodes = s.nodes := by
  simp [State.confirm]

@[simp] theorem State.rollCheck_nodes (s : State) : (State.rollCheck s).nodes = s.nodes := by
  simp [State.rollCheck]

@[simp] theorem State.rollLeave_nodes (s : State) (n : Nat) : (State.rollLeave s n).nodes = s.nodes := by
  simp [State.rollLeave]

@[simp] theorem State.rollSweep_nodes (s : State) (n : Nat) : (State.rollSweep s n).nodes = s.nodes := by
  simp [State.rollSweep]

@[simp] theorem State.queueTiming_nodes (s : State) (n : Nat) (ns : Nat) : (State.queueTiming s n ns).nodes = s.nodes := by
  simp [State.queueTiming]

@[simp] theorem State.queueLimits_nodes (s : State) (n : Nat) : (State.queueLimits s n).nodes = s.nodes := by
  simp [State.queueLimits]

@[simp] theorem State.logUncounted_nodes (s : State) (qint : Int) : (State.logUncounted s qint).nodes = s.nodes := by
  simp [State.logUncounted]

@[simp] theorem State.latch_nodes (s : State) (w : Nat) (ma : Int) (vStr : Int) (vBus : Int) (dq : Int) : (State.latch s w ma vStr vBus dq).nodes = s.nodes := by
  simp [State.latch]

@[simp] theorem State.modNode_nodes (s : State) (n : Nat) (f : Nat → GroupRec → GroupRec) : (State.modNode s n f).nodes = s.nodes := by
  simp [State.modNode]

@[simp] theorem State.degWire_nodes (s : State) : (State.degWire s).nodes = s.nodes := by
  simp [State.degWire]

@[simp] theorem State.logBst_nodes (s : State) (n : Nat) (p : Nat) (row : Nat) : (State.logBst s n p row).nodes = s.nodes := by
  simp [State.logBst]

@[simp] theorem State.logRow_nodes (s : State) (n : Nat) (r : Nat) (fresh : Nat) : (State.logRow s n r fresh).nodes = s.nodes := by
  simp [State.logRow]

@[simp] theorem State.sagSweep_nodes (s : State) (n : Nat) (r : Report) : (State.sagSweep s n r).nodes = s.nodes := by
  simp [State.sagSweep]

@[simp] theorem State.stringSum_nodes (s : State) : (State.stringSum s).nodes = s.nodes := by
  simp [State.stringSum]

@[simp] theorem State.stringPattern_nodes (s : State) : (State.stringPattern s).nodes = s.nodes := by
  simp [State.stringPattern]

@[simp] theorem State.degLost_nodes (s : State) : (State.degLost s).nodes = s.nodes := by
  simp [State.degLost]

@[simp] theorem State.halfSum_nodes (s : State) (n : Nat) (k : Nat) : (State.halfSum s n k).nodes = s.nodes := by
  simp [State.halfSum]

@[simp] theorem State.voltages_nodes (s : State) (n : Nat) : (State.voltages s n).nodes = s.nodes := by
  simp [State.voltages]

@[simp] theorem State.countRec_nodes (s : State) (g : Nat) (dq : Int) : (State.countRec s g dq).nodes = s.nodes := by
  simp [State.countRec]

@[simp] theorem State.armedCycle_nodes (s : State) (g : Nat) (dq : Int) : (State.armedCycle s g dq).nodes = s.nodes := by
  simp [State.armedCycle]

@[simp] theorem State.fullAnchor_nodes (s : State) (g : Nat) : (State.fullAnchor s g).nodes = s.nodes := by
  simp [State.fullAnchor]

@[simp] theorem State.learn_nodes (s : State) (g : Nat) : (State.learn s g).nodes = s.nodes := by
  simp [State.learn]

@[simp] theorem State.emptyAnchor_nodes (s : State) (g : Nat) : (State.emptyAnchor s g).nodes = s.nodes := by
  simp [State.emptyAnchor]

@[simp] theorem State.ocvAnchor_nodes (s : State) (g : Nat) : (State.ocvAnchor s g).nodes = s.nodes := by
  unfold State.ocvAnchor
  try dsimp only
  repeat' split
  all_goals (first | rfl | simp)

@[simp] theorem State.disagreeCheck_nodes (s : State) (g : Nat) : (State.disagreeCheck s g).nodes = s.nodes := by
  simp [State.disagreeCheck]

@[simp] theorem State.cutoffCheck_nodes (s : State) (g : Nat) : (State.cutoffCheck s g).nodes = s.nodes := by
  simp [State.cutoffCheck]

@[simp] theorem State.qRepUpdate_nodes (s : State) (g : Nat) : (State.qRepUpdate s g).nodes = s.nodes := by
  simp [State.qRepUpdate]

@[simp] theorem State.chargeGroup_nodes (s : State) (g : Nat) : (State.chargeGroup s g).nodes = s.nodes := by
  simp [State.chargeGroup]

@[simp] theorem State.chargeNode_nodes (s : State) (n : Nat) : (State.chargeNode s n).nodes = s.nodes := by
  simp [State.chargeNode]

@[simp] theorem State.coneNode_nodes (s : State) (n : Nat) : (State.coneNode s n).nodes = s.nodes := by
  simp [State.coneNode]

@[simp] theorem State.direction_nodes (s0 : State) : (State.direction s0).nodes = s0.nodes := by
  simp [State.direction]

@[simp] theorem State.balLosses_nodes (s : State) : (State.balLosses s).nodes = s.nodes := by
  simp [State.balLosses]

@[simp] theorem State.stringReports_nodes (s : State) : (State.stringReports s).nodes = s.nodes := by
  simp [State.stringReports]

@[simp] theorem State.estLimits_nodes (s : State) : (State.estLimits s).nodes = s.nodes := by
  simp [State.estLimits]

@[simp] theorem State.crossing_nodes (s : State) (side : Nat) (level : Nat) (dir : Nat) (crit : Nat) (g : Nat) : (State.crossing s side level dir crit g).nodes = s.nodes := by
  simp [State.crossing]

@[simp] theorem State.crossings_nodes (s : State) (side : Nat) (old : Nat) (new : Nat) : (State.crossings s side old new).nodes = s.nodes := by
  simp [State.crossings]

@[simp] theorem State.stringCones_nodes (s : State) : (State.stringCones s).nodes = s.nodes := by
  simp [State.stringCones]

@[simp] theorem State.coneCatchUp_nodes (s : State) : (State.coneCatchUp s).nodes = s.nodes := by
  simp [State.coneCatchUp]

@[simp] theorem State.adoptGroup_nodes (s : State) (g : Nat) : (State.adoptGroup s g).nodes = s.nodes := by
  simp [State.adoptGroup]

@[simp] theorem State.adoptAll_nodes (s : State) : (State.adoptAll s).nodes = s.nodes := by
  simp [State.adoptAll]

@[simp] theorem State.calEnd_nodes (s : State) : (State.calEnd s).nodes = s.nodes := by
  simp [State.calEnd]

@[simp] theorem State.calCheck_nodes (s : State) : (State.calCheck s).nodes = s.nodes := by
  simp [State.calCheck]

@[simp] theorem State.ceString_nodes (s : State) : (State.ceString s).nodes = s.nodes := by
  simp [State.ceString]

@[simp] theorem State.estimateEnd_nodes (s : State) : (State.estimateEnd s).nodes = s.nodes := by
  simp [State.estimateEnd]

@[simp] theorem State.capCommitEnd_nodes (s : State) (ok : Bool) : (State.capCommitEnd s ok).nodes = s.nodes := by
  simp [State.capCommitEnd]

@[simp] theorem State.capCommitStart_nodes (s : State) : (State.capCommitStart s).nodes = s.nodes := by
  simp [State.capCommitStart]

@[simp] theorem State.reportDrops_nodes (s : State) : (State.reportDrops s).nodes = s.nodes := by
  unfold State.reportDrops
  try dsimp only
  repeat' split
  all_goals (first | rfl | simp)

@[simp] theorem State.logWriteOne_nodes (s : State) : (State.logWriteOne s).nodes = s.nodes := by
  unfold State.logWriteOne
  try dsimp only
  repeat' split
  all_goals (first | rfl | simp)

@[simp] theorem State.logDrain_nodes (s : State) : (State.logDrain s).nodes = s.nodes := by
  simp [State.logDrain]

@[simp] theorem State.nvmBad_nodes (s : State) (a : Nat) : (State.nvmBad s a).nodes = s.nodes := by
  simp [State.nvmBad]

@[simp] theorem State.nvmUncorrectable_nodes (s : State) (a : Nat) : (State.nvmUncorrectable s a).nodes = s.nodes := by
  simp [State.nvmUncorrectable]

@[simp] theorem State.pd0Backup_nodes (s : State) : (State.pd0Backup s).nodes = s.nodes := by
  simp [State.pd0Backup]

@[simp] theorem State.thmConvert_nodes (s : State) : (State.thmConvert s).nodes = s.nodes := by
  simp [State.thmConvert]

@[simp] theorem State.thmTake_nodes (s : State) (src : Nat) (mask : Nat) (x : ThmIn) : (State.thmTake s src mask x).nodes = s.nodes := by
  unfold State.thmTake
  try dsimp only
  repeat' split
  all_goals (first | rfl | simp)

@[simp] theorem State.thmModel_nodes (s : State) (p : Nat) : (State.thmModel s p).nodes = s.nodes := by
  simp [State.thmModel]

@[simp] theorem State.thmPhase_nodes (s : State) (p : Nat) : (State.thmPhase s p).nodes = s.nodes := by
  simp [State.thmPhase]

@[simp] theorem State.thmGroup_nodes (s : State) (g : Nat) : (State.thmGroup s g).nodes = s.nodes := by
  simp [State.thmGroup]

@[simp] theorem State.thmFrame_nodes (s : State) : (State.thmFrame s).nodes = s.nodes := by
  simp [State.thmFrame]

@[simp] theorem State.degThermal_nodes (s : State) : (State.degThermal s).nodes = s.nodes := by
  simp [State.degThermal]

@[simp] theorem State.factors_nodes (s : State) : (State.factors s).nodes = s.nodes := by
  simp [State.factors]

@[simp] theorem State.derateMsg_nodes (s : State) (chg : Bool) (kind : Nat) (limit : Nat) : (State.derateMsg s chg kind limit).nodes = s.nodes := by
  simp [State.derateMsg]

@[simp] theorem State.derateLog_nodes (s : State) (chg : Bool) (kind : Nat) (limit : Nat) : (State.derateLog s chg kind limit).nodes = s.nodes := by
  simp [State.derateLog]

@[simp] theorem State.derateStep_nodes (s : State) (chg : Bool) : (State.derateStep s chg).nodes = s.nodes := by
  unfold State.derateStep
  try dsimp only
  repeat' split
  all_goals (first | rfl | simp)

@[simp] theorem State.thmCatchUp_nodes (s : State) : (State.thmCatchUp s).nodes = s.nodes := by
  simp [State.thmCatchUp]

@[simp] theorem State.thmHot_nodes (s : State) : (State.thmHot s).nodes = s.nodes := by
  simp [State.thmHot]

@[simp] theorem State.thmTick_nodes (s : State) : (State.thmTick s).nodes = s.nodes := by
  simp [State.thmTick]

@[simp] theorem State.batchNode_nodes (s : State) (w : Nat) (n : Nat) : (State.batchNode s w n).nodes = s.nodes := by
  simp [State.batchNode]

@[simp] theorem State.toneStats_nodes (s : State) : (State.toneStats s).nodes = s.nodes := by
  simp [State.toneStats]

@[simp] theorem State.latchCheck_nodes (s : State) : (State.latchCheck s).nodes = s.nodes := by
  simp [State.latchCheck]

@[simp] theorem State.applyTables_nodes (s : State) : (State.applyTables s).nodes = s.nodes := by
  simp [State.applyTables]

@[simp] theorem State.applyFrameEnd_nodes (s : State) : (State.applyFrameEnd s).nodes = s.nodes := by
  simp [State.applyFrameEnd]

@[simp] theorem State.abandonRest_nodes (s : State) (now : Nat) : (State.abandonRest s now).nodes = s.nodes := by
  simp [State.abandonRest]

@[simp] theorem State.adoptPeriod_nodes (s : State) : (State.adoptPeriod s).nodes = s.nodes := by
  unfold State.adoptPeriod
  try dsimp only
  repeat' split
  all_goals (first | rfl | simp)

@[simp] theorem State.bankChange_nodes (s : State) : (State.bankChange s).nodes = s.nodes := by
  simp [State.bankChange]

@[simp] theorem State.followBank_nodes (s : State) : (State.followBank s).nodes = s.nodes := by
  unfold State.followBank
  try dsimp only
  repeat' split
  all_goals (first | rfl | simp)

@[simp] theorem State.rejectImages_nodes (s : State) : (State.rejectImages s).nodes = s.nodes := by
  simp [State.rejectImages]

@[simp] theorem State.sagIsolate_nodes (s : State) (c : Nat) : (State.sagIsolate s c).nodes = s.nodes := by
  simp [State.sagIsolate]

@[simp] theorem State.diag_nodes (s : State) (k : Nat) (bad : Bool) : (State.diag s k bad).nodes = s.nodes := by
  simp [State.diag]

@[simp] theorem State.diagFail_nodes (s : State) (k : Nat) : (State.diagFail s k).nodes = s.nodes := by
  simp [State.diagFail]

@[simp] theorem State.diagHard_nodes (s : State) : (State.diagHard s).nodes = s.nodes := by
  simp [State.diagHard]

@[simp] theorem State.coilTestFail_nodes (s : State) (sw : Nat) : (State.coilTestFail s sw).nodes = s.nodes := by
  simp [State.coilTestFail]

@[simp] theorem State.slotSkip_nodes (s : State) (sw : Nat) : (State.slotSkip s sw).nodes = s.nodes := by
  simp [State.slotSkip]

@[simp] theorem State.degSession_nodes (s : State) : (State.degSession s).nodes = s.nodes := by
  simp [State.degSession]

@[simp] theorem State.degNet_nodes (s : State) : (State.degNet s).nodes = s.nodes := by
  simp [State.degNet]

@[simp] theorem State.pduMiss_nodes (s : State) : (State.pduMiss s).nodes = s.nodes := by
  simp [State.pduMiss]

@[simp] theorem State.pduAct_nodes (s0 : State) (p : PortId) (b : List Byte) : (State.pduAct s0 p b).nodes = s0.nodes := by
  simp [State.pduAct]

@[simp] theorem State.pduSecond_nodes (s : State) (b : List Byte) : (State.pduSecond s b).nodes = s.nodes := by
  simp [State.pduSecond]

@[simp] theorem State.pduHeard_nodes (s : State) (p : PortId) (h : Net) : (State.pduHeard s p h).nodes = s.nodes := by
  simp [State.pduHeard]

@[simp] theorem State.pduCopy_nodes (s : State) (p : PortId) (b : List Byte) (h : Net) : (State.pduCopy s p b h).nodes = s.nodes := by
  unfold State.pduCopy
  try dsimp only
  repeat' split
  all_goals (first | rfl | simp)

@[simp] theorem State.latchClear_nodes (s : State) : (State.latchClear s).nodes = s.nodes := by
  simp [State.latchClear]

@[simp] theorem State.clogAdd_nodes (s : State) (kind : Nat) (source : Nat) (index : Nat) (old : Int) (new : Int) : (State.clogAdd s kind source index old new).nodes = s.nodes := by
  simp [State.clogAdd]

@[simp] theorem State.cfgCommit_nodes (s : State) (source : Nat) : (State.cfgCommit s source).nodes = s.nodes := by
  simp [State.cfgCommit]

@[simp] theorem State.cfgOpen_nodes (s : State) (source : Nat) : (State.cfgOpen s source).nodes = s.nodes := by
  simp [State.cfgOpen]

@[simp] theorem State.cfgEnd_nodes (s : State) : (State.cfgEnd s).nodes = s.nodes := by
  unfold State.cfgEnd
  try dsimp only
  repeat' split
  all_goals (first | rfl | simp)

@[simp] theorem State.cfgFail_nodes (s : State) : (State.cfgFail s).nodes = s.nodes := by
  simp [State.cfgFail]

@[simp] theorem State.loginFails_nodes (s : State) (src : Nat) : (State.loginFails s src).nodes = s.nodes := by
  simp [State.loginFails]

@[simp] theorem State.setPassword_nodes (s : State) (pw : List Byte) (source : Nat) : (State.setPassword s pw source).nodes = s.nodes := by
  simp [State.setPassword]

@[simp] theorem State.sagReset_nodes (s : State) (format : Nat) (fw : Nat) : (State.sagReset s format fw).nodes = s.nodes := by
  unfold State.sagReset
  dsimp only
  split
  · exact State.clogAdd_nodes ..
  · exact (State.clogAdd_nodes ..).trans (State.clogAdd_nodes ..)

@[simp] theorem State.pd0Restore_nodes (s : State) : (State.pd0Restore s).nodes = s.nodes := by
  simp [State.pd0Restore]

@[simp] theorem State.settingsLoad_nodes (s : State) : (State.settingsLoad s).nodes = s.nodes := by
  unfold State.settingsLoad
  try dsimp only
  repeat' split
  all_goals (first | rfl | simp)

@[simp] theorem State.capLoad_nodes (s : State) : (State.capLoad s).nodes = s.nodes := by
  unfold State.capLoad
  try dsimp only
  repeat' split
  all_goals (first | rfl | simp)

@[simp] theorem State.countLoad_nodes (s : State) : (State.countLoad s).nodes = s.nodes := by
  unfold State.countLoad
  try dsimp only
  repeat' split
  all_goals (first | rfl | simp)

@[simp] theorem State.sagLoad_nodes (s : State) : (State.sagLoad s).nodes = s.nodes := by
  unfold State.sagLoad
  try dsimp only
  repeat' split
  all_goals (first | rfl | simp)

@[simp] theorem State.readStraps_nodes (s : State) : (State.readStraps s).nodes = s.nodes := by
  simp [State.readStraps]

@[simp] theorem State.tvLoad_nodes (s : State) : (State.tvLoad s).nodes = s.nodes := by
  simp [State.tvLoad]

@[simp] theorem State.bootLoad_nodes (s : State) : (State.bootLoad s).nodes = s.nodes := by
  simp [State.bootLoad]

@[simp] theorem State.bootRevert_nodes (s : State) : (State.bootRevert s).nodes = s.nodes := by
  simp [State.bootRevert]

@[simp] theorem State.bootConfirm_nodes (s : State) : (State.bootConfirm s).nodes = s.nodes := by
  simp [State.bootConfirm]

@[simp] theorem State.domainUp_nodes (s : State) (d : Nat) : (State.domainUp s d).nodes = s.nodes := by
  simp [State.domainUp]

@[simp] theorem State.domainDown_nodes (s : State) (d : Nat) : (State.domainDown s d).nodes = s.nodes := by
  unfold State.domainDown
  try dsimp only
  repeat' split
  all_goals (first | rfl | simp)

@[simp] theorem State.isolateAll_nodes (s : State) (l : List Nat) : (State.isolateAll s l).nodes = s.nodes := by
  unfold State.isolateAll
  try dsimp only
  repeat' split
  all_goals (first | rfl | simp)

@[simp] theorem State.logItem_nodes (s : State) (detail : Nat) (i : TestItem) : (State.logItem s detail i).nodes = s.nodes := by
  simp [State.logItem]

@[simp] theorem State.testResults_nodes (s : State) (r : SelfTest) : (State.testResults s r).nodes = s.nodes := by
  simp [State.testResults]

@[simp] theorem State.setFeed_nodes (s : State) (b : Bool) (on : Bool) : (State.setFeed s b on).nodes = s.nodes := by
  simp [State.setFeed]

@[simp] theorem State.boRamp_nodes (s : State) : (State.boRamp s).nodes = s.nodes := by
  simp [State.boRamp]

@[simp] theorem State.boCommit_nodes (s : State) : (State.boCommit s).nodes = s.nodes := by
  simp [State.boCommit]

@[simp] theorem State.pairFault_nodes (s : State) (kind : Nat) : (State.pairFault s kind).nodes = s.nodes := by
  simp [State.pairFault]

@[simp] theorem State.clashCheck_nodes (s : State) (h : Partner) (higher : Bool) : (State.clashCheck s h higher).nodes = s.nodes := by
  simp [State.clashCheck]

@[simp] theorem State.heartbeat_nodes (s : State) (h : Partner) (higher : Bool) : (State.heartbeat s h higher).nodes = s.nodes := by
  simp [State.heartbeat]

@[simp] theorem State.adopt_nodes (s : State) (m : Mirror) (seq : Nat) : (State.adopt s m seq).nodes = s.nodes := by
  simp [State.adopt]

@[simp] theorem State.sendTake_nodes (s : State) (now : Nat) : (State.sendTake s now).nodes = s.nodes := by
  simp [State.sendTake]

@[simp] theorem State.sendReady_nodes (s : State) : (State.sendReady s).nodes = s.nodes := by
  simp [State.sendReady]

@[simp] theorem State.swapFailed_nodes (s : State) : (State.swapFailed s).nodes = s.nodes := by
  simp [State.swapFailed]

@[simp] theorem State.handOver_nodes (s : State) (now : Nat) : (State.handOver s now).nodes = s.nodes := by
  simp [State.handOver]

@[simp] theorem State.takeHarness_nodes (s : State) : (State.takeHarness s).nodes = s.nodes := by
  simp [State.takeHarness]

@[simp] theorem State.fromCopy_nodes (s : State) (m : Mirror) : (State.fromCopy s m).nodes = s.nodes := by
  simp [State.fromCopy]

@[simp] theorem State.newOwner_nodes (s : State) (kind : Nat) : (State.newOwner s kind).nodes = s.nodes := by
  simp [State.newOwner]

@[simp] theorem State.wantFor_nodes (s : State) (st : OpState) (disp : Bool) : (State.wantFor s st disp).nodes = s.nodes := by
  simp [State.wantFor]

@[simp] theorem State.dropCoef_nodes (s : State) : (State.dropCoef s).nodes = s.nodes := by
  simp [State.dropCoef]

@[simp] theorem State.takeOver_nodes (s : State) (m : Mirror) (kind : Nat) (gap : Nat) : (State.takeOver s m kind gap).nodes = s.nodes := by
  simp [State.takeOver]

@[simp] theorem State.passOwner_nodes (s : State) (now : Nat) (gap : Nat) : (State.passOwner s now gap).nodes = s.nodes := by
  unfold State.passOwner
  dsimp only
  split
  · simp
  · split <;> simp

@[simp] theorem State.ceFresh_nodes (s : State) : (State.ceFresh s).nodes = s.nodes := by
  simp [State.ceFresh]

@[simp] theorem State.dueOwner_nodes (s : State) (now : Nat) : (State.dueOwner s now).nodes = s.nodes := by
  unfold State.dueOwner
  try dsimp only
  repeat' split
  all_goals (first | rfl | simp)

@[simp] theorem State.pilotView_nodes (s : State) : (State.pilotView s).nodes = s.nodes := by
  unfold State.pilotView
  try dsimp only
  repeat' split
  all_goals (first | rfl | simp)

@[simp] theorem State.latchShadows_nodes (s : State) : (State.latchShadows s).nodes = s.nodes := by
  simp [State.latchShadows]

@[simp] theorem State.afterRead_nodes (s : State) (r : Reg) : (State.afterRead s r).nodes = s.nodes := by
  simp [State.afterRead]

@[simp] theorem State.putPeriod_nodes (s : State) (v : Nat) : (State.putPeriod s v).nodes = s.nodes := by
  simp [State.putPeriod]

@[simp] theorem State.settingDone_nodes (s : State) (i : Nat) (v : Int) (old : Int) : (State.settingDone s i v old).nodes = s.nodes := by
  simp [State.settingDone]

@[simp] theorem State.putSetting_nodes (s : State) (i : Nat) (v : Int) : (State.putSetting s i v).nodes = s.nodes := by
  unfold State.putSetting
  try dsimp only
  repeat' split
  all_goals (first | rfl | simp)

@[simp] theorem State.toDefault_nodes (s : State) (i : Nat) : (State.toDefault s i).nodes = s.nodes := by
  unfold State.toDefault
  try dsimp only
  repeat' split
  all_goals (first | rfl | simp)

@[simp] theorem State.settingsDefault_nodes (s : State) : (State.settingsDefault s).nodes = s.nodes := by
  simp [State.settingsDefault]

@[simp] theorem State.toNewFormat_nodes (s : State) (i : Nat) : (State.toNewFormat s i).nodes = s.nodes := by
  simp [State.toNewFormat]

@[simp] theorem State.loadNewFormat_nodes (s : State) : (State.loadNewFormat s).nodes = s.nodes := by
  simp [State.loadNewFormat]

@[simp] theorem State.formatStep_nodes (s : State) : (State.formatStep s).nodes = s.nodes := by
  simp [State.formatStep]

@[simp] theorem State.loginState_nodes (s : State) : (State.loginState s).nodes = s.nodes := by
  simp [State.loginState]

@[simp] theorem State.toIsolated_nodes (s : State) : (State.toIsolated s).nodes = s.nodes := by
  simp [State.toIsolated]

@[simp] theorem State.toStandby_nodes (s : State) : (State.toStandby s).nodes = s.nodes := by
  simp [State.toStandby]

@[simp] theorem State.toConnected_nodes (s : State) : (State.toConnected s).nodes = s.nodes := by
  simp [State.toConnected]

@[simp] theorem State.toDegraded_nodes (s : State) : (State.toDegraded s).nodes = s.nodes := by
  simp [State.toDegraded]

@[simp] theorem State.fromDegraded_nodes (s : State) : (State.fromDegraded s).nodes = s.nodes := by
  simp [State.fromDegraded]

@[simp] theorem State.stopDone_nodes (s : State) : (State.stopDone s).nodes = s.nodes := by
  simp [State.stopDone]

@[simp] theorem State.toMaintenance_nodes (s : State) : (State.toMaintenance s).nodes = s.nodes := by
  simp [State.toMaintenance]

@[simp] theorem State.afterTest_nodes (s : State) (owned : Bool) : (State.afterTest s owned).nodes = s.nodes := by
  simp [State.afterTest]

theorem State.row_nodes (s : State) (e : Ev) (t_ : State) (h_ : State.row s e = some t_) : t_.nodes = s.nodes := by
  revert h_
  unfold State.row
  try dsimp only
  repeat' split
  all_goals (intro h_; first | (cases h_; done) | (cases h_; rfl) | (cases h_; simp; done) | (simp at h_; done) | (simp at h_; subst h_; simp; done))

@[simp] theorem State.dropEv_nodes (s : State) (e : Ev) : (State.dropEv s e).nodes = s.nodes := by
  unfold State.dropEv
  try dsimp only
  repeat' split
  all_goals (first | rfl | simp)

@[simp] theorem State.takeClass_nodes (s : State) (c : Nat) (p0 : List Ev) : (s.takeClass c p0).1.nodes = s.nodes := by
  induction p0 generalizing s with
  | nil => rfl
  | cons e l ih =>
    simp only [State.takeClass]
    split
    · exact ih s
    · split
      · rename_i h
        exact State.row_nodes _ _ _ h
      · exact (ih _).trans (by simp)

@[simp] theorem State.runClass_nodes (s : State) (c : Nat) : (State.runClass s c).nodes = s.nodes := by
  simp [State.runClass]

@[simp] theorem State.runDegraded_nodes (s : State) : (State.runDegraded s).nodes = s.nodes := by
  simp [State.runDegraded]

@[simp] theorem State.stateMachine_nodes (s : State) : (State.stateMachine s).nodes = s.nodes := by
  simp [State.stateMachine]

@[simp] theorem State.spyEnd_nodes (s : State) : (State.spyEnd s).nodes = s.nodes := by
  simp [State.spyEnd]

@[simp] theorem State.trackClosed_nodes (s : State) : (State.trackClosed s).nodes = s.nodes := by
  simp [State.trackClosed]

@[simp] theorem State.stopOpened_nodes (s : State) : (State.stopOpened s).nodes = s.nodes := by
  simp [State.stopOpened]

@[simp] theorem State.tvCorrect_nodes (s : State) : (State.tvCorrect s).nodes = s.nodes := by
  simp [State.tvCorrect]

@[simp] theorem State.mirrorCorrect_nodes (s : State) : (State.mirrorCorrect s).nodes = s.nodes := by
  simp [State.mirrorCorrect]

@[simp] theorem State.raise_nodes (s : State) (c : Nat) : (State.raise s c).nodes = s.nodes := by
  simp [State.raise]

@[simp] theorem State.sf4_nodes (s : State) : (State.sf4 s).nodes = s.nodes := by
  unfold State.sf4
  try dsimp only
  repeat' split
  all_goals (first | rfl | simp)

@[simp] theorem State.tickDiag_nodes (s : State) (k : Nat) (bad : Bool) : (State.tickDiag s k bad).nodes = s.nodes := by
  simp [State.tickDiag]

@[simp] theorem State.protect_nodes (s : State) (m : TickIn) : (State.protect s m).nodes = s.nodes := by
  simp [State.protect]

@[simp] theorem State.tickPins_nodes (s : State) (m : TickIn) : (State.tickPins s m).nodes = s.nodes := by
  simp [State.tickPins]

@[simp] theorem State.degLevels_nodes (s : State) : (State.degLevels s).nodes = s.nodes := by
  simp [State.degLevels]

@[simp] theorem State.pairTick_nodes (s : State) : (State.pairTick s).nodes = s.nodes := by
  simp [State.pairTick]

@[simp] theorem State.tickCounts_nodes (s : State) : (State.tickCounts s).nodes = s.nodes := by
  simp [State.tickCounts]

@[simp] theorem State.speedTick_nodes (s : State) (pct : Nat) : (State.speedTick s pct).nodes = s.nodes := by
  simp [State.speedTick]

@[simp] theorem State.degTick_nodes (s : State) : (State.degTick s).nodes = s.nodes := by
  simp [State.degTick]

@[simp] theorem State.strapTick_nodes (s : State) : (State.strapTick s).nodes = s.nodes := by
  simp [State.strapTick]

@[simp] theorem State.timeTo_nodes (s : State) (st : LmpSt) : (State.timeTo s st).nodes = s.nodes := by
  simp [State.timeTo]

@[simp] theorem State.reselect_nodes (s : State) : (State.reselect s).nodes = s.nodes := by
  unfold State.reselect
  try dsimp only
  repeat' split
  all_goals (first | rfl | simp)

@[simp] theorem State.servo_nodes (s : State) (off : Int) (ms : Nat) : (State.servo s off ms).nodes = s.nodes := by
  simp [State.servo]

@[simp] theorem State.loadSecMark_nodes (s : State) : (State.loadSecMark s).nodes = s.nodes := by
  unfold State.loadSecMark
  try dsimp only
  repeat' split
  all_goals (first | rfl | simp)

@[simp] theorem State.takeOffset_nodes (s0 : State) (off : Int) (ms : Nat) : (State.takeOffset s0 off ms).nodes = s0.nodes := by
  unfold State.takeOffset
  try dsimp only
  repeat' split
  all_goals (first | rfl | simp)

@[simp] theorem State.syncDone_nodes (s : State) (m : PtpMsg) (ingress : Int) (origin : Int) (ms : Nat) : (State.syncDone s m ingress origin ms).nodes = s.nodes := by
  simp [State.syncDone]

@[simp] theorem State.sourceLost_nodes (s : State) : (State.sourceLost s).nodes = s.nodes := by
  simp [State.sourceLost]

@[simp] theorem State.slotZero_nodes (s : State) : (State.slotZero s).nodes = s.nodes := by
  simp [State.slotZero]

@[simp] theorem State.fire_nodes (s : State) (k : Nat) : (State.fire s k).nodes = s.nodes := by
  simp [State.fire]

@[simp] theorem State.accept_nodes (s : State) (c : Nat) (src : Src) : (State.accept s c src).nodes = s.nodes := by
  simp [State.accept]

@[simp] theorem State.answerWait_nodes (s : State) (c : Nat) (r : Reply) : (State.answerWait s c r).nodes = s.nodes := by
  unfold State.answerWait
  exact State.nodes_foldl _ _ _ (fun t x => by split <;> simp)

@[simp] theorem State.done_nodes (s : State) (c : Nat) (code : Nat) (tag : Nat) (rc : Nat) (detail : Nat) (data : List Byte) : (State.done s c code tag rc detail data).nodes = s.nodes := by
  simp [State.done]

@[simp] theorem State.reply_nodes (s : State) (c : Nat) (rc : Nat) (detail : Nat) (data : List Byte) : (State.reply s c rc detail data).nodes = s.nodes := by
  unfold State.reply
  try dsimp only
  repeat' split
  all_goals (first | rfl | simp)

@[simp] theorem State.ok_nodes (s : State) (c : Nat) : (State.ok s c).nodes = s.nodes := by
  simp [State.ok]

@[simp] theorem State.ring_nodes (s : State) (c : Nat) (src : Src) : (State.ring s c src).nodes = s.nodes := by
  simp [State.ring]

@[simp] theorem State.bufPut_nodes (s : State) (c : Nat) (i : Nat) (w : Nat) : (State.bufPut s c i w).nodes = s.nodes := by
  simp [State.bufPut]

@[simp] theorem State.notInState_nodes (s : State) (c : Nat) (r : Request) : (State.notInState s c r).nodes = s.nodes := by
  simp [State.notInState]

@[simp] theorem State.result_nodes (s : State) (c : Nat) (rc : Nat) (detail : Nat) (data : List Byte) : (State.result s c rc detail data).nodes = s.nodes := by
  simp [State.result]

@[simp] theorem State.writeParam_nodes (s : State) (i : Nat) (w : Nat) : (State.writeParam s i w).nodes = s.nodes := by
  simp [State.writeParam]

@[simp] theorem State.settingsOpen_nodes (s : State) : (State.settingsOpen s).nodes = s.nodes := by
  simp [State.settingsOpen]

@[simp] theorem State.settingsEnd_nodes (s : State) (ok : Bool) : (State.settingsEnd s ok).nodes = s.nodes := by
  simp [State.settingsEnd]

@[simp] theorem State.plainWrite_nodes (s : State) (r : Reg) : (State.plainWrite s r).nodes = s.nodes := by
  simp [State.plainWrite]

@[simp] theorem State.writePermit_nodes (s : State) (w : Nat) : (State.writePermit s w).nodes = s.nodes := by
  simp [State.writePermit]

@[simp] theorem State.writeEnMask_nodes (s : State) (w : Nat) : (State.writeEnMask s w).nodes = s.nodes := by
  simp [State.writeEnMask]

@[simp] theorem State.writeWin_nodes (s : State) (w : Nat) : (State.writeWin s w).nodes = s.nodes := by
  simp [State.writeWin]

@[simp] theorem State.atTime_nodes (s : State) (t : BitVec 32) : (State.atTime s t).nodes = s.nodes := by
  simp [State.atTime]

@[simp] theorem State.sessReply_nodes (s : State) (i : Nat) (x : Tx) (r : Reply) : (State.sessReply s i x r).nodes = s.nodes := by
  unfold State.sessReply
  try dsimp only
  repeat' split
  all_goals (first | rfl | simp)

@[simp] theorem State.sessStatus_nodes (s : State) (i : Nat) (x : Tx) (ty : Nat) (status : Nat) : (State.sessStatus s i x ty status).nodes = s.nodes := by
  simp [State.sessStatus]

@[simp] theorem State.looseReply_nodes (s : State) (x : Tx) (r : Reply) : (State.looseReply s x r).nodes = s.nodes := by
  simp [State.looseReply]

@[simp] theorem State.sessUsed_nodes (s : State) (i : Nat) (x : Tx) : (State.sessUsed s i x).nodes = s.nodes := by
  simp [State.sessUsed]

@[simp] theorem State.resend_nodes (s : State) (i : Nat) (x : Tx) (y : Session) : (State.resend s i x y).nodes = s.nodes := by
  unfold State.resend
  try dsimp only
  repeat' split
  all_goals (first | rfl | simp)

@[simp] theorem State.openSession_nodes (s : State) (x : Tx) (v : Nat) (host : Nat) (mask : Nat) (old : Option Session) : (State.openSession s x v host mask old).nodes = s.nodes := by
  simp [State.openSession]

@[simp] theorem State.endSession_nodes (s : State) (i : Nat) : (State.endSession s i).nodes = s.nodes := by
  simp [State.endSession]

@[simp] theorem State.sessWait_nodes (s : State) (i : Nat) (x : Tx) (c : Nat) : (State.sessWait s i x c).nodes = s.nodes := by
  simp [State.sessWait]

@[simp] theorem State.attnDrop_nodes (s : State) (i : Nat) (y : Session) (m : Attn) : (State.attnDrop s i y m).nodes = s.nodes := by
  simp [State.attnDrop]

@[simp] theorem State.dispTake_nodes (s : State) (p : PortId) (b : List Byte) (now : Nat) : (State.dispTake s p b now).nodes = s.nodes := by
  unfold State.dispTake
  try dsimp only
  repeat' split
  all_goals (first | rfl | simp)

@[simp] theorem State.inhibited_nodes (s : State) (c : Nat) (detail : Nat) : (State.inhibited s c detail).nodes = s.nodes := by
  simp [State.inhibited]

@[simp] theorem State.toPrecharge_nodes (s : State) : (State.toPrecharge s).nodes = s.nodes := by
  simp [State.toPrecharge]

@[simp] theorem State.openStart_nodes (s : State) : (State.openStart s).nodes = s.nodes := by
  simp [State.openStart]

@[simp] theorem State.leaveIsolated_nodes (s : State) : (State.leaveIsolated s).nodes = s.nodes := by
  simp [State.leaveIsolated]

@[simp] theorem State.selftestStore_nodes (s : State) (r : SelfTest) (run : Nat) : (State.selftestStore s r run).nodes = s.nodes := by
  simp [State.selftestStore]

@[simp] theorem State.selftestAct_nodes (s : State) (r : SelfTest) : (State.selftestAct s r).nodes = s.nodes := by
  unfold State.selftestAct
  dsimp only
  split <;> simp

@[simp] theorem State.loadShadow_nodes (s : State) (k : Nat) (i : SchedImage) : (State.loadShadow s k i).nodes = s.nodes := by
  simp [State.loadShadow]

@[simp] theorem State.askSwap_nodes (s : State) : (State.askSwap s).nodes = s.nodes := by
  simp [State.askSwap]

@[simp] theorem State.calStart_nodes (s : State) : (State.calStart s).nodes = s.nodes := by
  simp [State.calStart]

@[simp] theorem State.capWrite_nodes (s : State) (cap : Nat) (g : Nat) : (State.capWrite s cap g).nodes = s.nodes := by
  simp [State.capWrite]

@[simp] theorem State.drawKey_nodes (s : State) : (State.drawKey s).nodes = s.nodes := by
  simp [State.drawKey]

@[simp] theorem State.pairPut_nodes (s : State) (n : Nat) (serial : Nat) (k : Nat) : (State.pairPut s n serial k).nodes = s.nodes := by
  simp [State.pairPut]

@[simp] theorem State.pairDrop_nodes (s : State) (n : Nat) : (State.pairDrop s n).nodes = s.nodes := by
  simp [State.pairDrop]

@[simp] theorem State.queueKey_nodes (s : State) (n : Nat) : (State.queueKey s n).nodes = s.nodes := by
  simp [State.queueKey]

@[simp] theorem State.keyChange_nodes (s : State) : (State.keyChange s).nodes = s.nodes := by
  simp [State.keyChange]

@[simp] theorem State.logClear_nodes (s : State) (src : Nat) : (State.logClear s src).nodes = s.nodes := by
  simp [State.logClear]

@[simp] theorem State.loginOk_nodes (s : State) (c : Nat) : (State.loginOk s c).nodes = s.nodes := by
  simp [State.loginOk]

@[simp] theorem State.stage_nodes (s : State) (l : List (Nat × Int)) : (State.stage s l).nodes = s.nodes := by
  simp [State.stage]

@[simp] theorem State.sagAbort_nodes (s : State) : (State.sagAbort s).nodes = s.nodes := by
  simp [State.sagAbort]

@[simp] theorem State.clogAckTo_nodes (s : State) (q : Nat) (source : Nat) : (State.clogAckTo s q source).nodes = s.nodes := by
  simp [State.clogAckTo]

@[simp] theorem State.ownLoad_nodes (s : State) : (State.ownLoad s).nodes = s.nodes := by
  unfold State.ownLoad
  try dsimp only
  repeat' split
  all_goals (first | rfl | simp)

@[simp] theorem State.ownEnd_nodes (s : State) (rb : Bool) : (State.ownEnd s rb).nodes = s.nodes := by
  unfold State.ownEnd
  try dsimp only
  repeat' split
  all_goals (first | rfl | simp)

@[simp] theorem State.capReply_nodes (s : State) (c : Nat) (rb : Bool) : (State.capReply s c rb).nodes = s.nodes := by
  simp [State.capReply]

@[simp] theorem State.settingsReply_nodes (s : State) (c : Nat) (rb : Bool) : (State.settingsReply s c rb).nodes = s.nodes := by
  simp [State.settingsReply]

@[simp] theorem State.sagReply_nodes (s : State) (c : Nat) (rb : Bool) : (State.sagReply s c rb).nodes = s.nodes := by
  simp [State.sagReply]

@[simp] theorem State.swapReply_nodes (s : State) (c : Nat) : (State.swapReply s c).nodes = s.nodes := by
  unfold State.swapReply
  try dsimp only
  repeat' split
  all_goals (first | rfl | simp)

@[simp] theorem State.loadReply_nodes (s : State) (c : Nat) (detail : Nat) (data : List Byte) : (State.loadReply s c detail data).nodes = s.nodes := by
  simp [State.loadReply]

@[simp] theorem State.postEnd_nodes (s : State) (c : Nat) (rb : Bool) : (State.postEnd s c rb).nodes = s.nodes := by
  unfold State.postEnd
  try dsimp only
  repeat' split
  all_goals (first | rfl | simp)

@[simp] theorem State.manifestDone_nodes (s : State) : (State.manifestDone s).nodes = s.nodes := by
  unfold State.manifestDone
  try dsimp only
  repeat' split
  all_goals (first | rfl | simp)

@[simp] theorem State.partDone_nodes (s : State) (k : Nat) : (State.partDone s k).nodes = s.nodes := by
  unfold State.partDone
  try dsimp only
  repeat' split
  all_goals (first | rfl | simp)

@[simp] theorem State.blockPut_nodes (s : State) (k : Nat) (n : Nat) (b : List Byte) : (State.blockPut s k n b).nodes = s.nodes := by
  simp [State.blockPut]

@[simp] theorem State.blockReply_nodes (s : State) (i : Nat) (x : Tx) (next : Nat) : (State.blockReply s i x next).nodes = s.nodes := by
  simp [State.blockReply]

@[simp] theorem State.fwdSend_nodes (s : State) (k : Nat) : (State.fwdSend s k).nodes = s.nodes := by
  unfold State.fwdSend
  try dsimp only
  repeat' split
  all_goals (first | rfl | simp)

@[simp] theorem State.stageUpdate_nodes (s : State) (c : Nat) : (State.stageUpdate s c).nodes = s.nodes := by
  unfold State.stageUpdate
  try dsimp only
  repeat' split
  all_goals (first | rfl | simp)

@[simp] theorem State.mgpGoes_nodes (s : State) : (State.mgpGoes s).nodes = s.nodes := by
  simp [State.mgpGoes]

@[simp] theorem State.heldBusy_nodes (s : State) (p : Chan → Bool) : (State.heldBusy s p).nodes = s.nodes := by
  simp [State.heldBusy]

@[simp] theorem State.mgpBack_nodes (s : State) : (State.mgpBack s).nodes = s.nodes := by
  simp [State.mgpBack]

@[simp] theorem State.rollBack_nodes (s : State) : (State.rollBack s).nodes = s.nodes := by
  simp [State.rollBack]

@[simp] theorem State.staysAway_nodes (s : State) : (State.staysAway s).nodes = s.nodes := by
  simp [State.staysAway]

@[simp] theorem State.loaderBoot_nodes (s : State) : (State.loaderBoot s).nodes = s.nodes := by
  simp [State.loaderBoot]

@[simp] theorem State.formatChange_nodes (s : State) (old : Nat) : (State.formatChange s old).nodes = s.nodes := by
  simp [State.formatChange]

@[simp] theorem State.rangeLeave_nodes (s : State) : (State.rangeLeave s).nodes = s.nodes := by
  simp [State.rangeLeave]

@[simp] theorem State.afterConfirm_nodes (s : State) (l : List (Nat × Nat)) : (State.afterConfirm s l).nodes = s.nodes := by
  unfold State.afterConfirm
  try dsimp only
  repeat' split
  all_goals (first | rfl | simp)

@[simp] theorem State.newReady_nodes (s : State) : (State.newReady s).nodes = s.nodes := by
  simp [State.newReady]

@[simp] theorem State.oldReady_nodes (s : State) : (State.oldReady s).nodes = s.nodes := by
  simp [State.oldReady]

@[simp] theorem State.nodeReply_nodes (s : State) (q : NodeCmd) (rc : Nat) (detail : Nat) (data : List Byte) : (State.nodeReply s q rc detail data).nodes = s.nodes := by
  unfold State.nodeReply
  try dsimp only
  repeat' split
  all_goals (first | rfl | simp)

@[simp] theorem State.leaveDone_nodes (s : State) (q : NodeCmd) (result : Nat) : (State.leaveDone s q result).nodes = s.nodes := by
  unfold State.leaveDone
  try dsimp only
  repeat' split
  all_goals (first | rfl | simp)

@[simp] theorem State.infoGot_nodes (s : State) (q : NodeCmd) (info : Nat) : (State.infoGot s q info).nodes = s.nodes := by
  unfold State.infoGot
  try dsimp only
  repeat' split
  all_goals (first | rfl | simp)

@[simp] theorem State.fwBegun_nodes (s : State) (n : Nat) : (State.fwBegun s n).nodes = s.nodes := by
  simp [State.fwBegun]

@[simp] theorem State.ackCmd_nodes (s : State) (q : NodeCmd) (r : Nat) (info : Nat) : (State.ackCmd s q r info).nodes = s.nodes := by
  unfold State.ackCmd
  try dsimp only
  repeat' split
  all_goals (first | rfl | simp)

@[simp] theorem State.fwStaged_nodes (s : State) (u : Nat) (n : Nat) : (State.fwStaged s u n).nodes = s.nodes := by
  simp [State.fwStaged]

@[simp] theorem State.ackFw_nodes (s : State) (u : Nat) (n : Nat) (r : Nat) (info : Nat) : (State.ackFw s u n r info).nodes = s.nodes := by
  unfold State.ackFw
  try dsimp only
  repeat' split
  all_goals (first | rfl | simp)

theorem State.takeFlight_nodes (s : State) (n : Nat) (t_ : NodeCmd × State) (h_ : State.takeFlight s n = some t_) : t_.2.nodes = s.nodes := by
  revert h_
  unfold State.takeFlight
  try dsimp only
  repeat' split
  all_goals (intro h_; first | (cases h_; done) | (cases h_; rfl) | (cases h_; simp; done) | (simp at h_; done) | (simp at h_; subst h_; simp; done))

@[simp] theorem State.giveUp_nodes (s : State) (q : NodeCmd) : (State.giveUp s q).nodes = s.nodes := by
  unfold State.giveUp
  try dsimp only
  repeat' split
  all_goals (first | rfl | simp)

@[simp] theorem State.spyWrote_nodes (s : State) : (State.spyWrote s).nodes = s.nodes := by
  simp [State.spyWrote]

end Sys2Proof.Machine
end

