-- ==== Sys2Proof/Laws/FrameOwner.lean ====
section
/-! SUPPORT. The shared operations that leave the ownership of the harness unchanged, one lemma an operation. -/

namespace Sys2Proof.Machine

/-- A fold of updates that keep the field keeps it. -/
@[simp] theorem State.prl_owner_foldl {β : Type} (f : State → β → State) (l : List β) (s : State) (h : ∀ t x, (f t x).prl.owner = t.prl.owner) :
    (l.foldl f s).prl.owner = s.prl.owner := by
  induction l generalizing s with
  | nil => rfl
  | cons x l ih => rw [List.foldl_cons, ih, h]

/-- The field of a choice of states. -/
@[simp] theorem State.prl_owner_ite (c : Prop) [Decidable c] (a b : State) : (if c then a else b).prl.owner = if c then a.prl.owner else b.prl.owner := by
  split <;> rfl

/-- A fold of updates beside a value. -/
@[simp] theorem State.prl_owner_foldlp {α β : Type} (f : State × α → β → State × α) (l : List β) (p : State × α)
    (h : ∀ t x, (f t x).1.prl.owner = t.1.prl.owner) : (l.foldl f p).1.prl.owner = p.1.prl.owner := by
  induction l generalizing p with
  | nil => rfl
  | cons x l ih => rw [List.foldl_cons, ih, h]

/-- The field of a choice of states beside a value. -/
@[simp] theorem State.prl_owner_itep {α : Type} (c : Prop) [Decidable c] (a b : State × α) :
    (if c then a else b).1.prl.owner = if c then a.1.prl.owner else b.1.prl.owner := by
  split <;> rfl

@[simp] theorem State.logPost_prl_owner (s : State) (src : Nat) (code : Nat) (sev : Nat) (data : List Nat) : (State.logPost s src code sev data).prl.owner = s.prl.owner := by
  simp [State.logPost]

@[simp] theorem State.sendFrom_prl_owner (s : State) (p : PortId) (addr : Nat) (udp : Nat) (b : List Byte) : (State.sendFrom s p addr udp b).prl.owner = s.prl.owner := by
  simp [State.sendFrom]

@[simp] theorem State.sendAttn_prl_owner (s : State) (x : Session) (m : Attn) (p : PortId) (again : Bool) : (State.sendAttn s x m p again).prl.owner = s.prl.owner := by
  simp [State.sendAttn]

@[simp] theorem State.lostNote_prl_owner (s : State) (i : Nat) : (State.lostNote s i).prl.owner = s.prl.owner := by
  unfold State.lostNote
  try dsimp only
  repeat' split
  all_goals (first | rfl | simp)

@[simp] theorem State.attnTo_prl_owner (s : State) (m : Attn) (i : Nat) : (State.attnTo s m i).prl.owner = s.prl.owner := by
  unfold State.attnTo
  try dsimp only
  repeat' split
  all_goals (first | rfl | simp)

@[simp] theorem State.attn_prl_owner (s : State) (code : Nat) (sev : Nat) (data : List Nat) : (State.attn s code sev data).prl.owner = s.prl.owner := by
  simp [State.attn]

@[simp] theorem State.announce_prl_owner (s : State) : (State.announce s).prl.owner = s.prl.owner := by
  simp [State.announce]

@[simp] theorem State.clearSetpoints_prl_owner (s : State) : (State.clearSetpoints s).prl.owner = s.prl.owner := by
  simp [State.clearSetpoints]

@[simp] theorem State.syncMode_prl_owner (s : State) : (State.syncMode s).prl.owner = s.prl.owner := by
  simp [State.syncMode]

@[simp] theorem State.leaveSetpoints_prl_owner (s : State) : (State.leaveSetpoints s).prl.owner = s.prl.owner := by
  simp [State.leaveSetpoints]

@[simp] theorem State.outputsRest_prl_owner (s : State) : (State.outputsRest s).prl.owner = s.prl.owner := by
  unfold State.outputsRest
  try dsimp only
  repeat' split
  all_goals (first | rfl | simp)

@[simp] theorem State.enter_prl_owner (s : State) (st : OpState) (b : OpState) : (State.enter s st b).prl.owner = s.prl.owner := by
  simp [State.enter]

@[simp] theorem State.enterEff_prl_owner (s : State) (st : OpState) : (State.enterEff s st).prl.owner = s.prl.owner := by
  simp [State.enterEff]

@[simp] theorem State.coilService1_prl_owner (s : State) (k : Nat) : (State.coilService1 s k).prl.owner = s.prl.owner := by
  simp [State.coilService1]

@[simp] theorem State.coilService_prl_owner (s : State) : (State.coilService s).prl.owner = s.prl.owner := by
  simp [State.coilService]

@[simp] theorem State.degStart_prl_owner (s : State) : (State.degStart s).prl.owner = s.prl.owner := by
  simp [State.degStart]

@[simp] theorem State.pairSend_prl_owner (s : State) (kind : Nat) (body : List Byte) : (State.pairSend s kind body).prl.owner = s.prl.owner := by
  simp [State.pairSend]

@[simp] theorem State.swapSend_prl_owner (s : State) (sub : Nat) (b : Nat) : (State.swapSend s sub b).prl.owner = s.prl.owner := by
  simp [State.swapSend]

@[simp] theorem State.sendStatus_prl_owner (s : State) : (State.sendStatus s).prl.owner = s.prl.owner := by
  simp [State.sendStatus]

@[simp] theorem State.dropOutputs_prl_owner (s : State) : (State.dropOutputs s).prl.owner = s.prl.owner := by
  simp [State.dropOutputs]

@[simp] theorem State.swapAbandon_prl_owner (s : State) : (State.swapAbandon s).prl.owner = s.prl.owner := by
  unfold State.swapAbandon
  try dsimp only
  repeat' split
  all_goals (first | rfl | simp)

@[simp] theorem State.isolate_prl_owner (s : State) (c : Nat) : (State.isolate s c).prl.owner = s.prl.owner := by
  simp [State.isolate]

@[simp] theorem State.isoCatchUp_prl_owner (s : State) : (State.isoCatchUp s).prl.owner = s.prl.owner := by
  unfold State.isoCatchUp
  try dsimp only
  repeat' split
  all_goals (first | rfl | simp)

@[simp] theorem State.lostCatchUp_prl_owner (s : State) : (State.lostCatchUp s).prl.owner = s.prl.owner := by
  simp [State.lostCatchUp]

@[simp] theorem State.degPhase_prl_owner (s : State) : (State.degPhase s).prl.owner = s.prl.owner := by
  simp [State.degPhase]

@[simp] theorem State.phaseFault_prl_owner (s : State) (p : Nat) (c : Nat) : (State.phaseFault s p c).prl.owner = s.prl.owner := by
  simp [State.phaseFault]

@[simp] theorem State.requestSwap_prl_owner (s : State) : (State.requestSwap s).prl.owner = s.prl.owner := by
  simp [State.requestSwap]

@[simp] theorem State.autoSwap_prl_owner (s : State) : (State.autoSwap s).prl.owner = s.prl.owner := by
  simp [State.autoSwap]

@[simp] theorem State.addPhases_prl_owner (s : State) (req : Nat) : (State.addPhases s req).prl.owner = s.prl.owner := by
  simp [State.addPhases]

@[simp] theorem State.loadStep_prl_owner (s : State) : (State.loadStep s).prl.owner = s.prl.owner := by
  simp [State.loadStep]

@[simp] theorem State.startOrdered_prl_owner (s : State) : (State.startOrdered s).prl.owner = s.prl.owner := by
  simp [State.startOrdered]

@[simp] theorem State.startShed_prl_owner (s : State) (p : Nat) : (State.startShed s p).prl.owner = s.prl.owner := by
  simp [State.startShed]

@[simp] theorem State.shedDisabled_prl_owner (s : State) : (State.shedDisabled s).prl.owner = s.prl.owner := by
  simp [State.shedDisabled]

@[simp] theorem State.decidePhases_prl_owner (s : State) : (State.decidePhases s).prl.owner = s.prl.owner := by
  unfold State.decidePhases
  try dsimp only
  repeat' split
  all_goals (first | rfl | simp)

@[simp] theorem State.retarget_prl_owner (s : State) : (State.retarget s).prl.owner = s.prl.owner := by
  simp [State.retarget]

@[simp] theorem State.burstStart_prl_owner (s : State) : (State.burstStart s).prl.owner = s.prl.owner := by
  simp [State.burstStart]

@[simp] theorem State.burstStep_prl_owner (s : State) : (State.burstStep s).prl.owner = s.prl.owner := by
  simp [State.burstStep]

@[simp] theorem State.loopBurst_prl_owner (s : State) : (State.loopBurst s).prl.owner = s.prl.owner := by
  simp [State.loopBurst]

@[simp] theorem State.boundaryCounts_prl_owner (s : State) : (State.boundaryCounts s).prl.owner = s.prl.owner := by
  simp [State.boundaryCounts]

@[simp] theorem State.boundaryPhases_prl_owner (s : State) : (State.boundaryPhases s).prl.owner = s.prl.owner := by
  simp [State.boundaryPhases]

@[simp] theorem State.refBoundary_prl_owner (s : State) : (State.refBoundary s).prl.owner = s.prl.owner := by
  simp [State.refBoundary]

@[simp] theorem State.harnessFault_prl_owner (s : State) (h : Nat) (c : Nat) : (State.harnessFault s h c).prl.owner = s.prl.owner := by
  simp [State.harnessFault]

@[simp] theorem State.abandonTrk_prl_owner (s : State) (kind : Nat) (sev : Nat) : (State.abandonTrk s kind sev).prl.owner = s.prl.owner := by
  simp [State.abandonTrk]

@[simp] theorem State.trackStart_prl_owner (s : State) : (State.trackStart s).prl.owner = s.prl.owner := by
  simp [State.trackStart]

@[simp] theorem State.stopStart_prl_owner (s : State) (rate : Option Nat) : (State.stopStart s rate).prl.owner = s.prl.owner := by
  simp [State.stopStart]

@[simp] theorem State.dropCo3_prl_owner (s : State) : (State.dropCo3 s).prl.owner = s.prl.owner := by
  simp [State.dropCo3]

@[simp] theorem State.applyOuter_prl_owner (s : State) : (State.applyOuter s).prl.owner = s.prl.owner := by
  simp [State.applyOuter]

@[simp] theorem State.loadAtBoundary_prl_owner (s : State) : (State.loadAtBoundary s).prl.owner = s.prl.owner := by
  simp [State.loadAtBoundary]

@[simp] theorem State.queuePdu_prl_owner (s : State) (now : Nat) (apply : Nat) (mode : Nat) (v : Int) : (State.queuePdu s now apply mode v).prl.owner = s.prl.owner := by
  unfold State.queuePdu
  try dsimp only
  repeat' split
  all_goals (first | rfl | simp)

@[simp] theorem State.regCommand_prl_owner (s : State) (m : Nat) (v : Int) : (State.regCommand s m v).prl.owner = s.prl.owner := by
  simp [State.regCommand]

@[simp] theorem State.takeCmd_prl_owner (s0 : State) (c : SetCmd) : (State.takeCmd s0 c).prl.owner = s0.prl.owner := by
  simp [State.takeCmd]

@[simp] theorem State.intake_prl_owner (s : State) (now : Nat) : (State.intake s now).prl.owner = s.prl.owner := by
  simp [State.intake]

@[simp] theorem State.limits_prl_owner (s : State) (dt : Rat) : (State.limits s dt).prl.owner = s.prl.owner := by
  simp [State.limits]

@[simp] theorem State.probeSuspend_prl_owner (s : State) : (State.probeSuspend s).prl.owner = s.prl.owner := by
  simp [State.probeSuspend]

@[simp] theorem State.applyClamp_prl_owner (s : State) (q : Rat) (dtNs : Nat) : (State.applyClamp s q dtNs).1.prl.owner = s.prl.owner := by
  simp [State.applyClamp]

@[simp] theorem State.holdTones_prl_owner (s : State) : (State.holdTones s).prl.owner = s.prl.owner := by
  simp [State.holdTones]

@[simp] theorem State.outerLoop_prl_owner (s : State) (q : Rat) (dtNs : Nat) : (State.outerLoop s q dtNs).prl.owner = s.prl.owner := by
  simp [State.outerLoop]

@[simp] theorem State.startMode_prl_owner (s : State) (m : Nat) : (State.startMode s m).prl.owner = s.prl.owner := by
  simp [State.startMode]

@[simp] theorem State.modeChange_prl_owner (s : State) : (State.modeChange s).prl.owner = s.prl.owner := by
  simp [State.modeChange]

@[simp] theorem State.droopStep_prl_owner (s : State) : (State.droopStep s).prl.owner = s.prl.owner := by
  simp [State.droopStep]

@[simp] theorem State.droop_prl_owner (s : State) : (State.droop s).prl.owner = s.prl.owner := by
  simp [State.droop]

@[simp] theorem State.trackTick_prl_owner (s : State) (dt : Rat) : (State.trackTick s dt).prl.owner = s.prl.owner := by
  simp [State.trackTick]

@[simp] theorem State.holdTick_prl_owner (s0 : State) (dt : Rat) : (State.holdTick s0 dt).prl.owner = s0.prl.owner := by
  simp [State.holdTick]

@[simp] theorem State.setRef_prl_owner (s : State) (q : Rat) (dtNs : Nat) : (State.setRef s q dtNs).prl.owner = s.prl.owner := by
  simp [State.setRef]

@[simp] theorem State.linkRef_prl_owner (s : State) (dtNs : Nat) : (State.linkRef s dtNs).prl.owner = s.prl.owner := by
  simp [State.linkRef]

@[simp] theorem State.calRampTick_prl_owner (s : State) (dtNs : Nat) (dt : Rat) : (State.calRampTick s dtNs dt).prl.owner = s.prl.owner := by
  simp [State.calRampTick]

@[simp] theorem State.dispatchEval_prl_owner (s : State) (now : Nat) (dtNs : Nat) (dt : Rat) : (State.dispatchEval s now dtNs dt).prl.owner = s.prl.owner := by
  simp [State.dispatchEval]

@[simp] theorem State.stopEval_prl_owner (s : State) (now : Nat) (dtNs : Nat) (dt : Rat) : (State.stopEval s now dtNs dt).prl.owner = s.prl.owner := by
  simp [State.stopEval]

@[simp] theorem State.outerEval_prl_owner (s : State) (now : Nat) (dtNs : Nat) : (State.outerEval s now dtNs).prl.owner = s.prl.owner := by
  unfold State.outerEval
  try dsimp only
  repeat' split
  all_goals (first | rfl | simp)

@[simp] theorem State.missDeadline_prl_owner (s : State) (now : Nat) : (State.missDeadline s now).prl.owner = s.prl.owner := by
  simp [State.missDeadline]

@[simp] theorem State.tonesAt_prl_owner (s0 : State) (now : Nat) : (State.tonesAt s0 now).prl.owner = s0.prl.owner := by
  simp [State.tonesAt]

@[simp] theorem State.isum_prl_owner (s : State) : (State.isum s).prl.owner = s.prl.owner := by
  simp [State.isum]

@[simp] theorem State.innerEval_prl_owner (s : State) (p : Nat) (m : EvalIn) : (State.innerEval s p m).prl.owner = s.prl.owner := by
  simp [State.innerEval]

@[simp] theorem State.rampStep_prl_owner (s : State) (p : Nat) (m : EvalIn) : (State.rampStep s p m).prl.owner = s.prl.owner := by
  simp [State.rampStep]

@[simp] theorem State.brakeStep_prl_owner (s : State) (p : Nat) (m : EvalIn) : (State.brakeStep s p m).prl.owner = s.prl.owner := by
  simp [State.brakeStep]

@[simp] theorem State.deStep_prl_owner (s : State) (p : Nat) (m : EvalIn) : (State.deStep s p m).prl.owner = s.prl.owner := by
  simp [State.deStep]

@[simp] theorem State.issue_prl_owner (s : State) (p : Nat) (m : EvalIn) : (State.issue s p m).prl.owner = s.prl.owner := by
  simp [State.issue]

@[simp] theorem State.observe_prl_owner (s : State) (p : Nat) (m : EvalIn) (ma : Int) : (State.observe s p m ma).prl.owner = s.prl.owner := by
  simp [State.observe]

@[simp] theorem State.updatePoint_prl_owner (s : State) (p : Nat) (m : EvalIn) : (State.updatePoint s p m).prl.owner = s.prl.owner := by
  simp [State.updatePoint]

@[simp] theorem State.heldPoint_prl_owner (s0 : State) (p : Nat) (m : EvalIn) : (State.heldPoint s0 p m).prl.owner = s0.prl.owner := by
  simp [State.heldPoint]

@[simp] theorem State.ceTap_prl_owner (s : State) (p : Nat) (m : EvalIn) : (State.ceTap s p m).prl.owner = s.prl.owner := by
  unfold State.ceTap
  try dsimp only
  repeat' split
  all_goals (first | rfl | simp)

@[simp] theorem State.evalWrites_prl_owner (s : State) (p : Nat) (m : EvalIn) : (State.evalWrites s p m).prl.owner = s.prl.owner := by
  simp [State.evalWrites]

@[simp] theorem State.logSkip_prl_owner (s : State) (e : Nat) (w : Nat) (ecc : Bool) : (State.logSkip s e w ecc).prl.owner = s.prl.owner := by
  simp [State.logSkip]

@[simp] theorem State.announced_prl_owner (s : State) (m : EntryIn) : (State.announced s m).prl.owner = s.prl.owner := by
  simp [State.announced]

@[simp] theorem State.unlessPilot_prl_owner (s t : State) (h : t.prl.owner = s.prl.owner) : (s.unlessPilot t).prl.owner = s.prl.owner := by
  unfold State.unlessPilot
  split <;> simp [h]

@[simp] theorem State.swapAtEnd_prl_owner (s : State) : (State.swapAtEnd s).prl.owner = s.prl.owner := by
  simp [State.swapAtEnd]

@[simp] theorem State.swapAtStart_prl_owner (s : State) : (State.swapAtStart s).prl.owner = s.prl.owner := by
  simp [State.swapAtStart]

@[simp] theorem State.push_prl_owner (s : State) (scope : Nat) : (State.push s scope).prl.owner = s.prl.owner := by
  simp [State.push]

@[simp] theorem State.markSnapshot_prl_owner (s : State) (w : Nat) : (State.markSnapshot s w).prl.owner = s.prl.owner := by
  simp [State.markSnapshot]

@[simp] theorem State.takePoint_prl_owner (s : State) : (State.takePoint s).prl.owner = s.prl.owner := by
  simp [State.takePoint]

@[simp] theorem State.pointBoundary_prl_owner (s : State) (k : Nat) : (State.pointBoundary s k).prl.owner = s.prl.owner := by
  simp [State.pointBoundary]

@[simp] theorem State.tagTone_prl_owner (s : State) (k : Nat) (e : Nat × Nat × Nat) : (State.tagTone s k e).prl.owner = s.prl.owner := by
  simp [State.tagTone]

@[simp] theorem State.probeLatch_prl_owner (s : State) (i : Nat) : (State.probeLatch s i).prl.owner = s.prl.owner := by
  simp [State.probeLatch]

@[simp] theorem State.tint_prl_owner (s : State) (g : Nat) (arg : Int) : (State.tint s g arg).prl.owner = s.prl.owner := by
  simp [State.tint]

@[simp] theorem State.publish_prl_owner (s : State) (k : Nat) (g : Nat) (z : Nat × Int) (nd : Bool) : (State.publish s k g z nd).prl.owner = s.prl.owner := by
  simp [State.publish]

@[simp] theorem State.takePublish_prl_owner (s : State) : (State.takePublish s).prl.owner = s.prl.owner := by
  simp [State.takePublish]

@[simp] theorem State.closeGroup_prl_owner (s : State) (k : Nat) (g : Nat) (nd : Bool) (a : PointAcc) : (State.closeGroup s k g nd a).1.prl.owner = s.prl.owner := by
  simp [State.closeGroup]

@[simp] theorem State.probeTone_prl_owner (s : State) (g : Nat) (k : Nat) : (State.probeTone s g k).prl.owner = s.prl.owner := by
  unfold State.probeTone
  try dsimp only
  repeat' split
  all_goals (first | rfl | simp)

@[simp] theorem State.probeNode_prl_owner (s : State) (n : Nat) : (State.probeNode s n).prl.owner = s.prl.owner := by
  simp [State.probeNode]

@[simp] theorem State.pointOver_prl_owner (s : State) (k : Nat) (a : PointAcc) : (State.pointOver s k a).prl.owner = s.prl.owner := by
  simp [State.pointOver]

@[simp] theorem State.closeRest_prl_owner (s : State) (k : Nat) (nd : Bool) (a : PointAcc) : (State.closeRest s k nd a).prl.owner = s.prl.owner := by
  simp [State.closeRest]

@[simp] theorem State.probeMissed_prl_owner (s : State) (k : Nat) : (State.probeMissed s k).prl.owner = s.prl.owner := by
  simp [State.probeMissed]

@[simp] theorem State.probeEndTone_prl_owner (s : State) (k : Nat) : (State.probeEndTone s k).prl.owner = s.prl.owner := by
  unfold State.probeEndTone
  simp only []
  split <;> simp

@[simp] theorem State.probeSwapTone_prl_owner (s : State) (k : Nat) : (State.probeSwapTone s k).prl.owner = s.prl.owner := by
  simp [State.probeSwapTone]

@[simp] theorem State.probeEnd_prl_owner (s : State) : (State.probeEnd s).prl.owner = s.prl.owner := by
  simp [State.probeEnd]

@[simp] theorem State.loadTones_prl_owner (s : State) : (State.loadTones s).prl.owner = s.prl.owner := by
  simp [State.loadTones]

@[simp] theorem State.probeRestart_prl_owner (s : State) : (State.probeRestart s).prl.owner = s.prl.owner := by
  unfold State.probeRestart
  exact State.prl_owner_foldl _ _ _ (fun t x => by
    dsimp only
    split <;> split <;> simp)

@[simp] theorem State.advanceEpoch_prl_owner (s : State) : (State.advanceEpoch s).prl.owner = s.prl.owner := by
  simp [State.advanceEpoch]

@[simp] theorem State.takeFc_prl_owner (s : State) (u : Nat) : (State.takeFc s u).prl.owner = s.prl.owner := by
  simp [State.takeFc]

@[simp] theorem State.sendEpoch_prl_owner (s : State) (u : Nat) (typ : Nat) (ver : Nat) (addr : Nat) (p : List Byte) : (State.sendEpoch s u typ ver addr p).prl.owner = s.prl.owner := by
  simp [State.sendEpoch]

@[simp] theorem State.applyBank_prl_owner (s : State) : (State.applyBank s).prl.owner = s.prl.owner := by
  simp [State.applyBank]

@[simp] theorem State.takeAlign_prl_owner (s : State) : (State.takeAlign s).prl.owner = s.prl.owner := by
  simp [State.takeAlign]

@[simp] theorem State.freeze_prl_owner (s : State) : (State.freeze s).prl.owner = s.prl.owner := by
  simp [State.freeze]

@[simp] theorem State.sendBeacon_prl_owner (s : State) (u : Nat) (txLt : Nat) (startDt : Nat) : (State.sendBeacon s u txLt startDt).prl.owner = s.prl.owner := by
  simp [State.sendBeacon]

@[simp] theorem State.sendCmd_prl_owner (s : State) (u : Nat) (n : Nat) : (State.sendCmd s u n).prl.owner = s.prl.owner := by
  unfold State.sendCmd
  try dsimp only
  repeat' split
  all_goals (first | rfl | simp)

@[simp] theorem State.sendReply_prl_owner (s : State) (u : Nat) (r0 : JoinReply) : (State.sendReply s u r0).prl.owner = s.prl.owner := by
  simp [State.sendReply]

@[simp] theorem State.sendDyn_prl_owner (s : State) (u : Nat) : (State.sendDyn s u).prl.owner = s.prl.owner := by
  unfold State.sendDyn
  try dsimp only
  repeat' split
  all_goals (first | rfl | simp)

@[simp] theorem State.rxCount_prl_owner (s : State) (u : Nat) (n : Nat) (k : RxFail) : (State.rxCount s u n k).prl.owner = s.prl.owner := by
  simp [State.rxCount]

@[simp] theorem State.rxAccept_prl_owner (s : State) (f : RxFrame) : (State.rxAccept s f).prl.owner = s.prl.owner := by
  simp [State.rxAccept]

@[simp] theorem State.kackSet_prl_owner (s : State) (u : Nat) (addr : Nat) (fc : Nat) : (State.kackSet s u addr fc).prl.owner = s.prl.owner := by
  simp [State.kackSet]

@[simp] theorem State.joinUnknown_prl_owner (s : State) (u : Nat) (serial : Nat) : (State.joinUnknown s u serial).prl.owner = s.prl.owner := by
  simp [State.joinUnknown]

@[simp] theorem State.queueReply_prl_owner (s : State) (r : JoinReply) : (State.queueReply s r).prl.owner = s.prl.owner := by
  simp [State.queueReply]

@[simp] theorem State.queueCmd_prl_owner (s : State) (n : Nat) (cmd : Nat) (params : List Nat) (chan : Option Nat) : (State.queueCmd s n cmd params chan).prl.owner = s.prl.owner := by
  simp [State.queueCmd]

@[simp] theorem State.joined_prl_owner (s : State) (r : JoinReply) : (State.joined s r).prl.owner = s.prl.owner := by
  simp [State.joined]

@[simp] theorem State.radioFrameEnd_prl_owner (s : State) : (State.radioFrameEnd s).prl.owner = s.prl.owner := by
  unfold State.radioFrameEnd
  try dsimp only
  repeat' split
  all_goals (first | rfl | simp)

@[simp] theorem State.linkFrameStart_prl_owner (s : State) : (State.linkFrameStart s).prl.owner = s.prl.owner := by
  simp [State.linkFrameStart]

@[simp] theorem State.updEnd_prl_owner (s : State) : (State.updEnd s).prl.owner = s.prl.owner := by
  simp [State.updEnd]

@[simp] theorem State.updDisturbed_prl_owner (s : State) : (State.updDisturbed s).prl.owner = s.prl.owner := by
  simp [State.updDisturbed]

@[simp] theorem State.updFault_prl_owner (s : State) (src : Nat) (what : Nat) (item : Nat) : (State.updFault s src what item).prl.owner = s.prl.owner := by
  simp [State.updFault]

@[simp] theorem State.confirm_prl_owner (s : State) : (State.confirm s).prl.owner = s.prl.owner := by
  simp [State.confirm]

@[simp] theorem State.rollCheck_prl_owner (s : State) : (State.rollCheck s).prl.owner = s.prl.owner := by
  simp [State.rollCheck]

@[simp] theorem State.rollLeave_prl_owner (s : State) (n : Nat) : (State.rollLeave s n).prl.owner = s.prl.owner := by
  simp [State.rollLeave]

@[simp] theorem State.rollSweep_prl_owner (s : State) (n : Nat) : (State.rollSweep s n).prl.owner = s.prl.owner := by
  simp [State.rollSweep]

@[simp] theorem State.queueTiming_prl_owner (s : State) (n : Nat) (ns : Nat) : (State.queueTiming s n ns).prl.owner = s.prl.owner := by
  simp [State.queueTiming]

@[simp] theorem State.queueLimits_prl_owner (s : State) (n : Nat) : (State.queueLimits s n).prl.owner = s.prl.owner := by
  simp [State.queueLimits]

@[simp] theorem State.logUncounted_prl_owner (s : State) (qint : Int) : (State.logUncounted s qint).prl.owner = s.prl.owner := by
  simp [State.logUncounted]

@[simp] theorem State.latch_prl_owner (s : State) (w : Nat) (ma : Int) (vStr : Int) (vBus : Int) (dq : Int) : (State.latch s w ma vStr vBus dq).prl.owner = s.prl.owner := by
  simp [State.latch]

@[simp] theorem State.modNode_prl_owner (s : State) (n : Nat) (f : Nat → GroupRec → GroupRec) : (State.modNode s n f).prl.owner = s.prl.owner := by
  simp [State.modNode]

@[simp] theorem State.writeStale_prl_owner (s : State) (n : Nat) (own : Nat) (rep : Option Nat) : (State.writeStale s n own rep).prl.owner = s.prl.owner := by
  simp [State.writeStale]

@[simp] theorem State.tofTake_prl_owner (s : State) (n : Nat) (sample : Rat) : (State.tofTake s n sample).prl.owner = s.prl.owner := by
  simp [State.tofTake]

@[simp] theorem State.tofSample_prl_owner (s : State) (u : Nat) (n : Nat) (r : Report) (rxLt : Nat) : (State.tofSample s u n r rxLt).prl.owner = s.prl.owner := by
  unfold State.tofSample
  split
  · rfl
  · split
    · rfl
    · dsimp only
      split <;> simp

@[simp] theorem State.degWire_prl_owner (s : State) : (State.degWire s).prl.owner = s.prl.owner := by
  simp [State.degWire]

@[simp] theorem State.openWire_prl_owner (s : State) (n : Nat) (k : Nat) (tval : Int) : (State.openWire s n k tval).prl.owner = s.prl.owner := by
  simp [State.openWire]

@[simp] theorem State.logBst_prl_owner (s : State) (n : Nat) (p : Nat) (row : Nat) : (State.logBst s n p row).prl.owner = s.prl.owner := by
  simp [State.logBst]

@[simp] theorem State.logRow_prl_owner (s : State) (n : Nat) (r : Nat) (fresh : Nat) : (State.logRow s n r fresh).prl.owner = s.prl.owner := by
  simp [State.logRow]

@[simp] theorem State.passDone_prl_owner (s : State) (n : Nat) (pass : List (Option Nat)) : (State.passDone s n pass).prl.owner = s.prl.owner := by
  simp [State.passDone]

@[simp] theorem State.switchTest_prl_owner (s : State) (n : Nat) (p : Nat) (v : Nat) (tval : Int) : (State.switchTest s n p v tval).prl.owner = s.prl.owner := by
  simp [State.switchTest]

@[simp] theorem State.testResult_prl_owner (s : State) (n : Nat) (r : Report) : (State.testResult s n r).prl.owner = s.prl.owner := by
  simp [State.testResult]

@[simp] theorem State.nodeSum_prl_owner (s : State) (n : Nat) (r : Report) : (State.nodeSum s n r).prl.owner = s.prl.owner := by
  simp [State.nodeSum]

@[simp] theorem State.sagSweep_prl_owner (s : State) (n : Nat) (r : Report) : (State.sagSweep s n r).prl.owner = s.prl.owner := by
  simp [State.sagSweep]

@[simp] theorem State.writeValid_prl_owner (s : State) (n : Nat) (r : Report) : (State.writeValid s n r).prl.owner = s.prl.owner := by
  simp [State.writeValid]

@[simp] theorem State.sweep_prl_owner (s : State) (u : Nat) (n : Nat) (rxLt : Nat) (p : List Byte) : (State.sweep s u n rxLt p).prl.owner = s.prl.owner := by
  simp [State.sweep]

@[simp] theorem State.nodeEnd_prl_owner (s : State) (n : Nat) : (State.nodeEnd s n).prl.owner = s.prl.owner := by
  simp [State.nodeEnd]

@[simp] theorem State.stringSum_prl_owner (s : State) : (State.stringSum s).prl.owner = s.prl.owner := by
  simp [State.stringSum]

@[simp] theorem State.logPatterns_prl_owner (s : State) (n : Nat) : (State.logPatterns s n).prl.owner = s.prl.owner := by
  simp [State.logPatterns]

@[simp] theorem State.nodePattern_prl_owner (s : State) (full : Bool) (n : Nat) : (State.nodePattern s full n).prl.owner = s.prl.owner := by
  simp [State.nodePattern]

@[simp] theorem State.stringPattern_prl_owner (s : State) : (State.stringPattern s).prl.owner = s.prl.owner := by
  simp [State.stringPattern]

@[simp] theorem State.patterns_prl_owner (s : State) (full : Bool) : (State.patterns s full).prl.owner = s.prl.owner := by
  simp [State.patterns]

@[simp] theorem State.degLost_prl_owner (s : State) : (State.degLost s).prl.owner = s.prl.owner := by
  simp [State.degLost]

@[simp] theorem State.measureEnd_prl_owner (s : State) : (State.measureEnd s).prl.owner = s.prl.owner := by
  simp [State.measureEnd]

@[simp] theorem State.halfSum_prl_owner (s : State) (n : Nat) (k : Nat) : (State.halfSum s n k).prl.owner = s.prl.owner := by
  simp [State.halfSum]

@[simp] theorem State.voltages_prl_owner (s : State) (n : Nat) : (State.voltages s n).prl.owner = s.prl.owner := by
  simp [State.voltages]

@[simp] theorem State.countRec_prl_owner (s : State) (g : Nat) (dq : Int) : (State.countRec s g dq).prl.owner = s.prl.owner := by
  simp [State.countRec]

@[simp] theorem State.armedCycle_prl_owner (s : State) (g : Nat) (dq : Int) : (State.armedCycle s g dq).prl.owner = s.prl.owner := by
  simp [State.armedCycle]

@[simp] theorem State.fullAnchor_prl_owner (s : State) (g : Nat) : (State.fullAnchor s g).prl.owner = s.prl.owner := by
  simp [State.fullAnchor]

@[simp] theorem State.learn_prl_owner (s : State) (g : Nat) : (State.learn s g).prl.owner = s.prl.owner := by
  simp [State.learn]

@[simp] theorem State.emptyAnchor_prl_owner (s : State) (g : Nat) : (State.emptyAnchor s g).prl.owner = s.prl.owner := by
  simp [State.emptyAnchor]

@[simp] theorem State.ocvAnchor_prl_owner (s : State) (g : Nat) : (State.ocvAnchor s g).prl.owner = s.prl.owner := by
  unfold State.ocvAnchor
  try dsimp only
  repeat' split
  all_goals (first | rfl | simp)

@[simp] theorem State.disagreeCheck_prl_owner (s : State) (g : Nat) : (State.disagreeCheck s g).prl.owner = s.prl.owner := by
  simp [State.disagreeCheck]

@[simp] theorem State.cutoffCheck_prl_owner (s : State) (g : Nat) : (State.cutoffCheck s g).prl.owner = s.prl.owner := by
  simp [State.cutoffCheck]

@[simp] theorem State.qRepUpdate_prl_owner (s : State) (g : Nat) : (State.qRepUpdate s g).prl.owner = s.prl.owner := by
  simp [State.qRepUpdate]

@[simp] theorem State.chargeGroup_prl_owner (s : State) (g : Nat) : (State.chargeGroup s g).prl.owner = s.prl.owner := by
  simp [State.chargeGroup]

@[simp] theorem State.chargeNode_prl_owner (s : State) (n : Nat) : (State.chargeNode s n).prl.owner = s.prl.owner := by
  simp [State.chargeNode]

@[simp] theorem State.coneNode_prl_owner (s : State) (n : Nat) : (State.coneNode s n).prl.owner = s.prl.owner := by
  simp [State.coneNode]

@[simp] theorem State.direction_prl_owner (s0 : State) : (State.direction s0).prl.owner = s0.prl.owner := by
  simp [State.direction]

@[simp] theorem State.balLosses_prl_owner (s : State) : (State.balLosses s).prl.owner = s.prl.owner := by
  simp [State.balLosses]

@[simp] theorem State.stringReports_prl_owner (s : State) : (State.stringReports s).prl.owner = s.prl.owner := by
  simp [State.stringReports]

@[simp] theorem State.estLimits_prl_owner (s : State) : (State.estLimits s).prl.owner = s.prl.owner := by
  simp [State.estLimits]

@[simp] theorem State.crossing_prl_owner (s : State) (side : Nat) (level : Nat) (dir : Nat) (crit : Nat) (g : Nat) : (State.crossing s side level dir crit g).prl.owner = s.prl.owner := by
  simp [State.crossing]

@[simp] theorem State.crossings_prl_owner (s : State) (side : Nat) (old : Nat) (new : Nat) : (State.crossings s side old new).prl.owner = s.prl.owner := by
  simp [State.crossings]

@[simp] theorem State.stringCones_prl_owner (s : State) : (State.stringCones s).prl.owner = s.prl.owner := by
  simp [State.stringCones]

@[simp] theorem State.coneCatchUp_prl_owner (s : State) : (State.coneCatchUp s).prl.owner = s.prl.owner := by
  simp [State.coneCatchUp]

@[simp] theorem State.adoptGroup_prl_owner (s : State) (g : Nat) : (State.adoptGroup s g).prl.owner = s.prl.owner := by
  simp [State.adoptGroup]

@[simp] theorem State.adoptAll_prl_owner (s : State) : (State.adoptAll s).prl.owner = s.prl.owner := by
  simp [State.adoptAll]

@[simp] theorem State.calEnd_prl_owner (s : State) : (State.calEnd s).prl.owner = s.prl.owner := by
  simp [State.calEnd]

@[simp] theorem State.calCheck_prl_owner (s : State) : (State.calCheck s).prl.owner = s.prl.owner := by
  simp [State.calCheck]

@[simp] theorem State.ceString_prl_owner (s : State) : (State.ceString s).prl.owner = s.prl.owner := by
  simp [State.ceString]

@[simp] theorem State.estimateEnd_prl_owner (s : State) : (State.estimateEnd s).prl.owner = s.prl.owner := by
  simp [State.estimateEnd]

@[simp] theorem State.capCommitEnd_prl_owner (s : State) (ok : Bool) : (State.capCommitEnd s ok).prl.owner = s.prl.owner := by
  simp [State.capCommitEnd]

@[simp] theorem State.capCommitStart_prl_owner (s : State) : (State.capCommitStart s).prl.owner = s.prl.owner := by
  simp [State.capCommitStart]

@[simp] theorem State.reportDrops_prl_owner (s : State) : (State.reportDrops s).prl.owner = s.prl.owner := by
  unfold State.reportDrops
  try dsimp only
  repeat' split
  all_goals (first | rfl | simp)

@[simp] theorem State.logWriteOne_prl_owner (s : State) : (State.logWriteOne s).prl.owner = s.prl.owner := by
  unfold State.logWriteOne
  try dsimp only
  repeat' split
  all_goals (first | rfl | simp)

@[simp] theorem State.logDrain_prl_owner (s : State) : (State.logDrain s).prl.owner = s.prl.owner := by
  simp [State.logDrain]

@[simp] theorem State.nvmBad_prl_owner (s : State) (a : Nat) : (State.nvmBad s a).prl.owner = s.prl.owner := by
  simp [State.nvmBad]

@[simp] theorem State.nvmUncorrectable_prl_owner (s : State) (a : Nat) : (State.nvmUncorrectable s a).prl.owner = s.prl.owner := by
  simp [State.nvmUncorrectable]

@[simp] theorem State.pd0Backup_prl_owner (s : State) : (State.pd0Backup s).prl.owner = s.prl.owner := by
  simp [State.pd0Backup]

@[simp] theorem State.thmConvert_prl_owner (s : State) : (State.thmConvert s).prl.owner = s.prl.owner := by
  simp [State.thmConvert]

@[simp] theorem State.thmTake_prl_owner (s : State) (src : Nat) (mask : Nat) (x : ThmIn) : (State.thmTake s src mask x).prl.owner = s.prl.owner := by
  unfold State.thmTake
  try dsimp only
  repeat' split
  all_goals (first | rfl | simp)

@[simp] theorem State.thmModel_prl_owner (s : State) (p : Nat) : (State.thmModel s p).prl.owner = s.prl.owner := by
  simp [State.thmModel]

@[simp] theorem State.thmPhase_prl_owner (s : State) (p : Nat) : (State.thmPhase s p).prl.owner = s.prl.owner := by
  simp [State.thmPhase]

@[simp] theorem State.thmGroup_prl_owner (s : State) (g : Nat) : (State.thmGroup s g).prl.owner = s.prl.owner := by
  simp [State.thmGroup]

@[simp] theorem State.thmFrame_prl_owner (s : State) : (State.thmFrame s).prl.owner = s.prl.owner := by
  simp [State.thmFrame]

@[simp] theorem State.degThermal_prl_owner (s : State) : (State.degThermal s).prl.owner = s.prl.owner := by
  simp [State.degThermal]

@[simp] theorem State.factors_prl_owner (s : State) : (State.factors s).prl.owner = s.prl.owner := by
  simp [State.factors]

@[simp] theorem State.derateMsg_prl_owner (s : State) (chg : Bool) (kind : Nat) (limit : Nat) : (State.derateMsg s chg kind limit).prl.owner = s.prl.owner := by
  simp [State.derateMsg]

@[simp] theorem State.derateLog_prl_owner (s : State) (chg : Bool) (kind : Nat) (limit : Nat) : (State.derateLog s chg kind limit).prl.owner = s.prl.owner := by
  simp [State.derateLog]

@[simp] theorem State.derateStep_prl_owner (s : State) (chg : Bool) : (State.derateStep s chg).prl.owner = s.prl.owner := by
  unfold State.derateStep
  try dsimp only
  repeat' split
  all_goals (first | rfl | simp)

@[simp] theorem State.thmCatchUp_prl_owner (s : State) : (State.thmCatchUp s).prl.owner = s.prl.owner := by
  simp [State.thmCatchUp]

@[simp] theorem State.thmHot_prl_owner (s : State) : (State.thmHot s).prl.owner = s.prl.owner := by
  simp [State.thmHot]

@[simp] theorem State.thmTick_prl_owner (s : State) : (State.thmTick s).prl.owner = s.prl.owner := by
  simp [State.thmTick]

@[simp] theorem State.batchNode_prl_owner (s : State) (w : Nat) (n : Nat) : (State.batchNode s w n).prl.owner = s.prl.owner := by
  simp [State.batchNode]

@[simp] theorem State.toneStats_prl_owner (s : State) : (State.toneStats s).prl.owner = s.prl.owner := by
  simp [State.toneStats]

@[simp] theorem State.latchCheck_prl_owner (s : State) : (State.latchCheck s).prl.owner = s.prl.owner := by
  simp [State.latchCheck]

@[simp] theorem State.applyTables_prl_owner (s : State) : (State.applyTables s).prl.owner = s.prl.owner := by
  simp [State.applyTables]

@[simp] theorem State.applyFrameEnd_prl_owner (s : State) : (State.applyFrameEnd s).prl.owner = s.prl.owner := by
  simp [State.applyFrameEnd]

@[simp] theorem State.frameEndWork_prl_owner (s : State) : (State.frameEndWork s).prl.owner = s.prl.owner := by
  simp [State.frameEndWork]

@[simp] theorem State.abandonRest_prl_owner (s : State) (now : Nat) : (State.abandonRest s now).prl.owner = s.prl.owner := by
  simp [State.abandonRest]

@[simp] theorem State.alignStat_prl_owner (s : State) : (State.alignStat s).prl.owner = s.prl.owner := by
  simp [State.alignStat]

@[simp] theorem State.stepTime_prl_owner (s : State) : (State.stepTime s).prl.owner = s.prl.owner := by
  unfold State.stepTime
  try dsimp only
  repeat' split
  all_goals (first | rfl | simp)

@[simp] theorem State.adoptPeriod_prl_owner (s : State) : (State.adoptPeriod s).prl.owner = s.prl.owner := by
  unfold State.adoptPeriod
  try dsimp only
  repeat' split
  all_goals (first | rfl | simp)

@[simp] theorem State.ceFrameStart_prl_owner (s : State) : (State.ceFrameStart s).prl.owner = s.prl.owner := by
  simp [State.ceFrameStart]

@[simp] theorem State.bankChange_prl_owner (s : State) : (State.bankChange s).prl.owner = s.prl.owner := by
  simp [State.bankChange]

@[simp] theorem State.followBank_prl_owner (s : State) : (State.followBank s).prl.owner = s.prl.owner := by
  unfold State.followBank
  try dsimp only
  repeat' split
  all_goals (first | rfl | simp)

@[simp] theorem State.frameStart_prl_owner (s : State) : (State.frameStart s).prl.owner = s.prl.owner := by
  simp [State.frameStart]

@[simp] theorem State.rejectImages_prl_owner (s : State) : (State.rejectImages s).prl.owner = s.prl.owner := by
  simp [State.rejectImages]

@[simp] theorem State.loadBoot_prl_owner (s : State) : (State.loadBoot s).prl.owner = s.prl.owner := by
  simp [State.loadBoot]

@[simp] theorem State.startFsq_prl_owner (s : State) : (State.startFsq s).prl.owner = s.prl.owner := by
  simp [State.startFsq]

@[simp] theorem State.bootReselect_prl_owner (s : State) : (State.bootReselect s).prl.owner = s.prl.owner := by
  simp [State.bootReselect]

@[simp] theorem State.sagIsolate_prl_owner (s : State) (c : Nat) : (State.sagIsolate s c).prl.owner = s.prl.owner := by
  simp [State.sagIsolate]

@[simp] theorem State.diag_prl_owner (s : State) (k : Nat) (bad : Bool) : (State.diag s k bad).prl.owner = s.prl.owner := by
  simp [State.diag]

@[simp] theorem State.diagFail_prl_owner (s : State) (k : Nat) : (State.diagFail s k).prl.owner = s.prl.owner := by
  simp [State.diagFail]

@[simp] theorem State.diagHard_prl_owner (s : State) : (State.diagHard s).prl.owner = s.prl.owner := by
  simp [State.diagHard]

@[simp] theorem State.coilTestFail_prl_owner (s : State) (sw : Nat) : (State.coilTestFail s sw).prl.owner = s.prl.owner := by
  simp [State.coilTestFail]

@[simp] theorem State.slotSkip_prl_owner (s : State) (sw : Nat) : (State.slotSkip s sw).prl.owner = s.prl.owner := by
  simp [State.slotSkip]

@[simp] theorem State.degSession_prl_owner (s : State) : (State.degSession s).prl.owner = s.prl.owner := by
  simp [State.degSession]

@[simp] theorem State.degNet_prl_owner (s : State) : (State.degNet s).prl.owner = s.prl.owner := by
  simp [State.degNet]

@[simp] theorem State.pduMiss_prl_owner (s : State) : (State.pduMiss s).prl.owner = s.prl.owner := by
  simp [State.pduMiss]

@[simp] theorem State.pduAct_prl_owner (s0 : State) (p : PortId) (b : List Byte) : (State.pduAct s0 p b).prl.owner = s0.prl.owner := by
  simp [State.pduAct]

@[simp] theorem State.pduSecond_prl_owner (s : State) (b : List Byte) : (State.pduSecond s b).prl.owner = s.prl.owner := by
  simp [State.pduSecond]

@[simp] theorem State.pduHeard_prl_owner (s : State) (p : PortId) (h : Net) : (State.pduHeard s p h).prl.owner = s.prl.owner := by
  simp [State.pduHeard]

@[simp] theorem State.pduCopy_prl_owner (s : State) (p : PortId) (b : List Byte) (h : Net) : (State.pduCopy s p b h).prl.owner = s.prl.owner := by
  unfold State.pduCopy
  try dsimp only
  repeat' split
  all_goals (first | rfl | simp)

@[simp] theorem State.latchClear_prl_owner (s : State) : (State.latchClear s).prl.owner = s.prl.owner := by
  simp [State.latchClear]

@[simp] theorem State.clogAdd_prl_owner (s : State) (kind : Nat) (source : Nat) (index : Nat) (old : Int) (new : Int) : (State.clogAdd s kind source index old new).prl.owner = s.prl.owner := by
  simp [State.clogAdd]

@[simp] theorem State.cfgCommit_prl_owner (s : State) (source : Nat) : (State.cfgCommit s source).prl.owner = s.prl.owner := by
  simp [State.cfgCommit]

@[simp] theorem State.cfgOpen_prl_owner (s : State) (source : Nat) : (State.cfgOpen s source).prl.owner = s.prl.owner := by
  simp [State.cfgOpen]

@[simp] theorem State.cfgEnd_prl_owner (s : State) : (State.cfgEnd s).prl.owner = s.prl.owner := by
  unfold State.cfgEnd
  try dsimp only
  repeat' split
  all_goals (first | rfl | simp)

@[simp] theorem State.cfgFail_prl_owner (s : State) : (State.cfgFail s).prl.owner = s.prl.owner := by
  simp [State.cfgFail]

@[simp] theorem State.loginFails_prl_owner (s : State) (src : Nat) : (State.loginFails s src).prl.owner = s.prl.owner := by
  simp [State.loginFails]

@[simp] theorem State.setPassword_prl_owner (s : State) (pw : List Byte) (source : Nat) : (State.setPassword s pw source).prl.owner = s.prl.owner := by
  simp [State.setPassword]

@[simp] theorem State.sagReset_prl_owner (s : State) (format : Nat) (fw : Nat) : (State.sagReset s format fw).prl.owner = s.prl.owner := by
  unfold State.sagReset
  dsimp only
  split
  · exact State.clogAdd_prl_owner ..
  · exact (State.clogAdd_prl_owner ..).trans (State.clogAdd_prl_owner ..)

@[simp] theorem State.pd0Restore_prl_owner (s : State) : (State.pd0Restore s).prl.owner = s.prl.owner := by
  simp [State.pd0Restore]

@[simp] theorem State.settingsLoad_prl_owner (s : State) : (State.settingsLoad s).prl.owner = s.prl.owner := by
  unfold State.settingsLoad
  try dsimp only
  repeat' split
  all_goals (first | rfl | simp)

@[simp] theorem State.capLoad_prl_owner (s : State) : (State.capLoad s).prl.owner = s.prl.owner := by
  unfold State.capLoad
  try dsimp only
  repeat' split
  all_goals (first | rfl | simp)

@[simp] theorem State.countLoad_prl_owner (s : State) : (State.countLoad s).prl.owner = s.prl.owner := by
  unfold State.countLoad
  try dsimp only
  repeat' split
  all_goals (first | rfl | simp)

@[simp] theorem State.sagLoad_prl_owner (s : State) : (State.sagLoad s).prl.owner = s.prl.owner := by
  unfold State.sagLoad
  try dsimp only
  repeat' split
  all_goals (first | rfl | simp)

@[simp] theorem State.readStraps_prl_owner (s : State) : (State.readStraps s).prl.owner = s.prl.owner := by
  simp [State.readStraps]

@[simp] theorem State.tvLoad_prl_owner (s : State) : (State.tvLoad s).prl.owner = s.prl.owner := by
  simp [State.tvLoad]

@[simp] theorem State.bootLoad_prl_owner (s : State) : (State.bootLoad s).prl.owner = s.prl.owner := by
  simp [State.bootLoad]

@[simp] theorem State.bootRevert_prl_owner (s : State) : (State.bootRevert s).prl.owner = s.prl.owner := by
  simp [State.bootRevert]

@[simp] theorem State.bootConfirm_prl_owner (s : State) : (State.bootConfirm s).prl.owner = s.prl.owner := by
  simp [State.bootConfirm]

@[simp] theorem State.domainUp_prl_owner (s : State) (d : Nat) : (State.domainUp s d).prl.owner = s.prl.owner := by
  simp [State.domainUp]

@[simp] theorem State.domainDown_prl_owner (s : State) (d : Nat) : (State.domainDown s d).prl.owner = s.prl.owner := by
  unfold State.domainDown
  try dsimp only
  repeat' split
  all_goals (first | rfl | simp)

@[simp] theorem State.allReady_prl_owner (s : State) : (State.allReady s).prl.owner = s.prl.owner := by
  simp [State.allReady]

@[simp] theorem State.isolateAll_prl_owner (s : State) (l : List Nat) : (State.isolateAll s l).prl.owner = s.prl.owner := by
  unfold State.isolateAll
  try dsimp only
  repeat' split
  all_goals (first | rfl | simp)

@[simp] theorem State.logItem_prl_owner (s : State) (detail : Nat) (i : TestItem) : (State.logItem s detail i).prl.owner = s.prl.owner := by
  simp [State.logItem]

@[simp] theorem State.testResults_prl_owner (s : State) (r : SelfTest) : (State.testResults s r).prl.owner = s.prl.owner := by
  simp [State.testResults]

@[simp] theorem State.startLost_prl_owner (s : State) (n : Nat) : (State.startLost s n).prl.owner = s.prl.owner := by
  simp [State.startLost]

@[simp] theorem State.setFeed_prl_owner (s : State) (b : Bool) (on : Bool) : (State.setFeed s b on).prl.owner = s.prl.owner := by
  simp [State.setFeed]

@[simp] theorem State.boRamp_prl_owner (s : State) : (State.boRamp s).prl.owner = s.prl.owner := by
  simp [State.boRamp]

@[simp] theorem State.boCommit_prl_owner (s : State) : (State.boCommit s).prl.owner = s.prl.owner := by
  simp [State.boCommit]

@[simp] theorem State.pairFault_prl_owner (s : State) (kind : Nat) : (State.pairFault s kind).prl.owner = s.prl.owner := by
  simp [State.pairFault]

@[simp] theorem State.clashCheck_prl_owner (s : State) (h : Partner) (higher : Bool) : (State.clashCheck s h higher).prl.owner = s.prl.owner := by
  simp [State.clashCheck]

@[simp] theorem State.heartbeat_prl_owner (s : State) (h : Partner) (higher : Bool) : (State.heartbeat s h higher).prl.owner = s.prl.owner := by
  simp [State.heartbeat]

@[simp] theorem State.adopt_prl_owner (s : State) (m : Mirror) (seq : Nat) : (State.adopt s m seq).prl.owner = s.prl.owner := by
  simp [State.adopt]

@[simp] theorem State.sendTake_prl_owner (s : State) (now : Nat) : (State.sendTake s now).prl.owner = s.prl.owner := by
  simp [State.sendTake]

@[simp] theorem State.sendReady_prl_owner (s : State) : (State.sendReady s).prl.owner = s.prl.owner := by
  simp [State.sendReady]

@[simp] theorem State.swapFailed_prl_owner (s : State) : (State.swapFailed s).prl.owner = s.prl.owner := by
  simp [State.swapFailed]

@[simp] theorem State.fromCopy_prl_owner (s : State) (m : Mirror) : (State.fromCopy s m).prl.owner = s.prl.owner := by
  simp [State.fromCopy]

@[simp] theorem State.newOwner_prl_owner (s : State) (kind : Nat) : (State.newOwner s kind).prl.owner = s.prl.owner := by
  simp [State.newOwner]

@[simp] theorem State.wantFor_prl_owner (s : State) (st : OpState) (disp : Bool) : (State.wantFor s st disp).prl.owner = s.prl.owner := by
  simp [State.wantFor]

@[simp] theorem State.dropCoef_prl_owner (s : State) : (State.dropCoef s).prl.owner = s.prl.owner := by
  simp [State.dropCoef]

@[simp] theorem State.ceFresh_prl_owner (s : State) : (State.ceFresh s).prl.owner = s.prl.owner := by
  simp [State.ceFresh]

@[simp] theorem State.pilotView_prl_owner (s : State) : (State.pilotView s).prl.owner = s.prl.owner := by
  unfold State.pilotView
  try dsimp only
  repeat' split
  all_goals (first | rfl | simp)

@[simp] theorem State.latchShadows_prl_owner (s : State) : (State.latchShadows s).prl.owner = s.prl.owner := by
  simp [State.latchShadows]

@[simp] theorem State.afterRead_prl_owner (s : State) (r : Reg) : (State.afterRead s r).prl.owner = s.prl.owner := by
  simp [State.afterRead]

@[simp] theorem State.clearRc_prl_owner (s : State) (r : Reg) : (State.clearRc s r).prl.owner = s.prl.owner := by
  unfold State.clearRc
  try dsimp only
  repeat' split
  all_goals (first | rfl | simp)

@[simp] theorem State.putPeriod_prl_owner (s : State) (v : Nat) : (State.putPeriod s v).prl.owner = s.prl.owner := by
  simp [State.putPeriod]

@[simp] theorem State.settingDone_prl_owner (s : State) (i : Nat) (v : Int) (old : Int) : (State.settingDone s i v old).prl.owner = s.prl.owner := by
  simp [State.settingDone]

@[simp] theorem State.putSetting_prl_owner (s : State) (i : Nat) (v : Int) : (State.putSetting s i v).prl.owner = s.prl.owner := by
  unfold State.putSetting
  try dsimp only
  repeat' split
  all_goals (first | rfl | simp)

@[simp] theorem State.toDefault_prl_owner (s : State) (i : Nat) : (State.toDefault s i).prl.owner = s.prl.owner := by
  unfold State.toDefault
  try dsimp only
  repeat' split
  all_goals (first | rfl | simp)

@[simp] theorem State.settingsDefault_prl_owner (s : State) : (State.settingsDefault s).prl.owner = s.prl.owner := by
  simp [State.settingsDefault]

@[simp] theorem State.toNewFormat_prl_owner (s : State) (i : Nat) : (State.toNewFormat s i).prl.owner = s.prl.owner := by
  simp [State.toNewFormat]

@[simp] theorem State.loadNewFormat_prl_owner (s : State) : (State.loadNewFormat s).prl.owner = s.prl.owner := by
  simp [State.loadNewFormat]

@[simp] theorem State.formatStep_prl_owner (s : State) : (State.formatStep s).prl.owner = s.prl.owner := by
  simp [State.formatStep]

@[simp] theorem State.loginState_prl_owner (s : State) : (State.loginState s).prl.owner = s.prl.owner := by
  simp [State.loginState]

@[simp] theorem State.toIsolated_prl_owner (s : State) : (State.toIsolated s).prl.owner = s.prl.owner := by
  simp [State.toIsolated]

@[simp] theorem State.toStandby_prl_owner (s : State) : (State.toStandby s).prl.owner = s.prl.owner := by
  simp [State.toStandby]

@[simp] theorem State.toConnected_prl_owner (s : State) : (State.toConnected s).prl.owner = s.prl.owner := by
  simp [State.toConnected]

@[simp] theorem State.toDegraded_prl_owner (s : State) : (State.toDegraded s).prl.owner = s.prl.owner := by
  simp [State.toDegraded]

@[simp] theorem State.fromDegraded_prl_owner (s : State) : (State.fromDegraded s).prl.owner = s.prl.owner := by
  simp [State.fromDegraded]

@[simp] theorem State.stopDone_prl_owner (s : State) : (State.stopDone s).prl.owner = s.prl.owner := by
  simp [State.stopDone]

@[simp] theorem State.toMaintenance_prl_owner (s : State) : (State.toMaintenance s).prl.owner = s.prl.owner := by
  simp [State.toMaintenance]

@[simp] theorem State.afterTest_prl_owner (s : State) (owned : Bool) : (State.afterTest s owned).prl.owner = s.prl.owner := by
  simp [State.afterTest]

theorem State.row_prl_owner (s : State) (e : Ev) (t_ : State) (h_ : State.row s e = some t_) : t_.prl.owner = s.prl.owner := by
  revert h_
  unfold State.row
  try dsimp only
  repeat' split
  all_goals (intro h_; first | (cases h_; done) | (cases h_; rfl) | (cases h_; simp; done) | (simp at h_; done) | (simp at h_; subst h_; simp; done))

@[simp] theorem State.dropEv_prl_owner (s : State) (e : Ev) : (State.dropEv s e).prl.owner = s.prl.owner := by
  unfold State.dropEv
  try dsimp only
  repeat' split
  all_goals (first | rfl | simp)

@[simp] theorem State.takeClass_prl_owner (s : State) (c : Nat) (p0 : List Ev) : (s.takeClass c p0).1.prl.owner = s.prl.owner := by
  induction p0 generalizing s with
  | nil => rfl
  | cons e l ih =>
    simp only [State.takeClass]
    split
    · exact ih s
    · split
      · rename_i h
        exact State.row_prl_owner _ _ _ h
      · exact (ih _).trans (by simp)

@[simp] theorem State.runClass_prl_owner (s : State) (c : Nat) : (State.runClass s c).prl.owner = s.prl.owner := by
  simp [State.runClass]

@[simp] theorem State.runDegraded_prl_owner (s : State) : (State.runDegraded s).prl.owner = s.prl.owner := by
  simp [State.runDegraded]

@[simp] theorem State.stateMachine_prl_owner (s : State) : (State.stateMachine s).prl.owner = s.prl.owner := by
  simp [State.stateMachine]

@[simp] theorem State.spyEnd_prl_owner (s : State) : (State.spyEnd s).prl.owner = s.prl.owner := by
  simp [State.spyEnd]

@[simp] theorem State.trackClosed_prl_owner (s : State) : (State.trackClosed s).prl.owner = s.prl.owner := by
  simp [State.trackClosed]

@[simp] theorem State.stopOpened_prl_owner (s : State) : (State.stopOpened s).prl.owner = s.prl.owner := by
  simp [State.stopOpened]

@[simp] theorem State.tvCorrect_prl_owner (s : State) : (State.tvCorrect s).prl.owner = s.prl.owner := by
  simp [State.tvCorrect]

@[simp] theorem State.mirrorCorrect_prl_owner (s : State) : (State.mirrorCorrect s).prl.owner = s.prl.owner := by
  simp [State.mirrorCorrect]

@[simp] theorem State.raise_prl_owner (s : State) (c : Nat) : (State.raise s c).prl.owner = s.prl.owner := by
  simp [State.raise]

@[simp] theorem State.sf4_prl_owner (s : State) : (State.sf4 s).prl.owner = s.prl.owner := by
  unfold State.sf4
  try dsimp only
  repeat' split
  all_goals (first | rfl | simp)

@[simp] theorem State.tickDiag_prl_owner (s : State) (k : Nat) (bad : Bool) : (State.tickDiag s k bad).prl.owner = s.prl.owner := by
  simp [State.tickDiag]

@[simp] theorem State.protect_prl_owner (s : State) (m : TickIn) : (State.protect s m).prl.owner = s.prl.owner := by
  simp [State.protect]

@[simp] theorem State.tickPins_prl_owner (s : State) (m : TickIn) : (State.tickPins s m).prl.owner = s.prl.owner := by
  simp [State.tickPins]

@[simp] theorem State.degLevels_prl_owner (s : State) : (State.degLevels s).prl.owner = s.prl.owner := by
  simp [State.degLevels]

@[simp] theorem State.pairTick_prl_owner (s : State) : (State.pairTick s).prl.owner = s.prl.owner := by
  simp [State.pairTick]

@[simp] theorem State.tickCounts_prl_owner (s : State) : (State.tickCounts s).prl.owner = s.prl.owner := by
  simp [State.tickCounts]

@[simp] theorem State.speedTick_prl_owner (s : State) (pct : Nat) : (State.speedTick s pct).prl.owner = s.prl.owner := by
  simp [State.speedTick]

@[simp] theorem State.degTick_prl_owner (s : State) : (State.degTick s).prl.owner = s.prl.owner := by
  simp [State.degTick]

@[simp] theorem State.strapTick_prl_owner (s : State) : (State.strapTick s).prl.owner = s.prl.owner := by
  simp [State.strapTick]

@[simp] theorem State.tickWork_prl_owner (s : State) (m : TickIn) : (State.tickWork s m).prl.owner = s.prl.owner := by
  simp [State.tickWork]

@[simp] theorem State.timeTo_prl_owner (s : State) (st : LmpSt) : (State.timeTo s st).prl.owner = s.prl.owner := by
  simp [State.timeTo]

@[simp] theorem State.reselect_prl_owner (s : State) : (State.reselect s).prl.owner = s.prl.owner := by
  unfold State.reselect
  try dsimp only
  repeat' split
  all_goals (first | rfl | simp)

@[simp] theorem State.servo_prl_owner (s : State) (off : Int) (ms : Nat) : (State.servo s off ms).prl.owner = s.prl.owner := by
  simp [State.servo]

@[simp] theorem State.loadSecMark_prl_owner (s : State) : (State.loadSecMark s).prl.owner = s.prl.owner := by
  unfold State.loadSecMark
  try dsimp only
  repeat' split
  all_goals (first | rfl | simp)

@[simp] theorem State.takeOffset_prl_owner (s0 : State) (off : Int) (ms : Nat) : (State.takeOffset s0 off ms).prl.owner = s0.prl.owner := by
  unfold State.takeOffset
  try dsimp only
  repeat' split
  all_goals (first | rfl | simp)

@[simp] theorem State.syncDone_prl_owner (s : State) (m : PtpMsg) (ingress : Int) (origin : Int) (ms : Nat) : (State.syncDone s m ingress origin ms).prl.owner = s.prl.owner := by
  simp [State.syncDone]

@[simp] theorem State.sourceLost_prl_owner (s : State) : (State.sourceLost s).prl.owner = s.prl.owner := by
  simp [State.sourceLost]

@[simp] theorem State.slotZero_prl_owner (s : State) : (State.slotZero s).prl.owner = s.prl.owner := by
  simp [State.slotZero]

@[simp] theorem State.fire_prl_owner (s : State) (k : Nat) : (State.fire s k).prl.owner = s.prl.owner := by
  simp [State.fire]

@[simp] theorem State.accept_prl_owner (s : State) (c : Nat) (src : Src) : (State.accept s c src).prl.owner = s.prl.owner := by
  simp [State.accept]

@[simp] theorem State.answerWait_prl_owner (s : State) (c : Nat) (r : Reply) : (State.answerWait s c r).prl.owner = s.prl.owner := by
  unfold State.answerWait
  exact State.prl_owner_foldl _ _ _ (fun t x => by split <;> simp)

@[simp] theorem State.done_prl_owner (s : State) (c : Nat) (code : Nat) (tag : Nat) (rc : Nat) (detail : Nat) (data : List Byte) : (State.done s c code tag rc detail data).prl.owner = s.prl.owner := by
  simp [State.done]

@[simp] theorem State.reply_prl_owner (s : State) (c : Nat) (rc : Nat) (detail : Nat) (data : List Byte) : (State.reply s c rc detail data).prl.owner = s.prl.owner := by
  unfold State.reply
  try dsimp only
  repeat' split
  all_goals (first | rfl | simp)

@[simp] theorem State.ok_prl_owner (s : State) (c : Nat) : (State.ok s c).prl.owner = s.prl.owner := by
  simp [State.ok]

@[simp] theorem State.ring_prl_owner (s : State) (c : Nat) (src : Src) : (State.ring s c src).prl.owner = s.prl.owner := by
  simp [State.ring]

@[simp] theorem State.bufPut_prl_owner (s : State) (c : Nat) (i : Nat) (w : Nat) : (State.bufPut s c i w).prl.owner = s.prl.owner := by
  simp [State.bufPut]

@[simp] theorem State.notInState_prl_owner (s : State) (c : Nat) (r : Request) : (State.notInState s c r).prl.owner = s.prl.owner := by
  simp [State.notInState]

@[simp] theorem State.result_prl_owner (s : State) (c : Nat) (rc : Nat) (detail : Nat) (data : List Byte) : (State.result s c rc detail data).prl.owner = s.prl.owner := by
  simp [State.result]

@[simp] theorem State.writeParam_prl_owner (s : State) (i : Nat) (w : Nat) : (State.writeParam s i w).prl.owner = s.prl.owner := by
  simp [State.writeParam]

@[simp] theorem State.settingsOpen_prl_owner (s : State) : (State.settingsOpen s).prl.owner = s.prl.owner := by
  simp [State.settingsOpen]

@[simp] theorem State.settingsEnd_prl_owner (s : State) (ok : Bool) : (State.settingsEnd s ok).prl.owner = s.prl.owner := by
  simp [State.settingsEnd]

@[simp] theorem State.plainWrite_prl_owner (s : State) (r : Reg) : (State.plainWrite s r).prl.owner = s.prl.owner := by
  simp [State.plainWrite]

@[simp] theorem State.writePermit_prl_owner (s : State) (w : Nat) : (State.writePermit s w).prl.owner = s.prl.owner := by
  simp [State.writePermit]

@[simp] theorem State.writeEnMask_prl_owner (s : State) (w : Nat) : (State.writeEnMask s w).prl.owner = s.prl.owner := by
  simp [State.writeEnMask]

@[simp] theorem State.writeWin_prl_owner (s : State) (w : Nat) : (State.writeWin s w).prl.owner = s.prl.owner := by
  simp [State.writeWin]

@[simp] theorem State.atTime_prl_owner (s : State) (t : BitVec 32) : (State.atTime s t).prl.owner = s.prl.owner := by
  simp [State.atTime]

@[simp] theorem State.sessReply_prl_owner (s : State) (i : Nat) (x : Tx) (r : Reply) : (State.sessReply s i x r).prl.owner = s.prl.owner := by
  unfold State.sessReply
  try dsimp only
  repeat' split
  all_goals (first | rfl | simp)

@[simp] theorem State.sessStatus_prl_owner (s : State) (i : Nat) (x : Tx) (ty : Nat) (status : Nat) : (State.sessStatus s i x ty status).prl.owner = s.prl.owner := by
  simp [State.sessStatus]

@[simp] theorem State.looseReply_prl_owner (s : State) (x : Tx) (r : Reply) : (State.looseReply s x r).prl.owner = s.prl.owner := by
  simp [State.looseReply]

@[simp] theorem State.sessUsed_prl_owner (s : State) (i : Nat) (x : Tx) : (State.sessUsed s i x).prl.owner = s.prl.owner := by
  simp [State.sessUsed]

@[simp] theorem State.resend_prl_owner (s : State) (i : Nat) (x : Tx) (y : Session) : (State.resend s i x y).prl.owner = s.prl.owner := by
  unfold State.resend
  try dsimp only
  repeat' split
  all_goals (first | rfl | simp)

@[simp] theorem State.openSession_prl_owner (s : State) (x : Tx) (v : Nat) (host : Nat) (mask : Nat) (old : Option Session) : (State.openSession s x v host mask old).prl.owner = s.prl.owner := by
  simp [State.openSession]

@[simp] theorem State.endSession_prl_owner (s : State) (i : Nat) : (State.endSession s i).prl.owner = s.prl.owner := by
  simp [State.endSession]

@[simp] theorem State.sessWait_prl_owner (s : State) (i : Nat) (x : Tx) (c : Nat) : (State.sessWait s i x c).prl.owner = s.prl.owner := by
  simp [State.sessWait]

@[simp] theorem State.attnDrop_prl_owner (s : State) (i : Nat) (y : Session) (m : Attn) : (State.attnDrop s i y m).prl.owner = s.prl.owner := by
  simp [State.attnDrop]

@[simp] theorem State.dispTake_prl_owner (s : State) (p : PortId) (b : List Byte) (now : Nat) : (State.dispTake s p b now).prl.owner = s.prl.owner := by
  unfold State.dispTake
  try dsimp only
  repeat' split
  all_goals (first | rfl | simp)

@[simp] theorem State.inhibited_prl_owner (s : State) (c : Nat) (detail : Nat) : (State.inhibited s c detail).prl.owner = s.prl.owner := by
  simp [State.inhibited]

@[simp] theorem State.toPrecharge_prl_owner (s : State) : (State.toPrecharge s).prl.owner = s.prl.owner := by
  simp [State.toPrecharge]

@[simp] theorem State.openStart_prl_owner (s : State) : (State.openStart s).prl.owner = s.prl.owner := by
  simp [State.openStart]

@[simp] theorem State.leaveIsolated_prl_owner (s : State) : (State.leaveIsolated s).prl.owner = s.prl.owner := by
  simp [State.leaveIsolated]

@[simp] theorem State.switchDomain_prl_owner (s : State) (d : Nat) (on : Bool) : (State.switchDomain s d on).prl.owner = s.prl.owner := by
  simp [State.switchDomain]

@[simp] theorem State.selftestStore_prl_owner (s : State) (r : SelfTest) (run : Nat) : (State.selftestStore s r run).prl.owner = s.prl.owner := by
  simp [State.selftestStore]

@[simp] theorem State.selftestAct_prl_owner (s : State) (r : SelfTest) : (State.selftestAct s r).prl.owner = s.prl.owner := by
  unfold State.selftestAct
  dsimp only
  split <;> simp

@[simp] theorem State.loadShadow_prl_owner (s : State) (k : Nat) (i : SchedImage) : (State.loadShadow s k i).prl.owner = s.prl.owner := by
  simp [State.loadShadow]

@[simp] theorem State.askSwap_prl_owner (s : State) : (State.askSwap s).prl.owner = s.prl.owner := by
  simp [State.askSwap]

@[simp] theorem State.calStart_prl_owner (s : State) : (State.calStart s).prl.owner = s.prl.owner := by
  simp [State.calStart]

@[simp] theorem State.capWrite_prl_owner (s : State) (cap : Nat) (g : Nat) : (State.capWrite s cap g).prl.owner = s.prl.owner := by
  simp [State.capWrite]

@[simp] theorem State.drawKey_prl_owner (s : State) : (State.drawKey s).prl.owner = s.prl.owner := by
  simp [State.drawKey]

@[simp] theorem State.pairPut_prl_owner (s : State) (n : Nat) (serial : Nat) (k : Nat) : (State.pairPut s n serial k).prl.owner = s.prl.owner := by
  simp [State.pairPut]

@[simp] theorem State.pairDrop_prl_owner (s : State) (n : Nat) : (State.pairDrop s n).prl.owner = s.prl.owner := by
  simp [State.pairDrop]

@[simp] theorem State.queueKey_prl_owner (s : State) (n : Nat) : (State.queueKey s n).prl.owner = s.prl.owner := by
  simp [State.queueKey]

@[simp] theorem State.keyChange_prl_owner (s : State) : (State.keyChange s).prl.owner = s.prl.owner := by
  simp [State.keyChange]

@[simp] theorem State.logClear_prl_owner (s : State) (src : Nat) : (State.logClear s src).prl.owner = s.prl.owner := by
  simp [State.logClear]

@[simp] theorem State.loginOk_prl_owner (s : State) (c : Nat) : (State.loginOk s c).prl.owner = s.prl.owner := by
  simp [State.loginOk]

@[simp] theorem State.stage_prl_owner (s : State) (l : List (Nat × Int)) : (State.stage s l).prl.owner = s.prl.owner := by
  simp [State.stage]

@[simp] theorem State.sagAbort_prl_owner (s : State) : (State.sagAbort s).prl.owner = s.prl.owner := by
  simp [State.sagAbort]

@[simp] theorem State.clogAckTo_prl_owner (s : State) (q : Nat) (source : Nat) : (State.clogAckTo s q source).prl.owner = s.prl.owner := by
  simp [State.clogAckTo]

@[simp] theorem State.ownLoad_prl_owner (s : State) : (State.ownLoad s).prl.owner = s.prl.owner := by
  unfold State.ownLoad
  try dsimp only
  repeat' split
  all_goals (first | rfl | simp)

@[simp] theorem State.ownEnd_prl_owner (s : State) (rb : Bool) : (State.ownEnd s rb).prl.owner = s.prl.owner := by
  unfold State.ownEnd
  try dsimp only
  repeat' split
  all_goals (first | rfl | simp)

@[simp] theorem State.capReply_prl_owner (s : State) (c : Nat) (rb : Bool) : (State.capReply s c rb).prl.owner = s.prl.owner := by
  simp [State.capReply]

@[simp] theorem State.settingsReply_prl_owner (s : State) (c : Nat) (rb : Bool) : (State.settingsReply s c rb).prl.owner = s.prl.owner := by
  simp [State.settingsReply]

@[simp] theorem State.sagReply_prl_owner (s : State) (c : Nat) (rb : Bool) : (State.sagReply s c rb).prl.owner = s.prl.owner := by
  simp [State.sagReply]

@[simp] theorem State.swapReply_prl_owner (s : State) (c : Nat) : (State.swapReply s c).prl.owner = s.prl.owner := by
  unfold State.swapReply
  try dsimp only
  repeat' split
  all_goals (first | rfl | simp)

@[simp] theorem State.loadReply_prl_owner (s : State) (c : Nat) (detail : Nat) (data : List Byte) : (State.loadReply s c detail data).prl.owner = s.prl.owner := by
  simp [State.loadReply]

@[simp] theorem State.postEnd_prl_owner (s : State) (c : Nat) (rb : Bool) : (State.postEnd s c rb).prl.owner = s.prl.owner := by
  unfold State.postEnd
  try dsimp only
  repeat' split
  all_goals (first | rfl | simp)

@[simp] theorem State.manifestDone_prl_owner (s : State) : (State.manifestDone s).prl.owner = s.prl.owner := by
  unfold State.manifestDone
  try dsimp only
  repeat' split
  all_goals (first | rfl | simp)

@[simp] theorem State.partDone_prl_owner (s : State) (k : Nat) : (State.partDone s k).prl.owner = s.prl.owner := by
  unfold State.partDone
  try dsimp only
  repeat' split
  all_goals (first | rfl | simp)

@[simp] theorem State.blockPut_prl_owner (s : State) (k : Nat) (n : Nat) (b : List Byte) : (State.blockPut s k n b).prl.owner = s.prl.owner := by
  simp [State.blockPut]

@[simp] theorem State.blockReply_prl_owner (s : State) (i : Nat) (x : Tx) (next : Nat) : (State.blockReply s i x next).prl.owner = s.prl.owner := by
  simp [State.blockReply]

@[simp] theorem State.fwdSend_prl_owner (s : State) (k : Nat) : (State.fwdSend s k).prl.owner = s.prl.owner := by
  unfold State.fwdSend
  try dsimp only
  repeat' split
  all_goals (first | rfl | simp)

@[simp] theorem State.stageUpdate_prl_owner (s : State) (c : Nat) : (State.stageUpdate s c).prl.owner = s.prl.owner := by
  unfold State.stageUpdate
  try dsimp only
  repeat' split
  all_goals (first | rfl | simp)

@[simp] theorem State.mgpGoes_prl_owner (s : State) : (State.mgpGoes s).prl.owner = s.prl.owner := by
  simp [State.mgpGoes]

@[simp] theorem State.heldBusy_prl_owner (s : State) (p : Chan → Bool) : (State.heldBusy s p).prl.owner = s.prl.owner := by
  simp [State.heldBusy]

@[simp] theorem State.mgpBack_prl_owner (s : State) : (State.mgpBack s).prl.owner = s.prl.owner := by
  simp [State.mgpBack]

@[simp] theorem State.rollBack_prl_owner (s : State) : (State.rollBack s).prl.owner = s.prl.owner := by
  simp [State.rollBack]

@[simp] theorem State.staysAway_prl_owner (s : State) : (State.staysAway s).prl.owner = s.prl.owner := by
  simp [State.staysAway]

@[simp] theorem State.loaderBoot_prl_owner (s : State) : (State.loaderBoot s).prl.owner = s.prl.owner := by
  simp [State.loaderBoot]

@[simp] theorem State.formatChange_prl_owner (s : State) (old : Nat) : (State.formatChange s old).prl.owner = s.prl.owner := by
  simp [State.formatChange]

@[simp] theorem State.rangeLeave_prl_owner (s : State) : (State.rangeLeave s).prl.owner = s.prl.owner := by
  simp [State.rangeLeave]

@[simp] theorem State.afterConfirm_prl_owner (s : State) (l : List (Nat × Nat)) : (State.afterConfirm s l).prl.owner = s.prl.owner := by
  unfold State.afterConfirm
  try dsimp only
  repeat' split
  all_goals (first | rfl | simp)

@[simp] theorem State.newReady_prl_owner (s : State) : (State.newReady s).prl.owner = s.prl.owner := by
  simp [State.newReady]

@[simp] theorem State.oldReady_prl_owner (s : State) : (State.oldReady s).prl.owner = s.prl.owner := by
  simp [State.oldReady]

@[simp] theorem State.nodeReply_prl_owner (s : State) (q : NodeCmd) (rc : Nat) (detail : Nat) (data : List Byte) : (State.nodeReply s q rc detail data).prl.owner = s.prl.owner := by
  unfold State.nodeReply
  try dsimp only
  repeat' split
  all_goals (first | rfl | simp)

@[simp] theorem State.leaveDone_prl_owner (s : State) (q : NodeCmd) (result : Nat) : (State.leaveDone s q result).prl.owner = s.prl.owner := by
  unfold State.leaveDone
  try dsimp only
  repeat' split
  all_goals (first | rfl | simp)

@[simp] theorem State.infoGot_prl_owner (s : State) (q : NodeCmd) (info : Nat) : (State.infoGot s q info).prl.owner = s.prl.owner := by
  unfold State.infoGot
  try dsimp only
  repeat' split
  all_goals (first | rfl | simp)

@[simp] theorem State.fwBegun_prl_owner (s : State) (n : Nat) : (State.fwBegun s n).prl.owner = s.prl.owner := by
  simp [State.fwBegun]

@[simp] theorem State.ackCmd_prl_owner (s : State) (q : NodeCmd) (r : Nat) (info : Nat) : (State.ackCmd s q r info).prl.owner = s.prl.owner := by
  unfold State.ackCmd
  try dsimp only
  repeat' split
  all_goals (first | rfl | simp)

@[simp] theorem State.fwStaged_prl_owner (s : State) (u : Nat) (n : Nat) : (State.fwStaged s u n).prl.owner = s.prl.owner := by
  simp [State.fwStaged]

@[simp] theorem State.ackFw_prl_owner (s : State) (u : Nat) (n : Nat) (r : Nat) (info : Nat) : (State.ackFw s u n r info).prl.owner = s.prl.owner := by
  unfold State.ackFw
  try dsimp only
  repeat' split
  all_goals (first | rfl | simp)

theorem State.takeFlight_prl_owner (s : State) (n : Nat) (t_ : NodeCmd × State) (h_ : State.takeFlight s n = some t_) : t_.2.prl.owner = s.prl.owner := by
  revert h_
  unfold State.takeFlight
  try dsimp only
  repeat' split
  all_goals (intro h_; first | (cases h_; done) | (cases h_; rfl) | (cases h_; simp; done) | (simp at h_; done) | (simp at h_; subst h_; simp; done))

@[simp] theorem State.ackKind_prl_owner (s : State) (u : Nat) (k : Nat) (n : Nat) (r : Nat) (info : Nat) : (State.ackKind s u k n r info).prl.owner = s.prl.owner := by
  unfold State.ackKind
  split
  · split <;> (try split) <;> simp
  · split
    · rename_i h; have h2 := State.takeFlight_prl_owner _ _ _ h; simpa using h2
    · rfl
  · simp

@[simp] theorem State.giveUp_prl_owner (s : State) (q : NodeCmd) : (State.giveUp s q).prl.owner = s.prl.owner := by
  unfold State.giveUp
  try dsimp only
  repeat' split
  all_goals (first | rfl | simp)

@[simp] theorem State.spyWrote_prl_owner (s : State) : (State.spyWrote s).prl.owner = s.prl.owner := by
  simp [State.spyWrote]

end Sys2Proof.Machine
end

