-- ==== Sys2Proof/Laws/FramePending.lean ====
section
/-! SUPPORT. The shared operations that leave the queue of waiting commands unchanged, one lemma an operation. -/

namespace Sys2Proof.Machine

/-- A fold of updates that keep the field keeps it. -/
@[simp] theorem State.pending_foldl {β : Type} (f : State → β → State) (l : List β) (s : State) (h : ∀ t x, (f t x).pending = t.pending) :
    (l.foldl f s).pending = s.pending := by
  induction l generalizing s with
  | nil => rfl
  | cons x l ih => rw [List.foldl_cons, ih, h]

/-- The field of a choice of states. -/
@[simp] theorem State.pending_ite (c : Prop) [Decidable c] (a b : State) : (if c then a else b).pending = if c then a.pending else b.pending := by
  split <;> rfl

/-- A fold of updates beside a value. -/
@[simp] theorem State.pending_foldlp {α β : Type} (f : State × α → β → State × α) (l : List β) (p : State × α)
    (h : ∀ t x, (f t x).1.pending = t.1.pending) : (l.foldl f p).1.pending = p.1.pending := by
  induction l generalizing p with
  | nil => rfl
  | cons x l ih => rw [List.foldl_cons, ih, h]

/-- The field of a choice of states beside a value. -/
@[simp] theorem State.pending_itep {α : Type} (c : Prop) [Decidable c] (a b : State × α) :
    (if c then a else b).1.pending = if c then a.1.pending else b.1.pending := by
  split <;> rfl

@[simp] theorem State.logPost_pending (s : State) (src : Nat) (code : Nat) (sev : Nat) (data : List Nat) : (State.logPost s src code sev data).pending = s.pending := by
  simp [State.logPost]

@[simp] theorem State.sendFrom_pending (s : State) (p : PortId) (addr : Nat) (udp : Nat) (b : List Byte) : (State.sendFrom s p addr udp b).pending = s.pending := by
  simp [State.sendFrom]

@[simp] theorem State.sendAttn_pending (s : State) (x : Session) (m : Attn) (p : PortId) (again : Bool) : (State.sendAttn s x m p again).pending = s.pending := by
  simp [State.sendAttn]

@[simp] theorem State.lostNote_pending (s : State) (i : Nat) : (State.lostNote s i).pending = s.pending := by
  unfold State.lostNote
  try dsimp only
  repeat' split
  all_goals (first | rfl | simp)

@[simp] theorem State.attnTo_pending (s : State) (m : Attn) (i : Nat) : (State.attnTo s m i).pending = s.pending := by
  unfold State.attnTo
  try dsimp only
  repeat' split
  all_goals (first | rfl | simp)

@[simp] theorem State.attn_pending (s : State) (code : Nat) (sev : Nat) (data : List Nat) : (State.attn s code sev data).pending = s.pending := by
  simp [State.attn]

@[simp] theorem State.announce_pending (s : State) : (State.announce s).pending = s.pending := by
  simp [State.announce]

@[simp] theorem State.clearSetpoints_pending (s : State) : (State.clearSetpoints s).pending = s.pending := by
  simp [State.clearSetpoints]

@[simp] theorem State.syncMode_pending (s : State) : (State.syncMode s).pending = s.pending := by
  simp [State.syncMode]

@[simp] theorem State.leaveSetpoints_pending (s : State) : (State.leaveSetpoints s).pending = s.pending := by
  simp [State.leaveSetpoints]

@[simp] theorem State.outputsRest_pending (s : State) : (State.outputsRest s).pending = s.pending := by
  unfold State.outputsRest
  try dsimp only
  repeat' split
  all_goals (first | rfl | simp)

@[simp] theorem State.enter_pending (s : State) (st : OpState) (b : OpState) : (State.enter s st b).pending = s.pending := by
  simp [State.enter]

@[simp] theorem State.enterEff_pending (s : State) (st : OpState) : (State.enterEff s st).pending = s.pending := by
  simp [State.enterEff]

@[simp] theorem State.coilService1_pending (s : State) (k : Nat) : (State.coilService1 s k).pending = s.pending := by
  simp [State.coilService1]

@[simp] theorem State.coilService_pending (s : State) : (State.coilService s).pending = s.pending := by
  simp [State.coilService]

@[simp] theorem State.degStart_pending (s : State) : (State.degStart s).pending = s.pending := by
  simp [State.degStart]

@[simp] theorem State.pairSend_pending (s : State) (kind : Nat) (body : List Byte) : (State.pairSend s kind body).pending = s.pending := by
  simp [State.pairSend]

@[simp] theorem State.swapSend_pending (s : State) (sub : Nat) (b : Nat) : (State.swapSend s sub b).pending = s.pending := by
  simp [State.swapSend]

@[simp] theorem State.sendStatus_pending (s : State) : (State.sendStatus s).pending = s.pending := by
  simp [State.sendStatus]

@[simp] theorem State.dropOutputs_pending (s : State) : (State.dropOutputs s).pending = s.pending := by
  simp [State.dropOutputs]

@[simp] theorem State.swapAbandon_pending (s : State) : (State.swapAbandon s).pending = s.pending := by
  unfold State.swapAbandon
  try dsimp only
  repeat' split
  all_goals (first | rfl | simp)

@[simp] theorem State.isolate_pending (s : State) (c : Nat) : (State.isolate s c).pending = s.pending := by
  simp [State.isolate]

@[simp] theorem State.isoCatchUp_pending (s : State) : (State.isoCatchUp s).pending = s.pending := by
  unfold State.isoCatchUp
  try dsimp only
  repeat' split
  all_goals (first | rfl | simp)

@[simp] theorem State.lostCatchUp_pending (s : State) : (State.lostCatchUp s).pending = s.pending := by
  simp [State.lostCatchUp]

@[simp] theorem State.degPhase_pending (s : State) : (State.degPhase s).pending = s.pending := by
  simp [State.degPhase]

@[simp] theorem State.phaseFault_pending (s : State) (p : Nat) (c : Nat) : (State.phaseFault s p c).pending = s.pending := by
  simp [State.phaseFault]

@[simp] theorem State.requestSwap_pending (s : State) : (State.requestSwap s).pending = s.pending := by
  simp [State.requestSwap]

@[simp] theorem State.autoSwap_pending (s : State) : (State.autoSwap s).pending = s.pending := by
  simp [State.autoSwap]

@[simp] theorem State.addPhases_pending (s : State) (req : Nat) : (State.addPhases s req).pending = s.pending := by
  simp [State.addPhases]

@[simp] theorem State.loadStep_pending (s : State) : (State.loadStep s).pending = s.pending := by
  simp [State.loadStep]

@[simp] theorem State.startOrdered_pending (s : State) : (State.startOrdered s).pending = s.pending := by
  simp [State.startOrdered]

@[simp] theorem State.startShed_pending (s : State) (p : Nat) : (State.startShed s p).pending = s.pending := by
  simp [State.startShed]

@[simp] theorem State.shedDisabled_pending (s : State) : (State.shedDisabled s).pending = s.pending := by
  simp [State.shedDisabled]

@[simp] theorem State.decidePhases_pending (s : State) : (State.decidePhases s).pending = s.pending := by
  unfold State.decidePhases
  try dsimp only
  repeat' split
  all_goals (first | rfl | simp)

@[simp] theorem State.retarget_pending (s : State) : (State.retarget s).pending = s.pending := by
  simp [State.retarget]

@[simp] theorem State.burstStart_pending (s : State) : (State.burstStart s).pending = s.pending := by
  simp [State.burstStart]

@[simp] theorem State.burstStep_pending (s : State) : (State.burstStep s).pending = s.pending := by
  simp [State.burstStep]

@[simp] theorem State.loopBurst_pending (s : State) : (State.loopBurst s).pending = s.pending := by
  simp [State.loopBurst]

@[simp] theorem State.boundaryCounts_pending (s : State) : (State.boundaryCounts s).pending = s.pending := by
  simp [State.boundaryCounts]

@[simp] theorem State.boundaryPhases_pending (s : State) : (State.boundaryPhases s).pending = s.pending := by
  simp [State.boundaryPhases]

@[simp] theorem State.refBoundary_pending (s : State) : (State.refBoundary s).pending = s.pending := by
  simp [State.refBoundary]

@[simp] theorem State.harnessFault_pending (s : State) (h : Nat) (c : Nat) : (State.harnessFault s h c).pending = s.pending := by
  simp [State.harnessFault]

@[simp] theorem State.abandonTrk_pending (s : State) (kind : Nat) (sev : Nat) : (State.abandonTrk s kind sev).pending = s.pending := by
  simp [State.abandonTrk]

@[simp] theorem State.trackStart_pending (s : State) : (State.trackStart s).pending = s.pending := by
  simp [State.trackStart]

@[simp] theorem State.stopStart_pending (s : State) (rate : Option Nat) : (State.stopStart s rate).pending = s.pending := by
  simp [State.stopStart]

@[simp] theorem State.dropCo3_pending (s : State) : (State.dropCo3 s).pending = s.pending := by
  simp [State.dropCo3]

@[simp] theorem State.applyOuter_pending (s : State) : (State.applyOuter s).pending = s.pending := by
  simp [State.applyOuter]

@[simp] theorem State.loadAtBoundary_pending (s : State) : (State.loadAtBoundary s).pending = s.pending := by
  simp [State.loadAtBoundary]

@[simp] theorem State.queuePdu_pending (s : State) (now : Nat) (apply : Nat) (mode : Nat) (v : Int) : (State.queuePdu s now apply mode v).pending = s.pending := by
  unfold State.queuePdu
  try dsimp only
  repeat' split
  all_goals (first | rfl | simp)

@[simp] theorem State.regCommand_pending (s : State) (m : Nat) (v : Int) : (State.regCommand s m v).pending = s.pending := by
  simp [State.regCommand]

@[simp] theorem State.takeCmd_pending (s0 : State) (c : SetCmd) : (State.takeCmd s0 c).pending = s0.pending := by
  simp [State.takeCmd]

@[simp] theorem State.intake_pending (s : State) (now : Nat) : (State.intake s now).pending = s.pending := by
  simp [State.intake]

@[simp] theorem State.limits_pending (s : State) (dt : Rat) : (State.limits s dt).pending = s.pending := by
  simp [State.limits]

@[simp] theorem State.probeSuspend_pending (s : State) : (State.probeSuspend s).pending = s.pending := by
  simp [State.probeSuspend]

@[simp] theorem State.applyClamp_pending (s : State) (q : Rat) (dtNs : Nat) : (State.applyClamp s q dtNs).1.pending = s.pending := by
  simp [State.applyClamp]

@[simp] theorem State.holdTones_pending (s : State) : (State.holdTones s).pending = s.pending := by
  simp [State.holdTones]

@[simp] theorem State.outerLoop_pending (s : State) (q : Rat) (dtNs : Nat) : (State.outerLoop s q dtNs).pending = s.pending := by
  simp [State.outerLoop]

@[simp] theorem State.startMode_pending (s : State) (m : Nat) : (State.startMode s m).pending = s.pending := by
  simp [State.startMode]

@[simp] theorem State.modeChange_pending (s : State) : (State.modeChange s).pending = s.pending := by
  simp [State.modeChange]

@[simp] theorem State.droopStep_pending (s : State) : (State.droopStep s).pending = s.pending := by
  simp [State.droopStep]

@[simp] theorem State.droop_pending (s : State) : (State.droop s).pending = s.pending := by
  simp [State.droop]

@[simp] theorem State.trackTick_pending (s : State) (dt : Rat) : (State.trackTick s dt).pending = s.pending := by
  simp [State.trackTick]

@[simp] theorem State.holdTick_pending (s0 : State) (dt : Rat) : (State.holdTick s0 dt).pending = s0.pending := by
  simp [State.holdTick]

@[simp] theorem State.setRef_pending (s : State) (q : Rat) (dtNs : Nat) : (State.setRef s q dtNs).pending = s.pending := by
  simp [State.setRef]

@[simp] theorem State.linkRef_pending (s : State) (dtNs : Nat) : (State.linkRef s dtNs).pending = s.pending := by
  simp [State.linkRef]

@[simp] theorem State.calRampTick_pending (s : State) (dtNs : Nat) (dt : Rat) : (State.calRampTick s dtNs dt).pending = s.pending := by
  simp [State.calRampTick]

@[simp] theorem State.dispatchEval_pending (s : State) (now : Nat) (dtNs : Nat) (dt : Rat) : (State.dispatchEval s now dtNs dt).pending = s.pending := by
  simp [State.dispatchEval]

@[simp] theorem State.stopEval_pending (s : State) (now : Nat) (dtNs : Nat) (dt : Rat) : (State.stopEval s now dtNs dt).pending = s.pending := by
  simp [State.stopEval]

@[simp] theorem State.outerEval_pending (s : State) (now : Nat) (dtNs : Nat) : (State.outerEval s now dtNs).pending = s.pending := by
  unfold State.outerEval
  try dsimp only
  repeat' split
  all_goals (first | rfl | simp)

@[simp] theorem State.missDeadline_pending (s : State) (now : Nat) : (State.missDeadline s now).pending = s.pending := by
  simp [State.missDeadline]

@[simp] theorem State.tonesAt_pending (s0 : State) (now : Nat) : (State.tonesAt s0 now).pending = s0.pending := by
  simp [State.tonesAt]

@[simp] theorem State.isum_pending (s : State) : (State.isum s).pending = s.pending := by
  simp [State.isum]

@[simp] theorem State.innerEval_pending (s : State) (p : Nat) (m : EvalIn) : (State.innerEval s p m).pending = s.pending := by
  simp [State.innerEval]

@[simp] theorem State.rampStep_pending (s : State) (p : Nat) (m : EvalIn) : (State.rampStep s p m).pending = s.pending := by
  simp [State.rampStep]

@[simp] theorem State.brakeStep_pending (s : State) (p : Nat) (m : EvalIn) : (State.brakeStep s p m).pending = s.pending := by
  simp [State.brakeStep]

@[simp] theorem State.deStep_pending (s : State) (p : Nat) (m : EvalIn) : (State.deStep s p m).pending = s.pending := by
  simp [State.deStep]

@[simp] theorem State.issue_pending (s : State) (p : Nat) (m : EvalIn) : (State.issue s p m).pending = s.pending := by
  simp [State.issue]

@[simp] theorem State.observe_pending (s : State) (p : Nat) (m : EvalIn) (ma : Int) : (State.observe s p m ma).pending = s.pending := by
  simp [State.observe]

@[simp] theorem State.updatePoint_pending (s : State) (p : Nat) (m : EvalIn) : (State.updatePoint s p m).pending = s.pending := by
  simp [State.updatePoint]

@[simp] theorem State.heldPoint_pending (s0 : State) (p : Nat) (m : EvalIn) : (State.heldPoint s0 p m).pending = s0.pending := by
  simp [State.heldPoint]

@[simp] theorem State.ceTap_pending (s : State) (p : Nat) (m : EvalIn) : (State.ceTap s p m).pending = s.pending := by
  unfold State.ceTap
  try dsimp only
  repeat' split
  all_goals (first | rfl | simp)

@[simp] theorem State.evalWrites_pending (s : State) (p : Nat) (m : EvalIn) : (State.evalWrites s p m).pending = s.pending := by
  simp [State.evalWrites]

@[simp] theorem State.logSkip_pending (s : State) (e : Nat) (w : Nat) (ecc : Bool) : (State.logSkip s e w ecc).pending = s.pending := by
  simp [State.logSkip]

@[simp] theorem State.announced_pending (s : State) (m : EntryIn) : (State.announced s m).pending = s.pending := by
  simp [State.announced]

@[simp] theorem State.unlessPilot_pending (s t : State) (h : t.pending = s.pending) : (s.unlessPilot t).pending = s.pending := by
  unfold State.unlessPilot
  split <;> simp [h]

@[simp] theorem State.swapAtEnd_pending (s : State) : (State.swapAtEnd s).pending = s.pending := by
  simp [State.swapAtEnd]

@[simp] theorem State.swapAtStart_pending (s : State) : (State.swapAtStart s).pending = s.pending := by
  simp [State.swapAtStart]

@[simp] theorem State.push_pending (s : State) (scope : Nat) : (State.push s scope).pending = s.pending := by
  simp [State.push]

@[simp] theorem State.markSnapshot_pending (s : State) (w : Nat) : (State.markSnapshot s w).pending = s.pending := by
  simp [State.markSnapshot]

@[simp] theorem State.takePoint_pending (s : State) : (State.takePoint s).pending = s.pending := by
  simp [State.takePoint]

@[simp] theorem State.pointBoundary_pending (s : State) (k : Nat) : (State.pointBoundary s k).pending = s.pending := by
  simp [State.pointBoundary]

@[simp] theorem State.tagTone_pending (s : State) (k : Nat) (e : Nat × Nat × Nat) : (State.tagTone s k e).pending = s.pending := by
  simp [State.tagTone]

@[simp] theorem State.probeLatch_pending (s : State) (i : Nat) : (State.probeLatch s i).pending = s.pending := by
  simp [State.probeLatch]

@[simp] theorem State.tint_pending (s : State) (g : Nat) (arg : Int) : (State.tint s g arg).pending = s.pending := by
  simp [State.tint]

@[simp] theorem State.publish_pending (s : State) (k : Nat) (g : Nat) (z : Nat × Int) (nd : Bool) : (State.publish s k g z nd).pending = s.pending := by
  simp [State.publish]

@[simp] theorem State.takePublish_pending (s : State) : (State.takePublish s).pending = s.pending := by
  simp [State.takePublish]

@[simp] theorem State.closeGroup_pending (s : State) (k : Nat) (g : Nat) (nd : Bool) (a : PointAcc) : (State.closeGroup s k g nd a).1.pending = s.pending := by
  simp [State.closeGroup]

@[simp] theorem State.probeTone_pending (s : State) (g : Nat) (k : Nat) : (State.probeTone s g k).pending = s.pending := by
  unfold State.probeTone
  try dsimp only
  repeat' split
  all_goals (first | rfl | simp)

@[simp] theorem State.probeNode_pending (s : State) (n : Nat) : (State.probeNode s n).pending = s.pending := by
  simp [State.probeNode]

@[simp] theorem State.pointOver_pending (s : State) (k : Nat) (a : PointAcc) : (State.pointOver s k a).pending = s.pending := by
  simp [State.pointOver]

@[simp] theorem State.closeRest_pending (s : State) (k : Nat) (nd : Bool) (a : PointAcc) : (State.closeRest s k nd a).pending = s.pending := by
  simp [State.closeRest]

@[simp] theorem State.probeMissed_pending (s : State) (k : Nat) : (State.probeMissed s k).pending = s.pending := by
  simp [State.probeMissed]

@[simp] theorem State.probeEndTone_pending (s : State) (k : Nat) : (State.probeEndTone s k).pending = s.pending := by
  unfold State.probeEndTone
  simp only []
  split <;> simp

@[simp] theorem State.probeSwapTone_pending (s : State) (k : Nat) : (State.probeSwapTone s k).pending = s.pending := by
  simp [State.probeSwapTone]

@[simp] theorem State.probeEnd_pending (s : State) : (State.probeEnd s).pending = s.pending := by
  simp [State.probeEnd]

@[simp] theorem State.loadTones_pending (s : State) : (State.loadTones s).pending = s.pending := by
  simp [State.loadTones]

@[simp] theorem State.probeRestart_pending (s : State) : (State.probeRestart s).pending = s.pending := by
  unfold State.probeRestart
  exact State.pending_foldl _ _ _ (fun t x => by
    dsimp only
    split <;> split <;> simp)

@[simp] theorem State.advanceEpoch_pending (s : State) : (State.advanceEpoch s).pending = s.pending := by
  simp [State.advanceEpoch]

@[simp] theorem State.takeFc_pending (s : State) (u : Nat) : (State.takeFc s u).pending = s.pending := by
  simp [State.takeFc]

@[simp] theorem State.sendEpoch_pending (s : State) (u : Nat) (typ : Nat) (ver : Nat) (addr : Nat) (p : List Byte) : (State.sendEpoch s u typ ver addr p).pending = s.pending := by
  simp [State.sendEpoch]

@[simp] theorem State.applyBank_pending (s : State) : (State.applyBank s).pending = s.pending := by
  simp [State.applyBank]

@[simp] theorem State.takeAlign_pending (s : State) : (State.takeAlign s).pending = s.pending := by
  simp [State.takeAlign]

@[simp] theorem State.freeze_pending (s : State) : (State.freeze s).pending = s.pending := by
  simp [State.freeze]

@[simp] theorem State.sendBeacon_pending (s : State) (u : Nat) (txLt : Nat) (startDt : Nat) : (State.sendBeacon s u txLt startDt).pending = s.pending := by
  simp [State.sendBeacon]

@[simp] theorem State.sendCmd_pending (s : State) (u : Nat) (n : Nat) : (State.sendCmd s u n).pending = s.pending := by
  unfold State.sendCmd
  try dsimp only
  repeat' split
  all_goals (first | rfl | simp)

@[simp] theorem State.sendReply_pending (s : State) (u : Nat) (r0 : JoinReply) : (State.sendReply s u r0).pending = s.pending := by
  simp [State.sendReply]

@[simp] theorem State.sendDyn_pending (s : State) (u : Nat) : (State.sendDyn s u).pending = s.pending := by
  unfold State.sendDyn
  try dsimp only
  repeat' split
  all_goals (first | rfl | simp)

@[simp] theorem State.rxCount_pending (s : State) (u : Nat) (n : Nat) (k : RxFail) : (State.rxCount s u n k).pending = s.pending := by
  simp [State.rxCount]

@[simp] theorem State.rxAccept_pending (s : State) (f : RxFrame) : (State.rxAccept s f).pending = s.pending := by
  simp [State.rxAccept]

@[simp] theorem State.kackSet_pending (s : State) (u : Nat) (addr : Nat) (fc : Nat) : (State.kackSet s u addr fc).pending = s.pending := by
  simp [State.kackSet]

@[simp] theorem State.joinUnknown_pending (s : State) (u : Nat) (serial : Nat) : (State.joinUnknown s u serial).pending = s.pending := by
  simp [State.joinUnknown]

@[simp] theorem State.queueReply_pending (s : State) (r : JoinReply) : (State.queueReply s r).pending = s.pending := by
  simp [State.queueReply]

@[simp] theorem State.queueCmd_pending (s : State) (n : Nat) (cmd : Nat) (params : List Nat) (chan : Option Nat) : (State.queueCmd s n cmd params chan).pending = s.pending := by
  simp [State.queueCmd]

@[simp] theorem State.joined_pending (s : State) (r : JoinReply) : (State.joined s r).pending = s.pending := by
  simp [State.joined]

@[simp] theorem State.radioFrameEnd_pending (s : State) : (State.radioFrameEnd s).pending = s.pending := by
  unfold State.radioFrameEnd
  try dsimp only
  repeat' split
  all_goals (first | rfl | simp)

@[simp] theorem State.linkFrameStart_pending (s : State) : (State.linkFrameStart s).pending = s.pending := by
  simp [State.linkFrameStart]

@[simp] theorem State.updEnd_pending (s : State) : (State.updEnd s).pending = s.pending := by
  simp [State.updEnd]

@[simp] theorem State.updDisturbed_pending (s : State) : (State.updDisturbed s).pending = s.pending := by
  simp [State.updDisturbed]

@[simp] theorem State.updFault_pending (s : State) (src : Nat) (what : Nat) (item : Nat) : (State.updFault s src what item).pending = s.pending := by
  simp [State.updFault]

@[simp] theorem State.confirm_pending (s : State) : (State.confirm s).pending = s.pending := by
  simp [State.confirm]

@[simp] theorem State.rollCheck_pending (s : State) : (State.rollCheck s).pending = s.pending := by
  simp [State.rollCheck]

@[simp] theorem State.rollLeave_pending (s : State) (n : Nat) : (State.rollLeave s n).pending = s.pending := by
  simp [State.rollLeave]

@[simp] theorem State.rollSweep_pending (s : State) (n : Nat) : (State.rollSweep s n).pending = s.pending := by
  simp [State.rollSweep]

@[simp] theorem State.queueTiming_pending (s : State) (n : Nat) (ns : Nat) : (State.queueTiming s n ns).pending = s.pending := by
  simp [State.queueTiming]

@[simp] theorem State.queueLimits_pending (s : State) (n : Nat) : (State.queueLimits s n).pending = s.pending := by
  simp [State.queueLimits]

@[simp] theorem State.logUncounted_pending (s : State) (qint : Int) : (State.logUncounted s qint).pending = s.pending := by
  simp [State.logUncounted]

@[simp] theorem State.latch_pending (s : State) (w : Nat) (ma : Int) (vStr : Int) (vBus : Int) (dq : Int) : (State.latch s w ma vStr vBus dq).pending = s.pending := by
  simp [State.latch]

@[simp] theorem State.modNode_pending (s : State) (n : Nat) (f : Nat → GroupRec → GroupRec) : (State.modNode s n f).pending = s.pending := by
  simp [State.modNode]

@[simp] theorem State.writeStale_pending (s : State) (n : Nat) (own : Nat) (rep : Option Nat) : (State.writeStale s n own rep).pending = s.pending := by
  simp [State.writeStale]

@[simp] theorem State.tofTake_pending (s : State) (n : Nat) (sample : Rat) : (State.tofTake s n sample).pending = s.pending := by
  simp [State.tofTake]

@[simp] theorem State.tofSample_pending (s : State) (u : Nat) (n : Nat) (r : Report) (rxLt : Nat) : (State.tofSample s u n r rxLt).pending = s.pending := by
  unfold State.tofSample
  split
  · rfl
  · split
    · rfl
    · dsimp only
      split <;> simp

@[simp] theorem State.degWire_pending (s : State) : (State.degWire s).pending = s.pending := by
  simp [State.degWire]

@[simp] theorem State.openWire_pending (s : State) (n : Nat) (k : Nat) (tval : Int) : (State.openWire s n k tval).pending = s.pending := by
  simp [State.openWire]

@[simp] theorem State.logBst_pending (s : State) (n : Nat) (p : Nat) (row : Nat) : (State.logBst s n p row).pending = s.pending := by
  simp [State.logBst]

@[simp] theorem State.logRow_pending (s : State) (n : Nat) (r : Nat) (fresh : Nat) : (State.logRow s n r fresh).pending = s.pending := by
  simp [State.logRow]

@[simp] theorem State.passDone_pending (s : State) (n : Nat) (pass : List (Option Nat)) : (State.passDone s n pass).pending = s.pending := by
  simp [State.passDone]

@[simp] theorem State.switchTest_pending (s : State) (n : Nat) (p : Nat) (v : Nat) (tval : Int) : (State.switchTest s n p v tval).pending = s.pending := by
  simp [State.switchTest]

@[simp] theorem State.testResult_pending (s : State) (n : Nat) (r : Report) : (State.testResult s n r).pending = s.pending := by
  simp [State.testResult]

@[simp] theorem State.nodeSum_pending (s : State) (n : Nat) (r : Report) : (State.nodeSum s n r).pending = s.pending := by
  simp [State.nodeSum]

@[simp] theorem State.sagSweep_pending (s : State) (n : Nat) (r : Report) : (State.sagSweep s n r).pending = s.pending := by
  simp [State.sagSweep]

@[simp] theorem State.writeValid_pending (s : State) (n : Nat) (r : Report) : (State.writeValid s n r).pending = s.pending := by
  simp [State.writeValid]

@[simp] theorem State.sweep_pending (s : State) (u : Nat) (n : Nat) (rxLt : Nat) (p : List Byte) : (State.sweep s u n rxLt p).pending = s.pending := by
  simp [State.sweep]

@[simp] theorem State.nodeEnd_pending (s : State) (n : Nat) : (State.nodeEnd s n).pending = s.pending := by
  simp [State.nodeEnd]

@[simp] theorem State.stringSum_pending (s : State) : (State.stringSum s).pending = s.pending := by
  simp [State.stringSum]

@[simp] theorem State.logPatterns_pending (s : State) (n : Nat) : (State.logPatterns s n).pending = s.pending := by
  simp [State.logPatterns]

@[simp] theorem State.nodePattern_pending (s : State) (full : Bool) (n : Nat) : (State.nodePattern s full n).pending = s.pending := by
  simp [State.nodePattern]

@[simp] theorem State.stringPattern_pending (s : State) : (State.stringPattern s).pending = s.pending := by
  simp [State.stringPattern]

@[simp] theorem State.patterns_pending (s : State) (full : Bool) : (State.patterns s full).pending = s.pending := by
  simp [State.patterns]

@[simp] theorem State.degLost_pending (s : State) : (State.degLost s).pending = s.pending := by
  simp [State.degLost]

@[simp] theorem State.measureEnd_pending (s : State) : (State.measureEnd s).pending = s.pending := by
  simp [State.measureEnd]

@[simp] theorem State.halfSum_pending (s : State) (n : Nat) (k : Nat) : (State.halfSum s n k).pending = s.pending := by
  simp [State.halfSum]

@[simp] theorem State.voltages_pending (s : State) (n : Nat) : (State.voltages s n).pending = s.pending := by
  simp [State.voltages]

@[simp] theorem State.countRec_pending (s : State) (g : Nat) (dq : Int) : (State.countRec s g dq).pending = s.pending := by
  simp [State.countRec]

@[simp] theorem State.armedCycle_pending (s : State) (g : Nat) (dq : Int) : (State.armedCycle s g dq).pending = s.pending := by
  simp [State.armedCycle]

@[simp] theorem State.fullAnchor_pending (s : State) (g : Nat) : (State.fullAnchor s g).pending = s.pending := by
  simp [State.fullAnchor]

@[simp] theorem State.learn_pending (s : State) (g : Nat) : (State.learn s g).pending = s.pending := by
  simp [State.learn]

@[simp] theorem State.emptyAnchor_pending (s : State) (g : Nat) : (State.emptyAnchor s g).pending = s.pending := by
  simp [State.emptyAnchor]

@[simp] theorem State.ocvAnchor_pending (s : State) (g : Nat) : (State.ocvAnchor s g).pending = s.pending := by
  unfold State.ocvAnchor
  try dsimp only
  repeat' split
  all_goals (first | rfl | simp)

@[simp] theorem State.disagreeCheck_pending (s : State) (g : Nat) : (State.disagreeCheck s g).pending = s.pending := by
  simp [State.disagreeCheck]

@[simp] theorem State.cutoffCheck_pending (s : State) (g : Nat) : (State.cutoffCheck s g).pending = s.pending := by
  simp [State.cutoffCheck]

@[simp] theorem State.qRepUpdate_pending (s : State) (g : Nat) : (State.qRepUpdate s g).pending = s.pending := by
  simp [State.qRepUpdate]

@[simp] theorem State.chargeGroup_pending (s : State) (g : Nat) : (State.chargeGroup s g).pending = s.pending := by
  simp [State.chargeGroup]

@[simp] theorem State.chargeNode_pending (s : State) (n : Nat) : (State.chargeNode s n).pending = s.pending := by
  simp [State.chargeNode]

@[simp] theorem State.coneNode_pending (s : State) (n : Nat) : (State.coneNode s n).pending = s.pending := by
  simp [State.coneNode]

@[simp] theorem State.direction_pending (s0 : State) : (State.direction s0).pending = s0.pending := by
  simp [State.direction]

@[simp] theorem State.balLosses_pending (s : State) : (State.balLosses s).pending = s.pending := by
  simp [State.balLosses]

@[simp] theorem State.stringReports_pending (s : State) : (State.stringReports s).pending = s.pending := by
  simp [State.stringReports]

@[simp] theorem State.estLimits_pending (s : State) : (State.estLimits s).pending = s.pending := by
  simp [State.estLimits]

@[simp] theorem State.crossing_pending (s : State) (side : Nat) (level : Nat) (dir : Nat) (crit : Nat) (g : Nat) : (State.crossing s side level dir crit g).pending = s.pending := by
  simp [State.crossing]

@[simp] theorem State.crossings_pending (s : State) (side : Nat) (old : Nat) (new : Nat) : (State.crossings s side old new).pending = s.pending := by
  simp [State.crossings]

@[simp] theorem State.stringCones_pending (s : State) : (State.stringCones s).pending = s.pending := by
  simp [State.stringCones]

@[simp] theorem State.coneCatchUp_pending (s : State) : (State.coneCatchUp s).pending = s.pending := by
  simp [State.coneCatchUp]

@[simp] theorem State.adoptGroup_pending (s : State) (g : Nat) : (State.adoptGroup s g).pending = s.pending := by
  simp [State.adoptGroup]

@[simp] theorem State.adoptAll_pending (s : State) : (State.adoptAll s).pending = s.pending := by
  simp [State.adoptAll]

@[simp] theorem State.calEnd_pending (s : State) : (State.calEnd s).pending = s.pending := by
  simp [State.calEnd]

@[simp] theorem State.calCheck_pending (s : State) : (State.calCheck s).pending = s.pending := by
  simp [State.calCheck]

@[simp] theorem State.ceString_pending (s : State) : (State.ceString s).pending = s.pending := by
  simp [State.ceString]

@[simp] theorem State.estimateEnd_pending (s : State) : (State.estimateEnd s).pending = s.pending := by
  simp [State.estimateEnd]

@[simp] theorem State.capCommitEnd_pending (s : State) (ok : Bool) : (State.capCommitEnd s ok).pending = s.pending := by
  simp [State.capCommitEnd]

@[simp] theorem State.capCommitStart_pending (s : State) : (State.capCommitStart s).pending = s.pending := by
  simp [State.capCommitStart]

@[simp] theorem State.reportDrops_pending (s : State) : (State.reportDrops s).pending = s.pending := by
  unfold State.reportDrops
  try dsimp only
  repeat' split
  all_goals (first | rfl | simp)

@[simp] theorem State.logWriteOne_pending (s : State) : (State.logWriteOne s).pending = s.pending := by
  unfold State.logWriteOne
  try dsimp only
  repeat' split
  all_goals (first | rfl | simp)

@[simp] theorem State.logDrain_pending (s : State) : (State.logDrain s).pending = s.pending := by
  simp [State.logDrain]

@[simp] theorem State.nvmBad_pending (s : State) (a : Nat) : (State.nvmBad s a).pending = s.pending := by
  simp [State.nvmBad]

@[simp] theorem State.nvmUncorrectable_pending (s : State) (a : Nat) : (State.nvmUncorrectable s a).pending = s.pending := by
  simp [State.nvmUncorrectable]

@[simp] theorem State.pd0Backup_pending (s : State) : (State.pd0Backup s).pending = s.pending := by
  simp [State.pd0Backup]

@[simp] theorem State.thmConvert_pending (s : State) : (State.thmConvert s).pending = s.pending := by
  simp [State.thmConvert]

@[simp] theorem State.thmTake_pending (s : State) (src : Nat) (mask : Nat) (x : ThmIn) : (State.thmTake s src mask x).pending = s.pending := by
  unfold State.thmTake
  try dsimp only
  repeat' split
  all_goals (first | rfl | simp)

@[simp] theorem State.thmModel_pending (s : State) (p : Nat) : (State.thmModel s p).pending = s.pending := by
  simp [State.thmModel]

@[simp] theorem State.thmPhase_pending (s : State) (p : Nat) : (State.thmPhase s p).pending = s.pending := by
  simp [State.thmPhase]

@[simp] theorem State.thmGroup_pending (s : State) (g : Nat) : (State.thmGroup s g).pending = s.pending := by
  simp [State.thmGroup]

@[simp] theorem State.thmFrame_pending (s : State) : (State.thmFrame s).pending = s.pending := by
  simp [State.thmFrame]

@[simp] theorem State.degThermal_pending (s : State) : (State.degThermal s).pending = s.pending := by
  simp [State.degThermal]

@[simp] theorem State.factors_pending (s : State) : (State.factors s).pending = s.pending := by
  simp [State.factors]

@[simp] theorem State.derateMsg_pending (s : State) (chg : Bool) (kind : Nat) (limit : Nat) : (State.derateMsg s chg kind limit).pending = s.pending := by
  simp [State.derateMsg]

@[simp] theorem State.derateLog_pending (s : State) (chg : Bool) (kind : Nat) (limit : Nat) : (State.derateLog s chg kind limit).pending = s.pending := by
  simp [State.derateLog]

@[simp] theorem State.derateStep_pending (s : State) (chg : Bool) : (State.derateStep s chg).pending = s.pending := by
  unfold State.derateStep
  try dsimp only
  repeat' split
  all_goals (first | rfl | simp)

@[simp] theorem State.thmCatchUp_pending (s : State) : (State.thmCatchUp s).pending = s.pending := by
  simp [State.thmCatchUp]

@[simp] theorem State.thmHot_pending (s : State) : (State.thmHot s).pending = s.pending := by
  simp [State.thmHot]

@[simp] theorem State.thmTick_pending (s : State) : (State.thmTick s).pending = s.pending := by
  simp [State.thmTick]

@[simp] theorem State.batchNode_pending (s : State) (w : Nat) (n : Nat) : (State.batchNode s w n).pending = s.pending := by
  simp [State.batchNode]

@[simp] theorem State.toneStats_pending (s : State) : (State.toneStats s).pending = s.pending := by
  simp [State.toneStats]

@[simp] theorem State.latchCheck_pending (s : State) : (State.latchCheck s).pending = s.pending := by
  simp [State.latchCheck]

@[simp] theorem State.applyTables_pending (s : State) : (State.applyTables s).pending = s.pending := by
  simp [State.applyTables]

@[simp] theorem State.applyFrameEnd_pending (s : State) : (State.applyFrameEnd s).pending = s.pending := by
  simp [State.applyFrameEnd]

@[simp] theorem State.frameEndWork_pending (s : State) : (State.frameEndWork s).pending = s.pending := by
  simp [State.frameEndWork]

@[simp] theorem State.abandonRest_pending (s : State) (now : Nat) : (State.abandonRest s now).pending = s.pending := by
  simp [State.abandonRest]

@[simp] theorem State.alignStat_pending (s : State) : (State.alignStat s).pending = s.pending := by
  simp [State.alignStat]

@[simp] theorem State.stepTime_pending (s : State) : (State.stepTime s).pending = s.pending := by
  unfold State.stepTime
  try dsimp only
  repeat' split
  all_goals (first | rfl | simp)

@[simp] theorem State.adoptPeriod_pending (s : State) : (State.adoptPeriod s).pending = s.pending := by
  unfold State.adoptPeriod
  try dsimp only
  repeat' split
  all_goals (first | rfl | simp)

@[simp] theorem State.ceFrameStart_pending (s : State) : (State.ceFrameStart s).pending = s.pending := by
  simp [State.ceFrameStart]

@[simp] theorem State.bankChange_pending (s : State) : (State.bankChange s).pending = s.pending := by
  simp [State.bankChange]

@[simp] theorem State.followBank_pending (s : State) : (State.followBank s).pending = s.pending := by
  unfold State.followBank
  try dsimp only
  repeat' split
  all_goals (first | rfl | simp)

@[simp] theorem State.frameStart_pending (s : State) : (State.frameStart s).pending = s.pending := by
  simp [State.frameStart]

@[simp] theorem State.rejectImages_pending (s : State) : (State.rejectImages s).pending = s.pending := by
  simp [State.rejectImages]

@[simp] theorem State.loadBoot_pending (s : State) : (State.loadBoot s).pending = s.pending := by
  simp [State.loadBoot]

@[simp] theorem State.startFsq_pending (s : State) : (State.startFsq s).pending = s.pending := by
  simp [State.startFsq]

@[simp] theorem State.bootReselect_pending (s : State) : (State.bootReselect s).pending = s.pending := by
  simp [State.bootReselect]

@[simp] theorem State.sagIsolate_pending (s : State) (c : Nat) : (State.sagIsolate s c).pending = s.pending := by
  simp [State.sagIsolate]

@[simp] theorem State.diag_pending (s : State) (k : Nat) (bad : Bool) : (State.diag s k bad).pending = s.pending := by
  simp [State.diag]

@[simp] theorem State.diagFail_pending (s : State) (k : Nat) : (State.diagFail s k).pending = s.pending := by
  simp [State.diagFail]

@[simp] theorem State.diagHard_pending (s : State) : (State.diagHard s).pending = s.pending := by
  simp [State.diagHard]

@[simp] theorem State.coilTestFail_pending (s : State) (sw : Nat) : (State.coilTestFail s sw).pending = s.pending := by
  simp [State.coilTestFail]

@[simp] theorem State.slotSkip_pending (s : State) (sw : Nat) : (State.slotSkip s sw).pending = s.pending := by
  simp [State.slotSkip]

@[simp] theorem State.degSession_pending (s : State) : (State.degSession s).pending = s.pending := by
  simp [State.degSession]

@[simp] theorem State.degNet_pending (s : State) : (State.degNet s).pending = s.pending := by
  simp [State.degNet]

@[simp] theorem State.pduMiss_pending (s : State) : (State.pduMiss s).pending = s.pending := by
  simp [State.pduMiss]

@[simp] theorem State.pduAct_pending (s0 : State) (p : PortId) (b : List Byte) : (State.pduAct s0 p b).pending = s0.pending := by
  simp [State.pduAct]

@[simp] theorem State.pduSecond_pending (s : State) (b : List Byte) : (State.pduSecond s b).pending = s.pending := by
  simp [State.pduSecond]

@[simp] theorem State.pduHeard_pending (s : State) (p : PortId) (h : Net) : (State.pduHeard s p h).pending = s.pending := by
  simp [State.pduHeard]

@[simp] theorem State.pduCopy_pending (s : State) (p : PortId) (b : List Byte) (h : Net) : (State.pduCopy s p b h).pending = s.pending := by
  unfold State.pduCopy
  try dsimp only
  repeat' split
  all_goals (first | rfl | simp)

@[simp] theorem State.latchClear_pending (s : State) : (State.latchClear s).pending = s.pending := by
  simp [State.latchClear]

@[simp] theorem State.clogAdd_pending (s : State) (kind : Nat) (source : Nat) (index : Nat) (old : Int) (new : Int) : (State.clogAdd s kind source index old new).pending = s.pending := by
  simp [State.clogAdd]

@[simp] theorem State.cfgCommit_pending (s : State) (source : Nat) : (State.cfgCommit s source).pending = s.pending := by
  simp [State.cfgCommit]

@[simp] theorem State.cfgOpen_pending (s : State) (source : Nat) : (State.cfgOpen s source).pending = s.pending := by
  simp [State.cfgOpen]

@[simp] theorem State.cfgEnd_pending (s : State) : (State.cfgEnd s).pending = s.pending := by
  unfold State.cfgEnd
  try dsimp only
  repeat' split
  all_goals (first | rfl | simp)

@[simp] theorem State.cfgFail_pending (s : State) : (State.cfgFail s).pending = s.pending := by
  simp [State.cfgFail]

@[simp] theorem State.loginFails_pending (s : State) (src : Nat) : (State.loginFails s src).pending = s.pending := by
  simp [State.loginFails]

@[simp] theorem State.setPassword_pending (s : State) (pw : List Byte) (source : Nat) : (State.setPassword s pw source).pending = s.pending := by
  simp [State.setPassword]

@[simp] theorem State.sagReset_pending (s : State) (format : Nat) (fw : Nat) : (State.sagReset s format fw).pending = s.pending := by
  unfold State.sagReset
  dsimp only
  split
  · exact State.clogAdd_pending ..
  · exact (State.clogAdd_pending ..).trans (State.clogAdd_pending ..)

@[simp] theorem State.pd0Restore_pending (s : State) : (State.pd0Restore s).pending = s.pending := by
  simp [State.pd0Restore]

@[simp] theorem State.settingsLoad_pending (s : State) : (State.settingsLoad s).pending = s.pending := by
  unfold State.settingsLoad
  try dsimp only
  repeat' split
  all_goals (first | rfl | simp)

@[simp] theorem State.capLoad_pending (s : State) : (State.capLoad s).pending = s.pending := by
  unfold State.capLoad
  try dsimp only
  repeat' split
  all_goals (first | rfl | simp)

@[simp] theorem State.countLoad_pending (s : State) : (State.countLoad s).pending = s.pending := by
  unfold State.countLoad
  try dsimp only
  repeat' split
  all_goals (first | rfl | simp)

@[simp] theorem State.sagLoad_pending (s : State) : (State.sagLoad s).pending = s.pending := by
  unfold State.sagLoad
  try dsimp only
  repeat' split
  all_goals (first | rfl | simp)

@[simp] theorem State.readStraps_pending (s : State) : (State.readStraps s).pending = s.pending := by
  simp [State.readStraps]

@[simp] theorem State.tvLoad_pending (s : State) : (State.tvLoad s).pending = s.pending := by
  simp [State.tvLoad]

@[simp] theorem State.bootLoad_pending (s : State) : (State.bootLoad s).pending = s.pending := by
  simp [State.bootLoad]

@[simp] theorem State.bootRevert_pending (s : State) : (State.bootRevert s).pending = s.pending := by
  simp [State.bootRevert]

@[simp] theorem State.bootConfirm_pending (s : State) : (State.bootConfirm s).pending = s.pending := by
  simp [State.bootConfirm]

@[simp] theorem State.domainUp_pending (s : State) (d : Nat) : (State.domainUp s d).pending = s.pending := by
  simp [State.domainUp]

@[simp] theorem State.domainDown_pending (s : State) (d : Nat) : (State.domainDown s d).pending = s.pending := by
  unfold State.domainDown
  try dsimp only
  repeat' split
  all_goals (first | rfl | simp)

@[simp] theorem State.allReady_pending (s : State) : (State.allReady s).pending = s.pending := by
  simp [State.allReady]

@[simp] theorem State.isolateAll_pending (s : State) (l : List Nat) : (State.isolateAll s l).pending = s.pending := by
  unfold State.isolateAll
  try dsimp only
  repeat' split
  all_goals (first | rfl | simp)

@[simp] theorem State.logItem_pending (s : State) (detail : Nat) (i : TestItem) : (State.logItem s detail i).pending = s.pending := by
  simp [State.logItem]

@[simp] theorem State.testResults_pending (s : State) (r : SelfTest) : (State.testResults s r).pending = s.pending := by
  simp [State.testResults]

@[simp] theorem State.startLost_pending (s : State) (n : Nat) : (State.startLost s n).pending = s.pending := by
  simp [State.startLost]

@[simp] theorem State.setFeed_pending (s : State) (b : Bool) (on : Bool) : (State.setFeed s b on).pending = s.pending := by
  simp [State.setFeed]

@[simp] theorem State.boRamp_pending (s : State) : (State.boRamp s).pending = s.pending := by
  simp [State.boRamp]

@[simp] theorem State.boCommit_pending (s : State) : (State.boCommit s).pending = s.pending := by
  simp [State.boCommit]

@[simp] theorem State.pairFault_pending (s : State) (kind : Nat) : (State.pairFault s kind).pending = s.pending := by
  simp [State.pairFault]

@[simp] theorem State.clashCheck_pending (s : State) (h : Partner) (higher : Bool) : (State.clashCheck s h higher).pending = s.pending := by
  simp [State.clashCheck]

@[simp] theorem State.heartbeat_pending (s : State) (h : Partner) (higher : Bool) : (State.heartbeat s h higher).pending = s.pending := by
  simp [State.heartbeat]

@[simp] theorem State.adopt_pending (s : State) (m : Mirror) (seq : Nat) : (State.adopt s m seq).pending = s.pending := by
  simp [State.adopt]

@[simp] theorem State.sendTake_pending (s : State) (now : Nat) : (State.sendTake s now).pending = s.pending := by
  simp [State.sendTake]

@[simp] theorem State.sendReady_pending (s : State) : (State.sendReady s).pending = s.pending := by
  simp [State.sendReady]

@[simp] theorem State.swapFailed_pending (s : State) : (State.swapFailed s).pending = s.pending := by
  simp [State.swapFailed]

@[simp] theorem State.handOver_pending (s : State) (now : Nat) : (State.handOver s now).pending = s.pending := by
  simp [State.handOver]

@[simp] theorem State.takeHarness_pending (s : State) : (State.takeHarness s).pending = s.pending := by
  simp [State.takeHarness]

@[simp] theorem State.fromCopy_pending (s : State) (m : Mirror) : (State.fromCopy s m).pending = s.pending := by
  simp [State.fromCopy]

@[simp] theorem State.newOwner_pending (s : State) (kind : Nat) : (State.newOwner s kind).pending = s.pending := by
  simp [State.newOwner]

@[simp] theorem State.wantFor_pending (s : State) (st : OpState) (disp : Bool) : (State.wantFor s st disp).pending = s.pending := by
  simp [State.wantFor]

@[simp] theorem State.dropCoef_pending (s : State) : (State.dropCoef s).pending = s.pending := by
  simp [State.dropCoef]

@[simp] theorem State.takeOver_pending (s : State) (m : Mirror) (kind : Nat) (gap : Nat) : (State.takeOver s m kind gap).pending = s.pending := by
  simp [State.takeOver]

@[simp] theorem State.passOwner_pending (s : State) (now : Nat) (gap : Nat) : (State.passOwner s now gap).pending = s.pending := by
  unfold State.passOwner
  dsimp only
  split
  · simp
  · split <;> simp

@[simp] theorem State.ceFresh_pending (s : State) : (State.ceFresh s).pending = s.pending := by
  simp [State.ceFresh]

@[simp] theorem State.dueOwner_pending (s : State) (now : Nat) : (State.dueOwner s now).pending = s.pending := by
  unfold State.dueOwner
  try dsimp only
  repeat' split
  all_goals (first | rfl | simp)

@[simp] theorem State.pilotView_pending (s : State) : (State.pilotView s).pending = s.pending := by
  unfold State.pilotView
  try dsimp only
  repeat' split
  all_goals (first | rfl | simp)

@[simp] theorem State.latchShadows_pending (s : State) : (State.latchShadows s).pending = s.pending := by
  simp [State.latchShadows]

@[simp] theorem State.afterRead_pending (s : State) (r : Reg) : (State.afterRead s r).pending = s.pending := by
  simp [State.afterRead]

@[simp] theorem State.clearRc_pending (s : State) (r : Reg) : (State.clearRc s r).pending = s.pending := by
  unfold State.clearRc
  try dsimp only
  repeat' split
  all_goals (first | rfl | simp)

@[simp] theorem State.putPeriod_pending (s : State) (v : Nat) : (State.putPeriod s v).pending = s.pending := by
  simp [State.putPeriod]

@[simp] theorem State.settingDone_pending (s : State) (i : Nat) (v : Int) (old : Int) : (State.settingDone s i v old).pending = s.pending := by
  simp [State.settingDone]

@[simp] theorem State.putSetting_pending (s : State) (i : Nat) (v : Int) : (State.putSetting s i v).pending = s.pending := by
  unfold State.putSetting
  try dsimp only
  repeat' split
  all_goals (first | rfl | simp)

@[simp] theorem State.toDefault_pending (s : State) (i : Nat) : (State.toDefault s i).pending = s.pending := by
  unfold State.toDefault
  try dsimp only
  repeat' split
  all_goals (first | rfl | simp)

@[simp] theorem State.settingsDefault_pending (s : State) : (State.settingsDefault s).pending = s.pending := by
  simp [State.settingsDefault]

@[simp] theorem State.toNewFormat_pending (s : State) (i : Nat) : (State.toNewFormat s i).pending = s.pending := by
  simp [State.toNewFormat]

@[simp] theorem State.loadNewFormat_pending (s : State) : (State.loadNewFormat s).pending = s.pending := by
  simp [State.loadNewFormat]

@[simp] theorem State.formatStep_pending (s : State) : (State.formatStep s).pending = s.pending := by
  simp [State.formatStep]

@[simp] theorem State.loginState_pending (s : State) : (State.loginState s).pending = s.pending := by
  simp [State.loginState]

@[simp] theorem State.toIsolated_pending (s : State) : (State.toIsolated s).pending = s.pending := by
  simp [State.toIsolated]

@[simp] theorem State.toStandby_pending (s : State) : (State.toStandby s).pending = s.pending := by
  simp [State.toStandby]

@[simp] theorem State.toConnected_pending (s : State) : (State.toConnected s).pending = s.pending := by
  simp [State.toConnected]

@[simp] theorem State.toDegraded_pending (s : State) : (State.toDegraded s).pending = s.pending := by
  simp [State.toDegraded]

@[simp] theorem State.fromDegraded_pending (s : State) : (State.fromDegraded s).pending = s.pending := by
  simp [State.fromDegraded]

@[simp] theorem State.stopDone_pending (s : State) : (State.stopDone s).pending = s.pending := by
  simp [State.stopDone]

@[simp] theorem State.toMaintenance_pending (s : State) : (State.toMaintenance s).pending = s.pending := by
  simp [State.toMaintenance]

@[simp] theorem State.afterTest_pending (s : State) (owned : Bool) : (State.afterTest s owned).pending = s.pending := by
  simp [State.afterTest]

theorem State.row_pending (s : State) (e : Ev) (t_ : State) (h_ : State.row s e = some t_) : t_.pending = s.pending := by
  revert h_
  unfold State.row
  try dsimp only
  repeat' split
  all_goals (intro h_; first | (cases h_; done) | (cases h_; rfl) | (cases h_; simp; done) | (simp at h_; done) | (simp at h_; subst h_; simp; done))

@[simp] theorem State.dropEv_pending (s : State) (e : Ev) : (State.dropEv s e).pending = s.pending := by
  unfold State.dropEv
  try dsimp only
  repeat' split
  all_goals (first | rfl | simp)

@[simp] theorem State.takeClass_pending (s : State) (c : Nat) (p0 : List Ev) : (s.takeClass c p0).1.pending = s.pending := by
  induction p0 generalizing s with
  | nil => rfl
  | cons e l ih =>
    simp only [State.takeClass]
    split
    · exact ih s
    · split
      · rename_i h
        exact State.row_pending _ _ _ h
      · exact (ih _).trans (by simp)

@[simp] theorem State.runClass_pending (s : State) (c : Nat) : (State.runClass s c).pending = s.pending := by
  simp [State.runClass]

@[simp] theorem State.runDegraded_pending (s : State) : (State.runDegraded s).pending = s.pending := by
  simp [State.runDegraded]

@[simp] theorem State.stateMachine_pending (s : State) : (State.stateMachine s).pending = s.pending := by
  simp [State.stateMachine]

@[simp] theorem State.spyEnd_pending (s : State) : (State.spyEnd s).pending = s.pending := by
  simp [State.spyEnd]

@[simp] theorem State.trackClosed_pending (s : State) : (State.trackClosed s).pending = s.pending := by
  simp [State.trackClosed]

@[simp] theorem State.stopOpened_pending (s : State) : (State.stopOpened s).pending = s.pending := by
  simp [State.stopOpened]

@[simp] theorem State.tvCorrect_pending (s : State) : (State.tvCorrect s).pending = s.pending := by
  simp [State.tvCorrect]

@[simp] theorem State.mirrorCorrect_pending (s : State) : (State.mirrorCorrect s).pending = s.pending := by
  simp [State.mirrorCorrect]

@[simp] theorem State.raise_pending (s : State) (c : Nat) : (State.raise s c).pending = s.pending := by
  simp [State.raise]

@[simp] theorem State.sf4_pending (s : State) : (State.sf4 s).pending = s.pending := by
  unfold State.sf4
  try dsimp only
  repeat' split
  all_goals (first | rfl | simp)

@[simp] theorem State.tickDiag_pending (s : State) (k : Nat) (bad : Bool) : (State.tickDiag s k bad).pending = s.pending := by
  simp [State.tickDiag]

@[simp] theorem State.protect_pending (s : State) (m : TickIn) : (State.protect s m).pending = s.pending := by
  simp [State.protect]

@[simp] theorem State.tickPins_pending (s : State) (m : TickIn) : (State.tickPins s m).pending = s.pending := by
  simp [State.tickPins]

@[simp] theorem State.degLevels_pending (s : State) : (State.degLevels s).pending = s.pending := by
  simp [State.degLevels]

@[simp] theorem State.pairTick_pending (s : State) : (State.pairTick s).pending = s.pending := by
  simp [State.pairTick]

@[simp] theorem State.tickCounts_pending (s : State) : (State.tickCounts s).pending = s.pending := by
  simp [State.tickCounts]

@[simp] theorem State.speedTick_pending (s : State) (pct : Nat) : (State.speedTick s pct).pending = s.pending := by
  simp [State.speedTick]

@[simp] theorem State.degTick_pending (s : State) : (State.degTick s).pending = s.pending := by
  simp [State.degTick]

@[simp] theorem State.strapTick_pending (s : State) : (State.strapTick s).pending = s.pending := by
  simp [State.strapTick]

@[simp] theorem State.tickWork_pending (s : State) (m : TickIn) : (State.tickWork s m).pending = s.pending := by
  simp [State.tickWork]

@[simp] theorem State.timeTo_pending (s : State) (st : LmpSt) : (State.timeTo s st).pending = s.pending := by
  simp [State.timeTo]

@[simp] theorem State.reselect_pending (s : State) : (State.reselect s).pending = s.pending := by
  unfold State.reselect
  try dsimp only
  repeat' split
  all_goals (first | rfl | simp)

@[simp] theorem State.servo_pending (s : State) (off : Int) (ms : Nat) : (State.servo s off ms).pending = s.pending := by
  simp [State.servo]

@[simp] theorem State.loadSecMark_pending (s : State) : (State.loadSecMark s).pending = s.pending := by
  unfold State.loadSecMark
  try dsimp only
  repeat' split
  all_goals (first | rfl | simp)

@[simp] theorem State.takeOffset_pending (s0 : State) (off : Int) (ms : Nat) : (State.takeOffset s0 off ms).pending = s0.pending := by
  unfold State.takeOffset
  try dsimp only
  repeat' split
  all_goals (first | rfl | simp)

@[simp] theorem State.syncDone_pending (s : State) (m : PtpMsg) (ingress : Int) (origin : Int) (ms : Nat) : (State.syncDone s m ingress origin ms).pending = s.pending := by
  simp [State.syncDone]

@[simp] theorem State.sourceLost_pending (s : State) : (State.sourceLost s).pending = s.pending := by
  simp [State.sourceLost]

@[simp] theorem State.slotZero_pending (s : State) : (State.slotZero s).pending = s.pending := by
  simp [State.slotZero]

@[simp] theorem State.fire_pending (s : State) (k : Nat) : (State.fire s k).pending = s.pending := by
  simp [State.fire]

@[simp] theorem State.accept_pending (s : State) (c : Nat) (src : Src) : (State.accept s c src).pending = s.pending := by
  simp [State.accept]

@[simp] theorem State.answerWait_pending (s : State) (c : Nat) (r : Reply) : (State.answerWait s c r).pending = s.pending := by
  unfold State.answerWait
  exact State.pending_foldl _ _ _ (fun t x => by split <;> simp)

@[simp] theorem State.done_pending (s : State) (c : Nat) (code : Nat) (tag : Nat) (rc : Nat) (detail : Nat) (data : List Byte) : (State.done s c code tag rc detail data).pending = s.pending := by
  simp [State.done]

@[simp] theorem State.reply_pending (s : State) (c : Nat) (rc : Nat) (detail : Nat) (data : List Byte) : (State.reply s c rc detail data).pending = s.pending := by
  unfold State.reply
  try dsimp only
  repeat' split
  all_goals (first | rfl | simp)

@[simp] theorem State.ok_pending (s : State) (c : Nat) : (State.ok s c).pending = s.pending := by
  simp [State.ok]

@[simp] theorem State.ring_pending (s : State) (c : Nat) (src : Src) : (State.ring s c src).pending = s.pending := by
  simp [State.ring]

@[simp] theorem State.bufPut_pending (s : State) (c : Nat) (i : Nat) (w : Nat) : (State.bufPut s c i w).pending = s.pending := by
  simp [State.bufPut]

@[simp] theorem State.notInState_pending (s : State) (c : Nat) (r : Request) : (State.notInState s c r).pending = s.pending := by
  simp [State.notInState]

@[simp] theorem State.result_pending (s : State) (c : Nat) (rc : Nat) (detail : Nat) (data : List Byte) : (State.result s c rc detail data).pending = s.pending := by
  simp [State.result]

@[simp] theorem State.writeParam_pending (s : State) (i : Nat) (w : Nat) : (State.writeParam s i w).pending = s.pending := by
  simp [State.writeParam]

@[simp] theorem State.settingsOpen_pending (s : State) : (State.settingsOpen s).pending = s.pending := by
  simp [State.settingsOpen]

@[simp] theorem State.settingsEnd_pending (s : State) (ok : Bool) : (State.settingsEnd s ok).pending = s.pending := by
  simp [State.settingsEnd]

@[simp] theorem State.plainWrite_pending (s : State) (r : Reg) : (State.plainWrite s r).pending = s.pending := by
  simp [State.plainWrite]

@[simp] theorem State.writePermit_pending (s : State) (w : Nat) : (State.writePermit s w).pending = s.pending := by
  simp [State.writePermit]

@[simp] theorem State.writeEnMask_pending (s : State) (w : Nat) : (State.writeEnMask s w).pending = s.pending := by
  simp [State.writeEnMask]

@[simp] theorem State.writeWin_pending (s : State) (w : Nat) : (State.writeWin s w).pending = s.pending := by
  simp [State.writeWin]

@[simp] theorem State.atTime_pending (s : State) (t : BitVec 32) : (State.atTime s t).pending = s.pending := by
  simp [State.atTime]

@[simp] theorem State.sessReply_pending (s : State) (i : Nat) (x : Tx) (r : Reply) : (State.sessReply s i x r).pending = s.pending := by
  unfold State.sessReply
  try dsimp only
  repeat' split
  all_goals (first | rfl | simp)

@[simp] theorem State.sessStatus_pending (s : State) (i : Nat) (x : Tx) (ty : Nat) (status : Nat) : (State.sessStatus s i x ty status).pending = s.pending := by
  simp [State.sessStatus]

@[simp] theorem State.looseReply_pending (s : State) (x : Tx) (r : Reply) : (State.looseReply s x r).pending = s.pending := by
  simp [State.looseReply]

@[simp] theorem State.sessUsed_pending (s : State) (i : Nat) (x : Tx) : (State.sessUsed s i x).pending = s.pending := by
  simp [State.sessUsed]

@[simp] theorem State.resend_pending (s : State) (i : Nat) (x : Tx) (y : Session) : (State.resend s i x y).pending = s.pending := by
  unfold State.resend
  try dsimp only
  repeat' split
  all_goals (first | rfl | simp)

@[simp] theorem State.openSession_pending (s : State) (x : Tx) (v : Nat) (host : Nat) (mask : Nat) (old : Option Session) : (State.openSession s x v host mask old).pending = s.pending := by
  simp [State.openSession]

@[simp] theorem State.endSession_pending (s : State) (i : Nat) : (State.endSession s i).pending = s.pending := by
  simp [State.endSession]

@[simp] theorem State.sessWait_pending (s : State) (i : Nat) (x : Tx) (c : Nat) : (State.sessWait s i x c).pending = s.pending := by
  simp [State.sessWait]

@[simp] theorem State.attnDrop_pending (s : State) (i : Nat) (y : Session) (m : Attn) : (State.attnDrop s i y m).pending = s.pending := by
  simp [State.attnDrop]

@[simp] theorem State.dispTake_pending (s : State) (p : PortId) (b : List Byte) (now : Nat) : (State.dispTake s p b now).pending = s.pending := by
  unfold State.dispTake
  try dsimp only
  repeat' split
  all_goals (first | rfl | simp)

@[simp] theorem State.inhibited_pending (s : State) (c : Nat) (detail : Nat) : (State.inhibited s c detail).pending = s.pending := by
  simp [State.inhibited]

@[simp] theorem State.toPrecharge_pending (s : State) : (State.toPrecharge s).pending = s.pending := by
  simp [State.toPrecharge]

@[simp] theorem State.openStart_pending (s : State) : (State.openStart s).pending = s.pending := by
  simp [State.openStart]

@[simp] theorem State.leaveIsolated_pending (s : State) : (State.leaveIsolated s).pending = s.pending := by
  simp [State.leaveIsolated]

@[simp] theorem State.switchDomain_pending (s : State) (d : Nat) (on : Bool) : (State.switchDomain s d on).pending = s.pending := by
  simp [State.switchDomain]

@[simp] theorem State.selftestStore_pending (s : State) (r : SelfTest) (run : Nat) : (State.selftestStore s r run).pending = s.pending := by
  simp [State.selftestStore]

@[simp] theorem State.selftestAct_pending (s : State) (r : SelfTest) : (State.selftestAct s r).pending = s.pending := by
  unfold State.selftestAct
  dsimp only
  split <;> simp

@[simp] theorem State.loadShadow_pending (s : State) (k : Nat) (i : SchedImage) : (State.loadShadow s k i).pending = s.pending := by
  simp [State.loadShadow]

@[simp] theorem State.askSwap_pending (s : State) : (State.askSwap s).pending = s.pending := by
  simp [State.askSwap]

@[simp] theorem State.calStart_pending (s : State) : (State.calStart s).pending = s.pending := by
  simp [State.calStart]

@[simp] theorem State.capWrite_pending (s : State) (cap : Nat) (g : Nat) : (State.capWrite s cap g).pending = s.pending := by
  simp [State.capWrite]

@[simp] theorem State.drawKey_pending (s : State) : (State.drawKey s).pending = s.pending := by
  simp [State.drawKey]

@[simp] theorem State.pairPut_pending (s : State) (n : Nat) (serial : Nat) (k : Nat) : (State.pairPut s n serial k).pending = s.pending := by
  simp [State.pairPut]

@[simp] theorem State.pairDrop_pending (s : State) (n : Nat) : (State.pairDrop s n).pending = s.pending := by
  simp [State.pairDrop]

@[simp] theorem State.queueKey_pending (s : State) (n : Nat) : (State.queueKey s n).pending = s.pending := by
  simp [State.queueKey]

@[simp] theorem State.keyChange_pending (s : State) : (State.keyChange s).pending = s.pending := by
  simp [State.keyChange]

@[simp] theorem State.logClear_pending (s : State) (src : Nat) : (State.logClear s src).pending = s.pending := by
  simp [State.logClear]

@[simp] theorem State.loginOk_pending (s : State) (c : Nat) : (State.loginOk s c).pending = s.pending := by
  simp [State.loginOk]

@[simp] theorem State.stage_pending (s : State) (l : List (Nat × Int)) : (State.stage s l).pending = s.pending := by
  simp [State.stage]

@[simp] theorem State.sagAbort_pending (s : State) : (State.sagAbort s).pending = s.pending := by
  simp [State.sagAbort]

@[simp] theorem State.clogAckTo_pending (s : State) (q : Nat) (source : Nat) : (State.clogAckTo s q source).pending = s.pending := by
  simp [State.clogAckTo]

@[simp] theorem State.ownLoad_pending (s : State) : (State.ownLoad s).pending = s.pending := by
  unfold State.ownLoad
  try dsimp only
  repeat' split
  all_goals (first | rfl | simp)

@[simp] theorem State.ownEnd_pending (s : State) (rb : Bool) : (State.ownEnd s rb).pending = s.pending := by
  unfold State.ownEnd
  try dsimp only
  repeat' split
  all_goals (first | rfl | simp)

@[simp] theorem State.capReply_pending (s : State) (c : Nat) (rb : Bool) : (State.capReply s c rb).pending = s.pending := by
  simp [State.capReply]

@[simp] theorem State.settingsReply_pending (s : State) (c : Nat) (rb : Bool) : (State.settingsReply s c rb).pending = s.pending := by
  simp [State.settingsReply]

@[simp] theorem State.sagReply_pending (s : State) (c : Nat) (rb : Bool) : (State.sagReply s c rb).pending = s.pending := by
  simp [State.sagReply]

@[simp] theorem State.swapReply_pending (s : State) (c : Nat) : (State.swapReply s c).pending = s.pending := by
  unfold State.swapReply
  try dsimp only
  repeat' split
  all_goals (first | rfl | simp)

@[simp] theorem State.loadReply_pending (s : State) (c : Nat) (detail : Nat) (data : List Byte) : (State.loadReply s c detail data).pending = s.pending := by
  simp [State.loadReply]

@[simp] theorem State.postEnd_pending (s : State) (c : Nat) (rb : Bool) : (State.postEnd s c rb).pending = s.pending := by
  unfold State.postEnd
  try dsimp only
  repeat' split
  all_goals (first | rfl | simp)

@[simp] theorem State.manifestDone_pending (s : State) : (State.manifestDone s).pending = s.pending := by
  unfold State.manifestDone
  try dsimp only
  repeat' split
  all_goals (first | rfl | simp)

@[simp] theorem State.partDone_pending (s : State) (k : Nat) : (State.partDone s k).pending = s.pending := by
  unfold State.partDone
  try dsimp only
  repeat' split
  all_goals (first | rfl | simp)

@[simp] theorem State.blockPut_pending (s : State) (k : Nat) (n : Nat) (b : List Byte) : (State.blockPut s k n b).pending = s.pending := by
  simp [State.blockPut]

@[simp] theorem State.blockReply_pending (s : State) (i : Nat) (x : Tx) (next : Nat) : (State.blockReply s i x next).pending = s.pending := by
  simp [State.blockReply]

@[simp] theorem State.fwdSend_pending (s : State) (k : Nat) : (State.fwdSend s k).pending = s.pending := by
  unfold State.fwdSend
  try dsimp only
  repeat' split
  all_goals (first | rfl | simp)

@[simp] theorem State.stageUpdate_pending (s : State) (c : Nat) : (State.stageUpdate s c).pending = s.pending := by
  unfold State.stageUpdate
  try dsimp only
  repeat' split
  all_goals (first | rfl | simp)

@[simp] theorem State.mgpGoes_pending (s : State) : (State.mgpGoes s).pending = s.pending := by
  simp [State.mgpGoes]

@[simp] theorem State.heldBusy_pending (s : State) (p : Chan → Bool) : (State.heldBusy s p).pending = s.pending := by
  simp [State.heldBusy]

@[simp] theorem State.mgpBack_pending (s : State) : (State.mgpBack s).pending = s.pending := by
  simp [State.mgpBack]

@[simp] theorem State.rollBack_pending (s : State) : (State.rollBack s).pending = s.pending := by
  simp [State.rollBack]

@[simp] theorem State.staysAway_pending (s : State) : (State.staysAway s).pending = s.pending := by
  simp [State.staysAway]

@[simp] theorem State.loaderBoot_pending (s : State) : (State.loaderBoot s).pending = s.pending := by
  simp [State.loaderBoot]

@[simp] theorem State.formatChange_pending (s : State) (old : Nat) : (State.formatChange s old).pending = s.pending := by
  simp [State.formatChange]

@[simp] theorem State.rangeLeave_pending (s : State) : (State.rangeLeave s).pending = s.pending := by
  simp [State.rangeLeave]

@[simp] theorem State.afterConfirm_pending (s : State) (l : List (Nat × Nat)) : (State.afterConfirm s l).pending = s.pending := by
  unfold State.afterConfirm
  try dsimp only
  repeat' split
  all_goals (first | rfl | simp)

@[simp] theorem State.newReady_pending (s : State) : (State.newReady s).pending = s.pending := by
  simp [State.newReady]

@[simp] theorem State.oldReady_pending (s : State) : (State.oldReady s).pending = s.pending := by
  simp [State.oldReady]

@[simp] theorem State.nodeReply_pending (s : State) (q : NodeCmd) (rc : Nat) (detail : Nat) (data : List Byte) : (State.nodeReply s q rc detail data).pending = s.pending := by
  unfold State.nodeReply
  try dsimp only
  repeat' split
  all_goals (first | rfl | simp)

@[simp] theorem State.leaveDone_pending (s : State) (q : NodeCmd) (result : Nat) : (State.leaveDone s q result).pending = s.pending := by
  unfold State.leaveDone
  try dsimp only
  repeat' split
  all_goals (first | rfl | simp)

@[simp] theorem State.infoGot_pending (s : State) (q : NodeCmd) (info : Nat) : (State.infoGot s q info).pending = s.pending := by
  unfold State.infoGot
  try dsimp only
  repeat' split
  all_goals (first | rfl | simp)

@[simp] theorem State.fwBegun_pending (s : State) (n : Nat) : (State.fwBegun s n).pending = s.pending := by
  simp [State.fwBegun]

@[simp] theorem State.ackCmd_pending (s : State) (q : NodeCmd) (r : Nat) (info : Nat) : (State.ackCmd s q r info).pending = s.pending := by
  unfold State.ackCmd
  try dsimp only
  repeat' split
  all_goals (first | rfl | simp)

@[simp] theorem State.fwStaged_pending (s : State) (u : Nat) (n : Nat) : (State.fwStaged s u n).pending = s.pending := by
  simp [State.fwStaged]

@[simp] theorem State.ackFw_pending (s : State) (u : Nat) (n : Nat) (r : Nat) (info : Nat) : (State.ackFw s u n r info).pending = s.pending := by
  unfold State.ackFw
  try dsimp only
  repeat' split
  all_goals (first | rfl | simp)

theorem State.takeFlight_pending (s : State) (n : Nat) (t_ : NodeCmd × State) (h_ : State.takeFlight s n = some t_) : t_.2.pending = s.pending := by
  revert h_
  unfold State.takeFlight
  try dsimp only
  repeat' split
  all_goals (intro h_; first | (cases h_; done) | (cases h_; rfl) | (cases h_; simp; done) | (simp at h_; done) | (simp at h_; subst h_; simp; done))

@[simp] theorem State.ackKind_pending (s : State) (u : Nat) (k : Nat) (n : Nat) (r : Nat) (info : Nat) : (State.ackKind s u k n r info).pending = s.pending := by
  unfold State.ackKind
  split
  · split <;> (try split) <;> simp
  · split
    · rename_i h; have h2 := State.takeFlight_pending _ _ _ h; simpa using h2
    · rfl
  · simp

@[simp] theorem State.giveUp_pending (s : State) (q : NodeCmd) : (State.giveUp s q).pending = s.pending := by
  unfold State.giveUp
  try dsimp only
  repeat' split
  all_goals (first | rfl | simp)

@[simp] theorem State.spyWrote_pending (s : State) : (State.spyWrote s).pending = s.pending := by
  simp [State.spyWrote]

end Sys2Proof.Machine
end

