-- ==== Sys2Proof/Laws/FramePw.lean ====
section
/-! SUPPORT. The shared operations that leave the password of the saggar unchanged, one lemma an operation. -/

namespace Sys2Proof.Machine

/-- A fold of updates that keep the field keeps it. -/
@[simp] theorem State.sag_pw_foldl {β : Type} (f : State → β → State) (l : List β) (s : State) (h : ∀ t x, (f t x).sag.pw = t.sag.pw) :
    (l.foldl f s).sag.pw = s.sag.pw := by
  induction l generalizing s with
  | nil => rfl
  | cons x l ih => rw [List.foldl_cons, ih, h]

/-- The field of a choice of states. -/
@[simp] theorem State.sag_pw_ite (c : Prop) [Decidable c] (a b : State) : (if c then a else b).sag.pw = if c then a.sag.pw else b.sag.pw := by
  split <;> rfl

/-- A fold of updates beside a value. -/
@[simp] theorem State.sag_pw_foldlp {α β : Type} (f : State × α → β → State × α) (l : List β) (p : State × α)
    (h : ∀ t x, (f t x).1.sag.pw = t.1.sag.pw) : (l.foldl f p).1.sag.pw = p.1.sag.pw := by
  induction l generalizing p with
  | nil => rfl
  | cons x l ih => rw [List.foldl_cons, ih, h]

/-- The field of a choice of states beside a value. -/
@[simp] theorem State.sag_pw_itep {α : Type} (c : Prop) [Decidable c] (a b : State × α) :
    (if c then a else b).1.sag.pw = if c then a.1.sag.pw else b.1.sag.pw := by
  split <;> rfl

/-- The field of a choice of saggars. -/
@[simp] theorem State.sag_pw_sub (c : Prop) [Decidable c] (a b : Sag) : (if c then a else b).pw = if c then a.pw else b.pw := by
  split <;> rfl

@[simp] theorem State.coilService1_sag_pw (s : State) (k : Nat) : (State.coilService1 s k).sag.pw = s.sag.pw := by
  unfold State.coilService1
  try dsimp only
  repeat' split
  all_goals (first | rfl | simp)

@[simp] theorem State.coilService_sag_pw (s : State) : (State.coilService s).sag.pw = s.sag.pw := by
  simp [State.coilService]

@[simp] theorem State.degStart_sag_pw (s : State) : (State.degStart s).sag.pw = s.sag.pw := by
  simp [State.degStart]

@[simp] theorem State.sendStatus_sag_pw (s : State) : (State.sendStatus s).sag.pw = s.sag.pw := by
  simp [State.sendStatus]

@[simp] theorem State.dropOutputs_sag_pw (s : State) : (State.dropOutputs s).sag.pw = s.sag.pw := by
  simp [State.dropOutputs]

@[simp] theorem State.degPhase_sag_pw (s : State) : (State.degPhase s).sag.pw = s.sag.pw := by
  simp [State.degPhase]

@[simp] theorem State.phaseFault_sag_pw (s : State) (p : Nat) (c : Nat) : (State.phaseFault s p c).sag.pw = s.sag.pw := by
  simp [State.phaseFault]

@[simp] theorem State.harnessFault_sag_pw (s : State) (h : Nat) (c : Nat) : (State.harnessFault s h c).sag.pw = s.sag.pw := by
  simp [State.harnessFault]

@[simp] theorem State.abandonTrk_sag_pw (s : State) (kind : Nat) (sev : Nat) : (State.abandonTrk s kind sev).sag.pw = s.sag.pw := by
  simp [State.abandonTrk]

@[simp] theorem State.dropCo3_sag_pw (s : State) : (State.dropCo3 s).sag.pw = s.sag.pw := by
  simp [State.dropCo3]

@[simp] theorem State.outerEval_sag_pw (s : State) (now : Nat) (dtNs : Nat) : (State.outerEval s now dtNs).sag.pw = s.sag.pw := by
  unfold State.outerEval
  try dsimp only
  repeat' split
  all_goals (first | rfl | simp)

@[simp] theorem State.missDeadline_sag_pw (s : State) (now : Nat) : (State.missDeadline s now).sag.pw = s.sag.pw := by
  simp [State.missDeadline]

@[simp] theorem State.observe_sag_pw (s : State) (p : Nat) (m : EvalIn) (ma : Int) : (State.observe s p m ma).sag.pw = s.sag.pw := by
  simp [State.observe]

@[simp] theorem State.unlessPilot_sag_pw (s t : State) (h : t.sag.pw = s.sag.pw) : (s.unlessPilot t).sag.pw = s.sag.pw := by
  unfold State.unlessPilot
  split <;> simp [h]

@[simp] theorem State.linkFrameStart_sag_pw (s : State) : (State.linkFrameStart s).sag.pw = s.sag.pw := by
  simp [State.linkFrameStart]

@[simp] theorem State.writeStale_sag_pw (s : State) (n : Nat) (own : Nat) (rep : Option Nat) : (State.writeStale s n own rep).sag.pw = s.sag.pw := by
  simp [State.writeStale]

@[simp] theorem State.degWire_sag_pw (s : State) : (State.degWire s).sag.pw = s.sag.pw := by
  simp [State.degWire]

@[simp] theorem State.openWire_sag_pw (s : State) (n : Nat) (k : Nat) (tval : Int) : (State.openWire s n k tval).sag.pw = s.sag.pw := by
  simp [State.openWire]

@[simp] theorem State.testResult_sag_pw (s : State) (n : Nat) (r : Report) : (State.testResult s n r).sag.pw = s.sag.pw := by
  simp [State.testResult]

@[simp] theorem State.sagSweep_sag_pw (s : State) (n : Nat) (r : Report) : (State.sagSweep s n r).sag.pw = s.sag.pw := by
  simp [State.sagSweep]

@[simp] theorem State.writeValid_sag_pw (s : State) (n : Nat) (r : Report) : (State.writeValid s n r).sag.pw = s.sag.pw := by
  simp [State.writeValid]

@[simp] theorem State.sweep_sag_pw (s : State) (u : Nat) (n : Nat) (rxLt : Nat) (p : List Byte) : (State.sweep s u n rxLt p).sag.pw = s.sag.pw := by
  simp [State.sweep]

@[simp] theorem State.nodeEnd_sag_pw (s : State) (n : Nat) : (State.nodeEnd s n).sag.pw = s.sag.pw := by
  simp [State.nodeEnd]

@[simp] theorem State.stringSum_sag_pw (s : State) : (State.stringSum s).sag.pw = s.sag.pw := by
  simp [State.stringSum]

@[simp] theorem State.degLost_sag_pw (s : State) : (State.degLost s).sag.pw = s.sag.pw := by
  simp [State.degLost]

@[simp] theorem State.measureEnd_sag_pw (s : State) : (State.measureEnd s).sag.pw = s.sag.pw := by
  simp [State.measureEnd]

@[simp] theorem State.degThermal_sag_pw (s : State) : (State.degThermal s).sag.pw = s.sag.pw := by
  simp [State.degThermal]

@[simp] theorem State.thmTick_sag_pw (s : State) : (State.thmTick s).sag.pw = s.sag.pw := by
  simp [State.thmTick]

@[simp] theorem State.frameEndWork_sag_pw (s : State) : (State.frameEndWork s).sag.pw = s.sag.pw := by
  simp [State.frameEndWork]

@[simp] theorem State.alignStat_sag_pw (s : State) : (State.alignStat s).sag.pw = s.sag.pw := by
  simp [State.alignStat]

@[simp] theorem State.stepTime_sag_pw (s : State) : (State.stepTime s).sag.pw = s.sag.pw := by
  unfold State.stepTime
  try dsimp only
  repeat' split
  all_goals (first | rfl | simp)

@[simp] theorem State.ceFrameStart_sag_pw (s : State) : (State.ceFrameStart s).sag.pw = s.sag.pw := by
  simp [State.ceFrameStart]

@[simp] theorem State.frameStart_sag_pw (s : State) : (State.frameStart s).sag.pw = s.sag.pw := by
  simp [State.frameStart]

@[simp] theorem State.loadBoot_sag_pw (s : State) : (State.loadBoot s).sag.pw = s.sag.pw := by
  simp [State.loadBoot]

@[simp] theorem State.startFsq_sag_pw (s : State) : (State.startFsq s).sag.pw = s.sag.pw := by
  simp [State.startFsq]

@[simp] theorem State.bootReselect_sag_pw (s : State) : (State.bootReselect s).sag.pw = s.sag.pw := by
  simp [State.bootReselect]

@[simp] theorem State.diag_sag_pw (s : State) (k : Nat) (bad : Bool) : (State.diag s k bad).sag.pw = s.sag.pw := by
  simp [State.diag]

@[simp] theorem State.slotSkip_sag_pw (s : State) (sw : Nat) : (State.slotSkip s sw).sag.pw = s.sag.pw := by
  simp [State.slotSkip]

@[simp] theorem State.degSession_sag_pw (s : State) : (State.degSession s).sag.pw = s.sag.pw := by
  simp [State.degSession]

@[simp] theorem State.degNet_sag_pw (s : State) : (State.degNet s).sag.pw = s.sag.pw := by
  simp [State.degNet]

@[simp] theorem State.pduMiss_sag_pw (s : State) : (State.pduMiss s).sag.pw = s.sag.pw := by
  simp [State.pduMiss]

@[simp] theorem State.pduHeard_sag_pw (s : State) (p : PortId) (h : Net) : (State.pduHeard s p h).sag.pw = s.sag.pw := by
  simp [State.pduHeard]

@[simp] theorem State.latchClear_sag_pw (s : State) : (State.latchClear s).sag.pw = s.sag.pw := by
  simp [State.latchClear]

@[simp] theorem State.clogAdd_sag_pw (s : State) (kind : Nat) (source : Nat) (index : Nat) (old : Int) (new : Int) : (State.clogAdd s kind source index old new).sag.pw = s.sag.pw := by
  simp [State.clogAdd]

@[simp] theorem State.cfgCommit_sag_pw (s : State) (source : Nat) : (State.cfgCommit s source).sag.pw = s.sag.pw := by
  simp [State.cfgCommit]

@[simp] theorem State.cfgOpen_sag_pw (s : State) (source : Nat) : (State.cfgOpen s source).sag.pw = s.sag.pw := by
  simp [State.cfgOpen]

@[simp] theorem State.cfgEnd_sag_pw (s : State) : (State.cfgEnd s).sag.pw = s.sag.pw := by
  unfold State.cfgEnd
  try dsimp only
  repeat' split
  all_goals (first | rfl | simp)

@[simp] theorem State.cfgFail_sag_pw (s : State) : (State.cfgFail s).sag.pw = s.sag.pw := by
  simp [State.cfgFail]

@[simp] theorem State.loginFails_sag_pw (s : State) (src : Nat) : (State.loginFails s src).sag.pw = s.sag.pw := by
  simp [State.loginFails]

@[simp] theorem State.readStraps_sag_pw (s : State) : (State.readStraps s).sag.pw = s.sag.pw := by
  simp [State.readStraps]

@[simp] theorem State.allReady_sag_pw (s : State) : (State.allReady s).sag.pw = s.sag.pw := by
  simp [State.allReady]

@[simp] theorem State.testResults_sag_pw (s : State) (r : SelfTest) : (State.testResults s r).sag.pw = s.sag.pw := by
  unfold State.testResults
  try dsimp only
  repeat' split
  all_goals (first | rfl | simp)

@[simp] theorem State.boRamp_sag_pw (s : State) : (State.boRamp s).sag.pw = s.sag.pw := by
  simp [State.boRamp]

@[simp] theorem State.heartbeat_sag_pw (s : State) (h : Partner) (higher : Bool) : (State.heartbeat s h higher).sag.pw = s.sag.pw := by
  simp [State.heartbeat]

@[simp] theorem State.swapFailed_sag_pw (s : State) : (State.swapFailed s).sag.pw = s.sag.pw := by
  simp [State.swapFailed]

@[simp] theorem State.fromCopy_sag_pw (s : State) (m : Mirror) : (State.fromCopy s m).sag.pw = s.sag.pw := by
  simp [State.fromCopy]

@[simp] theorem State.wantFor_sag_pw (s : State) (st : OpState) (disp : Bool) : (State.wantFor s st disp).sag.pw = s.sag.pw := by
  simp [State.wantFor]

@[simp] theorem State.takeOver_sag_pw (s : State) (m : Mirror) (kind : Nat) (gap : Nat) : (State.takeOver s m kind gap).sag.pw = s.sag.pw := by
  simp [State.takeOver]

@[simp] theorem State.passOwner_sag_pw (s : State) (now : Nat) (gap : Nat) : (State.passOwner s now gap).sag.pw = s.sag.pw := by
  unfold State.passOwner
  dsimp only
  split
  · simp
  · split <;> simp

@[simp] theorem State.dueOwner_sag_pw (s : State) (now : Nat) : (State.dueOwner s now).sag.pw = s.sag.pw := by
  unfold State.dueOwner
  try dsimp only
  repeat' split
  all_goals (first | rfl | simp)

@[simp] theorem State.settingDone_sag_pw (s : State) (i : Nat) (v : Int) (old : Int) : (State.settingDone s i v old).sag.pw = s.sag.pw := by
  simp [State.settingDone]

@[simp] theorem State.putSetting_sag_pw (s : State) (i : Nat) (v : Int) : (State.putSetting s i v).sag.pw = s.sag.pw := by
  unfold State.putSetting
  try dsimp only
  repeat' split
  all_goals (first | rfl | simp)

@[simp] theorem State.toDefault_sag_pw (s : State) (i : Nat) : (State.toDefault s i).sag.pw = s.sag.pw := by
  unfold State.toDefault
  try dsimp only
  repeat' split
  all_goals (first | rfl | simp)

@[simp] theorem State.settingsDefault_sag_pw (s : State) : (State.settingsDefault s).sag.pw = s.sag.pw := by
  simp [State.settingsDefault]

@[simp] theorem State.toNewFormat_sag_pw (s : State) (i : Nat) : (State.toNewFormat s i).sag.pw = s.sag.pw := by
  simp [State.toNewFormat]

@[simp] theorem State.loadNewFormat_sag_pw (s : State) : (State.loadNewFormat s).sag.pw = s.sag.pw := by
  simp [State.loadNewFormat]

@[simp] theorem State.formatStep_sag_pw (s : State) : (State.formatStep s).sag.pw = s.sag.pw := by
  simp [State.formatStep]

@[simp] theorem State.loginState_sag_pw (s : State) : (State.loginState s).sag.pw = s.sag.pw := by
  simp [State.loginState]

@[simp] theorem State.toIsolated_sag_pw (s : State) : (State.toIsolated s).sag.pw = s.sag.pw := by
  simp [State.toIsolated]

@[simp] theorem State.toStandby_sag_pw (s : State) : (State.toStandby s).sag.pw = s.sag.pw := by
  simp [State.toStandby]

@[simp] theorem State.toDegraded_sag_pw (s : State) : (State.toDegraded s).sag.pw = s.sag.pw := by
  simp [State.toDegraded]

@[simp] theorem State.fromDegraded_sag_pw (s : State) : (State.fromDegraded s).sag.pw = s.sag.pw := by
  simp [State.fromDegraded]

theorem State.row_sag_pw (s : State) (e : Ev) (t_ : State) (h_ : State.row s e = some t_) : t_.sag.pw = s.sag.pw := by
  revert h_
  unfold State.row
  try dsimp only
  repeat' split
  all_goals (intro h_; first | (cases h_; done) | (cases h_; rfl) | (cases h_; simp; done) | (simp at h_; done) | (simp at h_; subst h_; simp; done))

@[simp] theorem State.takeClass_sag_pw (s : State) (c : Nat) (p0 : List Ev) : (s.takeClass c p0).1.sag.pw = s.sag.pw := by
  induction p0 generalizing s with
  | nil => rfl
  | cons e l ih =>
    simp only [State.takeClass]
    split
    · exact ih s
    · split
      · rename_i h
        exact State.row_sag_pw _ _ _ h
      · exact (ih _).trans (by simp)

@[simp] theorem State.runClass_sag_pw (s : State) (c : Nat) : (State.runClass s c).sag.pw = s.sag.pw := by
  simp [State.runClass]

@[simp] theorem State.runDegraded_sag_pw (s : State) : (State.runDegraded s).sag.pw = s.sag.pw := by
  simp [State.runDegraded]

@[simp] theorem State.stateMachine_sag_pw (s : State) : (State.stateMachine s).sag.pw = s.sag.pw := by
  simp [State.stateMachine]

@[simp] theorem State.spyEnd_sag_pw (s : State) : (State.spyEnd s).sag.pw = s.sag.pw := by
  simp [State.spyEnd]

@[simp] theorem State.tvCorrect_sag_pw (s : State) : (State.tvCorrect s).sag.pw = s.sag.pw := by
  simp [State.tvCorrect]

@[simp] theorem State.mirrorCorrect_sag_pw (s : State) : (State.mirrorCorrect s).sag.pw = s.sag.pw := by
  simp [State.mirrorCorrect]

@[simp] theorem State.tickPins_sag_pw (s : State) (m : TickIn) : (State.tickPins s m).sag.pw = s.sag.pw := by
  simp [State.tickPins]

@[simp] theorem State.degLevels_sag_pw (s : State) : (State.degLevels s).sag.pw = s.sag.pw := by
  simp [State.degLevels]

@[simp] theorem State.degTick_sag_pw (s : State) : (State.degTick s).sag.pw = s.sag.pw := by
  simp [State.degTick]

@[simp] theorem State.strapTick_sag_pw (s : State) : (State.strapTick s).sag.pw = s.sag.pw := by
  simp [State.strapTick]

@[simp] theorem State.slotZero_sag_pw (s : State) : (State.slotZero s).sag.pw = s.sag.pw := by
  simp [State.slotZero]

@[simp] theorem State.writeParam_sag_pw (s : State) (i : Nat) (w : Nat) : (State.writeParam s i w).sag.pw = s.sag.pw := by
  simp [State.writeParam]

@[simp] theorem State.writePermit_sag_pw (s : State) (w : Nat) : (State.writePermit s w).sag.pw = s.sag.pw := by
  simp [State.writePermit]

@[simp] theorem State.writeEnMask_sag_pw (s : State) (w : Nat) : (State.writeEnMask s w).sag.pw = s.sag.pw := by
  simp [State.writeEnMask]

@[simp] theorem State.toPrecharge_sag_pw (s : State) : (State.toPrecharge s).sag.pw = s.sag.pw := by
  simp [State.toPrecharge]

@[simp] theorem State.openStart_sag_pw (s : State) : (State.openStart s).sag.pw = s.sag.pw := by
  simp [State.openStart]

@[simp] theorem State.leaveIsolated_sag_pw (s : State) : (State.leaveIsolated s).sag.pw = s.sag.pw := by
  simp [State.leaveIsolated]

@[simp] theorem State.switchDomain_sag_pw (s : State) (d : Nat) (on : Bool) : (State.switchDomain s d on).sag.pw = s.sag.pw := by
  simp [State.switchDomain]

@[simp] theorem State.loginOk_sag_pw (s : State) (c : Nat) : (State.loginOk s c).sag.pw = s.sag.pw := by
  simp [State.loginOk]

@[simp] theorem State.stage_sag_pw (s : State) (l : List (Nat × Int)) : (State.stage s l).sag.pw = s.sag.pw := by
  simp [State.stage]

@[simp] theorem State.sagAbort_sag_pw (s : State) : (State.sagAbort s).sag.pw = s.sag.pw := by
  simp [State.sagAbort]

@[simp] theorem State.clogAckTo_sag_pw (s : State) (q : Nat) (source : Nat) : (State.clogAckTo s q source).sag.pw = s.sag.pw := by
  simp [State.clogAckTo]

@[simp] theorem State.sagReply_sag_pw (s : State) (c : Nat) (rb : Bool) : (State.sagReply s c rb).sag.pw = s.sag.pw := by
  simp [State.sagReply]

@[simp] theorem State.postEnd_sag_pw (s : State) (c : Nat) (rb : Bool) : (State.postEnd s c rb).sag.pw = s.sag.pw := by
  unfold State.postEnd
  try dsimp only
  repeat' split
  all_goals (first | rfl | simp)

@[simp] theorem State.mgpGoes_sag_pw (s : State) : (State.mgpGoes s).sag.pw = s.sag.pw := by
  simp [State.mgpGoes]

@[simp] theorem State.mgpBack_sag_pw (s : State) : (State.mgpBack s).sag.pw = s.sag.pw := by
  simp [State.mgpBack]

@[simp] theorem State.formatChange_sag_pw (s : State) (old : Nat) : (State.formatChange s old).sag.pw = s.sag.pw := by
  simp [State.formatChange]

@[simp] theorem State.oldReady_sag_pw (s : State) : (State.oldReady s).sag.pw = s.sag.pw := by
  simp [State.oldReady]

theorem State.takeFlight_sag_pw (s : State) (n : Nat) (t_ : NodeCmd × State) (h_ : State.takeFlight s n = some t_) : t_.2.sag.pw = s.sag.pw := by
  revert h_
  unfold State.takeFlight
  try dsimp only
  repeat' split
  all_goals (intro h_; first | (cases h_; done) | (cases h_; rfl) | (cases h_; simp; done) | (simp at h_; done) | (simp at h_; subst h_; simp; done))

end Sys2Proof.Machine
end

