-- ==== Sys2Proof/Laws/FrameState.lean ====
section
/-! SUPPORT. The shared operations that leave the state of the module unchanged, one lemma an operation. -/

namespace Sys2Proof.Machine

/-- A fold of updates that keep the field keeps it. -/
@[simp] theorem State.sys_st_foldl {β : Type} (f : State → β → State) (l : List β) (s : State) (h : ∀ t x, (f t x).sys.st = t.sys.st) :
    (l.foldl f s).sys.st = s.sys.st := by
  induction l generalizing s with
  | nil => rfl
  | cons x l ih => rw [List.foldl_cons, ih, h]

/-- The field of a choice of states. -/
@[simp] theorem State.sys_st_ite (c : Prop) [Decidable c] (a b : State) : (if c then a else b).sys.st = if c then a.sys.st else b.sys.st := by
  split <;> rfl

/-- A fold of updates beside a value. -/
@[simp] theorem State.sys_st_foldlp {α β : Type} (f : State × α → β → State × α) (l : List β) (p : State × α)
    (h : ∀ t x, (f t x).1.sys.st = t.1.sys.st) : (l.foldl f p).1.sys.st = p.1.sys.st := by
  induction l generalizing p with
  | nil => rfl
  | cons x l ih => rw [List.foldl_cons, ih, h]

/-- The field of a choice of states beside a value. -/
@[simp] theorem State.sys_st_itep {α : Type} (c : Prop) [Decidable c] (a b : State × α) :
    (if c then a else b).1.sys.st = if c then a.1.sys.st else b.1.sys.st := by
  split <;> rfl

@[simp] theorem State.logPost_sys_st (s : State) (src : Nat) (code : Nat) (sev : Nat) (data : List Nat) : (State.logPost s src code sev data).sys.st = s.sys.st := by
  simp [State.logPost]

@[simp] theorem State.sendFrom_sys_st (s : State) (p : PortId) (addr : Nat) (udp : Nat) (b : List Byte) : (State.sendFrom s p addr udp b).sys.st = s.sys.st := by
  simp [State.sendFrom]

@[simp] theorem State.sendAttn_sys_st (s : State) (x : Session) (m : Attn) (p : PortId) (again : Bool) : (State.sendAttn s x m p again).sys.st = s.sys.st := by
  simp [State.sendAttn]

@[simp] theorem State.lostNote_sys_st (s : State) (i : Nat) : (State.lostNote s i).sys.st = s.sys.st := by
  unfold State.lostNote
  try dsimp only
  repeat' split
  all_goals (first | rfl | simp)

@[simp] theorem State.attnTo_sys_st (s : State) (m : Attn) (i : Nat) : (State.attnTo s m i).sys.st = s.sys.st := by
  unfold State.attnTo
  try dsimp only
  repeat' split
  all_goals (first | rfl | simp)

@[simp] theorem State.attn_sys_st (s : State) (code : Nat) (sev : Nat) (data : List Nat) : (State.attn s code sev data).sys.st = s.sys.st := by
  simp [State.attn]

@[simp] theorem State.announce_sys_st (s : State) : (State.announce s).sys.st = s.sys.st := by
  simp [State.announce]

@[simp] theorem State.clearSetpoints_sys_st (s : State) : (State.clearSetpoints s).sys.st = s.sys.st := by
  simp [State.clearSetpoints]

@[simp] theorem State.syncMode_sys_st (s : State) : (State.syncMode s).sys.st = s.sys.st := by
  simp [State.syncMode]

@[simp] theorem State.leaveSetpoints_sys_st (s : State) : (State.leaveSetpoints s).sys.st = s.sys.st := by
  simp [State.leaveSetpoints]

@[simp] theorem State.outputsRest_sys_st (s : State) : (State.outputsRest s).sys.st = s.sys.st := by
  unfold State.outputsRest
  try dsimp only
  repeat' split
  all_goals (first | rfl | simp)

@[simp] theorem State.coilService1_sys_st (s : State) (k : Nat) : (State.coilService1 s k).sys.st = s.sys.st := by
  simp [State.coilService1]

@[simp] theorem State.coilService_sys_st (s : State) : (State.coilService s).sys.st = s.sys.st := by
  simp [State.coilService]

@[simp] theorem State.degStart_sys_st (s : State) : (State.degStart s).sys.st = s.sys.st := by
  simp [State.degStart]

@[simp] theorem State.pairSend_sys_st (s : State) (kind : Nat) (body : List Byte) : (State.pairSend s kind body).sys.st = s.sys.st := by
  simp [State.pairSend]

@[simp] theorem State.swapSend_sys_st (s : State) (sub : Nat) (b : Nat) : (State.swapSend s sub b).sys.st = s.sys.st := by
  simp [State.swapSend]

@[simp] theorem State.sendStatus_sys_st (s : State) : (State.sendStatus s).sys.st = s.sys.st := by
  simp [State.sendStatus]

@[simp] theorem State.dropOutputs_sys_st (s : State) : (State.dropOutputs s).sys.st = s.sys.st := by
  simp [State.dropOutputs]

@[simp] theorem State.swapAbandon_sys_st (s : State) : (State.swapAbandon s).sys.st = s.sys.st := by
  unfold State.swapAbandon
  try dsimp only
  repeat' split
  all_goals (first | rfl | simp)

@[simp] theorem State.isolate_sys_st (s : State) (c : Nat) : (State.isolate s c).sys.st = s.sys.st := by
  simp [State.isolate]

@[simp] theorem State.isoCatchUp_sys_st (s : State) : (State.isoCatchUp s).sys.st = s.sys.st := by
  unfold State.isoCatchUp
  try dsimp only
  repeat' split
  all_goals (first | rfl | simp)

@[simp] theorem State.lostCatchUp_sys_st (s : State) : (State.lostCatchUp s).sys.st = s.sys.st := by
  simp [State.lostCatchUp]

@[simp] theorem State.degPhase_sys_st (s : State) : (State.degPhase s).sys.st = s.sys.st := by
  simp [State.degPhase]

@[simp] theorem State.phaseFault_sys_st (s : State) (p : Nat) (c : Nat) : (State.phaseFault s p c).sys.st = s.sys.st := by
  simp [State.phaseFault]

@[simp] theorem State.requestSwap_sys_st (s : State) : (State.requestSwap s).sys.st = s.sys.st := by
  simp [State.requestSwap]

@[simp] theorem State.autoSwap_sys_st (s : State) : (State.autoSwap s).sys.st = s.sys.st := by
  simp [State.autoSwap]

@[simp] theorem State.addPhases_sys_st (s : State) (req : Nat) : (State.addPhases s req).sys.st = s.sys.st := by
  simp [State.addPhases]

@[simp] theorem State.loadStep_sys_st (s : State) : (State.loadStep s).sys.st = s.sys.st := by
  simp [State.loadStep]

@[simp] theorem State.startOrdered_sys_st (s : State) : (State.startOrdered s).sys.st = s.sys.st := by
  simp [State.startOrdered]

@[simp] theorem State.startShed_sys_st (s : State) (p : Nat) : (State.startShed s p).sys.st = s.sys.st := by
  simp [State.startShed]

@[simp] theorem State.shedDisabled_sys_st (s : State) : (State.shedDisabled s).sys.st = s.sys.st := by
  simp [State.shedDisabled]

@[simp] theorem State.decidePhases_sys_st (s : State) : (State.decidePhases s).sys.st = s.sys.st := by
  unfold State.decidePhases
  try dsimp only
  repeat' split
  all_goals (first | rfl | simp)

@[simp] theorem State.retarget_sys_st (s : State) : (State.retarget s).sys.st = s.sys.st := by
  simp [State.retarget]

@[simp] theorem State.burstStart_sys_st (s : State) : (State.burstStart s).sys.st = s.sys.st := by
  simp [State.burstStart]

@[simp] theorem State.burstStep_sys_st (s : State) : (State.burstStep s).sys.st = s.sys.st := by
  simp [State.burstStep]

@[simp] theorem State.loopBurst_sys_st (s : State) : (State.loopBurst s).sys.st = s.sys.st := by
  simp [State.loopBurst]

@[simp] theorem State.boundaryCounts_sys_st (s : State) : (State.boundaryCounts s).sys.st = s.sys.st := by
  simp [State.boundaryCounts]

@[simp] theorem State.boundaryPhases_sys_st (s : State) : (State.boundaryPhases s).sys.st = s.sys.st := by
  simp [State.boundaryPhases]

@[simp] theorem State.refBoundary_sys_st (s : State) : (State.refBoundary s).sys.st = s.sys.st := by
  simp [State.refBoundary]

@[simp] theorem State.harnessFault_sys_st (s : State) (h : Nat) (c : Nat) : (State.harnessFault s h c).sys.st = s.sys.st := by
  simp [State.harnessFault]

@[simp] theorem State.abandonTrk_sys_st (s : State) (kind : Nat) (sev : Nat) : (State.abandonTrk s kind sev).sys.st = s.sys.st := by
  simp [State.abandonTrk]

@[simp] theorem State.trackStart_sys_st (s : State) : (State.trackStart s).sys.st = s.sys.st := by
  simp [State.trackStart]

@[simp] theorem State.stopStart_sys_st (s : State) (rate : Option Nat) : (State.stopStart s rate).sys.st = s.sys.st := by
  simp [State.stopStart]

@[simp] theorem State.dropCo3_sys_st (s : State) : (State.dropCo3 s).sys.st = s.sys.st := by
  simp [State.dropCo3]

@[simp] theorem State.applyOuter_sys_st (s : State) : (State.applyOuter s).sys.st = s.sys.st := by
  simp [State.applyOuter]

@[simp] theorem State.loadAtBoundary_sys_st (s : State) : (State.loadAtBoundary s).sys.st = s.sys.st := by
  simp [State.loadAtBoundary]

@[simp] theorem State.queuePdu_sys_st (s : State) (now : Nat) (apply : Nat) (mode : Nat) (v : Int) : (State.queuePdu s now apply mode v).sys.st = s.sys.st := by
  unfold State.queuePdu
  try dsimp only
  repeat' split
  all_goals (first | rfl | simp)

@[simp] theorem State.regCommand_sys_st (s : State) (m : Nat) (v : Int) : (State.regCommand s m v).sys.st = s.sys.st := by
  simp [State.regCommand]

@[simp] theorem State.takeCmd_sys_st (s0 : State) (c : SetCmd) : (State.takeCmd s0 c).sys.st = s0.sys.st := by
  simp [State.takeCmd]

@[simp] theorem State.intake_sys_st (s : State) (now : Nat) : (State.intake s now).sys.st = s.sys.st := by
  simp [State.intake]

@[simp] theorem State.limits_sys_st (s : State) (dt : Rat) : (State.limits s dt).sys.st = s.sys.st := by
  simp [State.limits]

@[simp] theorem State.probeSuspend_sys_st (s : State) : (State.probeSuspend s).sys.st = s.sys.st := by
  simp [State.probeSuspend]

@[simp] theorem State.applyClamp_sys_st (s : State) (q : Rat) (dtNs : Nat) : (State.applyClamp s q dtNs).1.sys.st = s.sys.st := by
  simp [State.applyClamp]

@[simp] theorem State.holdTones_sys_st (s : State) : (State.holdTones s).sys.st = s.sys.st := by
  simp [State.holdTones]

@[simp] theorem State.outerLoop_sys_st (s : State) (q : Rat) (dtNs : Nat) : (State.outerLoop s q dtNs).sys.st = s.sys.st := by
  simp [State.outerLoop]

@[simp] theorem State.startMode_sys_st (s : State) (m : Nat) : (State.startMode s m).sys.st = s.sys.st := by
  simp [State.startMode]

@[simp] theorem State.modeChange_sys_st (s : State) : (State.modeChange s).sys.st = s.sys.st := by
  simp [State.modeChange]

@[simp] theorem State.droopStep_sys_st (s : State) : (State.droopStep s).sys.st = s.sys.st := by
  simp [State.droopStep]

@[simp] theorem State.droop_sys_st (s : State) : (State.droop s).sys.st = s.sys.st := by
  simp [State.droop]

@[simp] theorem State.trackTick_sys_st (s : State) (dt : Rat) : (State.trackTick s dt).sys.st = s.sys.st := by
  simp [State.trackTick]

@[simp] theorem State.holdTick_sys_st (s0 : State) (dt : Rat) : (State.holdTick s0 dt).sys.st = s0.sys.st := by
  simp [State.holdTick]

@[simp] theorem State.setRef_sys_st (s : State) (q : Rat) (dtNs : Nat) : (State.setRef s q dtNs).sys.st = s.sys.st := by
  simp [State.setRef]

@[simp] theorem State.linkRef_sys_st (s : State) (dtNs : Nat) : (State.linkRef s dtNs).sys.st = s.sys.st := by
  simp [State.linkRef]

@[simp] theorem State.calRampTick_sys_st (s : State) (dtNs : Nat) (dt : Rat) : (State.calRampTick s dtNs dt).sys.st = s.sys.st := by
  simp [State.calRampTick]

@[simp] theorem State.dispatchEval_sys_st (s : State) (now : Nat) (dtNs : Nat) (dt : Rat) : (State.dispatchEval s now dtNs dt).sys.st = s.sys.st := by
  simp [State.dispatchEval]

@[simp] theorem State.stopEval_sys_st (s : State) (now : Nat) (dtNs : Nat) (dt : Rat) : (State.stopEval s now dtNs dt).sys.st = s.sys.st := by
  simp [State.stopEval]

@[simp] theorem State.outerEval_sys_st (s : State) (now : Nat) (dtNs : Nat) : (State.outerEval s now dtNs).sys.st = s.sys.st := by
  unfold State.outerEval
  try dsimp only
  repeat' split
  all_goals (first | rfl | simp)

@[simp] theorem State.missDeadline_sys_st (s : State) (now : Nat) : (State.missDeadline s now).sys.st = s.sys.st := by
  simp [State.missDeadline]

@[simp] theorem State.tonesAt_sys_st (s0 : State) (now : Nat) : (State.tonesAt s0 now).sys.st = s0.sys.st := by
  simp [State.tonesAt]

@[simp] theorem State.isum_sys_st (s : State) : (State.isum s).sys.st = s.sys.st := by
  simp [State.isum]

@[simp] theorem State.innerEval_sys_st (s : State) (p : Nat) (m : EvalIn) : (State.innerEval s p m).sys.st = s.sys.st := by
  simp [State.innerEval]

@[simp] theorem State.rampStep_sys_st (s : State) (p : Nat) (m : EvalIn) : (State.rampStep s p m).sys.st = s.sys.st := by
  simp [State.rampStep]

@[simp] theorem State.brakeStep_sys_st (s : State) (p : Nat) (m : EvalIn) : (State.brakeStep s p m).sys.st = s.sys.st := by
  simp [State.brakeStep]

@[simp] theorem State.deStep_sys_st (s : State) (p : Nat) (m : EvalIn) : (State.deStep s p m).sys.st = s.sys.st := by
  simp [State.deStep]

@[simp] theorem State.issue_sys_st (s : State) (p : Nat) (m : EvalIn) : (State.issue s p m).sys.st = s.sys.st := by
  simp [State.issue]

@[simp] theorem State.observe_sys_st (s : State) (p : Nat) (m : EvalIn) (ma : Int) : (State.observe s p m ma).sys.st = s.sys.st := by
  simp [State.observe]

@[simp] theorem State.updatePoint_sys_st (s : State) (p : Nat) (m : EvalIn) : (State.updatePoint s p m).sys.st = s.sys.st := by
  simp [State.updatePoint]

@[simp] theorem State.heldPoint_sys_st (s0 : State) (p : Nat) (m : EvalIn) : (State.heldPoint s0 p m).sys.st = s0.sys.st := by
  simp [State.heldPoint]

@[simp] theorem State.ceTap_sys_st (s : State) (p : Nat) (m : EvalIn) : (State.ceTap s p m).sys.st = s.sys.st := by
  unfold State.ceTap
  try dsimp only
  repeat' split
  all_goals (first | rfl | simp)

@[simp] theorem State.evalWrites_sys_st (s : State) (p : Nat) (m : EvalIn) : (State.evalWrites s p m).sys.st = s.sys.st := by
  simp [State.evalWrites]

@[simp] theorem State.logSkip_sys_st (s : State) (e : Nat) (w : Nat) (ecc : Bool) : (State.logSkip s e w ecc).sys.st = s.sys.st := by
  simp [State.logSkip]

@[simp] theorem State.announced_sys_st (s : State) (m : EntryIn) : (State.announced s m).sys.st = s.sys.st := by
  simp [State.announced]

@[simp] theorem State.unlessPilot_sys_st (s t : State) (h : t.sys.st = s.sys.st) : (s.unlessPilot t).sys.st = s.sys.st := by
  unfold State.unlessPilot
  split <;> simp [h]

@[simp] theorem State.swapAtEnd_sys_st (s : State) : (State.swapAtEnd s).sys.st = s.sys.st := by
  simp [State.swapAtEnd]

@[simp] theorem State.swapAtStart_sys_st (s : State) : (State.swapAtStart s).sys.st = s.sys.st := by
  simp [State.swapAtStart]

@[simp] theorem State.push_sys_st (s : State) (scope : Nat) : (State.push s scope).sys.st = s.sys.st := by
  simp [State.push]

@[simp] theorem State.markSnapshot_sys_st (s : State) (w : Nat) : (State.markSnapshot s w).sys.st = s.sys.st := by
  simp [State.markSnapshot]

@[simp] theorem State.takePoint_sys_st (s : State) : (State.takePoint s).sys.st = s.sys.st := by
  simp [State.takePoint]

@[simp] theorem State.pointBoundary_sys_st (s : State) (k : Nat) : (State.pointBoundary s k).sys.st = s.sys.st := by
  simp [State.pointBoundary]

@[simp] theorem State.tagTone_sys_st (s : State) (k : Nat) (e : Nat × Nat × Nat) : (State.tagTone s k e).sys.st = s.sys.st := by
  simp [State.tagTone]

@[simp] theorem State.probeLatch_sys_st (s : State) (i : Nat) : (State.probeLatch s i).sys.st = s.sys.st := by
  simp [State.probeLatch]

@[simp] theorem State.tint_sys_st (s : State) (g : Nat) (arg : Int) : (State.tint s g arg).sys.st = s.sys.st := by
  simp [State.tint]

@[simp] theorem State.publish_sys_st (s : State) (k : Nat) (g : Nat) (z : Nat × Int) (nd : Bool) : (State.publish s k g z nd).sys.st = s.sys.st := by
  simp [State.publish]

@[simp] theorem State.takePublish_sys_st (s : State) : (State.takePublish s).sys.st = s.sys.st := by
  simp [State.takePublish]

@[simp] theorem State.closeGroup_sys_st (s : State) (k : Nat) (g : Nat) (nd : Bool) (a : PointAcc) : (State.closeGroup s k g nd a).1.sys.st = s.sys.st := by
  simp [State.closeGroup]

@[simp] theorem State.probeTone_sys_st (s : State) (g : Nat) (k : Nat) : (State.probeTone s g k).sys.st = s.sys.st := by
  unfold State.probeTone
  try dsimp only
  repeat' split
  all_goals (first | rfl | simp)

@[simp] theorem State.probeNode_sys_st (s : State) (n : Nat) : (State.probeNode s n).sys.st = s.sys.st := by
  simp [State.probeNode]

@[simp] theorem State.pointOver_sys_st (s : State) (k : Nat) (a : PointAcc) : (State.pointOver s k a).sys.st = s.sys.st := by
  simp [State.pointOver]

@[simp] theorem State.closeRest_sys_st (s : State) (k : Nat) (nd : Bool) (a : PointAcc) : (State.closeRest s k nd a).sys.st = s.sys.st := by
  simp [State.closeRest]

@[simp] theorem State.probeMissed_sys_st (s : State) (k : Nat) : (State.probeMissed s k).sys.st = s.sys.st := by
  simp [State.probeMissed]

@[simp] theorem State.probeEndTone_sys_st (s : State) (k : Nat) : (State.probeEndTone s k).sys.st = s.sys.st := by
  unfold State.probeEndTone
  simp only []
  split <;> simp

@[simp] theorem State.probeSwapTone_sys_st (s : State) (k : Nat) : (State.probeSwapTone s k).sys.st = s.sys.st := by
  simp [State.probeSwapTone]

@[simp] theorem State.probeEnd_sys_st (s : State) : (State.probeEnd s).sys.st = s.sys.st := by
  simp [State.probeEnd]

@[simp] theorem State.loadTones_sys_st (s : State) : (State.loadTones s).sys.st = s.sys.st := by
  simp [State.loadTones]

@[simp] theorem State.probeRestart_sys_st (s : State) : (State.probeRestart s).sys.st = s.sys.st := by
  unfold State.probeRestart
  exact State.sys_st_foldl _ _ _ (fun t x => by
    dsimp only
    split <;> split <;> simp)

@[simp] theorem State.advanceEpoch_sys_st (s : State) : (State.advanceEpoch s).sys.st = s.sys.st := by
  simp [State.advanceEpoch]

@[simp] theorem State.takeFc_sys_st (s : State) (u : Nat) : (State.takeFc s u).sys.st = s.sys.st := by
  simp [State.takeFc]

@[simp] theorem State.sendEpoch_sys_st (s : State) (u : Nat) (typ : Nat) (ver : Nat) (addr : Nat) (p : List Byte) : (State.sendEpoch s u typ ver addr p).sys.st = s.sys.st := by
  simp [State.sendEpoch]

@[simp] theorem State.applyBank_sys_st (s : State) : (State.applyBank s).sys.st = s.sys.st := by
  simp [State.applyBank]

@[simp] theorem State.takeAlign_sys_st (s : State) : (State.takeAlign s).sys.st = s.sys.st := by
  simp [State.takeAlign]

@[simp] theorem State.freeze_sys_st (s : State) : (State.freeze s).sys.st = s.sys.st := by
  simp [State.freeze]

@[simp] theorem State.sendBeacon_sys_st (s : State) (u : Nat) (txLt : Nat) (startDt : Nat) : (State.sendBeacon s u txLt startDt).sys.st = s.sys.st := by
  simp [State.sendBeacon]

@[simp] theorem State.sendCmd_sys_st (s : State) (u : Nat) (n : Nat) : (State.sendCmd s u n).sys.st = s.sys.st := by
  unfold State.sendCmd
  try dsimp only
  repeat' split
  all_goals (first | rfl | simp)

@[simp] theorem State.rxCount_sys_st (s : State) (u : Nat) (n : Nat) (k : RxFail) : (State.rxCount s u n k).sys.st = s.sys.st := by
  simp [State.rxCount]

@[simp] theorem State.rxAccept_sys_st (s : State) (f : RxFrame) : (State.rxAccept s f).sys.st = s.sys.st := by
  simp [State.rxAccept]

@[simp] theorem State.kackSet_sys_st (s : State) (u : Nat) (addr : Nat) (fc : Nat) : (State.kackSet s u addr fc).sys.st = s.sys.st := by
  simp [State.kackSet]

@[simp] theorem State.joinUnknown_sys_st (s : State) (u : Nat) (serial : Nat) : (State.joinUnknown s u serial).sys.st = s.sys.st := by
  simp [State.joinUnknown]

@[simp] theorem State.queueCmd_sys_st (s : State) (n : Nat) (cmd : Nat) (params : List Nat) (chan : Option Nat) : (State.queueCmd s n cmd params chan).sys.st = s.sys.st := by
  simp [State.queueCmd]

@[simp] theorem State.radioFrameEnd_sys_st (s : State) : (State.radioFrameEnd s).sys.st = s.sys.st := by
  unfold State.radioFrameEnd
  try dsimp only
  repeat' split
  all_goals (first | rfl | simp)

@[simp] theorem State.linkFrameStart_sys_st (s : State) : (State.linkFrameStart s).sys.st = s.sys.st := by
  simp [State.linkFrameStart]

@[simp] theorem State.updEnd_sys_st (s : State) : (State.updEnd s).sys.st = s.sys.st := by
  simp [State.updEnd]

@[simp] theorem State.updDisturbed_sys_st (s : State) : (State.updDisturbed s).sys.st = s.sys.st := by
  simp [State.updDisturbed]

@[simp] theorem State.updFault_sys_st (s : State) (src : Nat) (what : Nat) (item : Nat) : (State.updFault s src what item).sys.st = s.sys.st := by
  simp [State.updFault]

@[simp] theorem State.confirm_sys_st (s : State) : (State.confirm s).sys.st = s.sys.st := by
  unfold State.confirm
  try dsimp only
  repeat' split
  all_goals (first | rfl | simp)

@[simp] theorem State.rollCheck_sys_st (s : State) : (State.rollCheck s).sys.st = s.sys.st := by
  simp [State.rollCheck]

@[simp] theorem State.rollLeave_sys_st (s : State) (n : Nat) : (State.rollLeave s n).sys.st = s.sys.st := by
  simp [State.rollLeave]

@[simp] theorem State.rollSweep_sys_st (s : State) (n : Nat) : (State.rollSweep s n).sys.st = s.sys.st := by
  simp [State.rollSweep]

@[simp] theorem State.queueTiming_sys_st (s : State) (n : Nat) (ns : Nat) : (State.queueTiming s n ns).sys.st = s.sys.st := by
  simp [State.queueTiming]

@[simp] theorem State.queueLimits_sys_st (s : State) (n : Nat) : (State.queueLimits s n).sys.st = s.sys.st := by
  simp [State.queueLimits]

@[simp] theorem State.logUncounted_sys_st (s : State) (qint : Int) : (State.logUncounted s qint).sys.st = s.sys.st := by
  simp [State.logUncounted]

@[simp] theorem State.latch_sys_st (s : State) (w : Nat) (ma : Int) (vStr : Int) (vBus : Int) (dq : Int) : (State.latch s w ma vStr vBus dq).sys.st = s.sys.st := by
  simp [State.latch]

@[simp] theorem State.modNode_sys_st (s : State) (n : Nat) (f : Nat → GroupRec → GroupRec) : (State.modNode s n f).sys.st = s.sys.st := by
  simp [State.modNode]

@[simp] theorem State.writeStale_sys_st (s : State) (n : Nat) (own : Nat) (rep : Option Nat) : (State.writeStale s n own rep).sys.st = s.sys.st := by
  simp [State.writeStale]

@[simp] theorem State.tofTake_sys_st (s : State) (n : Nat) (sample : Rat) : (State.tofTake s n sample).sys.st = s.sys.st := by
  simp [State.tofTake]

@[simp] theorem State.tofSample_sys_st (s : State) (u : Nat) (n : Nat) (r : Report) (rxLt : Nat) : (State.tofSample s u n r rxLt).sys.st = s.sys.st := by
  unfold State.tofSample
  split
  · rfl
  · split
    · rfl
    · dsimp only
      split <;> simp

@[simp] theorem State.degWire_sys_st (s : State) : (State.degWire s).sys.st = s.sys.st := by
  simp [State.degWire]

@[simp] theorem State.openWire_sys_st (s : State) (n : Nat) (k : Nat) (tval : Int) : (State.openWire s n k tval).sys.st = s.sys.st := by
  simp [State.openWire]

@[simp] theorem State.logBst_sys_st (s : State) (n : Nat) (p : Nat) (row : Nat) : (State.logBst s n p row).sys.st = s.sys.st := by
  simp [State.logBst]

@[simp] theorem State.logRow_sys_st (s : State) (n : Nat) (r : Nat) (fresh : Nat) : (State.logRow s n r fresh).sys.st = s.sys.st := by
  simp [State.logRow]

@[simp] theorem State.passDone_sys_st (s : State) (n : Nat) (pass : List (Option Nat)) : (State.passDone s n pass).sys.st = s.sys.st := by
  simp [State.passDone]

@[simp] theorem State.switchTest_sys_st (s : State) (n : Nat) (p : Nat) (v : Nat) (tval : Int) : (State.switchTest s n p v tval).sys.st = s.sys.st := by
  simp [State.switchTest]

@[simp] theorem State.testResult_sys_st (s : State) (n : Nat) (r : Report) : (State.testResult s n r).sys.st = s.sys.st := by
  simp [State.testResult]

@[simp] theorem State.nodeSum_sys_st (s : State) (n : Nat) (r : Report) : (State.nodeSum s n r).sys.st = s.sys.st := by
  simp [State.nodeSum]

@[simp] theorem State.sagSweep_sys_st (s : State) (n : Nat) (r : Report) : (State.sagSweep s n r).sys.st = s.sys.st := by
  simp [State.sagSweep]

@[simp] theorem State.writeValid_sys_st (s : State) (n : Nat) (r : Report) : (State.writeValid s n r).sys.st = s.sys.st := by
  simp [State.writeValid]

@[simp] theorem State.sweep_sys_st (s : State) (u : Nat) (n : Nat) (rxLt : Nat) (p : List Byte) : (State.sweep s u n rxLt p).sys.st = s.sys.st := by
  simp [State.sweep]

@[simp] theorem State.nodeEnd_sys_st (s : State) (n : Nat) : (State.nodeEnd s n).sys.st = s.sys.st := by
  simp [State.nodeEnd]

@[simp] theorem State.stringSum_sys_st (s : State) : (State.stringSum s).sys.st = s.sys.st := by
  simp [State.stringSum]

@[simp] theorem State.logPatterns_sys_st (s : State) (n : Nat) : (State.logPatterns s n).sys.st = s.sys.st := by
  simp [State.logPatterns]

@[simp] theorem State.nodePattern_sys_st (s : State) (full : Bool) (n : Nat) : (State.nodePattern s full n).sys.st = s.sys.st := by
  simp [State.nodePattern]

@[simp] theorem State.stringPattern_sys_st (s : State) : (State.stringPattern s).sys.st = s.sys.st := by
  simp [State.stringPattern]

@[simp] theorem State.patterns_sys_st (s : State) (full : Bool) : (State.patterns s full).sys.st = s.sys.st := by
  simp [State.patterns]

@[simp] theorem State.degLost_sys_st (s : State) : (State.degLost s).sys.st = s.sys.st := by
  simp [State.degLost]

@[simp] theorem State.measureEnd_sys_st (s : State) : (State.measureEnd s).sys.st = s.sys.st := by
  simp [State.measureEnd]

@[simp] theorem State.halfSum_sys_st (s : State) (n : Nat) (k : Nat) : (State.halfSum s n k).sys.st = s.sys.st := by
  simp [State.halfSum]

@[simp] theorem State.voltages_sys_st (s : State) (n : Nat) : (State.voltages s n).sys.st = s.sys.st := by
  simp [State.voltages]

@[simp] theorem State.countRec_sys_st (s : State) (g : Nat) (dq : Int) : (State.countRec s g dq).sys.st = s.sys.st := by
  simp [State.countRec]

@[simp] theorem State.armedCycle_sys_st (s : State) (g : Nat) (dq : Int) : (State.armedCycle s g dq).sys.st = s.sys.st := by
  simp [State.armedCycle]

@[simp] theorem State.fullAnchor_sys_st (s : State) (g : Nat) : (State.fullAnchor s g).sys.st = s.sys.st := by
  simp [State.fullAnchor]

@[simp] theorem State.learn_sys_st (s : State) (g : Nat) : (State.learn s g).sys.st = s.sys.st := by
  simp [State.learn]

@[simp] theorem State.emptyAnchor_sys_st (s : State) (g : Nat) : (State.emptyAnchor s g).sys.st = s.sys.st := by
  simp [State.emptyAnchor]

@[simp] theorem State.ocvAnchor_sys_st (s : State) (g : Nat) : (State.ocvAnchor s g).sys.st = s.sys.st := by
  unfold State.ocvAnchor
  try dsimp only
  repeat' split
  all_goals (first | rfl | simp)

@[simp] theorem State.disagreeCheck_sys_st (s : State) (g : Nat) : (State.disagreeCheck s g).sys.st = s.sys.st := by
  simp [State.disagreeCheck]

@[simp] theorem State.cutoffCheck_sys_st (s : State) (g : Nat) : (State.cutoffCheck s g).sys.st = s.sys.st := by
  simp [State.cutoffCheck]

@[simp] theorem State.qRepUpdate_sys_st (s : State) (g : Nat) : (State.qRepUpdate s g).sys.st = s.sys.st := by
  simp [State.qRepUpdate]

@[simp] theorem State.chargeGroup_sys_st (s : State) (g : Nat) : (State.chargeGroup s g).sys.st = s.sys.st := by
  simp [State.chargeGroup]

@[simp] theorem State.chargeNode_sys_st (s : State) (n : Nat) : (State.chargeNode s n).sys.st = s.sys.st := by
  simp [State.chargeNode]

@[simp] theorem State.coneNode_sys_st (s : State) (n : Nat) : (State.coneNode s n).sys.st = s.sys.st := by
  simp [State.coneNode]

@[simp] theorem State.direction_sys_st (s0 : State) : (State.direction s0).sys.st = s0.sys.st := by
  simp [State.direction]

@[simp] theorem State.balLosses_sys_st (s : State) : (State.balLosses s).sys.st = s.sys.st := by
  simp [State.balLosses]

@[simp] theorem State.stringReports_sys_st (s : State) : (State.stringReports s).sys.st = s.sys.st := by
  simp [State.stringReports]

@[simp] theorem State.estLimits_sys_st (s : State) : (State.estLimits s).sys.st = s.sys.st := by
  simp [State.estLimits]

@[simp] theorem State.crossing_sys_st (s : State) (side : Nat) (level : Nat) (dir : Nat) (crit : Nat) (g : Nat) : (State.crossing s side level dir crit g).sys.st = s.sys.st := by
  simp [State.crossing]

@[simp] theorem State.crossings_sys_st (s : State) (side : Nat) (old : Nat) (new : Nat) : (State.crossings s side old new).sys.st = s.sys.st := by
  simp [State.crossings]

@[simp] theorem State.stringCones_sys_st (s : State) : (State.stringCones s).sys.st = s.sys.st := by
  simp [State.stringCones]

@[simp] theorem State.coneCatchUp_sys_st (s : State) : (State.coneCatchUp s).sys.st = s.sys.st := by
  simp [State.coneCatchUp]

@[simp] theorem State.adoptGroup_sys_st (s : State) (g : Nat) : (State.adoptGroup s g).sys.st = s.sys.st := by
  simp [State.adoptGroup]

@[simp] theorem State.adoptAll_sys_st (s : State) : (State.adoptAll s).sys.st = s.sys.st := by
  simp [State.adoptAll]

@[simp] theorem State.calEnd_sys_st (s : State) : (State.calEnd s).sys.st = s.sys.st := by
  simp [State.calEnd]

@[simp] theorem State.calCheck_sys_st (s : State) : (State.calCheck s).sys.st = s.sys.st := by
  simp [State.calCheck]

@[simp] theorem State.ceString_sys_st (s : State) : (State.ceString s).sys.st = s.sys.st := by
  simp [State.ceString]

@[simp] theorem State.estimateEnd_sys_st (s : State) : (State.estimateEnd s).sys.st = s.sys.st := by
  simp [State.estimateEnd]

@[simp] theorem State.capCommitEnd_sys_st (s : State) (ok : Bool) : (State.capCommitEnd s ok).sys.st = s.sys.st := by
  simp [State.capCommitEnd]

@[simp] theorem State.capCommitStart_sys_st (s : State) : (State.capCommitStart s).sys.st = s.sys.st := by
  simp [State.capCommitStart]

@[simp] theorem State.reportDrops_sys_st (s : State) : (State.reportDrops s).sys.st = s.sys.st := by
  unfold State.reportDrops
  try dsimp only
  repeat' split
  all_goals (first | rfl | simp)

@[simp] theorem State.logWriteOne_sys_st (s : State) : (State.logWriteOne s).sys.st = s.sys.st := by
  unfold State.logWriteOne
  try dsimp only
  repeat' split
  all_goals (first | rfl | simp)

@[simp] theorem State.logDrain_sys_st (s : State) : (State.logDrain s).sys.st = s.sys.st := by
  simp [State.logDrain]

@[simp] theorem State.nvmBad_sys_st (s : State) (a : Nat) : (State.nvmBad s a).sys.st = s.sys.st := by
  simp [State.nvmBad]

@[simp] theorem State.nvmUncorrectable_sys_st (s : State) (a : Nat) : (State.nvmUncorrectable s a).sys.st = s.sys.st := by
  simp [State.nvmUncorrectable]

@[simp] theorem State.pd0Backup_sys_st (s : State) : (State.pd0Backup s).sys.st = s.sys.st := by
  simp [State.pd0Backup]

@[simp] theorem State.thmConvert_sys_st (s : State) : (State.thmConvert s).sys.st = s.sys.st := by
  simp [State.thmConvert]

@[simp] theorem State.thmTake_sys_st (s : State) (src : Nat) (mask : Nat) (x : ThmIn) : (State.thmTake s src mask x).sys.st = s.sys.st := by
  unfold State.thmTake
  try dsimp only
  repeat' split
  all_goals (first | rfl | simp)

@[simp] theorem State.thmModel_sys_st (s : State) (p : Nat) : (State.thmModel s p).sys.st = s.sys.st := by
  simp [State.thmModel]

@[simp] theorem State.thmPhase_sys_st (s : State) (p : Nat) : (State.thmPhase s p).sys.st = s.sys.st := by
  simp [State.thmPhase]

@[simp] theorem State.thmGroup_sys_st (s : State) (g : Nat) : (State.thmGroup s g).sys.st = s.sys.st := by
  simp [State.thmGroup]

@[simp] theorem State.thmFrame_sys_st (s : State) : (State.thmFrame s).sys.st = s.sys.st := by
  simp [State.thmFrame]

@[simp] theorem State.degThermal_sys_st (s : State) : (State.degThermal s).sys.st = s.sys.st := by
  simp [State.degThermal]

@[simp] theorem State.factors_sys_st (s : State) : (State.factors s).sys.st = s.sys.st := by
  simp [State.factors]

@[simp] theorem State.derateMsg_sys_st (s : State) (chg : Bool) (kind : Nat) (limit : Nat) : (State.derateMsg s chg kind limit).sys.st = s.sys.st := by
  simp [State.derateMsg]

@[simp] theorem State.derateLog_sys_st (s : State) (chg : Bool) (kind : Nat) (limit : Nat) : (State.derateLog s chg kind limit).sys.st = s.sys.st := by
  simp [State.derateLog]

@[simp] theorem State.thmCatchUp_sys_st (s : State) : (State.thmCatchUp s).sys.st = s.sys.st := by
  simp [State.thmCatchUp]

@[simp] theorem State.thmHot_sys_st (s : State) : (State.thmHot s).sys.st = s.sys.st := by
  simp [State.thmHot]

@[simp] theorem State.batchNode_sys_st (s : State) (w : Nat) (n : Nat) : (State.batchNode s w n).sys.st = s.sys.st := by
  simp [State.batchNode]

@[simp] theorem State.toneStats_sys_st (s : State) : (State.toneStats s).sys.st = s.sys.st := by
  simp [State.toneStats]

@[simp] theorem State.latchCheck_sys_st (s : State) : (State.latchCheck s).sys.st = s.sys.st := by
  simp [State.latchCheck]

@[simp] theorem State.applyTables_sys_st (s : State) : (State.applyTables s).sys.st = s.sys.st := by
  simp [State.applyTables]

@[simp] theorem State.applyFrameEnd_sys_st (s : State) : (State.applyFrameEnd s).sys.st = s.sys.st := by
  simp [State.applyFrameEnd]

@[simp] theorem State.frameEndWork_sys_st (s : State) : (State.frameEndWork s).sys.st = s.sys.st := by
  simp [State.frameEndWork]

@[simp] theorem State.abandonRest_sys_st (s : State) (now : Nat) : (State.abandonRest s now).sys.st = s.sys.st := by
  simp [State.abandonRest]

@[simp] theorem State.alignStat_sys_st (s : State) : (State.alignStat s).sys.st = s.sys.st := by
  simp [State.alignStat]

@[simp] theorem State.stepTime_sys_st (s : State) : (State.stepTime s).sys.st = s.sys.st := by
  unfold State.stepTime
  try dsimp only
  repeat' split
  all_goals (first | rfl | simp)

@[simp] theorem State.adoptPeriod_sys_st (s : State) : (State.adoptPeriod s).sys.st = s.sys.st := by
  unfold State.adoptPeriod
  try dsimp only
  repeat' split
  all_goals (first | rfl | simp)

@[simp] theorem State.ceFrameStart_sys_st (s : State) : (State.ceFrameStart s).sys.st = s.sys.st := by
  simp [State.ceFrameStart]

@[simp] theorem State.bankChange_sys_st (s : State) : (State.bankChange s).sys.st = s.sys.st := by
  simp [State.bankChange]

@[simp] theorem State.followBank_sys_st (s : State) : (State.followBank s).sys.st = s.sys.st := by
  unfold State.followBank
  try dsimp only
  repeat' split
  all_goals (first | rfl | simp)

@[simp] theorem State.frameStart_sys_st (s : State) : (State.frameStart s).sys.st = s.sys.st := by
  simp [State.frameStart]

@[simp] theorem State.rejectImages_sys_st (s : State) : (State.rejectImages s).sys.st = s.sys.st := by
  simp [State.rejectImages]

@[simp] theorem State.loadBoot_sys_st (s : State) : (State.loadBoot s).sys.st = s.sys.st := by
  simp [State.loadBoot]

@[simp] theorem State.startFsq_sys_st (s : State) : (State.startFsq s).sys.st = s.sys.st := by
  simp [State.startFsq]

@[simp] theorem State.bootReselect_sys_st (s : State) : (State.bootReselect s).sys.st = s.sys.st := by
  simp [State.bootReselect]

@[simp] theorem State.sagIsolate_sys_st (s : State) (c : Nat) : (State.sagIsolate s c).sys.st = s.sys.st := by
  simp [State.sagIsolate]

@[simp] theorem State.diag_sys_st (s : State) (k : Nat) (bad : Bool) : (State.diag s k bad).sys.st = s.sys.st := by
  simp [State.diag]

@[simp] theorem State.diagFail_sys_st (s : State) (k : Nat) : (State.diagFail s k).sys.st = s.sys.st := by
  simp [State.diagFail]

@[simp] theorem State.diagHard_sys_st (s : State) : (State.diagHard s).sys.st = s.sys.st := by
  simp [State.diagHard]

@[simp] theorem State.coilTestFail_sys_st (s : State) (sw : Nat) : (State.coilTestFail s sw).sys.st = s.sys.st := by
  simp [State.coilTestFail]

@[simp] theorem State.slotSkip_sys_st (s : State) (sw : Nat) : (State.slotSkip s sw).sys.st = s.sys.st := by
  simp [State.slotSkip]

@[simp] theorem State.degSession_sys_st (s : State) : (State.degSession s).sys.st = s.sys.st := by
  simp [State.degSession]

@[simp] theorem State.degNet_sys_st (s : State) : (State.degNet s).sys.st = s.sys.st := by
  simp [State.degNet]

@[simp] theorem State.pduMiss_sys_st (s : State) : (State.pduMiss s).sys.st = s.sys.st := by
  simp [State.pduMiss]

@[simp] theorem State.pduAct_sys_st (s0 : State) (p : PortId) (b : List Byte) : (State.pduAct s0 p b).sys.st = s0.sys.st := by
  simp [State.pduAct]

@[simp] theorem State.pduSecond_sys_st (s : State) (b : List Byte) : (State.pduSecond s b).sys.st = s.sys.st := by
  simp [State.pduSecond]

@[simp] theorem State.pduHeard_sys_st (s : State) (p : PortId) (h : Net) : (State.pduHeard s p h).sys.st = s.sys.st := by
  simp [State.pduHeard]

@[simp] theorem State.pduCopy_sys_st (s : State) (p : PortId) (b : List Byte) (h : Net) : (State.pduCopy s p b h).sys.st = s.sys.st := by
  unfold State.pduCopy
  try dsimp only
  repeat' split
  all_goals (first | rfl | simp)

@[simp] theorem State.latchClear_sys_st (s : State) : (State.latchClear s).sys.st = s.sys.st := by
  simp [State.latchClear]

@[simp] theorem State.clogAdd_sys_st (s : State) (kind : Nat) (source : Nat) (index : Nat) (old : Int) (new : Int) : (State.clogAdd s kind source index old new).sys.st = s.sys.st := by
  simp [State.clogAdd]

@[simp] theorem State.cfgCommit_sys_st (s : State) (source : Nat) : (State.cfgCommit s source).sys.st = s.sys.st := by
  simp [State.cfgCommit]

@[simp] theorem State.cfgOpen_sys_st (s : State) (source : Nat) : (State.cfgOpen s source).sys.st = s.sys.st := by
  simp [State.cfgOpen]

@[simp] theorem State.cfgEnd_sys_st (s : State) : (State.cfgEnd s).sys.st = s.sys.st := by
  unfold State.cfgEnd
  try dsimp only
  repeat' split
  all_goals (first | rfl | simp)

@[simp] theorem State.cfgFail_sys_st (s : State) : (State.cfgFail s).sys.st = s.sys.st := by
  simp [State.cfgFail]

@[simp] theorem State.loginFails_sys_st (s : State) (src : Nat) : (State.loginFails s src).sys.st = s.sys.st := by
  simp [State.loginFails]

@[simp] theorem State.setPassword_sys_st (s : State) (pw : List Byte) (source : Nat) : (State.setPassword s pw source).sys.st = s.sys.st := by
  simp [State.setPassword]

@[simp] theorem State.sagReset_sys_st (s : State) (format : Nat) (fw : Nat) : (State.sagReset s format fw).sys.st = s.sys.st := by
  unfold State.sagReset
  dsimp only
  split
  · exact State.clogAdd_sys_st ..
  · exact (State.clogAdd_sys_st ..).trans (State.clogAdd_sys_st ..)

@[simp] theorem State.pd0Restore_sys_st (s : State) : (State.pd0Restore s).sys.st = s.sys.st := by
  simp [State.pd0Restore]

@[simp] theorem State.settingsLoad_sys_st (s : State) : (State.settingsLoad s).sys.st = s.sys.st := by
  unfold State.settingsLoad
  try dsimp only
  repeat' split
  all_goals (first | rfl | simp)

@[simp] theorem State.capLoad_sys_st (s : State) : (State.capLoad s).sys.st = s.sys.st := by
  unfold State.capLoad
  try dsimp only
  repeat' split
  all_goals (first | rfl | simp)

@[simp] theorem State.countLoad_sys_st (s : State) : (State.countLoad s).sys.st = s.sys.st := by
  unfold State.countLoad
  try dsimp only
  repeat' split
  all_goals (first | rfl | simp)

@[simp] theorem State.sagLoad_sys_st (s : State) : (State.sagLoad s).sys.st = s.sys.st := by
  unfold State.sagLoad
  try dsimp only
  repeat' split
  all_goals (first | rfl | simp)

@[simp] theorem State.readStraps_sys_st (s : State) : (State.readStraps s).sys.st = s.sys.st := by
  simp [State.readStraps]

@[simp] theorem State.tvLoad_sys_st (s : State) : (State.tvLoad s).sys.st = s.sys.st := by
  simp [State.tvLoad]

@[simp] theorem State.bootLoad_sys_st (s : State) : (State.bootLoad s).sys.st = s.sys.st := by
  simp [State.bootLoad]

@[simp] theorem State.bootRevert_sys_st (s : State) : (State.bootRevert s).sys.st = s.sys.st := by
  simp [State.bootRevert]

@[simp] theorem State.bootConfirm_sys_st (s : State) : (State.bootConfirm s).sys.st = s.sys.st := by
  simp [State.bootConfirm]

@[simp] theorem State.allReady_sys_st (s : State) : (State.allReady s).sys.st = s.sys.st := by
  simp [State.allReady]

@[simp] theorem State.isolateAll_sys_st (s : State) (l : List Nat) : (State.isolateAll s l).sys.st = s.sys.st := by
  unfold State.isolateAll
  try dsimp only
  repeat' split
  all_goals (first | rfl | simp)

@[simp] theorem State.logItem_sys_st (s : State) (detail : Nat) (i : TestItem) : (State.logItem s detail i).sys.st = s.sys.st := by
  simp [State.logItem]

@[simp] theorem State.testResults_sys_st (s : State) (r : SelfTest) : (State.testResults s r).sys.st = s.sys.st := by
  simp [State.testResults]

@[simp] theorem State.startLost_sys_st (s : State) (n : Nat) : (State.startLost s n).sys.st = s.sys.st := by
  simp [State.startLost]

@[simp] theorem State.setFeed_sys_st (s : State) (b : Bool) (on : Bool) : (State.setFeed s b on).sys.st = s.sys.st := by
  simp [State.setFeed]

@[simp] theorem State.boRamp_sys_st (s : State) : (State.boRamp s).sys.st = s.sys.st := by
  simp [State.boRamp]

@[simp] theorem State.boCommit_sys_st (s : State) : (State.boCommit s).sys.st = s.sys.st := by
  simp [State.boCommit]

@[simp] theorem State.pairFault_sys_st (s : State) (kind : Nat) : (State.pairFault s kind).sys.st = s.sys.st := by
  simp [State.pairFault]

@[simp] theorem State.clashCheck_sys_st (s : State) (h : Partner) (higher : Bool) : (State.clashCheck s h higher).sys.st = s.sys.st := by
  simp [State.clashCheck]

@[simp] theorem State.heartbeat_sys_st (s : State) (h : Partner) (higher : Bool) : (State.heartbeat s h higher).sys.st = s.sys.st := by
  simp [State.heartbeat]

@[simp] theorem State.adopt_sys_st (s : State) (m : Mirror) (seq : Nat) : (State.adopt s m seq).sys.st = s.sys.st := by
  simp [State.adopt]

@[simp] theorem State.sendTake_sys_st (s : State) (now : Nat) : (State.sendTake s now).sys.st = s.sys.st := by
  simp [State.sendTake]

@[simp] theorem State.sendReady_sys_st (s : State) : (State.sendReady s).sys.st = s.sys.st := by
  simp [State.sendReady]

@[simp] theorem State.swapFailed_sys_st (s : State) : (State.swapFailed s).sys.st = s.sys.st := by
  simp [State.swapFailed]

@[simp] theorem State.handOver_sys_st (s : State) (now : Nat) : (State.handOver s now).sys.st = s.sys.st := by
  simp [State.handOver]

@[simp] theorem State.takeHarness_sys_st (s : State) : (State.takeHarness s).sys.st = s.sys.st := by
  simp [State.takeHarness]

@[simp] theorem State.fromCopy_sys_st (s : State) (m : Mirror) : (State.fromCopy s m).sys.st = s.sys.st := by
  simp [State.fromCopy]

@[simp] theorem State.newOwner_sys_st (s : State) (kind : Nat) : (State.newOwner s kind).sys.st = s.sys.st := by
  simp [State.newOwner]

@[simp] theorem State.wantFor_sys_st (s : State) (st : OpState) (disp : Bool) : (State.wantFor s st disp).sys.st = s.sys.st := by
  simp [State.wantFor]

@[simp] theorem State.dropCoef_sys_st (s : State) : (State.dropCoef s).sys.st = s.sys.st := by
  simp [State.dropCoef]

@[simp] theorem State.takeOver_sys_st (s : State) (m : Mirror) (kind : Nat) (gap : Nat) : (State.takeOver s m kind gap).sys.st = s.sys.st := by
  simp [State.takeOver]

@[simp] theorem State.passOwner_sys_st (s : State) (now : Nat) (gap : Nat) : (State.passOwner s now gap).sys.st = s.sys.st := by
  unfold State.passOwner
  dsimp only
  split
  · simp
  · split <;> simp

@[simp] theorem State.ceFresh_sys_st (s : State) : (State.ceFresh s).sys.st = s.sys.st := by
  simp [State.ceFresh]

@[simp] theorem State.dueOwner_sys_st (s : State) (now : Nat) : (State.dueOwner s now).sys.st = s.sys.st := by
  unfold State.dueOwner
  try dsimp only
  repeat' split
  all_goals (first | rfl | simp)

@[simp] theorem State.pilotView_sys_st (s : State) : (State.pilotView s).sys.st = s.sys.st := by
  unfold State.pilotView
  try dsimp only
  repeat' split
  all_goals (first | rfl | simp)

@[simp] theorem State.latchShadows_sys_st (s : State) : (State.latchShadows s).sys.st = s.sys.st := by
  simp [State.latchShadows]

@[simp] theorem State.afterRead_sys_st (s : State) (r : Reg) : (State.afterRead s r).sys.st = s.sys.st := by
  simp [State.afterRead]

@[simp] theorem State.clearRc_sys_st (s : State) (r : Reg) : (State.clearRc s r).sys.st = s.sys.st := by
  unfold State.clearRc
  try dsimp only
  repeat' split
  all_goals (first | rfl | simp)

@[simp] theorem State.putPeriod_sys_st (s : State) (v : Nat) : (State.putPeriod s v).sys.st = s.sys.st := by
  simp [State.putPeriod]

@[simp] theorem State.settingDone_sys_st (s : State) (i : Nat) (v : Int) (old : Int) : (State.settingDone s i v old).sys.st = s.sys.st := by
  simp [State.settingDone]

@[simp] theorem State.putSetting_sys_st (s : State) (i : Nat) (v : Int) : (State.putSetting s i v).sys.st = s.sys.st := by
  unfold State.putSetting
  try dsimp only
  repeat' split
  all_goals (first | rfl | simp)

@[simp] theorem State.toDefault_sys_st (s : State) (i : Nat) : (State.toDefault s i).sys.st = s.sys.st := by
  unfold State.toDefault
  try dsimp only
  repeat' split
  all_goals (first | rfl | simp)

@[simp] theorem State.settingsDefault_sys_st (s : State) : (State.settingsDefault s).sys.st = s.sys.st := by
  simp [State.settingsDefault]

@[simp] theorem State.toNewFormat_sys_st (s : State) (i : Nat) : (State.toNewFormat s i).sys.st = s.sys.st := by
  simp [State.toNewFormat]

@[simp] theorem State.loadNewFormat_sys_st (s : State) : (State.loadNewFormat s).sys.st = s.sys.st := by
  simp [State.loadNewFormat]

@[simp] theorem State.formatStep_sys_st (s : State) : (State.formatStep s).sys.st = s.sys.st := by
  simp [State.formatStep]

@[simp] theorem State.loginState_sys_st (s : State) : (State.loginState s).sys.st = s.sys.st := by
  simp [State.loginState]

@[simp] theorem State.stopDone_sys_st (s : State) : (State.stopDone s).sys.st = s.sys.st := by
  simp [State.stopDone]

@[simp] theorem State.dropEv_sys_st (s : State) (e : Ev) : (State.dropEv s e).sys.st = s.sys.st := by
  unfold State.dropEv
  try dsimp only
  repeat' split
  all_goals (first | rfl | simp)

@[simp] theorem State.spyEnd_sys_st (s : State) : (State.spyEnd s).sys.st = s.sys.st := by
  simp [State.spyEnd]

@[simp] theorem State.trackClosed_sys_st (s : State) : (State.trackClosed s).sys.st = s.sys.st := by
  simp [State.trackClosed]

@[simp] theorem State.stopOpened_sys_st (s : State) : (State.stopOpened s).sys.st = s.sys.st := by
  simp [State.stopOpened]

@[simp] theorem State.raise_sys_st (s : State) (c : Nat) : (State.raise s c).sys.st = s.sys.st := by
  simp [State.raise]

@[simp] theorem State.sf4_sys_st (s : State) : (State.sf4 s).sys.st = s.sys.st := by
  unfold State.sf4
  try dsimp only
  repeat' split
  all_goals (first | rfl | simp)

@[simp] theorem State.tickDiag_sys_st (s : State) (k : Nat) (bad : Bool) : (State.tickDiag s k bad).sys.st = s.sys.st := by
  simp [State.tickDiag]

@[simp] theorem State.protect_sys_st (s : State) (m : TickIn) : (State.protect s m).sys.st = s.sys.st := by
  simp [State.protect]

@[simp] theorem State.tickPins_sys_st (s : State) (m : TickIn) : (State.tickPins s m).sys.st = s.sys.st := by
  simp [State.tickPins]

@[simp] theorem State.degLevels_sys_st (s : State) : (State.degLevels s).sys.st = s.sys.st := by
  simp [State.degLevels]

@[simp] theorem State.pairTick_sys_st (s : State) : (State.pairTick s).sys.st = s.sys.st := by
  simp [State.pairTick]

@[simp] theorem State.tickCounts_sys_st (s : State) : (State.tickCounts s).sys.st = s.sys.st := by
  simp [State.tickCounts]

@[simp] theorem State.speedTick_sys_st (s : State) (pct : Nat) : (State.speedTick s pct).sys.st = s.sys.st := by
  simp [State.speedTick]

@[simp] theorem State.degTick_sys_st (s : State) : (State.degTick s).sys.st = s.sys.st := by
  simp [State.degTick]

@[simp] theorem State.strapTick_sys_st (s : State) : (State.strapTick s).sys.st = s.sys.st := by
  simp [State.strapTick]

@[simp] theorem State.reselect_sys_st (s : State) : (State.reselect s).sys.st = s.sys.st := by
  unfold State.reselect
  try dsimp only
  repeat' split
  all_goals (first | rfl | simp)

@[simp] theorem State.servo_sys_st (s : State) (off : Int) (ms : Nat) : (State.servo s off ms).sys.st = s.sys.st := by
  simp [State.servo]

@[simp] theorem State.loadSecMark_sys_st (s : State) : (State.loadSecMark s).sys.st = s.sys.st := by
  unfold State.loadSecMark
  try dsimp only
  repeat' split
  all_goals (first | rfl | simp)

@[simp] theorem State.slotZero_sys_st (s : State) : (State.slotZero s).sys.st = s.sys.st := by
  simp [State.slotZero]

@[simp] theorem State.fire_sys_st (s : State) (k : Nat) : (State.fire s k).sys.st = s.sys.st := by
  simp [State.fire]

@[simp] theorem State.answerWait_sys_st (s : State) (c : Nat) (r : Reply) : (State.answerWait s c r).sys.st = s.sys.st := by
  unfold State.answerWait
  exact State.sys_st_foldl _ _ _ (fun t x => by split <;> simp)

@[simp] theorem State.bufPut_sys_st (s : State) (c : Nat) (i : Nat) (w : Nat) : (State.bufPut s c i w).sys.st = s.sys.st := by
  simp [State.bufPut]

@[simp] theorem State.result_sys_st (s : State) (c : Nat) (rc : Nat) (detail : Nat) (data : List Byte) : (State.result s c rc detail data).sys.st = s.sys.st := by
  simp [State.result]

@[simp] theorem State.writeParam_sys_st (s : State) (i : Nat) (w : Nat) : (State.writeParam s i w).sys.st = s.sys.st := by
  simp [State.writeParam]

@[simp] theorem State.settingsOpen_sys_st (s : State) : (State.settingsOpen s).sys.st = s.sys.st := by
  simp [State.settingsOpen]

@[simp] theorem State.settingsEnd_sys_st (s : State) (ok : Bool) : (State.settingsEnd s ok).sys.st = s.sys.st := by
  simp [State.settingsEnd]

@[simp] theorem State.plainWrite_sys_st (s : State) (r : Reg) : (State.plainWrite s r).sys.st = s.sys.st := by
  simp [State.plainWrite]

@[simp] theorem State.writePermit_sys_st (s : State) (w : Nat) : (State.writePermit s w).sys.st = s.sys.st := by
  simp [State.writePermit]

@[simp] theorem State.writeEnMask_sys_st (s : State) (w : Nat) : (State.writeEnMask s w).sys.st = s.sys.st := by
  simp [State.writeEnMask]

@[simp] theorem State.writeWin_sys_st (s : State) (w : Nat) : (State.writeWin s w).sys.st = s.sys.st := by
  simp [State.writeWin]

@[simp] theorem State.atTime_sys_st (s : State) (t : BitVec 32) : (State.atTime s t).sys.st = s.sys.st := by
  simp [State.atTime]

@[simp] theorem State.sessReply_sys_st (s : State) (i : Nat) (x : Tx) (r : Reply) : (State.sessReply s i x r).sys.st = s.sys.st := by
  unfold State.sessReply
  try dsimp only
  repeat' split
  all_goals (first | rfl | simp)

@[simp] theorem State.sessStatus_sys_st (s : State) (i : Nat) (x : Tx) (ty : Nat) (status : Nat) : (State.sessStatus s i x ty status).sys.st = s.sys.st := by
  simp [State.sessStatus]

@[simp] theorem State.looseReply_sys_st (s : State) (x : Tx) (r : Reply) : (State.looseReply s x r).sys.st = s.sys.st := by
  simp [State.looseReply]

@[simp] theorem State.sessUsed_sys_st (s : State) (i : Nat) (x : Tx) : (State.sessUsed s i x).sys.st = s.sys.st := by
  simp [State.sessUsed]

@[simp] theorem State.resend_sys_st (s : State) (i : Nat) (x : Tx) (y : Session) : (State.resend s i x y).sys.st = s.sys.st := by
  unfold State.resend
  try dsimp only
  repeat' split
  all_goals (first | rfl | simp)

@[simp] theorem State.openSession_sys_st (s : State) (x : Tx) (v : Nat) (host : Nat) (mask : Nat) (old : Option Session) : (State.openSession s x v host mask old).sys.st = s.sys.st := by
  simp [State.openSession]

@[simp] theorem State.endSession_sys_st (s : State) (i : Nat) : (State.endSession s i).sys.st = s.sys.st := by
  simp [State.endSession]

@[simp] theorem State.sessWait_sys_st (s : State) (i : Nat) (x : Tx) (c : Nat) : (State.sessWait s i x c).sys.st = s.sys.st := by
  simp [State.sessWait]

@[simp] theorem State.attnDrop_sys_st (s : State) (i : Nat) (y : Session) (m : Attn) : (State.attnDrop s i y m).sys.st = s.sys.st := by
  simp [State.attnDrop]

@[simp] theorem State.dispTake_sys_st (s : State) (p : PortId) (b : List Byte) (now : Nat) : (State.dispTake s p b now).sys.st = s.sys.st := by
  unfold State.dispTake
  try dsimp only
  repeat' split
  all_goals (first | rfl | simp)

@[simp] theorem State.selftestStore_sys_st (s : State) (r : SelfTest) (run : Nat) : (State.selftestStore s r run).sys.st = s.sys.st := by
  simp [State.selftestStore]

@[simp] theorem State.selftestAct_sys_st (s : State) (r : SelfTest) : (State.selftestAct s r).sys.st = s.sys.st := by
  unfold State.selftestAct
  dsimp only
  split <;> simp

@[simp] theorem State.loadShadow_sys_st (s : State) (k : Nat) (i : SchedImage) : (State.loadShadow s k i).sys.st = s.sys.st := by
  simp [State.loadShadow]

@[simp] theorem State.askSwap_sys_st (s : State) : (State.askSwap s).sys.st = s.sys.st := by
  simp [State.askSwap]

@[simp] theorem State.calStart_sys_st (s : State) : (State.calStart s).sys.st = s.sys.st := by
  simp [State.calStart]

@[simp] theorem State.capWrite_sys_st (s : State) (cap : Nat) (g : Nat) : (State.capWrite s cap g).sys.st = s.sys.st := by
  simp [State.capWrite]

@[simp] theorem State.drawKey_sys_st (s : State) : (State.drawKey s).sys.st = s.sys.st := by
  simp [State.drawKey]

@[simp] theorem State.pairPut_sys_st (s : State) (n : Nat) (serial : Nat) (k : Nat) : (State.pairPut s n serial k).sys.st = s.sys.st := by
  simp [State.pairPut]

@[simp] theorem State.queueKey_sys_st (s : State) (n : Nat) : (State.queueKey s n).sys.st = s.sys.st := by
  simp [State.queueKey]

@[simp] theorem State.keyChange_sys_st (s : State) : (State.keyChange s).sys.st = s.sys.st := by
  simp [State.keyChange]

@[simp] theorem State.logClear_sys_st (s : State) (src : Nat) : (State.logClear s src).sys.st = s.sys.st := by
  simp [State.logClear]

@[simp] theorem State.loginOk_sys_st (s : State) (c : Nat) : (State.loginOk s c).sys.st = s.sys.st := by
  simp [State.loginOk]

@[simp] theorem State.stage_sys_st (s : State) (l : List (Nat × Int)) : (State.stage s l).sys.st = s.sys.st := by
  simp [State.stage]

@[simp] theorem State.sagAbort_sys_st (s : State) : (State.sagAbort s).sys.st = s.sys.st := by
  simp [State.sagAbort]

@[simp] theorem State.clogAckTo_sys_st (s : State) (q : Nat) (source : Nat) : (State.clogAckTo s q source).sys.st = s.sys.st := by
  simp [State.clogAckTo]

@[simp] theorem State.ownLoad_sys_st (s : State) : (State.ownLoad s).sys.st = s.sys.st := by
  unfold State.ownLoad
  try dsimp only
  repeat' split
  all_goals (first | rfl | simp)

@[simp] theorem State.ownEnd_sys_st (s : State) (rb : Bool) : (State.ownEnd s rb).sys.st = s.sys.st := by
  unfold State.ownEnd
  try dsimp only
  repeat' split
  all_goals (first | rfl | simp)

@[simp] theorem State.manifestDone_sys_st (s : State) : (State.manifestDone s).sys.st = s.sys.st := by
  unfold State.manifestDone
  try dsimp only
  repeat' split
  all_goals (first | rfl | simp)

@[simp] theorem State.partDone_sys_st (s : State) (k : Nat) : (State.partDone s k).sys.st = s.sys.st := by
  unfold State.partDone
  try dsimp only
  repeat' split
  all_goals (first | rfl | simp)

@[simp] theorem State.blockPut_sys_st (s : State) (k : Nat) (n : Nat) (b : List Byte) : (State.blockPut s k n b).sys.st = s.sys.st := by
  simp [State.blockPut]

@[simp] theorem State.blockReply_sys_st (s : State) (i : Nat) (x : Tx) (next : Nat) : (State.blockReply s i x next).sys.st = s.sys.st := by
  simp [State.blockReply]

@[simp] theorem State.fwdSend_sys_st (s : State) (k : Nat) : (State.fwdSend s k).sys.st = s.sys.st := by
  unfold State.fwdSend
  try dsimp only
  repeat' split
  all_goals (first | rfl | simp)

@[simp] theorem State.stageUpdate_sys_st (s : State) (c : Nat) : (State.stageUpdate s c).sys.st = s.sys.st := by
  unfold State.stageUpdate
  try dsimp only
  repeat' split
  all_goals (first | rfl | simp)

@[simp] theorem State.mgpGoes_sys_st (s : State) : (State.mgpGoes s).sys.st = s.sys.st := by
  simp [State.mgpGoes]

@[simp] theorem State.mgpBack_sys_st (s : State) : (State.mgpBack s).sys.st = s.sys.st := by
  simp [State.mgpBack]

@[simp] theorem State.rollBack_sys_st (s : State) : (State.rollBack s).sys.st = s.sys.st := by
  simp [State.rollBack]

@[simp] theorem State.staysAway_sys_st (s : State) : (State.staysAway s).sys.st = s.sys.st := by
  simp [State.staysAway]

@[simp] theorem State.formatChange_sys_st (s : State) (old : Nat) : (State.formatChange s old).sys.st = s.sys.st := by
  simp [State.formatChange]

@[simp] theorem State.rangeLeave_sys_st (s : State) : (State.rangeLeave s).sys.st = s.sys.st := by
  simp [State.rangeLeave]

@[simp] theorem State.afterConfirm_sys_st (s : State) (l : List (Nat × Nat)) : (State.afterConfirm s l).sys.st = s.sys.st := by
  unfold State.afterConfirm
  try dsimp only
  repeat' split
  all_goals (first | rfl | simp)

@[simp] theorem State.infoGot_sys_st (s : State) (q : NodeCmd) (info : Nat) : (State.infoGot s q info).sys.st = s.sys.st := by
  unfold State.infoGot
  try dsimp only
  repeat' split
  all_goals (first | rfl | simp)

@[simp] theorem State.fwBegun_sys_st (s : State) (n : Nat) : (State.fwBegun s n).sys.st = s.sys.st := by
  simp [State.fwBegun]

@[simp] theorem State.fwStaged_sys_st (s : State) (u : Nat) (n : Nat) : (State.fwStaged s u n).sys.st = s.sys.st := by
  simp [State.fwStaged]

@[simp] theorem State.ackFw_sys_st (s : State) (u : Nat) (n : Nat) (r : Nat) (info : Nat) : (State.ackFw s u n r info).sys.st = s.sys.st := by
  unfold State.ackFw
  try dsimp only
  repeat' split
  all_goals (first | rfl | simp)

theorem State.takeFlight_sys_st (s : State) (n : Nat) (t_ : NodeCmd × State) (h_ : State.takeFlight s n = some t_) : t_.2.sys.st = s.sys.st := by
  revert h_
  unfold State.takeFlight
  try dsimp only
  repeat' split
  all_goals (intro h_; first | (cases h_; done) | (cases h_; rfl) | (cases h_; simp; done) | (simp at h_; done) | (simp at h_; subst h_; simp; done))

end Sys2Proof.Machine
end

