-- ==== Sys2Proof/Laws/Gates.lean ====
section
/-! SUPPORT. The shared gates of the commands, each said once: a host write, an entry of the firing schedule, a transaction, a mailbox
command and a line of the monitor run what they guard exactly under the conditions that Safety.lean names. -/

namespace Sys2Proof.Machine

/-- R429: a write to a block that answers is carried out. -/
theorem State.hostWrite_up {s : State} {d : Nat} (o : Out) (h : s.up d = true) : s.hostWrite d o = o := if_pos h

/-- R429: a write to a block that does not answer is discarded with ABSENT. -/
theorem State.hostWrite_down {s : State} {d : Nat} (o : Out) (h : s.up d = false) :
    s.hostWrite d o = .next { s with sys := { s.sys with accAbsent := true } } :=
  if_neg (fun e => Bool.false_ne_true (h.symm.trans e))

/-- R429: outside PILOT an owner's write to a block that answers is carried out. -/
theorem State.ownerWrite_up {s : State} {d : Nat} (o : Out) (h : s.up d = true) (p : s.sys.st ≠ .pilot) : s.ownerWrite d o = o :=
  (State.hostWrite_up _ h).trans (if_neg p)

/-- R429: in PILOT an owner's write is discarded with PILOT_WR. -/
theorem State.ownerWrite_pilot {s : State} {d : Nat} (o : Out) (h : s.up d = true) (p : s.sys.st = .pilot) :
    s.ownerWrite d o = .next { s with sys := { s.sys with accPilotWr := true } } :=
  (State.hostWrite_up _ h).trans (if_pos p)

/-- R92: an entry that is due passes its gate. -/
theorem State.gate_due {s : State} {c : Nat} {m : EntryIn} {w : Nat} (h : s.EntryDue c m w) :
    s.gate c m = .run (s.taken m w) (s.fsq.announced m).entry w
      (lateAt w (diffT m.now.toNat ((s.fsq.announced m).startOf w)).toNat)
      (diffT m.now.toNat ((s.fsq.announced m).startOf w)).toNat := by
  obtain ⟨h1, h2, h3, h4, h5, h6, h7, h8⟩ := h
  unfold State.gate State.taken Fsq.taken
  dsimp only
  rw [h3, h1, h2, h4, h5, h6, h7, h8]
  simp only [Bool.not_true, Bool.or_self, Bool.false_eq_true, if_false, ne_eq, not_true]

/-- R92: an entry that is due runs on the state that has passed it. -/
theorem State.onEntry_due {s : State} {c : Nat} {m : EntryIn} {w : Nat} (g : State → Nat → Nat → Out) (h : s.EntryDue c m w) :
    s.onEntry c m g = g (s.taken m w) (s.fsq.announced m).entry w := by
  unfold State.onEntry
  rw [State.gate_due h]

/-- R383 to R385: a datagram that lands is taken. -/
theorem State.datagram_lands {s : State} {p : PortId} {h : Net} {n k : Nat} (o : Out) (g : s.Lands p h n k) : s.datagram p h n k o = o := by
  obtain ⟨h1, h2, h3, h4⟩ := g
  unfold State.datagram
  simp [h1, h2, h3, h4]

/-- R383 to R385: all that a datagram can do. -/
theorem State.datagram_cases {s t : State} {p : PortId} {h : Net} {n k : Nat} {o : Out} (g : s.datagram p h n k o = .next t) :
    t = s ∨ t = s.rxDropOne p ∨ (s.Lands p h n k ∧ o = .next t) := by
  unfold State.datagram at g
  split at g
  · cases g
    exact .inl rfl
  · split at g
    · cases g
      exact .inr (.inl rfl)
    · split at g
      · cases g
        exact .inl rfl
      · refine .inr (.inr ⟨?_, g⟩)
        simp_all [State.Lands]

/-- R384 to R389: a transaction whose datagram lands, whose header checks and that is of the type is carried out. -/
theorem State.arrive_ok {s : State} {x : Tx} {ty : Nat} (g : State → Out) (h1 : s.Lands x.port x.toNet x.dg.length 48048)
    (h2 : x.headOk = true) (h3 : x.type = ty) : s.arrive x ty g = g (s.atTime x.now) := by
  unfold State.arrive
  dsimp only
  rw [State.datagram_lands _ (show (s.atTime x.now).Lands x.port x.toNet x.dg.length 48048 from h1)]
  simp [h2, h3]

/-- R388 to R391: a transaction that is in order is carried out. -/
theorem State.transact_ok {s : State} {x : Tx} {ty i : Nat} (f : State → Nat → Out) (h : s.TxOk x ty i) :
    s.transact x ty f = f (s.txIn x i) i := by
  obtain ⟨h1, h2, h3, h4, h5, y, h6, h7, h8, h9⟩ := h
  unfold State.transact
  rw [State.arrive_ok _ h1 h2 h3]
  have h4' : (s.atTime x.now).sessionAt x.session = some i := h4
  have h6' : (s.atTime x.now).plk.sessions[i]? = some y := h6
  have hk : (y.kept.isSome && y.tid == x.tid) = false := by
    cases hs : y.kept.isSome with
    | false => rfl
    | true => simp [h8 hs]
  have h9' : ¬ y.ver < typeFrom ty := by omega
  simp only [h4', h6', h7, hk, h9', h5, Bool.not_true, if_false, ne_eq, not_true, Bool.false_eq_true]
  rfl

/-- R435: a command that serves its channel runs on its parameters. -/
theorem State.serve_ok {s : State} {c : Fin 4} {code : Nat} {p : List Byte} (f : List Byte → Out) (h : s.Serves c code p) :
    s.serve c code f = f p := by
  obtain ⟨h1, h2, h3, hs, r, h4, h5, h6, h7, h8⟩ := h
  have hm : (Machine.moves code && !s.settled) = false := by
    cases hc : Machine.moves code with
    | false => rfl
    | true => simp [hs hc]
  unfold State.serve
  simp [h1, h2, h3, h4, h5, h6, h7, h8, hm]

/-- R491: a line of the monitor runs with its session open. -/
theorem State.monitor_ok {s : State} (plain : Bool) (f : State → Out) (h1 : s.sys.mgpAway = false) (h2 : s.sys.st ≠ .off)
    (h3 : s.sys.loaderOnly = false) : s.monitor plain f = f s.spyIn := by
  unfold State.monitor
  simp [h1, h2, h3, State.spyIn]

/-- R492: the monitor answers nothing while the MGP is away, or in OFF. -/
theorem State.monitor_away {s : State} (plain : Bool) (f : State → Out) (h : s.sys.mgpAway = true ∨ s.sys.st = .off) :
    s.monitor plain f = .next s := by
  unfold State.monitor
  rcases h with h | h <;> simp [h]

/-- R491: a write of the monitor runs where it is not barred. -/
theorem State.spyWrite_ok {s : State} (f : State → Out) (h1 : s.sys.mgpAway = false) (h2 : s.sys.st ≠ .off)
    (h3 : s.sys.loaderOnly = false) (h4 : s.spyBarred = false) : s.spyWrite f = f s.spyIn := by
  unfold State.spyWrite
  rw [State.monitor_ok _ _ h1 h2 h3]
  have h4' : s.spyIn.spyBarred = false := h4
  simp [h4']

/-- R491: a write of the monitor that is barred is answered STATE. -/
theorem State.spyWrite_barred {s : State} (f : State → Out) (h1 : s.sys.mgpAway = false) (h2 : s.sys.st ≠ .off)
    (h3 : s.sys.loaderOnly = false) (h4 : s.spyBarred = true) : s.spyWrite f = .next (s.spyIn.spyErr "STATE") := by
  unfold State.spyWrite
  rw [State.monitor_ok _ _ h1 h2 h3]
  have h4' : s.spyIn.spyBarred = true := h4
  simp [h4']

/-- R429: all that a host write can do. -/
theorem State.hostWrite_cases {s t : State} {d : Nat} {o : Out} (h : s.hostWrite d o = .next t) :
    (s.up d = true ∧ o = .next t) ∨ (s.up d = false ∧ t = { s with sys := { s.sys with accAbsent := true } }) := by
  cases hu : s.up d with
  | true => exact .inl ⟨rfl, (State.hostWrite_up o hu).symm.trans h⟩
  | false =>
    rw [State.hostWrite_down o hu] at h
    cases h
    exact .inr ⟨rfl, rfl⟩

/-- R429: all that an owner's write can do. -/
theorem State.ownerWrite_cases {s t : State} {d : Nat} {o : Out} (h : s.ownerWrite d o = .next t) :
    (s.up d = true ∧ s.sys.st ≠ .pilot ∧ o = .next t) ∨ (s.up d = false ∧ t = { s with sys := { s.sys with accAbsent := true } }) ∨
      (s.up d = true ∧ s.sys.st = .pilot ∧ t = { s with sys := { s.sys with accPilotWr := true } }) := by
  rcases State.hostWrite_cases h with ⟨hu, h2⟩ | h2
  · split at h2
    · cases h2
      exact .inr (.inr ⟨hu, ‹_›, rfl⟩)
    · exact .inl ⟨hu, ‹_›, h2⟩
  · exact .inr (.inl h2)

/-- R92: all that the gate of an entry lets happen. -/
theorem State.onEntry_cases {s t : State} {c : Nat} {m : EntryIn} {g : State → Nat → Nat → Out} (h : s.onEntry c m g = .next t) :
    t = s ∨ s.gate c m = .skipped t ∨ ∃ u e w late lag, s.gate c m = .run u e w late lag ∧ g u e w = .next t := by
  unfold State.onEntry at h
  split at h
  · cases h
    exact .inl rfl
  · cases h
    exact .inr (.inl ‹_›)
  · cases h
  · exact .inr (.inr ⟨_, _, _, _, _, ‹_›, h⟩)

/-- R386, R391: a reply in a session changes the plant link alone. -/
theorem State.sessReply_only (s : State) (i : Nat) (x : Tx) (r : Reply) : s.sessReply i x r = { s with plk := (s.sessReply i x r).plk } := by
  unfold State.sessReply
  split <;> rfl

/-- R390: a reply with a status alone changes the plant link alone. -/
theorem State.sessStatus_only (s : State) (i : Nat) (x : Tx) (ty status : Nat) :
    s.sessStatus i x ty status = { s with plk := (s.sessStatus i x ty status).plk } := State.sessReply_only ..

/-- R391: a kept reply sent again changes the plant link alone. -/
theorem State.resend_only (s : State) (i : Nat) (x : Tx) (y : Session) : s.resend i x y = { s with plk := (s.resend i x y).plk } := by
  unfold State.resend
  split <;> rfl

/-- R388 to R391: all that a transaction can do: what it guards, on a state in which only the plant link and the clock differ, or a
change of those two. -/
theorem State.transact_cases {s t : State} {x : Tx} {ty : Nat} {f : State → Nat → Out} (h : s.transact x ty f = .next t) :
    t = { s with plk := t.plk, lmp := t.lmp } ∨ ∃ u i, f u i = .next t ∧ u = { s with plk := u.plk, lmp := u.lmp } := by
  unfold State.transact State.arrive at h
  rcases State.datagram_cases h with h | h | ⟨-, h⟩
  · exact .inl (by rw [h]; rfl)
  · exact .inl (by rw [h]; rfl)
  dsimp only at h
  repeat' split at h
  all_goals first
    | exact .inr ⟨_, _, h, rfl⟩
    | (cases h; exact .inl rfl)
    | (cases h; rw [State.sessStatus_only]; exact .inl rfl)
    | (cases h; rw [State.resend_only]; exact .inl rfl)

/-- R435: all that a command on a channel can do. -/
theorem State.serve_cases {s t : State} {c : Fin 4} {code : Nat} {f : List Byte → Out} (h : s.serve c code f = .next t) :
    t = s ∨ (∃ r, (s.ch c.val).req = some r ∧ t = s.notInState c.val r) ∨ ∃ r, (s.ch c.val).req = some r ∧ r.code = code ∧
      (s.ch c.val).st = .running ∧ s.sys.mgpAway = false ∧ f r.params = .next t := by
  unfold State.serve at h
  split at h
  · cases h
    exact .inl rfl
  · split at h
    · cases h
      exact .inl rfl
    · split at h
      · cases h
      · split at h
        · cases h
          exact .inr (.inl ⟨_, ‹_›, rfl⟩)
        · refine .inr (.inr ⟨_, ‹_›, ?_⟩)
          simp_all

/-- R491, R492: all that a line of the monitor can do. -/
theorem State.monitor_cases {s t : State} {plain : Bool} {f : State → Out} (h : s.monitor plain f = .next t) :
    t = s ∨ t = s.spyIn.spyErr "STATE" ∨ f s.spyIn = .next t := by
  unfold State.monitor at h
  dsimp only at h
  split at h
  · cases h
    exact .inl rfl
  · split at h
    · cases h
      exact .inr (.inl rfl)
    · exact .inr (.inr h)

/-- R491: all that a write of the monitor can do. -/
theorem State.spyWrite_cases {s t : State} {f : State → Out} (h : s.spyWrite f = .next t) :
    t = s ∨ t = s.spyIn.spyErr "STATE" ∨ (s.spyBarred = false ∧ f s.spyIn = .next t) := by
  rcases State.monitor_cases h with h | h | h
  · exact .inl h
  · exact .inr (.inl h)
  · split at h
    · cases h
      exact .inr (.inl rfl)
    · rename_i hb
      exact .inr (.inr ⟨Bool.eq_false_iff.2 hb, h⟩)

/-- A node that is there, updated. -/
theorem State.modDn_some {s : State} {n : Nat} {d : Dn8} (f : Dn8 → Dn8) (h : s.nodes[n]? = some d) :
    s.modDn n f = { s with nodes := s.nodes.set n (f d) } := by
  have e : s.nodes.modify n f = s.nodes.set n (f d) := by
    apply List.ext_getElem?
    intro i
    have hl : n < s.nodes.length := (List.getElem?_eq_some_iff.1 h).1
    by_cases hi : n = i
    · subst hi
      simp [hl, (List.getElem?_eq_some_iff.1 h).2]
    · simp [hi]
  unfold State.modDn
  rw [e]

/-- Another node than the one updated is unchanged. -/
theorem State.modDn_other {s : State} {n k : Nat} (f : Dn8 → Dn8) (h : n ≠ k) : (s.modDn n f).nodes[k]? = s.nodes[k]? := by
  unfold State.modDn
  simp [h]

end Sys2Proof.Machine
end

