-- ==== Sys2Proof/Laws/Mem.lean ====
section
/-! SUPPORT. The byte memories of the banks and the mailbox buffers: every operation keeps the canonical form, a byte written reads
back, and every other byte reads as before. -/

namespace Sys2Proof.Machine

theorem memWfFrom_le {m : Mem} {lo hi : Nat} (h : lo ≤ hi) (w : memWfFrom hi m = true) : memWfFrom lo m = true := by
  cases m with
  | nil => rfl
  | cons c m =>
    simp only [memWfFrom, Bool.and_eq_true, decide_eq_true_eq] at w ⊢
    exact ⟨⟨Nat.le_trans h w.1.1, w.1.2⟩, w.2⟩

theorem memWfFrom_cons {lo : Nat} {c : Nat × Byte} {m : Mem} :
    memWfFrom lo (c :: m) = true ↔ lo ≤ c.1 ∧ c.2 ≠ 0 ∧ memWfFrom (c.1 + 1) m = true := by
  simp only [memWfFrom, Bool.and_eq_true, decide_eq_true_eq, bne_iff_ne, and_assoc]

theorem memPut_wfFrom {m : Mem} {lo a : Nat} (b : Byte) (w : memWfFrom lo m = true) (h : lo ≤ a) : memWfFrom lo (memPut m a b) = true := by
  induction m generalizing lo with
  | nil =>
    unfold memPut
    split
    · rfl
    · rename_i hb
      exact memWfFrom_cons.mpr ⟨h, hb, rfl⟩
  | cons c m ih =>
    obtain ⟨w1, w2, w3⟩ := memWfFrom_cons.mp w
    unfold memPut
    split
    · rename_i hlt
      split
      · exact w
      · rename_i hb
        exact memWfFrom_cons.mpr ⟨h, hb, memWfFrom_cons.mpr ⟨hlt, w2, w3⟩⟩
    · split
      · rename_i heq
        split
        · exact memWfFrom_le (Nat.le_succ_of_le w1) w3
        · rename_i hb
          exact memWfFrom_cons.mpr ⟨h, hb, heq ▸ w3⟩
      · rename_i h1 h2
        exact memWfFrom_cons.mpr ⟨w1, w2, ih w3 (by omega)⟩

theorem memPut_wf {m : Mem} (a : Nat) (b : Byte) (w : memWf m = true) : memWf (memPut m a b) = true :=
  memPut_wfFrom b w (Nat.zero_le a)

theorem memPutL_wf {m : Mem} (a : Nat) (l : List Byte) (w : memWf m = true) : memWf (memPutL m a l) = true := by
  induction l generalizing m a with
  | nil => exact w
  | cons b l ih => exact ih (a + 1) (memPut_wf a b w)

@[simp] theorem memWf_nil : memWf [] = true := rfl

theorem memGet_below {m : Mem} {lo a : Nat} (w : memWfFrom lo m = true) (h : a < lo) : memGet m a = 0 := by
  induction m generalizing lo with
  | nil => rfl
  | cons c m ih =>
    simp only [memWfFrom, Bool.and_eq_true, decide_eq_true_eq] at w
    have hne : c.1 ≠ a := by omega
    simp only [memGet, hne, if_false]
    exact ih w.2 (by omega)

theorem memGet_put_from {m : Mem} {lo : Nat} (a : Nat) (b : Byte) (w : memWfFrom lo m = true) : memGet (memPut m a b) a = b := by
  induction m generalizing lo with
  | nil =>
    unfold memPut
    split
    · rename_i hb
      simp [memGet, hb]
    · simp [memGet]
  | cons c m ih =>
    have w0 := w
    simp only [memWfFrom, Bool.and_eq_true, decide_eq_true_eq] at w
    unfold memPut
    split
    · rename_i hlt
      split
      · rename_i hb
        subst hb
        have hc : c.1 ≠ a := by omega
        simp only [memGet, hc, if_false]
        exact memGet_below w.2 (by omega)
      · simp [memGet]
    · split
      · rename_i heq
        split
        · rename_i hb
          subst hb
          exact memGet_below w.2 (by omega)
        · simp [memGet]
      · rename_i h1 h2
        have hc : c.1 ≠ a := fun e => h2 e.symm
        simp only [memGet, hc, if_false]
        exact ih w.2

/-- R96: a byte written reads back. -/
theorem memGet_put {m : Mem} (a : Nat) (b : Byte) (w : memWf m = true) : memGet (memPut m a b) a = b := memGet_put_from a b w

/-- R96: a write leaves every other byte. -/
theorem memGet_put_ne (m : Mem) {a x : Nat} (b : Byte) (h : x ≠ a) : memGet (memPut m a b) x = memGet m x := by
  induction m with
  | nil =>
    unfold memPut
    split
    · rfl
    · simp [memGet, Ne.symm h]
  | cons c m ih =>
    unfold memPut
    split
    · split
      · rfl
      · simp [memGet, Ne.symm h]
    · split
      · rename_i heq
        have hc : c.1 ≠ x := by omega
        split
        · simp [memGet, hc]
        · simp [memGet, Ne.symm h, hc]
      · simp [memGet, ih]

/-- R96: a write of several bytes leaves every byte outside them. -/
theorem memGet_putL_out (m : Mem) {a x : Nat} (l : List Byte) (h : x < a ∨ a + l.length ≤ x) : memGet (memPutL m a l) x = memGet m x := by
  induction l generalizing m a with
  | nil => rfl
  | cons b l ih =>
    have hl : (b :: l).length = l.length + 1 := rfl
    simp only [memPutL]
    rw [ih (memPut m a b) (by omega), memGet_put_ne m b (by omega)]

@[simp] theorem memGetL_length (m : Mem) (a n : Nat) : (memGetL m a n).length = n := by
  induction n generalizing a with
  | zero => rfl
  | succ n ih => simp [memGetL, ih]

end Sys2Proof.Machine
end

