-- ==== Sys2Proof/WellFormed.lean ====
section
/-! DEFINITION. Well-formed commands: every operand fits the field, the register or the buffer that the spec gives it. Fin and BitVec
operands fit by their types. -/

namespace Sys2Proof

/-- v fits a signed field of w bits. -/
def fitsInt (w : Nat) (v : Int) : Bool := decide (-(2 ^ (w - 1) : Int) ≤ v) && decide (v < 2 ^ (w - 1))

/-- Every element of l fits w unsigned bits. -/
def fitAll (w : Nat) (l : List Nat) : Bool := l.all (fun x => decide (x < 2 ^ w))

end Sys2Proof

namespace Sys2Proof.Machine

/-- R61: the mask of sixteen phases, and DETAIL. -/
def SelfTest.wf (r : SelfTest) : Bool := decide (r.pwmFail < 2 ^ 16) && decide (r.detail < 2 ^ 32)

/-- R242, R268, R302: four harness straps of four bits, and signed 32-bit readings. -/
def TickIn.wf (m : TickIn) : Bool :=
  m.hid.length == 4 && fitAll 4 m.hid && fitsInt 32 m.vStr && fitsInt 32 m.vBus && fitsInt 32 m.vPre && fitsInt 32 m.vLink &&
  fitsInt 32 m.shunt && decide (m.loopUa < 2 ^ 16) && decide (m.loop2Ua < 2 ^ 16) && decide (m.speed < 2 ^ 8)

/-- R307, R314, R321: sixteen sensors, four coolant inputs, two flow inputs, four tachometers. -/
def ThmIn.wf (x : ThmIn) : Bool :=
  x.ro.length == 16 && x.cool.length == 4 && x.flow.length == 2 && x.tach.length == 4 && x.ro.all (fitsInt 16) && x.cool.all (fitsInt 16)

/-- R108, R147: at most 127 octets, and a link time of 40 bits. -/
def RxFrame.wf (f : RxFrame) : Bool := decide (f.bytes.length ≤ 127) && decide (f.rxLt < 2 ^ 40)

/-- R149: eight voltages and four temperatures. -/
def SweepIn.wf (m : SweepIn) : Bool :=
  m.v.length == 8 && m.t.length == 4 && fitAll 16 m.v && m.t.all (fitsInt 16) && decide (m.vsup < 2 ^ 16) && decide (m.vref < 2 ^ 16)

/-- R275: signed 32-bit readings. -/
def OuterIn.wf (m : OuterIn) : Bool :=
  decide (m.dtNs < 2 ^ 32) && fitsInt 32 m.ish && fitsInt 32 m.vStr && fitsInt 32 m.vBus && fitsInt 32 m.vLink && fitsInt 32 m.vPre

/-- R251, R290, R293: counts of the bitstream and of the fast path, and signed 32-bit readings. -/
def EvalIn.wf (m : EvalIn) : Bool :=
  decide (m.dtNs < 2 ^ 32) && decide (0 < m.bits) && decide (m.ones ≤ m.bits) && decide (m.bits < 2 ^ 16) && fitsInt 32 m.vStr &&
  fitsInt 32 m.vBus && m.fast.length == 16 && m.fast.all (· ≤ 64) && decide (m.samples.length ≤ 128) &&
  m.samples.all (· ≤ 64) && decide (m.fastAgo ≤ 400)

/-- R90, R367: the records of every group (none in scope 1), the phases and the nodes. -/
def Mirror.wf (m : Mirror) : Bool :=
  (m.recs.isEmpty || m.recs.length == 384) && m.mea.elim true (fun x => x.nodes.length == 48) && m.ph.length == 16 && m.pair.length == 48 &&
  decide (m.enMask < 2 ^ 16) && decide (m.stopRamp < 2 ^ 32) && decide (m.active < 2)

/-- R383, R386: 16-byte addresses, 16-bit UDP ports and a 12-bit VLAN ID. -/
def Net.wf (h : Net) : Bool :=
  decide (h.addr < 2 ^ 128) && decide (h.dst < 2 ^ 128) && decide (h.udp < 2 ^ 16) && decide (h.dudp < 2 ^ 16) && decide (h.vlan < 4095)

/-- R383: MAC addresses of 48 bits, addresses of 16 bytes, a 12-bit VLAN ID and a 3-bit priority. -/
def SvcFrame.wf (f : SvcFrame) : Bool :=
  decide (f.mac < 2 ^ 48) && decide (f.toMac < 2 ^ 48) && decide (f.src < 2 ^ 128) && decide (f.dst < 2 ^ 128) && decide (f.vlan < 4095) &&
  decide (f.prio < 8) && decide (f.data.length ≤ 1480)

/-- R386, R388: the addresses and the length of a transaction. -/
def Tx.wf (x : Tx) : Bool := x.toNet.wf && decide (x.dg.length ≤ 1472)

/-- R388, R389: the header names the type of the command, or is too short or too damaged to be a transaction. -/
def Tx.wfAs (x : Tx) (ty : Nat) : Bool := x.wf && (!x.headOk || x.type == ty)

/-- R365: a payload of a kind on the pair link, or one whose CRC fails. -/
def pairWf (b : List Byte) (kind : Nat) : Bool := decide (b.length ≤ 1500) && (!pairCrcOk b || leAt b 0 1 == kind)

/-- R407: the header of a PTP message. -/
def PtpMsg.wf (m : PtpMsg) : Bool := decide (m.domain < 2 ^ 8) && decide (m.sender < 2 ^ 80) && decide (m.seq < 2 ^ 16) && fitsInt 64 m.corr

end Sys2Proof.Machine

namespace Sys2Proof

/-- The operands of a command fit. -/
def Instr.wf : Instr → Bool
  | .feedGood _ _ => true
  | .feedLossSingle _ => true
  | .holdupCharged _ => true
  | .brownOutWarning => true
  | .boCoilsOff => true
  | .boDomainsOff => true
  | .boCommitDone => true
  | .holdupExhausted => true
  | .feedReturn => true
  | .bootVerifyDone _ _ => true
  | .domainReady _ => true
  | .selftestDone r => r.wf
  | .ownClaim _ => true
  | .mgpWatchdog => true
  | .mgpResume => true
  | .mgpLost => true
  | .fenceOpen _ => true
  | .csmArbitrationRound want => want.all (fun x => decide (x < 65536))
  | .housekeepingTick m => m.wf
  | .prechargeDone => true
  | .prechargeTimeout => true
  | .prechargeCoolExpiry => true
  | .degradedTimerExpiry => true
  | .maintIdleTimeout => true
  | .auxContactChange _ _ => true
  | .frameStart => true
  | .beaconFreeze => true
  | .beacon _ txLt _ => decide (txLt < 2 ^ 40)
  | .nodeSlot _ => true
  | .contentionSlot _ => true
  | .snapshot _ => true
  | .currentLatch _ ma vStr vBus qint => fitsInt 32 ma && fitsInt 32 vStr && fitsInt 32 vBus && fitsInt 64 qint
  | .estimateBatch _ => true
  | .probePhaseStep _ => true
  | .thermalSample _ x => x.wf
  | .logCheckpoint _ => true
  | .mirrorPush _ => true
  | .nop _ => true
  | .frameEnd _ => true
  | .swapRequest => true
  | .swapWithdraw => true
  | .swapCheckDone => true
  | .scheduleBankWrite _ _ _ => true
  | .reportRx _ _ f => f.wf
  | .reportWindowMiss _ _ => true
  | .joinRequestRx _ f => f.wf
  | .contentionRx _ f => f.wf
  | .ackRx _ f => f.wf
  | .commandRetry _ => true
  | .unitLoopbackTest _ _ => true
  | .epochPeriodExpiry => true
  | .linkKeyChangeTimeout => true
  | .loopClassChange ua => decide (ua < 2 ^ 16)
  | .nodePowerOn _ => true
  | .nodeBeaconRx _ _ f brx => f.wf && decide (brx < 2 ^ 40)
  | .nodeBeaconMissed _ => true
  | .nodeCoastLimit _ => true
  | .nodeBalTimeout _ => true
  | .nodeSweep _ m => m.wf
  | .nodeReportTx _ rtx => decide (rtx < 2 ^ 32)
  | .nodeBalanceWindow _ _ => true
  | .nodeOpenWireTest _ shift => fitsInt 16 shift
  | .nodeSwitchTest _ current => fitsInt 16 current
  | .nodeCommandRx _ f => f.wf
  | .nodeFirmwareRx _ f => f.wf
  | .nodeJoinReplyRx _ f => f.wf
  | .nodeJoinReplyTimeout _ => true
  | .nodeRefuseWaitEnd _ => true
  | .nodeScanCycleEnd _ => true
  | .nodeContentionTx _ => true
  | .nodeComparatorTrip _ _ _ held counter => decide (held < 2 ^ 16) && decide (counter < 2 ^ 32)
  | .nodeLoopSwitchClose _ lo hi => decide (lo < 2 ^ 16) && decide (hi < 2 ^ 16)
  | .nodeSupplyLow _ => true
  | .nodeRestartDone _ => true
  | .nodeBankFallback _ => true
  | .balancingPlan => true
  | .capCommitDue => true
  | .capCommitRetry => true
  | .countCheckpoint => true
  | .outerTick m => m.wf
  | .innerEvaluation _ m => m.wf
  | .overrunClear => true
  | .isumWarning _ => true
  | .refPeriodBoundary _ => true
  | .peakLimitEvent _ d _ => decide (d ≤ 64)
  | .loadRelease fast _ => fast.length == 16 && fast.all (· ≤ 64)
  | .loadStep fast => fast.length == 16 && fast.all (· ≤ 64)
  | .currentInputSaturated _ d => d.length == 4 && d.all (· ≤ 64)
  | .currentInputLost _ => true
  | .driverFault _ => true
  | .readbackMismatch _ _ _ => true
  | .tempCountWindow _ count => decide (count < 2 ^ 16)
  | .tempLineFail _ => true
  | .phaseShareWarning _ _ => true
  | .trkDwellDone => true
  | .trkHoldEnd => true
  | .trkTimeout => true
  | .stopCurrentLow => true
  | .stopTimeout => true
  | .handoverBoundary _ _ => true
  | .phmFltClr _ _ => true
  | .ctlMode _ => true
  | .ctlCmdI _ => true
  | .ctlCmdP _ => true
  | .ctlCmdV _ => true
  | .coefHold _ => true
  | .coefLoad => true
  | .dispatchPdu _ b _ _ h => h.wf && decide (b.length ≤ 1472)
  | .thmSelfSample _ x => x.wf
  | .thmOutputUpdate => true
  | .graceExpiry _ => true
  | .coolantIoFault _ _ _ => true
  | .xchkDisagreement _ => true
  | .sagWindowOverrun => true
  | .interlockOpen => true
  | .ilkTestPass => true
  | .overcurrent ma => fitsInt 32 ma
  | .isolateLine _ => true
  | .isolationDemandRx b => b.all (Machine.pairWf · 4)
  | .isolationDemandRepeat => true
  | .safetyPdu _ b h => h.wf && decide (b.length ≤ 1472)
  | .pduPairExpiry => true
  | .pduWatchdogExpiry => true
  | .coilTestSlot _ reads _ => decide (reads.length ≤ 4)
  | .closeTimeout _ => true
  | .weldCheck _ _ => true
  | .contactorDropout _ => true
  | .pullinEnd _ => true
  | .lockstepMismatch => true
  | .sagEccScrub corrected _ => decide (corrected < 2 ^ 16)
  | .sagCrcCheck _ => true
  | .sagShuntCompare own => fitsInt 32 own
  | .sagSupplyFault _ => true
  | .x8StreamLost _ => true
  | .loginLockEnd => true
  | .loginIdleEnd => true
  | .heartbeatSend => true
  | .heartbeatRx b _ => Machine.pairWf b 1 && (!Machine.pairCrcOk b || b.length == 28)
  | .heartbeatMissed => true
  | .mirrorPartRx b _ m => Machine.pairWf b 2 && m.wf
  | .switchoverReq b => Machine.pairWf b 3
  | .switchoverReady b _ => Machine.pairWf b 3
  | .switchoverRefuse b => Machine.pairWf b 3
  | .switchoverTake b => Machine.pairWf b 3
  | .switchoverAbandon b => Machine.pairWf b 3
  | .switchoverTimeout => true
  | .handoverAckTimeout => true
  | .pathsRelease => true
  | .takeoverDecision => true
  | .reserveTest own partner => decide (own < 2 ^ 16) && decide (partner < 2 ^ 16)
  | .hello x => x.wfAs 1
  | .regRead x => x.wfAs 2
  | .regWrite x _ => x.wfAs 3
  | .mbxReq x => x.wfAs 4
  | .mbxPoll x => x.wfAs 5
  | .bulkRead x diff => x.wfAs 6 && decide (diff.length ≤ 22)
  | .attnAck x => x.wfAs 8
  | .bye x => x.wfAs 9
  | .updBlock x => x.wfAs 10
  | .keepalive x => x.wfAs 11
  | .datagramDiscard _ h n => h.wf && decide (n < 2 ^ 16)
  | .attnRetry num _ => decide (num < 2 ^ 16)
  | .sessionTimeout num => decide (num < 2 ^ 16)
  | .mbxPendingReply _ => true
  | .portLinkChange _ _ => true
  | .ptpSyncRx m logInterval ingress origin ms =>
    m.wf && fitsInt 8 logInterval && fitsInt 80 ingress && origin.all (fitsInt 80) && decide (ms < 2 ^ 16)
  | .ptpAnnounceRx m rank _ => m.wf && decide (rank < 2 ^ 32)
  | .ptpPdelayReqRx m => m.wf
  | .ptpDelayRespRx m rx tx ingress => m.wf && fitsInt 80 rx && fitsInt 80 tx && fitsInt 80 ingress
  | .announceTimeout _ => true
  | .syncLoss => true
  | .holdoverExpiry => true
  | .secMarkReached => true
  | .extTimeUpdate _ _ => true
  | .lmpTrig _ _ => true
  | .triggerReached _ => true
  | .lmpCorr _ _ => true
  | .registerWrite _ _ _ _ => true
  | .mbxRing _ _ => true
  | .mbxBufferWrite _ _ _ => true
  | .mgpTakeRequest => true
  | .mbxReplyPosted _ _ => true
  | .cmdConnect _ => true
  | .cmdDispatchOn _ => true
  | .cmdDispatchOff _ => true
  | .cmdOpen _ => true
  | .cmdIsolationReset _ => true
  | .cmdReset _ => true
  | .cmdDomainPower _ => true
  | .cmdSwap _ => true
  | .cmdSelftest _ r => r.wf
  | .cmdHealth _ => true
  | .cmdSchedLoad _ => true
  | .cmdSchedInfo _ => true
  | .cmdBalCtl _ => true
  | .cmdBalStatus _ => true
  | .cmdCalDischarge _ => true
  | .cmdCapReport _ => true
  | .cmdCapWrite _ => true
  | .cmdCapCommit _ => true
  | .cmdParamRead _ => true
  | .cmdParamWrite _ => true
  | .cmdSettingsCommit _ => true
  | .cmdSettingsDefault _ => true
  | .cmdPairWrite _ => true
  | .cmdPairClear _ => true
  | .cmdPairRead _ => true
  | .cmdLinkKeyChange _ => true
  | .cmdNodeCmd _ => true
  | .cmdLogRead _ => true
  | .cmdLogClear _ => true
  | .cmdUpdateBegin _ => true
  | .cmdUpdateStage _ => true
  | .cmdUpdateActivate _ => true
  | .cmdUpdateAbort _ => true
  | .cmdUpdateStatus _ => true
  | .cmdSagLogin _ => true
  | .cmdSagStage _ => true
  | .cmdSagCommit _ => true
  | .cmdSagAbort _ => true
  | .cmdSagPassword _ => true
  | .cmdSagLogRead _ => true
  | .cmdSagLogAck _ => true
  | .loaderCopyDone _ => true
  | .newMgpReady => true
  | .newMgpTimeout => true
  | .saggarReset => true
  | .blockForwardRepeat reply => reply.all (fun d => decide (d.length ≤ 1452))
  | .dn8NodeStage _ => true
  | .dn8NodeActivate => true
  | .logRecordWrite => true
  | .logBootScan => true
  | .logHourlyFree => true
  | .isolationSnapshot => true
  | .mramScrub corrected bad => decide (corrected < 2 ^ 16) && bad.all (fun x => decide (x < 0x800000))
  | .pd0Backup => true
  | .spyR addr n => decide (addr < 2 ^ 32) && decide (n < 2 ^ 32)
  | .spyW addr _ _ => decide (addr < 2 ^ 32)
  | .spyP index n => decide (index < 2 ^ 32) && decide (n < 2 ^ 32)
  | .spyPw index _ => decide (index < 2 ^ 32)
  | .spyCsm g n => decide (g < 2 ^ 32) && decide (n < 2 ^ 32)
  | .spyLog slot n => decide (slot < 2 ^ 32) && decide (n < 2 ^ 32)
  | .spyHealth => true
  | .spyKeys => true
  | .spyTraceCe _ _ => true
  | .spyTraceFsq => true
  | .spyM _ bytes => decide (bytes.length ≤ 1472)
  | .spySagLogin password => decide (password.length ≤ 128)
  | .spySagStage index _ => decide (index < 2 ^ 32)
  | .spySagCommit => true
  | .spySagAbort => true
  | .spyReset => true
  | .spyBye => true
  | .spyCtrlC => true
  | .feedRestored _ => true
  | .nodeSelfCheckFail _ code => decide (code < 2 ^ 8)
  | .nodeOwnRestart _ cause => decide (cause < 2 ^ 8)
  | .bothPlantPortsDown => true
  | .referenceCheck _ => true
  | .coilPathOvercurrent _ => true
  | .ptpFollowUpRx m origin ms => m.wf && fitsInt 80 origin && decide (ms < 2 ^ 16)
  | .ptpDelayReqSend _ egress => fitsInt 80 egress
  | .networkServiceFrame _ f => f.wf
  | .spyUnknownLine => true

end Sys2Proof
end

