-- ==== Sys2Proof/Tests/Slice0.lean ====
section
/-! SUPPORT. Tests: the worked examples of the spec, each check of WellFormed, and for the hypotheses of each obligation states and
operands that meet them. -/

namespace Sys2Proof.Tests
open Sys2Proof Sys2Proof.Machine
set_option maxRecDepth 100000
set_option Elab.async false

/-- A running module: every domain powered and unfenced, in STANDBY. -/
def live : State :=
  { State.reset with sys.st := .standby, sys.base := .standby, sys.pd := List.replicate 12 true, sys.fenced := List.replicate 12 false }

/-- The state with this command running on channel 0. -/
def served (code : Nat) (p : List Byte) (s : State) : State :=
  { s with mbx.ch := [{ st := .running, req := some { code := code, tag := 0, len := p.length, params := p } }, {}, {}, {}] }

/-- A command that is RUNNING on channel 0 and whose conditions hold is served there. -/
theorem serves_served {s : State} {code : Nat} {p : List Byte}
    (h : (served code p s).started 0 code = false ∧ s.sys.mgpAway = false ∧
      (Machine.moves code = true → (served code p s).settled = true) ∧
      ({ code := code, tag := 0, len := p.length, params := p } : Request).formOk = true ∧
      (served code p s).accepts { code := code, tag := 0, len := p.length, params := p } = true) :
    (served code p s).Serves 0 code p :=
  ⟨rfl, h.1, h.2.1, h.2.2.1, _, rfl, rfl, rfl, h.2.2.2.1, h.2.2.2.2⟩

/-- The state with this entry at the start of the active bank, and due. -/
def dueNow (w : Nat) (s : State) : State := { s with fsq.running := true, fsq.bank0 := memPutL [] 0 (leBytes 16 w) }

/-- An entry placed at the start of the bank of a running FSQ is due. -/
theorem due_now {s : State} {c w : Nat}
    (h : (let f := Fsq.passAnnounced 0 [] 4096 (dueNow w s).fsq
      f.running = true ∧ f.tableDone = false ∧ bankEntry (f.bank f.active) f.entry = w ∧
      reached 0 (f.startOf w) = true ∧ entBadClass w = false ∧ entClass w = c ∧ entReservedBits w = false)) :
    (dueNow w s).EntryDue c {} w :=
  ⟨h.1, h.2.1, h.2.2.1, h.2.2.2.1, h.2.2.2.2.1, h.2.2.2.2.2.1, h.2.2.2.2.2.2, rfl⟩

/-- A session of version 3. -/
def sess1 : Session := { num := 1, ver := 3, host := none, mask := 0, port := .a, addr := 0, udp := 0 }

/-- A request of this type and payload in it. -/
def txReq (ty : Nat) (p : List Byte) : Tx :=
  { dg := leBytes 2 0x4C50 ++ [3, BitVec.ofNat 8 ty] ++ leBytes 2 1 ++ leBytes 2 1 ++ leBytes 2 p.length ++ leBytes 2 0 ++ p }

/-- The state with that session open. -/
def joined (s : State) : State := { s with plk.sessions := [sess1] }

theorem lands_of {s : State} {p : PortId} {h : Net} {n k : Nat}
    (l : s.up 9 = true ∧ s.reaches p h = true ∧ h.discarded n = false ∧ h.dudp = k) : s.Lands p h n k := l

/-- A request in that session is one to carry out. -/
theorem txOk_joined {s : State} {ty : Nat} {x : Tx} (h : (s.up 9 = true ∧ s.reaches x.port x.toNet = true ∧
    x.toNet.discarded x.dg.length = false ∧ x.toNet.dudp = 48048) ∧ x.headOk = true ∧ x.type = ty ∧ x.session = 1 ∧
    payloadOk ty x.payload = true ∧ x.ver = 3 ∧ typeFrom ty ≤ 3) : (joined s).TxOk x ty 0 :=
  ⟨h.1, h.2.1, h.2.2.1, by rw [h.2.2.2.1]; rfl, h.2.2.2.2.1, sess1, rfl, h.2.2.2.2.2.1, fun y => absurd y (by decide), h.2.2.2.2.2.2⟩

/-- A safety PDU of this sequence number, of connection 1 with watchdog time 100, that commands PERMIT. -/
def pduOf (seq : Nat) : List Byte :=
  let b := leBytes 16 (0x01C1 + seq * 2 ^ 16 + 2 ^ 32 + 100 * 2 ^ 64 + 0x5AA5 * 2 ^ 80)
  b ++ leBytes 4 (crc32c b)

/-- A dispatch PDU of this sequence number, of connection 1, with one entry. -/
def dispOf (seq : Nat) : List Byte :=
  let b := leBytes 24 (0x01D1 + seq * 2 ^ 16 + 2 ^ 32 + 2 ^ 96)
  b ++ leBytes 4 (crc32c b)

/-- A password passes the check against its own digest. -/
theorem pwOk_self {g : Sag} {salt : Nat} {l : List Byte} (h : g.pw = some (salt, pwDigest salt l)) : g.pwOk l = true := by
  simp [Sag.pwOk, h]

/-- A store whose slots all hold this record, written now. -/
theorem choose_full {l : Log} {n : Nat} (hn : 65536 ≤ n)
    (h : l.slots = List.replicate n (0, { pcc := 0, opsec := 0, time := 0, code := 0, sev := 0, src := 0, data := [] }, 0)) (h1 : l.freed = []) (h2 : l.seq = 0) (h3 : l.floor = 0) : l.choose 0 0 = none := by
  have hu : l.used = l.slots := by simp [Log.used, h, h1, Log.beforeFloor, Log.back, h2, h3]
  simp [Log.choose, Log.full, hu, h, hn, settled, Log.oldest]

/-- A group that alone wants to bleed is in the mask of its node. -/
theorem balMask_one {s : State} {ref : Rat} (h : ((List.range 8).map (8 * 0 + ·)).filter (s.balWants ref) = [0])
    (hm : s.parN P.estBalMaxNode = 4) : bitOf (s.balMask ref 0) 0 = true := by
  have hb : s.balBefore ref 0 0 = false := by simp [State.balBefore, Rat.lt_irrefl]
  unfold State.balMask
  rw [h]
  simp [hb, hm, List.range_succ]
  decide

/-- A frame under this key. -/
def frameBy (k : Nat) (h : Head) (p : List Byte) : RxFrame := { bytes := sealFrame k h p }

/-- A frame under the key of epoch 0 of the string link key 1, of a module whose SNID is 0. -/
def frameOf (h : Head) (p : List Byte) : RxFrame := frameBy (epochKey 1 0 0) h p

/-- A synchronised node 0 of that string. -/
def node0 : Dn8 := { st := .synced, keyed := true, kL := 1, index := some 0 }

/-- A check that passes with these bytes answers them. -/
theorem ok_of {x : Except RxFail (List Byte)} {p : List Byte} (h : x.toOption = some p) : x = .ok p := by
  cases x <;> simp_all [Except.toOption]

/-- A pair-link message with its CRC. -/
def pairOf (b : List Byte) : List Byte := b ++ leBytes 4 (crc32c b)

/-! Worked examples of the spec. -/

/-- A mirror push with every part of its right size. -/
def mirrorFull : Mirror :=
  { recs := List.replicate 384 {}, mea := some {}, ph := List.replicate 16 {}, pair := List.replicate 48 {} }

/-- A mirror push of the right sizes is well formed. -/
theorem test_wf_mirror_full : (Instr.mirrorPartRx (pairOf [2, 0]) 0 mirrorFull).wf = true := by decide

/-- An empty queue: the block idles (log entry 1). -/
theorem test_idle : step State.reset = .next State.reset := rfl

/-- The example after R4: 0x0000_1000 is 8,192 ns ahead of 0xFFFF_F000, and is reached at 0x0000_1000. -/
theorem test_compare : diffT 0xFFFFF000 0x1000 = -8192 ∧ reached 0xFFFFF000 0x1000 = false ∧ reached 0x1000 0x1000 = true := by decide

/-- The worked encodings after R10. -/
theorem test_encodings : enc 32 (-1600000) = 0xFFE79600 ∧ enc 16 (-640) = 0xFD80 ∧ enc 16 (-235) = 0xFF15 ∧ dec 16 0xFF15 = -235 := by decide

/-- R347: the check value of CRC-32C over "123456789". -/
theorem test_crc32c : crc32c [0x31, 0x32, 0x33, 0x34, 0x35, 0x36, 0x37, 0x38, 0x39] = 0xE3069283 := by decide

/-- The examples of R417 and R431. -/
theorem test_addresses :
    regAt 0x3B140 = some (.unit 1 0) ∧ regAt 0x8400 = some (.phm 0) ∧ regAt 0xD500 = some (.phPar 5 0) ∧
    regAt 0x3CB20 = some (.thmG 200) ∧ regAt 0x39E0C = some (.node 30 3) ∧ regAt 0x3C144 = some (.pmir 17) := by decide

/-- The example of the dictionary: G200 starts at 0x1640, and SAG_DEG_TIME is 0x030B. -/
theorem test_indices : P.group 200 0 = 0x1640 ∧ P.sagDegTime = 0x030B := by decide

/-- The monitor's example: DISPATCH entered from CONNECTED reads 0x0006_0566, with MAINTENANCE over it 0x0006_0669. -/
theorem test_sys_state :
    { live with sys.st := .dispatch, sys.base := .dispatch, sys.prev := .connected, sys.holdupOk := true, sag.ilkDone := true }.sysWord 16 =
      0x60566 ∧
    { live with sys.st := .maintenance, sys.base := .dispatch, sys.prev := .dispatch, sys.holdupOk := true, sag.ilkDone := true }.sysWord 16 =
      0x60669 := by decide

/-- The example after R344: ISOLATED from DEGRADED reads 0x000E_0788. -/
theorem test_sys_state_isolated :
    { live with sys.st := .isolated, sys.base := .isolated, sys.prev := .degraded, sys.holdupOk := true, sag.ilkDone := true,
                sag.latch := true }.sysWord 16 = 0xE0788 := by decide

/-- The node run of the example after R176: 40 misses, then four valid sweeps, with the counts 25 and 4. -/
def nodeMiss (m : MNode) : MNode := ({ m with stale := true, validNow := false, reason := 1, decided := true } : MNode).frameEnd 25 4

/-- A frame with a valid sweep. -/
def nodeValid (m : MNode) : MNode := ({ m with stale := false, validNow := true, decided := true } : MNode).frameEnd 25 4

/-- The example after R176: LOST at the 25th miss, and cleared at the fourth valid sweep. -/
theorem test_node_lost :
    (Nat.repeat nodeMiss 24 {}).lost = false ∧ (Nat.repeat nodeMiss 25 {}).lost = true ∧
    (Nat.repeat nodeValid 3 (Nat.repeat nodeMiss 40 {})).lost = true ∧ (Nat.repeat nodeValid 4 (Nat.repeat nodeMiss 40 {})).lost = false := by decide

/-- The example after R176: MEA_N_STAT of the node 31 misses on reads 0x011F_1F03. -/
theorem test_node_stat :
    (live.modMn 30 (fun _ => { Nat.repeat nodeMiss 31 {} with age := 31 })).live (.node 30 3) = 0x011F1F03 := by decide

/-- The open wire of the example: the first failure reads 0x0000_0008, the second 0x0008_0000. -/
theorem test_open_wire :
    let s := (live.modMn 20 (fun x => { x with stale := false })).openWire 20 3 (-10200)
    s.live (.node 20 4) = 0x8 ∧ (s.openWire 20 3 (-10200)).live (.node 20 4) = 0x80000 := by decide +kernel

/-- The record of that failure in the example of the full log: CODE 0x0401, SEV 2, SRC 0, and its data. -/
theorem test_open_wire_record :
    ((live.modMn 20 (fun x => { x with stale := false })).openWire 20 3 (-10200)).log.queue.map (fun r => (r.code, r.sev, r.src, r.data)) =
      [(0x0401, 2, 0, [20, 3, 0x28, 0xD8, 0, 0])] := by decide +kernel

/-- The example of R164: at 3.2000 V and 2,133 mΩ a result from 1,125 to 1,875 mA passes. -/
theorem test_switch_test :
    iExp 32000 2133 = 1500 ∧ live.bstClass 100 32000 1124 = 1 ∧ live.bstClass 100 32000 1125 = 2 ∧ live.bstClass 100 32000 1875 = 2 ∧
    live.bstClass 100 32000 1876 = 3 := by decide

/-- The example of group G47: the correction is 7, and words 1 and 2 of the record read as it says. -/
theorem test_group_voltage :
    (live.skew 47 { stale := false, vRaw := 32812, di := 440 }).vS = 32819 ∧
    diOf 1204400 1200000 = 440 ∧ ({ vRaw := 32812, vS := 32819, iLat := 1204400 } : GroupRec).word 1 = 0x001260B08033802C := by decide

/-- The example of R247: PH5 of twelve phases at 40 kHz. -/
theorem test_carrier : carrierOfs 100000 12 5 = 0xA2C2 := by decide

/-- The example of R254: 620 kHz is 90 °C, 0x1680. -/
theorem test_phase_temp :
    (match exec (.tempCountWindow 3 620) live with | .next t => some (nth t.phm.ph 3 {}).temp | _ => none) = some 0x1680 := by decide

/-- The example of the mailboxes: MBX_CTL0 reads 0x0012_0030, and bits 15:0 of MBX_CTL1 read 0x130. -/
theorem test_mailbox_control :
    let s := { live with mbx.ch := [{ st := .done, doneCnt := 18 }, { st := .done, src := .portB }, {}, {}] }
    s.live (.mbx 0) = 0x120030 ∧ s.live (.mbx 1) = 0x130 := by decide

/-- The example of the lamplighter: 1.25 s after 0xF000_0000. -/
theorem test_apply_time : addT 0xF0000000 1250000000 = 0x3A817C80 ∧ diffT 0x0DCD6500 0x3A817C80 = -750000000 := by decide

/-! Each check of WellFormed refuses an operand that does not fit. -/

/-- R61. -/
theorem test_wf_selftest :
    [(.selftestDone { pwmFail := 65536 } : Instr), .selftestDone { detail := 2 ^ 32 }, .cmdSelftest 0 { pwmFail := 65536 }].all (fun i =>
      !i.wf) = true := by
  decide

/-- R268, R302. -/
theorem test_wf_tick :
    [(.housekeepingTick { hid := [0, 1, 2] } : Instr), .housekeepingTick { hid := [0, 1, 2, 16] }, .housekeepingTick { vStr := 2 ^ 31 },
      .housekeepingTick { vBus := 2 ^ 31 }, .housekeepingTick { vPre := -(2 ^ 31) - 1 }, .housekeepingTick { vLink := 2 ^ 31 },
      .housekeepingTick { shunt := 2 ^ 31 }, .housekeepingTick { loopUa := 65536 }, .housekeepingTick { loop2Ua := 65536 },
      .housekeepingTick { speed := 256 }].all (fun i => !i.wf) = true := by
  decide

/-- R307, R314, R321. -/
theorem test_wf_thermal :
    [(.thermalSample {} { ro := [] } : Instr), .thermalSample {} { cool := [0] }, .thermalSample {} { flow := [] }, .thermalSample {}
      { tach := [] }, .thermalSample {} { ro := List.replicate 16 32768 }, .thmSelfSample 0 { cool := [0, 0, 0, 32768] }].all (fun i =>
      !i.wf) = true := by
  decide

/-- R108, R111, R147. -/
theorem test_wf_frame :
    [(.reportRx 0 0 { rxLt := 2 ^ 40 } : Instr), .reportRx 0 0 { bytes := List.replicate 128 0 }, .joinRequestRx 0
      { bytes := List.replicate 128 0 }, .contentionRx 0 { bytes := List.replicate 128 0 }, .ackRx 0 { bytes := List.replicate 128 0 },
      .nodeCommandRx 0 { bytes := List.replicate 128 0 }, .nodeFirmwareRx 0 { bytes := List.replicate 128 0 }, .nodeJoinReplyRx 0
      { bytes := List.replicate 128 0 }, .nodeBeaconRx 0 0 { bytes := List.replicate 128 0 } 0, .nodeBeaconRx 0 0 {} (2 ^ 40), .beacon {}
      (2 ^ 40) 0].all (fun i => !i.wf) = true := by
  decide

/-- R149. -/
theorem test_wf_sweep :
    [(.nodeSweep 0 { v := [] } : Instr), .nodeSweep 0 { t := [] }, .nodeSweep 0 { v := List.replicate 8 65536 }, .nodeSweep 0
      { t := List.replicate 4 32768 }, .nodeSweep 0 { vsup := 65536 }, .nodeSweep 0 { vref := 65536 }].all (fun i => !i.wf) = true := by
  decide

/-- R275. -/
theorem test_wf_outer :
    [(.outerTick { dtNs := 2 ^ 32 } : Instr), .outerTick { ish := 2 ^ 31 }, .outerTick { vStr := 2 ^ 31 }, .outerTick { vBus := 2 ^ 31 },
      .outerTick { vLink := 2 ^ 31 }, .outerTick { vPre := 2 ^ 31 }].all (fun i => !i.wf) = true := by
  decide

/-- R251, R290, R293. -/
theorem test_wf_evaluation :
    [(.innerEvaluation 0 { fast := List.replicate 16 32, dtNs := 2 ^ 32 } : Instr), .innerEvaluation 0
      { fast := List.replicate 16 32, bits := 0, ones := 0 }, .innerEvaluation 0 { fast := List.replicate 16 32, ones := 501 },
      .innerEvaluation 0 { fast := List.replicate 16 32, bits := 65536 }, .innerEvaluation 0
      { fast := List.replicate 16 32, vStr := 2 ^ 31 }, .innerEvaluation 0 { fast := List.replicate 16 32, vBus := 2 ^ 31 },
      .innerEvaluation 0 { fast := List.replicate 16 32, samples := [65] }, .innerEvaluation 0
      { fast := List.replicate 16 32, samples := List.replicate 129 0 }, .innerEvaluation 0
      { fast := List.replicate 16 32, fastAgo := 401 }, .innerEvaluation 0 { fast := [] }, .innerEvaluation 0
      { fast := List.replicate 16 65 }].all (fun i => !i.wf) = true := by
  decide

/-- R365, R366. -/
theorem test_wf_heartbeat :
    [(.heartbeatRx (List.replicate 1501 0) false : Instr), .heartbeatRx (pairOf [2, 0]) false, .heartbeatRx (pairOf [1, 0]) false].all
      (fun i => !i.wf) = true := by
  decide

/-- R365. -/
theorem test_wf_pair :
    [(.isolationDemandRx (some (pairOf [9, 0])) : Instr), .switchoverReq (pairOf [9, 0]), .switchoverReady (pairOf [9, 0]) 0,
      .switchoverRefuse (pairOf [9, 0]), .switchoverTake (pairOf [9, 0]), .switchoverAbandon (pairOf [9, 0])].all (fun i => !i.wf) = true
      := by
  decide

/-- R90, R367. -/
theorem test_wf_mirror :
    [(.mirrorPartRx (pairOf [9, 0]) 0 mirrorFull : Instr), .mirrorPartRx (pairOf [2, 0]) 0 { mirrorFull with recs := [{}] }, .mirrorPartRx
      (pairOf [2, 0]) 0 { mirrorFull with mea := some { nodes := [] } }, .mirrorPartRx (pairOf [2, 0]) 0 { mirrorFull with ph := [] },
      .mirrorPartRx (pairOf [2, 0]) 0 { mirrorFull with pair := [] }, .mirrorPartRx (pairOf [2, 0]) 0 { mirrorFull with enMask := 65536 },
      .mirrorPartRx (pairOf [2, 0]) 0 { mirrorFull with stopRamp := 2 ^ 32 }, .mirrorPartRx (pairOf [2, 0]) 0
      { mirrorFull with active := 2 }].all (fun i => !i.wf) = true := by
  decide

/-- R386, R388, R389. -/
theorem test_wf_transaction :
    [(.keepalive { addr := 2 ^ 128 } : Instr), .keepalive { udp := 65536 }, .keepalive { dst := 2 ^ 128 }, .keepalive { dudp := 65536 },
      .keepalive { vlan := 4095 }, .bulkRead {} (List.replicate 23 0), .keepalive { dg := List.replicate 1473 0 }, .hello
      { addr := 2 ^ 128 }, .hello { dg := leBytes 2 0x4C50 ++ [3, 9, 0, 0, 0, 0, 0, 0, 0, 0] }, .regRead { addr := 2 ^ 128 }, .regRead
      { dg := leBytes 2 0x4C50 ++ [3, 9, 0, 0, 0, 0, 0, 0, 0, 0] }, .mbxReq { addr := 2 ^ 128 }, .mbxReq
      { dg := leBytes 2 0x4C50 ++ [3, 9, 0, 0, 0, 0, 0, 0, 0, 0] }, .mbxPoll { addr := 2 ^ 128 }, .mbxPoll
      { dg := leBytes 2 0x4C50 ++ [3, 9, 0, 0, 0, 0, 0, 0, 0, 0] }, .bulkRead { addr := 2 ^ 128 } [], .bulkRead
      { dg := leBytes 2 0x4C50 ++ [3, 9, 0, 0, 0, 0, 0, 0, 0, 0] } [], .attnAck { addr := 2 ^ 128 }, .attnAck
      { dg := leBytes 2 0x4C50 ++ [3, 9, 0, 0, 0, 0, 0, 0, 0, 0] }, .bye { addr := 2 ^ 128 }, .bye
      { dg := leBytes 2 0x4C50 ++ [3, 8, 0, 0, 0, 0, 0, 0, 0, 0] }, .updBlock { addr := 2 ^ 128 }, .updBlock
      { dg := leBytes 2 0x4C50 ++ [3, 9, 0, 0, 0, 0, 0, 0, 0, 0] }, .keepalive { addr := 2 ^ 128 }, .keepalive
      { dg := leBytes 2 0x4C50 ++ [3, 9, 0, 0, 0, 0, 0, 0, 0, 0] }, .regWrite { addr := 2 ^ 128 } 0, .regWrite
      { dg := leBytes 2 0x4C50 ++ [3, 4, 0, 0, 0, 0, 0, 0, 0, 0] } 0].all (fun i => !i.wf) = true := by
  decide

/-- R407. -/
theorem test_wf_ptp :
    [(.ptpPdelayReqRx { domain := 256 } : Instr), .ptpPdelayReqRx { seq := 65536 }, .ptpPdelayReqRx { corr := 2 ^ 63 }, .ptpSyncRx {} 128
      0 none 0, .ptpSyncRx {} 0 (2 ^ 79) none 0, .ptpSyncRx {} 0 0 (some (2 ^ 79)) 0, .ptpSyncRx {} 0 0 none 65536, .ptpSyncRx
      { domain := 256 } 0 0 none 0, .ptpAnnounceRx { domain := 256 } 0 0, .ptpAnnounceRx {} (2 ^ 32) 0, .ptpDelayRespRx { domain := 256 }
      0 0 0, .ptpDelayRespRx {} (2 ^ 79) 0 0, .ptpDelayRespRx {} 0 (2 ^ 79) 0, .ptpDelayRespRx {} 0 0 (2 ^ 79), .ptpFollowUpRx
      { domain := 256 } 0 0, .ptpFollowUpRx {} (2 ^ 79) 0, .ptpFollowUpRx {} 0 65536, .ptpDelayReqSend .a (2 ^ 79)].all (fun i => !i.wf) =
      true := by
  decide

/-- R152, R159, R325. -/
theorem test_wf_measure :
    [(.currentLatch {} (2 ^ 31) 0 0 0 : Instr), .currentLatch {} 0 (2 ^ 31) 0 0, .currentLatch {} 0 0 (2 ^ 31) 0, .currentLatch {} 0 0 0
      (2 ^ 63), .loopClassChange 65536, .nodeReportTx 0 (2 ^ 32), .nodeOpenWireTest 0 32768, .nodeSwitchTest 0 32768, .nodeComparatorTrip
      0 0 false 65536 0, .nodeComparatorTrip 0 0 false 0 (2 ^ 32), .nodeLoopSwitchClose 0 65536 0, .nodeLoopSwitchClose 0 0 65536,
      .nodeSelfCheckFail 0 256, .nodeOwnRestart 0 256].all (fun i => !i.wf) = true := by
  decide

/-- R251, R253, R254. -/
theorem test_wf_phases :
    [(.peakLimitEvent 0 65 0 : Instr), .loadRelease [] 0, .loadRelease (List.replicate 16 65) 0, .loadStep [], .loadStep (List.replicate
      16 65), .currentInputSaturated 0 [], .currentInputSaturated 0 [0, 0, 0, 65], .tempCountWindow 0 65536, .overcurrent (2 ^ 31),
      .sagEccScrub 65536 false, .sagShuntCompare (2 ^ 31), .coilTestSlot 0 (List.replicate 5 (false, false)) false, .reserveTest 65536 0,
      .reserveTest 0 65536].all (fun i => !i.wf) = true := by
  decide

/-- R401, R404, R348. -/
theorem test_wf_messages :
    [(.dispatchPdu .a (List.replicate 1473 0) 0 true {} : Instr), .dispatchPdu .a [] 0 true { vlan := 4095 }, .safetyPdu .a
      (List.replicate 1473 0) {}, .safetyPdu .a [] { dst := 2 ^ 128 }, .datagramDiscard .a { dudp := 65536 } 0, .datagramDiscard .a {}
      65536, .attnRetry 65536 0, .sessionTimeout 65536, .networkServiceFrame .a { mac := 2 ^ 48 }, .networkServiceFrame .a
      { toMac := 2 ^ 48 }, .networkServiceFrame .a { src := 2 ^ 128 }, .networkServiceFrame .a { dst := 2 ^ 128 }, .networkServiceFrame .a
      { vlan := 4095 }, .networkServiceFrame .a { prio := 8 }, .networkServiceFrame .a { data := List.replicate 1481 0 },
      .csmArbitrationRound [65536], .blockForwardRepeat (some (List.replicate 1453 0)), .mramScrub 65536 [], .mramScrub 0 [0x800000]].all
      (fun i => !i.wf) = true := by
  decide

/-- R491, R493. -/
theorem test_wf_monitor :
    [(.spyR (2 ^ 32) 1 : Instr), .spyR 0 (2 ^ 32), .spyW (2 ^ 32) 0 0, .spyP (2 ^ 32) 1, .spyP 0 (2 ^ 32), .spyPw (2 ^ 32) 0, .spyCsm (2 ^
      32) 1, .spyCsm 0 (2 ^ 32), .spyLog (2 ^ 32) 1, .spyLog 0 (2 ^ 32), .spyM 0 (List.replicate 1473 0), .spySagLogin (List.replicate 129
      0), .spySagStage (2 ^ 32) 0].all (fun i => !i.wf) = true := by
  decide

/-! The hypotheses of the obligations can be met. -/

/-- States and operands that meet the hypotheses of each clause of FeedsAndBrownOut. -/
theorem test_hyp_FeedsAndBrownOut :
    (∃ (s : State) (a1 : Bool) (b : Bool), (s.sys.st ≠ OpState.off ∨ (a1 || b) = false)) ∧
    (∃ (s : State) (a3 : Bool) (b : Bool), s.sys.st = OpState.off ∧ (a3 || b) = true ∧ nth s.sys.pd 0 false = true) ∧
    (∃ (s : State), s.sys.st ≠ OpState.off ∧ s.sys.boWarn = false) ∧
    (∃ (s : State), (s.sys.st = OpState.off ∨ s.sys.boWarn = true)) ∧
    (∃ (s : State), s.sys.boPhase = BoPhase.warned) ∧
    (∃ (s : State), s.sys.boPhase ≠ BoPhase.warned) ∧
    (∃ (s : State), s.sys.boPhase = BoPhase.coilsOff) ∧
    (∃ (s : State), s.sys.boPhase ≠ BoPhase.coilsOff) ∧
    (∃ (s : State), s.sys.boPhase = BoPhase.domainsOff ∧ s.sys.feedBack = false) ∧
    (∃ (s : State), s.sys.boPhase = BoPhase.domainsOff ∧ s.sys.feedBack = true) ∧
    (∃ (s : State), s.sys.boPhase ≠ BoPhase.domainsOff) ∧
    (∃ (s : State), s.sys.boPhase = BoPhase.none) ∧
    (∃ (s : State), s.sys.boPhase ≠ BoPhase.none ∧ s.sys.st ≠ OpState.off) ∧
    (∃ (s : State), s.sys.boPhase ≠ BoPhase.none ∧ s.sys.st = OpState.off ∧ s.log.bankedBo = true) :=
  ⟨⟨live, true, true, by decide⟩,
   ⟨{ live with sys.st := .off, sys.pd := live.sys.pd.set 0 true }, true, true, by decide⟩,
   ⟨{ live with sys.boWarn := false }, by decide⟩,
   ⟨{ live with sys.st := .off }, by decide⟩,
   ⟨{ live with sys.boPhase := .warned }, by decide⟩,
   ⟨live, by decide⟩,
   ⟨{ live with sys.boPhase := .coilsOff }, by decide⟩,
   ⟨live, by decide⟩,
   ⟨{ live with sys.boPhase := .domainsOff, sys.feedBack := false }, by decide⟩,
   ⟨{ live with sys.boPhase := .domainsOff, sys.feedBack := true }, by decide⟩,
   ⟨live, by decide⟩,
   ⟨{ live with sys.boPhase := .none }, by decide⟩,
   ⟨{ live with sys.boPhase := .warned }, by decide⟩,
   ⟨{ live with sys.st := .off, log.bankedBo := true, sys.boPhase := .warned }, by decide⟩⟩

/-- States and operands that meet the hypotheses of each clause of StartUpGoesFromBootToSelftest. -/
theorem test_hyp_StartUpGoesFromBootToSelftest :
    (∃ (s : State), s.sys.st = OpState.boot) ∧
    (∃ (s : State) (d : Fin 12), s.sys.powering.head? ≠ some d.val) ∧
    (∃ (s : State) (d : Fin 12) (l : List Nat), s.sys.powering = d.val :: l ∧ s.sys.pd.length = 12) ∧
    (∃ (s : State) (d : Fin 12) (e : Nat) (l : List Nat), s.sys.powering = d.val :: e :: l) ∧
    (∃ (s : State) (d : Fin 12), s.sys.powering = [d.val] ∧ s.sys.st ≠ OpState.boot ∧ s.sys.st ≠ OpState.off ∧ s.fsq.running = false) ∧
    (∃ (s : State), s.sys.st ≠ OpState.selftest) ∧
    (∃ (s : State), s.sys.st = OpState.selftest) ∧
    (∃ (s : State), (s.prl.owner = true ∨ ¬(s.sys.st = OpState.standby ∨ s.sys.st = OpState.isolated ∨ s.sys.st = OpState.maintenance))) ∧
    (∃ (s : State) (high : Bool), s.prl.owner = false ∧ (s.sys.st = OpState.standby ∨ s.sys.st = OpState.isolated ∨ s.sys.st =
      OpState.maintenance) ∧ (high = true ∨ s.prl.mode = 1 ∧ s.prl.pos = 1 ∧ s.prl.partner.isSome = true ∧ s.prl.hbQuiet < 41)) ∧
    (∃ (s : State), s.prl.owner = false ∧ (s.sys.st = OpState.standby ∨ s.sys.st = OpState.isolated ∨ s.sys.st = OpState.maintenance) ∧
      s.prl.mode = 1 ∧ s.prl.pos = 1 ∧ s.prl.partner = none ∧ s.prl.hbQuiet < 41) ∧
    (∃ (s : State), s.prl.owner = false ∧ (s.sys.st = OpState.standby ∨ s.sys.st = OpState.isolated ∨ s.sys.st = OpState.maintenance) ∧
      (s.prl.mode ≠ 1 ∨ s.prl.pos = 0 ∨ 41 ≤ s.prl.hbQuiet)) :=
  ⟨⟨{ live with sys.st := .boot }, by decide⟩,
   ⟨live, 0, by decide⟩,
   ⟨{ live with sys.powering := 0 :: [] }, 0, [], by decide⟩,
   ⟨{ live with sys.powering := 0 :: 0 :: [] }, 0, 0, [], by decide⟩,
   ⟨{ live with sys.powering := [0], fsq.running := false }, 0, by decide⟩,
   ⟨live, by decide⟩,
   ⟨{ live with sys.st := .selftest }, by decide⟩,
   ⟨{ live with prl.owner := true }, by decide⟩,
   ⟨{ live with prl.owner := false, sys.st := .standby }, true, by decide⟩,
   ⟨{ live with prl.owner := false, sys.st := .standby, prl.mode := 1, prl.pos := 1, prl.partner := none }, by decide⟩,
   ⟨{ live with prl.owner := false, sys.st := .standby }, by decide⟩⟩

/-- States and operands that meet the hypotheses of each clause of MgpGoesAwayAndReturns. -/
theorem test_hyp_MgpGoesAwayAndReturns :
    (∃ (s : State), s.sys.st = OpState.off) ∧
    (∃ (s : State), (s.sys.st = OpState.standby ∨ s.sys.st = OpState.isolated ∨ s.sys.st = OpState.pilot) ∧ s.wdRecent = true ∧
      s.sys.boPhase = BoPhase.none) ∧
    (∃ (s : State), s.sys.st ≠ OpState.off ∧ (s.wdRecent = false ∨ s.sys.boPhase ≠ BoPhase.none ∨ ¬(s.sys.st = OpState.standby ∨ s.sys.st
      = OpState.isolated ∨ s.sys.st = OpState.pilot))) ∧
    (∃ (s : State), (s.sys.mgpAway = false ∨ s.sys.mgpStaysAway = true ∨ s.upd.handoff = true)) ∧
    (∃ (s : State), s.sys.mgpAway = true ∧ s.sys.mgpStaysAway = false ∧ s.upd.handoff = false ∧ 8 < s.sag.deg.length) ∧
    (∃ (s : State), s.sys.mgpAway = false) :=
  ⟨⟨{ live with sys.st := .off }, by decide⟩,
   ⟨{ live with sys.st := .standby, sys.boPhase := .none, sys.wdAt := some 0 }, by decide⟩,
   ⟨live, by decide⟩,
   ⟨{ live with sys.mgpAway := false }, by decide⟩,
   ⟨{ live with sys.mgpAway := true, sys.mgpStaysAway := false, upd.handoff := false }, by decide⟩,
   ⟨{ live with sys.mgpAway := false }, by decide⟩⟩

/-- States and operands that meet the hypotheses of each clause of TimersAndContactsMoveTheStateMachine. -/
theorem test_hyp_TimersAndContactsMoveTheStateMachine :
    (∃ (s : State), s.sys.st = OpState.precharge ∧ s.sys.prechgDone = false ∧ ↑(absN (s.pins.vPre - s.pins.vStr)) ≤ s.sys.prechgDv) ∧
    (∃ (s : State), (s.sys.st ≠ OpState.precharge ∨ s.sys.prechgDone = true ∨ s.sys.prechgDv < ↑(absN (s.pins.vPre - s.pins.vStr)))) ∧
    (∃ (s : State), s.spy.openS = true) ∧
    (∃ (s : State), s.spy.openS = false) ∧
    (∃ (s : State), s.pins.aux.length = 4) ∧
    (∃ (s : State), s.sys.st = OpState.precharge ∧ s.sys.prechgDone = true) ∧
    (∃ (s : State), s.phm.trk = Trk.co3Req) ∧
    (∃ (s : State), s.phm.trk = Trk.stopping ∧ s.phm.co3Drop = true) ∧
    (∃ (s : State) (k : Fin 4) (b : Bool), ¬(k = 0 ∧ b = true ∧ s.sys.st = OpState.precharge ∧ s.sys.prechgDone = true) ∧ ¬(k = 3 ∧ b =
      true ∧ s.phm.trk = Trk.co3Req) ∧ ¬(k = 3 ∧ b = false ∧ s.phm.trk = Trk.stopping ∧ s.phm.co3Drop = true)) :=
  ⟨⟨{ live with sys.st := .precharge, sys.prechgDone := false }, by decide⟩,
   ⟨live, by decide⟩,
   ⟨{ live with spy.openS := true }, by decide⟩,
   ⟨{ live with spy.openS := false }, by decide⟩,
   ⟨live, by decide⟩,
   ⟨{ live with sys.st := .precharge, sys.prechgDone := true }, by decide⟩,
   ⟨{ live with phm.trk := .co3Req }, by decide⟩,
   ⟨{ live with phm.trk := .stopping, phm.co3Drop := true }, by decide⟩,
   ⟨live, 0, true, by decide⟩⟩

/-- States and operands that meet the hypotheses of clauses of HousekeepingTickCountsAndProtects, 1 of 2. -/
theorem test_hyp_HousekeepingTickCountsAndProtects :
    (∃ (s : State), s.sys.st = OpState.off) ∧
    (∃ (s : State), s.sys.st ≠ OpState.off ∧ s.resetGoes = true) :=
  ⟨⟨{ live with sys.st := .off }, by decide⟩,
   ⟨{ live with sys.resetDue := 2, sys.pd := List.replicate 11 true }, by decide⟩⟩

/-- States and operands that meet the hypotheses of clauses of HousekeepingTickCountsAndProtects, 2 of 2. -/
theorem test_hyp_HousekeepingTickCountsAndProtects_1 : ∃ (s : State), s.sys.st ≠ OpState.off ∧ s.resetGoes = false :=
  ⟨{ live with sys.pd := List.replicate 11 true }, by decide +kernel⟩

/-- States and operands that meet the hypotheses of each clause of StateMachineFollowsItsTable. -/
theorem test_hyp_StateMachineFollowsItsTable :
    (∃ (s : State), s.sag.latch = true ∧ s.sys.st ≠ OpState.isolated ∧ s.sys.st ≠ OpState.off ∧ s.sys.st ≠ OpState.boot) ∧
    (∃ (s : State), s.sys.st = OpState.precharge ∧ s.aux 0 = true) ∧
    (∃ (s : State), s.sys.st ≠ OpState.precharge) ∧
    (∃ (s : State), s.eff = OpState.connected ∧ s.aux 3 = true) ∧
    (∃ (s : State), s.eff = OpState.dispatch) ∧
    (∃ (s : State), (s.eff = OpState.dispatch ∨ s.eff = OpState.degraded)) ∧
    (∃ (s : State), s.sys.st = OpState.selftest ∧ s.sag.latch = false) ∧
    (∃ (s : State) (c : Option Nat), s.sys.st = OpState.selftest ∧ (c.isSome = true ∨ s.sag.latch = true)) ∧
    (∃ (s : State) (e : Ev), s.sys.st = OpState.maintenance ∧ s.upd.isOpen = false ∧ (e = Ev.sessionEnded ∨ e = Ev.updateEnded)) ∧
    (∃ (s : State), (s.sys.st = OpState.standby ∨ s.sys.st = OpState.connected ∨ s.sys.st = OpState.dispatch ∨ s.sys.st =
      OpState.degraded)) ∧
    (∃ (s : State), s.sys.st = OpState.pilot) ∧
    (∃ (s : State), s.degAny = true ∧ (s.eff = OpState.connected ∨ s.eff = OpState.dispatch)) ∧
    (∃ (s : State), s.degAny = false ∧ s.eff = OpState.degraded) ∧
    (∃ (s : State), (s.sys.st = OpState.standby ∨ s.sys.st = OpState.isolated ∨ s.sys.st = OpState.pilot ∨ s.sys.st = OpState.precharge))
      :=
  ⟨⟨{ live with sag.latch := true }, by decide⟩,
   ⟨{ live with sys.st := .precharge, pins.aux := [true, false, false, false] }, by decide⟩,
   ⟨live, by decide⟩,
   ⟨{ live with sys.st := .connected, pins.aux := [true, true, true, true] }, by decide⟩,
   ⟨{ live with sys.st := .dispatch }, by decide⟩,
   ⟨{ live with sys.st := .dispatch }, by decide⟩,
   ⟨{ live with sys.st := .selftest, sag.latch := false }, by decide⟩,
   ⟨{ live with sys.st := .selftest, sag.latch := true }, none, by decide⟩,
   ⟨{ live with sys.st := .maintenance }, .sessionEnded, by decide⟩,
   ⟨{ live with sys.st := .standby }, by decide⟩,
   ⟨{ live with sys.st := .pilot }, by decide⟩,
   ⟨{ live with sys.st := .connected, sag.deg := live.sag.deg.set 0 true }, by decide⟩,
   ⟨{ live with sys.st := .degraded }, by decide⟩,
   ⟨{ live with sys.st := .standby }, by decide⟩⟩

/-- States and operands that meet the hypotheses of each clause of EntryGateRunsTheDueEntry. -/
theorem test_hyp_EntryGateRunsTheDueEntry :
    (∃ (s : State) (c : Nat) (m : EntryIn) (w : Nat), s.EntryDue c m w) ∧
    (∃ (s : State), s.fsq.running = false) ∧
    (∃ (s : State) (m : EntryIn), (s.fsq.announced m).tableDone = true) ∧
    (∃ (s : State) (m : EntryIn), s.gate 0 m = Gate.idle) ∧
    (∃ (s : State) (m : EntryIn), s.gate 1 m = Gate.idle) ∧
    (∃ (s : State) (m : EntryIn), s.gate 2 m = Gate.idle) ∧
    (∃ (s : State) (m : EntryIn), s.gate 3 m = Gate.idle) ∧
    (∃ (s : State) (m : EntryIn), s.gate 4 m = Gate.idle) ∧
    (∃ (s : State) (m : EntryIn), s.gate 5 m = Gate.idle) ∧
    (∃ (s : State) (m : EntryIn), s.gate 6 m = Gate.idle) ∧
    (∃ (s : State) (m : EntryIn), s.gate 10 m = Gate.idle) ∧
    (∃ (s : State) (m : EntryIn), s.gate 11 m = Gate.idle) ∧
    (∃ (s : State) (m : EntryIn), s.gate 12 m = Gate.idle) ∧
    (∃ (s : State) (m : EntryIn), s.gate 13 m = Gate.idle) ∧
    (∃ (s : State) (m : EntryIn), s.gate 15 m = Gate.idle) ∧
    (∃ (s : State) (c : Nat) (m : EntryIn) (w : Nat), s.EntryDue c { now := m.now, bad := m.bad } w ∧ m.ecc = true) :=
  ⟨⟨dueNow (0 * 2 ^ 24 + 2 ^ 30) live, 0, ({} : EntryIn), 0 * 2 ^ 24 + 2 ^ 30, due_now (by decide)⟩,
   ⟨{ live with fsq.running := false }, by decide⟩,
   ⟨{ live with fsq.tableDone := true }, ({} : EntryIn), by decide⟩,
   ⟨live, ({} : EntryIn), by decide⟩,
   ⟨live, ({} : EntryIn), by decide⟩,
   ⟨live, ({} : EntryIn), by decide⟩,
   ⟨live, ({} : EntryIn), by decide⟩,
   ⟨live, ({} : EntryIn), by decide⟩,
   ⟨live, ({} : EntryIn), by decide⟩,
   ⟨live, ({} : EntryIn), by decide⟩,
   ⟨live, ({} : EntryIn), by decide⟩,
   ⟨live, ({} : EntryIn), by decide⟩,
   ⟨live, ({} : EntryIn), by decide⟩,
   ⟨live, ({} : EntryIn), by decide⟩,
   ⟨live, ({} : EntryIn), by decide⟩,
   ⟨dueNow (0) live, 0, { ecc := true }, 0, due_now (by decide), by decide⟩⟩

/-- States and operands that meet the hypotheses of each clause of EntriesOfTheSequencerRun. -/
theorem test_hyp_EntriesOfTheSequencerRun :
    (∃ (s : State) (m : EntryIn) (w : Nat), s.EntryDue 0 m w) ∧
    (∃ (s : State) (m : EntryIn) (w : Nat), s.EntryDue 4 m w) ∧
    (∃ (s : State) (m : EntryIn) (w : Nat), s.EntryDue 12 m w) ∧
    (∃ (s : State) (m : EntryIn) (w : Nat), s.EntryDue 13 m w ∧ field w 65 64 ≤ 1 ∧ (s.taken m w).linkUp = true ∧ ((s.taken m w).prl.owner
      = true ∨ (s.taken m w).fsq.asOwner = true) ∧ (s.taken m w).inPilot = false) ∧
    (∃ (s : State) (m : EntryIn) (w : Nat), s.EntryDue 13 m w ∧ field w 65 64 ≤ 1 ∧ ((s.taken m w).inPilot = true ∨ (s.taken m w).linkUp =
      false ∨ (s.taken m w).prl.owner = false ∧ (s.taken m w).fsq.asOwner = false)) ∧
    (∃ (s : State) (m : EntryIn) (w : Nat), s.EntryDue 10 m w ∧ (s.taken m w).inPilot = false) ∧
    (∃ (s : State) (m : EntryIn) (w : Nat), s.EntryDue 10 m w ∧ (s.taken m w).inPilot = true) ∧
    (∃ (s : State) (m : EntryIn) (w : Nat), s.EntryDue 5 m w) :=
  ⟨⟨dueNow (0 * 2 ^ 24 + 2 ^ 30) live, ({} : EntryIn), 0 * 2 ^ 24 + 2 ^ 30, due_now (by decide)⟩,
   ⟨dueNow (4 * 2 ^ 24 + 2 ^ 30) live, ({} : EntryIn), 4 * 2 ^ 24 + 2 ^ 30, due_now (by decide)⟩,
   ⟨dueNow (12 * 2 ^ 24 + 2 ^ 30) live, ({} : EntryIn), 12 * 2 ^ 24 + 2 ^ 30, due_now (by decide)⟩,
   ⟨dueNow (13 * 2 ^ 24 + 2 ^ 30) ({ live with prl.mode := 1, prl.owner := true }), ({} : EntryIn), 13 * 2 ^ 24 + 2 ^ 30, due_now (by
     decide), by decide⟩,
   ⟨dueNow (13 * 2 ^ 24 + 2 ^ 30) live, ({} : EntryIn), 13 * 2 ^ 24 + 2 ^ 30, due_now (by decide), by decide⟩,
   ⟨dueNow (10 * 2 ^ 24 + 2 ^ 30) live, ({} : EntryIn), 10 * 2 ^ 24 + 2 ^ 30, due_now (by decide), by decide⟩,
   ⟨dueNow (10 * 2 ^ 24 + 2 ^ 30) ({ live with sys.st := .pilot }), ({} : EntryIn), 10 * 2 ^ 24 + 2 ^ 30, due_now (by decide), by decide⟩,
   ⟨dueNow (5 * 2 ^ 24 + 2 ^ 30) live, ({} : EntryIn), 5 * 2 ^ 24 + 2 ^ 30, due_now (by decide)⟩⟩

/-- States and operands that meet the hypotheses of each clause of EntriesOfLinkAndBlocksRun. -/
theorem test_hyp_EntriesOfLinkAndBlocksRun :
    (∃ (s : State) (m : EntryIn) (w : Nat), s.EntryDue 1 m w ∧ entUnit w < 2 ∧ (s.taken m w).radioSilent = false ∧ (s.taken m w).unitUp
      (entUnit w) = true ∧ ((s.taken m w).unit (entUnit w)).served ≠ 0 ∧ (s.taken m w).fsq.frozen = true) ∧
    (∃ (s : State) (m : EntryIn) (w : Nat), s.EntryDue 1 m w ∧ entUnit w < 2 ∧ ((s.taken m w).radioSilent = true ∨ (s.taken m w).unitUp
      (entUnit w) = false ∨ ((s.taken m w).unit (entUnit w)).served = 0 ∨ (s.taken m w).fsq.frozen = false)) ∧
    (∃ (s : State) (m : EntryIn) (w : Nat), s.EntryDue 2 m w ∧ entUnit w < 2 ∧ entKind w = 0 ∧ entNode w < 48 ∧ 1 ≤ entCount w ∧ entCount
      w ≤ 48) ∧
    (∃ (s : State) (m : EntryIn) (w : Nat), s.EntryDue 2 m w ∧ entUnit w < 2 ∧ (entKind w = 1 ∨ entKind w = 2) ∧ (entNode w < 48 ∨ entNode
      w = 63) ∧ 1 ≤ entCount w ∧ entCount w ≤ 48) ∧
    (∃ (s : State) (m : EntryIn) (w : Nat), s.EntryDue 3 m w ∧ entUnit w < 2 ∧ 1 ≤ entCount w ∧ entCount w ≤ 48) ∧
    (∃ (s : State) (m : EntryIn) (w : Nat), s.EntryDue 6 m w ∧ 1 ≤ field w 69 64 ∧ entNode w + field w 69 64 ≤ 48) ∧
    (∃ (s : State) (m : EntryIn) (w : Nat), s.EntryDue 11 m w) ∧
    (∃ (s : State) (m : EntryIn) (w : Nat), s.EntryDue 15 m w) ∧
    (∃ (s : State) (m : EntryIn) (w : Nat), (s.fsq.announced m).running = true ∧ (s.fsq.announced m).tableDone = false ∧ bankEntry
      ((s.fsq.announced m).bank (s.fsq.announced m).active) (s.fsq.announced m).entry = w ∧ reached m.now.toNat ((s.fsq.announced
      m).startOf w) = true ∧ entBadClass w = true) ∧
    (∃ (s : State) (m : EntryIn) (w : Nat) (c : Nat), (s.fsq.announced m).running = true ∧ (s.fsq.announced m).tableDone = false ∧
      bankEntry ((s.fsq.announced m).bank (s.fsq.announced m).active) (s.fsq.announced m).entry = w ∧ reached m.now.toNat
      ((s.fsq.announced m).startOf w) = true ∧ entBadClass w = false ∧ entClass w = c ∧ entReservedBits w = true) ∧
    (∃ (s : State) (m : EntryIn) (w : Nat), s.EntryDue 1 m w ∧ 2 ≤ entUnit w) ∧
    (∃ (s : State) (m : EntryIn) (w : Nat), s.EntryDue 2 m w ∧ (2 ≤ entUnit w ∨ entKind w = 3 ∨ entNode w = 48)) ∧
    (∃ (s : State) (m : EntryIn) (w : Nat), s.EntryDue 3 m w ∧ (2 ≤ entUnit w ∨ entCount w = 0 ∨ 48 < entCount w)) ∧
    (∃ (s : State) (m : EntryIn) (w : Nat), s.EntryDue 6 m w ∧ (field w 69 64 = 0 ∨ 48 < entNode w + field w 69 64)) ∧
    (∃ (s : State) (m : EntryIn) (w : Nat), s.EntryDue 13 m w ∧ 1 < field w 65 64) :=
  ⟨⟨dueNow (1 * 2 ^ 24 + 2 ^ 30) ({ live with fsq.frozen := true, fnl.units := [{ served := 1 }, {}] }), ({} : EntryIn), 1 * 2 ^ 24 + 2 ^
    30, due_now (by decide), by decide⟩,
   ⟨dueNow (1 * 2 ^ 24 + 2 ^ 30) live, ({} : EntryIn), 1 * 2 ^ 24 + 2 ^ 30, due_now (by decide), by decide⟩,
   ⟨dueNow (2 * 2 ^ 24 + 2 ^ 30 + 48 * 2 ^ 88) live, ({} : EntryIn), 2 * 2 ^ 24 + 2 ^ 30 + 48 * 2 ^ 88, due_now (by decide), by decide⟩,
   ⟨dueNow (2 * 2 ^ 24 + 2 ^ 30 + 63 * 2 ^ 32 + 2 * 2 ^ 84 + 2 ^ 88) live, ({} : EntryIn), 2 * 2 ^ 24 + 2 ^ 30 + 63 * 2 ^ 32 + 2 * 2 ^ 84
     + 2 ^ 88, due_now (by decide), by decide⟩,
   ⟨dueNow (3 * 2 ^ 24 + 2 ^ 30 + 2 ^ 88) live, ({} : EntryIn), 3 * 2 ^ 24 + 2 ^ 30 + 2 ^ 88, due_now (by decide), by decide⟩,
   ⟨dueNow (6 * 2 ^ 24 + 2 ^ 30 + 48 * 2 ^ 64) live, ({} : EntryIn), 6 * 2 ^ 24 + 2 ^ 30 + 48 * 2 ^ 64, due_now (by decide), by decide⟩,
   ⟨dueNow (11 * 2 ^ 24 + 2 ^ 30) live, ({} : EntryIn), 11 * 2 ^ 24 + 2 ^ 30, due_now (by decide)⟩,
   ⟨dueNow (15 * 2 ^ 24 + 2 ^ 30) live, ({} : EntryIn), 15 * 2 ^ 24 + 2 ^ 30, due_now (by decide)⟩,
   ⟨dueNow (14 * 2 ^ 24) live, ({} : EntryIn), 14 * 2 ^ 24, by decide⟩,
   ⟨dueNow (2 ^ 30 + 2 ^ 64) live, ({} : EntryIn), 2 ^ 30 + 2 ^ 64, 0, by decide⟩,
   ⟨dueNow (2 ^ 24 + 2 * 2 ^ 38) live, ({} : EntryIn), 2 ^ 24 + 2 * 2 ^ 38, due_now (by decide), by decide⟩,
   ⟨dueNow (2 * 2 ^ 24 + 2 * 2 ^ 38) live, ({} : EntryIn), 2 * 2 ^ 24 + 2 * 2 ^ 38, due_now (by decide), by decide⟩,
   ⟨dueNow (3 * 2 ^ 24 + 2 ^ 30) live, ({} : EntryIn), 3 * 2 ^ 24 + 2 ^ 30, due_now (by decide), by decide⟩,
   ⟨dueNow (6 * 2 ^ 24 + 2 ^ 30) live, ({} : EntryIn), 6 * 2 ^ 24 + 2 ^ 30, due_now (by decide), by decide⟩,
   ⟨dueNow (13 * 2 ^ 24 + 2 ^ 30 + 2 * 2 ^ 64) live, ({} : EntryIn), 13 * 2 ^ 24 + 2 ^ 30 + 2 * 2 ^ 64, due_now (by decide), by decide⟩⟩

/-- States and operands that meet the hypotheses of each clause of BanksSwapAndReadBack. -/
theorem test_hyp_BanksSwapAndReadBack :
    (∃ (s : State) (b : Fin 2), s.up 3 = true ∧ b.val ≠ s.fsq.active ∧ s.fsq.swapBusy = false) ∧
    (∃ (s : State) (b : Fin 2), s.up 3 = true ∧ b.val = s.fsq.active) ∧
    (∃ (s : State) (b : Fin 2), s.up 3 = true ∧ b.val ≠ s.fsq.active ∧ s.fsq.swapBusy = true) ∧
    (∃ (s : State), s.up 3 = true ∧ s.sys.st ≠ OpState.pilot ∧ s.fsq.swapBusy = false ∧ s.fsq.active < 2) ∧
    (∃ (s : State), s.up 3 = true ∧ s.sys.st ≠ OpState.pilot ∧ s.fsq.swapBusy = true ∧ s.fsq.active < 2) ∧
    (∃ (s : State), s.up 3 = true ∧ s.sys.st ≠ OpState.pilot ∧ (s.fsq.swapCode = 1 ∨ s.fsq.swapCode = 2)) ∧
    (∃ (s : State) (c : Instr), s.up 3 = true ∧ s.sys.st = OpState.pilot ∧ (c = Instr.swapRequest ∨ c = Instr.swapWithdraw)) ∧
    (∃ (s : State) (c : Instr), s.up 3 = false ∧ (c = Instr.swapRequest ∨ c = Instr.swapWithdraw ∨ ∃ b i w, c = Instr.scheduleBankWrite b
      i w)) ∧
    (∃ (s : State), s.fsq.swapCode = 1) ∧
    (∃ (s : State), s.fsq.swapCode ≠ 1) ∧
    (∃ (s : State), s.fsq.running = true ∧ s.fsq.frozen = false ∧ ((bankFind (s.fsq.bank s.fsq.active) fun w => entClass w == 1).isSome =
      true)) ∧
    (∃ (s : State), (s.fsq.running = false ∨ s.fsq.frozen = true ∨ (bankFind (s.fsq.bank s.fsq.active) fun w => entClass w == 1) = none))
      ∧
    (∃ (s : State), s.fsq.running = false) ∧
    (∃ (m : Mem) (a2 : Nat) (l : List Byte) (b : Nat), memWf m = true ∧ (b < a2 ∨ a2 + l.length ≤ b)) :=
  ⟨⟨live, 1, by decide⟩,
   ⟨live, 0, by decide⟩,
   ⟨{ live with fsq.swapCode := 1 }, 1, by decide⟩,
   ⟨live, by decide⟩,
   ⟨{ live with fsq.swapCode := 1 }, by decide⟩,
   ⟨{ live with fsq.swapCode := 1 }, by decide⟩,
   ⟨{ live with sys.st := .pilot }, .swapRequest, by decide⟩,
   ⟨{ live with sys.pd := [] }, .swapRequest, ⟨by decide, .inl rfl⟩⟩,
   ⟨{ live with fsq.swapCode := 1 }, by decide⟩,
   ⟨live, by decide⟩,
   ⟨dueNow (2 ^ 24 + 2 ^ 30) ({ live with fsq.running := true, fsq.frozen := false }), by decide⟩,
   ⟨{ live with fsq.running := false }, by decide⟩,
   ⟨{ live with fsq.running := false }, by decide⟩,
   ⟨[], 0, [], 0, by decide⟩⟩

/-- States and operands that meet the hypotheses of clauses of ReceivedFramesPassTheirChecks, 1 of 6. -/
theorem test_hyp_ReceivedFramesPassTheirChecks :
    (∃ (f : RxFrame), f.fcs = false) ∧
    (∃ (s : State) (f : RxFrame), f.head.epoch = s.fnl.epoch % 256 ∧ f.head.addr < s.fnl.links.length) :=
  ⟨⟨({} : RxFrame), by decide⟩,
   ⟨live, ({} : RxFrame), by decide⟩⟩

/-- States and operands that meet the hypotheses of clauses of ReceivedFramesPassTheirChecks, 2 of 6. -/
theorem test_hyp_ReceivedFramesPassTheirChecks_1 : ∃ (s : State) (f : RxFrame), f.fcs = true ∧ f.head.snid ≠ s.fnl.snid ∧ f.head.snid ≠
  4294967295 :=
  ⟨live, frameOf { snid := 1 } [], by decide +kernel⟩

/-- States and operands that meet the hypotheses of clauses of ReceivedFramesPassTheirChecks, 3 of 6. -/
theorem test_hyp_ReceivedFramesPassTheirChecks_2 : ∃ (s : State) (f : RxFrame) (form : Bool), f.fcs = true ∧ f.head.snid = s.fnl.snid ∧
  form = false :=
  ⟨live, frameOf {} [], false, by decide +kernel⟩

/-- States and operands that meet the hypotheses of clauses of ReceivedFramesPassTheirChecks, 4 of 6. -/
theorem test_hyp_ReceivedFramesPassTheirChecks_3 : ∃ (s : State) (f : RxFrame) (form : Bool), f.fcs = true ∧ f.head.snid = s.fnl.snid ∧
  form = true ∧ (s.fnl.keyFor f.head.epoch).bind f.openWith = none :=
  ⟨{ live with fnl.kL := some 1 }, frameBy 7 {} [], true, by decide +kernel⟩

/-- States and operands that meet the hypotheses of clauses of ReceivedFramesPassTheirChecks, 5 of 6. -/
theorem test_hyp_ReceivedFramesPassTheirChecks_4 : ∃ (s : State) (f : RxFrame) (form : Bool) (p : List Byte) (l : Nat), f.fcs = true ∧
  f.head.snid = s.fnl.snid ∧ form = true ∧ f.head.epoch = s.fnl.epoch % 256 ∧ f.openWith s.fnl.keyNow = some p ∧ (s.nl f.head.addr).lastFc
  = some l :=
  ⟨{ live with fnl.links := [{ lastFc := some 0 }], fnl.kL := some 1 }, frameOf {} [], true, [], 0, by decide +kernel⟩

/-- States and operands that meet the hypotheses of clauses of ReceivedFramesPassTheirChecks, 6 of 6. -/
theorem test_hyp_ReceivedFramesPassTheirChecks_5 : ∃ (s : State) (f : RxFrame) (form : Bool) (p : List Byte), f.fcs = true ∧ f.head.snid =
  s.fnl.snid ∧ form = true ∧ f.head.epoch = s.fnl.epoch % 256 ∧ f.openWith s.fnl.keyNow = some p ∧ (s.nl f.head.addr).lastFc = none :=
  ⟨{ live with fnl.kL := some 1 }, frameOf {} [], true, [], by decide +kernel⟩

/-- States and operands that meet the hypotheses of clauses of LinkFramesAreTaken, 1 of 7. -/
theorem test_hyp_LinkFramesAreTaken :
    (∃ (s : State) (u : Fin 2) (n : Fin 48), (s.unit u.val).expect.contains n.val = false) ∧
    (∃ (s : State) (u : Fin 2) (f : RxFrame) (n : Fin 48) (r : Except RxFail (List Byte)), (s.unit u.val).expect.contains n.val = true ∧
      (s.rxCheck f ((s.formOk (u.val) 2 (if f.head.ver = 3 then 43 else 42) f && f.head.addr == n.val)) = r)) ∧
    (∃ (s : State) (u : Fin 2) (n : Fin 48), (s.unit u.val).expect.contains n.val = true ∧ u.val < s.fnl.units.length ∧ n.val <
      s.fnl.links.length) ∧
    (∃ (s : State) (u : Fin 2) (f : RxFrame) (k : RxFail), s.rxCheck f (s.formOk (u.val) 6 9 f && (s.unit u.val).contOpen) = Except.error
      k) ∧
    (∃ (s : State) (f : RxFrame) (k : RxFail), s.rxOwn f = some k) ∧
    (∃ (s : State) (u : Fin 2), (s.unit u.val).waitAck = none) ∧
    (∃ (s : State) (u : Fin 2) (f : RxFrame) (k : Nat) (n : Nat) (c : Nat) (r : Except RxFail (List Byte)), (s.unit u.val).waitAck = some
      (k, n, c) ∧ s.rxCheck f (s.ackForm (u.val) k n f) = r) ∧
    (∃ (s : State) (u : Fin 2), s.unitUp u.val = true) ∧
    (∃ (s : State), s.inPilot = false ∧ s.epochOver = true) ∧
    (∃ (s : State), s.fnl.changing = true ∧ s.fnl.keySent = true ∧ s.fnl.newKeyDue = false) ∧
    (∃ (s : State) (n : Fin 48) (q : NodeCmd), s.sys.mgpAway = false ∧ (List.find? (fun x => x.node == n.val && x.inFlight) s.fnl.cmdQ =
      some q) ∧ q.tries ≤ q.limit) :=
  ⟨⟨live, 0, 0, by decide⟩,
   ⟨{ live with fnl.units := [{ expect := [0] }, {}] }, 0, ({} : RxFrame), 0, _, ⟨by decide, rfl⟩⟩,
   ⟨{ live with fnl.units := [{ expect := [0] }, {}] }, 0, 0, by decide⟩,
   ⟨live, 0, ({} : RxFrame), _, rfl⟩,
   ⟨live, ({} : RxFrame), .energy, by decide⟩,
   ⟨live, 0, by decide⟩,
   ⟨{ live with fnl.units := [{ waitAck := some (1, 0, 0) }, {}] }, 0, ({} : RxFrame), 1, 0, 0, _, ⟨by decide, rfl⟩⟩,
   ⟨live, 0, by decide⟩,
   ⟨{ live with sys.clock := 1000000000000 }, by decide⟩,
   ⟨{ live with fnl.changing := true, fnl.keySent := true, fnl.newKeyDue := false }, by decide⟩,
   ⟨{ live with sys.mgpAway := false, fnl.cmdQ := [{ node := 0, cmd := 4, inFlight := true }] }, 0,
     { node := 0, cmd := 4, inFlight := true }, by decide⟩⟩

/-- States and operands that meet the hypotheses of clauses of LinkFramesAreTaken, 2 of 7. -/
theorem test_hyp_LinkFramesAreTaken_1 : ∃ (s : State) (u : Fin 2) (f : RxFrame) (p : List Byte), s.rxCheck f (s.formOk (u.val) 6 9 f &&
  (s.unit u.val).contOpen) = Except.ok p :=
  ⟨{ live with fnl.units := [{ contOpen := true }, {}], fnl.kL := some 1 }, 0, frameOf { typ := 6, dir := true } (leBytes 9 1), leBytes 9
    1, ok_of (by decide +kernel)⟩

/-- States and operands that meet the hypotheses of clauses of LinkFramesAreTaken, 3 of 7. -/
theorem test_hyp_LinkFramesAreTaken_2 : ∃ (s : State) (u : Fin 2) (f : RxFrame), s.rxOwn f = none ∧ ((f.head.typ == 5 && f.head.ver == 2
  && f.head.dir && f.head.unit == u.val && f.head.addr == 62 && f.body.length == 21 && leAt f.body 0 1 == 1 && (s.unit u.val).contOpen)) =
  false :=
  ⟨live, 0, frameOf {} [], by decide +kernel⟩

/-- States and operands that meet the hypotheses of clauses of LinkFramesAreTaken, 4 of 7. -/
theorem test_hyp_LinkFramesAreTaken_3 : ∃ (s : State) (u : Fin 2) (f : RxFrame), s.rxOwn f = none ∧ ((f.head.typ == 5 && f.head.ver == 2
  && f.head.dir && f.head.unit == u.val && f.head.addr == 62 && f.body.length == 21 && leAt f.body 0 1 == 1 && (s.unit u.val).contOpen)) =
  true ∧ s.fnl.rowOf (leAt f.body 1 8) = none :=
  ⟨{ live with fnl.units := [{ contOpen := true }, {}] }, 0, frameBy 0 { typ := 5, dir := true, addr := 62 } (leBytes 21 0x501), by
    decide +kernel⟩

/-- States and operands that meet the hypotheses of clauses of LinkFramesAreTaken, 5 of 7. -/
theorem test_hyp_LinkFramesAreTaken_4 : ∃ (s : State) (u : Fin 2) (f : RxFrame) (n : Nat), s.rxOwn f = none ∧ ((f.head.typ == 5 &&
  f.head.ver == 2 && f.head.dir && f.head.unit == u.val && f.head.addr == 62 && f.body.length == 21 && leAt f.body 0 1 == 1 && (s.unit
  u.val).contOpen)) = true ∧ s.fnl.rowOf (leAt f.body 1 8) = some n ∧ (f.openWith (nth s.fnl.pair n { }).kN = none ∨ f.head.epoch ≠ 0) :=
  ⟨{ live with fnl.units := [{ contOpen := true }, {}], fnl.pair := [{ serial := 5 }] }, 0, frameBy 7
    { typ := 5, dir := true, addr := 62 } (leBytes 21 0x501), 0, by decide +kernel⟩

/-- States and operands that meet the hypotheses of clauses of LinkFramesAreTaken, 6 of 7. -/
theorem test_hyp_LinkFramesAreTaken_5 : ∃ (s : State) (u : Fin 2) (f : RxFrame) (n : Nat), s.rxOwn f = none ∧ ((f.head.typ == 5 &&
  f.head.ver == 2 && f.head.dir && f.head.unit == u.val && f.head.addr == 62 && f.body.length == 21 && leAt f.body 0 1 == 1 && (s.unit
  u.val).contOpen)) = true ∧ s.fnl.rowOf (leAt f.body 1 8) = some n ∧ (f.openWith (nth s.fnl.pair n { }).kN).isSome = true ∧ f.head.epoch
  = 0 ∧ f.head.fc ≤ (nth s.fnl.pair n { }).joinCtr :=
  ⟨{ live with fnl.units := [{ contOpen := true }, {}], fnl.pair := [{ serial := 5 }] }, 0, frameBy 0
    { typ := 5, dir := true, addr := 62 } (leBytes 21 0x501), 0, by decide +kernel⟩

/-- States and operands that meet the hypotheses of clauses of LinkFramesAreTaken, 7 of 7. -/
theorem test_hyp_LinkFramesAreTaken_6 : ∃ (s : State) (u : Fin 2) (f : RxFrame) (n : Nat), s.rxOwn f = none ∧ ((f.head.typ == 5 &&
  f.head.ver == 2 && f.head.dir && f.head.unit == u.val && f.head.addr == 62 && f.body.length == 21 && leAt f.body 0 1 == 1 && (s.unit
  u.val).contOpen)) = true ∧ s.fnl.rowOf (leAt f.body 1 8) = some n ∧ (f.openWith (nth s.fnl.pair n { }).kN).isSome = true ∧ f.head.epoch
  = 0 ∧ (nth s.fnl.pair n { }).joinCtr < f.head.fc :=
  ⟨{ live with fnl.units := [{ contOpen := true }, {}], fnl.pair := [{ serial := 5 }] }, 0, frameBy 0
    { typ := 5, dir := true, addr := 62, fc := 1 } (leBytes 21 0x501), 0, by decide +kernel⟩

/-- States and operands that meet the hypotheses of each clause of LinkTimersAndUnits. -/
theorem test_hyp_LinkTimersAndUnits :
    (∃ (s : State) (u : Fin 2), s.unitUp u.val = true) ∧
    (∃ (s : State) (u : Fin 2), s.unitUp u.val = false) ∧
    (∃ (s : State), s.inPilot = false ∧ s.fnl.epochAt + s.parN P.fnlEpochPeriod * 3600 * 8192 ≤ s.sys.clock) ∧
    (∃ (s : State), (s.inPilot = true ∨ s.sys.clock < s.fnl.epochAt + s.parN P.fnlEpochPeriod * 3600 * 8192)) ∧
    (∃ (s : State) (n : Fin 48), (s.sys.mgpAway = true ∨ s.takeFlight n.val = none)) ∧
    (∃ (s : State) (n : Fin 48) (q : NodeCmd) (t : State), s.sys.mgpAway = false ∧ s.takeFlight n.val = some (q, t) ∧ q.tries ≤ q.limit) ∧
    (∃ (s : State) (n : Fin 48) (q : NodeCmd) (t : State) (x : NodeCmd), s.sys.mgpAway = false ∧ s.takeFlight n.val = some (q, t) ∧
      q.limit < q.tries ∧ x ∈ t.fnl.cmdQ ∧ x.node = n.val) ∧
    (∃ (s : State) (ua : Nat), (loopClass ua = s.mea.loop ∨ s.prl.resLeft ≠ 0)) ∧
    (∃ (s : State) (ua : Nat), loopClass ua ≠ s.mea.loop ∧ s.prl.resLeft = 0) ∧
    (∃ (s : State) (c : Nat) (x : RUnit), x ∈ (s.fnl.advance c).units) ∧
    (∃ (s : State) (c : Nat) (l : NLink), l ∈ (s.fnl.advance c).links) :=
  ⟨⟨live, 0, by decide⟩,
   ⟨{ live with sys.pd := [] }, 0, by decide⟩,
   ⟨{ live with sys.clock := 2 ^ 40 }, by decide⟩,
   ⟨live, by decide⟩,
   ⟨{ live with sys.mgpAway := true }, 0, by decide⟩,
   ⟨{ live with sys.mgpAway := false, fnl.cmdQ := [{ node := 0, cmd := 4, inFlight := true }] }, 0,
     { node := 0, cmd := 4, inFlight := true }, { live with fnl.cmdQ := [] }, by decide⟩,
   ⟨{ live with sys.mgpAway := false, fnl.cmdQ := [{ node := 0, cmd := 4, inFlight := true, tries := 9, limit := 0 }, { node := 0, cmd := 4 }] },
     0, { node := 0, cmd := 4, inFlight := true, tries := 9, limit := 0 }, { live with fnl.cmdQ := [{ node := 0, cmd := 4 }] },
     { node := 0, cmd := 4 }, by decide⟩,
   ⟨live, 0, by decide⟩,
   ⟨{ live with prl.resLeft := 0 }, 10000, by decide⟩,
   ⟨live, 0, ({} : RUnit), by decide⟩,
   ⟨live, 0, ({} : NLink), by decide⟩⟩

/-- States and operands that meet the hypotheses of each clause of NodeCommandsTouchOneNode. -/
theorem test_hyp_NodeCommandsTouchOneNode : ∃ (n : Fin 48) (c : Instr), nodeOf c = some n :=
  ⟨0, .nodePowerOn 0, by decide⟩

/-- States and operands that meet the hypotheses of each clause of NodeLinkStatesFollowTheTable. -/
theorem test_hyp_NodeLinkStatesFollowTheTable :
    (∃ (s : State) (n : Fin 48) (d : Dn8), s.nodes[n.val]? = some d ∧ d.st = NodeSt.powerOff) ∧
    (∃ (s : State) (n : Fin 48) (d : Dn8), s.nodes[n.val]? = some d ∧ d.st ≠ NodeSt.powerOff) ∧
    (∃ (s : State) (n : Fin 48) (d : Dn8), s.nodes[n.val]? = some d ∧ d.linked = true) ∧
    (∃ (s : State) (n : Fin 48) (d : Dn8), s.nodes[n.val]? = some d ∧ d.linked = false) ∧
    (∃ (s : State) (n : Fin 48) (d : Dn8), s.nodes[n.val]? = some d ∧ d.st = NodeSt.coasting ∧ 8 ≤ d.missed) ∧
    (∃ (s : State) (n : Fin 48) (d : Dn8), s.nodes[n.val]? = some d ∧ (d.st ≠ NodeSt.coasting ∨ d.missed < 8)) ∧
    (∃ (s : State) (n : Fin 48) (d : Dn8), s.nodes[n.val]? = some d ∧ d.st = NodeSt.search ∧ d.silent = false ∧ d.heard.contains d.snid =
      true ∧ d.refuseWait = false) ∧
    (∃ (s : State) (n : Fin 48) (d : Dn8), s.nodes[n.val]? = some d ∧ d.st = NodeSt.search ∧ d.silent = false ∧ (d.heard.contains d.snid =
      false ∨ d.refuseWait = true)) ∧
    (∃ (s : State) (n : Fin 48) (d : Dn8), s.nodes[n.val]? = some d ∧ (d.st ≠ NodeSt.search ∨ d.silent = true)) ∧
    (∃ (s : State) (n : Fin 48) (d : Dn8), s.nodes[n.val]? = some d ∧ d.trial = true) ∧
    (∃ (s : State) (n : Fin 48) (d : Dn8), s.nodes[n.val]? = some d ∧ d.trial = false) :=
  ⟨⟨{ live with nodes := [{ st := .powerOff }] }, 0, { st := .powerOff }, by decide⟩,
   ⟨{ live with nodes := [{ st := .synced }] }, 0, { st := .synced }, by decide⟩,
   ⟨{ live with nodes := [{ st := .synced }] }, 0, { st := .synced }, by decide⟩,
   ⟨{ live with nodes := [{}] }, 0, ({} : Dn8), by decide⟩,
   ⟨{ live with nodes := [{ st := .coasting, missed := 8 }] }, 0, { st := .coasting, missed := 8 }, by decide⟩,
   ⟨{ live with nodes := [{}] }, 0, ({} : Dn8), by decide⟩,
   ⟨{ live with nodes := [{ st := .search, silent := false, refuseWait := false, heard := [0] }] }, 0,
     { st := .search, silent := false, refuseWait := false, heard := [0] }, by decide⟩,
   ⟨{ live with nodes := [{ st := .search, silent := false }] }, 0, { st := .search, silent := false }, by decide⟩,
   ⟨{ live with nodes := [{}] }, 0, ({} : Dn8), by decide⟩,
   ⟨{ live with nodes := [{ trial := true }] }, 0, { trial := true }, by decide⟩,
   ⟨{ live with nodes := [{ trial := false }] }, 0, { trial := false }, by decide⟩⟩

/-- States and operands that meet the hypotheses of clauses of NodeBeaconsSetTimingAndMasks, 1 of 8. -/
theorem test_hyp_NodeBeaconsSetTimingAndMasks :
    (∃ (s : State) (n : Fin 48) (d : Dn8) (u : Nat) (f : RxFrame), s.nodes[n.val]? = some d ∧ (d.silent = true ∨ f.fcs = false ∨ d.st =
      NodeSt.powerOff ∨ beaconForm u f = false ∨ u ≠ d.unit ∧ d.st ≠ NodeSt.unpaired)) ∧
    (∃ (s : State) (n : Fin 48) (d : Dn8) (f : RxFrame), s.nodes[n.val]? = some d ∧ (((d.st == NodeSt.joining && !d.silent && f.fcs &&
      f.head.typ == 5 && f.head.ver == 2 && !f.head.dir && f.head.unit == d.unit && f.head.addr == 62 && f.head.epoch == 0 && f.head.snid
      == d.target && decide (d.joinCtr < f.head.fc) && d.timing.elim false fun x => x.cNode == 254)) = false ∨ f.openWith d.kN = none)) ∧
    (∃ (s : State) (n : Fin 48) (d : Dn8), s.nodes[n.val]? = some d ∧ d.st = NodeSt.joining ∧ d.replyWait = true) ∧
    (∃ (s : State) (n : Fin 48) (d : Dn8), s.nodes[n.val]? = some d ∧ (d.st ≠ NodeSt.joining ∨ d.replyWait = false)) :=
  ⟨⟨{ live with nodes := [{ silent := true }] }, 0, { silent := true }, 0, ({} : RxFrame), by decide⟩,
   ⟨{ live with nodes := [{}] }, 0, ({} : Dn8), ({} : RxFrame), by decide⟩,
   ⟨{ live with nodes := [{ st := .joining, replyWait := true }] }, 0, { st := .joining, replyWait := true }, by decide⟩,
   ⟨{ live with nodes := [{}] }, 0, ({} : Dn8), by decide⟩⟩

/-- States and operands that meet the hypotheses of clauses of NodeBeaconsSetTimingAndMasks, 2 of 8. -/
theorem test_hyp_NodeBeaconsSetTimingAndMasks_1 : ∃ (s : State) (n : Fin 48) (d : Dn8) (u : Nat) (f : RxFrame) (e : Nat) (k : Nat),
  s.nodes[n.val]? = some d ∧ d.linked = true ∧ d.unit = u ∧ d.beaconValid u f = some (e, k) ∧ d.covered (Beacon.ofBytes f.body) = true :=
  ⟨{ live with nodes := [node0] }, 0, node0, 0, frameOf { typ := 1, addr := 0x3F } (Beacon.bytes
    { rFirst := 0, rCount := 48, bleed := List.replicate 48 0 }), 0, 1, by decide +kernel⟩

/-- States and operands that meet the hypotheses of clauses of NodeBeaconsSetTimingAndMasks, 3 of 8. -/
theorem test_hyp_NodeBeaconsSetTimingAndMasks_2 : ∃ (s : State) (n : Fin 48) (d : Dn8) (u : Nat) (f : RxFrame) (e : Nat) (k : Nat),
  s.nodes[n.val]? = some d ∧ d.linked = true ∧ d.unit = u ∧ d.beaconValid u f = some (e, k) ∧ d.covered (Beacon.ofBytes f.body) = false :=
  ⟨{ live with nodes := [node0] }, 0, node0, 0, frameOf { typ := 1, addr := 0x3F } (Beacon.bytes
    { rFirst := 1, rCount := 47, bleed := List.replicate 47 0 }), 0, 1, by decide +kernel⟩

/-- States and operands that meet the hypotheses of clauses of NodeBeaconsSetTimingAndMasks, 4 of 8. -/
theorem test_hyp_NodeBeaconsSetTimingAndMasks_3 : ∃ (s : State) (n : Fin 48) (d : Dn8) (u : Nat) (f : RxFrame), s.nodes[n.val]? = some d ∧
  d.linked = true ∧ d.beaconValid u f = none :=
  ⟨{ live with nodes := [node0] }, 0, node0, 0, ({} : RxFrame), by decide +kernel⟩

/-- States and operands that meet the hypotheses of clauses of NodeBeaconsSetTimingAndMasks, 5 of 8. -/
theorem test_hyp_NodeBeaconsSetTimingAndMasks_4 : ∃ (s : State) (n : Fin 48) (d : Dn8) (u : Nat) (f : RxFrame), s.nodes[n.val]? = some d ∧
  d.st = NodeSt.unpaired ∧ d.silent = false ∧ d.refuseWait = false ∧ f.fcs = true ∧ beaconForm u f = true ∧ (Beacon.ofBytes
  f.body).joinOpen = true :=
  ⟨{ live with nodes := [{ st := .unpaired, silent := false, refuseWait := false }] }, 0,
    { st := .unpaired, silent := false, refuseWait := false }, 0, frameOf { typ := 1, addr := 0x3F } (Beacon.bytes { joinOpen := true }),
    by decide +kernel⟩

/-- States and operands that meet the hypotheses of clauses of NodeBeaconsSetTimingAndMasks, 6 of 8. -/
theorem test_hyp_NodeBeaconsSetTimingAndMasks_5 : ∃ (s : State) (n : Fin 48) (d : Dn8) (f : RxFrame) (p : List Byte), s.nodes[n.val]? =
  some d ∧ (((d.st == NodeSt.joining && !d.silent && f.fcs && f.head.typ == 5 && f.head.ver == 2 && !f.head.dir && f.head.unit == d.unit
  && f.head.addr == 62 && f.head.epoch == 0 && f.head.snid == d.target && decide (d.joinCtr < f.head.fc) && d.timing.elim false fun x =>
  x.cNode == 254)) = true) ∧ f.openWith d.kN = some p ∧ leAt p 1 8 ≠ d.serial :=
  ⟨{ live with nodes := [{ st := .joining, target := 0, timing := some { cNode := 254 }, serial := 5 }] }, 0,
    { st := .joining, target := 0, timing := some { cNode := 254 }, serial := 5 }, frameBy 0 { typ := 5, addr := 62, fc := 1 } (leBytes 47
    (2 + 256 * 6)), leBytes 47 (2 + 256 * 6), by decide +kernel⟩

/-- States and operands that meet the hypotheses of clauses of NodeBeaconsSetTimingAndMasks, 7 of 8. -/
theorem test_hyp_NodeBeaconsSetTimingAndMasks_6 : ∃ (s : State) (n : Fin 48) (d : Dn8) (f : RxFrame) (p : List Byte), s.nodes[n.val]? =
  some d ∧ (((d.st == NodeSt.joining && !d.silent && f.fcs && f.head.typ == 5 && f.head.ver == 2 && !f.head.dir && f.head.unit == d.unit
  && f.head.addr == 62 && f.head.epoch == 0 && f.head.snid == d.target && decide (d.joinCtr < f.head.fc) && d.timing.elim false fun x =>
  x.cNode == 254)) = true) ∧ f.openWith d.kN = some p ∧ leAt p 1 8 = d.serial ∧ leAt p 0 1 = 2 ∧ p.length = 47 :=
  ⟨{ live with nodes := [{ st := .joining, target := 0, timing := some { cNode := 254 }, serial := 5 }] }, 0,
    { st := .joining, target := 0, timing := some { cNode := 254 }, serial := 5 }, frameBy 0 { typ := 5, addr := 62, fc := 1 } (leBytes 47
    (2 + 256 * 5)), leBytes 47 (2 + 256 * 5), by decide +kernel⟩

/-- States and operands that meet the hypotheses of clauses of NodeBeaconsSetTimingAndMasks, 8 of 8. -/
theorem test_hyp_NodeBeaconsSetTimingAndMasks_7 : ∃ (s : State) (n : Fin 48) (d : Dn8) (f : RxFrame) (p : List Byte), s.nodes[n.val]? =
  some d ∧ (((d.st == NodeSt.joining && !d.silent && f.fcs && f.head.typ == 5 && f.head.ver == 2 && !f.head.dir && f.head.unit == d.unit
  && f.head.addr == 62 && f.head.epoch == 0 && f.head.snid == d.target && decide (d.joinCtr < f.head.fc) && d.timing.elim false fun x =>
  x.cNode == 254)) = true) ∧ f.openWith d.kN = some p ∧ leAt p 1 8 = d.serial ∧ leAt p 0 1 = 3 ∧ p.length = 10 :=
  ⟨{ live with nodes := [{ st := .joining, target := 0, timing := some { cNode := 254 }, serial := 5 }] }, 0,
    { st := .joining, target := 0, timing := some { cNode := 254 }, serial := 5 }, frameBy 0 { typ := 5, addr := 62, fc := 1 } (leBytes 10
    (3 + 256 * 5)), leBytes 10 (3 + 256 * 5), by decide +kernel⟩

/-- States and operands that meet the hypotheses of each clause of NodeMeasuresAndBalances. -/
theorem test_hyp_NodeMeasuresAndBalances :
    (∃ (s : State) (n : Fin 48) (d : Dn8), s.nodes[n.val]? = some d ∧ ((if s.fsq.running = true then d else d.frameStart).linked = true) ∧
      ((if s.fsq.running = true then d else d.frameStart).timing.isSome = true)) ∧
    (∃ (s : State) (n : Fin 48) (d : Dn8), s.nodes[n.val]? = some d ∧ ((if s.fsq.running = true then d else d.frameStart).linked = false ∨
      (if s.fsq.running = true then d else d.frameStart).timing = none)) ∧
    (∃ (s : State) (n : Fin 48) (d : Dn8) (b : Beacon), s.nodes[n.val]? = some d ∧ d.linked = true ∧ d.timing = some b ∧ d.covered b =
      true) ∧
    (∃ (s : State) (n : Fin 48) (d : Dn8), s.nodes[n.val]? = some d ∧ (d.linked = false ∨ d.timing.elim false d.covered = false)) ∧
    (∃ (s : State) (n : Fin 48) (d : Dn8) (b : Beacon), s.nodes[n.val]? = some d ∧ d.linked = true ∧ d.balBarred = false ∧ d.timing = some
      b ∧ 0 < b.bDur) ∧
    (∃ (s : State) (n : Fin 48) (d : Dn8), s.nodes[n.val]? = some d ∧ (d.linked = false ∨ d.balBarred = true ∨ (d.timing.elim false fun b
      => decide (0 < b.bDur)) = false)) ∧
    (∃ (s : State) (n : Fin 48) (d : Dn8) (b : Beacon), s.nodes[n.val]? = some d ∧ d.linked = true ∧ d.timing = some b ∧ d.index = some
      b.owNode) ∧
    (∃ (s : State) (n : Fin 48) (d : Dn8), s.nodes[n.val]? = some d ∧ (d.linked = false ∨ ∀ (b : Beacon), d.timing = some b → d.index ≠
      some b.owNode)) ∧
    (∃ (s : State) (n : Fin 48) (d : Dn8) (b : Beacon), s.nodes[n.val]? = some d ∧ d.linked = true ∧ d.timing = some b ∧ d.index = some
      b.stNode) ∧
    (∃ (s : State) (n : Fin 48) (d : Dn8), s.nodes[n.val]? = some d ∧ (d.linked = false ∨ ∀ (b : Beacon), d.timing = some b → d.index ≠
      some b.stNode)) :=
  ⟨⟨{ live with fsq.running := true, nodes := [{ st := .synced, timing := some {} }] }, 0, { st := .synced, timing := some {} }, by
    decide⟩,
   ⟨{ live with nodes := [{}] }, 0, ({} : Dn8), by decide⟩,
   ⟨{ live with nodes := [{ node0 with timing := some { rFirst := 0, rCount := 1 } }] }, 0,
     { node0 with timing := some { rFirst := 0, rCount := 1 } }, { rFirst := 0, rCount := 1 }, by decide⟩,
   ⟨{ live with nodes := [{}] }, 0, ({} : Dn8), by decide⟩,
   ⟨{ live with nodes := [{ st := .synced, balBarred := false, timing := some { bDur := 1 } }] }, 0,
     { st := .synced, balBarred := false, timing := some { bDur := 1 } }, { bDur := 1 }, by decide⟩,
   ⟨{ live with nodes := [{}] }, 0, ({} : Dn8), by decide⟩,
   ⟨{ live with nodes := [{ node0 with timing := some { owNode := 0 } }] }, 0, { node0 with timing := some { owNode := 0 } },
     { owNode := 0 }, by decide⟩,
   ⟨{ live with nodes := [{}] }, 0, ({} : Dn8), by decide⟩,
   ⟨{ live with nodes := [{ node0 with timing := some { stNode := 0 } }] }, 0, { node0 with timing := some { stNode := 0 } },
     { stNode := 0 }, by decide⟩,
   ⟨{ live with nodes := [{}] }, 0, ({} : Dn8), by decide⟩⟩

/-- States and operands that meet the hypotheses of clauses of NodeCommandsAndFirmware, 1 of 4. -/
theorem test_hyp_NodeCommandsAndFirmware :
    (∃ (s : State) (n : Fin 48) (d : Dn8) (f : RxFrame), s.nodes[n.val]? = some d ∧ (d.frameOk 3 f = none ∨ ∃ p, d.frameOk 3 f = some p ∧
      (p.length < 2 ∨ d.slotMine 1 = false ∧ leAt p 0 1 ≠ 8))) ∧
    (∃ (s : State) (n : Fin 48) (d : Dn8) (p : List Byte), s.nodes[n.val]? = some d ∧ p.length = 4) ∧
    (∃ (s : State) (n : Fin 48) (d : Dn8) (p : List Byte), s.nodes[n.val]? = some d ∧ p.length = 3 ∧ 50 ≤ leAt p 0 2 ∧ leAt p 0 2 ≤ 1000)
      ∧
    (∃ (s : State) (n : Fin 48) (d : Dn8) (p : List Byte), s.nodes[n.val]? = some d ∧ p.length = 3 ∧ (leAt p 0 2 < 50 ∨ 1000 < leAt p 0
      2)) ∧
    (∃ (s : State) (n : Fin 48) (d : Dn8) (c : Nat), s.nodes[n.val]? = some d ∧ (c = 0 ∨ 8 < c)) ∧
    (∃ (s : State) (n : Fin 48) (d : Dn8) (f : RxFrame), s.nodes[n.val]? = some d ∧ (d.frameOk 7 f = none ∨ ∃ p, d.frameOk 7 f = some p ∧
      (p.length < 5 ∨ d.slotMine 2 = false))) ∧
    (∃ (s : State) (n : Fin 48) (d : Dn8), s.nodes[n.val]? = some d ∧ d.fw = none) ∧
    (∃ (s : State) (n : Fin 48) (d : Dn8) (b : Nat) (total : Nat) (v : Nat) (g : Nat) (c : Nat), s.nodes[n.val]? = some d ∧ d.fw = some
      (b, total, v, g) ∧ c ≠ b) ∧
    (∃ (s : State) (n : Fin 48) (d : Dn8) (b : Nat) (total : Nat) (v : Nat) (g : Nat) (off : Nat), s.nodes[n.val]? = some d ∧ d.fw = some
      (b, total, v, g) ∧ off ≠ d.fwNext) ∧
    (∃ (s : State) (n : Fin 48) (d : Dn8) (b : Nat) (total : Nat) (v : Nat) (g : Nat) (l : List Byte), s.nodes[n.val]? = some d ∧ d.fw =
      some (b, total, v, g) ∧ l.length = min d.blockSize (total - d.fwNext) ∧ d.fwNext + l.length < total) :=
  ⟨⟨{ live with nodes := [{}] }, 0, ({} : Dn8), ({} : RxFrame), by decide⟩,
   ⟨{ live with nodes := [{}] }, 0, ({} : Dn8), leBytes 4 0, by decide⟩,
   ⟨{ live with nodes := [{}] }, 0, ({} : Dn8), leBytes 3 50, by decide⟩,
   ⟨{ live with nodes := [{}] }, 0, ({} : Dn8), leBytes 3 49, by decide⟩,
   ⟨{ live with nodes := [{}] }, 0, ({} : Dn8), 0, by decide⟩,
   ⟨{ live with nodes := [{}] }, 0, ({} : Dn8), ({} : RxFrame), by decide⟩,
   ⟨{ live with nodes := [{ fw := none }] }, 0, { fw := none }, by decide⟩,
   ⟨{ live with nodes := [{ fw := some (0, 0, 0, 0) }] }, 0, { fw := some (0, 0, 0, 0) }, 0, 0, 0, 0, 1, by decide⟩,
   ⟨{ live with nodes := [{ fw := some (0, 0, 0, 0) }] }, 0, { fw := some (0, 0, 0, 0) }, 0, 0, 0, 0, 1, by decide⟩,
   ⟨{ live with nodes := [{ fw := some (0, 65, 0, 0) }] }, 0, { fw := some (0, 65, 0, 0) }, 0, 65, 0, 0, List.replicate 64 0, by decide⟩⟩

/-- States and operands that meet the hypotheses of clauses of NodeCommandsAndFirmware, 2 of 4. -/
theorem test_hyp_NodeCommandsAndFirmware_1 : ∃ (s : State) (n : Fin 48) (d : Dn8) (f : RxFrame) (p : List Byte), s.nodes[n.val]? = some d
  ∧ d.frameOk 3 f = some p ∧ 2 ≤ p.length ∧ (d.slotMine 1 = true ∨ leAt p 0 1 = 8) :=
  ⟨{ live with nodes := [node0] }, 0, node0, frameOf { typ := 3 } [8, 0], [8, 0], by decide +kernel⟩

/-- States and operands that meet the hypotheses of clauses of NodeCommandsAndFirmware, 3 of 4. -/
theorem test_hyp_NodeCommandsAndFirmware_2 : ∃ (s : State) (n : Fin 48) (d : Dn8) (f : RxFrame) (p : List Byte), s.nodes[n.val]? = some d
  ∧ d.frameOk 7 f = some p ∧ 5 ≤ p.length ∧ d.slotMine 2 = true :=
  ⟨{ live with nodes := [{ node0 with timing := some { cNode := 0, cKind := 2 } }] }, 0,
    { node0 with timing := some { cNode := 0, cKind := 2 } }, frameOf { typ := 7 } (leBytes 5 0), leBytes 5 0, by decide +kernel⟩

/-- States and operands that meet the hypotheses of clauses of NodeCommandsAndFirmware, 4 of 4. -/
theorem test_hyp_NodeCommandsAndFirmware_3 : ∃ (s : State) (n : Fin 48) (d : Dn8) (b : Nat) (total : Nat) (v : Nat) (g : Nat) (l : List
  Byte), s.nodes[n.val]? = some d ∧ d.fw = some (b, total, v, g) ∧ l.length = min d.blockSize (total - d.fwNext) ∧ total ≤ d.fwNext +
  l.length ∧ sha256 (d.fwData ++ l) = g :=
  ⟨{ live with nodes := [{ fw := some (0, 0, 0, sha256 []) }] }, 0, { fw := some (0, 0, 0, sha256 []) }, 0, 0, 0, sha256 [], [], by
    decide +kernel⟩

/-- States and operands that meet the hypotheses of each clause of NodeTripsAndContention. -/
theorem test_hyp_NodeTripsAndContention :
    (∃ (s : State) (n : Fin 48) (d : Dn8) (above : Bool) (held : Nat), s.nodes[n.val]? = some d ∧ d.st ≠ NodeSt.powerOff ∧ (if above =
      true then 100 * d.ov ≤ held else held ≤ 100 * d.uv)) ∧
    (∃ (s : State) (n : Fin 48) (d : Dn8) (above : Bool) (held : Nat), s.nodes[n.val]? = some d ∧ (d.st = NodeSt.powerOff ∨ if above =
      true then held < 100 * d.ov else 100 * d.uv < held)) ∧
    (∃ (s : State) (n : Fin 48) (d : Dn8), s.nodes[n.val]? = some d ∧ d.st = NodeSt.powerOff) ∧
    (∃ (s : State) (n : Fin 48) (d : Dn8), s.nodes[n.val]? = some d ∧ (d.silent = true ∨ (d.timing.elim false fun b => decide (0 <
      b.kCount)) = false ∨ d.kackWait.isSome = true ∨ ¬(d.st = NodeSt.joining ∧ d.joinWait = true) ∧ (d.linked = false ∨ d.contQ = []))) ∧
    (∃ (s : State) (n : Fin 48) (d : Dn8) (b : Beacon), s.nodes[n.val]? = some d ∧ d.silent = false ∧ d.timing = some b ∧ 0 < b.kCount ∧
      d.kackWait = none ∧ (d.st = NodeSt.joining ∧ d.joinWait = true ∨ d.linked = true ∧ d.contQ ≠ []) ∧ 0 < d.backoff) ∧
    (∃ (s : State) (n : Fin 48) (d : Dn8) (b : Beacon), s.nodes[n.val]? = some d ∧ d.silent = false ∧ d.timing = some b ∧ 0 < b.kCount ∧
      d.kackWait = none ∧ d.backoff = 0 ∧ d.st = NodeSt.joining ∧ d.joinWait = true) ∧
    (∃ (s : State) (n : Fin 48) (d : Dn8) (b : Beacon), s.nodes[n.val]? = some d ∧ d.timing = some b ∧ 0 < b.kCount ∧ d.kackWait = none ∧
      d.backoff = 0 ∧ d.linked = true ∧ d.contQ ≠ []) :=
  ⟨⟨{ live with nodes := [{ st := .synced }] }, 0, { st := .synced }, true, 37000, by decide⟩,
   ⟨{ live with nodes := [{ st := .powerOff }] }, 0, { st := .powerOff }, true, 0, by decide⟩,
   ⟨{ live with nodes := [{ st := .powerOff }] }, 0, { st := .powerOff }, by decide⟩,
   ⟨{ live with nodes := [{ silent := true }] }, 0, { silent := true }, by decide⟩,
   ⟨{ live with nodes := [{ st := .joining, joinWait := true, timing := some { kCount := 1 }, backoff := 1 }] }, 0,
     { st := .joining, joinWait := true, timing := some { kCount := 1 }, backoff := 1 }, { kCount := 1 }, by decide⟩,
   ⟨{ live with nodes := [{ st := .joining, joinWait := true, timing := some { kCount := 1 } }] }, 0,
     { st := .joining, joinWait := true, timing := some { kCount := 1 } }, { kCount := 1 }, by decide⟩,
   ⟨{ live with nodes := [{ node0 with contQ := [(1, [])], timing := some { kCount := 1 } }] }, 0,
     { node0 with contQ := [(1, [])], timing := some { kCount := 1 } }, { kCount := 1 }, by decide⟩⟩

/-- States and operands that meet the hypotheses of each clause of ArbiterKeepsQuotasAndFloor. -/
theorem test_hyp_ArbiterKeepsQuotasAndFloor :
    (∃ (s : State) (want : List Nat), s.up 6 = true ∧ ((want.any fun x => decide (0 < x)) = true)) ∧
    (∃ (s : State) (want : List Nat), (s.up 6 = false ∨ (want.any fun x => decide (0 < x)) = false)) ∧
    (∃ (a1 : Arb) (cfg : List Nat) (want : List Nat) (r : Nat), (a1.arbitrate cfg want).granted = some r) ∧
    (∃ (a2 : Arb) (cfg : List Nat) (want : List Nat) (r : Nat), r < 2 ∧ (a2.arbitrate cfg want).granted = some r) ∧
    (∃ (a2 : Arb) (cfg : List Nat) (want : List Nat), 64 ≤ a2.round + nth (a2.arbitrate cfg want).cfg 2 0 ∧ (0 < nth want 4 0 ∨ 0 < nth
      want 5 0)) ∧
    (∃ (a3 : Arb) (cfg : List Nat) (want : List Nat), ((a3.openWindow cfg).floorRound = false ∨ nth want 4 0 = 0 ∧ nth want 5 0 = 0) ∧
      ((a3.openWindow cfg).eligible want 0 = true ∨ (a3.openWindow cfg).eligible want 1 = true)) ∧
    (∃ (a5 : Arb) (cfg : List Nat) (want : List Nat), ((a5.openWindow cfg).floorRound = false ∨ nth want 4 0 = 0 ∧ nth want 5 0 = 0) ∧
      (a5.openWindow cfg).eligible want 0 = false ∧ (a5.openWindow cfg).eligible want 1 = false ∧ ((a5.openWindow cfg).eligible want 2 =
      true ∨ (a5.openWindow cfg).eligible want 3 = true)) ∧
    (∃ (a1 : Arb) (cfg : List Nat) (want : List Nat), (a1.arbitrate cfg want).granted = none) :=
  ⟨⟨live, [1], by decide⟩,
   ⟨{ live with sys.pd := [] }, [], by decide⟩,
   ⟨({} : Arb), [1, 1, 1, 1, 1, 1, 1, 1, 1], [1, 0, 0, 0, 0, 0], 0, by decide⟩,
   ⟨({} : Arb), [1, 1, 1, 1, 1, 1, 1, 1, 1], [1, 0, 0, 0, 0, 0], 0, by decide⟩,
   ⟨{ round := 63 }, [1, 1, 1, 1, 1, 1, 1, 1, 1], [0, 0, 0, 0, 1, 0], by decide⟩,
   ⟨({} : Arb), [24, 24, 4, 16, 16, 16, 16, 16, 16], [1], by decide⟩,
   ⟨({} : Arb), [24, 24, 4, 16, 16, 16, 16, 16, 16], [0, 0, 1], by decide⟩,
   ⟨({} : Arb), [], [], by decide⟩⟩

/-- States and operands that meet the hypotheses of clauses of MgpJobsAndMram, 1 of 2. -/
theorem test_hyp_MgpJobsAndMram :
    (∃ (s : State) (want : List Nat), s.up 6 = true ∧ ((want.any fun x => decide (0 < x)) = true)) ∧
    (∃ (s : State) (ua : Nat), loopClass ua ≠ s.mea.loop ∧ s.prl.resLeft = 0) ∧
    (∃ (s : State), s.sys.mgpAway = false ∧ s.sys.st ≠ OpState.pilot ∧ s.up 6 = true) ∧
    (∃ (s : State), (s.sys.mgpAway = true ∨ s.sys.st = OpState.pilot ∨ s.up 6 = false)) ∧
    (∃ (s : State) (c : Instr) (due : Bool), (c = Instr.capCommitDue ∧ due = (s.est.commitDue || s.est.commitHeld) ∨ c =
      Instr.capCommitRetry ∧ due = s.est.commitRetry) ∧ due = false) ∧
    (∃ (s : State) (c : Instr) (due : Bool), (c = Instr.capCommitDue ∧ due = (s.est.commitDue || s.est.commitHeld) ∨ c =
      Instr.capCommitRetry ∧ due = s.est.commitRetry) ∧ due = true ∧ s.sys.boWarn = true) ∧
    (∃ (s : State) (c : Instr) (due : Bool), (c = Instr.capCommitDue ∧ due = (s.est.commitDue || s.est.commitHeld) ∨ c =
      Instr.capCommitRetry ∧ due = s.est.commitRetry) ∧ due = true ∧ s.sys.boWarn = false ∧ (s.mbx.long = true ∨ s.sys.mgpAway = true)) ∧
    (∃ (s : State) (c : Instr) (due : Bool), (c = Instr.capCommitDue ∧ due = (s.est.commitDue || s.est.commitHeld) ∨ c =
      Instr.capCommitRetry ∧ due = s.est.commitRetry) ∧ due = true ∧ s.sys.boWarn = false ∧ s.mbx.long = false ∧ s.sys.mgpAway = false) ∧
    (∃ (s : State), s.sys.mgpAway = true) ∧
    (∃ (s : State), s.sys.mgpAway = false ∧ s.log.pd0.length = 2) ∧
    (∃ (s : State), (s.log.snapDue = none ∨ s.up 6 = false)) ∧
    (∃ (s : State) (c : Nat), s.log.snapDue = some c ∧ s.up 6 = true ∧ s.log.snaps.length = 2) :=
  ⟨⟨live, [1], by decide⟩,
   ⟨{ live with prl.resLeft := 0 }, 10000, by decide⟩,
   ⟨{ live with sys.mgpAway := false }, by decide⟩,
   ⟨{ live with sys.mgpAway := true }, by decide⟩,
   ⟨live, .capCommitDue, false, by decide⟩,
   ⟨{ live with sys.boWarn := true, est.commitDue := true }, .capCommitDue, true, by decide⟩,
   ⟨{ live with sys.boWarn := false, mbx.long := true, est.commitDue := true }, .capCommitDue, true, by decide⟩,
   ⟨{ live with sys.boWarn := false, mbx.long := false, sys.mgpAway := false, est.commitDue := true }, .capCommitDue, true, by decide⟩,
   ⟨{ live with sys.mgpAway := true }, by decide⟩,
   ⟨{ live with sys.mgpAway := false }, by decide⟩,
   ⟨{ live with log.snapDue := none }, by decide⟩,
   ⟨{ live with log.snapDue := some 0 }, 0, by decide⟩⟩

/-- States and operands that meet the hypotheses of clauses of MgpJobsAndMram, 2 of 2. -/
theorem test_hyp_MgpJobsAndMram_1 : ∃ (s : State) (ref : Rat) (n : Nat) (i : Nat), bitOf (s.balMask ref n) i = true :=
  ⟨{ live with csm.recs := live.csm.recs.set 0 { anchored := true, vS := 31000, stale := false }, mea.nodes := [{ stale := false, lost := false }] },
    10000000, 0, 0, balMask_one (by decide +kernel) (by decide)⟩

/-- States and operands that meet the hypotheses of each clause of RecorderQueuesAndWrites. -/
theorem test_hyp_RecorderQueuesAndWrites :
    (∃ (s : State) (src : Nat), s.log.queue.length < 64 ∧ (src ≠ 0 ∨ s.sys.mgpAway = false)) ∧
    (∃ (s : State) (src : Nat), 64 ≤ s.log.queue.length ∧ (src ≠ 0 ∨ s.sys.mgpAway = false)) ∧
    (∃ (s : State), s.sys.mgpAway = true) ∧
    (∃ (s : State), s.log.scanned = true ∧ s.log.unreported = 0 ∧ s.log.queue = []) ∧
    (∃ (s : State) (r : LogRec) (l : List LogRec) (i : Nat), s.log.scanned = true ∧ s.log.unreported = 0 ∧ s.log.queue = r :: l ∧
      Log.choose { s.log with queue := l } s.sys.clock r.sev = some i) ∧
    (∃ (s : State) (r : LogRec) (l : List LogRec), s.log.scanned = true ∧ s.log.unreported = 0 ∧ s.log.queue = r :: l ∧ Log.choose
      { s.log with queue := l } s.sys.clock r.sev = none) ∧
    (∃ (s : State), s.log.scanned = false ∧ newestSlot s.log.slots = none) ∧
    (∃ (s : State) (i : Nat) (q : Nat), s.log.scanned = false ∧ newestSlot s.log.slots = some (i, q)) ∧
    (∃ (q : Nat), q < 2 ^ 32 - 1) :=
  ⟨⟨live, 0, by decide⟩,
   ⟨{ live with log.queue := List.replicate 64 { pcc := 0, opsec := 0, time := 0, code := 0, sev := 0, src := 0, data := [] } }, 0, by
     decide⟩,
   ⟨{ live with sys.mgpAway := true }, by decide⟩,
   ⟨{ live with log.scanned := true, log.unreported := 0, log.queue := [] }, by decide⟩,
   ⟨{ live with log.scanned := true, log.unreported := 0, log.queue := [{ pcc := 0, opsec := 0, time := 0, code := 0, sev := 0, src := 0, data := [] }] },
     { pcc := 0, opsec := 0, time := 0, code := 0, sev := 0, src := 0, data := [] }, [], 0, by decide⟩,
   ⟨{ live with log.scanned := true, log.unreported := 0, log.queue := [{ pcc := 0, opsec := 0, time := 0, code := 0, sev := 0, src := 0, data := [] }], log.slots := List.replicate 65536 (0, { pcc := 0, opsec := 0, time := 0, code := 0, sev := 0, src := 0, data := [] }, 0) },
     { pcc := 0, opsec := 0, time := 0, code := 0, sev := 0, src := 0, data := [] }, [], ⟨rfl, rfl, rfl, choose_full (Nat.le_refl _) rfl
     rfl rfl rfl⟩⟩,
   ⟨{ live with log.scanned := false }, by decide⟩,
   ⟨{ live with log.scanned := false, log.slots := [(0, { pcc := 0, opsec := 0, time := 0, code := 0, sev := 0, src := 0, data := [] }, 0)] },
     0, 0, by decide⟩,
   ⟨0, by decide⟩⟩

/-- States and operands that meet the hypotheses of each clause of CommandsOfTheControlEngine. -/
theorem test_hyp_CommandsOfTheControlEngine :
    (∃ (s : State) (w : Word), s.up 3 = true ∧ s.sys.st ≠ OpState.pilot ∧ BitVec.toNat w < 3) ∧
    (∃ (w : Word), BitVec.toNat w = 3) ∧
    (∃ (w : Word), 4 ≤ BitVec.toNat w) ∧
    (∃ (s : State) (c : Instr) (b : Bool) (w : Word) (v : Word), s.up 3 = true ∧ s.sys.st = OpState.pilot ∧ BitVec.toNat v < 3 ∧ (c =
      Instr.coefHold b ∨ c = Instr.ctlCmdI w ∨ c = Instr.ctlCmdP w ∨ c = Instr.ctlCmdV w ∨ c = Instr.ctlMode v)) ∧
    (∃ (s : State) (c : Instr) (b : Bool) (w : Word) (v : Word), s.up 3 = false ∧ BitVec.toNat v < 3 ∧ (c = Instr.coefHold b ∨ c =
      Instr.coefLoad ∨ c = Instr.ctlCmdI w ∨ c = Instr.ctlCmdP w ∨ c = Instr.ctlCmdV w ∨ c = Instr.ctlMode v)) :=
  ⟨⟨live, 0, by decide⟩,
   ⟨3, by decide⟩,
   ⟨4, by decide⟩,
   ⟨{ live with sys.st := .pilot }, .coefHold true, true, 0, 0, by decide⟩,
   ⟨{ live with sys.pd := [] }, .coefHold true, true, 0, 0, by decide⟩⟩

/-- States and operands that meet the hypotheses of each clause of SetPointsQueueUnderR285. -/
theorem test_hyp_SetPointsQueueUnderR285 :
    (∃ (s : State), s.takesCommands = false) ∧
    (∃ (s : State), s.ctl.queue.length ≤ 4) ∧
    (∃ (s : State) (apply : Nat), s.takesCommands = true ∧ s.ctl.queue.length = 4 ∧ (∀ (x : SetCmd), x ∈ s.ctl.queue → x.apply ≠ apply)) ∧
    (∃ (s : State) (now : Nat) (apply : Nat), s.takesCommands = true ∧ s.ctl.queue.length < 4 ∧ reached now apply = true) :=
  ⟨⟨live, by decide⟩,
   ⟨live, by decide⟩,
   ⟨{ live with sys.st := .dispatch, sys.base := .dispatch, ctl.queue := List.replicate 4 { apply := 1, mode := 0, value := 0 } }, 0, by
     decide⟩,
   ⟨{ live with sys.st := .dispatch, sys.base := .dispatch }, 0, 0, by decide⟩⟩

/-- States and operands that meet the hypotheses of each clause of LimitsAndDutiesKeepTheirBounds. -/
theorem test_hyp_LimitsAndDutiesKeepTheirBounds :
    (∃ (s : State) (c : Bool) (v : Nat) (k : Nat) (j : Nat), leastTerm (s.limTerms c) 0 = some (v, k) ∧ (s.limTerms c)[j]? = some (some
      (v))) ∧
    (∃ (prev : Nat) (d : Int), 0 ≤ d ∧ prev ≤ 65535) :=
  ⟨⟨live, true, 0, 0, 0, by decide⟩,
   ⟨0, 0, by decide⟩⟩

/-- States and operands that meet the hypotheses of each clause of EvaluationsOfTheControlEngine. -/
theorem test_hyp_EvaluationsOfTheControlEngine :
    (∃ (s : State), (s.sys.st = OpState.pilot ∨ s.prl.frozen = true)) ∧
    (∃ (s : State) (m : OuterIn), s.sys.st ≠ OpState.pilot ∧ s.prl.frozen = false ∧ m.late = true) ∧
    (∃ (s : State) (m : OuterIn), s.sys.st ≠ OpState.pilot ∧ s.prl.frozen = false ∧ m.late = false) ∧
    (∃ (s : State) (p : Fin 16) (m : EvalIn), (s.isUpdate m = false ∨ s.held = false ∧ s.sys.st = OpState.pilot ∨ s.held = true ∧
      (m.valley = false ∨ (nth s.phm.ph p.val { }).active = false))) ∧
    (∃ (s : State) (p : Fin 16) (m : EvalIn), s.isUpdate m = true ∧ s.held = true ∧ m.valley = true ∧ (nth s.phm.ph p.val { }).active =
      true) ∧
    (∃ (s : State) (m : EvalIn), s.sys.st ≠ OpState.pilot ∧ s.held = false ∧ s.isUpdate m = true ∧ s.phm.ph.length = 16) ∧
    (∃ (s : State), s.prl.heldB = none ∧ s.prl.takeDue = none) ∧
    (∃ (s : State), s.ctl.ovrPersist = true ∧ 5 < s.sag.deg.length) ∧
    (∃ (s : State), s.ctl.ovrPersist = false) ∧
    (∃ (s : State) (b : Bool), s.isumBeyond = b ∧ 3 < s.sag.deg.length) ∧
    (∃ (s : State) (b : Bool), s.isumBeyond ≠ b) :=
  ⟨⟨{ live with sys.st := .pilot }, by decide⟩,
   ⟨{ live with prl.frozen := false }, { late := true }, by decide⟩,
   ⟨{ live with prl.frozen := false }, { late := false }, by decide⟩,
   ⟨live, 0, { valley := false }, by decide⟩,
   ⟨{ live with prl.frozen := true, phm.ph := live.phm.ph.set 0 { active := true } }, 0, { valley := true }, by decide⟩,
   ⟨live, ({} : EvalIn), by decide⟩,
   ⟨{ live with prl.heldB := none, prl.takeDue := none }, by decide⟩,
   ⟨{ live with ctl.ovrPersist := true }, by decide⟩,
   ⟨{ live with ctl.ovrPersist := false }, by decide⟩,
   ⟨{ live with ctl.isumDiff := 1000000000 }, true, by decide⟩,
   ⟨live, true, by decide⟩⟩

/-- States and operands that meet the hypotheses of each clause of PhaseEventsAct. -/
theorem test_hyp_PhaseEventsAct :
    (∃ (s : State) (p : Fin 16) (d : Nat), s.phm.ph.length = 16 ∧ (nth s.phm.ph p.val { }).active = true ∧ (nth s.phm.ph p.val { }).pkSeen
      = false ∧ s.par P.phmIpk < ↑(s.fastMa (p.val) d).natAbs) ∧
    (∃ (s : State) (p : Fin 16) (d : Nat), s.phm.ph.length = 16 ∧ ((nth s.phm.ph p.val { }).active = false ∨ (nth s.phm.ph p.val
      { }).pkSeen = true ∨ ↑(s.fastMa (p.val) d).natAbs ≤ s.par P.phmIpk)) ∧
    (∃ (s : State) (p : Fin 16), s.phm.ph.length = 16 ∧ bitOf s.enMask p.val = true ∧ s.phm.enHigh = true) ∧
    (∃ (s : State) (p : Fin 16), s.phm.ph.length = 16 ∧ (bitOf s.enMask p.val = false ∨ s.phm.enHigh = false)) ∧
    (∃ (s : State), s.phm.ph.length = 16 ∧ s.prl.owner = false) ∧
    (∃ (s : State), s.phm.ph.length = 16 ∧ s.prl.owner = true) ∧
    (∃ (s : State) (n : Nat), s.phm.ph.length = 16 ∧ (n < 95 ∨ 1005 < n)) ∧
    (∃ (s : State) (n : Nat), s.phm.ph.length = 16 ∧ 95 ≤ n ∧ n ≤ 1005) ∧
    (∃ (s : State) (p : Fin 16), s.phm.ph.length = 16 ∧ (nth s.phm.ph p.val { }).share = false ∧ s.outOfShare p.val = true) ∧
    (∃ (s : State) (p : Fin 16), s.phm.ph.length = 16 ∧ (nth s.phm.ph p.val { }).share = true ∧ s.outOfShare p.val = false) ∧
    (∃ (s : State) (p : Fin 16) (b : Bool), s.phm.ph.length = 16 ∧ ((nth s.phm.ph p.val { }).share = b ∨ s.outOfShare p.val ≠ b)) :=
  ⟨⟨{ live with phm.ph := live.phm.ph.set 0 { active := true } }, 0, 64, by decide⟩,
   ⟨live, 0, 0, by decide⟩,
   ⟨{ live with phm.enHigh := true, phm.enMask := Tv.put 1 }, 0, by decide⟩,
   ⟨live, 0, by decide⟩,
   ⟨{ live with prl.owner := false }, by decide⟩,
   ⟨{ live with prl.owner := true }, by decide⟩,
   ⟨live, 0, by decide⟩,
   ⟨live, 95, by decide⟩,
   ⟨{ live with phm.ph := (live.phm.ph.set 0 { active := true, iMa := 100000 }).set 1 { active := true } }, 0, by decide⟩,
   ⟨{ live with phm.ph := live.phm.ph.set 0 { share := true } }, 0, by decide⟩,
   ⟨live, 0, true, by decide⟩⟩

/-- States and operands that meet the hypotheses of each clause of PhaseFaultIsRecordedOnce. -/
theorem test_hyp_PhaseFaultIsRecordedOnce :
    (∃ (s : State) (p : Nat) (c : Nat), p < s.phm.ph.length ∧ (nth s.phm.ph p { }).fault ≠ 0 ∧ (c ≠ 6 ∨ (nth s.phm.ph p { }).fault = 6)) ∧
    (∃ (s : State) (p : Nat) (c : Nat), p < s.phm.ph.length ∧ ((nth s.phm.ph p { }).fault = 0 ∨ c = 6 ∧ (nth s.phm.ph p { }).fault ≠ 6) ∧
      4 < s.sag.deg.length) ∧
    (∃ (s : State) (p : Nat) (q : Nat), p < s.phm.ph.length ∧ q ≠ p) :=
  ⟨⟨{ live with phm.ph := live.phm.ph.set 0 { fault := 2 } }, 0, 0, by decide⟩,
   ⟨live, 0, 0, by decide⟩,
   ⟨live, 0, 1, by decide⟩⟩

/-- States and operands that meet the hypotheses of each clause of PowerStageStartsAndStops. -/
theorem test_hyp_PowerStageStartsAndStops :
    (∃ (s : State) (x : List Nat), s.held = false ∧ s.phm.brake = false ∧ 2 ≤ s.phm.sinceBrake ∧ s.activePh ≠ [] ∧ ↑s.activePh.length *
      s.par P.phmRelTh < excess (s.fastSum x) s.ctl.iref) ∧
    (∃ (s : State) (x : List Nat), (s.held = true ∨ s.phm.brake = true ∨ s.phm.sinceBrake < 2 ∨ s.activePh = [] ∨ excess (s.fastSum x)
      s.ctl.iref ≤ ↑s.activePh.length * s.par P.phmRelTh)) ∧
    (∃ (s : State) (x : List Nat), s.held = false ∧ s.phm.brake = false ∧ s.activePh ≠ [] ∧ s.shedding = true ∧ ↑s.activePh.length * s.par
      P.phmStepTh < -excess (s.fastSum x) s.ctl.iref) ∧
    (∃ (s : State) (x : List Nat), (s.held = true ∨ s.phm.brake = true ∨ s.activePh = [] ∨ s.shedding = false ∨ -excess (s.fastSum x)
      s.ctl.iref ≤ ↑s.activePh.length * s.par P.phmStepTh)) ∧
    (∃ (s : State), s.phm.trk = Trk.dwell) ∧
    (∃ (s : State), s.phm.trk ≠ Trk.dwell) ∧
    (∃ (s : State), s.phm.trk = Trk.zeroHold) ∧
    (∃ (s : State), s.phm.trk ≠ Trk.zeroHold) ∧
    (∃ (s : State), (s.phm.trk = Trk.recovery ∨ s.phm.trk = Trk.slewing ∨ s.phm.trk = Trk.dwell)) ∧
    (∃ (s : State), (¬(s.phm.trk = Trk.recovery ∨ s.phm.trk = Trk.slewing ∨ s.phm.trk = Trk.dwell))) ∧
    (∃ (s : State), s.phm.trk = Trk.stopping ∧ s.phm.co3Drop = false ∧ ↑s.pins.shunt.natAbs < s.par P.phmStopI) ∧
    (∃ (s : State), (s.phm.trk ≠ Trk.stopping ∨ s.phm.co3Drop = true ∨ s.par P.phmStopI ≤ ↑s.pins.shunt.natAbs)) ∧
    (∃ (s : State), (s.phm.trk ≠ Trk.stopping ∨ s.phm.co3Drop = true)) ∧
    (∃ (w : Word), 65536 ≤ BitVec.toNat w) ∧
    (∃ (s : State) (w : Word), BitVec.toNat w < 65536 ∧ s.up 3 = false) ∧
    (∃ (s : State) (w : Word), BitVec.toNat w < 65536 ∧ s.up 3 = true ∧ s.phm.ph.length = 16) ∧
    (∃ (s : State), s.prl.swap ≠ SwapSt.takeSent) ∧
    (∃ (s : State), s.prl.swap = SwapSt.takeSent) :=
  ⟨⟨{ live with phm.brake := false, phm.ph := live.phm.ph.set 0 { active := true }, phm.sinceBrake := 2 }, [64], by decide⟩,
   ⟨live, [], by decide⟩,
   ⟨{ live with phm.brake := false, phm.ph := live.phm.ph.set 0 { active := true, ramp := 1 } }, [0], by decide⟩,
   ⟨live, [], by decide⟩,
   ⟨{ live with phm.trk := .dwell }, by decide⟩,
   ⟨live, by decide⟩,
   ⟨{ live with phm.trk := .zeroHold }, by decide⟩,
   ⟨live, by decide⟩,
   ⟨{ live with phm.trk := .recovery }, by decide⟩,
   ⟨live, by decide⟩,
   ⟨{ live with phm.trk := .stopping, phm.co3Drop := false }, by decide⟩,
   ⟨live, by decide⟩,
   ⟨live, by decide⟩,
   ⟨65536, by decide⟩,
   ⟨{ live with sys.pd := [] }, 0, by decide⟩,
   ⟨live, 0, by decide⟩,
   ⟨live, by decide⟩,
   ⟨{ live with prl.swap := .takeSent }, by decide⟩⟩

/-- States and operands that meet the hypotheses of each clause of ThermalEventsAct. -/
theorem test_hyp_ThermalEventsAct :
    (∃ (s : State) (k : Fin 4), k.val ≠ 1 ∧ s.up 11 = true ∧ 8192 ≤ 10 * nth s.thm.covered (k.val) 0) ∧
    (∃ (s : State), s.up 11 = true ∧ maskOf (List.map uncovered s.thm.phCovered) ≠ 0) ∧
    (∃ (s : State) (k : Fin 4), (s.up 11 = false ∨ k.val ≠ 1 ∧ 10 * nth s.thm.covered (k.val) 0 < 8192 ∨ k.val = 1 ∧ maskOf (List.map
      uncovered s.thm.phCovered) = 0)) ∧
    (∃ (s : State) (p : Nat), p < s.thm.phT.length) ∧
    (∃ (s : State), s.prl.frozen = false) ∧
    (∃ (s : State), s.prl.frozen = true) ∧
    (∃ (s : State), (s.sys.st = OpState.pilot ∨ s.sys.st = OpState.boot ∨ s.sys.st = OpState.off ∨ s.sys.st = OpState.selftest)) ∧
    (∃ (s : State) (b : Bool), (s.thm.seq b).st = 1 ∧ s.sys.st ≠ OpState.pilot ∧ s.up 11 = true) ∧
    (∃ (s : State) (b : Bool), ((s.thm.seq b).st ≠ 1 ∨ s.sys.st = OpState.pilot ∨ s.up 11 = false)) ∧
    (∃ (s : State) (k : Fin 3) (i : Fin 4) (b : Bool), s.ioBad k.val i.val = b ∧ s.thm.ioFlag k.val i.val = !b ∧ ¬(k.val = 1 ∧ 2 ≤ i.val))
      ∧
    (∃ (s : State) (k : Fin 3) (i : Fin 4) (b : Bool), (s.ioBad k.val i.val = !b ∨ s.thm.ioFlag k.val i.val = b ∨ k.val = 1 ∧ 2 ≤ i.val))
      ∧
    (∃ (s : State) (g : Fin 384), nth s.thm.src (g.val) 0 = 2) ∧
    (∃ (s : State) (g : Fin 384), nth s.thm.src (g.val) 0 ≠ 2) :=
  ⟨⟨{ live with thm.covered := [820, 0, 0, 0] }, 0, by decide⟩,
   ⟨{ live with thm.phCovered := List.replicate 16 820 }, by decide⟩,
   ⟨{ live with sys.pd := [] }, 0, by decide⟩,
   ⟨live, 0, by decide⟩,
   ⟨{ live with prl.frozen := false }, by decide⟩,
   ⟨{ live with prl.frozen := true }, by decide⟩,
   ⟨{ live with sys.st := .pilot }, by decide⟩,
   ⟨{ live with thm.chg := { st := 1 } }, true, by decide⟩,
   ⟨live, true, by decide⟩,
   ⟨{ live with thm.duty := List.replicate 8 65535 }, 0, 0, true, by decide⟩,
   ⟨live, 0, 0, true, by decide⟩,
   ⟨{ live with thm.src := live.thm.src.set 0 2 }, 0, by decide⟩,
   ⟨live, 0, by decide⟩⟩

/-- States and operands that meet the hypotheses of each clause of IsolationDropsEveryOutput. -/
theorem test_hyp_IsolationDropsEveryOutput : ∃ (s : State) (c : Nat) (p : Phase), s.sag.latch = false ∧ p ∈ (s.isolate c).phm.ph :=
  ⟨{ live with sag.latch := false }, 0, ({} : Phase), by decide⟩

/-- States and operands that meet the hypotheses of each clause of LaterCausesChangeNoOutput. -/
theorem test_hyp_LaterCausesChangeNoOutput :
    (∃ (s : State) (c : Nat) (m : TickIn) (l : List Nat), s.sagLive = true ∧ m.cycleOk = true ∧ s.sag.latch = false ∧ s.cycleCauses = c ::
      l ∧ (c < 17 ∨ (s.sag.apartNow m).fst < 82 ∧ (s.sag.apartNow m).snd < 82)) ∧
    (∃ (s : State) (m : TickIn), s.sagLive = true ∧ m.cycleOk = true ∧ s.sag.latch = false ∧ (∀ (x : Nat), x ∈ s.cycleCauses → 17 < x) ∧
      (82 ≤ (s.sag.apartNow m).fst ∨ 82 ≤ (s.sag.apartNow m).snd) ∧ s.sag.diagBad = []) ∧
    (∃ (s : State) (x : Nat), s.sag.latch = true ∧ x ∈ s.sag.causes) :=
  ⟨⟨{ live with sag.latch := false, sag.ovRun := [255] }, 3, { cycleOk := true }, [], by decide⟩,
   ⟨{ live with sag.latch := false, sag.diagBad := [], sag.apart := (82, 0) }, { cycleOk := true, loop2Ua := 2000 }, by decide⟩,
   ⟨{ live with sag.latch := true, sag.causes := [0] }, 0, by decide⟩⟩

/-- States and operands that meet the hypotheses of clauses of SaggarInputsIsolate, 1 of 2. -/
theorem test_hyp_SaggarInputsIsolate :
    (∃ (s : State) (i : Int), s.sagLive = true ∧ s.saf P.sagOcDis < i) ∧
    (∃ (s : State) (i : Int), s.sagLive = true ∧ i ≤ s.saf P.sagOcDis ∧ i < -s.saf P.sagOcChg) ∧
    (∃ (s : State), s.sagLive = true ∧ s.sag.ilkDone = true) ∧
    (∃ (s : State), s.sagLive = true ∧ s.prl.mode = 1) ∧
    (∃ (s : State) (own : Int), s.sagLive = true ∧ 16000 < (own - s.pins.shunt).natAbs ∧ 9 ≤ s.sag.shuntRun) ∧
    (∃ (s : State) (w : Fin 8) (r : List (Bool × Bool)) (m : Bool), s.sagLive = true ∧ s.sys.slot = coilSlot (w.val) s.prl.pos ∧ (nth
      s.sag.pullin (w.val / 2) false = false ∧ m = false ∨ 5 ≤ nth s.sag.tpSkip (w.val) 0) ∧ readsOk (nth s.sag.coil (w.val / 2) false) r
      = false) ∧
    (∃ (s : State) (k : Fin 4), s.sagLive = true ∧ nth s.sag.coil (k.val) false = true ∧ s.aux k.val = false ∧ nth s.sag.seen (k.val)
      false = true) ∧
    (∃ (s : State) (k : Fin 4) (v : Bool), s.sagLive = true ∧ s.weldBad (k.val) v = some true) ∧
    (∃ (s : State) (k : Fin 4), s.sagLive = true ∧ nth s.sag.coil (k.val) false = false ∧ s.partnerCoil k.val = false) :=
  ⟨⟨live, 1000000000, by decide⟩,
   ⟨live, -1000000000, by decide⟩,
   ⟨{ live with sag.ilkDone := true }, by decide⟩,
   ⟨{ live with prl.mode := 1 }, by decide⟩,
   ⟨{ live with sag.shuntRun := 9 }, 16001, by decide⟩,
   ⟨{ live with sys.slot := 0 }, 0, [], false, by decide⟩,
   ⟨{ live with sag.coil := live.sag.coil.set 0 true, sag.seen := live.sag.seen.set 0 true }, 0, by decide⟩,
   ⟨live, 0, true, by decide⟩,
   ⟨{ live with sag.coil := live.sag.coil.set 0 false }, 0, by decide⟩⟩

/-- States and operands that meet the hypotheses of clauses of SaggarInputsIsolate, 2 of 2. -/
theorem test_hyp_SaggarInputsIsolate_1 : ∃ (s : State) (b : List Byte), s.sagLive = true ∧ s.linkUp = true ∧ pairCrcOk b = true ∧ leAt b 0
  1 = 4 :=
  ⟨{ live with prl.mode := 1 }, pairOf (leBytes 2 4), by decide +kernel⟩

/-- States and operands that meet the hypotheses of each clause of SaggarChecksThatPass. -/
theorem test_hyp_SaggarChecksThatPass :
    (∃ (s : State) (i : Int), i ≤ s.saf P.sagOcDis ∧ -s.saf P.sagOcChg ≤ i) ∧
    (∃ (s : State), s.sag.ilkDone = false ∧ s.sag.coil.length = 4) ∧
    (∃ (s : State), s.sag.ilkDone = false ∧ (s.sag.ilkOpened = true ∨ s.pins.ilkClosed = false)) ∧
    (∃ (s : State), (s.sag.ilkDone = true ∨ s.sag.ilkOpened = false ∧ s.pins.ilkClosed = true)) ∧
    (∃ (s : State) (b : Bool), (b = false ∨ s.prl.mode ≠ 1)) ∧
    (∃ (s : State) (b : List Byte), (s.linkUp = false ∨ pairCrcOk b = true ∧ leAt b 0 1 ≠ 4)) ∧
    (∃ (s : State) (b : List Byte), s.linkUp = true ∧ pairCrcOk b = false) ∧
    (∃ (s : State) (own : Int), (own - s.pins.shunt).natAbs ≤ 16000) ∧
    (∃ (s : State) (own : Int), 16000 < (own - s.pins.shunt).natAbs ∧ s.sag.shuntRun < 9) ∧
    (∃ (s : State) (w : Fin 8), s.sys.slot ≠ coilSlot (w.val) s.prl.pos) ∧
    (∃ (s : State) (w : Fin 8) (m : Bool), s.sys.slot = coilSlot (w.val) s.prl.pos ∧ (nth s.sag.pullin (w.val / 2) false = true ∨ m =
      true) ∧ nth s.sag.tpSkip (w.val) 0 < 5) ∧
    (∃ (s : State) (w : Fin 8) (r : List (Bool × Bool)) (m : Bool), s.sys.slot = coilSlot (w.val) s.prl.pos ∧ (nth s.sag.pullin (w.val /
      2) false = false ∧ m = false ∨ 5 ≤ nth s.sag.tpSkip (w.val) 0) ∧ readsOk (nth s.sag.coil (w.val / 2) false) r = true) ∧
    (∃ (s : State) (k : Fin 4), nth s.sag.coil (k.val) false = true ∧ s.aux k.val = false ∧ ¬(k.val = 3 ∧ s.phm.trk = Trk.co3Req)) ∧
    (∃ (s : State), nth s.sag.coil 3 false = true ∧ s.aux 3 = false ∧ s.phm.trk = Trk.co3Req) ∧
    (∃ (s : State) (k : Fin 4), (nth s.sag.coil (k.val) false = false ∨ s.aux k.val = true)) ∧
    (∃ (s : State) (k : Fin 4), nth s.sag.seen (k.val) false = false) ∧
    (∃ (s : State) (k : Fin 4) (v : Bool), s.weldBad (k.val) v = none) ∧
    (∃ (s : State) (k : Fin 4) (v : Bool), s.weldBad (k.val) v = some false) ∧
    (∃ (s : State), s.sag.locked = true) ∧
    (∃ (s : State), s.sag.locked = false) ∧
    (∃ (s : State), s.sagLive = false) :=
  ⟨⟨live, 0, by decide⟩,
   ⟨{ live with sag.ilkDone := false }, by decide⟩,
   ⟨{ live with sag.ilkDone := false, sag.ilkOpened := true }, by decide⟩,
   ⟨{ live with sag.ilkDone := true }, by decide⟩,
   ⟨live, true, by decide⟩,
   ⟨live, [], by decide⟩,
   ⟨{ live with prl.mode := 1 }, [], by decide⟩,
   ⟨live, 0, by decide⟩,
   ⟨live, 16001, by decide⟩,
   ⟨{ live with sys.slot := 1 }, 0, by decide⟩,
   ⟨{ live with sys.slot := 0 }, 0, true, by decide⟩,
   ⟨{ live with sys.slot := 0 }, 0, [(true, false), (false, false), (true, false), (false, false)], false, by decide⟩,
   ⟨{ live with sag.coil := live.sag.coil.set 0 true }, 0, by decide⟩,
   ⟨{ live with sag.coil := live.sag.coil.set 3 true, phm.trk := .co3Req }, by decide⟩,
   ⟨{ live with sag.coil := live.sag.coil.set 0 false }, 0, by decide⟩,
   ⟨{ live with sag.seen := live.sag.seen.set 0 false }, 0, by decide⟩,
   ⟨{ live with sag.coil := [true, false, false, false] }, 0, true, by decide⟩,
   ⟨live, 0, false, by decide⟩,
   ⟨{ live with sag.locked := true }, by decide⟩,
   ⟨{ live with sag.locked := false }, by decide⟩,
   ⟨{ live with sys.st := .off }, by decide⟩⟩

/-- States and operands that meet the hypotheses of clauses of SafetyPdusAreCheckedAndActedOn, 1 of 3. -/
theorem test_hyp_SafetyPdusAreCheckedAndActedOn :
    (∃ (s : State) (p : PortId) (b : List Byte) (h : Net), (s.up 9 = false ∨ s.reaches p h = false ∨ h.discarded b.length = false ∧
      (h.dudp ≠ 48049 ∨ nth s.sys.pd 1 false = false))) ∧
    (∃ (s : State) (p : PortId) (b : List Byte) (h : Net), s.up 9 = true ∧ s.reaches p h = true ∧ h.discarded b.length = true) ∧
    (∃ (b : List Byte), (b.length ≠ 20 ∨ leAt b 0 1 ≠ 193 ∨ leAt b 1 1 ≠ 1 ∨ leAt b 10 2 ≠ 23205 ∧ leAt b 10 2 ≠ 42330)) ∧
    (∃ (s : State) (p : PortId) (b : List Byte) (h : Net) (k : Nat), s.Lands p h b.length 48049 ∧ nth s.sys.pd 1 false = true ∧ s.pduCheck
      b = some k) ∧
    (∃ (s : State) (p : PortId) (b : List Byte) (h : Net), s.Lands p h b.length 48049 ∧ nth s.sys.pd 1 false = true ∧ s.pduCheck b = none
      ∧ s.sag.session = false) ∧
    (∃ (s : State) (p : PortId) (b : List Byte) (h : Net), s.Lands p h b.length 48049 ∧ nth s.sys.pd 1 false = true ∧ s.pduCheck b = none
      ∧ 1 ≤ ((leAt b 2 2 + 65536 - s.sag.lastSeq) % 65536) ∧ ((leAt b 2 2 + 65536 - s.sag.lastSeq) % 65536) ≤ 16) ∧
    (∃ (s : State) (p : PortId) (b : List Byte) (h : Net), s.Lands p h b.length 48049 ∧ nth s.sys.pd 1 false = true ∧ s.pduCheck b = none
      ∧ s.sag.session = true ∧ 16 < ((leAt b 2 2 + 65536 - s.sag.lastSeq) % 65536)) ∧
    (∃ (s : State) (p : PortId) (b : List Byte) (h : Net), s.Lands p h b.length 48049 ∧ nth s.sys.pd 1 false = true ∧ s.pduCheck b = none
      ∧ s.sag.session = true ∧ leAt b 2 2 = s.sag.lastSeq ∧ (s.sag.pairOpen = false ∨ p = s.sag.firstPort)) ∧
    (∃ (s : State) (p : PortId) (b : List Byte) (h : Net), s.Lands p h b.length 48049 ∧ nth s.sys.pd 1 false = true ∧ s.pduCheck b = none
      ∧ s.sag.session = true ∧ leAt b 2 2 = s.sag.lastSeq ∧ s.sag.pairOpen = true ∧ p ≠ s.sag.firstPort) ∧
    (∃ (s : State) (b : List Byte), leAt b 10 2 ≠ 23205 ∧ s.sagLive = true) ∧
    (∃ (s : State), s.sag.pairOpen = false) :=
  ⟨⟨{ live with sys.pd := [] }, .a, [], ({} : Net), by decide⟩,
   ⟨live, .a, [], { frag := true }, by decide⟩,
   ⟨[], by decide⟩,
   ⟨{ live with sys.pd := live.sys.pd.set 1 true }, .a, [], { dudp := 48049 }, 0, lands_of (by decide), by decide⟩,
   ⟨{ live with sys.pd := live.sys.pd.set 1 true, sag.session := false, sag.cfg := live.sag.cfg.set 24 1 }, .a, pduOf 1,
     { dudp := 48049 }, lands_of (by decide), by decide⟩,
   ⟨{ live with sys.pd := live.sys.pd.set 1 true, sag.cfg := live.sag.cfg.set 24 1 }, .a, pduOf 16, { dudp := 48049 }, lands_of (by
     decide), by decide⟩,
   ⟨{ live with sys.pd := live.sys.pd.set 1 true, sag.session := true, sag.cfg := live.sag.cfg.set 24 1 }, .a, pduOf 17,
     { dudp := 48049 }, lands_of (by decide), by decide⟩,
   ⟨{ live with sys.pd := live.sys.pd.set 1 true, sag.session := true, sag.pairOpen := false, sag.cfg := live.sag.cfg.set 24 1 }, .a,
     pduOf 0, { dudp := 48049 }, lands_of (by decide), by decide⟩,
   ⟨{ live with sys.pd := live.sys.pd.set 1 true, sag.session := true, sag.pairOpen := true, sag.cfg := live.sag.cfg.set 24 1 }, .b, pduOf
     0, { dudp := 48049, dst := linkLocal0 1 }, lands_of (by decide), by decide⟩,
   ⟨live, [], by decide⟩,
   ⟨{ live with sag.pairOpen := false }, by decide⟩⟩

/-- States and operands that meet the hypotheses of clauses of SafetyPdusAreCheckedAndActedOn, 2 of 3. -/
theorem test_hyp_SafetyPdusAreCheckedAndActedOn_1 : ∃ (b : List Byte), b.length = 20 ∧ leAt b 0 1 = 193 ∧ leAt b 1 1 = 1 ∧ (leAt b 10 2 =
  23205 ∨ leAt b 10 2 = 42330) :=
  ⟨pduOf 0, by decide +kernel⟩

/-- States and operands that meet the hypotheses of clauses of SafetyPdusAreCheckedAndActedOn, 3 of 3. -/
theorem test_hyp_SafetyPdusAreCheckedAndActedOn_2 : ∃ (b : List Byte), leAt b 10 2 = 23205 :=
  ⟨pduOf 0, by decide +kernel⟩

/-- States and operands that meet the hypotheses of each clause of CoilPathsNeedEveryCondition. -/
theorem test_hyp_CoilPathsNeedEveryCondition :
    (∃ (s : State) (k : Nat), nth (s.coilService1 k).sag.coil k false = true) ∧
    (∃ (s : State) (k : Nat) (h : Bool), s.coAllowed k h = true) ∧
    (∃ (s : State), s.sag.latch = true ∧ s.sag.coil.length = 4) :=
  ⟨⟨{ live with sag.ilkDone := true, pins.ilkClosed := true, sys.coPermit := Tv.put 15, sys.st := .connected, sys.base := .connected, sag.want := [false, true, false, false] },
    1, by decide⟩,
   ⟨{ live with sag.ilkDone := true, pins.ilkClosed := true, sys.coPermit := Tv.put 15, sys.st := .connected, sys.base := .connected }, 1,
     true, by decide⟩,
   ⟨{ live with sag.latch := true }, by decide⟩⟩

/-- States and operands that meet the hypotheses of each clause of SafetyConfigurationCommits. -/
theorem test_hyp_SafetyConfigurationCommits :
    (∃ (c : List Int) (i : Nat) (v : Int), (List.find? (fun iv => !inRange iv.fst iv.snd) (Params.safety.zip c) = some (i, v))) ∧
    (∃ (c : List Int), (List.find? (fun iv => !inRange iv.fst iv.snd) (Params.safety.zip c) = none)) ∧
    (∃ (s : State), s.sag.clog.length + s.cfgChanges.length ≤ 1024) ∧
    (∃ (s : State), s.sag.clog.length ≤ 1024) :=
  ⟨⟨[200000], 0x60, 200000, by decide⟩,
   ⟨[], by decide⟩,
   ⟨live, by decide⟩,
   ⟨live, by decide⟩⟩

/-- States and operands that meet the hypotheses of clauses of PairLinkKeepsThePartner, 1 of 6. -/
theorem test_hyp_PairLinkKeepsThePartner :
    (∃ (s : State) (c : Instr) (b : List Byte) (h : Bool) (now : BitVec 32) (m : Mirror), s.linkUp = true ∧ pairCrcOk b = false ∧ (c =
      Instr.heartbeatRx b h ∨ c = Instr.mirrorPartRx b now m ∨ c = Instr.switchoverReq b ∨ c = Instr.switchoverReady b now ∨ c =
      Instr.switchoverRefuse b ∨ c = Instr.switchoverTake b ∨ c = Instr.switchoverAbandon b)) ∧
    (∃ (s : State) (c : Instr) (b : List Byte) (h : Bool) (now : BitVec 32) (m : Mirror) (x : Nat) (y : Nat), s.linkUp = false ∧ (c =
      Instr.heartbeatSend ∨ c = Instr.heartbeatRx b h ∨ c = Instr.heartbeatMissed ∨ c = Instr.mirrorPartRx b now m ∨ c =
      Instr.isolationDemandRepeat ∨ c = Instr.reserveTest x y ∨ c = Instr.switchoverReq b ∨ c = Instr.switchoverReady b now ∨ c =
      Instr.switchoverRefuse b ∨ c = Instr.switchoverTake b ∨ c = Instr.switchoverAbandon b)) ∧
    (∃ (s : State), s.sys.st = OpState.pilot ∧ s.prl.pathsRel = false ∧ s.prl.partnerOk = false ∧ s.pins.ownHigh = true) ∧
    (∃ (s : State), (s.sys.st ≠ OpState.pilot ∨ s.prl.pathsRel = true ∨ s.prl.partnerOk = true ∨ s.pins.ownHigh = false)) ∧
    (∃ (s : State), s.linkUp = true ∧ s.sag.latch = true) ∧
    (∃ (s : State), s.sag.latch = false) ∧
    (∃ (s : State), s.linkUp = true ∧ s.prl.ver ≠ 1) ∧
    (∃ (s : State), s.prl.ver = 1) :=
  ⟨⟨{ live with prl.mode := 1 }, .heartbeatRx [] true, [], true, 0, ({} : Mirror), by decide⟩,
   ⟨live, .heartbeatSend, [], true, 0, ({} : Mirror), 0, 0, by decide⟩,
   ⟨{ live with sys.st := .pilot, prl.pathsRel := false, prl.partnerOk := false, pins.ownHigh := true }, by decide⟩,
   ⟨live, by decide⟩,
   ⟨{ live with sag.latch := true, prl.mode := 1 }, by decide⟩,
   ⟨{ live with sag.latch := false }, by decide⟩,
   ⟨{ live with prl.mode := 1, prl.ver := 2 }, by decide⟩,
   ⟨{ live with prl.ver := 1 }, by decide⟩⟩

/-- States and operands that meet the hypotheses of clauses of PairLinkKeepsThePartner, 2 of 6. -/
theorem test_hyp_PairLinkKeepsThePartner_1 : ∃ (s : State) (b : List Byte), s.linkUp = true ∧ pairCrcOk b = true ∧ leAt b 0 1 = 1 :=
  ⟨{ live with prl.mode := 1 }, pairOf (leBytes 2 1), by decide +kernel⟩

/-- States and operands that meet the hypotheses of clauses of PairLinkKeepsThePartner, 3 of 6. -/
theorem test_hyp_PairLinkKeepsThePartner_2 : ∃ (s : State) (b : List Byte), s.linkUp = true ∧ pairCrcOk b = true ∧ leAt b 0 1 ≠ 1 :=
  ⟨{ live with prl.mode := 1 }, pairOf (leBytes 2 2), by decide +kernel⟩

/-- States and operands that meet the hypotheses of clauses of PairLinkKeepsThePartner, 4 of 6. -/
theorem test_hyp_PairLinkKeepsThePartner_3 : ∃ (s : State) (b : List Byte), s.linkUp = true ∧ pairCrcOk b = true ∧ (leAt b 0 1 ≠ 2 ∨
  s.sys.st ≠ OpState.pilot) :=
  ⟨{ live with prl.mode := 1 }, pairOf (leBytes 2 1), by decide +kernel⟩

/-- States and operands that meet the hypotheses of clauses of PairLinkKeepsThePartner, 5 of 6. -/
theorem test_hyp_PairLinkKeepsThePartner_4 : ∃ (s : State) (b : List Byte), s.linkUp = true ∧ pairCrcOk b = true ∧ leAt b 0 1 = 2 ∧
  s.sys.st = OpState.pilot ∧ s.prl.parts.fst ≠ leAt b 2 4 ∧ 1 < leAt b 8 2 :=
  ⟨{ live with sys.st := .pilot, prl.mode := 1 }, pairOf (leBytes 10 (2 + 2 ^ 16 + 2 * 2 ^ 64)), by decide +kernel⟩

/-- States and operands that meet the hypotheses of clauses of PairLinkKeepsThePartner, 6 of 6. -/
theorem test_hyp_PairLinkKeepsThePartner_5 : ∃ (s : State) (b : List Byte), s.linkUp = true ∧ pairCrcOk b = true ∧ leAt b 0 1 = 2 ∧
  s.sys.st = OpState.pilot ∧ s.prl.parts.fst ≠ leAt b 2 4 ∧ leAt b 8 2 = 1 ∧ leAt b 6 2 = 0 :=
  ⟨{ live with sys.st := .pilot, prl.mode := 1 }, pairOf (leBytes 10 (2 + 2 ^ 16 + 2 ^ 64)), by decide +kernel⟩

/-- States and operands that meet the hypotheses of clauses of SwitchoverPassesOwnership, 1 of 11. -/
theorem test_hyp_SwitchoverPassesOwnership :
    (∃ (s : State), s.prl.swap ≠ SwapSt.frozen) ∧
    (∃ (s : State), s.prl.swap ≠ SwapSt.requested) ∧
    (∃ (s : State), s.prl.swap = SwapSt.takeSent ∧ s.phm.brake = false ∧ s.prl.owner = true) ∧
    (∃ (s : State) (m : Mirror), s.prl.swap = SwapSt.takeSent ∧ s.phm.brake = false ∧ s.prl.owner = false ∧ s.prl.copy = some m) ∧
    (∃ (s : State), s.prl.swap = SwapSt.takeSent ∧ s.phm.brake = false ∧ s.prl.owner = false ∧ s.prl.copy = none) ∧
    (∃ (s : State), s.sys.st = OpState.pilot ∧ s.prl.mode = 1 ∧ s.prl.partnerOk = false ∧ s.prl.owner = false ∧ s.prl.takeDue = none ∧
      s.prl.pathsRel = false) ∧
    (∃ (s : State), s.sys.st = OpState.pilot ∧ s.prl.mode = 1 ∧ s.prl.partnerOk = false ∧ s.prl.owner = false ∧ s.prl.takeDue = none ∧
      s.prl.pathsRel = true) ∧
    (∃ (s : State), (s.sys.st ≠ OpState.pilot ∨ s.prl.mode ≠ 1 ∨ s.prl.partnerOk = true ∨ s.prl.owner = true ∨ s.prl.takeDue ≠ none)) ∧
    (∃ (s : State) (b : BitVec 32) (d : Nat), s.sys.st = OpState.pilot ∧ s.prl.heldB = none ∧ s.prl.takeDue = some d ∧ 50000 ≤ diffT
      b.toNat d) ∧
    (∃ (s : State) (b : BitVec 32) (d : Nat), s.prl.heldB = none ∧ s.prl.takeDue = some d ∧ diffT b.toNat d < 50000) ∧
    (∃ (s : State), (s.plk.link.any id = true ∨ s.par P.prlAutoSwap ≠ 1 ∨ s.mayRequestSwap = false)) ∧
    (∃ (s : State), s.plk.link.any id = false ∧ s.par P.prlAutoSwap = 1 ∧ s.mayRequestSwap = true) :=
  ⟨⟨live, by decide⟩,
   ⟨live, by decide⟩,
   ⟨{ live with prl.swap := .takeSent, phm.brake := false, prl.owner := true }, by decide⟩,
   ⟨{ live with prl.swap := .takeSent, phm.brake := false, prl.owner := false, prl.copy := some {} }, ({} : Mirror), by decide⟩,
   ⟨{ live with prl.swap := .takeSent, phm.brake := false, prl.owner := false, prl.copy := none }, by decide⟩,
   ⟨{ live with sys.st := .pilot, prl.mode := 1, prl.partnerOk := false, prl.owner := false, prl.takeDue := none, prl.pathsRel := false },
     by decide⟩,
   ⟨{ live with sys.st := .pilot, prl.mode := 1, prl.partnerOk := false, prl.owner := false, prl.takeDue := none, prl.pathsRel := true },
     by decide⟩,
   ⟨live, by decide⟩,
   ⟨{ live with sys.st := .pilot, prl.heldB := none, prl.takeDue := some 0 }, 50000, 0, by decide⟩,
   ⟨{ live with prl.heldB := none, prl.takeDue := some 0 }, 0, 0, by decide⟩,
   ⟨live, by decide⟩,
   ⟨{ live with dict.work := [(P.prlAutoSwap, 1)], prl.owner := true, prl.mode := 1, sys.st := .dispatch, prl.partnerOk := true, prl.partner := some { health := 0x3FFF } },
     by decide⟩⟩

/-- States and operands that meet the hypotheses of clauses of SwitchoverPassesOwnership, 2 of 11. -/
theorem test_hyp_SwitchoverPassesOwnership_1 : ∃ (s : State) (b : List Byte), s.linkUp = true ∧ pairCrcOk b = true ∧ leAt b 0 1 = 3 ∧ leAt
  b 2 1 = 1 :=
  ⟨{ live with prl.mode := 1 }, pairOf (leBytes 3 (3 + 1 * 2 ^ 16)), by decide +kernel⟩

/-- States and operands that meet the hypotheses of clauses of SwitchoverPassesOwnership, 3 of 11. -/
theorem test_hyp_SwitchoverPassesOwnership_2 : ∃ (s : State) (b : List Byte), s.linkUp = true ∧ pairCrcOk b = true ∧ leAt b 0 1 = 3 ∧ leAt
  b 2 1 = 2 ∧ s.prl.swap = SwapSt.requested ∧ s.prl.owner = true :=
  ⟨{ live with prl.swap := .requested, prl.owner := true, prl.mode := 1 }, pairOf (leBytes 3 (3 + 2 * 2 ^ 16)), by decide +kernel⟩

/-- States and operands that meet the hypotheses of clauses of SwitchoverPassesOwnership, 4 of 11. -/
theorem test_hyp_SwitchoverPassesOwnership_3 : ∃ (s : State) (b : List Byte), s.linkUp = true ∧ pairCrcOk b = true ∧ leAt b 0 1 = 3 ∧ leAt
  b 2 1 = 5 ∧ s.prl.swap = SwapSt.requested :=
  ⟨{ live with prl.swap := .requested, prl.mode := 1 }, pairOf (leBytes 3 (3 + 5 * 2 ^ 16)), by decide +kernel⟩

/-- States and operands that meet the hypotheses of clauses of SwitchoverPassesOwnership, 5 of 11. -/
theorem test_hyp_SwitchoverPassesOwnership_4 : ∃ (s : State) (b : List Byte), s.linkUp = true ∧ pairCrcOk b = true ∧ leAt b 0 1 = 3 ∧ leAt
  b 2 1 = 3 ∧ s.prl.swap = SwapSt.frozen :=
  ⟨{ live with prl.swap := .frozen, prl.mode := 1 }, pairOf (leBytes 3 (3 + 3 * 2 ^ 16)), by decide +kernel⟩

/-- States and operands that meet the hypotheses of clauses of SwitchoverPassesOwnership, 6 of 11. -/
theorem test_hyp_SwitchoverPassesOwnership_5 : ∃ (s : State) (b : List Byte), s.linkUp = true ∧ pairCrcOk b = true ∧ leAt b 0 1 = 3 ∧ leAt
  b 2 1 = 4 ∧ s.prl.pilotReady = true :=
  ⟨{ live with prl.pilotReady := true, prl.mode := 1 }, pairOf (leBytes 3 (3 + 4 * 2 ^ 16)), by decide +kernel⟩

/-- States and operands that meet the hypotheses of clauses of SwitchoverPassesOwnership, 7 of 11. -/
theorem test_hyp_SwitchoverPassesOwnership_6 : ∃ (s : State) (b : List Byte), s.linkUp = true ∧ pairCrcOk b = true ∧ (leAt b 0 1 ≠ 3 ∨
  leAt b 2 1 ≠ 1) :=
  ⟨{ live with prl.mode := 1 }, pairOf (leBytes 3 1), by decide +kernel⟩

/-- States and operands that meet the hypotheses of clauses of SwitchoverPassesOwnership, 8 of 11. -/
theorem test_hyp_SwitchoverPassesOwnership_7 : ∃ (s : State) (b : List Byte), s.linkUp = true ∧ pairCrcOk b = true ∧ (leAt b 0 1 ≠ 3 ∨
  leAt b 2 1 ≠ 2 ∨ s.prl.swap ≠ SwapSt.requested) :=
  ⟨{ live with prl.mode := 1 }, pairOf (leBytes 3 1), by decide +kernel⟩

/-- States and operands that meet the hypotheses of clauses of SwitchoverPassesOwnership, 9 of 11. -/
theorem test_hyp_SwitchoverPassesOwnership_8 : ∃ (s : State) (b : List Byte), s.linkUp = true ∧ pairCrcOk b = true ∧ (leAt b 0 1 ≠ 3 ∨
  leAt b 2 1 ≠ 5 ∨ s.prl.swap ≠ SwapSt.requested) :=
  ⟨{ live with prl.mode := 1 }, pairOf (leBytes 3 1), by decide +kernel⟩

/-- States and operands that meet the hypotheses of clauses of SwitchoverPassesOwnership, 10 of 11. -/
theorem test_hyp_SwitchoverPassesOwnership_9 : ∃ (s : State) (b : List Byte), s.linkUp = true ∧ pairCrcOk b = true ∧ (leAt b 0 1 ≠ 3 ∨
  leAt b 2 1 ≠ 3 ∨ s.prl.swap ≠ SwapSt.frozen) :=
  ⟨{ live with prl.mode := 1 }, pairOf (leBytes 3 1), by decide +kernel⟩

/-- States and operands that meet the hypotheses of clauses of SwitchoverPassesOwnership, 11 of 11. -/
theorem test_hyp_SwitchoverPassesOwnership_10 : ∃ (s : State) (b : List Byte), s.linkUp = true ∧ pairCrcOk b = true ∧ (leAt b 0 1 ≠ 3 ∨
  leAt b 2 1 ≠ 4 ∨ s.prl.pilotReady = false) :=
  ⟨{ live with prl.mode := 1 }, pairOf (leBytes 3 1), by decide +kernel⟩

/-- States and operands that meet the hypotheses of each clause of SessionsOfThePlantLink. -/
theorem test_hyp_SessionsOfThePlantLink :
    (∃ (s : State) (x : Tx) (c : Instr) (ty : Nat) (w : Word) (df : List Nat), (c, ty) ∈ [(Instr.regRead x, 2), (Instr.regWrite x w, 3),
      (Instr.mbxReq x, 4), (Instr.mbxPoll x, 5), (Instr.bulkRead x df, 6), (Instr.attnAck x, 8), (Instr.bye x, 9), (Instr.updBlock x, 10),
      (Instr.keepalive x, 11)] ∧ (s.up 9 = false ∨ s.reaches x.port x.toNet = false ∨ x.discarded x.dg.length = false ∧ x.dudp ≠ 48048)) ∧
    (∃ (s : State) (x : Tx) (c : Instr) (ty : Nat) (w : Word) (df : List Nat), (c, ty) ∈ [(Instr.regRead x, 2), (Instr.regWrite x w, 3),
      (Instr.mbxReq x, 4), (Instr.mbxPoll x, 5), (Instr.bulkRead x df, 6), (Instr.attnAck x, 8), (Instr.bye x, 9), (Instr.updBlock x, 10),
      (Instr.keepalive x, 11)] ∧ s.up 9 = true ∧ s.reaches x.port x.toNet = true ∧ x.discarded x.dg.length = true) ∧
    (∃ (s : State) (x : Tx) (c : Instr) (ty : Nat) (w : Word) (df : List Nat), s.Lands x.port x.toNet x.dg.length 48048 ∧ (c, ty) ∈
      [(Instr.regRead x, 2), (Instr.regWrite x w, 3), (Instr.mbxReq x, 4), (Instr.mbxPoll x, 5), (Instr.bulkRead x df, 6), (Instr.attnAck
      x, 8), (Instr.bye x, 9), (Instr.updBlock x, 10), (Instr.keepalive x, 11)] ∧ x.headOk = false) ∧
    (∃ (s : State) (x : Tx) (c : Instr) (ty : Nat) (w : Word) (df : List Nat), s.Lands x.port x.toNet x.dg.length 48048 ∧ (c, ty) ∈
      [(Instr.regRead x, 2), (Instr.regWrite x w, 3), (Instr.mbxReq x, 4), (Instr.mbxPoll x, 5), (Instr.bulkRead x df, 6), (Instr.attnAck
      x, 8), (Instr.bye x, 9), (Instr.updBlock x, 10), (Instr.keepalive x, 11)] ∧ x.headOk = true ∧ x.type ≠ ty) ∧
    (∃ (s : State) (x : Tx) (c : Instr) (ty : Nat) (w : Word) (df : List Nat), s.Lands x.port x.toNet x.dg.length 48048 ∧ (c, ty) ∈
      [(Instr.regRead x, 2), (Instr.regWrite x w, 3), (Instr.mbxReq x, 4), (Instr.mbxPoll x, 5), (Instr.bulkRead x df, 6), (Instr.attnAck
      x, 8), (Instr.bye x, 9), (Instr.updBlock x, 10), (Instr.keepalive x, 11)] ∧ x.headOk = true ∧ x.type = ty ∧ s.sessionAt x.session =
      none) ∧
    (∃ (s : State) (x : Tx) (c : Instr) (ty : Nat) (w : Word) (df : List Nat) (i : Nat) (y : Session), s.Lands x.port x.toNet x.dg.length
      48048 ∧ (c, ty) ∈ [(Instr.regRead x, 2), (Instr.regWrite x w, 3), (Instr.mbxReq x, 4), (Instr.mbxPoll x, 5), (Instr.bulkRead x df,
      6), (Instr.attnAck x, 8), (Instr.bye x, 9), (Instr.updBlock x, 10), (Instr.keepalive x, 11)] ∧ x.headOk = true ∧ x.type = ty ∧
      s.sessionAt x.session = some i ∧ s.sess i = some y ∧ x.ver ≠ y.ver) ∧
    (∃ (s : State) (x : Tx) (c : Instr) (ty : Nat) (w : Word) (df : List Nat) (i : Nat) (y : Session), s.Lands x.port x.toNet x.dg.length
      48048 ∧ (c, ty) ∈ [(Instr.regRead x, 2), (Instr.regWrite x w, 3), (Instr.mbxReq x, 4), (Instr.mbxPoll x, 5), (Instr.bulkRead x df,
      6), (Instr.attnAck x, 8), (Instr.bye x, 9), (Instr.updBlock x, 10), (Instr.keepalive x, 11)] ∧ x.headOk = true ∧ x.type = ty ∧
      s.sessionAt x.session = some i ∧ s.sess i = some y ∧ x.ver = y.ver ∧ y.kept.isSome = true ∧ y.tid = x.tid) ∧
    (∃ (s : State) (x : Tx) (c : Instr) (ty : Nat) (w : Word) (df : List Nat) (i : Nat) (y : Session), s.Lands x.port x.toNet x.dg.length
      48048 ∧ (c, ty) ∈ [(Instr.regRead x, 2), (Instr.regWrite x w, 3), (Instr.mbxReq x, 4), (Instr.mbxPoll x, 5), (Instr.bulkRead x df,
      6), (Instr.attnAck x, 8), (Instr.bye x, 9), (Instr.updBlock x, 10), (Instr.keepalive x, 11)] ∧ x.headOk = true ∧ x.type = ty ∧
      s.sessionAt x.session = some i ∧ s.sess i = some y ∧ x.ver = y.ver ∧ (y.kept = none ∨ y.tid ≠ x.tid) ∧ y.ver < typeFrom ty) ∧
    (∃ (s : State) (x : Tx) (c : Instr) (ty : Nat) (w : Word) (df : List Nat) (i : Nat) (y : Session), s.Lands x.port x.toNet x.dg.length
      48048 ∧ (c, ty) ∈ [(Instr.regRead x, 2), (Instr.regWrite x w, 3), (Instr.mbxReq x, 4), (Instr.mbxPoll x, 5), (Instr.bulkRead x df,
      6), (Instr.attnAck x, 8), (Instr.bye x, 9), (Instr.updBlock x, 10), (Instr.keepalive x, 11)] ∧ x.headOk = true ∧ x.type = ty ∧
      s.sessionAt x.session = some i ∧ s.sess i = some y ∧ x.ver = y.ver ∧ (y.kept = none ∨ y.tid ≠ x.tid) ∧ typeFrom ty ≤ y.ver ∧
      payloadOk ty x.payload = false) ∧
    (∃ (s : State) (x : Tx) (i : Nat), s.TxOk x 11 i) ∧
    (∃ (s : State) (x : Tx) (i : Nat), s.TxOk x 9 i) ∧
    (∃ (s : State) (x : Tx), s.Lands x.port x.toNet x.dg.length 48048 ∧ x.headOk = true ∧ x.type ≠ 1) ∧
    (∃ (s : State) (x : Tx), s.Lands x.port x.toNet x.dg.length 48048 ∧ x.headOk = true ∧ x.type = 1 ∧ payloadOk 1 x.payload = false) ∧
    (∃ (s : State) (x : Tx), s.Lands x.port x.toNet x.dg.length 48048 ∧ x.headOk = true ∧ x.type = 1 ∧ payloadOk 1 x.payload = true ∧
      helloVersion (leAt x.payload 0 1) (leAt x.payload 1 1) = none) ∧
    (∃ (s : State) (x : Tx) (v : Nat), s.Lands x.port x.toNet x.dg.length 48048 ∧ x.headOk = true ∧ x.type = 1 ∧ payloadOk 1 x.payload =
      true ∧ helloVersion (leAt x.payload 0 1) (leAt x.payload 1 1) = some v ∧ s.helloOld x v (leAt x.payload 4 8) = none ∧ 8 ≤
      s.plk.sessions.length) ∧
    (∃ (s : State) (x : Tx) (v : Nat), s.Lands x.port x.toNet x.dg.length 48048 ∧ x.headOk = true ∧ x.type = 1 ∧ payloadOk 1 x.payload =
      true ∧ helloVersion (leAt x.payload 0 1) (leAt x.payload 1 1) = some v ∧ s.helloOld x v (leAt x.payload 4 8) = none ∧
      s.plk.sessions.length < 8) ∧
    (∃ (s : State) (x : Tx) (v : Nat) (o : Session), s.Lands x.port x.toNet x.dg.length 48048 ∧ x.headOk = true ∧ x.type = 1 ∧ payloadOk 1
      x.payload = true ∧ helloVersion (leAt x.payload 0 1) (leAt x.payload 1 1) = some v ∧ s.helloOld x v (leAt x.payload 4 8) = some o) ∧
    (∃ (lo : Nat) (hi : Nat) (v : Nat), helloVersion lo hi = some v) ∧
    (∃ (s : State) (n : Nat) (i : Nat), s.sessionAt n = some i) ∧
    (∃ (s : State) (n : Nat), s.sessionAt n = none) ∧
    (∃ (s : State) (p : PortId) (h : Net) (n : Nat), s.up 9 = true ∧ s.reaches p h = true ∧ h.discarded n = true) ∧
    (∃ (s : State) (p : PortId) (h : Net) (n : Nat), (s.up 9 = false ∨ s.reaches p h = false ∨ h.discarded n = false)) :=
  ⟨⟨{ live with sys.pd := [] }, ({} : Tx), .regRead {}, 2, 0, [], by decide⟩,
   ⟨live, { txReq 2 [] with frag := true }, .regRead ({ txReq 2 [] with frag := true }), 2, 0, [], by decide⟩,
   ⟨live, { dg := leBytes 12 0 }, .regRead ({ dg := leBytes 12 0 }), 2, 0, [], lands_of (by decide), by decide⟩,
   ⟨live, txReq 3 [], .regRead (txReq 3 []), 2, 0, [], lands_of (by decide), by decide⟩,
   ⟨live, txReq 2 [], .regRead (txReq 2 []), 2, 0, [], lands_of (by decide), by decide⟩,
   ⟨{ live with plk.sessions := [sess1] }, { dg := leBytes 2 0x4C50 ++ [2, 2] ++ leBytes 2 1 ++ leBytes 2 1 ++ leBytes 4 0 }, .regRead
     ({ dg := leBytes 2 0x4C50 ++ [2, 2] ++ leBytes 2 1 ++ leBytes 2 1 ++ leBytes 4 0 }), 2, 0, [], 0, sess1, lands_of (by decide), by
     decide⟩,
   ⟨{ live with plk.sessions := [{ sess1 with tid := 1, kept := some { type := 4, status := 0 } }] }, txReq 2 [], .regRead (txReq 2 []),
     2, 0, [], 0, { sess1 with tid := 1, kept := some { type := 4, status := 0 } }, lands_of (by decide), by decide⟩,
   ⟨{ live with plk.sessions := [{ sess1 with ver := 2 }] },
     { dg := leBytes 2 0x4C50 ++ [2, 10] ++ leBytes 2 1 ++ leBytes 2 1 ++ leBytes 4 0 }, .updBlock
     ({ dg := leBytes 2 0x4C50 ++ [2, 10] ++ leBytes 2 1 ++ leBytes 2 1 ++ leBytes 4 0 }), 10, 0, [], 0, { sess1 with ver := 2 }, lands_of
     (by decide), by decide⟩,
   ⟨{ live with plk.sessions := [sess1] }, txReq 2 [], .regRead (txReq 2 []), 2, 0, [], 0, sess1, lands_of (by decide), by decide⟩,
   ⟨joined live, txReq 11 ([]), 0, txOk_joined (by decide)⟩,
   ⟨joined live, txReq 9 ([]), 0, txOk_joined (by decide)⟩,
   ⟨live, txReq 2 [], lands_of (by decide), by decide⟩,
   ⟨live, txReq 1 [], lands_of (by decide), by decide⟩,
   ⟨live, txReq 1 (leBytes 16 4), lands_of (by decide), by decide⟩,
   ⟨{ live with plk.sessions := List.replicate 8 sess1 }, txReq 1 (leBytes 16 0x301), 3, lands_of (by decide), by decide⟩,
   ⟨live, txReq 1 (leBytes 16 0x301), 3, lands_of (by decide), by decide⟩,
   ⟨{ live with plk.sessions := [{ sess1 with host := some 0 }] }, txReq 1 (leBytes 16 0x301), 3, { sess1 with host := some 0 }, lands_of
     (by decide), by decide⟩,
   ⟨1, 3, 3, by decide⟩,
   ⟨joined live, 1, 0, by decide⟩,
   ⟨live, 0, by decide⟩,
   ⟨live, .a, { frag := true }, 0, by decide⟩,
   ⟨{ live with sys.pd := [] }, .a, ({} : Net), 0, by decide⟩⟩

/-- States and operands that meet the hypotheses of each clause of TransactionsReachRegistersAndMailboxes. -/
theorem test_hyp_TransactionsReachRegistersAndMailboxes :
    (∃ (n : Nat), (n = 0 ∨ 256 < n)) ∧
    (∃ (a3 : Nat) (n : Nat), 1 ≤ n ∧ n ≤ 256 ∧ (a3 % 4 ≠ 0 ∨ 262144 < a3 + 4 * n)) ∧
    (∃ (a4 : Nat) (n : Nat), 1 ≤ n ∧ n ≤ 256 ∧ a4 % 4 = 0 ∧ a4 + 4 * n ≤ 262144) ∧
    (∃ (s : State) (x : Tx) (i : Nat) (e : Nat), s.TxOk x 2 i ∧ regBad (leAt x.payload 0 4) (leAt x.payload 4 2) = some e) ∧
    (∃ (s : State) (x : Tx) (i : Nat), s.TxOk x 2 i ∧ regBad (leAt x.payload 0 4) (leAt x.payload 4 2) = none) ∧
    (∃ (s : State) (x : Tx) (i : Nat), s.TxOk x 3 i ∧ s.mayAct x.addr = false) ∧
    (∃ (s : State) (x : Tx) (i : Nat) (e : Nat), s.TxOk x 3 i ∧ s.mayAct x.addr = true ∧ regBad (leAt x.payload 0 4) (leAt x.payload 4 2)
      = some e) ∧
    (∃ (s : State) (x : Tx) (i : Nat) (w : Word) (t : State), s.TxOk x 3 i ∧ ((s.txIn x i).writeRegs x.port.src w (leAt x.payload 0 4)
      (List.map (fun k => BitVec.ofNat 32 (leAt x.payload (8 + 4 * k) 4)) (List.range (leAt x.payload 4 2))) = Host.Outcome.next t) ∧
      s.mayAct x.addr = true ∧ regBad (leAt x.payload 0 4) (leAt x.payload 4 2) = none) ∧
    (∃ (s : State) (x : Tx) (i : Nat) (w : Word) (f : Fault), s.TxOk x 3 i ∧ s.mayAct x.addr = true ∧ regBad (leAt x.payload 0 4) (leAt
      x.payload 4 2) = none ∧ ((s.txIn x i).writeRegs x.port.src w (leAt x.payload 0 4) (List.map (fun k => BitVec.ofNat 32 (leAt
      x.payload (8 + 4 * k) 4)) (List.range (leAt x.payload 4 2))) = Host.Outcome.fault f)) ∧
    (∃ (s : State) (x : Tx) (i : Nat), s.TxOk x 6 i ∧ (leAt x.payload 2 2 = 0 ∨ 22 < leAt x.payload 2 2 ∨ 384 < leAt x.payload 0 2 + leAt
      x.payload 2 2)) ∧
    (∃ (s : State) (x : Tx) (i : Nat), s.TxOk x 6 i ∧ 1 ≤ leAt x.payload 2 2 ∧ leAt x.payload 2 2 ≤ 22 ∧ leAt x.payload 0 2 + leAt
      x.payload 2 2 ≤ 384 ∧ s.up 6 = true) ∧
    (∃ (s : State) (x : Tx) (i : Nat), s.TxOk x 6 i ∧ 1 ≤ leAt x.payload 2 2 ∧ leAt x.payload 2 2 ≤ 22 ∧ leAt x.payload 0 2 + leAt
      x.payload 2 2 ≤ 384 ∧ s.up 6 = false) ∧
    (∃ (s : State) (d : Nat), s.up 6 = true ∧ d < 5) ∧
    (∃ (s : State) (d : Nat), s.up 6 = true ∧ 5 ≤ d) ∧
    (∃ (s : State) (x : Tx) (i : Nat), s.TxOk x 4 i ∧ s.mayAct x.addr = false) ∧
    (∃ (s : State) (x : Tx) (i : Nat), s.TxOk x 4 i ∧ s.mayAct x.addr = true ∧ 3 < leAt x.payload 0 1) ∧
    (∃ (s : State) (x : Tx) (i : Nat), s.TxOk x 4 i ∧ s.mayAct x.addr = true ∧ leAt x.payload 0 1 ≤ 3 ∧ 1028 < x.payload.length) ∧
    (∃ (s : State) (x : Tx) (i : Nat), s.TxOk x 4 i ∧ s.mayAct x.addr = true ∧ leAt x.payload 0 1 ≤ 3 ∧ x.payload.length ≤ 1028 ∧
      (s.sys.mgpAway = true ∨ s.mbx.long = true)) ∧
    (∃ (s : State) (x : Tx) (i : Nat), s.TxOk x 4 i ∧ s.mayAct x.addr = true ∧ leAt x.payload 0 1 ≤ 3 ∧ x.payload.length ≤ 1028 ∧
      s.sys.mgpAway = false ∧ s.mbx.long = false ∧ (s.ch (leAt x.payload 0 1)).open = false) ∧
    (∃ (s : State) (x : Tx) (i : Nat), s.TxOk x 4 i ∧ s.mayAct x.addr = true ∧ leAt x.payload 0 1 ≤ 3 ∧ x.payload.length ≤ 1028 ∧
      s.sys.mgpAway = false ∧ s.mbx.long = false ∧ (s.ch (leAt x.payload 0 1)).open = true) ∧
    (∃ (s : State) (x : Tx) (i : Nat), s.TxOk x 5 i ∧ leAt x.payload 0 1 ≤ 3) ∧
    (∃ (s : State) (x : Tx) (i : Nat), s.TxOk x 5 i ∧ 3 < leAt x.payload 0 1) :=
  ⟨⟨0, by decide⟩,
   ⟨1, 1, by decide⟩,
   ⟨0, 256, by decide⟩,
   ⟨joined live, txReq 2 (leBytes 8 (1 + 2 ^ 32)), 0, 3, txOk_joined (by decide), by decide⟩,
   ⟨joined live, txReq 2 (leBytes 8 (2 ^ 32)), 0, txOk_joined (by decide), by decide⟩,
   ⟨joined ({ live with dict.work := [(P.plkAllow, 1), (P.plkAllow + 4, 8)] }), txReq 3 (leBytes 12 (2 ^ 32)), 0, txOk_joined (by decide),
     by decide⟩,
   ⟨joined live, txReq 3 (leBytes 12 (1 + 2 ^ 32)), 0, 3, txOk_joined (by decide), by decide⟩,
   ⟨joined live, txReq 3 (leBytes 12 (0x10 + 2 ^ 32)), 0, 0, _, txOk_joined (by decide), rfl, by decide⟩,
   ⟨joined live, txReq 3 (leBytes 12 (0x68 + 2 ^ 32 + 16 * 2 ^ 64)), 0, 0, _, txOk_joined (by decide), ⟨by decide, by decide, rfl⟩⟩,
   ⟨joined live, txReq 6 (leBytes 4 (23 * 2 ^ 16)), 0, txOk_joined (by decide), by decide⟩,
   ⟨joined live, txReq 6 (leBytes 4 (2 ^ 16)), 0, txOk_joined (by decide), by decide⟩,
   ⟨joined ({ live with sys.pd := live.sys.pd.set 6 false }), txReq 6 (leBytes 4 (2 ^ 16)), 0, txOk_joined (by decide), by decide⟩,
   ⟨live, 0, by decide⟩,
   ⟨live, 5, by decide⟩,
   ⟨joined ({ live with dict.work := [(P.plkAllow, 1), (P.plkAllow + 4, 8)] }), txReq 4 (leBytes 4 0), 0, txOk_joined (by decide), by
     decide⟩,
   ⟨joined live, txReq 4 (leBytes 4 4), 0, txOk_joined (by decide), by decide⟩,
   ⟨joined live, txReq 4 (leBytes 1029 (1025 * 2 ^ 16)), 0, txOk_joined (by decide), by decide⟩,
   ⟨joined ({ live with sys.mgpAway := true }), txReq 4 (leBytes 4 0), 0, txOk_joined (by decide), by decide⟩,
   ⟨joined ({ live with sys.mgpAway := false, mbx.long := false, mbx.ch := [{ st := .queued }, {}, {}, {}] }), txReq 4 (leBytes 4 0), 0,
     txOk_joined (by decide), by decide⟩,
   ⟨joined ({ live with sys.mgpAway := false, mbx.long := false }), txReq 4 (leBytes 4 0), 0, txOk_joined (by decide), by decide⟩,
   ⟨joined live, txReq 5 (leBytes 4 0), 0, txOk_joined (by decide), by decide⟩,
   ⟨joined live, txReq 5 (leBytes 4 4), 0, txOk_joined (by decide), by decide⟩⟩

/-- States and operands that meet the hypotheses of clauses of AttentionAndDispatchOnTheLink, 1 of 2. -/
theorem test_hyp_AttentionAndDispatchOnTheLink :
    (∃ (s : State) (x : Tx) (i : Nat) (y : Session), s.TxOk x 8 i ∧ (s.txIn x i).sess i = some y ∧ (List.find? (fun z => z.aseq == leAt
      x.payload 0 4) y.queue = none)) ∧
    (∃ (s : State) (n : Nat) (a4 : BitVec 32) (i : Nat) (y : Session) (m : Attn), s.sessionAt n = some i ∧ s.sess i = some y ∧ (List.find?
      (fun z => z.aseq == a4.toNat) y.queue = some m) ∧ m.sends < 8) ∧
    (∃ (s : State) (n : Nat) (a4 : BitVec 32) (i : Nat) (y : Session) (m : Attn), s.sessionAt n = some i ∧ s.sess i = some y ∧ (List.find?
      (fun z => z.aseq == a4.toNat) y.queue = some m) ∧ 8 ≤ m.sends) ∧
    (∃ (s : State) (n : Nat) (a3 : BitVec 32) (i : Nat) (y : Session), s.sessionAt n = some i ∧ s.sess i = some y ∧ (List.find? (fun z =>
      z.aseq == a3.toNat) y.queue = none)) ∧
    (∃ (s : State) (n : Nat), s.sessionAt n = none) ∧
    (∃ (y : Session), y.queue.length ≤ 64) ∧
    (∃ (s : State) (p : PortId) (b : List Byte) (h : Net), (s.up 9 = false ∨ s.reaches p h = false ∨ h.discarded b.length = false ∧ h.dudp
      ≠ 48050)) ∧
    (∃ (s : State) (p : PortId) (b : List Byte) (h : Net), s.up 9 = true ∧ s.reaches p h = true ∧ h.discarded b.length = true) ∧
    (∃ (s : State) (p : PortId) (b : List Byte) (now : BitVec 32) (h : Net) (k : Nat), s.Lands p h b.length 48050 ∧ (s.atTime
      now).dispCheck b = some k) ∧
    (∃ (s : State) (p : PortId) (b : List Byte) (now : BitVec 32) (id : Bool) (h : Net), s.Lands p h b.length 48050 ∧ (s.atTime
      now).dispCheck b = none ∧ (s.plk.series = false ∨ id = true ∨ 1 ≤ (leAt b 2 2 + 65536 - s.plk.dispSeq) % 65536 ∧ (leAt b 2 2 + 65536
      - s.plk.dispSeq) % 65536 ≤ 32767)) ∧
    (∃ (s : State) (p : PortId) (b : List Byte) (now : BitVec 32) (h : Net), s.Lands p h b.length 48050 ∧ (s.atTime now).dispCheck b =
      none ∧ s.plk.series = true ∧ (leAt b 2 2 + 65536 - s.plk.dispSeq) % 65536 = 0) ∧
    (∃ (s : State) (p : PortId) (b : List Byte) (now : BitVec 32) (h : Net), s.Lands p h b.length 48050 ∧ (s.atTime now).dispCheck b =
      none ∧ s.plk.series = true ∧ 32767 < (leAt b 2 2 + 65536 - s.plk.dispSeq) % 65536) ∧
    (∃ (s : State) (b : List Byte), s.dispEntry b = none) ∧
    (∃ (s : State) (b : List Byte) (now : Nat) (e : Nat × Int), s.dispEntry b = some e ∧ s.forwarding now = true) ∧
    (∃ (s : State) (f : SvcFrame), s.up 9 = true ∧ f.frag = true) ∧
    (∃ (s : State) (p : PortId) (f : SvcFrame) (a3 : SvcFrame), s.up 9 = true ∧ f.frag = false ∧ s.netServe p f = some a3) ∧
    (∃ (s : State) (p : PortId) (f : SvcFrame), (s.up 9 = false ∨ f.frag = false ∧ s.netServe p f = none)) ∧
    (∃ (s : State) (p : PortId) (f : SvcFrame) (a1 : SvcFrame), s.netServe p f = some a1) ∧
    (∃ (s : State) (p : PortId) (f : SvcFrame) (a2 : SvcFrame), s.netServe p f = some a2 ∧ (f.kind = SvcKind.echo4 ∨ f.kind =
      SvcKind.echo6)) ∧
    (∃ (s : State) (p : PortId) (f : SvcFrame) (a2 : SvcFrame), s.netServe p f = some a2 ∧ (f.kind = SvcKind.arp ∨ f.kind = SvcKind.nd))
      :=
  ⟨⟨joined live, txReq 8 (leBytes 4 0), 0, sess1, txOk_joined (by decide), by decide⟩,
   ⟨{ live with plk.sessions := [{ sess1 with queue := [{ aseq := 1, code := 2, sev := 1, opsec := 0, time := 0, data := [], sends := 7 }] }] },
     1, 1, 0, { sess1 with queue := [{ aseq := 1, code := 2, sev := 1, opsec := 0, time := 0, data := [], sends := 7 }] },
     { aseq := 1, code := 2, sev := 1, opsec := 0, time := 0, data := [], sends := 7 }, by decide⟩,
   ⟨{ live with plk.sessions := [{ sess1 with queue := [{ aseq := 1, code := 2, sev := 1, opsec := 0, time := 0, data := [], sends := 8 }] }] },
     1, 1, 0, { sess1 with queue := [{ aseq := 1, code := 2, sev := 1, opsec := 0, time := 0, data := [], sends := 8 }] },
     { aseq := 1, code := 2, sev := 1, opsec := 0, time := 0, data := [], sends := 8 }, by decide⟩,
   ⟨{ live with plk.sessions := [sess1] }, 1, 0, 0, sess1, by decide⟩,
   ⟨live, 0, by decide⟩,
   ⟨sess1, by decide⟩,
   ⟨{ live with sys.pd := [] }, .a, [], ({} : Net), by decide⟩,
   ⟨live, .a, [], { frag := true }, by decide⟩,
   ⟨live, .a, [], 0, { dudp := 48050 }, 0, lands_of (by decide), by decide⟩,
   ⟨{ live with plk.series := false, dict.work := [(P.plkDispId, 1)] }, .a, dispOf 0, 0, true, { dudp := 48050 }, lands_of (by decide), by
     decide⟩,
   ⟨{ live with plk.series := true, dict.work := [(P.plkDispId, 1)] }, .a, dispOf 0, 0, { dudp := 48050 }, lands_of (by decide), by
     decide⟩,
   ⟨{ live with plk.series := true, dict.work := [(P.plkDispId, 1)] }, .a, dispOf 40000, 0, { dudp := 48050 }, lands_of (by decide), by
     decide⟩,
   ⟨live, [], by decide⟩,
   ⟨{ live with dict.work := [(P.plkStringId, 0)], prl.owner := true, prl.frozen := true }, dispOf 0, 0, (0, 0), by decide⟩,
   ⟨live, { frag := true }, by decide⟩,
   ⟨live, .a, { kind := .nd, dst := linkLocal0 0 }, _, ⟨by decide, rfl, rfl⟩⟩,
   ⟨{ live with sys.pd := [] }, .a, ({} : SvcFrame), by decide⟩,
   ⟨live, .a, { kind := .nd, dst := linkLocal0 0 }, _, rfl⟩,
   ⟨live, .a, { kind := .echo6, dst := linkLocal0 0 }, _, ⟨rfl, by decide⟩⟩,
   ⟨live, .a, { kind := .nd, dst := linkLocal0 0 }, _, ⟨rfl, by decide⟩⟩⟩

/-- States and operands that meet the hypotheses of clauses of AttentionAndDispatchOnTheLink, 2 of 2. -/
theorem test_hyp_AttentionAndDispatchOnTheLink_1 : ∃ (s : State) (b : List Byte) (now : Nat) (e : Nat × Int), s.dispEntry b = some e ∧
  s.forwarding now = false :=
  ⟨{ live with dict.work := [(P.plkStringId, 0)] }, dispOf 0, 0, (0, 0), by decide +kernel⟩

/-- States and operands that meet the hypotheses of each clause of LamplighterFollowsTime. -/
theorem test_hyp_LamplighterFollowsTime :
    (∃ (s : State) (m : PtpMsg), s.ptpMine m = false) ∧
    (∃ (x : PtpPort) (b : Announced) (a1 : Announced), x.best = some b ∧ a1 ∈ x.heard) ∧
    (∃ (s : State) (m : PtpMsg) (k : Int), s.ptpMine m = true ∧ s.isSource m = true ∧ -7 ≤ k ∧ k ≤ 0) ∧
    (∃ (s : State) (m : PtpMsg) (k : Int), (s.isSource m = false ∨ k < -7 ∨ 0 < k)) ∧
    (∃ (s : State) (m : PtpMsg) (t : Int), s.ptpMine m = true ∧ s.isSource m = true ∧ (s.ptp m.port).syncWait = some (m.seq, t)) ∧
    (∃ (s : State) (m : PtpMsg), (s.isSource m = false ∨ ∀ (t : Int), (s.ptp m.port).syncWait ≠ some (m.seq, t))) ∧
    (∃ (s : State), s.up 9 = false) ∧
    (∃ (s : State) (m : PtpMsg), s.ptpMine m = true ∧ s.peer m.port = true) ∧
    (∃ (s : State) (m : PtpMsg), s.peer m.port = false) ∧
    (∃ (s : State) (m : PtpMsg) (rx : Int) (tx : Int) (i : Int) (e : Int) (d : Int), s.ptpMine m = true ∧ (s.ptp m.port).reqWait = some
      (m.seq, e) ∧ s.meanDelay m.port e rx tx i m.corr = some d ∧ m.port.idx < s.lmp.ports.length) ∧
    (∃ (s : State) (m : PtpMsg), (∀ (e : Int), (s.ptp m.port).reqWait ≠ some (m.seq, e))) ∧
    (∃ (s : State) (m : PtpMsg) (rx : Int) (tx : Int) (i : Int) (e : Int), (s.ptp m.port).reqWait = some (m.seq, e) ∧ s.meanDelay m.port e
      rx tx i m.corr = none) ∧
    (∃ (s : State), s.lmp.st = LmpSt.acquiring) ∧
    (∃ (s : State), s.lmp.st = LmpSt.locked ∧ ((s.ptp (if s.lmp.port = 0 then PortId.b else PortId.a)).heard = []) ∧ (∀ (a : Announced), a
      ∈ (s.ptp (if s.lmp.port = 0 then PortId.a else PortId.b)).heard → a.sender = s.lmp.src)) ∧
    (∃ (s : State), s.lmp.st = LmpSt.locked ∧ (∀ (b : Announced), (s.ptp (if s.lmp.port = 0 then PortId.a else PortId.b)).best = some b →
      b.sender = s.lmp.src) ∧ ((s.ptp (if s.lmp.port = 0 then PortId.b else PortId.a)).heard ≠ [] ∨ ∃ a, a ∈ (s.ptp (if s.lmp.port = 0
      then PortId.a else PortId.b)).heard ∧ a.sender ≠ s.lmp.src)) ∧
    (∃ (s : State), (s.lmp.st = LmpSt.freerun ∨ s.lmp.st = LmpSt.holdover)) ∧
    (∃ (s : State), s.lmp.st = LmpSt.holdover) ∧
    (∃ (s : State), s.lmp.st ≠ LmpSt.holdover) ∧
    (∃ (s : State), s.lmp.secValid = true) ∧
    (∃ (s : State), s.lmp.secValid = false) ∧
    (∃ (s : State), s.sys.mgpAway = false) ∧
    (∃ (s : State), s.sys.mgpAway = true) ∧
    (∃ (s : State) (w : Word), s.up 9 = true ∧ reached s.lmp.time (BitVec.toNat w) = false) ∧
    (∃ (s : State) (w : Word), s.up 9 = true ∧ reached s.lmp.time (BitVec.toNat w) = true) ∧
    (∃ (s : State) (k : Fin 4), nth s.lmp.armed (k.val) false = true) ∧
    (∃ (s : State) (k : Fin 4), nth s.lmp.armed (k.val) false = false) :=
  ⟨⟨live, { domain := 256 }, by decide⟩,
   ⟨{ heard := [{ sender := 0, rank := 0, gm := 0 }] }, { sender := 0, rank := 0, gm := 0 }, { sender := 0, rank := 0, gm := 0 }, by
     decide⟩,
   ⟨{ live with lmp.ports := [{ st := .uncalibrated }, {}] }, { domain := live.parN P.lmpPtpDomain }, -7, by decide⟩,
   ⟨live, ({} : PtpMsg), 0, by decide⟩,
   ⟨{ live with lmp.ports := [{ st := .timeReceiver, syncWait := some (0, 0) }, {}] }, { domain := live.parN P.lmpPtpDomain }, 0, by
     decide⟩,
   ⟨live, ({} : PtpMsg), .inl (by decide)⟩,
   ⟨{ live with sys.pd := [] }, by decide⟩,
   ⟨{ live with dict.work := [(P.lmpPtpDelayA, 1)] }, { domain := live.parN P.lmpPtpDomain }, by decide⟩,
   ⟨live, ({} : PtpMsg), by decide⟩,
   ⟨{ live with lmp.ports := [{ reqWait := some (0, 0), lastSync := some (0, 0) }, {}] }, { domain := live.parN P.lmpPtpDomain }, 0, 0, 0,
     0, divFree 95 0 2, by decide⟩,
   ⟨live, ({} : PtpMsg), fun _ h => by cases h⟩,
   ⟨{ live with lmp.ports := [{ reqWait := some (0, 0) }, {}] }, ({} : PtpMsg), 0, 0, 0, 0, by decide⟩,
   ⟨{ live with lmp.st := .acquiring }, by decide⟩,
   ⟨{ live with lmp.st := .locked }, by decide⟩,
   ⟨{ live with lmp.st := .locked, lmp.ports := [{}, { heard := [{ sender := 0, rank := 0, gm := 0 }] }] }, by decide⟩,
   ⟨{ live with lmp.st := .freerun }, by decide⟩,
   ⟨{ live with lmp.st := .holdover }, by decide⟩,
   ⟨live, by decide⟩,
   ⟨{ live with lmp.secValid := true }, by decide⟩,
   ⟨{ live with lmp.secValid := false }, by decide⟩,
   ⟨{ live with sys.mgpAway := false }, by decide⟩,
   ⟨{ live with sys.mgpAway := true }, by decide⟩,
   ⟨live, 1, by decide⟩,
   ⟨live, 0, by decide⟩,
   ⟨{ live with lmp.armed := live.lmp.armed.set 0 true }, 0, by decide⟩,
   ⟨{ live with lmp.armed := live.lmp.armed.set 0 false }, 0, by decide⟩⟩

/-- States and operands that meet the hypotheses of each clause of RegisterWindowTakesWords. -/
theorem test_hyp_RegisterWindowTakesWords :
    (∃ (i : Fin 65536), regAt (4 * i.val) = none) ∧
    (∃ (i : Fin 65536) (w : Word) (r : Reg), regAt (4 * i.val) = some r ∧ BitVec.toNat w &&& r.reserved ≠ 0) ∧
    (∃ (s : State) (r : Reg), s.answers r = true) ∧
    (∃ (s : State) (r : Reg), s.answers r = false ∧ r.shMask ≠ 4294967295) ∧
    (∃ (s : State) (i : Fin 65536) (w : Word), regAt (4 * i.val) = some (Reg.sys 26) ∧ BitVec.toNat w &&& (Reg.sys 26).reserved = 0 ∧ s.up
      3 = true) ∧
    (∃ (s : State) (i : Fin 65536) (w : Word), regAt (4 * i.val) = some (Reg.sys 26) ∧ BitVec.toNat w &&& (Reg.sys 26).reserved = 0 ∧ s.up
      3 = false) ∧
    (∃ (s : State) (i : Fin 65536) (w : Word) (k : Nat) (r : Reg), regAt (4 * i.val) = some r ∧ (r = Reg.par k ∨ ∃ p j, r = Reg.phPar p j
      ∧ k = P.phase p (3 + j)) ∧ BitVec.toNat w &&& r.reserved = 0 ∧ s.settingOk k (settingVal k (BitVec.toNat w)) = false) ∧
    (∃ (s : State) (i : Fin 65536) (w : Word) (k : Nat) (r : Reg), regAt (4 * i.val) = some r ∧ (r = Reg.par k ∨ ∃ p j, r = Reg.phPar p j
      ∧ k = P.phase p (3 + j)) ∧ BitVec.toNat w &&& r.reserved = 0 ∧ s.settingOk k (settingVal k (BitVec.toNat w)) = true ∧ s.up 3 = true
      ∧ s.sys.st ≠ OpState.pilot) ∧
    (∃ (s : State) (i : Fin 65536) (w : Word) (k : Nat) (r : Reg), regAt (4 * i.val) = some r ∧ (r = Reg.par k ∨ ∃ p j, r = Reg.phPar p j
      ∧ k = P.phase p (3 + j)) ∧ BitVec.toNat w &&& r.reserved = 0 ∧ s.settingOk k (settingVal k (BitVec.toNat w)) = true ∧ s.up 3 = true
      ∧ s.sys.st = OpState.pilot) ∧
    (∃ (s : State) (i : Fin 65536) (w : Word) (k : Nat) (r : Reg), regAt (4 * i.val) = some r ∧ (r = Reg.par k ∨ ∃ p j, r = Reg.phPar p j
      ∧ k = P.phase p (3 + j)) ∧ BitVec.toNat w &&& r.reserved = 0 ∧ s.settingOk k (settingVal k (BitVec.toNat w)) = true ∧ s.up 3 =
      false) ∧
    (∃ (i : Fin 65536) (b : Fin 2) (j : Fin 16384), regAt (4 * i.val) = some (Reg.bank b.val j.val)) ∧
    (∃ (s : State) (i : Fin 65536) (w : Word) (c : Nat), regAt (4 * i.val) = some (Reg.mbx c) ∧ BitVec.toNat w &&& (Reg.mbx c).reserved =
      0 ∧ s.up 9 = true) ∧
    (∃ (s : State) (i : Fin 65536) (w : Word) (c : Nat), regAt (4 * i.val) = some (Reg.mbx c) ∧ BitVec.toNat w &&& (Reg.mbx c).reserved =
      0 ∧ s.up 9 = false) ∧
    (∃ (s : State) (w : Word) (still : Word) (src : Src) (a1 : Nat) (t : State), s.writeReg a1 w still src = Host.Outcome.next t) :=
  ⟨⟨11, by decide⟩,
   ⟨9, 0x80000000, .sys 9, by decide⟩,
   ⟨live, .sys 0, by decide⟩,
   ⟨{ live with sys.pd := [] }, .sys 30, by decide⟩,
   ⟨live, 26, 15, by decide⟩,
   ⟨{ live with sys.pd := [true, true] }, 26, 15, by decide⟩,
   ⟨live, 8256, 0xFFFFFFFF, 608, .par 608, ⟨by decide, .inl rfl, by decide, by decide⟩⟩,
   ⟨live, 8256, 1, 608, .par 608, ⟨by decide, .inl rfl, by decide, by decide, by decide, by decide⟩⟩,
   ⟨{ live with sys.st := .pilot }, 8256, 1, 608, .par 608, ⟨by decide, .inl rfl, by decide, by decide, by decide, by decide⟩⟩,
   ⟨{ live with sys.pd := [] }, 8256, 1, 608, .par 608, ⟨by decide, .inl rfl, by decide, by decide, by decide⟩⟩,
   ⟨16384, 0, 0, by decide⟩,
   ⟨live, 1536, 0, 0, by decide⟩,
   ⟨{ live with sys.pd := [] }, 1536, 0, 0, by decide⟩,
   ⟨live, 0, 0, .portA, 0x10, _, rfl⟩⟩

/-- States and operands that meet the hypotheses of each clause of TripleVotesMask. -/
theorem test_hyp_TripleVotesMask :
    (∃ (s : State), s.sys.st ≠ OpState.off ∧ s.resetGoes = false) ∧
    (∃ (s : State), s.sys.st ≠ OpState.off ∧ s.resetGoes = true) :=
  ⟨⟨live, by decide⟩,
   ⟨{ live with sys.resetDue := 2 }, by decide⟩⟩

/-- States and operands that meet the hypotheses of each clause of MailboxChannelsFollowTheProtocol. -/
theorem test_hyp_MailboxChannelsFollowTheProtocol :
    (∃ (s : State) (c : Fin 4), s.up 9 = true ∧ (s.ch c.val).open = false) ∧
    (∃ (s : State) (c : Fin 4), s.up 9 = true ∧ (s.ch c.val).open = true ∧ s.mbx.long = false ∧ s.sys.mgpAway = false ∧ c.val <
      s.mbx.ch.length) ∧
    (∃ (s : State) (c : Fin 4), s.up 9 = true ∧ (s.ch c.val).open = true ∧ (s.mbx.long = true ∨ s.sys.mgpAway = true) ∧ c.val <
      s.mbx.ch.length) ∧
    (∃ (s : State), s.up 9 = false) ∧
    (∃ (s : State), (s.sys.mgpAway = true ∨ s.mbx.long = true ∨ (s.mbx.ch.any fun x => x.st == ChSt.running) = true ∨ s.nextRequest =
      none)) ∧
    (∃ (s : State) (c : Nat) (r : Request), s.sys.mgpAway = false ∧ s.mbx.long = false ∧ ((s.mbx.ch.any fun x => x.st == ChSt.running) =
      false) ∧ s.nextRequest = some c ∧ (s.ch c).req = some r ∧ moves r.code = true ∧ s.settled = false) ∧
    (∃ (s : State) (c : Nat) (r : Request), s.sys.mgpAway = false ∧ s.mbx.long = false ∧ ((s.mbx.ch.any fun x => x.st == ChSt.running) =
      false) ∧ s.nextRequest = some c ∧ (s.ch c).req = some r ∧ (moves r.code = false ∨ s.settled = true) ∧ knownCode r.code = false) ∧
    (∃ (s : State) (c : Nat) (r : Request), s.sys.mgpAway = false ∧ s.mbx.long = false ∧ ((s.mbx.ch.any fun x => x.st == ChSt.running) =
      false) ∧ s.nextRequest = some c ∧ (s.ch c).req = some r ∧ (moves r.code = false ∨ s.settled = true) ∧ knownCode r.code = true ∧
      r.formOk = false) ∧
    (∃ (s : State) (c : Nat) (r : Request), s.sys.mgpAway = false ∧ s.mbx.long = false ∧ ((s.mbx.ch.any fun x => x.st == ChSt.running) =
      false) ∧ s.nextRequest = some c ∧ (s.ch c).req = some r ∧ (moves r.code = false ∨ s.settled = true) ∧ knownCode r.code = true ∧
      r.formOk = true ∧ s.accepts r = false) ∧
    (∃ (s : State) (c : Nat) (r : Request), s.sys.mgpAway = false ∧ s.mbx.long = false ∧ ((s.mbx.ch.any fun x => x.st == ChSt.running) =
      false) ∧ s.nextRequest = some c ∧ (s.ch c).req = some r ∧ (moves r.code = false ∨ s.settled = true) ∧ knownCode r.code = true ∧
      r.formOk = true ∧ s.accepts r = true ∧ c < s.mbx.ch.length) ∧
    (∃ (s : State) (c : Nat) (rq : Request), (s.ch c).req = some rq ∧ c < s.mbx.ch.length) ∧
    (∃ (s : State) (c : Fin 4) (r : Request) (rc : Nat) (d : Nat) (b : List Byte), s.sys.mgpAway = false ∧ (s.ch c.val).req = some r ∧
      (s.ch c.val).st = ChSt.running ∧ (s.ch c.val).outcome = some (rc, d, b) ∧ r.code ≠ 513) ∧
    (∃ (s : State) (c : Fin 4) (r : Request) (d : Nat) (b : List Byte), s.sys.mgpAway = false ∧ (s.ch c.val).req = some r ∧ (s.ch
      c.val).st = ChSt.running ∧ (s.ch c.val).outcome = some (0, d, b) ∧ r.code = 513 ∧ leAt b 6 1 = 1 ∧ s.fsq.swapCode = 1) ∧
    (∃ (s : State) (c : Fin 4), (s.sys.mgpAway = true ∨ (s.ch c.val).req = none ∨ (s.ch c.val).st ≠ ChSt.running)) ∧
    (∃ (s : State), (s.sys.mgpAway = true ∨ s.mbx.own = 0 ∨ s.mbx.own = 1 ∧ s.fsq.swapBusy = true)) ∧
    (∃ (s : State), s.sys.mgpAway = false ∧ s.mbx.own = 2) :=
  ⟨⟨{ live with mbx.ch := [{ st := .queued }, {}, {}, {}] }, 0, by decide⟩,
   ⟨{ live with mbx.long := false, sys.mgpAway := false }, 0, by decide⟩,
   ⟨{ live with mbx.long := true }, 0, by decide⟩,
   ⟨{ live with sys.pd := [] }, by decide⟩,
   ⟨{ live with sys.mgpAway := true }, by decide⟩,
   ⟨{ live with sys.mgpAway := false, mbx.long := false, mbx.order := [0], mbx.ch := [{ st := .queued, req := some ({ code := 0x0101, tag := 0, len := 0, params := [] }) }, {}, {}, {}], sys.cmdUsed := true },
     0, { code := 0x0101, tag := 0, len := 0, params := [] }, by decide⟩,
   ⟨{ live with sys.mgpAway := false, mbx.long := false, mbx.order := [0], mbx.ch := [{ st := .queued, req := some ({ code := 0x0100, tag := 0, len := 0, params := [] }) }, {}, {}, {}] },
     0, { code := 0x0100, tag := 0, len := 0, params := [] }, by decide⟩,
   ⟨{ live with sys.mgpAway := false, mbx.long := false, mbx.order := [0], mbx.ch := [{ st := .queued, req := some ({ code := 0x0106, tag := 0, len := 0, params := [], resv := 1 }) }, {}, {}, {}] },
     0, { code := 0x0106, tag := 0, len := 0, params := [], resv := 1 }, by decide⟩,
   ⟨{ live with sys.mgpAway := false, mbx.long := false, mbx.order := [0], mbx.ch := [{ st := .queued, req := some ({ code := 0x0102, tag := 0, len := 0, params := [] }) }, {}, {}, {}] },
     0, { code := 0x0102, tag := 0, len := 0, params := [] }, by decide⟩,
   ⟨{ live with sys.mgpAway := false, mbx.long := false, mbx.order := [0], mbx.ch := [{ st := .queued, req := some ({ code := 0x010A, tag := 0, len := 0, params := [] }) }, {}, {}, {}] },
     0, { code := 0x010A, tag := 0, len := 0, params := [] }, by decide⟩,
   ⟨{ live with mbx.ch := [{ req := some { code := 0x0106, tag := 0, len := 0, params := [] } }, {}, {}, {}] }, 0,
     { code := 0x0106, tag := 0, len := 0, params := [] }, by decide⟩,
   ⟨{ live with sys.mgpAway := false, mbx.ch := [{ st := .running, req := some { code := 0x0404, tag := 0, len := 0, params := [] }, outcome := some (0, 0, []) }, {}, {}, {}] },
     0, { code := 0x0404, tag := 0, len := 0, params := [] }, 0, 0, [], by decide⟩,
   ⟨{ live with sys.mgpAway := false, fsq.swapCode := 1, mbx.ch := [{ st := .running, req := some ({ code := 513, tag := 0, len := 0, params := [] }), outcome := some (0, 0, (leBytes 7 (2 ^ 48))) }, {}, {}, {}] },
     0, { code := 513, tag := 0, len := 0, params := [] }, 0, leBytes 7 (2 ^ 48), by decide⟩,
   ⟨{ live with sys.mgpAway := true }, 0, by decide⟩,
   ⟨{ live with sys.mgpAway := true }, by decide⟩,
   ⟨{ live with sys.mgpAway := false, mbx.own := 2 }, by decide⟩⟩

/-- States and operands that meet the hypotheses of each clause of StateCommandsRun. -/
theorem test_hyp_StateCommandsRun :
    (∃ (s : State) (c : Fin 4) (i : Instr) (k : Nat), (i, k) ∈ [(Instr.cmdConnect c, 257), (Instr.cmdDispatchOn c, 258),
      (Instr.cmdDispatchOff c, 259), (Instr.cmdOpen c, 260), (Instr.cmdIsolationReset c, 261), (Instr.cmdReset c, 262),
      (Instr.cmdDomainPower c, 263), (Instr.cmdSwap c, 264)] ∧ (s.ch c.val).req = none) ∧
    (∃ (s : State) (c : Fin 4) (i : Instr) (k : Nat) (r : Request), (i, k) ∈ [(Instr.cmdConnect c, 257), (Instr.cmdDispatchOn c, 258),
      (Instr.cmdDispatchOff c, 259), (Instr.cmdOpen c, 260), (Instr.cmdIsolationReset c, 261), (Instr.cmdReset c, 262),
      (Instr.cmdDomainPower c, 263), (Instr.cmdSwap c, 264)] ∧ (s.ch c.val).req = some r ∧ ((s.ch c.val).st ≠ ChSt.running ∨ r.code ≠ k ∨
      s.started (c.val) k = true ∨ s.sys.mgpAway = true ∨ moves k = true ∧ s.settled = false)) ∧
    (∃ (s : State) (c : Fin 4) (i : Instr) (k : Nat) (r : Request), (i, k) ∈ [(Instr.cmdConnect c, 257), (Instr.cmdDispatchOn c, 258),
      (Instr.cmdDispatchOff c, 259), (Instr.cmdOpen c, 260), (Instr.cmdIsolationReset c, 261), (Instr.cmdReset c, 262),
      (Instr.cmdDomainPower c, 263), (Instr.cmdSwap c, 264)] ∧ (s.ch c.val).req = some r ∧ (s.ch c.val).st = ChSt.running ∧ r.code = k ∧
      s.started (c.val) k = false ∧ s.sys.mgpAway = false ∧ (moves k = true → s.settled = true) ∧ r.formOk = false) ∧
    (∃ (s : State) (c : Fin 4) (i : Instr) (k : Nat) (r : Request), (i, k) ∈ [(Instr.cmdConnect c, 257), (Instr.cmdDispatchOn c, 258),
      (Instr.cmdDispatchOff c, 259), (Instr.cmdOpen c, 260), (Instr.cmdIsolationReset c, 261), (Instr.cmdReset c, 262),
      (Instr.cmdDomainPower c, 263), (Instr.cmdSwap c, 264)] ∧ (s.ch c.val).req = some r ∧ (s.ch c.val).st = ChSt.running ∧ r.code = k ∧
      s.started (c.val) k = false ∧ s.sys.mgpAway = false ∧ (moves k = true → s.settled = true) ∧ r.formOk = true ∧ s.accepts r = false) ∧
    (∃ (s : State) (c : Fin 4) (p : List Byte), s.Serves c 257 p ∧ s.connectBars = 0 ∧ s.sag.want.length = 4) ∧
    (∃ (s : State) (c : Fin 4) (p : List Byte), s.Serves c 257 p ∧ s.connectBars ≠ 0) ∧
    (∃ (s : State) (c : Fin 4) (p : List Byte), s.Serves c 258 p ∧ (s.applyAt (Bound.on When.track)).dispatchBars = 0) ∧
    (∃ (s : State) (c : Fin 4) (p : List Byte), s.Serves c 258 p ∧ (s.applyAt (Bound.on When.track)).dispatchBars ≠ 0) ∧
    (∃ (s : State) (c : Fin 4) (p : List Byte), s.Serves c 259 p ∧ s.phm.trk ≠ Trk.stopping) ∧
    (∃ (s : State) (c : Fin 4) (p : List Byte), s.Serves c 259 p ∧ s.phm.trk = Trk.stopping) ∧
    (∃ (s : State) (c : Fin 4) (p : List Byte), s.Serves c 260 p ∧ s.dispatching = false) ∧
    (∃ (s : State) (c : Fin 4) (p : List Byte), s.Serves c 260 p ∧ s.dispatching = true) ∧
    (∃ (s : State) (c : Fin 4) (p : List Byte), s.Serves c 261 p ∧ s.resetBar = none) ∧
    (∃ (s : State) (c : Fin 4) (p : List Byte) (k : Nat), s.Serves c 261 p ∧ s.resetBar = some k) ∧
    (∃ (s : State) (c : Fin 4) (p : List Byte), s.Serves c 262 p) ∧
    (∃ (s : State) (c : Fin 4) (p : List Byte), s.Serves c 263 p ∧ leAt p 1 1 ≠ 1) ∧
    (∃ (s : State) (c : Fin 4) (p : List Byte), s.Serves c 263 p ∧ leAt p 1 1 = 1 ∧ nth s.sys.pd (leAt p 0 1) false = false ∧
      s.sys.powering.contains (leAt p 0 1) = false) ∧
    (∃ (s : State) (c : Fin 4) (p : List Byte), s.Serves c 263 p ∧ leAt p 1 1 = 1 ∧ (nth s.sys.pd (leAt p 0 1) false = true ∨
      s.sys.powering.contains (leAt p 0 1) = true)) ∧
    (∃ (s : State) (c : Fin 4) (p : List Byte), s.Serves c 264 p ∧ s.swapping = false ∧ s.mayRequestSwap = true) ∧
    (∃ (s : State) (c : Fin 4) (p : List Byte), s.Serves c 264 p ∧ s.swapping = false ∧ s.mayRequestSwap = false) ∧
    (∃ (s : State) (c : Fin 4) (p : List Byte), s.Serves c 264 p ∧ s.swapping = true) :=
  ⟨⟨live, 0, .cmdConnect 0, 257, by decide⟩,
   ⟨{ live with mbx.ch := [{ st := .idle, req := some ({ code := 0, tag := 0, len := 0, params := [] }) }, {}, {}, {}] }, 0, .cmdConnect
     0, 257, { code := 0, tag := 0, len := 0, params := [] }, by decide⟩,
   ⟨{ live with sys.mgpAway := false, mbx.ch := [{ st := .running, req := some ({ code := 257, tag := 0, len := 0, params := [], resv := 1 }) }, {}, {}, {}] },
     0, .cmdConnect 0, 257, { code := 257, tag := 0, len := 0, params := [], resv := 1 }, by decide⟩,
   ⟨{ live with sys.mgpAway := false, sys.loaderOnly := true, mbx.ch := [{ st := .running, req := some ({ code := 257, tag := 0, len := 0, params := [] }) }, {}, {}, {}] },
     0, .cmdConnect 0, 257, { code := 257, tag := 0, len := 0, params := [] }, by decide⟩,
   ⟨served 257 [] ({ live with sys.holdupOk := true, sag.ilkDone := true }), 0, [], serves_served (by decide), by decide⟩,
   ⟨served 257 [] live, 0, [], serves_served (by decide), by decide⟩,
   ⟨served 258 []
     ({ live with sys.st := .connected, sys.base := .connected, dict.work := [(P.phmTrkMode, 1)], phm.enMask := Tv.put 1, phm.owned := [true, true, true, true], phm.enHigh := true, phm.ph := List.replicate 16 {} }),
     0, [], serves_served (by decide), by decide⟩,
   ⟨served 258 [] ({ live with sys.st := .connected, sys.base := .connected }), 0, [], serves_served (by decide), by decide⟩,
   ⟨served 259 [] ({ live with sys.st := .dispatch }), 0, [], serves_served (by decide), by decide⟩,
   ⟨served 259 [] ({ live with phm.trk := .stopping, sys.st := .dispatch, sys.base := .dispatch }), 0, [], serves_served (by decide), by
     decide⟩,
   ⟨served 260 [] ({ live with sys.st := .connected, sys.base := .connected }), 0, [], serves_served (by decide), by decide⟩,
   ⟨served 260 [] ({ live with sys.st := .dispatch, sys.base := .dispatch }), 0, [], serves_served (by decide), by decide⟩,
   ⟨served 261 [] ({ live with sys.st := .isolated }), 0, [], serves_served (by decide), by decide⟩,
   ⟨served 261 [] ({ live with sys.st := .isolated, pins.aux := [true, false, false, false] }), 0, [], 0xFF, serves_served (by decide), by
     decide⟩,
   ⟨served 262 [] live, 0, [], serves_served (by decide)⟩,
   ⟨served 263 ([11, 0, 0, 0]) live, 0, [11, 0, 0, 0], serves_served (by decide), by decide⟩,
   ⟨served 263 ([11, 1, 0, 0]) ({ live with sys.pd := [true, true, true] }), 0, [11, 1, 0, 0], serves_served (by decide), by decide⟩,
   ⟨served 263 ([11, 1, 0, 0]) live, 0, [11, 1, 0, 0], serves_served (by decide), by decide⟩,
   ⟨served 264 []
     ({ live with prl.owner := true, prl.mode := 1, sys.st := .dispatch, prl.partnerOk := true, prl.partner := some { health := 0x3FFF } }),
     0, [], serves_served (by decide), by decide⟩,
   ⟨served 264 [] ({ live with sys.st := .dispatch, sys.base := .dispatch, prl.owner := true }), 0, [], serves_served (by decide), by
     decide⟩,
   ⟨served 264 [] ({ live with prl.owner := true, sys.st := .dispatch, prl.swap := .requested }), 0, [], serves_served (by decide), by
     decide⟩⟩

/-- States and operands that meet the hypotheses of each clause of ReportAndScheduleCommandsRun. -/
theorem test_hyp_ReportAndScheduleCommandsRun :
    (∃ (s : State) (c : Fin 4) (i : Instr) (k : Nat) (r : SelfTest), (i, k) ∈ [(Instr.cmdSelftest c r, 265), (Instr.cmdHealth c, 266),
      (Instr.cmdSchedLoad c, 513), (Instr.cmdSchedInfo c, 514), (Instr.cmdBalCtl c, 769), (Instr.cmdBalStatus c, 770),
      (Instr.cmdCalDischarge c, 1025), (Instr.cmdCapReport c, 1026), (Instr.cmdCapWrite c, 1027), (Instr.cmdCapCommit c, 1028)] ∧ (s.ch
      c.val).req = none) ∧
    (∃ (s : State) (c : Fin 4) (i : Instr) (k : Nat) (r1 : SelfTest) (r : Request), (i, k) ∈ [(Instr.cmdSelftest c r1, 265),
      (Instr.cmdHealth c, 266), (Instr.cmdSchedLoad c, 513), (Instr.cmdSchedInfo c, 514), (Instr.cmdBalCtl c, 769), (Instr.cmdBalStatus c,
      770), (Instr.cmdCalDischarge c, 1025), (Instr.cmdCapReport c, 1026), (Instr.cmdCapWrite c, 1027), (Instr.cmdCapCommit c, 1028)] ∧
      (s.ch c.val).req = some r ∧ ((s.ch c.val).st ≠ ChSt.running ∨ r.code ≠ k ∨ s.started (c.val) k = true ∨ s.sys.mgpAway = true ∨ moves
      k = true ∧ s.settled = false)) ∧
    (∃ (s : State) (c : Fin 4) (i : Instr) (k : Nat) (r1 : SelfTest) (r : Request), (i, k) ∈ [(Instr.cmdSelftest c r1, 265),
      (Instr.cmdHealth c, 266), (Instr.cmdSchedLoad c, 513), (Instr.cmdSchedInfo c, 514), (Instr.cmdBalCtl c, 769), (Instr.cmdBalStatus c,
      770), (Instr.cmdCalDischarge c, 1025), (Instr.cmdCapReport c, 1026), (Instr.cmdCapWrite c, 1027), (Instr.cmdCapCommit c, 1028)] ∧
      (s.ch c.val).req = some r ∧ (s.ch c.val).st = ChSt.running ∧ r.code = k ∧ s.started (c.val) k = false ∧ s.sys.mgpAway = false ∧
      (moves k = true → s.settled = true) ∧ r.formOk = false) ∧
    (∃ (s : State) (c : Fin 4) (i : Instr) (k : Nat) (r1 : SelfTest) (r : Request), (i, k) ∈ [(Instr.cmdSelftest c r1, 265),
      (Instr.cmdHealth c, 266), (Instr.cmdSchedLoad c, 513), (Instr.cmdSchedInfo c, 514), (Instr.cmdBalCtl c, 769), (Instr.cmdBalStatus c,
      770), (Instr.cmdCalDischarge c, 1025), (Instr.cmdCapReport c, 1026), (Instr.cmdCapWrite c, 1027), (Instr.cmdCapCommit c, 1028)] ∧
      (s.ch c.val).req = some r ∧ (s.ch c.val).st = ChSt.running ∧ r.code = k ∧ s.started (c.val) k = false ∧ s.sys.mgpAway = false ∧
      (moves k = true → s.settled = true) ∧ r.formOk = true ∧ s.accepts r = false) ∧
    (∃ (s : State) (c : Fin 4) (p : List Byte), s.Serves c 265 p) ∧
    (∃ (s : State) (c : Fin 4) (p : List Byte), s.Serves c 266 p) ∧
    (∃ (s : State) (c : Fin 4) (p : List Byte), s.Serves c 513 p ∧ s.image (leAt p 0 1) = none) ∧
    (∃ (s : State) (c : Fin 4) (p : List Byte) (i : SchedImage), s.Serves c 513 p ∧ s.image (leAt p 0 1) = some i) ∧
    (∃ (s : State) (c : Fin 4) (p : List Byte), s.Serves c 514 p) ∧
    (∃ (s : State) (c : Fin 4) (p : List Byte), s.Serves c 769 p ∧ leAt p 0 1 ≠ 2) ∧
    (∃ (s : State) (c : Fin 4) (p : List Byte), s.Serves c 769 p ∧ leAt p 0 1 = 2) ∧
    (∃ (s : State) (c : Fin 4) (p : List Byte), s.Serves c 770 p) ∧
    (∃ (s : State) (c : Fin 4) (p : List Byte), s.Serves c 1025 p ∧ leAt p 0 1 = 1) ∧
    (∃ (s : State) (c : Fin 4) (p : List Byte), s.Serves c 1025 p ∧ leAt p 0 1 ≠ 1) ∧
    (∃ (s : State) (c : Fin 4) (p : List Byte), s.Serves c 1026 p) ∧
    (∃ (s : State) (c : Fin 4) (p : List Byte), s.Serves c 1027 p ∧ s.est.disMode = true) ∧
    (∃ (s : State) (c : Fin 4) (p : List Byte), s.Serves c 1027 p ∧ s.est.disMode = false ∧ leAt p 0 2 ≠ 65535 ∧ leAt p 0 2 <
      s.csm.recs.length) ∧
    (∃ (s : State) (c : Fin 4) (p : List Byte), s.Serves c 1027 p ∧ s.est.disMode = false ∧ leAt p 0 2 = 65535 ∧ s.csm.recs.length = 384)
      ∧
    (∃ (s : State) (c : Fin 4) (p : List Byte), s.Serves c 1028 p ∧ s.sys.boWarn = false) ∧
    (∃ (s : State) (c : Fin 4) (p : List Byte), s.Serves c 1028 p ∧ s.sys.boWarn = true) ∧
    (∃ (s : State) (c : Fin 4) (r : Request), s.sys.mgpAway = false ∧ (s.ch c.val).req = some r ∧ (s.ch c.val).st = ChSt.running ∧ (s.ch
      c.val).outcome = none ∧ r.code = 1028 ∧ s.est.capBusy = true) :=
  ⟨⟨live, 0, .cmdSelftest 0 {}, 265, ({} : SelfTest), by decide⟩,
   ⟨{ live with mbx.ch := [{ st := .idle, req := some ({ code := 0, tag := 0, len := 0, params := [] }) }, {}, {}, {}] }, 0, .cmdSelftest
     0 {}, 265, ({} : SelfTest), { code := 0, tag := 0, len := 0, params := [] }, by decide⟩,
   ⟨{ live with sys.mgpAway := false, mbx.ch := [{ st := .running, req := some ({ code := 265, tag := 0, len := 0, params := [], resv := 1 }) }, {}, {}, {}] },
     0, .cmdSelftest 0 {}, 265, ({} : SelfTest), { code := 265, tag := 0, len := 0, params := [], resv := 1 }, by decide⟩,
   ⟨{ live with sys.mgpAway := false, sys.loaderOnly := true, mbx.ch := [{ st := .running, req := some ({ code := 266, tag := 0, len := 0, params := [] }) }, {}, {}, {}] },
     0, .cmdHealth 0, 266, ({} : SelfTest), { code := 266, tag := 0, len := 0, params := [] }, by decide⟩,
   ⟨served 265 [] live, 0, [], serves_served (by decide)⟩,
   ⟨served 266 [] live, 0, [], serves_served (by decide)⟩,
   ⟨served 513 ([3, 0, 0, 0]) live, 0, [3, 0, 0, 0], serves_served (by decide), by decide⟩,
   ⟨served 513 ([3, 0, 0, 0]) ({ live with upd.sched := [{}, {}, {}, { checks := true }] }), 0, [3, 0, 0, 0], { checks := true },
     serves_served (by decide), by decide⟩,
   ⟨served 514 [] live, 0, [], serves_served (by decide)⟩,
   ⟨served 769 ([1, 0, 0, 0]) live, 0, [1, 0, 0, 0], serves_served (by decide), by decide⟩,
   ⟨served 769 (2 :: List.replicate 51 0) live, 0, 2 :: List.replicate 51 0, serves_served (by decide), by decide⟩,
   ⟨served 770 [] live, 0, [], serves_served (by decide)⟩,
   ⟨served 1025 ([1, 0, 0, 0]) ({ live with sys.st := .dispatch }), 0, [1, 0, 0, 0], serves_served (by decide), by decide⟩,
   ⟨served 1025 ([0, 0, 0, 0]) live, 0, [0, 0, 0, 0], serves_served (by decide), by decide⟩,
   ⟨served 1026 (leBytes 4 (288 + 96 * 2 ^ 16)) live, 0, leBytes 4 (288 + 96 * 2 ^ 16), serves_served (by decide)⟩,
   ⟨served 1027 (List.replicate 8 0) ({ live with est.disMode := true }), 0, List.replicate 8 0, serves_served (by decide), by decide⟩,
   ⟨served 1027 (leBytes 8 383) ({ live with est.disMode := false }), 0, leBytes 8 383, serves_served (by decide), by decide⟩,
   ⟨served 1027 (leBytes 8 0xFFFF) ({ live with est.disMode := false }), 0, leBytes 8 0xFFFF, serves_served (by decide), by decide⟩,
   ⟨served 1028 [] ({ live with sys.boWarn := false }), 0, [], serves_served (by decide), by decide⟩,
   ⟨served 1028 [] ({ live with sys.boWarn := true }), 0, [], serves_served (by decide), by decide⟩,
   ⟨{ live with sys.mgpAway := false, est.capBusy := true, mbx.ch := [{ st := .running, req := some ({ code := 1028, tag := 0, len := 0, params := [] }) }, {}, {}, {}] },
     0, { code := 1028, tag := 0, len := 0, params := [] }, by decide⟩⟩

/-- States and operands that meet the hypotheses of each clause of SettingAndLinkCommandsRun. -/
theorem test_hyp_SettingAndLinkCommandsRun :
    (∃ (s : State) (c : Fin 4) (i : Instr) (k : Nat), (i, k) ∈ [(Instr.cmdParamRead c, 1281), (Instr.cmdParamWrite c, 1282),
      (Instr.cmdSettingsCommit c, 1283), (Instr.cmdSettingsDefault c, 1284), (Instr.cmdPairWrite c, 1537), (Instr.cmdPairClear c, 1538),
      (Instr.cmdPairRead c, 1539), (Instr.cmdLinkKeyChange c, 1540), (Instr.cmdNodeCmd c, 1541), (Instr.cmdLogRead c, 1793),
      (Instr.cmdLogClear c, 1794)] ∧ (s.ch c.val).req = none) ∧
    (∃ (s : State) (c : Fin 4) (i : Instr) (k : Nat) (r : Request), (i, k) ∈ [(Instr.cmdParamRead c, 1281), (Instr.cmdParamWrite c, 1282),
      (Instr.cmdSettingsCommit c, 1283), (Instr.cmdSettingsDefault c, 1284), (Instr.cmdPairWrite c, 1537), (Instr.cmdPairClear c, 1538),
      (Instr.cmdPairRead c, 1539), (Instr.cmdLinkKeyChange c, 1540), (Instr.cmdNodeCmd c, 1541), (Instr.cmdLogRead c, 1793),
      (Instr.cmdLogClear c, 1794)] ∧ (s.ch c.val).req = some r ∧ ((s.ch c.val).st ≠ ChSt.running ∨ r.code ≠ k ∨ s.started (c.val) k = true
      ∨ s.sys.mgpAway = true ∨ moves k = true ∧ s.settled = false)) ∧
    (∃ (s : State) (c : Fin 4) (i : Instr) (k : Nat) (r : Request), (i, k) ∈ [(Instr.cmdParamRead c, 1281), (Instr.cmdParamWrite c, 1282),
      (Instr.cmdSettingsCommit c, 1283), (Instr.cmdSettingsDefault c, 1284), (Instr.cmdPairWrite c, 1537), (Instr.cmdPairClear c, 1538),
      (Instr.cmdPairRead c, 1539), (Instr.cmdLinkKeyChange c, 1540), (Instr.cmdNodeCmd c, 1541), (Instr.cmdLogRead c, 1793),
      (Instr.cmdLogClear c, 1794)] ∧ (s.ch c.val).req = some r ∧ (s.ch c.val).st = ChSt.running ∧ r.code = k ∧ s.started (c.val) k = false
      ∧ s.sys.mgpAway = false ∧ (moves k = true → s.settled = true) ∧ r.formOk = false) ∧
    (∃ (s : State) (c : Fin 4) (i : Instr) (k : Nat) (r : Request), (i, k) ∈ [(Instr.cmdParamRead c, 1281), (Instr.cmdParamWrite c, 1282),
      (Instr.cmdSettingsCommit c, 1283), (Instr.cmdSettingsDefault c, 1284), (Instr.cmdPairWrite c, 1537), (Instr.cmdPairClear c, 1538),
      (Instr.cmdPairRead c, 1539), (Instr.cmdLinkKeyChange c, 1540), (Instr.cmdNodeCmd c, 1541), (Instr.cmdLogRead c, 1793),
      (Instr.cmdLogClear c, 1794)] ∧ (s.ch c.val).req = some r ∧ (s.ch c.val).st = ChSt.running ∧ r.code = k ∧ s.started (c.val) k = false
      ∧ s.sys.mgpAway = false ∧ (moves k = true → s.settled = true) ∧ r.formOk = true ∧ s.accepts r = false) ∧
    (∃ (s : State) (c : Fin 4) (p : List Byte), s.Serves c 1281 p) ∧
    (∃ (s : State) (c : Fin 4) (p : List Byte) (k : Nat), s.Serves c 1282 p ∧ safetyIn (leAt p 0 2) (leAt p 2 2) = some k) ∧
    (∃ (s : State) (c : Fin 4) (p : List Byte) (t : State), s.Serves c 1282 p ∧ (s.writeParams (leAt p 0 2) (List.map (fun k => leAt p (4
      + 4 * k) 4) (List.range (leAt p 2 2))) = Except.ok t) ∧ safetyIn (leAt p 0 2) (leAt p 2 2) = none) ∧
    (∃ (s : State) (c : Fin 4) (p : List Byte) (e : HostErr), s.Serves c 1282 p ∧ (s.writeParams (leAt p 0 2) (List.map (fun k => leAt p
      (4 + 4 * k) 4) (List.range (leAt p 2 2))) = Except.error e) ∧ safetyIn (leAt p 0 2) (leAt p 2 2) = none) ∧
    (∃ (s : State) (c : Fin 4) (p : List Byte), s.Serves c 1283 p) ∧
    (∃ (s : State) (c : Fin 4) (r : Request), s.sys.mgpAway = false ∧ (s.ch c.val).req = some r ∧ (s.ch c.val).st = ChSt.running ∧ (s.ch
      c.val).outcome = none ∧ r.code = 1283 ∧ s.dict.job.isSome = true) ∧
    (∃ (s : State) (c : Fin 4) (p : List Byte), s.Serves c 1284 p) ∧
    (∃ (s : State) (c : Fin 4) (p : List Byte), s.Serves c 1537 p ∧ s.pairConflict (leAt p 0 1) (leAt p 4 8) = none ∧ leAt p 0 1 <
      s.fnl.pair.length) ∧
    (∃ (s : State) (c : Fin 4) (p : List Byte) (k : Nat), s.Serves c 1537 p ∧ s.pairConflict (leAt p 0 1) (leAt p 4 8) = some k) ∧
    (∃ (s : State) (c : Fin 4) (p : List Byte), s.Serves c 1538 p ∧ s.nodeJoined (leAt p 0 1) = true) ∧
    (∃ (s : State) (c : Fin 4) (p : List Byte), s.Serves c 1538 p ∧ s.nodeJoined (leAt p 0 1) = false ∧ (nth s.fnl.pair (leAt p 0 1)
      { }).serial = 0) ∧
    (∃ (s : State) (c : Fin 4) (p : List Byte), s.Serves c 1538 p ∧ s.nodeJoined (leAt p 0 1) = false ∧ (nth s.fnl.pair (leAt p 0 1)
      { }).serial ≠ 0) ∧
    (∃ (s : State) (c : Fin 4) (p : List Byte), s.Serves c 1539 p) ∧
    (∃ (s : State) (c : Fin 4) (p : List Byte), s.Serves c 1540 p ∧ s.fnl.changing = true) ∧
    (∃ (s : State) (c : Fin 4) (p : List Byte), s.Serves c 1540 p ∧ s.fnl.changing = false) ∧
    (∃ (s : State) (c : Fin 4) (p : List Byte), s.Serves c 1541 p) ∧
    (∃ (s : State) (c : Fin 4) (p : List Byte), s.Serves c 1793 p) ∧
    (∃ (s : State) (c : Fin 4) (p : List Byte), s.Serves c 1794 p) :=
  ⟨⟨live, 0, .cmdParamRead 0, 1281, by decide⟩,
   ⟨{ live with mbx.ch := [{ st := .idle, req := some ({ code := 0, tag := 0, len := 0, params := [] }) }, {}, {}, {}] }, 0, .cmdParamRead
     0, 1281, { code := 0, tag := 0, len := 0, params := [] }, by decide⟩,
   ⟨{ live with sys.mgpAway := false, mbx.ch := [{ st := .running, req := some ({ code := 1281, tag := 0, len := 0, params := [], resv := 1 }) }, {}, {}, {}] },
     0, .cmdParamRead 0, 1281, { code := 1281, tag := 0, len := 0, params := [], resv := 1 }, by decide⟩,
   ⟨{ live with sys.mgpAway := false, sys.loaderOnly := true, mbx.ch := [{ st := .running, req := some ({ code := 1281, tag := 0, len := 4, params := leBytes 4 (2 ^ 16) }) }, {}, {}, {}] },
     0, .cmdParamRead 0, 1281, { code := 1281, tag := 0, len := 4, params := leBytes 4 (2 ^ 16) }, by decide⟩,
   ⟨served 1281 (leBytes 4 (2 ^ 16)) live, 0, leBytes 4 (2 ^ 16), serves_served (by decide)⟩,
   ⟨served 1282 (leBytes 8 (0x60 + 2 ^ 16)) live, 0, leBytes 8 (0x60 + 2 ^ 16), 0x60, serves_served (by decide), by decide⟩,
   ⟨served 1282 (leBytes 8 (2 ^ 16 + 500 * 2 ^ 32)) live, 0, leBytes 8 (2 ^ 16 + 500 * 2 ^ 32), _, serves_served (by decide), rfl, by
     decide⟩,
   ⟨served 1282 (leBytes 8 (2 ^ 16 + 499 * 2 ^ 32)) live, 0, leBytes 8 (2 ^ 16 + 499 * 2 ^ 32), .outOfRange, serves_served (by decide),
     rfl, by decide⟩,
   ⟨served 1283 [] live, 0, [], serves_served (by decide)⟩,
   ⟨{ live with sys.mgpAway := false, dict.job := some [], mbx.ch := [{ st := .running, req := some ({ code := 1283, tag := 0, len := 0, params := [] }) }, {}, {}, {}] },
     0, { code := 1283, tag := 0, len := 0, params := [] }, by decide⟩,
   ⟨served 1284 [] live, 0, [], serves_served (by decide)⟩,
   ⟨served 1537 (leBytes 28 (47 + 5 * 2 ^ 32)) live, 0, leBytes 28 (47 + 5 * 2 ^ 32), serves_served (by decide), by decide⟩,
   ⟨served 1537 (leBytes 28 (47 + 5 * 2 ^ 32)) ({ live with fnl.pair := live.fnl.pair.set 3 { serial := 5 } }), 0, leBytes 28 (47 + 5 * 2
     ^ 32), 3, serves_served (by decide), by decide⟩,
   ⟨served 1538 (leBytes 4 47) ({ live with fnl.links := live.fnl.links.set 47 { st := 2 } }), 0, leBytes 4 47, serves_served (by decide),
     by decide⟩,
   ⟨served 1538 (leBytes 4 47) live, 0, leBytes 4 47, serves_served (by decide), by decide⟩,
   ⟨served 1538 (leBytes 4 3) ({ live with fnl.pair := live.fnl.pair.set 3 { serial := 5 } }), 0, leBytes 4 3, serves_served (by decide),
     by decide⟩,
   ⟨served 1539 [] live, 0, [], serves_served (by decide)⟩,
   ⟨served 1540 [] ({ live with fnl.changing := true }), 0, [], serves_served (by decide), by decide⟩,
   ⟨served 1540 [] ({ live with fnl.changing := false }), 0, [], serves_served (by decide), by decide⟩,
   ⟨served 1541 (leBytes 4 (47 + 3 * 2 ^ 8)) live, 0, leBytes 4 (47 + 3 * 2 ^ 8), serves_served (by decide)⟩,
   ⟨served 1793 (leBytes 4 (31 * 2 ^ 16)) live, 0, leBytes 4 (31 * 2 ^ 16), serves_served (by decide)⟩,
   ⟨served 1794 [] live, 0, [], serves_served (by decide)⟩⟩

/-- States and operands that meet the hypotheses of clauses of SafetyCommandsRun, 1 of 5. -/
theorem test_hyp_SafetyCommandsRun :
    (∃ (s : State) (c : Fin 4) (i : Instr) (k : Nat), (i, k) ∈ [(Instr.cmdSagLogin c, 2305), (Instr.cmdSagStage c, 2306),
      (Instr.cmdSagCommit c, 2307), (Instr.cmdSagAbort c, 2308), (Instr.cmdSagPassword c, 2309), (Instr.cmdSagLogRead c, 2310),
      (Instr.cmdSagLogAck c, 2311)] ∧ (s.ch c.val).req = none) ∧
    (∃ (s : State) (c : Fin 4) (i : Instr) (k : Nat) (r : Request), (i, k) ∈ [(Instr.cmdSagLogin c, 2305), (Instr.cmdSagStage c, 2306),
      (Instr.cmdSagCommit c, 2307), (Instr.cmdSagAbort c, 2308), (Instr.cmdSagPassword c, 2309), (Instr.cmdSagLogRead c, 2310),
      (Instr.cmdSagLogAck c, 2311)] ∧ (s.ch c.val).req = some r ∧ ((s.ch c.val).st ≠ ChSt.running ∨ r.code ≠ k ∨ s.started (c.val) k =
      true ∨ s.sys.mgpAway = true ∨ moves k = true ∧ s.settled = false)) ∧
    (∃ (s : State) (c : Fin 4) (i : Instr) (k : Nat) (r : Request), (i, k) ∈ [(Instr.cmdSagLogin c, 2305), (Instr.cmdSagStage c, 2306),
      (Instr.cmdSagCommit c, 2307), (Instr.cmdSagAbort c, 2308), (Instr.cmdSagPassword c, 2309), (Instr.cmdSagLogRead c, 2310),
      (Instr.cmdSagLogAck c, 2311)] ∧ (s.ch c.val).req = some r ∧ (s.ch c.val).st = ChSt.running ∧ r.code = k ∧ s.started (c.val) k =
      false ∧ s.sys.mgpAway = false ∧ (moves k = true → s.settled = true) ∧ r.formOk = false) ∧
    (∃ (s : State) (c : Fin 4) (i : Instr) (k : Nat) (r : Request), (i, k) ∈ [(Instr.cmdSagLogin c, 2305), (Instr.cmdSagStage c, 2306),
      (Instr.cmdSagCommit c, 2307), (Instr.cmdSagAbort c, 2308), (Instr.cmdSagPassword c, 2309), (Instr.cmdSagLogRead c, 2310),
      (Instr.cmdSagLogAck c, 2311)] ∧ (s.ch c.val).req = some r ∧ (s.ch c.val).st = ChSt.running ∧ r.code = k ∧ s.started (c.val) k =
      false ∧ s.sys.mgpAway = false ∧ (moves k = true → s.settled = true) ∧ r.formOk = true ∧ s.accepts r = false) ∧
    (∃ (s : State) (c : Fin 4) (p : List Byte), s.Serves c 2305 p ∧ s.sag.locked = true) ∧
    (∃ (s : State) (c : Fin 4) (p : List Byte), s.Serves c 2305 p ∧ s.sag.locked = false ∧ s.sag.pwOk (pwField p 0).snd = false) ∧
    (∃ (s : State) (c : Fin 4) (p : List Byte), s.Serves c 2306 p ∧ s.loggedIn c.val = false) ∧
    (∃ (s : State) (c : Fin 4) (p : List Byte), s.Serves c 2307 p ∧ s.loggedIn c.val = false) ∧
    (∃ (s : State) (c : Fin 4) (p : List Byte), s.Serves c 2306 p ∧ s.loggedIn c.val = true) ∧
    (∃ (s : State) (c : Fin 4) (p : List Byte), s.Serves c 2307 p ∧ s.loggedIn c.val = true ∧ s.commitBar = none) ∧
    (∃ (s : State) (c : Fin 4) (p : List Byte) (b : Nat × Nat), s.Serves c 2307 p ∧ s.loggedIn c.val = true ∧ s.commitBar = some b) ∧
    (∃ (s : State) (c : Fin 4) (r : Request) (l : List (Nat × Int)) (n : Nat) (b : Bool), s.sys.mgpAway = false ∧ (s.ch c.val).req = some
      r ∧ (s.ch c.val).st = ChSt.running ∧ (s.ch c.val).outcome = none ∧ r.code = 2307 ∧ s.sag.job = some (l, n) ∧ b = true) ∧
    (∃ (s : State) (c : Fin 4) (p : List Byte), s.Serves c 2308 p) ∧
    (∃ (s : State) (c : Fin 4) (p : List Byte), s.Serves c 2309 p ∧ s.oldPwOk p = false) ∧
    (∃ (s : State) (c : Fin 4) (p : List Byte), s.Serves c 2309 p ∧ s.oldPwOk p = true ∧ 1 < s.sag.clogFree) ∧
    (∃ (s : State) (c : Fin 4) (p : List Byte), s.Serves c 2310 p ∧ s.sag.clogSeq < leAt p 0 4) ∧
    (∃ (s : State) (c : Fin 4) (p : List Byte), s.Serves c 2310 p ∧ leAt p 0 4 ≤ s.sag.clogSeq) ∧
    (∃ (s : State) (c : Fin 4) (p : List Byte), s.Serves c 2311 p ∧ s.sag.pwOk (pwField p 0).snd = false) :=
  ⟨⟨live, 0, .cmdSagLogin 0, 2305, by decide⟩,
   ⟨{ live with mbx.ch := [{ st := .idle, req := some ({ code := 0, tag := 0, len := 0, params := [] }) }, {}, {}, {}] }, 0, .cmdSagLogin
     0, 2305, { code := 0, tag := 0, len := 0, params := [] }, by decide⟩,
   ⟨{ live with sys.mgpAway := false, mbx.ch := [{ st := .running, req := some ({ code := 2305, tag := 0, len := 0, params := [], resv := 1 }) }, {}, {}, {}] },
     0, .cmdSagLogin 0, 2305, { code := 2305, tag := 0, len := 0, params := [], resv := 1 }, by decide⟩,
   ⟨{ live with sys.mgpAway := false, sys.loaderOnly := true, mbx.ch := [{ st := .running, req := some ({ code := 2305, tag := 0, len := 13, params := [8, 97, 97, 97, 97, 97, 97, 97, 97, 0, 0, 0, 0] }) }, {}, {}, {}] },
     0, .cmdSagLogin 0, 2305, { code := 2305, tag := 0, len := 13, params := [8, 97, 97, 97, 97, 97, 97, 97, 97, 0, 0, 0, 0] }, by
     decide⟩,
   ⟨served 2305 ([8, 97, 97, 97, 97, 97, 97, 97, 97, 0, 0, 0, 0]) ({ live with sag.locked := true }), 0, [8, 97, 97, 97, 97, 97, 97, 97,
     97, 0, 0, 0, 0], serves_served (by decide), by decide⟩,
   ⟨served 2305 ([8, 97, 97, 97, 97, 97, 97, 97, 97, 0, 0, 0, 0]) ({ live with sag.locked := false }), 0, [8, 97, 97, 97, 97, 97, 97, 97,
     97, 0, 0, 0, 0], serves_served (by decide), by decide⟩,
   ⟨served 2306 ([0, 0, 1, 0] ++ List.replicate 8 0) live, 0, [0, 0, 1, 0] ++ List.replicate 8 0, serves_served (by decide), by decide⟩,
   ⟨served 2307 [] live, 0, [], serves_served (by decide), by decide⟩,
   ⟨served 2306 ([0, 0, 64, 0] ++ List.replicate 512 0) ({ live with sag.login := some (0, .portA) }), 0, [0, 0, 64, 0] ++ List.replicate
     512 0, serves_served (by decide), by decide⟩,
   ⟨served 2307 [] ({ live with sag.login := some (0, .portA) }), 0, [], serves_served (by decide), by decide⟩,
   ⟨served 2307 [] ({ live with sag.login := some (0, .portA), sag.staged := [(0x60, 200000)] }), 0, [], (6, 0x60), serves_served (by
     decide), by decide⟩,
   ⟨{ live with sys.mgpAway := false, sag.job := some ({}, 0), mbx.ch := [{ st := .running, req := some ({ code := 2307, tag := 0, len := 0, params := [] }) }, {}, {}, {}] },
     0, { code := 2307, tag := 0, len := 0, params := [] }, ({} : List (Nat × Int)), 0, true, by decide⟩,
   ⟨served 2308 [] live, 0, [], serves_served (by decide)⟩,
   ⟨served 2309 ([8, 97, 97, 97, 97, 97, 97, 97, 97, 0, 0, 0, 0] ++ [8, 97, 97, 97, 97, 97, 97, 97, 97, 0, 0, 0, 0]) live, 0, [8, 97, 97,
     97, 97, 97, 97, 97, 97, 0, 0, 0, 0] ++ [8, 97, 97, 97, 97, 97, 97, 97, 97, 0, 0, 0, 0], serves_served (by decide), by decide⟩,
   ⟨served 2309 (List.replicate 13 0 ++ [8, 97, 97, 97, 97, 97, 97, 97, 97, 0, 0, 0, 0]) live, 0, List.replicate 13 0 ++ [8, 97, 97, 97,
     97, 97, 97, 97, 97, 0, 0, 0, 0], serves_served (by decide), by decide⟩,
   ⟨served 2310 (leBytes 8 (1 + 2 ^ 32)) live, 0, leBytes 8 (1 + 2 ^ 32), serves_served (by decide), by decide⟩,
   ⟨served 2310 (leBytes 8 (2 ^ 32)) live, 0, leBytes 8 (2 ^ 32), serves_served (by decide), by decide⟩,
   ⟨served 2311 ([8, 97, 97, 97, 97, 97, 97, 97, 97, 0, 0, 0, 0] ++ List.replicate 7 0) live, 0, [8, 97, 97, 97, 97, 97, 97, 97, 97, 0, 0,
     0, 0] ++ List.replicate 7 0, serves_served (by decide), by decide⟩⟩

/-- States and operands that meet the hypotheses of clauses of SafetyCommandsRun, 2 of 5. -/
theorem test_hyp_SafetyCommandsRun_1 : ∃ (s : State) (c : Fin 4) (p : List Byte), s.Serves c 2305 p ∧ s.sag.locked = false ∧ s.sag.pwOk
  (pwField p 0).snd = true :=
  ⟨served 2305 ([8, 97, 97, 97, 97, 97, 97, 97, 97, 0, 0, 0, 0])
    ({ live with sag.locked := false, sag.pw := some (0, pwDigest 0 (List.replicate 8 97)) }), 0, [8, 97, 97, 97, 97, 97, 97, 97, 97, 0,
    0, 0, 0], serves_served (by decide), ⟨by decide, by decide +kernel⟩⟩

/-- States and operands that meet the hypotheses of clauses of SafetyCommandsRun, 3 of 5. -/
theorem test_hyp_SafetyCommandsRun_2 : ∃ (s : State) (c : Fin 4) (p : List Byte), s.Serves c 2309 p ∧ s.oldPwOk p = true ∧ s.sag.clogFree
  ≤ 1 :=
  ⟨served 2309 (List.replicate 13 0 ++ [8, 97, 97, 97, 97, 97, 97, 97, 97, 0, 0, 0, 0])
    ({ live with sag.clog := List.replicate 1023 { seq := 1, source := 0, kind := 0, index := 0, old := 0, new := 0, pcc := 0, opsec := 0, cfgCrc := 0 } }),
    0, List.replicate 13 0 ++ [8, 97, 97, 97, 97, 97, 97, 97, 97, 0, 0, 0, 0], serves_served (by decide), by decide +kernel⟩

/-- States and operands that meet the hypotheses of clauses of SafetyCommandsRun, 4 of 5. -/
theorem test_hyp_SafetyCommandsRun_3 : ∃ (s : State) (c : Fin 4) (p : List Byte), s.Serves c 2311 p ∧ s.sag.pwOk (pwField p 0).snd = true
  ∧ s.sag.clogSeq < leAt p 16 4 :=
  ⟨served 2311 ([8, 97, 97, 97, 97, 97, 97, 97, 97, 0, 0, 0, 0] ++ leBytes 7 (2 ^ 24))
    ({ live with sag.pw := some (0, pwDigest 0 (List.replicate 8 97)) }), 0, [8, 97, 97, 97, 97, 97, 97, 97, 97, 0, 0, 0, 0] ++ leBytes 7
    (2 ^ 24), serves_served (by decide), by decide +kernel⟩

/-- States and operands that meet the hypotheses of clauses of SafetyCommandsRun, 5 of 5. -/
theorem test_hyp_SafetyCommandsRun_4 : ∃ (s : State) (c : Fin 4) (p : List Byte), s.Serves c 2311 p ∧ s.sag.pwOk (pwField p 0).snd = true
  ∧ leAt p 16 4 ≤ s.sag.clogSeq :=
  ⟨served 2311 ([8, 97, 97, 97, 97, 97, 97, 97, 97, 0, 0, 0, 0] ++ List.replicate 7 0)
    ({ live with sag.pw := some (0, pwDigest 0 (List.replicate 8 97)) }), 0, [8, 97, 97, 97, 97, 97, 97, 97, 97, 0, 0, 0, 0] ++
    List.replicate 7 0, serves_served (by decide), by decide +kernel⟩

/-- States and operands that meet the hypotheses of each clause of UpdatesAreReceivedAndStaged. -/
theorem test_hyp_UpdatesAreReceivedAndStaged :
    (∃ (s : State) (c : Fin 4) (i : Instr) (k : Nat), (i, k) ∈ [(Instr.cmdUpdateBegin c, 2049), (Instr.cmdUpdateStage c, 2050),
      (Instr.cmdUpdateAbort c, 2052), (Instr.cmdUpdateStatus c, 2053)] ∧ (s.ch c.val).req = none) ∧
    (∃ (s : State) (c : Fin 4) (i : Instr) (k : Nat) (r : Request), (i, k) ∈ [(Instr.cmdUpdateBegin c, 2049), (Instr.cmdUpdateStage c,
      2050), (Instr.cmdUpdateAbort c, 2052), (Instr.cmdUpdateStatus c, 2053)] ∧ (s.ch c.val).req = some r ∧ ((s.ch c.val).st ≠
      ChSt.running ∨ r.code ≠ k ∨ s.started (c.val) k = true ∨ s.sys.mgpAway = true ∨ moves k = true ∧ s.settled = false)) ∧
    (∃ (s : State) (c : Fin 4) (i : Instr) (k : Nat) (r : Request), (i, k) ∈ [(Instr.cmdUpdateBegin c, 2049), (Instr.cmdUpdateStage c,
      2050), (Instr.cmdUpdateAbort c, 2052), (Instr.cmdUpdateStatus c, 2053)] ∧ (s.ch c.val).req = some r ∧ (s.ch c.val).st = ChSt.running
      ∧ r.code = k ∧ s.started (c.val) k = false ∧ s.sys.mgpAway = false ∧ (moves k = true → s.settled = true) ∧ r.formOk = false) ∧
    (∃ (s : State) (c : Fin 4) (i : Instr) (k : Nat) (r : Request), (i, k) ∈ [(Instr.cmdUpdateBegin c, 2049), (Instr.cmdUpdateStage c,
      2050), (Instr.cmdUpdateAbort c, 2052), (Instr.cmdUpdateStatus c, 2053)] ∧ (s.ch c.val).req = some r ∧ (s.ch c.val).st = ChSt.running
      ∧ r.code = k ∧ s.started (c.val) k = false ∧ s.sys.mgpAway = false ∧ (moves k = true → s.settled = true) ∧ r.formOk = true ∧
      s.accepts r = false) ∧
    (∃ (s : State) (x : Tx) (i : Nat), s.TxOk x 10 i ∧ s.mayAct x.addr = false) ∧
    (∃ (s : State) (x : Tx) (i : Nat), s.TxOk x 10 i ∧ s.mayAct x.addr = true ∧ s.sys.mgpAway = true) ∧
    (∃ (s : State) (x : Tx) (i : Nat), s.TxOk x 10 i ∧ s.mayAct x.addr = true ∧ s.sys.mgpAway = false ∧ (s.upd.isOpen = false ∨ 1032 <
      x.payload.length ∨ s.upd.lengthOf (leAt x.payload 0 2) = none)) ∧
    (∃ (s : State) (x : Tx) (i : Nat) (n : Nat), s.TxOk x 10 i ∧ s.mayAct x.addr = true ∧ s.sys.mgpAway = false ∧ s.upd.isOpen = true ∧
      x.payload.length ≤ 1032 ∧ s.upd.lengthOf (leAt x.payload 0 2) = some n ∧ s.upd.roll ≠ Rollout.none) ∧
    (∃ (s : State) (x : Tx) (i : Nat) (n : Nat), s.TxOk x 10 i ∧ s.mayAct x.addr = true ∧ s.sys.mgpAway = false ∧ s.upd.isOpen = true ∧
      x.payload.length ≤ 1032 ∧ s.upd.lengthOf (leAt x.payload 0 2) = some n ∧ s.upd.roll = Rollout.none ∧ (leAt x.payload 4 4 ≠
      ((s.upd.bytesOf (leAt x.payload 0 2)).length) ∨ x.payload.length = 8 ∧ ((s.upd.bytesOf (leAt x.payload 0 2)).length) ≤ n)) ∧
    (∃ (s : State) (x : Tx) (i : Nat) (n : Nat), s.TxOk x 10 i ∧ s.mayAct x.addr = true ∧ s.sys.mgpAway = false ∧ s.upd.isOpen = true ∧
      x.payload.length ≤ 1032 ∧ s.upd.lengthOf (leAt x.payload 0 2) = some n ∧ s.upd.roll = Rollout.none ∧ leAt x.payload 4 4 =
      ((s.upd.bytesOf (leAt x.payload 0 2)).length) ∧ n < ((s.upd.bytesOf (leAt x.payload 0 2)).length) + (x.payload.length - 8)) ∧
    (∃ (s : State) (x : Tx) (i : Nat) (n : Nat), s.TxOk x 10 i ∧ s.mayAct x.addr = true ∧ s.sys.mgpAway = false ∧ s.upd.isOpen = true ∧
      x.payload.length ≤ 1032 ∧ s.upd.lengthOf (leAt x.payload 0 2) = some n ∧ s.upd.roll = Rollout.none ∧ leAt x.payload 4 4 =
      ((s.upd.bytesOf (leAt x.payload 0 2)).length) ∧ 8 < x.payload.length ∧ ((s.upd.bytesOf (leAt x.payload 0 2)).length) +
      (x.payload.length - 8) ≤ n) ∧
    (∃ (s : State) (n : Nat) (b : List Byte), (s.upd.manBuf ++ b).length ≠ n) ∧
    (∃ (s : State) (c : Fin 4) (p : List Byte), s.Serves c 2049 p ∧ (s.sys.st ≠ OpState.pilot ∨ s.upd.isOpen = false)) ∧
    (∃ (s : State) (c : Fin 4) (p : List Byte), s.Serves c 2049 p ∧ s.sys.st = OpState.pilot ∧ s.upd.isOpen = true) ∧
    (∃ (s : State) (c : Fin 4) (p : List Byte) (m : Manifest), s.Serves c 2050 p ∧ s.upd.man = some m ∧ (∀ (kp : Nat × Part), kp ∈ indexed
      m.parts → kp.snd.stages (s.upd.got kp.fst) = true)) ∧
    (∃ (s : State) (c : Fin 4) (p : List Byte) (m : Manifest) (k : Nat) (q : Part), s.Serves c 2050 p ∧ s.upd.man = some m ∧ (List.find?
      (fun kp => !kp.snd.stages (s.upd.got kp.fst)) (indexed m.parts) = some (k, q))) ∧
    (∃ (s : State) (c : Fin 4) (p : List Byte), s.Serves c 2050 p ∧ s.upd.man = none) ∧
    (∃ (s : State), (s.upd.nextFam = 0 ∨ s.upd.phase = 0 ∨ s.sys.mgpAway = true)) ∧
    (∃ (s : State) (r : Option (List Byte)), s.upd.nextFam ≠ 0 ∧ s.upd.phase ≠ 0 ∧ s.sys.mgpAway = false ∧ (List.find? (fun x => decide
      ((s.upd.fwdReply r).fwdAt x.fst < x.snd)) (s.upd.fwdReply r).fwdList = none)) ∧
    (∃ (s : State) (r : Option (List Byte)) (k : Nat) (n : Nat), s.upd.nextFam ≠ 0 ∧ s.upd.phase ≠ 0 ∧ s.sys.mgpAway = false ∧ (List.find?
      (fun x => decide ((s.upd.fwdReply r).fwdAt x.fst < x.snd)) (s.upd.fwdReply r).fwdList = some (k, n))) ∧
    (∃ (s : State) (c : Fin 4) (p : List Byte), s.Serves c 2052 p) ∧
    (∃ (s : State) (c : Fin 4) (p : List Byte), s.Serves c 2053 p) :=
  ⟨⟨live, 0, .cmdUpdateBegin 0, 2049, by decide⟩,
   ⟨{ live with mbx.ch := [{ st := .idle, req := some ({ code := 0, tag := 0, len := 0, params := [] }) }, {}, {}, {}] }, 0,
     .cmdUpdateBegin 0, 2049, { code := 0, tag := 0, len := 0, params := [] }, by decide⟩,
   ⟨{ live with sys.mgpAway := false, mbx.ch := [{ st := .running, req := some ({ code := 2049, tag := 0, len := 0, params := [], resv := 1 }) }, {}, {}, {}] },
     0, .cmdUpdateBegin 0, 2049, { code := 2049, tag := 0, len := 0, params := [], resv := 1 }, by decide⟩,
   ⟨{ live with sys.mgpAway := false, mbx.ch := [{ st := .running, req := some ({ code := 2049, tag := 0, len := 24, params := List.replicate 24 0 }) }, {}, {}, {}], sys.st := .precharge },
     0, .cmdUpdateBegin 0, 2049, { code := 2049, tag := 0, len := 24, params := List.replicate 24 0 }, by decide⟩,
   ⟨joined ({ live with dict.work := [(P.plkAllow, 1), (P.plkAllow + 4, 8)] }), txReq 10 (leBytes 8 0), 0, txOk_joined (by decide), by
     decide⟩,
   ⟨joined ({ live with sys.mgpAway := true }), txReq 10 (leBytes 8 0), 0, txOk_joined (by decide), by decide⟩,
   ⟨joined ({ live with sys.mgpAway := false }), txReq 10 (leBytes 8 0), 0, txOk_joined (by decide), by decide⟩,
   ⟨joined ({ live with sys.mgpAway := false, upd.phase := 1, upd.manLen := 112, upd.roll := .staging }), txReq 10 (leBytes 8 0xFFFF), 0,
     112, txOk_joined (by decide), by decide⟩,
   ⟨joined ({ live with sys.mgpAway := false, upd.roll := .none, upd.phase := 1, upd.manLen := 112 }), txReq 10 (leBytes 8 0xFFFF), 0,
     112, txOk_joined (by decide), by decide⟩,
   ⟨joined ({ live with sys.mgpAway := false, upd.roll := .none, upd.phase := 1, upd.manLen := 0 }), txReq 10 (leBytes 9 0xFFFF), 0, 0,
     txOk_joined (by decide), by decide⟩,
   ⟨joined ({ live with sys.mgpAway := false, upd.roll := .none, upd.phase := 1, upd.manLen := 112 }), txReq 10 (leBytes 9 0xFFFF), 0,
     112, txOk_joined (by decide), by decide⟩,
   ⟨live, 1, [], by decide⟩,
   ⟨served 2049 (List.replicate 24 0) live, 0, List.replicate 24 0, serves_served (by decide), by decide⟩,
   ⟨served 2049 (List.replicate 24 0) ({ live with sys.st := .pilot, upd.phase := 1 }), 0, List.replicate 24 0, serves_served (by decide),
     by decide⟩,
   ⟨served 2050 [] ({ live with upd.man := some ({ id := 0, parts := [] }), sys.st := .maintenance, upd.phase := 1 }), 0, [],
     { id := 0, parts := [] }, serves_served (by decide), by decide⟩,
   ⟨served 2050 []
     ({ live with upd.man := some ({ id := 0, parts := [{ kind := 5, length := 1 }] }), sys.st := .maintenance, upd.phase := 1 }), 0, [],
     { id := 0, parts := [{ kind := 5, length := 1 }] }, 0, { kind := 5, length := 1 }, serves_served (by decide), by decide⟩,
   ⟨served 2050 [] ({ live with upd.man := none, sys.st := .maintenance, upd.phase := 1 }), 0, [], serves_served (by decide), by decide⟩,
   ⟨{ live with upd.nextFam := 0 }, by decide⟩,
   ⟨{ live with sys.mgpAway := false, upd.nextFam := 4, upd.phase := 1 }, none, by decide⟩,
   ⟨{ live with sys.mgpAway := false, upd.nextFam := 4, upd.phase := 1, upd.manLen := 112, upd.man := some { id := 0, parts := [] } },
     none, 0xFFFF, 112, by decide⟩,
   ⟨served 2052 [] ({ live with sys.st := .maintenance, upd.phase := 1 }), 0, [], serves_served (by decide)⟩,
   ⟨served 2053 [] live, 0, [], serves_served (by decide)⟩⟩

/-- States and operands that meet the hypotheses of clauses of UpdatesActivateRollBackAndRollOut, 1 of 4. -/
theorem test_hyp_UpdatesActivateRollBackAndRollOut :
    (∃ (s : State) (c : Fin 4), (s.ch c.val).req = none) ∧
    (∃ (s : State) (c : Fin 4) (r : Request), (s.ch c.val).req = some r ∧ ((s.ch c.val).st ≠ ChSt.running ∨ r.code ≠ 2051 ∨ s.started
      (c.val) 2051 = true ∨ s.sys.mgpAway = true ∨ moves 2051 = true ∧ s.settled = false)) ∧
    (∃ (s : State) (c : Fin 4) (r : Request), (s.ch c.val).req = some r ∧ (s.ch c.val).st = ChSt.running ∧ r.code = 2051 ∧ s.started
      (c.val) 2051 = false ∧ s.sys.mgpAway = false ∧ (moves 2051 = true → s.settled = true) ∧ r.formOk = false) ∧
    (∃ (s : State) (c : Fin 4) (r : Request), (s.ch c.val).req = some r ∧ (s.ch c.val).st = ChSt.running ∧ r.code = 2051 ∧ s.started
      (c.val) 2051 = false ∧ s.sys.mgpAway = false ∧ (moves 2051 = true → s.settled = true) ∧ r.formOk = true ∧ s.accepts r = false) ∧
    (∃ (s : State) (c : Fin 4) (p : List Byte), s.Serves c 2051 p ∧ s.activateBars ≠ 0) ∧
    (∃ (s : State), (s.upd.handoff = false ∨ s.upd.copied = true)) ∧
    (∃ (s : State), s.upd.handoff = true ∧ s.upd.copied = false ∧ (s.sys.loaderOnly = false ∨ s.upd.rolledBack = true)) ∧
    (∃ (s : State), s.upd.handoff = true ∧ s.upd.copied = false ∧ s.sys.loaderOnly = true ∧ s.upd.rolledBack = false) ∧
    (∃ (s : State), s.upd.handoff = true ∧ s.upd.copied = false ∧ s.upd.rolledBack = true) ∧
    (∃ (s : State), (s.upd.handoff = false ∨ s.upd.copied = false)) ∧
    (∃ (s : State), s.upd.handoff = true ∧ s.upd.copied = true ∧ s.upd.rolledBack = false) ∧
    (∃ (s : State), s.upd.handoff = true ∧ s.upd.copied = true ∧ s.upd.rolledBack = true) ∧
    (∃ (s : State), s.upd.sagReset = false) ∧
    (∃ (s : State), s.upd.sagReset = true) ∧
    (∃ (s : State) (u : Fin 2), (s.upd.roll ≠ Rollout.staging ∨ s.sys.mgpAway = true ∨ s.prl.owner = false ∨ s.stagingOn u.val = true ∨
      s.hasFwSlot u.val = false ∨ List.find? (fun n => (s.nl n).unit == u.val && s.rollWants n && !s.rollStaged n) (List.range 48) =
      none)) ∧
    (∃ (s : State) (u : Fin 2) (n : Nat), s.upd.roll = Rollout.staging ∧ s.sys.mgpAway = false ∧ s.prl.owner = true ∧ s.stagingOn u.val =
      false ∧ s.hasFwSlot u.val = true ∧ (List.find? (fun n => (s.nl n).unit == u.val && s.rollWants n && !s.rollStaged n) (List.range 48)
      = some n)) ∧
    (∃ (s : State), (s.upd.roll ≠ Rollout.staging ∨ s.sys.mgpAway = true ∨ s.prl.owner = false ∨ s.rollMay = false ∨ ((List.range 48).any
      fun n => s.rollWants n && !s.rollStaged n) = true)) ∧
    (∃ (s : State) (n : Nat), s.upd.roll = Rollout.staging ∧ s.sys.mgpAway = false ∧ s.prl.owner = true ∧ s.rollMay = true ∧ (((List.range
      48).any fun n => s.rollWants n && !s.rollStaged n) = false) ∧ List.find? s.rollWants (List.range 48) = some n) :=
  ⟨⟨live, 0, by decide⟩,
   ⟨{ live with mbx.ch := [{ st := .idle, req := some ({ code := 0, tag := 0, len := 0, params := [] }) }, {}, {}, {}] }, 0,
     { code := 0, tag := 0, len := 0, params := [] }, by decide⟩,
   ⟨{ live with sys.mgpAway := false, mbx.ch := [{ st := .running, req := some ({ code := 2051, tag := 0, len := 0, params := [], resv := 1 }) }, {}, {}, {}] },
     0, { code := 2051, tag := 0, len := 0, params := [], resv := 1 }, by decide⟩,
   ⟨{ live with sys.mgpAway := false, mbx.ch := [{ st := .running, req := some ({ code := 2051, tag := 0, len := 0, params := [] }) }, {}, {}, {}] },
     0, { code := 2051, tag := 0, len := 0, params := [] }, by decide⟩,
   ⟨served 2051 [] ({ live with sys.st := .maintenance, upd.phase := 1 }), 0, [], serves_served (by decide), by decide⟩,
   ⟨{ live with upd.handoff := false }, by decide⟩,
   ⟨{ live with upd.handoff := true, upd.copied := false, sys.loaderOnly := false }, by decide⟩,
   ⟨{ live with upd.handoff := true, upd.copied := false, sys.loaderOnly := true, upd.rolledBack := false }, by decide⟩,
   ⟨{ live with upd.handoff := true, upd.copied := false, upd.rolledBack := true }, by decide⟩,
   ⟨{ live with upd.handoff := false }, by decide⟩,
   ⟨{ live with upd.handoff := true, upd.copied := true, upd.rolledBack := false }, by decide⟩,
   ⟨{ live with upd.handoff := true, upd.copied := true, upd.rolledBack := true }, by decide⟩,
   ⟨{ live with upd.sagReset := false }, by decide⟩,
   ⟨{ live with upd.sagReset := true }, by decide⟩,
   ⟨live, 0, by decide⟩,
   ⟨dueNow (2 * 2 ^ 24 + 2 ^ 30 + 2 * 2 ^ 84 + 2 ^ 88)
     ({ live with upd.roll := .staging, sys.mgpAway := false, prl.owner := true, fnl.links := live.fnl.links.set 47 { st := 2, fwA := 1 } }),
     0, 47, by decide⟩,
   ⟨live, by decide⟩,
   ⟨{ live with upd.roll := .staging, sys.mgpAway := false, prl.owner := true, upd.rolled := [(47, 1)], fnl.links := live.fnl.links.set 47 { st := 2, fwA := 1 }, mea.nodes := [] },
     47, by decide⟩⟩

/-- States and operands that meet the hypotheses of clauses of UpdatesActivateRollBackAndRollOut, 2 of 4. -/
theorem test_hyp_UpdatesActivateRollBackAndRollOut_1 : ∃ (s : State) (c : Fin 4) (p : List Byte), s.Serves c 2051 p ∧ s.activateBars = 0 ∧
  s.upd.digestsOk = false :=
  ⟨served 2051 []
    ({ live with sys.st := .maintenance, upd.phase := 2, upd.man := some { id := 0, parts := [{ kind := 5, length := 0 }] } }), 0, [],
    serves_served (by decide), by decide +kernel⟩

/-- States and operands that meet the hypotheses of clauses of UpdatesActivateRollBackAndRollOut, 3 of 4. -/
theorem test_hyp_UpdatesActivateRollBackAndRollOut_2 : ∃ (s : State) (c : Fin 4) (p : List Byte), s.Serves c 2051 p ∧ s.activateBars = 0 ∧
  s.upd.digestsOk = true :=
  ⟨served 2051 [] ({ live with sys.st := .maintenance, upd.phase := 2 }), 0, [], serves_served (by decide), by decide +kernel⟩

/-- States and operands that meet the hypotheses of clauses of UpdatesActivateRollBackAndRollOut, 4 of 4. -/
theorem test_hyp_UpdatesActivateRollBackAndRollOut_3 : ∃ (s : State), s.upd.roll = Rollout.staging ∧ s.sys.mgpAway = false ∧ s.prl.owner =
  true ∧ s.rollMay = true ∧ (∀ (n : Nat), n < 48 → s.rollWants n = false) :=
  ⟨{ live with upd.roll := .staging, sys.mgpAway := false, prl.owner := true, mea.nodes := [] }, by decide +kernel⟩

/-- States and operands that meet the hypotheses of each clause of SpyholeReadsTracesAndEnds. -/
theorem test_hyp_SpyholeReadsTracesAndEnds :
    (∃ (s : State), (s.sys.mgpAway = true ∨ s.sys.st = OpState.off)) ∧
    (∃ (s : State), s.sys.mgpAway = false ∧ s.sys.st ≠ OpState.off ∧ s.sys.loaderOnly = true) ∧
    (∃ (s : State) (n : Nat), s.sag.login = some (n, Src.spyhole)) ∧
    (∃ (s : State), (∀ (n : Nat), s.sag.login ≠ some (n, Src.spyhole))) ∧
    (∃ (s : State) (n : Nat), s.sys.mgpAway = false ∧ s.sys.st ≠ OpState.off ∧ (n = 0 ∨ 64 < n)) ∧
    (∃ (s : State) (a3 : Nat) (n : Nat), s.sys.mgpAway = false ∧ s.sys.st ≠ OpState.off ∧ 1 ≤ n ∧ n ≤ 64 ∧ spyAddrBad a3 n = true) ∧
    (∃ (s : State) (a3 : Nat) (n : Nat), s.sys.mgpAway = false ∧ s.sys.st ≠ OpState.off ∧ 1 ≤ n ∧ n ≤ 64 ∧ spyAddrBad a3 n = false) ∧
    (∃ (s : State) (i : Nat) (n : Nat), s.sys.mgpAway = false ∧ s.sys.st ≠ OpState.off ∧ s.sys.loaderOnly = false ∧ (n = 0 ∨ 64 < n ∨
      65536 < i + n)) ∧
    (∃ (s : State) (i : Nat) (n : Nat) (k : Nat), s.sys.mgpAway = false ∧ s.sys.st ≠ OpState.off ∧ s.sys.loaderOnly = false ∧ k < n ∧
      Params.reserved (i + k) = true) ∧
    (∃ (s : State) (i : Nat) (n : Nat), s.sys.mgpAway = false ∧ s.sys.st ≠ OpState.off ∧ s.sys.loaderOnly = false ∧ 1 ≤ n ∧ n ≤ 64 ∧ i + n
      ≤ 65536 ∧ (∀ (k : Nat), k < n → Params.reserved (i + k) = false)) ∧
    (∃ (s : State) (g : Nat) (n : Nat), s.sys.mgpAway = false ∧ s.sys.st ≠ OpState.off ∧ s.sys.loaderOnly = false ∧ (n = 0 ∨ 16 < n ∨ 384
      < g + n)) ∧
    (∃ (s : State) (g : Nat) (n : Nat), s.sys.mgpAway = false ∧ s.sys.st ≠ OpState.off ∧ s.sys.loaderOnly = false ∧ 1 ≤ n ∧ n ≤ 16 ∧ g + n
      ≤ 384) ∧
    (∃ (s : State) (i : Nat) (n : Nat), s.sys.mgpAway = false ∧ s.sys.st ≠ OpState.off ∧ s.sys.loaderOnly = false ∧ (n = 0 ∨ 31 < n ∨
      65536 ≤ i)) ∧
    (∃ (s : State) (i : Nat) (n : Nat), s.sys.mgpAway = false ∧ s.sys.st ≠ OpState.off ∧ s.sys.loaderOnly = false ∧ 1 ≤ n ∧ n ≤ 31 ∧ i <
      65536) ∧
    (∃ (s : State) (k : Nat), s.sys.mgpAway = false ∧ s.sys.st ≠ OpState.off ∧ s.sys.loaderOnly = false ∧ s.fnl.kL = some k) ∧
    (∃ (s : State), s.sys.mgpAway = false ∧ s.sys.st ≠ OpState.off ∧ s.sys.loaderOnly = false ∧ s.fnl.kL = none) ∧
    (∃ (s : State), s.sys.mgpAway = false ∧ s.sys.st ≠ OpState.off ∧ s.sys.loaderOnly = false ∧ s.settled = true ∧ (s.sys.st =
      OpState.standby ∨ s.sys.st = OpState.isolated ∨ s.sys.st = OpState.pilot) ∧ s.sys.boPhase = BoPhase.none) ∧
    (∃ (s : State), s.sys.mgpAway = false ∧ s.sys.st ≠ OpState.off ∧ s.sys.loaderOnly = false ∧ s.settled = true ∧ (s.sys.st ≠
      OpState.standby ∧ s.sys.st ≠ OpState.isolated ∧ s.sys.st ≠ OpState.pilot ∨ s.sys.boPhase ≠ BoPhase.none)) ∧
    (∃ (s : State), s.sys.mgpAway = false ∧ s.sys.st ≠ OpState.off ∧ s.sys.loaderOnly = false ∧ s.settled = false) :=
  ⟨⟨{ live with sys.mgpAway := true }, by decide⟩,
   ⟨{ live with sys.mgpAway := false, sys.loaderOnly := true }, by decide⟩,
   ⟨{ live with sag.login := some (0, Src.spyhole) }, 0, by decide⟩,
   ⟨live, fun _ h => by cases h⟩,
   ⟨{ live with sys.mgpAway := false }, 0, by decide⟩,
   ⟨{ live with sys.mgpAway := false }, 0x40000, 1, by decide⟩,
   ⟨{ live with sys.mgpAway := false }, 0x3FF00, 64, by decide⟩,
   ⟨{ live with sys.mgpAway := false, sys.loaderOnly := false }, 0, 0, by decide⟩,
   ⟨{ live with sys.mgpAway := false, sys.loaderOnly := false }, 0, 7, 6, by decide⟩,
   ⟨{ live with sys.mgpAway := false, sys.loaderOnly := false }, 0, 6, by decide⟩,
   ⟨{ live with sys.mgpAway := false, sys.loaderOnly := false }, 0, 0, by decide⟩,
   ⟨{ live with sys.mgpAway := false, sys.loaderOnly := false }, 368, 16, by decide⟩,
   ⟨{ live with sys.mgpAway := false, sys.loaderOnly := false }, 0, 0, by decide⟩,
   ⟨{ live with sys.mgpAway := false, sys.loaderOnly := false }, 65535, 31, by decide⟩,
   ⟨{ live with sys.mgpAway := false, sys.loaderOnly := false, fnl.kL := some 0 }, 0, by decide⟩,
   ⟨{ live with sys.mgpAway := false, sys.loaderOnly := false, fnl.kL := none }, by decide⟩,
   ⟨{ live with sys.mgpAway := false, sys.loaderOnly := false, sys.st := .standby, sys.boPhase := .none }, by decide⟩,
   ⟨{ live with sys.mgpAway := false, sys.loaderOnly := false, sys.st := .connected }, by decide⟩,
   ⟨{ live with sys.mgpAway := false, sys.loaderOnly := false, sys.cmdUsed := true }, by decide⟩⟩

/-- States and operands that meet the hypotheses of each clause of SpyholeWritesOpenMaintenance. -/
theorem test_hyp_SpyholeWritesOpenMaintenance :
    (∃ (s : State), s.sys.mgpAway = false ∧ s.sys.st ≠ OpState.off ∧ s.sys.loaderOnly = false ∧ s.spyBarred = true) ∧
    (∃ (s : State), s.sys.mgpAway = false ∧ s.sys.st ≠ OpState.off ∧ s.sys.loaderOnly = false ∧ s.spy.wrote = true) ∧
    (∃ (s : State), s.sys.mgpAway = false ∧ s.sys.st ≠ OpState.off ∧ s.sys.loaderOnly = false ∧ (s.sys.st = OpState.pilot ∨ s.sys.st =
      OpState.maintenance)) ∧
    (∃ (s : State), s.sys.mgpAway = false ∧ s.sys.st ≠ OpState.off ∧ s.sys.loaderOnly = false ∧ s.spy.wrote = false ∧ s.sys.st ≠
      OpState.pilot ∧ s.sys.st ≠ OpState.maintenance ∧ s.settled = true) ∧
    (∃ (s : State), s.sys.mgpAway = false ∧ s.sys.st ≠ OpState.off ∧ s.sys.loaderOnly = false ∧ s.spy.wrote = false ∧ s.sys.st ≠
      OpState.pilot ∧ s.sys.st ≠ OpState.maintenance ∧ s.settled = false) ∧
    (∃ (s : State) (a1 : Nat), s.sys.mgpAway = false ∧ s.sys.st ≠ OpState.off ∧ s.sys.loaderOnly = false ∧ s.spyBarred = false ∧
      spyAddrBad a1 1 = true) ∧
    (∃ (s : State) (a2 : Nat) (w : Word) (v : Word) (r : State),
      ({ s.spyIn.spyWrote with sys := { s.spyIn.spyWrote.sys with accPilotWr := false } } : State).writeReg a2 w v Src.spyhole =
      Host.Outcome.next r ∧ s.sys.mgpAway = false ∧ s.sys.st ≠ OpState.off ∧ s.sys.loaderOnly = false ∧ s.spyBarred = false ∧ spyAddrBad
      a2 1 = false) ∧
    (∃ (s : State) (a2 : Nat) (w : Word) (v : Word) (e : Fault), s.sys.mgpAway = false ∧ s.sys.st ≠ OpState.off ∧ s.sys.loaderOnly = false
      ∧ s.spyBarred = false ∧ spyAddrBad a2 1 = false ∧
      ({ s.spyIn.spyWrote with sys := { s.spyIn.spyWrote.sys with accPilotWr := false } } : State).writeReg a2 w v Src.spyhole =
      Host.Outcome.fault e) ∧
    (∃ (s : State) (i : Nat) (k : Nat), s.sys.mgpAway = false ∧ s.sys.st ≠ OpState.off ∧ s.sys.loaderOnly = false ∧ s.spyBarred = false ∧
      Params.safetyPos i = some k) ∧
    (∃ (s : State) (i : Nat), s.sys.mgpAway = false ∧ s.sys.st ≠ OpState.off ∧ s.sys.loaderOnly = false ∧ s.spyBarred = false ∧
      Params.safetyPos i = none ∧ (65536 ≤ i ∨ Params.reserved i = true)) ∧
    (∃ (s : State) (i : Nat), s.sys.mgpAway = false ∧ s.sys.st ≠ OpState.off ∧ s.sys.loaderOnly = false ∧ s.spyBarred = false ∧
      Params.safetyPos i = none ∧ i < 65536 ∧ Params.reserved i = false ∧ s.sys.st = OpState.pilot) ∧
    (∃ (s : State) (i : Nat) (w : Word) (r : State), s.spyIn.spyWrote.writeSettings i [BitVec.toNat w] = Except.ok r ∧ s.sys.mgpAway =
      false ∧ s.sys.st ≠ OpState.off ∧ s.sys.loaderOnly = false ∧ s.spyBarred = false ∧ Params.safetyPos i = none ∧ i < 65536 ∧
      Params.reserved i = false ∧ s.sys.st ≠ OpState.pilot) ∧
    (∃ (s : State) (i : Nat) (w : Word) (e : HostErr), s.spyIn.spyWrote.writeSettings i [BitVec.toNat w] = Except.error e ∧ s.sys.mgpAway
      = false ∧ s.sys.st ≠ OpState.off ∧ s.sys.loaderOnly = false ∧ s.spyBarred = false ∧ Params.safetyPos i = none ∧ i < 65536 ∧
      Params.reserved i = false ∧ s.sys.st ≠ OpState.pilot) ∧
    (∃ (s : State), s.sys.mgpAway = false ∧ s.sys.st ≠ OpState.off ∧ s.sys.loaderOnly = false ∧ s.spyBarred = false ∧ s.freeChan = none) ∧
    (∃ (s : State) (c : Nat), s.sys.mgpAway = false ∧ s.sys.st ≠ OpState.off ∧ s.sys.loaderOnly = false ∧ s.spyBarred = false ∧ s.freeChan
      = some c ∧ s.mbx.long = false ∧ c < s.mbx.ch.length) ∧
    (∃ (s : State), s.sys.mgpAway = false ∧ s.sys.st ≠ OpState.off ∧ s.sys.loaderOnly = false ∧ s.spyBarred = false ∧ s.safetyState = true
      ∧ s.sag.locked = true) ∧
    (∃ (s : State) (l : List Byte), s.sys.mgpAway = false ∧ s.sys.st ≠ OpState.off ∧ s.sys.loaderOnly = false ∧ s.spyBarred = false ∧
      s.safetyState = true ∧ s.sag.locked = false ∧ s.sag.pwOk l = true) ∧
    (∃ (s : State) (l : List Byte), s.sys.mgpAway = false ∧ s.sys.st ≠ OpState.off ∧ s.sys.loaderOnly = false ∧ s.spyBarred = false ∧
      s.safetyState = true ∧ s.sag.locked = false ∧ s.sag.pwOk l = false) ∧
    (∃ (s : State), s.sys.mgpAway = false ∧ s.sys.st ≠ OpState.off ∧ s.sys.loaderOnly = false ∧ s.spyBarred = false ∧ s.safetyState = true
      ∧ s.spyLoggedIn = false) ∧
    (∃ (s : State) (b : Nat × Nat), s.sys.mgpAway = false ∧ s.sys.st ≠ OpState.off ∧ s.sys.loaderOnly = false ∧ s.spyBarred = false ∧
      s.safetyState = true ∧ s.spyLoggedIn = true ∧ s.commitBar = some b) ∧
    (∃ (s : State), s.sys.mgpAway = false ∧ s.sys.st ≠ OpState.off ∧ s.sys.loaderOnly = false ∧ s.spyBarred = false ∧ s.safetyState = true
      ∧ s.spyLoggedIn = true ∧ s.commitBar = none) ∧
    (∃ (s : State), s.sys.mgpAway = false ∧ s.sys.st ≠ OpState.off ∧ s.sys.loaderOnly = false ∧ s.spyBarred = false ∧ s.safetyState =
      false) :=
  ⟨⟨{ live with sys.mgpAway := false, sys.loaderOnly := false, sys.st := .precharge }, by decide⟩,
   ⟨{ live with sys.mgpAway := false, sys.loaderOnly := false, spy.wrote := true }, by decide⟩,
   ⟨{ live with sys.mgpAway := false, sys.loaderOnly := false, sys.st := .pilot }, by decide⟩,
   ⟨{ live with sys.mgpAway := false, sys.loaderOnly := false, spy.wrote := false }, by decide⟩,
   ⟨{ live with sys.mgpAway := false, sys.loaderOnly := false, spy.wrote := false, sys.cmdUsed := true }, by decide⟩,
   ⟨{ live with sys.mgpAway := false, sys.loaderOnly := false }, 2, by decide⟩,
   ⟨{ live with sys.mgpAway := false, sys.loaderOnly := false }, 0x10, 0, 0, _, rfl, by decide⟩,
   ⟨{ live with sys.mgpAway := false, sys.loaderOnly := false }, 0x68, 16, 0, _, ⟨by decide, by decide, by decide, by decide, by decide,
     rfl⟩⟩,
   ⟨{ live with sys.mgpAway := false, sys.loaderOnly := false }, 0x60, 0, by decide⟩,
   ⟨{ live with sys.mgpAway := false, sys.loaderOnly := false }, 6, by decide⟩,
   ⟨{ live with sys.mgpAway := false, sys.loaderOnly := false, sys.st := .pilot }, 0, by decide⟩,
   ⟨{ live with sys.mgpAway := false, sys.loaderOnly := false }, 0, 500, _, rfl, by decide⟩,
   ⟨{ live with sys.mgpAway := false, sys.loaderOnly := false }, 0, 499, .outOfRange, rfl, by decide⟩,
   ⟨{ live with sys.mgpAway := false, sys.loaderOnly := false, mbx.ch := List.replicate 4 { st := .queued } }, by decide⟩,
   ⟨{ live with sys.mgpAway := false, sys.loaderOnly := false, mbx.long := false }, 0, by decide⟩,
   ⟨{ live with sys.mgpAway := false, sys.loaderOnly := false, sag.locked := true }, by decide⟩,
   ⟨{ live with sys.mgpAway := false, sys.loaderOnly := false, sag.locked := false, sag.pw := some (0, pwDigest 0 (List.replicate 8 97)) },
     List.replicate 8 97, ⟨by decide, by decide, by decide, by decide, by decide, by decide, pwOk_self rfl⟩⟩,
   ⟨{ live with sys.mgpAway := false, sys.loaderOnly := false, sag.locked := false }, [], by decide⟩,
   ⟨{ live with sys.mgpAway := false, sys.loaderOnly := false }, by decide⟩,
   ⟨{ live with sys.mgpAway := false, sys.loaderOnly := false, sag.login := some (4, .spyhole), sag.staged := [(0x60, 200000)] }, (6,
     0x60), by decide⟩,
   ⟨{ live with sys.mgpAway := false, sys.loaderOnly := false, sag.login := some (4, .spyhole) }, by decide⟩,
   ⟨{ live with sys.mgpAway := false, sys.loaderOnly := false, sys.st := .connected }, by decide⟩⟩

/-- States and operands that meet the hypotheses of each clause of ResetLeavesTheStatedValues. -/
theorem test_hyp_ResetLeavesTheStatedValues :
    (∃ (c : Chan), c ∈ State.reset.mbx.ch) ∧
    (∃ (x : Chan), x ∈ State.reset.mbx.ch) :=
  ⟨⟨({} : Chan), by decide⟩,
   ⟨({} : Chan), by decide⟩⟩

/-- States and operands that meet the hypotheses of each clause of StepRunsTheFrontCommand. -/
theorem test_hyp_StepRunsTheFrontCommand :
    (∃ (s : State) (c : Instr) (l : List Instr), s.pending = c :: l) ∧
    (∃ (s : State), s.pending = []) :=
  ⟨⟨{ live with pending := [.spyBye] }, .spyBye, [], by decide⟩,
   ⟨live, by decide⟩⟩

/-- States and operands that meet the hypotheses of each clause of EveryCommandKeepsTheQueueAndTheNodes. -/
theorem test_hyp_EveryCommandKeepsTheQueueAndTheNodes :
    (∃ (s : State) (t : State) (c : Instr), exec c s = Host.Outcome.next t ∧ nodeOf c = none) ∧
    (∃ (s : State) (t : State) (c : Instr) (n : Fin 48) (k : Nat), exec c s = Host.Outcome.next t ∧ nodeOf c = some n ∧ k ≠ n.val) :=
  ⟨⟨live, _, .spyBye, rfl, by decide⟩,
   ⟨live, _, .nodePowerOn 0, 0, 1, rfl, by decide⟩⟩

/-- States and operands that meet the hypotheses of each clause of OnlyIsolationResetClearsTheLatch. -/
theorem test_hyp_OnlyIsolationResetClearsTheLatch : ∃ (s : State) (t : State) (c : Instr), exec c s = Host.Outcome.next t ∧ s.sag.latch =
  true :=
  ⟨{ live with sag.latch := true }, _, .spyBye, rfl, by decide⟩

/-- States and operands that meet the hypotheses of each clause of StepKeepsTheLatchSafe. -/
theorem test_hyp_StepKeepsTheLatchSafe : ∃ (s : State) (t : State), step s = Host.Outcome.next t ∧ t.sag.latch = true ∧ s.LatchSafe :=
  ⟨{ live with sag.latch := true }, _, rfl, ⟨rfl, fun _ => rfl⟩⟩

/-- States and operands that meet the hypotheses of each clause of StepKeepsTheMemoriesCanonical. -/
theorem test_hyp_StepKeepsTheMemoriesCanonical : ∃ (s : State) (t : State), step s = Host.Outcome.next t ∧ s.MemOk :=
  ⟨live, _, rfl, ⟨rfl, rfl, by decide⟩⟩

end Sys2Proof.Tests
end

/-! Isolation while the latch is clear and while it is set, and the causes of one protection cycle (R326 to R333). -/

namespace Sys2Proof.Machine

/-- R333: the latch is set, and c is the first cause since it was last clear. -/
def State.LatchedBy (s : State) (c : Nat) : Prop := s.sag.latch = true ∧ s.sag.cause = c

/-! One isolation. -/

@[simp] theorem State.sendStatus_sag_cause (s : State) : s.sendStatus.sag.cause = s.sag.cause := by
  unfold State.sendStatus
  split <;> rfl

@[simp] theorem State.logPost_phm (s : State) (src code sev : Nat) (data : List Nat) : (s.logPost src code sev data).phm = s.phm := by
  unfold State.logPost
  split
  · rfl
  · split <;> rfl

@[simp] theorem State.logPost_snapDue (s : State) (src code sev : Nat) (data : List Nat) :
    (s.logPost src code sev data).log.snapDue = s.log.snapDue := by
  unfold State.logPost
  split
  · rfl
  · split <;> rfl

theorem State.isolate_of_latch_clear {s : State} (h : s.sag.latch = false) (c : Nat) : (s.isolate c).LatchedBy c := by
  simp [State.isolate, State.LatchedBy, h]

theorem State.isolate_of_latch_set {s : State} (h : s.sag.latch = true) (c : Nat) : s.isolate c =
    (({ s with sag := s.sag.addCause c } : State).logPost 1 0x0A01 (causeSev c) [c, s.sys.st.code, 0]).post .isolation :=
  if_pos h

/-- R333: of the saggar, a cause that arises while the latch is set changes what Sag.addCause changes. -/
theorem State.isolate_sag_of_latch_set {s : State} (h : s.sag.latch = true) (c : Nat) : (s.isolate c).sag = s.sag.addCause c := by
  simp [State.isolate_of_latch_set h]

theorem Sag.mem_addCause_causes (g : Sag) (c x : Nat) : x ∈ (g.addCause c).causes ↔ x ∈ g.causes ∨ x = c := by
  unfold Sag.addCause
  by_cases hc : c ∈ g.causes
  · simpa [hc] using fun (h : x = c) => h ▸ hc
  · simp [hc]

/-! What keeps the first cause. -/

theorem State.LatchedBy.isolate {s : State} {c : Nat} (h : s.LatchedBy c) (d : Nat) : (s.isolate d).LatchedBy c := by
  unfold State.LatchedBy
  rw [State.isolate_sag_of_latch_set h.1]
  exact h

theorem State.LatchedBy.sagIsolate {s : State} {c : Nat} (h : s.LatchedBy c) (d : Nat) : (s.sagIsolate d).LatchedBy c := by
  unfold State.sagIsolate
  split
  · exact h.isolate d
  · exact h

theorem State.LatchedBy.raise {s : State} {c : Nat} (h : s.LatchedBy c) (d : Nat) : (s.raise d).LatchedBy c := by
  unfold State.raise
  split
  · exact h
  · exact h.sagIsolate d

theorem State.LatchedBy.foldl_raise {s : State} {c : Nat} (h : s.LatchedBy c) (l : List Nat) : (l.foldl State.raise s).LatchedBy c := by
  induction l generalizing s with
  | nil => exact h
  | cons d l ih => exact ih (h.raise d)

theorem State.LatchedBy.diag {s : State} {c : Nat} (h : s.LatchedBy c) (k : Nat) (bad : Bool) : (s.diag k bad).LatchedBy c := h

theorem State.LatchedBy.diagFail {s : State} {c : Nat} (h : s.LatchedBy c) (k : Nat) : (s.diagFail k).LatchedBy c := by
  unfold State.diagFail
  split
  · exact (h.diag k true).isolate 0x11
  · exact h

theorem State.LatchedBy.tickDiag {s : State} {c : Nat} (h : s.LatchedBy c) (k : Nat) (bad : Bool) : (s.tickDiag k bad).LatchedBy c := by
  unfold State.tickDiag
  split
  · split
    · exact h
    · exact h.diagFail k
  · exact h.diag k false

theorem State.LatchedBy.sf4 {s : State} {c : Nat} (h : s.LatchedBy c) : s.sf4.LatchedBy c := by
  unfold State.sf4
  dsimp only
  split
  · exact h
  · split
    · apply State.LatchedBy.raise
      exact h
    · exact h

/-! What sets the latch of a running saggar. -/

@[simp] theorem State.diag_sagLive (s : State) (k : Nat) (bad : Bool) : (s.diag k bad).sagLive = s.sagLive := rfl

theorem State.raise_of_latch_clear {s : State} (hl : s.sagLive = true) (h : s.sag.latch = false) (c : Nat) : (s.raise c).LatchedBy c := by
  simpa [State.raise, State.sagIsolate, h, hl] using State.isolate_of_latch_clear h c

/-- R333: of the causes raised in turn from a clear latch, the first is the one that SAG_ISO_CAUSE holds. -/
theorem State.foldl_raise_of_latch_clear {s : State} (hl : s.sagLive = true) (h : s.sag.latch = false) (c : Nat) (l : List Nat) :
    ((c :: l).foldl State.raise s).LatchedBy c :=
  (State.raise_of_latch_clear hl h c).foldl_raise l

/-- R328: a diagnostic that passes makes none fail. -/
theorem State.diag_passes_diagBad {s : State} (hd : s.sag.diagBad = []) (k : Nat) : (s.diag k false).sag.diagBad = [] := by
  simp [State.diag, hd]

theorem State.tickDiag_passes (s : State) (k : Nat) : s.tickDiag k false = s.diag k false := rfl

/-- R328: a diagnostic that did not fail before and fails now isolates with cause 0x11. -/
theorem State.tickDiag_of_latch_clear {s : State} (hl : s.sagLive = true) (h : s.sag.latch = false) {k : Nat} (hk : k ∉ s.sag.diagBad) :
    (s.tickDiag k true).LatchedBy 0x11 := by
  simpa [State.tickDiag, State.diagFail, hk, hl] using State.isolate_of_latch_clear (s := s.diag k true) h 0x11

/-! The causes of one cycle. -/

theorem sublist_singleton_of_ite (b : Bool) (c : Nat) : (if b then [c] else []).Sublist [c] := by
  cases b <;> simp

/-- R328, R330, R334, R342: the causes that a cycle finds are among six, in the order of their codes. -/
theorem State.cycleCauses_sublist (s : State) : s.cycleCauses.Sublist [3, 4, 7, 8, 9, 0x13] :=
  have one := sublist_singleton_of_ite
  (((((one _ 3).append (one _ 4)).append (one _ 7)).append (one _ 8)).append (one _ 9)).append (one _ 0x13)

theorem State.cycleCauses_ascend (s : State) : s.cycleCauses.Pairwise (· < ·) :=
  List.Pairwise.sublist s.cycleCauses_sublist (by decide)

/-- R328: 0x11 is the diagnostics' own cause. -/
theorem State.ne_diagnostic_of_mem_cycleCauses {s : State} {c : Nat} (h : c ∈ s.cycleCauses) : c ≠ 0x11 := by
  rintro rfl
  exact absurd (s.cycleCauses_sublist.subset h) (by decide)

theorem filter_lt_eq_nil {l : List Nat} {n : Nat} (h : ∀ x ∈ l, n < x) : l.filter (· < n) = [] := by
  simpa using fun x hx => Nat.le_of_lt (h x hx)

/-! A cycle of a running saggar that completes. -/

/-- R326, R328, R330: the state on which a cycle that completes decides its causes. -/
def State.cycleStart (s : State) (m : TickIn) : State :=
  { s with sag := { s.sag with
      shuntHist := (m.shunt :: s.sag.shuntHist).take (s.safN P.sagSf4T * 8192 / 1000)
      tUsedAge := if s.up 11 then 0 else s.sag.tUsedAge + 1
      tUsed := if s.up 11 then s.thm.tUsed else s.sag.tUsed
      goodCycles := min 8192 (s.sag.goodCycles + 1), lost := min 63 s.lostCount, apart := s.sag.apartNow m } }

/-- R328: the diagnostics of a cycle: the lockstep passes, and the comparators of the loop and of the interlock are judged. -/
def State.cycleDiag (s : State) (far : Nat × Nat) : State :=
  ((s.diag 0 false).tickDiag 4 (decide (82 ≤ far.1))).tickDiag 5 (decide (82 ≤ far.2))

@[simp] theorem State.cycleStart_sagLive (s : State) (m : TickIn) : (s.cycleStart m).sagLive = s.sagLive := rfl

@[simp] theorem State.cycleStart_sag_latch (s : State) (m : TickIn) : (s.cycleStart m).sag.latch = s.sag.latch := rfl

@[simp] theorem State.cycleStart_sag_diagBad (s : State) (m : TickIn) : (s.cycleStart m).sag.diagBad = s.sag.diagBad := rfl

/-- R326: what a cycle records as it starts is no reading that its causes rest on. -/
theorem State.cycleStart_cycleCauses (s : State) (m : TickIn) : (s.cycleStart m).cycleCauses = s.cycleCauses := rfl

theorem State.protect_of_cycleOk {s : State} {m : TickIn} (hl : s.sagLive = true) (hm : m.cycleOk = true) : s.protect m =
    ((s.cycleCauses.filter (0x11 < ·)).foldl State.raise
      (((s.cycleCauses.filter (· < 0x11)).foldl State.raise (s.cycleStart m)).cycleDiag (s.sag.apartNow m))).sf4 := by
  have live : ¬ (!s.sagLive) = true := by simp [hl]
  have complete : ¬ (!m.cycleOk) = true := by simp [hm]
  rw [← s.cycleStart_cycleCauses m]
  exact (if_neg live).trans (if_neg complete)

theorem State.LatchedBy.cycleDiag {s : State} {c : Nat} (h : s.LatchedBy c) (far : Nat × Nat) : (s.cycleDiag far).LatchedBy c :=
  ((h.diag 0 false).tickDiag 4 _).tickDiag 5 _

/-- R328: comparators that have not been apart for 82 ticks leave the latch. -/
theorem State.cycleDiag_passes {s : State} {far : Nat × Nat} (h : far.1 < 82 ∧ far.2 < 82) :
    s.cycleDiag far = ((s.diag 0 false).diag 4 false).diag 5 false := by
  unfold State.cycleDiag
  rw [decide_eq_false (Nat.not_le_of_lt h.1), decide_eq_false (Nat.not_le_of_lt h.2), State.tickDiag_passes, State.tickDiag_passes]

/-- R328: comparators of the loop or of the interlock that have been apart for 82 ticks isolate with cause 0x11. -/
theorem State.cycleDiag_of_latch_clear {s : State} {far : Nat × Nat} (hl : s.sagLive = true) (h : s.sag.latch = false)
    (hd : s.sag.diagBad = []) (hf : 82 ≤ far.1 ∨ 82 ≤ far.2) : (s.cycleDiag far).LatchedBy 0x11 := by
  have h0 := State.diag_passes_diagBad hd 0
  unfold State.cycleDiag
  by_cases h1 : 82 ≤ far.1
  · rw [decide_eq_true h1]
    exact (State.tickDiag_of_latch_clear (by simpa using hl) (by simpa using h) (by simp [h0])).tickDiag 5 _
  · have h4 := State.diag_passes_diagBad h0 4
    rw [decide_eq_false h1, decide_eq_true (hf.resolve_left h1), State.tickDiag_passes]
    exact State.tickDiag_of_latch_clear (by simpa using hl) (by simpa using h) (by simp [h4])

/-- R333: a cause below 0x11 that is the lowest of its cycle is the first. -/
theorem State.protect_of_low_cause {s : State} {m : TickIn} {c : Nat} {l : List Nat} (hl : s.sagLive = true) (hm : m.cycleOk = true)
    (h : s.sag.latch = false) (hc : s.cycleCauses = c :: l) (low : c < 0x11) : (s.protect m).LatchedBy c := by
  rw [State.protect_of_cycleOk hl hm, hc, List.filter_cons_of_pos (by simpa using low)]
  exact (((State.foldl_raise_of_latch_clear (by simpa using hl) (by simpa using h) c _).cycleDiag _).foldl_raise _).sf4

/-- R333: a cause above 0x11 that is the lowest of its cycle is the first where no diagnostic fails. -/
theorem State.protect_of_high_cause {s : State} {m : TickIn} {c : Nat} {l : List Nat} (hl : s.sagLive = true) (hm : m.cycleOk = true)
    (h : s.sag.latch = false) (hc : s.cycleCauses = c :: l) (high : 0x11 < c)
    (near : (s.sag.apartNow m).1 < 82 ∧ (s.sag.apartNow m).2 < 82) : (s.protect m).LatchedBy c := by
  have all : ∀ x ∈ c :: l, 0x11 < x := by
    have asc := hc ▸ s.cycleCauses_ascend
    exact List.forall_mem_cons.2 ⟨high, fun x hx => Nat.lt_trans high (List.rel_of_pairwise_cons asc hx)⟩
  rw [State.protect_of_cycleOk hl hm, hc, filter_lt_eq_nil all, List.filter_cons_of_pos (by simpa using high), List.foldl_nil,
    State.cycleDiag_passes near]
  exact (State.foldl_raise_of_latch_clear (by simpa using hl) (by simpa using h) c _).sf4

/-- R328, R333: with every other cause of the cycle above 0x11, the failed diagnostic is the first. -/
theorem State.protect_of_comparators_apart {s : State} {m : TickIn} (hl : s.sagLive = true) (hm : m.cycleOk = true)
    (h : s.sag.latch = false) (high : ∀ x ∈ s.cycleCauses, 0x11 < x)
    (far : 82 ≤ (s.sag.apartNow m).1 ∨ 82 ≤ (s.sag.apartNow m).2) (hd : s.sag.diagBad = []) : (s.protect m).LatchedBy 0x11 := by
  rw [State.protect_of_cycleOk hl hm, filter_lt_eq_nil high, List.foldl_nil]
  exact ((State.cycleDiag_of_latch_clear (by simpa using hl) (by simpa using h) (by simpa using hd) far).foldl_raise _).sf4

/-- Settles O32: of the causes of a cycle the lowest is raised first (R328, R333), and each later one meets a latch that is set. -/
theorem laterCausesChangeNoOutput : Obligations.LaterCausesChangeNoOutput := by
  unfold Obligations.LaterCausesChangeNoOutput
  intro s c
  refine ⟨fun h => State.isolate_of_latch_clear h c, s.cycleCauses_ascend, ?_, ?_, fun h => State.isolate_of_latch_set h c, ?_⟩
  · intro m l hl hm h hc low
    rcases low with low | near
    · exact State.protect_of_low_cause hl hm h hc low
    · have hne : c ≠ 0x11 := State.ne_diagnostic_of_mem_cycleCauses (s := s) (by simp [hc])
      rcases Nat.lt_or_gt_of_ne hne with low | high
      · exact State.protect_of_low_cause hl hm h hc low
      · exact State.protect_of_high_cause hl hm h hc high near
  · intro m hl hm h high far hd
    exact State.protect_of_comparators_apart hl hm h high far hd
  · intro h
    rw [State.isolate_sag_of_latch_set h]
    refine ⟨h, rfl, (Sag.mem_addCause_causes ..).2 (.inr rfl), fun x hx => (Sag.mem_addCause_causes ..).2 (.inl hx), rfl, rfl, ?_, rfl, rfl,
      ?_, State.isolate_sys_st s c⟩
    · rw [State.isolate_of_latch_set h, State.post_phm, State.logPost_phm]
    · rw [State.isolate_of_latch_set h, State.post_log, State.logPost_snapDue]

end Sys2Proof.Machine

/-! Triple voting: the vote of three copies, and the correction of a housekeeping tick (R425, R426). -/

namespace Sys2Proof.Machine

/-! The vote of three copies. -/

theorem bitOf_eq_testBit (w i : Nat) : bitOf w i = w.testBit i := by
  rw [Nat.testBit_eq_decide_div_mod_eq]
  rfl

/-- R425: a bit of the vote is set where two copies or more have it set. -/
theorem Tv.bitOf_vote (t : Tv) (i : Nat) :
    bitOf t.vote i = ((bitOf t.c0 i && bitOf t.c1 i) || (bitOf t.c0 i && bitOf t.c2 i) || (bitOf t.c1 i && bitOf t.c2 i)) := by
  simp only [bitOf_eq_testBit, Tv.vote, Nat.testBit_or, Nat.testBit_and]

/-- R425: the copies count alike. -/
theorem Tv.vote_rotate (a b c : Nat) : (⟨a, b, c⟩ : Tv).vote = (⟨b, c, a⟩ : Tv).vote := by
  rw [Tv.vote, Tv.vote, Nat.and_comm b a, Nat.and_comm c a, Nat.or_assoc (b &&& c), Nat.or_comm (b &&& c)]

/-- R425: copies 0 and 1 that agree decide the vote. -/
theorem Tv.vote_of_c0_eq_c1 (v x : Nat) : (⟨v, v, x⟩ : Tv).vote = v := by
  refine Nat.eq_of_testBit_eq fun i => ?_
  simp only [Tv.vote, Nat.testBit_or, Nat.testBit_and]
  cases v.testBit i <;> simp

/-- R425: copies 0 and 2 that agree decide the vote. -/
theorem Tv.vote_of_c0_eq_c2 (v x : Nat) : (⟨v, x, v⟩ : Tv).vote = v :=
  (Tv.vote_rotate v v x).symm.trans (Tv.vote_of_c0_eq_c1 v x)

/-- R425: copies 1 and 2 that agree decide the vote. -/
theorem Tv.vote_of_c1_eq_c2 (v x : Nat) : (⟨x, v, v⟩ : Tv).vote = v :=
  (Tv.vote_rotate x v v).trans (Tv.vote_of_c0_eq_c1 v x)

@[simp] theorem Tv.vote_put (v : Nat) : (Tv.put v).vote = v := Tv.vote_of_c0_eq_c1 v v

@[simp] theorem Tv.agree_put (v : Nat) : (Tv.put v).agree = true := by
  simp [Tv.put, Tv.agree]

/-! The voted words and their addresses. -/

theorem map_fst_indexed {α : Type} (l : List α) : (indexed l).map Prod.fst = List.range l.length :=
  List.map_fst_zip (by simp)

theorem State.tvWords_addresses (s : State) : s.tvWords.map (fun x => x.1) =
    [0x68, 0x4400, 0x8000, 0x8160, 0x8164, 0x8400] ++ (List.range s.sag.pmir.length).map (fun k => 0x3C100 + 4 * k) := by
  rw [← map_fst_indexed s.sag.pmir, State.tvWords, List.map_append, List.map_map, List.map_map]
  rfl

/-! The counts of the corrections. -/

/-- R425: each correction of a list of words counts once, saturating. -/
theorem Sys.foldl_fixed_tvFix (l : List (Nat × Tv)) (y : Sys) :
    (l.foldl (fun y x => y.fixed x.1) y).tvFix = l.foldl (fun n _ => incSat 16 n) y.tvFix :=
  (List.foldl_hom Sys.tvFix fun _ _ => rfl).symm

/-- R425: after the corrections of a list of words SYS_TV_LAST holds the address of the last one. -/
theorem Sys.foldl_fixed_tvLast (l : List (Nat × Tv)) (y : Sys) :
    (l.foldl (fun y x => y.fixed x.1) y).tvLast = (l.getLast?.map (fun x => x.1)).getD y.tvLast := by
  induction l generalizing y with
  | nil => rfl
  | cons x l ih =>
    calc (l.foldl (fun y x => y.fixed x.1) (y.fixed x.1)).tvLast
      _ = (l.getLast?.map (fun x => x.1)).getD x.1 := ih (y.fixed x.1)
      _ = ((x :: l).getLast?.map (fun x => x.1)).getD y.tvLast := by
        rw [List.getLast?_cons, Option.map_some, Option.getD_some, Option.getD_map]

/-- R425: SYS_TV_FIX counts once for each word whose copies disagreed. -/
theorem State.tvCorrect_sys_tvFix (s : State) : s.tvCorrect.sys.tvFix =
    (s.tvWords.filter (fun x => !x.2.agree)).foldl (fun n _ => incSat 16 n) s.sys.tvFix :=
  Sys.foldl_fixed_tvFix _ s.sys

/-- R425: SYS_TV_LAST holds the address of the last word, by ascending address, whose copies disagreed (log entry 38). -/
theorem State.tvCorrect_sys_tvLast (s : State) : s.tvCorrect.sys.tvLast =
    (((s.tvWords.filter (fun x => !x.2.agree)).getLast?).map (fun x => x.1)).getD s.sys.tvLast :=
  Sys.foldl_fixed_tvLast _ s.sys

/-! The tick outside OFF. -/

/-- R18: with no reset due, the tick does its work and then serves the coils. -/
theorem exec_housekeepingTick_of_no_reset {s : State} (m : TickIn) (on : s.sys.st ≠ .off) (stays : s.resetGoes = false) :
    exec (.housekeepingTick m) s = .next (s.tickWork m).coilService :=
  (if_neg on).trans (if_neg (by simp [stays]))

/-- R54, R66: a tick at which a reset is due corrects the voted words and resets the module. -/
theorem exec_housekeepingTick_of_reset {s : State} (m : TickIn) (on : s.sys.st ≠ .off) (goes : s.resetGoes = true) :
    exec (.housekeepingTick m) s = .next (s.tickCounts.tvCorrect.moduleReset s.sys.resetDue) :=
  (if_neg on).trans (if_pos goes)

/-- Settles O45: the vote is the majority bit by bit (R425), and the tick corrects and counts the voted words before its other work. -/
theorem tripleVotesMask : Obligations.TripleVotesMask := by
  unfold Obligations.TripleVotesMask
  refine ⟨fun a b c => Tv.bitOf_vote ⟨a, b, c⟩,
    fun v x => ⟨Tv.vote_of_c0_eq_c1 v x, Tv.vote_of_c0_eq_c2 v x, Tv.vote_of_c1_eq_c2 v x⟩,
    fun v => ⟨rfl, Tv.vote_put v, Tv.agree_put v⟩, fun s => ?_, fun s m on stays => ?_, fun s m => exec_housekeepingTick_of_reset m⟩
  · exact ⟨rfl, rfl, rfl, rfl, rfl, s.tvWords_addresses, rfl, s.tvCorrect_sys_tvFix, s.tvCorrect_sys_tvLast, rfl⟩
  · exact ⟨_, rfl, exec_housekeepingTick_of_no_reset m on stays⟩

end Sys2Proof.Machine

namespace Sys2Proof.Machine

/-! One step of the block and the state of a power-on reset (R15; log entries 1 and 10). -/

theorem State.rest_of_cons {s : State} {c : Instr} {l : List Instr} (h : s.pending = c :: l) : s.rest = { s with pending := l } := by
  rw [State.rest, h, List.drop_one, List.tail_cons]

/-- Log entry 1: with a command at the front a step runs it on the state that keeps the rest. -/
theorem step_of_cons {s : State} {c : Instr} {l : List Instr} (h : s.pending = c :: l) : step s = exec c { s with pending := l } := by
  rw [step, h, ← State.rest_of_cons h]

/-- Log entry 1: with no command waiting the block idles. -/
theorem step_of_nil {s : State} (h : s.pending = []) : step s = .next s := by
  rw [step, h]

/-- Settles O56: the step's own equations, for a command at the front and for an empty queue; no word spells a command. -/
theorem stepRunsTheFrontCommand : Obligations.StepRunsTheFrontCommand := by
  unfold Obligations.StepRunsTheFrontCommand
  exact ⟨fun s c => step_of_cons rfl, fun s c l h => step_of_cons h, fun s h => step_of_nil h, fun s n w => ⟨rfl, rfl⟩⟩

/-- Log entry 10: right after a reset every mailbox channel is untouched. -/
theorem mem_reset_channels {c : Chan} (h : c ∈ State.reset.mbx.ch) : c = {} := List.eq_of_mem_replicate h

theorem State.reset_memOk : State.reset.MemOk :=
  ⟨rfl, rfl, fun c h => mem_reset_channels h ▸ ⟨rfl, rfl⟩⟩

theorem State.reset_latchSafe : State.reset.LatchSafe := fun _ => rfl

/-- Settles O55: each value is the default of its field, and the two invariants hold of the defaults. -/
theorem resetLeavesTheStatedValues : Obligations.ResetLeavesTheStatedValues := by
  unfold Obligations.ResetLeavesTheStatedValues
  exact ⟨rfl, rfl, rfl, rfl, rfl, rfl, fun c h => mem_reset_channels h ▸ ⟨rfl, rfl, rfl⟩, rfl, rfl, rfl, rfl, rfl,
    State.reset_latchSafe, State.reset_memOk⟩

end Sys2Proof.Machine

/-! The control engine: its commands, its queue of set points, its limits and its duties (R275 to R305). -/

namespace Sys2Proof.Machine

/-! The commands (R279, R284, R297, R429). -/

theorem execCtlMode_of_lt {w : Word} (h : w.toNat < 3) (s : State) : execCtlMode w s = s.ownerWrite 3 (.next { s with ctl := { s.ctl with
    mode := Tv.put w.toNat, modeAct := if s.dispatching then s.ctl.modeAct else w.toNat } }) := by
  have h4 : ¬ 4 ≤ w.toNat := by omega
  have h3 : w.toNat ≠ 3 := by omega
  simp only [execCtlMode, if_neg h4, if_neg h3]
  cases s.dispatching <;> rfl

/-- The commands of the control engine that are an owner's writes to its registers. -/
def ctlWrites (b : Bool) (w v : Word) : List Instr := [.coefHold b, .ctlCmdI w, .ctlCmdP w, .ctlCmdV w, .ctlMode v]

theorem exec_ctlWrites {c : Instr} {b : Bool} {w v : Word} (h : c ∈ ctlWrites b w v) (hv : v.toNat < 3) (s : State) :
    ∃ o, exec c s = s.ownerWrite 3 o := by
  simp only [ctlWrites, List.mem_cons, List.not_mem_nil, or_false] at h
  rcases h with rfl | rfl | rfl | rfl | rfl
  case inr.inr.inr.inr => exact ⟨_, execCtlMode_of_lt hv s⟩
  all_goals exact ⟨_, rfl⟩

/-- Settles O23: each command is an owner's write to PD3, and CTL_MODE is stopped by its operand before it. -/
theorem commandsOfTheControlEngine : Obligations.CommandsOfTheControlEngine := by
  unfold Obligations.CommandsOfTheControlEngine
  intro s
  refine ⟨fun w up on hw => ?_, fun w hw => ?_, fun w hw => if_pos hw, fun w up on => ⟨?_, ?_, ?_⟩, fun b up on => ?_, fun up => ?_,
    fun c b w v up pilot hv hc => ?_, fun c b w v down hv hc => ?_⟩
  · exact (execCtlMode_of_lt hw s).trans (State.ownerWrite_up _ up on)
  · exact (if_neg (by omega)).trans (if_pos hw)
  · exact State.ownerWrite_up _ up on
  · exact State.ownerWrite_up _ up on
  · exact State.ownerWrite_up _ up on
  · exact State.ownerWrite_up _ up on
  · exact State.hostWrite_up _ up
  · obtain ⟨o, e⟩ := exec_ctlWrites (b := b) (w := w) (by simpa [ctlWrites] using hc) hv s
    rw [e, State.ownerWrite_pilot o up pilot]
  · by_cases hl : c = .coefLoad
    · subst hl
      exact State.hostWrite_down _ down
    · obtain ⟨o, e⟩ := exec_ctlWrites (b := b) (w := w) (by simpa [ctlWrites, hl] using hc) hv s
      rw [e]
      exact State.hostWrite_down _ down

/-! Set points (R284, R285). -/

@[simp] theorem insertCmd_length (now : Nat) (c : SetCmd) (l : List SetCmd) : (insertCmd now c l).length = l.length + 1 := by
  induction l with
  | nil => rfl
  | cons x l ih =>
    unfold insertCmd
    split
    · rfl
    · rw [List.length_cons, ih, List.length_cons]

theorem State.queuePdu_of_not_takes {s : State} (h : s.takesCommands = false) (now apply mode : Nat) (v : Int) :
    s.queuePdu now apply mode v = s.ignore := if_pos (by simp [h])

theorem State.queuePdu_only (s : State) (now apply mode : Nat) (v : Int) :
    s.queuePdu now apply mode v = { s with ctl := (s.queuePdu now apply mode v).ctl } := by
  unfold State.queuePdu
  dsimp only
  repeat' split
  all_goals rfl

/-- R285: what a PDU that is taken does to the control engine: it replaces those of equal time, finds room, or meets a full queue, which
drops its last command or the new one. -/
theorem State.queuePdu_cases {s : State} (ht : s.takesCommands = true) (now apply mode : Nat) (v : Int) :
    ∃ c a n p o l d, (s.queuePdu now apply mode v).ctl =
        { s.ctl with arrivals := a, lateCnt := n, applied := p, late := o, queue := l, dropCnt := d } ∧
      n = (if reached now apply = true then incSat 16 s.ctl.lateCnt else s.ctl.lateCnt) ∧
      ((l = insertCmd now c (s.ctl.queue.filter (fun x => x.apply != apply)) ∧
          (s.ctl.queue.filter (fun x => x.apply != apply)).length < s.ctl.queue.length ∧ d = s.ctl.dropCnt) ∨
        (l = insertCmd now c s.ctl.queue ∧ s.ctl.queue.length < 4 ∧ d = s.ctl.dropCnt) ∨
        (4 ≤ s.ctl.queue.length ∧ d = incSat 16 s.ctl.dropCnt ∧ (l = insertCmd now c s.ctl.queue.dropLast ∨ l = s.ctl.queue))) := by
  unfold State.queuePdu
  rw [if_neg (by simp [ht])]
  dsimp only
  split
  · exact ⟨_, _, _, _, _, _, _, rfl, rfl, .inl ⟨rfl, ‹_›, rfl⟩⟩
  · split
    · exact ⟨_, _, _, _, _, _, _, rfl, rfl, .inr (.inl ⟨rfl, ‹_›, rfl⟩)⟩
    · rename_i full
      split
      · split
        · exact ⟨_, _, _, _, _, _, _, rfl, rfl, .inr (.inr ⟨Nat.le_of_not_lt full, rfl, .inl rfl⟩)⟩
        · exact ⟨{ apply := apply, mode := mode, value := v, arr := 0 }, _, _, _, _, _, _, rfl, rfl, .inr (.inr ⟨Nat.le_of_not_lt full, rfl, .inr rfl⟩)⟩
      · rename_i e
        exact absurd (by rw [List.getLast?_eq_none_iff.1 e]; decide) full

/-- R285: no PDU makes a queue of at most four longer than four. -/
theorem State.queuePdu_length {s : State} (h : s.ctl.queue.length ≤ 4) (now apply mode : Nat) (v : Int) :
    (s.queuePdu now apply mode v).ctl.queue.length ≤ 4 := by
  cases ht : s.takesCommands with
  | false =>
    rw [State.queuePdu_of_not_takes ht]
    exact h
  | true =>
    obtain ⟨c, a, n, p, o, l, d, e, -, hl⟩ := s.queuePdu_cases ht now apply mode v
    rw [e]
    rcases hl with ⟨rfl, hlt, -⟩ | ⟨rfl, hlt, -⟩ | ⟨-, -, rfl | rfl⟩
    · rw [insertCmd_length]
      omega
    · rw [insertCmd_length]
      omega
    · rw [insertCmd_length, List.length_dropLast]
      omega
    · exact h

/-- R285: no command of equal time waits. -/
theorem filter_apply_of_forall_ne {l : List SetCmd} {t : Nat} (h : ∀ x ∈ l, x.apply ≠ t) : l.filter (fun x => x.apply != t) = l :=
  List.filter_eq_self.2 fun x hx => by simpa using h x hx

/-- R285: a full queue in which no command has the time of the new one drops one command, the new or the last. -/
theorem State.queuePdu_of_full {s : State} (ht : s.takesCommands = true) (h : s.ctl.queue.length = 4) {apply : Nat}
    (hne : ∀ x ∈ s.ctl.queue, x.apply ≠ apply) (now mode : Nat) (v : Int) :
    (s.queuePdu now apply mode v).ctl.dropCnt = incSat 16 s.ctl.dropCnt ∧ (s.queuePdu now apply mode v).ctl.queue.length = 4 := by
  obtain ⟨c, a, n, p, o, l, d, e, -, hl⟩ := s.queuePdu_cases ht now apply mode v
  rw [e]
  rcases hl with ⟨-, hlt, -⟩ | ⟨-, hlt, -⟩ | ⟨-, rfl, rfl | rfl⟩
  · rw [filter_apply_of_forall_ne hne] at hlt
    omega
  · omega
  · exact ⟨rfl, by rw [insertCmd_length, List.length_dropLast, h]⟩
  · exact ⟨rfl, h⟩

/-- R285: a PDU whose time is reached counts as late. -/
theorem State.queuePdu_of_late {s : State} (ht : s.takesCommands = true) {now apply : Nat} (hr : reached now apply = true) (mode : Nat) (v : Int) :
    (s.queuePdu now apply mode v).ctl.lateCnt = incSat 16 s.ctl.lateCnt := by
  obtain ⟨c, a, n, p, o, l, d, e, hn, -⟩ := s.queuePdu_cases ht now apply mode v
  rw [e]
  exact hn.trans (if_pos hr)

theorem clampI_mem {lo hi : Int} (h : lo ≤ hi) (i : Int) : lo ≤ clampI lo hi i ∧ clampI lo hi i ≤ hi := by
  unfold clampI
  split
  · omega
  · split <;> omega

/-- Settles O24: R285's cases of a PDU that arrives, each a lemma on State.queuePdu. -/
theorem setPointsQueueUnderR285 : Obligations.SetPointsQueueUnderR285 := by
  unfold Obligations.SetPointsQueueUnderR285
  intro s now apply mode v
  exact ⟨fun h => ⟨State.queuePdu_of_not_takes h now apply mode v, if_pos (by simp [h])⟩,
    fun h => State.queuePdu_length h now apply mode v, fun ht h hne => State.queuePdu_of_full ht h hne now mode v,
    fun ht _ hr => State.queuePdu_of_late ht hr mode v, s.queuePdu_only now apply mode v, ⟨rfl, rfl, rfl⟩,
    clampI_mem (by decide) v⟩

/-! Limits and duties (R286, R287, R290). -/

/-- R286: where no term is named, none is present. -/
theorem leastTerm_eq_none {l : List (Option Nat)} {n : Nat} (h : leastTerm l n = none) : ∀ x ∈ l, x = none := by
  induction l generalizing n with
  | nil => simp
  | cons x l ih =>
    cases x with
    | none => simpa using ih h
    | some v =>
      unfold leastTerm at h
      split at h
      · split at h <;> cases h
      · cases h

/-- R286: v with code k is the least of the terms of l, whose codes start at n, and no equal one has a lower code. -/
def IsLeast (l : List (Option Nat)) (n v k : Nat) : Prop :=
  n ≤ k ∧ l[k - n]? = some (some v) ∧ ∀ j w, l[j]? = some (some w) → v ≤ w ∧ (w = v → k ≤ n + j)

/-- R286: an absent term, or one greater than the least of those behind it, leaves it the least. -/
theorem IsLeast.cons {l : List (Option Nat)} {n v k : Nat} (h : IsLeast l (n + 1) v k) {x : Option Nat} (hx : ∀ w, x = some w → v < w) :
    IsLeast (x :: l) n v k := by
  obtain ⟨hle, hat, hmin⟩ := h
  obtain ⟨i, rfl⟩ := Nat.exists_eq_add_of_le hle
  refine ⟨by omega, ?_, fun j w hj => ?_⟩
  · rw [show n + 1 + i - n = i + 1 by omega, List.getElem?_cons_succ]
    simpa using hat
  · cases j with
    | zero =>
      have := hx w (by simpa using hj)
      omega
    | succ j =>
      have := hmin j w (by simpa using hj)
      omega

/-- R286: a term that none behind it is less than is the least. -/
theorem IsLeast.head {l : List (Option Nat)} {v : Nat} (n : Nat) (h : ∀ (j w : Nat), l[j]? = some (some w) → v ≤ w) :
    IsLeast (some v :: l) n v n := by
  refine ⟨Nat.le_refl n, by simp, fun j w hj => ?_⟩
  cases j with
  | zero =>
    have : v = w := by simpa using hj
    omega
  | succ j =>
    have := h j w (by simpa using hj)
    omega

/-- R286: the term that leastTerm names is the least. -/
theorem isLeast_of_leastTerm {l : List (Option Nat)} {n v k : Nat} (h : leastTerm l n = some (v, k)) : IsLeast l n v k := by
  induction l generalizing n v k with
  | nil => cases h
  | cons x l ih =>
    cases x with
    | none => exact (ih h).cons nofun
    | some x =>
      unfold leastTerm at h
      split at h
      · rename_i w i e
        split at h
        · rename_i hlt
          cases h
          exact (ih e).cons fun u hu => by cases hu; exact hlt
        · rename_i hge
          cases h
          refine IsLeast.head n fun j u hj => ?_
          have := ((ih e).2.2 j u hj).1
          omega
      · rename_i e
        cases h
        exact IsLeast.head n fun j u hj => by cases leastTerm_eq_none e _ (List.mem_of_getElem? hj)

/-- R286: the five terms of a direction have a least one; an absent degraded term is never it. -/
theorem State.exists_leastTerm_limTerms (s : State) (c : Bool) :
    ∃ v k, leastTerm (s.limTerms c) 0 = some (v, k) ∧ k < 5 ∧ (s.ctl.degTerm = false → k ≠ 2) := by
  obtain ⟨⟨v, k⟩, e⟩ : ∃ x, leastTerm (s.limTerms c) 0 = some x := by
    cases e : leastTerm (s.limTerms c) 0 with
    | some x => exact ⟨x, rfl⟩
    | none => cases leastTerm_eq_none e _ (List.mem_cons_self)
  obtain ⟨-, hat, -⟩ := isLeast_of_leastTerm e
  refine ⟨v, k, e, (List.getElem?_eq_some_iff.1 hat).1, fun hd hk => ?_⟩
  subst hk
  simp [State.limTerms, hd] at hat

theorem ite_min_fst_le {α : Type} (c : Prop) [Decidable c] (a b p : Nat) (x y : α) : (if c then (min a p, x) else (min b p, y)).1 ≤ p := by
  split
  · exact Nat.min_le_right a p
  · exact Nat.min_le_right b p

/-- R287: the limit in force never passes the phases term. -/
theorem State.followLim_le_phTerm (s : State) (chg : Bool) (dt : Rat) : (s.followLim chg dt).1 ≤ s.ctl.phTerm := by
  unfold State.followLim
  dsimp only
  split
  · exact Nat.le_refl _
  · exact ite_min_fst_le ..

/-- R290: a duty is a 16-bit code within its step of the code before. -/
theorem stepDuty_mem {prev : Nat} {d : Int} (hd : 0 ≤ d) (hp : prev ≤ 0xFFFF) (c : Int) :
    stepDuty prev d c ≤ 0xFFFF ∧ (prev : Int) - d ≤ stepDuty prev d c ∧ (stepDuty prev d c : Int) ≤ prev + d := by
  obtain ⟨lo, hi⟩ := clampI_mem (show (prev : Int) - d ≤ prev + d by omega) c
  unfold stepDuty
  generalize clampI ((prev : Int) - d) (prev + d) c = i at lo hi
  unfold clampI
  split
  · omega
  · split <;> omega

/-- Settles O25: the least term by recursion on the terms, the limits and the duties by their clamps. -/
theorem limitsAndDutiesKeepTheirBounds : Obligations.LimitsAndDutiesKeepTheirBounds := by
  unfold Obligations.LimitsAndDutiesKeepTheirBounds
  refine ⟨fun s c v k h => ?_, State.exists_leastTerm_limTerms, fun s dt => ⟨s.followLim_le_phTerm false dt, s.followLim_le_phTerm true dt⟩,
    fun prev d c hd hp => stepDuty_mem hd hp c⟩
  obtain ⟨-, hat, hmin⟩ := isLeast_of_leastTerm h
  exact ⟨hat, fun j w hj => ⟨(hmin j w hj).1, fun e => by simpa using (hmin j w hj).2 e⟩⟩

end Sys2Proof.Machine

/-! The arbiter of the cell state memory (R28 to R36, R38). -/

namespace Sys2Proof.Machine

/-! The turn of a class (R32). -/

/-- R32: the one whose turn it is, else the other one. -/
def firstOf (ok : Nat → Bool) (x y : Nat) : Option Nat := if ok x then some x else if ok y then some y else none

theorem Arb.turn_eq (a : Arb) (c : Nat) (ok : Nat → Bool) :
    a.turn c ok = if nth a.last c 0 = 2 * c then firstOf ok (2 * c + 1) (2 * c) else firstOf ok (2 * c) (2 * c + 1) := by
  unfold Arb.turn
  split <;> simp_all [firstOf]

theorem firstOf_some {ok : Nat → Bool} {x y r : Nat} (h : firstOf ok x y = some r) : ok r = true ∧ (r = x ∨ r = y) := by
  unfold firstOf at h
  split at h
  · cases h
    exact ⟨‹_›, .inl rfl⟩
  · split at h
    · cases h
      exact ⟨‹_›, .inr rfl⟩
    · cases h

theorem firstOf_isSome {ok : Nat → Bool} {x y : Nat} (h : ok x = true ∨ ok y = true) : ∃ r, firstOf ok x y = some r := by
  unfold firstOf
  split
  · exact ⟨x, rfl⟩
  · rename_i hx
    exact ⟨y, if_pos (h.resolve_left hx)⟩

theorem Arb.turn_some {a : Arb} {c r : Nat} {ok : Nat → Bool} (h : a.turn c ok = some r) : ok r = true ∧ (r = 2 * c ∨ r = 2 * c + 1) := by
  rw [Arb.turn_eq] at h
  split at h
  · exact (firstOf_some h).imp_right Or.symm
  · exact firstOf_some h

theorem Arb.turn_none {a : Arb} {c : Nat} {ok : Nat → Bool} (h0 : ok (2 * c) = false) (h1 : ok (2 * c + 1) = false) : a.turn c ok = none := by
  cases e : a.turn c ok with
  | none => rfl
  | some r =>
    obtain ⟨hr, rfl | rfl⟩ := Arb.turn_some e
    · exact absurd hr (by simp [h0])
    · exact absurd hr (by simp [h1])

theorem Arb.turn_isSome {a : Arb} {c : Nat} {ok : Nat → Bool} (h : ok (2 * c) = true ∨ ok (2 * c + 1) = true) : ∃ r, a.turn c ok = some r := by
  rw [Arb.turn_eq]
  split
  · exact firstOf_isSome h.symm
  · exact firstOf_isSome h

/-! The requester granted (R31, R32, R36). -/

/-- R31, R36: requester r may be granted in this round. -/
def Arb.MayGrant (a : Arb) (want : List Nat) (r : Nat) : Prop := a.eligible want r = true ∨ a.floorLow want r = true

/-- R31, R32: only a requester that may be granted is, one of the six. -/
theorem Arb.winner_some {a : Arb} {want : List Nat} {r : Nat} (h : a.winner want = some r) : r < 6 ∧ a.MayGrant want r := by
  unfold Arb.winner at h
  split at h
  · rename_i e
    cases h
    obtain ⟨ok, hr⟩ := Arb.turn_some e
    exact ⟨by omega, .inr ok⟩
  · split at h
    · rename_i e
      cases h
      obtain ⟨ok, hr⟩ := Arb.turn_some e
      exact ⟨by omega, .inl ok⟩
    · split at h
      · rename_i e
        cases h
        obtain ⟨ok, hr⟩ := Arb.turn_some e
        exact ⟨by omega, .inl ok⟩
      · obtain ⟨ok, hr⟩ := Arb.turn_some h
        exact ⟨by omega, .inl ok⟩

theorem Arb.MayGrant.wants {a : Arb} {want : List Nat} {r : Nat} (h : a.MayGrant want r) : 0 < nth want r 0 := by
  rcases h with h | h
  · simp only [Arb.eligible, Bool.and_eq_true, decide_eq_true_eq] at h
    exact h.1.1
  · simp only [Arb.floorLow, Bool.and_eq_true, decide_eq_true_eq] at h
    exact h.2

/-- R33: a high-class requester that may be granted has a grant of its quota left. -/
theorem Arb.MayGrant.below_quota {a : Arb} {want : List Nat} {r : Nat} (h : a.MayGrant want r) (hr : r < 2) :
    nth a.hq r 0 < nth a.cfg r 0 := by
  rcases h with h | h
  · simp only [Arb.eligible, Bool.and_eq_true, Bool.not_eq_true', Arb.masked, Bool.and_eq_false_iff, decide_eq_false_iff_not] at h
    omega
  · simp only [Arb.floorLow, reqClass, Bool.and_eq_true, beq_iff_eq] at h
    omega

/-- R32: in a floor round a pending low-class request is granted before every other. -/
theorem Arb.winner_of_floor {a : Arb} {want : List Nat} (hf : a.floorRound = true) (hw : 0 < nth want 4 0 ∨ 0 < nth want 5 0) :
    a.winner want = some 4 ∨ a.winner want = some 5 := by
  obtain ⟨r, e⟩ : ∃ r, a.turn 2 (a.floorLow want) = some r := Arb.turn_isSome (by simpa [Arb.floorLow, hf, reqClass] using hw)
  obtain ⟨-, rfl | rfl⟩ := Arb.turn_some e
  · exact .inl (by rw [Arb.winner, e])
  · exact .inr (by rw [Arb.winner, e])

theorem Arb.turn_floor_none {a : Arb} {want : List Nat} (h : a.floorRound = false ∨ nth want 4 0 = 0 ∧ nth want 5 0 = 0) :
    a.turn 2 (a.floorLow want) = none := by
  rcases h with h | ⟨h4, h5⟩
  · exact Arb.turn_none (by simp [Arb.floorLow, h]) (by simp [Arb.floorLow, h])
  · exact Arb.turn_none (by simp [Arb.floorLow, h4]) (by simp [Arb.floorLow, h5])

/-- R32: with no low-class request to grant first, an eligible high-class request is granted. -/
theorem Arb.winner_of_high {a : Arb} {want : List Nat} (hf : a.floorRound = false ∨ nth want 4 0 = 0 ∧ nth want 5 0 = 0)
    (he : a.eligible want 0 = true ∨ a.eligible want 1 = true) : a.winner want = some 0 ∨ a.winner want = some 1 := by
  obtain ⟨r, e⟩ : ∃ r, a.turn 0 (a.eligible want) = some r := Arb.turn_isSome he
  have hw : a.winner want = some r := by rw [Arb.winner, Arb.turn_floor_none hf, e]
  obtain ⟨-, rfl | rfl⟩ := Arb.turn_some e
  · exact .inl hw
  · exact .inr hw

/-- R32: and with no high-class one either, an eligible normal request. -/
theorem Arb.winner_of_normal {a : Arb} {want : List Nat} (hf : a.floorRound = false ∨ nth want 4 0 = 0 ∧ nth want 5 0 = 0)
    (h0 : a.eligible want 0 = false) (h1 : a.eligible want 1 = false) (he : a.eligible want 2 = true ∨ a.eligible want 3 = true) :
    a.winner want = some 2 ∨ a.winner want = some 3 := by
  obtain ⟨r, e⟩ : ∃ r, a.turn 1 (a.eligible want) = some r := Arb.turn_isSome he
  have hw : a.winner want = some r := by rw [Arb.winner, Arb.turn_floor_none hf, Arb.turn_none h0 h1, e]
  obtain ⟨-, rfl | rfl⟩ := Arb.turn_some e
  · exact .inl hw
  · exact .inr hw

/-! A round (R29, R33, R35). -/

@[simp] theorem Arb.openWindow_round (a : Arb) (cfg : List Nat) : (a.openWindow cfg).round = a.round := by
  unfold Arb.openWindow
  split <;> rfl

@[simp] theorem Arb.arbitrate_round (a : Arb) (cfg want : List Nat) : (a.arbitrate cfg want).round = (a.round + 1) % 64 := by
  rw [← a.openWindow_round cfg]
  rfl

@[simp] theorem Arb.arbitrate_cfg (a : Arb) (cfg want : List Nat) : (a.arbitrate cfg want).cfg = (a.openWindow cfg).cfg := rfl

theorem Arb.openWindow_cfg (a : Arb) (cfg : List Nat) : (a.openWindow cfg).cfg = if a.round = 0 then cfg else a.cfg := by
  unfold Arb.openWindow
  split <;> rfl

theorem Arb.arbitrate_words_le {a : Arb} {cfg want : List Nat} {r : Nat} (h : (a.openWindow cfg).winner want = some r) :
    (a.arbitrate cfg want).words ≤ nth want r 0 := by
  unfold Arb.arbitrate
  dsimp only
  rw [h]
  exact Nat.min_le_left ..

theorem Arb.arbitrate_hq_of_high {a : Arb} {cfg want : List Nat} {r : Nat} (h : (a.openWindow cfg).winner want = some r) (hr : r < 2) :
    (a.arbitrate cfg want).hq = (a.openWindow cfg).hq.modify r (· + 1) := by
  unfold Arb.arbitrate
  dsimp only
  rw [h]
  exact if_pos hr

theorem Arb.arbitrate_of_none {a : Arb} {cfg want : List Nat} (h : (a.openWindow cfg).winner want = none) :
    (a.arbitrate cfg want).words = 0 ∧ (a.arbitrate cfg want).hq = (a.openWindow cfg).hq := by
  unfold Arb.arbitrate
  dsimp only
  rw [h]
  exact ⟨rfl, rfl⟩

theorem nth_modify_succ_le (l : List Nat) (r : Nat) : nth (l.modify r (· + 1)) r 0 ≤ nth l r 0 + 1 := by
  unfold nth
  rw [List.getD_eq_getElem?_getD, List.getD_eq_getElem?_getD, List.getElem?_modify_eq]
  cases l[r]? <;> simp

/-- Settles O20: the winner by the turns of the classes (R32), its quota before the grant by R33. -/
theorem arbiterKeepsQuotasAndFloor : Obligations.ArbiterKeepsQuotasAndFloor := by
  unfold Obligations.ArbiterKeepsQuotasAndFloor
  refine ⟨fun s want hu hw => if_pos (by simp [hu, hw]), fun s want h => if_neg ?_, fun a cfg want => ⟨a.arbitrate_round cfg want,
    a.openWindow_cfg cfg, fun r h => ?_, fun r hr h => ?_, fun hf hw => ?_, fun b hb hf => ?_, Arb.arbitrate_of_none⟩⟩
  · rcases h with h | h <;> simp [h]
  · obtain ⟨hr, may⟩ := Arb.winner_some h
    exact ⟨hr, may.wants, Arb.arbitrate_words_le h⟩
  · have hlt := (Arb.winner_some h).2.below_quota hr
    have hle := nth_modify_succ_le (a.openWindow cfg).hq r
    rw [Arb.arbitrate_hq_of_high h hr, Arb.arbitrate_cfg]
    omega
  · exact Arb.winner_of_floor (by simpa [Arb.floorRound] using hf) hw
  · subst hb
    exact ⟨Arb.winner_of_high hf, Arb.winner_of_normal hf⟩

end Sys2Proof.Machine

namespace Sys2Proof.Machine
/-- A fold of updates that keep the field keeps it. -/
@[simp] theorem State.fsq_foldl {β : Type} (f : State → β → State) (l : List β) (s : State) (h : ∀ t x, (f t x).fsq = t.fsq) :
    (l.foldl f s).fsq = s.fsq := by
  induction l generalizing s with
  | nil => rfl
  | cons x l ih => rw [List.foldl_cons, ih, h]

/-- The field of a choice of states. -/
@[simp] theorem State.fsq_ite (c : Prop) [Decidable c] (a b : State) : (if c then a else b).fsq = if c then a.fsq else b.fsq := by
  split <;> rfl

/-- A fold of updates beside a value. -/
@[simp] theorem State.fsq_foldlp {α β : Type} (f : State × α → β → State × α) (l : List β) (p : State × α)
    (h : ∀ t x, (f t x).1.fsq = t.1.fsq) : (l.foldl f p).1.fsq = p.1.fsq := by
  induction l generalizing p with
  | nil => rfl
  | cons x l ih => rw [List.foldl_cons, ih, h]

/-- The field of a choice of states beside a value. -/
@[simp] theorem State.fsq_itep {α : Type} (c : Prop) [Decidable c] (a b : State × α) :
    (if c then a else b).1.fsq = if c then a.1.fsq else b.1.fsq := by
  split <;> rfl

@[simp] theorem State.logPost_fsq (s : State) (src code sev : Nat) (data : List Nat) : (State.logPost s src code sev data).fsq = s.fsq := by
  simp [State.logPost]

@[simp] theorem State.sendFrom_fsq (s : State) (p : PortId) (addr udp : Nat) (b : List Byte) : (State.sendFrom s p addr udp b).fsq = s.fsq := by
  simp [State.sendFrom]

@[simp] theorem State.sendAttn_fsq (s : State) (x : Session) (m : Attn) (p : PortId) (again : Bool) : (State.sendAttn s x m p again).fsq = s.fsq := by
  simp [State.sendAttn]

@[simp] theorem State.lostNote_fsq (s : State) (i : Nat) : (State.lostNote s i).fsq = s.fsq := by
  unfold State.lostNote
  split <;> simp

@[simp] theorem State.attnTo_fsq (s : State) (m : Attn) (i : Nat) : (State.attnTo s m i).fsq = s.fsq := by
  unfold State.attnTo
  split <;> simp

@[simp] theorem State.attn_fsq (s : State) (code sev : Nat) (data : List Nat) : (State.attn s code sev data).fsq = s.fsq := by
  simp [State.attn]

@[simp] theorem State.announce_fsq (s : State) : (State.announce s).fsq = s.fsq := by
  simp [State.announce]

@[simp] theorem State.clearSetpoints_fsq (s : State) : (State.clearSetpoints s).fsq = s.fsq := by
  simp [State.clearSetpoints]

@[simp] theorem State.syncMode_fsq (s : State) : (State.syncMode s).fsq = s.fsq := by
  simp [State.syncMode]

@[simp] theorem State.leaveSetpoints_fsq (s : State) : (State.leaveSetpoints s).fsq = s.fsq := by
  simp [State.leaveSetpoints]

@[simp] theorem State.outputsRest_fsq (s : State) : (State.outputsRest s).fsq = s.fsq := by
  unfold State.outputsRest
  split <;> simp

@[simp] theorem State.enter_fsq (s : State) (st b : OpState) : (State.enter s st b).fsq = s.fsq := by
  simp [State.enter]

@[simp] theorem State.enterEff_fsq (s : State) (st : OpState) : (State.enterEff s st).fsq = s.fsq := by
  simp [State.enterEff]

@[simp] theorem State.coilService1_fsq (s : State) (k : Nat) : (State.coilService1 s k).fsq = s.fsq := by
  simp [State.coilService1]

@[simp] theorem State.coilService_fsq (s : State) : (State.coilService s).fsq = s.fsq := by
  simp [State.coilService]

@[simp] theorem State.degStart_fsq (s : State) : (State.degStart s).fsq = s.fsq := by
  simp [State.degStart]

@[simp] theorem State.pairSend_fsq (s : State) (kind : Nat) (body : List Byte) : (State.pairSend s kind body).fsq = s.fsq := by
  simp [State.pairSend]

@[simp] theorem State.swapSend_fsq (s : State) (sub b : Nat) : (State.swapSend s sub b).fsq = s.fsq := by
  simp [State.swapSend]

@[simp] theorem State.sendStatus_fsq (s : State) : (State.sendStatus s).fsq = s.fsq := by
  simp [State.sendStatus]

@[simp] theorem State.dropOutputs_fsq (s : State) : (State.dropOutputs s).fsq = s.fsq := by
  simp [State.dropOutputs]

@[simp] theorem State.swapAbandon_fsq (s : State) : (State.swapAbandon s).fsq = s.fsq := by
  unfold State.swapAbandon
  split <;> simp

@[simp] theorem State.isolate_fsq (s : State) (c : Nat) : (State.isolate s c).fsq = s.fsq := by
  simp [State.isolate]

@[simp] theorem State.isoCatchUp_fsq (s : State) : (State.isoCatchUp s).fsq = s.fsq := by
  unfold State.isoCatchUp
  split <;> simp

@[simp] theorem State.lostCatchUp_fsq (s : State) : (State.lostCatchUp s).fsq = s.fsq := by
  simp [State.lostCatchUp]

@[simp] theorem State.degPhase_fsq (s : State) : (State.degPhase s).fsq = s.fsq := by
  simp [State.degPhase]

@[simp] theorem State.phaseFault_fsq (s : State) (p c : Nat) : (State.phaseFault s p c).fsq = s.fsq := by
  simp [State.phaseFault]

@[simp] theorem State.requestSwap_fsq (s : State) : (State.requestSwap s).fsq = s.fsq := by
  simp [State.requestSwap]

@[simp] theorem State.autoSwap_fsq (s : State) : (State.autoSwap s).fsq = s.fsq := by
  simp [State.autoSwap]

@[simp] theorem State.addPhases_fsq (s : State) (req : Nat) : (State.addPhases s req).fsq = s.fsq := by
  simp [State.addPhases]

@[simp] theorem State.loadStep_fsq (s : State) : (State.loadStep s).fsq = s.fsq := by
  simp [State.loadStep]

@[simp] theorem State.startOrdered_fsq (s : State) : (State.startOrdered s).fsq = s.fsq := by
  simp [State.startOrdered]

@[simp] theorem State.startShed_fsq (s : State) (p : Nat) : (State.startShed s p).fsq = s.fsq := by
  simp [State.startShed]

@[simp] theorem State.shedDisabled_fsq (s : State) : (State.shedDisabled s).fsq = s.fsq := by
  simp [State.shedDisabled]

@[simp] theorem State.decidePhases_fsq (s : State) : (State.decidePhases s).fsq = s.fsq := by
  unfold State.decidePhases
  dsimp only
  repeat' split
  all_goals simp

@[simp] theorem State.retarget_fsq (s : State) : (State.retarget s).fsq = s.fsq := by
  simp [State.retarget]

@[simp] theorem State.burstStart_fsq (s : State) : (State.burstStart s).fsq = s.fsq := by
  simp [State.burstStart]

@[simp] theorem State.burstStep_fsq (s : State) : (State.burstStep s).fsq = s.fsq := by
  simp [State.burstStep]

@[simp] theorem State.loopBurst_fsq (s : State) : (State.loopBurst s).fsq = s.fsq := by
  simp [State.loopBurst]

@[simp] theorem State.boundaryCounts_fsq (s : State) : (State.boundaryCounts s).fsq = s.fsq := by
  simp [State.boundaryCounts]

@[simp] theorem State.boundaryPhases_fsq (s : State) : (State.boundaryPhases s).fsq = s.fsq := by
  simp [State.boundaryPhases]

@[simp] theorem State.refBoundary_fsq (s : State) : (State.refBoundary s).fsq = s.fsq := by
  simp [State.refBoundary]

@[simp] theorem State.harnessFault_fsq (s : State) (h c : Nat) : (State.harnessFault s h c).fsq = s.fsq := by
  simp [State.harnessFault]

@[simp] theorem State.abandonTrk_fsq (s : State) (kind sev : Nat) : (State.abandonTrk s kind sev).fsq = s.fsq := by
  simp [State.abandonTrk]

@[simp] theorem State.trackStart_fsq (s : State) : (State.trackStart s).fsq = s.fsq := by
  simp [State.trackStart]

@[simp] theorem State.stopStart_fsq (s : State) (rate : Option Nat) : (State.stopStart s rate).fsq = s.fsq := by
  simp [State.stopStart]

@[simp] theorem State.dropCo3_fsq (s : State) : (State.dropCo3 s).fsq = s.fsq := by
  simp [State.dropCo3]

@[simp] theorem State.applyOuter_fsq (s : State) : (State.applyOuter s).fsq = s.fsq := by
  simp [State.applyOuter]

@[simp] theorem State.loadAtBoundary_fsq (s : State) : (State.loadAtBoundary s).fsq = s.fsq := by
  simp [State.loadAtBoundary]

@[simp] theorem State.queuePdu_fsq (s : State) (now : Nat) (apply : Nat) (mode : Nat) (v : Int) : (State.queuePdu s now apply mode v).fsq = s.fsq := by
  unfold State.queuePdu
  dsimp only
  repeat' split
  all_goals simp

@[simp] theorem State.regCommand_fsq (s : State) (m : Nat) (v : Int) : (State.regCommand s m v).fsq = s.fsq := by
  simp [State.regCommand]

@[simp] theorem State.takeCmd_fsq (s0 : State) (c : SetCmd) : (State.takeCmd s0 c).fsq = s0.fsq := by
  simp [State.takeCmd]

@[simp] theorem State.intake_fsq (s : State) (now : Nat) : (State.intake s now).fsq = s.fsq := by
  simp [State.intake]

@[simp] theorem State.limits_fsq (s : State) (dt : Rat) : (State.limits s dt).fsq = s.fsq := by
  simp [State.limits]

@[simp] theorem State.probeSuspend_fsq (s : State) : (State.probeSuspend s).fsq = s.fsq := by
  simp [State.probeSuspend]

@[simp] theorem State.applyClamp_fsq (s : State) (q : Rat) (dtNs : Nat) : (State.applyClamp s q dtNs).1.fsq = s.fsq := by
  simp [State.applyClamp]

@[simp] theorem State.holdTones_fsq (s : State) : (State.holdTones s).fsq = s.fsq := by
  simp [State.holdTones]

@[simp] theorem State.outerLoop_fsq (s : State) (q : Rat) (dtNs : Nat) : (State.outerLoop s q dtNs).fsq = s.fsq := by
  simp [State.outerLoop]

@[simp] theorem State.startMode_fsq (s : State) (m : Nat) : (State.startMode s m).fsq = s.fsq := by
  simp [State.startMode]

@[simp] theorem State.modeChange_fsq (s : State) : (State.modeChange s).fsq = s.fsq := by
  simp [State.modeChange]

@[simp] theorem State.droopStep_fsq (s : State) : (State.droopStep s).fsq = s.fsq := by
  simp [State.droopStep]

@[simp] theorem State.droop_fsq (s : State) : (State.droop s).fsq = s.fsq := by
  simp [State.droop]

@[simp] theorem State.trackTick_fsq (s : State) (dt : Rat) : (State.trackTick s dt).fsq = s.fsq := by
  simp [State.trackTick]

@[simp] theorem State.holdTick_fsq (s0 : State) (dt : Rat) : (State.holdTick s0 dt).fsq = s0.fsq := by
  simp [State.holdTick]

@[simp] theorem State.setRef_fsq (s : State) (q : Rat) (dtNs : Nat) : (State.setRef s q dtNs).fsq = s.fsq := by
  simp [State.setRef]

@[simp] theorem State.linkRef_fsq (s : State) (dtNs : Nat) : (State.linkRef s dtNs).fsq = s.fsq := by
  simp [State.linkRef]

@[simp] theorem State.calRampTick_fsq (s : State) (dtNs : Nat) (dt : Rat) : (State.calRampTick s dtNs dt).fsq = s.fsq := by
  simp [State.calRampTick]

@[simp] theorem State.dispatchEval_fsq (s : State) (now dtNs : Nat) (dt : Rat) : (State.dispatchEval s now dtNs dt).fsq = s.fsq := by
  simp [State.dispatchEval]

@[simp] theorem State.stopEval_fsq (s : State) (now dtNs : Nat) (dt : Rat) : (State.stopEval s now dtNs dt).fsq = s.fsq := by
  simp [State.stopEval]

@[simp] theorem State.outerEval_fsq (s : State) (now : Nat) (dtNs : Nat) : (State.outerEval s now dtNs).fsq = s.fsq := by
  unfold State.outerEval
  dsimp only
  repeat' split
  all_goals simp

@[simp] theorem State.missDeadline_fsq (s : State) (now : Nat) : (State.missDeadline s now).fsq = s.fsq := by
  simp [State.missDeadline]

@[simp] theorem State.tonesAt_fsq (s0 : State) (now : Nat) : (State.tonesAt s0 now).fsq = s0.fsq := by
  simp [State.tonesAt]

@[simp] theorem State.isum_fsq (s : State) : (State.isum s).fsq = s.fsq := by
  simp [State.isum]

@[simp] theorem State.innerEval_fsq (s : State) (p : Nat) (m : EvalIn) : (State.innerEval s p m).fsq = s.fsq := by
  simp [State.innerEval]

@[simp] theorem State.rampStep_fsq (s : State) (p : Nat) (m : EvalIn) : (State.rampStep s p m).fsq = s.fsq := by
  simp [State.rampStep]

@[simp] theorem State.brakeStep_fsq (s : State) (p : Nat) (m : EvalIn) : (State.brakeStep s p m).fsq = s.fsq := by
  simp [State.brakeStep]

@[simp] theorem State.deStep_fsq (s : State) (p : Nat) (m : EvalIn) : (State.deStep s p m).fsq = s.fsq := by
  simp [State.deStep]

@[simp] theorem State.issue_fsq (s : State) (p : Nat) (m : EvalIn) : (State.issue s p m).fsq = s.fsq := by
  simp [State.issue]

@[simp] theorem State.observe_fsq (s : State) (p : Nat) (m : EvalIn) (ma : Int) : (State.observe s p m ma).fsq = s.fsq := by
  simp [State.observe]

@[simp] theorem State.updatePoint_fsq (s : State) (p : Nat) (m : EvalIn) : (State.updatePoint s p m).fsq = s.fsq := by
  simp [State.updatePoint]

@[simp] theorem State.heldPoint_fsq (s0 : State) (p : Nat) (m : EvalIn) : (State.heldPoint s0 p m).fsq = s0.fsq := by
  simp [State.heldPoint]

@[simp] theorem State.ceTap_fsq (s : State) (p : Nat) (m : EvalIn) : (State.ceTap s p m).fsq = s.fsq := by
  unfold State.ceTap
  split <;> simp

@[simp] theorem State.evalWrites_fsq (s : State) (p : Nat) (m : EvalIn) : (State.evalWrites s p m).fsq = s.fsq := by
  simp [State.evalWrites]

@[simp] theorem State.unlessPilot_fsq (s t : State) (h : t.fsq = s.fsq) : (s.unlessPilot t).fsq = s.fsq := by
  unfold State.unlessPilot
  split <;> simp [h]

@[simp] theorem State.push_fsq (s : State) (scope : Nat) : (State.push s scope).fsq = s.fsq := by
  simp [State.push]

@[simp] theorem State.advanceEpoch_fsq (s : State) : (State.advanceEpoch s).fsq = s.fsq := by
  simp [State.advanceEpoch]

@[simp] theorem State.takeFc_fsq (s : State) (u : Nat) : (State.takeFc s u).fsq = s.fsq := by
  simp [State.takeFc]

@[simp] theorem State.sendEpoch_fsq (s : State) (u typ ver addr : Nat) (p : List Byte) : (State.sendEpoch s u typ ver addr p).fsq = s.fsq := by
  simp [State.sendEpoch]

@[simp] theorem State.applyBank_fsq (s : State) : (State.applyBank s).fsq = s.fsq := by
  simp [State.applyBank]

@[simp] theorem State.sendCmd_fsq (s : State) (u : Nat) (n : Nat) : (State.sendCmd s u n).fsq = s.fsq := by
  unfold State.sendCmd
  split <;> simp

@[simp] theorem State.sendReply_fsq (s : State) (u : Nat) (r0 : JoinReply) : (State.sendReply s u r0).fsq = s.fsq := by
  simp [State.sendReply]

@[simp] theorem State.sendDyn_fsq (s : State) (u : Nat) : (State.sendDyn s u).fsq = s.fsq := by
  unfold State.sendDyn
  repeat' split
  all_goals simp

@[simp] theorem State.rxCount_fsq (s : State) (u n : Nat) (k : RxFail) : (State.rxCount s u n k).fsq = s.fsq := by
  simp [State.rxCount]

@[simp] theorem State.rxAccept_fsq (s : State) (f : RxFrame) : (State.rxAccept s f).fsq = s.fsq := by
  simp [State.rxAccept]

@[simp] theorem State.kackSet_fsq (s : State) (u addr fc : Nat) : (State.kackSet s u addr fc).fsq = s.fsq := by
  simp [State.kackSet]

@[simp] theorem State.joinUnknown_fsq (s : State) (u serial : Nat) : (State.joinUnknown s u serial).fsq = s.fsq := by
  simp [State.joinUnknown]

@[simp] theorem State.queueReply_fsq (s : State) (r : JoinReply) : (State.queueReply s r).fsq = s.fsq := by
  simp [State.queueReply]

@[simp] theorem State.queueCmd_fsq (s : State) (n cmd : Nat) (params : List Nat) (chan : Option Nat) : (State.queueCmd s n cmd params chan).fsq = s.fsq := by
  simp [State.queueCmd]

@[simp] theorem State.joined_fsq (s : State) (r : JoinReply) : (State.joined s r).fsq = s.fsq := by
  simp [State.joined]

@[simp] theorem State.radioFrameEnd_fsq (s : State) : (State.radioFrameEnd s).fsq = s.fsq := by
  unfold State.radioFrameEnd
  dsimp only
  repeat' split
  all_goals simp

@[simp] theorem State.linkFrameStart_fsq (s : State) : (State.linkFrameStart s).fsq = s.fsq := by
  simp [State.linkFrameStart]

@[simp] theorem State.updEnd_fsq (s : State) : (State.updEnd s).fsq = s.fsq := by
  simp [State.updEnd]

@[simp] theorem State.updDisturbed_fsq (s : State) : (State.updDisturbed s).fsq = s.fsq := by
  simp [State.updDisturbed]

@[simp] theorem State.updFault_fsq (s : State) (src what item : Nat) : (State.updFault s src what item).fsq = s.fsq := by
  simp [State.updFault]

@[simp] theorem State.confirm_fsq (s : State) : (State.confirm s).fsq = s.fsq := by
  simp [State.confirm]

@[simp] theorem State.rollCheck_fsq (s : State) : (State.rollCheck s).fsq = s.fsq := by
  simp [State.rollCheck]

@[simp] theorem State.rollLeave_fsq (s : State) (n : Nat) : (State.rollLeave s n).fsq = s.fsq := by
  simp [State.rollLeave]

@[simp] theorem State.rollSweep_fsq (s : State) (n : Nat) : (State.rollSweep s n).fsq = s.fsq := by
  simp [State.rollSweep]

@[simp] theorem State.reportDrops_fsq (s : State) : (State.reportDrops s).fsq = s.fsq := by
  unfold State.reportDrops
  repeat' split
  all_goals simp

@[simp] theorem State.logWriteOne_fsq (s : State) : (State.logWriteOne s).fsq = s.fsq := by
  unfold State.logWriteOne
  dsimp only
  split <;> simp

@[simp] theorem State.logDrain_fsq (s : State) : (State.logDrain s).fsq = s.fsq := by
  simp [State.logDrain]

@[simp] theorem State.nvmBad_fsq (s : State) (a : Nat) : (State.nvmBad s a).fsq = s.fsq := by
  simp [State.nvmBad]

@[simp] theorem State.nvmUncorrectable_fsq (s : State) (a : Nat) : (State.nvmUncorrectable s a).fsq = s.fsq := by
  simp [State.nvmUncorrectable]

@[simp] theorem State.pd0Backup_fsq (s : State) : (State.pd0Backup s).fsq = s.fsq := by
  simp [State.pd0Backup]

@[simp] theorem State.takePoint_fsq (s : State) : (State.takePoint s).fsq = s.fsq := by
  simp [State.takePoint]

@[simp] theorem State.pointBoundary_fsq (s : State) (k : Nat) : (State.pointBoundary s k).fsq = s.fsq := by
  simp [State.pointBoundary]

@[simp] theorem State.tagTone_fsq (s : State) (k : Nat) (e : Nat × Nat × Nat) : (State.tagTone s k e).fsq = s.fsq := by
  simp [State.tagTone]

@[simp] theorem State.probeLatch_fsq (s : State) (i : Nat) : (State.probeLatch s i).fsq = s.fsq := by
  simp [State.probeLatch]

@[simp] theorem State.tint_fsq (s : State) (g : Nat) (arg : Int) : (State.tint s g arg).fsq = s.fsq := by
  simp [State.tint]

@[simp] theorem State.publish_fsq (s : State) (k g : Nat) (z : Nat × Int) (nd : Bool) : (State.publish s k g z nd).fsq = s.fsq := by
  simp [State.publish]

@[simp] theorem State.takePublish_fsq (s : State) : (State.takePublish s).fsq = s.fsq := by
  simp [State.takePublish]

@[simp] theorem State.closeGroup_fsq (s : State) (k g : Nat) (nd : Bool) (a : PointAcc) : (State.closeGroup s k g nd a).1.fsq = s.fsq := by
  simp [State.closeGroup]

@[simp] theorem State.probeTone_fsq (s : State) (g : Nat) (k : Nat) : (State.probeTone s g k).fsq = s.fsq := by
  unfold State.probeTone
  dsimp only
  repeat' split
  all_goals simp

@[simp] theorem State.probeNode_fsq (s : State) (n : Nat) : (State.probeNode s n).fsq = s.fsq := by
  simp [State.probeNode]

@[simp] theorem State.pointOver_fsq (s : State) (k : Nat) (a : PointAcc) : (State.pointOver s k a).fsq = s.fsq := by
  simp [State.pointOver]

@[simp] theorem State.closeRest_fsq (s : State) (k : Nat) (nd : Bool) (a : PointAcc) : (State.closeRest s k nd a).fsq = s.fsq := by
  simp [State.closeRest]

@[simp] theorem State.probeMissed_fsq (s : State) (k : Nat) : (State.probeMissed s k).fsq = s.fsq := by
  simp [State.probeMissed]

@[simp] theorem State.probeEndTone_fsq (s : State) (k : Nat) : (State.probeEndTone s k).fsq = s.fsq := by
  unfold State.probeEndTone
  simp only []
  split <;> simp

@[simp] theorem State.probeSwapTone_fsq (s : State) (k : Nat) : (State.probeSwapTone s k).fsq = s.fsq := by
  simp [State.probeSwapTone]

@[simp] theorem State.probeEnd_fsq (s : State) : (State.probeEnd s).fsq = s.fsq := by
  simp [State.probeEnd]

@[simp] theorem State.loadTones_fsq (s : State) : (State.loadTones s).fsq = s.fsq := by
  simp [State.loadTones]

@[simp] theorem State.queueTiming_fsq (s : State) (n ns : Nat) : (State.queueTiming s n ns).fsq = s.fsq := by
  simp [State.queueTiming]

@[simp] theorem State.queueLimits_fsq (s : State) (n : Nat) : (State.queueLimits s n).fsq = s.fsq := by
  simp [State.queueLimits]

@[simp] theorem State.logUncounted_fsq (s : State) (qint : Int) : (State.logUncounted s qint).fsq = s.fsq := by
  simp [State.logUncounted]

@[simp] theorem State.modNode_fsq (s : State) (n : Nat) (f : Nat → GroupRec → GroupRec) : (State.modNode s n f).fsq = s.fsq := by
  simp [State.modNode]

@[simp] theorem State.writeStale_fsq (s : State) (n own : Nat) (rep : Option Nat) : (State.writeStale s n own rep).fsq = s.fsq := by
  simp [State.writeStale]

@[simp] theorem State.tofTake_fsq (s : State) (n : Nat) (sample : Rat) : (State.tofTake s n sample).fsq = s.fsq := by
  simp [State.tofTake]

@[simp] theorem State.tofSample_fsq (s : State) (u : Nat) (n : Nat) (r : Report) (rxLt : Nat) : (State.tofSample s u n r rxLt).fsq = s.fsq := by
  unfold State.tofSample
  split
  · rfl
  · split
    · rfl
    · dsimp only
      split <;> simp

@[simp] theorem State.degWire_fsq (s : State) : (State.degWire s).fsq = s.fsq := by
  simp [State.degWire]

@[simp] theorem State.openWire_fsq (s : State) (n k : Nat) (tval : Int) : (State.openWire s n k tval).fsq = s.fsq := by
  simp [State.openWire]

@[simp] theorem State.logBst_fsq (s : State) (n p row : Nat) : (State.logBst s n p row).fsq = s.fsq := by
  simp [State.logBst]

@[simp] theorem State.logRow_fsq (s : State) (n r fresh : Nat) : (State.logRow s n r fresh).fsq = s.fsq := by
  simp [State.logRow]

@[simp] theorem State.passDone_fsq (s : State) (n : Nat) (pass : List (Option Nat)) : (State.passDone s n pass).fsq = s.fsq := by
  simp [State.passDone]

@[simp] theorem State.switchTest_fsq (s : State) (n p v : Nat) (tval : Int) : (State.switchTest s n p v tval).fsq = s.fsq := by
  simp [State.switchTest]

@[simp] theorem State.testResult_fsq (s : State) (n : Nat) (r : Report) : (State.testResult s n r).fsq = s.fsq := by
  simp [State.testResult]

@[simp] theorem State.nodeSum_fsq (s : State) (n : Nat) (r : Report) : (State.nodeSum s n r).fsq = s.fsq := by
  simp [State.nodeSum]

@[simp] theorem State.sagSweep_fsq (s : State) (n : Nat) (r : Report) : (State.sagSweep s n r).fsq = s.fsq := by
  simp [State.sagSweep]

@[simp] theorem State.writeValid_fsq (s : State) (n : Nat) (r : Report) : (State.writeValid s n r).fsq = s.fsq := by
  simp [State.writeValid]

@[simp] theorem State.sweep_fsq (s : State) (u n rxLt : Nat) (p : List Byte) : (State.sweep s u n rxLt p).fsq = s.fsq := by
  simp [State.sweep]

@[simp] theorem State.nodeEnd_fsq (s : State) (n : Nat) : (State.nodeEnd s n).fsq = s.fsq := by
  simp [State.nodeEnd]

@[simp] theorem State.stringSum_fsq (s : State) : (State.stringSum s).fsq = s.fsq := by
  simp [State.stringSum]

@[simp] theorem State.logPatterns_fsq (s : State) (n : Nat) : (State.logPatterns s n).fsq = s.fsq := by
  simp [State.logPatterns]

@[simp] theorem State.nodePattern_fsq (s : State) (full : Bool) (n : Nat) : (State.nodePattern s full n).fsq = s.fsq := by
  simp [State.nodePattern]

@[simp] theorem State.stringPattern_fsq (s : State) : (State.stringPattern s).fsq = s.fsq := by
  simp [State.stringPattern]

@[simp] theorem State.patterns_fsq (s : State) (full : Bool) : (State.patterns s full).fsq = s.fsq := by
  simp [State.patterns]

@[simp] theorem State.degLost_fsq (s : State) : (State.degLost s).fsq = s.fsq := by
  simp [State.degLost]

@[simp] theorem State.measureEnd_fsq (s : State) : (State.measureEnd s).fsq = s.fsq := by
  simp [State.measureEnd]

@[simp] theorem State.halfSum_fsq (s : State) (n k : Nat) : (State.halfSum s n k).fsq = s.fsq := by
  simp [State.halfSum]

@[simp] theorem State.voltages_fsq (s : State) (n : Nat) : (State.voltages s n).fsq = s.fsq := by
  simp [State.voltages]

@[simp] theorem State.countRec_fsq (s : State) (g : Nat) (dq : Int) : (State.countRec s g dq).fsq = s.fsq := by
  simp [State.countRec]

@[simp] theorem State.armedCycle_fsq (s : State) (g : Nat) (dq : Int) : (State.armedCycle s g dq).fsq = s.fsq := by
  simp [State.armedCycle]

@[simp] theorem State.fullAnchor_fsq (s : State) (g : Nat) : (State.fullAnchor s g).fsq = s.fsq := by
  simp [State.fullAnchor]

@[simp] theorem State.learn_fsq (s : State) (g : Nat) : (State.learn s g).fsq = s.fsq := by
  simp [State.learn]

@[simp] theorem State.emptyAnchor_fsq (s : State) (g : Nat) : (State.emptyAnchor s g).fsq = s.fsq := by
  simp [State.emptyAnchor]

@[simp] theorem State.ocvAnchor_fsq (s : State) (g : Nat) : (State.ocvAnchor s g).fsq = s.fsq := by
  unfold State.ocvAnchor
  dsimp only
  repeat' split
  all_goals simp

@[simp] theorem State.disagreeCheck_fsq (s : State) (g : Nat) : (State.disagreeCheck s g).fsq = s.fsq := by
  simp [State.disagreeCheck]

@[simp] theorem State.cutoffCheck_fsq (s : State) (g : Nat) : (State.cutoffCheck s g).fsq = s.fsq := by
  simp [State.cutoffCheck]

@[simp] theorem State.qRepUpdate_fsq (s : State) (g : Nat) : (State.qRepUpdate s g).fsq = s.fsq := by
  simp [State.qRepUpdate]

@[simp] theorem State.chargeGroup_fsq (s : State) (g : Nat) : (State.chargeGroup s g).fsq = s.fsq := by
  simp [State.chargeGroup]

@[simp] theorem State.chargeNode_fsq (s : State) (n : Nat) : (State.chargeNode s n).fsq = s.fsq := by
  simp [State.chargeNode]

@[simp] theorem State.coneNode_fsq (s : State) (n : Nat) : (State.coneNode s n).fsq = s.fsq := by
  simp [State.coneNode]

@[simp] theorem State.direction_fsq (s0 : State) : (State.direction s0).fsq = s0.fsq := by
  simp [State.direction]

@[simp] theorem State.balLosses_fsq (s : State) : (State.balLosses s).fsq = s.fsq := by
  simp [State.balLosses]

@[simp] theorem State.stringReports_fsq (s : State) : (State.stringReports s).fsq = s.fsq := by
  simp [State.stringReports]

@[simp] theorem State.estLimits_fsq (s : State) : (State.estLimits s).fsq = s.fsq := by
  simp [State.estLimits]

@[simp] theorem State.crossing_fsq (s : State) (side level dir crit g : Nat) : (State.crossing s side level dir crit g).fsq = s.fsq := by
  simp [State.crossing]

@[simp] theorem State.crossings_fsq (s : State) (side old new : Nat) : (State.crossings s side old new).fsq = s.fsq := by
  simp [State.crossings]

@[simp] theorem State.stringCones_fsq (s : State) : (State.stringCones s).fsq = s.fsq := by
  simp [State.stringCones]

@[simp] theorem State.coneCatchUp_fsq (s : State) : (State.coneCatchUp s).fsq = s.fsq := by
  simp [State.coneCatchUp]

@[simp] theorem State.adoptGroup_fsq (s : State) (g : Nat) : (State.adoptGroup s g).fsq = s.fsq := by
  simp [State.adoptGroup]

@[simp] theorem State.adoptAll_fsq (s : State) : (State.adoptAll s).fsq = s.fsq := by
  simp [State.adoptAll]

@[simp] theorem State.calEnd_fsq (s : State) : (State.calEnd s).fsq = s.fsq := by
  simp [State.calEnd]

@[simp] theorem State.calCheck_fsq (s : State) : (State.calCheck s).fsq = s.fsq := by
  simp [State.calCheck]

@[simp] theorem State.ceString_fsq (s : State) : (State.ceString s).fsq = s.fsq := by
  simp [State.ceString]

@[simp] theorem State.estimateEnd_fsq (s : State) : (State.estimateEnd s).fsq = s.fsq := by
  simp [State.estimateEnd]

@[simp] theorem State.capCommitEnd_fsq (s : State) (ok : Bool) : (State.capCommitEnd s ok).fsq = s.fsq := by
  simp [State.capCommitEnd]

@[simp] theorem State.capCommitStart_fsq (s : State) : (State.capCommitStart s).fsq = s.fsq := by
  simp [State.capCommitStart]

@[simp] theorem State.thmConvert_fsq (s : State) : (State.thmConvert s).fsq = s.fsq := by
  simp [State.thmConvert]

@[simp] theorem State.thmTake_fsq (s : State) (src : Nat) (mask : Nat) (x : ThmIn) : (State.thmTake s src mask x).fsq = s.fsq := by
  unfold State.thmTake
  split <;> simp

@[simp] theorem State.thmModel_fsq (s : State) (p : Nat) : (State.thmModel s p).fsq = s.fsq := by
  simp [State.thmModel]

@[simp] theorem State.thmPhase_fsq (s : State) (p : Nat) : (State.thmPhase s p).fsq = s.fsq := by
  simp [State.thmPhase]

@[simp] theorem State.thmGroup_fsq (s : State) (g : Nat) : (State.thmGroup s g).fsq = s.fsq := by
  simp [State.thmGroup]

@[simp] theorem State.thmFrame_fsq (s : State) : (State.thmFrame s).fsq = s.fsq := by
  simp [State.thmFrame]

@[simp] theorem State.degThermal_fsq (s : State) : (State.degThermal s).fsq = s.fsq := by
  simp [State.degThermal]

@[simp] theorem State.factors_fsq (s : State) : (State.factors s).fsq = s.fsq := by
  simp [State.factors]

@[simp] theorem State.derateMsg_fsq (s : State) (chg : Bool) (kind limit : Nat) : (State.derateMsg s chg kind limit).fsq = s.fsq := by
  simp [State.derateMsg]

@[simp] theorem State.derateLog_fsq (s : State) (chg : Bool) (kind limit : Nat) : (State.derateLog s chg kind limit).fsq = s.fsq := by
  simp [State.derateLog]

@[simp] theorem State.derateStep_fsq (s : State) (chg : Bool) : (State.derateStep s chg).fsq = s.fsq := by
  unfold State.derateStep
  dsimp only
  split <;> simp

@[simp] theorem State.thmCatchUp_fsq (s : State) : (State.thmCatchUp s).fsq = s.fsq := by
  simp [State.thmCatchUp]

@[simp] theorem State.thmHot_fsq (s : State) : (State.thmHot s).fsq = s.fsq := by
  simp [State.thmHot]

@[simp] theorem State.thmTick_fsq (s : State) : (State.thmTick s).fsq = s.fsq := by
  simp [State.thmTick]

@[simp] theorem State.batchNode_fsq (s : State) (w n : Nat) : (State.batchNode s w n).fsq = s.fsq := by
  simp [State.batchNode]

@[simp] theorem State.latchCheck_fsq (s : State) : (State.latchCheck s).fsq = s.fsq := by
  simp [State.latchCheck]

@[simp] theorem State.applyTables_fsq (s : State) : (State.applyTables s).fsq = s.fsq := by
  simp [State.applyTables]

@[simp] theorem State.applyFrameEnd_fsq (s : State) : (State.applyFrameEnd s).fsq = s.fsq := by
  simp [State.applyFrameEnd]

@[simp] theorem State.ceFrameStart_fsq (s : State) : (State.ceFrameStart s).fsq = s.fsq := by
  simp [State.ceFrameStart]

@[simp] theorem State.rejectImages_fsq (s : State) : (State.rejectImages s).fsq = s.fsq := by
  simp [State.rejectImages]

@[simp] theorem State.sagIsolate_fsq (s : State) (c : Nat) : (State.sagIsolate s c).fsq = s.fsq := by
  simp [State.sagIsolate]

@[simp] theorem State.diag_fsq (s : State) (k : Nat) (bad : Bool) : (State.diag s k bad).fsq = s.fsq := by
  simp [State.diag]

@[simp] theorem State.diagFail_fsq (s : State) (k : Nat) : (State.diagFail s k).fsq = s.fsq := by
  simp [State.diagFail]

@[simp] theorem State.diagHard_fsq (s : State) : (State.diagHard s).fsq = s.fsq := by
  simp [State.diagHard]

@[simp] theorem State.coilTestFail_fsq (s : State) (sw : Nat) : (State.coilTestFail s sw).fsq = s.fsq := by
  simp [State.coilTestFail]

@[simp] theorem State.slotSkip_fsq (s : State) (sw : Nat) : (State.slotSkip s sw).fsq = s.fsq := by
  simp [State.slotSkip]

@[simp] theorem State.degSession_fsq (s : State) : (State.degSession s).fsq = s.fsq := by
  simp [State.degSession]

@[simp] theorem State.degNet_fsq (s : State) : (State.degNet s).fsq = s.fsq := by
  simp [State.degNet]

@[simp] theorem State.pduMiss_fsq (s : State) : (State.pduMiss s).fsq = s.fsq := by
  simp [State.pduMiss]

@[simp] theorem State.pduAct_fsq (s0 : State) (p : PortId) (b : List Byte) : (State.pduAct s0 p b).fsq = s0.fsq := by
  simp [State.pduAct]

@[simp] theorem State.pduSecond_fsq (s : State) (b : List Byte) : (State.pduSecond s b).fsq = s.fsq := by
  simp [State.pduSecond]

@[simp] theorem State.pduHeard_fsq (s : State) (p : PortId) (h : Net) : (State.pduHeard s p h).fsq = s.fsq := by
  simp [State.pduHeard]

@[simp] theorem State.pduCopy_fsq (s : State) (p : PortId) (b : List Byte) (h : Net) : (State.pduCopy s p b h).fsq = s.fsq := by
  unfold State.pduCopy
  split <;> simp

@[simp] theorem State.clogAdd_fsq (s : State) (kind source index : Nat) (old new : Int) : (State.clogAdd s kind source index old new).fsq = s.fsq := by
  simp [State.clogAdd]

@[simp] theorem State.cfgCommit_fsq (s : State) (source : Nat) : (State.cfgCommit s source).fsq = s.fsq := by
  simp [State.cfgCommit]

@[simp] theorem State.cfgOpen_fsq (s : State) (source : Nat) : (State.cfgOpen s source).fsq = s.fsq := by
  simp [State.cfgOpen]

@[simp] theorem State.cfgEnd_fsq (s : State) : (State.cfgEnd s).fsq = s.fsq := by
  unfold State.cfgEnd
  split <;> simp

@[simp] theorem State.cfgFail_fsq (s : State) : (State.cfgFail s).fsq = s.fsq := by
  simp [State.cfgFail]

@[simp] theorem State.loginFails_fsq (s : State) (src : Nat) : (State.loginFails s src).fsq = s.fsq := by
  simp [State.loginFails]

@[simp] theorem State.setPassword_fsq (s : State) (pw : List Byte) (source : Nat) : (State.setPassword s pw source).fsq = s.fsq := by
  simp [State.setPassword]

@[simp] theorem State.sagReset_fsq (s : State) (format : Nat) (fw : Nat) : (State.sagReset s format fw).fsq = s.fsq := by
  unfold State.sagReset
  dsimp only
  split
  · exact State.clogAdd_fsq ..
  · exact (State.clogAdd_fsq ..).trans (State.clogAdd_fsq ..)

@[simp] theorem State.settingsLoad_fsq (s : State) : (State.settingsLoad s).fsq = s.fsq := by
  unfold State.settingsLoad
  split <;> simp

@[simp] theorem State.capLoad_fsq (s : State) : (State.capLoad s).fsq = s.fsq := by
  unfold State.capLoad
  split <;> simp

@[simp] theorem State.countLoad_fsq (s : State) : (State.countLoad s).fsq = s.fsq := by
  unfold State.countLoad
  repeat' split
  all_goals simp

@[simp] theorem State.sagLoad_fsq (s : State) : (State.sagLoad s).fsq = s.fsq := by
  unfold State.sagLoad
  split <;> simp

@[simp] theorem State.readStraps_fsq (s : State) : (State.readStraps s).fsq = s.fsq := by
  simp [State.readStraps]

@[simp] theorem State.tvLoad_fsq (s : State) : (State.tvLoad s).fsq = s.fsq := by
  simp [State.tvLoad]

@[simp] theorem State.bootLoad_fsq (s : State) : (State.bootLoad s).fsq = s.fsq := by
  simp [State.bootLoad]

@[simp] theorem State.bootRevert_fsq (s : State) : (State.bootRevert s).fsq = s.fsq := by
  simp [State.bootRevert]

@[simp] theorem State.bootConfirm_fsq (s : State) : (State.bootConfirm s).fsq = s.fsq := by
  simp [State.bootConfirm]

@[simp] theorem State.domainUp_fsq (s : State) (d : Nat) : (State.domainUp s d).fsq = s.fsq := by
  simp [State.domainUp]

@[simp] theorem State.domainDown_fsq (s : State) (d : Nat) : (State.domainDown s d).fsq = s.fsq := by
  unfold State.domainDown
  split <;> simp

@[simp] theorem State.isolateAll_fsq (s : State) (l : List Nat) : (State.isolateAll s l).fsq = s.fsq := by
  unfold State.isolateAll
  split <;> simp

@[simp] theorem State.logItem_fsq (s : State) (detail : Nat) (i : TestItem) : (State.logItem s detail i).fsq = s.fsq := by
  simp [State.logItem]

@[simp] theorem State.testResults_fsq (s : State) (r : SelfTest) : (State.testResults s r).fsq = s.fsq := by
  simp [State.testResults]

@[simp] theorem State.startLost_fsq (s : State) (n : Nat) : (State.startLost s n).fsq = s.fsq := by
  simp [State.startLost]

@[simp] theorem State.setFeed_fsq (s : State) (b : Bool) (on : Bool) : (State.setFeed s b on).fsq = s.fsq := by
  simp [State.setFeed]

@[simp] theorem State.boRamp_fsq (s : State) : (State.boRamp s).fsq = s.fsq := by
  simp [State.boRamp]

@[simp] theorem State.boCommit_fsq (s : State) : (State.boCommit s).fsq = s.fsq := by
  simp [State.boCommit]

@[simp] theorem State.pairFault_fsq (s : State) (kind : Nat) : (State.pairFault s kind).fsq = s.fsq := by
  simp [State.pairFault]

@[simp] theorem State.clashCheck_fsq (s : State) (h : Partner) (higher : Bool) : (State.clashCheck s h higher).fsq = s.fsq := by
  simp [State.clashCheck]

@[simp] theorem State.sendTake_fsq (s : State) (now : Nat) : (State.sendTake s now).fsq = s.fsq := by
  simp [State.sendTake]

@[simp] theorem State.sendReady_fsq (s : State) : (State.sendReady s).fsq = s.fsq := by
  simp [State.sendReady]

@[simp] theorem State.swapFailed_fsq (s : State) : (State.swapFailed s).fsq = s.fsq := by
  simp [State.swapFailed]

@[simp] theorem State.fromCopy_fsq (s : State) (m : Mirror) : (State.fromCopy s m).fsq = s.fsq := by
  simp [State.fromCopy]

@[simp] theorem State.wantFor_fsq (s : State) (st : OpState) (disp : Bool) : (State.wantFor s st disp).fsq = s.fsq := by
  simp [State.wantFor]

@[simp] theorem State.dropCoef_fsq (s : State) : (State.dropCoef s).fsq = s.fsq := by
  simp [State.dropCoef]

@[simp] theorem State.ceFresh_fsq (s : State) : (State.ceFresh s).fsq = s.fsq := by
  simp [State.ceFresh]

@[simp] theorem State.latchShadows_fsq (s : State) : (State.latchShadows s).fsq = s.fsq := by
  simp [State.latchShadows]

@[simp] theorem State.afterRead_fsq (s : State) (r : Reg) : (State.afterRead s r).fsq = s.fsq := by
  simp [State.afterRead]

@[simp] theorem State.settingDone_fsq (s : State) (i : Nat) (v old : Int) : (State.settingDone s i v old).fsq = s.fsq := by
  simp [State.settingDone]

@[simp] theorem State.loginState_fsq (s : State) : (State.loginState s).fsq = s.fsq := by
  simp [State.loginState]

@[simp] theorem State.toIsolated_fsq (s : State) : (State.toIsolated s).fsq = s.fsq := by
  simp [State.toIsolated]

@[simp] theorem State.toStandby_fsq (s : State) : (State.toStandby s).fsq = s.fsq := by
  simp [State.toStandby]

@[simp] theorem State.toDegraded_fsq (s : State) : (State.toDegraded s).fsq = s.fsq := by
  simp [State.toDegraded]

@[simp] theorem State.fromDegraded_fsq (s : State) : (State.fromDegraded s).fsq = s.fsq := by
  simp [State.fromDegraded]

@[simp] theorem State.stopDone_fsq (s : State) : (State.stopDone s).fsq = s.fsq := by
  simp [State.stopDone]

@[simp] theorem State.toMaintenance_fsq (s : State) : (State.toMaintenance s).fsq = s.fsq := by
  simp [State.toMaintenance]

@[simp] theorem State.afterTest_fsq (s : State) (owned : Bool) : (State.afterTest s owned).fsq = s.fsq := by
  simp [State.afterTest]

theorem State.row_fsq (s : State) (e : Ev) (t : State) (h : State.row s e = some t) : t.fsq = s.fsq := by
  revert h
  unfold State.row
  repeat' split
  all_goals simp only [Option.some.injEq, reduceCtorEq, false_implies]
  all_goals rintro rfl
  all_goals simp

@[simp] theorem State.dropEv_fsq (s : State) (e : Ev) : (State.dropEv s e).fsq = s.fsq := by
  unfold State.dropEv
  split <;> simp

@[simp] theorem State.takeClass_fsq (s : State) (c : Nat) (p0 : List Ev) : (s.takeClass c p0).1.fsq = s.fsq := by
  induction p0 generalizing s with
  | nil => rfl
  | cons e l ih =>
    simp only [State.takeClass]
    split
    · exact ih s
    · split
      · rename_i h
        exact State.row_fsq _ _ _ h
      · exact (ih _).trans (by simp)

@[simp] theorem State.runClass_fsq (s : State) (c : Nat) : (State.runClass s c).fsq = s.fsq := by
  simp [State.runClass]

@[simp] theorem State.runDegraded_fsq (s : State) : (State.runDegraded s).fsq = s.fsq := by
  simp [State.runDegraded]

@[simp] theorem State.spyEnd_fsq (s : State) : (State.spyEnd s).fsq = s.fsq := by
  simp [State.spyEnd]

@[simp] theorem State.trackClosed_fsq (s : State) : (State.trackClosed s).fsq = s.fsq := by
  simp [State.trackClosed]

@[simp] theorem State.stopOpened_fsq (s : State) : (State.stopOpened s).fsq = s.fsq := by
  simp [State.stopOpened]

@[simp] theorem State.mirrorCorrect_fsq (s : State) : (State.mirrorCorrect s).fsq = s.fsq := by
  simp [State.mirrorCorrect]

@[simp] theorem State.raise_fsq (s : State) (c : Nat) : (State.raise s c).fsq = s.fsq := by
  simp [State.raise]

@[simp] theorem State.sf4_fsq (s : State) : (State.sf4 s).fsq = s.fsq := by
  unfold State.sf4
  dsimp only
  split <;> simp

@[simp] theorem State.tickDiag_fsq (s : State) (k : Nat) (bad : Bool) : (State.tickDiag s k bad).fsq = s.fsq := by
  simp [State.tickDiag]

@[simp] theorem State.protect_fsq (s : State) (m : TickIn) : (State.protect s m).fsq = s.fsq := by
  simp [State.protect]

@[simp] theorem State.tickPins_fsq (s : State) (m : TickIn) : (State.tickPins s m).fsq = s.fsq := by
  simp [State.tickPins]

@[simp] theorem State.degLevels_fsq (s : State) : (State.degLevels s).fsq = s.fsq := by
  simp [State.degLevels]

@[simp] theorem State.pairTick_fsq (s : State) : (State.pairTick s).fsq = s.fsq := by
  simp [State.pairTick]

@[simp] theorem State.tickCounts_fsq (s : State) : (State.tickCounts s).fsq = s.fsq := by
  simp [State.tickCounts]

@[simp] theorem State.speedTick_fsq (s : State) (pct : Nat) : (State.speedTick s pct).fsq = s.fsq := by
  simp [State.speedTick]

@[simp] theorem State.degTick_fsq (s : State) : (State.degTick s).fsq = s.fsq := by
  simp [State.degTick]

@[simp] theorem State.strapTick_fsq (s : State) : (State.strapTick s).fsq = s.fsq := by
  simp [State.strapTick]

@[simp] theorem State.timeTo_fsq (s : State) (st : LmpSt) : (State.timeTo s st).fsq = s.fsq := by
  simp [State.timeTo]

@[simp] theorem State.reselect_fsq (s : State) : (State.reselect s).fsq = s.fsq := by
  unfold State.reselect
  dsimp only
  split <;> simp

@[simp] theorem State.servo_fsq (s : State) (off : Int) (ms : Nat) : (State.servo s off ms).fsq = s.fsq := by
  simp [State.servo]

@[simp] theorem State.loadSecMark_fsq (s : State) : (State.loadSecMark s).fsq = s.fsq := by
  unfold State.loadSecMark
  repeat' split
  all_goals simp

@[simp] theorem State.takeOffset_fsq (s0 : State) (off : Int) (ms : Nat) : (State.takeOffset s0 off ms).fsq = s0.fsq := by
  unfold State.takeOffset
  dsimp only
  split <;> simp

@[simp] theorem State.syncDone_fsq (s : State) (m : PtpMsg) (ingress origin : Int) (ms : Nat) : (State.syncDone s m ingress origin ms).fsq = s.fsq := by
  simp [State.syncDone]

@[simp] theorem State.sourceLost_fsq (s : State) : (State.sourceLost s).fsq = s.fsq := by
  simp [State.sourceLost]

@[simp] theorem State.slotZero_fsq (s : State) : (State.slotZero s).fsq = s.fsq := by
  simp [State.slotZero]

@[simp] theorem State.fire_fsq (s : State) (k : Nat) : (State.fire s k).fsq = s.fsq := by
  simp [State.fire]

@[simp] theorem State.accept_fsq (s : State) (c : Nat) (src : Src) : (State.accept s c src).fsq = s.fsq := by
  simp [State.accept]

@[simp] theorem State.answerWait_fsq (s : State) (c : Nat) (r : Reply) : (State.answerWait s c r).fsq = s.fsq := by
  unfold State.answerWait
  exact State.fsq_foldl _ _ _ (fun t x => by split <;> simp)

@[simp] theorem State.done_fsq (s : State) (c code tag rc detail : Nat) (data : List Byte) : (State.done s c code tag rc detail data).fsq = s.fsq := by
  simp [State.done]

@[simp] theorem State.reply_fsq (s : State) (c : Nat) (rc : Nat) (detail : Nat) (data : List Byte) : (State.reply s c rc detail data).fsq = s.fsq := by
  unfold State.reply
  split <;> simp

@[simp] theorem State.ok_fsq (s : State) (c : Nat) : (State.ok s c).fsq = s.fsq := by
  simp [State.ok]

@[simp] theorem State.ring_fsq (s : State) (c : Nat) (src : Src) : (State.ring s c src).fsq = s.fsq := by
  simp [State.ring]

@[simp] theorem State.bufPut_fsq (s : State) (c i w : Nat) : (State.bufPut s c i w).fsq = s.fsq := by
  simp [State.bufPut]

@[simp] theorem State.notInState_fsq (s : State) (c : Nat) (r : Request) : (State.notInState s c r).fsq = s.fsq := by
  simp [State.notInState]

@[simp] theorem State.result_fsq (s : State) (c rc detail : Nat) (data : List Byte) : (State.result s c rc detail data).fsq = s.fsq := by
  simp [State.result]

@[simp] theorem State.settingsOpen_fsq (s : State) : (State.settingsOpen s).fsq = s.fsq := by
  simp [State.settingsOpen]

@[simp] theorem State.settingsEnd_fsq (s : State) (ok : Bool) : (State.settingsEnd s ok).fsq = s.fsq := by
  simp [State.settingsEnd]

@[simp] theorem State.writePermit_fsq (s : State) (w : Nat) : (State.writePermit s w).fsq = s.fsq := by
  simp [State.writePermit]

@[simp] theorem State.atTime_fsq (s : State) (t : BitVec 32) : (State.atTime s t).fsq = s.fsq := by
  simp [State.atTime]

@[simp] theorem State.sessReply_fsq (s : State) (i : Nat) (x : Tx) (r : Reply) : (State.sessReply s i x r).fsq = s.fsq := by
  unfold State.sessReply
  split <;> simp

@[simp] theorem State.sessStatus_fsq (s : State) (i : Nat) (x : Tx) (ty status : Nat) : (State.sessStatus s i x ty status).fsq = s.fsq := by
  simp [State.sessStatus]

@[simp] theorem State.looseReply_fsq (s : State) (x : Tx) (r : Reply) : (State.looseReply s x r).fsq = s.fsq := by
  simp [State.looseReply]

@[simp] theorem State.openSession_fsq (s : State) (x : Tx) (v host mask : Nat) (old : Option Session) : (State.openSession s x v host mask old).fsq = s.fsq := by
  simp [State.openSession]

@[simp] theorem State.endSession_fsq (s : State) (i : Nat) : (State.endSession s i).fsq = s.fsq := by
  simp [State.endSession]

@[simp] theorem State.sessWait_fsq (s : State) (i : Nat) (x : Tx) (c : Nat) : (State.sessWait s i x c).fsq = s.fsq := by
  simp [State.sessWait]

@[simp] theorem State.attnDrop_fsq (s : State) (i : Nat) (y : Session) (m : Attn) : (State.attnDrop s i y m).fsq = s.fsq := by
  simp [State.attnDrop]

@[simp] theorem State.dispTake_fsq (s : State) (p : PortId) (b : List Byte) (now : Nat) : (State.dispTake s p b now).fsq = s.fsq := by
  unfold State.dispTake
  split <;> simp

@[simp] theorem State.inhibited_fsq (s : State) (c detail : Nat) : (State.inhibited s c detail).fsq = s.fsq := by
  simp [State.inhibited]

@[simp] theorem State.toPrecharge_fsq (s : State) : (State.toPrecharge s).fsq = s.fsq := by
  simp [State.toPrecharge]

@[simp] theorem State.openStart_fsq (s : State) : (State.openStart s).fsq = s.fsq := by
  simp [State.openStart]

@[simp] theorem State.selftestStore_fsq (s : State) (r : SelfTest) (run : Nat) : (State.selftestStore s r run).fsq = s.fsq := by
  simp [State.selftestStore]

@[simp] theorem State.selftestAct_fsq (s : State) (r : SelfTest) : (State.selftestAct s r).fsq = s.fsq := by
  unfold State.selftestAct
  dsimp only
  split <;> simp

@[simp] theorem State.calStart_fsq (s : State) : (State.calStart s).fsq = s.fsq := by
  simp [State.calStart]

@[simp] theorem State.capWrite_fsq (s : State) (cap g : Nat) : (State.capWrite s cap g).fsq = s.fsq := by
  simp [State.capWrite]

@[simp] theorem State.drawKey_fsq (s : State) : (State.drawKey s).fsq = s.fsq := by
  simp [State.drawKey]

@[simp] theorem State.pairPut_fsq (s : State) (n serial k : Nat) : (State.pairPut s n serial k).fsq = s.fsq := by
  simp [State.pairPut]

@[simp] theorem State.pairDrop_fsq (s : State) (n : Nat) : (State.pairDrop s n).fsq = s.fsq := by
  simp [State.pairDrop]

@[simp] theorem State.queueKey_fsq (s : State) (n : Nat) : (State.queueKey s n).fsq = s.fsq := by
  simp [State.queueKey]

@[simp] theorem State.keyChange_fsq (s : State) : (State.keyChange s).fsq = s.fsq := by
  simp [State.keyChange]

@[simp] theorem State.logClear_fsq (s : State) (src : Nat) : (State.logClear s src).fsq = s.fsq := by
  simp [State.logClear]

@[simp] theorem State.loginOk_fsq (s : State) (c : Nat) : (State.loginOk s c).fsq = s.fsq := by
  simp [State.loginOk]

@[simp] theorem State.stage_fsq (s : State) (l : List (Nat × Int)) : (State.stage s l).fsq = s.fsq := by
  simp [State.stage]

@[simp] theorem State.sagAbort_fsq (s : State) : (State.sagAbort s).fsq = s.fsq := by
  simp [State.sagAbort]

@[simp] theorem State.clogAckTo_fsq (s : State) (q source : Nat) : (State.clogAckTo s q source).fsq = s.fsq := by
  simp [State.clogAckTo]

@[simp] theorem State.capReply_fsq (s : State) (c : Nat) (rb : Bool) : (State.capReply s c rb).fsq = s.fsq := by
  simp [State.capReply]

@[simp] theorem State.settingsReply_fsq (s : State) (c : Nat) (rb : Bool) : (State.settingsReply s c rb).fsq = s.fsq := by
  simp [State.settingsReply]

@[simp] theorem State.sagReply_fsq (s : State) (c : Nat) (rb : Bool) : (State.sagReply s c rb).fsq = s.fsq := by
  simp [State.sagReply]

@[simp] theorem State.swapReply_fsq (s : State) (c : Nat) : (State.swapReply s c).fsq = s.fsq := by
  unfold State.swapReply
  split <;> simp

@[simp] theorem State.loadReply_fsq (s : State) (c detail : Nat) (data : List Byte) : (State.loadReply s c detail data).fsq = s.fsq := by
  simp [State.loadReply]

@[simp] theorem State.postEnd_fsq (s : State) (c : Nat) (rb : Bool) : (State.postEnd s c rb).fsq = s.fsq := by
  unfold State.postEnd
  repeat' split
  all_goals simp

@[simp] theorem State.manifestDone_fsq (s : State) : (State.manifestDone s).fsq = s.fsq := by
  unfold State.manifestDone
  split <;> simp

@[simp] theorem State.partDone_fsq (s : State) (k : Nat) : (State.partDone s k).fsq = s.fsq := by
  unfold State.partDone
  repeat' split
  all_goals simp

@[simp] theorem State.blockPut_fsq (s : State) (k n : Nat) (b : List Byte) : (State.blockPut s k n b).fsq = s.fsq := by
  simp [State.blockPut]

@[simp] theorem State.blockReply_fsq (s : State) (i : Nat) (x : Tx) (next : Nat) : (State.blockReply s i x next).fsq = s.fsq := by
  simp [State.blockReply]

@[simp] theorem State.fwdSend_fsq (s : State) (k : Nat) : (State.fwdSend s k).fsq = s.fsq := by
  unfold State.fwdSend
  split <;> simp

@[simp] theorem State.stageUpdate_fsq (s : State) (c : Nat) : (State.stageUpdate s c).fsq = s.fsq := by
  unfold State.stageUpdate
  repeat' split
  all_goals simp

@[simp] theorem State.mgpGoes_fsq (s : State) : (State.mgpGoes s).fsq = s.fsq := by
  simp [State.mgpGoes]

@[simp] theorem State.heldBusy_fsq (s : State) (p : Chan → Bool) : (State.heldBusy s p).fsq = s.fsq := by
  simp [State.heldBusy]

@[simp] theorem State.mgpBack_fsq (s : State) : (State.mgpBack s).fsq = s.fsq := by
  simp [State.mgpBack]

@[simp] theorem State.rollBack_fsq (s : State) : (State.rollBack s).fsq = s.fsq := by
  simp [State.rollBack]

@[simp] theorem State.staysAway_fsq (s : State) : (State.staysAway s).fsq = s.fsq := by
  simp [State.staysAway]

@[simp] theorem State.loaderBoot_fsq (s : State) : (State.loaderBoot s).fsq = s.fsq := by
  simp [State.loaderBoot]

@[simp] theorem State.rangeLeave_fsq (s : State) : (State.rangeLeave s).fsq = s.fsq := by
  simp [State.rangeLeave]

@[simp] theorem State.afterConfirm_fsq (s : State) (l : List (Nat × Nat)) : (State.afterConfirm s l).fsq = s.fsq := by
  unfold State.afterConfirm
  split <;> simp

@[simp] theorem State.oldReady_fsq (s : State) : (State.oldReady s).fsq = s.fsq := by
  simp [State.oldReady]

@[simp] theorem State.nodeReply_fsq (s : State) (q : NodeCmd) (rc : Nat) (detail : Nat) (data : List Byte) : (State.nodeReply s q rc detail data).fsq = s.fsq := by
  unfold State.nodeReply
  split <;> simp

@[simp] theorem State.leaveDone_fsq (s : State) (q : NodeCmd) (result : Nat) : (State.leaveDone s q result).fsq = s.fsq := by
  unfold State.leaveDone
  split <;> simp

@[simp] theorem State.infoGot_fsq (s : State) (q : NodeCmd) (info : Nat) : (State.infoGot s q info).fsq = s.fsq := by
  unfold State.infoGot
  split <;> simp

@[simp] theorem State.fwBegun_fsq (s : State) (n : Nat) : (State.fwBegun s n).fsq = s.fsq := by
  simp [State.fwBegun]

@[simp] theorem State.ackCmd_fsq (s : State) (q : NodeCmd) (r : Nat) (info : Nat) : (State.ackCmd s q r info).fsq = s.fsq := by
  unfold State.ackCmd
  split <;> simp

@[simp] theorem State.fwStaged_fsq (s : State) (u n : Nat) : (State.fwStaged s u n).fsq = s.fsq := by
  simp [State.fwStaged]

@[simp] theorem State.ackFw_fsq (s : State) (u : Nat) (n : Nat) (r : Nat) (info : Nat) : (State.ackFw s u n r info).fsq = s.fsq := by
  unfold State.ackFw
  repeat' split
  all_goals simp

theorem State.takeFlight_fsq (s : State) (n : Nat) (t : NodeCmd × State) (h : State.takeFlight s n = some t) : t.2.fsq = s.fsq := by
  revert h
  unfold State.takeFlight
  dsimp only
  repeat' split
  all_goals simp only [Option.some.injEq, reduceCtorEq, false_implies]
  all_goals rintro rfl
  all_goals simp

@[simp] theorem State.ackKind_fsq (s : State) (u : Nat) (k : Nat) (n : Nat) (r : Nat) (info : Nat) : (State.ackKind s u k n r info).fsq = s.fsq := by
  unfold State.ackKind
  split
  · split
    · split <;> simp
    · simp
  · split
    next h =>
      have h2 := State.takeFlight_fsq _ _ _ h
      simpa using h2
    · rfl
  · simp

@[simp] theorem State.giveUp_fsq (s : State) (q : NodeCmd) : (State.giveUp s q).fsq = s.fsq := by
  unfold State.giveUp
  split <;> simp

@[simp] theorem State.spyWrote_fsq (s : State) : (State.spyWrote s).fsq = s.fsq := by
  simp [State.spyWrote]

end Sys2Proof.Machine

namespace Sys2Proof.Machine
/-- A fold of updates that keep the field keeps it. -/
@[simp] theorem State.mbx_foldl {β : Type} (f : State → β → State) (l : List β) (s : State) (h : ∀ t x, (f t x).mbx = t.mbx) :
    (l.foldl f s).mbx = s.mbx := by
  induction l generalizing s with
  | nil => rfl
  | cons x l ih => rw [List.foldl_cons, ih, h]

/-- The field of a choice of states. -/
@[simp] theorem State.mbx_ite (c : Prop) [Decidable c] (a b : State) : (if c then a else b).mbx = if c then a.mbx else b.mbx := by
  split <;> rfl

/-- A fold of updates beside a value. -/
@[simp] theorem State.mbx_foldlp {α β : Type} (f : State × α → β → State × α) (l : List β) (p : State × α)
    (h : ∀ t x, (f t x).1.mbx = t.1.mbx) : (l.foldl f p).1.mbx = p.1.mbx := by
  induction l generalizing p with
  | nil => rfl
  | cons x l ih => rw [List.foldl_cons, ih, h]

/-- The field of a choice of states beside a value. -/
@[simp] theorem State.mbx_itep {α : Type} (c : Prop) [Decidable c] (a b : State × α) :
    (if c then a else b).1.mbx = if c then a.1.mbx else b.1.mbx := by
  split <;> rfl

@[simp] theorem State.logPost_mbx (s : State) (src code sev : Nat) (data : List Nat) : (State.logPost s src code sev data).mbx = s.mbx := by
  simp [State.logPost]

@[simp] theorem State.sendFrom_mbx (s : State) (p : PortId) (addr udp : Nat) (b : List Byte) : (State.sendFrom s p addr udp b).mbx = s.mbx := by
  simp [State.sendFrom]

@[simp] theorem State.sendAttn_mbx (s : State) (x : Session) (m : Attn) (p : PortId) (again : Bool) : (State.sendAttn s x m p again).mbx = s.mbx := by
  simp [State.sendAttn]

@[simp] theorem State.lostNote_mbx (s : State) (i : Nat) : (State.lostNote s i).mbx = s.mbx := by
  unfold State.lostNote
  split <;> simp

@[simp] theorem State.attnTo_mbx (s : State) (m : Attn) (i : Nat) : (State.attnTo s m i).mbx = s.mbx := by
  unfold State.attnTo
  split <;> simp

@[simp] theorem State.attn_mbx (s : State) (code sev : Nat) (data : List Nat) : (State.attn s code sev data).mbx = s.mbx := by
  simp [State.attn]

@[simp] theorem State.announce_mbx (s : State) : (State.announce s).mbx = s.mbx := by
  simp [State.announce]

@[simp] theorem State.clearSetpoints_mbx (s : State) : (State.clearSetpoints s).mbx = s.mbx := by
  simp [State.clearSetpoints]

@[simp] theorem State.syncMode_mbx (s : State) : (State.syncMode s).mbx = s.mbx := by
  simp [State.syncMode]

@[simp] theorem State.leaveSetpoints_mbx (s : State) : (State.leaveSetpoints s).mbx = s.mbx := by
  simp [State.leaveSetpoints]

@[simp] theorem State.outputsRest_mbx (s : State) : (State.outputsRest s).mbx = s.mbx := by
  unfold State.outputsRest
  split <;> simp

@[simp] theorem State.enter_mbx (s : State) (st b : OpState) : (State.enter s st b).mbx = s.mbx := by
  simp [State.enter]

@[simp] theorem State.enterEff_mbx (s : State) (st : OpState) : (State.enterEff s st).mbx = s.mbx := by
  simp [State.enterEff]

@[simp] theorem State.coilService1_mbx (s : State) (k : Nat) : (State.coilService1 s k).mbx = s.mbx := by
  simp [State.coilService1]

@[simp] theorem State.coilService_mbx (s : State) : (State.coilService s).mbx = s.mbx := by
  simp [State.coilService]

@[simp] theorem State.degStart_mbx (s : State) : (State.degStart s).mbx = s.mbx := by
  simp [State.degStart]

@[simp] theorem State.pairSend_mbx (s : State) (kind : Nat) (body : List Byte) : (State.pairSend s kind body).mbx = s.mbx := by
  simp [State.pairSend]

@[simp] theorem State.swapSend_mbx (s : State) (sub b : Nat) : (State.swapSend s sub b).mbx = s.mbx := by
  simp [State.swapSend]

@[simp] theorem State.sendStatus_mbx (s : State) : (State.sendStatus s).mbx = s.mbx := by
  simp [State.sendStatus]

@[simp] theorem State.dropOutputs_mbx (s : State) : (State.dropOutputs s).mbx = s.mbx := by
  simp [State.dropOutputs]

@[simp] theorem State.swapAbandon_mbx (s : State) : (State.swapAbandon s).mbx = s.mbx := by
  unfold State.swapAbandon
  split <;> simp

@[simp] theorem State.isolate_mbx (s : State) (c : Nat) : (State.isolate s c).mbx = s.mbx := by
  simp [State.isolate]

@[simp] theorem State.isoCatchUp_mbx (s : State) : (State.isoCatchUp s).mbx = s.mbx := by
  unfold State.isoCatchUp
  split <;> simp

@[simp] theorem State.lostCatchUp_mbx (s : State) : (State.lostCatchUp s).mbx = s.mbx := by
  simp [State.lostCatchUp]

@[simp] theorem State.degPhase_mbx (s : State) : (State.degPhase s).mbx = s.mbx := by
  simp [State.degPhase]

@[simp] theorem State.phaseFault_mbx (s : State) (p c : Nat) : (State.phaseFault s p c).mbx = s.mbx := by
  simp [State.phaseFault]

@[simp] theorem State.requestSwap_mbx (s : State) : (State.requestSwap s).mbx = s.mbx := by
  simp [State.requestSwap]

@[simp] theorem State.autoSwap_mbx (s : State) : (State.autoSwap s).mbx = s.mbx := by
  simp [State.autoSwap]

@[simp] theorem State.addPhases_mbx (s : State) (req : Nat) : (State.addPhases s req).mbx = s.mbx := by
  simp [State.addPhases]

@[simp] theorem State.loadStep_mbx (s : State) : (State.loadStep s).mbx = s.mbx := by
  simp [State.loadStep]

@[simp] theorem State.startOrdered_mbx (s : State) : (State.startOrdered s).mbx = s.mbx := by
  simp [State.startOrdered]

@[simp] theorem State.startShed_mbx (s : State) (p : Nat) : (State.startShed s p).mbx = s.mbx := by
  simp [State.startShed]

@[simp] theorem State.shedDisabled_mbx (s : State) : (State.shedDisabled s).mbx = s.mbx := by
  simp [State.shedDisabled]

@[simp] theorem State.decidePhases_mbx (s : State) : (State.decidePhases s).mbx = s.mbx := by
  unfold State.decidePhases
  dsimp only
  repeat' split
  all_goals simp

@[simp] theorem State.retarget_mbx (s : State) : (State.retarget s).mbx = s.mbx := by
  simp [State.retarget]

@[simp] theorem State.burstStart_mbx (s : State) : (State.burstStart s).mbx = s.mbx := by
  simp [State.burstStart]

@[simp] theorem State.burstStep_mbx (s : State) : (State.burstStep s).mbx = s.mbx := by
  simp [State.burstStep]

@[simp] theorem State.loopBurst_mbx (s : State) : (State.loopBurst s).mbx = s.mbx := by
  simp [State.loopBurst]

@[simp] theorem State.boundaryCounts_mbx (s : State) : (State.boundaryCounts s).mbx = s.mbx := by
  simp [State.boundaryCounts]

@[simp] theorem State.boundaryPhases_mbx (s : State) : (State.boundaryPhases s).mbx = s.mbx := by
  simp [State.boundaryPhases]

@[simp] theorem State.refBoundary_mbx (s : State) : (State.refBoundary s).mbx = s.mbx := by
  simp [State.refBoundary]

@[simp] theorem State.harnessFault_mbx (s : State) (h c : Nat) : (State.harnessFault s h c).mbx = s.mbx := by
  simp [State.harnessFault]

@[simp] theorem State.abandonTrk_mbx (s : State) (kind sev : Nat) : (State.abandonTrk s kind sev).mbx = s.mbx := by
  simp [State.abandonTrk]

@[simp] theorem State.trackStart_mbx (s : State) : (State.trackStart s).mbx = s.mbx := by
  simp [State.trackStart]

@[simp] theorem State.stopStart_mbx (s : State) (rate : Option Nat) : (State.stopStart s rate).mbx = s.mbx := by
  simp [State.stopStart]

@[simp] theorem State.dropCo3_mbx (s : State) : (State.dropCo3 s).mbx = s.mbx := by
  simp [State.dropCo3]

@[simp] theorem State.applyOuter_mbx (s : State) : (State.applyOuter s).mbx = s.mbx := by
  simp [State.applyOuter]

@[simp] theorem State.loadAtBoundary_mbx (s : State) : (State.loadAtBoundary s).mbx = s.mbx := by
  simp [State.loadAtBoundary]

@[simp] theorem State.queuePdu_mbx (s : State) (now : Nat) (apply : Nat) (mode : Nat) (v : Int) : (State.queuePdu s now apply mode v).mbx = s.mbx := by
  unfold State.queuePdu
  dsimp only
  repeat' split
  all_goals simp

@[simp] theorem State.regCommand_mbx (s : State) (m : Nat) (v : Int) : (State.regCommand s m v).mbx = s.mbx := by
  simp [State.regCommand]

@[simp] theorem State.takeCmd_mbx (s0 : State) (c : SetCmd) : (State.takeCmd s0 c).mbx = s0.mbx := by
  simp [State.takeCmd]

@[simp] theorem State.intake_mbx (s : State) (now : Nat) : (State.intake s now).mbx = s.mbx := by
  simp [State.intake]

@[simp] theorem State.limits_mbx (s : State) (dt : Rat) : (State.limits s dt).mbx = s.mbx := by
  simp [State.limits]

@[simp] theorem State.probeSuspend_mbx (s : State) : (State.probeSuspend s).mbx = s.mbx := by
  simp [State.probeSuspend]

@[simp] theorem State.applyClamp_mbx (s : State) (q : Rat) (dtNs : Nat) : (State.applyClamp s q dtNs).1.mbx = s.mbx := by
  simp [State.applyClamp]

@[simp] theorem State.holdTones_mbx (s : State) : (State.holdTones s).mbx = s.mbx := by
  simp [State.holdTones]

@[simp] theorem State.outerLoop_mbx (s : State) (q : Rat) (dtNs : Nat) : (State.outerLoop s q dtNs).mbx = s.mbx := by
  simp [State.outerLoop]

@[simp] theorem State.startMode_mbx (s : State) (m : Nat) : (State.startMode s m).mbx = s.mbx := by
  simp [State.startMode]

@[simp] theorem State.modeChange_mbx (s : State) : (State.modeChange s).mbx = s.mbx := by
  simp [State.modeChange]

@[simp] theorem State.droopStep_mbx (s : State) : (State.droopStep s).mbx = s.mbx := by
  simp [State.droopStep]

@[simp] theorem State.droop_mbx (s : State) : (State.droop s).mbx = s.mbx := by
  simp [State.droop]

@[simp] theorem State.trackTick_mbx (s : State) (dt : Rat) : (State.trackTick s dt).mbx = s.mbx := by
  simp [State.trackTick]

@[simp] theorem State.holdTick_mbx (s0 : State) (dt : Rat) : (State.holdTick s0 dt).mbx = s0.mbx := by
  simp [State.holdTick]

@[simp] theorem State.setRef_mbx (s : State) (q : Rat) (dtNs : Nat) : (State.setRef s q dtNs).mbx = s.mbx := by
  simp [State.setRef]

@[simp] theorem State.linkRef_mbx (s : State) (dtNs : Nat) : (State.linkRef s dtNs).mbx = s.mbx := by
  simp [State.linkRef]

@[simp] theorem State.calRampTick_mbx (s : State) (dtNs : Nat) (dt : Rat) : (State.calRampTick s dtNs dt).mbx = s.mbx := by
  simp [State.calRampTick]

@[simp] theorem State.dispatchEval_mbx (s : State) (now dtNs : Nat) (dt : Rat) : (State.dispatchEval s now dtNs dt).mbx = s.mbx := by
  simp [State.dispatchEval]

@[simp] theorem State.stopEval_mbx (s : State) (now dtNs : Nat) (dt : Rat) : (State.stopEval s now dtNs dt).mbx = s.mbx := by
  simp [State.stopEval]

@[simp] theorem State.outerEval_mbx (s : State) (now : Nat) (dtNs : Nat) : (State.outerEval s now dtNs).mbx = s.mbx := by
  unfold State.outerEval
  dsimp only
  repeat' split
  all_goals simp

@[simp] theorem State.missDeadline_mbx (s : State) (now : Nat) : (State.missDeadline s now).mbx = s.mbx := by
  simp [State.missDeadline]

@[simp] theorem State.tonesAt_mbx (s0 : State) (now : Nat) : (State.tonesAt s0 now).mbx = s0.mbx := by
  simp [State.tonesAt]

@[simp] theorem State.isum_mbx (s : State) : (State.isum s).mbx = s.mbx := by
  simp [State.isum]

@[simp] theorem State.innerEval_mbx (s : State) (p : Nat) (m : EvalIn) : (State.innerEval s p m).mbx = s.mbx := by
  simp [State.innerEval]

@[simp] theorem State.rampStep_mbx (s : State) (p : Nat) (m : EvalIn) : (State.rampStep s p m).mbx = s.mbx := by
  simp [State.rampStep]

@[simp] theorem State.brakeStep_mbx (s : State) (p : Nat) (m : EvalIn) : (State.brakeStep s p m).mbx = s.mbx := by
  simp [State.brakeStep]

@[simp] theorem State.deStep_mbx (s : State) (p : Nat) (m : EvalIn) : (State.deStep s p m).mbx = s.mbx := by
  simp [State.deStep]

@[simp] theorem State.issue_mbx (s : State) (p : Nat) (m : EvalIn) : (State.issue s p m).mbx = s.mbx := by
  simp [State.issue]

@[simp] theorem State.observe_mbx (s : State) (p : Nat) (m : EvalIn) (ma : Int) : (State.observe s p m ma).mbx = s.mbx := by
  simp [State.observe]

@[simp] theorem State.updatePoint_mbx (s : State) (p : Nat) (m : EvalIn) : (State.updatePoint s p m).mbx = s.mbx := by
  simp [State.updatePoint]

@[simp] theorem State.heldPoint_mbx (s0 : State) (p : Nat) (m : EvalIn) : (State.heldPoint s0 p m).mbx = s0.mbx := by
  simp [State.heldPoint]

@[simp] theorem State.ceTap_mbx (s : State) (p : Nat) (m : EvalIn) : (State.ceTap s p m).mbx = s.mbx := by
  unfold State.ceTap
  split <;> simp

@[simp] theorem State.evalWrites_mbx (s : State) (p : Nat) (m : EvalIn) : (State.evalWrites s p m).mbx = s.mbx := by
  simp [State.evalWrites]

@[simp] theorem State.logSkip_mbx (s : State) (e w : Nat) (ecc : Bool) : (State.logSkip s e w ecc).mbx = s.mbx := by
  simp [State.logSkip]

@[simp] theorem State.announced_mbx (s : State) (m : EntryIn) : (State.announced s m).mbx = s.mbx := by
  simp [State.announced]

@[simp] theorem State.unlessPilot_mbx (s t : State) (h : t.mbx = s.mbx) : (s.unlessPilot t).mbx = s.mbx := by
  unfold State.unlessPilot
  split <;> simp [h]

@[simp] theorem State.swapAtEnd_mbx (s : State) : (State.swapAtEnd s).mbx = s.mbx := by
  simp [State.swapAtEnd]

@[simp] theorem State.swapAtStart_mbx (s : State) : (State.swapAtStart s).mbx = s.mbx := by
  simp [State.swapAtStart]

@[simp] theorem State.push_mbx (s : State) (scope : Nat) : (State.push s scope).mbx = s.mbx := by
  simp [State.push]

@[simp] theorem State.markSnapshot_mbx (s : State) (w : Nat) : (State.markSnapshot s w).mbx = s.mbx := by
  simp [State.markSnapshot]

@[simp] theorem State.advanceEpoch_mbx (s : State) : (State.advanceEpoch s).mbx = s.mbx := by
  simp [State.advanceEpoch]

@[simp] theorem State.takeFc_mbx (s : State) (u : Nat) : (State.takeFc s u).mbx = s.mbx := by
  simp [State.takeFc]

@[simp] theorem State.sendEpoch_mbx (s : State) (u typ ver addr : Nat) (p : List Byte) : (State.sendEpoch s u typ ver addr p).mbx = s.mbx := by
  simp [State.sendEpoch]

@[simp] theorem State.applyBank_mbx (s : State) : (State.applyBank s).mbx = s.mbx := by
  simp [State.applyBank]

@[simp] theorem State.takeAlign_mbx (s : State) : (State.takeAlign s).mbx = s.mbx := by
  simp [State.takeAlign]

@[simp] theorem State.freeze_mbx (s : State) : (State.freeze s).mbx = s.mbx := by
  simp [State.freeze]

@[simp] theorem State.sendBeacon_mbx (s : State) (u txLt startDt : Nat) : (State.sendBeacon s u txLt startDt).mbx = s.mbx := by
  simp [State.sendBeacon]

@[simp] theorem State.sendCmd_mbx (s : State) (u : Nat) (n : Nat) : (State.sendCmd s u n).mbx = s.mbx := by
  unfold State.sendCmd
  split <;> simp

@[simp] theorem State.sendReply_mbx (s : State) (u : Nat) (r0 : JoinReply) : (State.sendReply s u r0).mbx = s.mbx := by
  simp [State.sendReply]

@[simp] theorem State.sendDyn_mbx (s : State) (u : Nat) : (State.sendDyn s u).mbx = s.mbx := by
  unfold State.sendDyn
  repeat' split
  all_goals simp

@[simp] theorem State.rxCount_mbx (s : State) (u n : Nat) (k : RxFail) : (State.rxCount s u n k).mbx = s.mbx := by
  simp [State.rxCount]

@[simp] theorem State.rxAccept_mbx (s : State) (f : RxFrame) : (State.rxAccept s f).mbx = s.mbx := by
  simp [State.rxAccept]

@[simp] theorem State.kackSet_mbx (s : State) (u addr fc : Nat) : (State.kackSet s u addr fc).mbx = s.mbx := by
  simp [State.kackSet]

@[simp] theorem State.joinUnknown_mbx (s : State) (u serial : Nat) : (State.joinUnknown s u serial).mbx = s.mbx := by
  simp [State.joinUnknown]

@[simp] theorem State.queueReply_mbx (s : State) (r : JoinReply) : (State.queueReply s r).mbx = s.mbx := by
  simp [State.queueReply]

@[simp] theorem State.queueCmd_mbx (s : State) (n cmd : Nat) (params : List Nat) (chan : Option Nat) : (State.queueCmd s n cmd params chan).mbx = s.mbx := by
  simp [State.queueCmd]

@[simp] theorem State.joined_mbx (s : State) (r : JoinReply) : (State.joined s r).mbx = s.mbx := by
  simp [State.joined]

@[simp] theorem State.linkFrameStart_mbx (s : State) : (State.linkFrameStart s).mbx = s.mbx := by
  simp [State.linkFrameStart]

@[simp] theorem State.updEnd_mbx (s : State) : (State.updEnd s).mbx = s.mbx := by
  simp [State.updEnd]

@[simp] theorem State.updDisturbed_mbx (s : State) : (State.updDisturbed s).mbx = s.mbx := by
  simp [State.updDisturbed]

@[simp] theorem State.updFault_mbx (s : State) (src what item : Nat) : (State.updFault s src what item).mbx = s.mbx := by
  simp [State.updFault]

@[simp] theorem State.confirm_mbx (s : State) : (State.confirm s).mbx = s.mbx := by
  simp [State.confirm]

@[simp] theorem State.rollCheck_mbx (s : State) : (State.rollCheck s).mbx = s.mbx := by
  simp [State.rollCheck]

@[simp] theorem State.rollLeave_mbx (s : State) (n : Nat) : (State.rollLeave s n).mbx = s.mbx := by
  simp [State.rollLeave]

@[simp] theorem State.rollSweep_mbx (s : State) (n : Nat) : (State.rollSweep s n).mbx = s.mbx := by
  simp [State.rollSweep]

@[simp] theorem State.reportDrops_mbx (s : State) : (State.reportDrops s).mbx = s.mbx := by
  unfold State.reportDrops
  repeat' split
  all_goals simp

@[simp] theorem State.logWriteOne_mbx (s : State) : (State.logWriteOne s).mbx = s.mbx := by
  unfold State.logWriteOne
  dsimp only
  split <;> simp

@[simp] theorem State.logDrain_mbx (s : State) : (State.logDrain s).mbx = s.mbx := by
  simp [State.logDrain]

@[simp] theorem State.nvmBad_mbx (s : State) (a : Nat) : (State.nvmBad s a).mbx = s.mbx := by
  simp [State.nvmBad]

@[simp] theorem State.nvmUncorrectable_mbx (s : State) (a : Nat) : (State.nvmUncorrectable s a).mbx = s.mbx := by
  simp [State.nvmUncorrectable]

@[simp] theorem State.pd0Backup_mbx (s : State) : (State.pd0Backup s).mbx = s.mbx := by
  simp [State.pd0Backup]

@[simp] theorem State.takePoint_mbx (s : State) : (State.takePoint s).mbx = s.mbx := by
  simp [State.takePoint]

@[simp] theorem State.pointBoundary_mbx (s : State) (k : Nat) : (State.pointBoundary s k).mbx = s.mbx := by
  simp [State.pointBoundary]

@[simp] theorem State.tagTone_mbx (s : State) (k : Nat) (e : Nat × Nat × Nat) : (State.tagTone s k e).mbx = s.mbx := by
  simp [State.tagTone]

@[simp] theorem State.probeLatch_mbx (s : State) (i : Nat) : (State.probeLatch s i).mbx = s.mbx := by
  simp [State.probeLatch]

@[simp] theorem State.tint_mbx (s : State) (g : Nat) (arg : Int) : (State.tint s g arg).mbx = s.mbx := by
  simp [State.tint]

@[simp] theorem State.publish_mbx (s : State) (k g : Nat) (z : Nat × Int) (nd : Bool) : (State.publish s k g z nd).mbx = s.mbx := by
  simp [State.publish]

@[simp] theorem State.takePublish_mbx (s : State) : (State.takePublish s).mbx = s.mbx := by
  simp [State.takePublish]

@[simp] theorem State.closeGroup_mbx (s : State) (k g : Nat) (nd : Bool) (a : PointAcc) : (State.closeGroup s k g nd a).1.mbx = s.mbx := by
  simp [State.closeGroup]

@[simp] theorem State.probeTone_mbx (s : State) (g : Nat) (k : Nat) : (State.probeTone s g k).mbx = s.mbx := by
  unfold State.probeTone
  dsimp only
  repeat' split
  all_goals simp

@[simp] theorem State.probeNode_mbx (s : State) (n : Nat) : (State.probeNode s n).mbx = s.mbx := by
  simp [State.probeNode]

@[simp] theorem State.pointOver_mbx (s : State) (k : Nat) (a : PointAcc) : (State.pointOver s k a).mbx = s.mbx := by
  simp [State.pointOver]

@[simp] theorem State.closeRest_mbx (s : State) (k : Nat) (nd : Bool) (a : PointAcc) : (State.closeRest s k nd a).mbx = s.mbx := by
  simp [State.closeRest]

@[simp] theorem State.probeMissed_mbx (s : State) (k : Nat) : (State.probeMissed s k).mbx = s.mbx := by
  simp [State.probeMissed]

@[simp] theorem State.probeEndTone_mbx (s : State) (k : Nat) : (State.probeEndTone s k).mbx = s.mbx := by
  unfold State.probeEndTone
  simp only []
  split <;> simp

@[simp] theorem State.probeSwapTone_mbx (s : State) (k : Nat) : (State.probeSwapTone s k).mbx = s.mbx := by
  simp [State.probeSwapTone]

@[simp] theorem State.probeEnd_mbx (s : State) : (State.probeEnd s).mbx = s.mbx := by
  simp [State.probeEnd]

@[simp] theorem State.loadTones_mbx (s : State) : (State.loadTones s).mbx = s.mbx := by
  simp [State.loadTones]

@[simp] theorem State.queueTiming_mbx (s : State) (n ns : Nat) : (State.queueTiming s n ns).mbx = s.mbx := by
  simp [State.queueTiming]

@[simp] theorem State.queueLimits_mbx (s : State) (n : Nat) : (State.queueLimits s n).mbx = s.mbx := by
  simp [State.queueLimits]

@[simp] theorem State.logUncounted_mbx (s : State) (qint : Int) : (State.logUncounted s qint).mbx = s.mbx := by
  simp [State.logUncounted]

@[simp] theorem State.latch_mbx (s : State) (w : Nat) (ma vStr vBus dq : Int) : (State.latch s w ma vStr vBus dq).mbx = s.mbx := by
  simp [State.latch]

@[simp] theorem State.modNode_mbx (s : State) (n : Nat) (f : Nat → GroupRec → GroupRec) : (State.modNode s n f).mbx = s.mbx := by
  simp [State.modNode]

@[simp] theorem State.writeStale_mbx (s : State) (n own : Nat) (rep : Option Nat) : (State.writeStale s n own rep).mbx = s.mbx := by
  simp [State.writeStale]

@[simp] theorem State.tofTake_mbx (s : State) (n : Nat) (sample : Rat) : (State.tofTake s n sample).mbx = s.mbx := by
  simp [State.tofTake]

@[simp] theorem State.tofSample_mbx (s : State) (u : Nat) (n : Nat) (r : Report) (rxLt : Nat) : (State.tofSample s u n r rxLt).mbx = s.mbx := by
  unfold State.tofSample
  split
  · rfl
  · split
    · rfl
    · dsimp only
      split <;> simp

@[simp] theorem State.degWire_mbx (s : State) : (State.degWire s).mbx = s.mbx := by
  simp [State.degWire]

@[simp] theorem State.openWire_mbx (s : State) (n k : Nat) (tval : Int) : (State.openWire s n k tval).mbx = s.mbx := by
  simp [State.openWire]

@[simp] theorem State.logBst_mbx (s : State) (n p row : Nat) : (State.logBst s n p row).mbx = s.mbx := by
  simp [State.logBst]

@[simp] theorem State.logRow_mbx (s : State) (n r fresh : Nat) : (State.logRow s n r fresh).mbx = s.mbx := by
  simp [State.logRow]

@[simp] theorem State.passDone_mbx (s : State) (n : Nat) (pass : List (Option Nat)) : (State.passDone s n pass).mbx = s.mbx := by
  simp [State.passDone]

@[simp] theorem State.switchTest_mbx (s : State) (n p v : Nat) (tval : Int) : (State.switchTest s n p v tval).mbx = s.mbx := by
  simp [State.switchTest]

@[simp] theorem State.testResult_mbx (s : State) (n : Nat) (r : Report) : (State.testResult s n r).mbx = s.mbx := by
  simp [State.testResult]

@[simp] theorem State.nodeSum_mbx (s : State) (n : Nat) (r : Report) : (State.nodeSum s n r).mbx = s.mbx := by
  simp [State.nodeSum]

@[simp] theorem State.sagSweep_mbx (s : State) (n : Nat) (r : Report) : (State.sagSweep s n r).mbx = s.mbx := by
  simp [State.sagSweep]

@[simp] theorem State.writeValid_mbx (s : State) (n : Nat) (r : Report) : (State.writeValid s n r).mbx = s.mbx := by
  simp [State.writeValid]

@[simp] theorem State.sweep_mbx (s : State) (u n rxLt : Nat) (p : List Byte) : (State.sweep s u n rxLt p).mbx = s.mbx := by
  simp [State.sweep]

@[simp] theorem State.nodeEnd_mbx (s : State) (n : Nat) : (State.nodeEnd s n).mbx = s.mbx := by
  simp [State.nodeEnd]

@[simp] theorem State.stringSum_mbx (s : State) : (State.stringSum s).mbx = s.mbx := by
  simp [State.stringSum]

@[simp] theorem State.logPatterns_mbx (s : State) (n : Nat) : (State.logPatterns s n).mbx = s.mbx := by
  simp [State.logPatterns]

@[simp] theorem State.nodePattern_mbx (s : State) (full : Bool) (n : Nat) : (State.nodePattern s full n).mbx = s.mbx := by
  simp [State.nodePattern]

@[simp] theorem State.stringPattern_mbx (s : State) : (State.stringPattern s).mbx = s.mbx := by
  simp [State.stringPattern]

@[simp] theorem State.patterns_mbx (s : State) (full : Bool) : (State.patterns s full).mbx = s.mbx := by
  simp [State.patterns]

@[simp] theorem State.degLost_mbx (s : State) : (State.degLost s).mbx = s.mbx := by
  simp [State.degLost]

@[simp] theorem State.measureEnd_mbx (s : State) : (State.measureEnd s).mbx = s.mbx := by
  simp [State.measureEnd]

@[simp] theorem State.halfSum_mbx (s : State) (n k : Nat) : (State.halfSum s n k).mbx = s.mbx := by
  simp [State.halfSum]

@[simp] theorem State.voltages_mbx (s : State) (n : Nat) : (State.voltages s n).mbx = s.mbx := by
  simp [State.voltages]

@[simp] theorem State.countRec_mbx (s : State) (g : Nat) (dq : Int) : (State.countRec s g dq).mbx = s.mbx := by
  simp [State.countRec]

@[simp] theorem State.armedCycle_mbx (s : State) (g : Nat) (dq : Int) : (State.armedCycle s g dq).mbx = s.mbx := by
  simp [State.armedCycle]

@[simp] theorem State.fullAnchor_mbx (s : State) (g : Nat) : (State.fullAnchor s g).mbx = s.mbx := by
  simp [State.fullAnchor]

@[simp] theorem State.learn_mbx (s : State) (g : Nat) : (State.learn s g).mbx = s.mbx := by
  simp [State.learn]

@[simp] theorem State.emptyAnchor_mbx (s : State) (g : Nat) : (State.emptyAnchor s g).mbx = s.mbx := by
  simp [State.emptyAnchor]

@[simp] theorem State.ocvAnchor_mbx (s : State) (g : Nat) : (State.ocvAnchor s g).mbx = s.mbx := by
  unfold State.ocvAnchor
  dsimp only
  repeat' split
  all_goals simp

@[simp] theorem State.disagreeCheck_mbx (s : State) (g : Nat) : (State.disagreeCheck s g).mbx = s.mbx := by
  simp [State.disagreeCheck]

@[simp] theorem State.cutoffCheck_mbx (s : State) (g : Nat) : (State.cutoffCheck s g).mbx = s.mbx := by
  simp [State.cutoffCheck]

@[simp] theorem State.qRepUpdate_mbx (s : State) (g : Nat) : (State.qRepUpdate s g).mbx = s.mbx := by
  simp [State.qRepUpdate]

@[simp] theorem State.chargeGroup_mbx (s : State) (g : Nat) : (State.chargeGroup s g).mbx = s.mbx := by
  simp [State.chargeGroup]

@[simp] theorem State.chargeNode_mbx (s : State) (n : Nat) : (State.chargeNode s n).mbx = s.mbx := by
  simp [State.chargeNode]

@[simp] theorem State.coneNode_mbx (s : State) (n : Nat) : (State.coneNode s n).mbx = s.mbx := by
  simp [State.coneNode]

@[simp] theorem State.direction_mbx (s0 : State) : (State.direction s0).mbx = s0.mbx := by
  simp [State.direction]

@[simp] theorem State.balLosses_mbx (s : State) : (State.balLosses s).mbx = s.mbx := by
  simp [State.balLosses]

@[simp] theorem State.stringReports_mbx (s : State) : (State.stringReports s).mbx = s.mbx := by
  simp [State.stringReports]

@[simp] theorem State.estLimits_mbx (s : State) : (State.estLimits s).mbx = s.mbx := by
  simp [State.estLimits]

@[simp] theorem State.crossing_mbx (s : State) (side level dir crit g : Nat) : (State.crossing s side level dir crit g).mbx = s.mbx := by
  simp [State.crossing]

@[simp] theorem State.crossings_mbx (s : State) (side old new : Nat) : (State.crossings s side old new).mbx = s.mbx := by
  simp [State.crossings]

@[simp] theorem State.stringCones_mbx (s : State) : (State.stringCones s).mbx = s.mbx := by
  simp [State.stringCones]

@[simp] theorem State.coneCatchUp_mbx (s : State) : (State.coneCatchUp s).mbx = s.mbx := by
  simp [State.coneCatchUp]

@[simp] theorem State.adoptGroup_mbx (s : State) (g : Nat) : (State.adoptGroup s g).mbx = s.mbx := by
  simp [State.adoptGroup]

@[simp] theorem State.adoptAll_mbx (s : State) : (State.adoptAll s).mbx = s.mbx := by
  simp [State.adoptAll]

@[simp] theorem State.calEnd_mbx (s : State) : (State.calEnd s).mbx = s.mbx := by
  simp [State.calEnd]

@[simp] theorem State.calCheck_mbx (s : State) : (State.calCheck s).mbx = s.mbx := by
  simp [State.calCheck]

@[simp] theorem State.ceString_mbx (s : State) : (State.ceString s).mbx = s.mbx := by
  simp [State.ceString]

@[simp] theorem State.estimateEnd_mbx (s : State) : (State.estimateEnd s).mbx = s.mbx := by
  simp [State.estimateEnd]

@[simp] theorem State.capCommitEnd_mbx (s : State) (ok : Bool) : (State.capCommitEnd s ok).mbx = s.mbx := by
  simp [State.capCommitEnd]

@[simp] theorem State.thmConvert_mbx (s : State) : (State.thmConvert s).mbx = s.mbx := by
  simp [State.thmConvert]

@[simp] theorem State.thmTake_mbx (s : State) (src : Nat) (mask : Nat) (x : ThmIn) : (State.thmTake s src mask x).mbx = s.mbx := by
  unfold State.thmTake
  split <;> simp

@[simp] theorem State.thmModel_mbx (s : State) (p : Nat) : (State.thmModel s p).mbx = s.mbx := by
  simp [State.thmModel]

@[simp] theorem State.thmPhase_mbx (s : State) (p : Nat) : (State.thmPhase s p).mbx = s.mbx := by
  simp [State.thmPhase]

@[simp] theorem State.thmGroup_mbx (s : State) (g : Nat) : (State.thmGroup s g).mbx = s.mbx := by
  simp [State.thmGroup]

@[simp] theorem State.thmFrame_mbx (s : State) : (State.thmFrame s).mbx = s.mbx := by
  simp [State.thmFrame]

@[simp] theorem State.degThermal_mbx (s : State) : (State.degThermal s).mbx = s.mbx := by
  simp [State.degThermal]

@[simp] theorem State.factors_mbx (s : State) : (State.factors s).mbx = s.mbx := by
  simp [State.factors]

@[simp] theorem State.derateMsg_mbx (s : State) (chg : Bool) (kind limit : Nat) : (State.derateMsg s chg kind limit).mbx = s.mbx := by
  simp [State.derateMsg]

@[simp] theorem State.derateLog_mbx (s : State) (chg : Bool) (kind limit : Nat) : (State.derateLog s chg kind limit).mbx = s.mbx := by
  simp [State.derateLog]

@[simp] theorem State.derateStep_mbx (s : State) (chg : Bool) : (State.derateStep s chg).mbx = s.mbx := by
  unfold State.derateStep
  dsimp only
  split <;> simp

@[simp] theorem State.thmCatchUp_mbx (s : State) : (State.thmCatchUp s).mbx = s.mbx := by
  simp [State.thmCatchUp]

@[simp] theorem State.thmHot_mbx (s : State) : (State.thmHot s).mbx = s.mbx := by
  simp [State.thmHot]

@[simp] theorem State.thmTick_mbx (s : State) : (State.thmTick s).mbx = s.mbx := by
  simp [State.thmTick]

@[simp] theorem State.batchNode_mbx (s : State) (w n : Nat) : (State.batchNode s w n).mbx = s.mbx := by
  simp [State.batchNode]

@[simp] theorem State.toneStats_mbx (s : State) : (State.toneStats s).mbx = s.mbx := by
  simp [State.toneStats]

@[simp] theorem State.latchCheck_mbx (s : State) : (State.latchCheck s).mbx = s.mbx := by
  simp [State.latchCheck]

@[simp] theorem State.applyTables_mbx (s : State) : (State.applyTables s).mbx = s.mbx := by
  simp [State.applyTables]

@[simp] theorem State.applyFrameEnd_mbx (s : State) : (State.applyFrameEnd s).mbx = s.mbx := by
  simp [State.applyFrameEnd]

@[simp] theorem State.abandonRest_mbx (s : State) (now : Nat) : (State.abandonRest s now).mbx = s.mbx := by
  simp [State.abandonRest]

@[simp] theorem State.alignStat_mbx (s : State) : (State.alignStat s).mbx = s.mbx := by
  simp [State.alignStat]

@[simp] theorem State.stepTime_mbx (s : State) : (State.stepTime s).mbx = s.mbx := by
  unfold State.stepTime
  split <;> simp

@[simp] theorem State.adoptPeriod_mbx (s : State) : (State.adoptPeriod s).mbx = s.mbx := by
  unfold State.adoptPeriod
  split <;> simp

@[simp] theorem State.ceFrameStart_mbx (s : State) : (State.ceFrameStart s).mbx = s.mbx := by
  simp [State.ceFrameStart]

@[simp] theorem State.bankChange_mbx (s : State) : (State.bankChange s).mbx = s.mbx := by
  simp [State.bankChange]

@[simp] theorem State.followBank_mbx (s : State) : (State.followBank s).mbx = s.mbx := by
  unfold State.followBank
  split <;> simp

@[simp] theorem State.rejectImages_mbx (s : State) : (State.rejectImages s).mbx = s.mbx := by
  simp [State.rejectImages]

@[simp] theorem State.loadBoot_mbx (s : State) : (State.loadBoot s).mbx = s.mbx := by
  simp [State.loadBoot]

@[simp] theorem State.startFsq_mbx (s : State) : (State.startFsq s).mbx = s.mbx := by
  simp [State.startFsq]

@[simp] theorem State.bootReselect_mbx (s : State) : (State.bootReselect s).mbx = s.mbx := by
  simp [State.bootReselect]

@[simp] theorem State.sagIsolate_mbx (s : State) (c : Nat) : (State.sagIsolate s c).mbx = s.mbx := by
  simp [State.sagIsolate]

@[simp] theorem State.diag_mbx (s : State) (k : Nat) (bad : Bool) : (State.diag s k bad).mbx = s.mbx := by
  simp [State.diag]

@[simp] theorem State.diagFail_mbx (s : State) (k : Nat) : (State.diagFail s k).mbx = s.mbx := by
  simp [State.diagFail]

@[simp] theorem State.diagHard_mbx (s : State) : (State.diagHard s).mbx = s.mbx := by
  simp [State.diagHard]

@[simp] theorem State.coilTestFail_mbx (s : State) (sw : Nat) : (State.coilTestFail s sw).mbx = s.mbx := by
  simp [State.coilTestFail]

@[simp] theorem State.slotSkip_mbx (s : State) (sw : Nat) : (State.slotSkip s sw).mbx = s.mbx := by
  simp [State.slotSkip]

@[simp] theorem State.degSession_mbx (s : State) : (State.degSession s).mbx = s.mbx := by
  simp [State.degSession]

@[simp] theorem State.degNet_mbx (s : State) : (State.degNet s).mbx = s.mbx := by
  simp [State.degNet]

@[simp] theorem State.pduMiss_mbx (s : State) : (State.pduMiss s).mbx = s.mbx := by
  simp [State.pduMiss]

@[simp] theorem State.pduAct_mbx (s0 : State) (p : PortId) (b : List Byte) : (State.pduAct s0 p b).mbx = s0.mbx := by
  simp [State.pduAct]

@[simp] theorem State.pduSecond_mbx (s : State) (b : List Byte) : (State.pduSecond s b).mbx = s.mbx := by
  simp [State.pduSecond]

@[simp] theorem State.pduHeard_mbx (s : State) (p : PortId) (h : Net) : (State.pduHeard s p h).mbx = s.mbx := by
  simp [State.pduHeard]

@[simp] theorem State.pduCopy_mbx (s : State) (p : PortId) (b : List Byte) (h : Net) : (State.pduCopy s p b h).mbx = s.mbx := by
  unfold State.pduCopy
  split <;> simp

@[simp] theorem State.clogAdd_mbx (s : State) (kind source index : Nat) (old new : Int) : (State.clogAdd s kind source index old new).mbx = s.mbx := by
  simp [State.clogAdd]

@[simp] theorem State.cfgCommit_mbx (s : State) (source : Nat) : (State.cfgCommit s source).mbx = s.mbx := by
  simp [State.cfgCommit]

@[simp] theorem State.cfgOpen_mbx (s : State) (source : Nat) : (State.cfgOpen s source).mbx = s.mbx := by
  simp [State.cfgOpen]

@[simp] theorem State.cfgEnd_mbx (s : State) : (State.cfgEnd s).mbx = s.mbx := by
  unfold State.cfgEnd
  split <;> simp

@[simp] theorem State.cfgFail_mbx (s : State) : (State.cfgFail s).mbx = s.mbx := by
  simp [State.cfgFail]

@[simp] theorem State.loginFails_mbx (s : State) (src : Nat) : (State.loginFails s src).mbx = s.mbx := by
  simp [State.loginFails]

@[simp] theorem State.setPassword_mbx (s : State) (pw : List Byte) (source : Nat) : (State.setPassword s pw source).mbx = s.mbx := by
  simp [State.setPassword]

@[simp] theorem State.sagReset_mbx (s : State) (format : Nat) (fw : Nat) : (State.sagReset s format fw).mbx = s.mbx := by
  unfold State.sagReset
  dsimp only
  split
  · exact State.clogAdd_mbx ..
  · exact (State.clogAdd_mbx ..).trans (State.clogAdd_mbx ..)

@[simp] theorem State.settingsLoad_mbx (s : State) : (State.settingsLoad s).mbx = s.mbx := by
  unfold State.settingsLoad
  split <;> simp

@[simp] theorem State.capLoad_mbx (s : State) : (State.capLoad s).mbx = s.mbx := by
  unfold State.capLoad
  split <;> simp

@[simp] theorem State.countLoad_mbx (s : State) : (State.countLoad s).mbx = s.mbx := by
  unfold State.countLoad
  repeat' split
  all_goals simp

@[simp] theorem State.sagLoad_mbx (s : State) : (State.sagLoad s).mbx = s.mbx := by
  unfold State.sagLoad
  split <;> simp

@[simp] theorem State.readStraps_mbx (s : State) : (State.readStraps s).mbx = s.mbx := by
  simp [State.readStraps]

@[simp] theorem State.tvLoad_mbx (s : State) : (State.tvLoad s).mbx = s.mbx := by
  simp [State.tvLoad]

@[simp] theorem State.bootLoad_mbx (s : State) : (State.bootLoad s).mbx = s.mbx := by
  simp [State.bootLoad]

@[simp] theorem State.bootRevert_mbx (s : State) : (State.bootRevert s).mbx = s.mbx := by
  simp [State.bootRevert]

@[simp] theorem State.bootConfirm_mbx (s : State) : (State.bootConfirm s).mbx = s.mbx := by
  simp [State.bootConfirm]

@[simp] theorem State.domainUp_mbx (s : State) (d : Nat) : (State.domainUp s d).mbx = s.mbx := by
  simp [State.domainUp]

@[simp] theorem State.domainDown_mbx (s : State) (d : Nat) : (State.domainDown s d).mbx = s.mbx := by
  unfold State.domainDown
  split <;> simp

@[simp] theorem State.allReady_mbx (s : State) : (State.allReady s).mbx = s.mbx := by
  simp [State.allReady]

@[simp] theorem State.isolateAll_mbx (s : State) (l : List Nat) : (State.isolateAll s l).mbx = s.mbx := by
  unfold State.isolateAll
  split <;> simp

@[simp] theorem State.logItem_mbx (s : State) (detail : Nat) (i : TestItem) : (State.logItem s detail i).mbx = s.mbx := by
  simp [State.logItem]

@[simp] theorem State.testResults_mbx (s : State) (r : SelfTest) : (State.testResults s r).mbx = s.mbx := by
  simp [State.testResults]

@[simp] theorem State.startLost_mbx (s : State) (n : Nat) : (State.startLost s n).mbx = s.mbx := by
  simp [State.startLost]

@[simp] theorem State.setFeed_mbx (s : State) (b : Bool) (on : Bool) : (State.setFeed s b on).mbx = s.mbx := by
  simp [State.setFeed]

@[simp] theorem State.boRamp_mbx (s : State) : (State.boRamp s).mbx = s.mbx := by
  simp [State.boRamp]

@[simp] theorem State.boCommit_mbx (s : State) : (State.boCommit s).mbx = s.mbx := by
  simp [State.boCommit]

@[simp] theorem State.pairFault_mbx (s : State) (kind : Nat) : (State.pairFault s kind).mbx = s.mbx := by
  simp [State.pairFault]

@[simp] theorem State.clashCheck_mbx (s : State) (h : Partner) (higher : Bool) : (State.clashCheck s h higher).mbx = s.mbx := by
  simp [State.clashCheck]

@[simp] theorem State.heartbeat_mbx (s : State) (h : Partner) (higher : Bool) : (State.heartbeat s h higher).mbx = s.mbx := by
  simp [State.heartbeat]

@[simp] theorem State.adopt_mbx (s : State) (m : Mirror) (seq : Nat) : (State.adopt s m seq).mbx = s.mbx := by
  simp [State.adopt]

@[simp] theorem State.sendTake_mbx (s : State) (now : Nat) : (State.sendTake s now).mbx = s.mbx := by
  simp [State.sendTake]

@[simp] theorem State.sendReady_mbx (s : State) : (State.sendReady s).mbx = s.mbx := by
  simp [State.sendReady]

@[simp] theorem State.swapFailed_mbx (s : State) : (State.swapFailed s).mbx = s.mbx := by
  simp [State.swapFailed]

@[simp] theorem State.takeHarness_mbx (s : State) : (State.takeHarness s).mbx = s.mbx := by
  simp [State.takeHarness]

@[simp] theorem State.fromCopy_mbx (s : State) (m : Mirror) : (State.fromCopy s m).mbx = s.mbx := by
  simp [State.fromCopy]

@[simp] theorem State.wantFor_mbx (s : State) (st : OpState) (disp : Bool) : (State.wantFor s st disp).mbx = s.mbx := by
  simp [State.wantFor]

@[simp] theorem State.dropCoef_mbx (s : State) : (State.dropCoef s).mbx = s.mbx := by
  simp [State.dropCoef]

@[simp] theorem State.ceFresh_mbx (s : State) : (State.ceFresh s).mbx = s.mbx := by
  simp [State.ceFresh]

@[simp] theorem State.latchShadows_mbx (s : State) : (State.latchShadows s).mbx = s.mbx := by
  simp [State.latchShadows]

@[simp] theorem State.afterRead_mbx (s : State) (r : Reg) : (State.afterRead s r).mbx = s.mbx := by
  simp [State.afterRead]

@[simp] theorem State.putPeriod_mbx (s : State) (v : Nat) : (State.putPeriod s v).mbx = s.mbx := by
  simp [State.putPeriod]

@[simp] theorem State.settingDone_mbx (s : State) (i : Nat) (v old : Int) : (State.settingDone s i v old).mbx = s.mbx := by
  simp [State.settingDone]

@[simp] theorem State.putSetting_mbx (s : State) (i : Nat) (v : Int) : (State.putSetting s i v).mbx = s.mbx := by
  unfold State.putSetting
  repeat' split
  all_goals simp

@[simp] theorem State.toDefault_mbx (s : State) (i : Nat) : (State.toDefault s i).mbx = s.mbx := by
  unfold State.toDefault
  split <;> simp

@[simp] theorem State.settingsDefault_mbx (s : State) : (State.settingsDefault s).mbx = s.mbx := by
  simp [State.settingsDefault]

@[simp] theorem State.toNewFormat_mbx (s : State) (i : Nat) : (State.toNewFormat s i).mbx = s.mbx := by
  simp [State.toNewFormat]

@[simp] theorem State.loadNewFormat_mbx (s : State) : (State.loadNewFormat s).mbx = s.mbx := by
  simp [State.loadNewFormat]

@[simp] theorem State.formatStep_mbx (s : State) : (State.formatStep s).mbx = s.mbx := by
  simp [State.formatStep]

@[simp] theorem State.loginState_mbx (s : State) : (State.loginState s).mbx = s.mbx := by
  simp [State.loginState]

@[simp] theorem State.toIsolated_mbx (s : State) : (State.toIsolated s).mbx = s.mbx := by
  simp [State.toIsolated]

@[simp] theorem State.toStandby_mbx (s : State) : (State.toStandby s).mbx = s.mbx := by
  simp [State.toStandby]

@[simp] theorem State.toDegraded_mbx (s : State) : (State.toDegraded s).mbx = s.mbx := by
  simp [State.toDegraded]

@[simp] theorem State.fromDegraded_mbx (s : State) : (State.fromDegraded s).mbx = s.mbx := by
  simp [State.fromDegraded]

@[simp] theorem State.stopDone_mbx (s : State) : (State.stopDone s).mbx = s.mbx := by
  simp [State.stopDone]

@[simp] theorem State.toMaintenance_mbx (s : State) : (State.toMaintenance s).mbx = s.mbx := by
  simp [State.toMaintenance]

@[simp] theorem State.afterTest_mbx (s : State) (owned : Bool) : (State.afterTest s owned).mbx = s.mbx := by
  simp [State.afterTest]

theorem State.row_mbx (s : State) (e : Ev) (t : State) (h : State.row s e = some t) : t.mbx = s.mbx := by
  revert h
  unfold State.row
  repeat' split
  all_goals simp only [Option.some.injEq, reduceCtorEq, false_implies]
  all_goals rintro rfl
  all_goals simp

@[simp] theorem State.dropEv_mbx (s : State) (e : Ev) : (State.dropEv s e).mbx = s.mbx := by
  unfold State.dropEv
  split <;> simp

@[simp] theorem State.takeClass_mbx (s : State) (c : Nat) (p0 : List Ev) : (s.takeClass c p0).1.mbx = s.mbx := by
  induction p0 generalizing s with
  | nil => rfl
  | cons e l ih =>
    simp only [State.takeClass]
    split
    · exact ih s
    · split
      · rename_i h
        exact State.row_mbx _ _ _ h
      · exact (ih _).trans (by simp)

@[simp] theorem State.runClass_mbx (s : State) (c : Nat) : (State.runClass s c).mbx = s.mbx := by
  simp [State.runClass]

@[simp] theorem State.runDegraded_mbx (s : State) : (State.runDegraded s).mbx = s.mbx := by
  simp [State.runDegraded]

@[simp] theorem State.stateMachine_mbx (s : State) : (State.stateMachine s).mbx = s.mbx := by
  simp [State.stateMachine]

@[simp] theorem State.spyEnd_mbx (s : State) : (State.spyEnd s).mbx = s.mbx := by
  simp [State.spyEnd]

@[simp] theorem State.trackClosed_mbx (s : State) : (State.trackClosed s).mbx = s.mbx := by
  simp [State.trackClosed]

@[simp] theorem State.stopOpened_mbx (s : State) : (State.stopOpened s).mbx = s.mbx := by
  simp [State.stopOpened]

@[simp] theorem State.tvCorrect_mbx (s : State) : (State.tvCorrect s).mbx = s.mbx := by
  simp [State.tvCorrect]

@[simp] theorem State.mirrorCorrect_mbx (s : State) : (State.mirrorCorrect s).mbx = s.mbx := by
  simp [State.mirrorCorrect]

@[simp] theorem State.raise_mbx (s : State) (c : Nat) : (State.raise s c).mbx = s.mbx := by
  simp [State.raise]

@[simp] theorem State.sf4_mbx (s : State) : (State.sf4 s).mbx = s.mbx := by
  unfold State.sf4
  dsimp only
  split <;> simp

@[simp] theorem State.tickDiag_mbx (s : State) (k : Nat) (bad : Bool) : (State.tickDiag s k bad).mbx = s.mbx := by
  simp [State.tickDiag]

@[simp] theorem State.protect_mbx (s : State) (m : TickIn) : (State.protect s m).mbx = s.mbx := by
  simp [State.protect]

@[simp] theorem State.tickPins_mbx (s : State) (m : TickIn) : (State.tickPins s m).mbx = s.mbx := by
  simp [State.tickPins]

@[simp] theorem State.degLevels_mbx (s : State) : (State.degLevels s).mbx = s.mbx := by
  simp [State.degLevels]

@[simp] theorem State.pairTick_mbx (s : State) : (State.pairTick s).mbx = s.mbx := by
  simp [State.pairTick]

@[simp] theorem State.tickCounts_mbx (s : State) : (State.tickCounts s).mbx = s.mbx := by
  simp [State.tickCounts]

@[simp] theorem State.speedTick_mbx (s : State) (pct : Nat) : (State.speedTick s pct).mbx = s.mbx := by
  simp [State.speedTick]

@[simp] theorem State.degTick_mbx (s : State) : (State.degTick s).mbx = s.mbx := by
  simp [State.degTick]

@[simp] theorem State.strapTick_mbx (s : State) : (State.strapTick s).mbx = s.mbx := by
  simp [State.strapTick]

@[simp] theorem State.tickWork_mbx (s : State) (m : TickIn) : (State.tickWork s m).mbx = s.mbx := by
  simp [State.tickWork]

@[simp] theorem State.timeTo_mbx (s : State) (st : LmpSt) : (State.timeTo s st).mbx = s.mbx := by
  simp [State.timeTo]

@[simp] theorem State.reselect_mbx (s : State) : (State.reselect s).mbx = s.mbx := by
  unfold State.reselect
  dsimp only
  split <;> simp

@[simp] theorem State.servo_mbx (s : State) (off : Int) (ms : Nat) : (State.servo s off ms).mbx = s.mbx := by
  simp [State.servo]

@[simp] theorem State.loadSecMark_mbx (s : State) : (State.loadSecMark s).mbx = s.mbx := by
  unfold State.loadSecMark
  repeat' split
  all_goals simp

@[simp] theorem State.takeOffset_mbx (s0 : State) (off : Int) (ms : Nat) : (State.takeOffset s0 off ms).mbx = s0.mbx := by
  unfold State.takeOffset
  dsimp only
  split <;> simp

@[simp] theorem State.syncDone_mbx (s : State) (m : PtpMsg) (ingress origin : Int) (ms : Nat) : (State.syncDone s m ingress origin ms).mbx = s.mbx := by
  simp [State.syncDone]

@[simp] theorem State.sourceLost_mbx (s : State) : (State.sourceLost s).mbx = s.mbx := by
  simp [State.sourceLost]

@[simp] theorem State.slotZero_mbx (s : State) : (State.slotZero s).mbx = s.mbx := by
  simp [State.slotZero]

@[simp] theorem State.fire_mbx (s : State) (k : Nat) : (State.fire s k).mbx = s.mbx := by
  simp [State.fire]

@[simp] theorem State.answerWait_mbx (s : State) (c : Nat) (r : Reply) : (State.answerWait s c r).mbx = s.mbx := by
  unfold State.answerWait
  exact State.mbx_foldl _ _ _ (fun t x => by split <;> simp)

@[simp] theorem State.writeParam_mbx (s : State) (i w : Nat) : (State.writeParam s i w).mbx = s.mbx := by
  simp [State.writeParam]

@[simp] theorem State.settingsOpen_mbx (s : State) : (State.settingsOpen s).mbx = s.mbx := by
  simp [State.settingsOpen]

@[simp] theorem State.settingsEnd_mbx (s : State) (ok : Bool) : (State.settingsEnd s ok).mbx = s.mbx := by
  simp [State.settingsEnd]

@[simp] theorem State.writePermit_mbx (s : State) (w : Nat) : (State.writePermit s w).mbx = s.mbx := by
  simp [State.writePermit]

@[simp] theorem State.atTime_mbx (s : State) (t : BitVec 32) : (State.atTime s t).mbx = s.mbx := by
  simp [State.atTime]

@[simp] theorem State.sessReply_mbx (s : State) (i : Nat) (x : Tx) (r : Reply) : (State.sessReply s i x r).mbx = s.mbx := by
  unfold State.sessReply
  split <;> simp

@[simp] theorem State.sessStatus_mbx (s : State) (i : Nat) (x : Tx) (ty status : Nat) : (State.sessStatus s i x ty status).mbx = s.mbx := by
  simp [State.sessStatus]

@[simp] theorem State.looseReply_mbx (s : State) (x : Tx) (r : Reply) : (State.looseReply s x r).mbx = s.mbx := by
  simp [State.looseReply]

@[simp] theorem State.openSession_mbx (s : State) (x : Tx) (v host mask : Nat) (old : Option Session) : (State.openSession s x v host mask old).mbx = s.mbx := by
  simp [State.openSession]

@[simp] theorem State.endSession_mbx (s : State) (i : Nat) : (State.endSession s i).mbx = s.mbx := by
  simp [State.endSession]

@[simp] theorem State.sessWait_mbx (s : State) (i : Nat) (x : Tx) (c : Nat) : (State.sessWait s i x c).mbx = s.mbx := by
  simp [State.sessWait]

@[simp] theorem State.attnDrop_mbx (s : State) (i : Nat) (y : Session) (m : Attn) : (State.attnDrop s i y m).mbx = s.mbx := by
  simp [State.attnDrop]

@[simp] theorem State.dispTake_mbx (s : State) (p : PortId) (b : List Byte) (now : Nat) : (State.dispTake s p b now).mbx = s.mbx := by
  unfold State.dispTake
  split <;> simp

@[simp] theorem State.toPrecharge_mbx (s : State) : (State.toPrecharge s).mbx = s.mbx := by
  simp [State.toPrecharge]

@[simp] theorem State.openStart_mbx (s : State) : (State.openStart s).mbx = s.mbx := by
  simp [State.openStart]

@[simp] theorem State.switchDomain_mbx (s : State) (d : Nat) (on : Bool) : (State.switchDomain s d on).mbx = s.mbx := by
  simp [State.switchDomain]

@[simp] theorem State.selftestStore_mbx (s : State) (r : SelfTest) (run : Nat) : (State.selftestStore s r run).mbx = s.mbx := by
  simp [State.selftestStore]

@[simp] theorem State.selftestAct_mbx (s : State) (r : SelfTest) : (State.selftestAct s r).mbx = s.mbx := by
  unfold State.selftestAct
  dsimp only
  split <;> simp

@[simp] theorem State.loadShadow_mbx (s : State) (k : Nat) (i : SchedImage) : (State.loadShadow s k i).mbx = s.mbx := by
  simp [State.loadShadow]

@[simp] theorem State.askSwap_mbx (s : State) : (State.askSwap s).mbx = s.mbx := by
  simp [State.askSwap]

@[simp] theorem State.calStart_mbx (s : State) : (State.calStart s).mbx = s.mbx := by
  simp [State.calStart]

@[simp] theorem State.capWrite_mbx (s : State) (cap g : Nat) : (State.capWrite s cap g).mbx = s.mbx := by
  simp [State.capWrite]

@[simp] theorem State.drawKey_mbx (s : State) : (State.drawKey s).mbx = s.mbx := by
  simp [State.drawKey]

@[simp] theorem State.pairPut_mbx (s : State) (n serial k : Nat) : (State.pairPut s n serial k).mbx = s.mbx := by
  simp [State.pairPut]

@[simp] theorem State.pairDrop_mbx (s : State) (n : Nat) : (State.pairDrop s n).mbx = s.mbx := by
  simp [State.pairDrop]

@[simp] theorem State.queueKey_mbx (s : State) (n : Nat) : (State.queueKey s n).mbx = s.mbx := by
  simp [State.queueKey]

@[simp] theorem State.keyChange_mbx (s : State) : (State.keyChange s).mbx = s.mbx := by
  simp [State.keyChange]

@[simp] theorem State.logClear_mbx (s : State) (src : Nat) : (State.logClear s src).mbx = s.mbx := by
  simp [State.logClear]

@[simp] theorem State.loginOk_mbx (s : State) (c : Nat) : (State.loginOk s c).mbx = s.mbx := by
  simp [State.loginOk]

@[simp] theorem State.stage_mbx (s : State) (l : List (Nat × Int)) : (State.stage s l).mbx = s.mbx := by
  simp [State.stage]

@[simp] theorem State.sagAbort_mbx (s : State) : (State.sagAbort s).mbx = s.mbx := by
  simp [State.sagAbort]

@[simp] theorem State.clogAckTo_mbx (s : State) (q source : Nat) : (State.clogAckTo s q source).mbx = s.mbx := by
  simp [State.clogAckTo]

@[simp] theorem State.manifestDone_mbx (s : State) : (State.manifestDone s).mbx = s.mbx := by
  unfold State.manifestDone
  split <;> simp

@[simp] theorem State.partDone_mbx (s : State) (k : Nat) : (State.partDone s k).mbx = s.mbx := by
  unfold State.partDone
  repeat' split
  all_goals simp

@[simp] theorem State.blockPut_mbx (s : State) (k n : Nat) (b : List Byte) : (State.blockPut s k n b).mbx = s.mbx := by
  simp [State.blockPut]

@[simp] theorem State.blockReply_mbx (s : State) (i : Nat) (x : Tx) (next : Nat) : (State.blockReply s i x next).mbx = s.mbx := by
  simp [State.blockReply]

@[simp] theorem State.fwdSend_mbx (s : State) (k : Nat) : (State.fwdSend s k).mbx = s.mbx := by
  unfold State.fwdSend
  split <;> simp

@[simp] theorem State.mgpBack_mbx (s : State) : (State.mgpBack s).mbx = s.mbx := by
  simp [State.mgpBack]

@[simp] theorem State.rollBack_mbx (s : State) : (State.rollBack s).mbx = s.mbx := by
  simp [State.rollBack]

@[simp] theorem State.staysAway_mbx (s : State) : (State.staysAway s).mbx = s.mbx := by
  simp [State.staysAway]

@[simp] theorem State.formatChange_mbx (s : State) (old : Nat) : (State.formatChange s old).mbx = s.mbx := by
  simp [State.formatChange]

@[simp] theorem State.rangeLeave_mbx (s : State) : (State.rangeLeave s).mbx = s.mbx := by
  simp [State.rangeLeave]

@[simp] theorem State.afterConfirm_mbx (s : State) (l : List (Nat × Nat)) : (State.afterConfirm s l).mbx = s.mbx := by
  unfold State.afterConfirm
  split <;> simp

@[simp] theorem State.infoGot_mbx (s : State) (q : NodeCmd) (info : Nat) : (State.infoGot s q info).mbx = s.mbx := by
  unfold State.infoGot
  split <;> simp

@[simp] theorem State.fwBegun_mbx (s : State) (n : Nat) : (State.fwBegun s n).mbx = s.mbx := by
  simp [State.fwBegun]

@[simp] theorem State.fwStaged_mbx (s : State) (u n : Nat) : (State.fwStaged s u n).mbx = s.mbx := by
  simp [State.fwStaged]

@[simp] theorem State.ackFw_mbx (s : State) (u : Nat) (n : Nat) (r : Nat) (info : Nat) : (State.ackFw s u n r info).mbx = s.mbx := by
  unfold State.ackFw
  repeat' split
  all_goals simp

theorem State.takeFlight_mbx (s : State) (n : Nat) (t : NodeCmd × State) (h : State.takeFlight s n = some t) : t.2.mbx = s.mbx := by
  revert h
  unfold State.takeFlight
  dsimp only
  repeat' split
  all_goals simp only [Option.some.injEq, reduceCtorEq, false_implies]
  all_goals rintro rfl
  all_goals simp

@[simp] theorem State.spyWrote_mbx (s : State) : (State.spyWrote s).mbx = s.mbx := by
  simp [State.spyWrote]

end Sys2Proof.Machine

namespace Sys2Proof.Machine
/-- A fold of updates that keep the field keeps it. -/
@[simp] theorem State.fsq_bank0_foldl {β : Type} (f : State → β → State) (l : List β) (s : State) (h : ∀ t x, (f t x).fsq.bank0 = t.fsq.bank0) :
    (l.foldl f s).fsq.bank0 = s.fsq.bank0 := by
  induction l generalizing s with
  | nil => rfl
  | cons x l ih => rw [List.foldl_cons, ih, h]

@[simp] theorem State.swapAtEnd_fsq_bank0 (s : State) : (State.swapAtEnd s).fsq.bank0 = s.fsq.bank0 := by
  unfold State.swapAtEnd
  split <;> simp

@[simp] theorem State.swapAtStart_fsq_bank0 (s : State) : (State.swapAtStart s).fsq.bank0 = s.fsq.bank0 := by
  unfold State.swapAtStart
  dsimp only
  split <;> simp

@[simp] theorem State.markSnapshot_fsq_bank0 (s : State) (w : Nat) : (State.markSnapshot s w).fsq.bank0 = s.fsq.bank0 := by
  simp [State.markSnapshot]

@[simp] theorem State.takeAlign_fsq_bank0 (s : State) : (State.takeAlign s).fsq.bank0 = s.fsq.bank0 := by
  unfold State.takeAlign
  split <;> simp

@[simp] theorem State.freeze_fsq_bank0 (s : State) : (State.freeze s).fsq.bank0 = s.fsq.bank0 := by
  unfold State.freeze
  dsimp only
  repeat' split
  all_goals simp

@[simp] theorem State.sendBeacon_fsq_bank0 (s : State) (u txLt startDt : Nat) : (State.sendBeacon s u txLt startDt).fsq.bank0 = s.fsq.bank0 := by
  simp [State.sendBeacon]

@[simp] theorem State.latch_fsq_bank0 (s : State) (w : Nat) (ma vStr vBus dq : Int) : (State.latch s w ma vStr vBus dq).fsq.bank0 = s.fsq.bank0 := by
  simp [State.latch]

@[simp] theorem State.toneStats_fsq_bank0 (s : State) : (State.toneStats s).fsq.bank0 = s.fsq.bank0 := by
  unfold State.toneStats
  split <;> simp

@[simp] theorem State.frameEndWork_fsq_bank0 (s : State) : (State.frameEndWork s).fsq.bank0 = s.fsq.bank0 := by
  simp [State.frameEndWork]

@[simp] theorem State.alignStat_fsq_bank0 (s : State) : (State.alignStat s).fsq.bank0 = s.fsq.bank0 := by
  simp [State.alignStat]

@[simp] theorem State.stepTime_fsq_bank0 (s : State) : (State.stepTime s).fsq.bank0 = s.fsq.bank0 := by
  unfold State.stepTime
  repeat' split
  all_goals simp

@[simp] theorem State.adoptPeriod_fsq_bank0 (s : State) : (State.adoptPeriod s).fsq.bank0 = s.fsq.bank0 := by
  unfold State.adoptPeriod
  repeat' split
  all_goals simp

@[simp] theorem State.bankChange_fsq_bank0 (s : State) : (State.bankChange s).fsq.bank0 = s.fsq.bank0 := by
  unfold State.bankChange
  split <;> simp

@[simp] theorem State.followBank_fsq_bank0 (s : State) : (State.followBank s).fsq.bank0 = s.fsq.bank0 := by
  unfold State.followBank
  repeat' split
  all_goals simp

@[simp] theorem State.heartbeat_fsq_bank0 (s : State) (h : Partner) (higher : Bool) : (State.heartbeat s h higher).fsq.bank0 = s.fsq.bank0 := by
  unfold State.heartbeat
  dsimp only
  repeat' split
  all_goals simp

@[simp] theorem State.adopt_fsq_bank0 (s : State) (m : Mirror) (seq : Nat) : (State.adopt s m seq).fsq.bank0 = s.fsq.bank0 := by
  simp [State.adopt]

@[simp] theorem State.takeHarness_fsq_bank0 (s : State) : (State.takeHarness s).fsq.bank0 = s.fsq.bank0 := by
  simp [State.takeHarness]

@[simp] theorem State.putPeriod_fsq_bank0 (s : State) (v : Nat) : (State.putPeriod s v).fsq.bank0 = s.fsq.bank0 := by
  unfold State.putPeriod
  split <;> simp

@[simp] theorem State.putSetting_fsq_bank0 (s : State) (i : Nat) (v : Int) : (State.putSetting s i v).fsq.bank0 = s.fsq.bank0 := by
  unfold State.putSetting
  repeat' split
  all_goals simp

@[simp] theorem State.toDefault_fsq_bank0 (s : State) (i : Nat) : (State.toDefault s i).fsq.bank0 = s.fsq.bank0 := by
  unfold State.toDefault
  split <;> simp

@[simp] theorem State.settingsDefault_fsq_bank0 (s : State) : (State.settingsDefault s).fsq.bank0 = s.fsq.bank0 := by
  simp [State.settingsDefault]

@[simp] theorem State.toNewFormat_fsq_bank0 (s : State) (i : Nat) : (State.toNewFormat s i).fsq.bank0 = s.fsq.bank0 := by
  unfold State.toNewFormat
  repeat' split
  all_goals simp

@[simp] theorem State.loadNewFormat_fsq_bank0 (s : State) : (State.loadNewFormat s).fsq.bank0 = s.fsq.bank0 := by
  simp [State.loadNewFormat]

@[simp] theorem State.formatStep_fsq_bank0 (s : State) : (State.formatStep s).fsq.bank0 = s.fsq.bank0 := by
  unfold State.formatStep
  split <;> simp

@[simp] theorem State.stateMachine_fsq_bank0 (s : State) : (State.stateMachine s).fsq.bank0 = s.fsq.bank0 := by
  unfold State.stateMachine
  repeat' split
  all_goals simp

@[simp] theorem State.tvCorrect_fsq_bank0 (s : State) : (State.tvCorrect s).fsq.bank0 = s.fsq.bank0 := by
  simp [State.tvCorrect]

@[simp] theorem State.tickWork_fsq_bank0 (s : State) (m : TickIn) : (State.tickWork s m).fsq.bank0 = s.fsq.bank0 := by
  simp [State.tickWork]

@[simp] theorem State.writeParam_fsq_bank0 (s : State) (i w : Nat) : (State.writeParam s i w).fsq.bank0 = s.fsq.bank0 := by
  unfold State.writeParam
  split <;> simp

@[simp] theorem State.formatChange_fsq_bank0 (s : State) (old : Nat) : (State.formatChange s old).fsq.bank0 = s.fsq.bank0 := by
  unfold State.formatChange
  split <;> simp

@[simp] theorem State.newReady_fsq_bank0 (s : State) : (State.newReady s).fsq.bank0 = s.fsq.bank0 := by
  simp [State.newReady]

/-- A fold of updates that keep the field keeps it. -/
@[simp] theorem State.fsq_bank1_foldl {β : Type} (f : State → β → State) (l : List β) (s : State) (h : ∀ t x, (f t x).fsq.bank1 = t.fsq.bank1) :
    (l.foldl f s).fsq.bank1 = s.fsq.bank1 := by
  induction l generalizing s with
  | nil => rfl
  | cons x l ih => rw [List.foldl_cons, ih, h]

@[simp] theorem State.swapAtEnd_fsq_bank1 (s : State) : (State.swapAtEnd s).fsq.bank1 = s.fsq.bank1 := by
  unfold State.swapAtEnd
  split <;> simp

@[simp] theorem State.swapAtStart_fsq_bank1 (s : State) : (State.swapAtStart s).fsq.bank1 = s.fsq.bank1 := by
  unfold State.swapAtStart
  dsimp only
  split <;> simp

@[simp] theorem State.markSnapshot_fsq_bank1 (s : State) (w : Nat) : (State.markSnapshot s w).fsq.bank1 = s.fsq.bank1 := by
  simp [State.markSnapshot]

@[simp] theorem State.takeAlign_fsq_bank1 (s : State) : (State.takeAlign s).fsq.bank1 = s.fsq.bank1 := by
  unfold State.takeAlign
  split <;> simp

@[simp] theorem State.freeze_fsq_bank1 (s : State) : (State.freeze s).fsq.bank1 = s.fsq.bank1 := by
  unfold State.freeze
  dsimp only
  repeat' split
  all_goals simp

@[simp] theorem State.sendBeacon_fsq_bank1 (s : State) (u txLt startDt : Nat) : (State.sendBeacon s u txLt startDt).fsq.bank1 = s.fsq.bank1 := by
  simp [State.sendBeacon]

@[simp] theorem State.latch_fsq_bank1 (s : State) (w : Nat) (ma vStr vBus dq : Int) : (State.latch s w ma vStr vBus dq).fsq.bank1 = s.fsq.bank1 := by
  simp [State.latch]

@[simp] theorem State.toneStats_fsq_bank1 (s : State) : (State.toneStats s).fsq.bank1 = s.fsq.bank1 := by
  unfold State.toneStats
  split <;> simp

@[simp] theorem State.frameEndWork_fsq_bank1 (s : State) : (State.frameEndWork s).fsq.bank1 = s.fsq.bank1 := by
  simp [State.frameEndWork]

@[simp] theorem State.alignStat_fsq_bank1 (s : State) : (State.alignStat s).fsq.bank1 = s.fsq.bank1 := by
  simp [State.alignStat]

@[simp] theorem State.stepTime_fsq_bank1 (s : State) : (State.stepTime s).fsq.bank1 = s.fsq.bank1 := by
  unfold State.stepTime
  repeat' split
  all_goals simp

@[simp] theorem State.adoptPeriod_fsq_bank1 (s : State) : (State.adoptPeriod s).fsq.bank1 = s.fsq.bank1 := by
  unfold State.adoptPeriod
  repeat' split
  all_goals simp

@[simp] theorem State.bankChange_fsq_bank1 (s : State) : (State.bankChange s).fsq.bank1 = s.fsq.bank1 := by
  unfold State.bankChange
  split <;> simp

@[simp] theorem State.followBank_fsq_bank1 (s : State) : (State.followBank s).fsq.bank1 = s.fsq.bank1 := by
  unfold State.followBank
  repeat' split
  all_goals simp

@[simp] theorem State.loadBoot_fsq_bank1 (s : State) : (State.loadBoot s).fsq.bank1 = s.fsq.bank1 := by
  unfold State.loadBoot
  dsimp only
  split <;> rfl

@[simp] theorem State.startFsq_fsq_bank1 (s : State) : (State.startFsq s).fsq.bank1 = s.fsq.bank1 := by
  simp [State.startFsq]

@[simp] theorem State.bootReselect_fsq_bank1 (s : State) : (State.bootReselect s).fsq.bank1 = s.fsq.bank1 := by
  unfold State.bootReselect
  split <;> simp

@[simp] theorem State.allReady_fsq_bank1 (s : State) : (State.allReady s).fsq.bank1 = s.fsq.bank1 := by
  unfold State.allReady
  split <;> simp

@[simp] theorem State.heartbeat_fsq_bank1 (s : State) (h : Partner) (higher : Bool) : (State.heartbeat s h higher).fsq.bank1 = s.fsq.bank1 := by
  unfold State.heartbeat
  dsimp only
  repeat' split
  all_goals simp

@[simp] theorem State.adopt_fsq_bank1 (s : State) (m : Mirror) (seq : Nat) : (State.adopt s m seq).fsq.bank1 = s.fsq.bank1 := by
  simp [State.adopt]

@[simp] theorem State.takeHarness_fsq_bank1 (s : State) : (State.takeHarness s).fsq.bank1 = s.fsq.bank1 := by
  simp [State.takeHarness]

@[simp] theorem State.putPeriod_fsq_bank1 (s : State) (v : Nat) : (State.putPeriod s v).fsq.bank1 = s.fsq.bank1 := by
  unfold State.putPeriod
  split <;> simp

@[simp] theorem State.putSetting_fsq_bank1 (s : State) (i : Nat) (v : Int) : (State.putSetting s i v).fsq.bank1 = s.fsq.bank1 := by
  unfold State.putSetting
  repeat' split
  all_goals simp

@[simp] theorem State.toDefault_fsq_bank1 (s : State) (i : Nat) : (State.toDefault s i).fsq.bank1 = s.fsq.bank1 := by
  unfold State.toDefault
  split <;> simp

@[simp] theorem State.settingsDefault_fsq_bank1 (s : State) : (State.settingsDefault s).fsq.bank1 = s.fsq.bank1 := by
  simp [State.settingsDefault]

@[simp] theorem State.toNewFormat_fsq_bank1 (s : State) (i : Nat) : (State.toNewFormat s i).fsq.bank1 = s.fsq.bank1 := by
  unfold State.toNewFormat
  repeat' split
  all_goals simp

@[simp] theorem State.loadNewFormat_fsq_bank1 (s : State) : (State.loadNewFormat s).fsq.bank1 = s.fsq.bank1 := by
  simp [State.loadNewFormat]

@[simp] theorem State.formatStep_fsq_bank1 (s : State) : (State.formatStep s).fsq.bank1 = s.fsq.bank1 := by
  unfold State.formatStep
  split <;> simp

@[simp] theorem State.stateMachine_fsq_bank1 (s : State) : (State.stateMachine s).fsq.bank1 = s.fsq.bank1 := by
  unfold State.stateMachine
  repeat' split
  all_goals simp

@[simp] theorem State.tvCorrect_fsq_bank1 (s : State) : (State.tvCorrect s).fsq.bank1 = s.fsq.bank1 := by
  simp [State.tvCorrect]

@[simp] theorem State.tickWork_fsq_bank1 (s : State) (m : TickIn) : (State.tickWork s m).fsq.bank1 = s.fsq.bank1 := by
  simp [State.tickWork]

@[simp] theorem State.writeParam_fsq_bank1 (s : State) (i w : Nat) : (State.writeParam s i w).fsq.bank1 = s.fsq.bank1 := by
  unfold State.writeParam
  split <;> simp

@[simp] theorem State.switchDomain_fsq_bank1 (s : State) (d : Nat) (on : Bool) : (State.switchDomain s d on).fsq.bank1 = s.fsq.bank1 := by
  unfold State.switchDomain
  repeat' split
  all_goals simp

@[simp] theorem State.formatChange_fsq_bank1 (s : State) (old : Nat) : (State.formatChange s old).fsq.bank1 = s.fsq.bank1 := by
  unfold State.formatChange
  split <;> simp

@[simp] theorem State.newReady_fsq_bank1 (s : State) : (State.newReady s).fsq.bank1 = s.fsq.bank1 := by
  simp [State.newReady]

@[simp] theorem State.radioFrameEnd_mbx_ch (s : State) : (State.radioFrameEnd s).mbx.ch = s.mbx.ch := by
  unfold State.radioFrameEnd
  dsimp only
  repeat' split
  all_goals simp

@[simp] theorem State.capCommitStart_mbx_ch (s : State) : (State.capCommitStart s).mbx.ch = s.mbx.ch := by
  unfold State.capCommitStart
  repeat' split
  all_goals simp

@[simp] theorem State.frameEndWork_mbx_ch (s : State) : (State.frameEndWork s).mbx.ch = s.mbx.ch := by
  simp [State.frameEndWork]

@[simp] theorem State.frameStart_mbx_ch (s : State) : (State.frameStart s).mbx.ch = s.mbx.ch := by
  unfold State.frameStart
  split <;> simp

@[simp] theorem State.ownLoad_mbx_ch (s : State) : (State.ownLoad s).mbx.ch = s.mbx.ch := by
  unfold State.ownLoad
  dsimp only
  repeat' split
  all_goals simp

@[simp] theorem State.ownEnd_mbx_ch (s : State) (rb : Bool) : (State.ownEnd s rb).mbx.ch = s.mbx.ch := by
  unfold State.ownEnd
  repeat' split
  all_goals simp

end Sys2Proof.Machine

namespace Sys2Proof.Machine

@[simp] theorem State.probeRestart_fsq (s : State) : (State.probeRestart s).fsq = s.fsq := by
  unfold State.probeRestart
  exact State.fsq_foldl _ _ _ (fun t x => by
    dsimp only
    split <;> split <;> simp)

@[simp] theorem State.probeRestart_mbx (s : State) : (State.probeRestart s).mbx = s.mbx := by
  unfold State.probeRestart
  exact State.mbx_foldl _ _ _ (fun t x => by
    dsimp only
    split <;> split <;> simp)

@[simp] theorem Fsq.traceLine_bank0 (f : Fsq) (e w l c : Nat) : (f.traceLine e w l c).bank0 = f.bank0 := by
  unfold Fsq.traceLine
  split <;> rfl

@[simp] theorem Fsq.traceLine_bank1 (f : Fsq) (e w l c : Nat) : (f.traceLine e w l c).bank1 = f.bank1 := by
  unfold Fsq.traceLine
  split <;> rfl

@[simp] theorem Fsq.countSkip_bank0 (f : Fsq) (e : Bool) : (f.countSkip e).bank0 = f.bank0 := by
  simp [Fsq.countSkip]

@[simp] theorem Fsq.countSkip_bank1 (f : Fsq) (e : Bool) : (f.countSkip e).bank1 = f.bank1 := by
  simp [Fsq.countSkip]

@[simp] theorem Fsq.pass_bank0 (f : Fsq) (e w : Nat) : (Fsq.pass f e w).bank0 = f.bank0 := by
  simp [Fsq.pass]

@[simp] theorem Fsq.pass_bank1 (f : Fsq) (e w : Nat) : (Fsq.pass f e w).bank1 = f.bank1 := by
  simp [Fsq.pass]

@[simp] theorem Fsq.countLate_bank0 (f : Fsq) (w : Nat) : (Fsq.countLate f w).bank0 = f.bank0 := by
  simp [Fsq.countLate]

@[simp] theorem Fsq.countLate_bank1 (f : Fsq) (w : Nat) : (Fsq.countLate f w).bank1 = f.bank1 := by
  simp [Fsq.countLate]

@[simp] theorem Fsq.passOne_bank0 (f : Fsq) (w : Nat) (ecc : Bool) : (Fsq.passOne f w ecc).bank0 = f.bank0 := by
  unfold Fsq.passOne
  dsimp only
  split
  · simp
  · split <;> simp

@[simp] theorem Fsq.passOne_bank1 (f : Fsq) (w : Nat) (ecc : Bool) : (Fsq.passOne f w ecc).bank1 = f.bank1 := by
  unfold Fsq.passOne
  dsimp only
  split
  · simp
  · split <;> simp

@[simp] theorem Fsq.passAnnounced_bank0 (now : Nat) (bad : List Nat) (n : Nat) (f : Fsq) :
    (Fsq.passAnnounced now bad n f).bank0 = f.bank0 := by
  induction n generalizing f with
  | zero => rfl
  | succ n ih =>
    unfold Fsq.passAnnounced
    split
    · rw [ih, Fsq.passOne_bank0]
    · rfl

@[simp] theorem Fsq.passAnnounced_bank1 (now : Nat) (bad : List Nat) (n : Nat) (f : Fsq) :
    (Fsq.passAnnounced now bad n f).bank1 = f.bank1 := by
  induction n generalizing f with
  | zero => rfl
  | succ n ih =>
    unfold Fsq.passAnnounced
    split
    · rw [ih, Fsq.passOne_bank1]
    · rfl

@[simp] theorem Fsq.announced_bank0 (f : Fsq) (m : EntryIn) : (Fsq.announced f m).bank0 = f.bank0 := Fsq.passAnnounced_bank0 ..

@[simp] theorem Fsq.announced_bank1 (f : Fsq) (m : EntryIn) : (Fsq.announced f m).bank1 = f.bank1 := Fsq.passAnnounced_bank1 ..

@[simp] theorem Fsq.writeNext_bank0 (f : Fsq) (v : Nat) : (Fsq.writeNext f v).bank0 = f.bank0 := by
  unfold Fsq.writeNext
  repeat' split
  all_goals rfl

@[simp] theorem Fsq.writeNext_bank1 (f : Fsq) (v : Nat) : (Fsq.writeNext f v).bank1 = f.bank1 := by
  unfold Fsq.writeNext
  repeat' split
  all_goals rfl

@[simp] theorem Fsq.traceStart_bank0 (f : Fsq) : (Fsq.traceStart f).bank0 = f.bank0 := by
  unfold Fsq.traceStart
  split <;> rfl

@[simp] theorem Fsq.traceStart_bank1 (f : Fsq) : (Fsq.traceStart f).bank1 = f.bank1 := by
  unfold Fsq.traceStart
  split <;> rfl

@[simp] theorem Fsq.newFrame_bank0 (f : Fsq) (t : Nat) : (Fsq.newFrame f t).bank0 = f.bank0 := by
  simp [Fsq.newFrame]

@[simp] theorem Fsq.newFrame_bank1 (f : Fsq) (t : Nat) : (Fsq.newFrame f t).bank1 = f.bank1 := by
  simp [Fsq.newFrame]

@[simp] theorem Fsq.markNext_bank0 (f : Fsq) : (Fsq.markNext f).bank0 = f.bank0 := by
  simp [Fsq.markNext]

@[simp] theorem Fsq.markNext_bank1 (f : Fsq) : (Fsq.markNext f).bank1 = f.bank1 := by
  simp [Fsq.markNext]

@[simp] theorem Fsq.rc_bank0 (f : Fsq) (i : Nat) : (Fsq.rc f i).bank0 = f.bank0 := by
  unfold Fsq.rc
  split <;> rfl

@[simp] theorem Fsq.rc_bank1 (f : Fsq) (i : Nat) : (Fsq.rc f i).bank1 = f.bank1 := by
  unfold Fsq.rc
  split <;> rfl

end Sys2Proof.Machine

namespace Sys2Proof.Machine
@[simp] theorem State.logSkip_fsq_bank0 (s : State) (e w : Nat) (ecc : Bool) : (State.logSkip s e w ecc).fsq.bank0 = s.fsq.bank0 := by
  simp [State.logSkip]

@[simp] theorem State.announced_fsq_bank0 (s : State) (m : EntryIn) : (State.announced s m).fsq.bank0 = s.fsq.bank0 := by
  simp [State.announced]

@[simp] theorem State.abandonRest_fsq_bank0 (s : State) (now : Nat) : (State.abandonRest s now).fsq.bank0 = s.fsq.bank0 := by
  unfold State.abandonRest
  dsimp only
  split <;> simp

@[simp] theorem State.frameStart_fsq_bank0 (s : State) : (State.frameStart s).fsq.bank0 = s.fsq.bank0 := by
  unfold State.frameStart
  split <;> simp

@[simp] theorem State.handOver_fsq_bank0 (s : State) (now : Nat) : (State.handOver s now).fsq.bank0 = s.fsq.bank0 := by
  simp [State.handOver]

@[simp] theorem State.newOwner_fsq_bank0 (s : State) (kind : Nat) : (State.newOwner s kind).fsq.bank0 = s.fsq.bank0 := by
  simp [State.newOwner]

@[simp] theorem State.takeOver_fsq_bank0 (s : State) (m : Mirror) (kind gap : Nat) : (State.takeOver s m kind gap).fsq.bank0 = s.fsq.bank0 := by
  simp [State.takeOver]

@[simp] theorem State.passOwner_fsq_bank0 (s : State) (now : Nat) (gap : Nat) : (State.passOwner s now gap).fsq.bank0 = s.fsq.bank0 := by
  unfold State.passOwner
  dsimp only
  split
  · simp
  · split <;> simp

@[simp] theorem State.dueOwner_fsq_bank0 (s : State) (now : Nat) : (State.dueOwner s now).fsq.bank0 = s.fsq.bank0 := by
  unfold State.dueOwner
  dsimp only
  repeat' split
  all_goals simp

@[simp] theorem State.clearRc_fsq_bank0 (s : State) (r : Reg) : (State.clearRc s r).fsq.bank0 = s.fsq.bank0 := by
  unfold State.clearRc
  split <;> simp

@[simp] theorem State.askSwap_fsq_bank0 (s : State) : (State.askSwap s).fsq.bank0 = s.fsq.bank0 := by
  simp [State.askSwap]


@[simp] theorem State.logSkip_fsq_bank1 (s : State) (e w : Nat) (ecc : Bool) : (State.logSkip s e w ecc).fsq.bank1 = s.fsq.bank1 := by
  simp [State.logSkip]

@[simp] theorem State.announced_fsq_bank1 (s : State) (m : EntryIn) : (State.announced s m).fsq.bank1 = s.fsq.bank1 := by
  simp [State.announced]

@[simp] theorem State.abandonRest_fsq_bank1 (s : State) (now : Nat) : (State.abandonRest s now).fsq.bank1 = s.fsq.bank1 := by
  unfold State.abandonRest
  dsimp only
  split <;> simp

@[simp] theorem State.frameStart_fsq_bank1 (s : State) : (State.frameStart s).fsq.bank1 = s.fsq.bank1 := by
  unfold State.frameStart
  split <;> simp

@[simp] theorem State.handOver_fsq_bank1 (s : State) (now : Nat) : (State.handOver s now).fsq.bank1 = s.fsq.bank1 := by
  simp [State.handOver]

@[simp] theorem State.newOwner_fsq_bank1 (s : State) (kind : Nat) : (State.newOwner s kind).fsq.bank1 = s.fsq.bank1 := by
  simp [State.newOwner]

@[simp] theorem State.takeOver_fsq_bank1 (s : State) (m : Mirror) (kind gap : Nat) : (State.takeOver s m kind gap).fsq.bank1 = s.fsq.bank1 := by
  simp [State.takeOver]

@[simp] theorem State.passOwner_fsq_bank1 (s : State) (now : Nat) (gap : Nat) : (State.passOwner s now gap).fsq.bank1 = s.fsq.bank1 := by
  unfold State.passOwner
  dsimp only
  split
  · simp
  · split <;> simp

@[simp] theorem State.dueOwner_fsq_bank1 (s : State) (now : Nat) : (State.dueOwner s now).fsq.bank1 = s.fsq.bank1 := by
  unfold State.dueOwner
  dsimp only
  repeat' split
  all_goals simp

@[simp] theorem State.clearRc_fsq_bank1 (s : State) (r : Reg) : (State.clearRc s r).fsq.bank1 = s.fsq.bank1 := by
  unfold State.clearRc
  split <;> simp

@[simp] theorem State.askSwap_fsq_bank1 (s : State) : (State.askSwap s).fsq.bank1 = s.fsq.bank1 := by
  simp [State.askSwap]


@[simp] theorem State.newOwner_fsq (s : State) (kind : Nat) : (State.newOwner s kind).fsq = s.fsq := by
  simp [State.newOwner]


@[simp] theorem State.handOver_mbx (s : State) (now : Nat) : (State.handOver s now).mbx = s.mbx := by
  simp [State.handOver]

@[simp] theorem State.newOwner_mbx (s : State) (kind : Nat) : (State.newOwner s kind).mbx = s.mbx := by
  simp [State.newOwner]

@[simp] theorem State.takeOver_mbx (s : State) (m : Mirror) (kind gap : Nat) : (State.takeOver s m kind gap).mbx = s.mbx := by
  simp [State.takeOver]

@[simp] theorem State.passOwner_mbx (s : State) (now : Nat) (gap : Nat) : (State.passOwner s now gap).mbx = s.mbx := by
  unfold State.passOwner
  dsimp only
  split
  · simp
  · split <;> simp

@[simp] theorem State.dueOwner_mbx (s : State) (now : Nat) : (State.dueOwner s now).mbx = s.mbx := by
  unfold State.dueOwner
  dsimp only
  repeat' split
  all_goals simp


end Sys2Proof.Machine

/-! What leaves the system registers as it is. -/

namespace Sys2Proof.Machine

/-- A fold of updates that keep the field keeps it. -/
@[simp] theorem State.sys_foldl {β : Type} (f : State → β → State) (l : List β) (s : State) (h : ∀ t x, (f t x).sys = t.sys) :
    (l.foldl f s).sys = s.sys := by
  induction l generalizing s with
  | nil => rfl
  | cons x l ih => rw [List.foldl_cons, ih, h]

/-- The field of a choice of states. -/
@[simp] theorem State.sys_ite (c : Prop) [Decidable c] (a b : State) : (if c then a else b).sys = if c then a.sys else b.sys := by
  split <;> rfl

/-- The field of a choice of states beside a value. -/
@[simp] theorem State.sys_itep {α : Type} (c : Prop) [Decidable c] (a b : State × α) :
    (if c then a else b).1.sys = if c then a.1.sys else b.1.sys := by
  split <;> rfl

@[simp] theorem State.logPost_sys (s : State) (src code sev : Nat) (data : List Nat) : (State.logPost s src code sev data).sys = s.sys := by
  simp [State.logPost]

@[simp] theorem State.sendFrom_sys (s : State) (p : PortId) (addr udp : Nat) (b : List Byte) : (State.sendFrom s p addr udp b).sys = s.sys := by
  simp [State.sendFrom]

@[simp] theorem State.sendAttn_sys (s : State) (x : Session) (m : Attn) (p : PortId) (again : Bool) : (State.sendAttn s x m p again).sys = s.sys := by
  simp [State.sendAttn]

@[simp] theorem State.lostNote_sys (s : State) (i : Nat) : (State.lostNote s i).sys = s.sys := by
  unfold State.lostNote
  split <;> simp

@[simp] theorem State.attnTo_sys (s : State) (m : Attn) (i : Nat) : (State.attnTo s m i).sys = s.sys := by
  unfold State.attnTo
  split <;> simp

@[simp] theorem State.attn_sys (s : State) (code sev : Nat) (data : List Nat) : (State.attn s code sev data).sys = s.sys := by
  simp [State.attn]

@[simp] theorem State.clearSetpoints_sys (s : State) : (State.clearSetpoints s).sys = s.sys := by
  simp [State.clearSetpoints]

@[simp] theorem State.syncMode_sys (s : State) : (State.syncMode s).sys = s.sys := by
  simp [State.syncMode]

@[simp] theorem State.leaveSetpoints_sys (s : State) : (State.leaveSetpoints s).sys = s.sys := by
  simp [State.leaveSetpoints]

@[simp] theorem State.outputsRest_sys (s : State) : (State.outputsRest s).sys = s.sys := by
  unfold State.outputsRest
  split <;> simp

@[simp] theorem State.coilService1_sys (s : State) (k : Nat) : (State.coilService1 s k).sys = s.sys := by
  simp [State.coilService1]

@[simp] theorem State.coilService_sys (s : State) : (State.coilService s).sys = s.sys := by
  simp [State.coilService]

@[simp] theorem State.degStart_sys (s : State) : (State.degStart s).sys = s.sys := by
  simp [State.degStart]

@[simp] theorem State.pairSend_sys (s : State) (kind : Nat) (body : List Byte) : (State.pairSend s kind body).sys = s.sys := by
  simp [State.pairSend]

@[simp] theorem State.swapSend_sys (s : State) (sub b : Nat) : (State.swapSend s sub b).sys = s.sys := by
  simp [State.swapSend]

@[simp] theorem State.sendStatus_sys (s : State) : (State.sendStatus s).sys = s.sys := by
  simp [State.sendStatus]

@[simp] theorem State.dropOutputs_sys (s : State) : (State.dropOutputs s).sys = s.sys := by
  simp [State.dropOutputs]

@[simp] theorem State.swapAbandon_sys (s : State) : (State.swapAbandon s).sys = s.sys := by
  unfold State.swapAbandon
  split <;> simp

@[simp] theorem State.lostCatchUp_sys (s : State) : (State.lostCatchUp s).sys = s.sys := by
  simp [State.lostCatchUp]

@[simp] theorem State.degPhase_sys (s : State) : (State.degPhase s).sys = s.sys := by
  simp [State.degPhase]

@[simp] theorem State.phaseFault_sys (s : State) (p c : Nat) : (State.phaseFault s p c).sys = s.sys := by
  simp [State.phaseFault]

@[simp] theorem State.requestSwap_sys (s : State) : (State.requestSwap s).sys = s.sys := by
  simp [State.requestSwap]

@[simp] theorem State.addPhases_sys (s : State) (req : Nat) : (State.addPhases s req).sys = s.sys := by
  simp [State.addPhases]

@[simp] theorem State.loadStep_sys (s : State) : (State.loadStep s).sys = s.sys := by
  simp [State.loadStep]

@[simp] theorem State.startOrdered_sys (s : State) : (State.startOrdered s).sys = s.sys := by
  simp [State.startOrdered]

@[simp] theorem State.startShed_sys (s : State) (p : Nat) : (State.startShed s p).sys = s.sys := by
  simp [State.startShed]

@[simp] theorem State.shedDisabled_sys (s : State) : (State.shedDisabled s).sys = s.sys := by
  simp [State.shedDisabled]

@[simp] theorem State.decidePhases_sys (s : State) : (State.decidePhases s).sys = s.sys := by
  unfold State.decidePhases
  dsimp only
  repeat' split
  all_goals simp

@[simp] theorem State.retarget_sys (s : State) : (State.retarget s).sys = s.sys := by
  simp [State.retarget]

@[simp] theorem State.burstStart_sys (s : State) : (State.burstStart s).sys = s.sys := by
  simp [State.burstStart]

@[simp] theorem State.burstStep_sys (s : State) : (State.burstStep s).sys = s.sys := by
  simp [State.burstStep]

@[simp] theorem State.loopBurst_sys (s : State) : (State.loopBurst s).sys = s.sys := by
  simp [State.loopBurst]

@[simp] theorem State.boundaryCounts_sys (s : State) : (State.boundaryCounts s).sys = s.sys := by
  simp [State.boundaryCounts]

@[simp] theorem State.boundaryPhases_sys (s : State) : (State.boundaryPhases s).sys = s.sys := by
  simp [State.boundaryPhases]

@[simp] theorem State.refBoundary_sys (s : State) : (State.refBoundary s).sys = s.sys := by
  simp [State.refBoundary]

@[simp] theorem State.harnessFault_sys (s : State) (h c : Nat) : (State.harnessFault s h c).sys = s.sys := by
  simp [State.harnessFault]

@[simp] theorem State.abandonTrk_sys (s : State) (kind sev : Nat) : (State.abandonTrk s kind sev).sys = s.sys := by
  simp [State.abandonTrk]

@[simp] theorem State.stopStart_sys (s : State) (rate : Option Nat) : (State.stopStart s rate).sys = s.sys := by
  simp [State.stopStart]

@[simp] theorem State.applyOuter_sys (s : State) : (State.applyOuter s).sys = s.sys := by
  simp [State.applyOuter]

@[simp] theorem State.loadAtBoundary_sys (s : State) : (State.loadAtBoundary s).sys = s.sys := by
  simp [State.loadAtBoundary]

@[simp] theorem State.takeCmd_sys (s0 : State) (c : SetCmd) : (State.takeCmd s0 c).sys = s0.sys := by
  simp [State.takeCmd]

@[simp] theorem State.intake_sys (s : State) (now : Nat) : (State.intake s now).sys = s.sys := by
  simp [State.intake]

@[simp] theorem State.limits_sys (s : State) (dt : Rat) : (State.limits s dt).sys = s.sys := by
  simp [State.limits]

@[simp] theorem State.probeSuspend_sys (s : State) : (State.probeSuspend s).sys = s.sys := by
  simp [State.probeSuspend]

@[simp] theorem State.applyClamp_sys (s : State) (q : Rat) (dtNs : Nat) : (State.applyClamp s q dtNs).1.sys = s.sys := by
  simp [State.applyClamp]

@[simp] theorem State.holdTones_sys (s : State) : (State.holdTones s).sys = s.sys := by
  simp [State.holdTones]

@[simp] theorem State.outerLoop_sys (s : State) (q : Rat) (dtNs : Nat) : (State.outerLoop s q dtNs).sys = s.sys := by
  simp [State.outerLoop]

@[simp] theorem State.startMode_sys (s : State) (m : Nat) : (State.startMode s m).sys = s.sys := by
  simp [State.startMode]

@[simp] theorem State.modeChange_sys (s : State) : (State.modeChange s).sys = s.sys := by
  simp [State.modeChange]

@[simp] theorem State.droopStep_sys (s : State) : (State.droopStep s).sys = s.sys := by
  simp [State.droopStep]

@[simp] theorem State.droop_sys (s : State) : (State.droop s).sys = s.sys := by
  simp [State.droop]

@[simp] theorem State.trackTick_sys (s : State) (dt : Rat) : (State.trackTick s dt).sys = s.sys := by
  simp [State.trackTick]

@[simp] theorem State.holdTick_sys (s0 : State) (dt : Rat) : (State.holdTick s0 dt).sys = s0.sys := by
  simp [State.holdTick]

@[simp] theorem State.setRef_sys (s : State) (q : Rat) (dtNs : Nat) : (State.setRef s q dtNs).sys = s.sys := by
  simp [State.setRef]

@[simp] theorem State.linkRef_sys (s : State) (dtNs : Nat) : (State.linkRef s dtNs).sys = s.sys := by
  simp [State.linkRef]

@[simp] theorem State.calRampTick_sys (s : State) (dtNs : Nat) (dt : Rat) : (State.calRampTick s dtNs dt).sys = s.sys := by
  simp [State.calRampTick]

@[simp] theorem State.dispatchEval_sys (s : State) (now dtNs : Nat) (dt : Rat) : (State.dispatchEval s now dtNs dt).sys = s.sys := by
  simp [State.dispatchEval]

@[simp] theorem State.stopEval_sys (s : State) (now dtNs : Nat) (dt : Rat) : (State.stopEval s now dtNs dt).sys = s.sys := by
  simp [State.stopEval]

@[simp] theorem State.outerEval_sys (s : State) (now : Nat) (dtNs : Nat) : (State.outerEval s now dtNs).sys = s.sys := by
  unfold State.outerEval
  dsimp only
  repeat' split
  all_goals simp

@[simp] theorem State.missDeadline_sys (s : State) (now : Nat) : (State.missDeadline s now).sys = s.sys := by
  simp [State.missDeadline]

@[simp] theorem State.tonesAt_sys (s0 : State) (now : Nat) : (State.tonesAt s0 now).sys = s0.sys := by
  simp [State.tonesAt]

@[simp] theorem State.isum_sys (s : State) : (State.isum s).sys = s.sys := by
  simp [State.isum]

@[simp] theorem State.innerEval_sys (s : State) (p : Nat) (m : EvalIn) : (State.innerEval s p m).sys = s.sys := by
  simp [State.innerEval]

@[simp] theorem State.rampStep_sys (s : State) (p : Nat) (m : EvalIn) : (State.rampStep s p m).sys = s.sys := by
  simp [State.rampStep]

@[simp] theorem State.brakeStep_sys (s : State) (p : Nat) (m : EvalIn) : (State.brakeStep s p m).sys = s.sys := by
  simp [State.brakeStep]

@[simp] theorem State.deStep_sys (s : State) (p : Nat) (m : EvalIn) : (State.deStep s p m).sys = s.sys := by
  simp [State.deStep]

@[simp] theorem State.issue_sys (s : State) (p : Nat) (m : EvalIn) : (State.issue s p m).sys = s.sys := by
  simp [State.issue]

@[simp] theorem State.observe_sys (s : State) (p : Nat) (m : EvalIn) (ma : Int) : (State.observe s p m ma).sys = s.sys := by
  simp [State.observe]

@[simp] theorem State.updatePoint_sys (s : State) (p : Nat) (m : EvalIn) : (State.updatePoint s p m).sys = s.sys := by
  simp [State.updatePoint]

@[simp] theorem State.heldPoint_sys (s0 : State) (p : Nat) (m : EvalIn) : (State.heldPoint s0 p m).sys = s0.sys := by
  simp [State.heldPoint]

@[simp] theorem State.ceTap_sys (s : State) (p : Nat) (m : EvalIn) : (State.ceTap s p m).sys = s.sys := by
  unfold State.ceTap
  split <;> simp

@[simp] theorem State.evalWrites_sys (s : State) (p : Nat) (m : EvalIn) : (State.evalWrites s p m).sys = s.sys := by
  simp [State.evalWrites]

@[simp] theorem State.announced_sys (s : State) (m : EntryIn) : (State.announced s m).sys = s.sys := by
  simp [State.announced]

@[simp] theorem State.applyBank_sys (s : State) : (State.applyBank s).sys = s.sys := by
  simp [State.applyBank]

@[simp] theorem State.queueCmd_sys (s : State) (n cmd : Nat) (params : List Nat) (chan : Option Nat) : (State.queueCmd s n cmd params chan).sys = s.sys := by
  simp [State.queueCmd]

@[simp] theorem State.reportDrops_sys (s : State) : (State.reportDrops s).sys = s.sys := by
  unfold State.reportDrops
  repeat' split
  all_goals simp

@[simp] theorem State.logWriteOne_sys (s : State) : (State.logWriteOne s).sys = s.sys := by
  unfold State.logWriteOne
  dsimp only
  split <;> simp

@[simp] theorem State.logDrain_sys (s : State) : (State.logDrain s).sys = s.sys := by
  simp [State.logDrain]

@[simp] theorem State.nvmBad_sys (s : State) (a : Nat) : (State.nvmBad s a).sys = s.sys := by
  simp [State.nvmBad]

@[simp] theorem State.pd0Backup_sys (s : State) : (State.pd0Backup s).sys = s.sys := by
  simp [State.pd0Backup]

@[simp] theorem State.loadTones_sys (s : State) : (State.loadTones s).sys = s.sys := by
  simp [State.loadTones]

@[simp] theorem State.queueLimits_sys (s : State) (n : Nat) : (State.queueLimits s n).sys = s.sys := by
  simp [State.queueLimits]

@[simp] theorem State.logUncounted_sys (s : State) (qint : Int) : (State.logUncounted s qint).sys = s.sys := by
  simp [State.logUncounted]

@[simp] theorem State.modNode_sys (s : State) (n : Nat) (f : Nat → GroupRec → GroupRec) : (State.modNode s n f).sys = s.sys := by
  simp [State.modNode]

@[simp] theorem State.degWire_sys (s : State) : (State.degWire s).sys = s.sys := by
  simp [State.degWire]

@[simp] theorem State.degLost_sys (s : State) : (State.degLost s).sys = s.sys := by
  simp [State.degLost]

@[simp] theorem State.crossing_sys (s : State) (side level dir crit g : Nat) : (State.crossing s side level dir crit g).sys = s.sys := by
  simp [State.crossing]

@[simp] theorem State.coneCatchUp_sys (s : State) : (State.coneCatchUp s).sys = s.sys := by
  simp [State.coneCatchUp]

@[simp] theorem State.thmConvert_sys (s : State) : (State.thmConvert s).sys = s.sys := by
  simp [State.thmConvert]

@[simp] theorem State.thmTake_sys (s : State) (src : Nat) (mask : Nat) (x : ThmIn) : (State.thmTake s src mask x).sys = s.sys := by
  unfold State.thmTake
  split <;> simp

@[simp] theorem State.thmModel_sys (s : State) (p : Nat) : (State.thmModel s p).sys = s.sys := by
  simp [State.thmModel]

@[simp] theorem State.thmPhase_sys (s : State) (p : Nat) : (State.thmPhase s p).sys = s.sys := by
  simp [State.thmPhase]

@[simp] theorem State.thmGroup_sys (s : State) (g : Nat) : (State.thmGroup s g).sys = s.sys := by
  simp [State.thmGroup]

@[simp] theorem State.degThermal_sys (s : State) : (State.degThermal s).sys = s.sys := by
  simp [State.degThermal]

@[simp] theorem State.factors_sys (s : State) : (State.factors s).sys = s.sys := by
  simp [State.factors]

@[simp] theorem State.derateMsg_sys (s : State) (chg : Bool) (kind limit : Nat) : (State.derateMsg s chg kind limit).sys = s.sys := by
  simp [State.derateMsg]

@[simp] theorem State.derateLog_sys (s : State) (chg : Bool) (kind limit : Nat) : (State.derateLog s chg kind limit).sys = s.sys := by
  simp [State.derateLog]

@[simp] theorem State.derateStep_sys (s : State) (chg : Bool) : (State.derateStep s chg).sys = s.sys := by
  unfold State.derateStep
  dsimp only
  split <;> simp

@[simp] theorem State.thmCatchUp_sys (s : State) : (State.thmCatchUp s).sys = s.sys := by
  simp [State.thmCatchUp]

@[simp] theorem State.thmHot_sys (s : State) : (State.thmHot s).sys = s.sys := by
  simp [State.thmHot]

@[simp] theorem State.thmTick_sys (s : State) : (State.thmTick s).sys = s.sys := by
  simp [State.thmTick]

@[simp] theorem State.alignStat_sys (s : State) : (State.alignStat s).sys = s.sys := by
  simp [State.alignStat]

@[simp] theorem State.ceFrameStart_sys (s : State) : (State.ceFrameStart s).sys = s.sys := by
  simp [State.ceFrameStart]

@[simp] theorem State.rejectImages_sys (s : State) : (State.rejectImages s).sys = s.sys := by
  simp [State.rejectImages]

@[simp] theorem State.loadBoot_sys (s : State) : (State.loadBoot s).sys = s.sys := by
  simp [State.loadBoot]

@[simp] theorem State.startFsq_sys (s : State) : (State.startFsq s).sys = s.sys := by
  simp [State.startFsq]

@[simp] theorem State.bootReselect_sys (s : State) : (State.bootReselect s).sys = s.sys := by
  simp [State.bootReselect]

@[simp] theorem State.diag_sys (s : State) (k : Nat) (bad : Bool) : (State.diag s k bad).sys = s.sys := by
  simp [State.diag]

@[simp] theorem State.slotSkip_sys (s : State) (sw : Nat) : (State.slotSkip s sw).sys = s.sys := by
  simp [State.slotSkip]

@[simp] theorem State.degSession_sys (s : State) : (State.degSession s).sys = s.sys := by
  simp [State.degSession]

@[simp] theorem State.degNet_sys (s : State) : (State.degNet s).sys = s.sys := by
  simp [State.degNet]

@[simp] theorem State.pduMiss_sys (s : State) : (State.pduMiss s).sys = s.sys := by
  simp [State.pduMiss]

@[simp] theorem State.clogAdd_sys (s : State) (kind source index : Nat) (old new : Int) : (State.clogAdd s kind source index old new).sys = s.sys := by
  simp [State.clogAdd]

@[simp] theorem State.cfgCommit_sys (s : State) (source : Nat) : (State.cfgCommit s source).sys = s.sys := by
  simp [State.cfgCommit]

@[simp] theorem State.cfgEnd_sys (s : State) : (State.cfgEnd s).sys = s.sys := by
  unfold State.cfgEnd
  split <;> simp

@[simp] theorem State.readStraps_sys (s : State) : (State.readStraps s).sys = s.sys := by
  simp [State.readStraps]

@[simp] theorem State.allReady_sys (s : State) : (State.allReady s).sys = s.sys := by
  simp [State.allReady]

@[simp] theorem State.logItem_sys (s : State) (detail : Nat) (i : TestItem) : (State.logItem s detail i).sys = s.sys := by
  simp [State.logItem]

@[simp] theorem State.startLost_sys (s : State) (n : Nat) : (State.startLost s n).sys = s.sys := by
  simp [State.startLost]

@[simp] theorem State.boRamp_sys (s : State) : (State.boRamp s).sys = s.sys := by
  simp [State.boRamp]

@[simp] theorem State.boCommit_sys (s : State) : (State.boCommit s).sys = s.sys := by
  simp [State.boCommit]

@[simp] theorem State.pairFault_sys (s : State) (kind : Nat) : (State.pairFault s kind).sys = s.sys := by
  simp [State.pairFault]

@[simp] theorem State.clashCheck_sys (s : State) (h : Partner) (higher : Bool) : (State.clashCheck s h higher).sys = s.sys := by
  simp [State.clashCheck]

@[simp] theorem State.heartbeat_sys (s : State) (h : Partner) (higher : Bool) : (State.heartbeat s h higher).sys = s.sys := by
  simp [State.heartbeat]

@[simp] theorem State.sendTake_sys (s : State) (now : Nat) : (State.sendTake s now).sys = s.sys := by
  simp [State.sendTake]

@[simp] theorem State.putPeriod_sys (s : State) (v : Nat) : (State.putPeriod s v).sys = s.sys := by
  simp [State.putPeriod]

@[simp] theorem State.settingDone_sys (s : State) (i : Nat) (v old : Int) : (State.settingDone s i v old).sys = s.sys := by
  simp [State.settingDone]

@[simp] theorem State.putSetting_sys (s : State) (i : Nat) (v : Int) : (State.putSetting s i v).sys = s.sys := by
  unfold State.putSetting
  repeat' split
  all_goals simp

@[simp] theorem State.toDefault_sys (s : State) (i : Nat) : (State.toDefault s i).sys = s.sys := by
  unfold State.toDefault
  split <;> simp

@[simp] theorem State.toNewFormat_sys (s : State) (i : Nat) : (State.toNewFormat s i).sys = s.sys := by
  simp [State.toNewFormat]

@[simp] theorem State.loadNewFormat_sys (s : State) : (State.loadNewFormat s).sys = s.sys := by
  simp [State.loadNewFormat]

@[simp] theorem State.formatStep_sys (s : State) : (State.formatStep s).sys = s.sys := by
  simp [State.formatStep]

@[simp] theorem State.loginState_sys (s : State) : (State.loginState s).sys = s.sys := by
  simp [State.loginState]

@[simp] theorem State.stopDone_sys (s : State) : (State.stopDone s).sys = s.sys := by
  simp [State.stopDone]

@[simp] theorem State.dropEv_sys (s : State) (e : Ev) : (State.dropEv s e).sys = s.sys := by
  unfold State.dropEv
  split <;> simp

@[simp] theorem State.tickPins_sys (s : State) (m : TickIn) : (State.tickPins s m).sys = s.sys := by
  simp [State.tickPins]

@[simp] theorem State.degLevels_sys (s : State) : (State.degLevels s).sys = s.sys := by
  simp [State.degLevels]

@[simp] theorem State.pairTick_sys (s : State) : (State.pairTick s).sys = s.sys := by
  simp [State.pairTick]

@[simp] theorem State.speedTick_sys (s : State) (pct : Nat) : (State.speedTick s pct).sys = s.sys := by
  simp [State.speedTick]

@[simp] theorem State.degTick_sys (s : State) : (State.degTick s).sys = s.sys := by
  simp [State.degTick]

@[simp] theorem State.strapTick_sys (s : State) : (State.strapTick s).sys = s.sys := by
  simp [State.strapTick]

@[simp] theorem State.reselect_sys (s : State) : (State.reselect s).sys = s.sys := by
  unfold State.reselect
  dsimp only
  split <;> simp

@[simp] theorem State.answerWait_sys (s : State) (c : Nat) (r : Reply) : (State.answerWait s c r).sys = s.sys := by
  unfold State.answerWait
  exact State.sys_foldl _ _ _ (fun t x => by split <;> simp)

@[simp] theorem State.done_sys (s : State) (c code tag rc detail : Nat) (data : List Byte) : (State.done s c code tag rc detail data).sys = s.sys := by
  simp [State.done]

@[simp] theorem State.reply_sys (s : State) (c : Nat) (rc : Nat) (detail : Nat) (data : List Byte) : (State.reply s c rc detail data).sys = s.sys := by
  unfold State.reply
  split <;> simp

@[simp] theorem State.atTime_sys (s : State) (t : BitVec 32) : (State.atTime s t).sys = s.sys := by
  simp [State.atTime]

@[simp] theorem State.capWrite_sys (s : State) (cap g : Nat) : (State.capWrite s cap g).sys = s.sys := by
  simp [State.capWrite]

@[simp] theorem State.heldBusy_sys (s : State) (p : Chan → Bool) : (State.heldBusy s p).sys = s.sys := by
  simp [State.heldBusy]

@[simp] theorem State.formatChange_sys (s : State) (old : Nat) : (State.formatChange s old).sys = s.sys := by
  simp [State.formatChange]

@[simp] theorem State.rangeLeave_sys (s : State) : (State.rangeLeave s).sys = s.sys := by
  simp [State.rangeLeave]

end Sys2Proof.Machine

/-! What leaves the pins as it is. -/

namespace Sys2Proof.Machine

/-- A fold of updates that keep the field keeps it. -/
@[simp] theorem State.pins_foldl {β : Type} (f : State → β → State) (l : List β) (s : State) (h : ∀ t x, (f t x).pins = t.pins) :
    (l.foldl f s).pins = s.pins := by
  induction l generalizing s with
  | nil => rfl
  | cons x l ih => rw [List.foldl_cons, ih, h]

/-- The field of a choice of states. -/
@[simp] theorem State.pins_ite (c : Prop) [Decidable c] (a b : State) : (if c then a else b).pins = if c then a.pins else b.pins := by
  split <;> rfl

/-- The field of a choice of states beside a value. -/
@[simp] theorem State.pins_itep {α : Type} (c : Prop) [Decidable c] (a b : State × α) :
    (if c then a else b).1.pins = if c then a.1.pins else b.1.pins := by
  split <;> rfl

@[simp] theorem State.logPost_pins (s : State) (src code sev : Nat) (data : List Nat) : (State.logPost s src code sev data).pins = s.pins := by
  simp [State.logPost]

@[simp] theorem State.sendFrom_pins (s : State) (p : PortId) (addr udp : Nat) (b : List Byte) : (State.sendFrom s p addr udp b).pins = s.pins := by
  simp [State.sendFrom]

@[simp] theorem State.sendAttn_pins (s : State) (x : Session) (m : Attn) (p : PortId) (again : Bool) : (State.sendAttn s x m p again).pins = s.pins := by
  simp [State.sendAttn]

@[simp] theorem State.lostNote_pins (s : State) (i : Nat) : (State.lostNote s i).pins = s.pins := by
  unfold State.lostNote
  split <;> simp

@[simp] theorem State.attnTo_pins (s : State) (m : Attn) (i : Nat) : (State.attnTo s m i).pins = s.pins := by
  unfold State.attnTo
  split <;> simp

@[simp] theorem State.attn_pins (s : State) (code sev : Nat) (data : List Nat) : (State.attn s code sev data).pins = s.pins := by
  simp [State.attn]

@[simp] theorem State.clearSetpoints_pins (s : State) : (State.clearSetpoints s).pins = s.pins := by
  simp [State.clearSetpoints]

@[simp] theorem State.pairSend_pins (s : State) (kind : Nat) (body : List Byte) : (State.pairSend s kind body).pins = s.pins := by
  simp [State.pairSend]

@[simp] theorem State.sendStatus_pins (s : State) : (State.sendStatus s).pins = s.pins := by
  simp [State.sendStatus]

@[simp] theorem State.dropOutputs_pins (s : State) : (State.dropOutputs s).pins = s.pins := by
  simp [State.dropOutputs]

@[simp] theorem State.swapAbandon_pins (s : State) : (State.swapAbandon s).pins = s.pins := by
  unfold State.swapAbandon
  split <;> simp

@[simp] theorem State.isolate_pins (s : State) (c : Nat) : (State.isolate s c).pins = s.pins := by
  simp [State.isolate]

@[simp] theorem State.logUncounted_pins (s : State) (qint : Int) : (State.logUncounted s qint).pins = s.pins := by
  simp [State.logUncounted]

end Sys2Proof.Machine

/-! What leaves the memory of the cells as it is. -/

namespace Sys2Proof.Machine

/-- A fold of updates that keep the field keeps it. -/
@[simp] theorem State.csm_foldl {β : Type} (f : State → β → State) (l : List β) (s : State) (h : ∀ t x, (f t x).csm = t.csm) :
    (l.foldl f s).csm = s.csm := by
  induction l generalizing s with
  | nil => rfl
  | cons x l ih => rw [List.foldl_cons, ih, h]

/-- The field of a choice of states. -/
@[simp] theorem State.csm_ite (c : Prop) [Decidable c] (a b : State) : (if c then a else b).csm = if c then a.csm else b.csm := by
  split <;> rfl

/-- The field of a choice of states beside a value. -/
@[simp] theorem State.csm_itep {α : Type} (c : Prop) [Decidable c] (a b : State × α) :
    (if c then a else b).1.csm = if c then a.1.csm else b.1.csm := by
  split <;> rfl

@[simp] theorem State.logPost_csm (s : State) (src code sev : Nat) (data : List Nat) : (State.logPost s src code sev data).csm = s.csm := by
  simp [State.logPost]

@[simp] theorem State.sendFrom_csm (s : State) (p : PortId) (addr udp : Nat) (b : List Byte) : (State.sendFrom s p addr udp b).csm = s.csm := by
  simp [State.sendFrom]

@[simp] theorem State.sendAttn_csm (s : State) (x : Session) (m : Attn) (p : PortId) (again : Bool) : (State.sendAttn s x m p again).csm = s.csm := by
  simp [State.sendAttn]

@[simp] theorem State.lostNote_csm (s : State) (i : Nat) : (State.lostNote s i).csm = s.csm := by
  unfold State.lostNote
  split <;> simp

@[simp] theorem State.attnTo_csm (s : State) (m : Attn) (i : Nat) : (State.attnTo s m i).csm = s.csm := by
  unfold State.attnTo
  split <;> simp

@[simp] theorem State.attn_csm (s : State) (code sev : Nat) (data : List Nat) : (State.attn s code sev data).csm = s.csm := by
  simp [State.attn]

@[simp] theorem State.announce_csm (s : State) : (State.announce s).csm = s.csm := by
  simp [State.announce]

@[simp] theorem State.clearSetpoints_csm (s : State) : (State.clearSetpoints s).csm = s.csm := by
  simp [State.clearSetpoints]

@[simp] theorem State.syncMode_csm (s : State) : (State.syncMode s).csm = s.csm := by
  simp [State.syncMode]

@[simp] theorem State.leaveSetpoints_csm (s : State) : (State.leaveSetpoints s).csm = s.csm := by
  simp [State.leaveSetpoints]

@[simp] theorem State.outputsRest_csm (s : State) : (State.outputsRest s).csm = s.csm := by
  unfold State.outputsRest
  split <;> simp

@[simp] theorem State.enter_csm (s : State) (st b : OpState) : (State.enter s st b).csm = s.csm := by
  simp [State.enter]

@[simp] theorem State.coilService1_csm (s : State) (k : Nat) : (State.coilService1 s k).csm = s.csm := by
  simp [State.coilService1]

@[simp] theorem State.coilService_csm (s : State) : (State.coilService s).csm = s.csm := by
  simp [State.coilService]

@[simp] theorem State.pairSend_csm (s : State) (kind : Nat) (body : List Byte) : (State.pairSend s kind body).csm = s.csm := by
  simp [State.pairSend]

@[simp] theorem State.swapSend_csm (s : State) (sub b : Nat) : (State.swapSend s sub b).csm = s.csm := by
  simp [State.swapSend]

@[simp] theorem State.sendStatus_csm (s : State) : (State.sendStatus s).csm = s.csm := by
  simp [State.sendStatus]

@[simp] theorem State.dropOutputs_csm (s : State) : (State.dropOutputs s).csm = s.csm := by
  simp [State.dropOutputs]

@[simp] theorem State.swapAbandon_csm (s : State) : (State.swapAbandon s).csm = s.csm := by
  unfold State.swapAbandon
  split <;> simp

@[simp] theorem State.isolate_csm (s : State) (c : Nat) : (State.isolate s c).csm = s.csm := by
  simp [State.isolate]

@[simp] theorem State.degPhase_csm (s : State) : (State.degPhase s).csm = s.csm := by
  simp [State.degPhase]

@[simp] theorem State.phaseFault_csm (s : State) (p c : Nat) : (State.phaseFault s p c).csm = s.csm := by
  simp [State.phaseFault]

@[simp] theorem State.requestSwap_csm (s : State) : (State.requestSwap s).csm = s.csm := by
  simp [State.requestSwap]

@[simp] theorem State.addPhases_csm (s : State) (req : Nat) : (State.addPhases s req).csm = s.csm := by
  simp [State.addPhases]

@[simp] theorem State.loadStep_csm (s : State) : (State.loadStep s).csm = s.csm := by
  simp [State.loadStep]

@[simp] theorem State.startOrdered_csm (s : State) : (State.startOrdered s).csm = s.csm := by
  simp [State.startOrdered]

@[simp] theorem State.startShed_csm (s : State) (p : Nat) : (State.startShed s p).csm = s.csm := by
  simp [State.startShed]

@[simp] theorem State.shedDisabled_csm (s : State) : (State.shedDisabled s).csm = s.csm := by
  simp [State.shedDisabled]

@[simp] theorem State.decidePhases_csm (s : State) : (State.decidePhases s).csm = s.csm := by
  unfold State.decidePhases
  dsimp only
  repeat' split
  all_goals simp

@[simp] theorem State.retarget_csm (s : State) : (State.retarget s).csm = s.csm := by
  simp [State.retarget]

@[simp] theorem State.burstStart_csm (s : State) : (State.burstStart s).csm = s.csm := by
  simp [State.burstStart]

@[simp] theorem State.burstStep_csm (s : State) : (State.burstStep s).csm = s.csm := by
  simp [State.burstStep]

@[simp] theorem State.loopBurst_csm (s : State) : (State.loopBurst s).csm = s.csm := by
  simp [State.loopBurst]

@[simp] theorem State.boundaryCounts_csm (s : State) : (State.boundaryCounts s).csm = s.csm := by
  simp [State.boundaryCounts]

@[simp] theorem State.boundaryPhases_csm (s : State) : (State.boundaryPhases s).csm = s.csm := by
  simp [State.boundaryPhases]

@[simp] theorem State.abandonTrk_csm (s : State) (kind sev : Nat) : (State.abandonTrk s kind sev).csm = s.csm := by
  simp [State.abandonTrk]

@[simp] theorem State.applyOuter_csm (s : State) : (State.applyOuter s).csm = s.csm := by
  simp [State.applyOuter]

@[simp] theorem State.takeCmd_csm (s0 : State) (c : SetCmd) : (State.takeCmd s0 c).csm = s0.csm := by
  simp [State.takeCmd]

@[simp] theorem State.intake_csm (s : State) (now : Nat) : (State.intake s now).csm = s.csm := by
  simp [State.intake]

@[simp] theorem State.limits_csm (s : State) (dt : Rat) : (State.limits s dt).csm = s.csm := by
  simp [State.limits]

@[simp] theorem State.probeSuspend_csm (s : State) : (State.probeSuspend s).csm = s.csm := by
  simp [State.probeSuspend]

@[simp] theorem State.applyClamp_csm (s : State) (q : Rat) (dtNs : Nat) : (State.applyClamp s q dtNs).1.csm = s.csm := by
  simp [State.applyClamp]

@[simp] theorem State.holdTones_csm (s : State) : (State.holdTones s).csm = s.csm := by
  simp [State.holdTones]

@[simp] theorem State.outerLoop_csm (s : State) (q : Rat) (dtNs : Nat) : (State.outerLoop s q dtNs).csm = s.csm := by
  simp [State.outerLoop]

@[simp] theorem State.startMode_csm (s : State) (m : Nat) : (State.startMode s m).csm = s.csm := by
  simp [State.startMode]

@[simp] theorem State.modeChange_csm (s : State) : (State.modeChange s).csm = s.csm := by
  simp [State.modeChange]

@[simp] theorem State.droopStep_csm (s : State) : (State.droopStep s).csm = s.csm := by
  simp [State.droopStep]

@[simp] theorem State.droop_csm (s : State) : (State.droop s).csm = s.csm := by
  simp [State.droop]

@[simp] theorem State.trackTick_csm (s : State) (dt : Rat) : (State.trackTick s dt).csm = s.csm := by
  simp [State.trackTick]

@[simp] theorem State.holdTick_csm (s0 : State) (dt : Rat) : (State.holdTick s0 dt).csm = s0.csm := by
  simp [State.holdTick]

@[simp] theorem State.setRef_csm (s : State) (q : Rat) (dtNs : Nat) : (State.setRef s q dtNs).csm = s.csm := by
  simp [State.setRef]

@[simp] theorem State.linkRef_csm (s : State) (dtNs : Nat) : (State.linkRef s dtNs).csm = s.csm := by
  simp [State.linkRef]

@[simp] theorem State.calRampTick_csm (s : State) (dtNs : Nat) (dt : Rat) : (State.calRampTick s dtNs dt).csm = s.csm := by
  simp [State.calRampTick]

@[simp] theorem State.dispatchEval_csm (s : State) (now dtNs : Nat) (dt : Rat) : (State.dispatchEval s now dtNs dt).csm = s.csm := by
  simp [State.dispatchEval]

@[simp] theorem State.stopEval_csm (s : State) (now dtNs : Nat) (dt : Rat) : (State.stopEval s now dtNs dt).csm = s.csm := by
  simp [State.stopEval]

@[simp] theorem State.outerEval_csm (s : State) (now : Nat) (dtNs : Nat) : (State.outerEval s now dtNs).csm = s.csm := by
  unfold State.outerEval
  dsimp only
  repeat' split
  all_goals simp

@[simp] theorem State.missDeadline_csm (s : State) (now : Nat) : (State.missDeadline s now).csm = s.csm := by
  simp [State.missDeadline]

@[simp] theorem State.tonesAt_csm (s0 : State) (now : Nat) : (State.tonesAt s0 now).csm = s0.csm := by
  simp [State.tonesAt]

@[simp] theorem State.isum_csm (s : State) : (State.isum s).csm = s.csm := by
  simp [State.isum]

@[simp] theorem State.innerEval_csm (s : State) (p : Nat) (m : EvalIn) : (State.innerEval s p m).csm = s.csm := by
  simp [State.innerEval]

@[simp] theorem State.rampStep_csm (s : State) (p : Nat) (m : EvalIn) : (State.rampStep s p m).csm = s.csm := by
  simp [State.rampStep]

@[simp] theorem State.brakeStep_csm (s : State) (p : Nat) (m : EvalIn) : (State.brakeStep s p m).csm = s.csm := by
  simp [State.brakeStep]

@[simp] theorem State.deStep_csm (s : State) (p : Nat) (m : EvalIn) : (State.deStep s p m).csm = s.csm := by
  simp [State.deStep]

@[simp] theorem State.issue_csm (s : State) (p : Nat) (m : EvalIn) : (State.issue s p m).csm = s.csm := by
  simp [State.issue]

@[simp] theorem State.observe_csm (s : State) (p : Nat) (m : EvalIn) (ma : Int) : (State.observe s p m ma).csm = s.csm := by
  simp [State.observe]

@[simp] theorem State.updatePoint_csm (s : State) (p : Nat) (m : EvalIn) : (State.updatePoint s p m).csm = s.csm := by
  simp [State.updatePoint]

@[simp] theorem State.heldPoint_csm (s0 : State) (p : Nat) (m : EvalIn) : (State.heldPoint s0 p m).csm = s0.csm := by
  simp [State.heldPoint]

@[simp] theorem State.ceTap_csm (s : State) (p : Nat) (m : EvalIn) : (State.ceTap s p m).csm = s.csm := by
  unfold State.ceTap
  split <;> simp

@[simp] theorem State.evalWrites_csm (s : State) (p : Nat) (m : EvalIn) : (State.evalWrites s p m).csm = s.csm := by
  simp [State.evalWrites]

@[simp] theorem State.announced_csm (s : State) (m : EntryIn) : (State.announced s m).csm = s.csm := by
  simp [State.announced]

@[simp] theorem State.queueCmd_csm (s : State) (n cmd : Nat) (params : List Nat) (chan : Option Nat) : (State.queueCmd s n cmd params chan).csm = s.csm := by
  simp [State.queueCmd]

@[simp] theorem State.updEnd_csm (s : State) : (State.updEnd s).csm = s.csm := by
  simp [State.updEnd]

@[simp] theorem State.updDisturbed_csm (s : State) : (State.updDisturbed s).csm = s.csm := by
  simp [State.updDisturbed]

@[simp] theorem State.confirm_csm (s : State) : (State.confirm s).csm = s.csm := by
  simp [State.confirm]

@[simp] theorem State.reportDrops_csm (s : State) : (State.reportDrops s).csm = s.csm := by
  unfold State.reportDrops
  repeat' split
  all_goals simp

@[simp] theorem State.logWriteOne_csm (s : State) : (State.logWriteOne s).csm = s.csm := by
  unfold State.logWriteOne
  dsimp only
  split <;> simp

@[simp] theorem State.logDrain_csm (s : State) : (State.logDrain s).csm = s.csm := by
  simp [State.logDrain]

@[simp] theorem State.nvmBad_csm (s : State) (a : Nat) : (State.nvmBad s a).csm = s.csm := by
  simp [State.nvmBad]

@[simp] theorem State.pd0Backup_csm (s : State) : (State.pd0Backup s).csm = s.csm := by
  simp [State.pd0Backup]

@[simp] theorem State.takePoint_csm (s : State) : (State.takePoint s).csm = s.csm := by
  simp [State.takePoint]

@[simp] theorem State.pointBoundary_csm (s : State) (k : Nat) : (State.pointBoundary s k).csm = s.csm := by
  simp [State.pointBoundary]

@[simp] theorem State.tagTone_csm (s : State) (k : Nat) (e : Nat × Nat × Nat) : (State.tagTone s k e).csm = s.csm := by
  simp [State.tagTone]

@[simp] theorem State.queueLimits_csm (s : State) (n : Nat) : (State.queueLimits s n).csm = s.csm := by
  simp [State.queueLimits]

@[simp] theorem State.logUncounted_csm (s : State) (qint : Int) : (State.logUncounted s qint).csm = s.csm := by
  simp [State.logUncounted]

@[simp] theorem State.crossing_csm (s : State) (side level dir crit g : Nat) : (State.crossing s side level dir crit g).csm = s.csm := by
  simp [State.crossing]

@[simp] theorem State.thmConvert_csm (s : State) : (State.thmConvert s).csm = s.csm := by
  simp [State.thmConvert]

@[simp] theorem State.thmTake_csm (s : State) (src : Nat) (mask : Nat) (x : ThmIn) : (State.thmTake s src mask x).csm = s.csm := by
  unfold State.thmTake
  split <;> simp

@[simp] theorem State.thmModel_csm (s : State) (p : Nat) : (State.thmModel s p).csm = s.csm := by
  simp [State.thmModel]

@[simp] theorem State.thmPhase_csm (s : State) (p : Nat) : (State.thmPhase s p).csm = s.csm := by
  simp [State.thmPhase]

@[simp] theorem State.thmGroup_csm (s : State) (g : Nat) : (State.thmGroup s g).csm = s.csm := by
  simp [State.thmGroup]

@[simp] theorem State.degThermal_csm (s : State) : (State.degThermal s).csm = s.csm := by
  simp [State.degThermal]

@[simp] theorem State.factors_csm (s : State) : (State.factors s).csm = s.csm := by
  simp [State.factors]

@[simp] theorem State.thmHot_csm (s : State) : (State.thmHot s).csm = s.csm := by
  simp [State.thmHot]

@[simp] theorem State.sagIsolate_csm (s : State) (c : Nat) : (State.sagIsolate s c).csm = s.csm := by
  simp [State.sagIsolate]

@[simp] theorem State.diag_csm (s : State) (k : Nat) (bad : Bool) : (State.diag s k bad).csm = s.csm := by
  simp [State.diag]

@[simp] theorem State.diagFail_csm (s : State) (k : Nat) : (State.diagFail s k).csm = s.csm := by
  simp [State.diagFail]

@[simp] theorem State.diagHard_csm (s : State) : (State.diagHard s).csm = s.csm := by
  simp [State.diagHard]

@[simp] theorem State.slotSkip_csm (s : State) (sw : Nat) : (State.slotSkip s sw).csm = s.csm := by
  simp [State.slotSkip]

@[simp] theorem State.degSession_csm (s : State) : (State.degSession s).csm = s.csm := by
  simp [State.degSession]

@[simp] theorem State.degNet_csm (s : State) : (State.degNet s).csm = s.csm := by
  simp [State.degNet]

@[simp] theorem State.pduMiss_csm (s : State) : (State.pduMiss s).csm = s.csm := by
  simp [State.pduMiss]

@[simp] theorem State.clogAdd_csm (s : State) (kind source index : Nat) (old new : Int) : (State.clogAdd s kind source index old new).csm = s.csm := by
  simp [State.clogAdd]

@[simp] theorem State.cfgCommit_csm (s : State) (source : Nat) : (State.cfgCommit s source).csm = s.csm := by
  simp [State.cfgCommit]

@[simp] theorem State.cfgEnd_csm (s : State) : (State.cfgEnd s).csm = s.csm := by
  unfold State.cfgEnd
  split <;> simp

@[simp] theorem State.sagReset_csm (s : State) (format : Nat) (fw : Nat) : (State.sagReset s format fw).csm = s.csm := by
  unfold State.sagReset
  dsimp only
  split
  · exact State.clogAdd_csm ..
  · exact (State.clogAdd_csm ..).trans (State.clogAdd_csm ..)

@[simp] theorem State.sagLoad_csm (s : State) : (State.sagLoad s).csm = s.csm := by
  unfold State.sagLoad
  split <;> simp

@[simp] theorem State.tvLoad_csm (s : State) : (State.tvLoad s).csm = s.csm := by
  simp [State.tvLoad]

@[simp] theorem State.bootRevert_csm (s : State) : (State.bootRevert s).csm = s.csm := by
  simp [State.bootRevert]

@[simp] theorem State.domainUp_csm (s : State) (d : Nat) : (State.domainUp s d).csm = s.csm := by
  simp [State.domainUp]

@[simp] theorem State.domainDown_csm (s : State) (d : Nat) : (State.domainDown s d).csm = s.csm := by
  unfold State.domainDown
  split <;> simp

@[simp] theorem State.isolateAll_csm (s : State) (l : List Nat) : (State.isolateAll s l).csm = s.csm := by
  unfold State.isolateAll
  split <;> simp

@[simp] theorem State.boCommit_csm (s : State) : (State.boCommit s).csm = s.csm := by
  simp [State.boCommit]

@[simp] theorem State.pairFault_csm (s : State) (kind : Nat) : (State.pairFault s kind).csm = s.csm := by
  simp [State.pairFault]

@[simp] theorem State.clashCheck_csm (s : State) (h : Partner) (higher : Bool) : (State.clashCheck s h higher).csm = s.csm := by
  simp [State.clashCheck]

end Sys2Proof.Machine

/-! What leaves the measurements as it is. -/

namespace Sys2Proof.Machine

/-- A fold of updates that keep the field keeps it. -/
@[simp] theorem State.mea_foldl {β : Type} (f : State → β → State) (l : List β) (s : State) (h : ∀ t x, (f t x).mea = t.mea) :
    (l.foldl f s).mea = s.mea := by
  induction l generalizing s with
  | nil => rfl
  | cons x l ih => rw [List.foldl_cons, ih, h]

/-- The field of a choice of states. -/
@[simp] theorem State.mea_ite (c : Prop) [Decidable c] (a b : State) : (if c then a else b).mea = if c then a.mea else b.mea := by
  split <;> rfl

@[simp] theorem State.logPost_mea (s : State) (src code sev : Nat) (data : List Nat) : (State.logPost s src code sev data).mea = s.mea := by
  simp [State.logPost]

@[simp] theorem State.sendFrom_mea (s : State) (p : PortId) (addr udp : Nat) (b : List Byte) : (State.sendFrom s p addr udp b).mea = s.mea := by
  simp [State.sendFrom]

@[simp] theorem State.sendAttn_mea (s : State) (x : Session) (m : Attn) (p : PortId) (again : Bool) : (State.sendAttn s x m p again).mea = s.mea := by
  simp [State.sendAttn]

@[simp] theorem State.lostNote_mea (s : State) (i : Nat) : (State.lostNote s i).mea = s.mea := by
  unfold State.lostNote
  split <;> simp

@[simp] theorem State.attnTo_mea (s : State) (m : Attn) (i : Nat) : (State.attnTo s m i).mea = s.mea := by
  unfold State.attnTo
  split <;> simp

@[simp] theorem State.attn_mea (s : State) (code sev : Nat) (data : List Nat) : (State.attn s code sev data).mea = s.mea := by
  simp [State.attn]

@[simp] theorem State.clearSetpoints_mea (s : State) : (State.clearSetpoints s).mea = s.mea := by
  simp [State.clearSetpoints]

@[simp] theorem State.pairSend_mea (s : State) (kind : Nat) (body : List Byte) : (State.pairSend s kind body).mea = s.mea := by
  simp [State.pairSend]

@[simp] theorem State.sendStatus_mea (s : State) : (State.sendStatus s).mea = s.mea := by
  simp [State.sendStatus]

@[simp] theorem State.dropOutputs_mea (s : State) : (State.dropOutputs s).mea = s.mea := by
  simp [State.dropOutputs]

@[simp] theorem State.swapAbandon_mea (s : State) : (State.swapAbandon s).mea = s.mea := by
  unfold State.swapAbandon
  split <;> simp

@[simp] theorem State.isolate_mea (s : State) (c : Nat) : (State.isolate s c).mea = s.mea := by
  simp [State.isolate]

@[simp] theorem State.logUncounted_mea (s : State) (qint : Int) : (State.logUncounted s qint).mea = s.mea := by
  simp [State.logUncounted]

end Sys2Proof.Machine

/-! What leaves the estimator as it is. -/

namespace Sys2Proof.Machine

/-- A fold of updates that keep the field keeps it. -/
@[simp] theorem State.est_foldl {β : Type} (f : State → β → State) (l : List β) (s : State) (h : ∀ t x, (f t x).est = t.est) :
    (l.foldl f s).est = s.est := by
  induction l generalizing s with
  | nil => rfl
  | cons x l ih => rw [List.foldl_cons, ih, h]

/-- The field of a choice of states. -/
@[simp] theorem State.est_ite (c : Prop) [Decidable c] (a b : State) : (if c then a else b).est = if c then a.est else b.est := by
  split <;> rfl

/-- The field of a choice of states beside a value. -/
@[simp] theorem State.est_itep {α : Type} (c : Prop) [Decidable c] (a b : State × α) :
    (if c then a else b).1.est = if c then a.1.est else b.1.est := by
  split <;> rfl

@[simp] theorem State.logPost_est (s : State) (src code sev : Nat) (data : List Nat) : (State.logPost s src code sev data).est = s.est := by
  simp [State.logPost]

@[simp] theorem State.sendFrom_est (s : State) (p : PortId) (addr udp : Nat) (b : List Byte) : (State.sendFrom s p addr udp b).est = s.est := by
  simp [State.sendFrom]

@[simp] theorem State.sendAttn_est (s : State) (x : Session) (m : Attn) (p : PortId) (again : Bool) : (State.sendAttn s x m p again).est = s.est := by
  simp [State.sendAttn]

@[simp] theorem State.lostNote_est (s : State) (i : Nat) : (State.lostNote s i).est = s.est := by
  unfold State.lostNote
  split <;> simp

@[simp] theorem State.attnTo_est (s : State) (m : Attn) (i : Nat) : (State.attnTo s m i).est = s.est := by
  unfold State.attnTo
  split <;> simp

@[simp] theorem State.attn_est (s : State) (code sev : Nat) (data : List Nat) : (State.attn s code sev data).est = s.est := by
  simp [State.attn]

@[simp] theorem State.announce_est (s : State) : (State.announce s).est = s.est := by
  simp [State.announce]

@[simp] theorem State.clearSetpoints_est (s : State) : (State.clearSetpoints s).est = s.est := by
  simp [State.clearSetpoints]

@[simp] theorem State.syncMode_est (s : State) : (State.syncMode s).est = s.est := by
  simp [State.syncMode]

@[simp] theorem State.leaveSetpoints_est (s : State) : (State.leaveSetpoints s).est = s.est := by
  simp [State.leaveSetpoints]

@[simp] theorem State.outputsRest_est (s : State) : (State.outputsRest s).est = s.est := by
  unfold State.outputsRest
  split <;> simp

@[simp] theorem State.enter_est (s : State) (st b : OpState) : (State.enter s st b).est = s.est := by
  simp [State.enter]

@[simp] theorem State.enterEff_est (s : State) (st : OpState) : (State.enterEff s st).est = s.est := by
  simp [State.enterEff]

@[simp] theorem State.coilService1_est (s : State) (k : Nat) : (State.coilService1 s k).est = s.est := by
  simp [State.coilService1]

@[simp] theorem State.coilService_est (s : State) : (State.coilService s).est = s.est := by
  simp [State.coilService]

@[simp] theorem State.degStart_est (s : State) : (State.degStart s).est = s.est := by
  simp [State.degStart]

@[simp] theorem State.pairSend_est (s : State) (kind : Nat) (body : List Byte) : (State.pairSend s kind body).est = s.est := by
  simp [State.pairSend]

@[simp] theorem State.swapSend_est (s : State) (sub b : Nat) : (State.swapSend s sub b).est = s.est := by
  simp [State.swapSend]

@[simp] theorem State.sendStatus_est (s : State) : (State.sendStatus s).est = s.est := by
  simp [State.sendStatus]

@[simp] theorem State.dropOutputs_est (s : State) : (State.dropOutputs s).est = s.est := by
  simp [State.dropOutputs]

@[simp] theorem State.swapAbandon_est (s : State) : (State.swapAbandon s).est = s.est := by
  unfold State.swapAbandon
  split <;> simp

@[simp] theorem State.isolate_est (s : State) (c : Nat) : (State.isolate s c).est = s.est := by
  simp [State.isolate]

@[simp] theorem State.degPhase_est (s : State) : (State.degPhase s).est = s.est := by
  simp [State.degPhase]

@[simp] theorem State.phaseFault_est (s : State) (p c : Nat) : (State.phaseFault s p c).est = s.est := by
  simp [State.phaseFault]

@[simp] theorem State.requestSwap_est (s : State) : (State.requestSwap s).est = s.est := by
  simp [State.requestSwap]

@[simp] theorem State.addPhases_est (s : State) (req : Nat) : (State.addPhases s req).est = s.est := by
  simp [State.addPhases]

@[simp] theorem State.loadStep_est (s : State) : (State.loadStep s).est = s.est := by
  simp [State.loadStep]

@[simp] theorem State.startOrdered_est (s : State) : (State.startOrdered s).est = s.est := by
  simp [State.startOrdered]

@[simp] theorem State.startShed_est (s : State) (p : Nat) : (State.startShed s p).est = s.est := by
  simp [State.startShed]

@[simp] theorem State.shedDisabled_est (s : State) : (State.shedDisabled s).est = s.est := by
  simp [State.shedDisabled]

@[simp] theorem State.decidePhases_est (s : State) : (State.decidePhases s).est = s.est := by
  unfold State.decidePhases
  dsimp only
  repeat' split
  all_goals simp

@[simp] theorem State.retarget_est (s : State) : (State.retarget s).est = s.est := by
  simp [State.retarget]

@[simp] theorem State.burstStart_est (s : State) : (State.burstStart s).est = s.est := by
  simp [State.burstStart]

@[simp] theorem State.burstStep_est (s : State) : (State.burstStep s).est = s.est := by
  simp [State.burstStep]

@[simp] theorem State.loopBurst_est (s : State) : (State.loopBurst s).est = s.est := by
  simp [State.loopBurst]

@[simp] theorem State.boundaryCounts_est (s : State) : (State.boundaryCounts s).est = s.est := by
  simp [State.boundaryCounts]

@[simp] theorem State.boundaryPhases_est (s : State) : (State.boundaryPhases s).est = s.est := by
  simp [State.boundaryPhases]

@[simp] theorem State.abandonTrk_est (s : State) (kind sev : Nat) : (State.abandonTrk s kind sev).est = s.est := by
  simp [State.abandonTrk]

@[simp] theorem State.applyOuter_est (s : State) : (State.applyOuter s).est = s.est := by
  simp [State.applyOuter]

@[simp] theorem State.takeCmd_est (s0 : State) (c : SetCmd) : (State.takeCmd s0 c).est = s0.est := by
  simp [State.takeCmd]

@[simp] theorem State.intake_est (s : State) (now : Nat) : (State.intake s now).est = s.est := by
  simp [State.intake]

@[simp] theorem State.probeSuspend_est (s : State) : (State.probeSuspend s).est = s.est := by
  simp [State.probeSuspend]

@[simp] theorem State.applyClamp_est (s : State) (q : Rat) (dtNs : Nat) : (State.applyClamp s q dtNs).1.est = s.est := by
  simp [State.applyClamp]

@[simp] theorem State.holdTones_est (s : State) : (State.holdTones s).est = s.est := by
  simp [State.holdTones]

@[simp] theorem State.startMode_est (s : State) (m : Nat) : (State.startMode s m).est = s.est := by
  simp [State.startMode]

@[simp] theorem State.modeChange_est (s : State) : (State.modeChange s).est = s.est := by
  simp [State.modeChange]

@[simp] theorem State.setRef_est (s : State) (q : Rat) (dtNs : Nat) : (State.setRef s q dtNs).est = s.est := by
  simp [State.setRef]

@[simp] theorem State.observe_est (s : State) (p : Nat) (m : EvalIn) (ma : Int) : (State.observe s p m ma).est = s.est := by
  simp [State.observe]

@[simp] theorem State.evalWrites_est (s : State) (p : Nat) (m : EvalIn) : (State.evalWrites s p m).est = s.est := by
  simp [State.evalWrites]

@[simp] theorem State.announced_est (s : State) (m : EntryIn) : (State.announced s m).est = s.est := by
  simp [State.announced]

@[simp] theorem State.queueCmd_est (s : State) (n cmd : Nat) (params : List Nat) (chan : Option Nat) : (State.queueCmd s n cmd params chan).est = s.est := by
  simp [State.queueCmd]

@[simp] theorem State.updEnd_est (s : State) : (State.updEnd s).est = s.est := by
  simp [State.updEnd]

@[simp] theorem State.updDisturbed_est (s : State) : (State.updDisturbed s).est = s.est := by
  simp [State.updDisturbed]

@[simp] theorem State.confirm_est (s : State) : (State.confirm s).est = s.est := by
  simp [State.confirm]

@[simp] theorem State.reportDrops_est (s : State) : (State.reportDrops s).est = s.est := by
  unfold State.reportDrops
  repeat' split
  all_goals simp

@[simp] theorem State.logWriteOne_est (s : State) : (State.logWriteOne s).est = s.est := by
  unfold State.logWriteOne
  dsimp only
  split <;> simp

@[simp] theorem State.logDrain_est (s : State) : (State.logDrain s).est = s.est := by
  simp [State.logDrain]

@[simp] theorem State.pd0Backup_est (s : State) : (State.pd0Backup s).est = s.est := by
  simp [State.pd0Backup]

@[simp] theorem State.queueLimits_est (s : State) (n : Nat) : (State.queueLimits s n).est = s.est := by
  simp [State.queueLimits]

@[simp] theorem State.modNode_est (s : State) (n : Nat) (f : Nat → GroupRec → GroupRec) : (State.modNode s n f).est = s.est := by
  simp [State.modNode]

@[simp] theorem State.crossing_est (s : State) (side level dir crit g : Nat) : (State.crossing s side level dir crit g).est = s.est := by
  simp [State.crossing]

@[simp] theorem State.thmConvert_est (s : State) : (State.thmConvert s).est = s.est := by
  simp [State.thmConvert]

@[simp] theorem State.thmTake_est (s : State) (src : Nat) (mask : Nat) (x : ThmIn) : (State.thmTake s src mask x).est = s.est := by
  unfold State.thmTake
  split <;> simp

@[simp] theorem State.thmModel_est (s : State) (p : Nat) : (State.thmModel s p).est = s.est := by
  simp [State.thmModel]

@[simp] theorem State.thmPhase_est (s : State) (p : Nat) : (State.thmPhase s p).est = s.est := by
  simp [State.thmPhase]

@[simp] theorem State.thmGroup_est (s : State) (g : Nat) : (State.thmGroup s g).est = s.est := by
  simp [State.thmGroup]

@[simp] theorem State.degThermal_est (s : State) : (State.degThermal s).est = s.est := by
  simp [State.degThermal]

@[simp] theorem State.factors_est (s : State) : (State.factors s).est = s.est := by
  simp [State.factors]

@[simp] theorem State.thmHot_est (s : State) : (State.thmHot s).est = s.est := by
  simp [State.thmHot]

@[simp] theorem State.sagIsolate_est (s : State) (c : Nat) : (State.sagIsolate s c).est = s.est := by
  simp [State.sagIsolate]

@[simp] theorem State.diag_est (s : State) (k : Nat) (bad : Bool) : (State.diag s k bad).est = s.est := by
  simp [State.diag]

@[simp] theorem State.diagFail_est (s : State) (k : Nat) : (State.diagFail s k).est = s.est := by
  simp [State.diagFail]

@[simp] theorem State.diagHard_est (s : State) : (State.diagHard s).est = s.est := by
  simp [State.diagHard]

@[simp] theorem State.slotSkip_est (s : State) (sw : Nat) : (State.slotSkip s sw).est = s.est := by
  simp [State.slotSkip]

@[simp] theorem State.degSession_est (s : State) : (State.degSession s).est = s.est := by
  simp [State.degSession]

@[simp] theorem State.degNet_est (s : State) : (State.degNet s).est = s.est := by
  simp [State.degNet]

@[simp] theorem State.pduMiss_est (s : State) : (State.pduMiss s).est = s.est := by
  simp [State.pduMiss]

@[simp] theorem State.clogAdd_est (s : State) (kind source index : Nat) (old new : Int) : (State.clogAdd s kind source index old new).est = s.est := by
  simp [State.clogAdd]

@[simp] theorem State.cfgCommit_est (s : State) (source : Nat) : (State.cfgCommit s source).est = s.est := by
  simp [State.cfgCommit]

@[simp] theorem State.cfgEnd_est (s : State) : (State.cfgEnd s).est = s.est := by
  unfold State.cfgEnd
  split <;> simp

@[simp] theorem State.sagReset_est (s : State) (format : Nat) (fw : Nat) : (State.sagReset s format fw).est = s.est := by
  unfold State.sagReset
  dsimp only
  split
  · exact State.clogAdd_est ..
  · exact (State.clogAdd_est ..).trans (State.clogAdd_est ..)

@[simp] theorem State.sagLoad_est (s : State) : (State.sagLoad s).est = s.est := by
  unfold State.sagLoad
  split <;> simp

@[simp] theorem State.tvLoad_est (s : State) : (State.tvLoad s).est = s.est := by
  simp [State.tvLoad]

@[simp] theorem State.bootRevert_est (s : State) : (State.bootRevert s).est = s.est := by
  simp [State.bootRevert]

@[simp] theorem State.domainUp_est (s : State) (d : Nat) : (State.domainUp s d).est = s.est := by
  simp [State.domainUp]

@[simp] theorem State.domainDown_est (s : State) (d : Nat) : (State.domainDown s d).est = s.est := by
  unfold State.domainDown
  split <;> simp

@[simp] theorem State.isolateAll_est (s : State) (l : List Nat) : (State.isolateAll s l).est = s.est := by
  unfold State.isolateAll
  split <;> simp

@[simp] theorem State.logItem_est (s : State) (detail : Nat) (i : TestItem) : (State.logItem s detail i).est = s.est := by
  simp [State.logItem]

@[simp] theorem State.startLost_est (s : State) (n : Nat) : (State.startLost s n).est = s.est := by
  simp [State.startLost]

@[simp] theorem State.boCommit_est (s : State) : (State.boCommit s).est = s.est := by
  simp [State.boCommit]

@[simp] theorem State.pairFault_est (s : State) (kind : Nat) : (State.pairFault s kind).est = s.est := by
  simp [State.pairFault]

@[simp] theorem State.clashCheck_est (s : State) (h : Partner) (higher : Bool) : (State.clashCheck s h higher).est = s.est := by
  simp [State.clashCheck]

@[simp] theorem State.sendTake_est (s : State) (now : Nat) : (State.sendTake s now).est = s.est := by
  simp [State.sendTake]

@[simp] theorem State.putPeriod_est (s : State) (v : Nat) : (State.putPeriod s v).est = s.est := by
  simp [State.putPeriod]

@[simp] theorem State.settingDone_est (s : State) (i : Nat) (v old : Int) : (State.settingDone s i v old).est = s.est := by
  simp [State.settingDone]

@[simp] theorem State.putSetting_est (s : State) (i : Nat) (v : Int) : (State.putSetting s i v).est = s.est := by
  unfold State.putSetting
  repeat' split
  all_goals simp

@[simp] theorem State.toDefault_est (s : State) (i : Nat) : (State.toDefault s i).est = s.est := by
  unfold State.toDefault
  split <;> simp

@[simp] theorem State.toNewFormat_est (s : State) (i : Nat) : (State.toNewFormat s i).est = s.est := by
  simp [State.toNewFormat]

@[simp] theorem State.loadNewFormat_est (s : State) : (State.loadNewFormat s).est = s.est := by
  simp [State.loadNewFormat]

@[simp] theorem State.formatStep_est (s : State) : (State.formatStep s).est = s.est := by
  simp [State.formatStep]

@[simp] theorem State.loginState_est (s : State) : (State.loginState s).est = s.est := by
  simp [State.loginState]

@[simp] theorem State.toIsolated_est (s : State) : (State.toIsolated s).est = s.est := by
  simp [State.toIsolated]

@[simp] theorem State.toStandby_est (s : State) : (State.toStandby s).est = s.est := by
  simp [State.toStandby]

@[simp] theorem State.toDegraded_est (s : State) : (State.toDegraded s).est = s.est := by
  simp [State.toDegraded]

@[simp] theorem State.fromDegraded_est (s : State) : (State.fromDegraded s).est = s.est := by
  simp [State.fromDegraded]

@[simp] theorem State.stopDone_est (s : State) : (State.stopDone s).est = s.est := by
  simp [State.stopDone]

@[simp] theorem State.toMaintenance_est (s : State) : (State.toMaintenance s).est = s.est := by
  simp [State.toMaintenance]

@[simp] theorem State.afterTest_est (s : State) (owned : Bool) : (State.afterTest s owned).est = s.est := by
  simp [State.afterTest]

theorem State.row_est (s : State) (e : Ev) (t : State) (h : State.row s e = some t) : t.est = s.est := by
  revert h
  unfold State.row
  repeat' split
  all_goals simp only [Option.some.injEq, reduceCtorEq, false_implies]
  all_goals rintro rfl
  all_goals simp

@[simp] theorem State.dropEv_est (s : State) (e : Ev) : (State.dropEv s e).est = s.est := by
  unfold State.dropEv
  split <;> simp

@[simp] theorem State.takeClass_est (s : State) (c : Nat) (p0 : List Ev) : (s.takeClass c p0).1.est = s.est := by
  induction p0 generalizing s with
  | nil => rfl
  | cons e l ih =>
    simp only [State.takeClass]
    split
    · exact ih s
    · split
      · rename_i h
        exact State.row_est _ _ _ h
      · exact (ih _).trans (by simp)

@[simp] theorem State.runClass_est (s : State) (c : Nat) : (State.runClass s c).est = s.est := by
  simp [State.runClass]

@[simp] theorem State.runDegraded_est (s : State) : (State.runDegraded s).est = s.est := by
  simp [State.runDegraded]

@[simp] theorem State.answerWait_est (s : State) (c : Nat) (r : Reply) : (State.answerWait s c r).est = s.est := by
  unfold State.answerWait
  exact State.est_foldl _ _ _ (fun t x => by split <;> simp)

@[simp] theorem State.done_est (s : State) (c code tag rc detail : Nat) (data : List Byte) : (State.done s c code tag rc detail data).est = s.est := by
  simp [State.done]

@[simp] theorem State.reply_est (s : State) (c : Nat) (rc : Nat) (detail : Nat) (data : List Byte) : (State.reply s c rc detail data).est = s.est := by
  unfold State.reply
  split <;> simp

@[simp] theorem State.atTime_est (s : State) (t : BitVec 32) : (State.atTime s t).est = s.est := by
  simp [State.atTime]

@[simp] theorem State.heldBusy_est (s : State) (p : Chan → Bool) : (State.heldBusy s p).est = s.est := by
  simp [State.heldBusy]

@[simp] theorem State.spyWrote_est (s : State) : (State.spyWrote s).est = s.est := by
  simp [State.spyWrote]

end Sys2Proof.Machine

/-! What leaves the phase harness as it is. -/

namespace Sys2Proof.Machine

/-- A fold of updates that keep the field keeps it. -/
@[simp] theorem State.phm_foldl {β : Type} (f : State → β → State) (l : List β) (s : State) (h : ∀ t x, (f t x).phm = t.phm) :
    (l.foldl f s).phm = s.phm := by
  induction l generalizing s with
  | nil => rfl
  | cons x l ih => rw [List.foldl_cons, ih, h]

/-- The field of a choice of states. -/
@[simp] theorem State.phm_ite (c : Prop) [Decidable c] (a b : State) : (if c then a else b).phm = if c then a.phm else b.phm := by
  split <;> rfl

/-- The field of a choice of states beside a value. -/
@[simp] theorem State.phm_itep {α : Type} (c : Prop) [Decidable c] (a b : State × α) :
    (if c then a else b).1.phm = if c then a.1.phm else b.1.phm := by
  split <;> rfl

@[simp] theorem State.sendFrom_phm (s : State) (p : PortId) (addr udp : Nat) (b : List Byte) : (State.sendFrom s p addr udp b).phm = s.phm := by
  simp [State.sendFrom]

@[simp] theorem State.sendAttn_phm (s : State) (x : Session) (m : Attn) (p : PortId) (again : Bool) : (State.sendAttn s x m p again).phm = s.phm := by
  simp [State.sendAttn]

@[simp] theorem State.lostNote_phm (s : State) (i : Nat) : (State.lostNote s i).phm = s.phm := by
  unfold State.lostNote
  split <;> simp

@[simp] theorem State.attnTo_phm (s : State) (m : Attn) (i : Nat) : (State.attnTo s m i).phm = s.phm := by
  unfold State.attnTo
  split <;> simp

@[simp] theorem State.attn_phm (s : State) (code sev : Nat) (data : List Nat) : (State.attn s code sev data).phm = s.phm := by
  simp [State.attn]

@[simp] theorem State.announce_phm (s : State) : (State.announce s).phm = s.phm := by
  simp [State.announce]

@[simp] theorem State.clearSetpoints_phm (s : State) : (State.clearSetpoints s).phm = s.phm := by
  simp [State.clearSetpoints]

@[simp] theorem State.syncMode_phm (s : State) : (State.syncMode s).phm = s.phm := by
  simp [State.syncMode]

@[simp] theorem State.leaveSetpoints_phm (s : State) : (State.leaveSetpoints s).phm = s.phm := by
  simp [State.leaveSetpoints]

@[simp] theorem State.outputsRest_phm (s : State) : (State.outputsRest s).phm = s.phm := by
  unfold State.outputsRest
  split <;> simp

@[simp] theorem State.coilService1_phm (s : State) (k : Nat) : (State.coilService1 s k).phm = s.phm := by
  simp [State.coilService1]

@[simp] theorem State.coilService_phm (s : State) : (State.coilService s).phm = s.phm := by
  simp [State.coilService]

@[simp] theorem State.pairSend_phm (s : State) (kind : Nat) (body : List Byte) : (State.pairSend s kind body).phm = s.phm := by
  simp [State.pairSend]

@[simp] theorem State.swapSend_phm (s : State) (sub b : Nat) : (State.swapSend s sub b).phm = s.phm := by
  simp [State.swapSend]

@[simp] theorem State.sendStatus_phm (s : State) : (State.sendStatus s).phm = s.phm := by
  simp [State.sendStatus]

@[simp] theorem State.swapAbandon_phm (s : State) : (State.swapAbandon s).phm = s.phm := by
  unfold State.swapAbandon
  split <;> simp

@[simp] theorem State.degPhase_phm (s : State) : (State.degPhase s).phm = s.phm := by
  simp [State.degPhase]

@[simp] theorem State.requestSwap_phm (s : State) : (State.requestSwap s).phm = s.phm := by
  simp [State.requestSwap]

@[simp] theorem State.applyOuter_phm (s : State) : (State.applyOuter s).phm = s.phm := by
  simp [State.applyOuter]

@[simp] theorem State.takeCmd_phm (s0 : State) (c : SetCmd) : (State.takeCmd s0 c).phm = s0.phm := by
  simp [State.takeCmd]

@[simp] theorem State.intake_phm (s : State) (now : Nat) : (State.intake s now).phm = s.phm := by
  simp [State.intake]

@[simp] theorem State.probeSuspend_phm (s : State) : (State.probeSuspend s).phm = s.phm := by
  simp [State.probeSuspend]

@[simp] theorem State.applyClamp_phm (s : State) (q : Rat) (dtNs : Nat) : (State.applyClamp s q dtNs).1.phm = s.phm := by
  simp [State.applyClamp]

@[simp] theorem State.holdTones_phm (s : State) : (State.holdTones s).phm = s.phm := by
  simp [State.holdTones]

@[simp] theorem State.startMode_phm (s : State) (m : Nat) : (State.startMode s m).phm = s.phm := by
  simp [State.startMode]

@[simp] theorem State.modeChange_phm (s : State) : (State.modeChange s).phm = s.phm := by
  simp [State.modeChange]

@[simp] theorem State.setRef_phm (s : State) (q : Rat) (dtNs : Nat) : (State.setRef s q dtNs).phm = s.phm := by
  simp [State.setRef]

@[simp] theorem State.missDeadline_phm (s : State) (now : Nat) : (State.missDeadline s now).phm = s.phm := by
  simp [State.missDeadline]

@[simp] theorem State.tonesAt_phm (s0 : State) (now : Nat) : (State.tonesAt s0 now).phm = s0.phm := by
  simp [State.tonesAt]

@[simp] theorem State.ceTap_phm (s : State) (p : Nat) (m : EvalIn) : (State.ceTap s p m).phm = s.phm := by
  unfold State.ceTap
  split <;> simp

@[simp] theorem State.announced_phm (s : State) (m : EntryIn) : (State.announced s m).phm = s.phm := by
  simp [State.announced]

@[simp] theorem State.applyBank_phm (s : State) : (State.applyBank s).phm = s.phm := by
  simp [State.applyBank]

@[simp] theorem State.queueCmd_phm (s : State) (n cmd : Nat) (params : List Nat) (chan : Option Nat) : (State.queueCmd s n cmd params chan).phm = s.phm := by
  simp [State.queueCmd]

@[simp] theorem State.updEnd_phm (s : State) : (State.updEnd s).phm = s.phm := by
  simp [State.updEnd]

@[simp] theorem State.updDisturbed_phm (s : State) : (State.updDisturbed s).phm = s.phm := by
  simp [State.updDisturbed]

@[simp] theorem State.confirm_phm (s : State) : (State.confirm s).phm = s.phm := by
  simp [State.confirm]

@[simp] theorem State.reportDrops_phm (s : State) : (State.reportDrops s).phm = s.phm := by
  unfold State.reportDrops
  repeat' split
  all_goals simp

@[simp] theorem State.logWriteOne_phm (s : State) : (State.logWriteOne s).phm = s.phm := by
  unfold State.logWriteOne
  dsimp only
  split <;> simp

@[simp] theorem State.logDrain_phm (s : State) : (State.logDrain s).phm = s.phm := by
  simp [State.logDrain]

@[simp] theorem State.nvmBad_phm (s : State) (a : Nat) : (State.nvmBad s a).phm = s.phm := by
  simp [State.nvmBad]

@[simp] theorem State.pd0Backup_phm (s : State) : (State.pd0Backup s).phm = s.phm := by
  simp [State.pd0Backup]

@[simp] theorem State.loadTones_phm (s : State) : (State.loadTones s).phm = s.phm := by
  simp [State.loadTones]

@[simp] theorem State.queueLimits_phm (s : State) (n : Nat) : (State.queueLimits s n).phm = s.phm := by
  simp [State.queueLimits]

@[simp] theorem State.logUncounted_phm (s : State) (qint : Int) : (State.logUncounted s qint).phm = s.phm := by
  simp [State.logUncounted]

@[simp] theorem State.modNode_phm (s : State) (n : Nat) (f : Nat → GroupRec → GroupRec) : (State.modNode s n f).phm = s.phm := by
  simp [State.modNode]

@[simp] theorem State.crossing_phm (s : State) (side level dir crit g : Nat) : (State.crossing s side level dir crit g).phm = s.phm := by
  simp [State.crossing]

@[simp] theorem State.thmConvert_phm (s : State) : (State.thmConvert s).phm = s.phm := by
  simp [State.thmConvert]

@[simp] theorem State.thmTake_phm (s : State) (src : Nat) (mask : Nat) (x : ThmIn) : (State.thmTake s src mask x).phm = s.phm := by
  unfold State.thmTake
  split <;> simp

@[simp] theorem State.thmModel_phm (s : State) (p : Nat) : (State.thmModel s p).phm = s.phm := by
  simp [State.thmModel]

@[simp] theorem State.thmPhase_phm (s : State) (p : Nat) : (State.thmPhase s p).phm = s.phm := by
  simp [State.thmPhase]

@[simp] theorem State.thmGroup_phm (s : State) (g : Nat) : (State.thmGroup s g).phm = s.phm := by
  simp [State.thmGroup]

@[simp] theorem State.degThermal_phm (s : State) : (State.degThermal s).phm = s.phm := by
  simp [State.degThermal]

@[simp] theorem State.factors_phm (s : State) : (State.factors s).phm = s.phm := by
  simp [State.factors]

@[simp] theorem State.thmHot_phm (s : State) : (State.thmHot s).phm = s.phm := by
  simp [State.thmHot]

@[simp] theorem State.alignStat_phm (s : State) : (State.alignStat s).phm = s.phm := by
  simp [State.alignStat]

@[simp] theorem State.ceFrameStart_phm (s : State) : (State.ceFrameStart s).phm = s.phm := by
  simp [State.ceFrameStart]

@[simp] theorem State.loadBoot_phm (s : State) : (State.loadBoot s).phm = s.phm := by
  simp [State.loadBoot]

@[simp] theorem State.bootReselect_phm (s : State) : (State.bootReselect s).phm = s.phm := by
  simp [State.bootReselect]

@[simp] theorem State.slotSkip_phm (s : State) (sw : Nat) : (State.slotSkip s sw).phm = s.phm := by
  simp [State.slotSkip]

@[simp] theorem State.degSession_phm (s : State) : (State.degSession s).phm = s.phm := by
  simp [State.degSession]

@[simp] theorem State.degNet_phm (s : State) : (State.degNet s).phm = s.phm := by
  simp [State.degNet]

@[simp] theorem State.pduMiss_phm (s : State) : (State.pduMiss s).phm = s.phm := by
  simp [State.pduMiss]

@[simp] theorem State.clogAdd_phm (s : State) (kind source index : Nat) (old new : Int) : (State.clogAdd s kind source index old new).phm = s.phm := by
  simp [State.clogAdd]

@[simp] theorem State.cfgCommit_phm (s : State) (source : Nat) : (State.cfgCommit s source).phm = s.phm := by
  simp [State.cfgCommit]

@[simp] theorem State.cfgEnd_phm (s : State) : (State.cfgEnd s).phm = s.phm := by
  unfold State.cfgEnd
  split <;> simp

@[simp] theorem State.sagReset_phm (s : State) (format : Nat) (fw : Nat) : (State.sagReset s format fw).phm = s.phm := by
  unfold State.sagReset
  dsimp only
  split
  · exact State.clogAdd_phm ..
  · exact (State.clogAdd_phm ..).trans (State.clogAdd_phm ..)

@[simp] theorem State.domainUp_phm (s : State) (d : Nat) : (State.domainUp s d).phm = s.phm := by
  simp [State.domainUp]

@[simp] theorem State.logItem_phm (s : State) (detail : Nat) (i : TestItem) : (State.logItem s detail i).phm = s.phm := by
  simp [State.logItem]

@[simp] theorem State.testResults_phm (s : State) (r : SelfTest) : (State.testResults s r).phm = s.phm := by
  simp [State.testResults]

@[simp] theorem State.startLost_phm (s : State) (n : Nat) : (State.startLost s n).phm = s.phm := by
  simp [State.startLost]

@[simp] theorem State.pairFault_phm (s : State) (kind : Nat) : (State.pairFault s kind).phm = s.phm := by
  simp [State.pairFault]

@[simp] theorem State.clashCheck_phm (s : State) (h : Partner) (higher : Bool) : (State.clashCheck s h higher).phm = s.phm := by
  simp [State.clashCheck]

@[simp] theorem State.ceFresh_phm (s : State) : (State.ceFresh s).phm = s.phm := by
  simp [State.ceFresh]

end Sys2Proof.Machine

/-! What leaves the control engine as it is. -/

namespace Sys2Proof.Machine

/-- A fold of updates that keep the field keeps it. -/
@[simp] theorem State.ctl_foldl {β : Type} (f : State → β → State) (l : List β) (s : State) (h : ∀ t x, (f t x).ctl = t.ctl) :
    (l.foldl f s).ctl = s.ctl := by
  induction l generalizing s with
  | nil => rfl
  | cons x l ih => rw [List.foldl_cons, ih, h]

/-- The field of a choice of states. -/
@[simp] theorem State.ctl_ite (c : Prop) [Decidable c] (a b : State) : (if c then a else b).ctl = if c then a.ctl else b.ctl := by
  split <;> rfl

/-- The field of a choice of states beside a value. -/
@[simp] theorem State.ctl_itep {α : Type} (c : Prop) [Decidable c] (a b : State × α) :
    (if c then a else b).1.ctl = if c then a.1.ctl else b.1.ctl := by
  split <;> rfl

@[simp] theorem State.logPost_ctl (s : State) (src code sev : Nat) (data : List Nat) : (State.logPost s src code sev data).ctl = s.ctl := by
  simp [State.logPost]

@[simp] theorem State.sendFrom_ctl (s : State) (p : PortId) (addr udp : Nat) (b : List Byte) : (State.sendFrom s p addr udp b).ctl = s.ctl := by
  simp [State.sendFrom]

@[simp] theorem State.sendAttn_ctl (s : State) (x : Session) (m : Attn) (p : PortId) (again : Bool) : (State.sendAttn s x m p again).ctl = s.ctl := by
  simp [State.sendAttn]

@[simp] theorem State.lostNote_ctl (s : State) (i : Nat) : (State.lostNote s i).ctl = s.ctl := by
  unfold State.lostNote
  split <;> simp

@[simp] theorem State.attnTo_ctl (s : State) (m : Attn) (i : Nat) : (State.attnTo s m i).ctl = s.ctl := by
  unfold State.attnTo
  split <;> simp

@[simp] theorem State.attn_ctl (s : State) (code sev : Nat) (data : List Nat) : (State.attn s code sev data).ctl = s.ctl := by
  simp [State.attn]

@[simp] theorem State.announce_ctl (s : State) : (State.announce s).ctl = s.ctl := by
  simp [State.announce]

@[simp] theorem State.outputsRest_ctl (s : State) : (State.outputsRest s).ctl = s.ctl := by
  unfold State.outputsRest
  split <;> simp

@[simp] theorem State.coilService1_ctl (s : State) (k : Nat) : (State.coilService1 s k).ctl = s.ctl := by
  simp [State.coilService1]

@[simp] theorem State.coilService_ctl (s : State) : (State.coilService s).ctl = s.ctl := by
  simp [State.coilService]

@[simp] theorem State.pairSend_ctl (s : State) (kind : Nat) (body : List Byte) : (State.pairSend s kind body).ctl = s.ctl := by
  simp [State.pairSend]

@[simp] theorem State.swapSend_ctl (s : State) (sub b : Nat) : (State.swapSend s sub b).ctl = s.ctl := by
  simp [State.swapSend]

@[simp] theorem State.sendStatus_ctl (s : State) : (State.sendStatus s).ctl = s.ctl := by
  simp [State.sendStatus]

@[simp] theorem State.swapAbandon_ctl (s : State) : (State.swapAbandon s).ctl = s.ctl := by
  unfold State.swapAbandon
  split <;> simp

@[simp] theorem State.degPhase_ctl (s : State) : (State.degPhase s).ctl = s.ctl := by
  simp [State.degPhase]

@[simp] theorem State.requestSwap_ctl (s : State) : (State.requestSwap s).ctl = s.ctl := by
  simp [State.requestSwap]

@[simp] theorem State.addPhases_ctl (s : State) (req : Nat) : (State.addPhases s req).ctl = s.ctl := by
  simp [State.addPhases]

@[simp] theorem State.loadStep_ctl (s : State) : (State.loadStep s).ctl = s.ctl := by
  simp [State.loadStep]

@[simp] theorem State.startOrdered_ctl (s : State) : (State.startOrdered s).ctl = s.ctl := by
  simp [State.startOrdered]

@[simp] theorem State.startShed_ctl (s : State) (p : Nat) : (State.startShed s p).ctl = s.ctl := by
  simp [State.startShed]

@[simp] theorem State.shedDisabled_ctl (s : State) : (State.shedDisabled s).ctl = s.ctl := by
  simp [State.shedDisabled]

@[simp] theorem State.decidePhases_ctl (s : State) : (State.decidePhases s).ctl = s.ctl := by
  unfold State.decidePhases
  dsimp only
  repeat' split
  all_goals simp

@[simp] theorem State.retarget_ctl (s : State) : (State.retarget s).ctl = s.ctl := by
  simp [State.retarget]

@[simp] theorem State.burstStart_ctl (s : State) : (State.burstStart s).ctl = s.ctl := by
  simp [State.burstStart]

@[simp] theorem State.burstStep_ctl (s : State) : (State.burstStep s).ctl = s.ctl := by
  simp [State.burstStep]

@[simp] theorem State.loopBurst_ctl (s : State) : (State.loopBurst s).ctl = s.ctl := by
  simp [State.loopBurst]

@[simp] theorem State.boundaryCounts_ctl (s : State) : (State.boundaryCounts s).ctl = s.ctl := by
  simp [State.boundaryCounts]

@[simp] theorem State.boundaryPhases_ctl (s : State) : (State.boundaryPhases s).ctl = s.ctl := by
  simp [State.boundaryPhases]

@[simp] theorem State.abandonTrk_ctl (s : State) (kind sev : Nat) : (State.abandonTrk s kind sev).ctl = s.ctl := by
  simp [State.abandonTrk]

@[simp] theorem State.dropCo3_ctl (s : State) : (State.dropCo3 s).ctl = s.ctl := by
  simp [State.dropCo3]

@[simp] theorem State.probeSuspend_ctl (s : State) : (State.probeSuspend s).ctl = s.ctl := by
  simp [State.probeSuspend]

@[simp] theorem State.applyClamp_ctl (s : State) (q : Rat) (dtNs : Nat) : (State.applyClamp s q dtNs).1.ctl = s.ctl := by
  simp [State.applyClamp]

@[simp] theorem State.holdTones_ctl (s : State) : (State.holdTones s).ctl = s.ctl := by
  simp [State.holdTones]

@[simp] theorem State.brakeStep_ctl (s : State) (p : Nat) (m : EvalIn) : (State.brakeStep s p m).ctl = s.ctl := by
  simp [State.brakeStep]

@[simp] theorem State.issue_ctl (s : State) (p : Nat) (m : EvalIn) : (State.issue s p m).ctl = s.ctl := by
  simp [State.issue]

@[simp] theorem State.heldPoint_ctl (s0 : State) (p : Nat) (m : EvalIn) : (State.heldPoint s0 p m).ctl = s0.ctl := by
  simp [State.heldPoint]

@[simp] theorem State.announced_ctl (s : State) (m : EntryIn) : (State.announced s m).ctl = s.ctl := by
  simp [State.announced]

@[simp] theorem State.queueCmd_ctl (s : State) (n cmd : Nat) (params : List Nat) (chan : Option Nat) : (State.queueCmd s n cmd params chan).ctl = s.ctl := by
  simp [State.queueCmd]

@[simp] theorem State.updEnd_ctl (s : State) : (State.updEnd s).ctl = s.ctl := by
  simp [State.updEnd]

@[simp] theorem State.updDisturbed_ctl (s : State) : (State.updDisturbed s).ctl = s.ctl := by
  simp [State.updDisturbed]

@[simp] theorem State.confirm_ctl (s : State) : (State.confirm s).ctl = s.ctl := by
  simp [State.confirm]

@[simp] theorem State.reportDrops_ctl (s : State) : (State.reportDrops s).ctl = s.ctl := by
  unfold State.reportDrops
  repeat' split
  all_goals simp

@[simp] theorem State.logWriteOne_ctl (s : State) : (State.logWriteOne s).ctl = s.ctl := by
  unfold State.logWriteOne
  dsimp only
  split <;> simp

@[simp] theorem State.logDrain_ctl (s : State) : (State.logDrain s).ctl = s.ctl := by
  simp [State.logDrain]

@[simp] theorem State.nvmBad_ctl (s : State) (a : Nat) : (State.nvmBad s a).ctl = s.ctl := by
  simp [State.nvmBad]

@[simp] theorem State.pd0Backup_ctl (s : State) : (State.pd0Backup s).ctl = s.ctl := by
  simp [State.pd0Backup]

@[simp] theorem State.queueLimits_ctl (s : State) (n : Nat) : (State.queueLimits s n).ctl = s.ctl := by
  simp [State.queueLimits]

@[simp] theorem State.logUncounted_ctl (s : State) (qint : Int) : (State.logUncounted s qint).ctl = s.ctl := by
  simp [State.logUncounted]

@[simp] theorem State.modNode_ctl (s : State) (n : Nat) (f : Nat → GroupRec → GroupRec) : (State.modNode s n f).ctl = s.ctl := by
  simp [State.modNode]

@[simp] theorem State.crossing_ctl (s : State) (side level dir crit g : Nat) : (State.crossing s side level dir crit g).ctl = s.ctl := by
  simp [State.crossing]

@[simp] theorem State.thmConvert_ctl (s : State) : (State.thmConvert s).ctl = s.ctl := by
  simp [State.thmConvert]

@[simp] theorem State.thmTake_ctl (s : State) (src : Nat) (mask : Nat) (x : ThmIn) : (State.thmTake s src mask x).ctl = s.ctl := by
  unfold State.thmTake
  split <;> simp

@[simp] theorem State.thmModel_ctl (s : State) (p : Nat) : (State.thmModel s p).ctl = s.ctl := by
  simp [State.thmModel]

@[simp] theorem State.thmPhase_ctl (s : State) (p : Nat) : (State.thmPhase s p).ctl = s.ctl := by
  simp [State.thmPhase]

@[simp] theorem State.thmGroup_ctl (s : State) (g : Nat) : (State.thmGroup s g).ctl = s.ctl := by
  simp [State.thmGroup]

@[simp] theorem State.degThermal_ctl (s : State) : (State.degThermal s).ctl = s.ctl := by
  simp [State.degThermal]

@[simp] theorem State.factors_ctl (s : State) : (State.factors s).ctl = s.ctl := by
  simp [State.factors]

@[simp] theorem State.thmHot_ctl (s : State) : (State.thmHot s).ctl = s.ctl := by
  simp [State.thmHot]

@[simp] theorem State.slotSkip_ctl (s : State) (sw : Nat) : (State.slotSkip s sw).ctl = s.ctl := by
  simp [State.slotSkip]

@[simp] theorem State.degSession_ctl (s : State) : (State.degSession s).ctl = s.ctl := by
  simp [State.degSession]

@[simp] theorem State.degNet_ctl (s : State) : (State.degNet s).ctl = s.ctl := by
  simp [State.degNet]

@[simp] theorem State.pduMiss_ctl (s : State) : (State.pduMiss s).ctl = s.ctl := by
  simp [State.pduMiss]

@[simp] theorem State.clogAdd_ctl (s : State) (kind source index : Nat) (old new : Int) : (State.clogAdd s kind source index old new).ctl = s.ctl := by
  simp [State.clogAdd]

@[simp] theorem State.cfgCommit_ctl (s : State) (source : Nat) : (State.cfgCommit s source).ctl = s.ctl := by
  simp [State.cfgCommit]

@[simp] theorem State.cfgEnd_ctl (s : State) : (State.cfgEnd s).ctl = s.ctl := by
  unfold State.cfgEnd
  split <;> simp

@[simp] theorem State.sagReset_ctl (s : State) (format : Nat) (fw : Nat) : (State.sagReset s format fw).ctl = s.ctl := by
  unfold State.sagReset
  dsimp only
  split
  · exact State.clogAdd_ctl ..
  · exact (State.clogAdd_ctl ..).trans (State.clogAdd_ctl ..)

@[simp] theorem State.domainUp_ctl (s : State) (d : Nat) : (State.domainUp s d).ctl = s.ctl := by
  simp [State.domainUp]

@[simp] theorem State.domainDown_ctl (s : State) (d : Nat) : (State.domainDown s d).ctl = s.ctl := by
  unfold State.domainDown
  split <;> simp

@[simp] theorem State.logItem_ctl (s : State) (detail : Nat) (i : TestItem) : (State.logItem s detail i).ctl = s.ctl := by
  simp [State.logItem]

@[simp] theorem State.startLost_ctl (s : State) (n : Nat) : (State.startLost s n).ctl = s.ctl := by
  simp [State.startLost]

@[simp] theorem State.boCommit_ctl (s : State) : (State.boCommit s).ctl = s.ctl := by
  simp [State.boCommit]

@[simp] theorem State.pairFault_ctl (s : State) (kind : Nat) : (State.pairFault s kind).ctl = s.ctl := by
  simp [State.pairFault]

@[simp] theorem State.clashCheck_ctl (s : State) (h : Partner) (higher : Bool) : (State.clashCheck s h higher).ctl = s.ctl := by
  simp [State.clashCheck]

@[simp] theorem State.putPeriod_ctl (s : State) (v : Nat) : (State.putPeriod s v).ctl = s.ctl := by
  simp [State.putPeriod]

@[simp] theorem State.settingDone_ctl (s : State) (i : Nat) (v old : Int) : (State.settingDone s i v old).ctl = s.ctl := by
  simp [State.settingDone]

@[simp] theorem State.putSetting_ctl (s : State) (i : Nat) (v : Int) : (State.putSetting s i v).ctl = s.ctl := by
  unfold State.putSetting
  repeat' split
  all_goals simp

@[simp] theorem State.toDefault_ctl (s : State) (i : Nat) : (State.toDefault s i).ctl = s.ctl := by
  unfold State.toDefault
  split <;> simp

@[simp] theorem State.toNewFormat_ctl (s : State) (i : Nat) : (State.toNewFormat s i).ctl = s.ctl := by
  simp [State.toNewFormat]

@[simp] theorem State.loadNewFormat_ctl (s : State) : (State.loadNewFormat s).ctl = s.ctl := by
  simp [State.loadNewFormat]

@[simp] theorem State.formatStep_ctl (s : State) : (State.formatStep s).ctl = s.ctl := by
  simp [State.formatStep]

@[simp] theorem State.loginState_ctl (s : State) : (State.loginState s).ctl = s.ctl := by
  simp [State.loginState]

@[simp] theorem State.stopDone_ctl (s : State) : (State.stopDone s).ctl = s.ctl := by
  simp [State.stopDone]

@[simp] theorem State.answerWait_ctl (s : State) (c : Nat) (r : Reply) : (State.answerWait s c r).ctl = s.ctl := by
  unfold State.answerWait
  exact State.ctl_foldl _ _ _ (fun t x => by split <;> simp)

@[simp] theorem State.done_ctl (s : State) (c code tag rc detail : Nat) (data : List Byte) : (State.done s c code tag rc detail data).ctl = s.ctl := by
  simp [State.done]

@[simp] theorem State.reply_ctl (s : State) (c : Nat) (rc : Nat) (detail : Nat) (data : List Byte) : (State.reply s c rc detail data).ctl = s.ctl := by
  unfold State.reply
  split <;> simp

@[simp] theorem State.atTime_ctl (s : State) (t : BitVec 32) : (State.atTime s t).ctl = s.ctl := by
  simp [State.atTime]

@[simp] theorem State.capWrite_ctl (s : State) (cap g : Nat) : (State.capWrite s cap g).ctl = s.ctl := by
  simp [State.capWrite]

@[simp] theorem State.heldBusy_ctl (s : State) (p : Chan → Bool) : (State.heldBusy s p).ctl = s.ctl := by
  simp [State.heldBusy]

end Sys2Proof.Machine

/-! What leaves the thermal manager as it is. -/

namespace Sys2Proof.Machine

/-- A fold of updates that keep the field keeps it. -/
@[simp] theorem State.thm_foldl {β : Type} (f : State → β → State) (l : List β) (s : State) (h : ∀ t x, (f t x).thm = t.thm) :
    (l.foldl f s).thm = s.thm := by
  induction l generalizing s with
  | nil => rfl
  | cons x l ih => rw [List.foldl_cons, ih, h]

/-- The field of a choice of states. -/
@[simp] theorem State.thm_ite (c : Prop) [Decidable c] (a b : State) : (if c then a else b).thm = if c then a.thm else b.thm := by
  split <;> rfl

/-- The field of a choice of states beside a value. -/
@[simp] theorem State.thm_itep {α : Type} (c : Prop) [Decidable c] (a b : State × α) :
    (if c then a else b).1.thm = if c then a.1.thm else b.1.thm := by
  split <;> rfl

@[simp] theorem State.logPost_thm (s : State) (src code sev : Nat) (data : List Nat) : (State.logPost s src code sev data).thm = s.thm := by
  simp [State.logPost]

@[simp] theorem State.sendFrom_thm (s : State) (p : PortId) (addr udp : Nat) (b : List Byte) : (State.sendFrom s p addr udp b).thm = s.thm := by
  simp [State.sendFrom]

@[simp] theorem State.sendAttn_thm (s : State) (x : Session) (m : Attn) (p : PortId) (again : Bool) : (State.sendAttn s x m p again).thm = s.thm := by
  simp [State.sendAttn]

@[simp] theorem State.lostNote_thm (s : State) (i : Nat) : (State.lostNote s i).thm = s.thm := by
  unfold State.lostNote
  split <;> simp

@[simp] theorem State.attnTo_thm (s : State) (m : Attn) (i : Nat) : (State.attnTo s m i).thm = s.thm := by
  unfold State.attnTo
  split <;> simp

@[simp] theorem State.attn_thm (s : State) (code sev : Nat) (data : List Nat) : (State.attn s code sev data).thm = s.thm := by
  simp [State.attn]

@[simp] theorem State.clearSetpoints_thm (s : State) : (State.clearSetpoints s).thm = s.thm := by
  simp [State.clearSetpoints]

@[simp] theorem State.syncMode_thm (s : State) : (State.syncMode s).thm = s.thm := by
  simp [State.syncMode]

@[simp] theorem State.coilService1_thm (s : State) (k : Nat) : (State.coilService1 s k).thm = s.thm := by
  simp [State.coilService1]

@[simp] theorem State.coilService_thm (s : State) : (State.coilService s).thm = s.thm := by
  simp [State.coilService]

@[simp] theorem State.pairSend_thm (s : State) (kind : Nat) (body : List Byte) : (State.pairSend s kind body).thm = s.thm := by
  simp [State.pairSend]

@[simp] theorem State.swapSend_thm (s : State) (sub b : Nat) : (State.swapSend s sub b).thm = s.thm := by
  simp [State.swapSend]

@[simp] theorem State.sendStatus_thm (s : State) : (State.sendStatus s).thm = s.thm := by
  simp [State.sendStatus]

@[simp] theorem State.dropOutputs_thm (s : State) : (State.dropOutputs s).thm = s.thm := by
  simp [State.dropOutputs]

@[simp] theorem State.swapAbandon_thm (s : State) : (State.swapAbandon s).thm = s.thm := by
  unfold State.swapAbandon
  split <;> simp

@[simp] theorem State.isolate_thm (s : State) (c : Nat) : (State.isolate s c).thm = s.thm := by
  simp [State.isolate]

@[simp] theorem State.degPhase_thm (s : State) : (State.degPhase s).thm = s.thm := by
  simp [State.degPhase]

@[simp] theorem State.phaseFault_thm (s : State) (p c : Nat) : (State.phaseFault s p c).thm = s.thm := by
  simp [State.phaseFault]

@[simp] theorem State.requestSwap_thm (s : State) : (State.requestSwap s).thm = s.thm := by
  simp [State.requestSwap]

@[simp] theorem State.addPhases_thm (s : State) (req : Nat) : (State.addPhases s req).thm = s.thm := by
  simp [State.addPhases]

@[simp] theorem State.loadStep_thm (s : State) : (State.loadStep s).thm = s.thm := by
  simp [State.loadStep]

@[simp] theorem State.startOrdered_thm (s : State) : (State.startOrdered s).thm = s.thm := by
  simp [State.startOrdered]

@[simp] theorem State.startShed_thm (s : State) (p : Nat) : (State.startShed s p).thm = s.thm := by
  simp [State.startShed]

@[simp] theorem State.shedDisabled_thm (s : State) : (State.shedDisabled s).thm = s.thm := by
  simp [State.shedDisabled]

@[simp] theorem State.decidePhases_thm (s : State) : (State.decidePhases s).thm = s.thm := by
  unfold State.decidePhases
  dsimp only
  repeat' split
  all_goals simp

@[simp] theorem State.retarget_thm (s : State) : (State.retarget s).thm = s.thm := by
  simp [State.retarget]

@[simp] theorem State.burstStart_thm (s : State) : (State.burstStart s).thm = s.thm := by
  simp [State.burstStart]

@[simp] theorem State.burstStep_thm (s : State) : (State.burstStep s).thm = s.thm := by
  simp [State.burstStep]

@[simp] theorem State.loopBurst_thm (s : State) : (State.loopBurst s).thm = s.thm := by
  simp [State.loopBurst]

@[simp] theorem State.boundaryCounts_thm (s : State) : (State.boundaryCounts s).thm = s.thm := by
  simp [State.boundaryCounts]

@[simp] theorem State.boundaryPhases_thm (s : State) : (State.boundaryPhases s).thm = s.thm := by
  simp [State.boundaryPhases]

@[simp] theorem State.abandonTrk_thm (s : State) (kind sev : Nat) : (State.abandonTrk s kind sev).thm = s.thm := by
  simp [State.abandonTrk]

@[simp] theorem State.applyOuter_thm (s : State) : (State.applyOuter s).thm = s.thm := by
  simp [State.applyOuter]

@[simp] theorem State.takeCmd_thm (s0 : State) (c : SetCmd) : (State.takeCmd s0 c).thm = s0.thm := by
  simp [State.takeCmd]

@[simp] theorem State.intake_thm (s : State) (now : Nat) : (State.intake s now).thm = s.thm := by
  simp [State.intake]

@[simp] theorem State.limits_thm (s : State) (dt : Rat) : (State.limits s dt).thm = s.thm := by
  simp [State.limits]

@[simp] theorem State.probeSuspend_thm (s : State) : (State.probeSuspend s).thm = s.thm := by
  simp [State.probeSuspend]

@[simp] theorem State.applyClamp_thm (s : State) (q : Rat) (dtNs : Nat) : (State.applyClamp s q dtNs).1.thm = s.thm := by
  simp [State.applyClamp]

@[simp] theorem State.holdTones_thm (s : State) : (State.holdTones s).thm = s.thm := by
  simp [State.holdTones]

@[simp] theorem State.outerLoop_thm (s : State) (q : Rat) (dtNs : Nat) : (State.outerLoop s q dtNs).thm = s.thm := by
  simp [State.outerLoop]

@[simp] theorem State.startMode_thm (s : State) (m : Nat) : (State.startMode s m).thm = s.thm := by
  simp [State.startMode]

@[simp] theorem State.modeChange_thm (s : State) : (State.modeChange s).thm = s.thm := by
  simp [State.modeChange]

@[simp] theorem State.droopStep_thm (s : State) : (State.droopStep s).thm = s.thm := by
  simp [State.droopStep]

@[simp] theorem State.droop_thm (s : State) : (State.droop s).thm = s.thm := by
  simp [State.droop]

@[simp] theorem State.trackTick_thm (s : State) (dt : Rat) : (State.trackTick s dt).thm = s.thm := by
  simp [State.trackTick]

@[simp] theorem State.holdTick_thm (s0 : State) (dt : Rat) : (State.holdTick s0 dt).thm = s0.thm := by
  simp [State.holdTick]

@[simp] theorem State.setRef_thm (s : State) (q : Rat) (dtNs : Nat) : (State.setRef s q dtNs).thm = s.thm := by
  simp [State.setRef]

@[simp] theorem State.linkRef_thm (s : State) (dtNs : Nat) : (State.linkRef s dtNs).thm = s.thm := by
  simp [State.linkRef]

@[simp] theorem State.calRampTick_thm (s : State) (dtNs : Nat) (dt : Rat) : (State.calRampTick s dtNs dt).thm = s.thm := by
  simp [State.calRampTick]

@[simp] theorem State.dispatchEval_thm (s : State) (now dtNs : Nat) (dt : Rat) : (State.dispatchEval s now dtNs dt).thm = s.thm := by
  simp [State.dispatchEval]

@[simp] theorem State.stopEval_thm (s : State) (now dtNs : Nat) (dt : Rat) : (State.stopEval s now dtNs dt).thm = s.thm := by
  simp [State.stopEval]

@[simp] theorem State.outerEval_thm (s : State) (now : Nat) (dtNs : Nat) : (State.outerEval s now dtNs).thm = s.thm := by
  unfold State.outerEval
  dsimp only
  repeat' split
  all_goals simp

@[simp] theorem State.observe_thm (s : State) (p : Nat) (m : EvalIn) (ma : Int) : (State.observe s p m ma).thm = s.thm := by
  simp [State.observe]

@[simp] theorem State.evalWrites_thm (s : State) (p : Nat) (m : EvalIn) : (State.evalWrites s p m).thm = s.thm := by
  simp [State.evalWrites]

@[simp] theorem State.announced_thm (s : State) (m : EntryIn) : (State.announced s m).thm = s.thm := by
  simp [State.announced]

@[simp] theorem State.applyBank_thm (s : State) : (State.applyBank s).thm = s.thm := by
  simp [State.applyBank]

@[simp] theorem State.queueCmd_thm (s : State) (n cmd : Nat) (params : List Nat) (chan : Option Nat) : (State.queueCmd s n cmd params chan).thm = s.thm := by
  simp [State.queueCmd]

@[simp] theorem State.updEnd_thm (s : State) : (State.updEnd s).thm = s.thm := by
  simp [State.updEnd]

@[simp] theorem State.updDisturbed_thm (s : State) : (State.updDisturbed s).thm = s.thm := by
  simp [State.updDisturbed]

@[simp] theorem State.confirm_thm (s : State) : (State.confirm s).thm = s.thm := by
  simp [State.confirm]

@[simp] theorem State.reportDrops_thm (s : State) : (State.reportDrops s).thm = s.thm := by
  unfold State.reportDrops
  repeat' split
  all_goals simp

@[simp] theorem State.logWriteOne_thm (s : State) : (State.logWriteOne s).thm = s.thm := by
  unfold State.logWriteOne
  dsimp only
  split <;> simp

@[simp] theorem State.logDrain_thm (s : State) : (State.logDrain s).thm = s.thm := by
  simp [State.logDrain]

@[simp] theorem State.nvmBad_thm (s : State) (a : Nat) : (State.nvmBad s a).thm = s.thm := by
  simp [State.nvmBad]

@[simp] theorem State.pd0Backup_thm (s : State) : (State.pd0Backup s).thm = s.thm := by
  simp [State.pd0Backup]

@[simp] theorem State.loadTones_thm (s : State) : (State.loadTones s).thm = s.thm := by
  simp [State.loadTones]

@[simp] theorem State.queueLimits_thm (s : State) (n : Nat) : (State.queueLimits s n).thm = s.thm := by
  simp [State.queueLimits]

@[simp] theorem State.logUncounted_thm (s : State) (qint : Int) : (State.logUncounted s qint).thm = s.thm := by
  simp [State.logUncounted]

@[simp] theorem State.modNode_thm (s : State) (n : Nat) (f : Nat → GroupRec → GroupRec) : (State.modNode s n f).thm = s.thm := by
  simp [State.modNode]

@[simp] theorem State.crossing_thm (s : State) (side level dir crit g : Nat) : (State.crossing s side level dir crit g).thm = s.thm := by
  simp [State.crossing]

@[simp] theorem State.derateLog_thm (s : State) (chg : Bool) (kind limit : Nat) : (State.derateLog s chg kind limit).thm = s.thm := by
  simp [State.derateLog]

@[simp] theorem State.alignStat_thm (s : State) : (State.alignStat s).thm = s.thm := by
  simp [State.alignStat]

@[simp] theorem State.ceFrameStart_thm (s : State) : (State.ceFrameStart s).thm = s.thm := by
  simp [State.ceFrameStart]

@[simp] theorem State.loadBoot_thm (s : State) : (State.loadBoot s).thm = s.thm := by
  simp [State.loadBoot]

@[simp] theorem State.bootReselect_thm (s : State) : (State.bootReselect s).thm = s.thm := by
  simp [State.bootReselect]

@[simp] theorem State.sagIsolate_thm (s : State) (c : Nat) : (State.sagIsolate s c).thm = s.thm := by
  simp [State.sagIsolate]

@[simp] theorem State.diag_thm (s : State) (k : Nat) (bad : Bool) : (State.diag s k bad).thm = s.thm := by
  simp [State.diag]

@[simp] theorem State.diagFail_thm (s : State) (k : Nat) : (State.diagFail s k).thm = s.thm := by
  simp [State.diagFail]

@[simp] theorem State.diagHard_thm (s : State) : (State.diagHard s).thm = s.thm := by
  simp [State.diagHard]

@[simp] theorem State.slotSkip_thm (s : State) (sw : Nat) : (State.slotSkip s sw).thm = s.thm := by
  simp [State.slotSkip]

@[simp] theorem State.degSession_thm (s : State) : (State.degSession s).thm = s.thm := by
  simp [State.degSession]

@[simp] theorem State.degNet_thm (s : State) : (State.degNet s).thm = s.thm := by
  simp [State.degNet]

@[simp] theorem State.pduMiss_thm (s : State) : (State.pduMiss s).thm = s.thm := by
  simp [State.pduMiss]

@[simp] theorem State.clogAdd_thm (s : State) (kind source index : Nat) (old new : Int) : (State.clogAdd s kind source index old new).thm = s.thm := by
  simp [State.clogAdd]

@[simp] theorem State.cfgCommit_thm (s : State) (source : Nat) : (State.cfgCommit s source).thm = s.thm := by
  simp [State.cfgCommit]

@[simp] theorem State.cfgEnd_thm (s : State) : (State.cfgEnd s).thm = s.thm := by
  unfold State.cfgEnd
  split <;> simp

@[simp] theorem State.sagReset_thm (s : State) (format : Nat) (fw : Nat) : (State.sagReset s format fw).thm = s.thm := by
  unfold State.sagReset
  dsimp only
  split
  · exact State.clogAdd_thm ..
  · exact (State.clogAdd_thm ..).trans (State.clogAdd_thm ..)

@[simp] theorem State.settingsLoad_thm (s : State) : (State.settingsLoad s).thm = s.thm := by
  unfold State.settingsLoad
  split <;> simp

@[simp] theorem State.capLoad_thm (s : State) : (State.capLoad s).thm = s.thm := by
  unfold State.capLoad
  split <;> simp

@[simp] theorem State.countLoad_thm (s : State) : (State.countLoad s).thm = s.thm := by
  unfold State.countLoad
  repeat' split
  all_goals simp

@[simp] theorem State.sagLoad_thm (s : State) : (State.sagLoad s).thm = s.thm := by
  unfold State.sagLoad
  split <;> simp

@[simp] theorem State.tvLoad_thm (s : State) : (State.tvLoad s).thm = s.thm := by
  simp [State.tvLoad]

@[simp] theorem State.bootLoad_thm (s : State) : (State.bootLoad s).thm = s.thm := by
  simp [State.bootLoad]

@[simp] theorem State.bootConfirm_thm (s : State) : (State.bootConfirm s).thm = s.thm := by
  simp [State.bootConfirm]

@[simp] theorem State.domainUp_thm (s : State) (d : Nat) : (State.domainUp s d).thm = s.thm := by
  simp [State.domainUp]

@[simp] theorem State.isolateAll_thm (s : State) (l : List Nat) : (State.isolateAll s l).thm = s.thm := by
  unfold State.isolateAll
  split <;> simp

@[simp] theorem State.logItem_thm (s : State) (detail : Nat) (i : TestItem) : (State.logItem s detail i).thm = s.thm := by
  simp [State.logItem]

@[simp] theorem State.testResults_thm (s : State) (r : SelfTest) : (State.testResults s r).thm = s.thm := by
  simp [State.testResults]

@[simp] theorem State.startLost_thm (s : State) (n : Nat) : (State.startLost s n).thm = s.thm := by
  simp [State.startLost]

@[simp] theorem State.pairFault_thm (s : State) (kind : Nat) : (State.pairFault s kind).thm = s.thm := by
  simp [State.pairFault]

@[simp] theorem State.clashCheck_thm (s : State) (h : Partner) (higher : Bool) : (State.clashCheck s h higher).thm = s.thm := by
  simp [State.clashCheck]

@[simp] theorem State.putPeriod_thm (s : State) (v : Nat) : (State.putPeriod s v).thm = s.thm := by
  simp [State.putPeriod]

@[simp] theorem State.settingDone_thm (s : State) (i : Nat) (v old : Int) : (State.settingDone s i v old).thm = s.thm := by
  simp [State.settingDone]

@[simp] theorem State.putSetting_thm (s : State) (i : Nat) (v : Int) : (State.putSetting s i v).thm = s.thm := by
  unfold State.putSetting
  repeat' split
  all_goals simp

@[simp] theorem State.toDefault_thm (s : State) (i : Nat) : (State.toDefault s i).thm = s.thm := by
  unfold State.toDefault
  split <;> simp

@[simp] theorem State.toNewFormat_thm (s : State) (i : Nat) : (State.toNewFormat s i).thm = s.thm := by
  simp [State.toNewFormat]

@[simp] theorem State.loadNewFormat_thm (s : State) : (State.loadNewFormat s).thm = s.thm := by
  simp [State.loadNewFormat]

@[simp] theorem State.formatStep_thm (s : State) : (State.formatStep s).thm = s.thm := by
  simp [State.formatStep]

@[simp] theorem State.loginState_thm (s : State) : (State.loginState s).thm = s.thm := by
  simp [State.loginState]

@[simp] theorem State.stopDone_thm (s : State) : (State.stopDone s).thm = s.thm := by
  simp [State.stopDone]

@[simp] theorem State.answerWait_thm (s : State) (c : Nat) (r : Reply) : (State.answerWait s c r).thm = s.thm := by
  unfold State.answerWait
  exact State.thm_foldl _ _ _ (fun t x => by split <;> simp)

@[simp] theorem State.done_thm (s : State) (c code tag rc detail : Nat) (data : List Byte) : (State.done s c code tag rc detail data).thm = s.thm := by
  simp [State.done]

@[simp] theorem State.reply_thm (s : State) (c : Nat) (rc : Nat) (detail : Nat) (data : List Byte) : (State.reply s c rc detail data).thm = s.thm := by
  unfold State.reply
  split <;> simp

@[simp] theorem State.atTime_thm (s : State) (t : BitVec 32) : (State.atTime s t).thm = s.thm := by
  simp [State.atTime]

@[simp] theorem State.capWrite_thm (s : State) (cap g : Nat) : (State.capWrite s cap g).thm = s.thm := by
  simp [State.capWrite]

@[simp] theorem State.heldBusy_thm (s : State) (p : Chan → Bool) : (State.heldBusy s p).thm = s.thm := by
  simp [State.heldBusy]

end Sys2Proof.Machine

/-! What leaves the radio link as it is. -/

namespace Sys2Proof.Machine

/-- A fold of updates that keep the field keeps it. -/
@[simp] theorem State.fnl_foldl {β : Type} (f : State → β → State) (l : List β) (s : State) (h : ∀ t x, (f t x).fnl = t.fnl) :
    (l.foldl f s).fnl = s.fnl := by
  induction l generalizing s with
  | nil => rfl
  | cons x l ih => rw [List.foldl_cons, ih, h]

/-- The field of a choice of states. -/
@[simp] theorem State.fnl_ite (c : Prop) [Decidable c] (a b : State) : (if c then a else b).fnl = if c then a.fnl else b.fnl := by
  split <;> rfl

/-- The field of a choice of states beside a value. -/
@[simp] theorem State.fnl_itep {α : Type} (c : Prop) [Decidable c] (a b : State × α) :
    (if c then a else b).1.fnl = if c then a.1.fnl else b.1.fnl := by
  split <;> rfl

@[simp] theorem State.logPost_fnl (s : State) (src code sev : Nat) (data : List Nat) : (State.logPost s src code sev data).fnl = s.fnl := by
  simp [State.logPost]

@[simp] theorem State.sendFrom_fnl (s : State) (p : PortId) (addr udp : Nat) (b : List Byte) : (State.sendFrom s p addr udp b).fnl = s.fnl := by
  simp [State.sendFrom]

@[simp] theorem State.sendAttn_fnl (s : State) (x : Session) (m : Attn) (p : PortId) (again : Bool) : (State.sendAttn s x m p again).fnl = s.fnl := by
  simp [State.sendAttn]

@[simp] theorem State.lostNote_fnl (s : State) (i : Nat) : (State.lostNote s i).fnl = s.fnl := by
  unfold State.lostNote
  split <;> simp

@[simp] theorem State.attnTo_fnl (s : State) (m : Attn) (i : Nat) : (State.attnTo s m i).fnl = s.fnl := by
  unfold State.attnTo
  split <;> simp

@[simp] theorem State.attn_fnl (s : State) (code sev : Nat) (data : List Nat) : (State.attn s code sev data).fnl = s.fnl := by
  simp [State.attn]

@[simp] theorem State.announce_fnl (s : State) : (State.announce s).fnl = s.fnl := by
  simp [State.announce]

@[simp] theorem State.clearSetpoints_fnl (s : State) : (State.clearSetpoints s).fnl = s.fnl := by
  simp [State.clearSetpoints]

@[simp] theorem State.syncMode_fnl (s : State) : (State.syncMode s).fnl = s.fnl := by
  simp [State.syncMode]

@[simp] theorem State.leaveSetpoints_fnl (s : State) : (State.leaveSetpoints s).fnl = s.fnl := by
  simp [State.leaveSetpoints]

@[simp] theorem State.outputsRest_fnl (s : State) : (State.outputsRest s).fnl = s.fnl := by
  unfold State.outputsRest
  split <;> simp

@[simp] theorem State.enter_fnl (s : State) (st b : OpState) : (State.enter s st b).fnl = s.fnl := by
  simp [State.enter]

@[simp] theorem State.coilService1_fnl (s : State) (k : Nat) : (State.coilService1 s k).fnl = s.fnl := by
  simp [State.coilService1]

@[simp] theorem State.coilService_fnl (s : State) : (State.coilService s).fnl = s.fnl := by
  simp [State.coilService]

@[simp] theorem State.pairSend_fnl (s : State) (kind : Nat) (body : List Byte) : (State.pairSend s kind body).fnl = s.fnl := by
  simp [State.pairSend]

@[simp] theorem State.swapSend_fnl (s : State) (sub b : Nat) : (State.swapSend s sub b).fnl = s.fnl := by
  simp [State.swapSend]

@[simp] theorem State.sendStatus_fnl (s : State) : (State.sendStatus s).fnl = s.fnl := by
  simp [State.sendStatus]

@[simp] theorem State.dropOutputs_fnl (s : State) : (State.dropOutputs s).fnl = s.fnl := by
  simp [State.dropOutputs]

@[simp] theorem State.swapAbandon_fnl (s : State) : (State.swapAbandon s).fnl = s.fnl := by
  unfold State.swapAbandon
  split <;> simp

@[simp] theorem State.isolate_fnl (s : State) (c : Nat) : (State.isolate s c).fnl = s.fnl := by
  simp [State.isolate]

@[simp] theorem State.degPhase_fnl (s : State) : (State.degPhase s).fnl = s.fnl := by
  simp [State.degPhase]

@[simp] theorem State.phaseFault_fnl (s : State) (p c : Nat) : (State.phaseFault s p c).fnl = s.fnl := by
  simp [State.phaseFault]

@[simp] theorem State.requestSwap_fnl (s : State) : (State.requestSwap s).fnl = s.fnl := by
  simp [State.requestSwap]

@[simp] theorem State.autoSwap_fnl (s : State) : (State.autoSwap s).fnl = s.fnl := by
  simp [State.autoSwap]

@[simp] theorem State.addPhases_fnl (s : State) (req : Nat) : (State.addPhases s req).fnl = s.fnl := by
  simp [State.addPhases]

@[simp] theorem State.loadStep_fnl (s : State) : (State.loadStep s).fnl = s.fnl := by
  simp [State.loadStep]

@[simp] theorem State.startOrdered_fnl (s : State) : (State.startOrdered s).fnl = s.fnl := by
  simp [State.startOrdered]

@[simp] theorem State.startShed_fnl (s : State) (p : Nat) : (State.startShed s p).fnl = s.fnl := by
  simp [State.startShed]

@[simp] theorem State.shedDisabled_fnl (s : State) : (State.shedDisabled s).fnl = s.fnl := by
  simp [State.shedDisabled]

@[simp] theorem State.decidePhases_fnl (s : State) : (State.decidePhases s).fnl = s.fnl := by
  unfold State.decidePhases
  dsimp only
  repeat' split
  all_goals simp

@[simp] theorem State.retarget_fnl (s : State) : (State.retarget s).fnl = s.fnl := by
  simp [State.retarget]

@[simp] theorem State.burstStart_fnl (s : State) : (State.burstStart s).fnl = s.fnl := by
  simp [State.burstStart]

@[simp] theorem State.burstStep_fnl (s : State) : (State.burstStep s).fnl = s.fnl := by
  simp [State.burstStep]

@[simp] theorem State.loopBurst_fnl (s : State) : (State.loopBurst s).fnl = s.fnl := by
  simp [State.loopBurst]

@[simp] theorem State.boundaryCounts_fnl (s : State) : (State.boundaryCounts s).fnl = s.fnl := by
  simp [State.boundaryCounts]

@[simp] theorem State.boundaryPhases_fnl (s : State) : (State.boundaryPhases s).fnl = s.fnl := by
  simp [State.boundaryPhases]

@[simp] theorem State.refBoundary_fnl (s : State) : (State.refBoundary s).fnl = s.fnl := by
  simp [State.refBoundary]

@[simp] theorem State.abandonTrk_fnl (s : State) (kind sev : Nat) : (State.abandonTrk s kind sev).fnl = s.fnl := by
  simp [State.abandonTrk]

@[simp] theorem State.applyOuter_fnl (s : State) : (State.applyOuter s).fnl = s.fnl := by
  simp [State.applyOuter]

@[simp] theorem State.loadAtBoundary_fnl (s : State) : (State.loadAtBoundary s).fnl = s.fnl := by
  simp [State.loadAtBoundary]

@[simp] theorem State.takeCmd_fnl (s0 : State) (c : SetCmd) : (State.takeCmd s0 c).fnl = s0.fnl := by
  simp [State.takeCmd]

@[simp] theorem State.intake_fnl (s : State) (now : Nat) : (State.intake s now).fnl = s.fnl := by
  simp [State.intake]

@[simp] theorem State.limits_fnl (s : State) (dt : Rat) : (State.limits s dt).fnl = s.fnl := by
  simp [State.limits]

@[simp] theorem State.probeSuspend_fnl (s : State) : (State.probeSuspend s).fnl = s.fnl := by
  simp [State.probeSuspend]

@[simp] theorem State.applyClamp_fnl (s : State) (q : Rat) (dtNs : Nat) : (State.applyClamp s q dtNs).1.fnl = s.fnl := by
  simp [State.applyClamp]

@[simp] theorem State.holdTones_fnl (s : State) : (State.holdTones s).fnl = s.fnl := by
  simp [State.holdTones]

@[simp] theorem State.outerLoop_fnl (s : State) (q : Rat) (dtNs : Nat) : (State.outerLoop s q dtNs).fnl = s.fnl := by
  simp [State.outerLoop]

@[simp] theorem State.startMode_fnl (s : State) (m : Nat) : (State.startMode s m).fnl = s.fnl := by
  simp [State.startMode]

@[simp] theorem State.modeChange_fnl (s : State) : (State.modeChange s).fnl = s.fnl := by
  simp [State.modeChange]

@[simp] theorem State.droopStep_fnl (s : State) : (State.droopStep s).fnl = s.fnl := by
  simp [State.droopStep]

@[simp] theorem State.droop_fnl (s : State) : (State.droop s).fnl = s.fnl := by
  simp [State.droop]

@[simp] theorem State.trackTick_fnl (s : State) (dt : Rat) : (State.trackTick s dt).fnl = s.fnl := by
  simp [State.trackTick]

@[simp] theorem State.holdTick_fnl (s0 : State) (dt : Rat) : (State.holdTick s0 dt).fnl = s0.fnl := by
  simp [State.holdTick]

@[simp] theorem State.setRef_fnl (s : State) (q : Rat) (dtNs : Nat) : (State.setRef s q dtNs).fnl = s.fnl := by
  simp [State.setRef]

@[simp] theorem State.linkRef_fnl (s : State) (dtNs : Nat) : (State.linkRef s dtNs).fnl = s.fnl := by
  simp [State.linkRef]

@[simp] theorem State.calRampTick_fnl (s : State) (dtNs : Nat) (dt : Rat) : (State.calRampTick s dtNs dt).fnl = s.fnl := by
  simp [State.calRampTick]

@[simp] theorem State.dispatchEval_fnl (s : State) (now dtNs : Nat) (dt : Rat) : (State.dispatchEval s now dtNs dt).fnl = s.fnl := by
  simp [State.dispatchEval]

@[simp] theorem State.stopEval_fnl (s : State) (now dtNs : Nat) (dt : Rat) : (State.stopEval s now dtNs dt).fnl = s.fnl := by
  simp [State.stopEval]

@[simp] theorem State.outerEval_fnl (s : State) (now : Nat) (dtNs : Nat) : (State.outerEval s now dtNs).fnl = s.fnl := by
  unfold State.outerEval
  dsimp only
  repeat' split
  all_goals simp

@[simp] theorem State.observe_fnl (s : State) (p : Nat) (m : EvalIn) (ma : Int) : (State.observe s p m ma).fnl = s.fnl := by
  simp [State.observe]

@[simp] theorem State.evalWrites_fnl (s : State) (p : Nat) (m : EvalIn) : (State.evalWrites s p m).fnl = s.fnl := by
  simp [State.evalWrites]

@[simp] theorem State.announced_fnl (s : State) (m : EntryIn) : (State.announced s m).fnl = s.fnl := by
  simp [State.announced]

@[simp] theorem State.confirm_fnl (s : State) : (State.confirm s).fnl = s.fnl := by
  simp [State.confirm]

@[simp] theorem State.reportDrops_fnl (s : State) : (State.reportDrops s).fnl = s.fnl := by
  unfold State.reportDrops
  repeat' split
  all_goals simp

@[simp] theorem State.logWriteOne_fnl (s : State) : (State.logWriteOne s).fnl = s.fnl := by
  unfold State.logWriteOne
  dsimp only
  split <;> simp

@[simp] theorem State.logDrain_fnl (s : State) : (State.logDrain s).fnl = s.fnl := by
  simp [State.logDrain]

@[simp] theorem State.nvmBad_fnl (s : State) (a : Nat) : (State.nvmBad s a).fnl = s.fnl := by
  simp [State.nvmBad]

@[simp] theorem State.pd0Backup_fnl (s : State) : (State.pd0Backup s).fnl = s.fnl := by
  simp [State.pd0Backup]

@[simp] theorem State.logUncounted_fnl (s : State) (qint : Int) : (State.logUncounted s qint).fnl = s.fnl := by
  simp [State.logUncounted]

@[simp] theorem State.modNode_fnl (s : State) (n : Nat) (f : Nat → GroupRec → GroupRec) : (State.modNode s n f).fnl = s.fnl := by
  simp [State.modNode]

@[simp] theorem State.writeStale_fnl (s : State) (n own : Nat) (rep : Option Nat) : (State.writeStale s n own rep).fnl = s.fnl := by
  simp [State.writeStale]

@[simp] theorem State.crossing_fnl (s : State) (side level dir crit g : Nat) : (State.crossing s side level dir crit g).fnl = s.fnl := by
  simp [State.crossing]

@[simp] theorem State.thmConvert_fnl (s : State) : (State.thmConvert s).fnl = s.fnl := by
  simp [State.thmConvert]

@[simp] theorem State.thmTake_fnl (s : State) (src : Nat) (mask : Nat) (x : ThmIn) : (State.thmTake s src mask x).fnl = s.fnl := by
  unfold State.thmTake
  split <;> simp

@[simp] theorem State.thmModel_fnl (s : State) (p : Nat) : (State.thmModel s p).fnl = s.fnl := by
  simp [State.thmModel]

@[simp] theorem State.thmPhase_fnl (s : State) (p : Nat) : (State.thmPhase s p).fnl = s.fnl := by
  simp [State.thmPhase]

@[simp] theorem State.thmGroup_fnl (s : State) (g : Nat) : (State.thmGroup s g).fnl = s.fnl := by
  simp [State.thmGroup]

@[simp] theorem State.degThermal_fnl (s : State) : (State.degThermal s).fnl = s.fnl := by
  simp [State.degThermal]

@[simp] theorem State.factors_fnl (s : State) : (State.factors s).fnl = s.fnl := by
  simp [State.factors]

@[simp] theorem State.thmHot_fnl (s : State) : (State.thmHot s).fnl = s.fnl := by
  simp [State.thmHot]

@[simp] theorem State.sagIsolate_fnl (s : State) (c : Nat) : (State.sagIsolate s c).fnl = s.fnl := by
  simp [State.sagIsolate]

@[simp] theorem State.diag_fnl (s : State) (k : Nat) (bad : Bool) : (State.diag s k bad).fnl = s.fnl := by
  simp [State.diag]

@[simp] theorem State.diagFail_fnl (s : State) (k : Nat) : (State.diagFail s k).fnl = s.fnl := by
  simp [State.diagFail]

@[simp] theorem State.diagHard_fnl (s : State) : (State.diagHard s).fnl = s.fnl := by
  simp [State.diagHard]

@[simp] theorem State.slotSkip_fnl (s : State) (sw : Nat) : (State.slotSkip s sw).fnl = s.fnl := by
  simp [State.slotSkip]

@[simp] theorem State.degNet_fnl (s : State) : (State.degNet s).fnl = s.fnl := by
  simp [State.degNet]

@[simp] theorem State.pduMiss_fnl (s : State) : (State.pduMiss s).fnl = s.fnl := by
  simp [State.pduMiss]

@[simp] theorem State.clogAdd_fnl (s : State) (kind source index : Nat) (old new : Int) : (State.clogAdd s kind source index old new).fnl = s.fnl := by
  simp [State.clogAdd]

@[simp] theorem State.sagReset_fnl (s : State) (format : Nat) (fw : Nat) : (State.sagReset s format fw).fnl = s.fnl := by
  unfold State.sagReset
  dsimp only
  split
  · exact State.clogAdd_fnl ..
  · exact (State.clogAdd_fnl ..).trans (State.clogAdd_fnl ..)

@[simp] theorem State.settingsLoad_fnl (s : State) : (State.settingsLoad s).fnl = s.fnl := by
  unfold State.settingsLoad
  split <;> simp

@[simp] theorem State.capLoad_fnl (s : State) : (State.capLoad s).fnl = s.fnl := by
  unfold State.capLoad
  split <;> simp

@[simp] theorem State.countLoad_fnl (s : State) : (State.countLoad s).fnl = s.fnl := by
  unfold State.countLoad
  repeat' split
  all_goals simp

@[simp] theorem State.sagLoad_fnl (s : State) : (State.sagLoad s).fnl = s.fnl := by
  unfold State.sagLoad
  split <;> simp

@[simp] theorem State.tvLoad_fnl (s : State) : (State.tvLoad s).fnl = s.fnl := by
  simp [State.tvLoad]

@[simp] theorem State.bootRevert_fnl (s : State) : (State.bootRevert s).fnl = s.fnl := by
  simp [State.bootRevert]

@[simp] theorem State.isolateAll_fnl (s : State) (l : List Nat) : (State.isolateAll s l).fnl = s.fnl := by
  unfold State.isolateAll
  split <;> simp

@[simp] theorem State.logItem_fnl (s : State) (detail : Nat) (i : TestItem) : (State.logItem s detail i).fnl = s.fnl := by
  simp [State.logItem]

@[simp] theorem State.startLost_fnl (s : State) (n : Nat) : (State.startLost s n).fnl = s.fnl := by
  simp [State.startLost]

@[simp] theorem State.pairFault_fnl (s : State) (kind : Nat) : (State.pairFault s kind).fnl = s.fnl := by
  simp [State.pairFault]

@[simp] theorem State.clashCheck_fnl (s : State) (h : Partner) (higher : Bool) : (State.clashCheck s h higher).fnl = s.fnl := by
  simp [State.clashCheck]

@[simp] theorem State.ceFresh_fnl (s : State) : (State.ceFresh s).fnl = s.fnl := by
  simp [State.ceFresh]

@[simp] theorem State.putPeriod_fnl (s : State) (v : Nat) : (State.putPeriod s v).fnl = s.fnl := by
  simp [State.putPeriod]

@[simp] theorem State.settingDone_fnl (s : State) (i : Nat) (v old : Int) : (State.settingDone s i v old).fnl = s.fnl := by
  simp [State.settingDone]

@[simp] theorem State.putSetting_fnl (s : State) (i : Nat) (v : Int) : (State.putSetting s i v).fnl = s.fnl := by
  unfold State.putSetting
  repeat' split
  all_goals simp

@[simp] theorem State.toDefault_fnl (s : State) (i : Nat) : (State.toDefault s i).fnl = s.fnl := by
  unfold State.toDefault
  split <;> simp

@[simp] theorem State.toNewFormat_fnl (s : State) (i : Nat) : (State.toNewFormat s i).fnl = s.fnl := by
  simp [State.toNewFormat]

@[simp] theorem State.loadNewFormat_fnl (s : State) : (State.loadNewFormat s).fnl = s.fnl := by
  simp [State.loadNewFormat]

@[simp] theorem State.formatStep_fnl (s : State) : (State.formatStep s).fnl = s.fnl := by
  simp [State.formatStep]

@[simp] theorem State.loginState_fnl (s : State) : (State.loginState s).fnl = s.fnl := by
  simp [State.loginState]

@[simp] theorem State.stopDone_fnl (s : State) : (State.stopDone s).fnl = s.fnl := by
  simp [State.stopDone]

@[simp] theorem State.toMaintenance_fnl (s : State) : (State.toMaintenance s).fnl = s.fnl := by
  simp [State.toMaintenance]

@[simp] theorem State.answerWait_fnl (s : State) (c : Nat) (r : Reply) : (State.answerWait s c r).fnl = s.fnl := by
  unfold State.answerWait
  exact State.fnl_foldl _ _ _ (fun t x => by split <;> simp)

@[simp] theorem State.atTime_fnl (s : State) (t : BitVec 32) : (State.atTime s t).fnl = s.fnl := by
  simp [State.atTime]

@[simp] theorem State.capWrite_fnl (s : State) (cap g : Nat) : (State.capWrite s cap g).fnl = s.fnl := by
  simp [State.capWrite]

@[simp] theorem State.spyWrote_fnl (s : State) : (State.spyWrote s).fnl = s.fnl := by
  simp [State.spyWrote]

end Sys2Proof.Machine

/-! What leaves the pair link as it is. -/

namespace Sys2Proof.Machine

/-- A fold of updates that keep the field keeps it. -/
@[simp] theorem State.prl_foldl {β : Type} (f : State → β → State) (l : List β) (s : State) (h : ∀ t x, (f t x).prl = t.prl) :
    (l.foldl f s).prl = s.prl := by
  induction l generalizing s with
  | nil => rfl
  | cons x l ih => rw [List.foldl_cons, ih, h]

/-- The field of a choice of states. -/
@[simp] theorem State.prl_ite (c : Prop) [Decidable c] (a b : State) : (if c then a else b).prl = if c then a.prl else b.prl := by
  split <;> rfl

/-- The field of a choice of states beside a value. -/
@[simp] theorem State.prl_itep {α : Type} (c : Prop) [Decidable c] (a b : State × α) :
    (if c then a else b).1.prl = if c then a.1.prl else b.1.prl := by
  split <;> rfl

@[simp] theorem State.logPost_prl (s : State) (src code sev : Nat) (data : List Nat) : (State.logPost s src code sev data).prl = s.prl := by
  simp [State.logPost]

@[simp] theorem State.sendFrom_prl (s : State) (p : PortId) (addr udp : Nat) (b : List Byte) : (State.sendFrom s p addr udp b).prl = s.prl := by
  simp [State.sendFrom]

@[simp] theorem State.sendAttn_prl (s : State) (x : Session) (m : Attn) (p : PortId) (again : Bool) : (State.sendAttn s x m p again).prl = s.prl := by
  simp [State.sendAttn]

@[simp] theorem State.lostNote_prl (s : State) (i : Nat) : (State.lostNote s i).prl = s.prl := by
  unfold State.lostNote
  split <;> simp

@[simp] theorem State.attnTo_prl (s : State) (m : Attn) (i : Nat) : (State.attnTo s m i).prl = s.prl := by
  unfold State.attnTo
  split <;> simp

@[simp] theorem State.attn_prl (s : State) (code sev : Nat) (data : List Nat) : (State.attn s code sev data).prl = s.prl := by
  simp [State.attn]

@[simp] theorem State.announce_prl (s : State) : (State.announce s).prl = s.prl := by
  simp [State.announce]

@[simp] theorem State.clearSetpoints_prl (s : State) : (State.clearSetpoints s).prl = s.prl := by
  simp [State.clearSetpoints]

@[simp] theorem State.syncMode_prl (s : State) : (State.syncMode s).prl = s.prl := by
  simp [State.syncMode]

@[simp] theorem State.leaveSetpoints_prl (s : State) : (State.leaveSetpoints s).prl = s.prl := by
  simp [State.leaveSetpoints]

@[simp] theorem State.outputsRest_prl (s : State) : (State.outputsRest s).prl = s.prl := by
  unfold State.outputsRest
  split <;> simp

@[simp] theorem State.enter_prl (s : State) (st b : OpState) : (State.enter s st b).prl = s.prl := by
  simp [State.enter]

@[simp] theorem State.coilService1_prl (s : State) (k : Nat) : (State.coilService1 s k).prl = s.prl := by
  simp [State.coilService1]

@[simp] theorem State.coilService_prl (s : State) : (State.coilService s).prl = s.prl := by
  simp [State.coilService]

@[simp] theorem State.sendStatus_prl (s : State) : (State.sendStatus s).prl = s.prl := by
  simp [State.sendStatus]

@[simp] theorem State.dropOutputs_prl (s : State) : (State.dropOutputs s).prl = s.prl := by
  simp [State.dropOutputs]

@[simp] theorem State.degPhase_prl (s : State) : (State.degPhase s).prl = s.prl := by
  simp [State.degPhase]

@[simp] theorem State.phaseFault_prl (s : State) (p c : Nat) : (State.phaseFault s p c).prl = s.prl := by
  simp [State.phaseFault]

@[simp] theorem State.addPhases_prl (s : State) (req : Nat) : (State.addPhases s req).prl = s.prl := by
  simp [State.addPhases]

@[simp] theorem State.loadStep_prl (s : State) : (State.loadStep s).prl = s.prl := by
  simp [State.loadStep]

@[simp] theorem State.startOrdered_prl (s : State) : (State.startOrdered s).prl = s.prl := by
  simp [State.startOrdered]

@[simp] theorem State.startShed_prl (s : State) (p : Nat) : (State.startShed s p).prl = s.prl := by
  simp [State.startShed]

@[simp] theorem State.shedDisabled_prl (s : State) : (State.shedDisabled s).prl = s.prl := by
  simp [State.shedDisabled]

@[simp] theorem State.decidePhases_prl (s : State) : (State.decidePhases s).prl = s.prl := by
  unfold State.decidePhases
  dsimp only
  repeat' split
  all_goals simp

@[simp] theorem State.retarget_prl (s : State) : (State.retarget s).prl = s.prl := by
  simp [State.retarget]

@[simp] theorem State.burstStart_prl (s : State) : (State.burstStart s).prl = s.prl := by
  simp [State.burstStart]

@[simp] theorem State.burstStep_prl (s : State) : (State.burstStep s).prl = s.prl := by
  simp [State.burstStep]

@[simp] theorem State.loopBurst_prl (s : State) : (State.loopBurst s).prl = s.prl := by
  simp [State.loopBurst]

@[simp] theorem State.boundaryCounts_prl (s : State) : (State.boundaryCounts s).prl = s.prl := by
  simp [State.boundaryCounts]

@[simp] theorem State.boundaryPhases_prl (s : State) : (State.boundaryPhases s).prl = s.prl := by
  simp [State.boundaryPhases]

@[simp] theorem State.refBoundary_prl (s : State) : (State.refBoundary s).prl = s.prl := by
  simp [State.refBoundary]

@[simp] theorem State.abandonTrk_prl (s : State) (kind sev : Nat) : (State.abandonTrk s kind sev).prl = s.prl := by
  simp [State.abandonTrk]

@[simp] theorem State.stopStart_prl (s : State) (rate : Option Nat) : (State.stopStart s rate).prl = s.prl := by
  simp [State.stopStart]

@[simp] theorem State.applyOuter_prl (s : State) : (State.applyOuter s).prl = s.prl := by
  simp [State.applyOuter]

@[simp] theorem State.loadAtBoundary_prl (s : State) : (State.loadAtBoundary s).prl = s.prl := by
  simp [State.loadAtBoundary]

@[simp] theorem State.takeCmd_prl (s0 : State) (c : SetCmd) : (State.takeCmd s0 c).prl = s0.prl := by
  simp [State.takeCmd]

@[simp] theorem State.intake_prl (s : State) (now : Nat) : (State.intake s now).prl = s.prl := by
  simp [State.intake]

@[simp] theorem State.limits_prl (s : State) (dt : Rat) : (State.limits s dt).prl = s.prl := by
  simp [State.limits]

@[simp] theorem State.probeSuspend_prl (s : State) : (State.probeSuspend s).prl = s.prl := by
  simp [State.probeSuspend]

@[simp] theorem State.applyClamp_prl (s : State) (q : Rat) (dtNs : Nat) : (State.applyClamp s q dtNs).1.prl = s.prl := by
  simp [State.applyClamp]

@[simp] theorem State.holdTones_prl (s : State) : (State.holdTones s).prl = s.prl := by
  simp [State.holdTones]

@[simp] theorem State.outerLoop_prl (s : State) (q : Rat) (dtNs : Nat) : (State.outerLoop s q dtNs).prl = s.prl := by
  simp [State.outerLoop]

@[simp] theorem State.startMode_prl (s : State) (m : Nat) : (State.startMode s m).prl = s.prl := by
  simp [State.startMode]

@[simp] theorem State.modeChange_prl (s : State) : (State.modeChange s).prl = s.prl := by
  simp [State.modeChange]

@[simp] theorem State.droopStep_prl (s : State) : (State.droopStep s).prl = s.prl := by
  simp [State.droopStep]

@[simp] theorem State.droop_prl (s : State) : (State.droop s).prl = s.prl := by
  simp [State.droop]

@[simp] theorem State.trackTick_prl (s : State) (dt : Rat) : (State.trackTick s dt).prl = s.prl := by
  simp [State.trackTick]

@[simp] theorem State.holdTick_prl (s0 : State) (dt : Rat) : (State.holdTick s0 dt).prl = s0.prl := by
  simp [State.holdTick]

@[simp] theorem State.setRef_prl (s : State) (q : Rat) (dtNs : Nat) : (State.setRef s q dtNs).prl = s.prl := by
  simp [State.setRef]

@[simp] theorem State.linkRef_prl (s : State) (dtNs : Nat) : (State.linkRef s dtNs).prl = s.prl := by
  simp [State.linkRef]

@[simp] theorem State.calRampTick_prl (s : State) (dtNs : Nat) (dt : Rat) : (State.calRampTick s dtNs dt).prl = s.prl := by
  simp [State.calRampTick]

@[simp] theorem State.dispatchEval_prl (s : State) (now dtNs : Nat) (dt : Rat) : (State.dispatchEval s now dtNs dt).prl = s.prl := by
  simp [State.dispatchEval]

@[simp] theorem State.stopEval_prl (s : State) (now dtNs : Nat) (dt : Rat) : (State.stopEval s now dtNs dt).prl = s.prl := by
  simp [State.stopEval]

@[simp] theorem State.outerEval_prl (s : State) (now : Nat) (dtNs : Nat) : (State.outerEval s now dtNs).prl = s.prl := by
  unfold State.outerEval
  dsimp only
  repeat' split
  all_goals simp

@[simp] theorem State.observe_prl (s : State) (p : Nat) (m : EvalIn) (ma : Int) : (State.observe s p m ma).prl = s.prl := by
  simp [State.observe]

@[simp] theorem State.evalWrites_prl (s : State) (p : Nat) (m : EvalIn) : (State.evalWrites s p m).prl = s.prl := by
  simp [State.evalWrites]

@[simp] theorem State.applyBank_prl (s : State) : (State.applyBank s).prl = s.prl := by
  simp [State.applyBank]

@[simp] theorem State.queueCmd_prl (s : State) (n cmd : Nat) (params : List Nat) (chan : Option Nat) : (State.queueCmd s n cmd params chan).prl = s.prl := by
  simp [State.queueCmd]

@[simp] theorem State.updEnd_prl (s : State) : (State.updEnd s).prl = s.prl := by
  simp [State.updEnd]

@[simp] theorem State.updDisturbed_prl (s : State) : (State.updDisturbed s).prl = s.prl := by
  simp [State.updDisturbed]

@[simp] theorem State.confirm_prl (s : State) : (State.confirm s).prl = s.prl := by
  simp [State.confirm]

@[simp] theorem State.reportDrops_prl (s : State) : (State.reportDrops s).prl = s.prl := by
  unfold State.reportDrops
  repeat' split
  all_goals simp

@[simp] theorem State.logWriteOne_prl (s : State) : (State.logWriteOne s).prl = s.prl := by
  unfold State.logWriteOne
  dsimp only
  split <;> simp

@[simp] theorem State.logDrain_prl (s : State) : (State.logDrain s).prl = s.prl := by
  simp [State.logDrain]

@[simp] theorem State.nvmBad_prl (s : State) (a : Nat) : (State.nvmBad s a).prl = s.prl := by
  simp [State.nvmBad]

@[simp] theorem State.pd0Backup_prl (s : State) : (State.pd0Backup s).prl = s.prl := by
  simp [State.pd0Backup]

@[simp] theorem State.loadTones_prl (s : State) : (State.loadTones s).prl = s.prl := by
  simp [State.loadTones]

@[simp] theorem State.queueLimits_prl (s : State) (n : Nat) : (State.queueLimits s n).prl = s.prl := by
  simp [State.queueLimits]

@[simp] theorem State.modNode_prl (s : State) (n : Nat) (f : Nat → GroupRec → GroupRec) : (State.modNode s n f).prl = s.prl := by
  simp [State.modNode]

@[simp] theorem State.crossing_prl (s : State) (side level dir crit g : Nat) : (State.crossing s side level dir crit g).prl = s.prl := by
  simp [State.crossing]

@[simp] theorem State.thmConvert_prl (s : State) : (State.thmConvert s).prl = s.prl := by
  simp [State.thmConvert]

@[simp] theorem State.thmTake_prl (s : State) (src : Nat) (mask : Nat) (x : ThmIn) : (State.thmTake s src mask x).prl = s.prl := by
  unfold State.thmTake
  split <;> simp

@[simp] theorem State.thmModel_prl (s : State) (p : Nat) : (State.thmModel s p).prl = s.prl := by
  simp [State.thmModel]

@[simp] theorem State.thmPhase_prl (s : State) (p : Nat) : (State.thmPhase s p).prl = s.prl := by
  simp [State.thmPhase]

@[simp] theorem State.thmGroup_prl (s : State) (g : Nat) : (State.thmGroup s g).prl = s.prl := by
  simp [State.thmGroup]

@[simp] theorem State.degThermal_prl (s : State) : (State.degThermal s).prl = s.prl := by
  simp [State.degThermal]

@[simp] theorem State.factors_prl (s : State) : (State.factors s).prl = s.prl := by
  simp [State.factors]

@[simp] theorem State.thmHot_prl (s : State) : (State.thmHot s).prl = s.prl := by
  simp [State.thmHot]

@[simp] theorem State.alignStat_prl (s : State) : (State.alignStat s).prl = s.prl := by
  simp [State.alignStat]

@[simp] theorem State.ceFrameStart_prl (s : State) : (State.ceFrameStart s).prl = s.prl := by
  simp [State.ceFrameStart]

@[simp] theorem State.loadBoot_prl (s : State) : (State.loadBoot s).prl = s.prl := by
  simp [State.loadBoot]

@[simp] theorem State.bootReselect_prl (s : State) : (State.bootReselect s).prl = s.prl := by
  simp [State.bootReselect]

@[simp] theorem State.slotSkip_prl (s : State) (sw : Nat) : (State.slotSkip s sw).prl = s.prl := by
  simp [State.slotSkip]

@[simp] theorem State.degSession_prl (s : State) : (State.degSession s).prl = s.prl := by
  simp [State.degSession]

@[simp] theorem State.degNet_prl (s : State) : (State.degNet s).prl = s.prl := by
  simp [State.degNet]

@[simp] theorem State.pduMiss_prl (s : State) : (State.pduMiss s).prl = s.prl := by
  simp [State.pduMiss]

@[simp] theorem State.clogAdd_prl (s : State) (kind source index : Nat) (old new : Int) : (State.clogAdd s kind source index old new).prl = s.prl := by
  simp [State.clogAdd]

@[simp] theorem State.cfgCommit_prl (s : State) (source : Nat) : (State.cfgCommit s source).prl = s.prl := by
  simp [State.cfgCommit]

@[simp] theorem State.cfgEnd_prl (s : State) : (State.cfgEnd s).prl = s.prl := by
  unfold State.cfgEnd
  split <;> simp

@[simp] theorem State.sagReset_prl (s : State) (format : Nat) (fw : Nat) : (State.sagReset s format fw).prl = s.prl := by
  unfold State.sagReset
  dsimp only
  split
  · exact State.clogAdd_prl ..
  · exact (State.clogAdd_prl ..).trans (State.clogAdd_prl ..)

@[simp] theorem State.settingsLoad_prl (s : State) : (State.settingsLoad s).prl = s.prl := by
  unfold State.settingsLoad
  split <;> simp

@[simp] theorem State.capLoad_prl (s : State) : (State.capLoad s).prl = s.prl := by
  unfold State.capLoad
  split <;> simp

@[simp] theorem State.countLoad_prl (s : State) : (State.countLoad s).prl = s.prl := by
  unfold State.countLoad
  repeat' split
  all_goals simp

@[simp] theorem State.tvLoad_prl (s : State) : (State.tvLoad s).prl = s.prl := by
  simp [State.tvLoad]

@[simp] theorem State.bootRevert_prl (s : State) : (State.bootRevert s).prl = s.prl := by
  simp [State.bootRevert]

@[simp] theorem State.domainUp_prl (s : State) (d : Nat) : (State.domainUp s d).prl = s.prl := by
  simp [State.domainUp]

@[simp] theorem State.logItem_prl (s : State) (detail : Nat) (i : TestItem) : (State.logItem s detail i).prl = s.prl := by
  simp [State.logItem]

@[simp] theorem State.startLost_prl (s : State) (n : Nat) : (State.startLost s n).prl = s.prl := by
  simp [State.startLost]

@[simp] theorem State.boRamp_prl (s : State) : (State.boRamp s).prl = s.prl := by
  simp [State.boRamp]

@[simp] theorem State.pairFault_prl (s : State) (kind : Nat) : (State.pairFault s kind).prl = s.prl := by
  simp [State.pairFault]

@[simp] theorem State.swapFailed_prl (s : State) : (State.swapFailed s).prl = s.prl := by
  simp [State.swapFailed]

@[simp] theorem State.ceFresh_prl (s : State) : (State.ceFresh s).prl = s.prl := by
  simp [State.ceFresh]

end Sys2Proof.Machine

/-! What leaves the plant link as it is. -/

namespace Sys2Proof.Machine

/-- A fold of updates that keep the field keeps it. -/
@[simp] theorem State.plk_foldl {β : Type} (f : State → β → State) (l : List β) (s : State) (h : ∀ t x, (f t x).plk = t.plk) :
    (l.foldl f s).plk = s.plk := by
  induction l generalizing s with
  | nil => rfl
  | cons x l ih => rw [List.foldl_cons, ih, h]

/-- The field of a choice of states. -/
@[simp] theorem State.plk_ite (c : Prop) [Decidable c] (a b : State) : (if c then a else b).plk = if c then a.plk else b.plk := by
  split <;> rfl

/-- The field of a choice of states beside a value. -/
@[simp] theorem State.plk_itep {α : Type} (c : Prop) [Decidable c] (a b : State × α) :
    (if c then a else b).1.plk = if c then a.1.plk else b.1.plk := by
  split <;> rfl

@[simp] theorem State.logPost_plk (s : State) (src code sev : Nat) (data : List Nat) : (State.logPost s src code sev data).plk = s.plk := by
  simp [State.logPost]

@[simp] theorem State.clearSetpoints_plk (s : State) : (State.clearSetpoints s).plk = s.plk := by
  simp [State.clearSetpoints]

@[simp] theorem State.syncMode_plk (s : State) : (State.syncMode s).plk = s.plk := by
  simp [State.syncMode]

@[simp] theorem State.outputsRest_plk (s : State) : (State.outputsRest s).plk = s.plk := by
  unfold State.outputsRest
  split <;> simp

@[simp] theorem State.coilService1_plk (s : State) (k : Nat) : (State.coilService1 s k).plk = s.plk := by
  simp [State.coilService1]

@[simp] theorem State.coilService_plk (s : State) : (State.coilService s).plk = s.plk := by
  simp [State.coilService]

@[simp] theorem State.pairSend_plk (s : State) (kind : Nat) (body : List Byte) : (State.pairSend s kind body).plk = s.plk := by
  simp [State.pairSend]

@[simp] theorem State.swapSend_plk (s : State) (sub b : Nat) : (State.swapSend s sub b).plk = s.plk := by
  simp [State.swapSend]

@[simp] theorem State.dropOutputs_plk (s : State) : (State.dropOutputs s).plk = s.plk := by
  simp [State.dropOutputs]

@[simp] theorem State.swapAbandon_plk (s : State) : (State.swapAbandon s).plk = s.plk := by
  unfold State.swapAbandon
  split <;> simp

@[simp] theorem State.requestSwap_plk (s : State) : (State.requestSwap s).plk = s.plk := by
  simp [State.requestSwap]

@[simp] theorem State.addPhases_plk (s : State) (req : Nat) : (State.addPhases s req).plk = s.plk := by
  simp [State.addPhases]

@[simp] theorem State.loadStep_plk (s : State) : (State.loadStep s).plk = s.plk := by
  simp [State.loadStep]

@[simp] theorem State.startOrdered_plk (s : State) : (State.startOrdered s).plk = s.plk := by
  simp [State.startOrdered]

@[simp] theorem State.startShed_plk (s : State) (p : Nat) : (State.startShed s p).plk = s.plk := by
  simp [State.startShed]

@[simp] theorem State.shedDisabled_plk (s : State) : (State.shedDisabled s).plk = s.plk := by
  simp [State.shedDisabled]

@[simp] theorem State.decidePhases_plk (s : State) : (State.decidePhases s).plk = s.plk := by
  unfold State.decidePhases
  dsimp only
  repeat' split
  all_goals simp

@[simp] theorem State.retarget_plk (s : State) : (State.retarget s).plk = s.plk := by
  simp [State.retarget]

@[simp] theorem State.burstStart_plk (s : State) : (State.burstStart s).plk = s.plk := by
  simp [State.burstStart]

@[simp] theorem State.burstStep_plk (s : State) : (State.burstStep s).plk = s.plk := by
  simp [State.burstStep]

@[simp] theorem State.loopBurst_plk (s : State) : (State.loopBurst s).plk = s.plk := by
  simp [State.loopBurst]

@[simp] theorem State.boundaryCounts_plk (s : State) : (State.boundaryCounts s).plk = s.plk := by
  simp [State.boundaryCounts]

@[simp] theorem State.boundaryPhases_plk (s : State) : (State.boundaryPhases s).plk = s.plk := by
  simp [State.boundaryPhases]

@[simp] theorem State.abandonTrk_plk (s : State) (kind sev : Nat) : (State.abandonTrk s kind sev).plk = s.plk := by
  simp [State.abandonTrk]

@[simp] theorem State.applyOuter_plk (s : State) : (State.applyOuter s).plk = s.plk := by
  simp [State.applyOuter]

@[simp] theorem State.takeCmd_plk (s0 : State) (c : SetCmd) : (State.takeCmd s0 c).plk = s0.plk := by
  simp [State.takeCmd]

@[simp] theorem State.intake_plk (s : State) (now : Nat) : (State.intake s now).plk = s.plk := by
  simp [State.intake]

@[simp] theorem State.limits_plk (s : State) (dt : Rat) : (State.limits s dt).plk = s.plk := by
  simp [State.limits]

@[simp] theorem State.probeSuspend_plk (s : State) : (State.probeSuspend s).plk = s.plk := by
  simp [State.probeSuspend]

@[simp] theorem State.applyClamp_plk (s : State) (q : Rat) (dtNs : Nat) : (State.applyClamp s q dtNs).1.plk = s.plk := by
  simp [State.applyClamp]

@[simp] theorem State.holdTones_plk (s : State) : (State.holdTones s).plk = s.plk := by
  simp [State.holdTones]

@[simp] theorem State.outerLoop_plk (s : State) (q : Rat) (dtNs : Nat) : (State.outerLoop s q dtNs).plk = s.plk := by
  simp [State.outerLoop]

@[simp] theorem State.startMode_plk (s : State) (m : Nat) : (State.startMode s m).plk = s.plk := by
  simp [State.startMode]

@[simp] theorem State.modeChange_plk (s : State) : (State.modeChange s).plk = s.plk := by
  simp [State.modeChange]

@[simp] theorem State.droopStep_plk (s : State) : (State.droopStep s).plk = s.plk := by
  simp [State.droopStep]

@[simp] theorem State.droop_plk (s : State) : (State.droop s).plk = s.plk := by
  simp [State.droop]

@[simp] theorem State.trackTick_plk (s : State) (dt : Rat) : (State.trackTick s dt).plk = s.plk := by
  simp [State.trackTick]

@[simp] theorem State.holdTick_plk (s0 : State) (dt : Rat) : (State.holdTick s0 dt).plk = s0.plk := by
  simp [State.holdTick]

@[simp] theorem State.setRef_plk (s : State) (q : Rat) (dtNs : Nat) : (State.setRef s q dtNs).plk = s.plk := by
  simp [State.setRef]

@[simp] theorem State.linkRef_plk (s : State) (dtNs : Nat) : (State.linkRef s dtNs).plk = s.plk := by
  simp [State.linkRef]

@[simp] theorem State.calRampTick_plk (s : State) (dtNs : Nat) (dt : Rat) : (State.calRampTick s dtNs dt).plk = s.plk := by
  simp [State.calRampTick]

@[simp] theorem State.dispatchEval_plk (s : State) (now dtNs : Nat) (dt : Rat) : (State.dispatchEval s now dtNs dt).plk = s.plk := by
  simp [State.dispatchEval]

@[simp] theorem State.stopEval_plk (s : State) (now dtNs : Nat) (dt : Rat) : (State.stopEval s now dtNs dt).plk = s.plk := by
  simp [State.stopEval]

@[simp] theorem State.outerEval_plk (s : State) (now : Nat) (dtNs : Nat) : (State.outerEval s now dtNs).plk = s.plk := by
  unfold State.outerEval
  dsimp only
  repeat' split
  all_goals simp

@[simp] theorem State.announced_plk (s : State) (m : EntryIn) : (State.announced s m).plk = s.plk := by
  simp [State.announced]

@[simp] theorem State.applyBank_plk (s : State) : (State.applyBank s).plk = s.plk := by
  simp [State.applyBank]

@[simp] theorem State.queueCmd_plk (s : State) (n cmd : Nat) (params : List Nat) (chan : Option Nat) : (State.queueCmd s n cmd params chan).plk = s.plk := by
  simp [State.queueCmd]

@[simp] theorem State.updEnd_plk (s : State) : (State.updEnd s).plk = s.plk := by
  simp [State.updEnd]

@[simp] theorem State.updDisturbed_plk (s : State) : (State.updDisturbed s).plk = s.plk := by
  simp [State.updDisturbed]

@[simp] theorem State.confirm_plk (s : State) : (State.confirm s).plk = s.plk := by
  simp [State.confirm]

@[simp] theorem State.reportDrops_plk (s : State) : (State.reportDrops s).plk = s.plk := by
  unfold State.reportDrops
  repeat' split
  all_goals simp

@[simp] theorem State.logWriteOne_plk (s : State) : (State.logWriteOne s).plk = s.plk := by
  unfold State.logWriteOne
  dsimp only
  split <;> simp

@[simp] theorem State.logDrain_plk (s : State) : (State.logDrain s).plk = s.plk := by
  simp [State.logDrain]

@[simp] theorem State.nvmBad_plk (s : State) (a : Nat) : (State.nvmBad s a).plk = s.plk := by
  simp [State.nvmBad]

@[simp] theorem State.pd0Backup_plk (s : State) : (State.pd0Backup s).plk = s.plk := by
  simp [State.pd0Backup]

@[simp] theorem State.loadTones_plk (s : State) : (State.loadTones s).plk = s.plk := by
  simp [State.loadTones]

@[simp] theorem State.queueLimits_plk (s : State) (n : Nat) : (State.queueLimits s n).plk = s.plk := by
  simp [State.queueLimits]

@[simp] theorem State.logUncounted_plk (s : State) (qint : Int) : (State.logUncounted s qint).plk = s.plk := by
  simp [State.logUncounted]

@[simp] theorem State.modNode_plk (s : State) (n : Nat) (f : Nat → GroupRec → GroupRec) : (State.modNode s n f).plk = s.plk := by
  simp [State.modNode]

@[simp] theorem State.thmConvert_plk (s : State) : (State.thmConvert s).plk = s.plk := by
  simp [State.thmConvert]

@[simp] theorem State.thmTake_plk (s : State) (src : Nat) (mask : Nat) (x : ThmIn) : (State.thmTake s src mask x).plk = s.plk := by
  unfold State.thmTake
  split <;> simp

@[simp] theorem State.thmModel_plk (s : State) (p : Nat) : (State.thmModel s p).plk = s.plk := by
  simp [State.thmModel]

@[simp] theorem State.thmPhase_plk (s : State) (p : Nat) : (State.thmPhase s p).plk = s.plk := by
  simp [State.thmPhase]

@[simp] theorem State.thmGroup_plk (s : State) (g : Nat) : (State.thmGroup s g).plk = s.plk := by
  simp [State.thmGroup]

@[simp] theorem State.degThermal_plk (s : State) : (State.degThermal s).plk = s.plk := by
  simp [State.degThermal]

@[simp] theorem State.factors_plk (s : State) : (State.factors s).plk = s.plk := by
  simp [State.factors]

@[simp] theorem State.thmHot_plk (s : State) : (State.thmHot s).plk = s.plk := by
  simp [State.thmHot]

@[simp] theorem State.alignStat_plk (s : State) : (State.alignStat s).plk = s.plk := by
  simp [State.alignStat]

@[simp] theorem State.ceFrameStart_plk (s : State) : (State.ceFrameStart s).plk = s.plk := by
  simp [State.ceFrameStart]

@[simp] theorem State.loadBoot_plk (s : State) : (State.loadBoot s).plk = s.plk := by
  simp [State.loadBoot]

@[simp] theorem State.bootReselect_plk (s : State) : (State.bootReselect s).plk = s.plk := by
  simp [State.bootReselect]

@[simp] theorem State.slotSkip_plk (s : State) (sw : Nat) : (State.slotSkip s sw).plk = s.plk := by
  simp [State.slotSkip]

@[simp] theorem State.degSession_plk (s : State) : (State.degSession s).plk = s.plk := by
  simp [State.degSession]

@[simp] theorem State.degNet_plk (s : State) : (State.degNet s).plk = s.plk := by
  simp [State.degNet]

@[simp] theorem State.pduMiss_plk (s : State) : (State.pduMiss s).plk = s.plk := by
  simp [State.pduMiss]

@[simp] theorem State.clogAdd_plk (s : State) (kind source index : Nat) (old new : Int) : (State.clogAdd s kind source index old new).plk = s.plk := by
  simp [State.clogAdd]

@[simp] theorem State.cfgCommit_plk (s : State) (source : Nat) : (State.cfgCommit s source).plk = s.plk := by
  simp [State.cfgCommit]

@[simp] theorem State.cfgEnd_plk (s : State) : (State.cfgEnd s).plk = s.plk := by
  unfold State.cfgEnd
  split <;> simp

@[simp] theorem State.sagReset_plk (s : State) (format : Nat) (fw : Nat) : (State.sagReset s format fw).plk = s.plk := by
  unfold State.sagReset
  dsimp only
  split
  · exact State.clogAdd_plk ..
  · exact (State.clogAdd_plk ..).trans (State.clogAdd_plk ..)

@[simp] theorem State.settingsLoad_plk (s : State) : (State.settingsLoad s).plk = s.plk := by
  unfold State.settingsLoad
  split <;> simp

@[simp] theorem State.capLoad_plk (s : State) : (State.capLoad s).plk = s.plk := by
  unfold State.capLoad
  split <;> simp

@[simp] theorem State.countLoad_plk (s : State) : (State.countLoad s).plk = s.plk := by
  unfold State.countLoad
  repeat' split
  all_goals simp

@[simp] theorem State.tvLoad_plk (s : State) : (State.tvLoad s).plk = s.plk := by
  simp [State.tvLoad]

@[simp] theorem State.domainUp_plk (s : State) (d : Nat) : (State.domainUp s d).plk = s.plk := by
  simp [State.domainUp]

@[simp] theorem State.domainDown_plk (s : State) (d : Nat) : (State.domainDown s d).plk = s.plk := by
  unfold State.domainDown
  split <;> simp

@[simp] theorem State.logItem_plk (s : State) (detail : Nat) (i : TestItem) : (State.logItem s detail i).plk = s.plk := by
  simp [State.logItem]

@[simp] theorem State.testResults_plk (s : State) (r : SelfTest) : (State.testResults s r).plk = s.plk := by
  simp [State.testResults]

@[simp] theorem State.startLost_plk (s : State) (n : Nat) : (State.startLost s n).plk = s.plk := by
  simp [State.startLost]

@[simp] theorem State.boCommit_plk (s : State) : (State.boCommit s).plk = s.plk := by
  simp [State.boCommit]

@[simp] theorem State.pairFault_plk (s : State) (kind : Nat) : (State.pairFault s kind).plk = s.plk := by
  simp [State.pairFault]

@[simp] theorem State.clashCheck_plk (s : State) (h : Partner) (higher : Bool) : (State.clashCheck s h higher).plk = s.plk := by
  simp [State.clashCheck]

@[simp] theorem State.stopDone_plk (s : State) : (State.stopDone s).plk = s.plk := by
  simp [State.stopDone]

@[simp] theorem State.reselect_plk (s : State) : (State.reselect s).plk = s.plk := by
  unfold State.reselect
  dsimp only
  split <;> simp

@[simp] theorem State.atTime_plk (s : State) (t : BitVec 32) : (State.atTime s t).plk = s.plk := by
  simp [State.atTime]

@[simp] theorem State.capWrite_plk (s : State) (cap g : Nat) : (State.capWrite s cap g).plk = s.plk := by
  simp [State.capWrite]

end Sys2Proof.Machine

/-! What leaves the lamplighter as it is. -/

namespace Sys2Proof.Machine

/-- A fold of updates that keep the field keeps it. -/
@[simp] theorem State.lmp_foldl {β : Type} (f : State → β → State) (l : List β) (s : State) (h : ∀ t x, (f t x).lmp = t.lmp) :
    (l.foldl f s).lmp = s.lmp := by
  induction l generalizing s with
  | nil => rfl
  | cons x l ih => rw [List.foldl_cons, ih, h]

/-- The field of a choice of states. -/
@[simp] theorem State.lmp_ite (c : Prop) [Decidable c] (a b : State) : (if c then a else b).lmp = if c then a.lmp else b.lmp := by
  split <;> rfl

/-- The field of a choice of states beside a value. -/
@[simp] theorem State.lmp_itep {α : Type} (c : Prop) [Decidable c] (a b : State × α) :
    (if c then a else b).1.lmp = if c then a.1.lmp else b.1.lmp := by
  split <;> rfl

@[simp] theorem State.logPost_lmp (s : State) (src code sev : Nat) (data : List Nat) : (State.logPost s src code sev data).lmp = s.lmp := by
  simp [State.logPost]

@[simp] theorem State.sendFrom_lmp (s : State) (p : PortId) (addr udp : Nat) (b : List Byte) : (State.sendFrom s p addr udp b).lmp = s.lmp := by
  simp [State.sendFrom]

@[simp] theorem State.sendAttn_lmp (s : State) (x : Session) (m : Attn) (p : PortId) (again : Bool) : (State.sendAttn s x m p again).lmp = s.lmp := by
  simp [State.sendAttn]

@[simp] theorem State.lostNote_lmp (s : State) (i : Nat) : (State.lostNote s i).lmp = s.lmp := by
  unfold State.lostNote
  split <;> simp

@[simp] theorem State.attnTo_lmp (s : State) (m : Attn) (i : Nat) : (State.attnTo s m i).lmp = s.lmp := by
  unfold State.attnTo
  split <;> simp

@[simp] theorem State.attn_lmp (s : State) (code sev : Nat) (data : List Nat) : (State.attn s code sev data).lmp = s.lmp := by
  simp [State.attn]

@[simp] theorem State.announce_lmp (s : State) : (State.announce s).lmp = s.lmp := by
  simp [State.announce]

@[simp] theorem State.clearSetpoints_lmp (s : State) : (State.clearSetpoints s).lmp = s.lmp := by
  simp [State.clearSetpoints]

@[simp] theorem State.syncMode_lmp (s : State) : (State.syncMode s).lmp = s.lmp := by
  simp [State.syncMode]

@[simp] theorem State.leaveSetpoints_lmp (s : State) : (State.leaveSetpoints s).lmp = s.lmp := by
  simp [State.leaveSetpoints]

@[simp] theorem State.outputsRest_lmp (s : State) : (State.outputsRest s).lmp = s.lmp := by
  unfold State.outputsRest
  split <;> simp

@[simp] theorem State.enter_lmp (s : State) (st b : OpState) : (State.enter s st b).lmp = s.lmp := by
  simp [State.enter]

@[simp] theorem State.enterEff_lmp (s : State) (st : OpState) : (State.enterEff s st).lmp = s.lmp := by
  simp [State.enterEff]

@[simp] theorem State.coilService1_lmp (s : State) (k : Nat) : (State.coilService1 s k).lmp = s.lmp := by
  simp [State.coilService1]

@[simp] theorem State.coilService_lmp (s : State) : (State.coilService s).lmp = s.lmp := by
  simp [State.coilService]

@[simp] theorem State.degStart_lmp (s : State) : (State.degStart s).lmp = s.lmp := by
  simp [State.degStart]

@[simp] theorem State.pairSend_lmp (s : State) (kind : Nat) (body : List Byte) : (State.pairSend s kind body).lmp = s.lmp := by
  simp [State.pairSend]

@[simp] theorem State.swapSend_lmp (s : State) (sub b : Nat) : (State.swapSend s sub b).lmp = s.lmp := by
  simp [State.swapSend]

@[simp] theorem State.sendStatus_lmp (s : State) : (State.sendStatus s).lmp = s.lmp := by
  simp [State.sendStatus]

@[simp] theorem State.dropOutputs_lmp (s : State) : (State.dropOutputs s).lmp = s.lmp := by
  simp [State.dropOutputs]

@[simp] theorem State.swapAbandon_lmp (s : State) : (State.swapAbandon s).lmp = s.lmp := by
  unfold State.swapAbandon
  split <;> simp

@[simp] theorem State.isolate_lmp (s : State) (c : Nat) : (State.isolate s c).lmp = s.lmp := by
  simp [State.isolate]

@[simp] theorem State.degPhase_lmp (s : State) : (State.degPhase s).lmp = s.lmp := by
  simp [State.degPhase]

@[simp] theorem State.phaseFault_lmp (s : State) (p c : Nat) : (State.phaseFault s p c).lmp = s.lmp := by
  simp [State.phaseFault]

@[simp] theorem State.requestSwap_lmp (s : State) : (State.requestSwap s).lmp = s.lmp := by
  simp [State.requestSwap]

@[simp] theorem State.addPhases_lmp (s : State) (req : Nat) : (State.addPhases s req).lmp = s.lmp := by
  simp [State.addPhases]

@[simp] theorem State.loadStep_lmp (s : State) : (State.loadStep s).lmp = s.lmp := by
  simp [State.loadStep]

@[simp] theorem State.startOrdered_lmp (s : State) : (State.startOrdered s).lmp = s.lmp := by
  simp [State.startOrdered]

@[simp] theorem State.startShed_lmp (s : State) (p : Nat) : (State.startShed s p).lmp = s.lmp := by
  simp [State.startShed]

@[simp] theorem State.shedDisabled_lmp (s : State) : (State.shedDisabled s).lmp = s.lmp := by
  simp [State.shedDisabled]

@[simp] theorem State.decidePhases_lmp (s : State) : (State.decidePhases s).lmp = s.lmp := by
  unfold State.decidePhases
  dsimp only
  repeat' split
  all_goals simp

@[simp] theorem State.retarget_lmp (s : State) : (State.retarget s).lmp = s.lmp := by
  simp [State.retarget]

@[simp] theorem State.burstStart_lmp (s : State) : (State.burstStart s).lmp = s.lmp := by
  simp [State.burstStart]

@[simp] theorem State.burstStep_lmp (s : State) : (State.burstStep s).lmp = s.lmp := by
  simp [State.burstStep]

@[simp] theorem State.loopBurst_lmp (s : State) : (State.loopBurst s).lmp = s.lmp := by
  simp [State.loopBurst]

@[simp] theorem State.boundaryCounts_lmp (s : State) : (State.boundaryCounts s).lmp = s.lmp := by
  simp [State.boundaryCounts]

@[simp] theorem State.boundaryPhases_lmp (s : State) : (State.boundaryPhases s).lmp = s.lmp := by
  simp [State.boundaryPhases]

@[simp] theorem State.refBoundary_lmp (s : State) : (State.refBoundary s).lmp = s.lmp := by
  simp [State.refBoundary]

@[simp] theorem State.abandonTrk_lmp (s : State) (kind sev : Nat) : (State.abandonTrk s kind sev).lmp = s.lmp := by
  simp [State.abandonTrk]

@[simp] theorem State.applyOuter_lmp (s : State) : (State.applyOuter s).lmp = s.lmp := by
  simp [State.applyOuter]

@[simp] theorem State.loadAtBoundary_lmp (s : State) : (State.loadAtBoundary s).lmp = s.lmp := by
  simp [State.loadAtBoundary]

@[simp] theorem State.takeCmd_lmp (s0 : State) (c : SetCmd) : (State.takeCmd s0 c).lmp = s0.lmp := by
  simp [State.takeCmd]

@[simp] theorem State.intake_lmp (s : State) (now : Nat) : (State.intake s now).lmp = s.lmp := by
  simp [State.intake]

@[simp] theorem State.limits_lmp (s : State) (dt : Rat) : (State.limits s dt).lmp = s.lmp := by
  simp [State.limits]

@[simp] theorem State.probeSuspend_lmp (s : State) : (State.probeSuspend s).lmp = s.lmp := by
  simp [State.probeSuspend]

@[simp] theorem State.applyClamp_lmp (s : State) (q : Rat) (dtNs : Nat) : (State.applyClamp s q dtNs).1.lmp = s.lmp := by
  simp [State.applyClamp]

@[simp] theorem State.holdTones_lmp (s : State) : (State.holdTones s).lmp = s.lmp := by
  simp [State.holdTones]

@[simp] theorem State.outerLoop_lmp (s : State) (q : Rat) (dtNs : Nat) : (State.outerLoop s q dtNs).lmp = s.lmp := by
  simp [State.outerLoop]

@[simp] theorem State.startMode_lmp (s : State) (m : Nat) : (State.startMode s m).lmp = s.lmp := by
  simp [State.startMode]

@[simp] theorem State.modeChange_lmp (s : State) : (State.modeChange s).lmp = s.lmp := by
  simp [State.modeChange]

@[simp] theorem State.droopStep_lmp (s : State) : (State.droopStep s).lmp = s.lmp := by
  simp [State.droopStep]

@[simp] theorem State.droop_lmp (s : State) : (State.droop s).lmp = s.lmp := by
  simp [State.droop]

@[simp] theorem State.trackTick_lmp (s : State) (dt : Rat) : (State.trackTick s dt).lmp = s.lmp := by
  simp [State.trackTick]

@[simp] theorem State.holdTick_lmp (s0 : State) (dt : Rat) : (State.holdTick s0 dt).lmp = s0.lmp := by
  simp [State.holdTick]

@[simp] theorem State.setRef_lmp (s : State) (q : Rat) (dtNs : Nat) : (State.setRef s q dtNs).lmp = s.lmp := by
  simp [State.setRef]

@[simp] theorem State.linkRef_lmp (s : State) (dtNs : Nat) : (State.linkRef s dtNs).lmp = s.lmp := by
  simp [State.linkRef]

@[simp] theorem State.calRampTick_lmp (s : State) (dtNs : Nat) (dt : Rat) : (State.calRampTick s dtNs dt).lmp = s.lmp := by
  simp [State.calRampTick]

@[simp] theorem State.dispatchEval_lmp (s : State) (now dtNs : Nat) (dt : Rat) : (State.dispatchEval s now dtNs dt).lmp = s.lmp := by
  simp [State.dispatchEval]

@[simp] theorem State.stopEval_lmp (s : State) (now dtNs : Nat) (dt : Rat) : (State.stopEval s now dtNs dt).lmp = s.lmp := by
  simp [State.stopEval]

@[simp] theorem State.outerEval_lmp (s : State) (now : Nat) (dtNs : Nat) : (State.outerEval s now dtNs).lmp = s.lmp := by
  unfold State.outerEval
  dsimp only
  repeat' split
  all_goals simp

@[simp] theorem State.missDeadline_lmp (s : State) (now : Nat) : (State.missDeadline s now).lmp = s.lmp := by
  simp [State.missDeadline]

@[simp] theorem State.tonesAt_lmp (s0 : State) (now : Nat) : (State.tonesAt s0 now).lmp = s0.lmp := by
  simp [State.tonesAt]

@[simp] theorem State.isum_lmp (s : State) : (State.isum s).lmp = s.lmp := by
  simp [State.isum]

@[simp] theorem State.innerEval_lmp (s : State) (p : Nat) (m : EvalIn) : (State.innerEval s p m).lmp = s.lmp := by
  simp [State.innerEval]

@[simp] theorem State.rampStep_lmp (s : State) (p : Nat) (m : EvalIn) : (State.rampStep s p m).lmp = s.lmp := by
  simp [State.rampStep]

@[simp] theorem State.brakeStep_lmp (s : State) (p : Nat) (m : EvalIn) : (State.brakeStep s p m).lmp = s.lmp := by
  simp [State.brakeStep]

@[simp] theorem State.deStep_lmp (s : State) (p : Nat) (m : EvalIn) : (State.deStep s p m).lmp = s.lmp := by
  simp [State.deStep]

@[simp] theorem State.issue_lmp (s : State) (p : Nat) (m : EvalIn) : (State.issue s p m).lmp = s.lmp := by
  simp [State.issue]

@[simp] theorem State.observe_lmp (s : State) (p : Nat) (m : EvalIn) (ma : Int) : (State.observe s p m ma).lmp = s.lmp := by
  simp [State.observe]

@[simp] theorem State.updatePoint_lmp (s : State) (p : Nat) (m : EvalIn) : (State.updatePoint s p m).lmp = s.lmp := by
  simp [State.updatePoint]

@[simp] theorem State.heldPoint_lmp (s0 : State) (p : Nat) (m : EvalIn) : (State.heldPoint s0 p m).lmp = s0.lmp := by
  simp [State.heldPoint]

@[simp] theorem State.ceTap_lmp (s : State) (p : Nat) (m : EvalIn) : (State.ceTap s p m).lmp = s.lmp := by
  unfold State.ceTap
  split <;> simp

@[simp] theorem State.evalWrites_lmp (s : State) (p : Nat) (m : EvalIn) : (State.evalWrites s p m).lmp = s.lmp := by
  simp [State.evalWrites]

@[simp] theorem State.announced_lmp (s : State) (m : EntryIn) : (State.announced s m).lmp = s.lmp := by
  simp [State.announced]

@[simp] theorem State.applyBank_lmp (s : State) : (State.applyBank s).lmp = s.lmp := by
  simp [State.applyBank]

@[simp] theorem State.queueCmd_lmp (s : State) (n cmd : Nat) (params : List Nat) (chan : Option Nat) : (State.queueCmd s n cmd params chan).lmp = s.lmp := by
  simp [State.queueCmd]

@[simp] theorem State.updEnd_lmp (s : State) : (State.updEnd s).lmp = s.lmp := by
  simp [State.updEnd]

@[simp] theorem State.updDisturbed_lmp (s : State) : (State.updDisturbed s).lmp = s.lmp := by
  simp [State.updDisturbed]

@[simp] theorem State.confirm_lmp (s : State) : (State.confirm s).lmp = s.lmp := by
  simp [State.confirm]

@[simp] theorem State.reportDrops_lmp (s : State) : (State.reportDrops s).lmp = s.lmp := by
  unfold State.reportDrops
  repeat' split
  all_goals simp

@[simp] theorem State.logWriteOne_lmp (s : State) : (State.logWriteOne s).lmp = s.lmp := by
  unfold State.logWriteOne
  dsimp only
  split <;> simp

@[simp] theorem State.logDrain_lmp (s : State) : (State.logDrain s).lmp = s.lmp := by
  simp [State.logDrain]

@[simp] theorem State.nvmBad_lmp (s : State) (a : Nat) : (State.nvmBad s a).lmp = s.lmp := by
  simp [State.nvmBad]

@[simp] theorem State.pd0Backup_lmp (s : State) : (State.pd0Backup s).lmp = s.lmp := by
  simp [State.pd0Backup]

@[simp] theorem State.loadTones_lmp (s : State) : (State.loadTones s).lmp = s.lmp := by
  simp [State.loadTones]

@[simp] theorem State.queueLimits_lmp (s : State) (n : Nat) : (State.queueLimits s n).lmp = s.lmp := by
  simp [State.queueLimits]

@[simp] theorem State.logUncounted_lmp (s : State) (qint : Int) : (State.logUncounted s qint).lmp = s.lmp := by
  simp [State.logUncounted]

@[simp] theorem State.modNode_lmp (s : State) (n : Nat) (f : Nat → GroupRec → GroupRec) : (State.modNode s n f).lmp = s.lmp := by
  simp [State.modNode]

@[simp] theorem State.crossing_lmp (s : State) (side level dir crit g : Nat) : (State.crossing s side level dir crit g).lmp = s.lmp := by
  simp [State.crossing]

@[simp] theorem State.thmConvert_lmp (s : State) : (State.thmConvert s).lmp = s.lmp := by
  simp [State.thmConvert]

@[simp] theorem State.thmTake_lmp (s : State) (src : Nat) (mask : Nat) (x : ThmIn) : (State.thmTake s src mask x).lmp = s.lmp := by
  unfold State.thmTake
  split <;> simp

@[simp] theorem State.thmModel_lmp (s : State) (p : Nat) : (State.thmModel s p).lmp = s.lmp := by
  simp [State.thmModel]

@[simp] theorem State.thmPhase_lmp (s : State) (p : Nat) : (State.thmPhase s p).lmp = s.lmp := by
  simp [State.thmPhase]

@[simp] theorem State.thmGroup_lmp (s : State) (g : Nat) : (State.thmGroup s g).lmp = s.lmp := by
  simp [State.thmGroup]

@[simp] theorem State.degThermal_lmp (s : State) : (State.degThermal s).lmp = s.lmp := by
  simp [State.degThermal]

@[simp] theorem State.factors_lmp (s : State) : (State.factors s).lmp = s.lmp := by
  simp [State.factors]

@[simp] theorem State.thmHot_lmp (s : State) : (State.thmHot s).lmp = s.lmp := by
  simp [State.thmHot]

@[simp] theorem State.alignStat_lmp (s : State) : (State.alignStat s).lmp = s.lmp := by
  simp [State.alignStat]

@[simp] theorem State.ceFrameStart_lmp (s : State) : (State.ceFrameStart s).lmp = s.lmp := by
  simp [State.ceFrameStart]

@[simp] theorem State.loadBoot_lmp (s : State) : (State.loadBoot s).lmp = s.lmp := by
  simp [State.loadBoot]

@[simp] theorem State.bootReselect_lmp (s : State) : (State.bootReselect s).lmp = s.lmp := by
  simp [State.bootReselect]

@[simp] theorem State.sagIsolate_lmp (s : State) (c : Nat) : (State.sagIsolate s c).lmp = s.lmp := by
  simp [State.sagIsolate]

@[simp] theorem State.diag_lmp (s : State) (k : Nat) (bad : Bool) : (State.diag s k bad).lmp = s.lmp := by
  simp [State.diag]

@[simp] theorem State.diagFail_lmp (s : State) (k : Nat) : (State.diagFail s k).lmp = s.lmp := by
  simp [State.diagFail]

@[simp] theorem State.diagHard_lmp (s : State) : (State.diagHard s).lmp = s.lmp := by
  simp [State.diagHard]

@[simp] theorem State.slotSkip_lmp (s : State) (sw : Nat) : (State.slotSkip s sw).lmp = s.lmp := by
  simp [State.slotSkip]

@[simp] theorem State.degSession_lmp (s : State) : (State.degSession s).lmp = s.lmp := by
  simp [State.degSession]

@[simp] theorem State.degNet_lmp (s : State) : (State.degNet s).lmp = s.lmp := by
  simp [State.degNet]

@[simp] theorem State.pduMiss_lmp (s : State) : (State.pduMiss s).lmp = s.lmp := by
  simp [State.pduMiss]

@[simp] theorem State.clogAdd_lmp (s : State) (kind source index : Nat) (old new : Int) : (State.clogAdd s kind source index old new).lmp = s.lmp := by
  simp [State.clogAdd]

@[simp] theorem State.cfgCommit_lmp (s : State) (source : Nat) : (State.cfgCommit s source).lmp = s.lmp := by
  simp [State.cfgCommit]

@[simp] theorem State.cfgEnd_lmp (s : State) : (State.cfgEnd s).lmp = s.lmp := by
  unfold State.cfgEnd
  split <;> simp

@[simp] theorem State.sagReset_lmp (s : State) (format : Nat) (fw : Nat) : (State.sagReset s format fw).lmp = s.lmp := by
  unfold State.sagReset
  dsimp only
  split
  · exact State.clogAdd_lmp ..
  · exact (State.clogAdd_lmp ..).trans (State.clogAdd_lmp ..)

@[simp] theorem State.settingsLoad_lmp (s : State) : (State.settingsLoad s).lmp = s.lmp := by
  unfold State.settingsLoad
  split <;> simp

@[simp] theorem State.capLoad_lmp (s : State) : (State.capLoad s).lmp = s.lmp := by
  unfold State.capLoad
  split <;> simp

@[simp] theorem State.countLoad_lmp (s : State) : (State.countLoad s).lmp = s.lmp := by
  unfold State.countLoad
  repeat' split
  all_goals simp

@[simp] theorem State.sagLoad_lmp (s : State) : (State.sagLoad s).lmp = s.lmp := by
  unfold State.sagLoad
  split <;> simp

@[simp] theorem State.tvLoad_lmp (s : State) : (State.tvLoad s).lmp = s.lmp := by
  simp [State.tvLoad]

@[simp] theorem State.bootLoad_lmp (s : State) : (State.bootLoad s).lmp = s.lmp := by
  simp [State.bootLoad]

@[simp] theorem State.bootRevert_lmp (s : State) : (State.bootRevert s).lmp = s.lmp := by
  simp [State.bootRevert]

@[simp] theorem State.bootConfirm_lmp (s : State) : (State.bootConfirm s).lmp = s.lmp := by
  simp [State.bootConfirm]

@[simp] theorem State.isolateAll_lmp (s : State) (l : List Nat) : (State.isolateAll s l).lmp = s.lmp := by
  unfold State.isolateAll
  split <;> simp

@[simp] theorem State.logItem_lmp (s : State) (detail : Nat) (i : TestItem) : (State.logItem s detail i).lmp = s.lmp := by
  simp [State.logItem]

@[simp] theorem State.testResults_lmp (s : State) (r : SelfTest) : (State.testResults s r).lmp = s.lmp := by
  simp [State.testResults]

@[simp] theorem State.startLost_lmp (s : State) (n : Nat) : (State.startLost s n).lmp = s.lmp := by
  simp [State.startLost]

@[simp] theorem State.pairFault_lmp (s : State) (kind : Nat) : (State.pairFault s kind).lmp = s.lmp := by
  simp [State.pairFault]

@[simp] theorem State.clashCheck_lmp (s : State) (h : Partner) (higher : Bool) : (State.clashCheck s h higher).lmp = s.lmp := by
  simp [State.clashCheck]

@[simp] theorem State.putPeriod_lmp (s : State) (v : Nat) : (State.putPeriod s v).lmp = s.lmp := by
  simp [State.putPeriod]

@[simp] theorem State.settingDone_lmp (s : State) (i : Nat) (v old : Int) : (State.settingDone s i v old).lmp = s.lmp := by
  simp [State.settingDone]

@[simp] theorem State.putSetting_lmp (s : State) (i : Nat) (v : Int) : (State.putSetting s i v).lmp = s.lmp := by
  unfold State.putSetting
  repeat' split
  all_goals simp

@[simp] theorem State.toDefault_lmp (s : State) (i : Nat) : (State.toDefault s i).lmp = s.lmp := by
  unfold State.toDefault
  split <;> simp

@[simp] theorem State.toNewFormat_lmp (s : State) (i : Nat) : (State.toNewFormat s i).lmp = s.lmp := by
  simp [State.toNewFormat]

@[simp] theorem State.loadNewFormat_lmp (s : State) : (State.loadNewFormat s).lmp = s.lmp := by
  simp [State.loadNewFormat]

@[simp] theorem State.formatStep_lmp (s : State) : (State.formatStep s).lmp = s.lmp := by
  simp [State.formatStep]

@[simp] theorem State.loginState_lmp (s : State) : (State.loginState s).lmp = s.lmp := by
  simp [State.loginState]

@[simp] theorem State.toIsolated_lmp (s : State) : (State.toIsolated s).lmp = s.lmp := by
  simp [State.toIsolated]

@[simp] theorem State.toStandby_lmp (s : State) : (State.toStandby s).lmp = s.lmp := by
  simp [State.toStandby]

@[simp] theorem State.toDegraded_lmp (s : State) : (State.toDegraded s).lmp = s.lmp := by
  simp [State.toDegraded]

@[simp] theorem State.fromDegraded_lmp (s : State) : (State.fromDegraded s).lmp = s.lmp := by
  simp [State.fromDegraded]

@[simp] theorem State.stopDone_lmp (s : State) : (State.stopDone s).lmp = s.lmp := by
  simp [State.stopDone]

@[simp] theorem State.toMaintenance_lmp (s : State) : (State.toMaintenance s).lmp = s.lmp := by
  simp [State.toMaintenance]

@[simp] theorem State.afterTest_lmp (s : State) (owned : Bool) : (State.afterTest s owned).lmp = s.lmp := by
  simp [State.afterTest]

theorem State.row_lmp (s : State) (e : Ev) (t : State) (h : State.row s e = some t) : t.lmp = s.lmp := by
  revert h
  unfold State.row
  repeat' split
  all_goals simp only [Option.some.injEq, reduceCtorEq, false_implies]
  all_goals rintro rfl
  all_goals simp

@[simp] theorem State.dropEv_lmp (s : State) (e : Ev) : (State.dropEv s e).lmp = s.lmp := by
  unfold State.dropEv
  split <;> simp

@[simp] theorem State.takeClass_lmp (s : State) (c : Nat) (p0 : List Ev) : (s.takeClass c p0).1.lmp = s.lmp := by
  induction p0 generalizing s with
  | nil => rfl
  | cons e l ih =>
    simp only [State.takeClass]
    split
    · exact ih s
    · split
      · rename_i h
        exact State.row_lmp _ _ _ h
      · exact (ih _).trans (by simp)

@[simp] theorem State.runClass_lmp (s : State) (c : Nat) : (State.runClass s c).lmp = s.lmp := by
  simp [State.runClass]

@[simp] theorem State.runDegraded_lmp (s : State) : (State.runDegraded s).lmp = s.lmp := by
  simp [State.runDegraded]

@[simp] theorem State.slotZero_lmp (s : State) : (State.slotZero s).lmp = s.lmp := by
  simp [State.slotZero]

@[simp] theorem State.answerWait_lmp (s : State) (c : Nat) (r : Reply) : (State.answerWait s c r).lmp = s.lmp := by
  unfold State.answerWait
  exact State.lmp_foldl _ _ _ (fun t x => by split <;> simp)

@[simp] theorem State.done_lmp (s : State) (c code tag rc detail : Nat) (data : List Byte) : (State.done s c code tag rc detail data).lmp = s.lmp := by
  simp [State.done]

@[simp] theorem State.reply_lmp (s : State) (c : Nat) (rc : Nat) (detail : Nat) (data : List Byte) : (State.reply s c rc detail data).lmp = s.lmp := by
  unfold State.reply
  split <;> simp

@[simp] theorem State.capWrite_lmp (s : State) (cap g : Nat) : (State.capWrite s cap g).lmp = s.lmp := by
  simp [State.capWrite]

@[simp] theorem State.heldBusy_lmp (s : State) (p : Chan → Bool) : (State.heldBusy s p).lmp = s.lmp := by
  simp [State.heldBusy]

@[simp] theorem State.spyWrote_lmp (s : State) : (State.spyWrote s).lmp = s.lmp := by
  simp [State.spyWrote]

end Sys2Proof.Machine

/-! What leaves the parameters as it is. -/

namespace Sys2Proof.Machine

/-- A fold of updates that keep the field keeps it. -/
@[simp] theorem State.dict_foldl {β : Type} (f : State → β → State) (l : List β) (s : State) (h : ∀ t x, (f t x).dict = t.dict) :
    (l.foldl f s).dict = s.dict := by
  induction l generalizing s with
  | nil => rfl
  | cons x l ih => rw [List.foldl_cons, ih, h]

/-- The field of a choice of states. -/
@[simp] theorem State.dict_ite (c : Prop) [Decidable c] (a b : State) : (if c then a else b).dict = if c then a.dict else b.dict := by
  split <;> rfl

/-- The field of a choice of states beside a value. -/
@[simp] theorem State.dict_itep {α : Type} (c : Prop) [Decidable c] (a b : State × α) :
    (if c then a else b).1.dict = if c then a.1.dict else b.1.dict := by
  split <;> rfl

@[simp] theorem State.logPost_dict (s : State) (src code sev : Nat) (data : List Nat) : (State.logPost s src code sev data).dict = s.dict := by
  simp [State.logPost]

@[simp] theorem State.sendFrom_dict (s : State) (p : PortId) (addr udp : Nat) (b : List Byte) : (State.sendFrom s p addr udp b).dict = s.dict := by
  simp [State.sendFrom]

@[simp] theorem State.sendAttn_dict (s : State) (x : Session) (m : Attn) (p : PortId) (again : Bool) : (State.sendAttn s x m p again).dict = s.dict := by
  simp [State.sendAttn]

@[simp] theorem State.lostNote_dict (s : State) (i : Nat) : (State.lostNote s i).dict = s.dict := by
  unfold State.lostNote
  split <;> simp

@[simp] theorem State.attnTo_dict (s : State) (m : Attn) (i : Nat) : (State.attnTo s m i).dict = s.dict := by
  unfold State.attnTo
  split <;> simp

@[simp] theorem State.attn_dict (s : State) (code sev : Nat) (data : List Nat) : (State.attn s code sev data).dict = s.dict := by
  simp [State.attn]

@[simp] theorem State.announce_dict (s : State) : (State.announce s).dict = s.dict := by
  simp [State.announce]

@[simp] theorem State.clearSetpoints_dict (s : State) : (State.clearSetpoints s).dict = s.dict := by
  simp [State.clearSetpoints]

@[simp] theorem State.syncMode_dict (s : State) : (State.syncMode s).dict = s.dict := by
  simp [State.syncMode]

@[simp] theorem State.leaveSetpoints_dict (s : State) : (State.leaveSetpoints s).dict = s.dict := by
  simp [State.leaveSetpoints]

@[simp] theorem State.outputsRest_dict (s : State) : (State.outputsRest s).dict = s.dict := by
  unfold State.outputsRest
  split <;> simp

@[simp] theorem State.enter_dict (s : State) (st b : OpState) : (State.enter s st b).dict = s.dict := by
  simp [State.enter]

@[simp] theorem State.enterEff_dict (s : State) (st : OpState) : (State.enterEff s st).dict = s.dict := by
  simp [State.enterEff]

@[simp] theorem State.coilService1_dict (s : State) (k : Nat) : (State.coilService1 s k).dict = s.dict := by
  simp [State.coilService1]

@[simp] theorem State.coilService_dict (s : State) : (State.coilService s).dict = s.dict := by
  simp [State.coilService]

@[simp] theorem State.pairSend_dict (s : State) (kind : Nat) (body : List Byte) : (State.pairSend s kind body).dict = s.dict := by
  simp [State.pairSend]

@[simp] theorem State.swapSend_dict (s : State) (sub b : Nat) : (State.swapSend s sub b).dict = s.dict := by
  simp [State.swapSend]

@[simp] theorem State.sendStatus_dict (s : State) : (State.sendStatus s).dict = s.dict := by
  simp [State.sendStatus]

@[simp] theorem State.dropOutputs_dict (s : State) : (State.dropOutputs s).dict = s.dict := by
  simp [State.dropOutputs]

@[simp] theorem State.swapAbandon_dict (s : State) : (State.swapAbandon s).dict = s.dict := by
  unfold State.swapAbandon
  split <;> simp

@[simp] theorem State.isolate_dict (s : State) (c : Nat) : (State.isolate s c).dict = s.dict := by
  simp [State.isolate]

@[simp] theorem State.degPhase_dict (s : State) : (State.degPhase s).dict = s.dict := by
  simp [State.degPhase]

@[simp] theorem State.phaseFault_dict (s : State) (p c : Nat) : (State.phaseFault s p c).dict = s.dict := by
  simp [State.phaseFault]

@[simp] theorem State.requestSwap_dict (s : State) : (State.requestSwap s).dict = s.dict := by
  simp [State.requestSwap]

@[simp] theorem State.abandonTrk_dict (s : State) (kind sev : Nat) : (State.abandonTrk s kind sev).dict = s.dict := by
  simp [State.abandonTrk]

@[simp] theorem State.probeSuspend_dict (s : State) : (State.probeSuspend s).dict = s.dict := by
  simp [State.probeSuspend]

@[simp] theorem State.applyClamp_dict (s : State) (q : Rat) (dtNs : Nat) : (State.applyClamp s q dtNs).1.dict = s.dict := by
  simp [State.applyClamp]

@[simp] theorem State.holdTones_dict (s : State) : (State.holdTones s).dict = s.dict := by
  simp [State.holdTones]

@[simp] theorem State.startMode_dict (s : State) (m : Nat) : (State.startMode s m).dict = s.dict := by
  simp [State.startMode]

@[simp] theorem State.modeChange_dict (s : State) : (State.modeChange s).dict = s.dict := by
  simp [State.modeChange]

@[simp] theorem State.setRef_dict (s : State) (q : Rat) (dtNs : Nat) : (State.setRef s q dtNs).dict = s.dict := by
  simp [State.setRef]

@[simp] theorem State.observe_dict (s : State) (p : Nat) (m : EvalIn) (ma : Int) : (State.observe s p m ma).dict = s.dict := by
  simp [State.observe]

@[simp] theorem State.announced_dict (s : State) (m : EntryIn) : (State.announced s m).dict = s.dict := by
  simp [State.announced]

@[simp] theorem State.updEnd_dict (s : State) : (State.updEnd s).dict = s.dict := by
  simp [State.updEnd]

@[simp] theorem State.updDisturbed_dict (s : State) : (State.updDisturbed s).dict = s.dict := by
  simp [State.updDisturbed]

@[simp] theorem State.confirm_dict (s : State) : (State.confirm s).dict = s.dict := by
  simp [State.confirm]

@[simp] theorem State.reportDrops_dict (s : State) : (State.reportDrops s).dict = s.dict := by
  unfold State.reportDrops
  repeat' split
  all_goals simp

@[simp] theorem State.logWriteOne_dict (s : State) : (State.logWriteOne s).dict = s.dict := by
  unfold State.logWriteOne
  dsimp only
  split <;> simp

@[simp] theorem State.logDrain_dict (s : State) : (State.logDrain s).dict = s.dict := by
  simp [State.logDrain]

@[simp] theorem State.pd0Backup_dict (s : State) : (State.pd0Backup s).dict = s.dict := by
  simp [State.pd0Backup]

@[simp] theorem State.logUncounted_dict (s : State) (qint : Int) : (State.logUncounted s qint).dict = s.dict := by
  simp [State.logUncounted]

@[simp] theorem State.modNode_dict (s : State) (n : Nat) (f : Nat → GroupRec → GroupRec) : (State.modNode s n f).dict = s.dict := by
  simp [State.modNode]

@[simp] theorem State.crossing_dict (s : State) (side level dir crit g : Nat) : (State.crossing s side level dir crit g).dict = s.dict := by
  simp [State.crossing]

@[simp] theorem State.thmConvert_dict (s : State) : (State.thmConvert s).dict = s.dict := by
  simp [State.thmConvert]

@[simp] theorem State.thmTake_dict (s : State) (src : Nat) (mask : Nat) (x : ThmIn) : (State.thmTake s src mask x).dict = s.dict := by
  unfold State.thmTake
  split <;> simp

@[simp] theorem State.thmModel_dict (s : State) (p : Nat) : (State.thmModel s p).dict = s.dict := by
  simp [State.thmModel]

@[simp] theorem State.thmPhase_dict (s : State) (p : Nat) : (State.thmPhase s p).dict = s.dict := by
  simp [State.thmPhase]

@[simp] theorem State.thmGroup_dict (s : State) (g : Nat) : (State.thmGroup s g).dict = s.dict := by
  simp [State.thmGroup]

@[simp] theorem State.degThermal_dict (s : State) : (State.degThermal s).dict = s.dict := by
  simp [State.degThermal]

@[simp] theorem State.factors_dict (s : State) : (State.factors s).dict = s.dict := by
  simp [State.factors]

@[simp] theorem State.thmHot_dict (s : State) : (State.thmHot s).dict = s.dict := by
  simp [State.thmHot]

@[simp] theorem State.sagIsolate_dict (s : State) (c : Nat) : (State.sagIsolate s c).dict = s.dict := by
  simp [State.sagIsolate]

@[simp] theorem State.diag_dict (s : State) (k : Nat) (bad : Bool) : (State.diag s k bad).dict = s.dict := by
  simp [State.diag]

@[simp] theorem State.diagFail_dict (s : State) (k : Nat) : (State.diagFail s k).dict = s.dict := by
  simp [State.diagFail]

@[simp] theorem State.diagHard_dict (s : State) : (State.diagHard s).dict = s.dict := by
  simp [State.diagHard]

@[simp] theorem State.degNet_dict (s : State) : (State.degNet s).dict = s.dict := by
  simp [State.degNet]

@[simp] theorem State.pduMiss_dict (s : State) : (State.pduMiss s).dict = s.dict := by
  simp [State.pduMiss]

@[simp] theorem State.clogAdd_dict (s : State) (kind source index : Nat) (old new : Int) : (State.clogAdd s kind source index old new).dict = s.dict := by
  simp [State.clogAdd]

@[simp] theorem State.sagReset_dict (s : State) (format : Nat) (fw : Nat) : (State.sagReset s format fw).dict = s.dict := by
  unfold State.sagReset
  dsimp only
  split
  · exact State.clogAdd_dict ..
  · exact (State.clogAdd_dict ..).trans (State.clogAdd_dict ..)

@[simp] theorem State.capLoad_dict (s : State) : (State.capLoad s).dict = s.dict := by
  unfold State.capLoad
  split <;> simp

@[simp] theorem State.countLoad_dict (s : State) : (State.countLoad s).dict = s.dict := by
  unfold State.countLoad
  repeat' split
  all_goals simp

@[simp] theorem State.sagLoad_dict (s : State) : (State.sagLoad s).dict = s.dict := by
  unfold State.sagLoad
  split <;> simp

@[simp] theorem State.tvLoad_dict (s : State) : (State.tvLoad s).dict = s.dict := by
  simp [State.tvLoad]

@[simp] theorem State.bootRevert_dict (s : State) : (State.bootRevert s).dict = s.dict := by
  simp [State.bootRevert]

@[simp] theorem State.domainUp_dict (s : State) (d : Nat) : (State.domainUp s d).dict = s.dict := by
  simp [State.domainUp]

@[simp] theorem State.domainDown_dict (s : State) (d : Nat) : (State.domainDown s d).dict = s.dict := by
  unfold State.domainDown
  split <;> simp

@[simp] theorem State.isolateAll_dict (s : State) (l : List Nat) : (State.isolateAll s l).dict = s.dict := by
  unfold State.isolateAll
  split <;> simp

@[simp] theorem State.logItem_dict (s : State) (detail : Nat) (i : TestItem) : (State.logItem s detail i).dict = s.dict := by
  simp [State.logItem]

@[simp] theorem State.startLost_dict (s : State) (n : Nat) : (State.startLost s n).dict = s.dict := by
  simp [State.startLost]

@[simp] theorem State.boCommit_dict (s : State) : (State.boCommit s).dict = s.dict := by
  simp [State.boCommit]

@[simp] theorem State.pairFault_dict (s : State) (kind : Nat) : (State.pairFault s kind).dict = s.dict := by
  simp [State.pairFault]

@[simp] theorem State.clashCheck_dict (s : State) (h : Partner) (higher : Bool) : (State.clashCheck s h higher).dict = s.dict := by
  simp [State.clashCheck]

@[simp] theorem State.toIsolated_dict (s : State) : (State.toIsolated s).dict = s.dict := by
  simp [State.toIsolated]

@[simp] theorem State.toStandby_dict (s : State) : (State.toStandby s).dict = s.dict := by
  simp [State.toStandby]

@[simp] theorem State.stopDone_dict (s : State) : (State.stopDone s).dict = s.dict := by
  simp [State.stopDone]

@[simp] theorem State.toMaintenance_dict (s : State) : (State.toMaintenance s).dict = s.dict := by
  simp [State.toMaintenance]

@[simp] theorem State.afterTest_dict (s : State) (owned : Bool) : (State.afterTest s owned).dict = s.dict := by
  simp [State.afterTest]

theorem State.row_dict (s : State) (e : Ev) (t : State) (h : State.row s e = some t) : t.dict = s.dict := by
  revert h
  unfold State.row
  repeat' split
  all_goals simp only [Option.some.injEq, reduceCtorEq, false_implies]
  all_goals rintro rfl
  all_goals simp

@[simp] theorem State.dropEv_dict (s : State) (e : Ev) : (State.dropEv s e).dict = s.dict := by
  unfold State.dropEv
  split <;> simp

@[simp] theorem State.takeClass_dict (s : State) (c : Nat) (p0 : List Ev) : (s.takeClass c p0).1.dict = s.dict := by
  induction p0 generalizing s with
  | nil => rfl
  | cons e l ih =>
    simp only [State.takeClass]
    split
    · exact ih s
    · split
      · rename_i h
        exact State.row_dict _ _ _ h
      · exact (ih _).trans (by simp)

@[simp] theorem State.answerWait_dict (s : State) (c : Nat) (r : Reply) : (State.answerWait s c r).dict = s.dict := by
  unfold State.answerWait
  exact State.dict_foldl _ _ _ (fun t x => by split <;> simp)

@[simp] theorem State.done_dict (s : State) (c code tag rc detail : Nat) (data : List Byte) : (State.done s c code tag rc detail data).dict = s.dict := by
  simp [State.done]

@[simp] theorem State.reply_dict (s : State) (c : Nat) (rc : Nat) (detail : Nat) (data : List Byte) : (State.reply s c rc detail data).dict = s.dict := by
  unfold State.reply
  split <;> simp

@[simp] theorem State.atTime_dict (s : State) (t : BitVec 32) : (State.atTime s t).dict = s.dict := by
  simp [State.atTime]

@[simp] theorem State.capWrite_dict (s : State) (cap g : Nat) : (State.capWrite s cap g).dict = s.dict := by
  simp [State.capWrite]

@[simp] theorem State.heldBusy_dict (s : State) (p : Chan → Bool) : (State.heldBusy s p).dict = s.dict := by
  simp [State.heldBusy]

@[simp] theorem State.spyWrote_dict (s : State) : (State.spyWrote s).dict = s.dict := by
  simp [State.spyWrote]

end Sys2Proof.Machine

/-! What leaves the field update as it is. -/

namespace Sys2Proof.Machine

/-- A fold of updates that keep the field keeps it. -/
@[simp] theorem State.upd_foldl {β : Type} (f : State → β → State) (l : List β) (s : State) (h : ∀ t x, (f t x).upd = t.upd) :
    (l.foldl f s).upd = s.upd := by
  induction l generalizing s with
  | nil => rfl
  | cons x l ih => rw [List.foldl_cons, ih, h]

/-- The field of a choice of states. -/
@[simp] theorem State.upd_ite (c : Prop) [Decidable c] (a b : State) : (if c then a else b).upd = if c then a.upd else b.upd := by
  split <;> rfl

/-- The field of a choice of states beside a value. -/
@[simp] theorem State.upd_itep {α : Type} (c : Prop) [Decidable c] (a b : State × α) :
    (if c then a else b).1.upd = if c then a.1.upd else b.1.upd := by
  split <;> rfl

@[simp] theorem State.logPost_upd (s : State) (src code sev : Nat) (data : List Nat) : (State.logPost s src code sev data).upd = s.upd := by
  simp [State.logPost]

@[simp] theorem State.sendFrom_upd (s : State) (p : PortId) (addr udp : Nat) (b : List Byte) : (State.sendFrom s p addr udp b).upd = s.upd := by
  simp [State.sendFrom]

@[simp] theorem State.sendAttn_upd (s : State) (x : Session) (m : Attn) (p : PortId) (again : Bool) : (State.sendAttn s x m p again).upd = s.upd := by
  simp [State.sendAttn]

@[simp] theorem State.lostNote_upd (s : State) (i : Nat) : (State.lostNote s i).upd = s.upd := by
  unfold State.lostNote
  split <;> simp

@[simp] theorem State.attnTo_upd (s : State) (m : Attn) (i : Nat) : (State.attnTo s m i).upd = s.upd := by
  unfold State.attnTo
  split <;> simp

@[simp] theorem State.attn_upd (s : State) (code sev : Nat) (data : List Nat) : (State.attn s code sev data).upd = s.upd := by
  simp [State.attn]

@[simp] theorem State.announce_upd (s : State) : (State.announce s).upd = s.upd := by
  simp [State.announce]

@[simp] theorem State.clearSetpoints_upd (s : State) : (State.clearSetpoints s).upd = s.upd := by
  simp [State.clearSetpoints]

@[simp] theorem State.syncMode_upd (s : State) : (State.syncMode s).upd = s.upd := by
  simp [State.syncMode]

@[simp] theorem State.leaveSetpoints_upd (s : State) : (State.leaveSetpoints s).upd = s.upd := by
  simp [State.leaveSetpoints]

@[simp] theorem State.outputsRest_upd (s : State) : (State.outputsRest s).upd = s.upd := by
  unfold State.outputsRest
  split <;> simp

@[simp] theorem State.enter_upd (s : State) (st b : OpState) : (State.enter s st b).upd = s.upd := by
  simp [State.enter]

@[simp] theorem State.coilService1_upd (s : State) (k : Nat) : (State.coilService1 s k).upd = s.upd := by
  simp [State.coilService1]

@[simp] theorem State.coilService_upd (s : State) : (State.coilService s).upd = s.upd := by
  simp [State.coilService]

@[simp] theorem State.pairSend_upd (s : State) (kind : Nat) (body : List Byte) : (State.pairSend s kind body).upd = s.upd := by
  simp [State.pairSend]

@[simp] theorem State.swapSend_upd (s : State) (sub b : Nat) : (State.swapSend s sub b).upd = s.upd := by
  simp [State.swapSend]

@[simp] theorem State.sendStatus_upd (s : State) : (State.sendStatus s).upd = s.upd := by
  simp [State.sendStatus]

@[simp] theorem State.dropOutputs_upd (s : State) : (State.dropOutputs s).upd = s.upd := by
  simp [State.dropOutputs]

@[simp] theorem State.swapAbandon_upd (s : State) : (State.swapAbandon s).upd = s.upd := by
  unfold State.swapAbandon
  split <;> simp

@[simp] theorem State.isolate_upd (s : State) (c : Nat) : (State.isolate s c).upd = s.upd := by
  simp [State.isolate]

@[simp] theorem State.isoCatchUp_upd (s : State) : (State.isoCatchUp s).upd = s.upd := by
  unfold State.isoCatchUp
  split <;> simp

@[simp] theorem State.lostCatchUp_upd (s : State) : (State.lostCatchUp s).upd = s.upd := by
  simp [State.lostCatchUp]

@[simp] theorem State.degPhase_upd (s : State) : (State.degPhase s).upd = s.upd := by
  simp [State.degPhase]

@[simp] theorem State.phaseFault_upd (s : State) (p c : Nat) : (State.phaseFault s p c).upd = s.upd := by
  simp [State.phaseFault]

@[simp] theorem State.requestSwap_upd (s : State) : (State.requestSwap s).upd = s.upd := by
  simp [State.requestSwap]

@[simp] theorem State.abandonTrk_upd (s : State) (kind sev : Nat) : (State.abandonTrk s kind sev).upd = s.upd := by
  simp [State.abandonTrk]

@[simp] theorem State.stopStart_upd (s : State) (rate : Option Nat) : (State.stopStart s rate).upd = s.upd := by
  simp [State.stopStart]

@[simp] theorem State.applyOuter_upd (s : State) : (State.applyOuter s).upd = s.upd := by
  simp [State.applyOuter]

@[simp] theorem State.takeCmd_upd (s0 : State) (c : SetCmd) : (State.takeCmd s0 c).upd = s0.upd := by
  simp [State.takeCmd]

@[simp] theorem State.intake_upd (s : State) (now : Nat) : (State.intake s now).upd = s.upd := by
  simp [State.intake]

@[simp] theorem State.limits_upd (s : State) (dt : Rat) : (State.limits s dt).upd = s.upd := by
  simp [State.limits]

@[simp] theorem State.probeSuspend_upd (s : State) : (State.probeSuspend s).upd = s.upd := by
  simp [State.probeSuspend]

@[simp] theorem State.applyClamp_upd (s : State) (q : Rat) (dtNs : Nat) : (State.applyClamp s q dtNs).1.upd = s.upd := by
  simp [State.applyClamp]

@[simp] theorem State.holdTones_upd (s : State) : (State.holdTones s).upd = s.upd := by
  simp [State.holdTones]

@[simp] theorem State.outerLoop_upd (s : State) (q : Rat) (dtNs : Nat) : (State.outerLoop s q dtNs).upd = s.upd := by
  simp [State.outerLoop]

@[simp] theorem State.startMode_upd (s : State) (m : Nat) : (State.startMode s m).upd = s.upd := by
  simp [State.startMode]

@[simp] theorem State.modeChange_upd (s : State) : (State.modeChange s).upd = s.upd := by
  simp [State.modeChange]

@[simp] theorem State.droopStep_upd (s : State) : (State.droopStep s).upd = s.upd := by
  simp [State.droopStep]

@[simp] theorem State.droop_upd (s : State) : (State.droop s).upd = s.upd := by
  simp [State.droop]

@[simp] theorem State.trackTick_upd (s : State) (dt : Rat) : (State.trackTick s dt).upd = s.upd := by
  simp [State.trackTick]

@[simp] theorem State.holdTick_upd (s0 : State) (dt : Rat) : (State.holdTick s0 dt).upd = s0.upd := by
  simp [State.holdTick]

@[simp] theorem State.setRef_upd (s : State) (q : Rat) (dtNs : Nat) : (State.setRef s q dtNs).upd = s.upd := by
  simp [State.setRef]

@[simp] theorem State.linkRef_upd (s : State) (dtNs : Nat) : (State.linkRef s dtNs).upd = s.upd := by
  simp [State.linkRef]

@[simp] theorem State.calRampTick_upd (s : State) (dtNs : Nat) (dt : Rat) : (State.calRampTick s dtNs dt).upd = s.upd := by
  simp [State.calRampTick]

@[simp] theorem State.dispatchEval_upd (s : State) (now dtNs : Nat) (dt : Rat) : (State.dispatchEval s now dtNs dt).upd = s.upd := by
  simp [State.dispatchEval]

@[simp] theorem State.stopEval_upd (s : State) (now dtNs : Nat) (dt : Rat) : (State.stopEval s now dtNs dt).upd = s.upd := by
  simp [State.stopEval]

@[simp] theorem State.outerEval_upd (s : State) (now : Nat) (dtNs : Nat) : (State.outerEval s now dtNs).upd = s.upd := by
  unfold State.outerEval
  dsimp only
  repeat' split
  all_goals simp

@[simp] theorem State.observe_upd (s : State) (p : Nat) (m : EvalIn) (ma : Int) : (State.observe s p m ma).upd = s.upd := by
  simp [State.observe]

@[simp] theorem State.evalWrites_upd (s : State) (p : Nat) (m : EvalIn) : (State.evalWrites s p m).upd = s.upd := by
  simp [State.evalWrites]

@[simp] theorem State.announced_upd (s : State) (m : EntryIn) : (State.announced s m).upd = s.upd := by
  simp [State.announced]

@[simp] theorem State.applyBank_upd (s : State) : (State.applyBank s).upd = s.upd := by
  simp [State.applyBank]

@[simp] theorem State.queueCmd_upd (s : State) (n cmd : Nat) (params : List Nat) (chan : Option Nat) : (State.queueCmd s n cmd params chan).upd = s.upd := by
  simp [State.queueCmd]

@[simp] theorem State.updFault_upd (s : State) (src what item : Nat) : (State.updFault s src what item).upd = s.upd := by
  simp [State.updFault]

@[simp] theorem State.reportDrops_upd (s : State) : (State.reportDrops s).upd = s.upd := by
  unfold State.reportDrops
  repeat' split
  all_goals simp

@[simp] theorem State.logWriteOne_upd (s : State) : (State.logWriteOne s).upd = s.upd := by
  unfold State.logWriteOne
  dsimp only
  split <;> simp

@[simp] theorem State.logDrain_upd (s : State) : (State.logDrain s).upd = s.upd := by
  simp [State.logDrain]

@[simp] theorem State.pd0Backup_upd (s : State) : (State.pd0Backup s).upd = s.upd := by
  simp [State.pd0Backup]

@[simp] theorem State.loadTones_upd (s : State) : (State.loadTones s).upd = s.upd := by
  simp [State.loadTones]

@[simp] theorem State.queueLimits_upd (s : State) (n : Nat) : (State.queueLimits s n).upd = s.upd := by
  simp [State.queueLimits]

@[simp] theorem State.logUncounted_upd (s : State) (qint : Int) : (State.logUncounted s qint).upd = s.upd := by
  simp [State.logUncounted]

@[simp] theorem State.modNode_upd (s : State) (n : Nat) (f : Nat → GroupRec → GroupRec) : (State.modNode s n f).upd = s.upd := by
  simp [State.modNode]

@[simp] theorem State.crossing_upd (s : State) (side level dir crit g : Nat) : (State.crossing s side level dir crit g).upd = s.upd := by
  simp [State.crossing]

@[simp] theorem State.coneCatchUp_upd (s : State) : (State.coneCatchUp s).upd = s.upd := by
  simp [State.coneCatchUp]

@[simp] theorem State.thmConvert_upd (s : State) : (State.thmConvert s).upd = s.upd := by
  simp [State.thmConvert]

@[simp] theorem State.thmTake_upd (s : State) (src : Nat) (mask : Nat) (x : ThmIn) : (State.thmTake s src mask x).upd = s.upd := by
  unfold State.thmTake
  split <;> simp

@[simp] theorem State.thmModel_upd (s : State) (p : Nat) : (State.thmModel s p).upd = s.upd := by
  simp [State.thmModel]

@[simp] theorem State.thmPhase_upd (s : State) (p : Nat) : (State.thmPhase s p).upd = s.upd := by
  simp [State.thmPhase]

@[simp] theorem State.thmGroup_upd (s : State) (g : Nat) : (State.thmGroup s g).upd = s.upd := by
  simp [State.thmGroup]

@[simp] theorem State.degThermal_upd (s : State) : (State.degThermal s).upd = s.upd := by
  simp [State.degThermal]

@[simp] theorem State.factors_upd (s : State) : (State.factors s).upd = s.upd := by
  simp [State.factors]

@[simp] theorem State.derateMsg_upd (s : State) (chg : Bool) (kind limit : Nat) : (State.derateMsg s chg kind limit).upd = s.upd := by
  simp [State.derateMsg]

@[simp] theorem State.thmCatchUp_upd (s : State) : (State.thmCatchUp s).upd = s.upd := by
  simp [State.thmCatchUp]

@[simp] theorem State.thmHot_upd (s : State) : (State.thmHot s).upd = s.upd := by
  simp [State.thmHot]

@[simp] theorem State.alignStat_upd (s : State) : (State.alignStat s).upd = s.upd := by
  simp [State.alignStat]

@[simp] theorem State.ceFrameStart_upd (s : State) : (State.ceFrameStart s).upd = s.upd := by
  simp [State.ceFrameStart]

@[simp] theorem State.loadBoot_upd (s : State) : (State.loadBoot s).upd = s.upd := by
  simp [State.loadBoot]

@[simp] theorem State.bootReselect_upd (s : State) : (State.bootReselect s).upd = s.upd := by
  simp [State.bootReselect]

@[simp] theorem State.sagIsolate_upd (s : State) (c : Nat) : (State.sagIsolate s c).upd = s.upd := by
  simp [State.sagIsolate]

@[simp] theorem State.diag_upd (s : State) (k : Nat) (bad : Bool) : (State.diag s k bad).upd = s.upd := by
  simp [State.diag]

@[simp] theorem State.diagFail_upd (s : State) (k : Nat) : (State.diagFail s k).upd = s.upd := by
  simp [State.diagFail]

@[simp] theorem State.diagHard_upd (s : State) : (State.diagHard s).upd = s.upd := by
  simp [State.diagHard]

@[simp] theorem State.degSession_upd (s : State) : (State.degSession s).upd = s.upd := by
  simp [State.degSession]

@[simp] theorem State.degNet_upd (s : State) : (State.degNet s).upd = s.upd := by
  simp [State.degNet]

@[simp] theorem State.pduMiss_upd (s : State) : (State.pduMiss s).upd = s.upd := by
  simp [State.pduMiss]

@[simp] theorem State.clogAdd_upd (s : State) (kind source index : Nat) (old new : Int) : (State.clogAdd s kind source index old new).upd = s.upd := by
  simp [State.clogAdd]

@[simp] theorem State.cfgCommit_upd (s : State) (source : Nat) : (State.cfgCommit s source).upd = s.upd := by
  simp [State.cfgCommit]

@[simp] theorem State.cfgEnd_upd (s : State) : (State.cfgEnd s).upd = s.upd := by
  unfold State.cfgEnd
  split <;> simp

@[simp] theorem State.sagReset_upd (s : State) (format : Nat) (fw : Nat) : (State.sagReset s format fw).upd = s.upd := by
  unfold State.sagReset
  dsimp only
  split
  · exact State.clogAdd_upd ..
  · exact (State.clogAdd_upd ..).trans (State.clogAdd_upd ..)

@[simp] theorem State.settingsLoad_upd (s : State) : (State.settingsLoad s).upd = s.upd := by
  unfold State.settingsLoad
  split <;> simp

@[simp] theorem State.capLoad_upd (s : State) : (State.capLoad s).upd = s.upd := by
  unfold State.capLoad
  split <;> simp

@[simp] theorem State.countLoad_upd (s : State) : (State.countLoad s).upd = s.upd := by
  unfold State.countLoad
  repeat' split
  all_goals simp

@[simp] theorem State.sagLoad_upd (s : State) : (State.sagLoad s).upd = s.upd := by
  unfold State.sagLoad
  split <;> simp

@[simp] theorem State.tvLoad_upd (s : State) : (State.tvLoad s).upd = s.upd := by
  simp [State.tvLoad]

@[simp] theorem State.bootLoad_upd (s : State) : (State.bootLoad s).upd = s.upd := by
  simp [State.bootLoad]

@[simp] theorem State.domainUp_upd (s : State) (d : Nat) : (State.domainUp s d).upd = s.upd := by
  simp [State.domainUp]

@[simp] theorem State.domainDown_upd (s : State) (d : Nat) : (State.domainDown s d).upd = s.upd := by
  unfold State.domainDown
  split <;> simp

@[simp] theorem State.isolateAll_upd (s : State) (l : List Nat) : (State.isolateAll s l).upd = s.upd := by
  unfold State.isolateAll
  split <;> simp

@[simp] theorem State.logItem_upd (s : State) (detail : Nat) (i : TestItem) : (State.logItem s detail i).upd = s.upd := by
  simp [State.logItem]

@[simp] theorem State.testResults_upd (s : State) (r : SelfTest) : (State.testResults s r).upd = s.upd := by
  simp [State.testResults]

@[simp] theorem State.startLost_upd (s : State) (n : Nat) : (State.startLost s n).upd = s.upd := by
  simp [State.startLost]

@[simp] theorem State.boCommit_upd (s : State) : (State.boCommit s).upd = s.upd := by
  simp [State.boCommit]

@[simp] theorem State.pairFault_upd (s : State) (kind : Nat) : (State.pairFault s kind).upd = s.upd := by
  simp [State.pairFault]

@[simp] theorem State.clashCheck_upd (s : State) (h : Partner) (higher : Bool) : (State.clashCheck s h higher).upd = s.upd := by
  simp [State.clashCheck]

@[simp] theorem State.putPeriod_upd (s : State) (v : Nat) : (State.putPeriod s v).upd = s.upd := by
  simp [State.putPeriod]

@[simp] theorem State.settingDone_upd (s : State) (i : Nat) (v old : Int) : (State.settingDone s i v old).upd = s.upd := by
  simp [State.settingDone]

@[simp] theorem State.putSetting_upd (s : State) (i : Nat) (v : Int) : (State.putSetting s i v).upd = s.upd := by
  unfold State.putSetting
  repeat' split
  all_goals simp

@[simp] theorem State.toDefault_upd (s : State) (i : Nat) : (State.toDefault s i).upd = s.upd := by
  unfold State.toDefault
  split <;> simp

@[simp] theorem State.toNewFormat_upd (s : State) (i : Nat) : (State.toNewFormat s i).upd = s.upd := by
  simp [State.toNewFormat]

@[simp] theorem State.stopDone_upd (s : State) : (State.stopDone s).upd = s.upd := by
  simp [State.stopDone]

@[simp] theorem State.toMaintenance_upd (s : State) : (State.toMaintenance s).upd = s.upd := by
  simp [State.toMaintenance]

@[simp] theorem State.answerWait_upd (s : State) (c : Nat) (r : Reply) : (State.answerWait s c r).upd = s.upd := by
  unfold State.answerWait
  exact State.upd_foldl _ _ _ (fun t x => by split <;> simp)

@[simp] theorem State.done_upd (s : State) (c code tag rc detail : Nat) (data : List Byte) : (State.done s c code tag rc detail data).upd = s.upd := by
  simp [State.done]

@[simp] theorem State.reply_upd (s : State) (c : Nat) (rc : Nat) (detail : Nat) (data : List Byte) : (State.reply s c rc detail data).upd = s.upd := by
  unfold State.reply
  split <;> simp

@[simp] theorem State.atTime_upd (s : State) (t : BitVec 32) : (State.atTime s t).upd = s.upd := by
  simp [State.atTime]

@[simp] theorem State.capWrite_upd (s : State) (cap g : Nat) : (State.capWrite s cap g).upd = s.upd := by
  simp [State.capWrite]

@[simp] theorem State.heldBusy_upd (s : State) (p : Chan → Bool) : (State.heldBusy s p).upd = s.upd := by
  simp [State.heldBusy]

@[simp] theorem State.mgpBack_upd (s : State) : (State.mgpBack s).upd = s.upd := by
  simp [State.mgpBack]

@[simp] theorem State.rangeLeave_upd (s : State) : (State.rangeLeave s).upd = s.upd := by
  simp [State.rangeLeave]

@[simp] theorem State.spyWrote_upd (s : State) : (State.spyWrote s).upd = s.upd := by
  simp [State.spyWrote]

end Sys2Proof.Machine

/-! What leaves the recorder as it is. -/

namespace Sys2Proof.Machine

/-- A fold of updates that keep the field keeps it. -/
@[simp] theorem State.log_foldl {β : Type} (f : State → β → State) (l : List β) (s : State) (h : ∀ t x, (f t x).log = t.log) :
    (l.foldl f s).log = s.log := by
  induction l generalizing s with
  | nil => rfl
  | cons x l ih => rw [List.foldl_cons, ih, h]

/-- The field of a choice of states. -/
@[simp] theorem State.log_ite (c : Prop) [Decidable c] (a b : State) : (if c then a else b).log = if c then a.log else b.log := by
  split <;> rfl

/-- The field of a choice of states beside a value. -/
@[simp] theorem State.log_itep {α : Type} (c : Prop) [Decidable c] (a b : State × α) :
    (if c then a else b).1.log = if c then a.1.log else b.1.log := by
  split <;> rfl

@[simp] theorem State.sendFrom_log (s : State) (p : PortId) (addr udp : Nat) (b : List Byte) : (State.sendFrom s p addr udp b).log = s.log := by
  simp [State.sendFrom]

@[simp] theorem State.sendAttn_log (s : State) (x : Session) (m : Attn) (p : PortId) (again : Bool) : (State.sendAttn s x m p again).log = s.log := by
  simp [State.sendAttn]

@[simp] theorem State.lostNote_log (s : State) (i : Nat) : (State.lostNote s i).log = s.log := by
  unfold State.lostNote
  split <;> simp

@[simp] theorem State.attnTo_log (s : State) (m : Attn) (i : Nat) : (State.attnTo s m i).log = s.log := by
  unfold State.attnTo
  split <;> simp

@[simp] theorem State.attn_log (s : State) (code sev : Nat) (data : List Nat) : (State.attn s code sev data).log = s.log := by
  simp [State.attn]

@[simp] theorem State.clearSetpoints_log (s : State) : (State.clearSetpoints s).log = s.log := by
  simp [State.clearSetpoints]

@[simp] theorem State.outputsRest_log (s : State) : (State.outputsRest s).log = s.log := by
  unfold State.outputsRest
  split <;> simp

@[simp] theorem State.pairSend_log (s : State) (kind : Nat) (body : List Byte) : (State.pairSend s kind body).log = s.log := by
  simp [State.pairSend]

@[simp] theorem State.swapSend_log (s : State) (sub b : Nat) : (State.swapSend s sub b).log = s.log := by
  simp [State.swapSend]

@[simp] theorem State.sendStatus_log (s : State) : (State.sendStatus s).log = s.log := by
  simp [State.sendStatus]

@[simp] theorem State.dropOutputs_log (s : State) : (State.dropOutputs s).log = s.log := by
  simp [State.dropOutputs]

@[simp] theorem State.swapAbandon_log (s : State) : (State.swapAbandon s).log = s.log := by
  unfold State.swapAbandon
  split <;> simp

@[simp] theorem State.degPhase_log (s : State) : (State.degPhase s).log = s.log := by
  simp [State.degPhase]

@[simp] theorem State.requestSwap_log (s : State) : (State.requestSwap s).log = s.log := by
  simp [State.requestSwap]

@[simp] theorem State.applyOuter_log (s : State) : (State.applyOuter s).log = s.log := by
  simp [State.applyOuter]

@[simp] theorem State.takeCmd_log (s0 : State) (c : SetCmd) : (State.takeCmd s0 c).log = s0.log := by
  simp [State.takeCmd]

@[simp] theorem State.intake_log (s : State) (now : Nat) : (State.intake s now).log = s.log := by
  simp [State.intake]

@[simp] theorem State.probeSuspend_log (s : State) : (State.probeSuspend s).log = s.log := by
  simp [State.probeSuspend]

@[simp] theorem State.applyClamp_log (s : State) (q : Rat) (dtNs : Nat) : (State.applyClamp s q dtNs).1.log = s.log := by
  simp [State.applyClamp]

@[simp] theorem State.holdTones_log (s : State) : (State.holdTones s).log = s.log := by
  simp [State.holdTones]

@[simp] theorem State.startMode_log (s : State) (m : Nat) : (State.startMode s m).log = s.log := by
  simp [State.startMode]

@[simp] theorem State.modeChange_log (s : State) : (State.modeChange s).log = s.log := by
  simp [State.modeChange]

@[simp] theorem State.setRef_log (s : State) (q : Rat) (dtNs : Nat) : (State.setRef s q dtNs).log = s.log := by
  simp [State.setRef]

@[simp] theorem State.queueCmd_log (s : State) (n cmd : Nat) (params : List Nat) (chan : Option Nat) : (State.queueCmd s n cmd params chan).log = s.log := by
  simp [State.queueCmd]

@[simp] theorem State.updEnd_log (s : State) : (State.updEnd s).log = s.log := by
  simp [State.updEnd]

@[simp] theorem State.updDisturbed_log (s : State) : (State.updDisturbed s).log = s.log := by
  simp [State.updDisturbed]

@[simp] theorem State.confirm_log (s : State) : (State.confirm s).log = s.log := by
  simp [State.confirm]

@[simp] theorem State.modNode_log (s : State) (n : Nat) (f : Nat → GroupRec → GroupRec) : (State.modNode s n f).log = s.log := by
  simp [State.modNode]

@[simp] theorem State.thmConvert_log (s : State) : (State.thmConvert s).log = s.log := by
  simp [State.thmConvert]

@[simp] theorem State.thmTake_log (s : State) (src : Nat) (mask : Nat) (x : ThmIn) : (State.thmTake s src mask x).log = s.log := by
  unfold State.thmTake
  split <;> simp

@[simp] theorem State.thmModel_log (s : State) (p : Nat) : (State.thmModel s p).log = s.log := by
  simp [State.thmModel]

@[simp] theorem State.thmPhase_log (s : State) (p : Nat) : (State.thmPhase s p).log = s.log := by
  simp [State.thmPhase]

@[simp] theorem State.thmGroup_log (s : State) (g : Nat) : (State.thmGroup s g).log = s.log := by
  simp [State.thmGroup]

@[simp] theorem State.degThermal_log (s : State) : (State.degThermal s).log = s.log := by
  simp [State.degThermal]

@[simp] theorem State.factors_log (s : State) : (State.factors s).log = s.log := by
  simp [State.factors]

@[simp] theorem State.degNet_log (s : State) : (State.degNet s).log = s.log := by
  simp [State.degNet]

@[simp] theorem State.pduMiss_log (s : State) : (State.pduMiss s).log = s.log := by
  simp [State.pduMiss]

@[simp] theorem State.clogAdd_log (s : State) (kind source index : Nat) (old new : Int) : (State.clogAdd s kind source index old new).log = s.log := by
  simp [State.clogAdd]

@[simp] theorem State.sagReset_log (s : State) (format : Nat) (fw : Nat) : (State.sagReset s format fw).log = s.log := by
  unfold State.sagReset
  dsimp only
  split
  · exact State.clogAdd_log ..
  · exact (State.clogAdd_log ..).trans (State.clogAdd_log ..)

@[simp] theorem State.pd0Restore_log (s : State) : (State.pd0Restore s).log = s.log := by
  simp [State.pd0Restore]

@[simp] theorem State.countLoad_log (s : State) : (State.countLoad s).log = s.log := by
  unfold State.countLoad
  repeat' split
  all_goals simp

@[simp] theorem State.tvLoad_log (s : State) : (State.tvLoad s).log = s.log := by
  simp [State.tvLoad]

@[simp] theorem State.domainUp_log (s : State) (d : Nat) : (State.domainUp s d).log = s.log := by
  simp [State.domainUp]

@[simp] theorem State.domainDown_log (s : State) (d : Nat) : (State.domainDown s d).log = s.log := by
  unfold State.domainDown
  split <;> simp

@[simp] theorem State.startLost_log (s : State) (n : Nat) : (State.startLost s n).log = s.log := by
  simp [State.startLost]

@[simp] theorem State.putPeriod_log (s : State) (v : Nat) : (State.putPeriod s v).log = s.log := by
  simp [State.putPeriod]

@[simp] theorem State.settingDone_log (s : State) (i : Nat) (v old : Int) : (State.settingDone s i v old).log = s.log := by
  simp [State.settingDone]

@[simp] theorem State.putSetting_log (s : State) (i : Nat) (v : Int) : (State.putSetting s i v).log = s.log := by
  unfold State.putSetting
  repeat' split
  all_goals simp

@[simp] theorem State.toDefault_log (s : State) (i : Nat) : (State.toDefault s i).log = s.log := by
  unfold State.toDefault
  split <;> simp

@[simp] theorem State.toNewFormat_log (s : State) (i : Nat) : (State.toNewFormat s i).log = s.log := by
  simp [State.toNewFormat]

@[simp] theorem State.loadNewFormat_log (s : State) : (State.loadNewFormat s).log = s.log := by
  simp [State.loadNewFormat]

@[simp] theorem State.formatStep_log (s : State) : (State.formatStep s).log = s.log := by
  simp [State.formatStep]

@[simp] theorem State.loginState_log (s : State) : (State.loginState s).log = s.log := by
  simp [State.loginState]

@[simp] theorem State.stopDone_log (s : State) : (State.stopDone s).log = s.log := by
  simp [State.stopDone]

@[simp] theorem State.answerWait_log (s : State) (c : Nat) (r : Reply) : (State.answerWait s c r).log = s.log := by
  unfold State.answerWait
  exact State.log_foldl _ _ _ (fun t x => by split <;> simp)

@[simp] theorem State.done_log (s : State) (c code tag rc detail : Nat) (data : List Byte) : (State.done s c code tag rc detail data).log = s.log := by
  simp [State.done]

@[simp] theorem State.reply_log (s : State) (c : Nat) (rc : Nat) (detail : Nat) (data : List Byte) : (State.reply s c rc detail data).log = s.log := by
  unfold State.reply
  split <;> simp

@[simp] theorem State.atTime_log (s : State) (t : BitVec 32) : (State.atTime s t).log = s.log := by
  simp [State.atTime]

@[simp] theorem State.capWrite_log (s : State) (cap g : Nat) : (State.capWrite s cap g).log = s.log := by
  simp [State.capWrite]

@[simp] theorem State.heldBusy_log (s : State) (p : Chan → Bool) : (State.heldBusy s p).log = s.log := by
  simp [State.heldBusy]

end Sys2Proof.Machine

/-! What leaves the spyhole as it is. -/

namespace Sys2Proof.Machine

/-- A fold of updates that keep the field keeps it. -/
@[simp] theorem State.spy_foldl {β : Type} (f : State → β → State) (l : List β) (s : State) (h : ∀ t x, (f t x).spy = t.spy) :
    (l.foldl f s).spy = s.spy := by
  induction l generalizing s with
  | nil => rfl
  | cons x l ih => rw [List.foldl_cons, ih, h]

/-- The field of a choice of states. -/
@[simp] theorem State.spy_ite (c : Prop) [Decidable c] (a b : State) : (if c then a else b).spy = if c then a.spy else b.spy := by
  split <;> rfl

/-- The field of a choice of states beside a value. -/
@[simp] theorem State.spy_itep {α : Type} (c : Prop) [Decidable c] (a b : State × α) :
    (if c then a else b).1.spy = if c then a.1.spy else b.1.spy := by
  split <;> rfl

@[simp] theorem State.logPost_spy (s : State) (src code sev : Nat) (data : List Nat) : (State.logPost s src code sev data).spy = s.spy := by
  simp [State.logPost]

@[simp] theorem State.sendFrom_spy (s : State) (p : PortId) (addr udp : Nat) (b : List Byte) : (State.sendFrom s p addr udp b).spy = s.spy := by
  simp [State.sendFrom]

@[simp] theorem State.sendAttn_spy (s : State) (x : Session) (m : Attn) (p : PortId) (again : Bool) : (State.sendAttn s x m p again).spy = s.spy := by
  simp [State.sendAttn]

@[simp] theorem State.lostNote_spy (s : State) (i : Nat) : (State.lostNote s i).spy = s.spy := by
  unfold State.lostNote
  split <;> simp

@[simp] theorem State.attnTo_spy (s : State) (m : Attn) (i : Nat) : (State.attnTo s m i).spy = s.spy := by
  unfold State.attnTo
  split <;> simp

@[simp] theorem State.attn_spy (s : State) (code sev : Nat) (data : List Nat) : (State.attn s code sev data).spy = s.spy := by
  simp [State.attn]

@[simp] theorem State.announce_spy (s : State) : (State.announce s).spy = s.spy := by
  simp [State.announce]

@[simp] theorem State.clearSetpoints_spy (s : State) : (State.clearSetpoints s).spy = s.spy := by
  simp [State.clearSetpoints]

@[simp] theorem State.syncMode_spy (s : State) : (State.syncMode s).spy = s.spy := by
  simp [State.syncMode]

@[simp] theorem State.leaveSetpoints_spy (s : State) : (State.leaveSetpoints s).spy = s.spy := by
  simp [State.leaveSetpoints]

@[simp] theorem State.outputsRest_spy (s : State) : (State.outputsRest s).spy = s.spy := by
  unfold State.outputsRest
  split <;> simp

@[simp] theorem State.enter_spy (s : State) (st b : OpState) : (State.enter s st b).spy = s.spy := by
  simp [State.enter]

@[simp] theorem State.coilService1_spy (s : State) (k : Nat) : (State.coilService1 s k).spy = s.spy := by
  simp [State.coilService1]

@[simp] theorem State.coilService_spy (s : State) : (State.coilService s).spy = s.spy := by
  simp [State.coilService]

@[simp] theorem State.pairSend_spy (s : State) (kind : Nat) (body : List Byte) : (State.pairSend s kind body).spy = s.spy := by
  simp [State.pairSend]

@[simp] theorem State.swapSend_spy (s : State) (sub b : Nat) : (State.swapSend s sub b).spy = s.spy := by
  simp [State.swapSend]

@[simp] theorem State.sendStatus_spy (s : State) : (State.sendStatus s).spy = s.spy := by
  simp [State.sendStatus]

@[simp] theorem State.dropOutputs_spy (s : State) : (State.dropOutputs s).spy = s.spy := by
  simp [State.dropOutputs]

@[simp] theorem State.swapAbandon_spy (s : State) : (State.swapAbandon s).spy = s.spy := by
  unfold State.swapAbandon
  split <;> simp

@[simp] theorem State.isolate_spy (s : State) (c : Nat) : (State.isolate s c).spy = s.spy := by
  simp [State.isolate]

@[simp] theorem State.degPhase_spy (s : State) : (State.degPhase s).spy = s.spy := by
  simp [State.degPhase]

@[simp] theorem State.phaseFault_spy (s : State) (p c : Nat) : (State.phaseFault s p c).spy = s.spy := by
  simp [State.phaseFault]

@[simp] theorem State.requestSwap_spy (s : State) : (State.requestSwap s).spy = s.spy := by
  simp [State.requestSwap]

@[simp] theorem State.abandonTrk_spy (s : State) (kind sev : Nat) : (State.abandonTrk s kind sev).spy = s.spy := by
  simp [State.abandonTrk]

@[simp] theorem State.applyOuter_spy (s : State) : (State.applyOuter s).spy = s.spy := by
  simp [State.applyOuter]

@[simp] theorem State.takeCmd_spy (s0 : State) (c : SetCmd) : (State.takeCmd s0 c).spy = s0.spy := by
  simp [State.takeCmd]

@[simp] theorem State.intake_spy (s : State) (now : Nat) : (State.intake s now).spy = s.spy := by
  simp [State.intake]

@[simp] theorem State.limits_spy (s : State) (dt : Rat) : (State.limits s dt).spy = s.spy := by
  simp [State.limits]

@[simp] theorem State.probeSuspend_spy (s : State) : (State.probeSuspend s).spy = s.spy := by
  simp [State.probeSuspend]

@[simp] theorem State.applyClamp_spy (s : State) (q : Rat) (dtNs : Nat) : (State.applyClamp s q dtNs).1.spy = s.spy := by
  simp [State.applyClamp]

@[simp] theorem State.holdTones_spy (s : State) : (State.holdTones s).spy = s.spy := by
  simp [State.holdTones]

@[simp] theorem State.outerLoop_spy (s : State) (q : Rat) (dtNs : Nat) : (State.outerLoop s q dtNs).spy = s.spy := by
  simp [State.outerLoop]

@[simp] theorem State.startMode_spy (s : State) (m : Nat) : (State.startMode s m).spy = s.spy := by
  simp [State.startMode]

@[simp] theorem State.modeChange_spy (s : State) : (State.modeChange s).spy = s.spy := by
  simp [State.modeChange]

@[simp] theorem State.droopStep_spy (s : State) : (State.droopStep s).spy = s.spy := by
  simp [State.droopStep]

@[simp] theorem State.droop_spy (s : State) : (State.droop s).spy = s.spy := by
  simp [State.droop]

@[simp] theorem State.trackTick_spy (s : State) (dt : Rat) : (State.trackTick s dt).spy = s.spy := by
  simp [State.trackTick]

@[simp] theorem State.holdTick_spy (s0 : State) (dt : Rat) : (State.holdTick s0 dt).spy = s0.spy := by
  simp [State.holdTick]

@[simp] theorem State.setRef_spy (s : State) (q : Rat) (dtNs : Nat) : (State.setRef s q dtNs).spy = s.spy := by
  simp [State.setRef]

@[simp] theorem State.linkRef_spy (s : State) (dtNs : Nat) : (State.linkRef s dtNs).spy = s.spy := by
  simp [State.linkRef]

@[simp] theorem State.calRampTick_spy (s : State) (dtNs : Nat) (dt : Rat) : (State.calRampTick s dtNs dt).spy = s.spy := by
  simp [State.calRampTick]

@[simp] theorem State.dispatchEval_spy (s : State) (now dtNs : Nat) (dt : Rat) : (State.dispatchEval s now dtNs dt).spy = s.spy := by
  simp [State.dispatchEval]

@[simp] theorem State.stopEval_spy (s : State) (now dtNs : Nat) (dt : Rat) : (State.stopEval s now dtNs dt).spy = s.spy := by
  simp [State.stopEval]

@[simp] theorem State.outerEval_spy (s : State) (now : Nat) (dtNs : Nat) : (State.outerEval s now dtNs).spy = s.spy := by
  unfold State.outerEval
  dsimp only
  repeat' split
  all_goals simp

@[simp] theorem State.observe_spy (s : State) (p : Nat) (m : EvalIn) (ma : Int) : (State.observe s p m ma).spy = s.spy := by
  simp [State.observe]

@[simp] theorem State.evalWrites_spy (s : State) (p : Nat) (m : EvalIn) : (State.evalWrites s p m).spy = s.spy := by
  simp [State.evalWrites]

@[simp] theorem State.announced_spy (s : State) (m : EntryIn) : (State.announced s m).spy = s.spy := by
  simp [State.announced]

@[simp] theorem State.applyBank_spy (s : State) : (State.applyBank s).spy = s.spy := by
  simp [State.applyBank]

@[simp] theorem State.queueCmd_spy (s : State) (n cmd : Nat) (params : List Nat) (chan : Option Nat) : (State.queueCmd s n cmd params chan).spy = s.spy := by
  simp [State.queueCmd]

@[simp] theorem State.updEnd_spy (s : State) : (State.updEnd s).spy = s.spy := by
  simp [State.updEnd]

@[simp] theorem State.updDisturbed_spy (s : State) : (State.updDisturbed s).spy = s.spy := by
  simp [State.updDisturbed]

@[simp] theorem State.confirm_spy (s : State) : (State.confirm s).spy = s.spy := by
  simp [State.confirm]

@[simp] theorem State.reportDrops_spy (s : State) : (State.reportDrops s).spy = s.spy := by
  unfold State.reportDrops
  repeat' split
  all_goals simp

@[simp] theorem State.logWriteOne_spy (s : State) : (State.logWriteOne s).spy = s.spy := by
  unfold State.logWriteOne
  dsimp only
  split <;> simp

@[simp] theorem State.logDrain_spy (s : State) : (State.logDrain s).spy = s.spy := by
  simp [State.logDrain]

@[simp] theorem State.nvmBad_spy (s : State) (a : Nat) : (State.nvmBad s a).spy = s.spy := by
  simp [State.nvmBad]

@[simp] theorem State.pd0Backup_spy (s : State) : (State.pd0Backup s).spy = s.spy := by
  simp [State.pd0Backup]

@[simp] theorem State.loadTones_spy (s : State) : (State.loadTones s).spy = s.spy := by
  simp [State.loadTones]

@[simp] theorem State.queueLimits_spy (s : State) (n : Nat) : (State.queueLimits s n).spy = s.spy := by
  simp [State.queueLimits]

@[simp] theorem State.logUncounted_spy (s : State) (qint : Int) : (State.logUncounted s qint).spy = s.spy := by
  simp [State.logUncounted]

@[simp] theorem State.modNode_spy (s : State) (n : Nat) (f : Nat → GroupRec → GroupRec) : (State.modNode s n f).spy = s.spy := by
  simp [State.modNode]

@[simp] theorem State.thmConvert_spy (s : State) : (State.thmConvert s).spy = s.spy := by
  simp [State.thmConvert]

@[simp] theorem State.thmTake_spy (s : State) (src : Nat) (mask : Nat) (x : ThmIn) : (State.thmTake s src mask x).spy = s.spy := by
  unfold State.thmTake
  split <;> simp

@[simp] theorem State.thmModel_spy (s : State) (p : Nat) : (State.thmModel s p).spy = s.spy := by
  simp [State.thmModel]

@[simp] theorem State.thmPhase_spy (s : State) (p : Nat) : (State.thmPhase s p).spy = s.spy := by
  simp [State.thmPhase]

@[simp] theorem State.thmGroup_spy (s : State) (g : Nat) : (State.thmGroup s g).spy = s.spy := by
  simp [State.thmGroup]

@[simp] theorem State.degThermal_spy (s : State) : (State.degThermal s).spy = s.spy := by
  simp [State.degThermal]

@[simp] theorem State.factors_spy (s : State) : (State.factors s).spy = s.spy := by
  simp [State.factors]

@[simp] theorem State.thmHot_spy (s : State) : (State.thmHot s).spy = s.spy := by
  simp [State.thmHot]

@[simp] theorem State.alignStat_spy (s : State) : (State.alignStat s).spy = s.spy := by
  simp [State.alignStat]

@[simp] theorem State.ceFrameStart_spy (s : State) : (State.ceFrameStart s).spy = s.spy := by
  simp [State.ceFrameStart]

@[simp] theorem State.loadBoot_spy (s : State) : (State.loadBoot s).spy = s.spy := by
  simp [State.loadBoot]

@[simp] theorem State.bootReselect_spy (s : State) : (State.bootReselect s).spy = s.spy := by
  simp [State.bootReselect]

@[simp] theorem State.sagIsolate_spy (s : State) (c : Nat) : (State.sagIsolate s c).spy = s.spy := by
  simp [State.sagIsolate]

@[simp] theorem State.diag_spy (s : State) (k : Nat) (bad : Bool) : (State.diag s k bad).spy = s.spy := by
  simp [State.diag]

@[simp] theorem State.diagFail_spy (s : State) (k : Nat) : (State.diagFail s k).spy = s.spy := by
  simp [State.diagFail]

@[simp] theorem State.diagHard_spy (s : State) : (State.diagHard s).spy = s.spy := by
  simp [State.diagHard]

@[simp] theorem State.degSession_spy (s : State) : (State.degSession s).spy = s.spy := by
  simp [State.degSession]

@[simp] theorem State.degNet_spy (s : State) : (State.degNet s).spy = s.spy := by
  simp [State.degNet]

@[simp] theorem State.pduMiss_spy (s : State) : (State.pduMiss s).spy = s.spy := by
  simp [State.pduMiss]

@[simp] theorem State.clogAdd_spy (s : State) (kind source index : Nat) (old new : Int) : (State.clogAdd s kind source index old new).spy = s.spy := by
  simp [State.clogAdd]

@[simp] theorem State.cfgCommit_spy (s : State) (source : Nat) : (State.cfgCommit s source).spy = s.spy := by
  simp [State.cfgCommit]

@[simp] theorem State.cfgEnd_spy (s : State) : (State.cfgEnd s).spy = s.spy := by
  unfold State.cfgEnd
  split <;> simp

@[simp] theorem State.sagReset_spy (s : State) (format : Nat) (fw : Nat) : (State.sagReset s format fw).spy = s.spy := by
  unfold State.sagReset
  dsimp only
  split
  · exact State.clogAdd_spy ..
  · exact (State.clogAdd_spy ..).trans (State.clogAdd_spy ..)

@[simp] theorem State.settingsLoad_spy (s : State) : (State.settingsLoad s).spy = s.spy := by
  unfold State.settingsLoad
  split <;> simp

@[simp] theorem State.capLoad_spy (s : State) : (State.capLoad s).spy = s.spy := by
  unfold State.capLoad
  split <;> simp

@[simp] theorem State.countLoad_spy (s : State) : (State.countLoad s).spy = s.spy := by
  unfold State.countLoad
  repeat' split
  all_goals simp

@[simp] theorem State.sagLoad_spy (s : State) : (State.sagLoad s).spy = s.spy := by
  unfold State.sagLoad
  split <;> simp

@[simp] theorem State.tvLoad_spy (s : State) : (State.tvLoad s).spy = s.spy := by
  simp [State.tvLoad]

@[simp] theorem State.bootLoad_spy (s : State) : (State.bootLoad s).spy = s.spy := by
  simp [State.bootLoad]

@[simp] theorem State.bootRevert_spy (s : State) : (State.bootRevert s).spy = s.spy := by
  simp [State.bootRevert]

@[simp] theorem State.bootConfirm_spy (s : State) : (State.bootConfirm s).spy = s.spy := by
  simp [State.bootConfirm]

@[simp] theorem State.domainUp_spy (s : State) (d : Nat) : (State.domainUp s d).spy = s.spy := by
  simp [State.domainUp]

@[simp] theorem State.domainDown_spy (s : State) (d : Nat) : (State.domainDown s d).spy = s.spy := by
  unfold State.domainDown
  split <;> simp

@[simp] theorem State.isolateAll_spy (s : State) (l : List Nat) : (State.isolateAll s l).spy = s.spy := by
  unfold State.isolateAll
  split <;> simp

@[simp] theorem State.logItem_spy (s : State) (detail : Nat) (i : TestItem) : (State.logItem s detail i).spy = s.spy := by
  simp [State.logItem]

@[simp] theorem State.testResults_spy (s : State) (r : SelfTest) : (State.testResults s r).spy = s.spy := by
  simp [State.testResults]

@[simp] theorem State.startLost_spy (s : State) (n : Nat) : (State.startLost s n).spy = s.spy := by
  simp [State.startLost]

@[simp] theorem State.boCommit_spy (s : State) : (State.boCommit s).spy = s.spy := by
  simp [State.boCommit]

@[simp] theorem State.pairFault_spy (s : State) (kind : Nat) : (State.pairFault s kind).spy = s.spy := by
  simp [State.pairFault]

@[simp] theorem State.clashCheck_spy (s : State) (h : Partner) (higher : Bool) : (State.clashCheck s h higher).spy = s.spy := by
  simp [State.clashCheck]

@[simp] theorem State.putPeriod_spy (s : State) (v : Nat) : (State.putPeriod s v).spy = s.spy := by
  simp [State.putPeriod]

@[simp] theorem State.settingDone_spy (s : State) (i : Nat) (v old : Int) : (State.settingDone s i v old).spy = s.spy := by
  simp [State.settingDone]

@[simp] theorem State.putSetting_spy (s : State) (i : Nat) (v : Int) : (State.putSetting s i v).spy = s.spy := by
  unfold State.putSetting
  repeat' split
  all_goals simp

@[simp] theorem State.toDefault_spy (s : State) (i : Nat) : (State.toDefault s i).spy = s.spy := by
  unfold State.toDefault
  split <;> simp

@[simp] theorem State.toNewFormat_spy (s : State) (i : Nat) : (State.toNewFormat s i).spy = s.spy := by
  simp [State.toNewFormat]

@[simp] theorem State.loadNewFormat_spy (s : State) : (State.loadNewFormat s).spy = s.spy := by
  simp [State.loadNewFormat]

@[simp] theorem State.formatStep_spy (s : State) : (State.formatStep s).spy = s.spy := by
  simp [State.formatStep]

@[simp] theorem State.loginState_spy (s : State) : (State.loginState s).spy = s.spy := by
  simp [State.loginState]

@[simp] theorem State.stopDone_spy (s : State) : (State.stopDone s).spy = s.spy := by
  simp [State.stopDone]

@[simp] theorem State.toMaintenance_spy (s : State) : (State.toMaintenance s).spy = s.spy := by
  simp [State.toMaintenance]

@[simp] theorem State.answerWait_spy (s : State) (c : Nat) (r : Reply) : (State.answerWait s c r).spy = s.spy := by
  unfold State.answerWait
  exact State.spy_foldl _ _ _ (fun t x => by split <;> simp)

@[simp] theorem State.atTime_spy (s : State) (t : BitVec 32) : (State.atTime s t).spy = s.spy := by
  simp [State.atTime]

@[simp] theorem State.capWrite_spy (s : State) (cap g : Nat) : (State.capWrite s cap g).spy = s.spy := by
  simp [State.capWrite]

end Sys2Proof.Machine

namespace Sys2Proof.Machine

/-- Every next state of the outcome has the property. -/
def Out.All (o : Out) (P : State → Prop) : Prop := ∀ t, o = .next t → P t

section Gates
variable {P : State → Prop}

@[simp] theorem Out.all_next (t : State) : Out.All (.next t) P ↔ P t :=
  ⟨fun h => h t rfl, fun h _ e => by cases e; exact h⟩

@[simp] theorem Out.all_fault (k : Fault) : Out.All (.fault k) P := fun _ e => by cases e

end Gates

/-- What is kept of the latch and of the coil paths: under L the latch is set, under S no coil path is on while it is. -/
def SagKept (L S : Prop) (latch : Bool) (coil : List Bool) : Prop :=
  (L → latch = true) ∧ (S → latch = true → coil = [false, false, false, false])

/-- What is kept of a byte memory: under M its canonical form. -/
def MemKept (M : Prop) (m : Mem) : Prop := M → memWf m = true

/-- What is kept of the mailbox buffers: under M their canonical form. -/
def ChKept (M : Prop) (ch : List Chan) : Prop := ∀ x ∈ ch, MemKept M x.reqBuf ∧ MemKept M x.repBuf

/-- The latch (under L), the coil paths (under S) and the byte memories (under M) are as the invariants want them. -/
def State.Kept (L S M : Prop) (s : State) : Prop :=
  SagKept L S s.sag.latch s.sag.coil ∧ MemKept M s.fsq.bank0 ∧ MemKept M s.fsq.bank1 ∧ ChKept M s.mbx.ch

section
variable {L S M : Prop}

/-! The latch and the coil paths. -/

@[simp] theorem SagKept.coilsOff {l : Bool} (h : L → l = true) : SagKept L S l [false, false, false, false] := ⟨h, fun _ _ => rfl⟩

@[simp] theorem SagKept.setFalse {l : Bool} {c : List Bool} (h : SagKept L S l c) (k : Nat) : SagKept L S l (c.set k false) := by
  refine ⟨h.1, fun hs hl => ?_⟩
  rw [h.2 hs hl]
  rcases k with _ | _ | _ | _ | k <;> rfl

@[simp] theorem State.dropOutputs_sag_coil (s : State) : s.dropOutputs.sag.coil = [false, false, false, false] := rfl

@[simp] theorem State.isolate_sagKept {s : State} (h : SagKept L S s.sag.latch s.sag.coil) (c : Nat) :
    SagKept L S (s.isolate c).sag.latch (s.isolate c).sag.coil := by
  cases hl : s.sag.latch with
  | true => simpa [State.isolate_sag_of_latch_set hl, Sag.addCause] using h
  | false => simp [State.isolate, hl]

@[simp] theorem State.sagIsolate_sagKept {s : State} (h : SagKept L S s.sag.latch s.sag.coil) (c : Nat) :
    SagKept L S (s.sagIsolate c).sag.latch (s.sagIsolate c).sag.coil := by
  unfold State.sagIsolate
  split <;> simp [h]

/-- R338: the service of one coil path switches none on while the latch is set. -/
@[simp] theorem State.coilService1_coilKept {s : State} {l : Bool} (h : SagKept L S l s.sag.coil) (hl : s.sag.latch = l) (k : Nat) :
    SagKept L S l (s.coilService1 k).sag.coil := by
  refine ⟨h.1, fun hs h1 => ?_⟩
  have hc := h.2 hs h1
  have off : nth s.sag.coil k false = false := by
    rw [hc]
    rcases k with _ | _ | _ | _ | k <;> rfl
  have stays : s.coilService1 k = s := by simp [State.coilService1, State.coAllowed, hl, h1, off]
  rw [stays, hc]

@[simp] theorem State.coilService_coilKept {s : State} {l : Bool} (h : SagKept L S l s.sag.coil) (hl : s.sag.latch = l) :
    SagKept L S l s.coilService.sag.coil := by
  have two : SagKept L S l ((s.coilService1 1).coilService1 0).sag.coil := by simp [h, hl]
  simp [State.coilService, two, hl]

@[simp] theorem State.abandonTrk_coilKept {s : State} {l : Bool} (h : SagKept L S l s.sag.coil) (hl : s.sag.latch = l) (k v : Nat) :
    SagKept L S l (s.abandonTrk k v).sag.coil := by
  simp [State.abandonTrk, h, hl]

@[simp] theorem State.dropCo3_coilKept {s : State} {l : Bool} (h : SagKept L S l s.sag.coil) (hl : s.sag.latch = l) :
    SagKept L S l s.dropCo3.sag.coil := by
  simp [State.dropCo3, h, hl]

@[simp] theorem State.outerEval_coilKept {s : State} {l : Bool} (h : SagKept L S l s.sag.coil) (hl : s.sag.latch = l) (now dt : Nat) :
    SagKept L S l (s.outerEval now dt).sag.coil := by
  unfold State.outerEval
  dsimp only
  repeat' split
  all_goals simp [h, hl]

@[simp] theorem State.boRamp_coilKept {s : State} {l : Bool} (h : SagKept L S l s.sag.coil) (hl : s.sag.latch = l) :
    SagKept L S l s.boRamp.sag.coil := by
  unfold State.boRamp
  dsimp only
  repeat' split
  all_goals simp [h, hl]

@[simp] theorem State.heartbeat_coilKept {s : State} {l : Bool} (h : SagKept L S l s.sag.coil) (hl : s.sag.latch = l) (p : Partner) (b : Bool) :
    SagKept L S l (s.heartbeat p b).sag.coil := by
  unfold State.heartbeat
  dsimp only
  repeat' split
  all_goals simp [h, hl]

@[simp] theorem State.swapFailed_coilKept {s : State} {l : Bool} (h : SagKept L S l s.sag.coil) (hl : s.sag.latch = l) :
    SagKept L S l s.swapFailed.sag.coil := by
  unfold State.swapFailed
  split <;> simp [h, hl]

@[simp] theorem State.writePermit_coilKept {s : State} {l : Bool} (h : SagKept L S l s.sag.coil) (hl : s.sag.latch = l) (w : Nat) :
    SagKept L S l (s.writePermit w).sag.coil := by
  simp [State.writePermit, h, hl]

@[simp] theorem State.toPrecharge_coilKept {s : State} {l : Bool} (h : SagKept L S l s.sag.coil) (hl : s.sag.latch = l) :
    SagKept L S l s.toPrecharge.sag.coil := by
  simp [State.toPrecharge, h, hl]

@[simp] theorem State.openStart_coilKept {s : State} {l : Bool} (h : SagKept L S l s.sag.coil) (hl : s.sag.latch = l) :
    SagKept L S l s.openStart.sag.coil := by
  unfold State.openStart
  dsimp only
  repeat' split
  all_goals simp [h, hl]

/-! What isolates. -/

@[simp] theorem State.diagFail_sagKept {s : State} (h : SagKept L S s.sag.latch s.sag.coil) (k : Nat) :
    SagKept L S (s.diagFail k).sag.latch (s.diagFail k).sag.coil := by
  unfold State.diagFail
  split <;> simp [h]

@[simp] theorem State.diagHard_sagKept {s : State} (h : SagKept L S s.sag.latch s.sag.coil) :
    SagKept L S s.diagHard.sag.latch s.diagHard.sag.coil := by
  simp [State.diagHard, h]

@[simp] theorem State.coilTestFail_sagKept {s : State} (h : SagKept L S s.sag.latch s.sag.coil) (k : Nat) :
    SagKept L S (s.coilTestFail k).sag.latch (s.coilTestFail k).sag.coil := by
  simp [State.coilTestFail, h]

@[simp] theorem State.pduAct_sagKept {s : State} (h : SagKept L S s.sag.latch s.sag.coil) (p : PortId) (b : List Byte) :
    SagKept L S (s.pduAct p b).sag.latch (s.pduAct p b).sag.coil := by
  unfold State.pduAct
  dsimp only
  repeat' split
  all_goals simp [Sag.clears, h]

@[simp] theorem State.pduSecond_sagKept {s : State} (h : SagKept L S s.sag.latch s.sag.coil) (b : List Byte) :
    SagKept L S (s.pduSecond b).sag.latch (s.pduSecond b).sag.coil := by
  unfold State.pduSecond
  dsimp only
  repeat' split
  all_goals simp [Sag.clears, h]

@[simp] theorem State.pduCopy_sagKept {s : State} (h : SagKept L S s.sag.latch s.sag.coil) (p : PortId) (b : List Byte) (n : Net) :
    SagKept L S (s.pduCopy p b n).sag.latch (s.pduCopy p b n).sag.coil := by
  unfold State.pduCopy
  dsimp only
  repeat' split
  all_goals simp [h]

@[simp] theorem State.isolateAll_sagKept {s : State} (h : SagKept L S s.sag.latch s.sag.coil) (l : List Nat) :
    SagKept L S (s.isolateAll l).sag.latch (s.isolateAll l).sag.coil := by
  unfold State.isolateAll
  split
  · simp [h]
  · exact List.foldlRecOn (motive := fun t : State => SagKept L S t.sag.latch t.sag.coil) _ _ (State.isolate_sagKept h _)
      (fun _ g _ _ => State.isolate_sagKept g _)

@[simp] theorem State.raise_sagKept {s : State} (h : SagKept L S s.sag.latch s.sag.coil) (c : Nat) :
    SagKept L S (s.raise c).sag.latch (s.raise c).sag.coil := by
  unfold State.raise
  split <;> simp [h]

@[simp] theorem State.foldl_raise_sagKept {s : State} (h : SagKept L S s.sag.latch s.sag.coil) (l : List Nat) :
    SagKept L S (l.foldl State.raise s).sag.latch (l.foldl State.raise s).sag.coil :=
  List.foldlRecOn (motive := fun t : State => SagKept L S t.sag.latch t.sag.coil) _ _ h (fun _ g _ _ => State.raise_sagKept g _)

@[simp] theorem State.sf4_sagKept {s : State} (h : SagKept L S s.sag.latch s.sag.coil) : SagKept L S s.sf4.sag.latch s.sf4.sag.coil := by
  unfold State.sf4
  dsimp only
  repeat' split
  all_goals simp [h]

@[simp] theorem State.tickDiag_sagKept {s : State} (h : SagKept L S s.sag.latch s.sag.coil) (k : Nat) (b : Bool) :
    SagKept L S (s.tickDiag k b).sag.latch (s.tickDiag k b).sag.coil := by
  unfold State.tickDiag
  repeat' split
  all_goals simp [h]

theorem State.cycleDiag_sagKept {s : State} (h : SagKept L S s.sag.latch s.sag.coil) (far : Nat × Nat) :
    SagKept L S (s.cycleDiag far).sag.latch (s.cycleDiag far).sag.coil :=
  State.tickDiag_sagKept (State.tickDiag_sagKept (s := s.diag 0 false) h _ _) _ _

@[simp] theorem State.protect_sagKept {s : State} (h : SagKept L S s.sag.latch s.sag.coil) (m : TickIn) :
    SagKept L S (s.protect m).sag.latch (s.protect m).sag.coil := by
  cases hl : s.sagLive with
  | false =>
    have e : s.protect m = _ := if_pos (show (!s.sagLive) = true by simp [hl])
    rw [e]
    exact h
  | true =>
    cases hm : m.cycleOk with
    | false =>
      have e : s.protect m = _ := (if_neg (show ¬ (!s.sagLive) = true by simp [hl])).trans (if_pos (show (!m.cycleOk) = true by simp [hm]))
      rw [e]
      exact h
    | true =>
      rw [State.protect_of_cycleOk hl hm]
      have h0 : SagKept L S (s.cycleStart m).sag.latch (s.cycleStart m).sag.coil := h
      exact State.sf4_sagKept (State.foldl_raise_sagKept (State.cycleDiag_sagKept (State.foldl_raise_sagKept h0 _) _) _)

@[simp] theorem State.tickWork_sagKept {s : State} (h : SagKept L S s.sag.latch s.sag.coil) (m : TickIn) :
    SagKept L S (s.tickWork m).sag.latch (s.tickWork m).sag.coil := by
  unfold State.tickWork
  dsimp only
  split <;> simp [h]

@[simp] theorem State.sagLoad_sagKept {s : State} (h : SagKept L S s.sag.latch s.sag.coil) : SagKept L S s.sagLoad.sag.latch s.sagLoad.sag.coil := by
  unfold State.sagLoad
  split <;> simp [h]

@[simp] theorem State.bootLoad_sagKept {s : State} (h : SagKept L S s.sag.latch s.sag.coil) :
    SagKept L S s.bootLoad.sag.latch s.bootLoad.sag.coil := by
  unfold State.bootLoad
  dsimp only
  split <;> simp [h]

@[simp] theorem State.selftestAct_sagKept {s : State} (h : SagKept L S s.sag.latch s.sag.coil) (r : SelfTest) :
    SagKept L S (s.selftestAct r).sag.latch (s.selftestAct r).sag.coil := by
  unfold State.selftestAct
  dsimp only
  split <;> simp [Sag.clears, h]

/-! Resets keep the latch and leave every path off. -/

theorem SagKept.reset {l : Bool} {c : List Bool} (h : SagKept L S l c) : SagKept L S l [false, false, false, false] := ⟨h.1, fun _ _ => rfl⟩

@[simp] theorem State.resetBlocks_sagKept {s : State} (h : SagKept L S s.sag.latch s.sag.coil) (c : Nat) :
    SagKept L S (s.resetBlocks c).sag.latch (s.resetBlocks c).sag.coil := h.reset

@[simp] theorem State.powerOn_sagKept {s : State} (h : SagKept L S s.sag.latch s.sag.coil) :
    SagKept L S s.powerOn.sag.latch s.powerOn.sag.coil := by
  simp [State.powerOn, h]

@[simp] theorem State.moduleReset_sagKept {s : State} (h : SagKept L S s.sag.latch s.sag.coil) (c : Nat) :
    SagKept L S (s.moduleReset c).sag.latch (s.moduleReset c).sag.coil := by
  unfold State.moduleReset
  dsimp only
  split <;> simp [h]

@[simp] theorem State.sagReset_sagKept {s : State} (h : SagKept L S s.sag.latch s.sag.coil) (f w : Nat) :
    SagKept L S (s.sagReset f w).sag.latch (s.sagReset f w).sag.coil := by
  unfold State.sagReset
  extract_lets
  split <;> exact h.reset

@[simp] theorem State.confirm_sag (s : State) : s.confirm.sag = s.sag := rfl

@[simp] theorem State.nvmBad_sag_latch (s : State) (a : Nat) : (s.nvmBad a).sag.latch = s.sag.latch := by
  simp [State.nvmBad]

@[simp] theorem State.nvmBad_sag_coil (s : State) (a : Nat) : (s.nvmBad a).sag.coil = s.sag.coil := by
  simp [State.nvmBad]

@[simp] theorem State.nvmUncorrectable_sag_latch (s : State) (a : Nat) : (s.nvmUncorrectable a).sag.latch = s.sag.latch := by
  simp [State.nvmUncorrectable]

@[simp] theorem State.nvmUncorrectable_sag_coil (s : State) (a : Nat) : (s.nvmUncorrectable a).sag.coil = s.sag.coil := by
  simp [State.nvmUncorrectable]

@[simp] theorem State.bootConfirm_sag (s : State) : s.bootConfirm.sag = s.sag := by
  unfold State.bootConfirm
  split <;> rfl

@[simp] theorem State.newReady_sag_latch (s : State) : s.newReady.sag.latch = s.sag.latch := by
  simp [State.newReady]

@[simp] theorem State.readReg_sag (s : State) (c : Bool) (a : Nat) : (s.readReg c a).2.sag = s.sag := by
  unfold State.readReg
  dsimp only
  repeat' split
  all_goals simp

@[simp] theorem State.readRegs_sag (s : State) (c : Bool) (a n : Nat) : (s.readRegs c a n).2.sag = s.sag := by
  induction n generalizing s a with
  | zero => rfl
  | succ n ih => simp [State.readRegs, ih]

/-! The byte memories. -/

@[simp] theorem MemKept.nil : MemKept M [] := fun _ => rfl

@[simp] theorem MemKept.put {m : Mem} (h : MemKept M m) (a : Nat) (l : List Byte) : MemKept M (memPutL m a l) := fun hm => memPutL_wf a l (h hm)

@[simp] theorem Fsq.bankPut_bank0Kept {f : Fsq} (h : MemKept M f.bank0) (b o : Nat) (l : List Byte) : MemKept M (f.bankPut b o l).bank0 := by
  unfold Fsq.bankPut
  repeat' split
  all_goals simp [h]

@[simp] theorem Fsq.bankPut_bank1Kept {f : Fsq} (h : MemKept M f.bank1) (b o : Nat) (l : List Byte) : MemKept M (f.bankPut b o l).bank1 := by
  unfold Fsq.bankPut
  repeat' split
  all_goals simp [h]

/-- An image is laid into a bank of 0 (R94). -/
@[simp] theorem MemKept.imageBank (l : List Nat) : MemKept M (imageBank l) := by
  unfold Machine.imageBank
  simp

@[simp] theorem State.loadBoot_bank0Kept (s : State) : MemKept M s.loadBoot.fsq.bank0 := by
  simp [State.loadBoot]

@[simp] theorem State.startFsq_bank0Kept (s : State) : MemKept M s.startFsq.fsq.bank0 := by
  simp [State.startFsq]

@[simp] theorem State.bootReselect_bank0Kept {s : State} (h : MemKept M s.fsq.bank0) : MemKept M s.bootReselect.fsq.bank0 := by
  unfold State.bootReselect
  split <;> simp [h]

@[simp] theorem State.allReady_bank0Kept {s : State} (h : MemKept M s.fsq.bank0) : MemKept M s.allReady.fsq.bank0 := by
  unfold State.allReady
  split <;> simp [h]

@[simp] theorem State.switchDomain_bank0Kept {s : State} (h : MemKept M s.fsq.bank0) (d : Nat) (on : Bool) :
    MemKept M (s.switchDomain d on).fsq.bank0 := by
  unfold State.switchDomain
  dsimp only
  repeat' split
  all_goals simp [h]

@[simp] theorem State.loadShadow_bank0Kept {s : State} (h : MemKept M s.fsq.bank0) (k : Nat) (i : SchedImage) :
    MemKept M (s.loadShadow k i).fsq.bank0 := by
  simp [State.loadShadow, h]

@[simp] theorem State.loadShadow_bank1Kept {s : State} (h : MemKept M s.fsq.bank1) (k : Nat) (i : SchedImage) :
    MemKept M (s.loadShadow k i).fsq.bank1 := by
  simp [State.loadShadow, h]

@[simp] theorem State.ownLoad_bank0Kept {s : State} (h : MemKept M s.fsq.bank0) : MemKept M s.ownLoad.fsq.bank0 := by
  unfold State.ownLoad
  dsimp only
  repeat' split
  all_goals simp [h]

@[simp] theorem State.ownLoad_bank1Kept {s : State} (h : MemKept M s.fsq.bank1) : MemKept M s.ownLoad.fsq.bank1 := by
  unfold State.ownLoad
  dsimp only
  repeat' split
  all_goals simp [h]

@[simp] theorem State.ownEnd_bank0Kept {s : State} (h : MemKept M s.fsq.bank0) (rb : Bool) : MemKept M (s.ownEnd rb).fsq.bank0 := by
  unfold State.ownEnd
  repeat' split
  all_goals simp [h]

@[simp] theorem State.ownEnd_bank1Kept {s : State} (h : MemKept M s.fsq.bank1) (rb : Bool) : MemKept M (s.ownEnd rb).fsq.bank1 := by
  unfold State.ownEnd
  repeat' split
  all_goals simp [h]

@[simp] theorem State.readReg_fsq_bank0 (s : State) (c : Bool) (a : Nat) : (s.readReg c a).2.fsq.bank0 = s.fsq.bank0 := by
  unfold State.readReg
  dsimp only
  repeat' split
  all_goals simp

@[simp] theorem State.readReg_fsq_bank1 (s : State) (c : Bool) (a : Nat) : (s.readReg c a).2.fsq.bank1 = s.fsq.bank1 := by
  unfold State.readReg
  dsimp only
  repeat' split
  all_goals simp

@[simp] theorem State.readRegs_fsq_bank0 (s : State) (c : Bool) (a n : Nat) : (s.readRegs c a n).2.fsq.bank0 = s.fsq.bank0 := by
  induction n generalizing s a with
  | zero => rfl
  | succ n ih => simp [State.readRegs, ih]

@[simp] theorem State.readRegs_fsq_bank1 (s : State) (c : Bool) (a n : Nat) : (s.readRegs c a n).2.fsq.bank1 = s.fsq.bank1 := by
  induction n generalizing s a with
  | zero => rfl
  | succ n ih => simp [State.readRegs, ih]

@[simp] theorem State.resetBlocks_fsq (s : State) (c : Nat) : (s.resetBlocks c).fsq = {} := rfl
@[simp] theorem State.resetBlocks_mbx (s : State) (c : Nat) : (s.resetBlocks c).mbx = {} := rfl
@[simp] theorem State.powerOn_fsq (s : State) : s.powerOn.fsq = {} := rfl
@[simp] theorem State.powerOn_mbx (s : State) : s.powerOn.mbx = {} := rfl
@[simp] theorem State.moduleReset_fsq (s : State) (c : Nat) : (s.moduleReset c).fsq = {} := rfl
@[simp] theorem State.moduleReset_mbx (s : State) (c : Nat) : (s.moduleReset c).mbx = {} := rfl

/-! The mailbox buffers. -/

@[simp] theorem ChKept.default : ChKept M [{}, {}, {}, {}] := by
  simp [ChKept]

theorem ChKept.modify {l : List Chan} (h : ChKept M l) (c : Nat) {f : Chan → Chan}
    (hf : ∀ x, MemKept M x.reqBuf ∧ MemKept M x.repBuf → MemKept M (f x).reqBuf ∧ MemKept M (f x).repBuf) : ChKept M (l.modify c f) := by
  intro x hx
  obtain ⟨i, hi, rfl⟩ := List.getElem_of_mem hx
  rw [List.getElem_modify]
  have hm := h _ (List.getElem_mem (by simpa using hi))
  split
  · exact hf _ hm
  · exact hm

theorem ChKept.map {l : List Chan} (h : ChKept M l) {f : Chan → Chan}
    (hf : ∀ x, MemKept M x.reqBuf ∧ MemKept M x.repBuf → MemKept M (f x).reqBuf ∧ MemKept M (f x).repBuf) : ChKept M (l.map f) := by
  intro x hx
  obtain ⟨y, hy, rfl⟩ := List.mem_map.1 hx
  exact hf y (h y hy)

@[simp] theorem MemKept.withoutSecrets {m : Mem} (h : MemKept M m) : MemKept M (withoutSecrets m) := by
  unfold Machine.withoutSecrets
  split <;> simp [h]

@[simp] theorem State.modCh_chKept {s : State} (h : ChKept M s.mbx.ch) (c : Nat) {f : Chan → Chan}
    (hf : ∀ x, MemKept M x.reqBuf ∧ MemKept M x.repBuf → MemKept M (f x).reqBuf ∧ MemKept M (f x).repBuf) : ChKept M (s.modCh c f).mbx.ch :=
  h.modify c hf

@[simp] theorem Mbx.mgpGone_chKept {m : Mbx} (h : ChKept M m.ch) : ChKept M m.mgpGone.ch := by
  refine h.map fun x hx => ?_
  split <;> exact hx

@[simp] theorem State.accept_chKept {s : State} (h : ChKept M s.mbx.ch) (c : Nat) (src : Src) : ChKept M (s.accept c src).mbx.ch :=
  State.modCh_chKept h c fun _ hx => ⟨hx.1.withoutSecrets, hx.2⟩

@[simp] theorem State.done_chKept {s : State} (h : ChKept M s.mbx.ch) (c code tag rc detail : Nat) (data : List Byte) :
    ChKept M (s.done c code tag rc detail data).mbx.ch := by
  have hc := State.modCh_chKept h c (f := fun x => { x with st := .done, req := none, repBuf := memPutL [] 0 (replyBytes code tag rc detail data), doneCnt := (x.doneCnt + 1) % 65536, outcome := none, wasRunning := false }) (fun _ hx => ⟨hx.1, by simp⟩)
  simpa [State.done] using hc

@[simp] theorem State.reply_chKept {s : State} (h : ChKept M s.mbx.ch) (c rc detail : Nat) (data : List Byte) :
    ChKept M (s.reply c rc detail data).mbx.ch := by
  unfold State.reply
  dsimp only
  split <;> simp [h]

@[simp] theorem State.ok_chKept {s : State} (h : ChKept M s.mbx.ch) (c : Nat) : ChKept M (s.ok c).mbx.ch := State.reply_chKept h _ _ _ _

@[simp] theorem State.inhibited_chKept {s : State} (h : ChKept M s.mbx.ch) (c d : Nat) : ChKept M (s.inhibited c d).mbx.ch :=
  State.reply_chKept h _ _ _ _

@[simp] theorem State.ring_chKept {s : State} (h : ChKept M s.mbx.ch) (c : Nat) (src : Src) : ChKept M (s.ring c src).mbx.ch := by
  unfold State.ring
  dsimp only
  repeat' split
  all_goals simp [h]

@[simp] theorem State.bufPut_chKept {s : State} (h : ChKept M s.mbx.ch) (c i w : Nat) : ChKept M (s.bufPut c i w).mbx.ch := by
  unfold State.bufPut
  split
  · exact State.modCh_chKept h c fun _ hx => ⟨hx.1.put _ _, hx.2⟩
  · exact State.modCh_chKept h c fun _ hx => hx

@[simp] theorem State.notInState_chKept {s : State} (h : ChKept M s.mbx.ch) (c : Nat) (r : Request) : ChKept M (s.notInState c r).mbx.ch := by
  simp [State.notInState, h]

@[simp] theorem State.result_chKept {s : State} (h : ChKept M s.mbx.ch) (c rc detail : Nat) (data : List Byte) :
    ChKept M (s.result c rc detail data).mbx.ch := State.modCh_chKept h c fun _ hx => hx

@[simp] theorem State.clearRc_chKept {s : State} (h : ChKept M s.mbx.ch) (r : Reg) : ChKept M (s.clearRc r).mbx.ch := by
  have hc : ∀ c, ChKept M (s.mbx.ch.modify c (fun x => { x with wrLost := false })) := fun c => h.modify c fun _ hx => hx
  unfold State.clearRc
  repeat' split
  all_goals simp [h, hc]

@[simp] theorem State.readReg_chKept {s : State} (h : ChKept M s.mbx.ch) (c : Bool) (a : Nat) : ChKept M (s.readReg c a).2.mbx.ch := by
  unfold State.readReg
  dsimp only
  repeat' split
  all_goals simp [h]

@[simp] theorem State.readRegs_chKept {s : State} (h : ChKept M s.mbx.ch) (c : Bool) (a n : Nat) : ChKept M (s.readRegs c a n).2.mbx.ch := by
  induction n generalizing s a with
  | zero => exact h
  | succ n ih => exact ih (State.readReg_chKept h _ _) _

@[simp] theorem State.capReply_chKept {s : State} (h : ChKept M s.mbx.ch) (c : Nat) (rb : Bool) : ChKept M (s.capReply c rb).mbx.ch := by
  unfold State.capReply
  dsimp only
  repeat' split
  all_goals simp [h]

@[simp] theorem State.settingsReply_chKept {s : State} (h : ChKept M s.mbx.ch) (c : Nat) (rb : Bool) :
    ChKept M (s.settingsReply c rb).mbx.ch := by
  unfold State.settingsReply
  dsimp only
  split <;> simp [h]

@[simp] theorem State.sagReply_chKept {s : State} (h : ChKept M s.mbx.ch) (c : Nat) (rb : Bool) : ChKept M (s.sagReply c rb).mbx.ch := by
  unfold State.sagReply
  dsimp only
  split <;> simp [h]

@[simp] theorem State.swapReply_chKept {s : State} (h : ChKept M s.mbx.ch) (c : Nat) : ChKept M (s.swapReply c).mbx.ch := by
  unfold State.swapReply
  dsimp only
  split <;> simp [h]

@[simp] theorem State.loadReply_chKept {s : State} (h : ChKept M s.mbx.ch) (c d : Nat) (data : List Byte) :
    ChKept M (s.loadReply c d data).mbx.ch := by
  unfold State.loadReply
  repeat' split
  all_goals simp [h]

@[simp] theorem State.postEnd_chKept {s : State} (h : ChKept M s.mbx.ch) (c : Nat) (rb : Bool) : ChKept M (s.postEnd c rb).mbx.ch := by
  unfold State.postEnd
  repeat' split
  all_goals simp [h]

@[simp] theorem State.stageUpdate_chKept {s : State} (h : ChKept M s.mbx.ch) (c : Nat) : ChKept M (s.stageUpdate c).mbx.ch := by
  unfold State.stageUpdate
  repeat' split
  all_goals simp [h]

@[simp] theorem State.mgpGoes_chKept {s : State} (h : ChKept M s.mbx.ch) : ChKept M s.mgpGoes.mbx.ch := Mbx.mgpGone_chKept h

@[simp] theorem State.heldBusy_chKept {s : State} (h : ChKept M s.mbx.ch) (p : Chan → Bool) : ChKept M (s.heldBusy p).mbx.ch := by
  unfold State.heldBusy
  refine List.foldlRecOn (motive := fun t : State => ChKept M t.mbx.ch) _ _ h fun t ht c _ => ?_
  split <;> simp [ht]

@[simp] theorem State.loaderBoot_chKept {s : State} (h : ChKept M s.mbx.ch) : ChKept M s.loaderBoot.mbx.ch := by
  simp [State.loaderBoot, h]

@[simp] theorem State.newReady_chKept {s : State} (h : ChKept M s.mbx.ch) : ChKept M s.newReady.mbx.ch := by
  simp [State.newReady, h]

@[simp] theorem State.oldReady_chKept {s : State} (h : ChKept M s.mbx.ch) : ChKept M s.oldReady.mbx.ch := by
  unfold State.oldReady
  dsimp only
  split <;> simp [h]

@[simp] theorem State.nodeReply_chKept {s : State} (h : ChKept M s.mbx.ch) (q : NodeCmd) (rc d : Nat) (data : List Byte) :
    ChKept M (s.nodeReply q rc d data).mbx.ch := by
  unfold State.nodeReply
  repeat' split
  all_goals simp [h]

@[simp] theorem State.leaveDone_chKept {s : State} (h : ChKept M s.mbx.ch) (q : NodeCmd) (r : Nat) : ChKept M (s.leaveDone q r).mbx.ch := by
  unfold State.leaveDone
  split <;> simp [h]

@[simp] theorem State.ackCmd_chKept {s : State} (h : ChKept M s.mbx.ch) (q : NodeCmd) (r i : Nat) : ChKept M (s.ackCmd q r i).mbx.ch := by
  unfold State.ackCmd
  dsimp only
  repeat' split
  all_goals simp [h]

@[simp] theorem State.giveUp_chKept {s : State} (h : ChKept M s.mbx.ch) (q : NodeCmd) : ChKept M (s.giveUp q).mbx.ch := by
  unfold State.giveUp
  dsimp only
  repeat' split
  all_goals simp [h]

theorem State.takeFlight_chKept {s t : State} {n : Nat} {q : NodeCmd} (e : s.takeFlight n = some (q, t)) (h : ChKept M s.mbx.ch) :
    ChKept M t.mbx.ch := by
  rwa [State.takeFlight_mbx s n (q, t) e]

@[simp] theorem State.ackKind_chKept {s : State} (h : ChKept M s.mbx.ch) (u k n r i : Nat) : ChKept M (s.ackKind u k n r i).mbx.ch := by
  unfold State.ackKind
  split
  · repeat' split
    all_goals simp [h]
  · split
    · next e => exact State.ackCmd_chKept (State.takeFlight_chKept e h) _ _ _
    · exact h
  · simp [h]

end
end Sys2Proof.Machine

namespace Sys2Proof.Machine

section
variable {L S M : Prop} {s : State}

/-- A state whose latch, coil paths, banks and buffers are those of another keeps what that one keeps. -/
theorem State.Kept.same {t : State} (hs : s.Kept L S M) (hl : t.sag.latch = s.sag.latch) (hc : t.sag.coil = s.sag.coil)
    (h0 : t.fsq.bank0 = s.fsq.bank0) (h1 : t.fsq.bank1 = s.fsq.bank1) (hm : t.mbx.ch = s.mbx.ch) : t.Kept L S M := by
  unfold State.Kept
  rwa [hl, hc, h0, h1, hm]

/-! The gates. -/

theorem State.hostWrite_kept (hs : s.Kept L S M) (d : Nat) {o : Out} (ho : o.All (State.Kept L S M)) :
    (s.hostWrite d o).All (State.Kept L S M) := by
  unfold State.hostWrite
  split
  · exact ho
  · exact (Out.all_next _).2 (hs.same rfl rfl rfl rfl rfl)

theorem State.ownerWrite_kept (hs : s.Kept L S M) (d : Nat) {o : Out} (ho : o.All (State.Kept L S M)) :
    (s.ownerWrite d o).All (State.Kept L S M) := by
  refine State.hostWrite_kept hs d ?_
  split
  · exact (Out.all_next _).2 (hs.same rfl rfl rfl rfl rfl)
  · exact ho

theorem State.cmdReg_kept (hs : s.Kept L S M) (m : Nat) (v : Int) (c : Ctl) : (s.cmdReg m v c).All (State.Kept L S M) := by
  refine State.ownerWrite_kept hs 3 ?_
  simpa using hs.same (by simp) (by simp) (by simp) (by simp) (by simp)

theorem State.gate_run_kept (hs : s.Kept L S M) {c : Nat} {m : EntryIn} {t : State} {e w lag : Nat} {late : Bool}
    (h : s.gate c m = .run t e w late lag) : t.Kept L S M := by
  unfold State.gate at h
  dsimp only at h
  repeat' split at h
  all_goals cases h
  all_goals exact hs.same (by simp) (by simp) (by simp) (by simp) (by simp)

theorem State.gate_skipped_kept (hs : s.Kept L S M) {c : Nat} {m : EntryIn} {t : State} (h : s.gate c m = .skipped t) : t.Kept L S M := by
  unfold State.gate at h
  dsimp only at h
  repeat' split at h
  all_goals cases h
  exact hs.same (by simp) (by simp) (by simp) (by simp) (by simp)

theorem State.onEntry_kept (hs : s.Kept L S M) (c : Nat) (m : EntryIn) {g : State → Nat → Nat → Out}
    (hg : ∀ t e w, t.Kept L S M → (g t e w).All (State.Kept L S M)) : (s.onEntry c m g).All (State.Kept L S M) := by
  intro t ht
  rcases State.onEntry_cases ht with rfl | h | ⟨u, e, w, late, lag, h, hu⟩
  · exact hs
  · exact State.gate_skipped_kept hs h
  · exact hg u e w (State.gate_run_kept hs h) t hu

theorem State.datagram_kept (hs : s.Kept L S M) (p : PortId) (h : Net) (n k : Nat) {o : Out} (ho : o.All (State.Kept L S M)) :
    (s.datagram p h n k o).All (State.Kept L S M) := by
  intro t ht
  rcases State.datagram_cases ht with rfl | rfl | ⟨-, h⟩
  · exact hs
  · exact hs.same rfl rfl rfl rfl rfl
  · exact ho t h

theorem State.arrive_kept (hs : s.Kept L S M) (x : Tx) (ty : Nat) {g : State → Out} (hg : ∀ t, t.Kept L S M → (g t).All (State.Kept L S M)) :
    (s.arrive x ty g).All (State.Kept L S M) := by
  have h0 : (s.atTime x.now).Kept L S M := hs.same rfl rfl rfl rfl rfl
  refine State.datagram_kept h0 _ _ _ _ ?_
  split
  · exact (Out.all_next _).2 (h0.same rfl rfl rfl rfl rfl)
  · split
    · simpa using h0
    · exact hg _ h0

theorem State.transact_kept (hs : s.Kept L S M) (x : Tx) (ty : Nat) {f : State → Nat → Out}
    (hf : ∀ t i, t.Kept L S M → (f t i).All (State.Kept L S M)) : (s.transact x ty f).All (State.Kept L S M) := by
  intro t ht
  rcases State.transact_cases ht with h | ⟨u, i, h, hu⟩
  · rw [h]
    exact hs.same rfl rfl rfl rfl rfl
  · refine hf u i ?_ t h
    rw [hu]
    exact hs.same rfl rfl rfl rfl rfl

theorem State.serve_kept (hs : s.Kept L S M) (c : Fin 4) (code : Nat) {f : List Byte → Out} (hf : ∀ p, (f p).All (State.Kept L S M)) :
    (s.serve c code f).All (State.Kept L S M) := by
  intro t ht
  rcases State.serve_cases ht with rfl | ⟨r, -, rfl⟩ | ⟨r, -, -, -, -, h⟩
  · exact hs
  · obtain ⟨hg, h0, h1, hc⟩ := hs
    simp [State.Kept, hg, h0, h1, hc]
  · exact hf _ t h

theorem State.spyIn_kept (hs : s.Kept L S M) : s.spyIn.Kept L S M := hs.same rfl rfl rfl rfl rfl

theorem State.spyErr_kept (hs : s.Kept L S M) (e : String) : (s.spyErr e).Kept L S M := hs.same rfl rfl rfl rfl rfl

theorem State.monitor_kept (hs : s.Kept L S M) (plain : Bool) {f : State → Out} (hf : ∀ t, t.Kept L S M → (f t).All (State.Kept L S M)) :
    (s.monitor plain f).All (State.Kept L S M) := by
  intro t ht
  rcases State.monitor_cases ht with rfl | rfl | h
  · exact hs
  · exact State.spyErr_kept (State.spyIn_kept hs) _
  · exact hf _ (State.spyIn_kept hs) t h

theorem State.spyWrite_kept (hs : s.Kept L S M) {f : State → Out} (hf : ∀ t, t.Kept L S M → (f t).All (State.Kept L S M)) :
    (s.spyWrite f).All (State.Kept L S M) := by
  refine State.monitor_kept hs false fun t ht => ?_
  split
  · simpa using State.spyErr_kept ht _
  · exact hf t ht

theorem State.spySafety_kept (hs : s.Kept L S M) {f : State → Out} (hf : ∀ t, t.Kept L S M → (f t).All (State.Kept L S M)) :
    (s.spySafety f).All (State.Kept L S M) := by
  refine State.spyWrite_kept hs fun t ht => ?_
  split
  · exact hf t ht
  · simpa using State.spyErr_kept ht _

theorem State.pairRx_kept (hs : s.Kept L S M) (b : List Byte) (k : Nat) {f : State → Out} (hf : (f s).All (State.Kept L S M)) :
    (s.pairRx b k f).All (State.Kept L S M) := by
  unfold State.pairRx
  split
  · simpa using hs
  · split
    · exact (Out.all_next _).2 (hs.same rfl rfl rfl rfl rfl)
    · split
      · simpa using hs
      · exact hf

theorem State.swapRx_kept (hs : s.Kept L S M) (b : List Byte) (k : Nat) {f : State → Out} (hf : (f s).All (State.Kept L S M)) :
    (s.swapRx b k f).All (State.Kept L S M) := by
  refine State.pairRx_kept hs b 3 ?_
  split
  · exact hf
  · simpa using hs

end
end Sys2Proof.Machine

namespace Sys2Proof.Machine
section
variable {L S M : Prop} {s : State}

theorem execPeakLimitEvent_kept (hs : s.Kept L S M) (p : Fin 16) (d : Nat) (now : BitVec 32) : (execPeakLimitEvent p d now s).All (State.Kept L S M) := by
  obtain ⟨hg, h0, h1, hc⟩ := hs
  unfold execPeakLimitEvent
  dsimp only
  split <;> simp [State.Kept, hg, h0, h1, hc]

theorem execLoadRelease_kept (hs : s.Kept L S M) (fast : List Nat) (now : BitVec 32) : (execLoadRelease fast now s).All (State.Kept L S M) := by
  obtain ⟨hg, h0, h1, hc⟩ := hs
  unfold execLoadRelease
  dsimp only
  split <;> simp [State.Kept, hg, h0, h1, hc]

theorem execLoadStep_kept (hs : s.Kept L S M) (fast : List Nat) : (execLoadStep fast s).All (State.Kept L S M) := by
  obtain ⟨hg, h0, h1, hc⟩ := hs
  unfold execLoadStep
  dsimp only
  split <;> simp [State.Kept, hg, h0, h1, hc]

theorem execCurrentInputSaturated_kept (hs : s.Kept L S M) (p : Fin 16) (d : List Nat) : (execCurrentInputSaturated p d s).All (State.Kept L S M) := by
  obtain ⟨hg, h0, h1, hc⟩ := hs
  simp [execCurrentInputSaturated, State.Kept, hg, h0, h1, hc]

theorem execCurrentInputLost_kept (hs : s.Kept L S M) (p : Fin 16) : (execCurrentInputLost p s).All (State.Kept L S M) := by
  obtain ⟨hg, h0, h1, hc⟩ := hs
  simp [execCurrentInputLost, State.Kept, hg, h0, h1, hc]

theorem execDriverFault_kept (hs : s.Kept L S M) (p : Fin 16) : (execDriverFault p s).All (State.Kept L S M) := by
  obtain ⟨hg, h0, h1, hc⟩ := hs
  simp [execDriverFault, State.Kept, hg, h0, h1, hc]

theorem execReadbackMismatch_kept (hs : s.Kept L S M) (h : Fin 4) (ph : Option (Fin 4)) (atTakeover : Bool) : (execReadbackMismatch h ph atTakeover s).All (State.Kept L S M) := by
  obtain ⟨hg, h0, h1, hc⟩ := hs
  unfold execReadbackMismatch
  repeat' split
  all_goals simp [State.Kept, hg, h0, h1, hc]

theorem execPhaseShareWarning_kept (hs : s.Kept L S M) (p : Fin 16) (out : Bool) : (execPhaseShareWarning p out s).All (State.Kept L S M) := by
  obtain ⟨hg, h0, h1, hc⟩ := hs
  unfold execPhaseShareWarning
  dsimp only
  repeat' split
  all_goals simp [State.Kept, hg, h0, h1, hc]

theorem execTrkDwellDone_kept (hs : s.Kept L S M) : (execTrkDwellDone s).All (State.Kept L S M) := by
  obtain ⟨hg, h0, h1, hc⟩ := hs
  unfold execTrkDwellDone
  split <;> simp [State.Kept, hg, h0, h1, hc]

theorem execTrkTimeout_kept (hs : s.Kept L S M) : (execTrkTimeout s).All (State.Kept L S M) := by
  obtain ⟨hg, h0, h1, hc⟩ := hs
  unfold execTrkTimeout
  split <;> simp [State.Kept, hg, h0, h1, hc]

theorem execStopCurrentLow_kept (hs : s.Kept L S M) : (execStopCurrentLow s).All (State.Kept L S M) := by
  obtain ⟨hg, h0, h1, hc⟩ := hs
  unfold execStopCurrentLow
  split <;> simp [State.Kept, hg, h0, h1, hc]

theorem execStopTimeout_kept (hs : s.Kept L S M) : (execStopTimeout s).All (State.Kept L S M) := by
  obtain ⟨hg, h0, h1, hc⟩ := hs
  unfold execStopTimeout
  split <;> simp [State.Kept, hg, h0, h1, hc]

theorem execCoefHold_kept (hs : s.Kept L S M) (on : Bool) : (execCoefHold on s).All (State.Kept L S M) := by
  refine State.ownerWrite_kept hs _ ?_
  obtain ⟨hg, h0, h1, hc⟩ := hs
  simp [State.Kept, hg, h0, h1, hc]

theorem execCoefLoad_kept (hs : s.Kept L S M) : (execCoefLoad s).All (State.Kept L S M) := by
  refine State.hostWrite_kept hs _ ?_
  obtain ⟨hg, h0, h1, hc⟩ := hs
  simp [State.Kept, hg, h0, h1, hc]

theorem execTrkHoldEnd_kept (hs : s.Kept L S M) : (execTrkHoldEnd s).All (State.Kept L S M) := by
  obtain ⟨hg, h0, h1, hc⟩ := hs
  unfold execTrkHoldEnd
  split <;> simp [State.Kept, hg, h0, h1, hc]

theorem execOverrunClear_kept (hs : s.Kept L S M) : (execOverrunClear s).All (State.Kept L S M) := by
  obtain ⟨hg, h0, h1, hc⟩ := hs
  unfold execOverrunClear
  split <;> simp [State.Kept, hg, h0, h1, hc]

theorem execOuterTick_kept (hs : s.Kept L S M) (m : OuterIn) : (execOuterTick m s).All (State.Kept L S M) := by
  obtain ⟨hg, h0, h1, hc⟩ := hs
  unfold execOuterTick
  dsimp only
  repeat' split
  all_goals simp [State.Kept, hg, h0, h1, hc]

theorem execIsumWarning_kept (hs : s.Kept L S M) (beyond : Bool) : (execIsumWarning beyond s).All (State.Kept L S M) := by
  obtain ⟨hg, h0, h1, hc⟩ := hs
  simp [execIsumWarning, State.Kept, hg, h0, h1, hc]

theorem execInnerEvaluation_kept (hs : s.Kept L S M) (p : Fin 16) (m : EvalIn) : (execInnerEvaluation p m s).All (State.Kept L S M) := by
  obtain ⟨hg, h0, h1, hc⟩ := hs
  unfold execInnerEvaluation
  dsimp only
  repeat' split
  all_goals simp [State.Kept, hg, h0, h1, hc]

theorem execSwapRequest_kept (hs : s.Kept L S M) : (execSwapRequest s).All (State.Kept L S M) := by
  refine State.ownerWrite_kept hs _ ?_
  obtain ⟨hg, h0, h1, hc⟩ := hs
  simp [State.Kept, hg, h0, h1, hc]

theorem execSwapWithdraw_kept (hs : s.Kept L S M) : (execSwapWithdraw s).All (State.Kept L S M) := by
  refine State.ownerWrite_kept hs _ ?_
  obtain ⟨hg, h0, h1, hc⟩ := hs
  simp [State.Kept, hg, h0, h1, hc]

theorem execSwapCheckDone_kept (hs : s.Kept L S M) : (execSwapCheckDone s).All (State.Kept L S M) := by
  obtain ⟨hg, h0, h1, hc⟩ := hs
  unfold execSwapCheckDone
  split <;> simp [State.Kept, hg, h0, h1, hc]

theorem execNop_kept (hs : s.Kept L S M) (m : EntryIn) : (execNop m s).All (State.Kept L S M) := by
  refine State.onEntry_kept hs _ _ fun t e w ⟨hg, h0, h1, hc⟩ => ?_
  simp [State.Kept, hg, h0, h1, hc]

theorem execMirrorPush_kept (hs : s.Kept L S M) (m : EntryIn) : (execMirrorPush m s).All (State.Kept L S M) := by
  refine State.onEntry_kept hs _ _ fun t e w ⟨hg, h0, h1, hc⟩ => ?_
  split <;> simp [State.Kept, hg, h0, h1, hc]

theorem execBalancingPlan_kept (hs : s.Kept L S M) : (execBalancingPlan s).All (State.Kept L S M) := by
  obtain ⟨hg, h0, h1, hc⟩ := hs
  unfold execBalancingPlan
  split <;> simp [State.Kept, hg, h0, h1, hc]

theorem execEpochPeriodExpiry_kept (hs : s.Kept L S M) : (execEpochPeriodExpiry s).All (State.Kept L S M) := by
  obtain ⟨hg, h0, h1, hc⟩ := hs
  unfold execEpochPeriodExpiry
  split <;> simp [State.Kept, hg, h0, h1, hc]

theorem execLinkKeyChangeTimeout_kept (hs : s.Kept L S M) : (execLinkKeyChangeTimeout s).All (State.Kept L S M) := by
  obtain ⟨hg, h0, h1, hc⟩ := hs
  unfold execLinkKeyChangeTimeout
  split <;> simp [State.Kept, hg, h0, h1, hc]

theorem execBeaconFreeze_kept (hs : s.Kept L S M) : (execBeaconFreeze s).All (State.Kept L S M) := by
  obtain ⟨hg, h0, h1, hc⟩ := hs
  unfold execBeaconFreeze
  split <;> simp [State.Kept, hg, h0, h1, hc]

theorem execBeacon_kept (hs : s.Kept L S M) (m : EntryIn) (txLt : Nat) (rm : BitVec 32) : (execBeacon m txLt rm s).All (State.Kept L S M) := by
  refine State.onEntry_kept hs _ _ fun t e w ⟨hg, h0, h1, hc⟩ => ?_
  repeat' split
  all_goals simp [State.Kept, hg, h0, h1, hc]

theorem execNodeSlot_kept (hs : s.Kept L S M) (m : EntryIn) : (execNodeSlot m s).All (State.Kept L S M) := by
  refine State.onEntry_kept hs _ _ fun t e w ⟨hg, h0, h1, hc⟩ => ?_
  dsimp only
  repeat' split
  all_goals simp [State.Kept, hg, h0, h1, hc]

theorem execContentionSlot_kept (hs : s.Kept L S M) (m : EntryIn) : (execContentionSlot m s).All (State.Kept L S M) := by
  refine State.onEntry_kept hs _ _ fun t e w ⟨hg, h0, h1, hc⟩ => ?_
  repeat' split
  all_goals simp [State.Kept, hg, h0, h1, hc]

theorem execContentionRx_kept (hs : s.Kept L S M) (u : Fin 2) (f : RxFrame) : (execContentionRx u f s).All (State.Kept L S M) := by
  obtain ⟨hg, h0, h1, hc⟩ := hs
  unfold execContentionRx
  dsimp only
  repeat' split
  all_goals simp [State.Kept, hg, h0, h1, hc]

theorem execJoinRequestRx_kept (hs : s.Kept L S M) (u : Fin 2) (f : RxFrame) : (execJoinRequestRx u f s).All (State.Kept L S M) := by
  obtain ⟨hg, h0, h1, hc⟩ := hs
  unfold execJoinRequestRx
  dsimp only
  repeat' split
  all_goals simp [State.Kept, hg, h0, h1, hc]

theorem execUnitLoopbackTest_kept (hs : s.Kept L S M) (u : Fin 2) (ok : Bool) : (execUnitLoopbackTest u ok s).All (State.Kept L S M) := by
  obtain ⟨hg, h0, h1, hc⟩ := hs
  unfold execUnitLoopbackTest
  split <;> simp [State.Kept, hg, h0, h1, hc]

theorem execLogRecordWrite_kept (hs : s.Kept L S M) : (execLogRecordWrite s).All (State.Kept L S M) := by
  obtain ⟨hg, h0, h1, hc⟩ := hs
  simp [execLogRecordWrite, State.Kept, hg, h0, h1, hc]

theorem execLogBootScan_kept (hs : s.Kept L S M) : (execLogBootScan s).All (State.Kept L S M) := by
  obtain ⟨hg, h0, h1, hc⟩ := hs
  unfold execLogBootScan
  repeat' split
  all_goals simp [State.Kept, hg, h0, h1, hc]

theorem execLogHourlyFree_kept (hs : s.Kept L S M) : (execLogHourlyFree s).All (State.Kept L S M) := by
  obtain ⟨hg, h0, h1, hc⟩ := hs
  simp [execLogHourlyFree, State.Kept, hg, h0, h1, hc]

theorem execIsolationSnapshot_kept (hs : s.Kept L S M) : (execIsolationSnapshot s).All (State.Kept L S M) := by
  obtain ⟨hg, h0, h1, hc⟩ := hs
  unfold execIsolationSnapshot
  repeat' split
  all_goals simp [State.Kept, hg, h0, h1, hc]

theorem execMramScrub_kept (hs : s.Kept L S M) (corrected : Nat) (bad : List Nat) : (execMramScrub corrected bad s).All (State.Kept L S M) := by
  obtain ⟨hg, h0, h1, hc⟩ := hs
  simp [execMramScrub, State.Kept, hg, h0, h1, hc]

theorem execPd0Backup_kept (hs : s.Kept L S M) : (execPd0Backup s).All (State.Kept L S M) := by
  obtain ⟨hg, h0, h1, hc⟩ := hs
  simp [execPd0Backup, State.Kept, hg, h0, h1, hc]

theorem execNodePowerOn_kept (hs : s.Kept L S M) (n : Fin 48) : (execNodePowerOn n s).All (State.Kept L S M) := by
  obtain ⟨hg, h0, h1, hc⟩ := hs
  simp [execNodePowerOn, State.Kept, hg, h0, h1, hc]

theorem execNodeBeaconRx_kept (hs : s.Kept L S M) (n : Fin 48) (u : Fin 2) (f : RxFrame) (brx : Nat) : (execNodeBeaconRx n u f brx s).All (State.Kept L S M) := by
  obtain ⟨hg, h0, h1, hc⟩ := hs
  simp [execNodeBeaconRx, State.Kept, hg, h0, h1, hc]

theorem execNodeBeaconMissed_kept (hs : s.Kept L S M) (n : Fin 48) : (execNodeBeaconMissed n s).All (State.Kept L S M) := by
  obtain ⟨hg, h0, h1, hc⟩ := hs
  simp [execNodeBeaconMissed, State.Kept, hg, h0, h1, hc]

theorem execNodeCoastLimit_kept (hs : s.Kept L S M) (n : Fin 48) : (execNodeCoastLimit n s).All (State.Kept L S M) := by
  obtain ⟨hg, h0, h1, hc⟩ := hs
  simp [execNodeCoastLimit, State.Kept, hg, h0, h1, hc]

theorem execNodeBalTimeout_kept (hs : s.Kept L S M) (n : Fin 48) : (execNodeBalTimeout n s).All (State.Kept L S M) := by
  obtain ⟨hg, h0, h1, hc⟩ := hs
  simp [execNodeBalTimeout, State.Kept, hg, h0, h1, hc]

theorem execNodeSweep_kept (hs : s.Kept L S M) (n : Fin 48) (m : SweepIn) : (execNodeSweep n m s).All (State.Kept L S M) := by
  obtain ⟨hg, h0, h1, hc⟩ := hs
  simp [execNodeSweep, State.Kept, hg, h0, h1, hc]

theorem execNodeReportTx_kept (hs : s.Kept L S M) (n : Fin 48) (rtx : Nat) : (execNodeReportTx n rtx s).All (State.Kept L S M) := by
  obtain ⟨hg, h0, h1, hc⟩ := hs
  simp [execNodeReportTx, State.Kept, hg, h0, h1, hc]

theorem execNodeBalanceWindow_kept (hs : s.Kept L S M) (n : Fin 48) (start : Bool) : (execNodeBalanceWindow n start s).All (State.Kept L S M) := by
  obtain ⟨hg, h0, h1, hc⟩ := hs
  simp [execNodeBalanceWindow, State.Kept, hg, h0, h1, hc]

theorem execNodeOpenWireTest_kept (hs : s.Kept L S M) (n : Fin 48) (shift : Int) : (execNodeOpenWireTest n shift s).All (State.Kept L S M) := by
  obtain ⟨hg, h0, h1, hc⟩ := hs
  simp [execNodeOpenWireTest, State.Kept, hg, h0, h1, hc]

theorem execNodeSwitchTest_kept (hs : s.Kept L S M) (n : Fin 48) (current : Int) : (execNodeSwitchTest n current s).All (State.Kept L S M) := by
  obtain ⟨hg, h0, h1, hc⟩ := hs
  simp [execNodeSwitchTest, State.Kept, hg, h0, h1, hc]

theorem execNodeCommandRx_kept (hs : s.Kept L S M) (n : Fin 48) (f : RxFrame) : (execNodeCommandRx n f s).All (State.Kept L S M) := by
  obtain ⟨hg, h0, h1, hc⟩ := hs
  simp [execNodeCommandRx, State.Kept, hg, h0, h1, hc]

theorem execNodeFirmwareRx_kept (hs : s.Kept L S M) (n : Fin 48) (f : RxFrame) : (execNodeFirmwareRx n f s).All (State.Kept L S M) := by
  obtain ⟨hg, h0, h1, hc⟩ := hs
  simp [execNodeFirmwareRx, State.Kept, hg, h0, h1, hc]

theorem execNodeJoinReplyRx_kept (hs : s.Kept L S M) (n : Fin 48) (f : RxFrame) : (execNodeJoinReplyRx n f s).All (State.Kept L S M) := by
  obtain ⟨hg, h0, h1, hc⟩ := hs
  simp [execNodeJoinReplyRx, State.Kept, hg, h0, h1, hc]

theorem execNodeJoinReplyTimeout_kept (hs : s.Kept L S M) (n : Fin 48) : (execNodeJoinReplyTimeout n s).All (State.Kept L S M) := by
  obtain ⟨hg, h0, h1, hc⟩ := hs
  simp [execNodeJoinReplyTimeout, State.Kept, hg, h0, h1, hc]

theorem execNodeRefuseWaitEnd_kept (hs : s.Kept L S M) (n : Fin 48) : (execNodeRefuseWaitEnd n s).All (State.Kept L S M) := by
  obtain ⟨hg, h0, h1, hc⟩ := hs
  simp [execNodeRefuseWaitEnd, State.Kept, hg, h0, h1, hc]

theorem execNodeScanCycleEnd_kept (hs : s.Kept L S M) (n : Fin 48) : (execNodeScanCycleEnd n s).All (State.Kept L S M) := by
  obtain ⟨hg, h0, h1, hc⟩ := hs
  simp [execNodeScanCycleEnd, State.Kept, hg, h0, h1, hc]

theorem execNodeContentionTx_kept (hs : s.Kept L S M) (n : Fin 48) : (execNodeContentionTx n s).All (State.Kept L S M) := by
  obtain ⟨hg, h0, h1, hc⟩ := hs
  simp [execNodeContentionTx, State.Kept, hg, h0, h1, hc]

theorem execNodeComparatorTrip_kept (hs : s.Kept L S M) (n : Fin 48) (pos : Fin 8) (above : Bool) (held counter : Nat) : (execNodeComparatorTrip n pos above held counter s).All (State.Kept L S M) := by
  obtain ⟨hg, h0, h1, hc⟩ := hs
  simp [execNodeComparatorTrip, State.Kept, hg, h0, h1, hc]

theorem execNodeLoopSwitchClose_kept (hs : s.Kept L S M) (n : Fin 48) (lo hi : Nat) : (execNodeLoopSwitchClose n lo hi s).All (State.Kept L S M) := by
  obtain ⟨hg, h0, h1, hc⟩ := hs
  simp [execNodeLoopSwitchClose, State.Kept, hg, h0, h1, hc]

theorem execNodeSupplyLow_kept (hs : s.Kept L S M) (n : Fin 48) : (execNodeSupplyLow n s).All (State.Kept L S M) := by
  obtain ⟨hg, h0, h1, hc⟩ := hs
  simp [execNodeSupplyLow, State.Kept, hg, h0, h1, hc]

theorem execNodeSelfCheckFail_kept (hs : s.Kept L S M) (n : Fin 48) (code : Nat) : (execNodeSelfCheckFail n code s).All (State.Kept L S M) := by
  obtain ⟨hg, h0, h1, hc⟩ := hs
  simp [execNodeSelfCheckFail, State.Kept, hg, h0, h1, hc]

theorem execNodeOwnRestart_kept (hs : s.Kept L S M) (n : Fin 48) (cause : Nat) : (execNodeOwnRestart n cause s).All (State.Kept L S M) := by
  obtain ⟨hg, h0, h1, hc⟩ := hs
  simp [execNodeOwnRestart, State.Kept, hg, h0, h1, hc]

theorem execNodeRestartDone_kept (hs : s.Kept L S M) (n : Fin 48) : (execNodeRestartDone n s).All (State.Kept L S M) := by
  obtain ⟨hg, h0, h1, hc⟩ := hs
  simp [execNodeRestartDone, State.Kept, hg, h0, h1, hc]

theorem execNodeBankFallback_kept (hs : s.Kept L S M) (n : Fin 48) : (execNodeBankFallback n s).All (State.Kept L S M) := by
  obtain ⟨hg, h0, h1, hc⟩ := hs
  simp [execNodeBankFallback, State.Kept, hg, h0, h1, hc]

theorem execProbePhaseStep_kept (hs : s.Kept L S M) (m : EntryIn) : (execProbePhaseStep m s).All (State.Kept L S M) := by
  refine State.onEntry_kept hs _ _ fun t e w ⟨hg, h0, h1, hc⟩ => ?_
  simp [State.Kept, hg, h0, h1, hc]

theorem execCurrentLatch_kept (hs : s.Kept L S M) (m : EntryIn) (ma vStr vBus dq : Int) : (execCurrentLatch m ma vStr vBus dq s).All (State.Kept L S M) := by
  refine State.onEntry_kept hs _ _ fun t e w ⟨hg, h0, h1, hc⟩ => ?_
  simp [State.Kept, hg, h0, h1, hc]

theorem execSnapshot_kept (hs : s.Kept L S M) (m : EntryIn) : (execSnapshot m s).All (State.Kept L S M) := by
  refine State.onEntry_kept hs _ _ fun t e w ⟨hg, h0, h1, hc⟩ => ?_
  simp [State.Kept, hg, h0, h1, hc]

theorem execReportRx_kept (hs : s.Kept L S M) (u : Fin 2) (n : Fin 48) (f : RxFrame) : (execReportRx u n f s).All (State.Kept L S M) := by
  obtain ⟨hg, h0, h1, hc⟩ := hs
  unfold execReportRx
  dsimp only
  repeat' split
  all_goals simp [State.Kept, hg, h0, h1, hc]

theorem execReportWindowMiss_kept (hs : s.Kept L S M) (u : Fin 2) (n : Fin 48) : (execReportWindowMiss u n s).All (State.Kept L S M) := by
  obtain ⟨hg, h0, h1, hc⟩ := hs
  unfold execReportWindowMiss
  split <;> simp [State.Kept, hg, h0, h1, hc]

theorem execLoopClassChange_kept (hs : s.Kept L S M) (ua : Nat) : (execLoopClassChange ua s).All (State.Kept L S M) := by
  obtain ⟨hg, h0, h1, hc⟩ := hs
  unfold execLoopClassChange
  dsimp only
  repeat' split
  all_goals simp [State.Kept, hg, h0, h1, hc]

theorem execCapCommitDue_kept (hs : s.Kept L S M) : (execCapCommitDue s).All (State.Kept L S M) := by
  obtain ⟨hg, h0, h1, hc⟩ := hs
  unfold execCapCommitDue
  split <;> simp [State.Kept, hg, h0, h1, hc]

theorem execCapCommitRetry_kept (hs : s.Kept L S M) : (execCapCommitRetry s).All (State.Kept L S M) := by
  obtain ⟨hg, h0, h1, hc⟩ := hs
  unfold execCapCommitRetry
  split <;> simp [State.Kept, hg, h0, h1, hc]

theorem execCountCheckpoint_kept (hs : s.Kept L S M) : (execCountCheckpoint s).All (State.Kept L S M) := by
  obtain ⟨hg, h0, h1, hc⟩ := hs
  simp [execCountCheckpoint, State.Kept, hg, h0, h1, hc]

theorem execThermalSample_kept (hs : s.Kept L S M) (m : EntryIn) (x : ThmIn) : (execThermalSample m x s).All (State.Kept L S M) := by
  refine State.onEntry_kept hs _ _ fun t e w ⟨hg, h0, h1, hc⟩ => ?_
  simp [State.Kept, hg, h0, h1, hc]

theorem execThmSelfSample_kept (hs : s.Kept L S M) (src : Fin 4) (x : ThmIn) : (execThmSelfSample src x s).All (State.Kept L S M) := by
  obtain ⟨hg, h0, h1, hc⟩ := hs
  simp [execThmSelfSample, State.Kept, hg, h0, h1, hc]

theorem execXchkDisagreement_kept (hs : s.Kept L S M) (g : Fin 384) : (execXchkDisagreement g s).All (State.Kept L S M) := by
  obtain ⟨hg, h0, h1, hc⟩ := hs
  unfold execXchkDisagreement
  dsimp only
  repeat' split
  all_goals simp [State.Kept, hg, h0, h1, hc]

theorem execGraceExpiry_kept (hs : s.Kept L S M) (chg : Bool) : (execGraceExpiry chg s).All (State.Kept L S M) := by
  obtain ⟨hg, h0, h1, hc⟩ := hs
  unfold execGraceExpiry
  dsimp only
  split <;> simp [State.Kept, hg, h0, h1, hc]

theorem execThmOutputUpdate_kept (hs : s.Kept L S M) : (execThmOutputUpdate s).All (State.Kept L S M) := by
  obtain ⟨hg, h0, h1, hc⟩ := hs
  unfold execThmOutputUpdate
  split <;> simp [State.Kept, hg, h0, h1, hc]

theorem execCoolantIoFault_kept (hs : s.Kept L S M) (kind : Fin 3) (i : Fin 4) (on : Bool) : (execCoolantIoFault kind i on s).All (State.Kept L S M) := by
  obtain ⟨hg, h0, h1, hc⟩ := hs
  unfold execCoolantIoFault
  split <;> simp [State.Kept, hg, h0, h1, hc]

theorem execEstimateBatch_kept (hs : s.Kept L S M) (m : EntryIn) : (execEstimateBatch m s).All (State.Kept L S M) := by
  refine State.onEntry_kept hs _ _ fun t e w ⟨hg, h0, h1, hc⟩ => ?_
  dsimp only
  repeat' split
  all_goals simp [State.Kept, hg, h0, h1, hc]

theorem execFrameEnd_kept (hs : s.Kept L S M) (m : EntryIn) : (execFrameEnd m s).All (State.Kept L S M) := by
  refine State.onEntry_kept hs _ _ fun t e w ⟨hg, h0, h1, hc⟩ => ?_
  split <;> simp [State.Kept, hg, h0, h1, hc]

theorem execFrameStart_kept (hs : s.Kept L S M) : (execFrameStart s).All (State.Kept L S M) := by
  obtain ⟨hg, h0, h1, hc⟩ := hs
  unfold execFrameStart
  split <;> simp [State.Kept, hg, h0, h1, hc]

theorem execSagWindowOverrun_kept (hs : s.Kept L S M) : (execSagWindowOverrun s).All (State.Kept L S M) := by
  obtain ⟨hg, h0, h1, hc⟩ := hs
  simp [execSagWindowOverrun, State.Kept, hg, h0, h1, hc]

theorem execLockstepMismatch_kept (hs : s.Kept L S M) : (execLockstepMismatch s).All (State.Kept L S M) := by
  obtain ⟨hg, h0, h1, hc⟩ := hs
  simp [execLockstepMismatch, State.Kept, hg, h0, h1, hc]

theorem execSagEccScrub_kept (hs : s.Kept L S M) (corrected : Nat) (uncorrectable : Bool) : (execSagEccScrub corrected uncorrectable s).All (State.Kept L S M) := by
  obtain ⟨hg, h0, h1, hc⟩ := hs
  unfold execSagEccScrub
  split <;> simp [State.Kept, hg, h0, h1, hc]

theorem execSagCrcCheck_kept (hs : s.Kept L S M) (ok : Bool) : (execSagCrcCheck ok s).All (State.Kept L S M) := by
  obtain ⟨hg, h0, h1, hc⟩ := hs
  unfold execSagCrcCheck
  split <;> simp [State.Kept, hg, h0, h1, hc]

theorem execSagShuntCompare_kept (hs : s.Kept L S M) (own : Int) : (execSagShuntCompare own s).All (State.Kept L S M) := by
  obtain ⟨hg, h0, h1, hc⟩ := hs
  unfold execSagShuntCompare
  dsimp only
  repeat' split
  all_goals simp [State.Kept, hg, h0, h1, hc]

theorem execSagSupplyFault_kept (hs : s.Kept L S M) (bad : Bool) : (execSagSupplyFault bad s).All (State.Kept L S M) := by
  obtain ⟨hg, h0, h1, hc⟩ := hs
  unfold execSagSupplyFault
  split <;> simp [State.Kept, hg, h0, h1, hc]

theorem execX8StreamLost_kept (hs : s.Kept L S M) (lost : Bool) : (execX8StreamLost lost s).All (State.Kept L S M) := by
  obtain ⟨hg, h0, h1, hc⟩ := hs
  unfold execX8StreamLost
  split <;> simp [State.Kept, hg, h0, h1, hc]

theorem execOvercurrent_kept (hs : s.Kept L S M) (ma : Int) : (execOvercurrent ma s).All (State.Kept L S M) := by
  obtain ⟨hg, h0, h1, hc⟩ := hs
  unfold execOvercurrent
  repeat' split
  all_goals simp [State.Kept, hg, h0, h1, hc]

theorem execInterlockOpen_kept (hs : s.Kept L S M) : (execInterlockOpen s).All (State.Kept L S M) := by
  obtain ⟨hg, h0, h1, hc⟩ := hs
  unfold execInterlockOpen
  dsimp only
  split <;> simp [State.Kept, hg, h0, h1, hc]

theorem execIlkTestPass_kept (hs : s.Kept L S M) : (execIlkTestPass s).All (State.Kept L S M) := by
  obtain ⟨hg, h0, h1, hc⟩ := hs
  unfold execIlkTestPass
  split <;> simp [State.Kept, hg, h0, h1, hc]

theorem execIsolateLine_kept (hs : s.Kept L S M) (asserted : Bool) : (execIsolateLine asserted s).All (State.Kept L S M) := by
  obtain ⟨hg, h0, h1, hc⟩ := hs
  unfold execIsolateLine
  dsimp only
  split <;> simp [State.Kept, hg, h0, h1, hc]

theorem execCoilTestSlot_kept (hs : s.Kept L S M) (sw : Fin 8) (reads : List (Bool × Bool)) (moving : Bool) : (execCoilTestSlot sw reads moving s).All (State.Kept L S M) := by
  obtain ⟨hg, h0, h1, hc⟩ := hs
  unfold execCoilTestSlot
  dsimp only
  repeat' split
  all_goals simp [State.Kept, hg, h0, h1, hc]

theorem execWeldCheck_kept (hs : s.Kept L S M) (k : Fin 4) (volt : Bool) : (execWeldCheck k volt s).All (State.Kept L S M) := by
  obtain ⟨hg, h0, h1, hc⟩ := hs
  unfold execWeldCheck
  repeat' split
  all_goals simp [State.Kept, hg, h0, h1, hc]

theorem execContactorDropout_kept (hs : s.Kept L S M) (k : Fin 4) : (execContactorDropout k s).All (State.Kept L S M) := by
  obtain ⟨hg, h0, h1, hc⟩ := hs
  unfold execContactorDropout
  split <;> simp [State.Kept, hg, h0, h1, hc]

theorem execPullinEnd_kept (hs : s.Kept L S M) (k : Fin 4) : (execPullinEnd k s).All (State.Kept L S M) := by
  obtain ⟨hg, h0, h1, hc⟩ := hs
  simp [execPullinEnd, State.Kept, hg, h0, h1, hc]

theorem execSafetyPdu_kept (hs : s.Kept L S M) (p : PortId) (b : List Byte) (h : Net) : (execSafetyPdu p b h s).All (State.Kept L S M) := by
  refine State.datagram_kept hs _ _ _ _ ?_
  obtain ⟨hg, h0, h1, hc⟩ := hs
  split <;> simp [State.Kept, hg, h0, h1, hc]

theorem execPduPairExpiry_kept (hs : s.Kept L S M) : (execPduPairExpiry s).All (State.Kept L S M) := by
  obtain ⟨hg, h0, h1, hc⟩ := hs
  simp [execPduPairExpiry, State.Kept, hg, h0, h1, hc]

theorem execPduWatchdogExpiry_kept (hs : s.Kept L S M) : (execPduWatchdogExpiry s).All (State.Kept L S M) := by
  obtain ⟨hg, h0, h1, hc⟩ := hs
  unfold execPduWatchdogExpiry
  split <;> simp [State.Kept, hg, h0, h1, hc]

theorem execLoginLockEnd_kept (hs : s.Kept L S M) : (execLoginLockEnd s).All (State.Kept L S M) := by
  obtain ⟨hg, h0, h1, hc⟩ := hs
  simp [execLoginLockEnd, State.Kept, hg, h0, h1, hc]

theorem execLoginIdleEnd_kept (hs : s.Kept L S M) : (execLoginIdleEnd s).All (State.Kept L S M) := by
  obtain ⟨hg, h0, h1, hc⟩ := hs
  simp [execLoginIdleEnd, State.Kept, hg, h0, h1, hc]

theorem execSaggarReset_kept (hs : s.Kept L S M) : (execSaggarReset s).All (State.Kept L S M) := by
  obtain ⟨hg, h0, h1, hc⟩ := hs
  unfold execSaggarReset
  split <;> simp [State.Kept, hg, h0, h1, hc]

theorem execDomainReady_kept (hs : s.Kept L S M) (d : Fin 12) : (execDomainReady d s).All (State.Kept L S M) := by
  obtain ⟨hg, h0, h1, hc⟩ := hs
  unfold execDomainReady
  repeat' split
  all_goals simp [State.Kept, hg, h0, h1, hc]

theorem execFenceOpen_kept (hs : s.Kept L S M) (d : Fin 12) : (execFenceOpen d s).All (State.Kept L S M) := by
  obtain ⟨hg, h0, h1, hc⟩ := hs
  unfold execFenceOpen
  split <;> simp [State.Kept, hg, h0, h1, hc]

theorem execOwnClaim_kept (hs : s.Kept L S M) (high : Bool) : (execOwnClaim high s).All (State.Kept L S M) := by
  obtain ⟨hg, h0, h1, hc⟩ := hs
  unfold execOwnClaim
  dsimp only
  repeat' split
  all_goals simp [State.Kept, hg, h0, h1, hc]

theorem execFeedLossSingle_kept (hs : s.Kept L S M) (b : Bool) : (execFeedLossSingle b s).All (State.Kept L S M) := by
  obtain ⟨hg, h0, h1, hc⟩ := hs
  simp [execFeedLossSingle, State.Kept, hg, h0, h1, hc]

theorem execFeedRestored_kept (hs : s.Kept L S M) (b : Bool) : (execFeedRestored b s).All (State.Kept L S M) := by
  obtain ⟨hg, h0, h1, hc⟩ := hs
  simp [execFeedRestored, State.Kept, hg, h0, h1, hc]

theorem execHoldupCharged_kept (hs : s.Kept L S M) (charged : Bool) : (execHoldupCharged charged s).All (State.Kept L S M) := by
  obtain ⟨hg, h0, h1, hc⟩ := hs
  simp [execHoldupCharged, State.Kept, hg, h0, h1, hc]

theorem execBoDomainsOff_kept (hs : s.Kept L S M) : (execBoDomainsOff s).All (State.Kept L S M) := by
  obtain ⟨hg, h0, h1, hc⟩ := hs
  unfold execBoDomainsOff
  split <;> simp [State.Kept, hg, h0, h1, hc]

theorem execHoldupExhausted_kept (hs : s.Kept L S M) : (execHoldupExhausted s).All (State.Kept L S M) := by
  obtain ⟨hg, h0, h1, hc⟩ := hs
  unfold execHoldupExhausted
  split <;> simp [State.Kept, hg, h0, h1, hc]

theorem execMgpLost_kept (hs : s.Kept L S M) : (execMgpLost s).All (State.Kept L S M) := by
  obtain ⟨hg, h0, h1, hc⟩ := hs
  simp [execMgpLost, State.Kept, hg, h0, h1, hc]

theorem execHeartbeatSend_kept (hs : s.Kept L S M) : (execHeartbeatSend s).All (State.Kept L S M) := by
  obtain ⟨hg, h0, h1, hc⟩ := hs
  simp [execHeartbeatSend, State.Kept, hg, h0, h1, hc]

theorem execHeartbeatRx_kept (hs : s.Kept L S M) (b : List Byte) (higher : Bool) : (execHeartbeatRx b higher s).All (State.Kept L S M) := by
  refine State.pairRx_kept hs _ _ ?_
  obtain ⟨hg, h0, h1, hc⟩ := hs
  simp [State.Kept, hg, h0, h1, hc]

theorem execHeartbeatMissed_kept (hs : s.Kept L S M) : (execHeartbeatMissed s).All (State.Kept L S M) := by
  obtain ⟨hg, h0, h1, hc⟩ := hs
  simp [execHeartbeatMissed, State.Kept, hg, h0, h1, hc]

theorem execIsolationDemandRepeat_kept (hs : s.Kept L S M) : (execIsolationDemandRepeat s).All (State.Kept L S M) := by
  obtain ⟨hg, h0, h1, hc⟩ := hs
  simp [execIsolationDemandRepeat, State.Kept, hg, h0, h1, hc]

theorem execMirrorPartRx_kept (hs : s.Kept L S M) (b : List Byte) (now : BitVec 32) (m : Mirror) : (execMirrorPartRx b now m s).All (State.Kept L S M) := by
  refine State.pairRx_kept hs _ _ ?_
  obtain ⟨hg, h0, h1, hc⟩ := hs
  dsimp only
  repeat' split
  all_goals simp [State.Kept, hg, h0, h1, hc]

theorem execSwitchoverReq_kept (hs : s.Kept L S M) (b : List Byte) : (execSwitchoverReq b s).All (State.Kept L S M) := by
  refine State.swapRx_kept hs _ _ ?_
  obtain ⟨hg, h0, h1, hc⟩ := hs
  repeat' split
  all_goals simp [State.Kept, hg, h0, h1, hc]

theorem execSwitchoverReady_kept (hs : s.Kept L S M) (b : List Byte) (now : BitVec 32) : (execSwitchoverReady b now s).All (State.Kept L S M) := by
  refine State.swapRx_kept hs _ _ ?_
  obtain ⟨hg, h0, h1, hc⟩ := hs
  repeat' split
  all_goals simp [State.Kept, hg, h0, h1, hc]

theorem execSwitchoverRefuse_kept (hs : s.Kept L S M) (b : List Byte) : (execSwitchoverRefuse b s).All (State.Kept L S M) := by
  refine State.swapRx_kept hs _ _ ?_
  obtain ⟨hg, h0, h1, hc⟩ := hs
  split <;> simp [State.Kept, hg, h0, h1, hc]

theorem execSwitchoverTake_kept (hs : s.Kept L S M) (b : List Byte) : (execSwitchoverTake b s).All (State.Kept L S M) := by
  refine State.swapRx_kept hs _ _ ?_
  obtain ⟨hg, h0, h1, hc⟩ := hs
  split <;> simp [State.Kept, hg, h0, h1, hc]

theorem execSwitchoverAbandon_kept (hs : s.Kept L S M) (b : List Byte) : (execSwitchoverAbandon b s).All (State.Kept L S M) := by
  refine State.swapRx_kept hs _ _ ?_
  obtain ⟨hg, h0, h1, hc⟩ := hs
  simp [State.Kept, hg, h0, h1, hc]

theorem execSwitchoverTimeout_kept (hs : s.Kept L S M) : (execSwitchoverTimeout s).All (State.Kept L S M) := by
  obtain ⟨hg, h0, h1, hc⟩ := hs
  unfold execSwitchoverTimeout
  split <;> simp [State.Kept, hg, h0, h1, hc]

theorem execHandoverAckTimeout_kept (hs : s.Kept L S M) : (execHandoverAckTimeout s).All (State.Kept L S M) := by
  obtain ⟨hg, h0, h1, hc⟩ := hs
  unfold execHandoverAckTimeout
  split <;> simp [State.Kept, hg, h0, h1, hc]

theorem execHandoverBoundary_kept (hs : s.Kept L S M) (now gap : BitVec 32) : (execHandoverBoundary now gap s).All (State.Kept L S M) := by
  obtain ⟨hg, h0, h1, hc⟩ := hs
  unfold execHandoverBoundary
  repeat' split
  all_goals simp [State.Kept, hg, h0, h1, hc]

theorem execTakeoverDecision_kept (hs : s.Kept L S M) : (execTakeoverDecision s).All (State.Kept L S M) := by
  obtain ⟨hg, h0, h1, hc⟩ := hs
  unfold execTakeoverDecision
  repeat' split
  all_goals simp [State.Kept, hg, h0, h1, hc]

theorem execRefPeriodBoundary_kept (hs : s.Kept L S M) (now : BitVec 32) : (execRefPeriodBoundary now s).All (State.Kept L S M) := by
  obtain ⟨hg, h0, h1, hc⟩ := hs
  simp [execRefPeriodBoundary, State.Kept, hg, h0, h1, hc]

theorem execReserveTest_kept (hs : s.Kept L S M) (own partner : Nat) : (execReserveTest own partner s).All (State.Kept L S M) := by
  obtain ⟨hg, h0, h1, hc⟩ := hs
  simp [execReserveTest, State.Kept, hg, h0, h1, hc]

theorem execReferenceCheck_kept (hs : s.Kept L S M) (ok : Bool) : (execReferenceCheck ok s).All (State.Kept L S M) := by
  obtain ⟨hg, h0, h1, hc⟩ := hs
  simp [execReferenceCheck, State.Kept, hg, h0, h1, hc]

theorem execBothPlantPortsDown_kept (hs : s.Kept L S M) : (execBothPlantPortsDown s).All (State.Kept L S M) := by
  obtain ⟨hg, h0, h1, hc⟩ := hs
  simp [execBothPlantPortsDown, State.Kept, hg, h0, h1, hc]

theorem execPrechargeDone_kept (hs : s.Kept L S M) : (execPrechargeDone s).All (State.Kept L S M) := by
  obtain ⟨hg, h0, h1, hc⟩ := hs
  unfold execPrechargeDone
  split <;> simp [State.Kept, hg, h0, h1, hc]

theorem execPrechargeTimeout_kept (hs : s.Kept L S M) : (execPrechargeTimeout s).All (State.Kept L S M) := by
  obtain ⟨hg, h0, h1, hc⟩ := hs
  simp [execPrechargeTimeout, State.Kept, hg, h0, h1, hc]

theorem execPrechargeCoolExpiry_kept (hs : s.Kept L S M) : (execPrechargeCoolExpiry s).All (State.Kept L S M) := by
  obtain ⟨hg, h0, h1, hc⟩ := hs
  simp [execPrechargeCoolExpiry, State.Kept, hg, h0, h1, hc]

theorem execDegradedTimerExpiry_kept (hs : s.Kept L S M) : (execDegradedTimerExpiry s).All (State.Kept L S M) := by
  obtain ⟨hg, h0, h1, hc⟩ := hs
  unfold execDegradedTimerExpiry
  split <;> simp [State.Kept, hg, h0, h1, hc]

theorem execMaintIdleTimeout_kept (hs : s.Kept L S M) : (execMaintIdleTimeout s).All (State.Kept L S M) := by
  obtain ⟨hg, h0, h1, hc⟩ := hs
  simp [execMaintIdleTimeout, State.Kept, hg, h0, h1, hc]

theorem execAuxContactChange_kept (hs : s.Kept L S M) (k : Fin 4) (closed : Bool) : (execAuxContactChange k closed s).All (State.Kept L S M) := by
  obtain ⟨hg, h0, h1, hc⟩ := hs
  simp [execAuxContactChange, State.Kept, hg, h0, h1, hc]

theorem execPtpAnnounceRx_kept (hs : s.Kept L S M) (m : PtpMsg) (rank : Nat) (gm : BitVec 64) : (execPtpAnnounceRx m rank gm s).All (State.Kept L S M) := by
  obtain ⟨hg, h0, h1, hc⟩ := hs
  simp [execPtpAnnounceRx, State.Kept, hg, h0, h1, hc]

theorem execAnnounceTimeout_kept (hs : s.Kept L S M) (p : PortId) : (execAnnounceTimeout p s).All (State.Kept L S M) := by
  obtain ⟨hg, h0, h1, hc⟩ := hs
  simp [execAnnounceTimeout, State.Kept, hg, h0, h1, hc]

theorem execPtpDelayReqSend_kept (hs : s.Kept L S M) (p : PortId) (egress : Int) : (execPtpDelayReqSend p egress s).All (State.Kept L S M) := by
  obtain ⟨hg, h0, h1, hc⟩ := hs
  simp [execPtpDelayReqSend, State.Kept, hg, h0, h1, hc]

theorem execPtpPdelayReqRx_kept (hs : s.Kept L S M) (m : PtpMsg) : (execPtpPdelayReqRx m s).All (State.Kept L S M) := by
  obtain ⟨hg, h0, h1, hc⟩ := hs
  simp [execPtpPdelayReqRx, State.Kept, hg, h0, h1, hc]

theorem execPtpDelayRespRx_kept (hs : s.Kept L S M) (m : PtpMsg) (rx tx ingress : Int) : (execPtpDelayRespRx m rx tx ingress s).All (State.Kept L S M) := by
  obtain ⟨hg, h0, h1, hc⟩ := hs
  unfold execPtpDelayRespRx
  repeat' split
  all_goals simp [State.Kept, hg, h0, h1, hc]

theorem execPtpSyncRx_kept (hs : s.Kept L S M) (m : PtpMsg) (logInterval : Int) (ingress : Int) (origin : Option Int) (ms : Nat) : (execPtpSyncRx m logInterval ingress origin ms s).All (State.Kept L S M) := by
  obtain ⟨hg, h0, h1, hc⟩ := hs
  unfold execPtpSyncRx
  repeat' split
  all_goals simp [State.Kept, hg, h0, h1, hc]

theorem execPtpFollowUpRx_kept (hs : s.Kept L S M) (m : PtpMsg) (origin : Int) (ms : Nat) : (execPtpFollowUpRx m origin ms s).All (State.Kept L S M) := by
  obtain ⟨hg, h0, h1, hc⟩ := hs
  unfold execPtpFollowUpRx
  repeat' split
  all_goals simp [State.Kept, hg, h0, h1, hc]

theorem execSyncLoss_kept (hs : s.Kept L S M) : (execSyncLoss s).All (State.Kept L S M) := by
  obtain ⟨hg, h0, h1, hc⟩ := hs
  unfold execSyncLoss
  split <;> simp [State.Kept, hg, h0, h1, hc]

theorem execHoldoverExpiry_kept (hs : s.Kept L S M) : (execHoldoverExpiry s).All (State.Kept L S M) := by
  obtain ⟨hg, h0, h1, hc⟩ := hs
  simp [execHoldoverExpiry, State.Kept, hg, h0, h1, hc]

theorem execSecMarkReached_kept (hs : s.Kept L S M) : (execSecMarkReached s).All (State.Kept L S M) := by
  obtain ⟨hg, h0, h1, hc⟩ := hs
  simp [execSecMarkReached, State.Kept, hg, h0, h1, hc]

theorem execExtTimeUpdate_kept (hs : s.Kept L S M) (tb : BitVec 32) (sec : BitVec 48) : (execExtTimeUpdate tb sec s).All (State.Kept L S M) := by
  obtain ⟨hg, h0, h1, hc⟩ := hs
  simp [execExtTimeUpdate, State.Kept, hg, h0, h1, hc]

theorem execTriggerReached_kept (hs : s.Kept L S M) (k : Fin 4) : (execTriggerReached k s).All (State.Kept L S M) := by
  obtain ⟨hg, h0, h1, hc⟩ := hs
  simp [execTriggerReached, State.Kept, hg, h0, h1, hc]

theorem execLmpCorr_kept (hs : s.Kept L S M) (i : Fin 4) (w : Word) : (execLmpCorr i w s).All (State.Kept L S M) := by
  refine State.hostWrite_kept hs _ ?_
  obtain ⟨hg, h0, h1, hc⟩ := hs
  simp [State.Kept, hg, h0, h1, hc]

theorem execMbxRing_kept (hs : s.Kept L S M) (c : Fin 4) (src : Src) : (execMbxRing c src s).All (State.Kept L S M) := by
  refine State.hostWrite_kept hs _ ?_
  obtain ⟨hg, h0, h1, hc⟩ := hs
  simp [State.Kept, hg, h0, h1, hc]

theorem execMbxBufferWrite_kept (hs : s.Kept L S M) (c : Fin 4) (i : Fin 256) (w : Word) : (execMbxBufferWrite c i w s).All (State.Kept L S M) := by
  refine State.hostWrite_kept hs _ ?_
  obtain ⟨hg, h0, h1, hc⟩ := hs
  simp [State.Kept, hg, h0, h1, hc]

theorem execHello_kept (hs : s.Kept L S M) (x : Tx) : (execHello x s).All (State.Kept L S M) := by
  refine State.arrive_kept hs _ _ fun t ⟨hg, h0, h1, hc⟩ => ?_
  dsimp only
  repeat' split
  all_goals simp [State.Kept, hg, h0, h1, hc]

theorem execBye_kept (hs : s.Kept L S M) (x : Tx) : (execBye x s).All (State.Kept L S M) := by
  refine State.transact_kept hs _ _ fun t i ⟨hg, h0, h1, hc⟩ => ?_
  simp [State.Kept, hg, h0, h1, hc]

theorem execKeepalive_kept (hs : s.Kept L S M) (x : Tx) : (execKeepalive x s).All (State.Kept L S M) := by
  refine State.transact_kept hs _ _ fun t i ⟨hg, h0, h1, hc⟩ => ?_
  simp [State.Kept, hg, h0, h1, hc]

theorem execSessionTimeout_kept (hs : s.Kept L S M) (num : Nat) : (execSessionTimeout num s).All (State.Kept L S M) := by
  obtain ⟨hg, h0, h1, hc⟩ := hs
  unfold execSessionTimeout
  split <;> simp [State.Kept, hg, h0, h1, hc]

theorem execBulkRead_kept (hs : s.Kept L S M) (x : Tx) (diff : List Nat) : (execBulkRead x diff s).All (State.Kept L S M) := by
  refine State.transact_kept hs _ _ fun t i ⟨hg, h0, h1, hc⟩ => ?_
  dsimp only
  split <;> simp [State.Kept, hg, h0, h1, hc]

theorem execMbxPoll_kept (hs : s.Kept L S M) (x : Tx) : (execMbxPoll x s).All (State.Kept L S M) := by
  refine State.transact_kept hs _ _ fun t i ⟨hg, h0, h1, hc⟩ => ?_
  dsimp only
  split <;> simp [State.Kept, hg, h0, h1, hc]

theorem execMbxPendingReply_kept (hs : s.Kept L S M) (c : Fin 4) : (execMbxPendingReply c s).All (State.Kept L S M) := by
  obtain ⟨hg, h0, h1, hc⟩ := hs
  simp [execMbxPendingReply, State.Kept, hg, h0, h1, hc]

theorem execAttnAck_kept (hs : s.Kept L S M) (x : Tx) : (execAttnAck x s).All (State.Kept L S M) := by
  refine State.transact_kept hs _ _ fun t i ⟨hg, h0, h1, hc⟩ => ?_
  repeat' split
  all_goals simp [State.Kept, hg, h0, h1, hc]

theorem execAttnRetry_kept (hs : s.Kept L S M) (num : Nat) (aseq : BitVec 32) : (execAttnRetry num aseq s).All (State.Kept L S M) := by
  obtain ⟨hg, h0, h1, hc⟩ := hs
  unfold execAttnRetry
  repeat' split
  all_goals simp [State.Kept, hg, h0, h1, hc]

theorem execDatagramDiscard_kept (hs : s.Kept L S M) (p : PortId) (h : Net) (n : Nat) : (execDatagramDiscard p h n s).All (State.Kept L S M) := by
  obtain ⟨hg, h0, h1, hc⟩ := hs
  simp [execDatagramDiscard, State.Kept, hg, h0, h1, hc]

theorem execNetworkServiceFrame_kept (hs : s.Kept L S M) (p : PortId) (f : SvcFrame) : (execNetworkServiceFrame p f s).All (State.Kept L S M) := by
  obtain ⟨hg, h0, h1, hc⟩ := hs
  unfold execNetworkServiceFrame
  repeat' split
  all_goals simp [State.Kept, hg, h0, h1, hc]

theorem execPortLinkChange_kept (hs : s.Kept L S M) (p : PortId) (linkUp : Bool) : (execPortLinkChange p linkUp s).All (State.Kept L S M) := by
  obtain ⟨hg, h0, h1, hc⟩ := hs
  simp [execPortLinkChange, State.Kept, hg, h0, h1, hc]

theorem execCmdConnect_kept (hs : s.Kept L S M) (c : Fin 4) : (execCmdConnect c s).All (State.Kept L S M) := by
  refine State.serve_kept hs _ _ fun p => ?_
  obtain ⟨hg, h0, h1, hc⟩ := hs
  split <;> simp [State.Kept, hg, h0, h1, hc]

theorem execCmdDispatchOn_kept (hs : s.Kept L S M) (c : Fin 4) : (execCmdDispatchOn c s).All (State.Kept L S M) := by
  refine State.serve_kept hs _ _ fun p => ?_
  obtain ⟨hg, h0, h1, hc⟩ := hs
  dsimp only
  split <;> simp [State.Kept, hg, h0, h1, hc]

theorem execCmdDispatchOff_kept (hs : s.Kept L S M) (c : Fin 4) : (execCmdDispatchOff c s).All (State.Kept L S M) := by
  refine State.serve_kept hs _ _ fun p => ?_
  obtain ⟨hg, h0, h1, hc⟩ := hs
  split <;> simp [State.Kept, hg, h0, h1, hc]

theorem execCmdOpen_kept (hs : s.Kept L S M) (c : Fin 4) : (execCmdOpen c s).All (State.Kept L S M) := by
  refine State.serve_kept hs _ _ fun p => ?_
  obtain ⟨hg, h0, h1, hc⟩ := hs
  simp [State.Kept, hg, h0, h1, hc]

theorem execCmdReset_kept (hs : s.Kept L S M) (c : Fin 4) : (execCmdReset c s).All (State.Kept L S M) := by
  refine State.serve_kept hs _ _ fun p => ?_
  obtain ⟨hg, h0, h1, hc⟩ := hs
  simp [State.Kept, hg, h0, h1, hc]

theorem execCmdDomainPower_kept (hs : s.Kept L S M) (c : Fin 4) : (execCmdDomainPower c s).All (State.Kept L S M) := by
  refine State.serve_kept hs _ _ fun p => ?_
  obtain ⟨hg, h0, h1, hc⟩ := hs
  simp [State.Kept, hg, h0, h1, hc]

theorem execCmdSwap_kept (hs : s.Kept L S M) (c : Fin 4) : (execCmdSwap c s).All (State.Kept L S M) := by
  refine State.serve_kept hs _ _ fun p => ?_
  obtain ⟨hg, h0, h1, hc⟩ := hs
  repeat' split
  all_goals simp [State.Kept, hg, h0, h1, hc]

theorem execCmdSelftest_kept (hs : s.Kept L S M) (c : Fin 4) (r : SelfTest) : (execCmdSelftest c r s).All (State.Kept L S M) := by
  refine State.serve_kept hs _ _ fun p => ?_
  obtain ⟨hg, h0, h1, hc⟩ := hs
  simp [State.Kept, hg, h0, h1, hc]

theorem execCmdHealth_kept (hs : s.Kept L S M) (c : Fin 4) : (execCmdHealth c s).All (State.Kept L S M) := by
  refine State.serve_kept hs _ _ fun p => ?_
  obtain ⟨hg, h0, h1, hc⟩ := hs
  simp [State.Kept, hg, h0, h1, hc]

theorem execCmdSchedLoad_kept (hs : s.Kept L S M) (c : Fin 4) : (execCmdSchedLoad c s).All (State.Kept L S M) := by
  refine State.serve_kept hs _ _ fun p => ?_
  obtain ⟨hg, h0, h1, hc⟩ := hs
  dsimp only
  repeat' split
  all_goals simp [State.Kept, hg, h0, h1, hc]

theorem execCmdSchedInfo_kept (hs : s.Kept L S M) (c : Fin 4) : (execCmdSchedInfo c s).All (State.Kept L S M) := by
  refine State.serve_kept hs _ _ fun p => ?_
  obtain ⟨hg, h0, h1, hc⟩ := hs
  simp [State.Kept, hg, h0, h1, hc]

theorem execCmdBalCtl_kept (hs : s.Kept L S M) (c : Fin 4) : (execCmdBalCtl c s).All (State.Kept L S M) := by
  refine State.serve_kept hs _ _ fun p => ?_
  obtain ⟨hg, h0, h1, hc⟩ := hs
  simp [State.Kept, hg, h0, h1, hc]

theorem execCmdBalStatus_kept (hs : s.Kept L S M) (c : Fin 4) : (execCmdBalStatus c s).All (State.Kept L S M) := by
  refine State.serve_kept hs _ _ fun p => ?_
  obtain ⟨hg, h0, h1, hc⟩ := hs
  simp [State.Kept, hg, h0, h1, hc]

theorem execCmdCalDischarge_kept (hs : s.Kept L S M) (c : Fin 4) : (execCmdCalDischarge c s).All (State.Kept L S M) := by
  refine State.serve_kept hs _ _ fun p => ?_
  obtain ⟨hg, h0, h1, hc⟩ := hs
  split <;> simp [State.Kept, hg, h0, h1, hc]

theorem execCmdCapReport_kept (hs : s.Kept L S M) (c : Fin 4) : (execCmdCapReport c s).All (State.Kept L S M) := by
  refine State.serve_kept hs _ _ fun p => ?_
  obtain ⟨hg, h0, h1, hc⟩ := hs
  simp [State.Kept, hg, h0, h1, hc]

theorem execCmdCapWrite_kept (hs : s.Kept L S M) (c : Fin 4) : (execCmdCapWrite c s).All (State.Kept L S M) := by
  refine State.serve_kept hs _ _ fun p => ?_
  obtain ⟨hg, h0, h1, hc⟩ := hs
  split <;> simp [State.Kept, hg, h0, h1, hc]

theorem execCmdCapCommit_kept (hs : s.Kept L S M) (c : Fin 4) : (execCmdCapCommit c s).All (State.Kept L S M) := by
  refine State.serve_kept hs _ _ fun p => ?_
  obtain ⟨hg, h0, h1, hc⟩ := hs
  split <;> simp [State.Kept, hg, h0, h1, hc]

theorem execCmdParamRead_kept (hs : s.Kept L S M) (c : Fin 4) : (execCmdParamRead c s).All (State.Kept L S M) := by
  refine State.serve_kept hs _ _ fun p => ?_
  obtain ⟨hg, h0, h1, hc⟩ := hs
  simp [State.Kept, hg, h0, h1, hc]

theorem execCmdSettingsCommit_kept (hs : s.Kept L S M) (c : Fin 4) : (execCmdSettingsCommit c s).All (State.Kept L S M) := by
  refine State.serve_kept hs _ _ fun p => ?_
  obtain ⟨hg, h0, h1, hc⟩ := hs
  simp [State.Kept, hg, h0, h1, hc]

theorem execCmdSettingsDefault_kept (hs : s.Kept L S M) (c : Fin 4) : (execCmdSettingsDefault c s).All (State.Kept L S M) := by
  refine State.serve_kept hs _ _ fun p => ?_
  obtain ⟨hg, h0, h1, hc⟩ := hs
  simp [State.Kept, hg, h0, h1, hc]

theorem execCmdPairWrite_kept (hs : s.Kept L S M) (c : Fin 4) : (execCmdPairWrite c s).All (State.Kept L S M) := by
  refine State.serve_kept hs _ _ fun p => ?_
  obtain ⟨hg, h0, h1, hc⟩ := hs
  dsimp only
  split <;> simp [State.Kept, hg, h0, h1, hc]

theorem execCmdPairClear_kept (hs : s.Kept L S M) (c : Fin 4) : (execCmdPairClear c s).All (State.Kept L S M) := by
  refine State.serve_kept hs _ _ fun p => ?_
  obtain ⟨hg, h0, h1, hc⟩ := hs
  dsimp only
  repeat' split
  all_goals simp [State.Kept, hg, h0, h1, hc]

theorem execCmdPairRead_kept (hs : s.Kept L S M) (c : Fin 4) : (execCmdPairRead c s).All (State.Kept L S M) := by
  refine State.serve_kept hs _ _ fun p => ?_
  obtain ⟨hg, h0, h1, hc⟩ := hs
  simp [State.Kept, hg, h0, h1, hc]

theorem execCmdLinkKeyChange_kept (hs : s.Kept L S M) (c : Fin 4) : (execCmdLinkKeyChange c s).All (State.Kept L S M) := by
  refine State.serve_kept hs _ _ fun p => ?_
  obtain ⟨hg, h0, h1, hc⟩ := hs
  split <;> simp [State.Kept, hg, h0, h1, hc]

theorem execCmdNodeCmd_kept (hs : s.Kept L S M) (c : Fin 4) : (execCmdNodeCmd c s).All (State.Kept L S M) := by
  refine State.serve_kept hs _ _ fun p => ?_
  obtain ⟨hg, h0, h1, hc⟩ := hs
  simp [State.Kept, hg, h0, h1, hc]

theorem execCmdLogRead_kept (hs : s.Kept L S M) (c : Fin 4) : (execCmdLogRead c s).All (State.Kept L S M) := by
  refine State.serve_kept hs _ _ fun p => ?_
  obtain ⟨hg, h0, h1, hc⟩ := hs
  simp [State.Kept, hg, h0, h1, hc]

theorem execCmdLogClear_kept (hs : s.Kept L S M) (c : Fin 4) : (execCmdLogClear c s).All (State.Kept L S M) := by
  refine State.serve_kept hs _ _ fun p => ?_
  obtain ⟨hg, h0, h1, hc⟩ := hs
  simp [State.Kept, hg, h0, h1, hc]

theorem execCmdSagLogin_kept (hs : s.Kept L S M) (c : Fin 4) : (execCmdSagLogin c s).All (State.Kept L S M) := by
  refine State.serve_kept hs _ _ fun p => ?_
  obtain ⟨hg, h0, h1, hc⟩ := hs
  repeat' split
  all_goals simp [State.Kept, hg, h0, h1, hc]

theorem execCmdSagStage_kept (hs : s.Kept L S M) (c : Fin 4) : (execCmdSagStage c s).All (State.Kept L S M) := by
  refine State.serve_kept hs _ _ fun p => ?_
  obtain ⟨hg, h0, h1, hc⟩ := hs
  split <;> simp [State.Kept, hg, h0, h1, hc]

theorem execCmdSagCommit_kept (hs : s.Kept L S M) (c : Fin 4) : (execCmdSagCommit c s).All (State.Kept L S M) := by
  refine State.serve_kept hs _ _ fun p => ?_
  obtain ⟨hg, h0, h1, hc⟩ := hs
  repeat' split
  all_goals simp [State.Kept, hg, h0, h1, hc]

theorem execCmdSagAbort_kept (hs : s.Kept L S M) (c : Fin 4) : (execCmdSagAbort c s).All (State.Kept L S M) := by
  refine State.serve_kept hs _ _ fun p => ?_
  obtain ⟨hg, h0, h1, hc⟩ := hs
  simp [State.Kept, hg, h0, h1, hc]

theorem execCmdSagPassword_kept (hs : s.Kept L S M) (c : Fin 4) : (execCmdSagPassword c s).All (State.Kept L S M) := by
  refine State.serve_kept hs _ _ fun p => ?_
  obtain ⟨hg, h0, h1, hc⟩ := hs
  repeat' split
  all_goals simp [State.Kept, hg, h0, h1, hc]

theorem execCmdSagLogRead_kept (hs : s.Kept L S M) (c : Fin 4) : (execCmdSagLogRead c s).All (State.Kept L S M) := by
  refine State.serve_kept hs _ _ fun p => ?_
  obtain ⟨hg, h0, h1, hc⟩ := hs
  dsimp only
  split <;> simp [State.Kept, hg, h0, h1, hc]

theorem execCmdSagLogAck_kept (hs : s.Kept L S M) (c : Fin 4) : (execCmdSagLogAck c s).All (State.Kept L S M) := by
  refine State.serve_kept hs _ _ fun p => ?_
  obtain ⟨hg, h0, h1, hc⟩ := hs
  dsimp only
  repeat' split
  all_goals simp [State.Kept, hg, h0, h1, hc]

theorem execMbxReplyPosted_kept (hs : s.Kept L S M) (c : Option (Fin 4)) (rb : Bool) : (execMbxReplyPosted c rb s).All (State.Kept L S M) := by
  obtain ⟨hg, h0, h1, hc⟩ := hs
  unfold execMbxReplyPosted
  repeat' split
  all_goals simp [State.Kept, hg, h0, h1, hc]

theorem execCsmArbitrationRound_kept (hs : s.Kept L S M) (want : List Nat) : (execCsmArbitrationRound want s).All (State.Kept L S M) := by
  obtain ⟨hg, h0, h1, hc⟩ := hs
  unfold execCsmArbitrationRound
  split <;> simp [State.Kept, hg, h0, h1, hc]

theorem execUpdBlock_kept (hs : s.Kept L S M) (x : Tx) : (execUpdBlock x s).All (State.Kept L S M) := by
  refine State.transact_kept hs _ _ fun t i ⟨hg, h0, h1, hc⟩ => ?_
  dsimp only
  repeat' split
  all_goals simp [State.Kept, hg, h0, h1, hc]

theorem execBlockForwardRepeat_kept (hs : s.Kept L S M) (reply : Option (List Byte)) : (execBlockForwardRepeat reply s).All (State.Kept L S M) := by
  obtain ⟨hg, h0, h1, hc⟩ := hs
  unfold execBlockForwardRepeat
  dsimp only
  repeat' split
  all_goals simp [State.Kept, hg, h0, h1, hc]

theorem execCmdUpdateBegin_kept (hs : s.Kept L S M) (c : Fin 4) : (execCmdUpdateBegin c s).All (State.Kept L S M) := by
  refine State.serve_kept hs _ _ fun p => ?_
  obtain ⟨hg, h0, h1, hc⟩ := hs
  split <;> simp [State.Kept, hg, h0, h1, hc]

theorem execCmdUpdateStage_kept (hs : s.Kept L S M) (c : Fin 4) : (execCmdUpdateStage c s).All (State.Kept L S M) := by
  refine State.serve_kept hs _ _ fun p => ?_
  obtain ⟨hg, h0, h1, hc⟩ := hs
  simp [State.Kept, hg, h0, h1, hc]

theorem execCmdUpdateActivate_kept (hs : s.Kept L S M) (c : Fin 4) : (execCmdUpdateActivate c s).All (State.Kept L S M) := by
  refine State.serve_kept hs _ _ fun p => ?_
  obtain ⟨hg, h0, h1, hc⟩ := hs
  repeat' split
  all_goals simp [State.Kept, hg, h0, h1, hc]

theorem execCmdUpdateAbort_kept (hs : s.Kept L S M) (c : Fin 4) : (execCmdUpdateAbort c s).All (State.Kept L S M) := by
  refine State.serve_kept hs _ _ fun p => ?_
  obtain ⟨hg, h0, h1, hc⟩ := hs
  simp [State.Kept, hg, h0, h1, hc]

theorem execCmdUpdateStatus_kept (hs : s.Kept L S M) (c : Fin 4) : (execCmdUpdateStatus c s).All (State.Kept L S M) := by
  refine State.serve_kept hs _ _ fun p => ?_
  obtain ⟨hg, h0, h1, hc⟩ := hs
  simp [State.Kept, hg, h0, h1, hc]

theorem execMgpResume_kept (hs : s.Kept L S M) : (execMgpResume s).All (State.Kept L S M) := by
  obtain ⟨hg, h0, h1, hc⟩ := hs
  unfold execMgpResume
  split <;> simp [State.Kept, hg, h0, h1, hc]

theorem execLoaderCopyDone_kept (hs : s.Kept L S M) (ok : Bool) : (execLoaderCopyDone ok s).All (State.Kept L S M) := by
  obtain ⟨hg, h0, h1, hc⟩ := hs
  unfold execLoaderCopyDone
  repeat' split
  all_goals simp [State.Kept, hg, h0, h1, hc]

theorem execNewMgpTimeout_kept (hs : s.Kept L S M) : (execNewMgpTimeout s).All (State.Kept L S M) := by
  obtain ⟨hg, h0, h1, hc⟩ := hs
  unfold execNewMgpTimeout
  split <;> simp [State.Kept, hg, h0, h1, hc]

theorem execAckRx_kept (hs : s.Kept L S M) (u : Fin 2) (f : RxFrame) : (execAckRx u f s).All (State.Kept L S M) := by
  obtain ⟨hg, h0, h1, hc⟩ := hs
  unfold execAckRx
  repeat' split
  all_goals simp [State.Kept, hg, h0, h1, hc]

theorem execDn8NodeStage_kept (hs : s.Kept L S M) (u : Fin 2) : (execDn8NodeStage u s).All (State.Kept L S M) := by
  obtain ⟨hg, h0, h1, hc⟩ := hs
  unfold execDn8NodeStage
  repeat' split
  all_goals simp [State.Kept, hg, h0, h1, hc]

theorem execDn8NodeActivate_kept (hs : s.Kept L S M) : (execDn8NodeActivate s).All (State.Kept L S M) := by
  obtain ⟨hg, h0, h1, hc⟩ := hs
  unfold execDn8NodeActivate
  repeat' split
  all_goals simp [State.Kept, hg, h0, h1, hc]

theorem execSpyP_kept (hs : s.Kept L S M) (index n : Nat) : (execSpyP index n s).All (State.Kept L S M) := by
  refine State.monitor_kept hs _ fun t ⟨hg, h0, h1, hc⟩ => ?_
  dsimp only
  split <;> simp [State.Kept, hg, h0, h1, hc]

theorem execSpyCsm_kept (hs : s.Kept L S M) (g n : Nat) : (execSpyCsm g n s).All (State.Kept L S M) := by
  refine State.monitor_kept hs _ fun t ⟨hg, h0, h1, hc⟩ => ?_
  split <;> simp [State.Kept, hg, h0, h1, hc]

theorem execSpyLog_kept (hs : s.Kept L S M) (slot n : Nat) : (execSpyLog slot n s).All (State.Kept L S M) := by
  refine State.monitor_kept hs _ fun t ⟨hg, h0, h1, hc⟩ => ?_
  split <;> simp [State.Kept, hg, h0, h1, hc]

theorem execSpyHealth_kept (hs : s.Kept L S M) : (execSpyHealth s).All (State.Kept L S M) := by
  refine State.monitor_kept hs _ fun t ⟨hg, h0, h1, hc⟩ => ?_
  simp [State.Kept, hg, h0, h1, hc]

theorem execSpyKeys_kept (hs : s.Kept L S M) : (execSpyKeys s).All (State.Kept L S M) := by
  refine State.monitor_kept hs _ fun t ⟨hg, h0, h1, hc⟩ => ?_
  simp [State.Kept, hg, h0, h1, hc]

theorem execSpyTraceCe_kept (hs : s.Kept L S M) (p : Fin 16) (trig : CeTrig) : (execSpyTraceCe p trig s).All (State.Kept L S M) := by
  refine State.monitor_kept hs _ fun t ⟨hg, h0, h1, hc⟩ => ?_
  simp [State.Kept, hg, h0, h1, hc]

theorem execSpyTraceFsq_kept (hs : s.Kept L S M) : (execSpyTraceFsq s).All (State.Kept L S M) := by
  refine State.monitor_kept hs _ fun t ⟨hg, h0, h1, hc⟩ => ?_
  simp [State.Kept, hg, h0, h1, hc]

theorem execSpyCtrlC_kept (hs : s.Kept L S M) : (execSpyCtrlC s).All (State.Kept L S M) := by
  obtain ⟨hg, h0, h1, hc⟩ := hs
  unfold execSpyCtrlC
  split <;> simp [State.Kept, hg, h0, h1, hc]

theorem execSpySagLogin_kept (hs : s.Kept L S M) (password : List Byte) : (execSpySagLogin password s).All (State.Kept L S M) := by
  refine State.spySafety_kept hs fun t ⟨hg, h0, h1, hc⟩ => ?_
  repeat' split
  all_goals simp [State.Kept, hg, h0, h1, hc]

theorem execSpySagStage_kept (hs : s.Kept L S M) (index : Nat) (value : Word) : (execSpySagStage index value s).All (State.Kept L S M) := by
  refine State.spySafety_kept hs fun t ⟨hg, h0, h1, hc⟩ => ?_
  split <;> simp [State.Kept, hg, h0, h1, hc]

theorem execSpySagCommit_kept (hs : s.Kept L S M) : (execSpySagCommit s).All (State.Kept L S M) := by
  refine State.spySafety_kept hs fun t ⟨hg, h0, h1, hc⟩ => ?_
  repeat' split
  all_goals simp [State.Kept, hg, h0, h1, hc]

theorem execSpySagAbort_kept (hs : s.Kept L S M) : (execSpySagAbort s).All (State.Kept L S M) := by
  refine State.spySafety_kept hs fun t ⟨hg, h0, h1, hc⟩ => ?_
  simp [State.Kept, hg, h0, h1, hc]

theorem execSpyBye_kept (hs : s.Kept L S M) : (execSpyBye s).All (State.Kept L S M) := by
  refine State.monitor_kept hs _ fun t ⟨hg, h0, h1, hc⟩ => ?_
  simp [State.Kept, hg, h0, h1, hc]

theorem execSpyUnknownLine_kept (hs : s.Kept L S M) : (execSpyUnknownLine s).All (State.Kept L S M) := by
  obtain ⟨hg, h0, h1, hc⟩ := hs
  unfold execSpyUnknownLine
  split <;> simp [State.Kept, hg, h0, h1, hc]

end
end Sys2Proof.Machine

namespace Sys2Proof.Machine

@[simp] theorem Sag.otWindow_latch (g : Sag) (p : Nat) (a : Bool) : (g.otWindow p a).latch = g.latch := rfl
@[simp] theorem Sag.otWindow_coil (g : Sag) (p : Nat) (a : Bool) : (g.otWindow p a).coil = g.coil := rfl
@[simp] theorem Sag.clears_latch (g : Sag) (c : Nat) : (g.clears c).latch = g.latch := rfl
@[simp] theorem Sag.clears_coil (g : Sag) (c : Nat) : (g.clears c).coil = g.coil := rfl
@[simp] theorem Sag.coilOff_latch (g : Sag) (k : Nat) : (g.coilOff k).latch = g.latch := rfl
@[simp] theorem Sag.coilOff_coil (g : Sag) (k : Nat) : (g.coilOff k).coil = g.coil.set k false := rfl

section
variable {L S M : Prop} {s : State}

theorem execTempCountWindow_kept (hs : s.Kept L S M) (p : Fin 16) (count : Nat) : (execTempCountWindow p count s).All (State.Kept L S M) := by
  obtain ⟨hg, h0, h1, hc⟩ := hs
  unfold execTempCountWindow
  dsimp only
  repeat' split
  all_goals simp [State.Kept, hg, h0, h1, hc]

theorem execTempLineFail_kept (hs : s.Kept L S M) (p : Fin 16) : (execTempLineFail p s).All (State.Kept L S M) := by
  obtain ⟨hg, h0, h1, hc⟩ := hs
  simp [execTempLineFail, State.Kept, hg, h0, h1, hc]

theorem execPhmFltClr_kept (hs : s.Kept L S M) (w still : Word) : (execPhmFltClr w still s).All (State.Kept L S M) := by
  unfold execPhmFltClr
  split
  · simp
  · refine State.hostWrite_kept hs _ ((Out.all_next _).2 ?_)
    have hf : (((List.range 16).foldl (fun (t : State) (p : Nat) =>
        let x := nth t.phm.ph p {}
        if bitOf w.toNat p && x.fault != 0 && !bitOf still.toNat p && !nth t.phm.hidErr (p / 4) false then
          t.modPh p (fun y => { y with fault := 0 })
        else t) s)).Kept L S M := List.foldlRecOn (motive := State.Kept L S M) _ _ hs fun t ⟨hg, h0, h1, hc⟩ p _ => by
      dsimp only
      split <;> simp [State.Kept, hg, h0, h1, hc]
    exact hf.same (by simp) (by simp) (by simp) (by simp) (by simp)

theorem execCtlMode_kept (hs : s.Kept L S M) (w : Word) : (execCtlMode w s).All (State.Kept L S M) := by
  unfold execCtlMode
  split
  · simp
  · split
    · simp
    · exact State.ownerWrite_kept hs _ ((Out.all_next _).2 (hs.same rfl rfl rfl rfl rfl))

theorem execCtlCmdI_kept (hs : s.Kept L S M) (w : Word) : (execCtlCmdI w s).All (State.Kept L S M) := State.cmdReg_kept hs _ _ _

theorem execCtlCmdP_kept (hs : s.Kept L S M) (w : Word) : (execCtlCmdP w s).All (State.Kept L S M) := State.cmdReg_kept hs _ _ _

theorem execCtlCmdV_kept (hs : s.Kept L S M) (w : Word) : (execCtlCmdV w s).All (State.Kept L S M) := State.cmdReg_kept hs _ _ _

theorem execScheduleBankWrite_kept (hs : s.Kept L S M) (bank : Fin 2) (i : Fin 16384) (w : Word) :
    (execScheduleBankWrite bank i w s).All (State.Kept L S M) := by
  refine State.hostWrite_kept hs _ ((Out.all_next _).2 ?_)
  obtain ⟨hg, h0, h1, hc⟩ := hs
  exact ⟨hg, Fsq.bankPut_bank0Kept h0 _ _ _, Fsq.bankPut_bank1Kept h1 _ _ _, hc⟩

theorem execLogCheckpoint_kept (hs : s.Kept L S M) (m : EntryIn) : (execLogCheckpoint m s).All (State.Kept L S M) := by
  unfold execLogCheckpoint
  split
  · simpa using hs
  · next h => simpa using State.gate_skipped_kept hs h
  · simp
  · next h =>
    obtain ⟨hg, h0, h1, hc⟩ := State.gate_run_kept hs h
    dsimp only
    split <;> simp [State.Kept, hg, h0, h1, hc]

theorem execIsolationDemandRx_kept (hs : s.Kept L S M) (b : Option (List Byte)) : (execIsolationDemandRx b s).All (State.Kept L S M) := by
  unfold execIsolationDemandRx
  split
  · exact (Out.all_next _).2 (hs.same rfl rfl rfl rfl rfl)
  · refine State.pairRx_kept hs _ _ ?_
    obtain ⟨hg, h0, h1, hc⟩ := hs
    simp [State.Kept, hg, h0, h1, hc]

theorem execCoilPathOvercurrent_kept (hs : s.Kept L S M) (k : Fin 4) : (execCoilPathOvercurrent k s).All (State.Kept L S M) := by
  obtain ⟨hg, h0, h1, hc⟩ := hs
  have hk := State.coilTestFail_sagKept (s := { s with sag := s.sag.coilOff k.val }) (hg.setFalse k.val) (2 * k.val)
  simp [execCoilPathOvercurrent, State.Kept, hk, h0, h1, hc]

theorem execCloseTimeout_kept (hs : s.Kept L S M) (k : Fin 4) : (execCloseTimeout k s).All (State.Kept L S M) := by
  obtain ⟨hg, h0, h1, hc⟩ := hs
  unfold execCloseTimeout
  dsimp only
  repeat' split
  all_goals simp [State.Kept, hg, h0, h1, hc]

theorem execBootVerifyDone_kept (hs : s.Kept L S M) (mgpOk sagOk : Bool) : (execBootVerifyDone mgpOk sagOk s).All (State.Kept L S M) := by
  obtain ⟨hg, h0, h1, hc⟩ := hs
  unfold execBootVerifyDone
  dsimp only
  repeat' split
  all_goals simp [State.Kept, hg, h0, h1, hc]

theorem execSelftestDone_kept (hs : s.Kept L S M) (r : SelfTest) : (execSelftestDone r s).All (State.Kept L S M) := by
  obtain ⟨hg, h0, h1, hc⟩ := hs
  unfold execSelftestDone
  dsimp only
  repeat' split
  all_goals simp [State.Kept, hg, h0, h1, hc]

theorem execFeedGood_kept (hs : s.Kept L S M) (a b : Bool) : (execFeedGood a b s).All (State.Kept L S M) := by
  obtain ⟨hg, h0, h1, hc⟩ := hs
  unfold execFeedGood
  dsimp only
  split <;> simp [State.Kept, hg, h0, h1, hc]

theorem execBrownOutWarning_kept (hs : s.Kept L S M) : (execBrownOutWarning s).All (State.Kept L S M) := by
  obtain ⟨hg, h0, h1, hc⟩ := hs
  unfold execBrownOutWarning
  dsimp only
  repeat' split
  all_goals simp [State.Kept, hg, h0, h1, hc, hg.reset]

theorem execBoCoilsOff_kept (hs : s.Kept L S M) : (execBoCoilsOff s).All (State.Kept L S M) := by
  obtain ⟨hg, h0, h1, hc⟩ := hs
  unfold execBoCoilsOff
  split <;> simp [State.Kept, hg, h0, h1, hc, hg.reset]

theorem execBoCommitDone_kept (hs : s.Kept L S M) : (execBoCommitDone s).All (State.Kept L S M) := by
  obtain ⟨hg, h0, h1, hc⟩ := hs
  unfold execBoCommitDone
  dsimp only
  repeat' split
  all_goals simp [State.Kept, hg, h0, h1, hc]

theorem execFeedReturn_kept (hs : s.Kept L S M) : (execFeedReturn s).All (State.Kept L S M) := by
  obtain ⟨hg, h0, h1, hc⟩ := hs
  unfold execFeedReturn
  dsimp only
  repeat' split
  all_goals simp [State.Kept, hg, h0, h1, hc]

theorem execMgpWatchdog_kept (hs : s.Kept L S M) : (execMgpWatchdog s).All (State.Kept L S M) := by
  obtain ⟨hg, h0, h1, hc⟩ := hs
  unfold execMgpWatchdog
  dsimp only
  repeat' split
  all_goals simp [State.Kept, hg, h0, h1, hc]

theorem execPathsRelease_kept (hs : s.Kept L S M) : (execPathsRelease s).All (State.Kept L S M) := by
  obtain ⟨hg, h0, h1, hc⟩ := hs
  unfold execPathsRelease
  split <;> simp [State.Kept, hg, h0, h1, hc, hg.reset]

theorem execHousekeepingTick_kept (hs : s.Kept L S M) (m : TickIn) : (execHousekeepingTick m s).All (State.Kept L S M) := by
  obtain ⟨hg, h0, h1, hc⟩ := hs
  unfold execHousekeepingTick
  repeat' split
  all_goals simp [State.Kept, hg, h0, h1, hc]

theorem execLmpTrig_kept (hs : s.Kept L S M) (k : Fin 4) (w : Word) : (execLmpTrig k w s).All (State.Kept L S M) := by
  refine State.hostWrite_kept hs _ ?_
  obtain ⟨hg, h0, h1, hc⟩ := hs
  split <;> simp [State.Kept, hg, h0, h1, hc]

theorem execMgpTakeRequest_kept (hs : s.Kept L S M) : (execMgpTakeRequest s).All (State.Kept L S M) := by
  obtain ⟨hg, h0, h1, hc⟩ := hs
  have hr : ∀ c, ChKept M (s.mbx.ch.modify c (fun x => { x with st := .running, wasRunning := false })) := fun c => hc.modify c fun _ hx => hx
  unfold execMgpTakeRequest
  dsimp only
  repeat' split
  all_goals simp [State.Kept, hg, h0, h1, hc, hr]

theorem execMbxReq_kept (hs : s.Kept L S M) (x : Tx) : (execMbxReq x s).All (State.Kept L S M) := by
  refine State.transact_kept hs _ _ fun t i ⟨hg, h0, h1, hc⟩ => ?_
  have hp := hc.modify (leAt x.payload 0 1) (f := fun y => { y with reqBuf := memPutL y.reqBuf 0 (x.payload.drop 4) })
    fun _ hx => ⟨hx.1.put _ _, hx.2⟩
  dsimp only
  repeat' split
  all_goals simp [State.Kept, hg, h0, h1, hc, hp]

theorem execDispatchPdu_kept (hs : s.Kept L S M) (p : PortId) (b : List Byte) (now : BitVec 32) (idle : Bool) (h : Net) :
    (execDispatchPdu p b now idle h s).All (State.Kept L S M) := by
  refine State.datagram_kept (s := s.atTime now) (hs.same rfl rfl rfl rfl rfl) _ _ _ _ ?_
  obtain ⟨hg, h0, h1, hc⟩ := hs
  dsimp only
  repeat' split
  all_goals simp [State.Kept, hg, h0, h1, hc]

theorem execNewMgpReady_kept (hs : s.Kept L S M) : (execNewMgpReady s).All (State.Kept L S M) := by
  obtain ⟨hg, h0, h1, hc⟩ := hs
  unfold execNewMgpReady
  repeat' split
  all_goals simp [State.Kept, hg, h0, h1, hc]

theorem execSpyR_kept (hs : s.Kept L S M) (addr n : Nat) : (execSpyR addr n s).All (State.Kept L S M) := by
  refine State.monitor_kept hs _ fun t ⟨hg, h0, h1, hc⟩ => ?_
  dsimp only
  repeat' split
  all_goals simp [State.Kept, hg, h0, h1, hc]

theorem execRegRead_kept (hs : s.Kept L S M) (x : Tx) : (execRegRead x s).All (State.Kept L S M) := by
  unfold execRegRead
  extract_lets addr count
  refine State.transact_kept hs _ _ fun t i ⟨hg, h0, h1, hc⟩ => ?_
  split
  · simp [State.Kept, hg, h0, h1, hc]
  · have hr : (t.readRegs true addr count).2.Kept L S M := by simp [State.Kept, hg, h0, h1, hc]
    obtain ⟨hg, h0, h1, hc⟩ := hr
    exact (Out.all_next _).2 ⟨by simpa using hg, by simpa using h0, by simpa using h1, by simpa using hc⟩

theorem execSpyM_kept (hs : s.Kept L S M) (code : BitVec 16) (bytes : List Byte) : (execSpyM code bytes s).All (State.Kept L S M) := by
  refine State.spyWrite_kept hs fun t ⟨hg, h0, h1, hc⟩ => ?_
  have hp : ∀ c l, ChKept M (t.mbx.ch.modify c (fun x => { x with reqBuf := memPutL x.reqBuf 0 l })) :=
    fun c l => hc.modify c fun _ hx => ⟨hx.1.put _ _, hx.2⟩
  split <;> simp [State.Kept, hg, h0, h1, hc, hp]

theorem execSpyReset_kept (hs : s.Kept L S M) : (execSpyReset s).All (State.Kept L S M) := by
  refine State.monitor_kept hs _ fun t ⟨hg, h0, h1, hc⟩ => ?_
  repeat' split
  all_goals simp [State.Kept, hg, h0, h1, hc]

theorem State.takeFlight_kept {t : State} {n : Nat} {q : NodeCmd} (hs : s.Kept L S M) (e : s.takeFlight n = some (q, t)) : t.Kept L S M := by
  unfold State.takeFlight at e
  split at e
  · cases e
  · cases e
    exact hs.same rfl rfl rfl rfl rfl

theorem execCommandRetry_kept (hs : s.Kept L S M) (n : Fin 48) : (execCommandRetry n s).All (State.Kept L S M) := by
  unfold execCommandRetry
  split
  · simpa using hs
  · split
    · simpa using hs
    · next e =>
      split
      · exact (Out.all_next _).2 (hs.same rfl rfl rfl rfl rfl)
      · obtain ⟨hg, h0, h1, hc⟩ := State.takeFlight_kept hs e
        simp [State.Kept, hg, h0, h1, hc]

theorem State.writeBw_kept (hs : s.Kept L S M) (i w : Nat) : (s.writeBw i w).All (State.Kept L S M) := by
  unfold State.writeBw
  split
  · refine State.ownerWrite_kept hs _ ?_
    obtain ⟨hg, h0, h1, hc⟩ := hs
    simp [State.Kept, hg, h0, h1, hc]
  · simp

theorem State.writeCoef_kept (hs : s.Kept L S M) (w : Nat) : (s.writeCoef w).All (State.Kept L S M) := by
  unfold State.writeCoef
  split
  · next h =>
    have ht := execCoefHold_kept hs _ _ h
    split
    · exact execCoefLoad_kept ht
    · simpa using ht
  · next h => exact execCoefHold_kept hs _

theorem State.plainWrite_kept (hs : s.Kept L S M) (r : Reg) : (s.plainWrite r).Kept L S M := by
  unfold State.plainWrite
  split
  · exact hs
  · exact hs.same rfl rfl rfl rfl rfl

/-- A word written to a register keeps what the invariants want, whatever register it is. -/
theorem State.writeTo_kept (hs : s.Kept L S M) (r : Reg) (w still : Word) (src : Src) : (s.writeTo r w still src).All (State.Kept L S M) := by
  have plain := (Out.all_next (P := State.Kept L S M) _).2 (State.plainWrite_kept hs r)
  unfold State.writeTo
  dsimp only
  split
  · split
    · refine State.hostWrite_kept hs _ ?_
      obtain ⟨hg, h0, h1, hc⟩ := hs
      simp [State.Kept, hg, h0, h1, hc]
    · exact plain
  · refine State.hostWrite_kept hs _ ?_
    obtain ⟨hg, h0, h1, hc⟩ := hs
    split <;> simp [State.Kept, hg, h0, h1, hc]
  · refine State.hostWrite_kept hs _ ?_
    obtain ⟨hg, h0, h1, hc⟩ := hs
    simp [State.Kept, hg, h0, h1, hc]
  · split
    · exact execLmpCorr_kept hs _ _
    · split
      · exact execLmpTrig_kept hs _ _
      · exact plain
  · split
    · refine State.ownerWrite_kept hs _ ?_
      obtain ⟨hg, h0, h1, hc⟩ := hs
      simp [State.Kept, hg, h0, h1, hc]
    · exact plain
  · split
    · exact execCtlMode_kept hs _
    · exact State.writeCoef_kept hs _
    · exact execCtlCmdI_kept hs _
    · exact execCtlCmdP_kept hs _
    · exact execCtlCmdV_kept hs _
    · exact plain
  · exact State.writeBw_kept hs _ _
  · exact State.writeBw_kept hs _ _
  · split
    · refine State.ownerWrite_kept hs _ ?_
      obtain ⟨hg, h0, h1, hc⟩ := hs
      simp [State.writeEnMask, State.Kept, hg, h0, h1, hc]
    · split
      · exact execPhmFltClr_kept hs _ _
      · exact plain
  · split
    · exact execScheduleBankWrite_kept hs _ _ _
    · simpa using hs
  · split
    · exact State.hostWrite_kept hs _ ((Out.all_next _).2 (hs.same rfl rfl rfl rfl rfl))
    · exact plain
  · exact plain

theorem State.writeReg_kept (hs : s.Kept L S M) (a : Nat) (w still : Word) (src : Src) : (s.writeReg a w still src).All (State.Kept L S M) := by
  unfold State.writeReg
  split
  · simpa using hs
  · split
    · simp
    · exact State.writeTo_kept hs _ _ _ _

theorem State.writeRegs_kept (hs : s.Kept L S M) (src : Src) (still : Word) (a : Nat) (l : List Word) :
    (State.writeRegs s src still a l).All (State.Kept L S M) := by
  induction l generalizing s a with
  | nil => simpa [State.writeRegs] using hs
  | cons w l ih =>
    unfold State.writeRegs
    split
    · next h => exact ih (State.writeReg_kept hs a w still src _ h) _
    · exact State.writeReg_kept hs a w still src

theorem execRegisterWrite_kept (hs : s.Kept L S M) (i : Fin 65536) (w still : Word) (src : Src) :
    (execRegisterWrite i w still src s).All (State.Kept L S M) := State.writeReg_kept hs _ _ _ _

theorem State.sessStatus_kept (hs : s.Kept L S M) (i : Nat) (x : Tx) (ty st : Nat) : (s.sessStatus i x ty st).Kept L S M := by
  rw [State.sessStatus_only]
  exact hs.same rfl rfl rfl rfl rfl

theorem execRegWrite_kept (hs : s.Kept L S M) (x : Tx) (still : Word) : (execRegWrite x still s).All (State.Kept L S M) := by
  unfold execRegWrite
  extract_lets addr words
  refine State.transact_kept hs _ _ fun t i ht => ?_
  split
  · exact (Out.all_next _).2 (State.sessStatus_kept ht _ _ _ _)
  · split
    · exact (Out.all_next _).2 (State.sessStatus_kept ht _ _ _ _)
    · have hw := State.writeRegs_kept ht x.port.src still addr words
      split
      · next h => exact (Out.all_next _).2 (State.sessStatus_kept (hw _ h) _ _ _ _)
      · exact hw

theorem State.writeParams_kept {t : State} (hs : s.Kept L S M) (i : Nat) (l : List Nat) (h : s.writeParams i l = .ok t) : t.Kept L S M := by
  induction l generalizing s i with
  | nil =>
    cases h
    exact hs
  | cons w l ih =>
    unfold State.writeParams at h
    split at h
    · cases h
    · refine ih ?_ _ h
      exact hs.same (by simp) (by simp) (by simp) (by simp) (by simp)

theorem State.writeSettings_kept {t : State} (hs : s.Kept L S M) (i : Nat) (l : List Nat) (h : s.writeSettings i l = .ok t) : t.Kept L S M := by
  unfold State.writeSettings at h
  split at h
  · cases h
  · next e =>
    split at h
    · cases h
      exact State.writeParams_kept hs _ _ e
    · cases h

theorem execCmdParamWrite_kept (hs : s.Kept L S M) (c : Fin 4) : (execCmdParamWrite c s).All (State.Kept L S M) := by
  refine State.serve_kept hs _ _ fun p => ?_
  dsimp only
  split
  · obtain ⟨hg, h0, h1, hc⟩ := hs
    simp [State.Kept, hg, h0, h1, hc]
  · split
    · next h =>
      obtain ⟨hg, h0, h1, hc⟩ := State.writeSettings_kept hs _ _ h
      simp [State.Kept, hg, h0, h1, hc]
    · simp

theorem State.spyWrote_kept (hs : s.Kept L S M) : s.spyWrote.Kept L S M := by
  obtain ⟨hg, h0, h1, hc⟩ := hs
  simp [State.Kept, hg, h0, h1, hc]

theorem execSpyW_kept (hs : s.Kept L S M) (addr : Nat) (value still : Word) : (execSpyW addr value still s).All (State.Kept L S M) := by
  refine State.spyWrite_kept hs fun t ht => ?_
  have hw := State.writeReg_kept (s := { t.spyWrote with sys := { t.spyWrote.sys with accPilotWr := false } })
    ((State.spyWrote_kept ht).same rfl rfl rfl rfl rfl) addr value still .spyhole
  split
  · exact (Out.all_next _).2 (State.spyErr_kept ht _)
  · dsimp only
    split
    · next h =>
      split
      · exact (Out.all_next _).2 (ht.same rfl rfl rfl rfl rfl)
      · exact (Out.all_next _).2 ((hw _ h).same rfl rfl rfl rfl rfl)
    · exact hw

theorem execSpyPw_kept (hs : s.Kept L S M) (index : Nat) (value : Word) : (execSpyPw index value s).All (State.Kept L S M) := by
  refine State.spyWrite_kept hs fun t ht => ?_
  have err := fun e => (Out.all_next (P := State.Kept L S M) _).2 (State.spyErr_kept ht e)
  repeat' split
  all_goals try exact err _
  · next h => exact (Out.all_next _).2 ((State.writeSettings_kept (State.spyWrote_kept ht) _ _ h).same rfl rfl rfl rfl rfl)
  · simp

end
end Sys2Proof.Machine

namespace Sys2Proof.Machine

section
variable {L S M : Prop} {s : State}

/-- CMD_ISOLATION_RESET clears the latch, so of it the latch is not asked for. -/
theorem execCmdIsolationReset_kept (hs : s.Kept L S M) (hl : ¬ L) (c : Fin 4) : (execCmdIsolationReset c s).All (State.Kept L S M) := by
  refine State.serve_kept hs _ _ fun _ => ?_
  obtain ⟨hg, h0, h1, hc⟩ := hs
  split
  · simp [State.Kept, hg, h0, h1, hc]
  · have off : SagKept L S false s.sag.coil := ⟨fun h => absurd h hl, fun _ h => nomatch h⟩
    simp [State.Kept, State.leaveIsolated, State.latchClear, off, h0, h1, hc]

/-- Every command keeps the coil paths and the memories, and every one but CMD_ISOLATION_RESET keeps the latch. -/
theorem exec_kept (hs : s.Kept L S M) (c : Instr) (hc : (∃ k, c = .cmdIsolationReset k) → ¬ L) : Out.All (exec c s) (State.Kept L S M) := by
  cases c with
  | feedGood a b => exact execFeedGood_kept hs a b
  | feedLossSingle b => exact execFeedLossSingle_kept hs b
  | holdupCharged charged => exact execHoldupCharged_kept hs charged
  | brownOutWarning => exact execBrownOutWarning_kept hs
  | boCoilsOff => exact execBoCoilsOff_kept hs
  | boDomainsOff => exact execBoDomainsOff_kept hs
  | boCommitDone => exact execBoCommitDone_kept hs
  | holdupExhausted => exact execHoldupExhausted_kept hs
  | feedReturn => exact execFeedReturn_kept hs
  | bootVerifyDone mgpOk sagOk => exact execBootVerifyDone_kept hs mgpOk sagOk
  | domainReady d => exact execDomainReady_kept hs d
  | selftestDone r => exact execSelftestDone_kept hs r
  | ownClaim high => exact execOwnClaim_kept hs high
  | mgpWatchdog => exact execMgpWatchdog_kept hs
  | mgpResume => exact execMgpResume_kept hs
  | mgpLost => exact execMgpLost_kept hs
  | fenceOpen d => exact execFenceOpen_kept hs d
  | csmArbitrationRound want => exact execCsmArbitrationRound_kept hs want
  | housekeepingTick m => exact execHousekeepingTick_kept hs m
  | prechargeDone => exact execPrechargeDone_kept hs
  | prechargeTimeout => exact execPrechargeTimeout_kept hs
  | prechargeCoolExpiry => exact execPrechargeCoolExpiry_kept hs
  | degradedTimerExpiry => exact execDegradedTimerExpiry_kept hs
  | maintIdleTimeout => exact execMaintIdleTimeout_kept hs
  | auxContactChange k closed => exact execAuxContactChange_kept hs k closed
  | frameStart => exact execFrameStart_kept hs
  | beaconFreeze => exact execBeaconFreeze_kept hs
  | beacon m txLt rm => exact execBeacon_kept hs m txLt rm
  | nodeSlot m => exact execNodeSlot_kept hs m
  | contentionSlot m => exact execContentionSlot_kept hs m
  | snapshot m => exact execSnapshot_kept hs m
  | currentLatch m ma vStr vBus qint => exact execCurrentLatch_kept hs m ma vStr vBus qint
  | estimateBatch m => exact execEstimateBatch_kept hs m
  | probePhaseStep m => exact execProbePhaseStep_kept hs m
  | thermalSample m x => exact execThermalSample_kept hs m x
  | logCheckpoint m => exact execLogCheckpoint_kept hs m
  | mirrorPush m => exact execMirrorPush_kept hs m
  | nop m => exact execNop_kept hs m
  | frameEnd m => exact execFrameEnd_kept hs m
  | swapRequest => exact execSwapRequest_kept hs
  | swapWithdraw => exact execSwapWithdraw_kept hs
  | swapCheckDone => exact execSwapCheckDone_kept hs
  | scheduleBankWrite bank k w => exact execScheduleBankWrite_kept hs bank k w
  | reportRx u n f => exact execReportRx_kept hs u n f
  | reportWindowMiss u n => exact execReportWindowMiss_kept hs u n
  | joinRequestRx u f => exact execJoinRequestRx_kept hs u f
  | contentionRx u f => exact execContentionRx_kept hs u f
  | ackRx u f => exact execAckRx_kept hs u f
  | commandRetry n => exact execCommandRetry_kept hs n
  | unitLoopbackTest u ok => exact execUnitLoopbackTest_kept hs u ok
  | epochPeriodExpiry => exact execEpochPeriodExpiry_kept hs
  | linkKeyChangeTimeout => exact execLinkKeyChangeTimeout_kept hs
  | loopClassChange ua => exact execLoopClassChange_kept hs ua
  | nodePowerOn n => exact execNodePowerOn_kept hs n
  | nodeBeaconRx n u f brx => exact execNodeBeaconRx_kept hs n u f brx
  | nodeBeaconMissed n => exact execNodeBeaconMissed_kept hs n
  | nodeCoastLimit n => exact execNodeCoastLimit_kept hs n
  | nodeBalTimeout n => exact execNodeBalTimeout_kept hs n
  | nodeSweep n m => exact execNodeSweep_kept hs n m
  | nodeReportTx n rtx => exact execNodeReportTx_kept hs n rtx
  | nodeBalanceWindow n start => exact execNodeBalanceWindow_kept hs n start
  | nodeOpenWireTest n shift => exact execNodeOpenWireTest_kept hs n shift
  | nodeSwitchTest n current => exact execNodeSwitchTest_kept hs n current
  | nodeCommandRx n f => exact execNodeCommandRx_kept hs n f
  | nodeFirmwareRx n f => exact execNodeFirmwareRx_kept hs n f
  | nodeJoinReplyRx n f => exact execNodeJoinReplyRx_kept hs n f
  | nodeJoinReplyTimeout n => exact execNodeJoinReplyTimeout_kept hs n
  | nodeRefuseWaitEnd n => exact execNodeRefuseWaitEnd_kept hs n
  | nodeScanCycleEnd n => exact execNodeScanCycleEnd_kept hs n
  | nodeContentionTx n => exact execNodeContentionTx_kept hs n
  | nodeComparatorTrip n pos above held counter => exact execNodeComparatorTrip_kept hs n pos above held counter
  | nodeLoopSwitchClose n lo hi => exact execNodeLoopSwitchClose_kept hs n lo hi
  | nodeSupplyLow n => exact execNodeSupplyLow_kept hs n
  | nodeRestartDone n => exact execNodeRestartDone_kept hs n
  | nodeBankFallback n => exact execNodeBankFallback_kept hs n
  | balancingPlan => exact execBalancingPlan_kept hs
  | capCommitDue => exact execCapCommitDue_kept hs
  | capCommitRetry => exact execCapCommitRetry_kept hs
  | countCheckpoint => exact execCountCheckpoint_kept hs
  | outerTick m => exact execOuterTick_kept hs m
  | innerEvaluation p m => exact execInnerEvaluation_kept hs p m
  | overrunClear => exact execOverrunClear_kept hs
  | isumWarning beyond => exact execIsumWarning_kept hs beyond
  | refPeriodBoundary now => exact execRefPeriodBoundary_kept hs now
  | peakLimitEvent p d now => exact execPeakLimitEvent_kept hs p d now
  | loadRelease fast now => exact execLoadRelease_kept hs fast now
  | loadStep fast => exact execLoadStep_kept hs fast
  | currentInputSaturated p d => exact execCurrentInputSaturated_kept hs p d
  | currentInputLost p => exact execCurrentInputLost_kept hs p
  | driverFault p => exact execDriverFault_kept hs p
  | readbackMismatch h ph atTakeover => exact execReadbackMismatch_kept hs h ph atTakeover
  | tempCountWindow p count => exact execTempCountWindow_kept hs p count
  | tempLineFail p => exact execTempLineFail_kept hs p
  | phaseShareWarning p out => exact execPhaseShareWarning_kept hs p out
  | trkDwellDone => exact execTrkDwellDone_kept hs
  | trkHoldEnd => exact execTrkHoldEnd_kept hs
  | trkTimeout => exact execTrkTimeout_kept hs
  | stopCurrentLow => exact execStopCurrentLow_kept hs
  | stopTimeout => exact execStopTimeout_kept hs
  | handoverBoundary now gap => exact execHandoverBoundary_kept hs now gap
  | phmFltClr w still => exact execPhmFltClr_kept hs w still
  | ctlMode w => exact execCtlMode_kept hs w
  | ctlCmdI w => exact execCtlCmdI_kept hs w
  | ctlCmdP w => exact execCtlCmdP_kept hs w
  | ctlCmdV w => exact execCtlCmdV_kept hs w
  | coefHold on => exact execCoefHold_kept hs on
  | coefLoad => exact execCoefLoad_kept hs
  | dispatchPdu p b now idle h => exact execDispatchPdu_kept hs p b now idle h
  | thmSelfSample src x => exact execThmSelfSample_kept hs src x
  | thmOutputUpdate => exact execThmOutputUpdate_kept hs
  | graceExpiry chg => exact execGraceExpiry_kept hs chg
  | coolantIoFault kind k on => exact execCoolantIoFault_kept hs kind k on
  | xchkDisagreement g => exact execXchkDisagreement_kept hs g
  | sagWindowOverrun => exact execSagWindowOverrun_kept hs
  | interlockOpen => exact execInterlockOpen_kept hs
  | ilkTestPass => exact execIlkTestPass_kept hs
  | overcurrent ma => exact execOvercurrent_kept hs ma
  | isolateLine asserted => exact execIsolateLine_kept hs asserted
  | isolationDemandRx b => exact execIsolationDemandRx_kept hs b
  | isolationDemandRepeat => exact execIsolationDemandRepeat_kept hs
  | safetyPdu p b h => exact execSafetyPdu_kept hs p b h
  | pduPairExpiry => exact execPduPairExpiry_kept hs
  | pduWatchdogExpiry => exact execPduWatchdogExpiry_kept hs
  | coilTestSlot sw reads moving => exact execCoilTestSlot_kept hs sw reads moving
  | closeTimeout k => exact execCloseTimeout_kept hs k
  | weldCheck k volt => exact execWeldCheck_kept hs k volt
  | contactorDropout k => exact execContactorDropout_kept hs k
  | pullinEnd k => exact execPullinEnd_kept hs k
  | lockstepMismatch => exact execLockstepMismatch_kept hs
  | sagEccScrub corrected uncorrectable => exact execSagEccScrub_kept hs corrected uncorrectable
  | sagCrcCheck ok => exact execSagCrcCheck_kept hs ok
  | sagShuntCompare own => exact execSagShuntCompare_kept hs own
  | sagSupplyFault bad => exact execSagSupplyFault_kept hs bad
  | x8StreamLost lost => exact execX8StreamLost_kept hs lost
  | loginLockEnd => exact execLoginLockEnd_kept hs
  | loginIdleEnd => exact execLoginIdleEnd_kept hs
  | heartbeatSend => exact execHeartbeatSend_kept hs
  | heartbeatRx b higher => exact execHeartbeatRx_kept hs b higher
  | heartbeatMissed => exact execHeartbeatMissed_kept hs
  | mirrorPartRx b now m => exact execMirrorPartRx_kept hs b now m
  | switchoverReq b => exact execSwitchoverReq_kept hs b
  | switchoverReady b now => exact execSwitchoverReady_kept hs b now
  | switchoverRefuse b => exact execSwitchoverRefuse_kept hs b
  | switchoverTake b => exact execSwitchoverTake_kept hs b
  | switchoverAbandon b => exact execSwitchoverAbandon_kept hs b
  | switchoverTimeout => exact execSwitchoverTimeout_kept hs
  | handoverAckTimeout => exact execHandoverAckTimeout_kept hs
  | pathsRelease => exact execPathsRelease_kept hs
  | takeoverDecision => exact execTakeoverDecision_kept hs
  | reserveTest own partner => exact execReserveTest_kept hs own partner
  | hello x => exact execHello_kept hs x
  | regRead x => exact execRegRead_kept hs x
  | regWrite x still => exact execRegWrite_kept hs x still
  | mbxReq x => exact execMbxReq_kept hs x
  | mbxPoll x => exact execMbxPoll_kept hs x
  | bulkRead x diff => exact execBulkRead_kept hs x diff
  | attnAck x => exact execAttnAck_kept hs x
  | bye x => exact execBye_kept hs x
  | updBlock x => exact execUpdBlock_kept hs x
  | keepalive x => exact execKeepalive_kept hs x
  | datagramDiscard p h n => exact execDatagramDiscard_kept hs p h n
  | attnRetry num aseq => exact execAttnRetry_kept hs num aseq
  | sessionTimeout num => exact execSessionTimeout_kept hs num
  | mbxPendingReply c => exact execMbxPendingReply_kept hs c
  | portLinkChange p linkUp => exact execPortLinkChange_kept hs p linkUp
  | ptpSyncRx m logInterval ingress origin ms => exact execPtpSyncRx_kept hs m logInterval ingress origin ms
  | ptpAnnounceRx m rank gm => exact execPtpAnnounceRx_kept hs m rank gm
  | ptpPdelayReqRx m => exact execPtpPdelayReqRx_kept hs m
  | ptpDelayRespRx m rx tx ingress => exact execPtpDelayRespRx_kept hs m rx tx ingress
  | announceTimeout p => exact execAnnounceTimeout_kept hs p
  | syncLoss => exact execSyncLoss_kept hs
  | holdoverExpiry => exact execHoldoverExpiry_kept hs
  | secMarkReached => exact execSecMarkReached_kept hs
  | extTimeUpdate tb sec => exact execExtTimeUpdate_kept hs tb sec
  | lmpTrig k w => exact execLmpTrig_kept hs k w
  | triggerReached k => exact execTriggerReached_kept hs k
  | lmpCorr k w => exact execLmpCorr_kept hs k w
  | registerWrite k w still src => exact execRegisterWrite_kept hs k w still src
  | mbxRing c src => exact execMbxRing_kept hs c src
  | mbxBufferWrite c k w => exact execMbxBufferWrite_kept hs c k w
  | mgpTakeRequest => exact execMgpTakeRequest_kept hs
  | mbxReplyPosted c rb => exact execMbxReplyPosted_kept hs c rb
  | cmdConnect c => exact execCmdConnect_kept hs c
  | cmdDispatchOn c => exact execCmdDispatchOn_kept hs c
  | cmdDispatchOff c => exact execCmdDispatchOff_kept hs c
  | cmdOpen c => exact execCmdOpen_kept hs c
  | cmdIsolationReset k => exact execCmdIsolationReset_kept hs (hc ⟨k, rfl⟩) k
  | cmdReset c => exact execCmdReset_kept hs c
  | cmdDomainPower c => exact execCmdDomainPower_kept hs c
  | cmdSwap c => exact execCmdSwap_kept hs c
  | cmdSelftest c r => exact execCmdSelftest_kept hs c r
  | cmdHealth c => exact execCmdHealth_kept hs c
  | cmdSchedLoad c => exact execCmdSchedLoad_kept hs c
  | cmdSchedInfo c => exact execCmdSchedInfo_kept hs c
  | cmdBalCtl c => exact execCmdBalCtl_kept hs c
  | cmdBalStatus c => exact execCmdBalStatus_kept hs c
  | cmdCalDischarge c => exact execCmdCalDischarge_kept hs c
  | cmdCapReport c => exact execCmdCapReport_kept hs c
  | cmdCapWrite c => exact execCmdCapWrite_kept hs c
  | cmdCapCommit c => exact execCmdCapCommit_kept hs c
  | cmdParamRead c => exact execCmdParamRead_kept hs c
  | cmdParamWrite c => exact execCmdParamWrite_kept hs c
  | cmdSettingsCommit c => exact execCmdSettingsCommit_kept hs c
  | cmdSettingsDefault c => exact execCmdSettingsDefault_kept hs c
  | cmdPairWrite c => exact execCmdPairWrite_kept hs c
  | cmdPairClear c => exact execCmdPairClear_kept hs c
  | cmdPairRead c => exact execCmdPairRead_kept hs c
  | cmdLinkKeyChange c => exact execCmdLinkKeyChange_kept hs c
  | cmdNodeCmd c => exact execCmdNodeCmd_kept hs c
  | cmdLogRead c => exact execCmdLogRead_kept hs c
  | cmdLogClear c => exact execCmdLogClear_kept hs c
  | cmdUpdateBegin c => exact execCmdUpdateBegin_kept hs c
  | cmdUpdateStage c => exact execCmdUpdateStage_kept hs c
  | cmdUpdateActivate c => exact execCmdUpdateActivate_kept hs c
  | cmdUpdateAbort c => exact execCmdUpdateAbort_kept hs c
  | cmdUpdateStatus c => exact execCmdUpdateStatus_kept hs c
  | cmdSagLogin c => exact execCmdSagLogin_kept hs c
  | cmdSagStage c => exact execCmdSagStage_kept hs c
  | cmdSagCommit c => exact execCmdSagCommit_kept hs c
  | cmdSagAbort c => exact execCmdSagAbort_kept hs c
  | cmdSagPassword c => exact execCmdSagPassword_kept hs c
  | cmdSagLogRead c => exact execCmdSagLogRead_kept hs c
  | cmdSagLogAck c => exact execCmdSagLogAck_kept hs c
  | loaderCopyDone ok => exact execLoaderCopyDone_kept hs ok
  | newMgpReady => exact execNewMgpReady_kept hs
  | newMgpTimeout => exact execNewMgpTimeout_kept hs
  | saggarReset => exact execSaggarReset_kept hs
  | blockForwardRepeat reply => exact execBlockForwardRepeat_kept hs reply
  | dn8NodeStage u => exact execDn8NodeStage_kept hs u
  | dn8NodeActivate => exact execDn8NodeActivate_kept hs
  | logRecordWrite => exact execLogRecordWrite_kept hs
  | logBootScan => exact execLogBootScan_kept hs
  | logHourlyFree => exact execLogHourlyFree_kept hs
  | isolationSnapshot => exact execIsolationSnapshot_kept hs
  | mramScrub corrected bad => exact execMramScrub_kept hs corrected bad
  | pd0Backup => exact execPd0Backup_kept hs
  | spyR addr n => exact execSpyR_kept hs addr n
  | spyW addr value still => exact execSpyW_kept hs addr value still
  | spyP index n => exact execSpyP_kept hs index n
  | spyPw index value => exact execSpyPw_kept hs index value
  | spyCsm g n => exact execSpyCsm_kept hs g n
  | spyLog slot n => exact execSpyLog_kept hs slot n
  | spyHealth => exact execSpyHealth_kept hs
  | spyKeys => exact execSpyKeys_kept hs
  | spyTraceCe p trig => exact execSpyTraceCe_kept hs p trig
  | spyTraceFsq => exact execSpyTraceFsq_kept hs
  | spyM code bytes => exact execSpyM_kept hs code bytes
  | spySagLogin password => exact execSpySagLogin_kept hs password
  | spySagStage index value => exact execSpySagStage_kept hs index value
  | spySagCommit => exact execSpySagCommit_kept hs
  | spySagAbort => exact execSpySagAbort_kept hs
  | spyReset => exact execSpyReset_kept hs
  | spyBye => exact execSpyBye_kept hs
  | spyCtrlC => exact execSpyCtrlC_kept hs
  | feedRestored b => exact execFeedRestored_kept hs b
  | nodeSelfCheckFail n code => exact execNodeSelfCheckFail_kept hs n code
  | nodeOwnRestart n cause => exact execNodeOwnRestart_kept hs n cause
  | bothPlantPortsDown => exact execBothPlantPortsDown_kept hs
  | referenceCheck ok => exact execReferenceCheck_kept hs ok
  | coilPathOvercurrent k => exact execCoilPathOvercurrent_kept hs k
  | ptpFollowUpRx m origin ms => exact execPtpFollowUpRx_kept hs m origin ms
  | ptpDelayReqSend p egress => exact execPtpDelayReqSend_kept hs p egress
  | networkServiceFrame p f => exact execNetworkServiceFrame_kept hs p f
  | spyUnknownLine => exact execSpyUnknownLine_kept hs

/-! What a step and a single command keep, from the three invariants. -/

theorem State.kept_of_latch (h : s.sag.latch = true) : s.Kept True False False :=
  ⟨⟨fun _ => h, False.elim⟩, False.elim, False.elim, fun _ _ => ⟨False.elim, False.elim⟩⟩

theorem State.kept_latchSafe_iff : s.Kept False True False ↔ s.LatchSafe :=
  ⟨fun h => h.1.2 trivial, fun h => ⟨⟨False.elim, fun _ => h⟩, False.elim, False.elim, fun _ _ => ⟨False.elim, False.elim⟩⟩⟩

theorem State.kept_memOk_iff : s.Kept False False True ↔ s.MemOk :=
  ⟨fun ⟨_, h0, h1, hc⟩ => ⟨h0 trivial, h1 trivial, fun x hx => ⟨(hc x hx).1 trivial, (hc x hx).2 trivial⟩⟩,
    fun ⟨h0, h1, hc⟩ => ⟨⟨False.elim, False.elim⟩, fun _ => h0, fun _ => h1, fun x hx => ⟨fun _ => (hc x hx).1, fun _ => (hc x hx).2⟩⟩⟩

/-- A step that does not ask for the latch keeps the coil paths and the memories. -/
theorem step_kept {t : State} (hs : s.Kept False S M) (h : step s = .next t) : t.Kept False S M := by
  cases hp : s.pending with
  | nil =>
    rw [step_of_nil hp] at h
    cases h
    exact hs
  | cons c l =>
    rw [step_of_cons hp] at h
    exact exec_kept (s := { s with pending := l }) (hs.same rfl rfl rfl rfl rfl) c (fun _ => id) t h

/-- A served CMD_ISOLATION_RESET that a recorded cause bars leaves the latch. -/
theorem execCmdIsolationReset_latch {t : State} (c : Fin 4) (h : execCmdIsolationReset c s = .next t) :
    t.sag.latch = s.sag.latch ∨ s.resetBar = none := by
  rcases State.serve_cases h with rfl | ⟨r, -, rfl⟩ | ⟨r, -, -, -, -, h⟩
  · exact .inl rfl
  · simp
  · split at h
    · cases h
      simp
    · exact .inr ‹_›

end

/-- Settles O58: of the commands only CMD_ISOLATION_RESET clears the latch, and only where nothing bars it. -/
theorem onlyIsolationResetClearsTheLatch : Obligations.OnlyIsolationResetClearsTheLatch := by
  unfold Obligations.OnlyIsolationResetClearsTheLatch
  intro s t c hl h
  by_cases hc : ∃ k, c = .cmdIsolationReset k
  · obtain ⟨k, rfl⟩ := hc
    rcases execCmdIsolationReset_latch k h with e | e
    · exact .inl (e.trans hl)
    · exact .inr ⟨⟨k, rfl⟩, e⟩
  · exact .inl ((exec_kept (State.kept_of_latch hl) c (fun e => absurd e hc) t h).1.1 trivial)

/-- Settles O59: every command keeps that no coil path is on while the latch is set. -/
theorem stepKeepsTheLatchSafe : Obligations.StepKeepsTheLatchSafe := by
  unfold Obligations.StepKeepsTheLatchSafe
  intro s t hs h
  exact State.kept_latchSafe_iff.1 (step_kept (State.kept_latchSafe_iff.2 hs) h)

/-- Settles O60: every command writes the banks and the mailbox buffers by memPutL, which keeps the canonical form. -/
theorem stepKeepsTheMemoriesCanonical : Obligations.StepKeepsTheMemoriesCanonical := by
  unfold Obligations.StepKeepsTheMemoriesCanonical
  intro s t hs h
  exact State.kept_memOk_iff.1 (step_kept (State.kept_memOk_iff.2 hs) h)

end Sys2Proof.Machine

/-! The DN8 nodes: each event of a node is one function of that node (R118 to R142, R149 to R166, R472). -/

namespace Sys2Proof.Machine

theorem State.withNode_self {s : State} {n : Nat} {d : Dn8} (h : s.nodes[n]? = some d) : s.withNode n d = s := by
  obtain ⟨hn, rfl⟩ := List.getElem?_eq_some_iff.1 h
  rw [State.withNode, List.set_getElem_self]

/-- An event that changes node n by f leaves the node as f of it. -/
theorem exec_of_modDn {s : State} {n : Nat} {d : Dn8} {c : Instr} {f : Dn8 → Dn8} (h : s.nodes[n]? = some d)
    (hc : exec c s = .next (s.modDn n f)) : exec c s = .next (s.withNode n (f d)) := by
  rw [hc, State.modDn_some f h]
  rfl

/-- An event whose function keeps the node changes nothing. -/
theorem exec_of_modDn_id {s : State} {n : Nat} {d : Dn8} {c : Instr} {f : Dn8 → Dn8} (h : s.nodes[n]? = some d)
    (hc : exec c s = .next (s.modDn n f)) (hf : f d = d) : exec c s = .next s := by
  rw [exec_of_modDn h hc, hf, State.withNode_self h]

theorem exec_of_modDn_eq {s : State} {n : Nat} {d e : Dn8} {c : Instr} {f : Dn8 → Dn8} (h : s.nodes[n]? = some d)
    (hc : exec c s = .next (s.modDn n f)) (hf : f d = e) : exec c s = .next (s.withNode n e) := by
  rw [exec_of_modDn h hc, hf]

/-- An event that leaves the node as e completes with what holds of e. -/
theorem completes_of_modDn {s : State} {n : Nat} {d : Dn8} {c : Instr} {f : Dn8 → Dn8} {Q : Dn8 → Prop} (h : s.nodes[n]? = some d)
    (hc : exec c s = .next (s.modDn n f)) (hq : Q (f d)) : Completes c s fun t => ∃ e, t = s.withNode n e ∧ Q e :=
  ⟨_, exec_of_modDn h hc, _, rfl, hq⟩

/-- Every event of a node is a function of that node. -/
theorem exec_of_nodeOf {c : Instr} {n : Fin 48} (s : State) (h : nodeOf c = some n) : ∃ f, exec c s = .next (s.modDn n.val f) := by
  unfold nodeOf at h
  split at h
  all_goals cases h
  all_goals exact ⟨_, rfl⟩

/-- Settles O14: the event of a node maps the place of that node in the list of nodes. -/
theorem nodeCommandsTouchOneNode : Obligations.NodeCommandsTouchOneNode := by
  unfold Obligations.NodeCommandsTouchOneNode
  intro s n c h
  obtain ⟨f, hf⟩ := exec_of_nodeOf s h
  exact ⟨_, hf, rfl, List.length_modify .., fun k hk => State.modDn_other f (Ne.symm hk)⟩

/-! What the shared functions of a node leave. -/

section
variable (d : Dn8)

/-- R136: after a beacon that is missed no frame waits for its acknowledgement. -/
theorem Dn8.unacked_kackWait (n : Nat) : (d.unacked n).kackWait = none := by
  unfold Dn8.unacked
  split
  · rfl
  · simp_all

/-- R136: BE and the draw are all that a frame without acknowledgement changes. -/
theorem Dn8.unacked_keeps (n : Nat) : (d.unacked n).mask = d.mask ∧ (d.unacked n).timing = d.timing ∧ (d.unacked n).unit = d.unit ∧
    (d.unacked n).epoch = d.epoch ∧ (d.unacked n).kL = d.kL := by
  unfold Dn8.unacked
  split <;> exact ⟨rfl, rfl, rfl, rfl, rfl⟩

end

/-- Settles O15: the link state of a node follows the table of R141, row by row. -/
theorem nodeLinkStatesFollowTheTable : Obligations.NodeLinkStatesFollowTheTable := by
  unfold Obligations.NodeLinkStatesFollowTheTable
  intro s n d h
  refine ⟨fun hp => ?_, fun hp => ?_, fun hl => ?_, fun hl => ?_, fun hc hm => ?_, fun hc => ?_, fun hp => ?_, fun hp => ?_, ?_, ?_,
    fun hs hi hh hr => ?_, fun hs hi hh => ?_, fun hs => ?_, fun ht => ?_, fun ht => ?_⟩
  · refine completes_of_modDn h rfl ?_
    rw [if_pos hp]
    exact ⟨rfl, rfl, rfl, rfl⟩
  · exact exec_of_modDn_id h rfl (if_neg hp)
  · refine completes_of_modDn h rfl ?_
    rw [Dn8.onMiss, if_pos hl]
    obtain ⟨hmask, htiming, -⟩ := d.unacked_keeps n.val
    exact ⟨rfl, rfl, rfl, d.unacked_kackWait _, hmask, htiming⟩
  · exact exec_of_modDn_id h rfl (if_neg (by simp [hl]))
  · refine completes_of_modDn h rfl ?_
    rw [if_pos ⟨hc, hm⟩]
    exact ⟨rfl, rfl, rfl, rfl, rfl, rfl⟩
  · exact exec_of_modDn_id h rfl (if_neg fun ⟨ha, hb⟩ => hc.elim (fun hn => hn ha) (Nat.not_lt.2 hb))
  · exact exec_of_modDn_eq h rfl (if_neg hp)
  · exact exec_of_modDn_id h rfl (if_pos hp)
  · exact exec_of_modDn (f := fun d => { d with refuseWait := false }) h rfl
  · exact exec_of_modDn (f := fun d => { d with silent := false }) h rfl
  · refine completes_of_modDn h rfl ?_
    rw [if_pos ⟨hs, by simp [hi]⟩, if_pos ⟨hh, by simp [hr]⟩]
    exact ⟨rfl, rfl, rfl, rfl, rfl⟩
  · refine exec_of_modDn_eq h rfl ((if_pos ⟨hs, by simp [hi]⟩).trans (if_neg ?_))
    rcases hh with hh | hh <;> simp_all
  · refine exec_of_modDn_id h rfl (if_neg ?_)
    rcases hs with hs | hs <;> simp [hs]
  · refine completes_of_modDn h rfl ?_
    rw [if_pos ht]
    exact ⟨rfl, rfl, rfl, rfl, rfl⟩
  · exact exec_of_modDn_id h rfl (if_neg (by simp [ht]))

/-! Beacons and the join (R126 to R141). -/

section
variable (d : Dn8)

/-- R136: the answer to a contention frame leaves the mask, the unit, the epoch and the key of the node. -/
theorem Dn8.contResult_keeps (n : Nat) (b : Beacon) : (d.contResult n b).mask = d.mask ∧ (d.contResult n b).unit = d.unit ∧
    (d.contResult n b).epoch = d.epoch ∧ (d.contResult n b).kL = d.kL := by
  obtain ⟨hmask, -, hunit, hepoch, hkey⟩ := d.unacked_keeps n
  unfold Dn8.contResult
  split
  · exact ⟨rfl, rfl, rfl, rfl⟩
  · dsimp only
    repeat' split
    all_goals simp [Dn8.draw, hmask, hunit, hepoch, hkey]

/-- R126, R127: the epoch and the key that a beacon gives are the node's. -/
theorem Dn8.takeEpoch_sets (u e k fc : Nat) : (d.takeEpoch u e k fc).epoch = e ∧ (d.takeEpoch u e k fc).kL = k := by
  unfold Dn8.takeEpoch
  dsimp only
  split
  · next h => exact ⟨h.symm, rfl⟩
  · exact ⟨rfl, rfl⟩

theorem Dn8.takeEpoch_keeps (u e k fc : Nat) : (d.takeEpoch u e k fc).mask = d.mask ∧ (d.takeEpoch u e k fc).unit = d.unit ∧
    (d.takeEpoch u e k fc).index = d.index ∧ (d.takeEpoch u e k fc).timing = d.timing ∧ (d.takeEpoch u e k fc).linked = d.linked := by
  unfold Dn8.takeEpoch
  dsimp only
  split <;> exact ⟨rfl, rfl, rfl, rfl, rfl⟩

end

/-- R141: a linked node is SYNCED or COASTING, and not silent. -/
theorem Dn8.linked_iff {d : Dn8} : d.linked = true ↔ (d.st = .synced ∨ d.st = .coasting) ∧ d.silent = false := by
  simp [Dn8.linked]

/-- R137: a beacon that is valid has a good FCS and a beacon's form. -/
theorem Dn8.beaconValid_form {d : Dn8} {u : Nat} {f : RxFrame} {x : Nat × Nat} (h : d.beaconValid u f = some x) :
    f.fcs = true ∧ beaconForm u f = true := by
  unfold Dn8.beaconValid at h
  dsimp only at h
  split at h
  · cases h
  · simp_all

/-- R141: a beacon of its own unit at a linked node. -/
theorem Dn8.onBeacon_linked {d : Dn8} {n u brx : Nat} {f : RxFrame} {ek : Nat × Nat} (hl : d.linked = true) (hu : d.unit = u)
    (hv : d.beaconValid u f = some ek) : d.onBeacon n u f brx = d.syncedBeacon n u f.head.fc brx (Beacon.ofBytes f.body) ek := by
  obtain ⟨hst, hsi⟩ := Dn8.linked_iff.1 hl
  obtain ⟨hf, hb⟩ := Dn8.beaconValid_form hv
  rcases hst with hst | hst <;> simp [Dn8.onBeacon, hst, hsi, hf, hb, hu, hv]

/-- R141: a beacon that is not valid changes nothing at a linked node. -/
theorem Dn8.onBeacon_linked_invalid {d : Dn8} {n u brx : Nat} {f : RxFrame} (hl : d.linked = true) (hv : d.beaconValid u f = none) :
    d.onBeacon n u f brx = d := by
  obtain ⟨hst, hsi⟩ := Dn8.linked_iff.1 hl
  rcases hst with hst | hst <;> simp [Dn8.onBeacon, hst, hv]

/-- R141: what is not heard as a beacon changes nothing. -/
theorem Dn8.onBeacon_unheard {d : Dn8} {n u brx : Nat} {f : RxFrame}
    (h : d.silent = true ∨ f.fcs = false ∨ d.st = .powerOff ∨ beaconForm u f = false ∨ (u ≠ d.unit ∧ d.st ≠ .unpaired)) :
    d.onBeacon n u f brx = d := by
  rcases h with h | h | h | h | ⟨h, h'⟩
  · simp [Dn8.onBeacon, h]
  · simp [Dn8.onBeacon, h]
  · unfold Dn8.onBeacon
    rw [h]
    exact ite_self _
  · simp [Dn8.onBeacon, h]
  · simp [Dn8.onBeacon, h, h']

/-- R128, R141: what the adoption of a beacon sets, and that the mask and the timing in use stay. -/
theorem Dn8.adopt_sets (d : Dn8) (n u : Nat) (b : Beacon) (brx : Nat) (hl : d.linked = true) :
    (d.adopt n u b brx).st = .synced ∧ (d.adopt n u b brx).unit = u ∧ (d.adopt n u b brx).next = some b ∧ (d.adopt n u b brx).missed = 0 ∧
    (d.adopt n u b brx).nextMask = nth b.bleed (d.index.getD 0 - b.rFirst) 0 ∧ (d.adopt n u b brx).mask = d.mask ∧
    (d.adopt n u b brx).timing = d.timing ∧ (d.adopt n u b brx).balBarred = false ∧ (d.adopt n u b brx).brx = brx % 2 ^ 32 ∧
    (d.adopt n u b brx).epoch = d.epoch ∧ (d.adopt n u b brx).kL = d.kL := by
  obtain ⟨hm, -, he, hk⟩ := d.contResult_keeps n b
  exact ⟨rfl, rfl, rfl, rfl, rfl, hm, if_pos hl, rfl, rfl, he, hk⟩

/-- R131, R137: the frame is a JOIN reply for the node, in a slot announced for it, with a fresh counter. -/
def Dn8.replyFits (d : Dn8) (f : RxFrame) : Bool :=
  d.st == .joining && !d.silent && f.fcs && f.head.typ == 5 && f.head.ver == 2 && !f.head.dir && f.head.unit == d.unit &&
    f.head.addr == 0x3E && f.head.epoch == 0 && f.head.snid == d.target && decide (d.joinCtr < f.head.fc) &&
    d.timing.elim false (·.cNode == 0xFE)

/-- R131, R137: what is no JOIN reply for the node changes nothing. -/
theorem Dn8.onReply_of_not_fits {d : Dn8} {n : Nat} {f : RxFrame} (h : d.replyFits f = false) : d.onReply n f = d := by
  unfold Dn8.onReply
  refine if_pos ?_
  simp only [Dn8.replyFits, Bool.and_eq_false_iff, decide_eq_false_iff_not, Nat.not_lt] at h
  simp only [Bool.or_eq_true, decide_eq_true_eq]
  simp_all

/-- R131, R141: what a JOIN reply for the node does, by what it holds under the node key. -/
theorem Dn8.onReply_of_fits {d : Dn8} {n : Nat} {f : RxFrame} (h : d.replyFits f = true) : d.onReply n f = match f.openWith d.kN with
    | none => d
    | some p =>
      if leAt p 1 8 ≠ d.serial then d
      else if leAt p 0 1 = 2 ∧ p.length = 47 then d.accept n p f.head.fc
      else if leAt p 0 1 = 3 ∧ p.length = 10 then { d.listen with refuseWait := true, joinCtr := f.head.fc }
      else d := by
  unfold Dn8.onReply
  refine if_neg ?_
  simp only [Dn8.replyFits, Bool.and_eq_true, decide_eq_true_eq] at h
  simp only [Bool.or_eq_true, decide_eq_true_eq]
  simp_all

/-- R121, R125: the node that has stored an accept p and acknowledged it, before its draw and its state. -/
def Dn8.accepted (d : Dn8) (p : List Byte) (c : Nat) : Dn8 :=
  { d with
    keyed := true, index := some (leAt p 9 1), ver := leAt p 11 1, snid := leAt p 12 4, epoch := leAt p 16 4, kL := leAt p 20 16
    kLNew := none, limPending := some (leAt p 36 2, leAt p 38 2), balTo := leAt p 40 2, tof := leAt p 42 1
    codes := (List.range 4).map (fun i => leAt p (43 + i) 1), lastCseq := none, joinCtr := c
    fc := if leAt p 16 4 = d.epoch then d.fc else 0
    rxFc := if leAt p 16 4 = d.epoch ∧ leAt p 12 4 = d.snid then d.rxFc else [none, none] }

theorem Dn8.accept_eq (d : Dn8) (n : Nat) (p : List Byte) (c : Nat) : ∃ be backoff draws : Nat, d.accept n p c =
    { (d.accepted p c).ack true c 0 0 with
      be := be, backoff := backoff, draws := draws, st := .synced, unit := leAt p 10 1 % 2, joinWait := false, replyWait := false
      kackWait := none, timing := none, next := none, missed := 0, reqs := 0 } := by
  have e : d.accepted p c = { d with
      keyed := true, index := some (leAt p 9 1), ver := leAt p 11 1, snid := leAt p 12 4, epoch := leAt p 16 4, kL := leAt p 20 16
      kLNew := none, limPending := some (leAt p 36 2, leAt p 38 2), balTo := leAt p 40 2, tof := leAt p 42 1
      codes := (List.range 4).map (fun i => leAt p (43 + i) 1), lastCseq := none, joinCtr := c
      fc := if decide (leAt p 16 4 = d.epoch) then d.fc else 0
      rxFc := if decide (leAt p 16 4 = d.epoch) && leAt p 12 4 == d.snid then d.rxFc else [none, none] } := by
    simp [Dn8.accepted]
  rw [e]
  unfold Dn8.accept
  dsimp only
  cases (Dn8.ack _ true c 0 0).contQ.isEmpty
  · exact ⟨_, _, _, rfl⟩
  · exact ⟨_, _, _, rfl⟩

/-- R131, R133, R141: what an accept gives the node. -/
theorem Dn8.accept_sets (d : Dn8) (n : Nat) (p : List Byte) (c : Nat) :
    (d.accept n p c).st = .synced ∧ (d.accept n p c).unit = leAt p 10 1 % 2 ∧ (d.accept n p c).ver = leAt p 11 1 ∧
      (d.accept n p c).snid = leAt p 12 4 ∧ (d.accept n p c).epoch = leAt p 16 4 ∧ (d.accept n p c).kL = leAt p 20 16 ∧
      (d.accept n p c).limPending = some (leAt p 36 2, leAt p 38 2) ∧ (d.accept n p c).ov = d.ov ∧ (d.accept n p c).uv = d.uv ∧
      (d.accept n p c).balTo = leAt p 40 2 ∧ (d.accept n p c).tof = leAt p 42 1 ∧ (d.accept n p c).joinCtr = c ∧
      (d.accept n p c).fc = (if leAt p 16 4 = d.epoch then d.fc else 0) + 1 := by
  obtain ⟨be, backoff, draws, e⟩ := d.accept_eq n p c
  rw [e]
  exact ⟨rfl, rfl, rfl, rfl, rfl, rfl, rfl, rfl, rfl, rfl, rfl, rfl, rfl⟩

/-- Settles O16: what is heard as a beacon is answered by link state (R141), and a JOIN reply by what it holds (R131). -/
theorem nodeBeaconsSetTimingAndMasks : Obligations.NodeBeaconsSetTimingAndMasks := by
  unfold Obligations.NodeBeaconsSetTimingAndMasks
  intro s n d h
  refine ⟨fun u f x => exec_of_modDn (f := fun d => d.onBeacon n.val u.val f (x % 2 ^ 40)) h rfl, fun u f x hu => Dn8.onBeacon_unheard hu,
    fun u f x e k hl hu hv hc => ?_, fun u f x e k hl hu hv hc => ?_, fun u f x hl hv => Dn8.onBeacon_linked_invalid hl hv,
    fun u f x hst hsi hr hf hb hj => ?_, fun f => exec_of_modDn (f := fun d => d.onReply n.val f) h rfl, fun f g hg => ?_,
    fun p c => d.accept_sets n.val p c, fun hst hw => ?_, fun hn => ?_⟩
  · refine ⟨_, rfl, ?_⟩
    rw [Dn8.onBeacon_linked hl hu hv, Dn8.syncedBeacon, if_pos hc]
    obtain ⟨he, hk⟩ := d.takeEpoch_sets u e k f.head.fc
    obtain ⟨hmask, -, hindex, htiming, hlinked⟩ := d.takeEpoch_keeps u e k f.head.fc
    simpa only [he, hk, hmask, hindex, htiming] using Dn8.adopt_sets (d.takeEpoch u e k f.head.fc) n.val u (Beacon.ofBytes f.body) x (hlinked.trans hl)
  · refine ⟨_, rfl, ?_⟩
    rw [Dn8.onBeacon_linked hl hu hv, Dn8.syncedBeacon, if_neg (by simp [hc])]
    have hunit : ((d.takeEpoch u e k f.head.fc).contResult n.val (Beacon.ofBytes f.body)).unit = u :=
      (((d.takeEpoch u e k f.head.fc).contResult_keeps n.val (Beacon.ofBytes f.body)).2.1.trans (d.takeEpoch_keeps u e k f.head.fc).2.1).trans hu
    dsimp only
    split
    · exact ⟨rfl, rfl, rfl, rfl⟩
    · exact ⟨rfl, rfl, rfl, hunit⟩
  · refine ⟨_, rfl, ?_⟩
    have e : d.onBeacon n.val u f x = d.startJoin n.val u f.head.snid (Beacon.ofBytes f.body) := by
      simp [Dn8.onBeacon, hst, hsi, hr, hf, hb, hj]
    rw [e]
    exact ⟨rfl, rfl, rfl, rfl, rfl⟩
  · replace hg : g = d.replyFits f := hg
    subst hg
    refine ⟨fun hn => ?_, fun p hg hp hs => ?_, fun p hg hp hs ha hl => ?_, fun p hg hp hs ha hl => ?_⟩
    · cases hg : d.replyFits f with
      | false => exact Dn8.onReply_of_not_fits hg
      | true =>
        rw [Dn8.onReply_of_fits hg, hn.resolve_left (by simp [hg])]
    · rw [Dn8.onReply_of_fits hg, hp]
      exact if_pos hs
    · rw [Dn8.onReply_of_fits hg, hp]
      exact (if_neg (not_not_intro hs)).trans (if_pos ⟨ha, hl⟩)
    · rw [Dn8.onReply_of_fits hg, hp]
      exact (if_neg (not_not_intro hs)).trans ((if_neg (by omega)).trans (if_pos ⟨ha, hl⟩))
  · refine completes_of_modDn h rfl ?_
    rw [if_pos ⟨hst, hw⟩]
    exact ⟨hst, rfl, rfl, rfl⟩
  · refine exec_of_modDn_id h rfl (if_neg ?_)
    rcases hn with hn | hn <;> simp [hn]

/-! Sweeps, reports, balancing and tests (R116, R149 to R166). -/

theorem Dn8.named_eq_false {d : Dn8} {x : Nat} (h : d.linked = false ∨ d.index ≠ some x) : d.named x = false := by
  rcases h with h | h <;> simp [Dn8.named, h]

/-- Settles O17: each measuring or balancing event of a node is its function, taken where the node is linked and its timing names it. -/
theorem nodeMeasuresAndBalances : Obligations.NodeMeasuresAndBalances := by
  unfold Obligations.NodeMeasuresAndBalances
  intro s n d h
  refine ⟨fun m e he hl ht => ?_, fun m e he hn => ?_, fun x b hl ht hc => ?_, fun x hn => ?_, fun b hl hb ht hd => ?_, fun hn => ?_, ?_,
    fun x b hl ht hi => ?_, fun x hn => ?_, fun x b hl ht hi => ?_, fun x hn => ?_⟩
  · refine exec_of_modDn_eq h rfl ?_
    rw [← he]
    exact if_pos (by simp [hl, ht])
  · refine exec_of_modDn_eq h rfl ?_
    rw [← he]
    exact if_neg (by rcases hn with hn | hn <;> simp [hn])
  · refine ⟨_, exec_of_modDn_eq h rfl (if_neg (by simp [hl, ht, hc])), _, rfl, rfl⟩
  · refine exec_of_modDn_id h rfl (if_pos ?_)
    rcases hn with hn | hn <;> simp [hn]
  · refine exec_of_modDn_eq h rfl ((if_neg (by simp)).trans (if_pos ?_))
    simp [hl, hb, ht, hd]
  · refine exec_of_modDn_id h rfl ((if_neg (by simp)).trans (if_neg ?_))
    rcases hn with hn | hn | hn <;> simp [hn]
  · exact exec_of_modDn_eq h rfl (if_pos rfl)
  · refine exec_of_modDn_eq h rfl ?_
    simp [ht, Dn8.named, hl, hi]
  · refine exec_of_modDn_id h rfl ?_
    cases ht : d.timing with
    | none => rfl
    | some b => exact if_neg (by simp [Dn8.named_eq_false (hn.imp_right fun hb => hb b ht)])
  · refine exec_of_modDn_eq h rfl ?_
    simp [ht, Dn8.named, hl, hi]
  · refine exec_of_modDn_id h rfl ?_
    cases ht : d.timing with
    | none => rfl
    | some b => exact if_neg (by simp [Dn8.named_eq_false (hn.imp_right fun hb => hb b ht)])

/-! Commands and firmware (R118 to R120). -/

/-- R118: a COMMAND frame that passes the checks and may be executed here. -/
theorem Dn8.onCommand_of_ok {d : Dn8} {n : Nat} {f : RxFrame} {p : List Byte} (hp : d.frameOk 3 f = some p) (hl : 2 ≤ p.length)
    (hw : d.slotMine 1 = true ∨ leAt p 0 1 = 8) :
    d.onCommand n f = if d.lastCseq = some (leAt p 1 1)
      then { d with rxFc := d.rxFc.set f.head.unit (some f.head.fc) }.ack (d.slotMine 1) f.head.fc d.lastAck.1 d.lastAck.2
      else { d with rxFc := d.rxFc.set f.head.unit (some f.head.fc), lastCseq := some (leAt p 1 1) }.command n (leAt p 0 1) (p.drop 2)
        (fun y r i => y.ack (d.slotMine 1) f.head.fc r i) := by
  unfold Dn8.onCommand
  rw [hp]
  refine if_neg ?_
  have hn : ¬ p.length < 2 := Nat.not_lt.2 hl
  rcases hw with hw | hw <;> simp [hw, hn]

/-- R118: a COMMAND frame that fails the checks, is too short, or comes outside the slot of the node and is no LEAVE. -/
theorem Dn8.onCommand_of_not_ok {d : Dn8} {n : Nat} {f : RxFrame}
    (h : d.frameOk 3 f = none ∨ ∃ p, d.frameOk 3 f = some p ∧ (p.length < 2 ∨ (d.slotMine 1 = false ∧ leAt p 0 1 ≠ 8))) :
    d.onCommand n f = d := by
  unfold Dn8.onCommand
  rcases h with h | ⟨p, h, hn⟩
  · rw [h]
  · rw [h]
    exact if_pos (hn.imp_right fun ⟨hw, hc⟩ => ⟨by simp [hw], hc⟩)

theorem Dn8.onFirmware_of_not_ok {d : Dn8} {n : Nat} {f : RxFrame}
    (h : d.frameOk 7 f = none ∨ ∃ p, d.frameOk 7 f = some p ∧ (p.length < 5 ∨ d.slotMine 2 = false)) : d.onFirmware n f = d := by
  unfold Dn8.onFirmware
  rcases h with h | ⟨p, h, hn⟩
  · rw [h]
  · rw [h]
    exact if_pos (hn.imp_right fun hw => by simp [hw])

theorem Dn8.onFirmware_of_ok {d : Dn8} {n : Nat} {f : RxFrame} {p : List Byte} (hp : d.frameOk 7 f = some p) (hl : 5 ≤ p.length)
    (hw : d.slotMine 2 = true) : d.onFirmware n f =
      { d with rxFc := d.rxFc.set f.head.unit (some f.head.fc) }.firmware n (leAt p 0 1) (leAt p 1 4) (p.drop 5)
        (fun y r i => y.ack true f.head.fc r i) := by
  unfold Dn8.onFirmware
  rw [hp]
  exact if_neg (by simp [hw, hl])

/-- Settles O18: a COMMAND frame is executed once, by its code (R118); a FIRMWARE frame by the image begun and its offset (R120). -/
theorem nodeCommandsAndFirmware : Obligations.NodeCommandsAndFirmware := by
  unfold Obligations.NodeCommandsAndFirmware
  intro s n d h
  refine ⟨fun f hn => exec_of_modDn_id (f := fun d => d.onCommand n f) h rfl (Dn8.onCommand_of_not_ok hn),
    fun f p x hp hl hw hx => ?_, fun p a hl => ?_, fun p a hl h1 h2 => ?_, fun p a hl hn => ?_, fun w c => ⟨rfl, ?_⟩, fun c p a hc => ?_,
    fun f hn => exec_of_modDn_id (f := fun d => d.onFirmware n f) h rfl (Dn8.onFirmware_of_not_ok hn),
    fun f p hp hl hw => exec_of_modDn_eq (f := fun d => d.onFirmware n f) h rfl (Dn8.onFirmware_of_ok hp hl hw),
    fun b off l a hf => ?_, fun b total v g c off l a hf hc => ?_, fun b total v g off l a hf ho => ?_, fun b total v g l a hf hl ht => ?_,
    fun b total v g l a hf hl ht hd => ?_⟩
  · subst hx
    exact exec_of_modDn_eq (f := fun d => d.onCommand n f) h rfl (Dn8.onCommand_of_ok hp hl hw)
  · exact if_neg (not_not_intro hl)
  · exact if_neg (by omega)
  · exact if_pos (.inr hn)
  · cases w <;> rfl
  · unfold Dn8.command
    split <;> simp_all
  · simp [Dn8.firmware, hf]
  · simp [Dn8.firmware, hf, hc]
  · simp [Dn8.firmware, hf, ho]
  · simp [Dn8.firmware, hf, hl, hl ▸ ht]
  · simp only [Dn8.firmware, hf, ne_eq, not_true, if_false, hl, hd]
    exact ⟨_, (if_neg (by omega)).trans (if_pos trivial), rfl, rfl⟩

/-! The comparators, the loop switch and the contention slots (R136, R155 to R157). -/

/-- R122: a CONTENTION event stands at the end of the node's queue; the loop switch and the flags stay. -/
theorem Dn8.contend_keeps (d : Dn8) (n ev : Nat) (data : List Nat) : (d.contend n ev data).contQ = d.contQ ++ [(ev, data)] ∧
    (d.contend n ev data).loopClosed = d.loopClosed ∧ (d.contend n ev data).ovTrip = d.ovTrip ∧ (d.contend n ev data).uvTrip = d.uvTrip ∧
    (d.contend n ev data).tripMap = d.tripMap ∧ (d.contend n ev data).selfFault = d.selfFault ∧ (d.contend n ev data).silent = d.silent ∧
    (d.contend n ev data).st = d.st ∧ (d.contend n ev data).closed = d.closed ∧ (d.contend n ev data).balBarred = d.balBarred := by
  unfold Dn8.contend
  dsimp only
  split <;> exact ⟨rfl, rfl, rfl, rfl, rfl, rfl, rfl, rfl, rfl, rfl⟩

/-- R155 to R157: a comparator trip opens the loop switch, is recorded, and queues its event where a slot follows. -/
theorem Dn8.trip_sets {d : Dn8} (n pos : Nat) {above : Bool} {held : Nat} (x : Nat) (hp : d.st ≠ .powerOff)
    (hh : if above = true then 100 * d.ov ≤ held else held ≤ 100 * d.uv) :
    (d.trip n pos above held x).loopClosed = false ∧ (d.trip n pos above held x).ovTrip = (d.ovTrip || above) ∧
    (d.trip n pos above held x).uvTrip = (d.uvTrip || !above) ∧ (d.trip n pos above held x).tripMap = putBit d.tripMap pos true ∧
    (d.trip n pos above held x).contQ =
      if d.slotFollows x = true then d.contQ ++ [(3, [putBit d.tripMap pos true] ++ le4 x)] else d.contQ := by
  have hg : ¬ (d.st = .powerOff ∨ (if above then held < 100 * d.ov else 100 * d.uv < held)) := by
    cases above <;> simp_all
  unfold Dn8.trip
  rw [if_neg hg]
  generalize hd : ({ d with loopClosed := false, ovTrip := d.ovTrip || above, uvTrip := d.uvTrip || !above, tripMap := putBit d.tripMap pos true } : Dn8) = e
  obtain ⟨hq, hl, ho, hu, ht, -⟩ := e.contend_keeps n 3 ([putBit d.tripMap pos true] ++ le4 x)
  dsimp only
  rw [hd]
  subst hd
  split
  · exact ⟨hl, ho, hu, ht, hq⟩
  · exact ⟨rfl, rfl, rfl, rfl, rfl⟩

/-- R136: the node has a frame to send in a contention slot. -/
def Dn8.wantsSlot (d : Dn8) : Prop := (d.st = .joining ∧ d.joinWait = true) ∨ (d.linked = true ∧ d.contQ ≠ [])

/-- R136: a contention slot that the node may use. -/
theorem Dn8.contSlot_of_may {d : Dn8} {b : Beacon} (hs : d.silent = false) (ht : d.timing = some b) (hk : 0 < b.kCount) (ha : d.kackWait = none)
    (hw : d.wantsSlot) : d.contSlot = if 0 < d.backoff then { d with backoff := d.backoff - 1 }
      else if (d.st == .joining && d.joinWait) = true then d.sendRequest else d.sendEvent := by
  unfold Dn8.contSlot
  refine if_neg ?_
  rcases hw with ⟨h1, h2⟩ | ⟨h1, h2⟩ <;> simp [hs, ht, hk, ha, h1, h2]

/-- Settles O19: each trip, fault and restart of a node is its function (R142, R155 to R157), and a contention slot is used by R136. -/
theorem nodeTripsAndContention : Obligations.NodeTripsAndContention := by
  unfold Obligations.NodeTripsAndContention
  intro s n d h
  refine ⟨fun p above held x hp hh => ?_, fun p above held x hn => ?_, ?_, fun x hp => ?_, fun x hp => ?_, fun x hp => ⟨?_, ?_⟩,
    fun lo hi => ?_, fun hn => ?_, fun b hs ht hk ha hw hb => ?_, fun b hs ht hk ha hb hst hj => ?_, fun b ht hk ha hb hl hq => ?_⟩
  · exact completes_of_modDn (f := fun d => d.trip n p above held x) h rfl (Dn8.trip_sets n.val p.val x hp hh)
  · exact exec_of_modDn_id (f := fun d => d.trip n p above held x) h rfl (if_pos hn)
  · exact exec_of_modDn (f := fun d => { d with loopClosed := false, supplyOk := false }) h rfl
  · refine completes_of_modDn h rfl ?_
    rw [if_neg hp]
    obtain ⟨hq, hl, -, -, -, hf, -⟩ := Dn8.contend_keeps { d with loopClosed := false, selfFault := true } n 2 [x]
    exact ⟨hl, hf, hq⟩
  · refine completes_of_modDn h rfl ?_
    rw [if_neg hp]
    obtain ⟨hq, -, -, -, -, -, hs, hst, hc, hb⟩ := Dn8.contend_keeps d.restart n 1 [x, d.bank]
    exact ⟨hs, hst, hc, hb, hq⟩
  · exact exec_of_modDn_id h rfl (if_pos hp)
  · exact exec_of_modDn_id h rfl (if_pos hp)
  · split
    · next hc => exact exec_of_modDn_eq h rfl (if_neg (by simp [hc]))
    · next hc =>
      refine exec_of_modDn_id h rfl (if_pos (Classical.byContradiction fun hn => hc ?_))
      simp only [Bool.or_eq_true, decide_eq_true_eq, not_or, Nat.not_lt, Bool.not_eq_true] at hn
      obtain ⟨⟨⟨hp, hf⟩, hlo⟩, hhi⟩ := hn
      exact ⟨hp, hf, hlo, hhi⟩
  · refine exec_of_modDn_id (f := Dn8.contSlot) h rfl (if_pos ?_)
    rcases hn with hn | hn | hn | ⟨hj, hn⟩
    · simp [hn]
    · simp [hn]
    · simp [hn]
    · have hj' : (d.st == .joining && d.joinWait) = false := by simpa using hj
      rcases hn with hn | hn <;> simp [hn, hj']
  · refine exec_of_modDn_eq (f := Dn8.contSlot) h rfl ?_
    rw [Dn8.contSlot_of_may hs ht hk ha hw, if_pos hb]
  · have e : d.contSlot = d.sendRequest := by
      rw [Dn8.contSlot_of_may hs ht hk ha (.inl ⟨hst, hj⟩), if_neg (by omega), if_pos (by simp [hst, hj])]
    exact ⟨_, exec_of_modDn_eq (f := Dn8.contSlot) h rfl e, _, rfl, rfl⟩
  · obtain ⟨hst, hsi⟩ := Dn8.linked_iff.1 hl
    have e : d.contSlot = d.sendEvent := by
      rw [Dn8.contSlot_of_may hsi ht hk ha (.inr ⟨hl, hq⟩), if_neg (by omega), if_neg (by rcases hst with hst | hst <;> simp [hst])]
    refine ⟨_, exec_of_modDn_eq (f := Dn8.contSlot) h rfl e, _, rfl, ?_⟩
    unfold Dn8.sendEvent
    split
    · next hn => exact absurd hn hq
    · rfl

end Sys2Proof.Machine

/-! The radio link: receive checks, joins, acknowledgements and the timers of the units (R108 to R138). -/

namespace Sys2Proof.Machine

/-! One node or unit of the list. -/

theorem nth_modify_self {α : Type} {l : List α} {i : Nat} (h : i < l.length) (f : α → α) (d : α) : nth (l.modify i f) i d = f (nth l i d) := by
  simp [nth, h]

theorem State.nl_modNl_self {s : State} {n : Nat} (h : n < s.fnl.links.length) (f : NLink → NLink) : (s.modNl n f).nl n = f (s.nl n) :=
  nth_modify_self h f {}

theorem State.unit_modUnit_self {s : State} {u : Nat} (h : u < s.fnl.units.length) (f : RUnit → RUnit) : (s.modUnit u f).unit u = f (s.unit u) :=
  nth_modify_self h f {}

/-- The first place of a list at which a test holds lies in the list. -/
theorem firstAt_lt {α : Type} {p : α → Bool} {l : List α} {n : Nat} (h : firstAt p l = some n) : n < l.length := by
  obtain ⟨x, hx, rfl⟩ := Option.map_eq_some_iff.1 h
  simpa using (List.of_mem_zip (List.mem_of_find?_eq_some hx)).1

/-! The receive checks (R137). -/

theorem State.rxOwn_none {s : State} {f : RxFrame} (hf : f.fcs = true) (hs : f.head.snid = s.fnl.snid) : s.rxOwn f = none := by
  simp [State.rxOwn, hf, hs]

/-- R137: a frame of the own network and of the right form is judged by the key of its epoch and by its counter. -/
theorem State.rxCheck_of_own {s : State} {f : RxFrame} (hf : f.fcs = true) (hs : f.head.snid = s.fnl.snid) : s.rxCheck f true =
    match (s.fnl.keyFor f.head.epoch).bind f.openWith with
    | none => .error .mic
    | some p => if fcFresh (if s.fnl.epochNow f.head.epoch then (s.nl f.head.addr).lastFc else (s.nl f.head.addr).lastFcOld) f.head.fc
      then .ok p else .error .replay := by
  unfold State.rxCheck
  rw [State.rxOwn_none hf hs]
  rfl

theorem Fnl.epochNow_iff {f : Fnl} {e : Nat} : f.epochNow e = true ↔ e = f.epoch % 256 := by
  simp [Fnl.epochNow]

/-- R137: a frame of the epoch in use that opens is judged by the last counter of its address. -/
theorem State.rxCheck_of_opens {s : State} {f : RxFrame} {p : List Byte} (hf : f.fcs = true) (hs : f.head.snid = s.fnl.snid)
    (he : f.head.epoch = s.fnl.epoch % 256) (hp : f.openWith s.fnl.keyNow = some p) :
    s.rxCheck f true = if fcFresh (s.nl f.head.addr).lastFc f.head.fc then .ok p else .error .replay := by
  have hn := Fnl.epochNow_iff.2 he
  rw [State.rxCheck_of_own hf hs]
  simp [Fnl.keyFor, hn, hp]

theorem State.rxCount_only (s : State) (u n : Nat) (k : RxFail) : s.rxCount u n k = { s with fnl := (s.rxCount u n k).fnl } := by
  unfold State.rxCount
  dsimp only
  split <;> rfl

/-- Settles O11: the checks of R137 in their order, and the counter that an accepted frame leaves. -/
theorem receivedFramesPassTheirChecks : Obligations.ReceivedFramesPassTheirChecks := by
  unfold Obligations.ReceivedFramesPassTheirChecks
  intro s f form
  refine ⟨fun hf => ?_, fun hf h1 h2 => ?_, fun hf hs hm => ?_, fun hf hs hm hk => ?_, fun p l hf hs hm he hp hl => ?_,
    fun p hf hs hm he hp hl => ?_, fun u n k => s.rxCount_only u n k, fun he ha => ?_, rfl⟩
  · simp [State.rxCheck, State.rxOwn, hf]
  · simp [State.rxCheck, State.rxOwn, hf, h1, h2]
  · simp [State.rxCheck, State.rxOwn_none hf hs, hm]
  · rw [hm, State.rxCheck_of_own hf hs, hk]
  · rw [hm, State.rxCheck_of_opens hf hs he hp, hl]
    simp [fcFresh]
  · rw [hm, State.rxCheck_of_opens hf hs he hp, hl]
    rfl
  · have e : (s.rxAccept f).nl f.head.addr = _ := State.nl_modNl_self ha _
    rw [e, if_pos (Fnl.epochNow_iff.2 he)]

/-! The frames that come. -/

/-- R131: the form of a JOIN request heard on a unit. -/
def State.joinForm (s : State) (u : Nat) (f : RxFrame) : Bool :=
  f.head.typ == 5 && f.head.ver == 2 && f.head.dir && f.head.unit == u && f.head.addr == 0x3E && f.body.length == 21 &&
    leAt f.body 0 1 == 1 && (s.unit u).contOpen

/-- R131: a JOIN request of the right form. -/
theorem execJoinRequestRx_of_form {s : State} {u : Fin 2} {f : RxFrame} (hf : s.joinForm u.val f = true) (ho : s.rxOwn f = none) :
    execJoinRequestRx u f s = match s.fnl.rowOf (leAt f.body 1 8) with
      | none => .next (s.joinUnknown u.val (leAt f.body 1 8))
      | some n =>
        if (f.openWith (nth s.fnl.pair n {}).kN).isNone || f.head.epoch != 0 then
          .next ((s.rxCount u.val n .mic).joinUnknown u.val (leAt f.body 1 8))
        else if f.head.fc ≤ (nth s.fnl.pair n {}).joinCtr then .next (s.rxCount u.val n .replay)
        else
          let a := (s.applyAt (.on .join)).joinAnswer (leAt f.body 9 1) (leAt f.body 10 1) (leAt f.body 11 1)
          let r : JoinReply := { node := n, refuse := a.1, unit := u.val, ver := a.2, hw := leAt f.body 11 1, fwA := leAt f.body 12 4,
                                 fwB := leAt f.body 16 4, bank := leAt f.body 20 1, serial := leAt f.body 1 8 }
          let g : Fnl := { s.fnl with pair := s.fnl.pair.modify n (fun x => { x with joinCtr := f.head.fc }) }
          if s.inPilot then .next { s with fnl := g }
          else .next ((({ s.applyAt (.on .join) with fnl := g } : State).kackSet u.val 0x3E f.head.fc).queueReply r) := by
  unfold execJoinRequestRx
  rw [ho]
  unfold State.joinForm at hf
  exact if_neg (by simp only [Bool.not_eq_true', Bool.not_eq_false]; exact hf)

theorem Fnl.rowOf_lt {f : Fnl} {serial n : Nat} (h : f.rowOf serial = some n) : n < f.pair.length := by
  unfold Fnl.rowOf at h
  split at h
  · cases h
  · exact firstAt_lt h

/-- R131: what a JOIN request with a fresh counter does. -/
theorem execJoinRequestRx_of_fresh {s : State} {u : Fin 2} {f : RxFrame} {n : Nat} (hf : s.joinForm u.val f = true) (ho : s.rxOwn f = none)
    (hn : s.fnl.rowOf (leAt f.body 1 8) = some n) (hp : (f.openWith (nth s.fnl.pair n {}).kN).isSome = true) (he : f.head.epoch = 0)
    (hc : (nth s.fnl.pair n {}).joinCtr < f.head.fc) : Completes (.joinRequestRx u f) s fun t =>
      (nth t.fnl.pair n {}).joinCtr = f.head.fc ∧ (s.inPilot = false → ∃ r ∈ t.fnl.joinQ, r.node = n) := by
  have hr := execJoinRequestRx_of_form hf ho
  rw [hn] at hr
  dsimp only at hr
  rw [if_neg (by simp [Option.isSome_iff_ne_none.1 hp, he, Option.isNone_iff_eq_none]), if_neg (by omega)] at hr
  have hpair : ∀ f, nth (s.fnl.pair.modify n f) n {} = f (nth s.fnl.pair n {}) := fun f => nth_modify_self (Fnl.rowOf_lt hn) f {}
  split at hr
  · next hi => exact ⟨_, hr, by rw [hpair], fun h => absurd hi (by simp [h])⟩
  · refine ⟨_, hr, ?_, fun _ => ?_⟩
    · exact congrArg PairRow.joinCtr (hpair _)
    · exact ⟨_, List.mem_append_right _ (List.mem_singleton.2 rfl), rfl⟩

/-- R105: a missed window is closed and counted at the unit and at the node. -/
theorem execReportWindowMiss_of_open {s : State} {u : Fin 2} {n : Fin 48} (ho : (s.unit u.val).expect.contains n.val = true)
    (hu : u.val < s.fnl.units.length) (hn : n.val < s.fnl.links.length) : Completes (.reportWindowMiss u n) s fun t =>
      (t.unit u.val).miss = incSat 16 (s.unit u.val).miss ∧ (t.nl n.val).miss = incSat 16 (s.nl n.val).miss ∧
        (t.unit u.val).expect.contains n.val = false := by
  refine ⟨_, if_neg (by rw [ho]; decide), ?_⟩
  dsimp only
  generalize hs1 : (s.modUnit u.val _).modNl n.val _ = s1
  have hf : ∀ t : State, t.fnl = s1.fnl → (t.unit u.val).miss = incSat 16 (s.unit u.val).miss ∧
      (t.nl n.val).miss = incSat 16 (s.nl n.val).miss ∧ (t.unit u.val).expect.contains n.val = false := by
    intro t ht
    subst hs1
    have h1 : t.unit u.val = _ := (congrArg (fun f : Fnl => nth f.units u.val {}) ht).trans (State.unit_modUnit_self hu _)
    have h2 : t.nl n.val = _ := (congrArg (fun f : Fnl => nth f.links n.val {}) ht).trans (nth_modify_self hn _ _)
    rw [h1, h2]
    exact ⟨rfl, rfl, by simp⟩
  split
  · exact hf _ rfl
  · exact hf _ (by simp)

/-- Settles O12: each frame by the outcome of its receive checks, each timer by its condition. -/
theorem linkFramesAreTaken : Obligations.LinkFramesAreTaken := by
  unfold Obligations.LinkFramesAreTaken
  intro s u f
  refine ⟨fun n ho => ⟨if_pos (by rw [ho]; rfl), if_pos (by rw [ho]; rfl)⟩, fun n g r ho hg hr => ?_,
    fun n ho hu hn => execReportWindowMiss_of_open ho hu hn, fun k hk => ?_, fun p hp => ?_, fun k hk => ?_, fun g hg ho => ?_,
    fun hw => ?_, fun k n c r hw hr => ?_, fun b hu => ?_, fun hp ho => ?_, fun hc hk hn => ?_, fun n q ha hq hl => ?_⟩
  · subst hg
    have e : execReportRx u n f s = _ := if_neg (by rw [ho]; decide)
    refine e.trans ?_
    rw [hr]
    cases r <;> rfl
  · show execContentionRx u f s = _
    unfold execContentionRx
    rw [hk]
  · show execContentionRx u f s = _
    unfold execContentionRx
    rw [hp]
    dsimp only
    have e : (s.rxAccept f).inPilot = s.inPilot := rfl
    rw [e]
    split <;> rfl
  · show execJoinRequestRx u f s = _
    unfold execJoinRequestRx
    rw [hk]
  · replace hg : g = s.joinForm u.val f := hg
    subst hg
    refine ⟨fun hf => ?_, fun hf hn => ?_, fun n hf hn hp => ?_, fun n hf hn hp he hc => ?_,
      fun n hf hn hp he hc => execJoinRequestRx_of_fresh hf ho hn hp he hc⟩
    · show execJoinRequestRx u f s = _
      unfold execJoinRequestRx
      rw [ho]
      unfold State.joinForm at hf
      exact if_pos (by simp only [hf]; rfl)
    · exact (execJoinRequestRx_of_form hf ho).trans (by rw [hn])
    · refine (execJoinRequestRx_of_form hf ho).trans ?_
      rw [hn]
      exact if_pos (by rcases hp with hp | hp <;> simp [hp])
    · refine (execJoinRequestRx_of_form hf ho).trans ?_
      rw [hn]
      exact (if_neg (by simp [Option.isSome_iff_ne_none.1 hp, he, Option.isNone_iff_eq_none])).trans (if_pos hc)
  · show execAckRx u f s = _
    unfold execAckRx
    rw [hw]
    dsimp only
    cases s.rxCheck f false <;> rfl
  · show execAckRx u f s = _
    unfold execAckRx
    rw [hw]
    dsimp only
    rw [hr]
    cases r with
    | error e => rfl
    | ok p =>
      dsimp only
      split <;> rfl
  · refine ⟨_, if_neg (by rw [hu]; decide), ?_⟩
    dsimp only
    split <;> simp
  · exact ⟨_, if_neg (by rw [hp, ho]; decide), rfl⟩
  · exact ⟨_, if_pos (by rw [hc, hk, hn]; rfl), rfl⟩
  · refine ⟨_, ?_, rfl⟩
    show execCommandRetry n s = _
    simp [execCommandRetry, ha, State.takeFlight, hq, hl]

/-! The timers of the link. -/

/-- R118: with the commands of a node taken out of the queue, none of that node is in flight. -/
theorem State.takeFlight_cmdQ {s t : State} {n : Nat} {q : NodeCmd} (h : s.takeFlight n = some (q, t)) :
    ∀ x ∈ t.fnl.cmdQ, x.node = n → x.inFlight = false := by
  unfold State.takeFlight at h
  split at h
  · cases h
  · cases h
    intro x hx hn
    simpa [hn] using (List.mem_filter.1 hx).2

/-- R124, R125: an epoch advance raises the epoch and starts every frame counter afresh. -/
theorem Fnl.advance_restarts (f : Fnl) (c : Nat) : (f.advance c).epoch = inc32 f.epoch ∧ (∀ x ∈ (f.advance c).units, x.fc = 0) ∧
    ∀ l ∈ (f.advance c).links, l.lastFc = none := by
  refine ⟨rfl, fun x hx => ?_, fun l hl => ?_⟩
  · obtain ⟨y, -, rfl⟩ := List.mem_map.1 hx
    rfl
  · obtain ⟨y, -, rfl⟩ := List.mem_map.1 hl
    rfl

/-- R167: a class of the loop current that isolates sets the latch. -/
theorem State.isolate_sag_latch (s : State) (c : Nat) : (s.isolate c).sag.latch = true := by
  cases h : s.sag.latch with
  | true => rw [State.isolate_sag_of_latch_set h]; exact h
  | false => exact (State.isolate_of_latch_clear h c).1

/-- R167: another class outside a reserve test is stored, and isolates where it is open or bypassed. -/
theorem execLoopClassChange_new {s : State} {ua : Nat} (hc : loopClass ua ≠ s.mea.loop) (hr : s.prl.resLeft = 0) :
    Completes (.loopClassChange ua) s fun t => t.mea.loop = loopClass ua ∧ t.pins.loopUa = ua ∧
      t.sag.latch = (loopClass ua == 2 || loopClass ua == 3 || s.sag.latch) := by
  refine ⟨_, (if_neg (by simp [hc, hr]) : execLoopClassChange ua s = _), ?_⟩
  split
  · next h2 => exact ⟨by simp, by simp, by simp [State.isolate_sag_latch, h2]⟩
  · split
    · next h2 => exact ⟨by simp, by simp, by simp [State.isolate_sag_latch, h2]⟩
    · exact ⟨by simp, by simp, by simp [*]⟩

/-- Settles O13: each timer of the link acts where its condition holds, and a loop current by its class. -/
theorem linkTimersAndUnits : Obligations.LinkTimersAndUnits := by
  unfold Obligations.LinkTimersAndUnits
  intro s
  refine ⟨fun u b t hu ht => ?_, fun u b hu => if_pos (by rw [hu]; rfl), fun hp ho => ?_, fun hn => ?_, ?_, fun n hn => ?_,
    fun n q t ha hq hl => ?_, fun n q t ha hq hl => ⟨?_, State.takeFlight_cmdQ hq⟩, fun ua hn => ?_, fun ua hc hr => ?_,
    fun c => s.fnl.advance_restarts c⟩
  · subst ht
    refine (if_neg (by rw [hu]; decide) : execUnitLoopbackTest u b s = _).trans ?_
    simp only [Bool.and_eq_true, Bool.not_eq_true', and_assoc]
  · refine (if_neg ?_ : execEpochPeriodExpiry s = _)
    rw [hp, show s.epochOver = true from decide_eq_true ho]
    decide
  · refine (if_pos ?_ : execEpochPeriodExpiry s = _)
    rcases hn with hn | hn
    · rw [hn]; rfl
    · rw [show s.epochOver = false from decide_eq_false (Nat.not_le.2 hn)]
      simp
  · show execLinkKeyChangeTimeout s = _
    simp only [execLinkKeyChangeTimeout, Fnl.endKeyChange, Bool.and_eq_true, Bool.not_eq_true', and_assoc]
    split <;> rfl
  · show execCommandRetry n s = _
    rcases hn with hn | hn
    · simp [execCommandRetry, hn]
    · simp [execCommandRetry, hn]
  · refine ⟨_, show execCommandRetry n s = _ by simp only [execCommandRetry, ha, hq, hl, if_true, Bool.false_eq_true, if_false]; rfl, ?_, rfl⟩
    intro x hx hn
    obtain ⟨y, -, rfl⟩ := List.mem_map.1 hx
    by_cases hy : (y.node == n.val && y.inFlight) = true
    · rw [if_pos hy]
    · rw [if_neg hy] at hn ⊢
      simpa [hn] using hy
  · show execCommandRetry n s = _
    simp [execCommandRetry, ha, hq, Nat.not_le.2 hl]
  · refine (if_pos ?_ : execLoopClassChange ua s = _)
    rcases hn with hn | hn <;> simp [hn]
  · exact execLoopClassChange_new hc hr

end Sys2Proof.Machine

/-! The firing sequencer: the entries that it runs itself, and its two banks (R83 to R98). -/

namespace Sys2Proof.Machine

/-! The entries that are due. -/

@[simp] theorem State.taken_csm (s : State) (m : EntryIn) (w : Nat) : (s.taken m w).csm = s.csm := State.announced_csm s m

@[simp] theorem State.taken_sag (s : State) (m : EntryIn) (w : Nat) : (s.taken m w).sag = s.sag := State.announced_sag s m

/-- R92: passing an entry leaves the mirror's number. -/
theorem State.taken_mirrorSeq (s : State) (m : EntryIn) (w : Nat) : (s.taken m w).prl.mirrorSeq = s.prl.mirrorSeq := by
  simp [State.taken, State.announced]

theorem State.taken_parN (s : State) (m : EntryIn) (w i : Nat) : (s.taken m w).parN i = s.parN i := by
  simp [State.parN, State.par, State.taken]

/-- R90: the owner with the pair link up pushes a scope of its state. -/
theorem State.push_sets {s : State} (k : Nat) (hl : s.linkUp = true) (ho : s.prl.owner = true ∨ s.fsq.asOwner = true) :
    (s.push k).prl.mirrorSeq = inc32 s.prl.mirrorSeq ∧ (s.push k).prl.mirrorAge = 0 ∧ (s.push k).prl.pushed = some (k, s.pushBody k) ∧
    s.push k = { s with prl := (s.push k).prl } ∧
    (s.push k).prl.sentParts = pushParts (s.parN P.prlVerMax) (inc32 s.prl.mirrorSeq) (mirrorBytes k (s.pushBody k)) := by
  have e : s.push k = _ := if_pos ⟨hl, ho⟩
  rw [e]
  exact ⟨rfl, rfl, rfl, rfl, rfl⟩

theorem State.push_idle {s : State} (k : Nat) (h : s.linkUp = false ∨ s.prl.owner = false ∧ s.fsq.asOwner = false) : s.push k = s := by
  refine if_neg ?_
  rcases h with h | ⟨h1, h2⟩ <;> simp [*]

/-- R153: a latch stores the mean of the current in the place that its CONV names. -/
theorem State.latch_latches (s : State) (w : Nat) (ma vStr vBus dq : Int) :
    (s.latch w ma vStr vBus dq).fsq.latches = s.fsq.latches.set (field w 66 64) ma := by
  simp [State.latch]

/-- R90: the greatest lateness kept does not fall at a checkpoint. -/
theorem execLogCheckpoint_due {s : State} {m : EntryIn} {w : Nat} (h : s.EntryDue 0x0C m w) :
    Completes (.logCheckpoint m) s fun u => (s.taken m w).fsq.lateMax ≤ u.fsq.lateMax ∧ u.csm = s.csm := by
  refine ⟨_, show execLogCheckpoint m s = _ by simp only [execLogCheckpoint, State.gate_due h]; rfl, ?_⟩
  split
  · rw [State.logPost_fsq, State.logPost_csm]
    exact ⟨Nat.le_max_left _ _, by simp⟩
  · exact ⟨Nat.le_max_left _ _, by simp⟩

/-- Settles O8: an entry that is due runs on the state that has passed it (R92), by its class. -/
theorem entriesOfTheSequencerRun : Obligations.EntriesOfTheSequencerRun := by
  unfold Obligations.EntriesOfTheSequencerRun
  intro s m w t ht
  subst ht
  refine ⟨fun h => State.onEntry_due _ h, fun h => State.onEntry_due _ h, execLogCheckpoint_due, fun h hk hl ho hp => ?_,
    fun h hk hn => ?_, fun h hp => ?_, fun h hp => ?_, fun h i v b q => ?_⟩
  · have e : exec (.mirrorPush m) s = .next ((s.taken m w).push (field w 65 64)) := by
      refine (State.onEntry_due _ h).trans ((if_neg (Nat.not_lt.2 hk)).trans ?_)
      rw [State.unlessPilot, hp]
      rfl
    obtain ⟨h1, h2, h3, h4, h5⟩ := State.push_sets (field w 65 64) hl ho
    rw [State.taken_mirrorSeq] at h1 h5
    rw [State.taken_parN] at h5
    exact ⟨_, e, h1, h2, h3, h4, h5⟩
  · refine (State.onEntry_due _ h).trans ((if_neg (Nat.not_lt.2 hk)).trans ?_)
    rcases hn with hn | hn
    · rw [State.unlessPilot, hn]
      rfl
    · rw [State.push_idle _ hn, State.unlessPilot]
      split <;> rfl
  · refine ⟨_, (State.onEntry_due _ h).trans (by rw [State.unlessPilot, hp]; rfl), ?_, ?_, rfl⟩ <;> simp
  · refine (State.onEntry_due _ h).trans ?_
    rw [State.unlessPilot, hp]
    rfl
  · exact ⟨_, State.onEntry_due _ h, State.latch_latches ..⟩

/-! The banks and the swap (R95 to R98). -/

theorem Fsq.bankPut_stored {f : Fsq} {b : Fin 2} (o : Nat) (l : List Byte) (hb : b.val ≠ f.active) (hs : f.swapBusy = false) :
    (f.bankPut b.val o l).bank b.val = memPutL (f.bank b.val) o l ∧ (f.bankPut b.val o l).wrActive = f.wrActive := by
  have e : f.bankPut b.val o l = _ := (if_neg hb).trans (if_neg (by simp [hs]))
  rw [e]
  unfold Fsq.bank
  split <;> exact ⟨by simp [*], rfl⟩

theorem Fsq.swapBusy_iff {f : Fsq} : f.swapBusy = true ↔ f.swapCode = 1 ∨ f.swapCode = 2 ∨ f.swapCode = 3 := by
  simp [Fsq.swapBusy, or_assoc]

theorem Fsq.shadow_ne_active {f : Fsq} (h : f.active < 2) : f.shadow ≠ f.active := by
  unfold Fsq.shadow
  omega

/-- R97: naming the shadow bank asks for the check where no swap is busy. -/
theorem Fsq.writeNext_shadow {f : Fsq} (hb : f.swapBusy = false) (ha : f.active < 2) :
    f.writeNext f.shadow = { f with next := Tv.put f.shadow, swapCode := 1 } := by
  have hn : ¬ (f.swapCode = 1 ∨ f.swapCode = 2 ∨ f.swapCode = 3) := fun h => by simp [Fsq.swapBusy_iff.2 h] at hb
  unfold Fsq.writeNext
  rw [if_neg (by omega), if_neg (Fsq.shadow_ne_active ha), if_neg (by omega)]

theorem Fsq.writeNext_shadow_busy {f : Fsq} (hb : f.swapBusy = true) (ha : f.active < 2) : f.writeNext f.shadow = f := by
  have hc := Fsq.swapBusy_iff.1 hb
  unfold Fsq.writeNext
  split
  · rfl
  · rw [if_neg (Fsq.shadow_ne_active ha), if_pos (by omega)]

/-- R97: naming the active bank withdraws a swap that is checked or waits. -/
theorem Fsq.writeNext_active {f : Fsq} (hc : f.swapCode = 1 ∨ f.swapCode = 2) :
    f.writeNext f.active = { f with next := Tv.put f.active, swapCode := 8 } := by
  unfold Fsq.writeNext
  rw [if_neg (by omega), if_pos rfl, if_pos hc]

/-- R97: the check leaves PENDING, or one of the two codes of a refusal. -/
theorem State.checkCode_cases (s : State) : s.checkCode = 2 ∨ s.checkCode = 6 ∨ s.checkCode = 7 := by
  unfold State.checkCode
  split
  · simp
  · extract_lets t both
    split
    · simp
    · cases both <;> simp

theorem State.takeAlign_keeps (s : State) : s.takeAlign.fsq.frozen = s.fsq.frozen ∧ s.takeAlign.fsq.swapCode = s.fsq.swapCode := by
  unfold State.takeAlign
  split <;> simp

/-- R98: the freeze commits a swap that waits. -/
theorem State.freeze_sets (s : State) : s.freeze.fsq.frozen = true ∧ s.freeze.fsq.swapCode = if s.fsq.swapCode = 2 then 3 else s.fsq.swapCode := by
  unfold State.freeze
  extract_lets f f1 s1 m src s2
  have h : s2.fsq.frozen = true ∧ s2.fsq.swapCode = if s.fsq.swapCode = 2 then 3 else s.fsq.swapCode := by
    show src.frozen = true ∧ src.swapCode = _
    obtain ⟨h1, h2⟩ := State.takeAlign_keeps (({ s with fsq := f1 } : State).applyAt (.on .freeze))
    exact ⟨h1.trans (by simp [f1]), h2.trans (by simp [f1, f])⟩
  by_cases hp : s2.inPilot = true
  · rw [if_pos hp]
    exact h
  · rw [if_neg hp]
    exact h

/-- R86: the place of the sequencer in its frame. -/
def Fsq.place (f : Fsq) : Nat × Bool × Bool × Bool := (f.entry, f.tableDone, f.frameEnded, f.frozen)

theorem State.stepTime_place (s : State) : s.stepTime.fsq.place = s.fsq.place := by
  unfold State.stepTime
  split
  · rfl
  · split <;> rfl

theorem State.alignStat_place (s : State) : s.alignStat.fsq.place = s.fsq.place := rfl

theorem Fsq.markNext_place (f : Fsq) : f.markNext.place = f.place := rfl

theorem State.adoptPeriod_place (s : State) : s.adoptPeriod.fsq.place = s.fsq.place := by
  unfold State.adoptPeriod
  split
  · split <;> rfl
  · rfl

theorem Fsq.newFrame_place (f : Fsq) (t : Nat) : (f.newFrame t).place = (0, false, false, false) := by
  unfold Fsq.newFrame Fsq.traceStart
  split <;> rfl

/-- R86: a new frame begins at entry 0, not frozen. -/
theorem State.frameStart_sets (s : State) : s.frameStart.fsq.entry = 0 ∧ s.frameStart.fsq.tableDone = false ∧
    s.frameStart.fsq.frameEnded = false ∧ s.frameStart.fsq.frozen = false := by
  have h : s.frameStart.fsq.place = (0, false, false, false) := by
    unfold State.frameStart
    extract_lets t s1 s2 s3 p s4
    have h3 : s3.fsq.place = (0, false, false, false) := (State.stepTime_place { s2 with fsq := s2.fsq.newFrame t }).trans (Fsq.newFrame_place _ _)
    have h4 : s4.fsq.place = (0, false, false, false) := (Fsq.markNext_place s3.fsq).trans h3
    clear_value s4
    rw [State.linkFrameStart_fsq, State.ceFrameStart_fsq, State.adoptPeriod_place, State.alignStat_place, h4]
  simpa [Fsq.place] using h

/-- R96: bytes written to a memory of canonical form read back. -/
theorem memGetL_putL {m : Mem} (a : Nat) (l : List Byte) (w : memWf m = true) : memGetL (memPutL m a l) a l.length = l := by
  induction l generalizing m a with
  | nil => rfl
  | cons b l ih =>
    show memGet (memPutL (memPut m a b) (a + 1) l) a :: memGetL (memPutL (memPut m a b) (a + 1) l) (a + 1) l.length = b :: l
    rw [memGet_putL_out _ _ (.inl (Nat.lt_succ_self a)), memGet_put a b w, ih _ (memPut_wf a b w)]

/-- Settles O10: the writes by the shadow bank and the swap (R96, R97), the freeze and the frame start (R86, R98), and the memory's laws. -/
theorem banksSwapAndReadBack : Obligations.BanksSwapAndReadBack := by
  unfold Obligations.BanksSwapAndReadBack
  refine ⟨fun s => ⟨fun b i w hu hb hs => ?_, fun b i w hu hb => ?_, fun b i w hu hb hs => ?_, fun hu hp hb ha => ?_, fun hu hp hb ha => ?_,
    fun hu hp hc => ?_, fun hu hp c hc => ?_, fun hu c hc => ?_, fun hc => ?_, fun hc => if_pos hc, fun hr hf hb => ?_, fun hn => ?_,
    fun hr => ?_, fun hr => ?_⟩, fun m a l w => ⟨memGetL_putL a l w, fun b hb => memGet_putL_out m l hb, memPutL_wf a l w⟩⟩
  · obtain ⟨h1, h2⟩ := Fsq.bankPut_stored (4 * i.val) (leBytes 4 w.toNat) hb hs
    exact ⟨_, State.hostWrite_up _ hu, h1, rfl, h2⟩
  · refine (State.hostWrite_up _ hu).trans ?_
    rw [show s.fsq.bankPut b.val (4 * i.val) (leBytes 4 w.toNat) = _ from if_pos hb]
    simp [hb]
  · refine (State.hostWrite_up _ hu).trans ?_
    rw [show s.fsq.bankPut b.val (4 * i.val) (leBytes 4 w.toNat) = _ from (if_neg hb).trans (if_pos hs)]
    simp [hs]
  · exact (State.ownerWrite_up _ hu hp).trans (by rw [Fsq.writeNext_shadow hb ha])
  · exact (State.ownerWrite_up _ hu hp).trans (by rw [Fsq.writeNext_shadow_busy hb ha])
  · exact (State.ownerWrite_up _ hu hp).trans (by rw [Fsq.writeNext_active hc])
  · rcases hc with rfl | rfl <;> exact State.ownerWrite_pilot _ hu hp
  · rcases hc with rfl | rfl | ⟨b, i, w, rfl⟩ <;> exact State.hostWrite_down _ hu
  · refine ⟨_, if_neg (not_not_intro hc), ?_, rfl⟩
    rcases s.checkCode_cases with h | h | h <;> simp [h]
  · exact ⟨_, if_pos (by simp [hr, hf, hb]), s.freeze_sets⟩
  · refine if_neg ?_
    rcases hn with hn | hn | hn <;> simp [hn]
  · refine ⟨_, congrArg Host.Outcome.next (if_pos hr), s.frameStart_sets⟩
  · exact congrArg Host.Outcome.next (if_neg (by simp [hr]))

end Sys2Proof.Machine

/-! An isolation, what it sets and what it leaves (R331). -/

namespace Sys2Proof.Machine

/-- R349: of the saggar, sending the status uses up a number and stores the datagrams. -/
theorem State.sendStatus_sag (s : State) : ∃ q d, s.sendStatus.sag = { s.sag with statSeq := q, stat := d } := by
  unfold State.sendStatus
  split
  · exact ⟨s.sag.statSeq, s.sag.stat, rfl⟩
  · exact ⟨_, _, rfl⟩

/-- R331: an isolated module before its record and its messages. -/
def State.dropped (s : State) (c : Nat) : State :=
  let t := (s.dropOutputs.degStop.clearSetpoints).swapAbandon
  { t with
    sys := { t.sys with isoDue := if t.sys.mgpAway then some c else none }
    sag := { t.sag with latch := true, cause := c, causes := [c], cleared := [], hardDiag := false }
    ctl := t.ctl.resetLoops
    log := { t.log with snapDue := some c } }

theorem State.isolate_eq {s : State} (h : s.sag.latch = false) (c : Nat) : s.isolate c =
    ((((((s.dropped c).logPost 1 0x0A01 (causeSev c) [c, s.sys.st.code, 1]).attn 2 (causeSev c) [c]).post .isolation).sendStatus).pairSend 4
      (leBytes 1 c)) := if_neg (by simp [h])

/-- R331, R338: what an isolation leaves in the saggar. -/
theorem State.dropped_sag (s : State) (c : Nat) : (s.dropped c).sag =
    { s.sag with
      latch := true, cause := c, causes := [c], cleared := [], hardDiag := false, coil := [false, false, false, false],
      pullin := [false, false, false, false], want := [false, false, false, false], isolateOut := true, demandOut := true,
      degRun := false, degRunT := 0 } := by
  exact congrArg (fun g : Sag => { g with latch := true, cause := c, causes := [c], cleared := [], hardDiag := false }) (State.swapAbandon_sag _)

theorem State.isolate_sag {s : State} (h : s.sag.latch = false) (c : Nat) :
    ∃ q d, (s.isolate c).sag = { (s.dropped c).sag with statSeq := q, stat := d } := by
  rw [State.isolate_eq h, State.pairSend_sag]
  obtain ⟨q, d, e⟩ := State.sendStatus_sag ((((s.dropped c).logPost 1 0x0A01 (causeSev c) [c, s.sys.st.code, 1]).attn 2 (causeSev c) [c]).post .isolation)
  exact ⟨q, d, e.trans (by simp)⟩

/-- R331: the gate lines go low and no phase drives. -/
theorem State.isolate_phm {s : State} (h : s.sag.latch = false) (c : Nat) : (s.isolate c).phm = s.dropOutputs.phm := by
  simp [State.isolate_eq h, State.dropped]

theorem State.isolate_ctl {s : State} (h : s.sag.latch = false) (c : Nat) :
    (s.isolate c).ctl = s.dropOutputs.degStop.clearSetpoints.ctl.resetLoops := by
  simp [State.isolate_eq h, State.dropped]

theorem State.isolate_snapDue {s : State} (h : s.sag.latch = false) (c : Nat) : (s.isolate c).log.snapDue = some c := by
  simp [State.isolate_eq h, State.dropped]

/-- R333: an isolation records its cause, as the first one where the latch was clear. -/
theorem State.isolate_isolatedAs (s : State) (c : Nat) : s.isolatedAs c (s.isolate c) := by
  unfold State.isolatedAs
  cases h : s.sag.latch with
  | true =>
    rw [State.isolate_sag_of_latch_set h]
    exact ⟨h, rfl, (Sag.mem_addCause_causes _ _ _).2 (.inr rfl)⟩
  | false =>
    obtain ⟨q, d, e⟩ := State.isolate_sag h c
    rw [e, State.dropped_sag]
    exact ⟨rfl, rfl, List.mem_singleton_self c⟩

/-- R331: of the system block, an isolation adds an event and marks the message that the MGP owes. -/
theorem State.isolate_sys_rest (f : Sys → α) (hf : ∀ y a b, f { y with events := a, isoDue := b } = f y) (s : State) (c : Nat) :
    f (s.isolate c).sys = f s.sys := by
  have hp (t : State) : f (t.post .isolation).sys = f t.sys := hf t.sys (t.sys.events ++ [Ev.isolation]) t.sys.isoDue
  cases h : s.sag.latch with
  | true => rw [State.isolate_of_latch_set h, hp, State.logPost_sys]
  | false =>
    rw [State.isolate_eq h, State.pairSend_sys, State.sendStatus_sys, hp, State.attn_sys, State.logPost_sys]
    have e : (s.dropOutputs.degStop.clearSetpoints).swapAbandon.sys = s.sys := by simp
    exact (hf (s.dropOutputs.degStop.clearSetpoints).swapAbandon.sys
      (s.dropOutputs.degStop.clearSetpoints).swapAbandon.sys.events _).trans (congrArg f e)

/-- Settles O31: by the state that an isolation leaves before its record and its messages. -/
theorem isolationDropsEveryOutput : Obligations.IsolationDropsEveryOutput := by
  unfold Obligations.IsolationDropsEveryOutput
  intro s c h
  obtain ⟨q, d, e⟩ := State.isolate_sag h c
  rw [e, State.dropped_sag, State.isolate_phm h, State.isolate_ctl h]
  refine ⟨rfl, rfl, rfl, rfl, rfl, rfl, fun p hp => ?_, rfl, rfl, rfl, rfl, State.isolate_snapDue h c, by simp, rfl, by simp, by simp, by simp⟩
  obtain ⟨r, -, rfl⟩ := List.mem_map.1 hp
  exact ⟨rfl, rfl⟩

end Sys2Proof.Machine

/-! The state machine of the module: entering a state, and the rows of its table (R50, R54). -/

namespace Sys2Proof.Machine

/-! Entering a state. -/

/-- R50: the state, its base and the one before, and where a degraded string came from. -/
def Sys.place (y : Sys) : OpState × OpState × OpState × Bool := (y.st, y.base, y.prev, y.originDisp)

/-- R55: the state is reported while the MGP is there. -/
theorem State.announce_sys (s : State) :
    s.announce.sys = if s.sys.mgpAway then s.sys else { s.sys with lastReported := (s.sys.st, s.sys.base) } := by
  unfold State.announce
  split
  · rfl
  · simp

theorem State.announce_place (s : State) : s.announce.sys.place = s.sys.place := by
  rw [State.announce_sys]
  split
  · rfl
  · rfl

/-- The state entered, before set points are left and the change is reported. -/
def State.entering (s : State) (st b : OpState) : State :=
  let t := ({ s with sys := { s.sys with st := st, base := b, prev := s.sys.st } } : State).outputsRest
  { t with phm := { t.phm with enHigh := t.prl.owner && t.eff.enHigh && !t.sag.latch } }

theorem State.enter_eq (s : State) (st b : OpState) : s.enter st b =
    (if s.dispatching && !(s.entering st b).dispatching then (s.entering st b).leaveSetpoints else s.entering st b).announce := rfl

@[simp] theorem State.entering_sys (s : State) (st b : OpState) :
    (s.entering st b).sys = { s.sys with st := st, base := b, prev := s.sys.st } := State.outputsRest_sys _

/-- R50: entering a state writes STATE, BASE and PREV. -/
theorem State.enter_place (s : State) (st b : OpState) : (s.enter st b).sys.place = (st, b, s.sys.st, s.sys.originDisp) := by
  rw [State.enter_eq, State.announce_place]
  split
  · rw [State.leaveSetpoints_sys, State.entering_sys, Sys.place]
  · rw [State.entering_sys, Sys.place]

theorem State.entering_enHigh (s : State) (st b : OpState) : (s.entering st b).phm.enHigh =
    (s.prl.owner && (if st = .maintenance then b else st).enHigh && !s.sag.latch) := by
  simp [State.entering, State.eff]

/-- R54, R217: EN is high where the module owns the harness, by the state in effect, and the latch is clear. -/
theorem State.enter_enHigh (s : State) (st b : OpState) : (s.enter st b).phm.enHigh =
    (s.prl.owner && (if st = .maintenance then b else st).enHigh && !s.sag.latch) := by
  rw [State.enter_eq, State.announce_phm, ← s.entering_enHigh st b]
  split
  · rw [State.leaveSetpoints_phm]
  · rfl

theorem State.enter_degTerm (s : State) (st b : OpState) : (s.enter st b).ctl.degTerm = s.ctl.degTerm := by
  have h : (s.entering st b).ctl.degTerm = s.ctl.degTerm := congrArg Ctl.degTerm (State.outputsRest_ctl _)
  rw [State.enter_eq, State.announce_ctl]
  split
  · exact h
  · exact h

theorem State.enter_sys_moves (s : State) (st b : OpState) : (s.enter st b).sys.st = st ∧ (s.enter st b).sys.base = b ∧
    (s.enter st b).sys.prev = s.sys.st ∧ (s.enter st b).sys.originDisp = s.sys.originDisp := by
  simpa [Sys.place] using s.enter_place st b

@[simp] theorem State.enter_sys_st (s : State) (st b : OpState) : (s.enter st b).sys.st = st := (s.enter_sys_moves st b).1

section

variable (f : Sys → α) (hf : ∀ y a b c d, f { y with st := a, base := b, prev := c, lastReported := d } = f y)

include hf

theorem State.announce_sys_rest (s : State) : f s.announce.sys = f s.sys := by
  rw [State.announce_sys]
  split
  · rfl
  · exact hf s.sys s.sys.st s.sys.base s.sys.prev _

/-- R50: of the system block, entering a state writes STATE, BASE, PREV and the state reported. -/
theorem State.enter_sys_rest (s : State) (st b : OpState) : f (s.enter st b).sys = f s.sys := by
  have h : f (s.entering st b).sys = f s.sys := by
    rw [State.entering_sys]
    exact hf s.sys _ _ _ s.sys.lastReported
  rw [State.enter_eq, State.announce_sys_rest f hf]
  split
  · rw [State.leaveSetpoints_sys, h]
  · exact h

end

/-- The base moved under a session of MAINTENANCE, before set points are left and the change is reported. -/
def State.rebased (s : State) (st : OpState) : State :=
  let t : State := { s with sys := { s.sys with base := st } }
  { t with phm := { t.phm with enHigh := t.prl.owner && t.eff.enHigh && !t.sag.latch } }

theorem State.enterEff_of_maintenance {s : State} (h : s.sys.st = .maintenance) (st : OpState) : s.enterEff st =
    (if s.dispatching && !(s.rebased st).dispatching then (s.rebased st).leaveSetpoints else s.rebased st).announce := if_pos h

/-- R54: a move, of the state or of the base under a session, ends in the state in effect that it names. -/
theorem State.enterEff_sets (s : State) {st : OpState} (h : st ≠ .maintenance) : (s.enterEff st).eff = st ∧
    (s.enterEff st).sys.originDisp = s.sys.originDisp ∧ (s.enterEff st).ctl.degTerm = s.ctl.degTerm := by
  by_cases hm : s.sys.st = .maintenance
  · have hp : (s.enterEff st).sys.place = (.maintenance, st, s.sys.prev, s.sys.originDisp) := by
      rw [State.enterEff_of_maintenance hm, State.announce_place, ← hm]
      split
      · rfl
      · rfl
    have hc : (s.enterEff st).ctl.degTerm = s.ctl.degTerm := by
      rw [State.enterEff_of_maintenance hm, State.announce_ctl]
      split
      · rfl
      · rfl
    simp only [Sys.place, Prod.mk.injEq] at hp
    obtain ⟨h1, h2, -, h4⟩ := hp
    exact ⟨(if_pos h1).trans h2, h4, hc⟩
  · have he : s.enterEff st = s.enter st st := if_neg hm
    obtain ⟨h1, -, -, h4⟩ := s.enter_sys_moves st st
    rw [he]
    exact ⟨(if_neg (by rw [h1]; exact h)).trans h1, h4, s.enter_degTerm st st⟩

/-- R50: so does a move of the base under a session. -/
theorem State.enterEff_sys_rest (f : Sys → α) (hf : ∀ y a b c d, f { y with st := a, base := b, prev := c, lastReported := d } = f y)
    (s : State) (st : OpState) : f (s.enterEff st).sys = f s.sys := by
  by_cases hm : s.sys.st = .maintenance
  · have h : f (s.rebased st).sys = f s.sys := hf s.sys s.sys.st st s.sys.prev s.sys.lastReported
    rw [State.enterEff_of_maintenance hm, State.announce_sys_rest f hf]
    split
    · exact h
    · exact h
  · rw [show s.enterEff st = s.enter st st from if_neg hm]
    exact s.enter_sys_rest f hf st st

/-! Rows of the table. -/

/-- R54: the way back to STANDBY opens every path and stops the degraded timer. -/
theorem State.toStandby_sets (s : State) : s.toStandby.eff = .standby ∧ s.toStandby.sag.degRun = false ∧
    s.toStandby.sag.want = [false, false, false, false] := by
  unfold State.toStandby
  extract_lets t
  refine ⟨(State.enterEff_sets _ (by decide)).1, ?_, ?_⟩
  · rw [State.enterEff_sag]
    rfl
  · rw [State.enterEff_sag]
    rfl

theorem State.toStandby_of_session_closed (s : State) (h : s.sys.st ≠ .maintenance) :
    s.toStandby.sys.st = .standby ∧ s.toStandby.sys.coolDown = s.sys.coolDown := by
  have e : s.toStandby = _ := if_neg h
  rw [e]
  exact ⟨State.enter_sys_st _ _ _, State.enter_sys_rest Sys.coolDown (fun _ _ _ _ _ => rfl) _ _ _⟩

theorem State.toIsolated_sets (s : State) : s.toIsolated.sys.st = .isolated ∧ s.toIsolated.sys.prev = s.sys.st := by
  unfold State.toIsolated
  extract_lets t
  obtain ⟨h1, -, h3, -⟩ := State.enter_sys_moves { t with sys := { t.sys with openPending := false, prechgDone := false } } .isolated .isolated
  exact ⟨h1, h3.trans (State.updDisturbed_sys_st s)⟩

/-- R327: a fault of the degraded class takes a string that is in use to DEGRADED, its timer afresh. -/
theorem State.toDegraded_sets (s : State) : s.toDegraded.eff = .degraded ∧ s.toDegraded.sag.degRun = true ∧
    s.toDegraded.sag.degRunT = 0 ∧ s.toDegraded.ctl.degTerm = true ∧ s.toDegraded.sys.originDisp = decide (s.eff = .dispatch) := by
  unfold State.toDegraded
  obtain ⟨h1, h2, h3⟩ := State.enterEff_sets (({ s with sys := { s.sys with originDisp := s.eff == .dispatch } } : State).degStart)
    (st := .degraded) (by decide)
  refine ⟨h1, ?_, ?_, h3, h2⟩
  · rw [State.enterEff_sag]
    rfl
  · rw [State.enterEff_sag]
    rfl

theorem State.fromDegraded_sets (s : State) : s.fromDegraded.eff = (if s.sys.originDisp then .dispatch else .connected) ∧
    s.fromDegraded.sag.degRun = false ∧ s.fromDegraded.ctl.degTerm = false := by
  unfold State.fromDegraded
  obtain ⟨h1, -, h3⟩ := State.enterEff_sets s.degStop (st := if s.sys.originDisp then .dispatch else .connected) (by split <;> decide)
  refine ⟨h1, ?_, h3⟩
  rw [State.enterEff_sag]
  rfl

/-- R54: the time-out of a precharge begins the cool-down on the way back to STANDBY. -/
theorem State.row_prechargeTimeout (s : State) (h : s.sys.st = .precharge) :
    ∃ t : State, s.row .prechargeTimeout = some t.toStandby ∧ t.sys.st = .precharge ∧ t.sys.coolDown = true :=
  ⟨_, if_pos (by simp [h]), (State.logPost_sys_st _ _ _ _ _).trans h, rfl⟩

/-- Settles O6: each row by what entering its state sets, and the degraded class by its two moves. -/
theorem stateMachineFollowsItsTable : Obligations.StateMachineFollowsItsTable := by
  unfold Obligations.StateMachineFollowsItsTable
  refine ⟨fun s => ⟨fun hl h1 h2 h3 => ?_, fun hl => ?_, fun hs ha => ?_, fun hs => ?_, fun hs => ⟨?_, ?_⟩, fun he ha => ?_, fun he => ?_, fun he => ?_,
    fun hs hl o => ?_, fun hs c o h => ?_, fun hs hu e he => ?_, fun hs => ?_, fun hs st od => ?_, fun st b => ?_⟩,
    fun s => ⟨fun hd he => ?_, fun hd he => ?_, fun hs => ?_⟩⟩
  · exact ⟨_, if_pos (by simp [hl, h1, h2, h3]), s.toIsolated_sets⟩
  · exact if_neg (by simp [hl])
  · exact ⟨_, if_pos (by simp [hs, ha]), State.enter_sys_st _ _ _⟩
  · obtain ⟨t, e, ht, hc⟩ := s.row_prechargeTimeout hs
    obtain ⟨h1, h2⟩ := t.toStandby_of_session_closed (by rw [ht]; decide)
    exact ⟨_, e, h1, h2.trans hc, t.toStandby_sets.2.2⟩
  · exact if_neg (by simp [hs])
  · exact if_neg (by simp [hs])
  · exact ⟨_, if_pos (by simp [he, ha]), (State.enterEff_sets _ (by decide)).1⟩
  · exact ⟨_, if_pos (by simp [he]), (State.enterEff_sets _ (by decide)).1⟩
  · obtain ⟨h1, h2, -⟩ := s.toStandby_sets
    exact ⟨_, if_pos (by simpa using he), h1, h2⟩
  · refine ⟨_, if_pos (by simp [hs]), ?_⟩
    rw [if_neg (by simp [hl]), State.afterTest]
    cases o with
    | true => exact State.enter_sys_st _ _ _
    | false => exact State.enter_sys_st _ _ _
  · refine ⟨_, if_pos (by simp [hs]), ?_⟩
    rw [if_pos (by rcases h with h | h <;> simp [h])]
    exact s.toIsolated_sets.1
  · have hc : (s.sys.st == .maintenance && !s.upd.isOpen) = true := by simp [hs, hu]
    rcases he with rfl | rfl
    · exact ⟨_, if_pos hc, State.enter_sys_st _ _ _⟩
    · exact ⟨_, if_pos hc, State.enter_sys_st _ _ _⟩
  · exact ⟨_, if_pos (by simpa [or_assoc] using hs), State.enter_sys_st _ _ _⟩
  · exact ⟨_, if_pos (by simp [hs]), State.enter_sys_st _ _ _⟩
  · obtain ⟨h1, h2, h3, -⟩ := s.enter_sys_moves st b
    exact ⟨h1, h2, h3, s.enter_enHigh st b, by simp, by simp, by simp, by simp⟩
  · have e : s.runDegraded = s.toDegraded := if_pos (by simpa [hd] using he)
    rw [e]
    exact s.toDegraded_sets
  · have e : s.runDegraded = s.fromDegraded := (if_neg (by simp [hd])).trans (if_pos (by simp [hd, he]))
    rw [e]
    exact s.fromDegraded_sets
  · have he : s.eff = s.sys.st := if_neg (by rcases hs with h | h | h | h <;> simp [h])
    refine (if_neg ?_).trans (if_neg ?_)
    · rw [he]; rcases hs with h | h | h | h <;> simp [h]
    · rw [he]; rcases hs with h | h | h | h <;> simp [h]

end Sys2Proof.Machine

/-! Feeds, hold-up store and brown-out (R474 to R482). -/

namespace Sys2Proof.Machine

/-- R476: while PD0 is powered its registers need no restoring. -/
theorem State.pd0Restore_of_powered {s : State} (h : nth s.sys.pd 0 false = true) : s.pd0Restore = s := if_pos h

/-- R476, R477: what a power-on reset leaves. -/
theorem State.powerOn_sets (s : State) : s.powerOn.sys.st = .boot ∧ s.powerOn.sys.resetCause = (if s.log.bankedBo then 2 else 1) ∧
    (nth s.sys.pd 0 false = true → s.powerOn.sys.pcc = inc32 s.sys.pcc) ∧ s.powerOn.sag.coil = [false, false, false, false] ∧
    s.powerOn.sag.latch = s.sag.latch ∧ s.powerOn.pending = s.pending ∧ s.powerOn.log.banked = s.log.banked := by
  refine ⟨rfl, rfl, fun h => congrArg (fun t : State => inc32 (t.sys.store s.upd.store).pcc) (State.pd0Restore_of_powered h), rfl, ?_, ?_, ?_⟩
  · exact congrArg (fun g => (Sag.store g).latch) (State.pd0Restore_sag s)
  · exact State.pd0Restore_pending s
  · exact congrArg (fun g => (Log.store g).banked) (State.pd0Restore_log s)

/-- R475: the power and the fence of a domain that is taken down; the rest of the system block stays. -/
theorem State.domainDown_sys (s : State) (d : Nat) :
    (s.domainDown d).sys = { s.sys with pd := s.sys.pd.set d false, fenced := s.sys.fenced.set d true } := by
  unfold State.domainDown
  split <;> simp

theorem nth_set_self_false (l : List Bool) (d : Nat) : nth (l.set d false) d false = false := by
  by_cases h : d < l.length <;> simp [nth, h]

theorem nth_set_false_of_false {l : List Bool} {d : Nat} (e : Nat) (h : nth l d false = false) : nth (l.set e false) d false = false := by
  by_cases he : e = d
  · subst he
    exact nth_set_self_false l e
  · simpa only [nth, List.getD_eq_getElem?_getD, List.getElem?_set, if_neg he] using h

theorem State.foldl_domainDown_down {d : Nat} (l : List Nat) {s : State} (h : nth s.sys.pd d false = false) :
    nth (l.foldl State.domainDown s).sys.pd d false = false := by
  induction l generalizing s with
  | nil => exact h
  | cons e l ih => exact ih (by rw [State.domainDown_sys]; exact nth_set_false_of_false e h)

/-- R475: every domain of a list is without power once they have been taken down in turn. -/
theorem State.foldl_domainDown_mem {d : Nat} {l : List Nat} (s : State) (h : d ∈ l) :
    nth (l.foldl State.domainDown s).sys.pd d false = false := by
  induction l generalizing s with
  | nil => cases h
  | cons e l ih =>
    rcases List.mem_cons.1 h with rfl | h
    · exact State.foldl_domainDown_down l (by rw [State.domainDown_sys]; exact nth_set_self_false _ _)
    · exact ih _ h

/-- R479: the system block once the brown-out warning has been taken. -/
def Sys.warned (y : Sys) : Sys :=
  { y with boWarn := true, boPhase := .warned, feedBack := false, events := y.events ++ [Ev.brownOut] }

/-- R479: whichever way the module goes on, the warning begins the sequence and posts its event. -/
theorem execBrownOutWarning_begins {s : State} (hs : s.sys.st ≠ .off) (hw : s.sys.boWarn = false) :
    Completes .brownOutWarning s fun t => t.sys = s.sys.warned := by
  show ∃ t, execBrownOutWarning s = .next t ∧ _
  unfold execBrownOutWarning
  rw [if_neg (by simp [hs, hw])]
  extract_lets y pn s1 s2
  have h : s2.sys = s.sys.warned := by
    show { (s1.attn 3 4 []).sys with events := (s1.attn 3 4 []).sys.events ++ [Ev.brownOut] } = _
    rw [State.attn_sys]
    rfl
  split
  · exact ⟨_, rfl, h⟩
  · split
    · exact ⟨_, rfl, (State.requestSwap_sys s2).trans h⟩
    · exact ⟨_, rfl, (State.boRamp_sys s2).trans h⟩

/-- R482: what the committing of a brown-out banks. -/
theorem State.boCommit_log (s : State) : s.boCommit.log.banked = some (s.csm.recs, s.est) ∧ s.boCommit.log.bankedBo = true := by
  refine ⟨?_, rfl⟩
  show some (_, _) = _
  simp

/-- Settles O1: the feeds, and the brown-out in its order, each step by the phase that goes before it. -/
theorem feedsAndBrownOut : Obligations.FeedsAndBrownOut := by
  unfold Obligations.FeedsAndBrownOut
  refine ⟨fun s => ⟨fun b => rfl, fun b => rfl, fun b on => ⟨rfl, rfl⟩, fun c => rfl, fun a b h => ?_, fun a b h hf hp => ?_⟩,
    fun s => ⟨fun hs hw => ?_, fun h => ?_, fun h => ?_, fun h => if_pos h, fun h => ?_, fun h => if_pos h, fun h hf => ?_, fun h hf => ?_,
      fun h => if_pos h, fun h => ?_, fun h => if_neg h, fun h => if_pos h, fun h hs => ?_, fun h hs hb => ?_⟩⟩
  · refine congrArg Host.Outcome.next (if_neg ?_)
    rcases h with h | h
    · simp [h]
    · simpa using fun _ => h
  · refine ⟨_, congrArg Host.Outcome.next (if_pos (by simp [h, hf])), ?_⟩
    obtain ⟨h1, -, h3, h4, h5, h6, -⟩ := State.powerOn_sets { s with pins := { s.pins with feedA := a, feedB := b } }
    exact ⟨h1, h3 hp, h4, h5, h6⟩
  · obtain ⟨t, e, h⟩ := execBrownOutWarning_begins hs hw
    exact ⟨t, e, by simp [h, Sys.warned]⟩
  · refine if_pos ?_
    rcases h with h | h <;> simp [h]
  · refine ⟨_, if_neg (not_not_intro h), rfl, rfl, rfl, fun p hp => ?_⟩
    obtain ⟨q, -, rfl⟩ := List.mem_map.1 hp
    exact ⟨rfl, rfl⟩
  · exact ⟨_, if_neg (not_not_intro h), rfl, rfl, rfl, rfl, fun d hd => State.foldl_domainDown_mem s hd⟩
  · refine ⟨_, (if_neg (not_not_intro h)).trans (congrArg Host.Outcome.next (if_neg (by rw [hf]; decide))), rfl, ?_, ?_⟩
    · show nth (s.boCommit.domainDown 2).sys.pd 2 false = false
      rw [State.domainDown_sys]
      exact nth_set_self_false _ _
    · show (s.boCommit.domainDown 2).log.banked = _ ∧ (s.boCommit.domainDown 2).log.bankedBo = _
      rw [State.domainDown_log]
      exact s.boCommit_log
  · obtain ⟨hb, hbo⟩ := s.boCommit_log
    rw [← State.domainDown_log s.boCommit 2] at hb hbo
    refine ⟨_, (if_neg (not_not_intro h)).trans (congrArg Host.Outcome.next (if_pos hf)), ?_⟩
    obtain ⟨h1, h2, -, -, -, -, h7⟩ := State.powerOn_sets { s.boCommit.domainDown 2 with sys := { (s.boCommit.domainDown 2).sys with
      st := .off, base := .off, prev := s.boCommit.sys.st, boPhase := .committed, boWarn := false, events := [] } }
    exact ⟨h1, h2.trans (if_pos hbo), h7.trans hb⟩
  · exact ⟨_, if_pos h, by rw [show _ = _ from State.domainDown_sys s 0]; exact nth_set_self_false _ _, rfl⟩
  · refine (if_neg h).trans (congrArg Host.Outcome.next (if_neg hs))
  · refine ⟨_, (if_neg h).trans (congrArg Host.Outcome.next (if_pos hs)), ?_⟩
    obtain ⟨h1, h2, -⟩ := State.powerOn_sets { s with pins := { s.pins with feedA := true } }
    exact ⟨h1, h2.trans (if_pos hb)⟩

end Sys2Proof.Machine

/-! The counts of the tick, and what every step of its work leaves of them (R68, R69). -/

namespace Sys2Proof.Machine

@[simp] theorem Sys.foldl_fixed_clock (l : List α) (g : α → Nat) (y : Sys) : (l.foldl (fun y x => y.fixed (g x)) y).clock = y.clock := by
  induction l generalizing y with
  | nil => rfl
  | cons x l ih => exact ih _

@[simp] theorem Sys.foldl_fixed_tick (l : List α) (g : α → Nat) (y : Sys) : (l.foldl (fun y x => y.fixed (g x)) y).tick = y.tick := by
  induction l generalizing y with
  | nil => rfl
  | cons x l ih => exact ih _

/-- A fold of updates that keep the field keeps it. -/
@[simp] theorem State.sys_clock_foldl {β : Type} (f : State → β → State) (l : List β) (s : State) (h : ∀ t x, (f t x).sys.clock = t.sys.clock) :
    (l.foldl f s).sys.clock = s.sys.clock := by
  induction l generalizing s with
  | nil => rfl
  | cons x l ih => rw [List.foldl_cons, ih, h]

@[simp] theorem State.enter_sys_clock (s : State) (st b : OpState) : (State.enter s st b).sys.clock = s.sys.clock := by
  exact State.enter_sys_rest Sys.clock (fun _ _ _ _ _ => rfl) s st b

@[simp] theorem State.enterEff_sys_clock (s : State) (st : OpState) : (State.enterEff s st).sys.clock = s.sys.clock := by
  exact State.enterEff_sys_rest Sys.clock (fun _ _ _ _ _ => rfl) s st

@[simp] theorem State.isolate_sys_clock (s : State) (c : Nat) : (State.isolate s c).sys.clock = s.sys.clock := by
  unfold State.isolate
  split <;> simp

@[simp] theorem State.updEnd_sys_clock (s : State) : (State.updEnd s).sys.clock = s.sys.clock := by
  unfold State.updEnd
  split <;> simp

@[simp] theorem State.updDisturbed_sys_clock (s : State) : (State.updDisturbed s).sys.clock = s.sys.clock := by
  unfold State.updDisturbed
  split <;> simp

@[simp] theorem State.sagIsolate_sys_clock (s : State) (c : Nat) : (State.sagIsolate s c).sys.clock = s.sys.clock := by
  unfold State.sagIsolate
  split <;> simp

@[simp] theorem State.diagFail_sys_clock (s : State) (k : Nat) : (State.diagFail s k).sys.clock = s.sys.clock := by
  unfold State.diagFail
  split <;> simp

@[simp] theorem State.latchShadows_sys_clock (s : State) : (State.latchShadows s).sys.clock = s.sys.clock := by
  simp [State.latchShadows]

@[simp] theorem State.toIsolated_sys_clock (s : State) : (State.toIsolated s).sys.clock = s.sys.clock := by
  simp [State.toIsolated]

@[simp] theorem State.toStandby_sys_clock (s : State) : (State.toStandby s).sys.clock = s.sys.clock := by
  simp [State.toStandby]

@[simp] theorem State.toDegraded_sys_clock (s : State) : (State.toDegraded s).sys.clock = s.sys.clock := by
  simp [State.toDegraded]

@[simp] theorem State.fromDegraded_sys_clock (s : State) : (State.fromDegraded s).sys.clock = s.sys.clock := by
  simp [State.fromDegraded]

@[simp] theorem State.toMaintenance_sys_clock (s : State) : (State.toMaintenance s).sys.clock = s.sys.clock := by
  unfold State.toMaintenance
  split <;> simp

@[simp] theorem State.afterTest_sys_clock (s : State) (owned : Bool) : (State.afterTest s owned).sys.clock = s.sys.clock := by
  unfold State.afterTest
  split <;> simp

theorem State.row_sys_clock (s : State) (e : Ev) (t : State) (h : State.row s e = some t) : t.sys.clock = s.sys.clock := by
  revert h
  unfold State.row
  repeat' split
  all_goals simp only [Option.some.injEq, reduceCtorEq, false_implies]
  all_goals rintro rfl
  all_goals simp

@[simp] theorem State.takeClass_sys_clock (s : State) (c : Nat) (p0 : List Ev) : (s.takeClass c p0).1.sys.clock = s.sys.clock := by
  induction p0 generalizing s with
  | nil => rfl
  | cons e l ih =>
    simp only [State.takeClass]
    split
    · exact ih s
    · split
      · rename_i h
        exact State.row_sys_clock _ _ _ h
      · exact (ih _).trans (by simp)

@[simp] theorem State.runClass_sys_clock (s : State) (c : Nat) : (State.runClass s c).sys.clock = s.sys.clock := by
  simp [State.runClass]

@[simp] theorem State.runDegraded_sys_clock (s : State) : (State.runDegraded s).sys.clock = s.sys.clock := by
  unfold State.runDegraded
  repeat' split
  all_goals simp

@[simp] theorem State.stateMachine_sys_clock (s : State) : (State.stateMachine s).sys.clock = s.sys.clock := by
  unfold State.stateMachine
  repeat' split
  all_goals simp

@[simp] theorem State.tvCorrect_sys_clock (s : State) : (State.tvCorrect s).sys.clock = s.sys.clock := by
  simp [State.tvCorrect]

@[simp] theorem State.mirrorCorrect_sys_clock (s : State) : (State.mirrorCorrect s).sys.clock = s.sys.clock := by
  simp [State.mirrorCorrect]

@[simp] theorem State.raise_sys_clock (s : State) (c : Nat) : (State.raise s c).sys.clock = s.sys.clock := by
  unfold State.raise
  split <;> simp

@[simp] theorem State.sf4_sys_clock (s : State) : (State.sf4 s).sys.clock = s.sys.clock := by
  unfold State.sf4
  dsimp only
  repeat' split
  all_goals simp

@[simp] theorem State.tickDiag_sys_clock (s : State) (k : Nat) (bad : Bool) : (State.tickDiag s k bad).sys.clock = s.sys.clock := by
  unfold State.tickDiag
  repeat' split
  all_goals simp

@[simp] theorem State.protect_sys_clock (s : State) (m : TickIn) : (State.protect s m).sys.clock = s.sys.clock := by
  unfold State.protect
  dsimp only
  repeat' split
  all_goals simp


/-- A fold of updates that keep the field keeps it. -/
@[simp] theorem State.sys_tick_foldl {β : Type} (f : State → β → State) (l : List β) (s : State) (h : ∀ t x, (f t x).sys.tick = t.sys.tick) :
    (l.foldl f s).sys.tick = s.sys.tick := by
  induction l generalizing s with
  | nil => rfl
  | cons x l ih => rw [List.foldl_cons, ih, h]

@[simp] theorem State.enter_sys_tick (s : State) (st b : OpState) : (State.enter s st b).sys.tick = s.sys.tick := by
  exact State.enter_sys_rest Sys.tick (fun _ _ _ _ _ => rfl) s st b

@[simp] theorem State.enterEff_sys_tick (s : State) (st : OpState) : (State.enterEff s st).sys.tick = s.sys.tick := by
  exact State.enterEff_sys_rest Sys.tick (fun _ _ _ _ _ => rfl) s st

@[simp] theorem State.isolate_sys_tick (s : State) (c : Nat) : (State.isolate s c).sys.tick = s.sys.tick := by
  unfold State.isolate
  split <;> simp

@[simp] theorem State.updEnd_sys_tick (s : State) : (State.updEnd s).sys.tick = s.sys.tick := by
  unfold State.updEnd
  split <;> simp

@[simp] theorem State.updDisturbed_sys_tick (s : State) : (State.updDisturbed s).sys.tick = s.sys.tick := by
  unfold State.updDisturbed
  split <;> simp

@[simp] theorem State.sagIsolate_sys_tick (s : State) (c : Nat) : (State.sagIsolate s c).sys.tick = s.sys.tick := by
  unfold State.sagIsolate
  split <;> simp

@[simp] theorem State.diagFail_sys_tick (s : State) (k : Nat) : (State.diagFail s k).sys.tick = s.sys.tick := by
  unfold State.diagFail
  split <;> simp

@[simp] theorem State.latchShadows_sys_tick (s : State) : (State.latchShadows s).sys.tick = s.sys.tick := by
  simp [State.latchShadows]

@[simp] theorem State.toIsolated_sys_tick (s : State) : (State.toIsolated s).sys.tick = s.sys.tick := by
  simp [State.toIsolated]

@[simp] theorem State.toStandby_sys_tick (s : State) : (State.toStandby s).sys.tick = s.sys.tick := by
  simp [State.toStandby]

@[simp] theorem State.toDegraded_sys_tick (s : State) : (State.toDegraded s).sys.tick = s.sys.tick := by
  simp [State.toDegraded]

@[simp] theorem State.fromDegraded_sys_tick (s : State) : (State.fromDegraded s).sys.tick = s.sys.tick := by
  simp [State.fromDegraded]

@[simp] theorem State.toMaintenance_sys_tick (s : State) : (State.toMaintenance s).sys.tick = s.sys.tick := by
  unfold State.toMaintenance
  split <;> simp

@[simp] theorem State.afterTest_sys_tick (s : State) (owned : Bool) : (State.afterTest s owned).sys.tick = s.sys.tick := by
  unfold State.afterTest
  split <;> simp

theorem State.row_sys_tick (s : State) (e : Ev) (t : State) (h : State.row s e = some t) : t.sys.tick = s.sys.tick := by
  revert h
  unfold State.row
  repeat' split
  all_goals simp only [Option.some.injEq, reduceCtorEq, false_implies]
  all_goals rintro rfl
  all_goals simp

@[simp] theorem State.takeClass_sys_tick (s : State) (c : Nat) (p0 : List Ev) : (s.takeClass c p0).1.sys.tick = s.sys.tick := by
  induction p0 generalizing s with
  | nil => rfl
  | cons e l ih =>
    simp only [State.takeClass]
    split
    · exact ih s
    · split
      · rename_i h
        exact State.row_sys_tick _ _ _ h
      · exact (ih _).trans (by simp)

@[simp] theorem State.runClass_sys_tick (s : State) (c : Nat) : (State.runClass s c).sys.tick = s.sys.tick := by
  simp [State.runClass]

@[simp] theorem State.runDegraded_sys_tick (s : State) : (State.runDegraded s).sys.tick = s.sys.tick := by
  unfold State.runDegraded
  repeat' split
  all_goals simp

@[simp] theorem State.stateMachine_sys_tick (s : State) : (State.stateMachine s).sys.tick = s.sys.tick := by
  unfold State.stateMachine
  repeat' split
  all_goals simp

@[simp] theorem State.tvCorrect_sys_tick (s : State) : (State.tvCorrect s).sys.tick = s.sys.tick := by
  simp [State.tvCorrect]

@[simp] theorem State.mirrorCorrect_sys_tick (s : State) : (State.mirrorCorrect s).sys.tick = s.sys.tick := by
  simp [State.mirrorCorrect]

@[simp] theorem State.raise_sys_tick (s : State) (c : Nat) : (State.raise s c).sys.tick = s.sys.tick := by
  unfold State.raise
  split <;> simp

@[simp] theorem State.sf4_sys_tick (s : State) : (State.sf4 s).sys.tick = s.sys.tick := by
  unfold State.sf4
  dsimp only
  repeat' split
  all_goals simp

@[simp] theorem State.tickDiag_sys_tick (s : State) (k : Nat) (bad : Bool) : (State.tickDiag s k bad).sys.tick = s.sys.tick := by
  unfold State.tickDiag
  repeat' split
  all_goals simp

@[simp] theorem State.protect_sys_tick (s : State) (m : TickIn) : (State.protect s m).sys.tick = s.sys.tick := by
  unfold State.protect
  dsimp only
  repeat' split
  all_goals simp


@[simp] theorem State.announce_pins (s : State) : (State.announce s).pins = s.pins := by
  simp [State.announce]

@[simp] theorem State.syncMode_pins (s : State) : (State.syncMode s).pins = s.pins := by
  simp [State.syncMode]

@[simp] theorem State.leaveSetpoints_pins (s : State) : (State.leaveSetpoints s).pins = s.pins := by
  simp [State.leaveSetpoints]

@[simp] theorem State.outputsRest_pins (s : State) : (State.outputsRest s).pins = s.pins := by
  unfold State.outputsRest
  split <;> simp

@[simp] theorem State.enter_pins (s : State) (st b : OpState) : (State.enter s st b).pins = s.pins := by
  simp [State.enter]

@[simp] theorem State.enterEff_pins (s : State) (st : OpState) : (State.enterEff s st).pins = s.pins := by
  simp [State.enterEff]

@[simp] theorem State.degStart_pins (s : State) : (State.degStart s).pins = s.pins := by
  simp [State.degStart]

@[simp] theorem State.degPhase_pins (s : State) : (State.degPhase s).pins = s.pins := by
  simp [State.degPhase]

@[simp] theorem State.phaseFault_pins (s : State) (p c : Nat) : (State.phaseFault s p c).pins = s.pins := by
  simp [State.phaseFault]

@[simp] theorem State.harnessFault_pins (s : State) (h c : Nat) : (State.harnessFault s h c).pins = s.pins := by
  simp [State.harnessFault]

@[simp] theorem State.updEnd_pins (s : State) : (State.updEnd s).pins = s.pins := by
  simp [State.updEnd]

@[simp] theorem State.updDisturbed_pins (s : State) : (State.updDisturbed s).pins = s.pins := by
  simp [State.updDisturbed]

@[simp] theorem State.degWire_pins (s : State) : (State.degWire s).pins = s.pins := by
  simp [State.degWire]

@[simp] theorem State.degLost_pins (s : State) : (State.degLost s).pins = s.pins := by
  simp [State.degLost]

@[simp] theorem State.thmConvert_pins (s : State) : (State.thmConvert s).pins = s.pins := by
  simp [State.thmConvert]

@[simp] theorem State.thmModel_pins (s : State) (p : Nat) : (State.thmModel s p).pins = s.pins := by
  simp [State.thmModel]

@[simp] theorem State.thmPhase_pins (s : State) (p : Nat) : (State.thmPhase s p).pins = s.pins := by
  simp [State.thmPhase]

@[simp] theorem State.thmGroup_pins (s : State) (g : Nat) : (State.thmGroup s g).pins = s.pins := by
  simp [State.thmGroup]

@[simp] theorem State.degThermal_pins (s : State) : (State.degThermal s).pins = s.pins := by
  simp [State.degThermal]

@[simp] theorem State.factors_pins (s : State) : (State.factors s).pins = s.pins := by
  simp [State.factors]

@[simp] theorem State.derateMsg_pins (s : State) (chg : Bool) (kind limit : Nat) : (State.derateMsg s chg kind limit).pins = s.pins := by
  simp [State.derateMsg]

@[simp] theorem State.derateLog_pins (s : State) (chg : Bool) (kind limit : Nat) : (State.derateLog s chg kind limit).pins = s.pins := by
  simp [State.derateLog]

@[simp] theorem State.derateStep_pins (s : State) (chg : Bool) : (State.derateStep s chg).pins = s.pins := by
  unfold State.derateStep
  dsimp only
  split <;> simp

@[simp] theorem State.thmHot_pins (s : State) : (State.thmHot s).pins = s.pins := by
  simp [State.thmHot]

@[simp] theorem State.thmTick_pins (s : State) : (State.thmTick s).pins = s.pins := by
  simp [State.thmTick]

@[simp] theorem State.sagIsolate_pins (s : State) (c : Nat) : (State.sagIsolate s c).pins = s.pins := by
  simp [State.sagIsolate]

@[simp] theorem State.diag_pins (s : State) (k : Nat) (bad : Bool) : (State.diag s k bad).pins = s.pins := by
  simp [State.diag]

@[simp] theorem State.diagFail_pins (s : State) (k : Nat) : (State.diagFail s k).pins = s.pins := by
  simp [State.diagFail]

@[simp] theorem State.degSession_pins (s : State) : (State.degSession s).pins = s.pins := by
  simp [State.degSession]

@[simp] theorem State.readStraps_pins (s : State) : (State.readStraps s).pins = s.pins := by
  simp [State.readStraps]

@[simp] theorem State.putPeriod_pins (s : State) (v : Nat) : (State.putPeriod s v).pins = s.pins := by
  simp [State.putPeriod]

@[simp] theorem State.settingDone_pins (s : State) (i : Nat) (v old : Int) : (State.settingDone s i v old).pins = s.pins := by
  simp [State.settingDone]

@[simp] theorem State.putSetting_pins (s : State) (i : Nat) (v : Int) : (State.putSetting s i v).pins = s.pins := by
  unfold State.putSetting
  repeat' split
  all_goals simp

@[simp] theorem State.toDefault_pins (s : State) (i : Nat) : (State.toDefault s i).pins = s.pins := by
  unfold State.toDefault
  split <;> simp

@[simp] theorem State.toNewFormat_pins (s : State) (i : Nat) : (State.toNewFormat s i).pins = s.pins := by
  simp [State.toNewFormat]

@[simp] theorem State.loadNewFormat_pins (s : State) : (State.loadNewFormat s).pins = s.pins := by
  simp [State.loadNewFormat]

@[simp] theorem State.formatStep_pins (s : State) : (State.formatStep s).pins = s.pins := by
  simp [State.formatStep]

@[simp] theorem State.loginState_pins (s : State) : (State.loginState s).pins = s.pins := by
  simp [State.loginState]

@[simp] theorem State.toIsolated_pins (s : State) : (State.toIsolated s).pins = s.pins := by
  simp [State.toIsolated]

@[simp] theorem State.toStandby_pins (s : State) : (State.toStandby s).pins = s.pins := by
  simp [State.toStandby]

@[simp] theorem State.toDegraded_pins (s : State) : (State.toDegraded s).pins = s.pins := by
  simp [State.toDegraded]

@[simp] theorem State.fromDegraded_pins (s : State) : (State.fromDegraded s).pins = s.pins := by
  simp [State.fromDegraded]

@[simp] theorem State.stopDone_pins (s : State) : (State.stopDone s).pins = s.pins := by
  simp [State.stopDone]

@[simp] theorem State.toMaintenance_pins (s : State) : (State.toMaintenance s).pins = s.pins := by
  simp [State.toMaintenance]

@[simp] theorem State.afterTest_pins (s : State) (owned : Bool) : (State.afterTest s owned).pins = s.pins := by
  simp [State.afterTest]

theorem State.row_pins (s : State) (e : Ev) (t : State) (h : State.row s e = some t) : t.pins = s.pins := by
  revert h
  unfold State.row
  repeat' split
  all_goals simp only [Option.some.injEq, reduceCtorEq, false_implies]
  all_goals rintro rfl
  all_goals simp

@[simp] theorem State.dropEv_pins (s : State) (e : Ev) : (State.dropEv s e).pins = s.pins := by
  unfold State.dropEv
  split <;> simp

@[simp] theorem State.takeClass_pins (s : State) (c : Nat) (p0 : List Ev) : (s.takeClass c p0).1.pins = s.pins := by
  induction p0 generalizing s with
  | nil => rfl
  | cons e l ih =>
    simp only [State.takeClass]
    split
    · exact ih s
    · split
      · rename_i h
        exact State.row_pins _ _ _ h
      · exact (ih _).trans (by simp)

@[simp] theorem State.runClass_pins (s : State) (c : Nat) : (State.runClass s c).pins = s.pins := by
  simp [State.runClass]

@[simp] theorem State.runDegraded_pins (s : State) : (State.runDegraded s).pins = s.pins := by
  simp [State.runDegraded]

@[simp] theorem State.stateMachine_pins (s : State) : (State.stateMachine s).pins = s.pins := by
  simp [State.stateMachine]

@[simp] theorem State.mirrorCorrect_pins (s : State) : (State.mirrorCorrect s).pins = s.pins := by
  simp [State.mirrorCorrect]

@[simp] theorem State.raise_pins (s : State) (c : Nat) : (State.raise s c).pins = s.pins := by
  simp [State.raise]

@[simp] theorem State.sf4_pins (s : State) : (State.sf4 s).pins = s.pins := by
  unfold State.sf4
  dsimp only
  split <;> simp

@[simp] theorem State.tickDiag_pins (s : State) (k : Nat) (bad : Bool) : (State.tickDiag s k bad).pins = s.pins := by
  simp [State.tickDiag]

@[simp] theorem State.protect_pins (s : State) (m : TickIn) : (State.protect s m).pins = s.pins := by
  simp [State.protect]

@[simp] theorem State.degLevels_pins (s : State) : (State.degLevels s).pins = s.pins := by
  simp [State.degLevels]

@[simp] theorem State.pairTick_pins (s : State) : (State.pairTick s).pins = s.pins := by
  simp [State.pairTick]

@[simp] theorem State.speedTick_pins (s : State) (pct : Nat) : (State.speedTick s pct).pins = s.pins := by
  simp [State.speedTick]

@[simp] theorem State.degTick_pins (s : State) : (State.degTick s).pins = s.pins := by
  simp [State.degTick]

@[simp] theorem State.strapTick_pins (s : State) : (State.strapTick s).pins = s.pins := by
  simp [State.strapTick]



end Sys2Proof.Machine

/-! The MGP's absence, the timers of the state machine, and the tick (R50, R68 to R71). -/

namespace Sys2Proof.Machine

/-! The MGP goes away and returns. -/

theorem Mbx.mgpGone_ch (m : Mbx) : ∀ c ∈ m.mgpGone.ch, c.st ≠ .queued ∧ c.st ≠ .running := by
  intro c hc
  obtain ⟨d, -, rfl⟩ := List.mem_map.1 hc
  by_cases h : d.st = .queued ∨ d.st = .running
  · rw [if_pos h]
    exact ⟨by simp, by simp⟩
  · rw [if_neg h]
    exact not_or.1 h

/-- R71: a module reset leaves BOOT and its cause. -/
theorem State.moduleReset_sets (s : State) (c : Nat) : (s.moduleReset c).sys.st = .boot ∧ (s.moduleReset c).sys.resetCause = c ∧
    (s.moduleReset c).sag.latch = s.sag.latch ∧ (s.moduleReset c).sys.clock = s.sys.clock ∧ (s.moduleReset c).pending = s.pending := by
  refine ⟨rfl, rfl, ?_, ?_, ?_⟩
  · unfold State.moduleReset
    dsimp only
    split
    · exact congrArg (fun g => (Sag.store g).latch) (State.logDrain_sag s)
    · exact congrArg (fun g => (Sag.store g).latch) (State.logDrain_sag s)
  · unfold State.moduleReset
    dsimp only
    split
    · exact congrArg (fun y => y.clock) (State.logDrain_sys s)
    · exact congrArg (fun y => y.clock) (State.logDrain_sys s)
  · unfold State.moduleReset
    dsimp only
    split
    · exact State.logDrain_pending s
    · exact State.logDrain_pending s

theorem nth_set_self_true {l : List Bool} {k : Nat} (h : k < l.length) : nth (l.set k true) k false = true := by
  simp [nth, h]

/-- R70: when the MGP is back, bit 8 of the degraded class is clear. -/
theorem State.mgpBack_sets (s : State) : s.mgpBack.sys.mgpAway = false ∧ nth s.mgpBack.sag.deg 8 false = false := by
  unfold State.mgpBack
  extract_lets y p t u
  refine ⟨?_, nth_set_self_false _ _⟩
  have hu : u.sys.mgpAway = false := by
    show (if _ then _ else _ : State).sys.mgpAway = false
    split
    · rfl
    · exact State.announce_sys_rest Sys.mgpAway (fun _ _ _ _ _ => rfl) t
  suffices h : u.isoCatchUp.lostCatchUp.coneCatchUp.thmCatchUp.sys.mgpAway = false from h
  rw [State.thmCatchUp_sys, State.coneCatchUp_sys, State.lostCatchUp_sys, ← hu]
  unfold State.isoCatchUp
  split
  · rfl
  · rw [State.attn_sys]

/-- Settles O3: each event of the MGP by the conditions under which it acts. -/
theorem mgpGoesAwayAndReturns : Obligations.MgpGoesAwayAndReturns := by
  unfold Obligations.MgpGoesAwayAndReturns
  intro s
  refine ⟨fun h => (if_pos h : execMgpWatchdog s = _), fun hs hw hb => ?_, fun hs hn => ?_, fun h => ?_, fun h1 h2 h3 _ => ?_, fun ha hl => ?_, fun ha => ?_⟩
  · refine ⟨_, (if_neg (by rcases hs with h | h | h <;> simp [h]) : execMgpWatchdog s = _).trans (if_pos ?_), ?_⟩
    · rcases hs with h | h | h <;> simp [h, hw, hb]
    · exact ⟨rfl, rfl⟩
  · refine ⟨_, (if_neg hs : execMgpWatchdog s = _).trans (if_neg ?_), rfl, rfl, ?_, Mbx.mgpGone_ch _⟩
    · simp only [Bool.and_eq_true, beq_iff_eq, Bool.or_eq_true, or_assoc]
      rintro ⟨⟨hw, hb⟩, hp⟩
      rcases hn with h | h | h
      · rw [h] at hw; cases hw
      · exact h hb
      · exact h hp
    · exact (State.logPost_sys_st _ _ _ _ _).trans s.cfgEnd_sys_st
  · refine (if_pos ?_ : execMgpResume s = _)
    rcases h with h | h | h <;> simp [h]
  · obtain ⟨g1, g2⟩ := s.mgpBack_sets
    exact ⟨_, (if_neg (by simp [h1, h2, h3]) : execMgpResume s = _), by rw [State.heldBusy_sys, g1], by rw [State.heldBusy_sag, g2]⟩
  · refine ⟨_, congrArg Host.Outcome.next (if_pos ha), ?_⟩
    show nth (State.autoSwap _).sag.deg 8 false = true
    rw [State.autoSwap_sag]
    exact nth_set_self_true hl
  · exact congrArg Host.Outcome.next (if_neg (by simp [ha]))

/-! The timers and the contacts. -/

theorem State.coilService1_pins (s : State) (k : Nat) : (s.coilService1 k).pins = s.pins := by
  unfold State.coilService1
  extract_lets on req
  split
  · split <;> rfl
  · split <;> rfl

@[simp] theorem State.coilService_pins (s : State) : s.coilService.pins = s.pins := State.pins_foldl _ _ _ State.coilService1_pins

theorem State.aux_set {s : State} (k : Fin 4) (b : Bool) (h : s.pins.aux.length = 4) :
    nth (s.pins.aux.set k.val b) k.val false = b := by
  simp [nth, h]

/-- R50: what a change of an auxiliary contact sets off before the coils are driven. -/
def State.contactChanged (s : State) (k : Fin 4) (b : Bool) : State :=
  let t := { s with pins := { s.pins with aux := s.pins.aux.set k.val b } }
  if k.val = 3 ∧ b ∧ t.phm.trk = .co3Req then t.trackClosed
  else if k.val = 3 ∧ !b ∧ t.phm.trk = .stopping ∧ t.phm.co3Drop then t.stopOpened
  else if k.val = 0 ∧ b ∧ t.sys.st = .precharge ∧ t.sys.prechgDone then t.post .prechargeDone
  else t

theorem execAuxContactChange_eq (k : Fin 4) (b : Bool) (s : State) :
    exec (.auxContactChange k b) s = .next (s.contactChanged k b).coilService := rfl

theorem State.contactChanged_keeps (s : State) (k : Fin 4) (b : Bool) :
    (s.contactChanged k b).pins.aux = s.pins.aux.set k.val b ∧ (s.contactChanged k b).sys.st = s.sys.st := by
  unfold State.contactChanged
  dsimp only
  split
  · exact ⟨rfl, rfl⟩
  · split
    · exact ⟨rfl, rfl⟩
    · split
      · exact ⟨rfl, rfl⟩
      · exact ⟨rfl, rfl⟩

/-- Settles O4: each timer by its condition, and a contact by what it ends. -/
theorem timersAndContactsMoveTheStateMachine : Obligations.TimersAndContactsMoveTheStateMachine := by
  unfold Obligations.TimersAndContactsMoveTheStateMachine
  intro s
  refine ⟨fun hs hd hn => ?_, fun h => ?_, rfl, rfl, rfl, fun ho => ?_, fun ho => ?_, fun k b hl => ?_, fun hs hd => ?_, fun ht => ?_,
    fun ht hc => ?_, fun k b h1 h2 h3 => ?_⟩
  · exact if_neg (by simp [hs, hd, State.linkNear, hn])
  · refine if_pos ?_
    rcases h with h | h | h
    · simp [h]
    · simp [h]
    · simp [State.linkNear, h]
  · exact ⟨_, congrArg Host.Outcome.next (if_pos ho), rfl, rfl, rfl, rfl⟩
  · exact congrArg Host.Outcome.next (if_neg (by simp [ho]))
  · obtain ⟨h1, h2⟩ := s.contactChanged_keeps k b
    refine ⟨_, execAuxContactChange_eq k b s, ?_, ?_⟩
    · rw [State.aux, State.coilService_pins, h1]
      exact State.aux_set k b hl
    · rw [State.coilService_sys, h2]
  · refine ⟨_, execAuxContactChange_eq 0 true s, ?_⟩
    simp [State.contactChanged, hs, hd, State.post]
  · refine ⟨_, execAuxContactChange_eq 3 true s, ?_⟩
    have h3 : ((3 : Fin 4) : Nat) = 3 := rfl
    simp [State.contactChanged, ht, h3, State.trackClosed, State.post]
  · refine ⟨_, execAuxContactChange_eq 3 false s, ?_⟩
    have h3 : ((3 : Fin 4) : Nat) = 3 := rfl
    simp [State.contactChanged, ht, hc, h3, State.stopOpened, State.post]
  · refine ⟨_, execAuxContactChange_eq k b s, ?_⟩
    have e : s.contactChanged k b = { s with pins := { s.pins with aux := s.pins.aux.set k.val b } } := by
      unfold State.contactChanged
      dsimp only
      rw [if_neg, if_neg, if_neg]
      · exact fun ⟨hk, hb, hs, hd⟩ => h1 ⟨Fin.ext hk, hb, hs, hd⟩
      · exact fun ⟨hk, hb, ht, hc⟩ => h3 ⟨Fin.ext hk, by simpa using hb, ht, hc⟩
      · exact fun ⟨hk, hb, ht⟩ => h2 ⟨Fin.ext hk, hb, ht⟩
    show (State.coilService _).sys.events = _ ∧ (State.coilService _).phm = _
    rw [State.coilService_sys, State.coilService_phm, e]
    exact ⟨rfl, rfl⟩

/-! The tick. -/

@[simp] theorem State.tickPins_shunt (s : State) (m : TickIn) : (s.tickPins m).pins.shunt = m.shunt := rfl

/-- Settles O5: what the counts do, and the work of the tick by whether a reset is due. -/
theorem housekeepingTickCountsAndProtects : Obligations.HousekeepingTickCountsAndProtects := by
  unfold Obligations.HousekeepingTickCountsAndProtects
  intro s m
  refine ⟨fun h => if_pos h, ⟨rfl, rfl, rfl⟩, by simp [State.resetGoes], fun hs hr => ?_, fun hs hr => ?_⟩
  · obtain ⟨h1, h2, h3, h4, h5⟩ := s.tickCounts.tvCorrect.moduleReset_sets s.sys.resetDue
    exact ⟨_, exec_housekeepingTick_of_reset m hs hr, h1, h2, h3.trans (by simp), h4.trans (by simp; rfl), h5.trans (by simp)⟩
  · refine ⟨_, exec_housekeepingTick_of_no_reset m hs hr, ?_⟩
    have e1 : s.tickCounts.sys.clock = s.sys.clock + 1 := rfl
    have e2 : s.tickCounts.sys.tick = inc32 s.sys.tick := rfl
    show (s.tickWork m).coilService.sys.clock = _ ∧ (s.tickWork m).coilService.sys.tick = _ ∧ (s.tickWork m).coilService.pins.shunt = _ ∧ (s.tickWork m).coilService.pending = _
    rw [State.coilService_sys, State.coilService_pins]
    unfold State.tickWork
    dsimp only
    split
    · simp [e1, e2]
    · simp [e1, e2]

end Sys2Proof.Machine

/-! Start-up: the images, the domains, the self-test and the claim of the harnesses (R56 to R62, R371). -/

namespace Sys2Proof.Machine

theorem State.par_congr {s t : State} (h : s.dict = t.dict) (i : Nat) : s.par i = t.par i := by
  unfold State.par
  rw [h]

/-- R59: SELFTEST is entered with the domains of the start-up order to power. -/
def State.beginSelftest (t : State) : State :=
  { t with sys := { t.sys with powering := t.powerOrder } }.enter .selftest .selftest

theorem State.beginSelftest_sets (t : State) : t.beginSelftest.sys.st = .selftest ∧ t.beginSelftest.sys.base = .selftest ∧
    t.beginSelftest.sys.powering = t.beginSelftest.powerOrder ∧ t.beginSelftest.nodes = t.nodes ∧
    t.beginSelftest.pending = t.pending := by
  unfold State.beginSelftest
  obtain ⟨h1, h2, -⟩ := State.enter_sys_moves { t with sys := { t.sys with powering := t.powerOrder } } .selftest .selftest
  refine ⟨h1, h2, (State.enter_sys_rest Sys.powering (fun _ _ _ _ _ => rfl) _ _ _).trans ?_, State.enter_nodes _ _ _, State.enter_pending _ _ _⟩
  unfold State.powerOrder
  rw [State.par_congr (State.enter_dict _ _ _)]
  rfl

/-- R58: the images are right: the self-test begins, with the domains of the start-up order to power. -/
theorem execBootVerifyDone_good {s : State} (h : s.sys.st = .boot) : Completes (.bootVerifyDone true true) s fun t =>
    t.sys.st = .selftest ∧ t.sys.base = .selftest ∧ t.sys.powering = t.powerOrder ∧ t.nodes = s.nodes ∧ t.pending = s.pending := by
  obtain ⟨h1, h2, h3, h4, h5⟩ := s.bootConfirm.bootLoad.beginSelftest_sets
  exact ⟨_, if_neg (not_not_intro h), h1, h2, h3, h4.trans (by simp), h5.trans (by simp)⟩

/-- R58: a saggar image that is not right isolates with 0x11. -/
theorem execBootVerifyDone_bad {s : State} (h : s.sys.st = .boot) (m : Bool) : Completes (.bootVerifyDone m false) s fun t =>
    t.sys.st = .isolated ∧ t.sys.base = .isolated ∧ t.sys.loaderOnly = true ∧ s.isolatedAs 0x11 t ∧ t.sag.hardDiag = true := by
  refine ⟨_, (if_neg (not_not_intro h) : execBootVerifyDone m false s = _).trans (if_pos rfl), ?_⟩
  obtain ⟨h1, h2, -⟩ := (s.bootRevert.isolate 0x11).enter_sys_moves .isolated .isolated
  have hs : s.bootRevert.sag = s.sag := by simp
  have hi := s.bootRevert.isolate_isolatedAs 0x11
  unfold State.isolatedAs at hi
  rw [hs, ← State.enter_sag (s.bootRevert.isolate 0x11) .isolated .isolated] at hi
  exact ⟨h1, h2, rfl, hi, rfl⟩

/-- R58: with only the MGP image wrong the loader serves in MAINTENANCE. -/
theorem execBootVerifyDone_mgpBad {s : State} (h : s.sys.st = .boot) : Completes (.bootVerifyDone false true) s fun t =>
    t.sys.st = .maintenance ∧ t.sys.base = .isolated ∧ t.sys.loaderOnly = true := by
  refine ⟨_, (if_neg (not_not_intro h) : execBootVerifyDone false true s = _).trans ((if_neg (by decide)).trans (if_pos rfl)), ?_⟩
  obtain ⟨h1, h2, -⟩ := s.bootRevert.sagLoad.enter_sys_moves .maintenance .isolated
  exact ⟨h1, h2, rfl⟩

/-- R59: the domain that is next comes up and leaves the order. -/
theorem execDomainReady_next {s : State} {d : Fin 12} {l : List Nat} (h : s.sys.powering = d.val :: l) : exec (.domainReady d) s =
    .next ({ s.domainUp d.val with sys := { (s.domainUp d.val).sys with powering := l } } : State).allReady := by
  show execDomainReady d s = _
  unfold execDomainReady
  rw [h]
  exact if_neg (not_not_intro rfl)

theorem State.domainUp_sys (s : State) (d : Nat) : (s.domainUp d).sys = { s.sys with pd := s.sys.pd.set d true } := by
  unfold State.domainUp
  dsimp only
  split
  · rfl
  · split
    · rfl
    · rfl

/-- R61: a failed critical item isolates, whether or not the table gives it a cause. -/
theorem State.isolateAll_latch (s : State) (l : List Nat) : (s.isolateAll l).sag.latch = true := by
  have h (l : List Nat) : ∀ t : State, t.sag.latch = true → (l.foldl State.isolate t).sag.latch = true := by
    induction l with
    | nil => exact fun t h => h
    | cons c l ih => exact fun t _ => ih _ (t.isolate_sag_latch c)
  cases l with
  | nil => exact s.isolate_sag_latch 0
  | cons c l => exact h l _ (s.isolate_sag_latch c)

theorem State.isolateAll_selftestFail (s : State) (l : List Nat) : (s.isolateAll l).sys.selftestFail = s.sys.selftestFail := by
  have h (l : List Nat) : ∀ t : State, (l.foldl State.isolate t).sys.selftestFail = t.sys.selftestFail := by
    induction l with
    | nil => exact fun t => rfl
    | cons c l ih => exact fun t => (ih _).trans (State.isolate_sys_rest Sys.selftestFail (fun _ _ _ => rfl) t c)
  cases l with
  | nil => exact State.isolate_sys_rest Sys.selftestFail (fun _ _ _ => rfl) s 0
  | cons c l => exact (h l _).trans (State.isolate_sys_rest Sys.selftestFail (fun _ _ _ => rfl) s c)

theorem State.testResults_selftestFail (s : State) (r : SelfTest) : (s.testResults r).sys.selftestFail = r.failBits := by
  simp [State.testResults]

theorem State.startFsq_running (s : State) : s.startFsq.fsq.running = true := by
  unfold State.startFsq State.loadBoot
  extract_lets
  rw [State.ceFrameStart_fsq]
  exact (congrArg Fsq.running ((State.loadTones_fsq _).trans (State.applyBank_fsq _)))

/-- R61, R62: the results of the self-test. -/
theorem execSelftestDone_sets {s : State} (h : s.sys.st = .selftest) (r : SelfTest) : Completes (.selftestDone r) s fun t =>
    t.sys.st = .selftest ∧ t.sys.selftestFail = r.failBits ∧ (∃ c o, Ev.selftestEnded c o ∈ t.sys.events) ∧
      t.sag.latch = ((failedItems (s.testItems r)).any (fun i => i.2.2.1) || s.sag.latch) := by
  show ∃ t, execSelftestDone r s = .next t ∧ _
  unfold execSelftestDone
  rw [if_neg (not_not_intro h)]
  extract_lets s1 bad s2 s3 s4
  have h1 : s3.sys.st = .selftest := by simp [s3, s2, s1, h]
  have h2 : s3.sys.selftestFail = r.failBits := by
    simp [s3, s2, s1, s.testResults_selftestFail r]
  have h3 : s3.sag.latch = s.sag.latch := by simp [s3, s2, s1]
  clear_value s3
  split
  · next i hi =>
    have hb : bad.any (fun i => i.2.2.1) = true := List.any_eq_true.2 ⟨i, List.mem_of_find?_eq_some hi, by simpa using List.find?_some hi⟩
    refine ⟨_, rfl, ?_, ?_, ⟨_, _, List.mem_append_right _ (List.mem_singleton_self _)⟩, ?_⟩
    · simp [State.post, s4, h1]
    · exact (State.isolateAll_selftestFail _ _).trans h2
    · rw [show failedItems (s.testItems r) = bad from rfl, hb, Bool.true_or]
      exact State.isolateAll_latch _ _
  · next hn =>
    have hb : bad.any (fun i => i.2.2.1) = false := List.any_eq_false.2 (List.find?_eq_none.1 hn)
    refine ⟨_, rfl, h1, h2, ⟨_, _, List.mem_append_right _ (List.mem_singleton_self _)⟩, ?_⟩
    rw [show failedItems (s.testItems r) = bad from rfl, hb, Bool.false_or]
    exact h3

/-- R371: a module that does not own may claim in STANDBY, ISOLATED and MAINTENANCE. -/
theorem State.may_claim (s : State) (ho : s.prl.owner = false)
    (hs : s.sys.st = .standby ∨ s.sys.st = .isolated ∨ s.sys.st = .maintenance) :
    (s.prl.owner || !(s.sys.st == .standby || s.sys.st == .isolated || s.sys.st == .maintenance)) = false := by
  simp only [ho, Bool.false_or, Bool.not_eq_false', Bool.or_eq_true, beq_iff_eq, or_assoc]
  exact hs

/-- Settles O2: start-up by the images' verification, the domain that is next, and the results of the self-test; the claim by R371. -/
theorem startUpGoesFromBootToSelftest : Obligations.StartUpGoesFromBootToSelftest := by
  unfold Obligations.StartUpGoesFromBootToSelftest
  intro s
  refine ⟨fun h m g => if_pos h, execBootVerifyDone_good, execBootVerifyDone_bad, execBootVerifyDone_mgpBad, rfl, fun d h => ?_, fun d l h hl => ?_, fun d e l h => ?_,
    fun d h h1 h2 h3 => ?_, fun d => ?_, fun h r => if_pos h, execSelftestDone_sets, fun high h => ?_, fun high ho hs h => ?_, fun ho hs h1 h2 h3 h4 => ?_,
    fun ho hs h => ?_⟩
  · show execDomainReady d s = _
    unfold execDomainReady
    split
    · rfl
    · next e l he => exact if_pos (fun hd => h (by rw [he, hd]; rfl))
  · refine ⟨_, execDomainReady_next h, ?_⟩
    have hu := s.domainUp_sys d.val
    refine ⟨?_, ?_, ?_⟩
    · rw [State.allReady_sys]
    · rw [State.allReady_sys, hu]
      exact nth_set_self_true (by rw [hl]; exact d.isLt)
    · rw [State.allReady_sys, hu]
  · refine ⟨_, execDomainReady_next h, ?_⟩
    have e : ({ s.domainUp d.val with sys := { (s.domainUp d.val).sys with powering := e :: l } } : State).allReady = _ := if_neg (by simp)
    rw [e]
    exact ⟨State.domainUp_fsq _ _, State.domainUp_sag _ _, State.domainUp_phm _ _⟩
  · refine ⟨_, execDomainReady_next h, ?_⟩
    have e : ({ s.domainUp d.val with sys := { (s.domainUp d.val).sys with powering := [] } } : State).allReady = _ :=
      if_pos (by simp [h1, h2, h3, State.domainUp_sys])
    rw [e]
    exact State.startFsq_running _
  · exact (apply_ite Host.Outcome.next _ _ _).symm
  · refine (if_pos ?_ : execOwnClaim high s = _)
    rcases h with h | h
    · simp [h]
    · simpa [not_or, and_assoc] using Or.inr h
  · refine ((if_neg (Bool.eq_false_iff.1 (s.may_claim ho hs)) : execOwnClaim high s = _).trans (if_pos ?_))
    rcases h with h | ⟨h1, h2, h3, h4⟩
    · simp [State.partnerOwns, h]
    · simp [State.partnerOwns, h1, h2, h3, h4]
  · refine (if_neg (Bool.eq_false_iff.1 (s.may_claim ho hs)) : execOwnClaim false s = _).trans ((if_neg ?_).trans (if_pos ?_))
    · simp [State.partnerOwns, h3]
    · simp [State.mayClaim, h1, h2, Nat.not_le.2 h4]
  · refine (if_neg (Bool.eq_false_iff.1 (s.may_claim ho hs)) : execOwnClaim false s = _).trans ((if_neg ?_).trans (if_neg ?_))
    · rcases h with h | h | h
      · simp [State.partnerOwns, h]
      · simp [State.partnerOwns, h]
      · simp [State.partnerOwns, Nat.not_lt.2 h]
    · rcases h with h | h | h
      · simp [State.mayClaim, h]
      · simp [State.mayClaim, h]
      · simp [State.mayClaim, h]

end Sys2Proof.Machine

/-! The MGP's own jobs, the MRAM, and the event recorder (R161, R181, R478 to R486). -/

namespace Sys2Proof.Machine

/-! Masks. -/

/-- R8: bit i of a mask is flag i of its list. -/
theorem bitOf_maskOf (l : List Bool) (i : Nat) : bitOf (maskOf l) i = nth l i false := by
  induction l generalizing i with
  | nil => simp [bitOf_eq_testBit, maskOf, nth]
  | cons b l ih =>
    cases i with
    | zero =>
      cases b with
      | true => simp [bitOf, maskOf, nth]
      | false => simp [bitOf, maskOf, nth]
    | succ i =>
      have h := ih i
      rw [bitOf_eq_testBit] at h ⊢
      rw [Nat.testBit_succ, show maskOf (b :: l) / 2 = maskOf l by cases b <;> simp [maskOf] <;> omega, h]
      rfl

theorem nth_map_range {n i : Nat} (f : Nat → Bool) : nth ((List.range n).map f) i false = (decide (i < n) && f i) := by
  by_cases h : i < n
  · simp [nth, h]
  · simp [nth, h]

/-! The balancing plan. -/

theorem State.balBefore_irrefl (s : State) (ref : Rat) (a : Nat) : s.balBefore ref a a = false := by
  simp [State.balBefore]

theorem State.balBefore_total (s : State) (ref : Rat) {a b : Nat} (h : a ≠ b) : s.balBefore ref a b = true ∨ s.balBefore ref b a = true := by
  simp only [State.balBefore, Bool.or_eq_true, Bool.and_eq_true, decide_eq_true_eq, beq_iff_eq]
  grind

theorem State.balBefore_trans (s : State) (ref : Rat) {a b c : Nat} (h : s.balBefore ref a b = true) (g : s.balBefore ref b c = true) :
    s.balBefore ref a c = true := by
  simp only [State.balBefore, Bool.or_eq_true, Bool.and_eq_true, decide_eq_true_eq, beq_iff_eq] at *
  grind

/-- The number of elements of a list before g. -/
def rank (r : Nat → Nat → Bool) (l : List Nat) (g : Nat) : Nat := (l.filter (fun h => r h g)).length

section

variable {r : Nat → Nat → Bool} (irr : ∀ a, r a a = false) (tr : ∀ a b c, r a b = true → r b c = true → r a c = true)
  (tot : ∀ a b, a ≠ b → r a b = true ∨ r b a = true)

include irr tr

theorem rank_lt {l : List Nat} (hl : l.Nodup) {a b : Nat} (ha : a ∈ l) (h : r a b = true) : rank r l a < rank r l b := by
  have nd : (a :: l.filter (fun x => r x a)).Nodup := by
    refine List.nodup_cons.2 ⟨fun hm => ?_, hl.filter _⟩
    have h' := (List.mem_filter.1 hm).2
    rw [irr] at h'
    cases h'
  have sub : a :: l.filter (fun x => r x a) ⊆ l.filter (fun x => r x b) := by
    intro x hx
    rcases List.mem_cons.1 hx with rfl | hx
    · exact List.mem_filter.2 ⟨ha, h⟩
    · obtain ⟨hm, hr⟩ := List.mem_filter.1 hx
      exact List.mem_filter.2 ⟨hm, tr _ _ _ hr h⟩
  exact nd.length_le_of_subset sub

include tot

/-- Of a list without repetition, at most k elements have fewer than k others before them in a strict order. -/
theorem length_filter_rank_le {l : List Nat} (hl : l.Nodup) (k : Nat) : (l.filter (fun g => decide (rank r l g < k))).length ≤ k := by
  have inj : ∀ x ∈ l.filter (fun g => decide (rank r l g < k)), ∀ y ∈ l.filter (fun g => decide (rank r l g < k)),
      rank r l x = rank r l y → x = y := by
    intro x hx y hy e
    refine Classical.byContradiction fun hne => ?_
    rcases tot x y hne with h | h
    · exact absurd e (Nat.ne_of_lt (rank_lt irr tr hl (List.mem_filter.1 hx).1 h))
    · exact absurd e (Nat.ne_of_gt (rank_lt irr tr hl (List.mem_filter.1 hy).1 h))
  have sub : (l.filter (fun g => decide (rank r l g < k))).map (rank r l) ⊆ List.range k := by
    intro x hx
    obtain ⟨g, hg, rfl⟩ := List.mem_map.1 hx
    exact List.mem_range.2 (of_decide_eq_true (List.mem_filter.1 hg).2)
  have nd : ((l.filter (fun g => decide (rank r l g < k))).map (rank r l)).Nodup :=
    List.pairwise_map.2 ((List.Pairwise.filter _ hl).imp_of_mem fun hx hy hne e => hne (inj _ hx _ hy e))
  have h := nd.length_le_of_subset sub
  rwa [List.length_map, List.length_range] at h

end

theorem exists_pair_of_length {α : Type} {l : List α} (h : l.length = 2) : ∃ a b, l = [a, b] :=
  match l, h with
  | [a, b], _ => ⟨a, b, rfl⟩

/-- The groups of node n that the plan wants to balance. -/
def State.balWanted (s : State) (ref : Rat) (n : Nat) : List Nat := ((List.range 8).map (8 * n + ·)).filter (s.balWants ref)

/-- R161: group i of a node has its bit where it is wanted and few enough are before it. -/
theorem State.bitOf_balMask (s : State) (ref : Rat) (n i : Nat) : bitOf (s.balMask ref n) i = true ↔
    i < 8 ∧ 8 * n + i ∈ s.balWanted ref n ∧ rank (s.balBefore ref) (s.balWanted ref n) (8 * n + i) < s.parN P.estBalMaxNode := by
  unfold State.balMask
  rw [bitOf_maskOf, nth_map_range]
  simp [State.balWanted, rank]

theorem State.balMask_length (s : State) (ref : Rat) (n : Nat) :
    ((List.range 8).filter (fun i => bitOf (s.balMask ref n) i)).length ≤ s.parN P.estBalMaxNode := by
  have hg : ∀ l : List Nat, l.Nodup → (l.map (fun i => 8 * n + i)).Nodup := fun l h =>
    List.pairwise_map.2 (h.imp fun hne e => hne (by omega))
  have hl : (s.balWanted ref n).Nodup := List.Pairwise.filter _ (hg _ List.nodup_range)
  refine Nat.le_trans ?_ (length_filter_rank_le (s.balBefore_irrefl ref) (fun _ _ _ => s.balBefore_trans ref)
    (fun _ _ h => s.balBefore_total ref h) hl _)
  rw [← List.length_map (fun i => 8 * n + i)]
  refine (hg _ (List.Pairwise.filter _ List.nodup_range)).length_le_of_subset fun x hx => ?_
  obtain ⟨i, hi, rfl⟩ := List.mem_map.1 hx
  obtain ⟨-, hw, hr⟩ := (s.bitOf_balMask ref n i).1 (List.mem_filter.1 hi).2
  exact List.mem_filter.2 ⟨hw, decide_eq_true hr⟩

/-! The MRAM. -/

theorem mem_set_self {α : Type} {l : List α} {k : Nat} (h : k < l.length) (x : α) : x ∈ l.set k x :=
  List.mem_iff_getElem.2 ⟨k, by simpa using h, by simp⟩

theorem Log.snapSlot_lt (l : Log) : l.snapSlot < 2 := by
  unfold Log.snapSlot
  dsimp only
  split
  · decide
  · split
    · decide
    · split <;> decide

/-- R484: the snapshot of an isolation takes its slot. -/
theorem State.execIsolationSnapshot_takes (s : State) {c : Nat} (h : s.log.snapDue = some c) (hu : s.up 6 = true) :
    exec .isolationSnapshot s = .next { s with log := { s.log with
      snaps := s.log.snaps.set s.log.snapSlot { seq := s.log.isoSeq, pcc := s.sys.pcc, opsec := s.sys.opsec, time := s.lmp.time,
                                                cause := c, valid := true, recs := s.csm.recs }
      snapDue := none } } := by
  show execIsolationSnapshot s = _
  unfold execIsolationSnapshot
  rw [h]
  exact if_pos hu

/-- R471: the counts of the errors of the MRAM. -/
def Log.ecc (l : Log) : Nat × Nat × Nat := (l.eccCorr, l.eccUnc, l.eccAddr)

theorem State.logPost_ecc (s : State) (src code sev : Nat) (d : List Nat) : (s.logPost src code sev d).log.ecc = s.log.ecc := by
  unfold State.logPost
  split
  · rfl
  · split <;> rfl

theorem State.nvmBad_ecc (s : State) (a : Nat) : (s.nvmBad a).log.ecc = s.log.ecc := by
  simp [State.nvmBad, Log.ecc, apply_ite Log.eccCorr, apply_ite Log.eccUnc, apply_ite Log.eccAddr]

/-- R471, R378: the registers once an uncorrectable word at a has been counted. -/
def State.countEcc (s : State) (a : Nat) : State :=
  { s with log := { s.log with eccUnc := incSat 16 s.log.eccUnc, eccAddr := a % 2 ^ 23 }, prl := { s.prl with eccBad := true } }

theorem State.countEcc_sets (s : State) (a : Nat) :
    (s.countEcc a).log.ecc = (s.log.eccCorr, incSat 16 s.log.eccUnc, a % 2 ^ 23) ∧ (s.countEcc a).prl.eccBad = true := ⟨rfl, rfl⟩

theorem State.nvmUncorrectable_eq (s : State) (a : Nat) : s.nvmUncorrectable a = ((s.nvmBad a).countEcc a).logPost 6 0x0109 3 (le4 a) := rfl

/-- R471, R378: an uncorrectable word counts, its address is held, and the health word shows it. -/
theorem State.nvmUncorrectable_sets (s : State) (a : Nat) :
    (s.nvmUncorrectable a).log.ecc = (s.log.eccCorr, incSat 16 s.log.eccUnc, a % 2 ^ 23) ∧ (s.nvmUncorrectable a).prl.eccBad = true := by
  have h := s.nvmBad_ecc a
  simp only [Log.ecc, Prod.mk.injEq] at h
  obtain ⟨h1, h2, -⟩ := h
  rw [State.nvmUncorrectable_eq, State.logPost_ecc, State.logPost_prl, ← h1, ← h2]
  exact State.countEcc_sets _ a

/-- R471: the corrected words have been counted before, and every uncorrectable one leaves their count. -/
theorem State.foldl_nvmUncorrectable_eccCorr (l : List Nat) (s : State) : (l.foldl State.nvmUncorrectable s).log.eccCorr = s.log.eccCorr := by
  induction l generalizing s with
  | nil => rfl
  | cons a l ih =>
    have h := (s.nvmUncorrectable_sets a).1
    simp only [Log.ecc, Prod.mk.injEq] at h
    exact (ih _).trans h.1

/-! Capacity commits. -/

theorem State.capCommitStart_held {s : State} (h : s.sys.boWarn = true) :
    s.capCommitStart = { s with est := { s.est with commitHeld := true } } := if_pos h

theorem State.capCommitStart_waits {s : State} (h : s.sys.boWarn = false) (hb : s.mbx.long = true ∨ s.sys.mgpAway = true) :
    s.capCommitStart = s := (if_neg (by simp [h])).trans (if_pos (by simpa using hb))

theorem State.capCommitStart_starts {s : State} (h : s.sys.boWarn = false) (h1 : s.mbx.long = false) (h2 : s.sys.mgpAway = false) :
    s.capCommitStart = { s.capOpen with mbx := { s.mbx with own := 2, long := true } } :=
  (if_neg (by simp [h])).trans (if_neg (by simp [h1, h2]))

/-- R181: both commands start the commit where one is due. -/
theorem exec_capCommit {s : State} {c : Instr} {due : Bool}
    (h : (c = .capCommitDue ∧ due = (s.est.commitDue || s.est.commitHeld)) ∨ (c = .capCommitRetry ∧ due = s.est.commitRetry)) :
    exec c s = .next (if due then s.capCommitStart else s) := by
  rcases h with ⟨rfl, rfl⟩ | ⟨rfl, rfl⟩
  · rfl
  · rfl

/-- Settles O21: the jobs by their conditions, the plan by the rank of a group in it, and the MRAM by what its errors leave. -/
theorem mgpJobsAndMram : Obligations.MgpJobsAndMram := by
  unfold Obligations.MgpJobsAndMram
  refine ⟨fun s => ⟨fun want hu hw => ?_, fun ua hc hr => ?_, fun h1 h2 h3 => ?_, fun h => ?_, fun c due hc => ?_, ?_, fun h => ?_, fun h hl => ?_⟩,
    fun s ref n => ⟨fun i hi => ?_, s.balMask_length ref n⟩, fun s => ⟨fun n => rfl, fun n l a => ?_, fun h => ?_, fun c h1 h2 h3 => ?_⟩⟩
  · exact ⟨_, if_pos (by simp [hu, hw]), Arb.arbitrate_round _ _ _, rfl⟩
  · obtain ⟨t, e, h1, h2, -⟩ := execLoopClassChange_new hc hr
    exact ⟨t, e, h1, h2⟩
  · exact if_neg (by simp [h1, h2, h3])
  · refine if_pos ?_
    rcases h with h | h | h <;> simp [h]
  · rw [exec_capCommit hc]
    refine ⟨fun hd => ?_, fun hd hb => ?_, fun hd hb hl => ?_, fun hd hb h1 h2 => ?_⟩
    · rw [hd]; rfl
    · rw [hd, if_pos rfl, State.capCommitStart_held hb]
    · rw [hd, if_pos rfl, State.capCommitStart_waits hb hl]
    · have e := exec_capCommit hc
      rw [if_pos hd, State.capCommitStart_starts hb h1 h2] at e
      exact ⟨_, e, rfl, rfl, rfl, rfl, rfl⟩
  · refine congrArg Host.Outcome.next ?_
    simp only [Bool.or_eq_true, Bool.not_eq_true']
  · exact congrArg Host.Outcome.next (if_pos h)
  · refine ⟨_, congrArg Host.Outcome.next (if_neg (by simp [h])), ⟨_, _, rfl, fun y hy => ?_⟩, rfl⟩
    obtain ⟨a, b, e⟩ := exists_pair_of_length hl
    rw [e] at hy ⊢
    simp only [List.mem_cons, List.not_mem_nil, or_false] at hy
    show y.1 < max a.1 b.1 + 1
    rcases hy with rfl | rfl <;> omega
  · obtain ⟨h8, hw, -⟩ := (s.bitOf_balMask ref n i).1 hi
    have hb := (List.mem_filter.1 hw).2
    exact ⟨h8, (Bool.and_eq_true_iff.1 hb).1⟩
  · refine ⟨_, rfl, ?_⟩
    rw [List.foldl_append]
    have h0 := State.foldl_nvmUncorrectable_eccCorr l { s with log := { s.log with eccCorr := addSat 16 s.log.eccCorr n } }
    obtain ⟨h1, h2⟩ := State.nvmUncorrectable_sets (l.foldl State.nvmUncorrectable { s with log := { s.log with eccCorr := addSat 16 s.log.eccCorr n } }) a
    simp only [Log.ecc, Prod.mk.injEq] at h1
    obtain ⟨hc, hu, ha⟩ := h1
    exact ⟨ha, h2, hc.trans h0, fun hl => hu.trans (by rw [hl]; rfl)⟩
  · show execIsolationSnapshot s = _
    unfold execIsolationSnapshot
    rcases h with h | h
    · rw [h]
    · split
      · rfl
      · exact if_neg (by simp [h])
  · refine ⟨_, s.execIsolationSnapshot_takes h1 h2, rfl, ⟨_, mem_set_self (by rw [h3]; exact s.log.snapSlot_lt) _, rfl, rfl, rfl, rfl⟩, rfl⟩

end Sys2Proof.Machine

/-! The event recorder (R478 to R483). -/

namespace Sys2Proof.Machine

theorem State.logPost_away {s : State} (h : s.sys.mgpAway = true) (code sev : Nat) (d : List Nat) : s.logPost 0 code sev d = s :=
  if_pos ⟨rfl, h⟩

/-- R478: a record of another source, or with the MGP there, is not passed over. -/
theorem State.logPost_of_present {s : State} {src : Nat} (h : src ≠ 0 ∨ s.sys.mgpAway = false) (code sev : Nat) (d : List Nat) :
    s.logPost src code sev d = if 64 ≤ s.log.queue.length then { s with log := s.log.dropOne }
      else { s with log := { s.log with queue := s.log.queue ++
        [{ pcc := s.sys.pcc, opsec := s.sys.opsec, time := s.lmp.time, code := code, sev := sev, src := src, data := data6 d }] } } :=
  if_neg (by rcases h with h | h <;> simp [h])

theorem State.logPost_only_log (s : State) (src code sev : Nat) (d : List Nat) :
    s.logPost src code sev d = { s with log := (s.logPost src code sev d).log } := by
  unfold State.logPost
  split
  · rfl
  · split <;> rfl

/-- R478: the slot just bound holds its record. -/
theorem find?_putSlot (i : Nat) (r : LogRec) (t : Nat) (l : List (Nat × LogRec × Nat)) :
    (putSlot i r t l).find? (fun x => x.1 == i) = some (i, r, t) := by
  induction l with
  | nil => simp [putSlot]
  | cons x l ih =>
    unfold putSlot
    split
    · simp
    · split
      · simp
      · next h1 h2 => rw [List.find?_cons_of_neg (by simpa using fun h => h2 h.symm), ih]

/-- R481: a record that is written takes the next number and the slot found. -/
theorem Log.write_of_some {l : Log} {clock i : Nat} {r : LogRec} (h : l.choose clock r.sev = some i) : l.write clock r = l.put clock i r := by
  unfold Log.write
  rw [h]

theorem Log.write_of_none {l : Log} {clock : Nat} {r : LogRec} (h : l.choose clock r.sev = none) :
    l.write clock r = { l.dropOne with wearHold := l.wearHold || l.wearDrop r.sev } := by
  unfold Log.write
  rw [h]

/-- R482: with no drops to report, the oldest record that waits is written. -/
theorem execLogRecordWrite_front {s : State} {r : LogRec} {l : List LogRec} (hs : s.log.scanned = true) (hu : s.log.unreported = 0)
    (hq : s.log.queue = r :: l) :
    exec .logRecordWrite s = .next { s with log := ({ s.log with queue := l } : Log).write s.sys.clock r } := by
  refine congrArg Host.Outcome.next ((if_pos hs).trans ?_)
  unfold State.logWriteOne
  rw [State.reportDrops, if_pos hu]
  dsimp only
  rw [hq]

/-- Settles O22: posting by the length of the queue, writing by the slot found, and the scan by the newest slot. -/
theorem recorderQueuesAndWrites : Obligations.RecorderQueuesAndWrites := by
  unfold Obligations.RecorderQueuesAndWrites
  refine ⟨fun s src code sev d => ⟨fun hl hs => ?_, fun hl hs => ?_, fun h => State.logPost_away h code sev d, s.logPost_only_log src code sev d, ?_⟩,
    fun s => ⟨fun h => ?_, fun h hu hq => ?_, fun r l i hs hu hq hc => ?_, fun r l hs hu hq hc => ?_, fun h hn => ?_, fun i q h hn => ?_, fun h => if_pos h,
      ⟨_, rfl, rfl, fun i hi => List.mem_append_left _ hi⟩, rfl, fun q hq => if_neg (by omega)⟩⟩
  · rw [State.logPost_of_present hs, if_neg (Nat.not_le.2 hl)]
  · rw [State.logPost_of_present hs, if_pos hl]
    exact ⟨rfl, rfl, rfl⟩
  · simp [data6]
  · exact congrArg Host.Outcome.next (if_neg (by simp [h]))
  · refine congrArg Host.Outcome.next ((if_pos h).trans ?_)
    unfold State.logWriteOne
    rw [State.reportDrops, if_pos hu]
    dsimp only
    rw [hq]
  · refine ⟨_, execLogRecordWrite_front hs hu hq, ?_⟩
    rw [Log.write_of_some hc]
    exact ⟨rfl, rfl, rfl, find?_putSlot _ _ _ _, rfl⟩
  · refine ⟨_, execLogRecordWrite_front hs hu hq, ?_⟩
    rw [Log.write_of_none hc]
    exact ⟨rfl, rfl, rfl, rfl⟩
  · show execLogBootScan s = _
    unfold execLogBootScan
    rw [if_neg (by simp [h]), hn]
  · have e : execLogBootScan s = .next { s with log := { s.log with
        scanned := true, seq := if seqNewer q s.log.floor then q else s.log.floor, cursor := (i + 1) % 65536 } } := by
      unfold execLogBootScan
      rw [if_neg (by simp [h]), hn]
    exact ⟨_, e, rfl, rfl, rfl, rfl⟩

end Sys2Proof.Machine

/-! The phases of the harness: changing one, its fault, and the events of a phase (R242 to R268). -/

namespace Sys2Proof.Machine

/-! Changing one phase. -/

theorem nth_modify_ne {α : Type} (l : List α) {k j : Nat} (h : k ≠ j) (f : α → α) (d : α) : nth (l.modify k f) j d = nth l j d := by
  simp [nth, List.getElem?_modify, h]

theorem nth_map {α β : Type} (f : α → β) (l : List α) (k : Nat) (d : α) : nth (l.map f) k (f d) = f (nth l k d) := by
  simp only [nth, List.getD_eq_getElem?_getD, List.getElem?_map]
  cases l[k]? with
  | none => rfl
  | some x => rfl

/-! A phase fault. -/

/-- R256: a phase that has taken code c. -/
def Phase.faulted (c : Nat) (x : Phase) : Phase :=
  { x with fault := c, gatesLow := true, leaving := x.active, braking := none, legA := .low, legB := .low }

/-- R256: phase p holds a code that c does not replace. -/
def State.faultHeld (s : State) (p c : Nat) : Prop := (nth s.phm.ph p {}).fault ≠ 0 ∧ (c ≠ 6 ∨ (nth s.phm.ph p {}).fault = 6)

theorem State.phaseFault_held {s : State} {p c : Nat} (h : s.faultHeld p c) : s.phaseFault p c = s := if_pos h

theorem State.phaseFault_taken {s : State} {p c : Nat} (h : ¬ s.faultHeld p c) : s.phaseFault p c =
    (((s.modPh p (Phase.faulted c)).logPost 0 0x0701 3 [p, c]).attn 6 3 [p, c]).degPhase := if_neg h

/-- R256: of the harness, a fault that is taken changes the phase alone. -/
theorem State.phaseFault_phm {s : State} {p c : Nat} (h : ¬ s.faultHeld p c) :
    (s.phaseFault p c).phm = { s.phm with ph := s.phm.ph.modify p (Phase.faulted c) } := by
  rw [State.phaseFault_taken h, State.degPhase_phm, State.attn_phm, State.logPost_phm]
  rfl

theorem State.phaseFaultAny_congr {s t : State} (h : s.phm = t.phm) : s.phaseFaultAny = t.phaseFaultAny := by
  unfold State.phaseFaultAny State.enMask
  rw [h]

/-- R343: bit 4 of the degraded class follows the phase faults. -/
theorem State.phaseFault_deg {s : State} {p c : Nat} (h : ¬ s.faultHeld p c) (hl : 4 < s.sag.deg.length) :
    nth (s.phaseFault p c).sag.deg 4 false = (s.phaseFault p c).phaseFaultAny := by
  rw [State.phaseFault_taken h]
  generalize ht : ((s.modPh p (Phase.faulted c)).logPost 0 0x0701 3 [p, c]).attn 6 3 [p, c] = t
  have hs : t.sag = s.sag := by rw [← ht, State.attn_sag, State.logPost_sag, State.modPh_sag]
  rw [State.phaseFaultAny_congr t.degPhase_phm]
  show nth (t.sag.deg.set 4 t.phaseFaultAny) 4 false = _
  rw [hs]
  simp [nth, hl]

@[simp] theorem State.phaseFault_length (s : State) (p c : Nat) : (s.phaseFault p c).phm.ph.length = s.phm.ph.length := by
  by_cases h : s.faultHeld p c
  · rw [State.phaseFault_held h]
  · rw [State.phaseFault_phm h]
    exact List.length_modify ..

/-- R256: after a phase fault the phase holds a code. -/
theorem State.phaseFault_fault {s : State} {p c : Nat} (hp : p < s.phm.ph.length) (hc : c ≠ 6) :
    (nth (s.phaseFault p c).phm.ph p {}).fault = if (nth s.phm.ph p {}).fault = 0 then c else (nth s.phm.ph p {}).fault := by
  by_cases h : (nth s.phm.ph p {}).fault = 0
  · rw [if_pos h, State.phaseFault_phm (fun hh => hh.1 h), nth_modify_self hp]
    rfl
  · rw [if_neg h, State.phaseFault_held ⟨h, .inl hc⟩]

theorem State.phaseFault_other (s : State) (c : Nat) {p q : Nat} (h : q ≠ p) :
    nth (s.phaseFault p c).phm.ph q {} = nth s.phm.ph q {} := by
  by_cases hh : s.faultHeld p c
  · rw [State.phaseFault_held hh]
  · rw [State.phaseFault_phm hh]
    exact nth_modify_ne _ (Ne.symm h) _ _

/-- Settles O28: by whether the phase holds a code that stays. -/
theorem phaseFaultIsRecordedOnce : Obligations.PhaseFaultIsRecordedOnce := by
  unfold Obligations.PhaseFaultIsRecordedOnce
  intro s p c hp
  refine ⟨fun h1 h2 => State.phaseFault_held ⟨h1, h2⟩, fun h => ?_, fun q hq => s.phaseFault_other c hq, by simp, by simp, by simp, by simp⟩
  have hn : ¬ s.faultHeld p c := by
    rintro ⟨h1, h2⟩
    rcases h with h | ⟨h3, h4⟩
    · exact h1 h
    · exact h2.elim (fun h => h h3) h4
  refine ⟨?_, ?_, ?_, State.phaseFault_deg hn⟩ <;> rw [State.phaseFault_phm hn, nth_modify_self hp] <;> rfl

/-! The events of a phase. -/

/-- A phase that is changed, of a harness that has it. -/
theorem State.modPh_self {s : State} {p : Nat} (h : p < s.phm.ph.length) (f : Phase → Phase) :
    nth (s.modPh p f).phm.ph p {} = f (nth s.phm.ph p {}) := nth_modify_self h f {}

theorem State.modPh_length (s : State) (p : Nat) (f : Phase → Phase) : (s.modPh p f).phm.ph.length = s.phm.ph.length :=
  List.length_modify ..

/-- R256: what a fault of a phase leaves of it where it held none, and where it did. -/
theorem State.phaseFault_self {s : State} {p c : Nat} (hp : p < s.phm.ph.length) :
    nth (s.phaseFault p c).phm.ph p {} = nth s.phm.ph p {} ∨ nth (s.phaseFault p c).phm.ph p {} = (nth s.phm.ph p {}).faulted c := by
  by_cases h : s.faultHeld p c
  · exact .inl (by rw [State.phaseFault_held h])
  · exact .inr (by rw [State.phaseFault_phm h, nth_modify_self hp])

/-- R248: a sample beyond the limit counts and cuts. -/
def Phase.peak (run : Nat) (i : Int) (at_ : Nat) (y : Phase) : Phase :=
  ({ y with pkSeen := true, pkRun := run, pkCnt := incSat 16 y.pkCnt }).turnOff (y.driving (decide (0 ≤ i))) at_

theorem execPeakLimitEvent_counts {s : State} {p : Fin 16} {d : Nat} {now : BitVec 32} (hp : p.val < s.phm.ph.length)
    (ha : (nth s.phm.ph p.val {}).active = true) (hs : (nth s.phm.ph p.val {}).pkSeen = false)
    (hi : s.par P.phmIpk < ((s.fastMa p.val d).natAbs : Int)) :
    ∃ t : State, nth t.phm.ph p.val {} = (nth s.phm.ph p.val {}).peak ((nth s.phm.ph p.val {}).pkRun + 1) (s.fastMa p.val d) (s.edgeTime now.toNat) ∧
      t.phm.ph.length = s.phm.ph.length ∧ exec (.peakLimitEvent p d now) s =
        .next (if s.parN P.phmPkCount ≤ (nth s.phm.ph p.val {}).pkRun + 1 then t.phaseFault p.val 3 else t) := by
  refine ⟨s.modPh p.val (Phase.peak ((nth s.phm.ph p.val {}).pkRun + 1) (s.fastMa p.val d) (s.edgeTime now.toNat)), State.modPh_self hp _,
    State.modPh_length _ _ _, (if_neg ?_ : execPeakLimitEvent p d now s = _)⟩
  rw [ha, hs, decide_eq_false (Int.not_le.2 hi)]
  decide

/-- R256: a code, once held, is held on, and the phase named holds one. -/
theorem State.phaseFault_fault_ne {s : State} {p q c : Nat} (hq : q < s.phm.ph.length) (hc : c ≠ 0)
    (h : (nth s.phm.ph q {}).fault ≠ 0 ∨ p = q) : (nth (s.phaseFault p c).phm.ph q {}).fault ≠ 0 := by
  by_cases hh : s.faultHeld p c
  · rw [State.phaseFault_held hh]
    rcases h with h | rfl
    · exact h
    · exact hh.1
  · rw [State.phaseFault_phm hh]
    by_cases e : p = q
    · subst e
      rw [nth_modify_self hq]
      exact hc
    · rw [nth_modify_ne _ e]
      exact h.resolve_right e

theorem State.foldl_phaseFault_fault_ne {c q : Nat} (hc : c ≠ 0) (f : Nat → Nat) (l : List Nat) : ∀ {s : State}, q < s.phm.ph.length →
    ((nth s.phm.ph q {}).fault ≠ 0 ∨ ∃ i ∈ l, f i = q) → (nth (l.foldl (fun t i => t.phaseFault (f i) c) s).phm.ph q {}).fault ≠ 0 := by
  induction l with
  | nil => exact fun _ h => h.resolve_right (fun ⟨i, hi, _⟩ => by cases hi)
  | cons i l ih =>
    intro s hq h
    refine ih (by rw [State.phaseFault_length]; exact hq) ?_
    rcases h with h | ⟨j, hj, hf⟩
    · exact .inl (State.phaseFault_fault_ne hq hc (.inl h))
    · rcases List.mem_cons.1 hj with rfl | hj
      · exact .inl (State.phaseFault_fault_ne hq hc (.inr hf))
      · exact .inr ⟨j, hj, hf⟩

/-- R251: every phase of a harness holds a code once the harness has failed. -/
theorem State.harnessFault_fault_ne {s : State} {h c i : Nat} (hq : 4 * h + i < s.phm.ph.length) (hc : c ≠ 0) (hi : i < 4) :
    (nth (s.harnessFault h c).phm.ph (4 * h + i) {}).fault ≠ 0 :=
  State.foldl_phaseFault_fault_ne hc (4 * h + ·) _ hq (.inr ⟨i, List.mem_range.2 hi, rfl⟩)

/-- R331: an isolation leaves the codes of the phases. -/
theorem State.isolate_fault (s : State) (c q : Nat) : (nth (s.isolate c).phm.ph q {}).fault = (nth s.phm.ph q {}).fault := by
  cases h : s.sag.latch with
  | true => rw [State.isolate_of_latch_set h, State.post_phm, State.logPost_phm]
  | false =>
    rw [State.isolate_phm h]
    show (nth (s.phm.ph.map Phase.idle) q {}).fault = _
    rw [← nth_map Phase.fault, List.map_map, ← nth_map Phase.fault]
    rfl

/-- R254: a phase whose gate lines go low before it takes code c. -/
theorem State.lowThenFault {s : State} {p c : Nat} (hp : p < s.phm.ph.length) (hc : c ≠ 6) :
    (nth ((s.modPh p (fun x => { x with gatesLow := true })).phaseFault p c).phm.ph p {}).gatesLow = true ∧
    (nth ((s.modPh p (fun x => { x with gatesLow := true })).phaseFault p c).phm.ph p {}).fault =
      if (nth s.phm.ph p {}).fault = 0 then c else (nth s.phm.ph p {}).fault := by
  have hl : p < (s.modPh p (fun x => { x with gatesLow := true })).phm.ph.length := by rw [State.modPh_length]; exact hp
  have hm : nth (s.modPh p (fun x => { x with gatesLow := true })).phm.ph p {} = { nth s.phm.ph p {} with gatesLow := true } :=
    State.modPh_self hp _
  constructor
  · rcases State.phaseFault_self (c := c) hl with h | h
    · rw [h, hm]
    · rw [h]
      rfl
  · rw [State.phaseFault_fault hl hc, hm]

/-- R252: OWN or EN reads wrong: the harness fails, and at a takeover the module isolates. -/
theorem execReadbackMismatch_harness {s : State} (ho : s.prl.owner = true) (h : Fin 4) (b : Bool) : exec (.readbackMismatch h none b) s =
    .next (if b then (s.harnessFault h.val 5).isolate 0x11 else (s.harnessFault h.val 5).autoSwap) :=
  (if_neg (by simp [ho]) : execReadbackMismatch h none b s = _)

/-- Settles O27: each event by the condition that it tests, on the phase that it names. -/
theorem phaseEventsAct : Obligations.PhaseEventsAct := by
  unfold Obligations.PhaseEventsAct
  intro s hl
  have lt (p : Fin 16) : p.val < s.phm.ph.length := by rw [hl]; exact p.isLt
  refine ⟨fun p d now ha hs hi => ?_, fun p d now h => ?_, fun p d => ?_, fun p => ?_, fun p h1 h2 => ?_, fun p h => ?_, fun h p b ho => ?_,
    fun h i b ho => ?_, fun h ho => ?_, fun h ho => ?_, fun p n hn => ?_, fun p n h1 h2 => ?_, fun p => ?_, fun p h1 h2 => ?_, fun p h1 h2 => ?_,
    fun p b h => ?_⟩
  · obtain ⟨t, ht, htl, e⟩ := execPeakLimitEvent_counts (now := now) (lt p) ha hs hi
    refine ⟨_, e, ?_⟩
    have hf : nth (t.phaseFault p.val 3).phm.ph p.val {} = nth t.phm.ph p.val {} ∨ nth (t.phaseFault p.val 3).phm.ph p.val {} = (nth t.phm.ph p.val {}).faulted 3 :=
      State.phaseFault_self (by rw [htl]; exact lt p)
    split
    · next hn =>
      refine ⟨?_, ?_, fun h => absurd h (Nat.not_lt.2 hn), fun _ => State.phaseFault_fault_ne (by rw [htl]; exact lt p) (by decide) (.inr rfl)⟩
      · rcases hf with h | h <;> rw [h, ht] <;> rfl
      · rcases hf with h | h <;> rw [h, ht] <;> rfl
    · next hn =>
      dsimp only
      rw [ht]
      exact ⟨rfl, rfl, fun _ => rfl, fun h => absurd h hn⟩
  · refine (if_pos ?_ : execPeakLimitEvent p d now s = _)
    rcases h with h | h | h
    · simp [h]
    · simp [h]
    · rw [decide_eq_true h, Bool.or_true]
  · refine congrArg Host.Outcome.next ?_
    simp only [Bool.and_eq_true, beq_iff_eq, List.all_eq_true, and_assoc]
  · exact ⟨_, rfl, State.lowThenFault (lt p) (by decide)⟩
  · exact ⟨_, congrArg Host.Outcome.next (if_pos (by simp [h1, h2])), State.lowThenFault (lt p) (by decide)⟩
  · refine congrArg Host.Outcome.next (if_neg ?_)
    rcases h with h | h <;> simp [h]
  · exact (if_pos (by simp [ho]) : execReadbackMismatch h p b s = _)
  · exact (if_neg (by simp [ho]) : execReadbackMismatch h (some i) b s = _)
  · rw [execReadbackMismatch_harness ho, if_neg (by decide)]
  · refine ⟨(s.harnessFault h.val 5).isolate 0x11, by rw [execReadbackMismatch_harness ho, if_pos rfl], State.isolate_sag_latch _ _, fun i hi => ?_⟩
    rw [State.isolate_fault]
    exact State.harnessFault_fault_ne (by omega) (by decide) hi
  · refine ⟨_, (if_pos hn : execTempCountWindow p n s = _), ?_⟩
    exact congrArg Phase.tfail (State.modPh_self (lt p) _)
  · by_cases hf : (nth s.phm.ph p.val {}).tfail = true
    · refine ⟨_, (if_neg (by omega) : execTempCountWindow p n s = _).trans (if_pos hf), congrArg Phase.tfail (State.modPh_self (lt p) _), ?_⟩
      rw [if_pos hf]
      have hm := State.modPh_self (lt p) (fun y => { y with tfail := false })
      exact (congrArg Phase.temp hm).trans rfl
    · refine ⟨_, (if_neg (by omega) : execTempCountWindow p n s = _).trans (if_neg hf), (congrArg Phase.tfail (State.modPh_self (lt p) _)).trans (by simpa using hf), ?_⟩
      rw [if_neg hf]
      exact congrArg Phase.temp (State.modPh_self (lt p) _)
  · exact ⟨_, rfl, congrArg Phase.tfail (State.modPh_self (lt p) _)⟩
  · refine ⟨_, (if_pos (by simp [h1, h2]) : execPhaseShareWarning p true s = _), ?_⟩
    dsimp only
    rw [State.logPost_phm]
    exact congrArg Phase.share (State.modPh_self (lt p) _)
  · exact ⟨_, (if_pos (by simp [h1, h2]) : execPhaseShareWarning p false s = _), congrArg Phase.share (State.modPh_self (lt p) _)⟩
  · refine (if_neg ?_ : execPhaseShareWarning p b s = _).trans (if_neg ?_)
    · rcases h with h | h
      · cases b <;> simp_all
      · cases b <;> simp_all
    · rcases h with h | h
      · cases b <;> simp_all
      · cases b <;> simp_all

end Sys2Proof.Machine

/-! The power stage: load steps, tracking starts, stops and the clearing of faults (R244 to R273). -/

namespace Sys2Proof.Machine

theorem Phase.idle_gatesLow (l : List Phase) : ∀ p ∈ l.map Phase.idle, p.gatesLow = true := by
  intro p hp
  obtain ⟨q, -, rfl⟩ := List.mem_map.1 hp
  rfl

/-- R247: the sum is beyond a limit, or the load event is none. -/
theorem State.loadStep_idle {s : State} (h : s.shedding = false) : s.loadStep = s := if_neg (by simp [h])

theorem Phase.reverse_ramp_ne (n : Nat) (p : Phase) : (p.reverse n).ramp ≠ 1 := by
  unfold Phase.reverse
  split
  · split
    · exact Nat.zero_ne_one
    · exact Nat.succ_succ_ne_one 0
  · assumption

theorem State.loadStep_sheds {s : State} (h : s.shedding = true) :
    s.loadStep.phm.stepReq = ceilDiv s.ctl.iref.natAbs (s.loadStep.parN P.phmAddI) ∧ (∀ p ∈ s.loadStep.phm.ph, p.ramp ≠ 1) := by
  have e : s.loadStep = _ := if_pos h
  rw [e]
  refine ⟨rfl, fun p hp => ?_⟩
  obtain ⟨q, -, rfl⟩ := List.mem_map.1 hp
  exact q.reverse_ramp_ne _

/-- R262: abandoning a start idles the phases. -/
theorem State.abandonTrk_phm (s : State) (kind sev : Nat) : (s.abandonTrk kind sev).phm = s.gatesLow.trkIdle.phm := by
  simp [State.abandonTrk]

theorem State.dropCo3_phm (s : State) : s.dropCo3.phm = { s.phm with co3Drop := true } := by
  unfold State.dropCo3
  rw [State.coilService_phm]
  rfl

/-- R256, R429: the faults that a write clears: those named whose cause is gone, in harnesses whose straps match. -/
def State.clearFault (w still : Word) (t : State) (p : Nat) : State :=
  if bitOf w.toNat p && (nth t.phm.ph p {}).fault != 0 && !bitOf still.toNat p && !nth t.phm.hidErr (p / 4) false then
    t.modPh p (fun y => { y with fault := 0 })
  else t

theorem State.clearFault_keeps (w still : Word) (t : State) (p : Nat) :
    (t.clearFault w still p).phm.ph.length = t.phm.ph.length ∧ (t.clearFault w still p).phm.hidErr = t.phm.hidErr ∧
    ∀ q, q ≠ p → nth (t.clearFault w still p).phm.ph q {} = nth t.phm.ph q {} := by
  unfold State.clearFault
  split
  · exact ⟨State.modPh_length _ _ _, rfl, fun q hq => nth_modify_ne _ (Ne.symm hq) _ _⟩
  · exact ⟨rfl, rfl, fun _ _ => rfl⟩

theorem State.clearFault_self {w still : Word} {t : State} {p : Nat} (hp : p < t.phm.ph.length) :
    (nth (t.clearFault w still p).phm.ph p {}).fault =
      if bitOf w.toNat p = true ∧ bitOf still.toNat p = false ∧ nth t.phm.hidErr (p / 4) false = false then 0 else (nth t.phm.ph p {}).fault := by
  unfold State.clearFault
  by_cases h : bitOf w.toNat p = true ∧ bitOf still.toNat p = false ∧ nth t.phm.hidErr (p / 4) false = false
  · obtain ⟨h1, h2, h3⟩ := h
    by_cases h0 : (nth t.phm.ph p {}).fault = 0
    · simp [h0]
    · rw [if_pos (by simp [h1, h2, h3, h0]), if_pos ⟨h1, h2, h3⟩, State.modPh_self hp]
  · rw [if_neg h, if_neg]
    simp only [Bool.and_eq_true, Bool.not_eq_true', bne_iff_ne]
    rintro ⟨⟨⟨h1, -⟩, h2⟩, h3⟩
    exact h ⟨h1, h2, h3⟩

/-- R256: a write reaches each phase once. -/
theorem State.foldl_clearFault {w still : Word} {p : Nat} (l : List Nat) (hl : l.Nodup) : ∀ {t : State}, p < t.phm.ph.length → 
    (nth (l.foldl (State.clearFault w still) t).phm.ph p {}).fault =
      if p ∈ l ∧ bitOf w.toNat p = true ∧ bitOf still.toNat p = false ∧ nth t.phm.hidErr (p / 4) false = false then 0
      else (nth t.phm.ph p {}).fault := by
  induction l with
  | nil => simp
  | cons q l ih =>
    intro t hp
    obtain ⟨hq, hl⟩ := List.nodup_cons.1 hl
    obtain ⟨k1, k2, k3⟩ := t.clearFault_keeps w still q
    rw [List.foldl_cons, ih hl (by rw [k1]; exact hp), k2]
    by_cases e : p = q
    · subst e
      rw [if_neg (fun h => hq h.1), State.clearFault_self hp]
      simp
    · rw [k3 p e]
      simp [e]

/-- Settles O29: each command by the situation in which it acts. -/
theorem powerStageStartsAndStops : Obligations.PowerStageStartsAndStops := by
  unfold Obligations.PowerStageStartsAndStops
  intro s
  refine ⟨fun x now h1 h2 h3 h4 h5 => ?_, fun x now h => ?_, fun x h1 h2 h3 h4 h5 => ?_, fun x h => ?_, fun h => ?_, fun h => if_neg h,
    fun h => ?_, fun h => if_neg h, fun h => ?_, fun h => ?_, fun h1 h2 h3 => ?_, fun h => ?_, fun h1 h2 => ?_, fun h => ?_,
    fun w still h => if_pos h, fun w still h hu => ?_, fun w still h hu hl => ?_, fun x g h => if_pos h, fun x g h => ?_⟩
  · refine ⟨_, (if_neg ?_ : execLoadRelease x now s = _), rfl, rfl, rfl, rfl, rfl⟩
    simp [h1, h2, Nat.not_lt.2 h3, h4, Int.not_le.2 h5]
  · refine (if_pos ?_ : execLoadRelease x now s = _)
    simpa only [Bool.or_eq_true, decide_eq_true_eq, List.length_eq_zero_iff, or_assoc] using h
  · obtain ⟨g1, g2⟩ := State.loadStep_sheds h4
    refine ⟨s.loadStep, (if_neg ?_ : execLoadStep x s = _), g1, g2, State.loadStep_sag s, State.loadStep_sys s⟩
    simp [h1, h2, h3, Int.not_le.2 h5]
  · by_cases hs : s.shedding = false
    · show execLoadStep x s = _
      unfold execLoadStep
      rw [State.loadStep_idle hs]
      exact ite_self _
    · refine (if_pos ?_ : execLoadStep x s = _)
      simpa only [hs, false_or, Bool.true_eq_false, Bool.or_eq_true, decide_eq_true_eq, List.length_eq_zero_iff, or_assoc] using h
  · refine ⟨_, if_pos h, ?_⟩
    dsimp only
    rw [State.coilService_phm]
    exact ⟨rfl, rfl⟩
  · exact ⟨_, if_pos h, congrArg Phm.trk (State.startMode_phm _ _), rfl, State.startMode_sag _ _, State.startMode_sys _ _⟩
  · refine ⟨_, (if_pos ?_ : execTrkTimeout s = _), ?_⟩
    · rcases h with h | h | h <;> simp [h, Trk.isStart]
    · dsimp only
      rw [State.attn_phm, State.abandonTrk_phm]
      exact ⟨rfl, Phase.idle_gatesLow _⟩
  · refine (if_neg ?_ : execTrkTimeout s = _)
    cases ht : s.phm.trk <;> simp_all [Trk.isStart]
  · refine ⟨_, (if_pos (by rw [h1, h2, decide_eq_true h3]; rfl) : execStopCurrentLow s = _), ?_⟩
    dsimp only
    rw [State.dropCo3_phm, State.dropCo3_ctl]
    exact ⟨rfl, rfl, rfl⟩
  · refine (if_neg ?_ : execStopCurrentLow s = _)
    rcases h with h | h | h
    · simp [h]
    · simp [h]
    · simp only [decide_eq_false (Int.not_lt.2 h), Bool.and_false]
      decide
  · refine ⟨_, (if_pos (by simp [h1, h2]) : execStopTimeout s = _), ?_⟩
    dsimp only
    rw [State.logPost_phm, State.dropCo3_phm]
    exact ⟨rfl, Phase.idle_gatesLow _⟩
  · refine (if_neg ?_ : execStopTimeout s = _)
    rcases h with h | h <;> simp [h]
  · exact (if_neg (Nat.not_le.2 h) : execPhmFltClr w still s = _).trans (State.hostWrite_down _ hu)
  · refine ⟨_, (if_neg (Nat.not_le.2 h) : execPhmFltClr w still s = _).trans (State.hostWrite_up _ hu), fun p hp => ?_⟩
    have hf := State.foldl_clearFault (w := w) (still := still) (List.range 16) List.nodup_range (t := s) (p := p) (by rw [hl]; exact hp)
    simp only [List.mem_range, hp, true_and] at hf
    exact hf
  · exact (if_neg (not_not_intro h) : execHandoverBoundary x g s = _).trans (apply_ite Host.Outcome.next _ _ _).symm

end Sys2Proof.Machine

/-! The pins, which no evaluation changes. -/

namespace Sys2Proof.Machine

@[simp] theorem State.abandonTrk_pins (s : State) (kind sev : Nat) : (State.abandonTrk s kind sev).pins = s.pins := by
  simp [State.abandonTrk]

@[simp] theorem State.applyOuter_pins (s : State) : (State.applyOuter s).pins = s.pins := by
  simp [State.applyOuter]

@[simp] theorem State.takeCmd_pins (s0 : State) (c : SetCmd) : (State.takeCmd s0 c).pins = s0.pins := by
  simp [State.takeCmd]

@[simp] theorem State.intake_pins (s : State) (now : Nat) : (State.intake s now).pins = s.pins := by
  simp [State.intake]

@[simp] theorem State.limits_pins (s : State) (dt : Rat) : (State.limits s dt).pins = s.pins := by
  simp [State.limits]

@[simp] theorem State.probeSuspend_pins (s : State) : (State.probeSuspend s).pins = s.pins := by
  simp [State.probeSuspend]

@[simp] theorem State.applyClamp_pins (s : State) (q : Rat) (dtNs : Nat) : (State.applyClamp s q dtNs).1.pins = s.pins := by
  simp [State.applyClamp]

@[simp] theorem State.holdTones_pins (s : State) : (State.holdTones s).pins = s.pins := by
  simp [State.holdTones]

@[simp] theorem State.outerLoop_pins (s : State) (q : Rat) (dtNs : Nat) : (State.outerLoop s q dtNs).pins = s.pins := by
  simp [State.outerLoop]

@[simp] theorem State.startMode_pins (s : State) (m : Nat) : (State.startMode s m).pins = s.pins := by
  simp [State.startMode]

@[simp] theorem State.modeChange_pins (s : State) : (State.modeChange s).pins = s.pins := by
  simp [State.modeChange]

@[simp] theorem State.droopStep_pins (s : State) : (State.droopStep s).pins = s.pins := by
  simp [State.droopStep]

@[simp] theorem State.droop_pins (s : State) : (State.droop s).pins = s.pins := by
  simp [State.droop]

@[simp] theorem State.trackTick_pins (s : State) (dt : Rat) : (State.trackTick s dt).pins = s.pins := by
  simp [State.trackTick]

@[simp] theorem State.holdTick_pins (s0 : State) (dt : Rat) : (State.holdTick s0 dt).pins = s0.pins := by
  simp [State.holdTick]

@[simp] theorem State.setRef_pins (s : State) (q : Rat) (dtNs : Nat) : (State.setRef s q dtNs).pins = s.pins := by
  simp [State.setRef]

@[simp] theorem State.linkRef_pins (s : State) (dtNs : Nat) : (State.linkRef s dtNs).pins = s.pins := by
  simp [State.linkRef]

@[simp] theorem State.calRampTick_pins (s : State) (dtNs : Nat) (dt : Rat) : (State.calRampTick s dtNs dt).pins = s.pins := by
  simp [State.calRampTick]

@[simp] theorem State.dispatchEval_pins (s : State) (now dtNs : Nat) (dt : Rat) : (State.dispatchEval s now dtNs dt).pins = s.pins := by
  simp [State.dispatchEval]

@[simp] theorem State.stopEval_pins (s : State) (now dtNs : Nat) (dt : Rat) : (State.stopEval s now dtNs dt).pins = s.pins := by
  simp [State.stopEval]

@[simp] theorem State.outerEval_pins (s : State) (now : Nat) (dtNs : Nat) : (State.outerEval s now dtNs).pins = s.pins := by
  unfold State.outerEval
  dsimp only
  repeat' split
  all_goals simp

@[simp] theorem State.tonesAt_pins (s0 : State) (now : Nat) : (State.tonesAt s0 now).pins = s0.pins := by
  simp [State.tonesAt]

@[simp] theorem State.isum_pins (s : State) : (State.isum s).pins = s.pins := by
  simp [State.isum]

end Sys2Proof.Machine

/-! The evaluations of the control engine (R274 to R284). -/

namespace Sys2Proof.Machine

/-! The outer tick. -/

/-- R283: the counts of deadlines missed. -/
def Ctl.misses (c : Ctl) : Bool × Nat × Nat := (c.ovrOut, c.missedDt, c.ovrCnt)

theorem State.applyOuter_misses (s : State) : s.applyOuter.ctl.misses = s.ctl.misses := by
  have put (t : State) (b : Bool) (k : Nat) : (if b then t.syncHostLim k else t).ctl.misses = t.ctl.misses := by
    split
    · rfl
    · rfl
  unfold State.applyOuter
  extract_lets touch put'
  exact (put _ _ _).trans (put _ _ _)

theorem State.missDeadline_misses (s : State) (now : Nat) :
    (s.missDeadline now).ctl.misses = (s.ctl.ovrOut, s.ctl.missedDt, incSat 16 s.ctl.ovrCnt) := by
  unfold State.missDeadline
  extract_lets times s1
  split
  · rw [State.logPost_ctl]
    rfl
  · rfl

theorem State.isum_misses (s : State) : s.isum.ctl.misses = s.ctl.misses := rfl


/-- The state with what an outer tick brings. -/
def State.outerAt (s : State) (m : OuterIn) : State :=
  { s with
    lmp := { s.lmp with time := m.now.toNat }
    pins := { s.pins with shunt := m.ish, vStr := m.vStr, vBus := m.vBus, vLink := m.vLink, vPre := m.vPre } }

/-- R283: the mark of a late tick, and its interval for the next. -/
def State.lateBy (s : State) (dt : Nat) : State := { s with ctl := { s.ctl with ovrOut := true, missedDt := s.ctl.missedDt + dt } }

/-- R283: a late tick misses its deadline and leaves its interval to the next. -/
theorem execOuterTick_late {s : State} {m : OuterIn} (h1 : s.sys.st ≠ .pilot) (h2 : s.prl.frozen = false) (h3 : m.late = true) :
    Completes (.outerTick m) s fun t => t.ctl.ovrOut = true ∧ t.ctl.missedDt = s.ctl.missedDt + m.dtNs ∧
      t.ctl.ovrCnt = incSat 16 s.ctl.ovrCnt ∧ t.sys = s.sys ∧ t.sag.latch = s.sag.latch ∧ t.csm = s.csm ∧ t.mbx = s.mbx := by
  have e : exec (.outerTick m) s = .next (((s.outerAt m).applyOuter.lateBy m.dtNs).missDeadline m.now.toNat).isum :=
    (if_neg (by simp [h1, h2]) : execOuterTick m s = _).trans (if_pos h3)
  have ha : (s.outerAt m).applyOuter.ctl.misses = s.ctl.misses := (s.outerAt m).applyOuter_misses
  obtain ⟨-, ha2, ha3⟩ : _ ∧ (s.outerAt m).applyOuter.ctl.missedDt = s.ctl.missedDt ∧ (s.outerAt m).applyOuter.ctl.ovrCnt = s.ctl.ovrCnt := by
    simpa only [Ctl.misses, Prod.mk.injEq] using ha
  have hm : (((s.outerAt m).applyOuter.lateBy m.dtNs).missDeadline m.now.toNat).isum.ctl.misses =
      (true, (s.outerAt m).applyOuter.ctl.missedDt + m.dtNs, incSat 16 (s.outerAt m).applyOuter.ctl.ovrCnt) :=
    (State.isum_misses _).trans (State.missDeadline_misses _ _)
  rw [ha2, ha3] at hm
  simp only [Ctl.misses, Prod.mk.injEq] at hm
  obtain ⟨h4, h5, h6⟩ := hm
  refine ⟨_, e, h4, h5, h6, ?_, ?_, ?_, ?_⟩ <;> simp [State.lateBy, State.outerAt]

/-- R283, R277: a tick in time runs the outer loop over its interval and the missed ones. -/
theorem execOuterTick_inTime {s : State} {m : OuterIn} (h1 : s.sys.st ≠ .pilot) (h2 : s.prl.frozen = false) (h3 : m.late = false) :
    Completes (.outerTick m) s fun t => t.ctl.missedDt = 0 ∧ t.lmp.time = m.now.toNat ∧ t.pins.shunt = m.ish ∧ t.sys = s.sys ∧
      t.sag.latch = s.sag.latch ∧ t.csm = s.csm ∧ t.mbx = s.mbx := by
  refine ⟨_, (if_neg (by simp [h1, h2]) : execOuterTick m s = _).trans (if_neg (by simp [h3])), rfl, ?_, ?_, ?_, ?_, ?_, ?_⟩ <;> simp

theorem State.dueOwner_of_none {s : State} (h1 : s.prl.heldB = none) (h2 : s.prl.takeDue = none) (now : Nat) : s.dueOwner now = s := by
  unfold State.dueOwner
  rw [h1]
  dsimp only
  rw [h2]

theorem State.loadAtBoundary_load (s : State) : s.loadAtBoundary.ctl.load = false := by
  unfold State.loadAtBoundary
  split
  · rfl
  · next h => simpa using h

theorem State.refBoundary_load (s : State) : s.refBoundary.ctl.load = s.ctl.load := by
  unfold State.refBoundary
  extract_lets s0 s1
  show s1.ctl.load = _
  show (if _ then _ else _ : State).ctl.load = _
  split
  · rfl
  · simp [s0]

/-! Points of a phase. -/

/-- R246: the currents that the phases hold. -/
def State.currents (s : State) : List Int := s.phm.ph.map Phase.iMa

theorem State.currents_nth (s : State) (p : Nat) : nth s.currents p 0 = (nth s.phm.ph p {}).iMa := nth_map Phase.iMa s.phm.ph p {}

theorem map_modify_of_keeps {α β : Type} (g : α → β) {f : α → α} (h : ∀ x, g (f x) = g x) (l : List α) (k : Nat) :
    (l.modify k f).map g = l.map g := by
  apply List.ext_getElem?
  intro i
  simp only [List.getElem?_map, List.getElem?_modify]
  split
  · cases l[i]? <;> simp [h]
  · cases l[i]? <;> rfl

theorem State.modPh_currents {s : State} {p : Nat} {f : Phase → Phase} (h : ∀ x, (f x).iMa = x.iMa) : (s.modPh p f).currents = s.currents :=
  map_modify_of_keeps Phase.iMa h _ _

theorem Phase.atValley_iMa (n : Nat) (x : Phase) : (x.atValley n).iMa = x.iMa := by
  unfold Phase.atValley Phase.moveCarrier
  dsimp only
  split <;> rfl

theorem State.brakeStep_currents (s : State) (p : Nat) (m : EvalIn) : (s.brakeStep p m).currents = s.currents := by
  unfold State.brakeStep
  extract_lets n k within cut s1
  have h : s1.currents = s.currents := by
    show (if _ then _ else _ : State).currents = _
    split
    · exact State.modPh_currents (fun _ => rfl)
    · exact State.modPh_currents (fun _ => rfl)
  exact h

theorem State.deStep_currents (s : State) (p : Nat) (m : EvalIn) : (s.deStep p m).currents = s.currents :=
  State.modPh_currents (fun _ => rfl)

theorem State.rampStep_currents (s : State) (p : Nat) (m : EvalIn) : (s.rampStep p m).currents = s.currents := by
  unfold State.rampStep
  extract_lets x pos pos1 z done s1
  have h : s1.currents = s.currents := State.modPh_currents (fun _ => rfl)
  split
  · exact h
  · exact h

theorem State.innerEval_currents (s : State) (p : Nat) (m : EvalIn) : (s.innerEval p m).currents = s.currents :=
  State.modPh_currents (fun _ => rfl)

theorem State.issue_currents (s : State) (p : Nat) (m : EvalIn) : (s.issue p m).currents = s.currents := by
  unfold State.issue
  extract_lets x spans leg
  split
  · exact State.modPh_currents (fun _ => rfl)
  · exact State.modPh_currents (fun _ => rfl)

/-- R276: what an update point does to the phase leaves the currents sampled. -/
theorem State.updatePoint_currents (s : State) (p : Nat) (m : EvalIn) : (s.updatePoint p m).currents = s.currents := by
  unfold State.updatePoint
  extract_lets x s1 s2
  have h1 : s1.currents = s.currents := by
    show (if _ then _ else _ : State).currents = _
    split
    · exact State.modPh_currents (Phase.atValley_iMa _)
    · rfl
  have h2 : s2.currents = s.currents := by
    show (if _ then _ else _ : State).currents = _
    split
    · exact (s1.deStep_currents p m).trans h1
    · exact h1
  split
  · rfl
  split
  · split
    · exact (s1.brakeStep_currents p m).trans h1
    · exact h1
  split
  · exact h2
  split
  · exact (s2.rampStep_currents p m).trans h2
  split
  · exact h2
  · exact (s2.innerEval_currents p m).trans h2

theorem State.observe_length (s : State) (p : Nat) (m : EvalIn) (ma : Int) : (s.observe p m ma).phm.ph.length = s.phm.ph.length := by
  unfold State.observe
  extract_lets x
  split
  · rfl
  · split
    · exact State.phaseFault_length _ _ _
    · rfl

/-- The state at the time of an evaluation. -/
def State.evalAt (s : State) (m : EvalIn) : State := { s with lmp := { s.lmp with time := m.now.toNat } }

/-- R276: the state once the sample of an update point has been stored. -/
def State.sampled (s : State) (p : Nat) (m : EvalIn) : State :=
  let sv := s.evalWrites p m
  let ma := sv.densMa p m.ones m.bits
  (((sv.observe p m ma).modPh p (fun y => { y with iMa := ma })).applyAt (.inner p)).applyAt (.inner 16)

/-- R276, R283: the update point goes on with the phase, on a late evaluation after it has been counted. -/
def State.evalGoesOn (s : State) (p : Nat) (m : EvalIn) : State :=
  if m.late then ({ s with ctl := { s.ctl with ovrPh := s.ctl.ovrPh.set p true } } : State).missDeadline m.now.toNat
  else s.tonesAt m.now.toNat

theorem execInnerEvaluation_idle {s : State} {m : EvalIn} (h : s.isUpdate m = false) (p : Fin 16) :
    exec (.innerEvaluation p m) s = .next (s.evalAt m) :=
  (if_pos (show (!s.isUpdate m) = true by rw [h]; rfl) : execInnerEvaluation p m s = _)

theorem execInnerEvaluation_held {s : State} {m : EvalIn} (h1 : s.isUpdate m = true) (h2 : s.held = true) (p : Fin 16) :
    exec (.innerEvaluation p m) s =
      .next (if m.valley && (nth s.phm.ph p.val {}).active then (s.evalAt m).heldPoint p m else s.evalAt m) :=
  (if_neg (show ¬ (!s.isUpdate m) = true by rw [h1]; decide) : execInnerEvaluation p m s = _).trans
    (if_pos (show (s.evalAt m).held = true from h2))

theorem execInnerEvaluation_pilot {s : State} {m : EvalIn} (h1 : s.isUpdate m = true) (h2 : s.held = false) (h3 : s.sys.st = .pilot) (p : Fin 16) :
    exec (.innerEvaluation p m) s = .next (s.evalAt m) :=
  (if_neg (show ¬ (!s.isUpdate m) = true by rw [h1]; decide) : execInnerEvaluation p m s = _).trans
    ((if_neg (show ¬ s.held = true by rw [h2]; decide)).trans (if_pos h3))

theorem execInnerEvaluation_point {s : State} {m : EvalIn} (h1 : s.isUpdate m = true) (h2 : s.held = false) (h3 : s.sys.st ≠ .pilot) (p : Fin 16) :
    exec (.innerEvaluation p m) s = .next ((((((s.evalAt m).sampled p m).evalGoesOn p m).updatePoint p m).issue p m).ceTap p m) := by
  refine (if_neg (show ¬ (!s.isUpdate m) = true by rw [h1]; decide) : execInnerEvaluation p m s = _).trans
    ((if_neg (show ¬ s.held = true by rw [h2]; decide)).trans ((if_neg h3).trans ?_))
  unfold State.evalGoesOn
  split
  · rfl
  · rfl

theorem State.evalGoesOn_phm (s : State) (p : Nat) (m : EvalIn) : (s.evalGoesOn p m).phm = s.phm := by
  unfold State.evalGoesOn
  split <;> simp

/-- R276: the time, the system block, the latch, the records and the mailboxes are left by an update point. -/
theorem State.evalGoesOn_keeps (s : State) (p : Nat) (m : EvalIn) : (s.evalGoesOn p m).lmp = s.lmp ∧ (s.evalGoesOn p m).sys = s.sys ∧
    (s.evalGoesOn p m).sag.latch = s.sag.latch ∧ (s.evalGoesOn p m).csm = s.csm ∧ (s.evalGoesOn p m).mbx = s.mbx := by
  unfold State.evalGoesOn
  split <;> simp

theorem State.evalWrites_keeps (s : State) (p : Nat) (m : EvalIn) : s.evalWrites p m = { s with dict := (s.evalWrites p m).dict } := by
  unfold State.evalWrites
  dsimp only
  split
  · rfl
  · rfl

theorem State.sampled_keeps (s : State) (p : Nat) (m : EvalIn) : (s.sampled p m).lmp = s.lmp ∧ (s.sampled p m).sys = s.sys ∧
    (s.sampled p m).sag.latch = s.sag.latch ∧ (s.sampled p m).csm = s.csm ∧ (s.sampled p m).mbx = s.mbx := by
  unfold State.sampled
  rw [s.evalWrites_keeps p m]
  simp

theorem State.sampled_iMa {s : State} {p : Nat} (m : EvalIn) (h : p < s.phm.ph.length) :
    (nth (s.sampled p m).phm.ph p {}).iMa = (s.evalWrites p m).densMa p m.ones m.bits := by
  have hl : p < ((s.evalWrites p m).observe p m ((s.evalWrites p m).densMa p m.ones m.bits)).phm.ph.length := by
    rw [State.observe_length, s.evalWrites_keeps p m]
    exact h
  exact congrArg Phase.iMa (State.modPh_self hl (fun y => { y with iMa := (s.evalWrites p m).densMa p m.ones m.bits }))

theorem State.evalAt_densMa (s : State) (p : Nat) (m : EvalIn) :
    ((s.evalAt m).evalWrites p m).densMa p m.ones m.bits = (s.evalWrites p m).densMa p m.ones m.bits := by
  have h : ((s.evalAt m).evalWrites p m).dict = (s.evalWrites p m).dict := by
    unfold State.evalWrites
    dsimp only
    split
    · rfl
    · rfl
  unfold State.densMa
  rw [State.par_congr h]

/-- R276: an update point ends with the sample stored, early or late. -/
theorem execInnerEvaluation_stores {s : State} {p : Fin 16} {m : EvalIn} (h1 : s.sys.st ≠ .pilot) (h2 : s.held = false)
    (h3 : s.isUpdate m = true) (h4 : s.phm.ph.length = 16) : Completes (.innerEvaluation p m) s fun t =>
      (nth t.phm.ph p.val {}).iMa = (s.evalWrites p.val m).densMa p.val m.ones m.bits ∧
        t.lmp.time = m.now.toNat ∧ t.sys = s.sys ∧ t.sag.latch = s.sag.latch ∧ t.csm = s.csm ∧ t.mbx = s.mbx := by
  obtain ⟨a1, a2, a3, a4, a5⟩ := (s.evalAt m).sampled_keeps p m
  obtain ⟨b1, b2, b3, b4, b5⟩ := ((s.evalAt m).sampled p m).evalGoesOn_keeps p m
  refine ⟨_, execInnerEvaluation_point h3 h2 h1 p, ?_, ?_, ?_, ?_, ?_, ?_⟩
  · rw [State.ceTap_phm, ← State.currents_nth, State.issue_currents, State.updatePoint_currents, State.currents_nth, State.evalGoesOn_phm,
      State.sampled_iMa (s := s.evalAt m) m (show p.val < s.phm.ph.length by rw [h4]; exact p.isLt), State.evalAt_densMa]
  · rw [State.ceTap_lmp, State.issue_lmp, State.updatePoint_lmp, b1, a1]
    rfl
  · rw [State.ceTap_sys, State.issue_sys, State.updatePoint_sys, b2, a2]
    rfl
  · rw [State.ceTap_sag, State.issue_sag, State.updatePoint_sag, b3, a3]
    rfl
  · rw [State.ceTap_csm, State.issue_csm, State.updatePoint_csm, b4, a4]
    rfl
  · rw [State.ceTap_mbx, State.issue_mbx, State.updatePoint_mbx, b5, a5]
    rfl

/-- Settles O26: each command by the conditions under which it acts, and what an update point leaves of a phase. -/
theorem evaluationsOfTheControlEngine : Obligations.EvaluationsOfTheControlEngine := by
  unfold Obligations.EvaluationsOfTheControlEngine
  intro s
  refine ⟨fun m h => if_pos (by simpa using h), fun m h1 h2 h3 => ?_, fun m h1 h2 h3 => ?_, fun p m h => ?_, fun p m h1 h2 h3 h4 => ?_,
    fun p m => execInnerEvaluation_stores, fun b => rfl, fun b h1 h2 => ?_, fun h hl => ?_, fun h => if_neg (by simp [h]), fun b h hl => ?_, fun b h => ?_⟩
  · exact execOuterTick_late h1 h2 h3
  · exact execOuterTick_inTime h1 h2 h3
  · by_cases hu : s.isUpdate m = true
    · rcases h with h | ⟨h1, h2⟩ | ⟨h1, h2⟩
      · rw [h] at hu
        cases hu
      · exact execInnerEvaluation_pilot hu h1 h2 p
      · refine (execInnerEvaluation_held hu h1 p).trans (congrArg Host.Outcome.next (if_neg ?_))
        rcases h2 with h2 | h2 <;> simp [h2]
    · exact execInnerEvaluation_idle (by simpa using hu) p
  · refine ⟨_, (execInnerEvaluation_held h1 h2 p).trans (congrArg Host.Outcome.next (if_pos (by simp [h3, h4]))), ?_⟩
    simp [State.evalAt]
  · refine ⟨_, rfl, ?_⟩
    rw [State.dueOwner_of_none (by simpa using h1) (by simpa using h2)]
    exact ⟨(State.refBoundary_load _).trans (State.loadAtBoundary_load _), by simp, by simp, by simp⟩
  · exact ⟨_, (if_pos h : execOverrunClear s = _), rfl, rfl, nth_set_self_false _ _⟩
  · refine ⟨_, congrArg Host.Outcome.next (if_pos (by simp [h])), rfl, ?_⟩
    show nth (s.sag.deg.set 3 b) 3 false = b
    simp [nth, hl]
  · exact congrArg Host.Outcome.next (if_neg (by simp [h]))

end Sys2Proof.Machine

/-! The events of the thermal manager (R292 to R310). -/

namespace Sys2Proof.Machine

theorem State.thmTake_only_thm (s : State) (k m : Nat) (x : ThmIn) : s.thmTake k m x = { s with thm := (s.thmTake k m x).thm } := by
  unfold State.thmTake
  split <;> rfl

theorem nth_indexed_map {α : Type} {l : List α} {p : Nat} (h : p < l.length) (f : Nat × α → α) (d : α) :
    nth ((indexed l).map f) p d = f (p, nth l p d) := by
  simp [nth, indexed, h]

/-- R308: a sequence as it was, but for what has been reported of it. -/
def Derate.core (d : Derate) : Nat × Nat × Nat := (d.st, d.enf, d.grace)

theorem Thm.seq_core_of_setSeq (s : State) (b : Bool) (d : Derate) : (((s.setSeq b d).thm).seq b) = d := by
  cases b <;> rfl

theorem State.derateMsg_core (s : State) (b : Bool) (k l : Nat) : ((s.derateMsg b k l).thm.seq b).core = (s.thm.seq b).core := by
  unfold State.derateMsg
  extract_lets d item dirn
  split
  · rfl
  · rw [Thm.seq_core_of_setSeq]
    rfl

theorem State.outDriven_of_idle {s : State} (h : s.sys.st = .pilot ∨ s.sys.st = .boot ∨ s.sys.st = .off ∨ s.sys.st = .selftest) (k : Nat) :
    s.outDriven k = none := by
  unfold State.outDriven
  rcases h with h | h | h | h <;> rw [h]

/-- R292: a sample of its own where no entry has covered the source. -/
theorem execThmSelfSample_due {s : State} {k : Fin 4} (x : ThmIn) (h1 : k.val ≠ 1) (h2 : s.up 11 = true)
    (h3 : 8192 ≤ 10 * nth s.thm.covered k.val 0) : exec (.thmSelfSample k x) s = .next (s.thmTake k.val 1 x) := by
  show execThmSelfSample k x s = _
  simp [execThmSelfSample, h1, h2, uncovered, h3]

theorem execThmSelfSample_phases {s : State} (x : ThmIn) (h1 : s.up 11 = true) (h2 : maskOf (s.thm.phCovered.map uncovered) ≠ 0) :
    exec (.thmSelfSample 1 x) s = .next (s.thmTake 1 (maskOf (s.thm.phCovered.map uncovered)) x) := by
  show execThmSelfSample 1 x s = _
  simp [execThmSelfSample, h1, h2]

theorem execThmSelfSample_none {s : State} {k : Fin 4} (x : ThmIn) (h : s.up 11 = false ∨ (k.val ≠ 1 ∧ 10 * nth s.thm.covered k.val 0 < 8192) ∨
    (k.val = 1 ∧ maskOf (s.thm.phCovered.map uncovered) = 0)) : exec (.thmSelfSample k x) s = .next s := by
  show execThmSelfSample k x s = _
  rcases h with h | ⟨h1, h2⟩ | ⟨h1, h2⟩
  · simp [execThmSelfSample, h]
  · simp [execThmSelfSample, h1, uncovered, Nat.not_le.mpr h2]
  · simp [execThmSelfSample, h1, h2]

/-- R309: the end of a grace enforces the request. -/
theorem execGraceExpiry_enforces {s : State} {b : Bool} (h1 : (s.thm.seq b).st = 1) (h2 : s.sys.st ≠ .pilot) (h3 : s.up 11 = true) :
    Completes (.graceExpiry b) s fun t =>
      (t.thm.seq b).st = 2 ∧ (t.thm.seq b).enf = (s.thm.seq b).req ∧ (t.thm.seq b).grace = 0 ∧ t.sag = s.sag := by
  refine ⟨_, (if_neg (by simp [h1, h2, h3]) : execGraceExpiry b s = _), ?_⟩
  have h := ((s.setSeq b { s.thm.seq b with st := 2, enf := (s.thm.seq b).req, grace := 0 }).derateLog b 3 (s.thm.seq b).req).derateMsg_core
    b 3 (s.thm.seq b).req
  rw [State.derateLog_thm, Thm.seq_core_of_setSeq] at h
  simp only [Derate.core, Prod.mk.injEq] at h
  obtain ⟨h4, h5, h6⟩ := h
  exact ⟨h4, h5, h6, by simp⟩

theorem execGraceExpiry_none {s : State} {b : Bool} (h : (s.thm.seq b).st ≠ 1 ∨ s.sys.st = .pilot ∨ s.up 11 = false) :
    exec (.graceExpiry b) s = .next s := by
  refine (if_pos ?_ : execGraceExpiry b s = _)
  rcases h with h | h | h <;> simp [h]

/-- R300: an input fault that is flagged or cleared. -/
theorem execCoolantIoFault_changes {s : State} {k : Fin 3} {i : Fin 4} {b : Bool} (h1 : s.ioBad k.val i.val = b)
    (h2 : s.thm.ioFlag k.val i.val = !b) (h3 : ¬ (k.val = 1 ∧ 2 ≤ i.val)) :
    Completes (.coolantIoFault k i b) s fun t => t.thm = s.thm.setIo k.val i.val b ∧ t.sag = s.sag := by
  refine ⟨_, (if_neg (by simpa [h1, h2] using h3) : execCoolantIoFault k i b s = _), ?_⟩
  cases b
  · exact ⟨rfl, rfl⟩
  · exact ⟨State.logPost_thm _ _ _ _ _, State.logPost_sag _ _ _ _ _⟩

theorem execCoolantIoFault_none {s : State} {k : Fin 3} {i : Fin 4} {b : Bool}
    (h : s.ioBad k.val i.val = !b ∨ s.thm.ioFlag k.val i.val = b ∨ (k.val = 1 ∧ 2 ≤ i.val)) : exec (.coolantIoFault k i b) s = .next s := by
  refine (if_pos ?_ : execCoolantIoFault k i b s = _)
  rcases h with h | h | ⟨h, h'⟩
  · simp [h]
  · simp [h]
  · simp [h, h']

/-- R310: a cross-check of a group judged by its cell, logged once an hour. -/
theorem execXchkDisagreement_counts {s : State} {g : Fin 384} (h : nth s.thm.src g.val 0 = 2) :
    Completes (.xchkDisagreement g) s fun t => t.thm.xchk = incSat 16 s.thm.xchk ∧ t.sag = s.sag ∧ ∃ x ∈ t.thm.xLogged, x.1 = g.val := by
  have e : execXchkDisagreement g s = _ := if_neg (not_not_intro h)
  by_cases hr : (s.thm.xLogged.filter (fun x => s.sys.clock - x.2 < 29491200)).any (fun x => x.1 == g.val) = true
  · obtain ⟨x, hx, hg⟩ := List.any_eq_true.mp hr
    exact ⟨_, e.trans (if_pos hr), rfl, rfl, x, (List.mem_filter.mp hx).1, by simpa using hg⟩
  · refine ⟨_, e.trans (if_neg hr), ?_, State.logPost_sag _ _ _ _ _, (g.val, s.sys.clock), ?_, rfl⟩
    · rw [State.logPost_thm]
    · rw [State.logPost_thm]
      exact List.mem_append_right _ (List.mem_singleton.mpr rfl)

/-- Settles O30: the commands of the thermal manager, one rule for each of their forms. -/
theorem thermalEventsAct : Obligations.ThermalEventsAct := by
  unfold Obligations.ThermalEventsAct
  intro s
  refine ⟨?_, ?_, ?_, ?_, ?_, ?_, ?_, ?_, ?_, ?_, ?_, ?_, ?_⟩
  · exact fun k x => execThmSelfSample_due x
  · exact fun x => execThmSelfSample_phases x
  · exact fun k x => execThmSelfSample_none x
  · exact fun k m x => ⟨s.thmTake_only_thm k m x, rfl, fun p hp => nth_indexed_map hp _ _⟩
  · intro h
    refine (if_neg (by simp [h]) : execThmOutputUpdate s = _).trans ?_
    simp only [List.map_map]
    rfl
  · exact fun h => (if_pos h : execThmOutputUpdate s = _)
  · exact fun k h => State.outDriven_of_idle h k
  · exact fun b => execGraceExpiry_enforces
  · exact fun b => execGraceExpiry_none
  · exact fun k i b => execCoolantIoFault_changes
  · exact fun k i b => execCoolantIoFault_none
  · exact fun g => execXchkDisagreement_counts
  · exact fun g h => (if_pos h : execXchkDisagreement g s = _)

end Sys2Proof.Machine

/-! The saggar's inputs and checks (R328 to R341, R354, R355). -/

namespace Sys2Proof.Machine

/-! What isolates. -/

theorem State.sagIsolate_of_live {s : State} (h : s.sagLive = true) (c : Nat) : s.sagIsolate c = s.isolate c := if_pos h

theorem State.sagIsolate_of_dead {s : State} (h : s.sagLive = false) (c : Nat) : s.sagIsolate c = s := if_neg (by simp [h])

theorem State.sagIsolate_isolatedAs {s : State} (h : s.sagLive = true) (c : Nat) : s.isolatedAs c (s.sagIsolate c) := by
  rw [State.sagIsolate_of_live h]
  exact State.isolate_isolatedAs s c

/-- R331: a saggar as an isolation with cause c leaves it, with its status as given. -/
def Sag.isolated (g : Sag) (c q : Nat) (d : List (Option StatusPdu)) : Sag :=
  { g with
    latch := true, cause := c, causes := [c], cleared := [], hardDiag := false, coil := [false, false, false, false],
    pullin := [false, false, false, false], want := [false, false, false, false], isolateOut := true, demandOut := true,
    degRun := false, degRunT := 0, statSeq := q, stat := d }

/-- R331: what of the saggar an isolation keeps. -/
theorem State.isolate_sag_keeps {α : Type} (f : Sag → α) (h1 : ∀ g c, f (Sag.addCause g c) = f g) (h2 : ∀ g c q d, f (Sag.isolated g c q d) = f g)
    (s : State) (c : Nat) : f (s.isolate c).sag = f s.sag := by
  cases h : s.sag.latch with
  | true =>
    rw [State.isolate_sag_of_latch_set h]
    exact h1 _ _
  | false =>
    obtain ⟨q, d, e⟩ := State.isolate_sag h c
    rw [e, State.dropped_sag]
    exact h2 s.sag c q d

theorem State.isolate_diagBad (s : State) (c : Nat) : (s.isolate c).sag.diagBad = s.sag.diagBad :=
  State.isolate_sag_keeps Sag.diagBad (fun _ _ => rfl) (fun _ _ _ _ => rfl) s c

theorem State.isolate_demandIn (s : State) (c : Nat) : (s.isolate c).sag.demandIn = s.sag.demandIn :=
  State.isolate_sag_keeps Sag.demandIn (fun _ _ => rfl) (fun _ _ _ _ => rfl) s c

theorem State.diag_mem (s : State) (k : Nat) : k ∈ (s.diag k true).sag.diagBad := List.mem_append_right _ (List.mem_singleton_self k)

theorem State.diag_clears (s : State) (k : Nat) : k ∉ (s.diag k false).sag.diagBad := by
  show k ∉ s.sag.diagBad.filter (· != k)
  simp

/-- R328: a failed diagnostic is recorded and isolates with 0x11. -/
theorem State.diagFail_isolatedAs {s : State} (h : s.sagLive = true) (k : Nat) :
    s.isolatedAs 0x11 (s.diagFail k) ∧ k ∈ (s.diagFail k).sag.diagBad := by
  have e : s.diagFail k = (s.diag k true).isolate 0x11 := if_pos h
  rw [e, State.isolate_diagBad]
  exact ⟨State.isolate_isolatedAs (s.diag k true) 0x11, s.diag_mem k⟩

theorem State.diagFail_of_dead {s : State} (h : s.sagLive = false) (k : Nat) : s.diagFail k = s := if_neg (by simp [h])

/-- R328: a fault that stays until the module is reset. -/
theorem State.diagHard_isolatedAs {s : State} (h : s.sagLive = true) : s.isolatedAs 0x11 s.diagHard ∧ s.diagHard.sag.hardDiag = true :=
  ⟨State.sagIsolate_isolatedAs h 0x11, rfl⟩

/-- R337: a path or a switch of it that fails isolates with 0x0F. -/
theorem State.coilTestFail_isolatedAs {s : State} (h : s.sagLive = true) (k : Nat) : s.isolatedAs 0x0F (s.coilTestFail k) :=
  State.sagIsolate_isolatedAs (s := { s with sag := { s.sag with tpFail := s.sag.tpFail.set k true, tpWait := s.sag.tpWait.set k true } }) h 0x0F

/-- R366: a message of the pair link whose CRC and kind are right is taken. -/
theorem State.pairRx_taken {s : State} {b : List Byte} {k : Nat} (h1 : s.linkUp = true) (h2 : pairCrcOk b = true) (h3 : leAt b 0 1 = k)
    (f : State → Out) : s.pairRx b k f = f s := by
  simp [State.pairRx, h1, h2, h3]

theorem State.pairRx_ignored {s : State} {b : List Byte} {k : Nat} (h : s.linkUp = false ∨ (pairCrcOk b = true ∧ leAt b 0 1 ≠ k)) (f : State → Out) :
    s.pairRx b k f = .next s := by
  rcases h with h | ⟨h1, h2⟩
  · simp [State.pairRx, h]
  · simp [State.pairRx, h1, h2]

theorem State.pairRx_bad {s : State} {b : List Byte} (h1 : s.linkUp = true) (h2 : pairCrcOk b = false) (k : Nat) (f : State → Out) :
    s.pairRx b k f = .next { s with prl := { s.prl with rxErr := incSat 16 s.prl.rxErr } } := by
  simp [State.pairRx, h1, h2]

/-- R337: the readback of a switch in its slot that is not skipped. -/
theorem execCoilTestSlot_judges {s : State} {w : Fin 8} {r : List (Bool × Bool)} {m : Bool} (h1 : s.sys.slot = coilSlot w.val s.prl.pos)
    (h2 : (nth s.sag.pullin (w.val / 2) false = false ∧ m = false) ∨ 5 ≤ nth s.sag.tpSkip w.val 0) :
    exec (.coilTestSlot w r m) s = .next (if readsOk (nth s.sag.coil (w.val / 2) false) r then
      { s with sag := { s.sag with tpSkip := s.sag.tpSkip.set w.val 0, tpFail := s.sag.tpFail.set w.val false, tpWait := s.sag.tpWait.set w.val false } }
      else ({ s with sag := { s.sag with tpSkip := s.sag.tpSkip.set w.val 0 } } : State).coilTestFail w.val) := by
  have e : exec (.coilTestSlot w r m) s = _ := (if_neg (not_not_intro h1) : execCoilTestSlot w r m s = _)
  refine (e.trans (if_neg ?_)).trans (apply_ite Host.Outcome.next _ _ _).symm
  rcases h2 with ⟨h2, h3⟩ | h2
  · simp [h2, h3]
  · simp [Nat.not_lt.mpr h2]

theorem execShuntCompare_apart {s : State} {own : Int} (h1 : 16000 < (own - s.pins.shunt).natAbs) : exec (.sagShuntCompare own) s =
    .next (if s.sag.shuntRun < 9 then { s with sag := { s.sag with shuntRun := s.sag.shuntRun + 1 } }
      else ({ s with sag := { s.sag with shuntRun := 10 } } : State).diagFail 3) := by
  show execSagShuntCompare own s = _
  unfold execSagShuntCompare
  rw [if_pos h1]
  split
  · next h => simp [show min 10 (s.sag.shuntRun + 1) = s.sag.shuntRun + 1 by omega, show s.sag.shuntRun + 1 ≠ 10 by omega]
  · next h => simp [show min 10 (s.sag.shuntRun + 1) = 10 by omega]

/-- R341: the end of a weld check is stored. -/
def State.weldEnds (s : State) (i : Nat) (bad : Bool) : State :=
  { s with sag := { s.sag with weld := s.sag.weld.set i bad, weldWait := s.sag.weldWait.set i bad } }

theorem execWeldCheck_some {s : State} {k : Fin 4} {v bad : Bool} (h : s.weldBad k.val v = some bad) : exec (.weldCheck k v) s =
    .next (if bad then (s.weldEnds (if v then 4 + k.val else k.val) bad).sagIsolate 0x0D else s.weldEnds (if v then 4 + k.val else k.val) bad) := by
  show execWeldCheck k v s = _
  unfold execWeldCheck
  rw [h]
  rfl

theorem execWeldCheck_none {s : State} {k : Fin 4} {v : Bool} (h : s.weldBad k.val v = none) : exec (.weldCheck k v) s = .next s := by
  show execWeldCheck k v s = _
  unfold execWeldCheck
  rw [h]

theorem execInterlockOpen_tested {s : State} (h1 : s.sagLive = true) (h2 : s.sag.ilkDone = true) :
    Completes .interlockOpen s fun t => s.isolatedAs 9 t ∧ t.pins.ilkClosed = false := by
  refine ⟨_, congrArg Host.Outcome.next (if_pos h2), ?_, ?_⟩
  · exact State.sagIsolate_isolatedAs (s := { s with pins := { s.pins with ilkClosed := false }, sag := { s.sag with ilkOpened := true } }) h1 9
  · rw [State.sagIsolate_pins]

theorem execIsolateLine_paired {s : State} (h1 : s.sagLive = true) (h2 : s.prl.mode = 1) :
    Completes (.isolateLine true) s fun t => s.isolatedAs 0x15 t ∧ t.pins.isolateIn = true := by
  refine ⟨_, congrArg Host.Outcome.next (if_pos (by simp [h2])), ?_, ?_⟩
  · exact State.sagIsolate_isolatedAs (s := { s with pins := { s.pins with isolateIn := true } }) h1 0x15
  · rw [State.sagIsolate_pins]

/-- R372: the partner's demand stands. -/
def State.demanded (s : State) : State := { s with sag := { s.sag with demandIn := true } }

theorem execIsolationDemandRx_some (b : List Byte) (s : State) :
    exec (.isolationDemandRx (some b)) s = s.pairRx b 4 (fun t => .next (t.demanded.sagIsolate 0x16)) := rfl

theorem execIsolationDemandRx_taken {s : State} {b : List Byte} (h1 : s.sagLive = true) (h2 : s.linkUp = true) (h3 : pairCrcOk b = true)
    (h4 : leAt b 0 1 = 4) : Completes (.isolationDemandRx (some b)) s fun t => s.isolatedAs 0x16 t ∧ t.sag.demandIn = true := by
  have hl : s.demanded.sagLive = true := h1
  refine ⟨_, (execIsolationDemandRx_some b s).trans (State.pairRx_taken h2 h3 h4 _), State.sagIsolate_isolatedAs hl 0x16, ?_⟩
  rw [State.sagIsolate_of_live hl, State.isolate_demandIn]
  rfl

theorem execX8StreamLost_lost {s : State} (h : s.sagLive = true) : Completes (.x8StreamLost true) s fun t =>
    s.isolatedAs 0x11 t ∧ 7 ∈ t.sag.diagBad ∧ (s.sys.st = .selftest → t.prl.refOk = false) := by
  refine ⟨_, rfl, ?_⟩
  obtain ⟨h1, h2⟩ := State.diagFail_isolatedAs h 7
  split
  · exact ⟨h1, h2, fun _ => rfl⟩
  · next hn => exact ⟨h1, h2, fun h => absurd h hn⟩

/-- Settles O33: each input by the isolation it ends in. -/
theorem saggarInputsIsolate : Obligations.SaggarInputsIsolate := by
  unfold Obligations.SaggarInputsIsolate
  intro s hl
  refine ⟨fun i h => ?_, fun i h h' => ?_, ?_, ?_, fun b => ?_, ?_, ?_, ?_, fun n => ?_, fun own h h' => ?_, ?_, ?_, fun k => ?_, fun w r m h h2 h3 => ?_,
    fun k h h2 h3 => ?_, fun k v h => ?_, fun k h h' => ?_⟩
  · exact ⟨_, congrArg Host.Outcome.next (if_pos h), State.sagIsolate_isolatedAs hl 5⟩
  · exact ⟨_, congrArg Host.Outcome.next ((if_neg (Int.not_lt.mpr h)).trans (if_pos h')), State.sagIsolate_isolatedAs hl 6⟩
  · exact execInterlockOpen_tested hl
  · exact execIsolateLine_paired hl
  · exact execIsolationDemandRx_taken hl
  · exact ⟨_, rfl, State.sagIsolate_isolatedAs hl 0x10, rfl⟩
  · exact ⟨_, rfl, State.diagFail_isolatedAs hl 0⟩
  · exact ⟨_, rfl, State.diagHard_isolatedAs hl⟩
  · exact ⟨_, rfl, State.diagHard_isolatedAs (s := { s with log := { s.log with eccCorr := addSat 16 s.log.eccCorr n } }) hl⟩
  · refine ⟨_, (execShuntCompare_apart h).trans (congrArg Host.Outcome.next (if_neg (Nat.not_lt.mpr h'))), ?_⟩
    exact State.diagFail_isolatedAs (s := { s with sag := { s.sag with shuntRun := 10 } }) hl 3
  · exact ⟨_, rfl, State.diagFail_isolatedAs hl 6⟩
  · exact execX8StreamLost_lost hl
  · exact ⟨_, rfl, State.coilTestFail_isolatedAs (s := { s with sag := s.sag.coilOff k.val }) hl _⟩
  · refine ⟨_, (execCoilTestSlot_judges h h2).trans (congrArg Host.Outcome.next (if_neg (by simp [h3]))), ?_⟩
    exact State.coilTestFail_isolatedAs (s := { s with sag := { s.sag with tpSkip := s.sag.tpSkip.set w.val 0 } }) hl _
  · exact ⟨_, congrArg Host.Outcome.next (if_pos (by simp [h, h2, h3])), State.sagIsolate_isolatedAs hl 0x0E⟩
  · exact ⟨_, execWeldCheck_some h, State.sagIsolate_isolatedAs (s := s.weldEnds _ true) hl 0x0D⟩
  · exact (if_neg (by simp [h, h'])).trans (if_pos rfl)

/-! What isolates nothing. -/

/-- R336: with the interlock open no path may be driven. -/
theorem State.coilService1_of_ilkOpen {s : State} (h : s.pins.ilkClosed = false) (k : Nat) :
    (s.coilService1 k).sag.coil = s.sag.coil.set k false ∧ (s.coilService1 k).sag.ilkOpened = s.sag.ilkOpened := by
  have hb (held : Bool) : s.coAllowed k held = false := by simp [State.coAllowed, h]
  unfold State.coilService1
  extract_lets on req
  rw [hb, Bool.and_false, if_neg Bool.false_ne_true]
  split
  · exact ⟨rfl, rfl⟩
  · next hon =>
    refine ⟨?_, rfl⟩
    have hk : nth s.sag.coil k false = false := by simpa [on] using hon
    apply List.ext_getElem?
    intro i
    rw [List.getElem?_set]
    split
    · next e =>
      subst e
      split
      · next hi => simpa [nth, hi] using hk
      · next hi => simp [List.getElem?_eq_none (Nat.not_lt.mp hi)]
    · rfl

theorem State.coilService_of_ilkOpen {s : State} (h : s.pins.ilkClosed = false) (hc : s.sag.coil.length = 4) :
    s.coilService.sag.coil = [false, false, false, false] ∧ s.coilService.sag.ilkOpened = s.sag.ilkOpened := by
  have all (l : List Nat) (t : State) (ht : t.pins.ilkClosed = false) :
      (l.foldl State.coilService1 t).sag.coil = l.foldl (fun c k => c.set k false) t.sag.coil ∧
      (l.foldl State.coilService1 t).sag.ilkOpened = t.sag.ilkOpened := by
    induction l generalizing t with
    | nil => exact ⟨rfl, rfl⟩
    | cons k l ih =>
      obtain ⟨h1, h2⟩ := State.coilService1_of_ilkOpen ht k
      obtain ⟨h3, h4⟩ := ih (t.coilService1 k) (by rw [State.coilService1_pins]; exact ht)
      exact ⟨h3.trans (by rw [h1]; rfl), h4.trans h2⟩
  obtain ⟨h1, h2⟩ := all [1, 0, 2, 3] s h
  refine ⟨h1.trans ?_, h2⟩
  generalize s.sag.coil = l at hc
  match l, hc with
  | [a, b, c, d], _ => rfl

theorem execInterlockOpen_untested {s : State} (h1 : s.sag.ilkDone = false) (h2 : s.sag.coil.length = 4) :
    Completes .interlockOpen s fun t => t.pins.ilkClosed = false ∧ t.sag.ilkOpened = true ∧ t.sag.coil = [false, false, false, false] ∧
      t.sag.latch = s.sag.latch := by
  refine ⟨_, congrArg Host.Outcome.next (if_neg (by simp [h1])), ?_⟩
  obtain ⟨h3, h4⟩ := State.coilService_of_ilkOpen
    (s := { s with pins := { s.pins with ilkClosed := false }, sag := { s.sag with ilkOpened := true } }) rfl h2
  exact ⟨by rw [State.coilService_pins], h4, h3, by rw [State.coilService_sag_latch]⟩

theorem execIlkTestPass_passes {s : State} (h1 : s.sag.ilkDone = false) (h2 : s.sag.ilkOpened = true ∨ s.pins.ilkClosed = false) :
    exec .ilkTestPass s =
      .next { s with pins := { s.pins with ilkClosed := true }, sag := { s.sag with ilkDone := true, ilkOpened := false } } := by
  refine (if_neg ?_ : execIlkTestPass s = _)
  rcases h2 with h2 | h2 <;> simp [h1, h2]

theorem execIlkTestPass_stores {s : State} (h : s.sag.ilkDone = true ∨ (s.sag.ilkOpened = false ∧ s.pins.ilkClosed = true)) :
    exec .ilkTestPass s = .next { s with pins := { s.pins with ilkClosed := true } } := by
  refine (if_pos ?_ : execIlkTestPass s = _)
  rcases h with h | ⟨h, h'⟩
  · simp [h]
  · simp [h, h']

theorem execShuntCompare_within {s : State} {own : Int} (h : (own - s.pins.shunt).natAbs ≤ 16000) :
    exec (.sagShuntCompare own) s = .next (({ s with sag := { s.sag with shuntRun := 0 } } : State).diag 3 false) := by
  show execSagShuntCompare own s = _
  unfold execSagShuntCompare
  rw [if_neg (Nat.not_lt.mpr h)]
  rfl

/-- R339: a path that has not closed in time is switched off with a record. -/
def State.closeFailed (s : State) (k : Nat) : State :=
  (({ s with sag := s.sag.coilOff k } : State).wantCo k false).logPost 1 0x0A03 3 [k]

theorem State.closeFailed_phm (s : State) (k : Nat) : (s.closeFailed k).phm = s.phm := State.logPost_phm _ _ _ _ _

theorem execCloseTimeout_late {s : State} {k : Fin 4} (h1 : nth s.sag.coil k.val false = true) (h2 : s.aux k.val = false) :
    exec (.closeTimeout k) s = if k.val = 3 ∧ (s.closeFailed k.val).phm.trk = .co3Req then
      .next (((s.closeFailed k.val).abandonTrk 7 3).attn 9 3 [1]) else .next (s.closeFailed k.val) :=
  (if_neg (by simp [h1, h2]) : execCloseTimeout k s = _)

/-- R262: an abandoned start asks for CO3 no more. -/
theorem State.coilService1_want (s : State) (k : Nat) : (s.coilService1 k).sag.want = s.sag.want := by
  unfold State.coilService1
  extract_lets on req
  split
  · split <;> rfl
  · split <;> rfl

theorem State.coilService_want (s : State) : s.coilService.sag.want = s.sag.want := by
  simp [State.coilService, State.coilService1_want]

theorem State.abandonTrk_want (s : State) (a b : Nat) : nth (s.abandonTrk a b).sag.want 3 false = false := by
  unfold State.abandonTrk
  rw [State.logPost_sag, State.coilService_want]
  exact nth_set_self_false _ 3

theorem execCloseTimeout_tracking {s : State} (h1 : nth s.sag.coil 3 false = true) (h2 : s.aux 3 = false) (h3 : s.phm.trk = .co3Req) :
    Completes (.closeTimeout 3) s fun t => t.phm.trk = .idle ∧ (∀ p ∈ t.phm.ph, p.gatesLow = true) ∧ nth t.sag.want 3 false = false := by
  refine ⟨_, (execCloseTimeout_late h1 h2).trans (if_pos ⟨rfl, by rw [State.closeFailed_phm]; exact h3⟩), ?_⟩
  dsimp only
  rw [State.attn_phm, State.abandonTrk_phm, State.attn_sag]
  exact ⟨rfl, Phase.idle_gatesLow _, State.abandonTrk_want _ 7 3⟩

theorem execContactorDropout_none {s : State} {k : Fin 4} (h : (nth s.sag.coil k.val false && !s.aux k.val && nth s.sag.seen k.val false) = false) :
    exec (.contactorDropout k) s = .next s := congrArg Host.Outcome.next (if_neg (by simp [h]))

theorem execCloseTimeout_none {s : State} {k : Fin 4} (h : nth s.sag.coil k.val false = false ∨ s.aux k.val = true) :
    exec (.closeTimeout k) s = .next s := by
  refine (if_pos ?_ : execCloseTimeout k s = _)
  rcases h with h | h <;> simp [h]

theorem execSagWindowOverrun_dead {s : State} (h : s.sagLive = false) :
    exec .sagWindowOverrun s = .next { s with sag := { s.sag with goodCycles := 0 } } := by
  show execSagWindowOverrun s = _
  unfold execSagWindowOverrun
  rw [State.sagIsolate_of_dead h]

theorem State.coilTestFail_of_dead {s : State} (h : s.sagLive = false) (k : Nat) : s.coilTestFail k =
    { s with sag := { s.sag with tpFail := s.sag.tpFail.set k true, tpWait := s.sag.tpWait.set k true } } :=
  State.sagIsolate_of_dead (s := { s with sag := { s.sag with tpFail := s.sag.tpFail.set k true, tpWait := s.sag.tpWait.set k true } }) h 0x0F

theorem execCoilPathOvercurrent_dead {s : State} (h : s.sagLive = false) (k : Fin 4) :
    Completes (.coilPathOvercurrent k) s fun t => t.sag.latch = s.sag.latch ∧ nth t.sag.coil k.val false = false :=
  ⟨_, congrArg Host.Outcome.next (State.coilTestFail_of_dead (s := { s with sag := s.sag.coilOff k.val }) h _), rfl, nth_set_self_false _ _⟩

/-- Settles O34: each input and check by what it stores. -/
theorem saggarChecksThatPass : Obligations.SaggarChecksThatPass := by
  unfold Obligations.SaggarChecksThatPass
  intro s
  refine ⟨fun i h h' => ?_, execInterlockOpen_untested, execIlkTestPass_passes, execIlkTestPass_stores, fun b h => ?_, rfl,
    fun b h => (execIsolationDemandRx_some b s).trans (State.pairRx_ignored h _),
    fun b h h' => (execIsolationDemandRx_some b s).trans (State.pairRx_bad h h' 4 _), rfl, fun n => rfl, fun own h => ?_, fun own h h' => ?_,
    ⟨rfl, rfl⟩, fun k => ⟨s.diag_clears k, rfl, rfl⟩, fun w r m h => ?_, fun w r m h h' h2 => ?_, fun w r m h h' h2 => ?_, fun k h h' h2 => ?_,
    execCloseTimeout_tracking, fun k h => ⟨execCloseTimeout_none h, execContactorDropout_none ?_⟩, fun k h => execContactorDropout_none ?_,
    fun k v h => ?_, fun k v h => ?_, fun k => rfl, fun h => ?_, fun h => ?_, rfl, fun k i h => ⟨?_, ?_, ?_, ?_, ?_, ?_⟩⟩
  · exact congrArg Host.Outcome.next ((if_neg (Int.not_lt.mpr h)).trans (if_neg (Int.not_lt.mpr h')))
  · refine congrArg Host.Outcome.next (if_neg ?_)
    rcases h with h | h <;> simp [h]
  · exact ⟨_, execShuntCompare_within h, rfl, State.diag_clears { s with sag := { s.sag with shuntRun := 0 } } 3, rfl⟩
  · exact (execShuntCompare_apart h).trans (congrArg Host.Outcome.next (if_pos h'))
  · exact (if_pos h : execCoilTestSlot w r m s = _)
  · refine ((if_neg (not_not_intro h)).trans (if_pos ?_) : execCoilTestSlot w r m s = _)
    rcases h' with h' | h' <;> simp [h', h2]
  · exact (execCoilTestSlot_judges h h').trans (congrArg Host.Outcome.next (if_pos h2))
  · exact (execCloseTimeout_late h h').trans (if_neg (by rw [State.closeFailed_phm]; exact h2))
  · rcases h with h | h <;> simp [h]
  · simp [h]
  · exact execWeldCheck_none h
  · exact execWeldCheck_some h
  · exact congrArg Host.Outcome.next (if_pos h)
  · exact congrArg Host.Outcome.next (if_neg (by simp [h]))
  · show execOvercurrent i s = _
    simp [execOvercurrent, State.sagIsolate_of_dead h]
  · show execContactorDropout k s = _
    simp [execContactorDropout, State.sagIsolate_of_dead h]
  · exact congrArg Host.Outcome.next (State.diagFail_of_dead h 0)
  · exact congrArg Host.Outcome.next (State.diagFail_of_dead h 6)
  · exact execSagWindowOverrun_dead h
  · exact execCoilPathOvercurrent_dead h k

end Sys2Proof.Machine

/-! The safety PDUs and the safety configuration (R345 to R356). -/

namespace Sys2Proof.Machine

/-! What reaches a port. -/

theorem State.datagram_ignored {s : State} {p : PortId} {h : Net} {n k : Nat}
    (g : s.up 9 = false ∨ s.reaches p h = false ∨ (h.discarded n = false ∧ h.dudp ≠ k)) (o : Out) : s.datagram p h n k o = .next s := by
  unfold State.datagram
  rcases g with g | g | ⟨g1, g2⟩
  · simp [g]
  · simp [g]
  · simp [g1, g2]

theorem State.datagram_discarded {s : State} {p : PortId} {h : Net} {n k : Nat} (h1 : s.up 9 = true) (h2 : s.reaches p h = true)
    (h3 : h.discarded n = true) (o : Out) : s.datagram p h n k o = .next (s.rxDropOne p) := by
  simp [State.datagram, h1, h2, h3]

theorem State.datagram_self {s : State} {p : PortId} {h : Net} {n k : Nat} (g : h.discarded n = false) :
    s.datagram p h n k (.next s) = .next s := by
  simp [State.datagram, g]

/-! What the parts of a safety PDU write. -/

theorem State.degNet_only_deg (s : State) : ∃ d, s.degNet = { s with sag := { s.sag with deg := d } } := by
  unfold State.degNet
  extract_lets n
  split
  · exact ⟨_, rfl⟩
  · split
    · exact ⟨_, rfl⟩
    · exact ⟨s.sag.deg, rfl⟩

/-- R345: what the dialog with the sender leaves alone: the isolation. -/
def Sag.isolation (g : Sag) : Bool × Nat × List Nat := (g.latch, g.cause, g.causes)

/-- R349: what the status leaves alone of the dialog. -/
def Sag.dialog (g : Sag) : Bool × Nat × PortId × Bool × List (Nat × Nat) × Nat :=
  (g.session, g.lastSeq, g.firstPort, g.pairOpen, g.dest, g.mismatch)

theorem State.isolate_dialog (s : State) (c : Nat) : (s.isolate c).sag.dialog = s.sag.dialog :=
  State.isolate_sag_keeps Sag.dialog (fun _ _ => rfl) (fun _ _ _ _ => rfl) s c

theorem State.sagIsolate_dialog (s : State) (c : Nat) : (s.sagIsolate c).sag.dialog = s.sag.dialog := by
  unfold State.sagIsolate
  split
  · exact State.isolate_dialog s c
  · rfl

theorem State.sendStatus_dialog (s : State) : s.sendStatus.sag.dialog = s.sag.dialog := by
  obtain ⟨q, d, e⟩ := s.sendStatus_sag
  rw [e]
  rfl

theorem State.sendStatus_isolation (s : State) : s.sendStatus.sag.isolation = s.sag.isolation := by
  obtain ⟨q, d, e⟩ := s.sendStatus_sag
  rw [e]
  rfl

/-- R350: the end of a pair, apart from its degraded bit. -/
def State.pairMissed (s : State) : State :=
  { s with sag := { s.sag with
      pairOpen := false, okRun := 0, missCnt := s.sag.missCnt.modify (1 - s.sag.firstPort.idx) (incSat 16),
      missRun := (List.range 2).map (fun i => if i = 1 - s.sag.firstPort.idx then nth s.sag.missRun (1 - s.sag.firstPort.idx) 0 + 1 else 0) } }

theorem State.pduMiss_closed {s : State} (h : s.sag.pairOpen = false) : s.pduMiss = s := if_pos (by simp [h])

theorem State.pduMiss_open {s : State} (h : s.sag.pairOpen = true) : ∃ d, s.pduMiss =
    { s.pairMissed with sag := { s.pairMissed.sag with deg := d } } := by
  obtain ⟨d, e⟩ := s.pairMissed.degNet_only_deg
  exact ⟨d, (if_neg (by simp [h]) : s.pduMiss = s.pairMissed.degNet).trans e⟩

theorem State.pduMiss_isolation (s : State) : s.pduMiss.sag.isolation = s.sag.isolation ∧ s.pduMiss.sagLive = s.sagLive := by
  cases h : s.sag.pairOpen with
  | false =>
    rw [State.pduMiss_closed h]
    exact ⟨rfl, rfl⟩
  | true =>
    obtain ⟨d, e⟩ := State.pduMiss_open h
    rw [e]
    exact ⟨rfl, rfl⟩

theorem State.isolatedAs_congr {s s' t t' : State} (hs : s'.sag.isolation = s.sag.isolation) (ht : t'.sag.isolation = t.sag.isolation) {c : Nat}
    (h : s'.isolatedAs c t') : s.isolatedAs c t := by
  simp only [Sag.isolation, Prod.mk.injEq] at hs ht
  obtain ⟨h1, h2, h3⟩ := hs
  obtain ⟨h4, h5, h6⟩ := ht
  obtain ⟨g1, g2, g3⟩ := h
  unfold State.isolatedAs
  rw [← h1, ← h2, ← h4, ← h5, ← h6]
  exact ⟨g1, g2, g3⟩

/-- R347: the dialog with the sender of a PDU that is acted on. -/
def Sag.heardFrom (g : Sag) (p : PortId) (b : List Byte) : Sag :=
  { g with session := true, lastSeq := leAt b 2 2, run := leAt b 10 2 == 0x5AA5, first := b, firstPort := p, pairOpen := true, netA := p == .a,
           netB := p == .b }

/-- R351: what a RUN clears, in a new session too. -/
def Sag.resumed (g : Sag) (run fresh : Bool) : Sag :=
  let g1 := if run then g.clears 0x0A else g
  if run && fresh then g1.clears 0x0B else g1

theorem Sag.resumed_keeps (g : Sag) (run fresh : Bool) : (g.resumed run fresh).isolation = g.isolation ∧ (g.resumed run fresh).dialog = g.dialog := by
  cases run
  · exact ⟨rfl, rfl⟩
  · cases fresh <;> exact ⟨rfl, rfl⟩

/-- R347, R351: the dialog once a PDU that is acted on has been taken, before its command is. -/
def State.pduTaken (s : State) (p : PortId) (b : List Byte) : State :=
  ({ s.pduMiss with sag := (s.pduMiss.sag.heardFrom p b).resumed (leAt b 10 2 == 0x5AA5) (!s.pduMiss.sag.session) } : State).degSession

theorem State.pduAct_eq (s : State) (p : PortId) (b : List Byte) :
    s.pduAct p b = (if leAt b 10 2 == 0x5AA5 then s.pduTaken p b else (s.pduTaken p b).sagIsolate 0x0A).sendStatus := rfl

theorem State.pduTaken_sag (s : State) (p : PortId) (b : List Byte) : (s.pduTaken p b).sag.isolation = s.sag.isolation ∧
    (s.pduTaken p b).sagLive = s.sagLive ∧
    (s.pduTaken p b).sag.dialog = (true, leAt b 2 2, p, true, s.pduMiss.sag.dest, s.pduMiss.sag.mismatch) := by
  obtain ⟨h1, h2⟩ := s.pduMiss_isolation
  obtain ⟨h3, h4⟩ := (s.pduMiss.sag.heardFrom p b).resumed_keeps (leAt b 10 2 == 0x5AA5) (!s.pduMiss.sag.session)
  exact ⟨h3.trans h1, h2, h4⟩

theorem State.pduAct_dialog (s : State) (p : PortId) (b : List Byte) :
    (s.pduAct p b).sag.dialog = (true, leAt b 2 2, p, true, s.pduMiss.sag.dest, s.pduMiss.sag.mismatch) := by
  rw [State.pduAct_eq, State.sendStatus_dialog]
  split
  · exact (s.pduTaken_sag p b).2.2
  · rw [State.sagIsolate_dialog]
    exact (s.pduTaken_sag p b).2.2

theorem State.pduAct_isolates {s : State} {p : PortId} {b : List Byte} (h : leAt b 10 2 ≠ 0x5AA5) (hl : s.sagLive = true) :
    s.isolatedAs 0x0A (s.pduAct p b) := by
  obtain ⟨h1, h2, -⟩ := s.pduTaken_sag p b
  rw [State.pduAct_eq, if_neg (by simpa using h)]
  exact State.isolatedAs_congr h1 (State.sendStatus_isolation _).symm (State.sagIsolate_isolatedAs (h2.trans hl) 0x0A)

theorem State.pduAct_runs {s : State} {p : PortId} {b : List Byte} (h : leAt b 10 2 = 0x5AA5) : (s.pduAct p b).sag.latch = s.sag.latch := by
  rw [State.pduAct_eq, if_pos (by simpa using h)]
  exact congrArg Prod.fst ((State.sendStatus_isolation _).trans (s.pduTaken_sag p b).1)

/-- R348: a dialog whose second copy equals the first. -/
def Sag.agreed (g : Sag) : Sag := { g with pairOpen := false, netA := true, netB := true, okRun := g.okRun + 1, missRun := [0, 0] }

theorem State.pduSecond_equal {s : State} {b : List Byte} (h : b = s.sag.first) : (s.pduSecond b).sag.pairOpen = false ∧
    (s.pduSecond b).sag.dest = s.sag.dest ∧ (s.pduSecond b).sag.netA = true ∧ (s.pduSecond b).sag.netB = true ∧
    (s.pduSecond b).sag.latch = s.sag.latch := by
  have e : s.pduSecond b = ({ s with sag := if s.sag.agreed.run then s.sag.agreed.clears 0x0C else s.sag.agreed } : State).degNet := if_pos h
  obtain ⟨d, e2⟩ := ({ s with sag := if s.sag.agreed.run then s.sag.agreed.clears 0x0C else s.sag.agreed } : State).degNet_only_deg
  rw [e, e2]
  cases s.sag.agreed.run <;> exact ⟨rfl, rfl, rfl, rfl, rfl⟩

theorem State.pduSecond_differs {s : State} {b : List Byte} (h : b ≠ s.sag.first) : (s.pduSecond b).sag.pairOpen = false ∧
    (s.pduSecond b).sag.dest = s.sag.dest ∧ (s.pduSecond b).sag.mismatch = incSat 16 s.sag.mismatch ∧
    (s.sagLive = true → s.isolatedAs 0x0C (s.pduSecond b)) := by
  have e : s.pduSecond b = _ := if_neg h
  have hd := congrArg (fun t : State => t.sag.dialog) e
  dsimp only at hd
  rw [State.sagIsolate_dialog] at hd
  simp only [Sag.dialog, Prod.mk.injEq] at hd
  obtain ⟨-, -, -, h1, h2, h3⟩ := hd
  refine ⟨h1, h2, h3, fun hl => ?_⟩
  rw [e]
  exact State.sagIsolate_isolatedAs
    (s := { s with sag := { s.sag with pairOpen := false, mismatch := incSat 16 s.sag.mismatch, okRun := 0, missRun := [0, 0] } }) hl 0x0C

/-! The PDUs themselves. -/

section
variable {s : State} {p : PortId} {b : List Byte} {h : Net}

/-- R345: a copy that lands at a powered saggar is checked. -/
theorem execSafetyPdu_lands (h1 : s.Lands p h b.length 48049) (h2 : nth s.sys.pd 1 false = true) :
    exec (.safetyPdu p b h) s = .next (s.pduCopy p b h) :=
  (State.datagram_lands _ h1).trans (congrArg Host.Outcome.next (if_pos h2))

theorem execSafetyPdu_ignored (g : s.up 9 = false ∨ s.reaches p h = false ∨
    (h.discarded b.length = false ∧ (h.dudp ≠ 48049 ∨ nth s.sys.pd 1 false = false))) : exec (.safetyPdu p b h) s = .next s := by
  rcases g with g | g | ⟨g1, g | g⟩
  · exact State.datagram_ignored (.inl g) _
  · exact State.datagram_ignored (.inr (.inl g)) _
  · exact State.datagram_ignored (.inr (.inr ⟨g1, g⟩)) _
  · refine Eq.trans ?_ (State.datagram_self (s := s) (p := p) (k := 48049) g1)
    exact congrArg (fun t => s.datagram p h b.length 48049 (.next t)) (if_neg (by simp [g]))

theorem State.pduCopy_bad {k : Nat} (hk : s.pduCheck b = some k) : s.pduCopy p b h = s.pduDrop p k := by
  unfold State.pduCopy
  rw [hk]

/-- R347, R348: what a copy that passes does. -/
theorem State.pduCopy_good (hk : s.pduCheck b = none) : s.pduCopy p b h =
    if !s.sag.session then (s.pduHeard p h).pduAct p b
    else if (leAt b 2 2 + 65536 - s.sag.lastSeq) % 65536 = 0 then
      (if s.sag.pairOpen && p != s.sag.firstPort then (s.pduHeard p h).pduSecond b else s.pduDrop p 4)
    else if (leAt b 2 2 + 65536 - s.sag.lastSeq) % 65536 ≤ 16 then (s.pduHeard p h).pduAct p b
    else s.pduDrop p 4 := by
  unfold State.pduCopy
  rw [hk]

theorem State.pduCopy_again (hk : s.pduCheck b = none) (h1 : s.sag.session = true) (h2 : leAt b 2 2 = s.sag.lastSeq) : s.pduCopy p b h =
    if s.sag.pairOpen && p != s.sag.firstPort then (s.pduHeard p h).pduSecond b else s.pduDrop p 4 := by
  rw [State.pduCopy_good hk, if_neg (by simp [h1]), if_pos (by rw [h2]; omega)]

theorem State.pduCopy_next (hk : s.pduCheck b = none) (h1 : 1 ≤ (leAt b 2 2 + 65536 - s.sag.lastSeq) % 65536)
    (h2 : (leAt b 2 2 + 65536 - s.sag.lastSeq) % 65536 ≤ 16) : s.pduCopy p b h = (s.pduHeard p h).pduAct p b := by
  rw [State.pduCopy_good hk, if_neg (Nat.one_le_iff_ne_zero.mp h1), if_pos h2, ite_self]

theorem State.pduCopy_far (hk : s.pduCheck b = none) (h1 : s.sag.session = true)
    (h2 : 16 < (leAt b 2 2 + 65536 - s.sag.lastSeq) % 65536) : s.pduCopy p b h = s.pduDrop p 4 := by
  rw [State.pduCopy_good hk, if_neg (by simp [h1]), if_neg (by omega), if_neg (Nat.not_le.mpr h2)]

/-- R348: the second copy of an open pair. -/
theorem execSafetyPdu_second (g : s.Lands p h b.length 48049) (g2 : nth s.sys.pd 1 false = true) (hk : s.pduCheck b = none)
    (h1 : s.sag.session = true) (h2 : leAt b 2 2 = s.sag.lastSeq) (h3 : s.sag.pairOpen = true) (h4 : p ≠ s.sag.firstPort) :
    Completes (.safetyPdu p b h) s fun t => t.sag.pairOpen = false ∧ t.sag.dest = s.sag.dest.set p.idx (h.addr, h.udp) ∧
      (b = s.sag.first → t.sag.netA = true ∧ t.sag.netB = true ∧ t.sag.latch = s.sag.latch) ∧
      (b ≠ s.sag.first → t.sag.mismatch = incSat 16 s.sag.mismatch ∧ (s.sagLive = true → s.isolatedAs 0x0C t)) := by
  have e := (execSafetyPdu_lands g g2).trans (congrArg Host.Outcome.next ((State.pduCopy_again hk h1 h2).trans (if_pos (by simp [h3, h4]))))
  refine ⟨_, e, ?_⟩
  by_cases hb : b = s.sag.first
  · obtain ⟨e1, e2, e3, e4, e5⟩ := State.pduSecond_equal (s := s.pduHeard p h) hb
    exact ⟨e1, e2, fun _ => ⟨e3, e4, e5⟩, fun hn => absurd hb hn⟩
  · obtain ⟨e1, e2, e3, e4⟩ := State.pduSecond_differs (s := s.pduHeard p h) hb
    exact ⟨e1, e2, fun hn => absurd hn hb, fun _ => ⟨e3, e4⟩⟩

/-- R351: the watchdog ends the session and isolates with 0x0B. -/
theorem execPduWatchdogExpiry_session (h1 : s.sag.session = true) :
    Completes .pduWatchdogExpiry s fun t => t.sag.session = false ∧ (s.sagLive = true → s.isolatedAs 0x0B t) := by
  refine ⟨_, (if_pos h1 : execPduWatchdogExpiry s = _), ?_, fun hl => ?_⟩
  · exact congrArg Prod.fst (State.sagIsolate_dialog (({ s with sag := { s.sag with session := false } } : State).degSession) 0x0B)
  · exact State.sagIsolate_isolatedAs (s := ({ s with sag := { s.sag with session := false } } : State).degSession) hl 0x0B

theorem execPduPairExpiry_open (h1 : s.sag.pairOpen = true) : Completes .pduPairExpiry s fun t => t.sag.pairOpen = false ∧ t.sag.okRun = 0 ∧
    t.sag.missCnt = s.sag.missCnt.modify (1 - s.sag.firstPort.idx) (incSat 16) ∧ t.sag.latch = s.sag.latch := by
  obtain ⟨d, e⟩ := State.pduMiss_open h1
  exact ⟨_, congrArg Host.Outcome.next e, rfl, rfl, rfl, rfl⟩

end

/-- Settles O35: the receive checks, then the copy by its SEQ, then the two expiries. -/
theorem safetyPdusAreCheckedAndActedOn : Obligations.SafetyPdusAreCheckedAndActedOn := by
  unfold Obligations.SafetyPdusAreCheckedAndActedOn
  intro s p b h
  refine ⟨execSafetyPdu_ignored, fun h1 h2 h3 => State.datagram_discarded h1 h2 h3 _, fun g => if_pos g, fun h1 h2 h3 h4 => if_neg ?_,
    fun k g g2 hk => ?_, fun g g2 hk hs => ?_, fun d g g2 hk hd h1 h2 => ?_, fun d g g2 hk hs hd h1 => ?_, fun g g2 hk hs he ho => ?_,
    execSafetyPdu_second, ?_, State.pduAct_isolates, State.pduAct_runs, fun k => rfl, fun h1 => ?_, execPduPairExpiry_open,
    execPduWatchdogExpiry_session, fun h1 => ?_⟩
  · rcases h4 with h4 | h4 <;> simp [h1, h2, h3, h4]
  · rw [execSafetyPdu_lands g g2, State.pduCopy_bad hk]
  · rw [execSafetyPdu_lands g g2, State.pduCopy_good hk, if_pos (by simp [hs])]
  · subst hd
    rw [execSafetyPdu_lands g g2, State.pduCopy_next hk h1 h2]
  · subst hd
    rw [execSafetyPdu_lands g g2, State.pduCopy_far hk hs h1]
  · rw [execSafetyPdu_lands g g2, State.pduCopy_again hk hs he, if_neg]
    rcases ho with ho | ho <;> simp [ho]
  · have hd := s.pduAct_dialog p b
    simp only [Sag.dialog, Prod.mk.injEq] at hd
    obtain ⟨h1, h2, h3, h4, -⟩ := hd
    exact ⟨h1, h2, h3, h4⟩
  · exact congrArg Host.Outcome.next (State.pduMiss_closed h1)
  · exact (if_neg (by simp [h1]) : execPduWatchdogExpiry s = _)

/-! The safety configuration. -/

/-- R355: of the saggar, an entry of the change log writes the log. -/
theorem State.clogAdd_only_clog (s : State) (k src i : Nat) (a b : Int) :
    ∃ e, s.clogAdd k src i a b =
      { s with sag := { s.sag with clog := (s.sag.clog ++ [e]).drop ((s.sag.clog ++ [e]).length - 1024) } } := ⟨_, rfl⟩

theorem State.clogAdd_length {s : State} (k src i : Nat) (a b : Int) (h : s.sag.clog.length ≤ 1024) :
    (s.clogAdd k src i a b).sag.clog.length ≤ 1024 := by
  obtain ⟨e, he⟩ := s.clogAdd_only_clog k src i a b
  rw [he]
  simp
  omega

theorem State.clogAdd_grows {s : State} (k src i : Nat) (a b : Int) (h : s.sag.clog.length < 1024) :
    (s.clogAdd k src i a b).sag.clog.length = s.sag.clog.length + 1 := by
  obtain ⟨e, he⟩ := s.clogAdd_only_clog k src i a b
  rw [he]
  simp
  omega

theorem State.clogAdd_sag_keeps {α : Type} (f : Sag → α) (hf : ∀ g l, f { g with clog := l } = f g) (s : State) (k src i : Nat) (a b : Int) :
    f (s.clogAdd k src i a b).sag = f s.sag := hf _ _

/-- R356: the entries that a commit adds. -/
def State.clogAll (s : State) (src : Nat) (l : List (Nat × Int × Int)) : State :=
  l.foldl (fun t x => t.clogAdd 1 src x.1 x.2.1 x.2.2) s

theorem State.clogAll_cons (s : State) (src : Nat) (x : Nat × Int × Int) (l : List (Nat × Int × Int)) :
    s.clogAll src (x :: l) = (s.clogAdd 1 src x.1 x.2.1 x.2.2).clogAll src l := by
  unfold State.clogAll
  rw [List.foldl_cons]

theorem State.clogAll_sag_keeps {α : Type} (f : Sag → α) (hf : ∀ g l, f { g with clog := l } = f g) (s : State) (src : Nat)
    (l : List (Nat × Int × Int)) : f (s.clogAll src l).sag = f s.sag := by
  induction l generalizing s with
  | nil => rfl
  | cons x l ih =>
    rw [State.clogAll_cons]
    exact (ih (s.clogAdd 1 src x.1 x.2.1 x.2.2)).trans (State.clogAdd_sag_keeps f hf _ _ _ _ _ _)

theorem State.clogAll_length {s : State} (src : Nat) {l : List (Nat × Int × Int)} (h : s.sag.clog.length + l.length ≤ 1024) :
    (s.clogAll src l).sag.clog.length = s.sag.clog.length + l.length := by
  induction l generalizing s with
  | nil => rfl
  | cons x l ih =>
    have hx := State.clogAdd_grows (s := s) 1 src x.1 x.2.1 x.2.2 (by simp at h; omega)
    rw [List.length_cons] at h ⊢
    rw [State.clogAll_cons]
    have hl := ih (s := s.clogAdd 1 src x.1 x.2.1 x.2.2) (by omega)
    rw [hx] at hl
    exact hl.trans (by omega)

/-- R356: the set in force after a commit, before its log. -/
def State.committed (s : State) : State :=
  { s with sag := { s.sag with
      cfg := s.stagedCfg, pmir := mirrorOf s.stagedCfg, staged := [], login := none, ilkDone := false, ilkOpened := false, cfgValid := true,
      slots := s.sag.slots.set (commitTarget s.sag.slots).1
        { valid := true, seq := (commitTarget s.sag.slots).2, data := Params.safety.zip s.stagedCfg } } }

theorem State.cfgCommit_sag (s : State) (src : Nat) : (s.cfgCommit src).sag = (s.committed.clogAll src s.cfgChanges).degSession.sag := by
  unfold State.cfgCommit
  extract_lets ch cfg t g s1 s2
  have h (t : State) (n : Nat) : (if 2 ≤ (t.nl n).st then t.queueLimits n else t).sag = t.sag := by
    split
    · exact t.queueLimits_sag n
    · rfl
  split
  · exact State.sag_foldl _ _ _ h
  · rfl

theorem State.cfgCommit_sag_keeps {α : Type} (f : Sag → α) (hf : ∀ g l, f { g with clog := l } = f g) (hd : ∀ g d, f { g with deg := d } = f g)
    (s : State) (src : Nat) : f (s.cfgCommit src).sag = f s.committed.sag := by
  rw [State.cfgCommit_sag]
  exact (hd _ _).trans (State.clogAll_sag_keeps f hf _ _ _)

/-- Settles O37: the commit as the set in force, the entries of the change log, and the check of the session. -/
theorem safetyConfigurationCommits : Obligations.SafetyConfigurationCommits := by
  unfold Obligations.SafetyConfigurationCommits
  intro s
  refine ⟨fun c i v h => ?_, fun c h => ?_, fun src => ⟨?_, ?_, ?_, ?_, ?_, ?_, State.cfgCommit_sag_latch s src, State.cfgCommit_sag_coil s src,
    State.cfgCommit_sys s src⟩, fun src h => ?_, fun k src i a b => State.clogAdd_length k src i a b⟩
  · unfold cfgBad
    rw [h]
  · unfold cfgBad
    rw [h]
  · exact State.cfgCommit_sag_keeps Sag.cfg (fun _ _ => rfl) (fun _ _ => rfl) s src
  · exact State.cfgCommit_sag_keeps Sag.pmir (fun _ _ => rfl) (fun _ _ => rfl) s src
  · exact State.cfgCommit_sag_keeps Sag.staged (fun _ _ => rfl) (fun _ _ => rfl) s src
  · exact State.cfgCommit_sag_keeps Sag.login (fun _ _ => rfl) (fun _ _ => rfl) s src
  · exact State.cfgCommit_sag_keeps Sag.ilkDone (fun _ _ => rfl) (fun _ _ => rfl) s src
  · exact State.cfgCommit_sag_keeps Sag.slots (fun _ _ => rfl) (fun _ _ => rfl) s src
  · rw [State.cfgCommit_sag]
    exact State.clogAll_length (s := s.committed) src h

end Sys2Proof.Machine

/-! The pair link and the switchover (R361 to R379). -/

namespace Sys2Proof.Machine

/-! What is sent. -/

theorem State.pairSend_linked {s : State} (h : s.linkUp = true) (k : Nat) (b : List Byte) :
    s.pairSend k b = { s with prl := { s.prl with out := pairBytes k (s.parN P.prlVerMax) b } } := if_pos h

/-- R365: a message only stands in the link's output. -/
theorem State.pairSend_only_out (s : State) (k : Nat) (b : List Byte) : ∃ o, s.pairSend k b = { s with prl := { s.prl with out := o } } := by
  unfold State.pairSend
  split
  · exact ⟨_, rfl⟩
  · exact ⟨s.prl.out, rfl⟩

theorem State.swapSend_only_out (s : State) (k b : Nat) : ∃ o, s.swapSend k b = { s with prl := { s.prl with out := o } } :=
  s.pairSend_only_out 3 _

/-! Heartbeats. -/

/-- R366: what a heartbeat says of the partner. -/
def Prl.heard (p : Prl) : Option Partner × Bool × Nat × Nat := (p.partner, p.partnerOk, p.hbRun, p.ver)

theorem State.clashCheck_heard (s : State) (h : Partner) (b : Bool) : (s.clashCheck h b).prl.heard = s.prl.heard := by
  unfold State.clashCheck
  extract_lets mine
  split
  · rfl
  · rw [State.pairFault_prl]
    rfl

/-- R366: the pair registers once a heartbeat of the partner has been taken. -/
def State.hbTaken (s : State) (h : Partner) : State :=
  { s with prl := { s.prl with
      partner := some h, partnerOk := true, hbRun := s.prl.hbRun + 1, ver := min (s.parN P.prlVerMax) h.ver, healthPart := h.health % 2 ^ 14
      pathsRel := s.prl.pathsRel && (s.sys.boWarn || decide (s.prl.hbRun + 1 < 10)), hbQuiet := 0 } }

theorem State.heartbeat_heard (s : State) (h : Partner) (b : Bool) :
    (s.heartbeat h b).prl.heard = (some h, true, s.prl.hbRun + 1, min (s.parN P.prlVerMax) h.ver) := by
  have e : ((s.hbTaken h).clashCheck h b).prl.heard = _ := (s.hbTaken h).clashCheck_heard h b
  refine Eq.trans ?_ e
  show (if ((s.hbTaken h).clashCheck h b).sys.st ≠ .pilot then _ else _ : State).prl.heard = _
  split
  · rfl
  · rw [State.coilService_prl]
    split <;> rfl

theorem execHeartbeatRx_taken {s : State} {b : List Byte} {h : Bool} (h1 : s.linkUp = true) (h2 : pairCrcOk b = true) (h3 : leAt b 0 1 = 1) :
    Completes (.heartbeatRx b h) s fun t => t.prl.partner = some (partnerOf b) ∧ t.prl.partnerOk = true ∧ t.prl.hbRun = s.prl.hbRun + 1 ∧
      t.prl.ver = min (s.parN P.prlVerMax) (leAt b 1 1) ∧ t.sag.latch = s.sag.latch ∧ t.sys = s.sys := by
  refine ⟨s.heartbeat (partnerOf b) h, (State.pairRx_taken h1 h2 h3 _ : execHeartbeatRx b h s = _), ?_⟩
  have e := s.heartbeat_heard (partnerOf b) h
  simp only [Prl.heard, Prod.mk.injEq] at e
  obtain ⟨e1, e2, e3, e4⟩ := e
  exact ⟨e1, e2, e3, e4, State.heartbeat_sag_latch _ _ _, State.heartbeat_sys _ _ _⟩

/-! The mirror. -/

/-- R364: the parts there are of a push once part b of it has come. -/
def State.partsWith (s : State) (b : List Byte) : List (Nat × List Byte) :=
  let old := if s.prl.parts.1 = leAt b 2 4 then s.prl.parts.2 else []
  if old.any (fun x => x.1 == leAt b 6 2) then old else (leAt b 6 2, (b.drop 10).take (b.length - 14)) :: old

theorem State.partsWith_first {s : State} {b : List Byte} (h : s.prl.parts.1 ≠ leAt b 2 4) :
    s.partsWith b = [(leAt b 6 2, (b.drop 10).take (b.length - 14))] := by
  simp [State.partsWith, h]

/-- R364: a part taken by a pilot. -/
theorem execMirrorPartRx_pilot {s : State} {b : List Byte} (now : BitVec 32) (m : Mirror)
    (h1 : s.linkUp = true) (h2 : pairCrcOk b = true) (h3 : leAt b 0 1 = 2) (h4 : s.sys.st = .pilot) :
    exec (.mirrorPartRx b now m) s =
      if (s.partsWith b).length < leAt b 8 2 then .next { s with prl := { s.prl with parts := (leAt b 2 4, s.partsWith b) } }
      else if !pushOk (partsData (s.partsWith b) (leAt b 8 2)) then .next { s with prl := { s.prl with parts := (leAt b 2 4, []) } }
      else .next (if s.prl.pilotReady then (s.adopt m (leAt b 2 4)).sendTake now.toNat else s.adopt m (leAt b 2 4)) :=
  (State.pairRx_taken h1 h2 h3 _ : execMirrorPartRx b now m s = _).trans (if_neg (not_not_intro h4))

theorem execMirrorPartRx_ignored {s : State} {b : List Byte} (now : BitVec 32) (m : Mirror) (h1 : s.linkUp = true) (h2 : pairCrcOk b = true)
    (h : leAt b 0 1 ≠ 2 ∨ s.sys.st ≠ .pilot) : exec (.mirrorPartRx b now m) s = .next s := by
  by_cases h3 : leAt b 0 1 = 2
  · exact (State.pairRx_taken h1 h2 h3 _ : execMirrorPartRx b now m s = _).trans (if_pos (h.resolve_left (not_not_intro h3)))
  · exact (State.pairRx_ignored (.inr ⟨h2, h3⟩) _ : execMirrorPartRx b now m s = _)

theorem partsData_single (d : List Byte) : partsData [(0, d)] 1 = d := by
  simp [partsData]

/-- R364: what a part of the mirror leaves of a pilot. -/
theorem execMirrorPartRx_keeps {s : State} {b : List Byte} (now : BitVec 32) (m : Mirror) (h1 : s.linkUp = true) (h2 : pairCrcOk b = true)
    (h3 : leAt b 0 1 = 2) (h4 : s.sys.st = .pilot) :
    Completes (.mirrorPartRx b now m) s fun t => t.sag = s.sag ∧ t.sys = s.sys ∧ t.est.qint = s.est.qint := by
  unfold Completes
  rw [execMirrorPartRx_pilot now m h1 h2 h3 h4]
  split
  · exact ⟨_, rfl, rfl, rfl, rfl⟩
  · split
    · exact ⟨_, rfl, rfl, rfl, rfl⟩
    · refine ⟨_, rfl, ?_⟩
      split
      · rw [State.sendTake_sag, State.sendTake_sys, State.sendTake_est]
        exact ⟨rfl, rfl, rfl⟩
      · exact ⟨rfl, rfl, rfl⟩

/-! The released paths, the demand and the reserve test. -/

theorem execPathsRelease_releases {s : State} (h1 : s.sys.st = .pilot) (h2 : s.prl.pathsRel = false) (h3 : s.prl.partnerOk = false)
    (h4 : s.pins.ownHigh = true) : Completes .pathsRelease s fun t =>
      t.prl.pathsRel = true ∧ t.sag.coil = [false, false, false, false] ∧ t.sag.latch = s.sag.latch := by
  refine ⟨_, (if_neg (by simp [h1, h2, h3, h4]) : execPathsRelease s = _), ?_⟩
  dsimp only
  rw [State.pairFault_prl, State.pairFault_sag]
  exact ⟨rfl, rfl, rfl⟩

theorem execPathsRelease_none {s : State} (h : s.sys.st ≠ .pilot ∨ s.prl.pathsRel = true ∨ s.prl.partnerOk = true ∨ s.pins.ownHigh = false) :
    exec .pathsRelease s = .next s := by
  refine (if_pos ?_ : execPathsRelease s = _)
  rcases h with h | h | h | h <;> simp [h]

theorem execIsolationDemandRepeat_none {s : State} (h : s.linkUp = false ∨ s.sag.latch = false) : exec .isolationDemandRepeat s = .next s := by
  refine congrArg Host.Outcome.next (if_neg ?_)
  rcases h with h | h <;> simp [h]

theorem State.swapRx_eq (s : State) (b : List Byte) (k : Nat) (f : State → Out) :
    s.swapRx b k f = s.pairRx b 3 (fun t => if leAt b 2 1 = k then f t else .next t) := rfl

/-- R365: the commands that are a payload of the pair link. -/
theorem exec_pairPayload {c : Instr} {b : List Byte} {h : Bool} {now : BitVec 32} {m : Mirror} (hc : c = .heartbeatRx b h ∨ c = .mirrorPartRx b now m ∨
    c = .switchoverReq b ∨ c = .switchoverReady b now ∨ c = .switchoverRefuse b ∨ c = .switchoverTake b ∨ c = .switchoverAbandon b) (s : State) :
    ∃ k f, exec c s = s.pairRx b k f := by
  rcases hc with rfl | rfl | rfl | rfl | rfl | rfl | rfl
  · exact ⟨1, _, (rfl : execHeartbeatRx b h s = _)⟩
  · exact ⟨2, _, (rfl : execMirrorPartRx b now m s = _)⟩
  · exact ⟨3, _, (State.swapRx_eq s b 1 _ : execSwitchoverReq b s = _)⟩
  · exact ⟨3, _, (State.swapRx_eq s b 2 _ : execSwitchoverReady b now s = _)⟩
  · exact ⟨3, _, (State.swapRx_eq s b 5 _ : execSwitchoverRefuse b s = _)⟩
  · exact ⟨3, _, (State.swapRx_eq s b 3 _ : execSwitchoverTake b s = _)⟩
  · exact ⟨3, _, (State.swapRx_eq s b 4 _ : execSwitchoverAbandon b s = _)⟩

theorem exec_pairPayload_unlinked {c : Instr} {b : List Byte} {h : Bool} {now : BitVec 32} {m : Mirror} {s : State} (h1 : s.linkUp = false)
    (hc : c = .heartbeatRx b h ∨ c = .mirrorPartRx b now m ∨ c = .switchoverReq b ∨ c = .switchoverReady b now ∨ c = .switchoverRefuse b ∨
      c = .switchoverTake b ∨ c = .switchoverAbandon b) : exec c s = .next s := by
  obtain ⟨k, f, e⟩ := exec_pairPayload hc s
  exact e.trans (State.pairRx_ignored (.inl h1) f)

theorem execReserveTest_none {s : State} (a b : Nat) (h : s.linkUp = false ∨ s.prl.ver = 1) : exec (.reserveTest a b) s = .next s := by
  refine congrArg Host.Outcome.next (if_neg ?_)
  rcases h with h | h <;> simp [h]

/-- R373: the own current within 9.2 to 9.8 mA, the partner's too, while the partner is heard. -/
theorem execReserveTest_runs {s : State} (a b : Nat) (h1 : s.linkUp = true) (h2 : s.prl.ver ≠ 1) : exec (.reserveTest a b) s =
    .next { s with prl := { s.prl with
      loopRes := decide (9200 ≤ a) && decide (a ≤ 9800) && (decide (9200 ≤ b) && decide (b ≤ 9800)) && s.prl.partnerOk, resLeft := 82
      regUa := if s.prl.pos = 0 then 9000 else s.prl.regUa } } := congrArg Host.Outcome.next (if_pos (by simp [h1, h2]))

/-! Messages of a switchover. -/

theorem State.swapRx_taken {s : State} {b : List Byte} {k : Nat} (h1 : s.linkUp = true) (h2 : pairCrcOk b = true) (h3 : leAt b 0 1 = 3)
    (h4 : leAt b 2 1 = k) (f : State → Out) : s.swapRx b k f = f s := (State.pairRx_taken h1 h2 h3 _).trans (if_pos h4)

theorem State.swapRx_ignored {s : State} {b : List Byte} {k : Nat} (h2 : pairCrcOk b = true) (h : leAt b 0 1 ≠ 3 ∨ leAt b 2 1 ≠ k)
    (f : State → Out) : s.swapRx b k f = .next s := by
  cases h1 : s.linkUp with
  | false => exact State.pairRx_ignored (.inl h1) _
  | true =>
    by_cases h3 : leAt b 0 1 = 3
    · exact (State.pairRx_taken h1 h2 h3 _).trans (if_neg (h.resolve_left (not_not_intro h3)))
    · exact State.pairRx_ignored (.inr ⟨h2, h3⟩) _

/-- R374: a message that the situation has no use for changes nothing. -/
theorem State.swapRx_idle {s : State} {b : List Byte} {k : Nat} {f : State → Out} (h2 : pairCrcOk b = true)
    (h : leAt b 0 1 ≠ 3 ∨ leAt b 2 1 ≠ k ∨ f s = .next s) : s.swapRx b k f = .next s := by
  by_cases hm : leAt b 0 1 ≠ 3 ∨ leAt b 2 1 ≠ k
  · exact State.swapRx_ignored h2 hm f
  · obtain ⟨h3, h4⟩ := not_or.mp hm
    cases h1 : s.linkUp with
    | false => exact State.pairRx_ignored (.inl h1) _
    | true =>
      refine (State.swapRx_taken h1 h2 (Classical.not_not.mp h3) (Classical.not_not.mp h4) f).trans ?_
      exact (h.resolve_left h3).resolve_left h4

/-- Settles O38: each message and check of the pair link by what it stores. -/
theorem pairLinkKeepsThePartner : Obligations.PairLinkKeepsThePartner := by
  unfold Obligations.PairLinkKeepsThePartner
  intro s
  refine ⟨fun h => ?_, fun b h => execHeartbeatRx_taken, fun h => congrArg Host.Outcome.next (if_pos h), fun c b h now m h1 h2 hc => ?_,
    fun b h now m h1 h2 => ⟨fun h3 => (State.pairRx_ignored (.inr ⟨h2, h3⟩) _ : execHeartbeatRx b h s = _), execMirrorPartRx_ignored now m h1 h2⟩,
    fun c b h now m x y h1 hc => ?_, fun b now m h1 h2 h3 h4 h5 h6 => ?_, fun b now m h1 h2 h3 h4 h5 h6 h7 => ?_,
    fun b now m => execMirrorPartRx_keeps now m, fun m q => ⟨rfl, rfl, rfl, rfl, rfl, rfl, rfl, rfl, rfl, rfl, rfl⟩,
    execPathsRelease_releases, execPathsRelease_none, fun h1 h2 => ?_, fun h => execIsolationDemandRepeat_none (.inr h),
    fun a b => execReserveTest_runs a b, fun a b h => execReserveTest_none a b (.inr h), fun b => rfl⟩
  · refine ⟨_, congrArg Host.Outcome.next (if_pos h), ?_⟩
    dsimp only
    rw [State.pairSend_linked (s := { s with prl := { s.prl with hbSeq := (s.prl.hbSeq + 1) % 65536 } }) h]
    exact ⟨rfl, rfl⟩
  · obtain ⟨k, f, e⟩ := exec_pairPayload hc s
    exact e.trans (State.pairRx_bad h1 h2 k f)
  · rcases hc with rfl | hc | rfl | hc | rfl | rfl | hc
    · exact congrArg Host.Outcome.next (if_neg (by simp [h1]))
    · exact exec_pairPayload_unlinked (now := now) (m := m) h1 (.inl hc)
    · exact congrArg Host.Outcome.next (if_neg (by simp [h1]))
    · exact exec_pairPayload_unlinked (h := h) h1 (.inr (.inl hc))
    · exact execIsolationDemandRepeat_none (.inl h1)
    · exact execReserveTest_none x y (.inl h1)
    · exact exec_pairPayload_unlinked (h := h) (m := m) h1 (.inr (.inr hc))
  · rw [execMirrorPartRx_pilot now m h1 h2 h3 h4, State.partsWith_first h5]
    exact if_pos h6
  · rw [execMirrorPartRx_pilot now m h1 h2 h3 h4, State.partsWith_first h5, h6, h7]
    refine (if_neg (Nat.lt_irrefl 1)).trans ?_
    rw [partsData_single]
    cases pushOk ((b.drop 10).take (b.length - 14)) <;> rfl
  · refine ⟨_, congrArg Host.Outcome.next (if_pos (by simp [h1, h2])), ?_⟩
    dsimp only
    rw [State.pairSend_linked (s := { s with sag := { s.sag with demandOut := true } }) h1]
    exact ⟨rfl, rfl⟩

/-! The steps of a switchover. -/

theorem State.sendReady_sets (s : State) : s.sendReady.prl.swap = .ready ∧ s.sendReady.prl.pilotReady = true ∧
    s.sendReady = { s with prl := s.sendReady.prl } := by
  obtain ⟨o, e⟩ := ({ s with prl := { s.prl with swap := .ready, pilotReady := true } } : State).swapSend_only_out 2 0
  have e' : s.sendReady = _ := e
  rw [e']
  exact ⟨rfl, rfl, rfl⟩

theorem execSwitchoverReady_freezes {s : State} {b : List Byte} {now : BitVec 32} (h1 : s.linkUp = true) (h2 : pairCrcOk b = true)
    (h3 : leAt b 0 1 = 3) (h4 : leAt b 2 1 = 2) (h5 : s.prl.swap = .requested) (h6 : s.prl.owner = true) :
    Completes (.switchoverReady b now) s fun t => t.prl.swap = .frozen ∧ t.prl.frozen = true ∧ t.prl.mirrorSeq = inc32 s.prl.mirrorSeq ∧
      t.prl.frozenAt = now.toNat := by
  have key (t1 : State) (ht : t1.prl = s.prl) (hl : t1.linkUp = true) :
      let t := ({ t1 with prl := { t1.prl with swap := .frozen, frozen := true, frozenAt := now.toNat } } : State).push 1
      t.prl.swap = .frozen ∧ t.prl.frozen = true ∧ t.prl.mirrorSeq = inc32 s.prl.mirrorSeq ∧ t.prl.frozenAt = now.toNat := by
    have e : ({ t1 with prl := { t1.prl with swap := .frozen, frozen := true, frozenAt := now.toNat } } : State).push 1 = _ :=
      if_pos ⟨hl, .inl (ht ▸ h6)⟩
    rw [e, ← ht]
    exact ⟨rfl, rfl, rfl, rfl⟩
  refine ⟨_, (State.swapRx_taken h1 h2 h3 h4 _ : execSwitchoverReady b now s = _).trans (if_neg (not_not_intro h5)), key _ ?_ ?_⟩
  · split
    · exact State.abandonTrk_prl _ _ _
    · rfl
  · split
    · unfold State.linkUp State.up
      rw [State.abandonTrk_prl, State.abandonTrk_sys]
      exact h1
    · exact h1

theorem State.swapFailed_of_calm {s : State} (h : s.sys.boPhase ≠ .warned) : s.swapFailed = s := if_neg h

theorem execSwitchoverRefuse_refuses {s : State} {b : List Byte} (h1 : s.linkUp = true) (h2 : pairCrcOk b = true) (h3 : leAt b 0 1 = 3)
    (h4 : leAt b 2 1 = 5) (h5 : s.prl.swap = .requested) :
    Completes (.switchoverRefuse b) s fun t => t.prl.swap = .refused ∧ t.prl.owner = s.prl.owner ∧
      (s.sys.boPhase ≠ .warned → t = { s with prl := { s.prl with swap := .refused } }) := by
  refine ⟨_, (State.swapRx_taken h1 h2 h3 h4 _ : execSwitchoverRefuse b s = _).trans (if_neg (not_not_intro h5)), ?_, ?_, fun h => ?_⟩
  · rw [State.swapFailed_prl]
  · rw [State.swapFailed_prl]
  · exact State.swapFailed_of_calm (s := { s with prl := { s.prl with swap := .refused } }) h

theorem execSwitchoverTimeout_abandons {s : State} (h : s.prl.swap = .frozen) :
    Completes .switchoverTimeout s fun t => t.prl.swap = .abandoned ∧ t.prl.frozen = false ∧ t.prl.owner = s.prl.owner := by
  refine ⟨_, (if_neg (not_not_intro h) : execSwitchoverTimeout s = _), ?_⟩
  dsimp only
  rw [State.swapFailed_prl, State.logPost_prl]
  obtain ⟨o, e⟩ := ({ s with prl := { s.prl with swap := .abandoned, frozen := false } } : State).swapSend_only_out 4 0
  rw [e]
  exact ⟨rfl, rfl, rfl⟩

theorem execHandoverAckTimeout_abandons {s : State} (h : s.prl.swap = .requested) :
    Completes .handoverAckTimeout s fun t => t.prl.swap = .abandoned ∧ t.prl.owner = s.prl.owner := by
  refine ⟨_, (if_neg (not_not_intro h) : execHandoverAckTimeout s = _), ?_⟩
  dsimp only
  rw [State.swapFailed_prl, State.logPost_prl]
  exact ⟨rfl, rfl⟩

/-! Ownership passes. -/

theorem State.pointOver_only_prb (s : State) (k : Nat) (a : PointAcc) : ∃ p, s.pointOver k a = { s with prb := p } := by
  unfold State.pointOver
  split
  · split <;> exact ⟨_, rfl⟩
  · split
    · exact ⟨_, rfl⟩
    · exact ⟨s.prb, rfl⟩

theorem State.foldl_only_prb {α : Type} {f : State → α → State} (hf : ∀ t x, ∃ p, f t x = { t with prb := p }) (l : List α) (s : State) :
    ∃ p, l.foldl f s = { s with prb := p } := by
  induction l generalizing s with
  | nil => exact ⟨s.prb, rfl⟩
  | cons x l ih =>
    obtain ⟨p, hp⟩ := hf s x
    obtain ⟨q, hq⟩ := ih (f s x)
    exact ⟨q, by rw [List.foldl_cons, hq, hp]⟩

theorem State.modTone_only_prb {t u : State} (hu : ∃ q, u = { t with prb := q }) (k : Nat) (f : Tone → Tone) :
    ∃ q, u.modTone k f = { t with prb := q } := by
  obtain ⟨q, rfl⟩ := hu
  exact ⟨_, rfl⟩

/-- R376: the probe starts afresh, and nothing else changes. -/
theorem State.probeRestart_only_prb (s : State) : ∃ p, s.probeRestart = { s with prb := p } := by
  unfold State.probeRestart
  extract_lets s1
  have h : ∃ p, s1 = { s with prb := p } := by
    refine State.foldl_only_prb (fun t k => ?_) _ s
    have h1 : ∃ p, (match (t.tone k).ready with | some r => t.pointOver k { r with why := 7 } | none => t) = { t with prb := p } := by
      split
      · exact t.pointOver_only_prb _ _
      · exact ⟨t.prb, rfl⟩
    obtain ⟨p, hp⟩ := h1
    have h2 (u : State) (hu : ∃ q, u = { t with prb := q }) :
        ∃ q, (if (t.tone k).acc.on then u.pointOver k { (t.tone k).acc with why := 7 } else u) = { t with prb := q } := by
      obtain ⟨q, rfl⟩ := hu
      split
      · exact ({ t with prb := q } : State).pointOver_only_prb _ _
      · exact ⟨q, rfl⟩
    exact State.modTone_only_prb (h2 _ ⟨p, hp⟩) k _
  obtain ⟨p, hp⟩ := h
  exact ⟨_, by rw [hp]⟩

/-- R375: an owner that hands over, before its gate lines go low. -/
def State.handed (s : State) (now : Nat) : State :=
  { s with
    prl := { s.prl with
      owner := false, frozen := false, swap := .done, pathsRel := s.prl.pathsRel || s.sys.boWarn, lastGap := (diffT now s.prl.frozenAt).toNat
      swapCnt := incSat 16 s.prl.swapCnt, forwardAt := some s.sys.clock }
    phm := { s.phm with owned := List.replicate 4 false, enHigh := false, trk := .idle }
    fsq := { s.fsq with asOwner := true } }

theorem State.handOver_eq (s : State) (now : Nat) : s.handOver now =
    ((s.handed now).gatesLow.probeRestart.logPost 4 0x0B02 1 (le4 (diffT now s.prl.frozenAt).toNat)).post .ownLost := rfl

theorem State.post_sets (s : State) (e : Ev) : (s.post e).prl = s.prl ∧ (s.post e).phm = s.phm ∧ e ∈ (s.post e).sys.events :=
  ⟨rfl, rfl, List.mem_append_right _ (List.mem_singleton.mpr rfl)⟩

/-- R375: what an owner that hands over leaves. -/
theorem State.handOver_sets (s : State) (now : Nat) : (s.handOver now).prl.owner = false ∧ (s.handOver now).prl.swap = .done ∧
    (s.handOver now).phm.enHigh = false ∧ (s.handOver now).phm.owned = [false, false, false, false] ∧
    (∀ p ∈ (s.handOver now).phm.ph, p.gatesLow = true) ∧ Ev.ownLost ∈ (s.handOver now).sys.events ∧
    (s.handOver now).prl.swapCnt = incSat 16 s.prl.swapCnt := by
  obtain ⟨p, e⟩ := (s.handed now).gatesLow.probeRestart_only_prb
  rw [State.handOver_eq, e]
  obtain ⟨h1, h2, h3⟩ := (({ (s.handed now).gatesLow with prb := p } : State).logPost 4 0x0B02 1 (le4 (diffT now s.prl.frozenAt).toNat)).post_sets .ownLost
  rw [h1, h2, State.logPost_prl, State.logPost_phm]
  exact ⟨rfl, rfl, rfl, rfl, Phase.idle_gatesLow _, h3, rfl⟩

theorem State.newOwner_sets (s : State) (kind : Nat) : (s.newOwner kind).prl = { s.prl with takeKind := kind } ∧ (s.newOwner kind).phm = s.phm ∧
    (s.newOwner kind).fnl.epoch = inc32 s.fnl.epoch ∧ (s.newOwner kind).sys = s.sys := by
  obtain ⟨p, e⟩ := s.probeRestart_only_prb
  unfold State.newOwner
  rw [e]
  exact ⟨rfl, rfl, rfl, rfl⟩

theorem State.takeOver_sets (s : State) (m : Mirror) (kind gap : Nat) :
    (s.takeOver m kind gap).prl = { s.takeHarness.prl with takeKind := kind, swap := .done, lastGap := gap } ∧
    (s.takeOver m kind gap).phm.owned = [true, true, true, true] ∧ (s.takeOver m kind gap).fnl.epoch = inc32 s.fnl.epoch ∧
    Ev.ownGained m.entry m.originDisp ∈ (s.takeOver m kind gap).sys.events := by
  obtain ⟨h1, h2, h3, -⟩ := ((s.takeHarness).fromCopy m).newOwner_sets kind
  refine ⟨?_, ?_, ?_, List.mem_append_right _ (List.mem_singleton.mpr rfl)⟩
  · exact congrArg (fun p : Prl => { p with swap := .done, lastGap := gap }) h1
  · exact congrArg Phm.owned h2
  · exact h3

theorem execHandoverBoundary_passes {s : State} {x g : BitVec 32} (h1 : s.prl.swap = .takeSent) (h2 : s.phm.brake = false) :
    exec (.handoverBoundary x g) s = .next (s.passOwner x.toNat g.toNat) :=
  (if_neg (not_not_intro h1) : execHandoverBoundary x g s = _).trans (if_neg (by simp [h2]))

theorem State.passOwner_owner {s : State} (h : s.prl.owner = true) (x g : Nat) :
    s.passOwner x g = ({ s with prl := { s.prl with heldB := none } } : State).handOver x := if_pos h

theorem State.passOwner_pilot {s : State} {m : Mirror} (h : s.prl.owner = false) (hm : s.prl.copy = some m) (x g : Nat) :
    s.passOwner x g = (({ s with prl := { s.prl with heldB := none } } : State).takeOver m 1 g).logPost 4 0x0B02 1 (le4 g) := by
  unfold State.passOwner
  dsimp only
  rw [if_neg (by simp [h]), hm]

theorem State.passOwner_blank {s : State} (h : s.prl.owner = false) (hm : s.prl.copy = none) (x g : Nat) :
    s.passOwner x g = { s with prl := { s.prl with heldB := none } } := by
  unfold State.passOwner
  dsimp only
  rw [if_neg (by simp [h]), hm]

theorem execHandoverBoundary_owner {s : State} {x g : BitVec 32} (h1 : s.prl.swap = .takeSent) (h2 : s.phm.brake = false) (h3 : s.prl.owner = true) :
    Completes (.handoverBoundary x g) s fun t => t.prl.owner = false ∧ t.prl.swap = .done ∧ t.phm.enHigh = false ∧
      t.phm.owned = [false, false, false, false] ∧ t.sag = s.sag ∧ (∀ p ∈ t.phm.ph, p.gatesLow = true) ∧ Ev.ownLost ∈ t.sys.events ∧
      t.prl.swapCnt = incSat 16 s.prl.swapCnt := by
  obtain ⟨e1, e2, e3, e4, e5, e6, e7⟩ := ({ s with prl := { s.prl with heldB := none } } : State).handOver_sets x.toNat
  have e8 := ({ s with prl := { s.prl with heldB := none } } : State).handOver_sag x.toNat
  have e := (execHandoverBoundary_passes (g := g) h1 h2).trans (congrArg Host.Outcome.next (State.passOwner_owner h3 x.toNat g.toNat))
  generalize ({ s with prl := { s.prl with heldB := none } } : State).handOver x.toNat = t at e e1 e2 e3 e4 e5 e6 e7 e8
  exact ⟨t, e, e1, e2, e3, e4, e8, e5, e6, e7⟩

theorem execHandoverBoundary_pilot {s : State} {x g : BitVec 32} {m : Mirror} (h1 : s.prl.swap = .takeSent) (h2 : s.phm.brake = false)
    (h3 : s.prl.owner = false) (h4 : s.prl.copy = some m) :
    Completes (.handoverBoundary x g) s fun t => t.prl.owner = true ∧ t.phm.owned = [true, true, true, true] ∧
      t.fnl.epoch = inc32 s.fnl.epoch ∧ Ev.ownGained m.entry m.originDisp ∈ t.sys.events ∧ t.prl.swapCnt = incSat 16 s.prl.swapCnt ∧
      t.prl.heldB = none := by
  obtain ⟨e1, e2, e3, e4⟩ := ({ s with prl := { s.prl with heldB := none } } : State).takeOver_sets m 1 g.toNat
  have e5 : (({ s with prl := { s.prl with heldB := none } } : State).takeOver m 1 g.toNat).prl.owner = true ∧
      (({ s with prl := { s.prl with heldB := none } } : State).takeOver m 1 g.toNat).prl.swapCnt = incSat 16 s.prl.swapCnt ∧
      (({ s with prl := { s.prl with heldB := none } } : State).takeOver m 1 g.toNat).prl.heldB = none := by
    rw [e1]
    exact ⟨rfl, rfl, rfl⟩
  have e := (execHandoverBoundary_passes (g := g) h1 h2).trans (congrArg Host.Outcome.next (State.passOwner_pilot h3 h4 x.toNat g.toNat))
  generalize ({ s with prl := { s.prl with heldB := none } } : State).takeOver m 1 g.toNat = t at e e2 e3 e4 e5
  obtain ⟨e5, e6, e7⟩ := e5
  refine ⟨_, e, ?_⟩
  dsimp only
  rw [State.logPost_prl, State.logPost_phm, State.logPost_fnl, State.logPost_sys]
  exact ⟨e5, e2, e3, e4, e6, e7⟩

/-! The takeover after the death of the owner. -/

/-- R371: the pilot's record of its decision. -/
def State.ownerMissed (s : State) : State := ({ s with pins := { s.pins with ownHigh := false } } : State).pairFault 3

def State.deadOwner (s : State) : State :=
  if s.copyCurrent then s.ownerMissed else s.ownerMissed.logPost 4 0x0B05 2 ([0, 0] ++ le2 s.prl.mirrorAge)

theorem State.deadOwner_keeps (s : State) : s.deadOwner.prl = s.prl ∧ s.deadOwner.sag = s.sag ∧ s.deadOwner.lmp = s.lmp := by
  have h1 : s.ownerMissed.prl = s.prl := State.pairFault_prl _ _
  have h2 : s.ownerMissed.sag = s.sag := State.pairFault_sag _ _
  have h3 : s.ownerMissed.lmp = s.lmp := State.pairFault_lmp _ _
  unfold State.deadOwner
  split
  · exact ⟨h1, h2, h3⟩
  · rw [State.logPost_prl, State.logPost_sag, State.logPost_lmp]
    exact ⟨h1, h2, h3⟩

theorem execTakeoverDecision_decides {s : State} (h1 : s.sys.st = .pilot) (h2 : s.prl.mode = 1) (h3 : s.prl.partnerOk = false)
    (h4 : s.prl.owner = false) (h5 : s.prl.takeDue = none) : exec .takeoverDecision s =
      if s.prl.pathsRel then .next (s.deadOwner.isolate 0x0E)
      else .next { s.deadOwner with prl := { s.deadOwner.prl with takeDue := some s.deadOwner.lmp.time } } :=
  (if_neg (by simp [h1, h2, h3, h4, h5]) : execTakeoverDecision s = _)

theorem execTakeoverDecision_none {s : State} (h : s.sys.st ≠ .pilot ∨ s.prl.mode ≠ 1 ∨ s.prl.partnerOk = true ∨ s.prl.owner = true ∨
    s.prl.takeDue ≠ none) : exec .takeoverDecision s = .next s := by
  refine (if_pos ?_ : execTakeoverDecision s = _)
  rcases h with h | h | h | h | h
  · simp [h]
  · simp [h]
  · simp [h]
  · simp [h]
  · simp [Option.isSome_iff_ne_none.mpr h]

/-- R244: the state at a reference boundary, before an ownership that is due. -/
def State.atBoundary (s : State) (b : Nat) : State := ({ s with lmp := { s.lmp with time := b } } : State).loadAtBoundary.refBoundary

theorem State.atBoundary_keeps (s : State) (b : Nat) :
    (s.atBoundary b).prl = s.prl ∧ (s.atBoundary b).fnl = s.fnl ∧ (s.atBoundary b).sag = s.sag ∧ (s.atBoundary b).sys = s.sys := by
  unfold State.atBoundary
  rw [State.refBoundary_prl, State.refBoundary_fnl, State.refBoundary_sag, State.refBoundary_sys, State.loadAtBoundary_prl,
    State.loadAtBoundary_fnl, State.loadAtBoundary_sag, State.loadAtBoundary_sys]
  exact ⟨rfl, rfl, rfl, rfl⟩

theorem State.dueOwner_due {s : State} {d now : Nat} (h1 : s.prl.heldB = none) (h2 : s.prl.takeDue = some d) : s.dueOwner now =
    if diffT now d < 50000 then s
    else if s.sys.st = .pilot then
      (({ s with prl := { s.prl with takeDue := none } } : State).takeOver
        ({ s with prl := { s.prl with takeDue := none } } : State).lastCopy 2 s.prl.lastGap).ceFresh
    else { s with prl := { s.prl with takeDue := none } } := by
  unfold State.dueOwner
  rw [h1]
  dsimp only
  rw [h2]

theorem execRefPeriodBoundary_takes {s : State} {b : BitVec 32} {d : Nat} (h0 : s.sys.st = .pilot) (h1 : s.prl.heldB = none)
    (h2 : s.prl.takeDue = some d) (h3 : 50000 ≤ diffT b.toNat d) :
    Completes (.refPeriodBoundary b) s fun t => t.prl.owner = true ∧ t.prl.takeDue = none ∧ t.phm.owned = [true, true, true, true] ∧
      t.fnl.epoch = inc32 s.fnl.epoch ∧ t.sag.latch = s.sag.latch := by
  obtain ⟨k1, k2, k3, k4⟩ := s.atBoundary_keeps b.toNat
  refine ⟨(s.atBoundary b.toNat).dueOwner b.toNat, rfl, ?_⟩
  generalize s.atBoundary b.toNat = a at k1 k2 k3 k4
  rw [State.dueOwner_due (by rw [k1]; exact h1) (by rw [k1]; exact h2), if_neg (Int.not_lt.mpr h3), if_pos (by rw [k4]; exact h0)]
  rw [State.ceFresh_prl, State.ceFresh_phm, State.ceFresh_fnl, State.ceFresh_sag, State.takeOver_sag_latch, ← k2, ← k3]
  generalize ({ a with prl := { a.prl with takeDue := none } } : State).lastCopy = m
  obtain ⟨e1, e2, e3, -⟩ := ({ a with prl := { a.prl with takeDue := none } } : State).takeOver_sets m 2 a.prl.lastGap
  rw [e1]
  exact ⟨rfl, rfl, e2, e3, rfl⟩

theorem execRefPeriodBoundary_waits {s : State} {b : BitVec 32} {d : Nat} (h1 : s.prl.heldB = none) (h2 : s.prl.takeDue = some d)
    (h3 : diffT b.toNat d < 50000) : Completes (.refPeriodBoundary b) s fun t => t.prl = s.prl ∧ t.fnl = s.fnl ∧ t.sag = s.sag := by
  obtain ⟨k1, k2, k3, -⟩ := s.atBoundary_keeps b.toNat
  refine ⟨(s.atBoundary b.toNat).dueOwner b.toNat, rfl, ?_⟩
  rw [State.dueOwner_due (by rw [k1]; exact h1) (by rw [k1]; exact h2), if_pos h3]
  exact ⟨k1, k2, k3⟩

theorem State.autoSwap_asks {s : State} (h1 : s.par P.prlAutoSwap = 1) (h2 : s.mayRequestSwap = true) :
    s.autoSwap.prl.swap = .requested ∧ s.autoSwap = { s with prl := s.autoSwap.prl } := by
  have e : s.autoSwap = ({ s with prl := { s.prl with swap := .requested } } : State).swapSend 1 0 := (if_pos h1).trans (if_pos h2)
  obtain ⟨o, ho⟩ := ({ s with prl := { s.prl with swap := .requested } } : State).swapSend_only_out 1 0
  rw [e, ho]
  exact ⟨rfl, rfl⟩

theorem State.autoSwap_none {s : State} (h : s.par P.prlAutoSwap ≠ 1 ∨ s.mayRequestSwap = false) : s.autoSwap = s := by
  unfold State.autoSwap State.requestSwap
  rcases h with h | h
  · exact if_neg h
  · split
    · exact if_neg (by simp [h])
    · rfl

/-- Settles O39: the messages and timers of a switchover, then the two ways in which ownership passes. -/
theorem switchoverPassesOwnership : Obligations.SwitchoverPassesOwnership := by
  unfold Obligations.SwitchoverPassesOwnership
  intro s
  refine ⟨fun b h1 h2 h3 h4 => ?_, s.sendReady_sets, fun b now => execSwitchoverReady_freezes, fun b => execSwitchoverRefuse_refuses,
    fun b h1 h2 h3 h4 h5 => ?_, fun b h1 h2 h3 h4 h5 => ?_, fun b now h1 h2 => ⟨?_, ?_, ?_, ?_, ?_⟩, execSwitchoverTimeout_abandons,
    fun h => (if_pos h : execSwitchoverTimeout s = _), execHandoverAckTimeout_abandons, fun h => (if_pos h : execHandoverAckTimeout s = _),
    fun x g => execHandoverBoundary_owner, fun x g m => execHandoverBoundary_pilot, fun x g h1 h2 h3 h4 => ?_, fun h1 h2 h3 h4 h5 h6 => ?_,
    fun h1 h2 h3 h4 h5 h6 => ?_, execTakeoverDecision_none, fun b d => execRefPeriodBoundary_takes, fun b d => execRefPeriodBoundary_waits,
    fun h => ?_, fun h1 h2 h3 => ?_⟩
  · refine (State.swapRx_taken h1 h2 h3 h4 _ : execSwitchoverReq b s = _).trans ?_
    simp only [apply_ite Host.Outcome.next, Bool.and_eq_true]
  · exact (State.swapRx_taken h1 h2 h3 h4 _ : execSwitchoverTake b s = _).trans (if_neg (not_not_intro h5))
  · exact (State.swapRx_taken h1 h2 h3 h4 _ : execSwitchoverAbandon b s = _).trans (congrArg Host.Outcome.next (if_pos h5))
  · exact fun h => (State.swapRx_ignored h2 h _ : execSwitchoverReq b s = _)
  · exact fun h => (State.swapRx_idle h2 (h.imp_right (Or.imp_right fun hs => if_pos hs)) : execSwitchoverReady b now s = _)
  · exact fun h => (State.swapRx_idle h2 (h.imp_right (Or.imp_right fun hs => if_pos hs)) : execSwitchoverRefuse b s = _)
  · exact fun h => (State.swapRx_idle h2 (h.imp_right (Or.imp_right fun hs => if_pos hs)) : execSwitchoverTake b s = _)
  · exact fun h => (State.swapRx_idle h2 (h.imp_right (Or.imp_right fun hs => congrArg Host.Outcome.next (if_neg (Bool.eq_false_iff.mp hs)))) :
      execSwitchoverAbandon b s = _)
  · exact (execHandoverBoundary_passes h1 h2).trans (congrArg Host.Outcome.next (State.passOwner_blank h3 h4 _ _))
  · obtain ⟨k1, k2, k3⟩ := s.deadOwner_keeps
    refine ⟨_, (execTakeoverDecision_decides h1 h2 h3 h4 h5).trans (if_neg (by simp [h6])), ?_, ?_, k2⟩
    · exact congrArg (fun l : Lmp => some l.time) k3
    · exact (congrArg Prl.owner k1).trans h4
  · obtain ⟨k1, k2, k3⟩ := s.deadOwner_keeps
    refine ⟨_, (execTakeoverDecision_decides h1 h2 h3 h4 h5).trans (if_pos h6), ?_, ?_⟩
    · exact State.isolatedAs_congr (congrArg Sag.isolation k2) rfl (s.deadOwner.isolate_isolatedAs 0x0E)
    · rw [State.isolate_prl_owner, k1]
      exact h4
  · rcases h with h | h
    · exact congrArg Host.Outcome.next (if_pos h)
    · exact congrArg Host.Outcome.next ((congrArg (fun t => if s.plk.link.any id then s else t) (State.autoSwap_none h)).trans (ite_self s))
  · exact ⟨_, congrArg Host.Outcome.next (if_neg (by simp [h1])), State.autoSwap_asks h2 h3⟩

end Sys2Proof.Machine

/-! The sessions of the plant link and their transactions (R386 to R399). -/

namespace Sys2Proof.Machine

/-! Arrival. -/

section
variable {s : State} {x : Tx} {ty : Nat}

theorem State.arrive_ignored (g : s.up 9 = false ∨ s.reaches x.port x.toNet = false ∨ (x.toNet.discarded x.dg.length = false ∧ x.dudp ≠ 48048))
    (f : State → Out) : s.arrive x ty f = .next (s.atTime x.now) :=
  State.datagram_ignored (s := s.atTime x.now) (p := x.port) (h := x.toNet) (n := x.dg.length) (k := 48048) g _

theorem State.arrive_discarded (h1 : s.up 9 = true) (h2 : s.reaches x.port x.toNet = true) (h3 : x.toNet.discarded x.dg.length = true)
    (f : State → Out) : s.arrive x ty f = .next ((s.atTime x.now).rxDropOne x.port) :=
  State.datagram_discarded (s := s.atTime x.now) (p := x.port) (h := x.toNet) (n := x.dg.length) (k := 48048) h1 h2 h3 _

theorem State.arrive_lands (g : s.Lands x.port x.toNet x.dg.length 48048) (f : State → Out) : s.arrive x ty f =
    if !x.headOk then .next ((s.atTime x.now).rxDropOne x.port) else if x.type ≠ ty then .next (s.atTime x.now) else f (s.atTime x.now) :=
  State.datagram_lands (s := s.atTime x.now) _ g

theorem State.arrive_badHead (g : s.Lands x.port x.toNet x.dg.length 48048) (h : x.headOk = false) (f : State → Out) :
    s.arrive x ty f = .next ((s.atTime x.now).rxDropOne x.port) := by
  rw [State.arrive_lands g, if_pos (by simp [h])]

theorem State.arrive_otherType (g : s.Lands x.port x.toNet x.dg.length 48048) (h : x.headOk = true) (h2 : x.type ≠ ty) (f : State → Out) :
    s.arrive x ty f = .next (s.atTime x.now) := by
  rw [State.arrive_lands g, if_neg (by simp [h]), if_pos h2]

/-! The checks of a transaction in a session. -/

theorem State.transact_loose (g : s.Lands x.port x.toNet x.dg.length 48048) (h1 : x.headOk = true) (h2 : x.type = ty)
    (h3 : s.sessionAt x.session = none) (f : State → Nat → Out) :
    s.transact x ty f = .next ((s.atTime x.now).looseReply x { type := ty, status := 7 }) := by
  unfold State.transact
  rw [State.arrive_ok _ g h1 h2]
  have h : (s.atTime x.now).sessionAt x.session = none := h3
  rw [h]

/-- R389 to R391: the checks of a transaction of a session, in their order. -/
theorem State.transact_session {i : Nat} {y : Session} (g : s.Lands x.port x.toNet x.dg.length 48048) (h1 : x.headOk = true) (h2 : x.type = ty)
    (h3 : s.sessionAt x.session = some i) (h4 : s.sess i = some y) (f : State → Nat → Out) : s.transact x ty f =
      if x.ver ≠ y.ver then .next ((s.txIn x i).sessStatus i x ty 6)
      else if y.kept.isSome && y.tid == x.tid then .next ((s.txIn x i).resend i x y)
      else if y.ver < typeFrom ty then .next ((s.txIn x i).sessStatus i x ty 6)
      else if !payloadOk ty x.payload then .next ((s.txIn x i).sessStatus i x ty 5)
      else f (s.txIn x i) i := by
  unfold State.transact
  rw [State.arrive_ok _ g h1 h2]
  have h5 : (s.atTime x.now).sessionAt x.session = some i := h3
  have h6 : (s.atTime x.now).plk.sessions[i]? = some y := h4
  rw [h5]
  dsimp only
  rw [h6]
  rfl

theorem State.txIn_sess {i : Nat} {y : Session} (h : s.sess i = some y) :
    (s.txIn x i).sess i = some { y with port := x.port, addr := x.addr, udp := x.udp } := by
  have h' : s.plk.sessions[i]? = some y := h
  show (s.plk.sessions.modify i _)[i]? = _
  simp [List.getElem?_modify, h']

/-- R390: the kept reply goes out again, marked as resent. -/
theorem State.resend_again {i : Nat} {y : Session} {r : Reply} (h : s.sess i = some y) (hk : y.kept = some r) (z : Session) :
    z.kept = y.kept → s.resend i x z = { s with plk := (s.resend i x z).plk } ∧
      (s.resend i x z).sess i = some { y with kept := some { r with resent := true } } := by
  intro hz
  have h' : s.plk.sessions[i]? = some y := h
  unfold State.resend
  rw [hz, hk]
  refine ⟨rfl, ?_⟩
  show (s.plk.sessions.modify i _)[i]? = _
  simp [List.getElem?_modify, h']

theorem State.transact_again {i : Nat} {y : Session} (g : s.Lands x.port x.toNet x.dg.length 48048) (h1 : x.headOk = true) (h2 : x.type = ty)
    (h3 : s.sessionAt x.session = some i) (h4 : s.sess i = some y) (h5 : x.ver = y.ver) (h6 : y.kept.isSome = true) (h7 : y.tid = x.tid)
    (f : State → Nat → Out) : ∃ t, s.transact x ty f = .next t ∧ t = { s with lmp := t.lmp, plk := t.plk } ∧
      ∃ z, t.sess i = some z ∧ z.kept = y.kept.map (fun r => { r with resent := true }) ∧ z.tid = y.tid := by
  obtain ⟨r, hr⟩ := Option.isSome_iff_exists.mp h6
  obtain ⟨e1, e2⟩ := State.resend_again (s := s.txIn x i) (x := x) (State.txIn_sess h4) hr y rfl
  refine ⟨_, (State.transact_session g h1 h2 h3 h4 f).trans ((if_neg (not_not_intro h5)).trans (if_pos (by simp [h6, h7]))), ?_, _, e2, ?_, rfl⟩
  · rw [e1]
    rfl
  · rw [hr]
    rfl

theorem State.transact_tooNew {i : Nat} {y : Session} (g : s.Lands x.port x.toNet x.dg.length 48048) (h1 : x.headOk = true) (h2 : x.type = ty)
    (h3 : s.sessionAt x.session = some i) (h4 : s.sess i = some y) (h5 : x.ver = y.ver) (h6 : y.kept = none ∨ y.tid ≠ x.tid)
    (h7 : y.ver < typeFrom ty) (f : State → Nat → Out) : s.transact x ty f = .next ((s.txIn x i).sessStatus i x ty 6) := by
  rw [State.transact_session g h1 h2 h3 h4, if_neg (not_not_intro h5), if_neg (by rcases h6 with h6 | h6 <;> simp [h6]), if_pos h7]

theorem State.transact_badPayload {i : Nat} {y : Session} (g : s.Lands x.port x.toNet x.dg.length 48048) (h1 : x.headOk = true) (h2 : x.type = ty)
    (h3 : s.sessionAt x.session = some i) (h4 : s.sess i = some y) (h5 : x.ver = y.ver) (h6 : y.kept = none ∨ y.tid ≠ x.tid)
    (h7 : typeFrom ty ≤ y.ver) (h8 : payloadOk ty x.payload = false) (f : State → Nat → Out) :
    s.transact x ty f = .next ((s.txIn x i).sessStatus i x ty 5) := by
  rw [State.transact_session g h1 h2 h3 h4, if_neg (not_not_intro h5), if_neg (by rcases h6 with h6 | h6 <;> simp [h6]),
    if_neg (Nat.not_lt.mpr h7), if_pos (by simp [h8])]

end

theorem execRegRead_transact (x : Tx) (s : State) : ∃ f, execRegRead x s = s.transact x 2 f := by
  unfold execRegRead
  exact ⟨_, rfl⟩

theorem execRegWrite_transact (x : Tx) (w : Word) (s : State) : ∃ f, execRegWrite x w s = s.transact x 3 f := by
  unfold execRegWrite
  exact ⟨_, rfl⟩

theorem execMbxReq_transact (x : Tx) (s : State) : ∃ f, execMbxReq x s = s.transact x 4 f := ⟨_, rfl⟩
theorem execMbxPoll_transact (x : Tx) (s : State) : ∃ f, execMbxPoll x s = s.transact x 5 f := ⟨_, rfl⟩
theorem execBulkRead_transact (x : Tx) (df : List Nat) (s : State) : ∃ f, execBulkRead x df s = s.transact x 6 f := ⟨_, rfl⟩
theorem execAttnAck_transact (x : Tx) (s : State) : ∃ f, execAttnAck x s = s.transact x 8 f := ⟨_, rfl⟩
theorem execBye_transact (x : Tx) (s : State) : ∃ f, execBye x s = s.transact x 9 f := ⟨_, rfl⟩
theorem execUpdBlock_transact (x : Tx) (s : State) : ∃ f, execUpdBlock x s = s.transact x 10 f := ⟨_, rfl⟩
theorem execKeepalive_transact (x : Tx) (s : State) : ∃ f, execKeepalive x s = s.transact x 11 f := ⟨_, rfl⟩

/-- R388: the nine transactions of a session. -/
theorem exec_transaction {x : Tx} {c : Instr} {ty : Nat} {w : Word} {df : List Nat}
    (h : (c, ty) ∈ [(Instr.regRead x, 2), (.regWrite x w, 3), (.mbxReq x, 4), (.mbxPoll x, 5), (.bulkRead x df, 6), (.attnAck x, 8), (.bye x, 9),
      (.updBlock x, 10), (.keepalive x, 11)]) (s : State) : ∃ f, exec c s = s.transact x ty f := by
  simp only [List.mem_cons, Prod.mk.injEq, List.mem_nil_iff, or_false] at h
  rcases h with ⟨rfl, rfl⟩ | ⟨rfl, rfl⟩ | ⟨rfl, rfl⟩ | ⟨rfl, rfl⟩ | ⟨rfl, rfl⟩ | ⟨rfl, rfl⟩ | ⟨rfl, rfl⟩ | ⟨rfl, rfl⟩ | ⟨rfl, rfl⟩
  · exact execRegRead_transact x s
  · exact execRegWrite_transact x w s
  · exact execMbxReq_transact x s
  · exact execMbxPoll_transact x s
  · exact execBulkRead_transact x df s
  · exact execAttnAck_transact x s
  · exact execBye_transact x s
  · exact execUpdBlock_transact x s
  · exact execKeepalive_transact x s

/-! HELLO. -/

section
variable {s : State} {x : Tx}

/-- R388: a HELLO whose head and payload are right. -/
theorem execHello_right (g : s.Lands x.port x.toNet x.dg.length 48048) (h1 : x.headOk = true) (h2 : x.type = 1) (h3 : payloadOk 1 x.payload = true) :
    exec (.hello x) s = match helloVersion (leAt x.payload 0 1) (leAt x.payload 1 1) with
      | none => .next ((s.atTime x.now).looseReply x { type := 1, status := 6 })
      | some v =>
        if (s.helloOld x v (leAt x.payload 4 8)).isNone && decide (8 ≤ s.plk.sessions.length) then
          .next ((s.atTime x.now).looseReply x { type := 1, status := 9 })
        else .next ((s.atTime x.now).openSession x v (leAt x.payload 4 8) (leAt x.payload 12 4) (s.helloOld x v (leAt x.payload 4 8))) := by
  refine (State.arrive_ok _ g h1 h2 : execHello x s = _).trans ((if_neg (by simp [h3])).trans ?_)
  rfl

theorem execHello_version {v : Nat} (g : s.Lands x.port x.toNet x.dg.length 48048) (h1 : x.headOk = true) (h2 : x.type = 1)
    (h3 : payloadOk 1 x.payload = true) (h4 : helloVersion (leAt x.payload 0 1) (leAt x.payload 1 1) = some v) : exec (.hello x) s =
      if (s.helloOld x v (leAt x.payload 4 8)).isNone && decide (8 ≤ s.plk.sessions.length) then
        .next ((s.atTime x.now).looseReply x { type := 1, status := 9 })
      else .next ((s.atTime x.now).openSession x v (leAt x.payload 4 8) (leAt x.payload 12 4) (s.helloOld x v (leAt x.payload 4 8))) := by
  rw [execHello_right g h1 h2 h3, h4]

/-- R388: a session that opens stands last, with its reply kept. -/
theorem State.openSession_sets (s : State) (x : Tx) (v host mask : Nat) (old : Option Session) : ∃ y,
    (s.openSession x v host mask old).plk.sessions =
      (match old with | some o => s.plk.sessions.filter (fun z => z.num != o.num) | none => s.plk.sessions) ++ [y] ∧
    y.ver = v ∧ y.tid = x.tid ∧ y.queue = (old.map (·.queue)).getD [] ∧ y.kept.map (·.status) = some 0 := ⟨_, rfl, rfl, rfl, rfl, rfl⟩

theorem execHello_opens {v : Nat} (g : s.Lands x.port x.toNet x.dg.length 48048) (h1 : x.headOk = true) (h2 : x.type = 1)
    (h3 : payloadOk 1 x.payload = true) (h4 : helloVersion (leAt x.payload 0 1) (leAt x.payload 1 1) = some v)
    (h5 : s.helloOld x v (leAt x.payload 4 8) = none) (h6 : s.plk.sessions.length < 8) : Completes (.hello x) s fun t =>
      t.plk.sessions.length = s.plk.sessions.length + 1 ∧ ∃ y ∈ t.plk.sessions, y.ver = v ∧ y.tid = x.tid ∧ y.queue = [] ∧
        (y.kept.map (·.status)) = some 0 := by
  refine ⟨_, (execHello_version g h1 h2 h3 h4).trans (if_neg (by simp [h5]; omega)), ?_⟩
  rw [h5]
  obtain ⟨y, e, e1, e2, e3, e4⟩ := (s.atTime x.now).openSession_sets x v (leAt x.payload 4 8) (leAt x.payload 12 4) none
  rw [e]
  exact ⟨List.length_append, y, List.mem_append_right _ (List.mem_singleton_self y), e1, e2, e3, e4⟩

theorem execHello_reopens {v : Nat} {o : Session} (g : s.Lands x.port x.toNet x.dg.length 48048) (h1 : x.headOk = true) (h2 : x.type = 1)
    (h3 : payloadOk 1 x.payload = true) (h4 : helloVersion (leAt x.payload 0 1) (leAt x.payload 1 1) = some v)
    (h5 : s.helloOld x v (leAt x.payload 4 8) = some o) : Completes (.hello x) s fun t =>
      t.plk.sessions.length ≤ s.plk.sessions.length ∧ ∃ y ∈ t.plk.sessions, y.ver = v ∧ y.tid = x.tid ∧ y.queue = o.queue ∧
        (y.kept.map (·.status)) = some 0 := by
  refine ⟨_, (execHello_version g h1 h2 h3 h4).trans (if_neg (by simp [h5])), ?_⟩
  rw [h5]
  obtain ⟨y, e, e1, e2, e3, e4⟩ := (s.atTime x.now).openSession_sets x v (leAt x.payload 4 8) (leAt x.payload 12 4) (some o)
  rw [e]
  refine ⟨?_, y, List.mem_append_right _ (List.mem_singleton_self y), e1, e2, e3, e4⟩
  have hm : o ∈ s.plk.sessions := List.mem_of_find?_eq_some h5
  have hl : (s.plk.sessions.filter (fun z => z.num != o.num)).length < s.plk.sessions.length :=
    List.length_filter_lt_length_iff_exists.mpr ⟨o, hm, by simp⟩
  rw [List.length_append]
  exact hl

theorem helloVersion_common {lo hi v : Nat} (h : helloVersion lo hi = some v) : 1 ≤ v ∧ v ≤ 3 ∧ lo ≤ v ∧ v ≤ hi := by
  unfold helloVersion at h
  dsimp only at h
  split at h
  · cases h
  · cases h
    omega

theorem execBye_ends {i : Nat} (g : s.TxOk x 9 i) : Completes (.bye x) s fun t => t.plk.sessions.length + 1 = s.plk.sessions.length ∧
    t.plk.lastLoose = some { type := 9, status := 0 } := by
  refine ⟨_, (State.transact_ok _ g : execBye x s = _), ?_, rfl⟩
  obtain ⟨-, -, -, -, -, y, hy, -⟩ := g
  obtain ⟨hi, -⟩ := List.getElem?_eq_some_iff.mp hy
  show ((s.plk.sessions.modify i _).eraseIdx i).length + 1 = _
  rw [List.length_eraseIdx, List.length_modify, if_pos hi]
  omega

theorem execSessionTimeout_eq (n : Nat) (s : State) : exec (.sessionTimeout n) s =
    match s.sessionAt n with | some i => .next (s.endSession i) | none => .next s := rfl

theorem Net.discarded_iff (h : Net) (n : Nat) : h.discarded n = true ↔ h.frag = true ∨ h.sumOk = false ∨ 1452 < n ∨ h.portUsed = false := by
  simp [Net.discarded, or_assoc]

end

/-- Settles O40: the checks on arrival, the checks of a session, and HELLO. -/
theorem sessionsOfThePlantLink : Obligations.SessionsOfThePlantLink := by
  unfold Obligations.SessionsOfThePlantLink
  intro s x
  refine ⟨fun c ty w df hc => ?_, fun i g => (State.transact_ok _ g : execKeepalive x s = _), fun i => execBye_ends,
    fun h => (State.arrive_ignored h _ : execHello x s = _), fun h1 h2 h3 => (State.arrive_discarded h1 h2 h3 _ : execHello x s = _),
    fun g h => (State.arrive_badHead g h _ : execHello x s = _), fun g h1 h2 => (State.arrive_otherType g h1 h2 _ : execHello x s = _),
    fun g h1 h2 h3 => (State.arrive_ok _ g h1 h2 : execHello x s = _).trans (if_pos (by simp [h3])), fun g h1 h2 h3 h4 => ?_,
    fun v g h1 h2 h3 h4 h5 h6 => ?_, fun v => execHello_opens, fun v o => execHello_reopens, fun lo hi v => helloVersion_common, fun n i h => ?_,
    fun n h => ?_, fun p h n h1 h2 h3 => congrArg Host.Outcome.next (if_pos (by simp [h1, h2, h3])), fun p h n g => ?_, Net.discarded_iff⟩
  · obtain ⟨f, e⟩ := exec_transaction hc s
    rw [e]
    refine ⟨fun g => State.arrive_ignored g _, fun h1 h2 h3 => State.arrive_discarded h1 h2 h3 _, fun g h => State.arrive_badHead g h _,
      fun g h1 h2 => State.arrive_otherType g h1 h2 _, fun g h1 h2 h3 => State.transact_loose g h1 h2 h3 f, fun i y g h1 h2 h3 h4 =>
      ⟨fun h5 => ?_, fun h5 h6 h7 => ?_, fun h5 h6 h7 => State.transact_tooNew g h1 h2 h3 h4 h5 h6 h7 f,
        fun h5 h6 h7 h8 => State.transact_badPayload g h1 h2 h3 h4 h5 h6 h7 h8 f⟩⟩
    · rw [State.transact_session g h1 h2 h3 h4, if_pos h5]
    · unfold Completes
      rw [e]
      exact State.transact_again g h1 h2 h3 h4 h5 h6 h7 f
  · rw [execHello_right g h1 h2 h3, h4]
  · rw [execHello_version g h1 h2 h3 h4, if_pos (by simp [h5, h6])]
  · rw [execSessionTimeout_eq, h]
  · rw [execSessionTimeout_eq, h]
  · refine congrArg Host.Outcome.next (if_neg ?_)
    rcases g with g | g | g <;> simp [g]

/-! The transactions carried out. -/

theorem regBad_count {a n : Nat} (h : n = 0 ∨ 256 < n) : regBad a n = some 4 := if_pos h

theorem regBad_addr {a n : Nat} (h1 : 1 ≤ n) (h2 : n ≤ 256) (h3 : a % 4 ≠ 0 ∨ 0x40000 < a + 4 * n) : regBad a n = some 3 := by
  rw [regBad, if_neg (by omega), if_pos h3]

theorem regBad_good {a n : Nat} (h1 : 1 ≤ n) (h2 : n ≤ 256) (h3 : a % 4 = 0) (h4 : a + 4 * n ≤ 0x40000) : regBad a n = none := by
  rw [regBad, if_neg (by omega), if_neg (by omega)]

theorem State.sessReply_kept {s : State} {i : Nat} {y : Session} (h : s.sess i = some y) (x : Tx) (r : Reply) :
    ∃ z, (s.sessReply i x r).sess i = some z ∧ z.kept = some r := by
  have h' : s.plk.sessions[i]? = some y := h
  unfold State.sessReply
  rw [h']
  refine ⟨{ y with tid := x.tid, kept := some r }, ?_, rfl⟩
  show (s.plk.sessions.modify i _)[i]? = _
  simp [List.getElem?_modify, h']

section
variable {s : State} {x : Tx} {i : Nat}

/-- R394: the checks of a register write, in their order. -/
theorem execRegWrite_ok (w : Word) (g : s.TxOk x 3 i) : exec (.regWrite x w) s =
    if !s.mayAct x.addr then .next ((s.txIn x i).sessStatus i x 3 10)
    else match regBad (leAt x.payload 0 4) (leAt x.payload 4 2) with
    | some e => .next ((s.txIn x i).sessStatus i x 3 e)
    | none => match (s.txIn x i).writeRegs x.port.src w (leAt x.payload 0 4)
        ((List.range (leAt x.payload 4 2)).map (fun k => BitVec.ofNat 32 (leAt x.payload (8 + 4 * k) 4))) with
      | .next t => .next (t.sessStatus i x 3 0)
      | o => o := by
  show execRegWrite x w s = _
  unfold execRegWrite
  extract_lets addr words
  rw [State.transact_ok _ g, show words.length = leAt x.payload 4 2 by simp [words]]
  rfl

theorem execRegRead_ok (g : s.TxOk x 2 i) : exec (.regRead x) s =
    match regBad (leAt x.payload 0 4) (leAt x.payload 4 2) with
    | some e => .next ((s.txIn x i).sessStatus i x 2 e)
    | none => .next (((s.txIn x i).readRegs true (leAt x.payload 0 4) (leAt x.payload 4 2)).2.sessReply i x { type := 2, status := 0, payload := ((s.txIn x i).readRegs true (leAt x.payload 0 4) (leAt x.payload 4 2)).1.flatMap (leBytes 4) }) := by
  show execRegRead x s = _
  unfold execRegRead
  extract_lets addr count
  rw [State.transact_ok _ g] <;> cases regBad addr count <;> rfl

/-- R395: a bulk read of the records there are. -/
theorem execBulkRead_right (df : List Nat) (g : s.TxOk x 6 i) (h1 : 1 ≤ leAt x.payload 2 2) (h2 : leAt x.payload 2 2 ≤ 22)
    (h3 : leAt x.payload 0 2 + leAt x.payload 2 2 ≤ 384) : exec (.bulkRead x df) s = .next
      ((if s.up 6 then s.txIn x i else { s.txIn x i with sys := { s.sys with accAbsent := true } } : State).sessReply i x
        { type := 6, status := 0, payload := (List.range (leAt x.payload 2 2)).flatMap (fun k => s.bulkRecord (leAt x.payload 0 2 + k) (nth df k 0)) }) :=
  (State.transact_ok _ g : execBulkRead x df s = _).trans (if_neg (by omega))

theorem State.bulkRecord_absent (h : s.up 6 = false) (g d : Nat) : s.bulkRecord g d = List.replicate 64 0 := by
  simp [State.bulkRecord, h]

theorem State.bulkRecord_present (h : s.up 6 = true) (g d : Nat) :
    s.bulkRecord g d = (List.range 8).flatMap (fun w => leBytes 8 (if w = 0 ∧ 5 ≤ d then (s.gr g).word 0 ||| 2 ^ 47 else (s.gr g).word w)) := by
  simp [State.bulkRecord, h]

theorem State.bulkRecord_steady (h : s.up 6 = true) (g : Nat) {d : Nat} (hd : d < 5) : s.bulkRecord g d = (s.gr g).bytes := by
  rw [State.bulkRecord_present h]
  simp [GroupRec.bytes, Nat.not_le.mpr hd]

/-- R395: a record that kept changing is marked in its first word. -/
theorem State.bulkRecord_torn (h : s.up 6 = true) (g : Nat) {d : Nat} (hd : 5 ≤ d) :
    (s.bulkRecord g d).take 8 = leBytes 8 ((s.gr g).word 0 ||| 2 ^ 47) ∧ (s.bulkRecord g d).drop 8 = (s.gr g).bytes.drop 8 := by
  have hl (n : Nat) : (leBytes 8 n).length = 8 := by simp [leBytes]
  rw [State.bulkRecord_present h, GroupRec.bytes, List.range_succ_eq_map]
  simp only [List.flatMap_cons, List.flatMap_map, hd, true_and, if_true, Nat.succ_ne_zero, if_false, and_true]
  exact ⟨List.take_left' (hl _), (List.drop_left' (hl _)).trans (List.drop_left' (hl _)).symm⟩

theorem execBulkRead_absent (df : List Nat) (g : s.TxOk x 6 i) (h1 : 1 ≤ leAt x.payload 2 2) (h2 : leAt x.payload 2 2 ≤ 22)
    (h3 : leAt x.payload 0 2 + leAt x.payload 2 2 ≤ 384) (h4 : s.up 6 = false) : Completes (.bulkRead x df) s fun t =>
      t.sys = { s.sys with accAbsent := true } ∧ ∃ z r, t.sess i = some z ∧ z.kept = some r ∧ r.status = 0 ∧
        r.payload = (List.range (leAt x.payload 2 2)).flatMap (fun _ => List.replicate 64 0) := by
  have e := execBulkRead_right df g h1 h2 h3
  rw [if_neg (by simp [h4])] at e
  refine ⟨_, e, ?_, ?_⟩
  · rw [State.sessReply_only]
  · obtain ⟨-, -, -, -, -, y, hy, -⟩ := g
    obtain ⟨z, hz, hk⟩ := State.sessReply_kept (s := { s.txIn x i with sys := { s.sys with accAbsent := true } }) (i := i)
      (State.txIn_sess (s := s) (x := x) (i := i) hy) x
      { type := 6, status := 0, payload := (List.range (leAt x.payload 2 2)).flatMap (fun k => s.bulkRecord (leAt x.payload 0 2 + k) (nth df k 0)) }
    refine ⟨z, _, hz, hk, rfl, ?_⟩
    exact congrArg (fun f => (List.range (leAt x.payload 2 2)).flatMap f) (funext fun k => State.bulkRecord_absent h4 _ _)

/-- R396: the checks of a mailbox request, in their order. -/
theorem execMbxReq_eq (g : s.TxOk x 4 i) : exec (.mbxReq x) s =
    if !s.mayAct x.addr then .next ((s.txIn x i).sessStatus i x 4 10)
    else if 3 < leAt x.payload 0 1 then .next ((s.txIn x i).sessStatus i x 4 5)
    else if 1024 < (x.payload.drop 4).length then .next ((s.txIn x i).sessStatus i x 4 4)
    else if s.sys.mgpAway || s.mbx.long then .next ((s.txIn x i).sessStatus i x 4 1)
    else if !(s.ch (leAt x.payload 0 1)).open then .next ((s.txIn x i).sessStatus i x 4 8)
    else .next ((((s.txIn x i).modCh (leAt x.payload 0 1) (fun y => { y with reqBuf := memPutL y.reqBuf 0 (x.payload.drop 4) })).accept
      (leAt x.payload 0 1) x.port.src).sessWait i x (leAt x.payload 0 1)) :=
  (State.transact_ok _ g : execMbxReq x s = _)

/-- R439: an answer to the sessions that wait only sends. -/
theorem State.foldl_only_sent {α : Type} {f : State → α → State} (hf : ∀ t x, ∃ p, f t x = { t with plk := { t.plk with sent := p } }) (l : List α)
    (s : State) : ∃ p, l.foldl f s = { s with plk := { s.plk with sent := p } } := by
  induction l generalizing s with
  | nil => exact ⟨s.plk.sent, rfl⟩
  | cons x l ih =>
    obtain ⟨p, hp⟩ := hf s x
    obtain ⟨q, hq⟩ := ih (f s x)
    exact ⟨q, by rw [List.foldl_cons, hq, hp]⟩

theorem State.answerWait_sets (s : State) (c : Nat) (r : Reply) : ∃ p, s.answerWait c r =
    { s with plk := { s.plk with sent := p, sessions := s.plk.sessions.map (·.answered c r) } } := by
  obtain ⟨p, hp⟩ := State.foldl_only_sent (f := fun t (y : Session) => match y.waiting.find? (fun w => w.chan == c) with
    | some w => t.replyFrom w.port w.net (r.bytes y.ver w.tid y.num)
    | none => t) (fun t y => by split <;> exact ⟨_, rfl⟩) s.plk.sessions s
  exact ⟨p, congrArg (fun t : State => { t with plk := { t.plk with sessions := t.plk.sessions.map (fun y : Session => y.answered c r) } }) hp⟩

end

/-- Settles O41: each transaction by its own checks and its reply. -/
theorem transactionsReachRegistersAndMailboxes : Obligations.TransactionsReachRegistersAndMailboxes := by
  unfold Obligations.TransactionsReachRegistersAndMailboxes
  intro s x i
  refine ⟨fun a n => ⟨regBad_count, regBad_addr, regBad_good⟩, fun e g h => ?_, fun g h => ?_, fun w g h => ?_,
    fun w e g h1 h2 => ?_, fun w t g h1 h2 h3 => ?_, fun w f g h1 h2 h3 => ?_, fun df g h => ?_, fun df g h1 h2 h3 h4 => ?_,
    fun df => execBulkRead_absent df, fun g d h => ⟨State.bulkRecord_steady h g, State.bulkRecord_torn h g⟩, fun g h => ?_, fun g h h1 => ?_,
    fun g h h1 h2 => ?_, fun g h h1 h2 h3 => ?_, fun g h h1 h2 h3 h4 h5 => ?_, fun g h h1 h2 h3 h4 h5 => ?_, fun g h => ?_, fun g h => ?_,
    fun c => ?_⟩
  · rw [execRegRead_ok g, h]
  · rw [execRegRead_ok g, h]
  · rw [execRegWrite_ok w g, if_pos (by simp [h])]
  · rw [execRegWrite_ok w g, if_neg (by simp [h1]), h2]
  · rw [execRegWrite_ok w g, if_neg (by simp [h1]), h2]
    dsimp only
    rw [h3]
  · rw [execRegWrite_ok w g, if_neg (by simp [h1]), h2]
    dsimp only
    rw [h3]
  · exact (State.transact_ok _ g : execBulkRead x df s = _).trans (if_pos h)
  · rw [execBulkRead_right df g h1 h2 h3, if_pos h4]
  · rw [execMbxReq_eq g, if_pos (by simp [h])]
  · rw [execMbxReq_eq g, if_neg (by simp [h]), if_pos h1]
  · rw [execMbxReq_eq g, if_neg (by simp [h]), if_neg (Nat.not_lt.mpr h1), if_pos (by rw [List.length_drop]; omega)]
  · rw [execMbxReq_eq g, if_neg (by simp [h]), if_neg (Nat.not_lt.mpr h1), if_neg (by rw [List.length_drop]; omega),
      if_pos (by rcases h3 with h3 | h3 <;> simp [h3])]
  · rw [execMbxReq_eq g, if_neg (by simp [h]), if_neg (Nat.not_lt.mpr h1), if_neg (by rw [List.length_drop]; omega), if_neg (by simp [h3, h4]),
      if_pos (by simp [h5])]
  · rw [execMbxReq_eq g, if_neg (by simp [h]), if_neg (Nat.not_lt.mpr h1), if_neg (by rw [List.length_drop]; omega), if_neg (by simp [h3, h4]),
      if_neg (by simp [h5])]
  · exact (State.transact_ok _ g : execMbxPoll x s = _).trans (if_neg (Nat.not_lt.mpr h))
  · exact (State.transact_ok _ g : execMbxPoll x s = _).trans (if_pos h)
  · obtain ⟨p, e⟩ := s.answerWait_sets c.val { type := 4, status := 2 }
    exact ⟨_, congrArg Host.Outcome.next e, rfl, rfl⟩

end Sys2Proof.Machine

/-! Attention messages, dispatch PDUs and the ports (R383 to R385, R400 to R405). -/

namespace Sys2Proof.Machine

/-! The queue of attention messages. -/

theorem Session.mem_enqueue {x : Session} {m q : Attn} (h : q ∈ (x.enqueue m).1.queue) : q = m ∨ q ∈ x.queue := by
  unfold Session.enqueue at h
  split at h
  · exact .inl (List.mem_singleton.mp h)
  · next o rest hq =>
    rw [hq] at *
    split at h
    · exact (List.mem_append.mp h).elim .inr (fun h => .inl (List.mem_singleton.mp h))
    · split at h
      · exact (List.mem_append.mp h).elim (fun h => .inr (List.mem_cons_of_mem o h)) (fun h => .inl (List.mem_singleton.mp h))
      · exact (List.mem_append.mp h).elim (fun h => .inr (List.mem_cons_of_mem o h)) (fun h => .inl (List.mem_singleton.mp h))

/-- R402: a queue of at most 64 messages takes a new one and stays so. -/
theorem Session.enqueue_takes {x : Session} (m : Attn) (h : x.queue.length ≤ 64) :
    (x.enqueue m).1.queue.length ≤ 64 ∧ m ∈ (x.enqueue m).1.queue := by
  unfold Session.enqueue
  split
  · exact ⟨(by decide : 1 ≤ 64), List.mem_singleton_self m⟩
  · next o rest hq =>
    rw [hq] at h ⊢
    have hl : rest.length + 1 ≤ 64 := h
    split
    · next hs =>
      refine ⟨?_, List.mem_append_right _ (List.mem_singleton_self m)⟩
      simp only [List.length_append, List.length_cons, List.length_nil] at hs ⊢
      omega
    · split
      · exact ⟨by rw [List.length_append]; exact hl, List.mem_append_right _ (List.mem_singleton_self m)⟩
      · exact ⟨by rw [List.length_append]; exact hl, List.mem_append_right _ (List.mem_singleton_self m)⟩

/-- R402: a note of lost messages only adds itself, with code 0xFF, to the session's queue. -/
theorem State.lostNote_queue {s : State} {i : Nat} {z : Session} (h : (s.lostNote i).sess i = some z) {q : Attn} (hq : q ∈ z.queue) :
    q.code = 0xFF ∨ ∃ y, s.sess i = some y ∧ q ∈ y.queue := by
  unfold State.lostNote at h
  split at h
  · exact .inr ⟨z, h, hq⟩
  · next x hx =>
    split at h
    · exact .inr ⟨z, h, hq⟩
    · have hi : i < s.plk.sessions.length := (List.getElem?_eq_some_iff.mp hx).1
      extract_lets a m r p at h
      have e : (s.plk.sessions.set i r.1)[i]? = some z := h
      rw [List.getElem?_set_self hi] at e
      cases e
      rcases Session.mem_enqueue hq with rfl | hq
      · exact .inl rfl
      · exact .inr ⟨x, hx, hq⟩

theorem State.sess_set {s : State} {i : Nat} {y : Session} (h : s.sess i = some y) (z : Session) (p : Plk) (hp : p.sessions = s.plk.sessions.set i z) :
    p.sessions[i]? = some z := by
  have hi : i < s.plk.sessions.length := (List.getElem?_eq_some_iff.mp h).1
  rw [hp, List.getElem?_set_self hi]

theorem State.attnDrop_queue {s : State} {i : Nat} {y z : Session} {m : Attn} (h : s.sess i = some y) (hz : (s.attnDrop i y m).sess i = some z)
    {q : Attn} (hq : q ∈ z.queue) : q.code = 0xFF ∨ q.aseq ≠ m.aseq := by
  rcases State.lostNote_queue hz hq with h1 | ⟨w, hw, hq⟩
  · exact .inl h1
  · have e := State.sess_set h { y with queue := y.queue.filter (fun z => z.aseq != m.aseq), lost := y.lost + (if m.code = 0xFF then 0 else 1) } _
      (rfl : { s.plk with sessions := _, attnLost := addSat 16 s.plk.attnLost (if m.code = 0xFF then 0 else 1) }.sessions = _)
    have e2 := hw.symm.trans e
    cases e2
    exact .inr (by simpa using (List.mem_filter.mp hq).2)

/-- R400: an acknowledged message leaves the queue. -/
theorem execAttnAck_ok {s : State} {x : Tx} {i : Nat} {y : Session} (g : s.TxOk x 8 i) (hy : (s.txIn x i).sess i = some y) : exec (.attnAck x) s =
    match y.queue.find? (fun z => z.aseq == leAt x.payload 0 4) with
    | none => .next ((s.txIn x i).sessStatus i x 8 0)
    | some m => .next (((({ s.txIn x i with plk := { (s.txIn x i).plk with sessions := (s.txIn x i).plk.sessions.set i (y.acked m) } } : State).sessStatus i x 8 0)).lostNote i) := by
  have h' : (s.txIn x i).plk.sessions[i]? = some y := hy
  refine (State.transact_ok _ g : execAttnAck x s = _).trans ?_
  rw [h'] <;> rfl

theorem State.sessStatus_queue {s : State} {i : Nat} {y : Session} (h : s.sess i = some y) (x : Tx) (ty r : Nat) {z : Session}
    (hz : (s.sessStatus i x ty r).sess i = some z) : z.queue = y.queue := by
  have h' : s.plk.sessions[i]? = some y := h
  unfold State.sessStatus State.sessReply at hz
  rw [h'] at hz
  have e : (s.plk.sessions.modify i (fun z => { z with tid := x.tid, kept := some { type := ty, status := r } }))[i]? = some z := hz
  rw [List.getElem?_modify, h'] at e
  simp at e
  rw [← e]

theorem execAttnAck_removes {s : State} {x : Tx} {i : Nat} (g : s.TxOk x 8 i) :
    Completes (.attnAck x) s fun t => ∀ z, t.sess i = some z → ∀ m ∈ z.queue, m.code = 0xFF ∨ m.aseq ≠ leAt x.payload 0 4 := by
  obtain ⟨-, -, -, -, -, y0, hy0, -⟩ := id g
  have hy := State.txIn_sess (s := s) (x := x) (i := i) hy0
  generalize { y0 with port := x.port, addr := x.addr, udp := x.udp } = y at hy
  have e := execAttnAck_ok g hy
  unfold Completes
  rw [e]
  cases hf : y.queue.find? (fun z => z.aseq == leAt x.payload 0 4) with
  | none =>
    refine ⟨_, rfl, fun z hz m hm => .inr ?_⟩
    rw [State.sessStatus_queue hy x 8 0 hz] at hm
    simpa using List.find?_eq_none.mp hf m hm
  | some a =>
    refine ⟨_, rfl, fun z hz m hm => ?_⟩
    have ha : a.aseq = leAt x.payload 0 4 := by simpa using List.find?_some hf
    rcases State.lostNote_queue hz hm with h1 | ⟨w, hw, hm⟩
    · exact .inl h1
    · have hset : State.sess { s.txIn x i with plk := { (s.txIn x i).plk with sessions := (s.txIn x i).plk.sessions.set i (y.acked a) } } i =
          some (y.acked a) := State.sess_set hy _ _ rfl
      rw [State.sessStatus_queue hset x 8 0 hw] at hm
      refine .inr (ha ▸ ?_)
      simpa using (List.mem_filter.mp hm).2

/-- R400: a retry finds its message by session and number. -/
theorem execAttnRetry_found {s : State} {n : Nat} {a : BitVec 32} {i : Nat} {y : Session} (h1 : s.sessionAt n = some i) (h2 : s.sess i = some y) :
    exec (.attnRetry n a) s = match y.queue.find? (fun z => z.aseq == a.toNat) with
      | none => .next s
      | some m =>
        if 8 ≤ m.sends then .next (s.attnDrop i y m)
        else .next (({ s with plk := { s.plk with sessions := s.plk.sessions.set i { y with queue := y.queue.map (fun z =>
          if z.aseq = m.aseq then { z with sends := z.sends + 1, port := z.port.other } else z) } } } : State).sendAttn y m m.port.other true) := by
  have h' : s.plk.sessions[i]? = some y := h2
  show execAttnRetry n a s = _
  unfold execAttnRetry
  rw [h1]
  dsimp only
  rw [h'] <;> rfl

/-! Dispatch PDUs. -/

/-- R401, R402: a PDU that lands, by its check and its SEQ. -/
theorem execDispatchPdu_lands {s : State} {p : PortId} {b : List Byte} {now : BitVec 32} {id : Bool} {h : Net} (g : s.Lands p h b.length 48050) :
    exec (.dispatchPdu p b now id h) s = match (s.atTime now).dispCheck b with
      | some k => .next ((s.atTime now).dispDrop p k)
      | none => .next (if !s.plk.series || id then
          ({ s with lmp := { s.lmp with time := now.toNat }, plk := { s.plk with series := true, dispSeq := leAt b 2 2 } } : State).dispTake p b now.toNat
        else if (leAt b 2 2 + 65536 - s.plk.dispSeq) % 65536 = 0 then
          { s with lmp := { s.lmp with time := now.toNat }, plk := { s.plk with dispDup := incSat 16 s.plk.dispDup } }
        else if (leAt b 2 2 + 65536 - s.plk.dispSeq) % 65536 ≤ 32767 then
          ({ s with lmp := { s.lmp with time := now.toNat }, plk := { s.plk with series := true, dispSeq := leAt b 2 2 } } : State).dispTake p b now.toNat
        else (s.atTime now).dispDrop p 3) :=
  (State.datagram_lands (s := s.atTime now) _ g : execDispatchPdu p b now id h s = _)

theorem State.dispTake_noEntry {s : State} {b : List Byte} (h : s.dispEntry b = none) (p : PortId) (now : Nat) : s.dispTake p b now = s.dispDrop p 4 := by
  unfold State.dispTake
  rw [h]

theorem State.dispTake_entry {s : State} {b : List Byte} {e : Nat × Int} (h : s.dispEntry b = some e) (p : PortId) (now : Nat) : s.dispTake p b now =
    if s.forwarding now then { s with prl := { s.prl with fwd := s.prl.fwd ++ [b] } } else s.queuePdu now (leAt b 8 4) e.1 e.2 := by
  unfold State.dispTake
  rw [h]

/-! The ports. -/

theorem execPortLinkChange_stores (p : PortId) (b : Bool) (s : State) :
    Completes (.portLinkChange p b) s fun t => t.plk.link = s.plk.link.set p.idx b ∧ t.sag = s.sag ∧ t.sys = s.sys := by
  refine ⟨_, rfl, ?_⟩
  dsimp only
  rw [State.reselect_plk, State.reselect_sag, State.reselect_sys]
  cases b <;> exact ⟨rfl, rfl, rfl⟩

theorem execNetworkServiceFrame_whole {s : State} {p : PortId} {f : SvcFrame} (h1 : s.up 9 = true) (h2 : f.frag = false) :
    exec (.networkServiceFrame p f) s = match s.netServe p f with
      | none => .next s
      | some a => .next { s with plk := { s.plk with service := s.plk.service.set p.idx (some a) } } :=
  (if_neg (by simp [h1]) : execNetworkServiceFrame p f s = _).trans (if_neg (by simp [h2]))

/-- R383: an address is answered for where it is the port's own. -/
theorem State.netServe_own {s : State} {p : PortId} {f a : SvcFrame} (h : s.netServe p f = some a) (hk : f.kind = .arp ∨ f.kind = .nd) :
    f.dst ∈ s.ownAddrs p := by
  unfold State.netServe at h
  extract_lets four own ours a0 at h
  have hown : own.contains f.dst = true → f.dst ∈ s.ownAddrs p := fun hc => (List.mem_filter.mp (List.contains_iff_mem.mp hc)).1
  have hc := (Option.ite_none_left_eq_some.mp h).2
  rcases hk with hk | hk
  · rw [hk] at hc
    exact hown (Option.ite_none_right_eq_some.mp hc).1
  · rw [hk] at hc
    exact hown (Option.ite_none_right_eq_some.mp hc).1

/-- R383: an answer to a frame of a service. -/
theorem State.netServe_answers {s : State} {p : PortId} {f a : SvcFrame} (h : s.netServe p f = some a) : f.vlan = s.vlan p ∧ a.vlan = s.vlan p ∧
    a.kind = f.kind ∧ a.mac = nth s.sys.mac p.idx 0 ∧ (f.kind = .echo4 ∨ f.kind = .echo6 → a.data = f.data) := by
  unfold State.netServe at h
  extract_lets four own ours a0 at h
  obtain ⟨hv, hc⟩ := Option.ite_none_left_eq_some.mp h
  refine ⟨Classical.not_not.mp hv, ?_⟩
  cases hk : f.kind with
  | arp | nd | igmp | mld =>
    rw [hk] at hc
    simp only [Option.ite_none_right_eq_some, Option.ite_none_left_eq_some, Option.some.injEq] at hc
    obtain ⟨-, rfl⟩ := hc
    exact ⟨rfl, by simp [a0, hk], rfl, by simp⟩
  | echo4 | echo6 =>
    rw [hk] at hc
    simp only [Option.ite_none_right_eq_some, Option.some.injEq] at hc
    obtain ⟨-, rfl⟩ := hc
    exact ⟨rfl, by simp [a0, hk], rfl, fun _ => rfl⟩

/-- Settles O42: acknowledgements, retries, dispatch PDUs by their SEQ, and the ports. -/
theorem attentionAndDispatchOnTheLink : Obligations.AttentionAndDispatchOnTheLink := by
  unfold Obligations.AttentionAndDispatchOnTheLink
  intro s
  refine ⟨fun x i y g hy hf => ?_, fun x i => execAttnAck_removes, fun n a i y m h1 h2 hf hm => ?_, fun n a i y m h1 h2 hf hm => ?_,
    fun n a i y h1 h2 hf => ?_, fun n a h => ?_, fun y m => Session.enqueue_takes m,
    fun p b now id h g => (State.datagram_ignored (s := s.atTime now) g _ : execDispatchPdu p b now id h s = _),
    fun p b now id h h1 h2 h3 => (State.datagram_discarded (s := s.atTime now) h1 h2 h3 _ : execDispatchPdu p b now id h s = _),
    fun p b now id h k g hk => ?_, fun p b now id h g hk ho => ?_, fun p b now h g hk h1 h2 => ?_, fun p b now h g hk h1 h2 => ?_,
    fun p b now h => State.dispTake_noEntry h p now, fun p b now e h hf => ?_, fun p k => rfl, fun p b => execPortLinkChange_stores p b s,
    fun p b now e h hf => ?_, fun p f h1 h2 => ?_, fun p f a h1 h2 h3 => ?_, fun p f h => ?_, fun p f a h => ?_⟩
  · rw [execAttnAck_ok g hy, hf]
  · have e := execAttnRetry_found h1 h2 (a := a)
    rw [hf] at e
    exact ⟨_, e.trans (if_neg (Nat.not_le.mpr hm)), rfl, rfl⟩
  · have ha : m.aseq = a.toNat := by simpa using List.find?_some hf
    refine ⟨s.attnDrop i y m, (execAttnRetry_found h1 h2).trans ?_, fun z hz q hq => ha ▸ State.attnDrop_queue h2 hz hq⟩
    rw [hf]
    exact if_pos hm
  · rw [execAttnRetry_found h1 h2, hf]
  · show execAttnRetry n a s = _
    unfold execAttnRetry
    rw [h]
  · rw [execDispatchPdu_lands g, hk]
  · rw [execDispatchPdu_lands g, hk]
    rcases ho with ho | ho | ⟨h1, h2⟩
    · exact congrArg Host.Outcome.next (if_pos (by simp [ho]))
    · exact congrArg Host.Outcome.next (if_pos (by simp [ho]))
    · refine congrArg Host.Outcome.next ?_
      rw [if_neg (Nat.one_le_iff_ne_zero.mp h1), if_pos h2]
      exact ite_self _
  · rw [execDispatchPdu_lands g, hk]
    exact congrArg Host.Outcome.next ((if_neg (by simp [h1])).trans (if_pos h2))
  · rw [execDispatchPdu_lands g, hk]
    exact congrArg Host.Outcome.next ((if_neg (by simp [h1])).trans ((if_neg (by omega)).trans (if_neg (Nat.not_le.mpr h2))))
  · rw [State.dispTake_entry h, if_neg (by simp [hf])]
  · rw [State.dispTake_entry h, if_pos hf]
  · exact (if_neg (by simp [h1]) : execNetworkServiceFrame p f s = _).trans (if_pos h2)
  · rw [execNetworkServiceFrame_whole h1 h2, h3]
  · cases h1 : s.up 9 with
    | false => exact (if_pos (by simp [h1]) : execNetworkServiceFrame p f s = _)
    | true =>
      obtain ⟨h2, h3⟩ := h.resolve_left (by simp [h1])
      rw [execNetworkServiceFrame_whole h1 h2, h3]
  · obtain ⟨h1, h2, h3, h4, h5⟩ := State.netServe_answers h
    exact ⟨h1, h2, h3, h4, h5, State.netServe_own h⟩

end Sys2Proof.Machine

/-! The lamplighter (R406 to R424). -/

namespace Sys2Proof.Machine

/-! The data sets of a port. -/

theorem Announced.better_eq_or (x y : Announced) : x.better y = x ∨ x.better y = y := by
  unfold Announced.better
  split
  · exact .inr rfl
  · exact .inl rfl

theorem Announced.better_le (x y : Announced) : (x.better y).rank ≤ x.rank ∧ (x.better y).rank ≤ y.rank := by
  unfold Announced.better
  split
  · next h => exact ⟨Nat.le_of_lt h, Nat.le_refl _⟩
  · next h => exact ⟨Nat.le_refl _, Nat.not_lt.mp h⟩

theorem foldl_better_mem (l : List Announced) (a : Announced) : l.foldl Announced.better a ∈ a :: l := by
  induction l generalizing a with
  | nil => exact List.mem_singleton_self a
  | cons x l ih =>
    have h := ih (a.better x)
    rw [List.foldl_cons]
    rcases List.mem_cons.mp h with h | h
    · rw [h]
      rcases a.better_eq_or x with e | e
      · rw [e]
        exact List.mem_cons_self ..
      · rw [e]
        exact List.mem_cons_of_mem _ (List.mem_cons_self ..)
    · exact List.mem_cons_of_mem _ (List.mem_cons_of_mem _ h)

theorem foldl_better_le (l : List Announced) (a : Announced) : ∀ x ∈ a :: l, (l.foldl Announced.better a).rank ≤ x.rank := by
  induction l generalizing a with
  | nil =>
    intro x hx
    rw [List.mem_singleton.mp hx]
    exact Nat.le_refl _
  | cons y l ih =>
    have hb := ih (a.better y) (a.better y) (List.mem_cons_self ..)
    obtain ⟨h1, h2⟩ := a.better_le y
    intro x hx
    rw [List.foldl_cons]
    rcases List.mem_cons.mp hx with rfl | hx
    · exact Nat.le_trans hb h1
    · rcases List.mem_cons.mp hx with rfl | hx
      · exact Nat.le_trans hb h2
      · exact ih _ x (List.mem_cons_of_mem _ hx)

/-- R409: the best data set is one of the port's, of lowest rank. -/
theorem PtpPort.best_best {x : PtpPort} {b : Announced} (h : x.best = some b) : b ∈ x.heard ∧ ∀ a ∈ x.heard, b.rank ≤ a.rank := by
  unfold PtpPort.best at h
  split at h
  · cases h
  · next a as e =>
    cases h
    rw [e]
    exact ⟨foldl_better_mem as a, foldl_better_le as a⟩

theorem PtpPort.best_none_iff {x : PtpPort} : x.best = none ↔ x.heard = [] := by
  unfold PtpPort.best
  split
  · next h => simp [h]
  · next h => simp [h]

theorem PtpPort.selected_heard (x : PtpPort) (me : PortId) (b : Option PortId) : (x.selected me b).heard = x.heard := by
  unfold PtpPort.selected
  split
  · rfl
  · split <;> rfl

/-- R409: the ports once the best of them has been selected. -/
def State.selectedPorts (s : State) : List PtpPort := [(s.ptp .a).selected .a s.bestPort, (s.ptp .b).selected .b s.bestPort]

theorem State.reselect_none {s : State} (h : s.bestPort = none) : s.reselect = { s with lmp := { s.lmp with ports := s.selectedPorts } } := by
  unfold State.reselect State.selectedPorts
  rw [h]

/-- R409: the source that a selection names. -/
theorem State.reselect_some {s : State} {p : PortId} (h : s.bestPort = some p) : ∃ g b, s.reselect = { s with lmp := { s.lmp with
    ports := s.selectedPorts, port := p.idx, gmId := g, src := ((s.ptp p).best.getD { sender := 0, rank := 0, gm := 0 }).sender, moved := b } } := by
  unfold State.reselect State.selectedPorts
  rw [h]
  exact ⟨_, _, rfl⟩

theorem State.reselect_source {s : State} {p : PortId} (h : s.bestPort = some p) :
    s.reselect.lmp.port = p.idx ∧ s.reselect.lmp.src = ((s.ptp p).best.getD { sender := 0, rank := 0, gm := 0 }).sender := by
  obtain ⟨g, b, e⟩ := State.reselect_some h
  rw [e]
  exact ⟨rfl, rfl⟩

theorem State.reselect_sets (s : State) : s.reselect.lmp.ports = s.selectedPorts ∧ s.reselect = { s with lmp := s.reselect.lmp } ∧
    s.reselect.lmp.st = s.lmp.st := by
  cases h : s.bestPort with
  | none =>
    rw [State.reselect_none h]
    exact ⟨rfl, rfl, rfl⟩
  | some p =>
    obtain ⟨g, b, e⟩ := State.reselect_some h
    rw [e]
    exact ⟨rfl, rfl, rfl⟩

theorem State.reselect_only_lmp (s : State) : s.reselect = { s with lmp := s.reselect.lmp } := s.reselect_sets.2.1

theorem State.reselect_st (s : State) : s.reselect.lmp.st = s.lmp.st := s.reselect_sets.2.2

/-- R409: what a selection leaves of the ports: the data sets heard. -/
theorem State.reselect_heard (s : State) (p : PortId) : (s.reselect.ptp p).heard = (s.ptp p).heard := by
  have e : s.reselect.ptp p = nth s.selectedPorts p.idx {} := congrArg (fun l : List PtpPort => nth l p.idx {}) s.reselect_sets.1
  rw [e]
  cases p
  · exact PtpPort.selected_heard _ _ _
  · exact PtpPort.selected_heard _ _ _

theorem State.modPtp_ptp {s : State} {p : PortId} (f : PtpPort → PtpPort) (h : p.idx < s.lmp.ports.length) : (s.modPtp p f).ptp p = f (s.ptp p) :=
  nth_modify_self h f {}

theorem State.modPtp_other {s : State} {p q : PortId} (f : PtpPort → PtpPort) (h : p ≠ q) : (s.modPtp p f).ptp q = s.ptp q :=
  nth_modify_ne s.lmp.ports (by cases p <;> cases q <;> simp_all [PortId.idx]) f {}

/-- R409: a port there is not has heard nothing. -/
theorem State.ptp_absent {s : State} {p : PortId} (h : ¬ p.idx < s.lmp.ports.length) : (s.ptp p).heard = [] := by
  show (nth s.lmp.ports p.idx {}).heard = []
  simp [nth, List.getElem?_eq_none (Nat.not_lt.mp h)]

/-- R409: forgetting takes away the best data set and no other. -/
theorem PtpPort.forget_heard {x : PtpPort} {b : Announced} (h : x.best = some b) : x.forget.heard = x.heard.filter (fun y => y.sender != b.sender) := by
  unfold PtpPort.forget
  rw [h]

theorem PtpPort.forget_none {x : PtpPort} (h : x.best = none) : x.forget = x := by
  unfold PtpPort.forget
  rw [h]

theorem execPtpAnnounceRx_joins {s : State} {m : PtpMsg} (r : Nat) (g : BitVec 64) (h1 : s.ptpMine m = true) (h2 : m.port.idx < s.lmp.ports.length) :
    Completes (.ptpAnnounceRx m r g) s fun t =>
      { sender := m.sender, rank := r, gm := g.toNat } ∈ (t.ptp m.port).heard ∧
      (∀ a ∈ (s.ptp m.port).heard, a.sender ≠ m.sender → a ∈ (t.ptp m.port).heard) ∧ t = { s with lmp := t.lmp } := by
  refine ⟨_, congrArg Host.Outcome.next (if_pos h1), ?_⟩
  dsimp only
  rw [State.reselect_heard, State.modPtp_ptp _ h2]
  refine ⟨List.mem_append_right _ (List.mem_singleton_self _), fun a ha hn => List.mem_append_left _ (List.mem_filter.mpr ⟨ha, by simpa using hn⟩), ?_⟩
  exact State.reselect_only_lmp _

theorem execAnnounceTimeout_forgets (p : PortId) (s : State) : Completes (.announceTimeout p) s fun t => t = { s with lmp := t.lmp } ∧
    ∀ b, (s.ptp p).best = some b →
      (∀ a ∈ (t.ptp p).heard, a.sender ≠ b.sender) ∧ (∀ a ∈ (s.ptp p).heard, a.sender ≠ b.sender → a ∈ (t.ptp p).heard) := by
  refine ⟨_, rfl, State.reselect_only_lmp _, fun b hb => ?_⟩
  have hp : p.idx < s.lmp.ports.length := by
    refine Classical.byContradiction fun hn => ?_
    have hm := (PtpPort.best_best hb).1
    rw [State.ptp_absent hn] at hm
    cases hm
  have hh : ((s.modPtp p (fun x => { x.forget with lastSync := none })).ptp p).heard = (s.ptp p).heard.filter (fun y => y.sender != b.sender) := by
    rw [State.modPtp_ptp _ hp]
    exact PtpPort.forget_heard hb
  rw [State.reselect_heard, hh]
  exact ⟨fun a ha => by simpa using (List.mem_filter.mp ha).2, fun a ha hn => List.mem_filter.mpr ⟨ha, by simpa using hn⟩⟩

/-! Sync and delay messages. -/

theorem execPtpSyncRx_source {s : State} {m : PtpMsg} {k : Int} (i : Int) (o : Option Int) (ms : Nat) (h1 : s.ptpMine m = true)
    (h2 : s.isSource m = true) (h3 : -7 ≤ k) (h4 : k ≤ 0) : exec (.ptpSyncRx m k i o ms) s = match o with
      | some o => .next (s.syncDone m (s.ingressPs m.port i) o ms)
      | none => .next (s.modPtp m.port (fun x => { x with syncWait := some (m.seq, s.ingressPs m.port i) })) :=
  (if_neg (by simp [h1, h2, h3, h4]) : execPtpSyncRx m k i o ms s = _)

theorem execPtpSyncRx_none {s : State} {m : PtpMsg} {k : Int} (i : Int) (o : Option Int) (ms : Nat)
    (h : s.ptpMine m = false ∨ s.isSource m = false ∨ k < -7 ∨ 0 < k) : exec (.ptpSyncRx m k i o ms) s = .next s := by
  refine (if_pos ?_ : execPtpSyncRx m k i o ms s = _)
  rcases h with h | h | h | h <;> simp [h]

theorem execPtpFollowUpRx_source {s : State} {m : PtpMsg} (o : Int) (ms : Nat) (h1 : s.ptpMine m = true) (h2 : s.isSource m = true) :
    exec (.ptpFollowUpRx m o ms) s = match (s.ptp m.port).syncWait with
      | some (q, t) => .next (if q = m.seq then s.syncDone m t o ms else s)
      | none => .next s :=
  (if_neg (by simp [h1, h2]) : execPtpFollowUpRx m o ms s = _)

theorem execPtpFollowUpRx_none {s : State} {m : PtpMsg} (o : Int) (ms : Nat) (h : s.ptpMine m = false ∨ s.isSource m = false ∨
    ∀ t, (s.ptp m.port).syncWait ≠ some (m.seq, t)) : exec (.ptpFollowUpRx m o ms) s = .next s := by
  by_cases h1 : s.ptpMine m = true ∧ s.isSource m = true
  · rw [execPtpFollowUpRx_source o ms h1.1 h1.2]
    have h2 := (h.resolve_left (by simp [h1.1])).resolve_left (by simp [h1.2])
    cases hw : (s.ptp m.port).syncWait with
    | none => rfl
    | some w =>
      refine congrArg Host.Outcome.next (if_neg fun hq => h2 w.2 ?_)
      rw [hw, ← hq]
  · refine (if_pos ?_ : execPtpFollowUpRx m o ms s = _)
    rcases Decidable.not_and_iff_or_not.mp h1 with h1 | h1 <;> simp [h1]

theorem State.timeTo_secAt (s : State) (st : LmpSt) : (s.timeTo st).lmp.secAt = s.lmp.secAt := by
  unfold State.timeTo
  split
  · rfl
  · rw [State.attn_lmp, State.logPost_lmp]

theorem State.timeTo_st (s : State) (st : LmpSt) : (s.timeTo st).lmp.st = st := by
  unfold State.timeTo
  split
  · assumption
  · rw [State.attn_lmp, State.logPost_lmp]

theorem State.loadSecMark_secAt (s : State) : s.loadSecMark.lmp.secAt = s.lmp.secAt := by
  unfold State.loadSecMark
  split
  · rfl
  · split <;> rfl

/-- R413: an offset taken leaves the next second as it was found. -/
theorem State.takeOffset_secAt (s0 : State) (off : Int) (ms : Nat) : (s0.takeOffset off ms).lmp.secAt = s0.lmp.secAt := by
  unfold State.takeOffset
  have h : (({ s0 with lmp := { s0.lmp with offset := off } }.applyAt (.on .offset)).servo off ms).lmp.secAt = s0.lmp.secAt := rfl
  generalize ({ s0 with lmp := { s0.lmp with offset := off } }.applyAt (.on .offset)).servo off ms = s at h
  dsimp only
  rw [← h]
  cases s.lmp.st with
  | freerun => exact State.timeTo_secAt _ _
  | holdover => exact State.timeTo_secAt _ _
  | acquiring =>
    dsimp only
    split
    · rfl
    · split
      · rfl
      · split
        · exact (State.timeTo_secAt _ _).trans (State.loadSecMark_secAt _)
        · rfl
  | locked =>
    dsimp only
    split
    · split
      · rfl
      · exact State.timeTo_secAt _ _
    · rfl

theorem execPtpPdelayReqRx_none {s : State} {m : PtpMsg} (h : s.ptpMine m = false ∨ s.peer m.port = false) : exec (.ptpPdelayReqRx m) s = .next s := by
  refine congrArg Host.Outcome.next (if_neg ?_)
  rcases h with h | h <;> simp [h]

/-- R411: the response to the request that waits. -/
theorem execPtpDelayRespRx_mine {s : State} {m : PtpMsg} (rx tx i : Int) (h : s.ptpMine m = true) : exec (.ptpDelayRespRx m rx tx i) s =
    match (s.ptp m.port).reqWait with
    | none => .next s
    | some (q, egress) =>
      if q ≠ m.seq then .next s
      else match s.meanDelay m.port egress rx tx i m.corr with
        | none => .next s
        | some d => .next (if s.lmp.port = m.port.idx then
            { s.modPtp m.port (fun x => { x with reqWait := none, delay := d + s.par (P.lmpAsymA + m.port.idx) }) with
              lmp := { (s.modPtp m.port (fun x => { x with reqWait := none, delay := d + s.par (P.lmpAsymA + m.port.idx) })).lmp with
                mpd := divFree 96 d 1000 } }
          else s.modPtp m.port (fun x => { x with reqWait := none, delay := d + s.par (P.lmpAsymA + m.port.idx) })) :=
  (if_neg (by simp [h]) : execPtpDelayRespRx m rx tx i s = _)

theorem execPtpDelayRespRx_notMine {s : State} {m : PtpMsg} (rx tx i : Int) (h : s.ptpMine m = false) : exec (.ptpDelayRespRx m rx tx i) s = .next s :=
  (if_pos (by simp [h]) : execPtpDelayRespRx m rx tx i s = _)

theorem execPtpDelayRespRx_none {s : State} {m : PtpMsg} (rx tx i : Int) (h : (∀ e, (s.ptp m.port).reqWait ≠ some (m.seq, e)) ∨
    ∃ e, (s.ptp m.port).reqWait = some (m.seq, e) ∧ s.meanDelay m.port e rx tx i m.corr = none) : exec (.ptpDelayRespRx m rx tx i) s = .next s := by
  cases hm : s.ptpMine m with
  | false => exact execPtpDelayRespRx_notMine rx tx i hm
  | true =>
    rw [execPtpDelayRespRx_mine rx tx i hm]
    cases hw : (s.ptp m.port).reqWait with
    | none => rfl
    | some w =>
      rw [hw] at h
      by_cases hq : w.1 = m.seq
      · obtain ⟨e, he, hn⟩ := h.resolve_left fun ha => ha w.2 (by rw [← hq])
        cases he
        dsimp only
        rw [if_neg (not_not_intro rfl), hn]
      · exact if_pos hq

theorem execPtpDelayRespRx_measures {s : State} {m : PtpMsg} {rx tx i e d : Int} (h1 : s.ptpMine m = true)
    (h2 : (s.ptp m.port).reqWait = some (m.seq, e)) (h3 : s.meanDelay m.port e rx tx i m.corr = some d) (h4 : m.port.idx < s.lmp.ports.length) :
    Completes (.ptpDelayRespRx m rx tx i) s fun t => (t.ptp m.port).delay = d + s.par (P.lmpAsymA + m.port.idx) ∧
      (t.ptp m.port).reqWait = none ∧ t = { s with lmp := t.lmp } := by
  have hp := State.modPtp_ptp (s := s) (p := m.port) (fun x => { x with reqWait := none, delay := d + s.par (P.lmpAsymA + m.port.idx) }) h4
  have e := execPtpDelayRespRx_mine rx tx i h1
  rw [h2] at e
  dsimp only at e
  rw [if_neg (not_not_intro rfl), h3] at e
  refine ⟨_, e, ?_⟩
  split
  · exact ⟨congrArg PtpPort.delay hp, congrArg PtpPort.reqWait hp, rfl⟩
  · exact ⟨congrArg PtpPort.delay hp, congrArg PtpPort.reqWait hp, rfl⟩

/-! The loss of the source. -/

/-- R414: the port of the source. -/
def State.srcPort (s : State) : PortId := if s.lmp.port = 0 then .a else .b

/-- R414: the other port. -/
def State.sparePort (s : State) : PortId := if s.lmp.port = 0 then .b else .a

theorem State.srcPort_ne (s : State) : s.srcPort ≠ s.sparePort := by
  unfold State.srcPort State.sparePort
  split <;> simp

theorem State.sparePort_idx (s : State) : s.sparePort.idx ≠ s.lmp.port := by
  unfold State.sparePort
  split
  · next h => simp [h, PortId.idx]
  · next h => exact fun he => h he.symm

/-- R414: the source's port has lost its Sync. -/
def State.syncDropped (s : State) : State :=
  s.modPtp s.srcPort (fun x => { x with st := if x.st = .timeReceiver then .uncalibrated else x.st, lastSync := none, syncWait := none })

/-- R414: the source's data set is forgotten. -/
def State.srcForgotten (s : State) : State := s.syncDropped.modPtp s.srcPort PtpPort.forget

theorem State.sourceLost_eq (s : State) : s.sourceLost = if s.srcForgotten.bestPort.isSome then s.srcForgotten.reselect else s.syncDropped := rfl

theorem State.syncDropped_heard (s : State) : (s.syncDropped.ptp s.srcPort).heard = (s.ptp s.srcPort).heard := by
  by_cases h : s.srcPort.idx < s.lmp.ports.length
  · unfold State.syncDropped
    rw [State.modPtp_ptp _ h]
  · rw [State.ptp_absent h]
    exact State.ptp_absent (by simpa [State.syncDropped, State.modPtp] using h)

theorem PtpPort.best_congr {x y : PtpPort} (h : x.heard = y.heard) : x.best = y.best := by
  unfold PtpPort.best
  rw [h]

theorem State.srcForgotten_spare (s : State) : s.srcForgotten.ptp s.sparePort = s.ptp s.sparePort :=
  (State.modPtp_other _ s.srcPort_ne).trans (State.modPtp_other _ s.srcPort_ne)

/-- R414: what the source's port has heard beside its best data set. -/
theorem State.srcForgotten_heard {s : State} {b : Announced} (h : (s.ptp s.srcPort).best = some b) :
    (s.srcForgotten.ptp s.srcPort).heard = (s.ptp s.srcPort).heard.filter (fun y => y.sender != b.sender) := by
  have hp : s.srcPort.idx < s.lmp.ports.length := by
    refine Classical.byContradiction fun hn => ?_
    have hm := (PtpPort.best_best h).1
    rw [State.ptp_absent hn] at hm
    cases hm
  have hp' : s.srcPort.idx < s.syncDropped.lmp.ports.length := by simpa [State.syncDropped, State.modPtp] using hp
  unfold State.srcForgotten
  rw [State.modPtp_ptp _ hp', PtpPort.forget_heard ((PtpPort.best_congr s.syncDropped_heard).trans h), s.syncDropped_heard]

theorem State.srcForgotten_none {s : State} (h : (s.ptp s.srcPort).heard = []) : (s.srcForgotten.ptp s.srcPort).heard = [] := by
  by_cases hp : s.srcPort.idx < s.syncDropped.lmp.ports.length
  · unfold State.srcForgotten
    rw [State.modPtp_ptp _ hp, PtpPort.forget_none (PtpPort.best_none_iff.mpr (s.syncDropped_heard.trans h))]
    exact s.syncDropped_heard.trans h
  · exact State.ptp_absent (by simpa [State.srcForgotten, State.modPtp] using hp)

/-- R409: a port that has heard something is a candidate. -/
theorem State.bestPort_none_iff (s : State) : s.bestPort = none ↔ (s.ptp .a).heard = [] ∧ (s.ptp .b).heard = [] := by
  rw [← PtpPort.best_none_iff, ← PtpPort.best_none_iff]
  unfold State.bestPort
  cases (s.ptp .a).best <;> cases (s.ptp .b).best <;> simp

theorem State.bestPort_none_src (s t : State) : t.bestPort = none ↔ (t.ptp s.srcPort).heard = [] ∧ (t.ptp s.sparePort).heard = [] := by
  rw [State.bestPort_none_iff]
  unfold State.srcPort State.sparePort
  split
  · rfl
  · exact and_comm

theorem State.bestPort_heard {s : State} {p : PortId} (h : s.bestPort = some p) : (s.ptp p).best.isSome = true := by
  unfold State.bestPort at h
  cases ha : (s.ptp .a).best with
  | none =>
    cases hb : (s.ptp .b).best with
    | none => simp [ha, hb] at h
    | some y =>
      simp only [ha, hb, Option.some.injEq] at h
      simp [← h, hb]
  | some x =>
    cases hb : (s.ptp .b).best with
    | none =>
      simp only [ha, hb, Option.some.injEq] at h
      simp [← h, ha]
    | some y =>
      simp only [ha, hb, Option.some.injEq] at h
      rw [← h]
      split
      · simp [hb]
      · simp [ha]

theorem PortId.src_or_spare (s : State) (p : PortId) : p = s.srcPort ∨ p = s.sparePort := by
  unfold State.srcPort State.sparePort
  cases p <;> split <;> simp

theorem execSyncLoss_holds {s : State} (h1 : s.lmp.st = .locked) (h2 : (s.ptp s.sparePort).heard = [])
    (h3 : ∀ a ∈ (s.ptp s.srcPort).heard, a.sender = s.lmp.src) : Completes .syncLoss s fun t => t.lmp.st = .holdover := by
  have hn : s.srcForgotten.bestPort = none := by
    rw [State.bestPort_none_src s, s.srcForgotten_spare]
    refine ⟨?_, h2⟩
    cases hb : (s.ptp s.srcPort).best with
    | none => exact State.srcForgotten_none (PtpPort.best_none_iff.mp hb)
    | some b =>
      rw [State.srcForgotten_heard hb, List.filter_eq_nil_iff]
      intro a ha
      simp [h3 a ha, h3 b (PtpPort.best_best hb).1]
  have e : s.sourceLost = s.syncDropped := by rw [State.sourceLost_eq, hn]; rfl
  refine ⟨s.syncDropped.timeTo .holdover, ?_, State.timeTo_st _ _⟩
  show execSyncLoss s = _
  unfold execSyncLoss
  rw [e, h1]
  refine congrArg Host.Outcome.next (if_neg ?_)
  simp [State.syncDropped, State.modPtp]

theorem execSyncLoss_moves {s : State} (h1 : s.lmp.st = .locked) (h2 : ∀ b, (s.ptp s.srcPort).best = some b → b.sender = s.lmp.src)
    (h3 : (s.ptp s.sparePort).heard ≠ [] ∨ ∃ a ∈ (s.ptp s.srcPort).heard, a.sender ≠ s.lmp.src) :
    Completes .syncLoss s fun t => t = { s with lmp := t.lmp } ∧ t.lmp.st = .locked ∧ (t.lmp.port ≠ s.lmp.port ∨ t.lmp.src ≠ s.lmp.src) := by
  have hs : s.srcForgotten.bestPort ≠ none := by
    rw [Ne, State.bestPort_none_src s, s.srcForgotten_spare]
    rintro ⟨hn, hn2⟩
    obtain ⟨a, ha, hne⟩ := h3.resolve_left (not_not_intro hn2)
    cases hb : (s.ptp s.srcPort).best with
    | none => simp [PtpPort.best_none_iff.mp hb] at ha
    | some b =>
      rw [State.srcForgotten_heard hb, List.filter_eq_nil_iff] at hn
      exact hn a ha (by simp [h2 b hb, hne])
  obtain ⟨p, hp⟩ := Option.ne_none_iff_exists'.mp hs
  have e : s.sourceLost = s.srcForgotten.reselect := by rw [State.sourceLost_eq, hp]; rfl
  obtain ⟨e1, e2⟩ := State.reselect_source hp
  have hmoved : s.srcForgotten.reselect.lmp.src ≠ s.lmp.src ∨ s.srcForgotten.reselect.lmp.port ≠ s.lmp.port := by
    rcases PortId.src_or_spare s p with rfl | rfl
    · left
      obtain ⟨c, hc⟩ := Option.isSome_iff_exists.mp (State.bestPort_heard hp)
      rw [e2, hc]
      have hm := (PtpPort.best_best hc).1
      cases hb : (s.ptp s.srcPort).best with
      | none => simp [State.srcForgotten_none (PtpPort.best_none_iff.mp hb)] at hm
      | some b =>
        rw [State.srcForgotten_heard hb] at hm
        simpa [h2 b hb] using (List.mem_filter.mp hm).2
    · right
      rw [e1]
      exact s.sparePort_idx
  refine ⟨s.srcForgotten.reselect, ?_, State.reselect_only_lmp _, (State.reselect_st _).trans h1, hmoved.symm⟩
  show execSyncLoss s = _
  unfold execSyncLoss
  rw [e, h1]
  exact congrArg Host.Outcome.next (if_pos hmoved)

theorem execSyncLoss_acquiring {s : State} (h : s.lmp.st = .acquiring) : Completes .syncLoss s fun t => t.lmp.st = .freerun := by
  refine ⟨s.sourceLost.timeTo .freerun, ?_, State.timeTo_st _ _⟩
  show execSyncLoss s = _
  unfold execSyncLoss
  rw [h]

theorem execSyncLoss_none {s : State} (h : s.lmp.st = .freerun ∨ s.lmp.st = .holdover) : exec .syncLoss s = .next s := by
  show execSyncLoss s = _
  unfold execSyncLoss
  rcases h with h | h <;> rw [h]

/-! The marks and the triggers. -/

/-- R417: the second mark at a time of the clock. -/
def State.marked (s : State) (n : Nat) : State := { s with lmp := { s.lmp with secMark := n } }

theorem State.marked_lmp (s : State) (n : Nat) : (s.marked n).lmp.secMark = n ∧ (s.marked n).lmp.time = s.lmp.time := ⟨rfl, rfl⟩

theorem execSecMarkReached_marks {s : State} (h : s.lmp.secValid = true) :
    Completes .secMarkReached s fun t => t.lmp.secMark = addT s.lmp.secMark 1000000000 ∧ t.lmp.time = s.lmp.time := by
  refine ⟨(s.marked (addT s.lmp.secMark 1000000000)).slotZero, congrArg Host.Outcome.next (if_pos h), ?_⟩
  dsimp only
  rw [State.slotZero_lmp]
  exact s.marked_lmp _


theorem State.fire_lmp (s : State) (k : Nat) : (s.fire k).lmp = { s.lmp with fired := s.lmp.fired.set k true, armed := s.lmp.armed.set k false } :=
  State.attn_lmp _ _ _ _

/-- R419: a trigger written arms, or fires where its time is past. -/
theorem execLmpTrig_up {s : State} {k : Fin 4} {w : Word} (h : s.up 9 = true) : exec (.lmpTrig k w) s =
    .next (if reached s.lmp.time w.toNat then
      ({ s with lmp := { s.lmp with trig := s.lmp.trig.set k.val w.toNat, armed := s.lmp.armed.set k.val true } } : State).fire k.val
    else { s with lmp := { s.lmp with trig := s.lmp.trig.set k.val w.toNat, armed := s.lmp.armed.set k.val true } }) :=
  (State.hostWrite_up _ h : execLmpTrig k w s = _)

/-- Settles O43: the data sets, Sync and delay, the loss of the source, the marks and the triggers. -/
theorem lamplighterFollowsTime : Obligations.LamplighterFollowsTime := by
  unfold Obligations.LamplighterFollowsTime
  intro s
  refine ⟨fun m r g o y ms t x h => ⟨?_, execPtpSyncRx_none _ _ _ (.inl h), execPtpFollowUpRx_none _ _ (.inl h),
      execPtpPdelayReqRx_none (.inl h), execPtpDelayRespRx_notMine _ _ _ h⟩, fun m r g => execPtpAnnounceRx_joins r g,
    fun x b => PtpPort.best_best, fun m k i ms h1 h2 h3 h4 => execPtpSyncRx_source i none ms h1 h2 h3 h4,
    fun m k i o ms h1 h2 h3 h4 => execPtpSyncRx_source i (some o) ms h1 h2 h3 h4, fun m k i o ms h => execPtpSyncRx_none i o ms (.inr h),
    fun m o ms t h1 h2 h3 => ?_, fun m o ms h => execPtpFollowUpRx_none o ms (.inr h), fun m i o ms => ?_,
    fun p e h => congrArg Host.Outcome.next (if_pos h), fun p e h => congrArg Host.Outcome.next (if_neg (by simp [h])),
    fun m h1 h2 => congrArg Host.Outcome.next (if_pos (by simp [h1, h2])), fun m h => execPtpPdelayReqRx_none (.inr h),
    fun m rx tx i e d => execPtpDelayRespRx_measures, fun m rx tx i h => execPtpDelayRespRx_none rx tx i (.inl h),
    fun m rx tx i e h1 h2 => execPtpDelayRespRx_none rx tx i (.inr ⟨e, h1, h2⟩), fun p => execAnnounceTimeout_forgets p s,
    execSyncLoss_acquiring, execSyncLoss_holds, execSyncLoss_moves, execSyncLoss_none, fun h => ?_,
    fun h => congrArg Host.Outcome.next (if_neg h), execSecMarkReached_marks, fun h => congrArg Host.Outcome.next (if_neg (by simp [h])),
    fun a b h => congrArg Host.Outcome.next (if_neg (by simp [h])), fun a b h => congrArg Host.Outcome.next (if_pos h), fun k w h1 h2 => ?_,
    fun k w h1 h2 => ?_, fun k h => ?_, fun k h => congrArg Host.Outcome.next (if_neg (by simp [h])),
    fun i w h => (State.hostWrite_up _ h : execLmpCorr i w s = _), fun k i w v h => ⟨?_, ?_⟩⟩
  · exact congrArg Host.Outcome.next (if_neg (by simp [h]))
  · rw [execPtpFollowUpRx_source o ms h1 h2, h3]
    exact congrArg Host.Outcome.next (if_pos rfl)
  · unfold State.syncDone
    rw [State.takeOffset_secAt]
    rfl
  · exact ⟨_, congrArg Host.Outcome.next (if_pos h), State.timeTo_st _ _⟩
  · exact (execLmpTrig_up h1).trans (congrArg Host.Outcome.next (if_neg (by simp [h2])))
  · refine ⟨_, (execLmpTrig_up h1).trans (congrArg Host.Outcome.next (if_pos h2)), ?_⟩
    dsimp only
    rw [State.fire_lmp]
    exact ⟨rfl, rfl, nth_set_self_false _ _⟩
  · refine ⟨_, congrArg Host.Outcome.next (if_pos h), ?_⟩
    dsimp only
    rw [State.fire_lmp]
    exact ⟨rfl, rfl⟩
  · exact (State.hostWrite_down _ h : execLmpTrig k w s = _)
  · exact (State.hostWrite_down _ h : execLmpCorr i v s = _)

end Sys2Proof.Machine

/-! The register window (R424 to R431) and the mailbox (R434 to R438). -/

namespace Sys2Proof.Machine

/-! Register writes. -/

section
variable {s : State} {a : Nat} {w still : Word} {src : Src} {r : Reg}

theorem State.writeReg_unmapped (h : regAt a = none) : s.writeReg a w still src = .next s := by
  unfold State.writeReg
  rw [h]

theorem State.writeReg_reserved (h : regAt a = some r) (h2 : w.toNat &&& r.reserved ≠ 0) :
    s.writeReg a w still src = .fault (.hostError .reservedBit) := by
  unfold State.writeReg
  rw [h]
  exact if_pos h2

theorem State.writeReg_to (h : regAt a = some r) (h2 : w.toNat &&& r.reserved = 0) : s.writeReg a w still src = s.writeTo r w still src := by
  unfold State.writeReg
  rw [h]
  exact if_neg (not_not_intro h2)

theorem State.plainWrite_answered (h : s.answers r = true) : s.plainWrite r = s := if_pos (by simp [h])

theorem State.plainWrite_absent (h : s.answers r = false) (h2 : r.shMask ≠ 0xFFFFFFFF) :
    s.plainWrite r = { s with sys := { s.sys with accAbsent := true } } := if_neg (by simp [h, h2])

theorem State.writeTo_permit : s.writeTo (.sys 26) w still src = s.hostWrite 3 (.next (s.writePermit w.toNat)) := by
  unfold State.writeTo
  exact if_pos rfl

/-- R428: a buffered setting is checked, then taken as an owner's write. -/
theorem State.writeTo_setting {k : Nat} (h : r = .par k ∨ ∃ p j, r = .phPar p j ∧ k = P.phase p (3 + j)) :
    s.writeTo r w still src = s.writeBw k w.toNat := by
  rcases h with rfl | ⟨p, j, rfl, rfl⟩
  · rfl
  · rfl

theorem State.writeTo_bank (b : Fin 2) (j : Fin 16384) : s.writeTo (.bank b.val j.val) w still src = execScheduleBankWrite b j w s :=
  dif_pos ⟨b.isLt, j.isLt⟩

theorem State.writeTo_doorbell (c : Nat) :
    s.writeTo (.mbx c) w still src = s.hostWrite 9 (.next (if bitOf w.toNat 0 then s.ring c src else s)) := rfl

theorem State.writeBw_outOfRange {k v : Nat} (h : s.settingOk k (settingVal k v) = false) : s.writeBw k v = .fault (.hostError .outOfRange) :=
  if_neg (by simp [h])

theorem State.writeBw_inRange {k v : Nat} (h : s.settingOk k (settingVal k v) = true) :
    s.writeBw k v = s.ownerWrite 3 (.next (s.putSetting k (settingVal k v))) := if_pos h

theorem State.writeRegs_cons {t : State} {l : List Word} (h : s.writeReg a w still src = .next t) :
    s.writeRegs src still a (w :: l) = t.writeRegs src still (a + 4) l := by
  show (match s.writeReg a w still src with | .next t => State.writeRegs t src still (a + 4) l | o => o) = _
  rw [h]

end

/-- Settles O44: the register that a word reaches, then that register's own write. -/
theorem registerWindowTakesWords : Obligations.RegisterWindowTakesWords := by
  unfold Obligations.RegisterWindowTakesWords
  intro s i w still src
  refine ⟨State.writeReg_unmapped, fun r => State.writeReg_reserved, fun r => State.writeReg_to,
    fun r => ⟨State.plainWrite_answered, State.plainWrite_absent⟩, fun h h2 h3 => ?_, fun h h2 h3 => ?_, fun k r h hr h2 => ⟨fun ho => ?_,
    fun ho h3 h4 => ?_, fun ho h3 h4 => ?_, fun ho h3 => ?_⟩, fun b j h => ?_, fun c h h2 => ⟨fun h3 => ?_, fun h3 => ?_⟩, fun a => rfl,
    fun a l t => State.writeRegs_cons, by decide⟩
  · exact ((State.writeReg_to h h2).trans State.writeTo_permit : execRegisterWrite i w still src s = _).trans (State.hostWrite_up _ h3)
  · exact ((State.writeReg_to h h2).trans State.writeTo_permit : execRegisterWrite i w still src s = _).trans (State.hostWrite_down _ h3)
  · exact ((State.writeReg_to h h2).trans (State.writeTo_setting hr) : execRegisterWrite i w still src s = _).trans (State.writeBw_outOfRange ho)
  · exact ((State.writeReg_to h h2).trans (State.writeTo_setting hr) : execRegisterWrite i w still src s = _).trans
      ((State.writeBw_inRange ho).trans (State.ownerWrite_up _ h3 h4))
  · exact ((State.writeReg_to h h2).trans (State.writeTo_setting hr) : execRegisterWrite i w still src s = _).trans
      ((State.writeBw_inRange ho).trans (State.ownerWrite_pilot _ h3 h4))
  · exact ((State.writeReg_to h h2).trans (State.writeTo_setting hr) : execRegisterWrite i w still src s = _).trans
      ((State.writeBw_inRange ho).trans (State.hostWrite_down _ h3))
  · exact ((State.writeReg_to h (Nat.and_zero _)).trans (State.writeTo_bank b j) : execRegisterWrite i w still src s = _)
  · exact ((State.writeReg_to h h2).trans (State.writeTo_doorbell c) : execRegisterWrite i w still src s = _).trans (State.hostWrite_up _ h3)
  · exact ((State.writeReg_to h h2).trans (State.writeTo_doorbell c) : execRegisterWrite i w still src s = _).trans (State.hostWrite_down _ h3)

/-! The mailbox. -/

theorem State.modCh_ch {s : State} {c : Nat} (f : Chan → Chan) (h : c < s.mbx.ch.length) : (s.modCh c f).ch c = f (s.ch c) :=
  nth_modify_self h f {}

/-- R437: a channel that has been answered. -/
def Chan.answer (x : Chan) (b : List Byte) : Chan :=
  { x with st := .done, req := none, repBuf := memPutL [] 0 b, doneCnt := (x.doneCnt + 1) % 65536, outcome := none, wasRunning := false }

theorem Chan.answer_sets (x : Chan) (b : List Byte) : (x.answer b).st = .done ∧ (x.answer b).req = none ∧
    (x.answer b).repBuf = memPutL [] 0 b ∧ (x.answer b).doneCnt = (x.doneCnt + 1) % 65536 := ⟨rfl, rfl, rfl, rfl⟩

/-- R437, R391: an answer stands in its channel, goes to the sessions that wait, and is shown by a monitor that waits. -/
theorem State.done_sets (s : State) (c code tag rc d : Nat) (b : List Byte) : ∃ p y, s.done c code tag rc d b =
    { s with mbx := (s.modCh c (·.answer (replyBytes code tag rc d b))).mbx, plk := p, spy := y } := by
  obtain ⟨p, e⟩ := (s.modCh c (fun x => x.answer (replyBytes code tag rc d b))).answerWait_sets c
    { type := 4, status := 0, payload := replyBytes code tag rc d b }
  exact ⟨_, _, congrArg (fun t : State => { t with spy := t.spy.answered c rc d b }) e⟩

theorem State.done_ch {s : State} {c : Nat} (h : c < s.mbx.ch.length) (code tag rc d : Nat) (b : List Byte) :
    (s.done c code tag rc d b).ch c = (s.ch c).answer (replyBytes code tag rc d b) := by
  obtain ⟨p, y, e⟩ := s.done_sets c code tag rc d b
  rw [e]
  exact State.modCh_ch (fun x => x.answer (replyBytes code tag rc d b)) h

theorem State.reply_request {s : State} {c : Nat} {rq : Request} (h : (s.ch c).req = some rq) (rc d : Nat) (b : List Byte) :
    ∃ p y l o, s.reply c rc d b = { s with
      mbx := { (s.modCh c (·.answer (replyBytes rq.code rq.tag rc d b))).mbx with long := l, order := o }, plk := p, spy := y } := by
  unfold State.reply
  rw [h]
  obtain ⟨p, y, e⟩ := s.done_sets c rq.code rq.tag rc d b
  dsimp only
  rw [e]
  exact ⟨p, y, _, _, rfl⟩

theorem State.reply_none {s : State} {c : Nat} (h : (s.ch c).req = none) (rc d : Nat) (b : List Byte) : s.reply c rc d b = s := by
  unfold State.reply
  rw [h]

/-- R437: what a reply leaves in its channel. -/
theorem State.reply_sets {s : State} {c : Nat} {rq : Request} (h : (s.ch c).req = some rq) (hc : c < s.mbx.ch.length) (rc d : Nat) (b : List Byte) :
    (s.reply c rc d b).ch c = (s.ch c).answer (replyBytes rq.code rq.tag rc d b) ∧
    s.reply c rc d b = { s with mbx := (s.reply c rc d b).mbx, plk := (s.reply c rc d b).plk, spy := (s.reply c rc d b).spy } := by
  obtain ⟨p, y, l, o, e⟩ := State.reply_request h rc d b
  rw [e]
  exact ⟨State.modCh_ch (fun x => x.answer (replyBytes rq.code rq.tag rc d b)) hc, rfl⟩

section
variable {s : State} {c : Fin 4} {src : Src}

theorem execMbxRing_up (h : s.up 9 = true) : exec (.mbxRing c src) s = .next (s.ring c.val src) := (State.hostWrite_up _ h : execMbxRing c src s = _)

theorem State.ring_used (h : (s.ch c.val).open = false) : s.ring c.val src = s := if_pos (by simp [h])

theorem execMbxRing_accepts (h1 : s.up 9 = true) (h2 : (s.ch c.val).open = true) (h3 : s.mbx.long = false) (h4 : s.sys.mgpAway = false)
    (h5 : c.val < s.mbx.ch.length) : Completes (.mbxRing c src) s fun t => (t.ch c.val).st = .queued ∧ (t.ch c.val).src = src ∧
      (t.ch c.val).req = some (requestOf (s.ch c.val).reqBuf) ∧ t.mbx.order = s.mbx.order ++ [c.val] ∧ t = { s with mbx := t.mbx } := by
  have e : s.ring c.val src = s.accept c.val src := (if_neg (by simp [h2])).trans (if_neg (by simp [h3, h4]))
  refine ⟨s.accept c.val src, (execMbxRing_up h1).trans (congrArg Host.Outcome.next e), ?_⟩
  have hc : (s.accept c.val src).ch c.val = _ := State.modCh_ch (fun x => { x with
    st := .queued, src := src, req := some (requestOf x.reqBuf), outcome := none, wasRunning := false, reqBuf := withoutSecrets x.reqBuf }) h5
  dsimp only
  rw [hc]
  exact ⟨rfl, rfl, rfl, rfl, rfl⟩

theorem execMbxRing_busy (h1 : s.up 9 = true) (h2 : (s.ch c.val).open = true) (h3 : s.mbx.long = true ∨ s.sys.mgpAway = true)
    (h5 : c.val < s.mbx.ch.length) : Completes (.mbxRing c src) s fun t => (t.ch c.val).st = .done ∧
      (t.ch c.val).doneCnt = ((s.ch c.val).doneCnt + 1) % 65536 ∧
      (t.ch c.val).repBuf = memPutL [] 0 (replyBytes (requestOf (s.ch c.val).reqBuf).code (requestOf (s.ch c.val).reqBuf).tag 1 0 []) := by
  have e : s.ring c.val src = s.done c.val (requestOf (s.ch c.val).reqBuf).code (requestOf (s.ch c.val).reqBuf).tag 1 0 [] :=
    (if_neg (by simp [h2])).trans (if_pos (by rcases h3 with h3 | h3 <;> simp [h3]))
  refine ⟨_, (execMbxRing_up h1).trans (congrArg Host.Outcome.next e), ?_⟩
  dsimp only
  rw [State.done_ch h5]
  obtain ⟨e1, -, e3, e4⟩ := (s.ch c.val).answer_sets
    (replyBytes (requestOf (s.ch c.val).reqBuf).code (requestOf (s.ch c.val).reqBuf).tag 1 0 [])
  exact ⟨e1, e4, e3⟩

theorem execMbxBufferWrite_open {i : Fin 256} {w : Word} (h1 : s.up 9 = true) (h2 : (s.ch c.val).open = true) : exec (.mbxBufferWrite c i w) s =
    .next (s.modCh c.val (fun x => { x with reqBuf := memPutL x.reqBuf (4 * i.val) (leBytes 4 w.toNat) })) :=
  (State.hostWrite_up _ h1 : execMbxBufferWrite c i w s = _).trans (congrArg Host.Outcome.next (if_pos h2))

theorem execMbxBufferWrite_used {i : Fin 256} {w : Word} (h1 : s.up 9 = true) (h2 : (s.ch c.val).open = false) : exec (.mbxBufferWrite c i w) s =
    .next (s.modCh c.val (fun x => { x with wrLost := true })) :=
  (State.hostWrite_up _ h1 : execMbxBufferWrite c i w s = _).trans (congrArg Host.Outcome.next (if_neg (by simp [h2])))

end

section
variable {s : State} {c : Nat} {r : Request}

theorem execMgpTakeRequest_none (h : s.sys.mgpAway = true ∨ s.mbx.long = true ∨ s.mbx.ch.any (fun x => x.st == .running) = true ∨
    s.nextRequest = none) : exec .mgpTakeRequest s = .next s := by
  by_cases hb : (s.sys.mgpAway || s.mbx.long || s.mbx.ch.any (fun x : Chan => x.st == .running)) = true
  · exact (if_pos hb : execMgpTakeRequest s = _)
  · refine (if_neg hb : execMgpTakeRequest s = _).trans ?_
    have hn : s.nextRequest = none := by
      simp only [Bool.or_eq_true, not_or] at hb
      exact ((h.resolve_left hb.1.1).resolve_left hb.1.2).resolve_left hb.2
    rw [hn]

/-- R54, R435: the MGP's turn on the oldest waiting request. -/
theorem execMgpTakeRequest_turn (h1 : s.sys.mgpAway = false) (h2 : s.mbx.long = false) (h3 : s.mbx.ch.any (fun x => x.st == .running) = false)
    (h4 : s.nextRequest = some c) (h5 : (s.ch c).req = some r) : exec .mgpTakeRequest s =
      if moves r.code && !s.settled then .next s
      else if !knownCode r.code then .fault (.hostError .reservedCode)
      else if !r.formOk then .fault (.hostError .malformed)
      else if !s.accepts r then .next (({ s with mbx := { s.mbx with order := s.mbx.order.filter (· != c) } } : State).notInState c r)
      else .next { s with mbx := { s.mbx with
        order := s.mbx.order.filter (· != c), long := longCode r.code
        ch := s.mbx.ch.modify c (fun x => { x with st := .running, wasRunning := false }) } } := by
  have h3' : s.mbx.ch.any (fun x : Chan => x.st == .running) = false := h3
  refine (if_neg (by rw [h1, h2, h3']; simp) : execMgpTakeRequest s = _).trans ?_
  rw [h4]
  dsimp only
  rw [h5]
  rfl

theorem execMgpTakeRequest_runs (h1 : s.sys.mgpAway = false) (h2 : s.mbx.long = false) (h3 : s.mbx.ch.any (fun x => x.st == .running) = false)
    (h4 : s.nextRequest = some c) (h5 : (s.ch c).req = some r) (h6 : moves r.code = false ∨ s.settled = true) (h7 : knownCode r.code = true)
    (h8 : r.formOk = true) (h9 : s.accepts r = true) (h10 : c < s.mbx.ch.length) : Completes .mgpTakeRequest s fun t =>
      (t.ch c).st = .running ∧ (t.ch c).req = some r ∧ t.mbx.long = longCode r.code ∧ t = { s with mbx := t.mbx } := by
  have hn : ¬ (moves r.code && !s.settled) = true := by rcases h6 with h6 | h6 <;> simp [h6]
  have hc := State.modCh_ch (s := s) (c := c) (fun x => { x with st := .running, wasRunning := false }) h10
  refine ⟨_, (execMgpTakeRequest_turn h1 h2 h3 h4 h5).trans ((if_neg hn).trans ((if_neg (by simp [h7])).trans
    ((if_neg (by simp [h8])).trans (if_neg (by simp [h9]))))), congrArg Chan.st hc, (congrArg Chan.req hc).trans h5, rfl, rfl⟩

end

/-- R438: the reply that ends a request. -/
theorem execMbxReplyPosted_ends {s : State} {c : Fin 4} (rb : Bool) (h : s.sys.mgpAway = false) :
    exec (.mbxReplyPosted (some c) rb) s = .next (s.postEnd c.val rb) := (if_neg (by simp [h]) : execMbxReplyPosted (some c) rb s = _)

theorem execMbxReplyPosted_own {s : State} (rb : Bool) (h : s.sys.mgpAway = false) :
    exec (.mbxReplyPosted none rb) s = .next (s.ownEnd rb) := (if_neg (by simp [h]) : execMbxReplyPosted none rb s = _)

theorem execMbxReplyPosted_away {s : State} (c : Option (Fin 4)) (rb : Bool) (h : s.sys.mgpAway = true) :
    exec (.mbxReplyPosted c rb) s = .next s := (if_pos h : execMbxReplyPosted c rb s = _)

theorem State.postEnd_idle {s : State} {c : Nat} (rb : Bool) (h : (s.ch c).req = none ∨ (s.ch c).st ≠ .running) : s.postEnd c rb = s := by
  unfold State.postEnd
  cases hr : (s.ch c).req with
  | none => rfl
  | some r => exact if_pos (h.resolve_left (by simp [hr]))

theorem State.postEnd_outcome {s : State} {c rc d : Nat} {r : Request} {b : List Byte} (rb : Bool) (h1 : (s.ch c).req = some r)
    (h2 : (s.ch c).st = .running) (h3 : (s.ch c).outcome = some (rc, d, b)) :
    s.postEnd c rb = if r.code = 0x0201 then s.loadReply c d b else s.reply c rc d b := by
  unfold State.postEnd
  rw [h1]
  dsimp only
  rw [if_neg (not_not_intro h2), h3]

theorem State.capCommitEnd_capBusy (s : State) (ok : Bool) : (s.capCommitEnd ok).mbx = s.mbx ∧ (s.capCommitEnd ok).est.capBusy = false := by
  unfold State.capCommitEnd
  extract_lets t done
  split
  · rw [State.logPost_mbx, State.logPost_est]
    exact ⟨rfl, rfl⟩
  · rw [State.logPost_mbx, State.logPost_est]
    exact ⟨rfl, rfl⟩

theorem execMbxReplyPosted_ownCommit {s : State} (rb : Bool) (h1 : s.sys.mgpAway = false) (h2 : s.mbx.own = 2) :
    Completes (.mbxReplyPosted none rb) s fun t => t.mbx.own = 0 ∧ t.mbx.long = false ∧ t.est.capBusy = false := by
  have e : s.ownEnd rb = ({ s with mbx := { s.mbx with own := 0, long := false } } : State).capCommitEnd rb := by
    unfold State.ownEnd
    rw [h2]
    rfl
  refine ⟨_, (execMbxReplyPosted_own rb h1).trans (congrArg Host.Outcome.next e), ?_⟩
  obtain ⟨e1, e2⟩ := ({ s with mbx := { s.mbx with own := 0, long := false } } : State).capCommitEnd_capBusy rb
  dsimp only
  rw [e1]
  exact ⟨rfl, rfl, e2⟩

theorem State.ownEnd_none {s : State} (rb : Bool) (h : s.mbx.own = 0 ∨ (s.mbx.own = 1 ∧ s.fsq.swapBusy = true)) : s.ownEnd rb = s := by
  unfold State.ownEnd
  rcases h with h | ⟨h, h2⟩
  · rw [h]
    rfl
  · rw [h]
    exact if_pos h2

/-- Settles O46: the doorbell, the buffer, the MGP's turn and the reply. -/
theorem mailboxChannelsFollowTheProtocol : Obligations.MailboxChannelsFollowTheProtocol := by
  unfold Obligations.MailboxChannelsFollowTheProtocol
  intro s
  refine ⟨fun c src h1 h2 => (execMbxRing_up h1).trans (congrArg Host.Outcome.next (State.ring_used h2)), fun c src => execMbxRing_accepts,
    fun c src => execMbxRing_busy, fun c i w => execMbxBufferWrite_open, fun c i w => execMbxBufferWrite_used, fun c src i w h => ⟨?_, ?_⟩,
    execMgpTakeRequest_none, fun c r h1 h2 h3 h4 h5 => ⟨fun h6 h7 => ?_, fun h6 => ⟨fun h7 => ?_, fun h7 h8 => ?_, fun h7 h8 h9 => ?_,
      execMgpTakeRequest_runs h1 h2 h3 h4 h5 h6⟩⟩, fun c rq rc d b h h2 => ?_, fun c r rc d b rb h h1 h2 h3 h4 => ?_,
    fun c r d b rb h h1 h2 h3 h4 h5 h6 => ?_, fun c rb h => ?_, fun rb h => ?_, fun rb => execMbxReplyPosted_ownCommit rb⟩
  · exact (State.hostWrite_down _ h : execMbxRing c src s = _)
  · exact (State.hostWrite_down _ h : execMbxBufferWrite c i w s = _)
  · exact (execMgpTakeRequest_turn h1 h2 h3 h4 h5).trans (if_pos (by simp [h6, h7]))
  · exact (execMgpTakeRequest_turn h1 h2 h3 h4 h5).trans ((if_neg (by rcases h6 with h6 | h6 <;> simp [h6])).trans (if_pos (by simp [h7])))
  · exact (execMgpTakeRequest_turn h1 h2 h3 h4 h5).trans ((if_neg (by rcases h6 with h6 | h6 <;> simp [h6])).trans ((if_neg (by simp [h7])).trans
      (if_pos (by simp [h8]))))
  · exact (execMgpTakeRequest_turn h1 h2 h3 h4 h5).trans ((if_neg (by rcases h6 with h6 | h6 <;> simp [h6])).trans ((if_neg (by simp [h7])).trans
      ((if_neg (by simp [h8])).trans (if_pos (by simp [h9])))))
  · obtain ⟨e, e2⟩ := State.reply_sets h h2 rc d b
    rw [e]
    obtain ⟨e3, e4, e5, e6⟩ := (s.ch c).answer_sets (replyBytes rq.code rq.tag rc d b)
    exact ⟨e3, e4, e5, e6, e2⟩
  · rw [execMbxReplyPosted_ends rb h, State.postEnd_outcome rb h1 h2 h3, if_neg h4]
  · rw [execMbxReplyPosted_ends rb h, State.postEnd_outcome rb h1 h2 h3, if_pos h4]
    exact congrArg Host.Outcome.next ((if_pos h5).trans (if_pos h6))
  · cases hm : s.sys.mgpAway with
    | true => exact execMbxReplyPosted_away (some c) rb hm
    | false => rw [execMbxReplyPosted_ends rb hm, State.postEnd_idle rb (h.resolve_left (by simp [hm]))]
  · cases hm : s.sys.mgpAway with
    | true => exact execMbxReplyPosted_away none rb hm
    | false => rw [execMbxReplyPosted_own rb hm, State.ownEnd_none rb (h.resolve_left (by simp [hm]))]

end Sys2Proof.Machine

/-! The commands of the mailbox that move the state (02_states_and_domains.md, 15_mailboxes.md): one rule for a command that is not
carried out, one lemma per effect, and the obligation. -/
namespace Sys2Proof.Machine

section
variable {s : State} {c : Fin 4} {i : Instr} {k : Nat} {p : List Byte}

/-! Commands that are not carried out, and their replies. -/

/-- R434 to R438: a command that only serves its channel is not served but on a request of its code that is ready. -/
theorem State.notServed_of_serve (h : ∃ f, exec i s = s.serve c k f) : s.NotServed c k i := by
  obtain ⟨f, hf⟩ := h
  refine ⟨fun h1 => ?_, fun r hr => ⟨fun hb => ?_, fun h1 h2 h3 h4 h5 => ?_⟩⟩
  · rw [hf]
    unfold State.serve
    rw [h1]
  · rw [hf]
    unfold State.serve
    rw [hr]
    refine if_pos ?_
    rcases hb with h | h | h | h | ⟨h, h'⟩
    · simp [h]
    · simp [h]
    · simp [h]
    · simp [h]
    · simp [h, h']
  · have hg : ((s.ch c.val).st ≠ .running || r.code != k || s.started c.val k || s.sys.mgpAway ||
        (Machine.moves k && !s.settled)) = false := by
      cases hm : Machine.moves k with
      | false => simp [h1, h2, h3, h4]
      | true => simp [h1, h2, h3, h4, h5 hm]
    have he : s.serve c k f = (if !r.formOk then .fault (.hostError .malformed) else if !s.accepts r then .next (s.notInState c.val r)
        else f r.params) := by
      unfold State.serve
      rw [hr]
      exact if_neg (by rw [hg]; decide)
    refine ⟨fun h6 => ?_, fun h6 h7 => ?_⟩
    · rw [hf, he]
      exact if_pos (by simp [h6])
    · rw [hf, he, if_neg (by simp [h6])]
      exact if_pos (by simp [h7])

/-- R437: a channel that has been replied to holds no request. -/
@[simp] theorem State.reply_ch_req (s : State) (c rc d : Nat) (b : List Byte) : ((s.reply c rc d b).ch c).req = none := by
  cases h : (s.ch c).req with
  | none => rw [State.reply_none h, h]
  | some rq =>
    have hc : c < s.mbx.ch.length := by
      refine Classical.byContradiction fun hn => ?_
      have : s.ch c = {} := by
        unfold State.ch nth
        rw [List.getD_eq_getElem?_getD, List.getElem?_eq_none (Nat.le_of_not_lt hn), Option.getD_none]
      rw [this] at h
      exact absurd h (by simp)
    rw [(State.reply_sets h hc rc d b).1]
    rfl

/-- R437: a reply touches the mailbox, the sessions and the monitor. -/
theorem State.reply_only (s : State) (c rc d : Nat) (b : List Byte) : ∃ m q y, s.reply c rc d b = { s with mbx := m, plk := q, spy := y } := by
  cases h : (s.ch c).req with
  | none => exact ⟨_, _, _, State.reply_none h rc d b⟩
  | some rq =>
    obtain ⟨q, y, l, o, e⟩ := State.reply_request h rc d b
    exact ⟨_, q, y, e⟩

/-! The commands, each as its request's service. -/

theorem execCmdConnect_serve : ∃ f, exec (.cmdConnect c) s = s.serve c 0x0101 f := by
  change ∃ f, execCmdConnect c s = _
  unfold execCmdConnect
  exact ⟨_, rfl⟩

theorem execCmdDispatchOn_serve : ∃ f, exec (.cmdDispatchOn c) s = s.serve c 0x0102 f := by
  change ∃ f, execCmdDispatchOn c s = _
  unfold execCmdDispatchOn
  exact ⟨_, rfl⟩

theorem execCmdDispatchOff_serve : ∃ f, exec (.cmdDispatchOff c) s = s.serve c 0x0103 f := by
  change ∃ f, execCmdDispatchOff c s = _
  unfold execCmdDispatchOff
  exact ⟨_, rfl⟩

theorem execCmdOpen_serve : ∃ f, exec (.cmdOpen c) s = s.serve c 0x0104 f := by
  change ∃ f, execCmdOpen c s = _
  unfold execCmdOpen
  exact ⟨_, rfl⟩

theorem execCmdIsolationReset_serve : ∃ f, exec (.cmdIsolationReset c) s = s.serve c 0x0105 f := by
  change ∃ f, execCmdIsolationReset c s = _
  unfold execCmdIsolationReset
  exact ⟨_, rfl⟩

theorem execCmdReset_serve : ∃ f, exec (.cmdReset c) s = s.serve c 0x0106 f := by
  change ∃ f, execCmdReset c s = _
  unfold execCmdReset
  exact ⟨_, rfl⟩

theorem execCmdDomainPower_serve : ∃ f, exec (.cmdDomainPower c) s = s.serve c 0x0107 f := by
  change ∃ f, execCmdDomainPower c s = _
  unfold execCmdDomainPower
  exact ⟨_, rfl⟩

theorem execCmdSwap_serve : ∃ f, exec (.cmdSwap c) s = s.serve c 0x0108 f := by
  change ∃ f, execCmdSwap c s = _
  unfold execCmdSwap
  exact ⟨_, rfl⟩


/-! CMD_CONNECT. -/

theorem State.toPrecharge_sets (hw : s.sag.want.length = 4) : s.toPrecharge.sys.st = .precharge ∧
    nth s.toPrecharge.sag.want 1 false = true ∧ nth s.toPrecharge.sag.want 2 false = true := by
  have hs : s.toPrecharge.sag.want = (s.sag.want.set 1 true).set 2 true := by
    unfold State.toPrecharge
    rw [State.coilService_want, State.enter_sag]
    rfl
  refine ⟨?_, ?_, ?_⟩
  · unfold State.toPrecharge
    rw [State.coilService_sys, State.enter_sys_st]
  · simp [hs, nth, hw]
  · simp [hs, nth, hw]

theorem execCmdConnect_free (h : s.Serves c 0x0101 p) (h2 : s.connectBars = 0) :
    exec (.cmdConnect c) s = .next (s.toPrecharge.moved.ok c.val) :=
  (State.serve_ok _ h : execCmdConnect c s = _).trans (if_neg (by simp [h2]))

theorem execCmdConnect_barred (h : s.Serves c 0x0101 p) (h2 : s.connectBars ≠ 0) :
    exec (.cmdConnect c) s = .next (s.reply c.val 3 s.connectBars []) :=
  (State.serve_ok _ h : execCmdConnect c s = _).trans (if_pos h2)

/-! CMD_DISPATCH_ON and CMD_DISPATCH_OFF. -/

theorem execCmdDispatchOn_free (h : s.Serves c 0x0102 p) (h2 : (s.applyAt (.on .track)).dispatchBars = 0) :
    exec (.cmdDispatchOn c) s = .next ((s.applyAt (.on .track)).trackStart.moved.ok c.val) :=
  (State.serve_ok _ h : execCmdDispatchOn c s = _).trans (if_neg (by simp [h2]))

theorem execCmdDispatchOn_barred (h : s.Serves c 0x0102 p) (h2 : (s.applyAt (.on .track)).dispatchBars ≠ 0) :
    exec (.cmdDispatchOn c) s = .next (s.reply c.val 3 (s.applyAt (.on .track)).dispatchBars []) :=
  (State.serve_ok _ h : execCmdDispatchOn c s = _).trans (if_pos h2)

theorem execCmdDispatchOff_ramps (h : s.Serves c 0x0103 p) (h2 : s.phm.trk ≠ .stopping) :
    exec (.cmdDispatchOff c) s = .next ((s.stopStart none).moved.ok c.val) :=
  (State.serve_ok _ h : execCmdDispatchOff c s = _).trans (if_neg h2)

theorem execCmdDispatchOff_stopping (h : s.Serves c 0x0103 p) (h2 : s.phm.trk = .stopping) :
    exec (.cmdDispatchOff c) s = .next (s.reply c.val 0 0 []) :=
  (State.serve_ok _ h : execCmdDispatchOff c s = _).trans (if_pos h2)

theorem State.trackStart_answered (s : State) (c : Fin 4) : let t := s.trackStart.moved.ok c.val
    t.phm.trk = .recovery ∧ t.phm.burst = true ∧ t.sys = { s.sys with cmdUsed := true } ∧ t.sag = s.sag ∧ (t.ch c.val).req = none := by
  obtain ⟨m, q, y, e⟩ := s.trackStart.moved.reply_only c 0 0 []
  have h := s.trackStart.moved.reply_ch_req c 0 0 []
  unfold State.ok
  dsimp only
  rw [e] at h ⊢
  exact ⟨rfl, rfl, rfl, rfl, h⟩

theorem State.stopStart_answered (s : State) (c : Fin 4) : let t := (s.stopStart none).moved.ok c.val
    t.phm.trk = .stopping ∧ t.ctl.ramp = s.ctl.iref ∧ t.sys = { s.sys with cmdUsed := true } ∧ t.sag = s.sag := by
  obtain ⟨m, q, y, e⟩ := (s.stopStart none).moved.reply_only c 0 0 []
  unfold State.ok
  dsimp only
  rw [e]
  exact ⟨rfl, rfl, rfl, rfl⟩

/-! CMD_OPEN. -/

/-- R54: the way back to STANDBY under a session stays in the session, on STANDBY. -/
theorem State.toStandby_of_session_open (h : s.sys.st = .maintenance) : s.toStandby.sys.st = .maintenance ∧ s.toStandby.sys.base = .standby := by
  unfold State.toStandby
  extract_lets t
  have hm : (({ t with sys := { t.sys with openPending := false, prechgDone := false } } : State).degStop).sys.st = .maintenance := by
    simpa [t] using h
  rw [State.enterEff_of_maintenance hm]
  generalize (({ t with sys := { t.sys with openPending := false, prechgDone := false } } : State).degStop) = u at hm ⊢
  have hp : ((if u.dispatching && !(u.rebased .standby).dispatching then (u.rebased .standby).leaveSetpoints else
      u.rebased .standby).announce).sys.place = (u.sys.st, .standby, u.sys.prev, u.sys.originDisp) := by
    rw [State.announce_place]
    split
    · rfl
    · rfl
  simp only [Sys.place, Prod.mk.injEq] at hp
  exact ⟨hp.1.trans hm, hp.2.1⟩

theorem execCmdOpen_eq (h : s.Serves c 0x0104 p) : exec (.cmdOpen c) s = .next (s.openStart.coilService.moved.ok c.val) :=
  (State.serve_ok _ h : execCmdOpen c s = _)

/-- R72: an opening outside dispatch is the way back to STANDBY, of an abandoned start where one runs. -/
theorem State.openStart_idle (h : s.dispatching = false) : ∃ t : State, s.openStart = t.toStandby ∧ t.sys = s.sys := by
  have e : s.openStart = if s.phm.trk.isStart then (s.abandonTrk 0 2).toStandby else s.toStandby := if_neg (by rw [h]; decide)
  rw [e]
  split
  · exact ⟨_, rfl, by simp [State.abandonTrk]⟩
  · exact ⟨_, rfl, rfl⟩

theorem State.openStart_dispatching (h : s.dispatching = true) : s.openStart.sys = { s.sys with openPending := true } ∧
    s.openStart.phm.trk = .stopping ∧ s.openStart.sag.degRun = false := by
  have e : s.openStart = _ := if_pos h
  rw [e]
  dsimp only
  split
  next ht => exact ⟨rfl, ht, rfl⟩
  · exact ⟨rfl, rfl, rfl⟩

theorem State.coilService1_degRun (s : State) (k : Nat) : (s.coilService1 k).sag.degRun = s.sag.degRun := by
  unfold State.coilService1
  extract_lets on req
  split
  · split <;> rfl
  · split <;> rfl

theorem State.coilService_degRun (s : State) : s.coilService.sag.degRun = s.sag.degRun := by
  simp [State.coilService, State.coilService1_degRun]

/-- R72: what is answered after an opening outside dispatch. -/
theorem State.opened_idle (c : Fin 4) (h : s.dispatching = false) :
    let t := s.openStart.coilService.moved.ok c.val
    t.sag.want = [false, false, false, false] ∧ t.sag.degRun = false ∧
      (s.sys.st ≠ .maintenance → t.sys.st = .standby) ∧ (s.sys.st = .maintenance → t.sys.st = .maintenance ∧ t.sys.base = .standby) := by
  obtain ⟨t, e, ht⟩ := State.openStart_idle h
  obtain ⟨-, h3, h4⟩ := t.toStandby_sets
  have h5 := t.toStandby_of_session_closed
  have h6 := State.toStandby_of_session_open (s := t)
  rw [e]
  generalize t.toStandby = u at h3 h4 h5 h6 ⊢
  unfold State.ok
  dsimp only
  rw [State.reply_sys, State.reply_sag, State.moved_sys, State.moved_sag, State.coilService_sys, State.coilService_want,
    State.coilService_degRun, ← ht]
  exact ⟨h4, h3, fun h => (h5 h).1, h6⟩

theorem State.opened_dispatching (c : Fin 4) (h : s.dispatching = true) :
    let t := s.openStart.coilService.moved.ok c.val
    t.sys.st = s.sys.st ∧ t.sys.openPending = true ∧ t.phm.trk = .stopping ∧ t.sag.degRun = false := by
  obtain ⟨h3, h4, h5⟩ := State.openStart_dispatching h
  generalize s.openStart = u at h3 h4 h5 ⊢
  unfold State.ok
  dsimp only
  obtain ⟨m, q, y, e⟩ := u.coilService.moved.reply_only c 0 0 []
  rw [e]
  dsimp only
  rw [State.moved_sys, State.moved_sag, State.moved_phm, State.coilService_sys, State.coilService_phm, State.coilService_degRun, h3]
  exact ⟨rfl, rfl, h4, h5⟩

/-! CMD_ISOLATION_RESET. -/

theorem State.leaveIsolated_sets (s : State) : s.leaveIsolated.sys.st = (if s.partnerOwns then .pilot else .standby) ∧
    s.leaveIsolated.sag = s.latchClear.sag := by
  unfold State.leaveIsolated State.afterTest
  split
  · exact ⟨State.enter_sys_st _ _ _, State.enter_sag _ _ _⟩
  · exact ⟨State.enter_sys_st _ _ _, State.enter_sag _ _ _⟩

theorem execCmdIsolationReset_free (h : s.Serves c 0x0105 p) (h2 : s.resetBar = none) :
    exec (.cmdIsolationReset c) s = .next (s.leaveIsolated.moved.ok c.val) := by
  refine (State.serve_ok _ h : execCmdIsolationReset c s = _).trans ?_
  rw [h2]

theorem execCmdIsolationReset_barred {k : Nat} (h : s.Serves c 0x0105 p) (h2 : s.resetBar = some k) :
    exec (.cmdIsolationReset c) s = .next (s.reply c.val 3 k []) := by
  refine (State.serve_ok _ h : execCmdIsolationReset c s = _).trans ?_
  rw [h2]
  rfl

/-! CMD_RESET and CMD_DOMAIN_POWER. -/

theorem execCmdReset_eq (h : s.Serves c 0x0106 p) :
    exec (.cmdReset c) s = .next (({ s with sys := { s.sys with resetDue := 3 } } : State).moved.ok c.val) :=
  (State.serve_ok _ h : execCmdReset c s = _)

theorem execCmdDomainPower_eq (h : s.Serves c 0x0107 p) :
    exec (.cmdDomainPower c) s = .next ((s.switchDomain (leAt p 0 1) (leAt p 1 1 == 1)).ok c.val) :=
  (State.serve_ok _ h : execCmdDomainPower c s = _)

/-- R64: a domain that is switched off is down and waits for no power-up. -/
theorem State.switchDomain_off (s : State) (d : Nat) : nth (s.switchDomain d false).sys.pd d false = false ∧
    d ∉ (s.switchDomain d false).sys.powering := by
  have e : (s.switchDomain d false).sys =
      { (s.domainDown d).sys with powering := (s.domainDown d).sys.powering.filter (· != d) } := by
    unfold State.switchDomain
    dsimp only
    split
    next h => cases h
    · split
      · rw [State.allReady_sys, State.degPhase_sys]
      · rw [State.degPhase_sys]
  rw [e, State.domainDown_sys]
  exact ⟨nth_set_self_false _ _, by simp⟩

theorem State.switchDomain_on {d : Nat} (h : nth s.sys.pd d false = false) (h2 : s.sys.powering.contains d = false) :
    s.switchDomain d true = { s with sys := { s.sys with powering := s.sys.powering ++ [d] } } := by
  unfold State.switchDomain
  rw [if_pos rfl, h, h2]
  rfl

theorem State.switchDomain_powered {d : Nat} (h : nth s.sys.pd d false = true ∨ s.sys.powering.contains d = true) :
    s.switchDomain d true = s := by
  unfold State.switchDomain
  rw [if_pos rfl]
  exact if_pos (by simpa using h)

/-! CMD_SWAP. -/

theorem State.requestSwap_only_prl (s : State) : ∃ y, s.requestSwap = { s with prl := y } := by
  unfold State.requestSwap
  split
  · obtain ⟨o, e⟩ := ({ s with prl := { s.prl with swap := .requested } } : State).swapSend_only_out 1 0
    exact ⟨_, e⟩
  · exact ⟨_, rfl⟩

theorem State.requestSwap_requested (h : s.mayRequestSwap = true) : s.requestSwap.prl.swap = .requested := by
  have e : s.requestSwap = _ := if_pos h
  obtain ⟨o, e2⟩ := ({ s with prl := { s.prl with swap := .requested } } : State).swapSend_only_out 1 0
  rw [e, e2]

theorem execCmdSwap_requests (h : s.Serves c 0x0108 p) (h2 : s.swapping = false) (h3 : s.mayRequestSwap = true) :
    exec (.cmdSwap c) s = .next { s.requestSwap with prl := { s.requestSwap.prl with swapChan := some c.val } } := by
  refine (State.serve_ok _ h : execCmdSwap c s = _).trans ?_
  rw [if_neg (by rw [h2]; decide), if_neg (by rw [h3]; decide)]

theorem execCmdSwap_inhibited (h : s.Serves c 0x0108 p) (h2 : s.swapping = false) (h3 : s.mayRequestSwap = false) :
    exec (.cmdSwap c) s = .next (s.reply c.val 3 0x40 []) := by
  refine (State.serve_ok _ h : execCmdSwap c s = _).trans ?_
  rw [if_neg (by rw [h2]; decide), if_pos (by rw [h3]; decide)]
  rfl

theorem execCmdSwap_busy (h : s.Serves c 0x0108 p) (h2 : s.swapping = true) : exec (.cmdSwap c) s = .next (s.reply c.val 1 0 []) := by
  refine (State.serve_ok _ h : execCmdSwap c s = _).trans ?_
  rw [if_pos h2]

end

/-- Settles O47: each command is its service, and each served clause one of the effects above. -/
theorem stateCommandsRun : Obligations.StateCommandsRun := by
  intro s c p
  refine ⟨fun i k hm => ?_, fun h h2 h3 => ⟨_, execCmdConnect_free h h2, ?_⟩, execCmdConnect_barred,
    fun h h2 => ⟨_, execCmdDispatchOn_free h h2, ?_⟩, execCmdDispatchOn_barred, fun h h2 => ⟨_, execCmdDispatchOff_ramps h h2, ?_⟩,
    execCmdDispatchOff_stopping, fun h h2 => ⟨_, execCmdOpen_eq h, ?_⟩, fun h h2 => ⟨_, execCmdOpen_eq h, ?_⟩,
    fun h h2 => ⟨_, execCmdIsolationReset_free h h2, ?_⟩, fun k => execCmdIsolationReset_barred,
    fun h => ⟨_, execCmdReset_eq h, ?_⟩, fun h h2 => ⟨_, execCmdDomainPower_eq h, ?_⟩, fun h h2 h3 h4 => ⟨_, execCmdDomainPower_eq h, ?_⟩,
    fun h h2 h3 => (execCmdDomainPower_eq h).trans ?_, fun h h2 h3 => ⟨_, execCmdSwap_requests h h2 h3, ?_⟩, execCmdSwap_inhibited,
    execCmdSwap_busy⟩
  · simp only [List.mem_cons, Prod.mk.injEq, List.not_mem_nil, or_false] at hm
    rcases hm with ⟨rfl, rfl⟩ | ⟨rfl, rfl⟩ | ⟨rfl, rfl⟩ | ⟨rfl, rfl⟩ | ⟨rfl, rfl⟩ | ⟨rfl, rfl⟩ | ⟨rfl, rfl⟩ | ⟨rfl, rfl⟩
    · exact State.notServed_of_serve execCmdConnect_serve
    · exact State.notServed_of_serve execCmdDispatchOn_serve
    · exact State.notServed_of_serve execCmdDispatchOff_serve
    · exact State.notServed_of_serve execCmdOpen_serve
    · exact State.notServed_of_serve execCmdIsolationReset_serve
    · exact State.notServed_of_serve execCmdReset_serve
    · exact State.notServed_of_serve execCmdDomainPower_serve
    · exact State.notServed_of_serve execCmdSwap_serve
  · have hp := State.toPrecharge_sets h3
    generalize s.toPrecharge = t at hp ⊢
    obtain ⟨h4, h5, h6⟩ := hp
    unfold State.ok
    dsimp only
    rw [State.reply_sys, State.reply_sag]
    exact ⟨h4, h5, h6, rfl, State.reply_ch_req _ _ _ _ _⟩
  · exact State.trackStart_answered _ c
  · exact State.stopStart_answered s c
  · exact State.opened_idle c h2
  · exact State.opened_dispatching c h2
  · obtain ⟨h3, h4⟩ := s.leaveIsolated_sets
    unfold State.ok
    rw [State.reply_sag, State.reply_sys]
    have hs : s.leaveIsolated.moved.sag = s.latchClear.sag := h4
    rw [hs]
    exact ⟨rfl, rfl, rfl, rfl, h3⟩
  · unfold State.ok
    exact ⟨by rw [State.reply_sys]; rfl, by rw [State.reply_sag]; rfl, State.reply_ch_req _ _ _ _ _⟩
  · rw [show (leAt p 1 1 == 1) = false by simpa using h2]
    unfold State.ok
    dsimp only
    rw [State.reply_sys]
    exact s.switchDomain_off _
  · rw [h2, show ((1 : Nat) == 1) = true from rfl, State.switchDomain_on h3 h4]
    exact State.reply_sys _ _ _ _ _
  · rw [h2, show ((1 : Nat) == 1) = true from rfl, State.switchDomain_powered h3]
    rfl
  · obtain ⟨y, e⟩ := s.requestSwap_only_prl
    refine ⟨State.requestSwap_requested h3, rfl, ?_⟩
    rw [e]

end Sys2Proof.Machine

/-! The report, schedule, balancing, calibration and capacity commands of the mailbox (15_mailboxes.md): one lemma per effect, and the
obligation. -/
namespace Sys2Proof.Machine

section
variable {s : State} {c : Fin 4} {p : List Byte} {r : SelfTest}

theorem execCmdSelftest_serve : ∃ f, exec (.cmdSelftest c r) s = s.serve c 0x0109 f := by
  change ∃ f, execCmdSelftest c r s = _
  unfold execCmdSelftest
  exact ⟨_, rfl⟩

theorem execCmdHealth_serve : ∃ f, exec (.cmdHealth c) s = s.serve c 0x010A f := by
  change ∃ f, execCmdHealth c s = _
  unfold execCmdHealth
  exact ⟨_, rfl⟩

theorem execCmdSchedLoad_serve : ∃ f, exec (.cmdSchedLoad c) s = s.serve c 0x0201 f := by
  change ∃ f, execCmdSchedLoad c s = _
  unfold execCmdSchedLoad
  exact ⟨_, rfl⟩

theorem execCmdSchedInfo_serve : ∃ f, exec (.cmdSchedInfo c) s = s.serve c 0x0202 f := by
  change ∃ f, execCmdSchedInfo c s = _
  unfold execCmdSchedInfo
  exact ⟨_, rfl⟩

theorem execCmdBalCtl_serve : ∃ f, exec (.cmdBalCtl c) s = s.serve c 0x0301 f := by
  change ∃ f, execCmdBalCtl c s = _
  unfold execCmdBalCtl
  exact ⟨_, rfl⟩

theorem execCmdBalStatus_serve : ∃ f, exec (.cmdBalStatus c) s = s.serve c 0x0302 f := by
  change ∃ f, execCmdBalStatus c s = _
  unfold execCmdBalStatus
  exact ⟨_, rfl⟩

theorem execCmdCalDischarge_serve : ∃ f, exec (.cmdCalDischarge c) s = s.serve c 0x0401 f := by
  change ∃ f, execCmdCalDischarge c s = _
  unfold execCmdCalDischarge
  exact ⟨_, rfl⟩

theorem execCmdCapReport_serve : ∃ f, exec (.cmdCapReport c) s = s.serve c 0x0402 f := by
  change ∃ f, execCmdCapReport c s = _
  unfold execCmdCapReport
  exact ⟨_, rfl⟩

theorem execCmdCapWrite_serve : ∃ f, exec (.cmdCapWrite c) s = s.serve c 0x0403 f := by
  change ∃ f, execCmdCapWrite c s = _
  unfold execCmdCapWrite
  exact ⟨_, rfl⟩

theorem execCmdCapCommit_serve : ∃ f, exec (.cmdCapCommit c) s = s.serve c 0x0404 f := by
  change ∃ f, execCmdCapCommit c s = _
  unfold execCmdCapCommit
  exact ⟨_, rfl⟩

/-! CMD_SELFTEST. -/

/-- R331: of the pair registers, an isolation abandons a switchover and sends a message. -/
theorem State.isolate_refOk (s : State) (k : Nat) : (s.isolate k).prl.refOk = s.prl.refOk := by
  have ha (t : State) : t.swapAbandon.prl.refOk = t.prl.refOk := by
    unfold State.swapAbandon
    split <;> rfl
  have hs (t : State) (n : Nat) (b : List Byte) : (t.pairSend n b).prl.refOk = t.prl.refOk := by
    obtain ⟨o, e⟩ := t.pairSend_only_out n b
    rw [e]
  cases h : s.sag.latch with
  | true =>
    rw [State.isolate_of_latch_set h]
    show (State.logPost _ _ _ _ _).prl.refOk = _
    rw [State.logPost_prl]
  | false =>
    rw [State.isolate_eq h, hs, State.sendStatus_prl]
    show (State.attn _ _ _ _).prl.refOk = _
    rw [State.attn_prl, State.logPost_prl]
    refine (ha _).trans ?_
    rw [State.clearSetpoints_prl, State.degStop_prl, State.dropOutputs_prl]

theorem State.isolateAll_refOk (s : State) (l : List Nat) : (s.isolateAll l).prl.refOk = s.prl.refOk := by
  have h (l : List Nat) : ∀ t : State, (l.foldl State.isolate t).prl.refOk = t.prl.refOk := by
    induction l with
    | nil => exact fun t => rfl
    | cons c l ih => exact fun t => (ih _).trans (t.isolate_refOk c)
  cases l with
  | nil => exact s.isolate_refOk 0
  | cons c l => exact (h l _).trans (s.isolate_refOk c)

/-- R61: what follows from the results leaves the results as they are stored. -/
theorem State.selftestAct_keeps (s : State) (r : SelfTest) : (s.selftestAct r).sys.selftestFail = s.sys.selftestFail ∧
    (s.selftestAct r).prl.refOk = s.prl.refOk := by
  have h (l : List TestItem) : ∀ t : State, (l.foldl (fun u i => u.logItem r.detail i) t).sys = t.sys ∧
      (l.foldl (fun u i => u.logItem r.detail i) t).prl = t.prl := by
    induction l with
    | nil => exact fun t => ⟨rfl, rfl⟩
    | cons i l ih => exact fun t => ⟨(ih _).1.trans (t.logItem_sys _ i), (ih _).2.trans (t.logItem_prl _ i)⟩
  obtain ⟨h1, h2⟩ := h (s.selftestBad r) s
  unfold State.selftestAct
  dsimp only
  split
  · rw [State.isolateAll_selftestFail, State.isolateAll_refOk, h1, h2]
    exact ⟨rfl, rfl⟩
  · exact ⟨congrArg Sys.selftestFail h1, congrArg Prl.refOk h2⟩

theorem State.selftestStore_sets (s : State) (r : SelfTest) (n : Nat) : (s.selftestStore r n).sys.selftestFail = r.failBits ∧
    (s.selftestStore r n).prl.refOk = r.refs := by
  unfold State.selftestStore
  dsimp only
  split
  · split
    · exact ⟨rfl, rfl⟩
    · exact ⟨rfl, rfl⟩
  · split
    · exact ⟨rfl, rfl⟩
    · exact ⟨rfl, rfl⟩

theorem execCmdSelftest_runs (h : s.Serves c 0x0109 p) : Completes (.cmdSelftest c r) s fun t =>
    t.sys.selftestFail = (r.masked s.selftestRun).failBits ∧ t.prl.refOk = r.refs ∧ t.sys.st = s.sys.st := by
  obtain ⟨h1, h2⟩ := (s.selftestStore (r.masked s.selftestRun) s.selftestRun).selftestAct_keeps (r.masked s.selftestRun)
  obtain ⟨h3, h4⟩ := s.selftestStore_sets (r.masked s.selftestRun) s.selftestRun
  have h5 : ((s.selftestStore (r.masked s.selftestRun) s.selftestRun).selftestAct (r.masked s.selftestRun)).sys.st = s.sys.st := by
    rw [State.selftestAct_sys_st, State.selftestStore_sys_st]
  exact ⟨_, (State.serve_ok _ h : execCmdSelftest c r s = _), h1.trans h3, h2.trans h4, h5⟩

/-! CMD_SCHED_LOAD. -/

theorem execCmdSchedLoad_notFound (h : s.Serves c 0x0201 p) (h2 : s.image (leAt p 0 1) = none) :
    exec (.cmdSchedLoad c) s = .next (s.reply c.val 8 (leAt p 0 1) []) := by
  refine (State.serve_ok _ h : execCmdSchedLoad c s = _).trans ?_
  dsimp only
  rw [h2]

theorem execCmdSchedLoad_image {i : SchedImage} (h : s.Serves c 0x0201 p) (h2 : s.image (leAt p 0 1) = some i) : exec (.cmdSchedLoad c) s =
    .next (if s.fsq.swapCode = 1 then s else if s.fsq.swapBusy = true then s.reply c.val 3 1 []
      else (if leAt p 1 1 = 1 then (s.loadShadow (leAt p 0 1) i).askSwap else s.loadShadow (leAt p 0 1) i).result c.val 0 0
        (leBytes 4 i.id ++ leBytes 2 i.entries.length ++ leBytes 1 (leAt p 1 1) ++ leBytes 1 0)) := by
  refine (State.serve_ok _ h : execCmdSchedLoad c s = _).trans ?_
  dsimp only
  rw [h2]
  dsimp only
  split
  · rfl
  · split
    · rfl
    · rfl

/-! CMD_BAL_CTL. -/

theorem execCmdBalCtl_mode (h : s.Serves c 0x0301 p) (h2 : leAt p 0 1 ≠ 2) : exec (.cmdBalCtl c) s =
    .next (({ s with est := { s.est with balMode := leAt p 0 1 } } : State).reply c.val 0 0 []) := by
  refine (State.serve_ok _ h : execCmdBalCtl c s = _).trans ?_
  dsimp only
  rw [if_neg h2]
  rfl

theorem execCmdBalCtl_masks (h : s.Serves c 0x0301 p) (h2 : leAt p 0 1 = 2) : Completes (.cmdBalCtl c) s fun t =>
    t.est.balMode = 2 ∧ t.est.hostMask = (List.range 48).map (fun n => leAt p (4 + n) 1) := by
  refine ⟨_, (State.serve_ok _ h : execCmdBalCtl c s = _), ?_⟩
  unfold State.ok
  dsimp only
  rw [State.reply_est, if_pos h2]
  exact ⟨h2, rfl⟩

/-! CMD_CAL_DISCHARGE. -/

theorem execCmdCalDischarge_starts (h : s.Serves c 0x0401 p) (h2 : leAt p 0 1 = 1) :
    exec (.cmdCalDischarge c) s = .next (s.calStart.reply c.val 0 0 (leBytes 2 s.calStart.est.calArmed.length)) :=
  (State.serve_ok _ h : execCmdCalDischarge c s = _).trans (if_pos h2)

theorem execCmdCalDischarge_ends (h : s.Serves c 0x0401 p) (h2 : leAt p 0 1 ≠ 1) :
    exec (.cmdCalDischarge c) s = .next (s.calEnd.reply c.val 0 0 (leBytes 2 s.est.calArmed.length)) :=
  (State.serve_ok _ h : execCmdCalDischarge c s = _).trans (if_neg h2)

theorem State.calStart_sets (s : State) : s.calStart.est.cal = true ∧
    (s.est.cal = false → s.calStart.est.calArmed = (List.range 384).filter (fun g => (s.gr g).learnArmed)) := by
  unfold State.calStart
  split
  next h => exact ⟨h, fun h2 => absurd (h2.symm.trans h) (by decide)⟩
  · exact ⟨rfl, fun _ => rfl⟩

theorem State.calEnd_cal (s : State) : s.calEnd.est.cal = false := by
  unfold State.calEnd
  split
  · rfl
  next h => simpa using h

/-! CMD_CAP_WRITE. -/

/-- The record that a capacity written by the host leaves. -/
def GroupRec.capGiven (x : GroupRec) (cap : Nat) : GroupRec :=
  ({ x with cap := cap, qc := divFree 97 (x.qc * cap) x.cap, capPending := false, capFlagged := false }.disarm true).write

theorem State.capWrite_self {cap g : Nat} (h : g < s.csm.recs.length) : ((s.capWrite cap g).gr g).cap = cap ∧
    ((s.capWrite cap g).gr g).capPending = false := by
  have e : (s.capWrite cap g).gr g = (s.gr g).capGiven cap := nth_modify_self h (·.capGiven cap) {}
  rw [e]
  exact ⟨rfl, rfl⟩

theorem State.capWrite_other {cap g k : Nat} (h : k ≠ g) : (s.capWrite cap k).gr g = s.gr g := nth_modify_ne s.csm.recs h (·.capGiven cap) {}

theorem State.capWrite_length (s : State) (cap g : Nat) : (s.capWrite cap g).csm.recs.length = s.csm.recs.length :=
  List.length_modify _ _ _

/-- R160: a capacity written to the groups of a list stands in each of them. -/
theorem State.capWrites_mem {cap g : Nat} (l : List Nat) : ∀ s : State, g < s.csm.recs.length → (g ∈ l ∨ ((s.gr g).cap = cap ∧ (s.gr g).capPending = false)) →
    ((l.foldl (fun t k => t.capWrite cap k) s).gr g).cap = cap ∧ ((l.foldl (fun t k => t.capWrite cap k) s).gr g).capPending = false := by
  induction l with
  | nil => exact fun s _ h => h.resolve_left (List.not_mem_nil)
  | cons k l ih =>
    intro s hg h
    refine ih (s.capWrite cap k) (by rw [State.capWrite_length]; exact hg) ?_
    by_cases hk : k = g
    · exact .inr (hk ▸ State.capWrite_self (by rw [hk]; exact hg))
    · rw [State.capWrite_other hk]
      exact h.imp_left fun h => (List.mem_cons.1 h).resolve_left (Ne.symm hk)

/-- The groups that CMD_CAP_WRITE names. -/
def capGroups (p : List Byte) : List Nat := if leAt p 0 2 = 0xFFFF then List.range 384 else [leAt p 0 2]

/-- R160: the state in which the capacities that CMD_CAP_WRITE gives stand. -/
def State.capGiven (s : State) (p : List Byte) : State := (capGroups p).foldl (fun t g => t.capWrite (leAt p 4 4) g) s

theorem execCmdCapWrite_writes (h : s.Serves c 0x0403 p) (h2 : s.est.disMode = false) : Completes (.cmdCapWrite c) s fun t =>
    t.csm = (s.capGiven p).csm ∧ t.est.commitDue = true := by
  have e : exec (.cmdCapWrite c) s = .next (({ s.capGiven p with est := { (s.capGiven p).est with commitDue := true } } : State).ok c.val) :=
    (State.serve_ok _ h : execCmdCapWrite c s = _).trans (if_neg (by rw [h2]; decide))
  refine ⟨_, e, ?_⟩
  generalize s.capGiven p = u
  obtain ⟨m, q, y, e⟩ := ({ u with est := { u.est with commitDue := true } } : State).reply_only c 0 0 []
  unfold State.ok
  rw [e]
  exact ⟨rfl, rfl⟩

theorem execCmdCapWrite_barred (h : s.Serves c 0x0403 p) (h2 : s.est.disMode = true) :
    exec (.cmdCapWrite c) s = .next (s.reply c.val 3 1 []) :=
  (State.serve_ok _ h : execCmdCapWrite c s = _).trans (if_pos h2)

/-! CMD_CAP_COMMIT and its end. -/

theorem execCmdCapCommit_starts (h : s.Serves c 0x0404 p) (h2 : s.sys.boWarn = false) : exec (.cmdCapCommit c) s = .next s.capOpen :=
  (State.serve_ok _ h : execCmdCapCommit c s = _).trans (if_neg (by rw [h2]; decide))

theorem execCmdCapCommit_barred (h : s.Serves c 0x0404 p) (h2 : s.sys.boWarn = true) :
    exec (.cmdCapCommit c) s = .next (s.reply c.val 3 1 []) :=
  (State.serve_ok _ h : execCmdCapCommit c s = _).trans (if_pos h2)

theorem State.postEnd_capCommit {rq : Request} (b : Bool) (h1 : (s.ch c.val).req = some rq) (h2 : (s.ch c.val).st = .running)
    (h3 : (s.ch c.val).outcome = none) (h4 : rq.code = 0x0404) (h5 : s.est.capBusy = true) : s.postEnd c.val b = s.capReply c.val b := by
  unfold State.postEnd
  rw [h1]
  dsimp only
  rw [if_neg (not_not_intro h2), h3]
  exact if_pos (by simp [h4, h5])

theorem State.capCommitEnd_good (s : State) : (s.capCommitEnd true).est.capBusy = false ∧ (s.capCommitEnd true).est.commitDue = false ∧
    (s.capCommitEnd true).est.capSeq = (commitTarget s.est.slots).2 := by
  unfold State.capCommitEnd
  extract_lets t done
  rw [if_pos rfl, State.logPost_est]
  exact ⟨rfl, rfl, rfl⟩

theorem State.capCommitEnd_bad (s : State) : (s.capCommitEnd false).est.capBusy = false ∧ (s.capCommitEnd false).est.capFail = true ∧
    (s.capCommitEnd false).est.commitRetry = !s.est.commitRetry := by
  unfold State.capCommitEnd
  extract_lets t done
  rw [if_neg (by decide), State.logPost_est]
  exact ⟨rfl, rfl, rfl⟩

theorem State.capReply_good {rq : Request} (h : (s.ch c.val).req = some rq) :
    (((s.capReply c.val true).ch c.val).st = .done ∨ s.mbx.ch.length ≤ c.val) ∧ (s.capReply c.val true).est = (s.capCommitEnd true).est := by
  have e : s.capReply c.val true = (s.capCommitEnd true).reply c.val 0 0 (leBytes 4 (s.capCommitEnd true).est.capSeq) := by
    unfold State.capReply
    exact if_pos rfl
  rw [e, State.reply_est]
  refine ⟨(Nat.lt_or_ge c.val s.mbx.ch.length).imp (fun hc => ?_) id, rfl⟩
  have hm := (s.capCommitEnd_capBusy true).1
  have hr : ((s.capCommitEnd true).ch c.val).req = some rq := by
    unfold State.ch
    rw [hm]
    exact h
  rw [(State.reply_sets hr (by rw [hm]; exact hc) 0 0 _).1]
  rfl

/-- R160: a commit that fails is tried once more, and then answered FAILED. -/
theorem State.capReply_bad (s : State) (c : Fin 4) : (s.capReply c.val false).est.capBusy = !s.est.commitRetry ∧
    (s.capReply c.val false).est.capFail = true := by
  obtain ⟨h1, h2, h3⟩ := s.capCommitEnd_bad
  have e : s.capReply c.val false = if (s.capCommitEnd false).est.commitRetry then (s.capCommitEnd false).capOpen
    else (s.capCommitEnd false).reply c.val 9 1 [] := by
    unfold State.capReply
    exact if_neg (by decide)
  rw [e, h3]
  cases s.est.commitRetry with
  | false => exact ⟨rfl, h2⟩
  | true =>
    rw [if_neg (by decide), State.reply_est]
    exact ⟨h1, h2⟩

end

/-- Settles O48: each command is its service, and each served clause one of the effects above. -/
theorem reportAndScheduleCommandsRun : Obligations.ReportAndScheduleCommandsRun := by
  intro s c p
  refine ⟨fun i k r hm => ?_, fun r => execCmdSelftest_runs, fun h => (State.serve_ok _ h : execCmdHealth c s = _),
    execCmdSchedLoad_notFound, fun i => execCmdSchedLoad_image, fun h => (State.serve_ok _ h : execCmdSchedInfo c s = _),
    execCmdBalCtl_mode, execCmdBalCtl_masks, fun h => (State.serve_ok _ h : execCmdBalStatus c s = _),
    fun h h2 => ⟨_, execCmdCalDischarge_starts h h2, ?_⟩, fun h h2 => ⟨_, execCmdCalDischarge_ends h h2, ?_⟩,
    fun h => (State.serve_ok _ h : execCmdCapReport c s = _), execCmdCapWrite_barred, fun h h2 h3 h4 => ?_, fun h h2 h3 h4 => ?_,
    execCmdCapCommit_starts, execCmdCapCommit_barred, fun r b h1 h2 h3 h4 h5 h6 =>
      ⟨_, (execMbxReplyPosted_ends b h1).trans (congrArg Host.Outcome.next (State.postEnd_capCommit b h2 h3 h4 h5 h6)), ?_⟩⟩
  · simp only [List.mem_cons, Prod.mk.injEq, List.not_mem_nil, or_false] at hm
    rcases hm with ⟨rfl, rfl⟩ | ⟨rfl, rfl⟩ | ⟨rfl, rfl⟩ | ⟨rfl, rfl⟩ | ⟨rfl, rfl⟩ | ⟨rfl, rfl⟩ | ⟨rfl, rfl⟩ | ⟨rfl, rfl⟩ | ⟨rfl, rfl⟩ | ⟨rfl, rfl⟩
    · exact State.notServed_of_serve execCmdSelftest_serve
    · exact State.notServed_of_serve execCmdHealth_serve
    · exact State.notServed_of_serve execCmdSchedLoad_serve
    · exact State.notServed_of_serve execCmdSchedInfo_serve
    · exact State.notServed_of_serve execCmdBalCtl_serve
    · exact State.notServed_of_serve execCmdBalStatus_serve
    · exact State.notServed_of_serve execCmdCalDischarge_serve
    · exact State.notServed_of_serve execCmdCapReport_serve
    · exact State.notServed_of_serve execCmdCapWrite_serve
    · exact State.notServed_of_serve execCmdCapCommit_serve
  · dsimp only
    rw [State.reply_est]
    exact s.calStart_sets
  · dsimp only
    rw [State.reply_est]
    exact s.calEnd_cal
  · obtain ⟨t, e, h5, h6⟩ := execCmdCapWrite_writes h h2
    obtain ⟨h7, h8⟩ := State.capWrites_mem (cap := leAt p 4 4) (capGroups p) s h4 (.inl (by simp [capGroups, h3]))
    refine ⟨t, e, ?_⟩
    unfold State.gr
    dsimp only
    rw [h5]
    exact ⟨h7, h8, h6⟩
  · obtain ⟨t, e, h5, h6⟩ := execCmdCapWrite_writes h h2
    refine ⟨t, e, fun g hg => ?_, h6⟩
    unfold State.gr
    rw [h5]
    exact State.capWrites_mem (cap := leAt p 4 4) (capGroups p) s (by omega) (.inl (by simp [capGroups, h3, hg]))
  · obtain ⟨h7, h8⟩ := State.capReply_good (s := s) (c := c) h2
    obtain ⟨h9, h10, h11⟩ := s.capCommitEnd_good
    obtain ⟨h12, h13⟩ := s.capReply_bad c
    refine ⟨fun hb => ?_, fun hb => ?_, fun hb => ?_⟩
    · rw [hb]
      exact h7
    · rw [hb, h8]
      exact ⟨h9, h10, h11⟩
    · rw [hb]
      exact ⟨h12, h13⟩

end Sys2Proof.Machine

/-! The safety commands of the mailbox (11_saggar_safety.md, 15_mailboxes.md): one lemma per effect, and the obligation. -/
namespace Sys2Proof.Machine

section
variable {s : State} {c : Fin 4} {p : List Byte}

theorem execCmdSagLogin_serve : ∃ f, exec (.cmdSagLogin c) s = s.serve c 0x0901 f := by
  change ∃ f, execCmdSagLogin c s = _
  unfold execCmdSagLogin
  exact ⟨_, rfl⟩

theorem execCmdSagStage_serve : ∃ f, exec (.cmdSagStage c) s = s.serve c 0x0902 f := by
  change ∃ f, execCmdSagStage c s = _
  unfold execCmdSagStage
  exact ⟨_, rfl⟩

theorem execCmdSagCommit_serve : ∃ f, exec (.cmdSagCommit c) s = s.serve c 0x0903 f := by
  change ∃ f, execCmdSagCommit c s = _
  unfold execCmdSagCommit
  exact ⟨_, rfl⟩

theorem execCmdSagAbort_serve : ∃ f, exec (.cmdSagAbort c) s = s.serve c 0x0904 f := by
  change ∃ f, execCmdSagAbort c s = _
  unfold execCmdSagAbort
  exact ⟨_, rfl⟩

theorem execCmdSagPassword_serve : ∃ f, exec (.cmdSagPassword c) s = s.serve c 0x0905 f := by
  change ∃ f, execCmdSagPassword c s = _
  unfold execCmdSagPassword
  exact ⟨_, rfl⟩

theorem execCmdSagLogRead_serve : ∃ f, exec (.cmdSagLogRead c) s = s.serve c 0x0906 f := by
  change ∃ f, execCmdSagLogRead c s = _
  unfold execCmdSagLogRead
  exact ⟨_, rfl⟩

theorem execCmdSagLogAck_serve : ∃ f, exec (.cmdSagLogAck c) s = s.serve c 0x0907 f := by
  change ∃ f, execCmdSagLogAck c s = _
  unfold execCmdSagLogAck
  exact ⟨_, rfl⟩

/-! CMD_SAG_LOGIN. -/

theorem execCmdSagLogin_locked (h : s.Serves c 0x0901 p) (h2 : s.sag.locked = true) :
    exec (.cmdSagLogin c) s = .next (s.reply c.val 5 s.lockLeft []) :=
  (State.serve_ok _ h : execCmdSagLogin c s = _).trans (if_pos h2)

theorem execCmdSagLogin_right (h : s.Serves c 0x0901 p) (h2 : s.sag.locked = false) (h3 : s.sag.pwOk (pwField p 0).2 = true) :
    exec (.cmdSagLogin c) s = .next ((s.loginOk c.val).ok c.val) :=
  (State.serve_ok _ h : execCmdSagLogin c s = _).trans ((if_neg (by simp [h2])).trans (if_pos h3))

theorem execCmdSagLogin_wrong (h : s.Serves c 0x0901 p) (h2 : s.sag.locked = false) (h3 : s.sag.pwOk (pwField p 0).2 = false) :
    exec (.cmdSagLogin c) s = .next ((s.loginFails (s.srcOf c.val).code).reply c.val 4 0 []) :=
  (State.serve_ok _ h : execCmdSagLogin c s = _).trans ((if_neg (by simp [h2])).trans (if_neg (by simp [h3])))

/-- R353: a wrong password counts, and the fifth in a row locks. -/
theorem State.loginFails_sag (s : State) (n : Nat) : (s.loginFails n).sag.loginFail = incSat 8 s.sag.loginFail ∧
    (s.loginFails n).sag.locked = decide (5 ≤ incSat 8 s.sag.loginFail) ∧ (s.loginFails n).sag.login = s.sag.login := by
  unfold State.loginFails
  extract_lets m
  rw [State.logPost_sag]
  exact ⟨rfl, rfl, rfl⟩

/-! CMD_SAG_STAGE, CMD_SAG_COMMIT and its end. -/

theorem execCmdSagStage_denied (h : s.Serves c 0x0902 p) (h2 : s.loggedIn c.val = false) :
    exec (.cmdSagStage c) s = .next (s.reply c.val 4 0 []) :=
  (State.serve_ok _ h : execCmdSagStage c s = _).trans (if_pos (by simp [h2]))

theorem execCmdSagStage_stages (h : s.Serves c 0x0902 p) (h2 : s.loggedIn c.val = true) :
    exec (.cmdSagStage c) s = .next ((s.stage (stageEntries p)).reply c.val 0 0 (leBytes 2 (s.stage (stageEntries p)).sag.staged.length)) :=
  (State.serve_ok _ h : execCmdSagStage c s = _).trans (if_neg (by simp [h2]))

theorem execCmdSagCommit_denied (h : s.Serves c 0x0903 p) (h2 : s.loggedIn c.val = false) :
    exec (.cmdSagCommit c) s = .next (s.reply c.val 4 0 []) :=
  (State.serve_ok _ h : execCmdSagCommit c s = _).trans (if_pos (by simp [h2]))

theorem execCmdSagCommit_begins (h : s.Serves c 0x0903 p) (h2 : s.loggedIn c.val = true) (h3 : s.commitBar = none) :
    exec (.cmdSagCommit c) s = .next (s.cfgOpen (s.srcOf c.val).code) := by
  refine (State.serve_ok _ h : execCmdSagCommit c s = _).trans ((if_neg (by simp [h2])).trans ?_)
  rw [h3]

theorem execCmdSagCommit_barred {b : Nat × Nat} (h : s.Serves c 0x0903 p) (h2 : s.loggedIn c.val = true) (h3 : s.commitBar = some b) :
    exec (.cmdSagCommit c) s = .next (s.reply c.val b.1 b.2 []) := by
  refine (State.serve_ok _ h : execCmdSagCommit c s = _).trans ((if_neg (by simp [h2])).trans ?_)
  rw [h3]

theorem State.postEnd_safetyCommit {rq : Request} {l : List (Nat × Int)} {n : Nat} (b : Bool) (h1 : (s.ch c.val).req = some rq)
    (h2 : (s.ch c.val).st = .running) (h3 : (s.ch c.val).outcome = none) (h4 : rq.code = 0x0903) (h5 : s.sag.job = some (l, n)) :
    s.postEnd c.val b = s.sagReply c.val b := by
  unfold State.postEnd
  rw [h1]
  dsimp only
  rw [if_neg (not_not_intro h2), h3]
  dsimp only
  rw [if_neg (by simp [h4]), if_neg (by simp [h4]), if_pos (by simp [h4, h5])]

/-- R356: the end of a commit puts the set in force that it was begun with, and ends the login. -/
theorem State.sagReply_good {l : List (Nat × Int)} {n : Nat} (h : s.sag.job = some (l, n)) : let t := s.sagReply c.val true
    t.sag.cfg = ({ s with sag := { s.sag with staged := l } } : State).stagedCfg ∧ t.sag.staged = [] ∧ t.sag.login = none ∧
      t.sag.ilkDone = false ∧ t.sag.job = none ∧ t.sag.latch = s.sag.latch := by
  have e : (s.sagReply c.val true).sag = (({ s with sag := { s.sag with staged := l, job := none } } : State).cfgCommit n).sag := by
    unfold State.sagReply State.cfgEnd
    rw [h]
    dsimp only
    rw [if_pos rfl, State.reply_sag]
  dsimp only
  rw [e]
  exact ⟨State.cfgCommit_sag_keeps Sag.cfg (fun _ _ => rfl) (fun _ _ => rfl) _ n,
    State.cfgCommit_sag_keeps Sag.staged (fun _ _ => rfl) (fun _ _ => rfl) _ n,
    State.cfgCommit_sag_keeps Sag.login (fun _ _ => rfl) (fun _ _ => rfl) _ n,
    State.cfgCommit_sag_keeps Sag.ilkDone (fun _ _ => rfl) (fun _ _ => rfl) _ n,
    State.cfgCommit_sag_keeps Sag.job (fun _ _ => rfl) (fun _ _ => rfl) _ n,
    State.cfgCommit_sag_keeps Sag.latch (fun _ _ => rfl) (fun _ _ => rfl) _ n⟩

/-! CMD_SAG_PASSWORD. -/

theorem execCmdSagPassword_denied (h : s.Serves c 0x0905 p) (h2 : s.oldPwOk p = false) :
    exec (.cmdSagPassword c) s = .next (s.reply c.val 4 0 []) :=
  (State.serve_ok _ h : execCmdSagPassword c s = _).trans (if_pos (by simp [h2]))

theorem execCmdSagPassword_full (h : s.Serves c 0x0905 p) (h2 : s.oldPwOk p = true) (h3 : s.sag.clogFree ≤ 1) :
    exec (.cmdSagPassword c) s = .next (s.reply c.val 7 s.sag.clogFree []) :=
  (State.serve_ok _ h : execCmdSagPassword c s = _).trans ((if_neg (by simp [h2])).trans (if_pos h3))

theorem execCmdSagPassword_sets (h : s.Serves c 0x0905 p) (h2 : s.oldPwOk p = true) (h3 : 1 < s.sag.clogFree) :
    exec (.cmdSagPassword c) s = .next ((s.setPassword (pwField p 13).2 (s.srcOf c.val).code).ok c.val) :=
  (State.serve_ok _ h : execCmdSagPassword c s = _).trans ((if_neg (by simp [h2])).trans (if_neg (by omega)))

/-- R355: an entry added to the change log bears the next number. -/
theorem State.clogAdd_clogSeq (s : State) (k src i : Nat) (a b : Int) : (s.clogAdd k src i a b).sag.clogSeq = s.sag.clogSeq + 1 := by
  unfold State.clogAdd Sag.clogSeq
  dsimp only
  rw [List.getLast?_drop, if_neg (by rw [List.length_append, List.length_singleton]; omega), List.getLast?_append, List.getLast?_singleton]
  rfl

theorem State.setPassword_sets (s : State) (w : List Byte) (n : Nat) : (∃ x, (s.setPassword w n).sag.pw = some (x, pwDigest x w)) ∧
    (s.setPassword w n).sag.clogSeq = s.sag.clogSeq + 1 := by
  unfold State.setPassword
  extract_lets salt
  refine ⟨⟨salt, State.clogAdd_sag_keeps Sag.pw (fun _ _ => rfl) _ _ _ _ _ _⟩, ?_⟩
  rw [State.clogAdd_clogSeq]
  rfl

/-! CMD_SAG_LOG_READ and CMD_SAG_LOG_ACK. -/

theorem execCmdSagLogRead_notFound (h : s.Serves c 0x0906 p) (h2 : s.sag.clogSeq < leAt p 0 4) :
    exec (.cmdSagLogRead c) s = .next (s.reply c.val 8 (leAt p 0 4) []) :=
  (State.serve_ok _ h : execCmdSagLogRead c s = _).trans (if_pos h2)

theorem execCmdSagLogRead_reads (h : s.Serves c 0x0906 p) (h2 : leAt p 0 4 ≤ s.sag.clogSeq) : exec (.cmdSagLogRead c) s =
    .next (s.reply c.val 0 0 ((List.range (leAt p 4 1)).flatMap (fun k => s.sag.clogAt (leAt p 0 4 + k)))) :=
  (State.serve_ok _ h : execCmdSagLogRead c s = _).trans (if_neg (Nat.not_lt.2 h2))

theorem execCmdSagLogAck_denied (h : s.Serves c 0x0907 p) (h2 : s.sag.pwOk (pwField p 0).2 = false) :
    exec (.cmdSagLogAck c) s = .next (s.reply c.val 4 0 []) :=
  (State.serve_ok _ h : execCmdSagLogAck c s = _).trans (if_pos (by simp [h2]))

theorem execCmdSagLogAck_unwritten (h : s.Serves c 0x0907 p) (h2 : s.sag.pwOk (pwField p 0).2 = true) (h3 : s.sag.clogSeq < leAt p 16 4) :
    exec (.cmdSagLogAck c) s = .next (s.reply c.val 6 s.sag.clogSeq []) :=
  (State.serve_ok _ h : execCmdSagLogAck c s = _).trans ((if_neg (by simp [h2])).trans (if_pos h3))

theorem execCmdSagLogAck_frees (h : s.Serves c 0x0907 p) (h2 : s.sag.pwOk (pwField p 0).2 = true) (h3 : leAt p 16 4 ≤ s.sag.clogSeq) :
    exec (.cmdSagLogAck c) s = .next ((s.clogAckTo (leAt p 16 4) (s.srcOf c.val).code).ok c.val) :=
  (State.serve_ok _ h : execCmdSagLogAck c s = _).trans ((if_neg (by simp [h2])).trans (if_neg (Nat.not_lt.2 h3)))

theorem State.clogAckTo_sets (s : State) (q n : Nat) : (s.clogAckTo q n).sag.clogAck = max s.sag.clogAck q ∧
    (s.clogAckTo q n).sag.cfg = s.sag.cfg :=
  ⟨State.clogAdd_sag_keeps Sag.clogAck (fun _ _ => rfl) _ _ _ _ _ _, State.clogAdd_sag_keeps Sag.cfg (fun _ _ => rfl) _ _ _ _ _ _⟩

end

/-- Settles O50: each command is its service, and each served clause one of the effects above. -/
theorem safetyCommandsRun : Obligations.SafetyCommandsRun := by
  intro s c p
  refine ⟨fun i k hm => ?_, execCmdSagLogin_locked, fun h h2 h3 => ⟨_, execCmdSagLogin_right h h2 h3, ?_⟩,
    fun h h2 h3 => ⟨_, execCmdSagLogin_wrong h h2 h3, ?_⟩,
    fun h2 => ⟨fun h => execCmdSagStage_denied h h2, fun h => execCmdSagCommit_denied h h2⟩, execCmdSagStage_stages,
    fun h h2 h3 => ⟨_, execCmdSagCommit_begins h h2 h3, rfl, rfl, rfl, rfl⟩, fun b => execCmdSagCommit_barred,
    fun r l n b h1 h2 h3 h4 h5 h6 hb =>
      ⟨_, (execMbxReplyPosted_ends b h1).trans (congrArg Host.Outcome.next (State.postEnd_safetyCommit b h2 h3 h4 h5 h6)), ?_⟩,
    fun r l n h1 h2 h3 h4 h5 h6 =>
      (execMbxReplyPosted_ends false h1).trans (congrArg Host.Outcome.next (State.postEnd_safetyCommit false h2 h3 h4 h5 h6)),
    fun h => (State.serve_ok _ h : execCmdSagAbort c s = _), execCmdSagPassword_denied, execCmdSagPassword_full,
    fun h h2 h3 => ⟨_, execCmdSagPassword_sets h h2 h3, ?_⟩, execCmdSagLogRead_notFound, execCmdSagLogRead_reads, execCmdSagLogAck_denied,
    execCmdSagLogAck_unwritten, fun h h2 h3 => ⟨_, execCmdSagLogAck_frees h h2 h3, ?_⟩⟩
  · simp only [List.mem_cons, Prod.mk.injEq, List.not_mem_nil, or_false] at hm
    rcases hm with ⟨rfl, rfl⟩ | ⟨rfl, rfl⟩ | ⟨rfl, rfl⟩ | ⟨rfl, rfl⟩ | ⟨rfl, rfl⟩ | ⟨rfl, rfl⟩ | ⟨rfl, rfl⟩
    · exact State.notServed_of_serve execCmdSagLogin_serve
    · exact State.notServed_of_serve execCmdSagStage_serve
    · exact State.notServed_of_serve execCmdSagCommit_serve
    · exact State.notServed_of_serve execCmdSagAbort_serve
    · exact State.notServed_of_serve execCmdSagPassword_serve
    · exact State.notServed_of_serve execCmdSagLogRead_serve
    · exact State.notServed_of_serve execCmdSagLogAck_serve
  · unfold State.ok
    dsimp only
    rw [State.reply_sag]
    exact ⟨rfl, rfl, rfl, rfl⟩
  · dsimp only
    rw [State.reply_sag]
    exact s.loginFails_sag _
  · rw [hb]
    exact State.sagReply_good h6
  · unfold State.ok
    dsimp only
    rw [State.reply_sag]
    exact s.setPassword_sets _ _
  · unfold State.ok
    dsimp only
    rw [State.reply_sag]
    exact s.clogAckTo_sets _ _

end Sys2Proof.Machine

/-! A field update as it is received and staged (17_field_update.md, 15_mailboxes.md, 13_plant_link.md): the blocks, the commands, the
forwarding, and the obligation. -/
namespace Sys2Proof.Machine

section
variable {s : State} {c : Fin 4} {p : List Byte} {x : Tx} {i n : Nat}

theorem execCmdUpdateBegin_serve : ∃ f, exec (.cmdUpdateBegin c) s = s.serve c 0x0801 f := by
  change ∃ f, execCmdUpdateBegin c s = _
  unfold execCmdUpdateBegin
  exact ⟨_, rfl⟩

theorem execCmdUpdateStage_serve : ∃ f, exec (.cmdUpdateStage c) s = s.serve c 0x0802 f := by
  change ∃ f, execCmdUpdateStage c s = _
  unfold execCmdUpdateStage
  exact ⟨_, rfl⟩

theorem execCmdUpdateAbort_serve : ∃ f, exec (.cmdUpdateAbort c) s = s.serve c 0x0804 f := by
  change ∃ f, execCmdUpdateAbort c s = _
  unfold execCmdUpdateAbort
  exact ⟨_, rfl⟩

theorem execCmdUpdateStatus_serve : ∃ f, exec (.cmdUpdateStatus c) s = s.serve c 0x0805 f := by
  change ∃ f, execCmdUpdateStatus c s = _
  unfold execCmdUpdateStatus
  exact ⟨_, rfl⟩

/-! UPD_BLOCK. -/

theorem execUpdBlock_denied (g : s.TxOk x 10 i) (h1 : s.mayAct x.addr = false) :
    exec (.updBlock x) s = .next ((s.txIn x i).sessStatus i x 10 10) :=
  (State.transact_ok _ g : execUpdBlock x s = _).trans (if_pos (by rw [show (s.txIn x i).mayAct x.addr = false from h1]; rfl))

theorem execUpdBlock_busy (g : s.TxOk x 10 i) (h1 : s.mayAct x.addr = true) (h2 : s.sys.mgpAway = true) :
    exec (.updBlock x) s = .next ((s.txIn x i).sessStatus i x 10 1) :=
  (State.transact_ok _ g : execUpdBlock x s = _).trans ((if_neg (by rw [show (s.txIn x i).mayAct x.addr = true from h1]; decide)).trans (if_pos h2))

/-- R462: a block from an allowed source while the MGP is present, before its part is looked up. -/
theorem execUpdBlock_taken (g : s.TxOk x 10 i) (h1 : s.mayAct x.addr = true) (h2 : s.sys.mgpAway = false) : exec (.updBlock x) s =
    if !s.upd.isOpen || decide (1024 < (x.payload.drop 8).length) then .next ((s.txIn x i).sessStatus i x 10 5)
    else match s.upd.lengthOf (leAt x.payload 0 2) with
    | none => .next ((s.txIn x i).sessStatus i x 10 5)
    | some n =>
      if s.upd.roll != .none then .next ((s.txIn x i).blockReply i x n)
      else if leAt x.payload 4 4 = (s.upd.bytesOf (leAt x.payload 0 2)).length ∧
          n < (s.upd.bytesOf (leAt x.payload 0 2)).length + (x.payload.drop 8).length then .next ((s.txIn x i).sessStatus i x 10 5)
      else if leAt x.payload 4 4 ≠ (s.upd.bytesOf (leAt x.payload 0 2)).length then
        .next (({ s.txIn x i with upd := { s.upd with phase := 1 } } : State).blockReply i x (s.upd.bytesOf (leAt x.payload 0 2)).length)
      else if (x.payload.drop 8).isEmpty then
        .next (({ s.txIn x i with upd := { s.upd with phase := 1 } } : State).blockReply i x (s.upd.bytesOf (leAt x.payload 0 2)).length)
      else .next ((({ s.txIn x i with upd := { s.upd with phase := 1 } } : State).blockPut (leAt x.payload 0 2) n (x.payload.drop 8)).blockReply i x
        ((s.upd.bytesOf (leAt x.payload 0 2)).length + (x.payload.drop 8).length)) :=
  (State.transact_ok _ g : execUpdBlock x s = _).trans ((if_neg (by rw [show (s.txIn x i).mayAct x.addr = true from h1]; decide)).trans
    (if_neg (by rw [show (s.txIn x i).sys.mgpAway = false from h2]; decide)))

theorem execUpdBlock_bad (g : s.TxOk x 10 i) (h1 : s.mayAct x.addr = true) (h2 : s.sys.mgpAway = false)
    (h3 : s.upd.isOpen = false ∨ 1032 < x.payload.length ∨ s.upd.lengthOf (leAt x.payload 0 2) = none) :
    exec (.updBlock x) s = .next ((s.txIn x i).sessStatus i x 10 5) := by
  rw [execUpdBlock_taken g h1 h2]
  rcases h3 with h3 | h3 | h3
  · exact if_pos (by simp [h3])
  · exact if_pos (by simp [show 1024 < x.payload.length - 8 by omega])
  · split
    · rfl
    · rw [h3]

/-- R462: a block of an open update, of a part that there is. -/
theorem execUpdBlock_part (g : s.TxOk x 10 i) (h1 : s.mayAct x.addr = true) (h2 : s.sys.mgpAway = false) (h3 : s.upd.isOpen = true)
    (h4 : x.payload.length ≤ 1032) (h5 : s.upd.lengthOf (leAt x.payload 0 2) = some n) : exec (.updBlock x) s =
    if s.upd.roll != .none then .next ((s.txIn x i).blockReply i x n)
    else if leAt x.payload 4 4 = (s.upd.bytesOf (leAt x.payload 0 2)).length ∧
        n < (s.upd.bytesOf (leAt x.payload 0 2)).length + (x.payload.drop 8).length then .next ((s.txIn x i).sessStatus i x 10 5)
    else if leAt x.payload 4 4 ≠ (s.upd.bytesOf (leAt x.payload 0 2)).length then
      .next (({ s.txIn x i with upd := { s.upd with phase := 1 } } : State).blockReply i x (s.upd.bytesOf (leAt x.payload 0 2)).length)
    else if (x.payload.drop 8).isEmpty then
      .next (({ s.txIn x i with upd := { s.upd with phase := 1 } } : State).blockReply i x (s.upd.bytesOf (leAt x.payload 0 2)).length)
    else .next ((({ s.txIn x i with upd := { s.upd with phase := 1 } } : State).blockPut (leAt x.payload 0 2) n (x.payload.drop 8)).blockReply i x
      ((s.upd.bytesOf (leAt x.payload 0 2)).length + (x.payload.drop 8).length)) := by
  rw [execUpdBlock_taken g h1 h2, if_neg (by simp [h3]; omega), h5]

theorem execUpdBlock_rollOut (g : s.TxOk x 10 i) (h1 : s.mayAct x.addr = true) (h2 : s.sys.mgpAway = false) (h3 : s.upd.isOpen = true)
    (h4 : x.payload.length ≤ 1032) (h5 : s.upd.lengthOf (leAt x.payload 0 2) = some n) (h6 : s.upd.roll ≠ .none) :
    exec (.updBlock x) s = .next ((s.txIn x i).blockReply i x n) := by
  rw [execUpdBlock_part g h1 h2 h3 h4 h5]
  exact if_pos (by simp [h6])

section
variable (g : s.TxOk x 10 i) (h1 : s.mayAct x.addr = true) (h2 : s.sys.mgpAway = false) (h3 : s.upd.isOpen = true)
  (h4 : x.payload.length ≤ 1032) (h5 : s.upd.lengthOf (leAt x.payload 0 2) = some n) (h6 : s.upd.roll = .none)
include g h1 h2 h3 h4 h5 h6

theorem execUpdBlock_due {o : Nat} (h7 : o = (s.upd.bytesOf (leAt x.payload 0 2)).length) (h8 : leAt x.payload 4 4 ≠ o ∨
    (x.payload.length = 8 ∧ o ≤ n)) :
    exec (.updBlock x) s = .next (({ s.txIn x i with upd := { s.upd with phase := 1 } } : State).blockReply i x o) := by
  rw [execUpdBlock_part g h1 h2 h3 h4 h5, if_neg (by simp [h6]), List.length_drop, ← h7]
  by_cases ho : leAt x.payload 4 4 = o
  · obtain ⟨h8, h9⟩ := h8.resolve_left (not_not_intro ho)
    rw [if_neg (by omega), if_neg (not_not_intro ho)]
    exact if_pos (by simp [h8])
  · rw [if_neg (fun h => ho h.1)]
    exact if_pos ho

theorem execUpdBlock_past {o : Nat} (h7 : o = (s.upd.bytesOf (leAt x.payload 0 2)).length) (h8 : leAt x.payload 4 4 = o)
    (h9 : n < o + (x.payload.length - 8)) : exec (.updBlock x) s = .next ((s.txIn x i).sessStatus i x 10 5) := by
  rw [execUpdBlock_part g h1 h2 h3 h4 h5, if_neg (by simp [h6]), List.length_drop, ← h7]
  exact if_pos ⟨h8, h9⟩

theorem execUpdBlock_writes {o : Nat} (h7 : o = (s.upd.bytesOf (leAt x.payload 0 2)).length) (h8 : leAt x.payload 4 4 = o)
    (h9 : 8 < x.payload.length) (h10 : o + (x.payload.length - 8) ≤ n) : exec (.updBlock x) s =
      .next ((({ s.txIn x i with upd := { s.upd with phase := 1 } } : State).blockPut (leAt x.payload 0 2) n (x.payload.drop 8)).blockReply i x
        (o + (x.payload.length - 8))) := by
  rw [execUpdBlock_part g h1 h2 h3 h4 h5, if_neg (by simp [h6]), List.length_drop, ← h7, if_neg (by omega), if_neg (not_not_intro h8)]
  exact if_neg (by simp; omega)

end

/-- R462: a block of the manifest that leaves it short of its length joins it. -/
theorem State.blockPut_manifest {b : List Byte} (h : (s.upd.manBuf ++ b).length ≠ n) :
    s.blockPut 0xFFFF n b = { s with upd := { s.upd with manBuf := s.upd.manBuf ++ b } } := by
  unfold State.blockPut Upd.bytesOf
  dsimp only
  rw [if_pos rfl, if_pos rfl]
  exact if_neg h

/-! CMD_UPDATE_BEGIN. -/

theorem execCmdUpdateBegin_opens (h : s.Serves c 0x0801 p) (h2 : s.sys.st ≠ .pilot ∨ s.upd.isOpen = false) : exec (.cmdUpdateBegin c) s =
    .next ((({ s with upd := s.upd.begin p } : State).toMaintenance.moved).reply c.val 0 0 (leBytes 2 1024 ++ leBytes 2 0)) :=
  (State.serve_ok _ h : execCmdUpdateBegin c s = _).trans (if_neg fun ⟨ha, hb⟩ =>
    h2.elim (fun h => h ha) (fun h => absurd (h.symm.trans hb) (by decide)))

theorem execCmdUpdateBegin_inhibited (h : s.Serves c 0x0801 p) (h2 : s.sys.st = .pilot) (h3 : s.upd.isOpen = true) :
    exec (.cmdUpdateBegin c) s = .next (s.reply c.val 3 1 []) :=
  (State.serve_ok _ h : execCmdUpdateBegin c s = _).trans (if_pos ⟨h2, h3⟩)

theorem State.toMaintenance_st (s : State) : s.toMaintenance.sys.st = if s.sys.st = .pilot then .pilot else .maintenance := by
  unfold State.toMaintenance
  by_cases h : s.sys.st = .pilot
  · rw [if_pos (.inl h), if_pos h, h]
  · rw [if_neg h]
    by_cases h2 : s.sys.st = .maintenance
    · rw [if_pos (.inr h2), h2]
    · rw [if_neg (not_or.2 ⟨h, h2⟩), State.enter_sys_st]

/-! CMD_UPDATE_STAGE. -/

theorem execCmdUpdateStage_eq (h : s.Serves c 0x0802 p) : exec (.cmdUpdateStage c) s = .next (s.stageUpdate c.val) :=
  (State.serve_ok _ h : execCmdUpdateStage c s = _)

theorem State.stageUpdate_staged {m : Manifest} (c : Nat) (h1 : s.upd.man = some m)
    (h2 : ∀ kp ∈ indexed m.parts, kp.2.stages (s.upd.got kp.1) = true) : s.stageUpdate c =
      ({ s with upd := { s.upd with phase := 2 } } : State).result c 0 0 (leBytes 2 m.parts.length ++ leBytes 2 0xFFFF) := by
  have hn : (indexed m.parts).find? (fun (kp : Nat × Part) => !kp.2.stages (s.upd.got kp.1)) = none :=
    List.find?_eq_none.2 fun kp hk => by simp [h2 kp hk]
  unfold State.stageUpdate
  rw [h1]
  dsimp only
  rw [hn]
  rfl

/-- R466: the update after its first wrong part has been discarded. -/
def Upd.partDropped (u : Upd) (k : Nat) (q : Part) : Upd :=
  { u with cur := u.cur.set k [], checked := u.checked.filter (· != k), phase := 1, bank := withoutKeys [q.key] u.bank }

theorem State.stageUpdate_wrong {m : Manifest} {k : Nat} {q : Part} (c : Nat) (h1 : s.upd.man = some m)
    (h2 : (indexed m.parts).find? (fun kp => !kp.2.stages (s.upd.got kp.1)) = some (k, q)) : s.stageUpdate c =
      (({ s with upd := s.upd.partDropped k q } : State).updFault 0 1 k).result c 9 3 (leBytes 2 m.parts.length ++ leBytes 2 k) := by
  unfold State.stageUpdate
  rw [h1]
  dsimp only
  rw [h2]
  rfl

/-- R437: the mailbox with an outcome noted on a channel. -/
def Mbx.resultIn (m : Mbx) (c rc d : Nat) (b : List Byte) : Mbx :=
  { m with ch := m.ch.modify c (fun x => { x with outcome := some (rc, d, b) }) }

theorem Upd.partDropped_got (u : Upd) (k : Nat) (q : Part) : (u.partDropped k q).got k = [] := by
  show (u.cur.set k []).getD k [] = []
  rw [List.getD_eq_getElem?_getD, List.getElem?_set]
  split
  · split
    · rfl
    · rfl
  next h => exact absurd rfl h

theorem State.stageUpdate_noManifest (c : Nat) (h : s.upd.man = none) : s.stageUpdate c = s.result c 9 3 (leBytes 2 0 ++ leBytes 2 0xFFFF) := by
  unfold State.stageUpdate
  rw [h]
  rfl

/-! BLOCK_FORWARD_REPEAT. -/

theorem execBlockForwardRepeat_none {r : Option (List Byte)} (h : s.upd.nextFam = 0 ∨ s.upd.phase = 0 ∨ s.sys.mgpAway = true) :
    exec (.blockForwardRepeat r) s = .next s :=
  (if_pos (by rcases h with h | h | h <;> simp [h]) : execBlockForwardRepeat r s = _)

/-- R468: what has been sent of an update to the neighbour. -/
theorem execBlockForwardRepeat_open {r : Option (List Byte)} (h1 : s.upd.nextFam ≠ 0) (h2 : s.upd.phase ≠ 0) (h3 : s.sys.mgpAway = false) :
    exec (.blockForwardRepeat r) s =
      match (s.upd.fwdReply r).fwdList.find? (fun y => decide ((s.upd.fwdReply r).fwdAt y.1 < y.2)) with
      | none => .next { s with upd := { s.upd.fwdReply r with fwdSent := none, fwdOut := [], fwdStall := 0 } }
      | some (k, _) => .next (if (s.upd.fwdReply r).fwdStall + 1 = 100 then
          (({ s with upd := { s.upd.fwdReply r with fwdStall := (s.upd.fwdReply r).fwdStall + 1 } } : State).fwdSend k).updFault 0 4 k
        else ({ s with upd := { s.upd.fwdReply r with fwdStall := (s.upd.fwdReply r).fwdStall + 1 } } : State).fwdSend k) :=
  (if_neg (by simp [h1, h2, h3]) : execBlockForwardRepeat r s = _)

theorem State.fwdSend_sets (s : State) (k : Nat) : ∃ v, s.fwdSend k = { s with upd := v } ∧ v.fwdStall = s.upd.fwdStall ∧
    (s.upd.fwdSess ≠ none → v.fwdSent = some (k, s.upd.fwdAt k)) := by
  unfold State.fwdSend
  split
  next h => exact ⟨_, rfl, rfl, fun h2 => absurd h h2⟩
  · exact ⟨_, rfl, rfl, fun _ => rfl⟩

theorem execBlockForwardRepeat_sends {r : Option (List Byte)} {k : Nat} (h1 : s.upd.nextFam ≠ 0) (h2 : s.upd.phase ≠ 0)
    (h3 : s.sys.mgpAway = false)
    (h4 : (s.upd.fwdReply r).fwdList.find? (fun y => decide ((s.upd.fwdReply r).fwdAt y.1 < y.2)) = some (k, n)) :
    Completes (.blockForwardRepeat r) s fun t => t.upd.fwdStall = (s.upd.fwdReply r).fwdStall + 1 ∧ t = { s with upd := t.upd, log := t.log } ∧
      ((s.upd.fwdReply r).fwdSess ≠ none → t.upd.fwdSent = some (k, (s.upd.fwdReply r).fwdAt k)) := by
  have e := execBlockForwardRepeat_open (r := r) h1 h2 h3
  rw [h4] at e
  generalize s.upd.fwdReply r = u at e ⊢
  obtain ⟨v, e1, e2, e3⟩ := ({ s with upd := { u with fwdStall := u.fwdStall + 1 } } : State).fwdSend_sets k
  refine ⟨_, e, ?_⟩
  rw [e1]
  dsimp only
  split
  · rw [show ({ s with upd := v } : State).updFault 0 4 k = _ from State.logPost_only_log _ _ _ _ _]
    exact ⟨e2, rfl, e3⟩
  · exact ⟨e2, rfl, e3⟩

/-! CMD_UPDATE_ABORT and CMD_UPDATE_STATUS. -/

theorem execCmdUpdateAbort_eq (h : s.Serves c 0x0804 p) : exec (.cmdUpdateAbort c) s =
    .next ((if s.upd.roll != .none then s.updEnd else ({ s with upd := s.upd.discard } : State).updEnd).ok c.val) :=
  (State.serve_ok _ h : execCmdUpdateAbort c s = _)

/-- R467: an update that has ended is received no more, and leaves what is in force. -/
theorem State.updEnd_sets (s : State) : s.updEnd.upd.phase = 0 ∧ s.updEnd.upd.roll = .none ∧ s.updEnd.upd.force = s.upd.force := by
  unfold State.updEnd
  split
  next h =>
    unfold Upd.isOpen at h
    simp only [Bool.not_eq_true', Bool.or_eq_false_iff, bne_eq_false_iff_eq] at h
    exact ⟨h.1, h.2, rfl⟩
  · exact ⟨rfl, rfl, rfl⟩

end

/-- Settles O51: a block by the place of its part, a command by its service. -/
theorem updatesAreReceivedAndStaged : Obligations.UpdatesAreReceivedAndStaged := by
  intro s c p
  refine ⟨fun i k hm => ?_, fun x i g => ⟨execUpdBlock_denied g, execUpdBlock_busy g, execUpdBlock_bad g⟩, fun x i n => execUpdBlock_rollOut,
    fun x i n o g h1 h2 h3 h4 h5 h6 h7 => ⟨execUpdBlock_due g h1 h2 h3 h4 h5 h6 h7, execUpdBlock_past g h1 h2 h3 h4 h5 h6 h7,
      execUpdBlock_writes g h1 h2 h3 h4 h5 h6 h7⟩, fun n b => State.blockPut_manifest, fun h h2 => ⟨_, execCmdUpdateBegin_opens h h2, ?_⟩,
    execCmdUpdateBegin_inhibited, fun m h h1 h2 => (execCmdUpdateStage_eq h).trans (congrArg Host.Outcome.next (State.stageUpdate_staged _ h1 h2)),
    fun m k q h h1 h2 => ⟨_, (execCmdUpdateStage_eq h).trans (congrArg Host.Outcome.next (State.stageUpdate_wrong _ h1 h2)), ?_⟩,
    fun h h1 => (execCmdUpdateStage_eq h).trans (congrArg Host.Outcome.next (State.stageUpdate_noManifest _ h1)),
    fun r => execBlockForwardRepeat_none, fun r h1 h2 h3 h4 => ?_, fun r k n => execBlockForwardRepeat_sends,
    fun h => ⟨_, execCmdUpdateAbort_eq h, ?_⟩, fun h => ⟨_, (State.serve_ok _ h : execCmdUpdateStatus c s = _), ?_⟩⟩
  · simp only [List.mem_cons, Prod.mk.injEq, List.not_mem_nil, or_false] at hm
    rcases hm with ⟨rfl, rfl⟩ | ⟨rfl, rfl⟩ | ⟨rfl, rfl⟩ | ⟨rfl, rfl⟩
    · exact State.notServed_of_serve execCmdUpdateBegin_serve
    · exact State.notServed_of_serve execCmdUpdateStage_serve
    · exact State.notServed_of_serve execCmdUpdateAbort_serve
    · exact State.notServed_of_serve execCmdUpdateStatus_serve
  · dsimp only
    rw [State.reply_upd, State.reply_sys, State.reply_sag, State.moved_upd, State.moved_sys, State.moved_sag, State.toMaintenance_upd,
      State.toMaintenance_sag]
    exact ⟨rfl, rfl, rfl, rfl, State.toMaintenance_st _, rfl⟩
  · have e := ({ s with upd := s.upd.partDropped k q } : State).updFault_upd 0 1 k
    have e2 := ({ s with upd := s.upd.partDropped k q } : State).updFault_mbx 0 1 k
    generalize ({ s with upd := s.upd.partDropped k q } : State).updFault 0 1 k = t at e e2 ⊢
    exact ⟨congrArg Upd.phase e, (congrArg (Upd.got · k) e).trans (Upd.partDropped_got _ _ _), (congrArg Upd.force e : t.upd.force = _),
      congrArg (Mbx.resultIn · c.val 9 3 (leBytes 2 m.parts.length ++ leBytes 2 k)) e2⟩
  · rw [execBlockForwardRepeat_open h1 h2 h3, h4]
  · unfold State.ok
    dsimp only
    rw [State.reply_upd, State.reply_sag]
    split
    · obtain ⟨e1, e2, e3⟩ := s.updEnd_sets
      exact ⟨e1, e2, e3, s.updEnd_sag⟩
    · obtain ⟨e1, e2, e3⟩ := ({ s with upd := s.upd.discard } : State).updEnd_sets
      exact ⟨e1, e2, e3, State.updEnd_sag _⟩
  · obtain ⟨m, q, y, e⟩ := s.reply_only c.val 0 0 (leBytes 1 s.upd.phase ++ leBytes 1 0 ++
      leBytes 2 ((s.upd.man.map (·.parts.length)).getD 0) ++ leBytes 4 s.upd.statusNext)
    rw [e]

end Sys2Proof.Machine

/-! A field update as it is put in force (17_field_update.md, 15_mailboxes.md): the activation, the copy, the new image, the rollback, the
saggar image, the roll-out to the nodes, and the obligation. -/
namespace Sys2Proof.Machine

section
variable {s : State} {c : Fin 4} {p : List Byte}

theorem execCmdUpdateActivate_serve : ∃ f, exec (.cmdUpdateActivate c) s = s.serve c 0x0803 f := by
  change ∃ f, execCmdUpdateActivate c s = _
  unfold execCmdUpdateActivate
  exact ⟨_, rfl⟩

/-! CMD_UPDATE_ACTIVATE. -/

theorem execCmdUpdateActivate_barred (h : s.Serves c 0x0803 p) (h2 : s.activateBars ≠ 0) :
    exec (.cmdUpdateActivate c) s = .next (s.reply c.val 3 s.activateBars []) :=
  (State.serve_ok _ h : execCmdUpdateActivate c s = _).trans (if_pos h2)

theorem execCmdUpdateActivate_digest (h : s.Serves c 0x0803 p) (h2 : s.activateBars = 0) (h3 : s.upd.digestsOk = false) :
    exec (.cmdUpdateActivate c) s = .next (s.reply c.val 9 3 []) :=
  (State.serve_ok _ h : execCmdUpdateActivate c s = _).trans ((if_neg (not_not_intro h2)).trans (if_pos (by simp [h3])))

theorem execCmdUpdateActivate_goes (h : s.Serves c 0x0803 p) (h2 : s.activateBars = 0) (h3 : s.upd.digestsOk = true) :
    exec (.cmdUpdateActivate c) s = .next (({ s with upd := s.upd.activate } : State).ok c.val).mgpGoes :=
  (State.serve_ok _ h : execCmdUpdateActivate c s = _).trans ((if_neg (not_not_intro h2)).trans (if_neg (by simp [h3])))

/-- R466: an activation writes an unconfirmed record and hands the MGP over. -/
theorem State.activated_sets (s : State) (c : Fin 4) : let t := (({ s with upd := s.upd.activate } : State).ok c.val).mgpGoes
    t.upd.phase = 3 ∧ t.upd.handoff = true ∧ t.upd.confirmed = false ∧ t.sys.mgpAway = true ∧ t.sag.login = none ∧
      t.log.banked = some (s.csm.recs, s.est) ∧ t.sys.st = s.sys.st := by
  obtain ⟨m, q, y, e⟩ := ({ s with upd := s.upd.activate } : State).reply_only c.val 0 0 []
  unfold State.ok
  dsimp only
  rw [e]
  exact ⟨rfl, rfl, rfl, rfl, rfl, rfl, rfl⟩

/-! The copy. -/

theorem execLoaderCopyDone_none (b : Bool) (h : s.upd.handoff = false ∨ s.upd.copied = true) : exec (.loaderCopyDone b) s = .next s :=
  (if_pos (by rcases h with h | h <;> simp [h]) : execLoaderCopyDone b s = _)

section
variable (h1 : s.upd.handoff = true) (h2 : s.upd.copied = false)
include h1 h2

theorem execLoaderCopyDone_good : exec (.loaderCopyDone true) s =
    if s.sys.loaderOnly && !s.upd.rolledBack then .next s.loaderBoot else .next { s with upd := { s.upd with copied := true } } :=
  (if_neg (by simp [h1, h2]) : execLoaderCopyDone true s = _).trans (if_neg (by decide))

theorem execLoaderCopyDone_wrong : exec (.loaderCopyDone false) s = .next (if s.upd.rolledBack then s.staysAway else s.rollBack) :=
  (if_neg (by simp [h1, h2]) : execLoaderCopyDone false s = _).trans (if_pos (by decide))

end

/-- R467: a rollback reverts the record to the previous image. -/
theorem State.rollBack_upd (s : State) : s.rollBack.upd = { s.upd.revert with copied := false, rolledBack := true } :=
  State.updFault_upd _ _ _ _

/-! The new image. -/

theorem execNewMgp_none (h : s.upd.handoff = false ∨ s.upd.copied = false) : exec .newMgpTimeout s = .next s ∧ exec .newMgpReady s = .next s := by
  have hg : (!s.upd.handoff || !s.upd.copied) = true := by rcases h with h | h <;> simp [h]
  exact ⟨(if_pos hg : execNewMgpTimeout s = _), (if_pos hg : execNewMgpReady s = _)⟩

section
variable (h1 : s.upd.handoff = true) (h2 : s.upd.copied = true)
include h1 h2

theorem execNewMgpTimeout_eq : exec .newMgpTimeout s = .next (if s.upd.rolledBack then s.staysAway else s.rollBack) :=
  (if_neg (by simp [h1, h2]) : execNewMgpTimeout s = _)

theorem execNewMgpReady_eq : exec .newMgpReady s = .next (if s.upd.rolledBack then s.oldReady else s.newReady) :=
  (if_neg (by simp [h1, h2]) : execNewMgpReady s = _)

end

/-- R466: the activation record, its parts and whether a handoff runs. -/
def Upd.record (u : Upd) : Bool × List (Nat × Nat) × Bool := (u.confirmed, u.act, u.handoff)

theorem State.formatStep_record (s : State) : s.formatStep.upd.record = s.upd.record := by
  have h (l : List Nat) : ∀ t : State, (l.foldl State.toNewFormat t).upd = t.upd := by
    induction l with
    | nil => exact fun t => rfl
    | cons k l ih => exact fun t => (ih _).trans (t.toNewFormat_upd k)
  unfold State.formatStep State.loadNewFormat
  split
  · exact (congrArg Upd.record (h s.changedSettings s) : (s.changedSettings.foldl State.toNewFormat s).upd.record = _)
  · rfl

theorem State.formatChange_record (s : State) (old : Nat) : (s.formatChange old).upd.record = s.upd.record := by
  unfold State.formatChange
  split
  · rfl
  · extract_lets s1 y s2 s3
    have h1 : s2.upd.record = s.upd.record :=
      (congrArg Upd.record (s.logPost_upd 0 0x0105 2 (le2 old ++ le2 s.sys.fmtSet)) : s1.upd.record = _)
    have h2 : s3.upd.record = s2.upd.record := by
      unfold s3
      split
      · exact congrArg Upd.record (s2.stopStart_upd none)
      · rfl
    exact s3.formatStep_record.trans (h2.trans h1)

/-- R467: an update that ends leaves the activation record, and no handoff. -/
theorem State.updEnd_record (h : s.upd.handoff = false) : s.updEnd.upd.record = s.upd.record ∧ s.updEnd.sys.mgpAway = s.sys.mgpAway := by
  unfold State.updEnd
  split
  · exact ⟨rfl, rfl⟩
  · exact ⟨congrArg (fun b => (s.upd.confirmed, s.upd.act, b)) h.symm, rfl⟩

theorem State.afterConfirm_record (h : s.upd.handoff = false) (l : List (Nat × Nat)) :
    (s.afterConfirm l).upd.record = s.upd.record ∧ (s.afterConfirm l).sys.mgpAway = s.sys.mgpAway := by
  have hr (t : State) (ht : t.upd.handoff = false) : t.rollCheck.upd.record = t.upd.record ∧ t.rollCheck.sys.mgpAway = t.sys.mgpAway := by
    unfold State.rollCheck
    split
    · exact State.updEnd_record ht
    · exact ⟨rfl, rfl⟩
  unfold State.afterConfirm
  split
  next q _ =>
    split
    · exact hr { s with upd := { s.upd with roll := .staging, rollPart := q, done := 0, left := [], again := [], rolled := [] } } h
    · exact State.updEnd_record h
  · exact State.updEnd_record h

/-- R467: a new image that is ready confirms its record and brings the MGP back. -/
theorem State.newReady_sets (s : State) : s.newReady.sys.mgpAway = false ∧ s.newReady.upd.record = (true, [], false) := by
  unfold State.newReady
  extract_lets l old s1
  have h1 : s1.upd.record = (true, [], false) := by
    unfold s1
    rw [State.heldBusy_upd, State.mgpBack_upd]
    rfl
  have h2 : s1.sys.mgpAway = false := by
    unfold s1
    rw [State.heldBusy_sys]
    exact s.confirm.mgpBack_sets.1
  have h3 : (s1.formatChange old).rangeLeave.upd.record = (true, [], false) := by
    rw [State.rangeLeave_upd, State.formatChange_record, h1]
  have h4 : (s1.formatChange old).rangeLeave.sys.mgpAway = false := by
    rw [State.rangeLeave_sys, State.formatChange_sys, h2]
  generalize (s1.formatChange old).rangeLeave = t at h3 h4 ⊢
  have h5 : t.upd.handoff = false := congrArg (fun r : Bool × List (Nat × Nat) × Bool => r.2.2) h3
  obtain ⟨h6, h7⟩ := State.afterConfirm_record h5 l
  exact ⟨h7.trans h4, h6.trans h3⟩

theorem execNewMgpReady_new (h1 : s.upd.handoff = true) (h2 : s.upd.copied = true) (h3 : s.upd.rolledBack = false) :
    Completes .newMgpReady s fun t => t.sys.mgpAway = false ∧ t.upd.confirmed = true ∧ t.upd.act = [] ∧ t.upd.handoff = false := by
  obtain ⟨e1, e2⟩ := s.newReady_sets
  refine ⟨_, (execNewMgpReady_eq h1 h2).trans (congrArg Host.Outcome.next (if_neg (by simp [h3]))), e1, ?_⟩
  simpa [Upd.record] using e2

/-- R467: after a rollback the previous image brings the MGP back. -/
theorem execNewMgpReady_old (h1 : s.upd.handoff = true) (h2 : s.upd.copied = true) (h3 : s.upd.rolledBack = true) :
    Completes .newMgpReady s fun t => t.sys.mgpAway = false ∧ t.upd.rolledBack = false ∧ t.upd.handoff = false := by
  refine ⟨_, (execNewMgpReady_eq h1 h2).trans (congrArg Host.Outcome.next (if_pos h3)), ?_⟩
  unfold State.oldReady
  extract_lets y s1 s2
  have e1 : s2.upd = s1.upd := by
    unfold s2
    rw [State.attn_upd, State.heldBusy_upd, State.mgpBack_upd]
  have e2 : s2.sys.mgpAway = false := by
    unfold s2
    rw [State.attn_sys, State.heldBusy_sys]
    exact s1.mgpBack_sets.1
  have e3 : s2.upd.handoff = false := congrArg Upd.handoff e1
  have e4 : s2.upd.rolledBack = false := congrArg Upd.rolledBack e1
  clear_value s2
  split
  · obtain ⟨-, e5⟩ := State.updEnd_record e3
    refine ⟨e5.trans e2, ?_⟩
    unfold State.updEnd
    split
    · exact ⟨e4, e3⟩
    · exact ⟨rfl, rfl⟩
  · exact ⟨e2, e4, e3⟩

/-! The saggar image. -/

/-- R470: of what is asked of it here, a reset of the saggar keeps the latch and its cause, and opens the coil paths. -/
theorem State.sagReset_sets (s : State) (f w : Nat) : (s.sagReset f w).sag.latch = s.sag.latch ∧ (s.sagReset f w).sag.cause = s.sag.cause ∧
    (s.sagReset f w).sag.coil = [false, false, false, false] := by
  unfold State.sagReset
  extract_lets
  split
  · exact ⟨rfl, rfl, rfl⟩
  · exact ⟨rfl, rfl, rfl⟩

theorem execSaggarReset_none (h : s.upd.sagReset = false) : exec .saggarReset s = .next s := (if_pos (by simp [h]) : execSaggarReset s = _)

theorem execSaggarReset_resets (h : s.upd.sagReset = true) : ∃ f w, exec .saggarReset s = .next { (s.isolate 0x17).sagReset f w with
    sag := { ((s.isolate 0x17).sagReset f w).sag with isolateOut := s.sag.isolateOut, demandOut := s.sag.demandOut },
    upd := { ((s.isolate 0x17).sagReset f w).upd with sagReset := false } } :=
  ⟨_, _, (if_neg (by simp [h]) : execSaggarReset s = _)⟩

theorem execSaggarReset_isolates (h : s.upd.sagReset = true) : Completes .saggarReset s fun t => t.sag.latch = true ∧ t.upd.sagReset = false ∧
    t.sag.cause = (if s.sag.latch then s.sag.cause else 0x17) ∧ t.sag.coil = [false, false, false, false] ∧
    t.sag.isolateOut = s.sag.isolateOut ∧ t.sag.demandOut = s.sag.demandOut := by
  obtain ⟨f, w, e⟩ := execSaggarReset_resets h
  obtain ⟨e1, e2, -⟩ := s.isolate_isolatedAs 0x17
  obtain ⟨e3, e4, e5⟩ := (s.isolate 0x17).sagReset_sets f w
  refine ⟨_, e, ?_⟩
  generalize (s.isolate 0x17).sagReset f w = t at e3 e4 e5 ⊢
  exact ⟨e3.trans e1, rfl, e4.trans e2, e5, rfl, rfl⟩

/-! The roll-out to the nodes. -/

theorem execDn8NodeStage_none {u : Fin 2} (h : s.upd.roll ≠ .staging ∨ s.sys.mgpAway = true ∨ s.prl.owner = false ∨ s.stagingOn u.val = true ∨
    s.hasFwSlot u.val = false ∨ (List.range 48).find? (fun n => (s.nl n).unit == u.val && s.rollWants n && !s.rollStaged n) = none) :
    exec (.dn8NodeStage u) s = .next s := by
  show execDn8NodeStage u s = _
  unfold execDn8NodeStage
  split
  · rfl
  next hg =>
    rcases h with h | h | h | h | h | h
    · exact absurd (by simp [h]) hg
    · exact absurd (by simp [h]) hg
    · exact absurd (by simp [h]) hg
    · exact absurd (by simp [h]) hg
    · exact absurd (by simp [h]) hg
    · rw [h]

theorem execDn8NodeStage_begins {u : Fin 2} {n : Nat} (h1 : s.upd.roll = .staging) (h2 : s.sys.mgpAway = false) (h3 : s.prl.owner = true)
    (h4 : s.stagingOn u.val = false) (h5 : s.hasFwSlot u.val = true)
    (h6 : (List.range 48).find? (fun n => (s.nl n).unit == u.val && s.rollWants n && !s.rollStaged n) = some n) :
    exec (.dn8NodeStage u) s = .next (s.queueCmd n 4 (s.beginParams n) none) := by
  show execDn8NodeStage u s = _
  unfold execDn8NodeStage
  rw [if_neg (by simp [h1, h2, h3, h4, h5]), h6]

theorem execDn8NodeActivate_none (h : s.upd.roll ≠ .staging ∨ s.sys.mgpAway = true ∨ s.prl.owner = false ∨ s.rollMay = false ∨
    (List.range 48).any (fun n => s.rollWants n && !s.rollStaged n) = true) : exec .dn8NodeActivate s = .next s := by
  refine (if_pos ?_ : execDn8NodeActivate s = _)
  rcases h with h | h | h | h | h
  · simp [h]
  · simp [h]
  · simp [h]
  · simp [h]
  · rw [h, Bool.or_true]

section
variable (h1 : s.upd.roll = .staging) (h2 : s.sys.mgpAway = false) (h3 : s.prl.owner = true) (h4 : s.rollMay = true)
  (h5 : (List.range 48).any (fun n => s.rollWants n && !s.rollStaged n) = false)
include h1 h2 h3 h4 h5

theorem execDn8NodeActivate_staged : exec .dn8NodeActivate s =
    match (List.range 48).find? s.rollWants with
    | none => .next s.rollCheck
    | some n => .next { s.queueCmd n 5 [1 - (s.nl n).bank] none with
        upd := { (s.queueCmd n 5 [1 - (s.nl n).bank] none).upd with
          roll := .activating n, rollBank := 1 - (s.nl n).bank, rollAcked := false, rollSeen := 0 } } :=
  (if_neg (by rw [h5]; simp [h1, h2, h3, h4]) : execDn8NodeActivate s = _)

theorem execDn8NodeActivate_next {n : Nat} (h6 : (List.range 48).find? s.rollWants = some n) : Completes .dn8NodeActivate s fun t =>
    t.upd.roll = .activating n ∧ t.upd.rollBank = 1 - (s.nl n).bank ∧ t.fnl = (s.queueCmd n 5 [1 - (s.nl n).bank] none).fnl := by
  have e := execDn8NodeActivate_staged h1 h2 h3 h4 h5
  rw [h6] at e
  exact ⟨_, e, rfl, rfl, rfl⟩

end

/-- R472: with no node left to stage or to activate the update ends. -/
theorem execDn8NodeActivate_ends (h1 : s.upd.roll = .staging) (h2 : s.sys.mgpAway = false) (h3 : s.prl.owner = true) (h4 : s.rollMay = true)
    (h5 : ∀ n < 48, s.rollWants n = false) : Completes .dn8NodeActivate s fun t => t.upd.roll = .none ∧ t.upd.phase = 0 := by
  have hw : (List.range 48).any s.rollWants = false := List.any_eq_false.2 fun n hn => by simp [h5 n (List.mem_range.1 hn)]
  have hs : (List.range 48).any (fun n => s.rollWants n && !s.rollStaged n) = false :=
    List.any_eq_false.2 fun n hn => by simp [h5 n (List.mem_range.1 hn)]
  have hf : (List.range 48).find? s.rollWants = none := List.find?_eq_none.2 fun n hn => by simp [h5 n (List.mem_range.1 hn)]
  have e := execDn8NodeActivate_staged h1 h2 h3 h4 hs
  rw [hf] at e
  have hr : s.rollCheck = s.updEnd := if_pos (by rw [hw]; simp [h1])
  obtain ⟨e1, e2, -⟩ := s.updEnd_sets
  exact ⟨_, e.trans (congrArg Host.Outcome.next hr), e2, e1⟩

end

/-- Settles O52: the activation by its service, each other event by whether it is in its turn. -/
theorem updatesActivateRollBackAndRollOut : Obligations.UpdatesActivateRollBackAndRollOut := by
  intro s c p
  refine ⟨State.notServed_of_serve execCmdUpdateActivate_serve, execCmdUpdateActivate_barred, execCmdUpdateActivate_digest,
    fun h h2 h3 => ⟨_, execCmdUpdateActivate_goes h h2 h3, s.activated_sets c⟩, execLoaderCopyDone_none,
    fun h1 h2 h3 => (execLoaderCopyDone_good h1 h2).trans (if_neg ?_), fun h1 h2 h3 h4 => ⟨_, (execLoaderCopyDone_good h1 h2).trans
      (if_pos (by simp [h3, h4])), rfl, rfl, rfl⟩,
    fun h1 h2 h3 => (execLoaderCopyDone_wrong h1 h2).trans (congrArg Host.Outcome.next (if_neg (by simp [h3]))),
    fun h1 h2 h3 => (execLoaderCopyDone_wrong h1 h2).trans (congrArg Host.Outcome.next (if_pos h3)), ?_, execNewMgp_none,
    execNewMgpTimeout_eq, execNewMgpReady_new, execNewMgpReady_old, execSaggarReset_none, execSaggarReset_isolates,
    fun u => execDn8NodeStage_none, fun u n => execDn8NodeStage_begins, execDn8NodeActivate_none,
    fun n h1 h2 h3 h4 h5 => execDn8NodeActivate_next h1 h2 h3 h4 h5, execDn8NodeActivate_ends⟩
  · rcases h3 with h3 | h3 <;> simp [h3]
  · rw [State.rollBack_upd]
    exact ⟨rfl, rfl, rfl, rfl⟩

end Sys2Proof.Machine

/-! The spyhole monitor (19_spyhole_monitor.md): when a line is served, what the reads, the traces and the ends do, and the obligation. -/
namespace Sys2Proof.Machine

section
variable {s : State}

/-! When a line is served. -/

/-- R491: a line that the loader serves too runs with its session open. -/
theorem State.monitor_plain (f : State → Out) (h1 : s.sys.mgpAway = false) (h2 : s.sys.st ≠ .off) : s.monitor true f = f s.spyIn := by
  unfold State.monitor
  rw [if_neg (by simp [h1, h2])]
  exact if_neg (by simp)

/-- R491: the loader alone answers every other line STATE. -/
theorem State.monitor_loader (f : State → Out) (h1 : s.sys.mgpAway = false) (h2 : s.sys.st ≠ .off) (h3 : s.sys.loaderOnly = true) :
    s.monitor false f = .next (s.spyIn.spyErr "STATE") := by
  unfold State.monitor
  rw [if_neg (by simp [h1, h2])]
  exact if_pos (by simp [h3])

theorem State.spyWrite_away (f : State → Out) (h : s.sys.mgpAway = true ∨ s.sys.st = .off) : s.spyWrite f = .next s := State.monitor_away _ _ h

theorem State.spySafety_away (f : State → Out) (h : s.sys.mgpAway = true ∨ s.sys.st = .off) : s.spySafety f = .next s := State.spyWrite_away _ h

theorem State.spyWrite_loader (f : State → Out) (h1 : s.sys.mgpAway = false) (h2 : s.sys.st ≠ .off) (h3 : s.sys.loaderOnly = true) :
    s.spyWrite f = .next (s.spyIn.spyErr "STATE") := State.monitor_loader _ h1 h2 h3

theorem State.spySafety_loader (f : State → Out) (h1 : s.sys.mgpAway = false) (h2 : s.sys.st ≠ .off) (h3 : s.sys.loaderOnly = true) :
    s.spySafety f = .next (s.spyIn.spyErr "STATE") := State.spyWrite_loader _ h1 h2 h3

/-- R492: no line is answered while the MGP is away, or in OFF. -/
theorem execSpyUnknownLine_away (h : s.sys.mgpAway = true ∨ s.sys.st = .off) : exec .spyUnknownLine s = .next s :=
  (if_pos (by rcases h with h | h <;> simp [h]) : execSpyUnknownLine s = _)

theorem execSpyUnknownLine_syntax (h1 : s.sys.mgpAway = false) (h2 : s.sys.st ≠ .off) : exec .spyUnknownLine s = .next (s.spyErr "SYNTAX") :=
  (if_neg (by simp [h1, h2]) : execSpyUnknownLine s = _)

/-! Ctrl-C and bye. -/

theorem execSpyCtrlC_away (h : s.sys.mgpAway = true ∨ s.sys.st = .off) : exec .spyCtrlC s = .next s :=
  (if_pos (by rcases h with h | h <;> simp [h]) : execSpyCtrlC s = _)

theorem execSpyCtrlC_stops (h1 : s.sys.mgpAway = false) (h2 : s.sys.st ≠ .off) : Completes .spyCtrlC s fun t =>
    t.spy.status = "OK STOPPED" ∧ t.spy.ce = none ∧ t.fsq.traceArmed = false ∧ t.fsq.tracing = false ∧
      (t.spy.ceRecs = if s.spy.ce.isSome = true ∧ s.spy.ceFired = false then [] else s.spy.ceRecs) ∧ t.sag = s.sag := by
  refine ⟨_, (if_neg (by simp [h1, h2]) : execSpyCtrlC s = _), rfl, rfl, rfl, rfl, ?_, rfl⟩
  simp

theorem execSpyBye_ends (h1 : s.sys.mgpAway = false) (h2 : s.sys.st ≠ .off) : exec .spyBye s = .next s.spyIn.spyEnd :=
  (State.monitor_plain _ h1 h2 : execSpyBye s = _)

/-- R492: the end of a session ends a login of the spyhole, and no other. -/
theorem State.spyEnd_sag (s : State) : (∀ n, s.sag.login = some (n, .spyhole) → s.spyEnd.sag.login = none) ∧
    ((∀ n, s.sag.login ≠ some (n, .spyhole)) → s.spyEnd.sag = s.sag) := by
  unfold State.spyEnd
  extract_lets l
  refine ⟨fun n h => ?_, fun h => ?_⟩
  · show l = none
    unfold l
    rw [h]
  · have e : l = s.sag.login := by
      unfold l
      split
      next n h2 => exact absurd h2 (h n)
      · rfl
    show ({ s.sag with login := l } : Sag) = s.sag
    rw [e]

/-! r and health. -/

section
variable (h1 : s.sys.mgpAway = false) (h2 : s.sys.st ≠ .off)
include h1 h2

theorem execSpyR_count {a n : Nat} (h : n = 0 ∨ 64 < n) : exec (.spyR a n) s = .next (s.spyIn.spyErr "RANGE") :=
  (State.monitor_plain _ h1 h2 : execSpyR a n s = _).trans (if_pos h)

theorem execSpyR_address {a n : Nat} (h3 : 1 ≤ n) (h4 : n ≤ 64) (h5 : spyAddrBad a n = true) :
    exec (.spyR a n) s = .next (s.spyIn.spyErr "ADDR") :=
  (State.monitor_plain _ h1 h2 : execSpyR a n s = _).trans ((if_neg (by omega)).trans (if_pos h5))

theorem execSpyR_reads {a n : Nat} (h3 : 1 ≤ n) (h4 : n ≤ 64) (h5 : spyAddrBad a n = false) :
    exec (.spyR a n) s = .next ((s.spyIn.readRegs false a n).2.spyOut
      ((indexed (s.spyIn.readRegs false a n).1).map fun kv => hexOf 5 (a + 4 * kv.1) ++ ": " ++ hexOf 8 kv.2)) :=
  (State.monitor_plain _ h1 h2 : execSpyR a n s = _).trans ((if_neg (by omega)).trans (if_neg (by simp [h5])))

theorem execSpyHealth_prints : exec .spyHealth s = .next (s.spyIn.spyOut ["STATE " ++ hexOf 8 s.sys.st.code, "HEALTH_OWN " ++ hexOf 8 s.health,
    "HEALTH_PART " ++ hexOf 8 s.prl.healthPart, "DEG " ++ hexOf 8 s.degWord, "LOST " ++ hexOf 8 s.lostCount, "ISO " ++ hexOf 8 s.sag.cause]) :=
  (State.monitor_plain _ h1 h2 : execSpyHealth s = _)

end

/-! p, csm, log and keys; the traces; reset. -/

/-- R431: that a session is open changes no word of a phase, as a pilot shows it or not. -/
theorem State.spyIn_phaseWord (s : State) (p k : Nat) : s.spyIn.pilotView.phaseWord p k = s.pilotView.phaseWord p k := by
  have hv : s.spyIn.pilotView.phm = s.pilotView.phm ∧ s.spyIn.pilotView.ctl = s.pilotView.ctl := by
    have hs : s.spyIn.sys = s.sys := rfl
    have hp : s.spyIn.prl = s.prl := rfl
    unfold State.pilotView
    rw [hs, hp]
    split
    · split
      · exact ⟨rfl, rfl⟩
      · exact ⟨rfl, rfl⟩
    · exact ⟨rfl, rfl⟩
  obtain ⟨h1, h2⟩ := hv
  unfold State.phaseWord
  rw [h1, h2]

/-- R491: that a session is open changes no setting and no view. -/
theorem State.spyIn_readParam (s : State) (k : Nat) : s.spyIn.readParam k = s.readParam k := by
  have hn : s.spyIn.nodeView = s.nodeView := by
    unfold State.nodeView
    rfl
  have hp : s.spyIn.phaseView = s.phaseView := by
    have hm (p : Nat) : s.spyIn.tModel p = s.tModel p := rfl
    have ht : s.spyIn.thm = s.thm := rfl
    unfold State.phaseView
    simp only [State.spyIn_phaseWord, hm, ht]
  have hg : s.spyIn.groupView = s.groupView := by
    unfold State.groupView
    rfl
  have hs : s.spyIn.settingW = s.settingW := by
    unfold State.settingW
    rfl
  unfold State.readParam
  rw [hn, hp, hg, hs]

section
variable (h1 : s.sys.mgpAway = false) (h2 : s.sys.st ≠ .off) (h3 : s.sys.loaderOnly = false)
include h1 h2 h3

theorem execSpyP_range {i n : Nat} (h : n = 0 ∨ 64 < n ∨ 65536 < i + n ∨ ∃ k < n, Params.reserved (i + k) = true) :
    exec (.spyP i n) s = .next (s.spyIn.spyErr "RANGE") := by
  refine (State.monitor_ok _ _ h1 h2 h3 : execSpyP i n s = _).trans (if_pos (h.imp_right (Or.imp_right (Or.imp_right ?_))))
  rintro ⟨k, hk, hr⟩
  exact List.any_eq_true.2 ⟨i + k, List.mem_map.2 ⟨k, List.mem_range.2 hk, rfl⟩, hr⟩

theorem execSpyP_reads {i n : Nat} (h4 : 1 ≤ n) (h5 : n ≤ 64) (h6 : i + n ≤ 65536) (h7 : ∀ k, k < n → Params.reserved (i + k) = false) :
    exec (.spyP i n) s = .next (s.spyIn.spyOut ((List.range n).map fun k => toString (i + k) ++ ": " ++ hexOf 8 (s.readParam (i + k)))) := by
  have hr : ((List.range n).map (i + ·)).any Params.reserved = false := by
    refine List.any_eq_false.2 fun x hx => ?_
    obtain ⟨k, hk, rfl⟩ := List.mem_map.1 hx
    simp [h7 k (List.mem_range.1 hk)]
  refine (State.monitor_ok _ _ h1 h2 h3 : execSpyP i n s = _).trans ((if_neg ?_).trans ?_)
  · rw [hr]
    rintro (h | h | h | h)
    · exact absurd h (Nat.ne_of_gt h4)
    · exact absurd h5 (Nat.not_le.2 h)
    · exact absurd h6 (Nat.not_le.2 h)
    · exact absurd h (by decide)
  · simp only [List.map_map, Function.comp_def, State.spyIn_readParam]

theorem execSpyCsm_range {g n : Nat} (h : n = 0 ∨ 16 < n ∨ 384 < g + n) : exec (.spyCsm g n) s = .next (s.spyIn.spyErr "RANGE") :=
  (State.monitor_ok _ _ h1 h2 h3 : execSpyCsm g n s = _).trans (if_pos h)

theorem execSpyCsm_reads {g n : Nat} (h4 : 1 ≤ n) (h5 : n ≤ 16) (h6 : g + n ≤ 384) : Completes (.spyCsm g n) s fun t =>
    t.sys.accAbsent = (s.sys.accAbsent || !s.up 6) ∧
      t.spy.out = (List.range n).map (fun k => wordLine 16 (wordsOf 8 (s.bulkRecord (g + k) 0))) ∧ t.csm = s.csm := by
  refine ⟨_, (State.monitor_ok _ _ h1 h2 h3 : execSpyCsm g n s = _).trans (if_neg (by omega)), ?_⟩
  dsimp only
  have hu : s.spyIn.up 6 = s.up 6 := rfl
  rw [hu]
  cases s.up 6 with
  | true => exact ⟨(Bool.or_false _).symm, rfl, rfl⟩
  | false => exact ⟨(Bool.or_true _).symm, rfl, rfl⟩

theorem execSpyLog_range {i n : Nat} (h : n = 0 ∨ 31 < n ∨ 65536 ≤ i) : exec (.spyLog i n) s = .next (s.spyIn.spyErr "RANGE") :=
  (State.monitor_ok _ _ h1 h2 h3 : execSpyLog i n s = _).trans (if_pos h)

theorem execSpyLog_reads {i n : Nat} (h4 : 1 ≤ n) (h5 : n ≤ 31) (h6 : i < 65536) : exec (.spyLog i n) s = .next (s.spyIn.spyOut
    ((List.range n).map fun k => wordLine 8 (wordsOf 4 (s.slotBytes ((i + k) % 65536))))) :=
  (State.monitor_ok _ _ h1 h2 h3 : execSpyLog i n s = _).trans (if_neg (by omega))

theorem execSpyKeys_prints : exec .spyKeys s = .next (s.spyIn.spyOut
    ((match s.fnl.kL with | some k => ["K_L " ++ tagText (le4 (keyTag k))] | none => []) ++ ["EPOCH " ++ toString s.fnl.epoch])) :=
  (State.monitor_ok _ _ h1 h2 h3 : execSpyKeys s = _)

theorem execSpyTraceCe_arms (p : Fin 16) (g : CeTrig) : Completes (.spyTraceCe p g) s fun t => t.spy.ce = some (p.val, g) ∧
    t.spy.ceFired = decide (g = .now) ∧ t.spy.ceLeft = (if g = .now then 1024 else 0) ∧ t.spy.ceRecs = [] ∧ t = { s with spy := t.spy } :=
  ⟨_, (State.monitor_ok _ _ h1 h2 h3 : execSpyTraceCe p g s = _), rfl, rfl, rfl, rfl, rfl⟩

theorem execSpyTraceFsq_arms : Completes .spyTraceFsq s fun t => t.fsq = { s.fsq with traceArmed := true, tracing := false, trace := [] } ∧
    t = { s.spyIn with fsq := t.fsq } :=
  ⟨_, (State.monitor_ok _ _ h1 h2 h3 : execSpyTraceFsq s = _), rfl, rfl⟩

theorem execSpyReset_settled (h : s.settled = true) : exec .spyReset s =
    if s.mayReset then .next (s.spyIn.moduleReset 4) else .next (s.spyIn.spyErr "STATE") :=
  (State.monitor_ok _ _ h1 h2 h3 : execSpyReset s = _).trans (if_neg (by rw [show s.spyIn.settled = true from h]; decide))

theorem execSpyReset_waits (h : s.settled = false) : Completes .spyReset s fun t =>
    t.sys = { s.sys with events := s.sys.events ++ [.spyReset] } ∧ t.spy.status = "" ∧ t = { s with spy := t.spy, sys := t.sys } :=
  ⟨_, (State.monitor_ok _ _ h1 h2 h3 : execSpyReset s = _).trans (if_pos (by rw [show s.spyIn.settled = false from h]; rfl)), rfl, rfl, rfl⟩

theorem execSpyReset_resets (h : s.settled = true) (h4 : s.sys.st = .standby ∨ s.sys.st = .isolated ∨ s.sys.st = .pilot)
    (h5 : s.sys.boPhase = .none) : Completes .spyReset s fun t =>
      t.sys.st = .boot ∧ t.sys.resetCause = 4 ∧ t.sag.latch = s.sag.latch ∧ t.pending = s.pending := by
  have hm : s.mayReset = true := by
    unfold State.mayReset
    rcases h4 with h4 | h4 | h4 <;> simp [h4, h5]
  obtain ⟨e1, e2, e3, -, e4⟩ := s.spyIn.moduleReset_sets 4
  exact ⟨_, (execSpyReset_settled h1 h2 h3 h).trans (if_pos hm), e1, e2, e3, e4⟩

theorem execSpyReset_refused (h : s.settled = true)
    (h4 : s.sys.st ≠ .standby ∧ s.sys.st ≠ .isolated ∧ s.sys.st ≠ .pilot ∨ s.sys.boPhase ≠ .none) :
    exec .spyReset s = .next (s.spyIn.spyErr "STATE") := by
  refine (execSpyReset_settled h1 h2 h3 h).trans (if_neg ?_)
  unfold State.mayReset
  rcases h4 with ⟨h4, h5, h6⟩ | h4
  · simp [h4, h5, h6]
  · simp [h4]

end

end

/-- Settles O53: each line by whether it is served, and what it then prints. -/
theorem spyholeReadsTracesAndEnds : Obligations.SpyholeReadsTracesAndEnds := by
  intro s
  refine ⟨fun h a n w v l p g i => ?_, fun h1 h2 h3 a n w v g l p i => ?_, execSpyCtrlC_away, execSpyCtrlC_stops, execSpyUnknownLine_syntax,
    execSpyBye_ends, ⟨rfl, rfl, rfl, s.spyEnd_sag⟩, fun h1 h2 => ⟨fun a n => execSpyR_count h1 h2, fun a n => execSpyR_address h1 h2,
      fun a n => execSpyR_reads h1 h2, execSpyHealth_prints h1 h2⟩, fun h1 h2 h3 => ⟨fun i n h => ?_, fun i n k h4 h5 => ?_,
      fun i n => execSpyP_reads h1 h2 h3, fun g n => execSpyCsm_range h1 h2 h3, fun g n => execSpyCsm_reads h1 h2 h3,
      fun i n => execSpyLog_range h1 h2 h3, fun i n => execSpyLog_reads h1 h2 h3, fun k h => ?_, fun h => ?_,
      execSpyTraceCe_arms h1 h2 h3, execSpyTraceFsq_arms h1 h2 h3, execSpyReset_resets h1 h2 h3, execSpyReset_refused h1 h2 h3,
      execSpyReset_waits h1 h2 h3⟩⟩
  · exact ⟨(State.monitor_away _ _ h : execSpyR a n s = _), (State.monitor_away _ _ h : execSpyP a n s = _),
      (State.monitor_away _ _ h : execSpyCsm a n s = _), (State.monitor_away _ _ h : execSpyLog a n s = _),
      (State.monitor_away _ _ h : execSpyHealth s = _), (State.monitor_away _ _ h : execSpyKeys s = _),
      (State.spyWrite_away _ h : execSpyW a w v s = _), (State.spyWrite_away _ h : execSpyPw a w s = _),
      (State.spyWrite_away _ h : execSpyM g l s = _), (State.spySafety_away _ h : execSpySagLogin l s = _),
      (State.spySafety_away _ h : execSpySagStage a w s = _), (State.spySafety_away _ h : execSpySagCommit s = _),
      (State.spySafety_away _ h : execSpySagAbort s = _), (State.monitor_away _ _ h : execSpyReset s = _),
      (State.monitor_away _ _ h : execSpyBye s = _), execSpyUnknownLine_away h, (State.monitor_away _ _ h : execSpyTraceCe p i s = _),
      (State.monitor_away _ _ h : execSpyTraceFsq s = _)⟩
  · exact ⟨(State.monitor_loader _ h1 h2 h3 : execSpyP a n s = _), (State.monitor_loader _ h1 h2 h3 : execSpyCsm a n s = _),
      (State.monitor_loader _ h1 h2 h3 : execSpyLog a n s = _), (State.monitor_loader _ h1 h2 h3 : execSpyKeys s = _),
      (State.monitor_loader _ h1 h2 h3 : execSpyTraceCe p i s = _), (State.monitor_loader _ h1 h2 h3 : execSpyTraceFsq s = _),
      (State.monitor_loader _ h1 h2 h3 : execSpyReset s = _), (State.spyWrite_loader _ h1 h2 h3 : execSpyW a w v s = _),
      (State.spyWrite_loader _ h1 h2 h3 : execSpyPw a w s = _), (State.spyWrite_loader _ h1 h2 h3 : execSpyM g l s = _),
      (State.spySafety_loader _ h1 h2 h3 : execSpySagLogin l s = _), (State.spySafety_loader _ h1 h2 h3 : execSpySagStage a w s = _),
      (State.spySafety_loader _ h1 h2 h3 : execSpySagCommit s = _), (State.spySafety_loader _ h1 h2 h3 : execSpySagAbort s = _)⟩
  · exact execSpyP_range h1 h2 h3 (h.imp_right (Or.imp_right .inl))
  · exact execSpyP_range h1 h2 h3 (.inr (.inr (.inr ⟨k, h4, h5⟩)))
  · rw [execSpyKeys_prints h1 h2 h3, h] <;> rfl
  · rw [execSpyKeys_prints h1 h2 h3, h] <;> rfl

end Sys2Proof.Machine

/-! The writes of the spyhole monitor (19_spyhole_monitor.md): the write session, w, pw and m, the safety commands, and the obligation. -/
namespace Sys2Proof.Machine

section
variable {s : State}

/-! The write session. -/

theorem State.spyWrote_again (h : s.spy.wrote = true) : s.spyWrote = s := if_pos h

theorem State.spyWrote_stays (h : s.spy.wrote = false) (h2 : s.sys.st = .pilot ∨ s.sys.st = .maintenance) :
    s.spyWrote = { s with spy := { s.spy with wrote := true } } := (if_neg (by simp [h])).trans (if_pos h2)

theorem State.spyWrote_enters (h : s.spy.wrote = false) (h2 : s.sys.st ≠ .pilot) (h3 : s.sys.st ≠ .maintenance) (h4 : s.settled = true) :
    s.spyWrote = ({ s with spy := { s.spy with wrote := true } } : State).toMaintenance.moved :=
  (if_neg (by simp [h])).trans ((if_neg (not_or.2 ⟨h2, h3⟩)).trans (if_pos h4))

theorem State.spyWrote_waits (h : s.spy.wrote = false) (h2 : s.sys.st ≠ .pilot) (h3 : s.sys.st ≠ .maintenance) (h4 : s.settled = false) :
    s.spyWrote = ({ s with spy := { s.spy with wrote := true } } : State).post .spyFirstWrite :=
  (if_neg (by simp [h])).trans ((if_neg (not_or.2 ⟨h2, h3⟩)).trans
    (if_neg (by rw [show ({ s with spy := { s.spy with wrote := true } } : State).settled = false from h4]; decide)))

theorem State.toMaintenance_sys_rest (f : Sys → α) (hf : ∀ y a b c d, f { y with st := a, base := b, prev := c, lastReported := d } = f y)
    (s : State) : f s.toMaintenance.sys = f s.sys := by
  unfold State.toMaintenance
  split
  · rfl
  · exact s.enter_sys_rest f hf _ _

/-- R492: a write makes the session a write session, and leaves the saggar, the mailbox and the presence of the MGP. -/
theorem State.spyWrote_keeps (s : State) : s.spyWrote.spy.wrote = true ∧ s.spyWrote.sag = s.sag ∧ s.spyWrote.mbx = s.mbx ∧
    s.spyWrote.sys.mgpAway = s.sys.mgpAway := by
  by_cases h : s.spy.wrote = true
  · rw [State.spyWrote_again h]
    exact ⟨h, rfl, rfl, rfl⟩
  · rw [Bool.not_eq_true] at h
    by_cases h2 : s.sys.st = .pilot ∨ s.sys.st = .maintenance
    · rw [State.spyWrote_stays h h2]
      exact ⟨rfl, rfl, rfl, rfl⟩
    · obtain ⟨h2, h3⟩ := not_or.1 h2
      cases h4 : s.settled with
      | true =>
        rw [State.spyWrote_enters h h2 h3 h4, State.moved_spy, State.moved_sag, State.moved_mbx, State.moved_sys, State.toMaintenance_spy,
          State.toMaintenance_sag, State.toMaintenance_mbx]
        exact ⟨rfl, rfl, rfl, State.toMaintenance_sys_rest Sys.mgpAway (fun _ _ _ _ _ => rfl) _⟩
      | false =>
        rw [State.spyWrote_waits h h2 h3 h4]
        exact ⟨rfl, rfl, rfl, rfl⟩

/-! w, pw and m. -/

section
variable (h1 : s.sys.mgpAway = false) (h2 : s.sys.st ≠ .off) (h3 : s.sys.loaderOnly = false) (h4 : s.spyBarred = false)
include h1 h2 h3 h4

theorem execSpyW_address {a : Nat} (w v : Word) (h : spyAddrBad a 1 = true) : exec (.spyW a w v) s = .next (s.spyIn.spyErr "ADDR") :=
  (State.spyWrite_ok _ h1 h2 h3 h4 : execSpyW a w v s = _).trans (if_pos h)

theorem execSpyW_writes {a : Nat} {w v : Word} {r : State} (h : spyAddrBad a 1 = false)
    (h5 : ({ s.spyIn.spyWrote with sys := { s.spyIn.spyWrote.sys with accPilotWr := false } } : State).writeReg a w v .spyhole = .next r) :
    exec (.spyW a w v) s = if r.sys.accPilotWr = true then .next (({ s.spyIn with sys := { s.sys with accPilotWr := true } } : State).spyErr "PILOT")
      else .next (({ r with sys := { r.sys with accPilotWr := s.sys.accPilotWr } } : State).spyOut []) := by
  refine (State.spyWrite_ok _ h1 h2 h3 h4 : execSpyW a w v s = _).trans ((if_neg (by simp [h])).trans ?_)
  dsimp only
  rw [h5] <;> rfl

theorem execSpyW_stops {a : Nat} {w v : Word} {e : Fault} (h : spyAddrBad a 1 = false)
    (h5 : ({ s.spyIn.spyWrote with sys := { s.spyIn.spyWrote.sys with accPilotWr := false } } : State).writeReg a w v .spyhole = .fault e) :
    exec (.spyW a w v) s = .fault e := by
  refine (State.spyWrite_ok _ h1 h2 h3 h4 : execSpyW a w v s = _).trans ((if_neg (by simp [h])).trans ?_)
  dsimp only
  rw [h5] <;> rfl

theorem execSpyPw_safety {i k : Nat} (w : Word) (h : Params.safetyPos i = some k) : exec (.spyPw i w) s = .next (s.spyIn.spyErr "DENIED") :=
  (State.spyWrite_ok _ h1 h2 h3 h4 : execSpyPw i w s = _).trans (if_pos (by simp [h]))

theorem execSpyPw_range {i : Nat} (w : Word) (h : Params.safetyPos i = none) (h5 : 65536 ≤ i ∨ Params.reserved i = true) :
    exec (.spyPw i w) s = .next (s.spyIn.spyErr "RANGE") :=
  (State.spyWrite_ok _ h1 h2 h3 h4 : execSpyPw i w s = _).trans ((if_neg (by simp [h])).trans (if_pos h5))

/-- R493: a setting that is no safety parameter, at an index that there is. -/
theorem execSpyPw_index {i : Nat} (w : Word) (h : Params.safetyPos i = none) (h5 : i < 65536) (h6 : Params.reserved i = false) :
    exec (.spyPw i w) s = if s.sys.st = .pilot then .next (s.spyIn.spyErr (if pilotField i then "PILOT" else "STATE"))
      else match s.spyIn.spyWrote.writeSettings i [w.toNat] with
      | .ok t => .next (t.spyOut [])
      | .error e => .fault (.hostError e) :=
  (State.spyWrite_ok _ h1 h2 h3 h4 : execSpyPw i w s = _).trans ((if_neg (by simp [h])).trans (if_neg (fun hc =>
    hc.elim (fun h => absurd h5 (Nat.not_lt.2 h)) (fun h => absurd (h6.symm.trans h) (by decide)))))

theorem execSpyPw_pilot {i : Nat} (w : Word) (h : Params.safetyPos i = none) (h5 : i < 65536) (h6 : Params.reserved i = false)
    (h7 : s.sys.st = .pilot) : exec (.spyPw i w) s = .next (s.spyIn.spyErr (if pilotField i then "PILOT" else "STATE")) :=
  (execSpyPw_index h1 h2 h3 h4 w h h5 h6).trans (if_pos h7)

theorem execSpyPw_writes {i : Nat} {w : Word} {r : State} (h : Params.safetyPos i = none) (h5 : i < 65536) (h6 : Params.reserved i = false)
    (h7 : s.sys.st ≠ .pilot) (h8 : s.spyIn.spyWrote.writeSettings i [w.toNat] = .ok r) : exec (.spyPw i w) s = .next (r.spyOut []) := by
  refine (execSpyPw_index h1 h2 h3 h4 w h h5 h6).trans ((if_neg h7).trans ?_)
  rw [h8]

theorem execSpyPw_stops {i : Nat} {w : Word} {e : HostErr} (h : Params.safetyPos i = none) (h5 : i < 65536) (h6 : Params.reserved i = false)
    (h7 : s.sys.st ≠ .pilot) (h8 : s.spyIn.spyWrote.writeSettings i [w.toNat] = .error e) : exec (.spyPw i w) s = .fault (.hostError e) := by
  refine (execSpyPw_index h1 h2 h3 h4 w h h5 h6).trans ((if_neg h7).trans ?_)
  rw [h8]

theorem execSpyM_full (g : BitVec 16) (l : List Byte) (h : s.freeChan = none) : exec (.spyM g l) s = .next (s.spyIn.spyErr "CHAN_BUSY") := by
  refine (State.spyWrite_ok _ h1 h2 h3 h4 : execSpyM g l s = _).trans ?_
  rw [show s.spyIn.freeChan = none from h]

omit h1 h2 h3 h4 in
/-- R434: a doorbell on an open channel freezes its request as QUEUED, from where it came. -/
theorem State.ring_open {c : Nat} (src : Src) (h : (s.ch c).open = true) (h2 : s.mbx.long = false) (h3 : s.sys.mgpAway = false)
    (h4 : c < s.mbx.ch.length) : ((s.ring c src).ch c).st = .queued ∧ ((s.ring c src).ch c).src = src ∧ (s.ring c src).spy = s.spy := by
  have e : s.ring c src = s.accept c src := (if_neg (by simp [h])).trans (if_neg (by simp [h2, h3]))
  have hc : (s.accept c src).ch c = _ := State.modCh_ch (fun x => { x with
    st := .queued, src := src, req := some (requestOf x.reqBuf), outcome := none, wasRunning := false, reqBuf := withoutSecrets x.reqBuf }) h4
  rw [e, hc]
  exact ⟨rfl, rfl, rfl⟩

/-- R494: the state in which a message of the monitor rings its channel. -/
def State.spyMessage (s : State) (c : Nat) (b : List Byte) : State :=
  let t := s.modCh c (fun x => { x with reqBuf := memPutL x.reqBuf 0 (b.take 1024) })
  { t with spy := { t.spy with wait := some c } }

theorem execSpyM_rings {g : BitVec 16} {l : List Byte} {c : Nat} (h : s.freeChan = some c) (h5 : s.mbx.long = false) (h6 : c < s.mbx.ch.length) :
    Completes (.spyM g l) s fun t => (t.ch c).st = .queued ∧ (t.ch c).src = .spyhole ∧ t.spy.wait = some c ∧ t.spy.wrote = true := by
  have e : exec (.spyM g l) s = .next ((s.spyIn.spyWrote.spyMessage c
      (leBytes 2 g.toNat ++ leBytes 2 0x5350 ++ leBytes 2 l.length ++ leBytes 2 0 ++ l)).ring c .spyhole) := by
    refine (State.spyWrite_ok _ h1 h2 h3 h4 : execSpyM g l s = _).trans ?_
    rw [show s.spyIn.freeChan = some c from h] <;> rfl
  obtain ⟨k1, -, k3, k4⟩ := s.spyIn.spyWrote_keeps
  have ho : (s.ch c).open = true := List.find?_some (p := fun c => (s.ch c).open) h
  generalize s.spyIn.spyWrote = u at e k1 k3 k4
  generalize leBytes 2 g.toNat ++ leBytes 2 0x5350 ++ leBytes 2 l.length ++ leBytes 2 0 ++ l = b at e
  have hl : c < u.mbx.ch.length := by
    rw [k3]
    exact h6
  have hc : (u.spyMessage c b).ch c = { u.ch c with reqBuf := memPutL (u.ch c).reqBuf 0 (b.take 1024) } :=
    State.modCh_ch (fun x : Chan => { x with reqBuf := memPutL x.reqBuf 0 (b.take 1024) }) hl
  have hu : u.ch c = s.ch c := congrArg (fun m : Mbx => nth m.ch c {}) k3
  have h7 : ((u.spyMessage c b).ch c).open = true := by
    rw [hc, hu]
    exact ho
  obtain ⟨r1, r2, r3⟩ := State.ring_open (s := u.spyMessage c b) .spyhole h7 ((congrArg Mbx.long k3).trans h5) (k4.trans h1)
    (by unfold State.spyMessage State.modCh; simpa using hl)
  refine ⟨_, e, r1, r2, ?_⟩
  rw [r3]
  exact ⟨rfl, k1⟩

/-! The safety commands. -/

theorem State.spySafety_ok (f : State → Out) (h : s.safetyState = true) : s.spySafety f = f s.spyIn :=
  (State.spyWrite_ok _ h1 h2 h3 h4).trans (if_pos h)

omit h4 in
theorem State.spySafety_barred (f : State → Out) (h : s.spyBarred = true) : s.spySafety f = .next (s.spyIn.spyErr "STATE") :=
  State.spyWrite_barred _ h1 h2 h3 h

theorem State.spySafety_refused (f : State → Out) (h : s.safetyState = false) : s.spySafety f = .next (s.spyIn.spyErr "STATE") :=
  (State.spyWrite_ok _ h1 h2 h3 h4).trans (if_neg (by rw [show s.spyIn.safetyState = false from h]; decide))

variable (h5 : s.safetyState = true)
include h5

theorem execSpySagLogin_locked (l : List Byte) (h : s.sag.locked = true) : exec (.spySagLogin l) s = .next (s.spyIn.spyErr "LOCKED") :=
  (State.spySafety_ok h1 h2 h3 h4 _ h5 : execSpySagLogin l s = _).trans (if_pos h)

theorem execSpySagLogin_right {l : List Byte} (h : s.sag.locked = false) (h6 : s.sag.pwOk l = true) : Completes (.spySagLogin l) s fun t =>
    t.sag = { s.sag with login := some (4, .spyhole), staged := [], loginFail := 0 } ∧ t.spy.wrote = true ∧ t.spy.status = "OK" := by
  obtain ⟨k1, k2, -⟩ := s.spyIn.spyWrote_keeps
  refine ⟨_, (State.spySafety_ok h1 h2 h3 h4 _ h5 : execSpySagLogin l s = _).trans
    ((if_neg (by rw [show s.spyIn.sag.locked = false from h]; decide)).trans (if_pos h6)), ?_⟩
  generalize s.spyIn.spyWrote = u at k1 k2 ⊢
  exact ⟨congrArg (fun g : Sag => { g with login := some (4, .spyhole), staged := [], loginFail := 0 }) k2, k1, rfl⟩

theorem execSpySagLogin_wrong {l : List Byte} (h : s.sag.locked = false) (h6 : s.sag.pwOk l = false) : Completes (.spySagLogin l) s fun t =>
    t.spy.status = "E DENIED" ∧ t.sag.loginFail = incSat 8 s.sag.loginFail ∧ t.sag.login = s.sag.login ∧
      t.sag.locked = decide (5 ≤ incSat 8 s.sag.loginFail) := by
  obtain ⟨e1, e2, e3⟩ := s.spyIn.loginFails_sag 2
  exact ⟨_, (State.spySafety_ok h1 h2 h3 h4 _ h5 : execSpySagLogin l s = _).trans
    ((if_neg (by rw [show s.spyIn.sag.locked = false from h]; decide)).trans (if_neg (by rw [show s.spyIn.sag.pwOk l = false from h6]; decide))),
    rfl, e1, e3, e2⟩

theorem execSpySagCommit_denied (h : s.spyLoggedIn = false) : exec .spySagCommit s = .next (s.spyIn.spyErr "DENIED") :=
  (State.spySafety_ok h1 h2 h3 h4 _ h5 : execSpySagCommit s = _).trans (if_pos (by rw [show s.spyIn.spyLoggedIn = false from h]; rfl))

theorem execSpySagStage_denied (i : Nat) (w : Word) (h : s.spyLoggedIn = false) : exec (.spySagStage i w) s = .next (s.spyIn.spyErr "DENIED") :=
  (State.spySafety_ok h1 h2 h3 h4 _ h5 : execSpySagStage i w s = _).trans (if_pos (by rw [show s.spyIn.spyLoggedIn = false from h]; rfl))

theorem execSpySagStage_stages (i : Nat) (w : Word) (h : s.spyLoggedIn = true) : exec (.spySagStage i w) s =
    .next ((s.spyIn.spyWrote.stage [(i, settingVal i w.toNat)]).spyOut []) :=
  (State.spySafety_ok h1 h2 h3 h4 _ h5 : execSpySagStage i w s = _).trans (if_neg (by rw [show s.spyIn.spyLoggedIn = true from h]; decide))

theorem execSpySagCommit_barred {b : Nat × Nat} (h : s.spyLoggedIn = true) (h6 : s.commitBar = some b) : exec .spySagCommit s =
    .next (s.spyIn.spyErr (if b.1 = 6 then "RANGE" else "MBX LOG_FULL")) := by
  refine (State.spySafety_ok h1 h2 h3 h4 _ h5 : execSpySagCommit s = _).trans
    ((if_neg (by rw [show s.spyIn.spyLoggedIn = true from h]; decide)).trans ?_)
  rw [show s.spyIn.commitBar = some b from h6]

theorem execSpySagCommit_commits (h : s.spyLoggedIn = true) (h6 : s.commitBar = none) : exec .spySagCommit s =
    .next ((s.spyIn.spyWrote.cfgCommit 2).spyOut ["CLOG_SEQ " ++ hexOf 8 (s.spyIn.spyWrote.cfgCommit 2).sag.clogSeq,
      "CFG_CRC " ++ hexOf 8 (cfgCrc (s.spyIn.spyWrote.cfgCommit 2).sag.cfg)]) := by
  refine (State.spySafety_ok h1 h2 h3 h4 _ h5 : execSpySagCommit s = _).trans
    ((if_neg (by rw [show s.spyIn.spyLoggedIn = true from h]; decide)).trans ?_)
  rw [show s.spyIn.commitBar = none from h6]

/-- R356: a commit of the monitor puts the staged set in force. -/
theorem execSpySagCommit_sets (h : s.spyLoggedIn = true) (h6 : s.commitBar = none) : Completes .spySagCommit s fun t =>
    t.sag.cfg = s.stagedCfg ∧ t.sag.staged = [] ∧ t.sag.login = none ∧ t.sag.ilkDone = false ∧ t.sag.latch = s.sag.latch ∧
      t.spy.out = ["CLOG_SEQ " ++ hexOf 8 t.sag.clogSeq, "CFG_CRC " ++ hexOf 8 (cfgCrc t.sag.cfg)] := by
  have e := execSpySagCommit_commits h1 h2 h3 h4 h5 h h6
  obtain ⟨-, k2, -⟩ := s.spyIn.spyWrote_keeps
  generalize s.spyIn.spyWrote = u at e k2
  have hc : u.stagedCfg = s.stagedCfg := by
    unfold State.stagedCfg
    rw [k2]
    rfl
  have c1 : (u.cfgCommit 2).sag.cfg = u.committed.sag.cfg := State.cfgCommit_sag_keeps Sag.cfg (fun _ _ => rfl) (fun _ _ => rfl) u 2
  have c2 : (u.cfgCommit 2).sag.staged = u.committed.sag.staged := State.cfgCommit_sag_keeps Sag.staged (fun _ _ => rfl) (fun _ _ => rfl) u 2
  have c3 : (u.cfgCommit 2).sag.login = u.committed.sag.login := State.cfgCommit_sag_keeps Sag.login (fun _ _ => rfl) (fun _ _ => rfl) u 2
  have c4 : (u.cfgCommit 2).sag.ilkDone = u.committed.sag.ilkDone := State.cfgCommit_sag_keeps Sag.ilkDone (fun _ _ => rfl) (fun _ _ => rfl) u 2
  have c5 : (u.cfgCommit 2).sag.latch = u.sag.latch := State.cfgCommit_sag_keeps Sag.latch (fun _ _ => rfl) (fun _ _ => rfl) u 2
  exact ⟨_, e, c1.trans hc, c2, c3, c4, c5.trans (congrArg Sag.latch k2), rfl⟩

theorem execSpySagAbort_ends : Completes .spySagAbort s fun t => t.sag = { s.sag with login := none, staged := [] } ∧ t.spy.status = "OK" := by
  obtain ⟨-, k2, -⟩ := s.spyIn.spyWrote_keeps
  refine ⟨_, (State.spySafety_ok h1 h2 h3 h4 _ h5 : execSpySagAbort s = _), ?_⟩
  generalize s.spyIn.spyWrote = u at k2 ⊢
  exact ⟨congrArg (fun g : Sag => { g with staged := [], login := none }) k2, rfl⟩

end

end

/-- Settles O54: each write by whether it is barred, and by the write session that it opens. -/
theorem spyholeWritesOpenMaintenance : Obligations.SpyholeWritesOpenMaintenance := by
  intro s h1 h2 h3
  refine ⟨fun h a w v g l => ?_, ⟨s.spyWrote_keeps.1, s.spyWrote_keeps.2.1, State.spyWrote_again, fun h => ?_, fun h h4 h5 h6 => ?_,
      fun h h4 h5 h6 => ?_⟩, fun h4 => ⟨fun a w v => execSpyW_address h1 h2 h3 h4 w v, fun a w v r => execSpyW_writes h1 h2 h3 h4,
      fun a w v e => execSpyW_stops h1 h2 h3 h4, fun i w k => execSpyPw_safety h1 h2 h3 h4 w, fun i w => execSpyPw_range h1 h2 h3 h4 w,
      fun i w => execSpyPw_pilot h1 h2 h3 h4 w, fun i w r => execSpyPw_writes h1 h2 h3 h4, fun i w e => execSpyPw_stops h1 h2 h3 h4,
      execSpyM_full h1 h2 h3 h4, fun g l c => execSpyM_rings h1 h2 h3 h4, fun h5 => ⟨execSpySagLogin_locked h1 h2 h3 h4 h5,
        fun l => execSpySagLogin_right h1 h2 h3 h4 h5, fun l => execSpySagLogin_wrong h1 h2 h3 h4 h5,
        fun h i w => ⟨execSpySagCommit_denied h1 h2 h3 h4 h5 h, execSpySagStage_denied h1 h2 h3 h4 h5 i w h⟩,
        execSpySagStage_stages h1 h2 h3 h4 h5, fun b => execSpySagCommit_barred h1 h2 h3 h4 h5, execSpySagCommit_sets h1 h2 h3 h4 h5,
        execSpySagAbort_ends h1 h2 h3 h4 h5⟩, fun h5 l i w => ?_⟩⟩
  · exact ⟨(State.spyWrite_barred _ h1 h2 h3 h : execSpyW a w v s = _), (State.spyWrite_barred _ h1 h2 h3 h : execSpyPw a w s = _),
      (State.spyWrite_barred _ h1 h2 h3 h : execSpyM g l s = _), (State.spySafety_barred h1 h2 h3 _ h : execSpySagLogin l s = _),
      (State.spySafety_barred h1 h2 h3 _ h : execSpySagStage a w s = _), (State.spySafety_barred h1 h2 h3 _ h : execSpySagCommit s = _),
      (State.spySafety_barred h1 h2 h3 _ h : execSpySagAbort s = _)⟩
  · cases hw : s.spy.wrote with
    | true => rw [State.spyWrote_again hw]
    | false => rw [State.spyWrote_stays hw h]
  · rw [State.spyWrote_enters h h4 h5 h6, State.moved_sys]
    exact (State.toMaintenance_st _).trans (if_neg h4)
  · rw [State.spyWrote_waits h h4 h5 h6]
    exact ⟨rfl, rfl⟩
  · exact ⟨(State.spySafety_refused h1 h2 h3 h4 _ h5 : execSpySagLogin l s = _), (State.spySafety_refused h1 h2 h3 h4 _ h5 : execSpySagStage i w s = _),
      (State.spySafety_refused h1 h2 h3 h4 _ h5 : execSpySagCommit s = _), (State.spySafety_refused h1 h2 h3 h4 _ h5 : execSpySagAbort s = _)⟩

end Sys2Proof.Machine
